-- ==== Sys2Proof/Word.lean ====
section
/-! DEFINITION. The plainest types of the model: index types of dies, bays, ports and tables, the requester of a
register access, and the data that commands carry (images, frames, drive answers).  Nothing here has a meaning of
its own; spec/00 R7, R13 and the layouts named at each type. -/

set_option Elab.async false

namespace Sys2Proof

/-- A 32-bit register word (spec/00 R8). -/
abbrev Word := BitVec 32
/-- Channel die index 0-5. -/
abbrev Cd := Fin 6
/-- Bay 0-47 (spec/00, Names and numbering). -/
abbrev BayId := Fin 48
/-- Local die ID 0-7: PD 0, CD0-CD5 1-6, MD 7 (spec/00 R7). -/
abbrev DieId := Fin 8
/-- One 4 KiB logical block's contents (spec/00 R14), a number of 32,768 bits. -/
abbrev Block := BitVec 32768

/-- Who issues a register access: a local die and the world bit (spec/00 R13, spec/03 R79). -/
structure Req where
  die : DieId
  secure : Bool
  deriving DecidableEq, Repr

/-- Schedule entry (spec/03 R71); image and firmware entries share it. -/
structure SchedEntry where
  base : Nat := 0
  period : Nat := 0
  duration : Nat := 0
  kind : Nat := 0
  flags : Nat := 0
  target : Nat := 0
  param : Nat := 0
  reserved : Nat := 0
  deriving DecidableEq, Repr

/-- A time source of the image's list: kind 1 PTP, 2 1PPS, 3 Partner (spec/04 R93). -/
structure TimeSource where
  kind : Nat := 1
  port : Nat := 0
  todPort : Nat := 0
  deriving DecidableEq, Repr

/-- Ports entry (spec/04 R94). -/
structure PortEntry where
  port : Nat := 0
  speed : Nat := 0
  flags : Nat := 0
  rdmaMtu : Nat := 1024
  maxFrame : Nat := 1518
  mac : Nat := 0
  vlan : Nat := 0
  ipv4 : Nat := 0
  ipv6 : Nat := 0
  prefix4 : Nat := 0
  prefix6 : Nat := 0
  defaultPcp : Nat := 0
  deriving DecidableEq, Repr

/-- Policers entry (spec/04 R95). -/
structure PolicerEntry where
  id : Nat := 0
  algorithm : Nat := 0
  flags : Nat := 0
  cir : Nat := 1
  eir : Nat := 0
  cbs : Nat := 1518
  ebs : Nat := 0
  deriving DecidableEq, Repr

/-- Scheduler entry (spec/04 R95). -/
structure SchedNode where
  id : Nat := 0
  level : Nat := 0
  priority : Nat := 0
  parent : Nat := 0
  weight : Nat := 1
  shaper : Nat := 0
  burstKib : Nat := 1
  deriving DecidableEq, Repr

/-- One gate list entry (spec/04 R95). -/
structure GateEntry where
  mask : Nat := 0
  hold : Bool := false
  interval : Nat := 100
  deriving DecidableEq, Repr

/-- A gate list record (spec/04 R95). -/
structure GateList where
  port : Nat := 0
  list : Nat := 0
  cycle : Nat := 1000
  entries : List GateEntry := []
  deriving DecidableEq, Repr

/-- Hosts entry (spec/04 R96); 0xFFFF in policer or node means none. -/
structure HostEntry where
  id : Nat := 0
  flags : Nat := 0
  maxConn : Nat := 1
  policer : Nat := 0xFFFF
  node : Nat := 0xFFFF
  srcIpv6 : Nat := 0
  hostnqn : Nat := 1
  deriving DecidableEq, Repr

/-- Namespaces entry (spec/04 R96). -/
structure NsEntry where
  nsid : Nat := 1
  channel : Nat := 0
  group : Nat := 0
  flags : Nat := 0
  keySlot : Nat := 0
  size : Nat := 1
  offset : Nat := 0
  nguid : Nat := 1
  eui64 : Nat := 1
  anagrp : Nat := 1
  deriving DecidableEq, Repr

/-- Access entry (spec/04 R96). -/
structure AccessEntry where
  host : Nat := 0
  nsid : Nat := 1
  rights : Nat := 0
  deriving DecidableEq, Repr

/-- Groups entry (spec/04 R97). -/
structure GroupEntry where
  channel : Nat := 0
  group : Nat := 0
  layout : Nat := 1
  k : Nat := 1
  stripLog2 : Nat := 16
  flags : Nat := 3
  spareMask : Nat := 0
  members : List Nat := []
  maxResidence : Nat := 2000
  targetPct : Nat := 80
  deriving DecidableEq, Repr

/-- Background entry, a share profile (spec/04 R98). -/
structure Profile where
  id : Nat := 0
  patrol : Nat := 2
  spongeScrub : Nat := 1
  rebuild : Nat := 20
  reshape : Nat := 10
  telemetry : Nat := 1
  recal : Nat := 1
  fgFloor : Nat := 50
  deriving DecidableEq, Repr

/-- World regions entry (spec/04 R98). -/
structure WorldRegion where
  die : Nat := 0
  index : Nat := 0
  secure : Bool := false
  valid : Bool := true
  readOnly : Bool := false
  base4k : Nat := 0
  size4k : Nat := 1
  deriving DecidableEq, Repr

/-- Endpoint entry (spec/04 R98). -/
structure EpEntry where
  fn : Nat := 0
  enabled : Bool := false
  host : Nat := 0
  deriving DecidableEq, Repr

/-- The fields of the Package section (spec/04 R93). -/
structure PkgSection where
  channelEnable : Nat := 0x3F
  flags : Nat := 1
  bringupMs : Nat := 10000
  drainMs : Nat := 10000
  pairingWaitMs : Nat := 30000
  chanRecoveryMs : Nat := 500
  mgmtA : Nat := 0
  mgmtB : Nat := 0
  mgmtGateway : Nat := 0
  mgmtPrefix : Nat := 24
  deriving DecidableEq, Repr

/-- The fields of the Time section (spec/04 R93). -/
structure TimeSection where
  profile : Nat := 0
  domain : Nat := 0
  clockType : Nat := 0
  sources : List TimeSource := [{}]
  lockThr : Nat := 100
  freerunThr : Nat := 100
  holdRate : Nat := 100000
  holdRate10m : Nat := 1000
  stepThr : Nat := 10
  ppsFlags : Nat := 0
  slewPpm : Nat := 100
  asym : Nat := 50
  utcFallback : Nat := 37
  announceTimeout : Nat := 3
  ppsInDelay : Int := 0
  ppsOutWidth : Nat := 100
  logSync : Int := -4
  logDelay : Int := -4
  logAnnounce : Int := 0
  unrefStart : Bool := false
  firstLockWait : Nat := 60
  masterPorts : Nat := 0
  deriving DecidableEq, Repr

/-- The fields of the Lease and Security sections (spec/04 R93, R98). -/
structure LeaseSection where
  durationMs : Nat := 1000
  renewMs : Nat := 250
  hbIntervalUs : Nat := 100
  hbMiss : Nat := 8
  deriving DecidableEq, Repr

structure SecSection where
  debugPolicy : Nat := 0
  exportPaths : Nat := 0
  blockWorld : Nat := 0
  deriving DecidableEq, Repr

/-- Outcomes of the cryptographic and structural checks of an image that the model takes as facts about the bytes
(spec/04 R91 steps 1, 4, 5, 8, 9): header well formed, the two signatures, section structure and CRCs, reserved fields. -/
structure ImageFacts where
  headerOk : Bool := true
  ecdsaOk : Bool := true
  mldsaOk : Bool := true
  structureOk : Bool := true
  sectionsPresent : Bool := true
  reservedZero : Bool := true
  deriving DecidableEq, Repr

/-- A selector record (spec/04 R83, spec/19 R540) of one copy. -/
structure Selector where
  valid : Bool := false
  seq : Nat := 0
  current : Nat := 0
  staged : Bool := false
  epoch : Nat := 0
  curSeq : Nat := 0
  deriving DecidableEq, Repr

/-- What a PTP master announces of itself (spec/03 R60, R77). -/
structure Dataset where
  identity : Nat := 0
  clockClass : Nat := 248
  accuracy : Nat := 0
  variance : Nat := 0
  priority1 : Nat := 0
  priority2 : Nat := 0
  stepsRemoved : Nat := 0
  /-- currentUtcOffset, whether it is valid, the leap flags, and the TS64 that marks the end of a flagged UTC day (R77). -/
  utcValid : Bool := false
  utcOffset : Nat := 0
  leap59 : Bool := false
  leap61 : Bool := false
  dayEnd : Nat := 0
  deriving DecidableEq, Repr

/-- A received PTP message that the timing engine handles (spec/03 R58-R63, R77). -/
inductive PtpMsg where
  /-- An Announce of the selected master: its dataset, and what it says of UTC. -/
  | announce (m : Dataset)
  /-- A Sync (with its Follow_Up): the grandmaster's TAI measured for this instant. -/
  | sync (tai : Nat)
  /-- A message that uses a feature the device does not support. -/
  | unsupported
  deriving DecidableEq, Repr

/-- What a received frame is (spec/05 *Receive filter*); `toPort` says that its addresses are the port's. -/
inductive FrameKind where
  | ptp
  | ptpUnsupported
  | arp (toPort : Bool)
  | nd (toPort : Bool)
  | roce (toPort : Bool) (qp : Nat)
  | macControl
  | verify
  | other
  deriving DecidableEq, Repr

/-- A received frame (spec/05 R125-R132): its length from destination address to FCS, its checks, its VLAN tag. -/
structure RxFrame where
  bytes : Nat
  fcsOk : Bool := true
  errBlock : Bool := false
  vid : Option Nat := none
  pcp : Nat := 0
  dei : Bool := false
  kind : FrameKind
  deriving DecidableEq, Repr

/-- Receive coefficients of a lane (spec/05 R119): CTLE code, DFE tap, the eight FFE registers. -/
structure LaneCoef where
  ctle : Nat := 0
  dfe : Nat := 0
  ffe : List Nat := []
  deriving DecidableEq, Repr

/-- F fields of a connection context, as firmware writes them before the command ready (spec/07 R174). -/
structure ConnF where
  remoteQpn : Nat := 0
  host : Nat := 0
  pd : Nat := 0
  flags : Nat := 0
  pmtu : Nat := 0
  paths : Nat := 0
  slotLimit : Nat := 0
  epsn : Nat := 0
  txNext : Nat := 0
  ackTimeout : Nat := 0
  retryCnt : Nat := 0
  rnrRetry : Nat := 0
  rnrTimer : Nat := 0
  tclass : Nat := 0
  port : Nat := 0
  udpSrc : List Nat := [0, 0, 0, 0]
  destMac : Nat := 0
  remoteIp : Nat := 0
  deriving DecidableEq, Repr

/-- F fields of a region entry (spec/07 R188). -/
structure RegionF where
  flags : Nat := 0
  pd : Nat := 0
  base : Nat := 0
  length : Nat := 0
  conn : Nat := 0
  deriving DecidableEq, Repr

/-- A work request of a chain, as read from the stack (spec/07 *Work request*). -/
structure WorkReq where
  opcode : Nat := 2
  flags : Nat := 1
  reserved : Nat := 0
  length : Nat := 16
  localAddr : Nat := 0
  remoteVa : Nat := 0
  remoteKey : Nat := 0
  imm : Nat := 0
  deriving DecidableEq, Repr

/-- A chain's header, as read from the stack (spec/07 *Chain header*). -/
structure ChainHdr where
  armCount : Nat := 1
  flags : Nat := 0
  conn : Nat := 0
  kind0 : Nat := 1
  kind1 : Nat := 0
  doorbellKey : Nat := 0
  key0 : Nat := 0
  key1 : Nat := 0
  deriving DecidableEq, Repr

/-- A data block descriptor of a command (spec/08 R215): a keyed host buffer, or a push region's rkey and offset. -/
structure Sgl where
  kind : Nat := 0
  addr : Nat := 0
  length : Nat := 0
  key : Nat := 0
  deriving DecidableEq, Repr

/-- A command capsule (spec/08), its fields read out: `data` are in-capsule blocks. -/
structure Capsule where
  opcode : Nat := 0
  cid : Nat := 0
  nsid : Nat := 0
  fuse : Nat := 0
  psdt : Nat := 1
  cdw10 : Nat := 0
  cdw11 : Nat := 0
  cdw12 : Nat := 0
  cdw13 : Nat := 0
  cdw14 : Nat := 0
  cdw15 : Nat := 0
  sgl : Sgl := {}
  more : List Sgl := []
  data : List Block := []
  info : List Nat := []
  deriving DecidableEq, Repr

/-- A superblock copy as read (spec/13 R376), without its CRC: whether its magic and its CRC are right. -/
structure SbCopy where
  magic : Bool := false
  crcOk : Bool := false
  role : Nat := 1
  channel : Nat := 0
  group : Nat := 0
  position : Nat := 0
  generation : Nat := 0
  ownerId : Nat := 0
  shelf : Nat := 0
  lastReplay : Nat := 0
  deriving DecidableEq, Repr

/-- What Identify and the band reads of a drive gave (spec/13 R370, R376): each requirement in the order of the table. -/
structure DriveIdent where
  nvm2 : Bool := true
  format : Bool := true
  blocks : Nat := 1875000000
  reservations : Bool := true
  dualPort : Bool := true
  queues : Bool := true
  copy0 : SbCopy := {}
  copy1 : SbCopy := {}
  deriving DecidableEq, Repr

/-- What a SMART / Health Information log page gives (spec/13 R386). -/
structure Smart where
  critical : BitVec 8 := 0
  used : BitVec 8 := 0
  spare : BitVec 8 := 100
  thresh : BitVec 8 := 10
  tempK : BitVec 16 := 300
  deriving DecidableEq, Repr

/-- A Crumb (spec/10 R292), without its CRC. -/
structure Crumb where
  kind : Nat
  flags : Nat := 0
  host : Nat := 0xFFFF
  nsid : Nat := 0
  seq : Nat := 0
  e : Nat := 0
  stamp : Nat := 0
  slba : Nat := 0
  nlb : Nat := 0
  conn : Nat := 0
  opcode : Nat := 0
  msn : Nat := 0
  group : Nat := 0
  cid : Nat := 0
  aux : Nat := 0
  aux2 : Nat := 0
  deriving DecidableEq, Repr

/-- A group record as loaded (spec/11 R328, R329): the header in force, the regions marked, the pages no copy holds, the bad
units and whether any copy holds them valid. -/
structure GroupRec where
  group : Nat := 0
  layout : Nat := 1
  k : Nat := 1
  stripLog2 : Nat := 16
  generation : Nat := 1
  states : List Nat := []
  serving : List Nat := []
  cursor : Nat := 0
  joins : List (Nat × Nat) := []
  resync : Bool := false
  full : Bool := false
  part : Bool := false
  lap2 : Bool := false
  marked : List Nat := []
  lostPages : List Nat := []
  bad : List (Nat × Nat × Nat × Nat) := []
  badOk : Bool := true
  deriving DecidableEq, Repr

/-- A reservation record as loaded (spec/13 R380). -/
structure ResvRec where
  nsid : Nat := 1
  rtype : Nat := 0
  holder : Option Nat := none
  generation : Nat := 0
  prgen : Nat := 0
  regs : List (Nat × Nat) := []
  deriving DecidableEq, Repr

/-- A deferred range as loaded (spec/13 R381). -/
structure RangeRec where
  nsid : Nat := 1
  cause : Nat := 1
  whole : Bool := false
  slba : Nat := 0
  nlb : Nat := 1
  from_ : Nat := 0
  to_ : Nat := 0
  detect : Nat := 0
  logSeq : Nat := 0
  deriving DecidableEq, Repr

/-- A progress record as loaded (spec/09 R272); nsid 0 for the Sanitize record. -/
structure ProgressRec where
  nsid : Nat := 0
  action : Nat := 0
  phase : Nat := 2
  host : Nat := 0
  start : Nat := 0
  cursor : Nat := 0
  total : Nat := 0
  generation : Nat := 0
  cid : Nat := 0
  deriving DecidableEq, Repr

/-- A reshape record as loaded (spec/12 R359), with the backup copy whose CRC matches, if any. -/
structure ReshapeRec where
  group : Nat := 0
  kind : Nat := 2
  phase : Nat := 2
  inflight : Bool := false
  cancel : Bool := false
  held : Bool := false
  generation : Nat := 0
  cursor : Nat := 0
  end_ : Nat := 0
  stepBlocks : Nat := 0
  stripes : Nat := 0
  src : GroupEntry := {}
  dst : GroupEntry := {}
  startTs : Nat := 0
  backup : Option (List Block) := none
  deriving DecidableEq, Repr

/-- A data descriptor of a flush record (spec/16, *Data descriptor*) with the block it names. -/
structure FlushDesc where
  nsid : Nat := 1
  lba : Nat := 0
  e : Nat := 0
  seq : Nat := 0
  conn : Nat := 0
  poisoned : Bool := false
  msn : Nat := 0
  data : Block := 0
  deriving DecidableEq, Repr

/-- A flush record with a good hdr_crc (spec/16 R465), and what its payload holds once opened. -/
structure FlushRecord where
  kind : Nat := 1
  recSeq : Nat := 1
  seqA : Nat := 0
  seqB : Nat := 0
  eMax : Nat := 0
  members : Nat := 0
  flags : Nat := 0
  crumbs : List Crumb := []
  descs : List FlushDesc := []
  deriving DecidableEq, Repr

/-- A flush set that is Open or Closed: its epoch and its records as found on the members. -/
structure FlushSet where
  epoch : Nat := 0
  records : List FlushRecord := []
  deriving DecidableEq, Repr

/-- A flush member header (spec/16 R464): generation, next_lba, and the sets: epoch, start, blocks, state. -/
structure FlushHeader where
  bay : Nat := 0
  generation : Nat := 0
  next : Nat := 32770
  sets : List (Nat × Nat × Nat × Nat) := []
  deriving DecidableEq, Repr

/-- What the metadata bands of a channel's drives gave at channel start. -/
structure ChannelBand where
  groups : List GroupRec := []
  resv : List ResvRec := []
  ranges : List RangeRec := []
  /-- A page of the deferred range table, or its header, is valid in no copy (spec/13 R381). -/
  rangesLost : Bool := false
  progress : List ProgressRec := []
  reshapes : List ReshapeRec := []
  headers : List FlushHeader := []
  sets : List FlushSet := []
  deriving DecidableEq, Repr

/-- A heartbeat's payload (spec/15, *Heartbeat payload*); `delta` and `rtt` are computed at arrival. -/
structure Heartbeat where
  tTx : Nat := 0
  echoTx : Nat := 0
  echoHold : Nat := 0
  ePkg : Nat := 0
  mode : BitVec 4 := 4
  flags : BitVec 8 := 0
  failed : BitVec 6 := 0
  servo : BitVec 4 := 0
  present : Nat := 0
  held : Nat := 0
  anaCount : Nat := 0
  /-- The grandmaster's identity, class, accuracy, variance and priorities, and stepsRemoved. -/
  gm : Dataset := {}
  /-- The partner's own time source is Partner, as its TIM.STATE shows over the pair ring (spec/03, *Time sources*). -/
  srcPartner : Bool := false
  deriving DecidableEq, Repr

/-- A hello's contents (spec/15 R424). -/
structure Hello where
  partCode : Nat := 0x4806
  role : Nat := 0
  package : Nat := 0
  digest : Nat := 0
  seq : Nat := 0
  fw : Nat := 0
  floor : Nat := 0
  mode : Nat := 4
  deriving DecidableEq, Repr

/-- A received RoCEv2 packet of a connection (spec/07 R169, R176, R181). -/
structure RdmaPkt where
  qp : Nat
  opcode : Nat
  psn : Nat
  ackReq : Bool := false
  ce : Bool := false
  icrcOk : Bool := true
  errMark : Bool := false
  tver : Nat := 0
  pkey : Nat := 0xFFFF
  bytes : Nat := 0
  /-- RETH or placement header. -/
  va : Nat := 0
  rkey : Nat := 0
  index : Nat := 0
  lastIndex : Nat := 0
  relaxed : Bool := false
  final : Bool := false
  imm : Nat := 0
  /-- The command capsule that a SEND's message carries. -/
  capsule : Capsule := {}
  deriving DecidableEq, Repr

/-- A configuration image (spec/04 R87-R98), its sections read out; `digest` stands for SHA-384 of the signed region. -/
structure Image where
  facts : ImageFacts := {}
  digest : Nat := 0
  /-- Digests of the two public keys in its signature block. -/
  keyDigest : Nat := 0
  partCode : Nat := 0x4806
  minStepping : Nat := 0x10
  flags : Nat := 3
  seq : Nat := 1
  epoch : Nat := 0
  fwMin : Nat := 0
  fwMax : Nat := 0xFFFFFFFF
  pkg : PkgSection := {}
  time : TimeSection := {}
  schedule : List SchedEntry := []
  ports : List PortEntry := []
  policers : List PolicerEntry := []
  nodes : List SchedNode := []
  gates : List GateList := []
  hosts : List HostEntry := []
  namespaces : List NsEntry := []
  access : List AccessEntry := []
  groups : List GroupEntry := []
  lease : LeaseSection := {}
  background : List Profile := []
  regions : List WorldRegion := []
  security : SecSection := {}
  endpoints : List EpEntry := []
  deriving DecidableEq, Repr

/-- The board description (spec/19 R542). -/
structure BoardDesc where
  magicOk : Bool := true
  thermMode : Nat := 0
  staggerMax : Nat := 4
  slewDv : Nat := 30
  holdupMs : Nat := 0
  driveMbps : Nat := 0
  rsUohm : Nat := 1000
  ilim10ma : Nat := 600
  tripMa : Nat := 15000
  pFold : Nat := 60
  theta : Nat := 20
  tauMs : Nat := 50
  fetMaxC : Nat := 150
  coolHystC : Nat := 20
  ambientC : Nat := 55
  thermMaxC : Nat := 110
  rampLimitMs : Nat := 50
  limitMs : Nat := 10
  gnrUs : Nat := 500
  v12ThrMv : Nat := 10800
  warnEnables : Nat := 3
  thermWarnC : Nat := 95
  retriesMax : Nat := 3
  epwLeadMs : Nat := 5
  backoffMs : Nat := 1000
  reseatMinMs : Nat := 1000
  seatDebMs : Nat := 100
  clearS : Nat := 60
  deriving DecidableEq, Repr

/-- A firmware image (spec/19 R541), with the outcomes of its structural and cryptographic checks: the fields of its header, the
digest of its owner keys, the digests of its components 0x01 to 0x05. -/
structure FwImage where
  headerOk : Bool := true
  partMask : Nat := 15
  minStepping : Nat := 0x10
  release : Nat := 0
  pairFloor : Nat := 0
  securityVersion : Nat := 1
  vendorKeysOk : Bool := true
  vendorEcdsa : Bool := true
  vendorMldsa : Bool := true
  ownerKeys : Nat := 0
  ownerEcdsa : Bool := true
  ownerMldsa : Bool := true
  componentsOk : Bool := true
  digests : List Nat := []
  board : BoardDesc := {}
  deriving DecidableEq, Repr

/-- A firmware selector copy (spec/19 R540). -/
structure FwSelector where
  valid : Bool := false
  seq : Nat := 0
  current : Nat := 0
  trial : Bool := false
  attempts : Nat := 0
  currentRelease : Nat := 0
  trialRelease : Nat := 0
  deriving DecidableEq, Repr

end Sys2Proof
end

