-- ==== Sys2Proof/Syntax.lean ====
section
/-! DEFINITION. The commands of spec/opcode_table.json, one constructor for each row, in the table's order.
The operands are what the event or access carries that the state does not hold. -/

namespace Sys2Proof

/-- The commands of the package (spec/opcode_table.json). -/
inductive Instr where
  /-- REGISTER_WRITE (R11): A write to a register field that has no row of its own takes effect according to its access code, world and range. -/
  | registerWrite (q : Req) (addr : BitVec 40) (full : Bool) (v : Word)
  /-- LO_REGISTER_READ (R79): A read of a _LO register latches the upper half of its _HI partner for the requester. -/
  | loRegisterRead (q : Req) (addr : BitVec 40) (full : Bool)
  /-- LATTICE_MESSAGE_FORWARD (R22): A Lattice message passes one hop, with class priority deciding among competing messages. -/
  | latticeMessageForward (hop : DieId) (join : Option (Fin 5)) (dst : DieId) (tag : Nat) (secure : Bool)
  /-- RING_MARKER (R24): Every 1 µs the MD sends a marker round the ring and records the round-trip time. -/
  | ringMarker (rtt : Option (BitVec 32))
  /-- MODE_TRIGGER_EVALUATE (R32): The mode controller evaluates the latched triggers and takes the first that applies. -/
  | modeTriggerEvaluate (held : BitVec 48)
  /-- QUARANTINE_ROOT_PORT_HOLD (R43): The root ports are held once every lease release write has ended, or 100 ms after entry to Quarantine. -/
  | quarantineRootPortHold
  /-- MODE_TIME_LIMIT_EXPIRY (R34): The Supervise, Proofing or Bring-up time limit expires and raises the trigger mode time limit exceeded. -/
  | modeTimeLimitExpiry
  /-- BRINGUP_WORK_COMPLETE (R34): Domains are released, links trained, the configuration applied and the bands read, so the Bring-up limit stops. -/
  | bringupWorkComplete
  /-- MAINTENANCE_DRAIN_LIMIT_EXPIRY (R36): At the drain limit, commands still in flight are aborted under R239. -/
  | maintenanceDrainLimitExpiry
  /-- MAINTENANCE_DRAIN_COMPLETE (R36): The drain ends when all dirty data is destaged; the data path is fenced and Maintenance is entered. -/
  | maintenanceDrainComplete
  /-- MODE_CMD_ENTER_MAINTENANCE (R538): MODE_CMD op 1 requests entry to Maintenance as a command trigger. -/
  | modeCmdEnterMaintenance (q : Req)
  /-- MODE_CMD_RELEASE_MAINTENANCE (R538): MODE_CMD op 2 requests release from Maintenance as a command trigger. -/
  | modeCmdReleaseMaintenance (q : Req)
  /-- PAIR_B_GATE_WAIT_EXPIRY (R40): 2 s after entering Bring-up, a Pair-B package takes gate drive of the bays that are still undriven. -/
  | pairBGateWaitExpiry (held : BitVec 48)
  /-- PAIRING_WAIT_EXPIRY (R35): If no partner has been seen within the pairing wait, the package acquires leases alone. -/
  | pairingWaitExpiry
  /-- CHANNEL_RECOVERY_LIMIT_EXPIRY (R49): A channel die that has not returned from reset within the recovery limit becomes Failed. -/
  | channelRecoveryLimitExpiry (c : Cd)
  /-- CHANNEL_DISABLE_COMMAND (R50): A secure-world command disables a channel die and starts its drain. -/
  | channelDisableCommand (c : Cd)
  /-- CHANNEL_DISABLE_DRAIN_COMPLETE (R50): After the destage and the superblock writes, the disabled channel becomes Failed. -/
  | channelDisableDrainComplete (c : Cd)
  /-- CHANNEL_DISABLE_DRAIN_LIMIT_EXPIRY (R239): At the drain limit of a channel disable, the commands still in flight are aborted. -/
  | channelDisableDrainLimitExpiry (c : Cd)
  /-- CHANNEL_FAIL (R50): A channel die fails without draining; it becomes Failed and its commands complete as unavailable. -/
  | channelFail (c : Cd)
  /-- ERROR_BOUND_UPDATE (R54): Every 1 µs the PD recomputes E_pkg, and each die reports E_die. -/
  | errorBoundUpdate
  /-- PTP_MESSAGE_RECEIVED (R58): The timing engine receives a PTP message and the servo accepts or discards the measurement. -/
  | ptpMessageReceived (port : Fin 32) (m : PtpMsg)
  /-- SOURCE_VALIDITY_TIMEOUT (R56): The Announce or Sync receipt timeout expires and the source becomes invalid. -/
  | sourceValidityTimeout (port : Fin 32) (announce : Bool) (sync : Bool) (pps : Bool)
  /-- PPS_INPUT_EDGE (R61): A 1PPS input edge is timestamped, corrected by the cable delay and passed to the servo. -/
  | ppsInputEdge (at_ : Nat) (sec : Nat)
  /-- REF10M_CHECK (R57): Every 1 ms the 10 MHz period is measured and its validity decided. -/
  | ref10mCheck (missing : Bool) (ppm : Int)
  /-- FIRST_LOCK_WAIT_EXPIRY (R66): The first-lock wait expires with no valid source, and an unreferenced start may begin. -/
  | firstLockWaitExpiry
  /-- TS64_SEED (R66): Once every present drive has been read, the MD seeds TS64 from the latest lease expiry and enters Free-run. -/
  | ts64Seed (expiries : List Nat)
  /-- TIME_DISTRIBUTION_SEND (R67): Every 1 µs the PD sends a time distribution message round the ring. -/
  | timeDistributionSend
  /-- TIME_DISTRIBUTION_RECEIVE (R67): A die corrects its counter from the carried TS64, residence and hop delays. -/
  | timeDistributionReceive (die : DieId) (residence : Nat)
  /-- TIME_MESSAGE_LOSS (R68): A die that receives no time message for 8 µs is on a broken ring. -/
  | timeMessageLoss (die : DieId)
  /-- TIME_DISAGREE_EPISODE_END (R69): A disagreement episode ends after 1 s with Δ back within the bound. -/
  | timeDisagreeEpisodeEnd
  /-- SCHEDULE_ENTRY_FIRE (R73): A schedule entry fires, or opens its window, when the die's TS64 reaches the occurrence. -/
  | scheduleEntryFire (die : DieId) (idx : Fin 256)
  /-- SCHEDULE_WINDOW_CLOSE (R73): A window closes at f_n + duration_ns. -/
  | scheduleWindowClose (die : DieId) (idx : Fin 256)
  /-- TIM_SCHED_COMMIT (R75): Writing the commit replaces all 192 image entries at once. -/
  | timSchedCommit (q : Req) (die : DieId)
  /-- TIM_SCHED_WRITE (R655): A write to a schedule entry sets an image shadow, or a firmware timer checked whole at enable. -/
  | timSchedWrite (q : Req) (die : DieId) (idx : Fin 256) (k : Fin 8) (v : Word)
  /-- PPS_OUTPUT_PULSE (R61): The 1PPS output rises when TS64 mod 10⁹ is 0, if the servo state allows. -/
  | ppsOutputPulse
  /-- PPS_OUTPUT_WIDTH_END (R61): The 1PPS output falls after its configured width. -/
  | ppsOutputWidthEnd
  /-- UTC_LEAP_OFFSET_CHANGE (R77): The displayed UTC offset changes at the end of a flagged UTC day. -/
  | utcLeapOffsetChange
  /-- CONFIG_IMAGE_LOAD (R84): In Proofing the loader reads, validates and measures the current configuration slot. -/
  | configImageLoad (a : Option Image) (b : Option Image) (sel0 : Selector) (sel1 : Selector)
  /-- IMG_STAGE_START (R100): stage_start starts writing, reading back and validating the staged image. -/
  | imgStageStart (q : Req) (cancelToo : Bool)
  /-- IMG_STAGE_CANCEL (R101): stage_cancel cancels a pending staging within its allowed conditions. -/
  | imgStageCancel (q : Req)
  /-- STAGING_COMPLETE (R100): Staging ends: validation passes and the selector is written with staged set, or the staging is rejected. -/
  | stagingComplete (nvmOk : Bool)
  /-- STAGE_REPORT_RECEIVED (R102): The partner's staged digest and epoch arrive, and agreement may be reached. -/
  | stageReportReceived (digest : Nat) (epoch : Nat) (cancel : Option (BitVec 8))
  /-- STAGE_AGREEMENT_DEADLINE (R102): With no agreement by 1 s before the epoch, both packages cancel with code 0x0E. -/
  | stageAgreementDeadline
  /-- EPOCH_SWITCH (R103): At the epoch the banks flip, the selector and floor are written, reshapes start and restart_pending may be set. -/
  | epochSwitch
  /-- OLD_BANK_RELEASE (R104): A die drops its old bank once no command stamped before the epoch is still ahead of its access check. -/
  | oldBankRelease (die : DieId)
  /-- LANE_ACQUIRE_COMPLETE (R116): A lane finishes acquisition and enters Train (CR/KR) or Track (C2M). -/
  | laneAcquireComplete (lane : Fin 40) (snr : BitVec 10)
  /-- LANE_TRAINING_COMPLETE (R117): Link training completes and the lane enters Track. -/
  | laneTrainingComplete (lane : Fin 40) (taps : BitVec 30)
  /-- LANE_TRAINING_TIMEOUT (R117): Training exceeds train_limit_ms; the lane returns to Acquire and a log record is written. -/
  | laneTrainingTimeout (lane : Fin 40)
  /-- LANE_SIGNAL_LOSS (R116): Loss of signal or of CDR lock for 1 µs puts the lane in Fault and clears its freeze bits. -/
  | laneSignalLoss (lane : Fin 40)
  /-- LANE_FAULT_RECOVERY (R116): 10 µs after Fault the lane returns to Acquire. -/
  | laneFaultRecovery (lane : Fin 40)
  /-- LANE_UPDATE_BOUNDARY (R118): At each 1,024 ns boundary, adapted values, pending freezes, snaps and coefficient writes take effect. -/
  | laneUpdateBoundary (lane : Fin 40) (adapted : LaneCoef)
  /-- LANE_FREEZE_WRITE (R118): A write of the freeze bits in SDS.LANE_CTRL holds or releases parts of the receive equaliser. -/
  | laneFreezeWrite (q : Req) (lane : Fin 40) (ctle : Bool) (ffe : Bool) (dfe : Bool)
  /-- LANE_SNAP (R119): Writing snap captures the receive coefficients at the next update boundary. -/
  | laneSnap (q : Req) (lane : Fin 40)
  /-- LANE_RXEQ_WRITE (R119): A write of the receive coefficients replaces the held values in Frozen and is discarded otherwise. -/
  | laneRxeqWrite (q : Req) (lane : Fin 40) (ffe : Option (Fin 8)) (v : Word)
  /-- LANE_TXEQ_WRITE (R119): A write of the transmit taps takes effect on a C2M lane, or is discarded on a CR/KR lane. -/
  | laneTxeqWrite (q : Req) (lane : Fin 40) (v : BitVec 30)
  /-- SERDES_RECAL_LANE (R121): Within a recalibration window, one lane calibrates in 200 µs and the pointer advances. -/
  | serdesRecalLane (group : Fin 10)
  /-- PORT_LINK_UP (R122): After 2 ms with all Up conditions met, the logical port becomes Up. -/
  | portLinkUp (port : Fin 32)
  /-- PORT_LINK_FAULT (R122): A lane leaves Track or Frozen, or alignment is lost, and the port leaves Up. -/
  | portLinkFault (port : Fin 32) (sending : Bool)
  /-- REMOTE_FAULT_RECEIVED (R122): Remote fault signalling puts the port in Remote fault. -/
  | remoteFaultReceived (port : Fin 32) (ends : Bool) (sending : Bool)
  /-- FEC_DEGRADE_WINDOW_END (R115): At the end of each 2²⁰-codeword window, fec_degraded is set or cleared. -/
  | fecDegradeWindowEnd (port : Fin 32) (corrected : Nat) (uncorrected : Nat) (symbols : List Nat)
  /-- FRAME_RECEIVED (R125): The MAC checks, filters and counts a received frame and delivers or answers it. -/
  | frameReceived (port : Fin 32) (f : RxFrame)
  /-- GRATUITOUS_REPEAT (R128): The announcements are repeated twice at 10 ms intervals. -/
  | gratuitousRepeat
  /-- FRAME_TRANSMIT (R133): The MAC pads, tags and FCSs a frame handed to it and transmits it. -/
  | frameTransmit (port : Fin 32) (payload : Nat) (cls : Nat) (express : List (Nat × Nat × Nat))
  /-- PREEMPT_VERIFY_TIMEOUT (R135): An unanswered verify mPacket is sent again, or preemption stays off after the third. -/
  | preemptVerifyTimeout (port : Fin 32)
  /-- PREEMPT_RESPOND_RECEIVED (R135): The first respond mPacket starts preemption on the port. -/
  | preemptRespondReceived (port : Fin 32)
  /-- FRAGMENT_RECEIVED (R137): A preemptable fragment is reassembled, or discarded as an assembly error. -/
  | fragmentReceived (port : Fin 32) (start : Bool) (frag : Fin 4) (bytes : Nat) (crcOk : Bool) (last : Bool) (f : RxFrame)
  /-- ETH_SNAPSHOT (R139): SNAP_CTRL go copies the 25 counters of a port into the writer's world buffer. -/
  | ethSnapshot (q : Req) (port : Fin 32)
  /-- CELL_FORWARD (R141): A cell crosses the two switch stages on the cyclic pattern and is resequenced at the output. -/
  | cellForward (underruns : List (Fin 16))
  /-- REPLICATION_PASS (R146): A frame arriving at port 15 re-enters stage 1 as a new pass with the remaining members. -/
  | replicationPass
  /-- RECIRCULATED_FRAME (R149): A frame sent to port 13 or 14 re-enters stage 1. -/
  | recirculatedFrame (loopback : Bool) (lport : Fin 32)
  /-- MCAST_GROUP_WRITE (R148): A write of a firmware multicast group's membership takes effect under the membership change rule. -/
  | mcastGroupWrite (q : Req) (g : Fin 32) (valid : Bool) (members : BitVec 16)
  /-- MCAST_HOLD_RELEASE (R148): Held cells are admitted under the new membership once earlier cells have been delivered. -/
  | mcastHoldRelease (g : Fin 32)
  /-- SWX_LOOPBACK_WRITE (R149): LOOPBACK.enable is accepted only in Maintenance and routes port 14. -/
  | swxLoopbackWrite (q : Req) (v : Bool)
  /-- OUT_LIMIT_WRITE (R144): An OUT_LIMIT write that breaks red ≤ yellow ≤ green is discarded. -/
  | outLimitWrite (q : Req) (p : Fin 16) (green : BitVec 10) (yellow : BitVec 10) (red : BitVec 10)
  /-- TRANSMIT_OPPORTUNITY (R158): At each transmit opportunity the scheduler selects one eligible frame by class, DRR and rank. -/
  | transmitOpportunity (port : Fin 32)
  /-- SCHEDULER_STALE_DROP (R158): Frames older than 100 ms are discarded and counted. -/
  | schedulerStaleDrop (port : Fin 32)
  /-- GATE_ENTRY_ADVANCE (R160): After interval_ns the gate list moves to its next entry. -/
  | gateEntryAdvance (port : Fin 32)
  /-- SWX_SNAPSHOT (R166): SWX SNAP_CTRL go copies a switch port's counters. -/
  | swxSnapshot (q : Req) (port : Fin 16)
  /-- POL_SNAPSHOT (R166): POL SNAP_CTRL go copies a policer's counters and may clear its overflow bits. -/
  | polSnapshot (q : Req) (id : Fin 2048) (clear : Bool)
  /-- CM_REQUEST (R170): A frame to QP 1 goes to the connection manager die, whose firmware answers it. -/
  | cmRequest (bytes : Nat) (block : Bool) (version : Nat) (flags : Nat) (paths : Nat) (slots : Nat) (channel : Nat)
  /-- CONN_OPEN (R175): CONN_CMD open takes a Free context to Init and raises its generation. -/
  | connOpen (d : Cd) (conn : BitVec 24)
  /-- CONN_READY (R175): CONN_CMD ready checks the F fields and takes Init to RTS. -/
  | connReady (d : Cd) (conn : BitVec 24)
  /-- CONN_DRAIN (R201): CONN_CMD drain takes RTS to Drain. -/
  | connDrain (d : Cd) (conn : BitVec 24)
  /-- CONN_ERROR_CMD (R202): CONN_CMD error takes a connection to Error in one clock. -/
  | connErrorCmd (d : Cd) (conn : BitVec 24)
  /-- CONN_FREE (R175): CONN_CMD free takes an Error or drained connection to Free. -/
  | connFree (d : Cd) (conn : BitVec 24)
  /-- CONN_SHADOW (R175): CONN_CMD shadow takes Init to Shadow. -/
  | connShadow (d : Cd) (conn : BitVec 24)
  /-- RDMA_PACKET_RECEIVED (R176): A standard-mode packet is classified by PSN, checked and placed, and may retire its message. -/
  | rdmaPacketReceived (d : Cd) (p : RdmaPkt)
  /-- MULTIPATH_PACKET_RECEIVED (R183): A multipath packet is classified, joins or takes a slot, and is placed. -/
  | multipathPacketReceived (d : Cd) (p : RdmaPkt)
  /-- ACK_DELAY_EXPIRY (R177): ack_delay_ns after the first unacknowledged retirement, an acknowledgement is sent. -/
  | ackDelayExpiry (d : Cd) (conn : BitVec 24)
  /-- PLACEMENT_CONFIRM (R192): The arbiter confirms a packet's bytes in the stack, and in_flight falls by 1. -/
  | placementConfirm (d : Cd) (conn : BitVec 24) (ticket : Nat)
  /-- SEND_DELIVERY (R176): A retired SEND or WRITE with immediate is delivered to the command engine once earlier placements are confirmed. -/
  | sendDelivery (d : Cd) (conn : BitVec 24)
  /-- RETRANSMIT_TIMEOUT (R179): The retransmission timer expires; packets are resent or the connection enters Error. -/
  | retransmitTimeout (d : Cd) (conn : BitVec 24)
  /-- ACK_RECEIVED (R179): A host acknowledgement advances tx_una_psn and resets retries and the timer. -/
  | ackReceived (d : Cd) (conn : BitVec 24) (psn : BitVec 24) (msn : BitVec 24)
  /-- NAK_RECEIVED (R179): A NAK causes a resend from its PSN or moves the connection to Error. -/
  | nakReceived (d : Cd) (conn : BitVec 24) (sequence : Bool) (psn : BitVec 24)
  /-- RNR_NAK_RECEIVED (R179): An RNR NAK holds sending, or moves the connection to Error when the counter is exhausted. -/
  | rnrNakReceived (d : Cd) (conn : BitVec 24) (timer : Fin 32) (psn : BitVec 24)
  /-- RNR_HOLD_EXPIRY (R179): After the RNR hold, sending resumes from the NAK's PSN. -/
  | rnrHoldExpiry (d : Cd) (conn : BitVec 24)
  /-- CNP_RECEIVED (R180): A received CNP halves the connection's rate, down to the minimum. -/
  | cnpReceived (d : Cd) (conn : BitVec 24)
  /-- RATE_RECOVER_STEP (R180): Each recover_us without a CNP adds ai_mbps to the rate. -/
  | rateRecoverStep (d : Cd) (conn : BitVec 24)
  /-- WORK_REQUEST_SEND (R200): A Firing chain sends its next work request, re-read and re-checked from the stack. -/
  | workRequestSend (d : Cd) (n : Fin 32768) (w : WorkReq)
  /-- REGION_REGISTER (R189): REG_CMD register makes a Free region entry Valid, or refuses it. -/
  | regionRegister (d : Cd) (idx : Fin 65536)
  /-- REGION_REVOKE (R193): REG_CMD revoke sets the fence instant and makes the entry Fencing. -/
  | regionRevoke (d : Cd) (idx : Fin 65536)
  /-- REVOCATION_COMPLETE (R193): When in_flight reaches zero, the entry becomes Free and key_tag rises. -/
  | revocationComplete (d : Cd) (idx : Fin 65536)
  /-- REVOKE_DONE_POP (R193): A read of REVOKE_DONE pops the oldest completed index. -/
  | revokeDonePop (d : Cd)
  /-- CHAIN_ARM (R196): CHAIN_CMD arm reads and checks the chain and makes it Armed. -/
  | chainArm (d : Cd) (n : Fin 32768) (h : ChainHdr) (ws : List WorkReq) (reservedZero : Bool)
  /-- CHAIN_CANCEL (R199): CHAIN_CMD cancel cancels an Armed chain, or reports too late. -/
  | chainCancel (d : Cd) (n : Fin 32768)
  /-- CHAIN_FIRMWARE_TRIGGER (R197): CHAIN_CMD trigger raises a kind 0x5 trigger. -/
  | chainFirmwareTrigger (d : Cd) (n : Fin 32768)
  /-- CHAIN_TRIGGER (R197): A trigger with a key arrives and counts towards an Armed chain, or is discarded as stray. -/
  | chainTrigger (d : Cd) (n : Fin 32768) (kind : Fin 6) (key : BitVec 64) (ok : Bool)
  /-- CHAIN_FAIL_POP (R200): A read of CHAIN_FAIL pops a failed chain number. -/
  | chainFailPop (d : Cd)
  /-- RDX_SNAPSHOT (R204): RDX SNAP_CTRL go copies all 26 counters. -/
  | rdxSnapshot (q : Req) (d : Cd)
  /-- FABRICS_CONNECT (R206): Firmware checks a Connect capsule and completes it or refuses it. -/
  | fabricsConnect (d : Cd) (k : Fin 32768) (subnqn : Option Nat) (hostnqn : Nat) (hostId : Nat) (qid : Nat) (sqsize : Nat) (cntlid : Nat) (kato : Nat)
  /-- FABRICS_DISCONNECT (R212): A Disconnect closes the queue, and its connection's token ends when the connection is freed. -/
  | fabricsDisconnect (d : Cd) (k : Fin 32768)
  /-- PROPERTY_GET (R259): Property Get returns a controller property. -/
  | propertyGet (d : Cd) (k : Fin 32768)
  /-- PROPERTY_SET (R259): Property Set writes a controller property, including a shutdown request. -/
  | propertySet (d : Cd) (k : Fin 32768)
  /-- CONTROLLER_SHUTDOWN_COMPLETE (R259): SHST becomes 10b once every command of the controller has reached Completing or Orphaned. -/
  | controllerShutdownComplete (d : Cd) (host : Fin 1024)
  /-- IO_FLUSH (R226): Flush completes once earlier write-class commands on the connection have reached Completing. -/
  | ioFlush (d : Cd) (k : Fin 32768)
  /-- IO_WRITE (R221): A Write executes: it reserves Sponge space, takes its data, and commits. -/
  | ioWrite (d : Cd) (k : Fin 32768) (data : Option (List Block))
  /-- IO_READ (R225): A Read looks up its blocks once and reads the misses through the redundancy and cipher engines. -/
  | ioRead (d : Cd) (k : Fin 32768) (ecc : List Nat)
  /-- IO_WRITE_ZEROES (R284): Write Zeroes commits a zero range entry without data slots. -/
  | ioWriteZeroes (d : Cd) (k : Fin 32768)
  /-- IO_DATASET_MANAGEMENT (R284): Dataset Management commits a zero range per deallocate range. -/
  | ioDatasetManagement (d : Cd) (k : Fin 32768)
  /-- RESERVATION_REGISTER (R264): Reservation Register registers, unregisters or replaces a host key. -/
  | reservationRegister (d : Cd) (k : Fin 32768)
  /-- RESERVATION_REPORT (R264): Reservation Report returns the namespace's reservation state. -/
  | reservationReport (d : Cd) (k : Fin 32768)
  /-- RESERVATION_ACQUIRE (R264): Reservation Acquire acquires, preempts, or preempts and aborts. -/
  | reservationAcquire (d : Cd) (k : Fin 32768)
  /-- RESERVATION_RELEASE (R264): Reservation Release releases or clears a reservation. -/
  | reservationRelease (d : Cd) (k : Fin 32768)
  /-- RESERVATION_RECORD_WRITTEN (R265): After the reservation record write, the Crumb is written and kind 0x1 is raised. -/
  | reservationRecordWritten (d : Cd) (nsid : Nat)
  /-- RESUME_OPEN (R245): Resume Open issues a resume token for the queue. -/
  | resumeOpen (d : Cd) (k : Fin 32768)
  /-- RESUME (R247): Resume checks the token, sends the held outcomes and completes with their count. -/
  | resume (d : Cd) (k : Fin 32768)
  /-- PUSH_REGION_INFO (R210): Push Region Info reports the region bound to the connection. -/
  | pushRegionInfo (d : Cd) (k : Fin 32768)
  /-- SPONGE_SPACE_RESERVED (R282): A waiting write obtains its data slots and dirty budget, and its bytes are copied. -/
  | spongeSpaceReserved (d : Cd) (k : Fin 32768) (data : List Block)
  /-- WRITE_COMMIT (R221): Once the bytes and durable bitmap bits are in place, the Crumb is written and kind 0x1 raised. -/
  | writeCommit (d : Cd) (k : Fin 32768)
  /-- READ_WAIT_END (R230): A waiting read leaves Waiting when no overlapping earlier write or unacknowledged mirror remains. -/
  | readWaitEnd (d : Cd) (k : Fin 32768)
  /-- READ_ASSEMBLED (R223): Every block of a read is in staging, and the engine raises kind 0x1. -/
  | readAssembled (d : Cd) (k : Fin 32768)
  /-- FLUSH_CONDITION_MET (R226): A waiting Flush completes when earlier writes have reached Completing or Orphaned. -/
  | flushConditionMet (d : Cd) (k : Fin 32768)
  /-- ADMIN_ABORT (R236): The Abort admin command passes its target to the command engine, and firmware completes it. -/
  | adminAbort (d : Cd) (k : Fin 32768)
  /-- ABORT_CID_WRITE (R236): A write of ABORT_CID decides the abort outcome in one clock. -/
  | abortCidWrite (d : Cd) (cid : BitVec 16)
  /-- ABORT_CANCEL_ACKNOWLEDGED (R238): The partner acknowledges a Cancel Crumb, and the Abort may complete. -/
  | abortCancelAcknowledged (d : Cd) (k : Fin 32768)
  /-- CMD_GATE_WRITE (R241): A write of CMD.GATE.refuse selects the admission refusal status, subject to mode controller precedence. -/
  | cmdGateWrite (d : Cd) (v : BitVec 2)
  /-- REPLAY_FLOOR_WRITE (R234): A write of REPLAY_FLOOR_HI applies the replay floor as a maximum. -/
  | replayFloorWrite (d : Cd) (hi : BitVec 32)
  /-- ORPHAN_HOLD_EXPIRY (R243): An Orphaned outcome's hold ends and its slot becomes Free. -/
  | orphanHoldExpiry (d : Cd) (k : Fin 32768)
  /-- RESUME_HOLD_EXPIRY (R246): The Resume hold of a token ends. -/
  | resumeHoldExpiry (d : Cd) (conn : BitVec 24)
  /-- TAKEOVER_FILTER_EXPIRY (R244): resume_hold_s after entry to Active, the takeover filter is dropped. -/
  | takeoverFilterExpiry (d : Cd)
  /-- CMD_SNAPSHOT (R255): CMD SNAP_CTRL go copies all 24 counters. -/
  | cmdSnapshot (q : Req) (d : Cd)
  /-- KEEP_ALIVE (R258): Keep Alive restarts the controller's keep-alive timer. -/
  | keepAlive (d : Cd) (k : Fin 32768)
  /-- KEEP_ALIVE_TIMEOUT (R258): The keep-alive timer expires; the controller's connections enter Error and the controller ceases. -/
  | keepAliveTimeout (d : Cd) (host : Fin 1024)
  /-- GET_LOG_PAGE (R260): Get Log Page returns a supported log page. -/
  | getLogPage (d : Cd) (k : Fin 32768)
  /-- IDENTIFY (R257): Identify returns a controller or namespace structure. -/
  | identify (d : Cd) (k : Fin 32768)
  /-- SET_FEATURES (R260): Set Features sets a supported feature. -/
  | setFeatures (d : Cd) (k : Fin 32768)
  /-- GET_FEATURES (R260): Get Features returns a feature value. -/
  | getFeatures (d : Cd) (k : Fin 32768)
  /-- ASYNC_EVENT_REQUEST (R260): An Asynchronous Event Request is held until an event is pending. -/
  | asyncEventRequest (d : Cd) (k : Fin 32768)
  /-- FORMAT_NVM (R269): Format NVM is accepted and the namespace refuses I/O while its in-flight commands drain. -/
  | formatNvm (d : Cd) (k : Fin 32768)
  /-- FORMAT_DRAIN_COMPLETE (R269): With in-flight commands done, the namespace's Sponge blocks are discarded and the key or fill step begins. -/
  | formatDrainComplete (d : Cd) (nsid : Nat)
  /-- SANITIZE (R270): Sanitize is accepted and journalled, and the channel enters Sanitise. -/
  | sanitize (d : Cd) (k : Fin 32768)
  /-- KEY_REPLACEMENT (R399): Secure firmware asks Praline to raise a slot's key generation. -/
  | keyReplacement (d : Cd) (n : BitVec 12)
  /-- PARTNER_GENERATION_COMMITTED (R399): The partner commits the new generation; Praline commits locally and the key is loaded. -/
  | partnerGenerationCommitted (d : Cd) (n : BitVec 12)
  /-- ZERO_FILL_CHECKPOINT (R272): After 262,144 blocks or 1 s, the progress record copies are rewritten. -/
  | zeroFillCheckpoint (d : Cd) (nsid : Option Nat) (blocks : Nat)
  /-- FORMAT_FILL_COMPLETE (R269): Zero fill reaches the end, deferred ranges are cleared and Format completes. -/
  | formatFillComplete (d : Cd) (nsid : Nat)
  /-- SANITIZE_FILL_COMPLETE (R270): Sanitize completes, clears deferred ranges and leaves Sanitise. -/
  | sanitizeFillComplete (d : Cd) (ok : Bool)
  /-- CLEAR_DEFERRED_RANGE (R261): Clear Deferred Range over NVMe-MI clears marks and flags log records. -/
  | clearDeferredRange (nsid : Nat) (slba : Nat) (nlb : Nat) (owner : Bool)
  /-- NAMESPACE_DRAIN_LIMIT_EXPIRY (R275): drain_limit_ms after the epoch, commands still in flight are aborted. -/
  | namespaceDrainLimitExpiry (d : Cd) (nsid : Nat)
  /-- NAMESPACE_DRAIN_COMPLETE (R275): After the destage, removed state is discarded and hosts are notified. -/
  | namespaceDrainComplete (d : Cd) (nsid : Nat)
  /-- EVICTION_STEP (R286): The clock hand clears ref on, or evicts, an eligible clean entry. -/
  | evictionStep (d : Cd)
  /-- HOLD_TIME_ADJUST (R290): Every 1 ms the stripe-assembly hold time h of each group in force is adjusted. -/
  | holdTimeAdjust (d : Cd) (g : Fin 4)
  /-- STRIPE_UPDATE_START (R318): The redundancy engine takes a chosen stripe's lock, plans the update and issues its reads. -/
  | stripeUpdateStart (d : Cd) (g : Fin 4) (t : Nat)
  /-- STRIPE_READS_COMPLETE (R318): After the reads, the intent Crumb is written, data encrypted, parity computed and member writes issued. -/
  | stripeReadsComplete (d : Cd) (g : Fin 4) (t : Nat)
  /-- STRIPE_WRITES_COMPLETE (R318): Stripe done is written, blocks become clean and the lock is released. -/
  | stripeWritesComplete (d : Cd) (g : Fin 4) (t : Nat)
  /-- RETIRE_CRUMB_WRITE (R295): A Retire Crumb is written once a write-class Crumb's chain is Done and its blocks are destaged. -/
  | retireCrumbWrite (d : Cd) (seq : Nat)
  /-- MIRROR_CRUMBS_RECEIVED (R298): The Standby receives mirrored Crumbs and locates and reserves their data. -/
  | mirrorCrumbsReceived (d : Cd) (c : Crumb) (data : List Block) (located : Bool)
  /-- MIRROR_CRUMB_PLACED (R298): The Standby copies the data, performs the index step, writes the Crumb and advances its acknowledgement. -/
  | mirrorCrumbPlaced (d : Cd)
  /-- MIRROR_ACK_SEND (R298): The Standby sends its mirror acknowledgement at least every 1 µs while it has advanced. -/
  | mirrorAckSend (d : Cd)
  /-- MIRROR_ACK_RECEIVED (R299): The Active raises kind 0x2 for every covered chain. -/
  | mirrorAckReceived (d : Cd) (a : Nat) (tableAck : Nat)
  /-- MIRROR_MATCH_TIMEOUT (R300): Mirrored data not located within match_limit_us makes the Standby treat the mirror as lost. -/
  | mirrorMatchTimeout (d : Cd)
  /-- SCRUB_LINE (R302): The scrub engine reads, corrects and writes back one line. -/
  | scrubLine (d : Cd) (result : Fin 3) (dropped : Bool) (reader : Option (Fin 32768))
  /-- REPAIR_FRAME_RECEIVED (R301): A repair request or reply is served or rewrites the block. -/
  | repairFrameReceived (d : Cd) (nsid : Nat) (lba : Nat) (seq : Nat) (reply : Option (Option Block))
  /-- ARBITER_GRANT (R304): The arbiter grants one burst to the highest effective level by round robin. -/
  | arbiterGrant (d : Cd) (pending : BitVec 10)
  /-- ARB_WINDOW_END (R305): An arbiter window ends and the quota counts return to zero. -/
  | arbWindowEnd (d : Cd)
  /-- ARB_COMMIT (R306): ARB.COMMIT makes the shadow PRIO, WINDOW and QUOTA active and starts a new window. -/
  | arbCommit (d : Cd)
  /-- ARB_FREEZE_WRITE (R307): A write of FREEZE.mask stops new grants to the frozen requesters. -/
  | arbFreezeWrite (d : Cd) (mask : BitVec 10)
  /-- DIRTY_CEILING_WRITE (R287): A write of limit_mib sets the dirty ceiling without discarding data. -/
  | dirtyCeilingWrite (q : Req) (d : Cd) (mib : BitVec 12)
  /-- SPG_SNAPSHOT (R310): SPG SNAP_CTRL go copies all 20 counters. -/
  | spgSnapshot (q : Req) (d : Cd)
  /-- ARB_SNAPSHOT (R310): ARB SNAP_CTRL go copies all 20 counters. -/
  | arbSnapshot (q : Req) (d : Cd)
  /-- DRIVE_COMMAND_COMPLETION (R382): A drive command completes and is classified by the drive error classes. -/
  | driveCommandCompletion (d : Cd) (bay : Fin 8) (cid : BitVec 16) (sct : Fin 8) (sc : BitVec 8) (data : List Block)
  /-- GROUP_RECORD_WRITE_COMPLETE (R328): A group record write completes and the bitmap bits it carries become durable. -/
  | groupRecordWriteComplete (d : Cd) (g : Fin 4)
  /-- BITMAP_BIT_CLEAR_DUE (R327): After linger_ms with its conditions held, a region bit is due to be cleared. -/
  | bitmapBitClearDue (d : Cd) (g : Fin 4) (region : Nat)
  /-- SPARE_DELAY_EXPIRY (R334): spare_delay_s after a position became Absent, a spare becomes its target. -/
  | spareDelayExpiry (d : Cd) (g : Fin 4) (pos : Fin 8)
  /-- G_CMD_TAKE_TARGET (R334): G_CMD op 1 takes a spare as target at once. -/
  | gCmdTakeTarget (d : Cd) (g : Fin 4)
  /-- G_CMD_HOLD_PASS (R337): G_CMD op 2 holds the rebuild pass at its cursor. -/
  | gCmdHoldPass (d : Cd) (g : Fin 4)
  /-- G_CMD_RELEASE_PASS (R337): G_CMD op 3 releases the rebuild hold. -/
  | gCmdReleasePass (d : Cd) (g : Fin 4)
  /-- G_CMD_FULL_RESYNC (R339): G_CMD op 4 makes a full resynchronisation pending. -/
  | gCmdFullResync (d : Cd) (g : Fin 4)
  /-- REBUILD_STEP (R336): The rebuild pass locks a stripe, reads its sources and writes its targets. -/
  | rebuildStep (d : Cd) (g : Fin 4)
  /-- REBUILD_CHECKPOINT (R338): At least once a second, the group record is written with the cursor. -/
  | rebuildCheckpoint (d : Cd) (g : Fin 4)
  /-- RESYNC_STRIPE (R340): One stripe is resynchronised and its exposure recorded. -/
  | resyncStripe (d : Cd) (g : Fin 4)
  /-- GRP_SNAPSHOT (R345): GRP SNAP_CTRL go copies all 18 counters. -/
  | grpSnapshot (q : Req) (d : Cd)
  /-- RESHAPE_STEP_START (R353): A step takes the locks of both layouts and waits for earlier reads of its destination rows. -/
  | reshapeStepStart (d : Cd) (g : Fin 4)
  /-- RESHAPE_STEP_READS_COMPLETE (R353): The step's source is in the buffer, and the backup or destination writes are issued. -/
  | reshapeStepReadsComplete (d : Cd) (g : Fin 4)
  /-- RESHAPE_BACKUP_WRITTEN (R353): The backup and the record with flag bit 0 are written, and destination rows follow. -/
  | reshapeBackupWritten (d : Cd) (g : Fin 4)
  /-- RESHAPE_STEP_COMMIT (R353): Every record copy with the advanced cursor has completed, and the locks are released. -/
  | reshapeStepCommit (d : Cd) (g : Fin 4)
  /-- RESHAPE_CANCEL (R361): RSH G_CMD op 1 cancels a reshape, or starts its reversal. -/
  | reshapeCancel (q : Req) (d : Cd) (g : Fin 4)
  /-- RESHAPE_HOLD (R364): RSH G_CMD op 2 holds the reshape at the next step boundary. -/
  | reshapeHold (q : Req) (d : Cd) (g : Fin 4)
  /-- RESHAPE_RELEASE (R364): RSH G_CMD op 3 releases the reshape hold. -/
  | reshapeRelease (q : Req) (d : Cd) (g : Fin 4)
  /-- RESHAPE_SWITCH (R363): At the end of the reshape, the record is written Switching and the destination group record is written. -/
  | reshapeSwitch (d : Cd) (g : Fin 4)
  /-- RESHAPE_SWITCH_COMPLETE (R363): The superblocks and the Done record are written, and switched is set. -/
  | reshapeSwitchComplete (d : Cd) (g : Fin 4)
  /-- RSH_SNAPSHOT (R365): RSH SNAP_CTRL go copies all 8 counters. -/
  | rshSnapshot (q : Req) (d : Cd)
  /-- BAY_PERST_RELEASE (R367): 100 ms after power-good, PERST# is released and discovery enters Link training. -/
  | bayPerstRelease (d : Cd) (bay : Fin 8)
  /-- DRIVE_LINK_UP (R369): A drive link comes up and enumeration starts. -/
  | driveLinkUp (d : Cd) (bay : Fin 8) (speed : Nat) (width : Nat) (reversed : Bool)
  /-- DRIVE_LINK_TRAINING_TIMEOUT (R369): link_limit_ms without link-up puts the bay in Fault. -/
  | driveLinkTrainingTimeout (d : Cd) (bay : Fin 8)
  /-- DRIVE_ENUMERATION_COMPLETE (R369): The configuration space is checked and the bay enters Controller init or Unsuitable. -/
  | driveEnumerationComplete (d : Cd) (bay : Fin 8) (ok : Bool) (capTo : BitVec 8)
  /-- DRIVE_CONTROLLER_READY (R369): CSTS.RDY is seen and Identify begins, or CFS is seen and the bay enters Fault. -/
  | driveControllerReady (d : Cd) (bay : Fin 8) (cfs : Bool)
  /-- DRIVE_READY_TIMEOUT (R369): The controller-ready limit passes and the bay enters Fault. -/
  | driveReadyTimeout (d : Cd) (bay : Fin 8)
  /-- DRIVE_IDENTIFY_COMPLETE (R370): Identify passes the requirements, queues are created, the key registered and superblocks read: Ready. -/
  | driveIdentifyComplete (d : Cd) (bay : Fin 8) (x : DriveIdent)
  /-- DRIVE_LINK_LOSS (R382): Link loss is a C5 event; outstanding commands fail and the position becomes Absent. -/
  | driveLinkLoss (d : Cd) (bay : Fin 8)
  /-- DOWNSTREAM_PORT_CONTAINMENT (R382): An uncorrectable error triggers containment, which is handled as C5. -/
  | downstreamPortContainment (d : Cd) (bay : Fin 8)
  /-- DRIVE_COMMAND_TIMEOUT (R383): A drive command times out and an NVMe Abort is sent for it. -/
  | driveCommandTimeout (d : Cd) (bay : Fin 8) (cid : BitVec 16)
  /-- DRIVE_ABORT_COMPLETE (R383): The Abort completes and the command is reissued with a new CID, or failed. -/
  | driveAbortComplete (d : Cd) (bay : Fin 8) (cid : BitVec 16)
  /-- DRIVE_ABORT_WAIT_EXPIRY (R383): 1 s after the Abort, the command is reissued. -/
  | driveAbortWaitExpiry (d : Cd) (bay : Fin 8) (cid : BitVec 16)
  /-- HEALTH_POLL (R386): The root port reads the SMART log and updates the health registers. -/
  | healthPoll (d : Cd) (bay : Fin 8) (m : Smart)
  /-- DRIVE_ASYNC_EVENT (R386): A drive asynchronous event triggers an immediate health poll. -/
  | driveAsyncEvent (d : Cd) (bay : Fin 8) (smart : Bool) (m : Smart)
  /-- DRV_LOCATE_ON (R387): B_CMD op 1 sets the bay's locate LED. -/
  | drvLocateOn (d : Cd) (bay : Fin 8)
  /-- DRV_LOCATE_OFF (R387): B_CMD op 2 clears locate. -/
  | drvLocateOff (d : Cd) (bay : Fin 8)
  /-- DRV_CLAIM (R378): B_CMD op 3 writes a released superblock to a Misplaced or Foreign drive. -/
  | drvClaim (q : Req) (d : Cd) (bay : Fin 8)
  /-- DRV_RESTART_DISCOVERY (R369): B_CMD op 4 restarts discovery of an Unsuitable or Fault bay. -/
  | drvRestartDiscovery (q : Req) (d : Cd) (bay : Fin 8)
  /-- DRV_SNAPSHOT (R390): DRV SNAP_CTRL go copies the 13 counters of a bay. -/
  | drvSnapshot (q : Req) (d : Cd)
  /-- KEY_SLOT_LOAD (R402): LOAD_CTRL op 1 unwraps a key and loads the slot, through a fence when the slot is Loaded. -/
  | keySlotLoad (q : Req) (die : DieId) (gcm : Bool) (n : BitVec 12) (key : Option Nat) (equalHalves : Bool)
  /-- KEY_SLOT_CLEAR (R402): LOAD_CTRL op 2 makes a slot Empty through a fence. -/
  | keySlotClear (q : Req) (die : DieId) (gcm : Bool) (n : BitVec 12)
  /-- KEY_SLOT_FENCE_COMPLETE (R402): When the slot's in-flight jobs drain, the new key replaces the old. -/
  | keySlotFenceComplete (die : DieId) (gcm : Bool) (n : BitVec 12)
  /-- GCM_OPEN_RESULT (R408): A GCM open completes and pushes its result, with or without distrust, into GCM_DONE. -/
  | gcmOpenResult (d : Cd) (tag : BitVec 16) (ok : Bool)
  /-- GCM_DONE_POP (R408): A read of GCM_DONE pops one open result. -/
  | gcmDonePop (d : Cd)
  /-- CIP_SNAPSHOT (R415): CIP SNAP_CTRL go copies the die's cipher counters. -/
  | cipSnapshot (q : Req) (die : DieId)
  /-- PARTNER_FRAME_RECEIVED (R420): A partner frame is accepted in link order, opened, and passed on by its type. -/
  | partnerFrameReceived (type : BitVec 8) (seq ack inv : Nat) (sealing phase fcsOk tagOk : Bool) (sub : BitVec 8)
  /-- PARTNER_NAK_RECEIVED (R420): A NAK causes frames from link_ack + 1 to be resent, each sealed again. -/
  | partnerNakReceived (ack : Nat)
  /-- PARTNER_LINK_ACK_SEND (R420): Each side sends a link acknowledgement at least every 1 µs. -/
  | partnerLinkAckSend
  /-- HEARTBEAT_SEND (R421): Every hb_interval_us a heartbeat is sent. -/
  | heartbeatSend
  /-- HEARTBEAT_RECEIVED (R421): A heartbeat updates rtt, the hop delay, Δ and the partner's state. -/
  | heartbeatReceived (h : Heartbeat)
  /-- PARTNER_LOST (R423): A loss condition holds: the pair ring opens and partner_lost is set. -/
  | partnerLost (cause : Fin 6)
  /-- HELLO_SEND (R424): A hello is sent every 10 ms while no partner is authenticated. -/
  | helloSend
  /-- HELLO_RECEIVED (R424): A partner hello is received and authentication follows. -/
  | helloReceived (h : Hello)
  /-- AUTHENTICATION_RECEIVED (R425): The partner's chain and signature are verified and the pair secret is derived. -/
  | authenticationReceived (chainOk ownerOk sigOk : Bool) (secret : Nat) (rootDiffers : Bool)
  /-- REKEY_PHASE_START (R422): After 600 s or 2⁴⁰ invocations, the sealing side announces a new phase. -/
  | rekeyPhaseStart
  /-- REKEY_ANNOUNCE_RECEIVED (R422): The peer loads the next open key and acknowledges. -/
  | rekeyAnnounceReceived (phase : Nat)
  /-- REKEY_ACK_RECEIVED (R422): The sealing side seals under the next phase and promotes its slot. -/
  | rekeyAckReceived (phase : Nat)
  /-- KEY_REPORT_RECEIVED (R442): The partner's reservation key is recorded for fencing. -/
  | keyReportReceived (key : BitVec 64)
  /-- ACQUISITION_STATE_RECEIVED (R427): The partner's acquisition state may allow Pair-B to start acquiring. -/
  | acquisitionStateReceived (st : Fin 4)
  /-- REPLICATED_FRAME_RECEIVED (R194): The Standby places a replicated host frame without sending anything. -/
  | replicatedFrameReceived (d : Cd) (p : RdmaPkt)
  /-- CARRIED_DATA_RECEIVED (R430): Carried data supplies a write whose connection is not yet shadowed. -/
  | carriedDataReceived (d : Cd) (seq first : Nat) (data : List Block)
  /-- TABLE_EVENT_RECEIVED (R429): Standby firmware applies a table event through RDX and raises table_ack. -/
  | tableEventReceived (d : Cd) (seq : Nat) (event : Fin 5) (conn : BitVec 24) (f : ConnF) (index : Fin 65536) (region : RegionF)
  /-- SEED_FRAME_RECEIVED (R428): The partner places a seed block or seed Crumbs below the cut. -/
  | seedFrameReceived (d : Cd) (blocks : List (Crumb × Block)) (crumbs : List Crumb)
  /-- PRALINE_TRANSFER_RECEIVED (R428): The receiving Praline accepts the media root and generation table for the agreed shelf uuid. -/
  | pralineTransferReceived (uuid root : Nat) (gens : List ((Nat × Nat) × Nat))
  /-- RESEED_COMPLETE (R428): All seed frames are sent and acknowledged: the partner enters Standby and the Active becomes Mirrored. -/
  | reseedComplete
  /-- LEASE_RENEWAL_TICK (R434): At a kind 0x02 occurrence, a kicked package renews every acquired drive, or sets kick_missed. -/
  | leaseRenewalTick
  /-- LEASE_KICK (R434): Writing LEASE_KICK allows the next renewal. -/
  | leaseKick (q : Req)
  /-- LEASE_ACQUISITION_WRITE (R434): After reading both slots lapsed or own, the engine writes its slot to acquire the drive. -/
  | leaseAcquisitionWrite (d : Cd) (bay : Fin 8)
  /-- LEASE_SLOT_WRITE_COMPLETE (R434): A lease slot write completes, updating x(d), or fails and is counted. -/
  | leaseSlotWriteComplete (d : Cd) (bay : Fin 8)
  /-- LEASE_EVALUATE (R435): Every 1 µs the engine counts held drives and computes t_drop. -/
  | leaseEvaluate
  /-- HARDWARE_LEASE_TIMER_FIRE (R435): TS64 reaches t_drop: the claim drops, write gates close and own lease lapsed is raised. -/
  | hardwareLeaseTimerFire
  /-- PARTNER_SLOT_READ (R436): Every renew_ms, or every 1 ms while the partner is lost, the partner's slots are read. -/
  | partnerSlotRead
  /-- PARTNER_SLOT_READ_COMPLETE (R436): A slot read gives y(d) and may show the partner lapsed on a majority. -/
  | partnerSlotReadComplete (d : Cd) (bay : Fin 8)
  /-- INTERLOCK_CLAIM_WINDOW_END (R440): INTLK_IN_N deasserted for 10 µs grants the claim. -/
  | interlockClaimWindowEnd
  /-- INTERLOCK_IN_ASSERT (R440): INTLK_IN_N asserts in the claim window: the claim is contended and released. -/
  | interlockInAssert (asserted : Bool)
  /-- INTERLOCK_CLAIM_RETRY (R440): After 50 µs or 500 µs the claim is requested again, up to 8 times. -/
  | interlockClaimRetry
  /-- RESERVATION_FENCING_COMPLETE (R443): Report, acquire and preempt commands complete on the drives, or fencing fails. -/
  | reservationFencingComplete (d : Cd) (bay : Fin 8) (keys : List (BitVec 64)) (reserved : Bool)
  /-- PAIR_CMD_CLEAR_STALE (R444): PAIR.CMD op 1 clears stale and logs t_S. -/
  | pairCmdClearStale (q : Req)
  /-- PAIR_CMD_HANDOVER (R449): PAIR.CMD op 2 requests a planned handover. -/
  | pairCmdHandover (q : Req)
  /-- PAIR_CMD_CANCEL_HANDOVER (R449): PAIR.CMD op 3 cancels a handover before go. -/
  | pairCmdCancelHandover (q : Req)
  /-- PARTNER_LOSS_H0 (R445): At h_0 after loss, the Active issues a renewal on every lease drive. -/
  | partnerLossH0
  /-- PARTNER_LOSS_UNMIRROR (R445): renew_ms + 2 ms after the renewal reaches m drives, the Active becomes Unmirrored. -/
  | partnerLossUnmirror
  /-- TAKEOVER_MAJORITY_TIMEOUT (R446): duration_ms after entering Takeover without a granted claim, the package returns to Standby. -/
  | takeoverMajorityTimeout
  /-- HANDOVER_REQUEST_RECEIVED (R449): The Standby accepts or refuses a handover request. -/
  | handoverRequestReceived
  /-- HANDOVER_ACCEPT_RECEIVED (R449): The Active reports Change and stops offering buffers. -/
  | handoverAcceptReceived
  /-- HANDOVER_ANSWER_TIMEOUT (R449): 10 ms without an answer ends the handover as refused. -/
  | handoverAnswerTimeout
  /-- HANDOVER_QUIESCED (R449): Chains Done and mirror covered: the Active withdraws, releases leases and sends go. -/
  | handoverQuiesced
  /-- HANDOVER_GO_RECEIVED (R449): The Standby raises the handover trigger and runs Takeover. -/
  | handoverGoReceived
  /-- HANDOVER_DONE_RECEIVED (R449): The old Active takes planned handover complete and enters Standby. -/
  | handoverDoneReceived
  /-- GATE_OFFER_RECEIVED (R452): The taker arms its sense on the offered bays. -/
  | gateOfferReceived (mask : BitVec 48)
  /-- GATE_RELEASE_HOLD_EXPIRY (R452): After the 10 µs hold, the releaser sets the gate high impedance and sends gate released. -/
  | gateReleaseHoldExpiry
  /-- GATE_RELEASED_RECEIVED (R452): The taker samples and drives the gate and sends gate taken. -/
  | gateReleasedReceived (bay : Fin 48) (level : BitVec 16) (sampled : BitVec 16) (count : BitVec 4) (left : BitVec 16)
  /-- GATE_TAKEN_RECEIVED (R452): The releaser's bay enters Partner. -/
  | gateTakenReceived (mask : BitVec 48)
  /-- GATE_WATCH_SAMPLE (R453): Every 1 µs the held-gate sense of undriven bays is sampled. -/
  | gateWatchSample (held : BitVec 48)
  /-- PAIR_SNAPSHOT (R457): PAIR SNAP_CTRL go copies the die's PAIR counters. -/
  | pairSnapshot (q : Req) (die : DieId)
  /-- POWER_WARNING_ASSERT (R458): PSU_WARN_N or V12_MON asserts the power warning and raises the trigger. -/
  | powerWarningAssert (psu : Bool) (mv : BitVec 16)
  /-- POWER_WARNING_DEASSERT (R458): The warning clears after both sources are clear for 10 ms. -/
  | powerWarningDeassert (mv : BitVec 16)
  /-- FLUSH_RECORD_WRITE_COMPLETE (R465): A flush record write completes and the engine writes the next set, Crumb, data or close record. -/
  | flushRecordWriteComplete (d : Cd) (bay : Fin 8)
  /-- HOLDUP_DEADLINE_EXPIRY (R467): holdup_ms after the warning, the bays' early power warning is asserted. -/
  | holdupDeadlineExpiry
  /-- FLS_BUDGET_WRITE (R460): A write of FLS.BUDGET sets the hold-up declaration. -/
  | flsBudgetWrite (q : Req) (holdup : BitVec 12) (mbps : BitVec 16)
  /-- CHANNEL_START (R473): At channel start the Crumb source is chosen and the records are loaded before replay. -/
  | channelStart (d : Cd) (band : ChannelBand)
  /-- REPLAY_COMPLETE (R474): Deferred ranges, floor and superblocks are written and the sets consumed: the channel is replayed. -/
  | replayComplete (d : Cd)
  /-- FLS_SNAPSHOT (R479): FLS SNAP_CTRL go copies the die's FLS counters. -/
  | flsSnapshot (q : Req) (die : DieId)
  /-- SIDEBAND_SCAN (R482): Every 20 µs the sideband chain shifts each bay's bits and checks the marker. -/
  | sidebandScan (marker : Bool) (seatA : BitVec 48) (seatB : BitVec 48) (present : BitVec 48)
  /-- SEAT_DEBOUNCE_EXPIRY (R484): After seat_deb_ms of contact, the bay is seated. -/
  | seatDebounceExpiry (bay : Fin 48)
  /-- BAY_RAMP_START (R485): A queued, owned, seated bay starts its ramp within the stagger limit. -/
  | bayRampStart (bay : Fin 48)
  /-- BAY_LOOP_STEP (R486): Every 1 µs the channel regulates the gate current to I_allow and the slew. -/
  | bayLoopStep (bay : Fin 48) (iout : BitVec 16) (vout : BitVec 16) (vgate : BitVec 16) (v12 : BitVec 16)
  /-- BAY_POWER_GOOD (R487): Output and gate conditions held for 1 ms make the bay power-good, and it enters On. -/
  | bayPowerGood (bay : Fin 48)
  /-- BAY_POWER_GOOD_LOSS (R487): The output falls below V12_MON − 600 mV for 20 µs. -/
  | bayPowerGoodLoss (bay : Fin 48)
  /-- BAY_LIMIT_ENTRY (R488): The current at I_allow for 10 µs puts the bay in Limit. -/
  | bayLimitEntry (bay : Fin 48)
  /-- BAY_LIMIT_EXIT (R488): The current below 95 % for 100 µs returns the bay to On. -/
  | bayLimitExit (bay : Fin 48)
  /-- BAY_LIMIT_TIMEOUT (R488): A stay in Limit of limit_ms is fault 0x1. -/
  | bayLimitTimeout (bay : Fin 48)
  /-- BAY_FAST_TRIP (R489): The comparator trips and the gate is turned off hard within 1 µs. -/
  | bayFastTrip (bay : Fin 48)
  /-- BAY_SHORT_AT_START (R489): An output below 1 V for 1 ms at I_allow in Ramp is fault 0x3. -/
  | bayShortAtStart (bay : Fin 48)
  /-- BAY_GATE_NOT_RISING (R490): The gate fails to rise, or collapses, for its time: fault 0x6. -/
  | bayGateNotRising (bay : Fin 48)
  /-- BAY_RAMP_TIMEOUT (R490): No power-good within ramp_limit_ms is fault 0x7. -/
  | bayRampTimeout (bay : Fin 48)
  /-- FET_THERMAL_UPDATE (R491): Every 10 µs T_est is updated, and reaching fet_max_c is fault 0x4. -/
  | fetThermalUpdate (bay : Fin 48)
  /-- THERMISTOR_SAMPLE (R492): Each 1 ms thermistor reading may cause fault 0x5 or mark the thermistor faulted. -/
  | thermistorSample (bay : Fin 48) (half : Int)
  /-- BAY_BACKOFF_EXPIRY (R494): The retry timer expires and the bay enters Queued once its waits are met. -/
  | bayBackoffExpiry (bay : Fin 48)
  /-- BAY_RETRY_COUNT_CLEAR (R494): After clear_s continuously On or Limit, n returns to 0. -/
  | bayRetryCountClear (bay : Fin 48)
  /-- BAY_PRECHARGE_TIMEOUT (R485): An output held at 2 V or more for 10 s sets fault cause 0x8. -/
  | bayPrechargeTimeout (bay : Fin 48)
  /-- VGD_LOW (R485): VGD12 below 10.8 V clears vgd_ok and holds ramps. -/
  | vgdLow
  /-- VGD_OK_RESTORED (R485): VGD12 above 11.0 V for 10 ms sets vgd_ok. -/
  | vgdOkRestored
  /-- BAY_CMD_ON (R496): BAY.CMD op 1 returns a bay to Queued. -/
  | bayCmdOn (q : Req) (bay : BitVec 6)
  /-- BAY_CMD_OFF (R496): BAY.CMD op 2 enters Stopping and asserts EPW_N. -/
  | bayCmdOff (q : Req) (bay : BitVec 6)
  /-- BAY_CMD_CLEAR_RETRIES (R494): BAY.CMD op 3 clears n and releases a Latched bay. -/
  | bayCmdClearRetries (q : Req) (bay : BitVec 6)
  /-- BAY_EPW_LEAD_EXPIRY (R496): After epw_lead_ms, PERST# is asserted, the gate turned off soft and the bay enters Off. -/
  | bayEpwLeadExpiry (bay : Fin 48)
  /-- GATE_GUARD_DISCHARGE (R500): A released gate that falls 300 mV is discharged with EPW_N asserted. -/
  | gateGuardDischarge (bay : Fin 48) (vgate : BitVec 16) (vout : BitVec 16)
  /-- BAY_SNAPSHOT (R505): BAY SNAP_CTRL go copies the 9 counters of a bay. -/
  | baySnapshot (q : Req)
  /-- EP_CC_ENABLE (R512): Setting CC.EN checks the parameters and sets RDY or CFS. -/
  | epCcEnable (fn : Fin 64) (iosqes : Nat) (iocqes : Nat) (mps : Nat) (ams : Nat) (asq : BitVec 10) (acq : BitVec 10) (bme : Bool)
  /-- EP_CC_DISABLE (R527): CC.EN cleared stops the function and deletes its queues. -/
  | epCcDisable (fn : Fin 64)
  /-- EP_SHUTDOWN (R531): CC.SHN starts a draining shutdown. -/
  | epShutdown (fn : Fin 64) (shn : BitVec 2)
  /-- EP_SHUTDOWN_COMPLETE (R531): SHST becomes 10b when no command remains. -/
  | epShutdownComplete (fn : Fin 64)
  /-- EP_SQ_DOORBELL (R516): A submission queue doorbell write makes entries available. -/
  | epSqDoorbell (fn : Fin 64) (q : Fin 64) (tail : BitVec 16)
  /-- EP_CQ_DOORBELL (R519): A completion queue head doorbell frees room for held chains. -/
  | epCqDoorbell (fn : Fin 64) (q : Fin 64) (head : BitVec 16)
  /-- EP_FETCH_TURN (R516): The arbitration turn fetches up to 8 entries from a queue. -/
  | epFetchTurn
  /-- EP_SQ_FETCH_COMPLETE (R516): Fetched entries are checked and completed locally or their data is fetched. -/
  | epSqFetchComplete (tag : BitVec 14) (entries : List Capsule)
  /-- EP_CREATE_IO_SQ (R513): Create I/O Submission Queue is served by the endpoint. -/
  | epCreateIoSq (fn : Fin 64) (cid : BitVec 16)
  /-- EP_CREATE_IO_CQ (R513): Create I/O Completion Queue is served by the endpoint. -/
  | epCreateIoCq (fn : Fin 64) (cid : BitVec 16)
  /-- EP_DELETE_IO_SQ (R513): Delete I/O Submission Queue is served by the endpoint. -/
  | epDeleteIoSq (fn : Fin 64) (cid : BitVec 16)
  /-- EP_DELETE_IO_CQ (R513): Delete I/O Completion Queue is served by the endpoint. -/
  | epDeleteIoCq (fn : Fin 64) (cid : BitVec 16)
  /-- EP_DATA_FETCH_COMPLETE (R517): The write data is in the landing area and the command is forwarded through port 11. -/
  | epDataFetchComplete (tag : BitVec 14) (data : List Block) (info : List Nat)
  /-- EP_CHAIN_WORK_REQUEST (R519): A chain work request at port 11 scatters read data or writes a completion entry. -/
  | epChainWorkRequest (relaxed : Bool)
  /-- EP_MSIX_SEND (R514): At most one MSI-X message per vector per 1 µs follows the posted entries. -/
  | epMsixSend (fn : Fin 64) (vec : Fin 64) (enabled : Bool) (masked : Bool)
  /-- EP_COMPLETION_TIMEOUT (R522): An endpoint request times out; the fetch sets CFS or the command completes with Data Transfer Error. -/
  | epCompletionTimeout (tag : BitVec 14) (enc : BitVec 4) (off : Bool)
  /-- EP_COMPLETION_RECEIVED (R523): A completion to an endpoint request is used, or discarded as stale, late or unexpected. -/
  | epCompletionReceived (tag : BitVec 14) (bad : Bool)
  /-- EP_BME_CLEAR (R527): Bus Master Enable cleared with CC.EN set stops the function. -/
  | epBmeClear (fn : Fin 64)
  /-- EP_D3HOT_ENTRY (R524): A function enters D3hot, keeping its state or stopping. -/
  | epD3hotEntry (fn : Fin 64) (pmeEn : Bool)
  /-- EP_FLR (R525): A Function Level Reset resets its function, and for the PF every VF. -/
  | epFlr (fn : Fin 64)
  /-- EP_VF_DISABLE (R527): VF Enable cleared, or NumVFs lowered, resets the VFs that cease. -/
  | epVfDisable (n : Fin 64)
  /-- EP_CONVENTIONAL_RESET (R525): EP_PERST_N, a hot reset, a link down or a PD reset resets every function. -/
  | epConventionalReset (perst : Bool) (hot : Bool)
  /-- EP_RESET_COMPLETE (R529): A reset completes when stale requests and channel confirmations are done. -/
  | epResetComplete (fn : Fin 64)
  /-- EPF_SNAPSHOT (R534): EPF SNAP_CTRL go copies all 14 counters. -/
  | epfSnapshot (q : Req)
  /-- LOCKSTEP_MISMATCH (R535): A lockstep comparator mismatch raises a fatal error. -/
  | lockstepMismatch
  /-- SECURE_WATCHDOG_EXPIRY (R537): Secure watchdog expiry is a fatal error. -/
  | secureWatchdogExpiry
  /-- NS_WATCHDOG_EXPIRY (R537): Non-secure watchdog expiry restarts the non-secure cores and cancels any update. -/
  | nsWatchdogExpiry
  /-- SECURE_WATCHDOG_KICK (R537): WDT_KICK.s_kick restarts the secure watchdog. -/
  | secureWatchdogKick (q : Req)
  /-- NS_WATCHDOG_KICK (R537): WDT_KICK.ns_kick restarts the non-secure watchdog. -/
  | nsWatchdogKick
  /-- PLDM_REQUEST_UPDATE (R545): RequestUpdate starts an update if none is in progress and the mode allows. -/
  | pldmRequestUpdate (binding : Fin 3) (comp : Fin 3)
  /-- PLDM_FIRMWARE_DATA (R546): A received data piece is written into the staging buffer or slot. -/
  | pldmFirmwareData (bytes : Nat) (fw : Option FwImage) (cfg : Option Image) (err : Bool)
  /-- FIRMWARE_UPDATE_VERIFIED (R546): The slot is read back and validated, and VerifyComplete reports the result. -/
  | firmwareUpdateVerified
  /-- PLDM_ACTIVATE_FIRMWARE (R548): ActivateFirmware writes the selector with trial set. -/
  | pldmActivateFirmware
  /-- PLDM_CANCEL_UPDATE (R547): CancelUpdate erases the slot header and records 0x0E. -/
  | pldmCancelUpdate (binding : Fin 3)
  /-- PLDM_TRANSFER_TIMEOUT (R547): 60 s without transfer cancels the update. -/
  | pldmTransferTimeout
  /-- MCTP_CONTROL_MESSAGE (R549): An MCTP control message is answered. -/
  | mctpControlMessage (binding : Fin 3) (cmd : BitVec 8) (eid : BitVec 8)
  /-- NVME_MI_COMMAND (R550): An NVMe-MI command is served or refused. -/
  | nvmeMiCommand (binding : Fin 3) (op : BitVec 8)
  /-- MI_ADMIN_COMMAND (R550): An admin command over NVMe-MI is served read-only by the controller's die. -/
  | miAdminCommand (binding : Fin 3) (ctrl : BitVec 16) (op : BitVec 8) (nsid : BitVec 32) (cdw10 : BitVec 32)
  /-- SPDM_REQUEST (R581): The secure cores answer an SPDM request. -/
  | spdmRequest (binding : Fin 3) (code : BitVec 8) (index : BitVec 8)
  /-- FOLRIC_READ_EVENT_LOG (R551): Export command 0x01 returns event log records. -/
  | folricReadEventLog (binding : Fin 3) (start : Nat) (n : Fin 16)
  /-- FOLRIC_READ_LEDGER (R579): Export command 0x02 returns ledger bytes. -/
  | folricReadLedger (binding : Fin 3) (seq : Nat) (off : Nat) (len : BitVec 16)
  /-- FOLRIC_READ_SENSORS (R551): Export command 0x03 returns sensor words. -/
  | folricReadSensors (binding : Fin 3) (first : Fin 64) (count : Fin 65)
  /-- SGMII_DATAGRAM (R552): The SGMII port answers ARP or ICMP, or passes MCTP, within its rate limit. -/
  | sgmiiDatagram (kind : Fin 4)
  /-- EVENT_LOG_APPEND (R554): A reported record is appended to the event log ring with the next seq. -/
  | eventLogAppend
  /-- EVENT_LOG_NVM_COPY (R555): Records due for copying are written to the NVM log in page writes. -/
  | eventLogNvmCopy (ok : Bool)
  /-- SUPPRESSION_PERIOD_END (R556): At the end of a 10 ms period, a suppression summary is logged. -/
  | suppressionPeriodEnd
  /-- SENSOR_SAMPLE (R557): A sensor sample is stored, and a warning crossing sets warn and logs 0x0330. -/
  | sensorSample (idx : Fin 51) (value : Int)
  /-- THERMAL_TRIP (R558): A junction at 115 °C for 1 ms logs 0x0331 and raises a fatal error. -/
  | thermalTrip (idx : Fin 51)
  /-- QCAUSE_READ (R560): A read that returns a non-zero Quarantine cause clears it. -/
  | qcauseRead
  /-- MGT_SNAPSHOT (R561): MGT SNAP_CTRL go copies all 9 counters. -/
  | mgtSnapshot (q : Req)
  /-- PROOFING_START (R567): On entry to Proofing the boot ROM runs self-tests, counts the boot, selects firmware and derives CDI_0. -/
  | proofingStart (ok : Bool)
  /-- PROOFING_DIGEST_RECEIVED (R567): A die returns its measurement digests on Lattice and is judged a match or not. -/
  | proofingDigestReceived (die : DieId) (fwMatch : Bool) (cfgMatch : Bool) (digest : Nat)
  /-- PROOFING_END (R566): The Proofing end message locks WRT and RWL fields on every die. -/
  | proofingEnd (holds : Bool) (ahead : Option Nat)
  /-- LEDGER_WRITE_COMPLETE (R577): A ledger record is written and read back, and Praline advances the head. -/
  | ledgerWriteComplete (ok : Bool)
  /-- LEDGER_WRITE_RETRY (R578): After a write error, the append is retried every 1 s. -/
  | ledgerWriteRetry
  /-- OWNER_ENROLMENT (R571): Owner digests, signature and certificate are written into Praline. -/
  | ownerEnrolment (session : Bool) (owner : Nat)
  /-- OWNER_TRANSFER (R571): A signed transfer replaces the owner and zeroises the media root. -/
  | ownerTransfer (session : Bool) (signed : Bool) (owner : Nat)
  /-- MEDIA_ROOT_IMPORT (R572): An imported media root is accepted for the shelf uuid. -/
  | mediaRootImport (owner : Bool) (intact : Bool) (shelf : Nat) (root : Nat)
  /-- DEBUG_TOKEN_WRITE (R583): A debug token is checked and opens debug, or is refused. -/
  | debugTokenWrite (scope : BitVec 8) (signed : Bool) (package : Nat) (boot : Nat) (expiry : Nat)
  /-- TAMPER (R585): A tamper source triggers zeroisation, ledger stop, lease release and Quarantine. -/
  | tamper (source : Fin 4)
  /-- SEC_SNAPSHOT (R588): SEC SNAP_CTRL go copies the die's counters. -/
  | secSnapshot (q : Req) (die : DieId)
  /-- BACKGROUND_TICK (R592): Each 1 ms tick picks the profile in force, computes grants and carries debt. -/
  | backgroundTick (die : DieId) (fgWait : BitVec 8)
  /-- PATROL_STRIPE (R598): Patrol locks, reads and checks a stripe, rewriting what differs. -/
  | patrolStripe (d : Cd)
  /-- BGW_SNAPSHOT (R601): BGW SNAP_CTRL go copies the die's counters. -/
  | bgwSnapshot (q : Req) (die : DieId)
  /-- PMC_START (R604): CTRL.start starts the named counters from the next clock. -/
  | pmcStart (q : Req) (die : DieId) (start : BitVec 8) (stop : BitVec 8)
  /-- PMC_STOP (R604): CTRL.stop stops the named counters. -/
  | pmcStop (q : Req) (die : DieId) (stop : BitVec 8)
  /-- PMC_TIMED_ARM (R607): A TIMED write arms or disarms a timed start or snapshot. -/
  | pmcTimedArm (q : Req) (die : DieId) (armStart : Bool) (armSnap : Bool) (mask : BitVec 8)
  /-- PMC_TIMED_START (R607): At START_AT the masked counters start. -/
  | pmcTimedStart (die : DieId)
  /-- PMC_TIMED_SNAPSHOT (R607): At SNAP_AT a snapshot fills both buffers. -/
  | pmcTimedSnapshot (die : DieId)
  /-- PMC_SNAPSHOT (R608): SNAP_CTRL go copies the counters, running bits and TS64. -/
  | pmcSnapshot (q : Req) (die : DieId)
  /-- PMC_COUNTER_PRESET (R605): A CTR_HI write after CTR_LO presets all 64 bits of a stopped counter. -/
  | pmcCounterPreset (q : Req) (die : DieId) (n : Fin 8) (hi : Bool) (v : Word)
  /-- PMC_SELECTOR_WRITE (R602): A CTR_SEL write selects an event, or is refused. -/
  | pmcSelectorWrite (q : Req) (die : DieId) (n : Fin 8) (sel : Word)
  /-- PERF_COUNTER_LOG_PAGE (R610): Get Log Page 0xD1 returns visible PMC counters. -/
  | perfCounterLogPage (d : Cd) (k : Fin 32768)
  /-- POWER_ON_RELEASE (R617): After the standby rails have been good for 10 ms, COLD is released and the release order starts. -/
  | powerOnRelease
  /-- CRYSTAL_VALID (R617): The crystal is found valid and the fuse load starts, or the package fails on a bad crystal. -/
  | crystalValid (ppm : Option (BitVec 16))
  /-- FUSE_LOAD_COMPLETE (R617): The fuses load and the MD cores start in Supervise. -/
  | fuseLoadComplete
  /-- STRAP_READ (R621): 16 strap samples decode the strap code, or force Quarantine. -/
  | strapRead (samples : List (BitVec 12))
  /-- RAIL_STEP_COMPLETE (R625): A power-up step meets its condition and the next follows after 100 µs. -/
  | railStepComplete
  /-- RAIL_STEP_TIMEOUT (R625): A step fails within 5 ms; rails are disabled and sequencing fails. -/
  | railStepTimeout
  /-- CLOCK_CHECK_COMPLETE (R625): Reference clocks valid and PLLs locked complete sequencing, and Proofing is entered. -/
  | clockCheckComplete (ref : BitVec 16) (drv : List (BitVec 16)) (ep : Option (BitVec 16))
  /-- DIE_RELEASE_STEP (R617): After its gap, the next domain of the release order is released. -/
  | dieReleaseStep (kat : Bool)
  /-- STACK_INIT_COMPLETE (R617): A stack finishes initialising and its channel die's engines are released. -/
  | stackInitComplete (c : Cd) (kat : Bool)
  /-- RESET_N_ASSERT (R614): RESET_N held low for 1 µs applies its fused level. -/
  | resetNAssert
  /-- DEVICE_RAIL_UNDERVOLTAGE (R626): A rail under 90 % or a lost PGOOD for 5 µs disables the rails and causes COLD. -/
  | deviceRailUndervoltage
  /-- RST_CMD_PACKAGE (R615): RST.CMD op 1 requests a PACKAGE reset. -/
  | rstCmdPackage (q : Req)
  /-- RST_CMD_DIE (R615): RST.CMD op 2 requests a DIE reset of a channel die. -/
  | rstCmdDie (q : Req) (cd : Fin 8)
  /-- RST_CMD_CHANNEL (R615): RST.CMD op 3 requests a CHANNEL reset of a channel die. -/
  | rstCmdChannel (q : Req) (cd : Fin 8)
  /-- CD_WATCHDOG_KICK (R614): RST.WDT_KICK restarts a channel die's control-core watchdog. -/
  | cdWatchdogKick (c : Cd)
  /-- CD_WATCHDOG_EXPIRY (R614): A control-core watchdog expiry resets the channel die at its fused level. -/
  | cdWatchdogExpiry (c : Cd)
  /-- CD_FATAL_ERROR (R614): A channel die's fatal internal error resets it at its fused level. -/
  | cdFatalError (c : Cd)
  /-- JTAG_RESET_REQUEST (R614): A JTAG reset request, with debug open, causes a PACKAGE reset. -/
  | jtagResetRequest
  /-- DIE_RESET_RELEASE (R618): After 256 cycles the die's Lattice and SEC are released and it is proofed again. -/
  | dieResetRelease (c : Cd) (fwMatch : Bool) (cfgMatch : Bool) (digest : Nat) (kat : Bool)
  /-- CHANNEL_RESET_RELEASE (R618): After 64 cycles the engines are released in order and replay follows. -/
  | channelResetRelease (c : Cd) (kat : Bool)
  /-- REFCLK_OR_PLL_LOSS (R623): Loss of REFCLK156, or a PD or MD PLL unlock, fails sequencing or is fatal. -/
  | refclkOrPllLoss (which : Fin 3)
  /-- CD_CLOCK_LOSS (R623): A CD PLL unlock or DRV_REFCLK loss holds the die out as Failed. -/
  | cdClockLoss (c : Cd) (pll : Bool)
  /-- EP_REFCLK_INVALID (R623): EP_REFCLK invalid takes the endpoint link down. -/
  | epRefclkInvalid (valid : Bool)
  /-- CRYSTAL_OUT_OF_RANGE (R623): The crystal out of range for 1 ms moves uptime onto the common reference. -/
  | crystalOutOfRange (ppm : BitVec 16)
  /-- AVS_LOOP_INTERVAL (R628): Each interval a die's set point moves by slack and is written over AVSBus. -/
  | avsLoopInterval (die : Fin 7) (slack : BitVec 8) (reply : Option (BitVec 16)) (fault : Bool)
  /-- SLACK_EMERGENCY (R629): Slack below emerg_pct stretches the clock and raises v. -/
  | slackEmergency (die : Fin 7) (slack : BitVec 8)
  /-- SLACK_EMERGENCY_TIMEOUT (R629): 100 µs of emergency at vmax is a fatal error for the die. -/
  | slackEmergencyTimeout (die : Fin 7)
  /-- VOLTAGE_RECAL_MONITOR (R630): In a kind 0x05 window, one critical-path monitor is recalibrated in 100 µs. -/
  | voltageRecalMonitor (die : Fin 7)
  /-- STANDBY_SUPPLY_LOSS (R617): VDD_MD, VDDIO_18 or V12_MON falls below its threshold and the power-on reset circuit asserts COLD, taking the package to Off. -/
  | standbySupplyLoss
  /-- RESET_N_RELEASE (R617): RESET_N returns high and the reset it caused is released, starting the release order again. -/
  | resetNRelease
  /-- PTP_MESSAGE_SEND (R60): At each sync, delay request or announce interval, the timing engine sends PTP messages, with Announce from MASTER ports carrying the upstream dataset or the device's own clockClass. -/
  | ptpMessageSend (port : Fin 32) (sync : Bool)
  /-- PD_WATCHDOG_EXPIRY (R614): The control-core watchdog of the port die expires, which is a fatal error leading to Quarantine. -/
  | pdWatchdogExpiry
  /-- CRYSTAL_BACK_IN_RANGE (R623): The crystal returns within ±1,000 ppm and uptime counting moves back from the common reference to the crystal. -/
  | crystalBackInRange (ppm : BitVec 16)
  /-- EP_PERST_DEASSERT (R526): EP_PERST_N deasserts, releasing EP_WAKE_N and allowing the endpoint link to train. -/
  | epPerstDeassert
  /-- EP_LINK_UP (R507): The endpoint link completes training and reaches L0 at its trained rate and width. -/
  | epLinkUp (speed : BitVec 4) (width : BitVec 5)
  /-- EP_L0P_WIDTH_CHANGE (R508): The link partner requests an L0p width change or an L1 entry or exit, and the endpoint accepts it. -/
  | epL0pWidthChange (state : BitVec 3) (width : BitVec 5)
  /-- EP_D0_ENTRY (R524): A function returns from D3hot to D0 and resumes its controller state, queues and held MSI-X messages. -/
  | epD0Entry (fn : Fin 64) (clearPme : Bool)
  /-- EP_VF_ENABLE (R510): VF Enable is set or NumVFs raised, and the VFs come into existence on the link. -/
  | epVfEnable (n : Fin 64)
  /-- ZERO_RANGE_ENTRY_FREE (R284): A zero range entry whose range has been applied is freed once TS64 passes its e plus the ordering horizon, releasing a zeroing command waiting for an entry. -/
  | zeroRangeEntryFree (d : Cd) (seq : Nat)
  /-- CANCEL_CRUMB_RETIREMENT (R295): A Cancel Crumb retires dup_window_ms after it was written, or at the end of a covering Resume hold, letting the ring head advance. -/
  | cancelCrumbRetirement (d : Cd) (seq : Nat)
  /-- DRIVE_CONTROLLER_FATAL (R382): A drive sets CSTS.CFS while in service, which is a C4 drive fault taking its position out of service. -/
  | driveControllerFatal (d : Cd) (bay : Fin 8)
  /-- UART_INPUT (R553): A character arrives on UART_RXD and is accepted by the console only in Maintenance entered from the manufacturing-test strap code. -/
  | uartInput (c : BitVec 8)
  deriving DecidableEq, Repr

end Sys2Proof
end

