-- ==== Sys2Proof/Decode.lean ====
section
/-! DEFINITION. The decoder asked of a block: the command that a word of spec/opcode_table.json's bits spells.  The table gives
none of its rows bits, so no word spells a command. -/

set_option Elab.async false

namespace Sys2Proof

/-- The command whose row has `nbits` bits of the value `w`: no row of the table has any. -/
def decodeTableWord (_nbits _w : Nat) : Option Instr := none

end Sys2Proof
end

