-- ==== Sys2Proof/Config.lean ====
section
/-! DEFINITION. Values that the spec leaves open: constants without a body, so that nothing can be proved of them. -/

set_option Elab.async false

namespace Sys2Proof.Config

/-- Credit, in cells, that a lossless switch input holds for an output (spec/06 R144 gives no amount). -/
opaque switchCredit : Nat → Nat → Nat

/-- The draws of the dies' DRBG (spec/07 R203, spec/20): by draw number and by what is drawn for. -/
opaque drbg : Nat → Nat → Nat

/-- AES-256-XTS over one logical block (spec/14 R392): key identity, tweak, block; and its inverse. -/
opaque xtsEncrypt : Nat → Nat → BitVec 32768 → BitVec 32768
opaque xtsDecrypt : Nat → Nat → BitVec 32768 → BitVec 32768

/-- A key, hash or check value computed from a list of inputs (spec/14 R396, spec/08 R245, spec/20). -/
opaque digest : List Nat → Nat

/-- The package's identity: bytes 0-15 of the SHA-384 of its device identity key (spec/13, *Lease slot*), and the key itself
as the ledger and the registers name it. -/
opaque packageId : Nat

/-- Severity of an event that neither this manual's tables nor *Event severities* list (spec/19 R654): the release's catalogue
assigns it. -/
opaque catalogueSeverity : Nat → Nat
/-- The index, 0x10 to 0xFF, that the release's catalogue gives a block's own event (spec/19 R556). -/
opaque catalogueIndex : Nat → Nat

/-- The fused digest of the boot ROM, and values that Praline or the fuses give and the manual does not number. -/
opaque romDigest : Nat
opaque romVersion : Nat
opaque fuseRevision : Nat
opaque identityDigest : Nat

end Sys2Proof.Config
end

