-- ==== Sys2Proof/Machine/Regs.lean ====
section
/-! DEFINITION. The register fields of every block, as the register tables of spec/03 to spec/23 list them.
A field is named by its block and its spelling in the table (register, underscore, field); a LO/HI pair that the
spec reads as one value (R79) is one 64-bit field.  Fields that are a view of other state (TIM.NOW, SNAP halves, bay
summaries) and the memory-mapped tables (CONN, REGION, SLOT, SCHED, ENTRY, NODE, GCL) have their own state. -/

set_option Elab.async false

namespace Sys2Proof.Machine

/-- Access codes (spec/00 R11). -/
inductive Acc where | ro | rw | wo | rw1c | rw1s | rws | rwl | ros
  deriving DecidableEq, Repr

/-- World values of a field (spec/00 R13). -/
inductive RWorld where | ns | s | swnr
  deriving DecidableEq, Repr

/-- What a register table says of one field: offset of instance 0, distance between instances, number of instances,
low bit, width, access, world, reset value, dies (bit d for die d), range of a written value (`rmax = 0`: none),
and whether a row of the opcode table of its own describes its write. -/
structure FldSpec where
  base : Nat
  stride : Nat
  count : Nat
  lo : Nat
  width : Nat
  acc : Acc
  world : RWorld
  reset : Nat
  dies : Nat
  rmin : Nat
  rmax : Nat
  own : Bool
  deriving DecidableEq, Repr

/-- Fields of TIM (block 0x01, spec/03). -/
inductive TimF where
  | ERR_BOUND_e_ns | OFFSET_o_ns | PARTNER_DELTA_delta_ns | PAIR_ERR_e_pair_ns | SKIPPED_count | STATE_src_index 
  | STATE_ref10m_valid | STATE_ever_locked | STATE_src_kind | STATE_state | EVENTS_skip_wrap 
  | EVENTS_time_disagree | EVENTS_die_time_fault | EVENTS_step_seen | EVENTS_freerun_entered 
  | EVENTS_holdover_entered | EVENTS_lock_lost | EVENTS_first_lock | SCHED_COMMIT_commit 
  | SERVO_CFG_freerun_thr_us | SERVO_CFG_lock_thr_ns | SERVO_CFG_unref_start | SERVO_CFG2_step_thr_ms 
  | SERVO_CFG2_slew_ppm | SERVO_CFG2_asym_ns | HOLD_RATE_ps_per_s | HOLD_RATE_10M_ps_per_s | UTC_from_ptp 
  | UTC_leap59 | UTC_leap61 | UTC_fallback_s | UTC_offset_s | PPS_CFG_in_delay_ns | PPS_CFG_out_width_ms 
  | PPS_CFG_out_in_holdover | PPS_CFG_out_enable | PPS_CFG_in_enable 
  deriving DecidableEq, Repr

def TimF.all : List TimF :=
  [.ERR_BOUND_e_ns, .OFFSET_o_ns, .PARTNER_DELTA_delta_ns, .PAIR_ERR_e_pair_ns, .SKIPPED_count, .STATE_src_index, 
   .STATE_ref10m_valid, .STATE_ever_locked, .STATE_src_kind, .STATE_state, .EVENTS_skip_wrap, 
   .EVENTS_time_disagree, .EVENTS_die_time_fault, .EVENTS_step_seen, .EVENTS_freerun_entered, 
   .EVENTS_holdover_entered, .EVENTS_lock_lost, .EVENTS_first_lock, .SCHED_COMMIT_commit, 
   .SERVO_CFG_freerun_thr_us, .SERVO_CFG_lock_thr_ns, .SERVO_CFG_unref_start, .SERVO_CFG2_step_thr_ms, 
   .SERVO_CFG2_slew_ppm, .SERVO_CFG2_asym_ns, .HOLD_RATE_ps_per_s, .HOLD_RATE_10M_ps_per_s, .UTC_from_ptp, 
   .UTC_leap59, .UTC_leap61, .UTC_fallback_s, .UTC_offset_s, .PPS_CFG_in_delay_ns, .PPS_CFG_out_width_ms, 
   .PPS_CFG_out_in_holdover, .PPS_CFG_out_enable, .PPS_CFG_in_enable]

def TimF.spec : TimF → FldSpec
  | .ERR_BOUND_e_ns => ⟨0x8, 0, 1, 0, 32, .ro, .ns, 4294967295, 0xFF, 0, 0, false⟩
  | .OFFSET_o_ns => ⟨0x20, 0, 1, 0, 32, .ro, .ns, 0, 0x01, 0, 0, false⟩
  | .PARTNER_DELTA_delta_ns => ⟨0x3C, 0, 1, 0, 32, .ro, .ns, 0, 0x01, 0, 0, false⟩
  | .PAIR_ERR_e_pair_ns => ⟨0x40, 0, 1, 0, 32, .ro, .ns, 4294967295, 0x01, 0, 0, false⟩
  | .SKIPPED_count => ⟨0x14, 0, 1, 0, 32, .ro, .ns, 0, 0xFF, 0, 0, false⟩
  | .STATE_src_index => ⟨0xC, 0, 1, 9, 3, .ro, .ns, 0, 0xFF, 0, 0, false⟩
  | .STATE_ref10m_valid => ⟨0xC, 0, 1, 8, 1, .ro, .ns, 0, 0xFF, 0, 0, false⟩
  | .STATE_ever_locked => ⟨0xC, 0, 1, 7, 1, .ro, .ns, 0, 0xFF, 0, 0, false⟩
  | .STATE_src_kind => ⟨0xC, 0, 1, 4, 3, .ro, .ns, 0, 0xFF, 0, 0, false⟩
  | .STATE_state => ⟨0xC, 0, 1, 0, 4, .ro, .ns, 0, 0xFF, 0, 0, false⟩
  | .EVENTS_skip_wrap => ⟨0x10, 0, 1, 7, 1, .rw1c, .ns, 0, 0xFF, 0, 0, false⟩
  | .EVENTS_time_disagree => ⟨0x10, 0, 1, 6, 1, .rw1c, .ns, 0, 0xFF, 0, 0, false⟩
  | .EVENTS_die_time_fault => ⟨0x10, 0, 1, 5, 1, .rw1c, .ns, 0, 0xFF, 0, 0, false⟩
  | .EVENTS_step_seen => ⟨0x10, 0, 1, 4, 1, .rw1c, .ns, 0, 0xFF, 0, 0, false⟩
  | .EVENTS_freerun_entered => ⟨0x10, 0, 1, 3, 1, .rw1c, .ns, 0, 0xFF, 0, 0, false⟩
  | .EVENTS_holdover_entered => ⟨0x10, 0, 1, 2, 1, .rw1c, .ns, 0, 0xFF, 0, 0, false⟩
  | .EVENTS_lock_lost => ⟨0x10, 0, 1, 1, 1, .rw1c, .ns, 0, 0xFF, 0, 0, false⟩
  | .EVENTS_first_lock => ⟨0x10, 0, 1, 0, 1, .rw1c, .ns, 0, 0xFF, 0, 0, false⟩
  | .SCHED_COMMIT_commit => ⟨0x18, 0, 1, 0, 1, .wo, .s, 0, 0xFF, 0, 0, false⟩
  | .SERVO_CFG_freerun_thr_us => ⟨0x24, 0, 1, 18, 14, .rw, .swnr, 100, 0x01, 10, 10000, false⟩
  | .SERVO_CFG_lock_thr_ns => ⟨0x24, 0, 1, 4, 14, .rw, .swnr, 100, 0x01, 20, 10000, false⟩
  | .SERVO_CFG_unref_start => ⟨0x24, 0, 1, 0, 1, .rw, .swnr, 0, 0x01, 0, 0, false⟩
  | .SERVO_CFG2_step_thr_ms => ⟨0x28, 0, 1, 25, 7, .rw, .swnr, 10, 0x01, 1, 100, false⟩
  | .SERVO_CFG2_slew_ppm => ⟨0x28, 0, 1, 16, 9, .rw, .swnr, 100, 0x01, 10, 500, false⟩
  | .SERVO_CFG2_asym_ns => ⟨0x28, 0, 1, 0, 16, .rw, .swnr, 50, 0x01, 0, 10000, false⟩
  | .HOLD_RATE_ps_per_s => ⟨0x2C, 0, 1, 0, 20, .rw, .swnr, 100000, 0x01, 1000, 1000000, false⟩
  | .HOLD_RATE_10M_ps_per_s => ⟨0x30, 0, 1, 0, 20, .rw, .swnr, 1000, 0x01, 100, 100000, false⟩
  | .UTC_from_ptp => ⟨0x34, 0, 1, 19, 1, .ro, .swnr, 0, 0x01, 0, 0, false⟩
  | .UTC_leap59 => ⟨0x34, 0, 1, 18, 1, .ro, .swnr, 0, 0x01, 0, 0, false⟩
  | .UTC_leap61 => ⟨0x34, 0, 1, 17, 1, .ro, .swnr, 0, 0x01, 0, 0, false⟩
  | .UTC_fallback_s => ⟨0x34, 0, 1, 8, 8, .rw, .swnr, 37, 0x01, 0, 255, false⟩
  | .UTC_offset_s => ⟨0x34, 0, 1, 0, 8, .ro, .swnr, 37, 0x01, 0, 0, false⟩
  | .PPS_CFG_in_delay_ns => ⟨0x38, 0, 1, 14, 18, .rw, .swnr, 0, 0x01, 0, 0, false⟩
  | .PPS_CFG_out_width_ms => ⟨0x38, 0, 1, 5, 9, .rw, .swnr, 100, 0x01, 1, 500, false⟩
  | .PPS_CFG_out_in_holdover => ⟨0x38, 0, 1, 3, 1, .rw, .swnr, 0, 0x01, 0, 0, false⟩
  | .PPS_CFG_out_enable => ⟨0x38, 0, 1, 2, 1, .rw, .swnr, 0, 0x01, 0, 0, false⟩
  | .PPS_CFG_in_enable => ⟨0x38, 0, 1, 1, 1, .rw, .swnr, 0, 0x01, 0, 0, false⟩

/-- Fields of IMG (block 0x02, spec/04). -/
inductive ImgF where
  | STATUS_late_switch | STATUS_restart_pending | STATUS_fallback_used | STATUS_current_slot 
  | STATUS_boot_device | STATUS_stage_state | STATUS_fail_code | FAIL_INFO_section_type | FAIL_INFO_entry_index 
  | ACTIVE_SEQ_seq | STAGED_SEQ_seq | ROLLBACK_FLOOR_floor | EPOCH | ACTIVE_HASH_bytes | STAGED_HASH_bytes 
  | CONTROL_stage_cancel | CONTROL_stage_start 
  deriving DecidableEq, Repr

def ImgF.all : List ImgF :=
  [.STATUS_late_switch, .STATUS_restart_pending, .STATUS_fallback_used, .STATUS_current_slot, 
   .STATUS_boot_device, .STATUS_stage_state, .STATUS_fail_code, .FAIL_INFO_section_type, .FAIL_INFO_entry_index, 
   .ACTIVE_SEQ_seq, .STAGED_SEQ_seq, .ROLLBACK_FLOOR_floor, .EPOCH, .ACTIVE_HASH_bytes, .STAGED_HASH_bytes, 
   .CONTROL_stage_cancel, .CONTROL_stage_start]

def ImgF.spec : ImgF → FldSpec
  | .STATUS_late_switch => ⟨0x0, 0, 1, 16, 1, .rw1c, .swnr, 0, 0x80, 0, 0, false⟩
  | .STATUS_restart_pending => ⟨0x0, 0, 1, 15, 1, .ro, .swnr, 0, 0x80, 0, 0, false⟩
  | .STATUS_fallback_used => ⟨0x0, 0, 1, 14, 1, .ro, .swnr, 0, 0x80, 0, 0, false⟩
  | .STATUS_current_slot => ⟨0x0, 0, 1, 13, 1, .ro, .swnr, 0, 0x80, 0, 0, false⟩
  | .STATUS_boot_device => ⟨0x0, 0, 1, 12, 1, .ro, .swnr, 0, 0x80, 0, 0, false⟩
  | .STATUS_stage_state => ⟨0x0, 0, 1, 8, 4, .ro, .swnr, 0, 0x80, 0, 0, false⟩
  | .STATUS_fail_code => ⟨0x0, 0, 1, 0, 8, .ro, .swnr, 0, 0x80, 0, 0, false⟩
  | .FAIL_INFO_section_type => ⟨0x4, 0, 1, 16, 16, .ro, .swnr, 0, 0x80, 0, 0, false⟩
  | .FAIL_INFO_entry_index => ⟨0x4, 0, 1, 0, 16, .ro, .swnr, 65535, 0x80, 0, 0, false⟩
  | .ACTIVE_SEQ_seq => ⟨0x8, 0, 1, 0, 32, .ro, .swnr, 0, 0x80, 0, 0, false⟩
  | .STAGED_SEQ_seq => ⟨0xC, 0, 1, 0, 32, .ro, .swnr, 0, 0x80, 0, 0, false⟩
  | .ROLLBACK_FLOOR_floor => ⟨0x10, 0, 1, 0, 32, .ro, .swnr, 0, 0x80, 0, 0, false⟩
  | .EPOCH => ⟨0x14, 0, 1, 0, 64, .ro, .swnr, 0, 0x80, 0, 0, false⟩
  | .ACTIVE_HASH_bytes => ⟨0x40, 0, 1, 0, 384, .ro, .swnr, 0, 0x80, 0, 0, false⟩
  | .STAGED_HASH_bytes => ⟨0x70, 0, 1, 0, 384, .ro, .swnr, 0, 0x80, 0, 0, false⟩
  | .CONTROL_stage_cancel => ⟨0x1C, 0, 1, 1, 1, .wo, .s, 0, 0x80, 0, 0, false⟩
  | .CONTROL_stage_start => ⟨0x1C, 0, 1, 0, 1, .wo, .s, 0, 0x80, 0, 0, false⟩

/-- Fields of MGT (block 0x03, spec/19). -/
inductive MgtF where
  | ID_part_code | ID_stepping | MODE_cmd_result | MODE_previous | MODE_current | MODE_TS | QCAUSE_code 
  | FW_RELEASE_release | FW_PAIR_FLOOR_floor | FW_STATUS_fail_code | FW_STATUS_update_state 
  | FW_STATUS_trial_running | FW_STATUS_fallback_used | FW_STATUS_trial_pending | FW_STATUS_current_slot 
  | FW_STATUS_attempts | FW_FLOOR_floor | BOOT_COUNT_count | EVLOG_STATUS_nvm_ok | EVLOG_STATUS_ram_records 
  | EVLOG_NEXT | THERM_CFG_warn_c | EVENTS_nvm_log_error | EVENTS_evlog_overwrite | EVENTS_trial_fallback 
  | EVENTS_update_failed | EVENTS_update_done | EVENTS_ns_watchdog | EVENTS_thermal_trip | EVENTS_sensor_warn 
  | EVENTS_counter_wrap | EVENTS_INT_enable | SNAP_CTRL_done | SNAP_CTRL_go | CNT_OVF_ovf | CNT_OVF_INT_enable 
  | WDT_CFG_s_timeout_ms | WDT_CFG_ns_timeout_ms | WDT_KICK_s_kick | WDT_KICK_ns_kick | MODE_CMD_op 
  | SENSOR_value | SENSOR_crit | SENSOR_warn | SENSOR_valid 
  deriving DecidableEq, Repr

def MgtF.all : List MgtF :=
  [.ID_part_code, .ID_stepping, .MODE_cmd_result, .MODE_previous, .MODE_current, .MODE_TS, .QCAUSE_code, 
   .FW_RELEASE_release, .FW_PAIR_FLOOR_floor, .FW_STATUS_fail_code, .FW_STATUS_update_state, 
   .FW_STATUS_trial_running, .FW_STATUS_fallback_used, .FW_STATUS_trial_pending, .FW_STATUS_current_slot, 
   .FW_STATUS_attempts, .FW_FLOOR_floor, .BOOT_COUNT_count, .EVLOG_STATUS_nvm_ok, .EVLOG_STATUS_ram_records, 
   .EVLOG_NEXT, .THERM_CFG_warn_c, .EVENTS_nvm_log_error, .EVENTS_evlog_overwrite, .EVENTS_trial_fallback, 
   .EVENTS_update_failed, .EVENTS_update_done, .EVENTS_ns_watchdog, .EVENTS_thermal_trip, .EVENTS_sensor_warn, 
   .EVENTS_counter_wrap, .EVENTS_INT_enable, .SNAP_CTRL_done, .SNAP_CTRL_go, .CNT_OVF_ovf, .CNT_OVF_INT_enable, 
   .WDT_CFG_s_timeout_ms, .WDT_CFG_ns_timeout_ms, .WDT_KICK_s_kick, .WDT_KICK_ns_kick, .MODE_CMD_op, 
   .SENSOR_value, .SENSOR_crit, .SENSOR_warn, .SENSOR_valid]

def MgtF.spec : MgtF → FldSpec
  | .ID_part_code => ⟨0x0, 0, 1, 16, 16, .ro, .ns, 18438, 0x80, 0, 0, false⟩
  | .ID_stepping => ⟨0x0, 0, 1, 8, 8, .ro, .ns, 16, 0x80, 0, 0, false⟩
  | .MODE_cmd_result => ⟨0x4, 0, 1, 8, 2, .ro, .ns, 0, 0x80, 0, 0, false⟩
  | .MODE_previous => ⟨0x4, 0, 1, 4, 4, .ro, .ns, 0, 0x80, 0, 0, false⟩
  | .MODE_current => ⟨0x4, 0, 1, 0, 4, .ro, .ns, 1, 0x80, 0, 0, false⟩
  | .MODE_TS => ⟨0x8, 0, 1, 0, 64, .ro, .ns, 0, 0x80, 0, 0, false⟩
  | .QCAUSE_code => ⟨0x10, 0, 1, 0, 8, .ros, .ns, 0, 0x80, 0, 0, false⟩
  | .FW_RELEASE_release => ⟨0x14, 0, 1, 0, 32, .ro, .ns, 0, 0x80, 0, 0, false⟩
  | .FW_PAIR_FLOOR_floor => ⟨0x18, 0, 1, 0, 32, .ro, .ns, 0, 0x80, 0, 0, false⟩
  | .FW_STATUS_fail_code => ⟨0x1C, 0, 1, 24, 8, .ro, .swnr, 0, 0x80, 0, 0, false⟩
  | .FW_STATUS_update_state => ⟨0x1C, 0, 1, 20, 4, .ro, .swnr, 0, 0x80, 0, 0, false⟩
  | .FW_STATUS_trial_running => ⟨0x1C, 0, 1, 19, 1, .ro, .swnr, 0, 0x80, 0, 0, false⟩
  | .FW_STATUS_fallback_used => ⟨0x1C, 0, 1, 18, 1, .ro, .swnr, 0, 0x80, 0, 0, false⟩
  | .FW_STATUS_trial_pending => ⟨0x1C, 0, 1, 17, 1, .ro, .swnr, 0, 0x80, 0, 0, false⟩
  | .FW_STATUS_current_slot => ⟨0x1C, 0, 1, 16, 1, .ro, .swnr, 0, 0x80, 0, 0, false⟩
  | .FW_STATUS_attempts => ⟨0x1C, 0, 1, 8, 2, .ro, .swnr, 0, 0x80, 0, 0, false⟩
  | .FW_FLOOR_floor => ⟨0x20, 0, 1, 0, 32, .ro, .swnr, 0, 0x80, 0, 0, false⟩
  | .BOOT_COUNT_count => ⟨0x24, 0, 1, 0, 32, .ro, .ns, 0, 0x80, 0, 0, false⟩
  | .EVLOG_STATUS_nvm_ok => ⟨0x30, 0, 1, 31, 1, .ro, .ns, 0, 0x80, 0, 0, false⟩
  | .EVLOG_STATUS_ram_records => ⟨0x30, 0, 1, 0, 13, .ro, .ns, 0, 0x80, 0, 0, false⟩
  | .EVLOG_NEXT => ⟨0x34, 0, 1, 0, 64, .ro, .ns, 0, 0x80, 0, 0, false⟩
  | .THERM_CFG_warn_c => ⟨0x3C, 0, 1, 16, 8, .rw, .swnr, 95, 0x80, 85, 105, false⟩
  | .EVENTS_nvm_log_error => ⟨0x40, 0, 1, 8, 1, .rw1c, .ns, 0, 0x80, 0, 0, false⟩
  | .EVENTS_evlog_overwrite => ⟨0x40, 0, 1, 7, 1, .rw1c, .ns, 0, 0x80, 0, 0, false⟩
  | .EVENTS_trial_fallback => ⟨0x40, 0, 1, 6, 1, .rw1c, .ns, 0, 0x80, 0, 0, false⟩
  | .EVENTS_update_failed => ⟨0x40, 0, 1, 5, 1, .rw1c, .ns, 0, 0x80, 0, 0, false⟩
  | .EVENTS_update_done => ⟨0x40, 0, 1, 4, 1, .rw1c, .ns, 0, 0x80, 0, 0, false⟩
  | .EVENTS_ns_watchdog => ⟨0x40, 0, 1, 3, 1, .rw1c, .ns, 0, 0x80, 0, 0, false⟩
  | .EVENTS_thermal_trip => ⟨0x40, 0, 1, 2, 1, .rw1c, .ns, 0, 0x80, 0, 0, false⟩
  | .EVENTS_sensor_warn => ⟨0x40, 0, 1, 1, 1, .rw1c, .ns, 0, 0x80, 0, 0, false⟩
  | .EVENTS_counter_wrap => ⟨0x40, 0, 1, 0, 1, .rw1c, .ns, 0, 0x80, 0, 0, false⟩
  | .EVENTS_INT_enable => ⟨0x44, 0, 1, 0, 9, .rw, .ns, 0, 0x80, 0, 0, false⟩
  | .SNAP_CTRL_done => ⟨0x48, 0, 1, 9, 1, .ro, .ns, 0, 0x80, 0, 0, false⟩
  | .SNAP_CTRL_go => ⟨0x48, 0, 1, 8, 1, .wo, .ns, 0, 0x80, 0, 0, false⟩
  | .CNT_OVF_ovf => ⟨0x4C, 0, 1, 0, 9, .rw1c, .ns, 0, 0x80, 0, 0, false⟩
  | .CNT_OVF_INT_enable => ⟨0x50, 0, 1, 0, 9, .rw, .ns, 0, 0x80, 0, 0, false⟩
  | .WDT_CFG_s_timeout_ms => ⟨0x54, 0, 1, 16, 16, .rw, .s, 1000, 0x80, 100, 10000, false⟩
  | .WDT_CFG_ns_timeout_ms => ⟨0x54, 0, 1, 0, 16, .rw, .swnr, 2000, 0x80, 100, 60000, false⟩
  | .WDT_KICK_s_kick => ⟨0x58, 0, 1, 1, 1, .wo, .s, 0, 0x80, 0, 0, false⟩
  | .WDT_KICK_ns_kick => ⟨0x58, 0, 1, 0, 1, .wo, .ns, 0, 0x80, 0, 0, false⟩
  | .MODE_CMD_op => ⟨0x5C, 0, 1, 0, 2, .wo, .s, 0, 0x80, 0, 0, false⟩
  | .SENSOR_value => ⟨0x100, 4, 64, 16, 16, .ro, .ns, 0, 0x80, 0, 0, false⟩
  | .SENSOR_crit => ⟨0x100, 4, 64, 2, 1, .ro, .ns, 0, 0x80, 0, 0, false⟩
  | .SENSOR_warn => ⟨0x100, 4, 64, 1, 1, .ro, .ns, 0, 0x80, 0, 0, false⟩
  | .SENSOR_valid => ⟨0x100, 4, 64, 0, 1, .ro, .ns, 0, 0x80, 0, 0, false⟩

/-- Fields of SEC (block 0x04, spec/20). -/
inductive SecF where
  | STATUS_proofing_done | STATUS_locked | STATUS_debug | VIOL_LAST_LO_addr | VIOL_LAST_HI_write 
  | VIOL_LAST_HI_die | VIOL_LAST_HI_addr | EVENTS_proof_mismatch | EVENTS_debug_unlock | EVENTS_ledger_error 
  | EVENTS_tamper | EVENTS_refused_write | EVENTS_locked_write | EVENTS_world_violation | EVENTS_counter_wrap 
  | EVENTS_INT_enable | SNAP_CTRL_done | SNAP_CTRL_go | CNT_OVF_ovf | CNT_OVF_INT_enable | BLOCK_WORLD_secure 
  | TAMPER_STATUS_sources | DEBUG_policy | DEBUG_scope | DEBUG_refusals | LEDGER_STATUS_nvm_ok 
  | LEDGER_STATUS_boot_recorded | LEDGER_STATUS_ledger_break | LEDGER_STATUS_queued 
  | LEDGER_STATUS_segment_offset | LEDGER_SEQ | PROOF_dies | WRT_BASE_base_4k | WRT_SIZE_size_4k 
  | WRT_FLAGS_ns_read_only | WRT_FLAGS_secure | WRT_FLAGS_valid 
  deriving DecidableEq, Repr

def SecF.all : List SecF :=
  [.STATUS_proofing_done, .STATUS_locked, .STATUS_debug, .VIOL_LAST_LO_addr, .VIOL_LAST_HI_write, 
   .VIOL_LAST_HI_die, .VIOL_LAST_HI_addr, .EVENTS_proof_mismatch, .EVENTS_debug_unlock, .EVENTS_ledger_error, 
   .EVENTS_tamper, .EVENTS_refused_write, .EVENTS_locked_write, .EVENTS_world_violation, .EVENTS_counter_wrap, 
   .EVENTS_INT_enable, .SNAP_CTRL_done, .SNAP_CTRL_go, .CNT_OVF_ovf, .CNT_OVF_INT_enable, .BLOCK_WORLD_secure, 
   .TAMPER_STATUS_sources, .DEBUG_policy, .DEBUG_scope, .DEBUG_refusals, .LEDGER_STATUS_nvm_ok, 
   .LEDGER_STATUS_boot_recorded, .LEDGER_STATUS_ledger_break, .LEDGER_STATUS_queued, 
   .LEDGER_STATUS_segment_offset, .LEDGER_SEQ, .PROOF_dies, .WRT_BASE_base_4k, .WRT_SIZE_size_4k, 
   .WRT_FLAGS_ns_read_only, .WRT_FLAGS_secure, .WRT_FLAGS_valid]

def SecF.spec : SecF → FldSpec
  | .STATUS_proofing_done => ⟨0x0, 0, 1, 31, 1, .ro, .ns, 0, 0xFF, 0, 0, false⟩
  | .STATUS_locked => ⟨0x0, 0, 1, 30, 1, .ro, .ns, 0, 0xFF, 0, 0, false⟩
  | .STATUS_debug => ⟨0x0, 0, 1, 28, 2, .ro, .ns, 0, 0xFF, 0, 0, false⟩
  | .VIOL_LAST_LO_addr => ⟨0x4, 0, 1, 0, 32, .ro, .ns, 0, 0xFF, 0, 0, false⟩
  | .VIOL_LAST_HI_write => ⟨0x8, 0, 1, 12, 1, .ro, .ns, 0, 0xFF, 0, 0, false⟩
  | .VIOL_LAST_HI_die => ⟨0x8, 0, 1, 8, 4, .ro, .ns, 0, 0xFF, 0, 0, false⟩
  | .VIOL_LAST_HI_addr => ⟨0x8, 0, 1, 0, 8, .ro, .ns, 0, 0xFF, 0, 0, false⟩
  | .EVENTS_proof_mismatch => ⟨0xC, 0, 1, 7, 1, .rw1c, .ns, 0, 0xFF, 0, 0, false⟩
  | .EVENTS_debug_unlock => ⟨0xC, 0, 1, 6, 1, .rw1c, .ns, 0, 0xFF, 0, 0, false⟩
  | .EVENTS_ledger_error => ⟨0xC, 0, 1, 5, 1, .rw1c, .ns, 0, 0xFF, 0, 0, false⟩
  | .EVENTS_tamper => ⟨0xC, 0, 1, 4, 1, .rw1c, .ns, 0, 0xFF, 0, 0, false⟩
  | .EVENTS_refused_write => ⟨0xC, 0, 1, 3, 1, .rw1c, .ns, 0, 0xFF, 0, 0, false⟩
  | .EVENTS_locked_write => ⟨0xC, 0, 1, 2, 1, .rw1c, .ns, 0, 0xFF, 0, 0, false⟩
  | .EVENTS_world_violation => ⟨0xC, 0, 1, 1, 1, .rw1c, .ns, 0, 0xFF, 0, 0, false⟩
  | .EVENTS_counter_wrap => ⟨0xC, 0, 1, 0, 1, .rw1c, .ns, 0, 0xFF, 0, 0, false⟩
  | .EVENTS_INT_enable => ⟨0x10, 0, 1, 0, 8, .rw, .ns, 0, 0xFF, 0, 0, false⟩
  | .SNAP_CTRL_done => ⟨0x14, 0, 1, 9, 1, .ro, .ns, 0, 0xFF, 0, 0, false⟩
  | .SNAP_CTRL_go => ⟨0x14, 0, 1, 8, 1, .wo, .ns, 0, 0xFF, 0, 0, false⟩
  | .CNT_OVF_ovf => ⟨0x18, 0, 1, 0, 8, .rw1c, .ns, 0, 0xFF, 0, 0, false⟩
  | .CNT_OVF_INT_enable => ⟨0x1C, 0, 1, 0, 8, .rw, .ns, 0, 0xFF, 0, 0, false⟩
  | .BLOCK_WORLD_secure => ⟨0x20, 0, 1, 0, 7, .rwl, .swnr, 0, 0x80, 0, 0, false⟩
  | .TAMPER_STATUS_sources => ⟨0x24, 0, 1, 0, 4, .ro, .ns, 0, 0x80, 0, 0, false⟩
  | .DEBUG_policy => ⟨0x28, 0, 1, 16, 8, .ro, .ns, 0, 0x80, 0, 0, false⟩
  | .DEBUG_scope => ⟨0x28, 0, 1, 8, 8, .ro, .ns, 0, 0x80, 0, 0, false⟩
  | .DEBUG_refusals => ⟨0x28, 0, 1, 0, 8, .ro, .ns, 0, 0x80, 0, 0, false⟩
  | .LEDGER_STATUS_nvm_ok => ⟨0x2C, 0, 1, 31, 1, .ro, .ns, 0, 0x80, 0, 0, false⟩
  | .LEDGER_STATUS_boot_recorded => ⟨0x2C, 0, 1, 30, 1, .ro, .ns, 0, 0x80, 0, 0, false⟩
  | .LEDGER_STATUS_ledger_break => ⟨0x2C, 0, 1, 29, 1, .ro, .ns, 0, 0x80, 0, 0, false⟩
  | .LEDGER_STATUS_queued => ⟨0x2C, 0, 1, 24, 5, .ro, .ns, 0, 0x80, 0, 0, false⟩
  | .LEDGER_STATUS_segment_offset => ⟨0x2C, 0, 1, 0, 17, .ro, .ns, 0, 0x80, 0, 0, false⟩
  | .LEDGER_SEQ => ⟨0x30, 0, 1, 0, 64, .ro, .ns, 0, 0x80, 0, 0, false⟩
  | .PROOF_dies => ⟨0x38, 0, 1, 0, 32, .ro, .ns, 0, 0x80, 0, 0, false⟩
  | .WRT_BASE_base_4k => ⟨0x400, 16, 64, 0, 32, .rwl, .s, 0, 0x7F, 0, 0, false⟩
  | .WRT_SIZE_size_4k => ⟨0x404, 16, 64, 0, 32, .rwl, .s, 0, 0x7F, 0, 0, false⟩
  | .WRT_FLAGS_ns_read_only => ⟨0x408, 16, 64, 2, 1, .rwl, .s, 0, 0x7F, 0, 0, false⟩
  | .WRT_FLAGS_secure => ⟨0x408, 16, 64, 1, 1, .rwl, .s, 0, 0x7F, 0, 0, false⟩
  | .WRT_FLAGS_valid => ⟨0x408, 16, 64, 0, 1, .rwl, .s, 0, 0x7F, 0, 0, false⟩

/-- Fields of BGW (block 0x05, spec/21). -/
inductive BgwF where
  | STATUS_therm_stage | STATUS_base | STATUS_builtin | STATUS_window | STATUS_profile | CFG_bg_depth 
  | THERM_CFG_shed_c | THERM_CFG_start_c | THERM_CFG_full_c | THERM_CFG_min_pct | THERM_STATUS_t_c 
  | THERM_STATUS_f_pct | THERM_STATUS_limit | PATROL_CFG_enable | PATROL_CFG_pass_h | EVENTS_profile_change 
  | EVENTS_therm_limit | EVENTS_therm_shed | EVENTS_patrol_pass | EVENTS_patrol_repair | EVENTS_patrol_mismatch 
  | EVENTS_counter_wrap | EVENTS_INT_enable | SNAP_CTRL_done | SNAP_CTRL_go | CNT_OVF_ovf | CNT_OVF_INT_enable 
  | USED_debt_us | USED_used_us | G_PATROL 
  deriving DecidableEq, Repr

def BgwF.all : List BgwF :=
  [.STATUS_therm_stage, .STATUS_base, .STATUS_builtin, .STATUS_window, .STATUS_profile, .CFG_bg_depth, 
   .THERM_CFG_shed_c, .THERM_CFG_start_c, .THERM_CFG_full_c, .THERM_CFG_min_pct, .THERM_STATUS_t_c, 
   .THERM_STATUS_f_pct, .THERM_STATUS_limit, .PATROL_CFG_enable, .PATROL_CFG_pass_h, .EVENTS_profile_change, 
   .EVENTS_therm_limit, .EVENTS_therm_shed, .EVENTS_patrol_pass, .EVENTS_patrol_repair, .EVENTS_patrol_mismatch, 
   .EVENTS_counter_wrap, .EVENTS_INT_enable, .SNAP_CTRL_done, .SNAP_CTRL_go, .CNT_OVF_ovf, .CNT_OVF_INT_enable, 
   .USED_debt_us, .USED_used_us, .G_PATROL]

def BgwF.spec : BgwF → FldSpec
  | .STATUS_therm_stage => ⟨0x0, 0, 1, 26, 2, .ro, .ns, 0, 0xFF, 0, 0, false⟩
  | .STATUS_base => ⟨0x0, 0, 1, 25, 1, .ro, .ns, 1, 0xFF, 0, 0, false⟩
  | .STATUS_builtin => ⟨0x0, 0, 1, 24, 1, .ro, .ns, 0, 0xFF, 0, 0, false⟩
  | .STATUS_window => ⟨0x0, 0, 1, 20, 4, .ro, .ns, 0, 0xFF, 0, 0, false⟩
  | .STATUS_profile => ⟨0x0, 0, 1, 17, 3, .ro, .ns, 0, 0xFF, 0, 0, false⟩
  | .CFG_bg_depth => ⟨0x4, 0, 1, 0, 7, .rw, .ns, 8, 0x7E, 1, 64, false⟩
  | .THERM_CFG_shed_c => ⟨0x8, 0, 1, 24, 8, .rw, .swnr, 90, 0x7E, 85, 100, false⟩
  | .THERM_CFG_start_c => ⟨0x8, 0, 1, 16, 8, .rw, .swnr, 95, 0x7E, 0, 102, false⟩
  | .THERM_CFG_full_c => ⟨0x8, 0, 1, 8, 8, .rw, .swnr, 103, 0x7E, 0, 104, false⟩
  | .THERM_CFG_min_pct => ⟨0x8, 0, 1, 0, 8, .rw, .swnr, 10, 0x7E, 0, 100, false⟩
  | .THERM_STATUS_t_c => ⟨0xC, 0, 1, 24, 8, .ro, .ns, 0, 0x7E, 0, 0, false⟩
  | .THERM_STATUS_f_pct => ⟨0xC, 0, 1, 16, 8, .ro, .ns, 100, 0x7E, 0, 0, false⟩
  | .THERM_STATUS_limit => ⟨0xC, 0, 1, 0, 16, .ro, .ns, 32768, 0x7E, 0, 0, false⟩
  | .PATROL_CFG_enable => ⟨0x10, 0, 1, 31, 1, .rw, .ns, 1, 0x7E, 0, 0, false⟩
  | .PATROL_CFG_pass_h => ⟨0x10, 0, 1, 0, 14, .rw, .ns, 168, 0x7E, 1, 8760, false⟩
  | .EVENTS_profile_change => ⟨0x14, 0, 1, 6, 1, .rw1c, .ns, 0, 0xFF, 0, 0, false⟩
  | .EVENTS_therm_limit => ⟨0x14, 0, 1, 5, 1, .rw1c, .ns, 0, 0xFF, 0, 0, false⟩
  | .EVENTS_therm_shed => ⟨0x14, 0, 1, 4, 1, .rw1c, .ns, 0, 0xFF, 0, 0, false⟩
  | .EVENTS_patrol_pass => ⟨0x14, 0, 1, 3, 1, .rw1c, .ns, 0, 0xFF, 0, 0, false⟩
  | .EVENTS_patrol_repair => ⟨0x14, 0, 1, 2, 1, .rw1c, .ns, 0, 0xFF, 0, 0, false⟩
  | .EVENTS_patrol_mismatch => ⟨0x14, 0, 1, 1, 1, .rw1c, .ns, 0, 0xFF, 0, 0, false⟩
  | .EVENTS_counter_wrap => ⟨0x14, 0, 1, 0, 1, .rw1c, .ns, 0, 0xFF, 0, 0, false⟩
  | .EVENTS_INT_enable => ⟨0x18, 0, 1, 0, 7, .rw, .ns, 0, 0xFF, 0, 0, false⟩
  | .SNAP_CTRL_done => ⟨0x1C, 0, 1, 9, 1, .ro, .ns, 0, 0xFF, 0, 0, false⟩
  | .SNAP_CTRL_go => ⟨0x1C, 0, 1, 8, 1, .wo, .ns, 0, 0xFF, 0, 0, false⟩
  | .CNT_OVF_ovf => ⟨0x20, 0, 1, 0, 8, .rw1c, .ns, 0, 0xFF, 0, 0, false⟩
  | .CNT_OVF_INT_enable => ⟨0x24, 0, 1, 0, 8, .rw, .ns, 0, 0xFF, 0, 0, false⟩
  | .USED_debt_us => ⟨0x40, 4, 6, 16, 16, .ro, .ns, 0, 0x7E, 0, 0, false⟩
  | .USED_used_us => ⟨0x40, 4, 6, 0, 16, .ro, .ns, 0, 0x7E, 0, 0, false⟩
  | .G_PATROL => ⟨0x60, 8, 4, 0, 64, .ro, .ns, 0, 0x7E, 0, 0, false⟩

/-- Fields of PMC (block 0x06, spec/22). -/
inductive PmcF where
  | STATUS_snap_armed | STATUS_start_armed | STATUS_running | ACCESS_host_enable | ACCESS_ns_program | CTRL_stop 
  | CTRL_start | TIMED_arm_start | TIMED_arm_snap | TIMED_mask | START_AT | SNAP_AT | SNAP_CTRL_done 
  | SNAP_CTRL_go | OVF_ovf | OVF_INT_enable | EVENTS_sel_refused | EVENTS_timed_snap | EVENTS_timed_start 
  | EVENTS_overflow | EVENTS_INT_enable | CTR_CFG_secure | CTR_CFG_host_visible | CTR_CFG_running 
  | CTR_SEL_selector | CTR | SNAP_RUN_running 
  deriving DecidableEq, Repr

def PmcF.all : List PmcF :=
  [.STATUS_snap_armed, .STATUS_start_armed, .STATUS_running, .ACCESS_host_enable, .ACCESS_ns_program, .CTRL_stop, 
   .CTRL_start, .TIMED_arm_start, .TIMED_arm_snap, .TIMED_mask, .START_AT, .SNAP_AT, .SNAP_CTRL_done, 
   .SNAP_CTRL_go, .OVF_ovf, .OVF_INT_enable, .EVENTS_sel_refused, .EVENTS_timed_snap, .EVENTS_timed_start, 
   .EVENTS_overflow, .EVENTS_INT_enable, .CTR_CFG_secure, .CTR_CFG_host_visible, .CTR_CFG_running, 
   .CTR_SEL_selector, .CTR, .SNAP_RUN_running]

def PmcF.spec : PmcF → FldSpec
  | .STATUS_snap_armed => ⟨0x0, 0, 1, 9, 1, .ro, .ns, 0, 0xFF, 0, 0, false⟩
  | .STATUS_start_armed => ⟨0x0, 0, 1, 8, 1, .ro, .ns, 0, 0xFF, 0, 0, false⟩
  | .STATUS_running => ⟨0x0, 0, 1, 0, 8, .ro, .ns, 0, 0xFF, 0, 0, false⟩
  | .ACCESS_host_enable => ⟨0x4, 0, 1, 1, 1, .rw, .swnr, 0, 0xFF, 0, 0, false⟩
  | .ACCESS_ns_program => ⟨0x4, 0, 1, 0, 1, .rw, .swnr, 1, 0xFF, 0, 0, false⟩
  | .CTRL_stop => ⟨0x8, 0, 1, 8, 8, .wo, .ns, 0, 0xFF, 0, 0, false⟩
  | .CTRL_start => ⟨0x8, 0, 1, 0, 8, .wo, .ns, 0, 0xFF, 0, 0, false⟩
  | .TIMED_arm_start => ⟨0xC, 0, 1, 31, 1, .rw, .ns, 0, 0xFF, 0, 0, true⟩
  | .TIMED_arm_snap => ⟨0xC, 0, 1, 30, 1, .rw, .ns, 0, 0xFF, 0, 0, true⟩
  | .TIMED_mask => ⟨0xC, 0, 1, 0, 8, .rw, .ns, 0, 0xFF, 0, 0, true⟩
  | .START_AT => ⟨0x10, 0, 1, 0, 64, .rw, .ns, 0, 0xFF, 0, 0, false⟩
  | .SNAP_AT => ⟨0x18, 0, 1, 0, 64, .rw, .ns, 0, 0xFF, 0, 0, false⟩
  | .SNAP_CTRL_done => ⟨0x20, 0, 1, 9, 1, .ro, .ns, 0, 0xFF, 0, 0, false⟩
  | .SNAP_CTRL_go => ⟨0x20, 0, 1, 8, 1, .wo, .ns, 0, 0xFF, 0, 0, false⟩
  | .OVF_ovf => ⟨0x24, 0, 1, 0, 8, .rw1c, .ns, 0, 0xFF, 0, 0, false⟩
  | .OVF_INT_enable => ⟨0x28, 0, 1, 0, 8, .rw, .ns, 0, 0xFF, 0, 0, false⟩
  | .EVENTS_sel_refused => ⟨0x2C, 0, 1, 3, 1, .rw1c, .ns, 0, 0xFF, 0, 0, false⟩
  | .EVENTS_timed_snap => ⟨0x2C, 0, 1, 2, 1, .rw1c, .ns, 0, 0xFF, 0, 0, false⟩
  | .EVENTS_timed_start => ⟨0x2C, 0, 1, 1, 1, .rw1c, .ns, 0, 0xFF, 0, 0, false⟩
  | .EVENTS_overflow => ⟨0x2C, 0, 1, 0, 1, .rw1c, .ns, 0, 0xFF, 0, 0, false⟩
  | .EVENTS_INT_enable => ⟨0x30, 0, 1, 0, 4, .rw, .ns, 0, 0xFF, 0, 0, false⟩
  | .CTR_CFG_secure => ⟨0x40, 16, 8, 31, 1, .rw, .swnr, 0, 0xFF, 0, 0, false⟩
  | .CTR_CFG_host_visible => ⟨0x40, 16, 8, 30, 1, .rw, .ns, 0, 0xFF, 0, 0, false⟩
  | .CTR_CFG_running => ⟨0x40, 16, 8, 29, 1, .ro, .ns, 0, 0xFF, 0, 0, false⟩
  | .CTR_SEL_selector => ⟨0x44, 16, 8, 0, 32, .rw, .ns, 100663296, 0xFF, 0, 0, true⟩
  | .CTR => ⟨0x48, 16, 8, 0, 64, .rw, .ns, 0, 0xFF, 0, 0, true⟩
  | .SNAP_RUN_running => ⟨0x148, 0, 1, 0, 8, .ro, .ns, 0, 0xFF, 0, 0, false⟩

/-- Fields of RST (block 0x07, spec/23). -/
inductive RstF where
  | CAUSE_sources | SRC_MAP_level | STRAP_valid | STRAP_role | STRAP_boot_device | STRAP_recovery 
  | STRAP_mfg_test | STRAP_ratio | STRAP_code | CMD_op | CMD_cd | DIE_STATE_dies | CD_RESETS_count 
  | EVENTS_cd_held_out | EVENTS_cmd_refused | EVENTS_die_reset | EVENTS_channel_reset | EVENTS_INT_enable 
  | WDT_CFG_timeout_ms | WDT_KICK_kick 
  deriving DecidableEq, Repr

def RstF.all : List RstF :=
  [.CAUSE_sources, .SRC_MAP_level, .STRAP_valid, .STRAP_role, .STRAP_boot_device, .STRAP_recovery, 
   .STRAP_mfg_test, .STRAP_ratio, .STRAP_code, .CMD_op, .CMD_cd, .DIE_STATE_dies, .CD_RESETS_count, 
   .EVENTS_cd_held_out, .EVENTS_cmd_refused, .EVENTS_die_reset, .EVENTS_channel_reset, .EVENTS_INT_enable, 
   .WDT_CFG_timeout_ms, .WDT_KICK_kick]

def RstF.spec : RstF → FldSpec
  | .CAUSE_sources => ⟨0x0, 0, 1, 0, 10, .ro, .swnr, 1, 0x80, 0, 0, false⟩
  | .SRC_MAP_level => ⟨0x4, 0, 1, 0, 20, .ro, .ns, 457040, 0x80, 0, 0, false⟩
  | .STRAP_valid => ⟨0x8, 0, 1, 31, 1, .ro, .ns, 0, 0x80, 0, 0, false⟩
  | .STRAP_role => ⟨0x8, 0, 1, 29, 2, .ro, .ns, 0, 0x80, 0, 0, false⟩
  | .STRAP_boot_device => ⟨0x8, 0, 1, 28, 1, .ro, .ns, 0, 0x80, 0, 0, false⟩
  | .STRAP_recovery => ⟨0x8, 0, 1, 27, 1, .ro, .ns, 0, 0x80, 0, 0, false⟩
  | .STRAP_mfg_test => ⟨0x8, 0, 1, 26, 1, .ro, .ns, 0, 0x80, 0, 0, false⟩
  | .STRAP_ratio => ⟨0x8, 0, 1, 12, 12, .ro, .ns, 0, 0x80, 0, 0, false⟩
  | .STRAP_code => ⟨0x8, 0, 1, 0, 4, .ro, .ns, 0, 0x80, 0, 0, false⟩
  | .CMD_op => ⟨0xC, 0, 1, 30, 2, .wo, .s, 0, 0x80, 0, 0, false⟩
  | .CMD_cd => ⟨0xC, 0, 1, 0, 3, .wo, .s, 0, 0x80, 0, 0, false⟩
  | .DIE_STATE_dies => ⟨0x10, 0, 1, 0, 32, .ro, .ns, 17895697, 0x80, 0, 0, false⟩
  | .CD_RESETS_count => ⟨0x1C, 0, 1, 0, 24, .ro, .ns, 0, 0x80, 0, 0, false⟩
  | .EVENTS_cd_held_out => ⟨0x14, 0, 1, 3, 1, .rw1c, .ns, 0, 0x80, 0, 0, false⟩
  | .EVENTS_cmd_refused => ⟨0x14, 0, 1, 2, 1, .rw1c, .ns, 0, 0x80, 0, 0, false⟩
  | .EVENTS_die_reset => ⟨0x14, 0, 1, 1, 1, .rw1c, .ns, 0, 0x80, 0, 0, false⟩
  | .EVENTS_channel_reset => ⟨0x14, 0, 1, 0, 1, .rw1c, .ns, 0, 0x80, 0, 0, false⟩
  | .EVENTS_INT_enable => ⟨0x18, 0, 1, 0, 4, .rw, .ns, 0, 0x80, 0, 0, false⟩
  | .WDT_CFG_timeout_ms => ⟨0x20, 0, 1, 0, 16, .rw, .swnr, 1000, 0x7E, 10, 60000, false⟩
  | .WDT_KICK_kick => ⟨0x24, 0, 1, 0, 1, .wo, .ns, 0, 0x7E, 0, 0, false⟩

/-- Fields of CLK (block 0x08, spec/23). -/
inductive ClkF where
  | STATUS_pll_lock | STATUS_ref10m_ok | STATUS_drv_ref_ok | STATUS_ep_ref_ok | STATUS_ref156_ok 
  | STATUS_xtal_ok | EVENTS_pll_unlock | EVENTS_drv_ref_lost | EVENTS_ep_ref_lost | EVENTS_ref156_lost 
  | EVENTS_xtal_out_of_range | EVENTS_INT_enable | PPM_valid | PPM_offset 
  deriving DecidableEq, Repr

def ClkF.all : List ClkF :=
  [.STATUS_pll_lock, .STATUS_ref10m_ok, .STATUS_drv_ref_ok, .STATUS_ep_ref_ok, .STATUS_ref156_ok, 
   .STATUS_xtal_ok, .EVENTS_pll_unlock, .EVENTS_drv_ref_lost, .EVENTS_ep_ref_lost, .EVENTS_ref156_lost, 
   .EVENTS_xtal_out_of_range, .EVENTS_INT_enable, .PPM_valid, .PPM_offset]

def ClkF.spec : ClkF → FldSpec
  | .STATUS_pll_lock => ⟨0x0, 0, 1, 5, 1, .ro, .ns, 0, 0xFF, 0, 0, false⟩
  | .STATUS_ref10m_ok => ⟨0x0, 0, 1, 4, 1, .ro, .ns, 0, 0xFF, 0, 0, false⟩
  | .STATUS_drv_ref_ok => ⟨0x0, 0, 1, 3, 1, .ro, .ns, 0, 0xFF, 0, 0, false⟩
  | .STATUS_ep_ref_ok => ⟨0x0, 0, 1, 2, 1, .ro, .ns, 0, 0xFF, 0, 0, false⟩
  | .STATUS_ref156_ok => ⟨0x0, 0, 1, 1, 1, .ro, .ns, 0, 0xFF, 0, 0, false⟩
  | .STATUS_xtal_ok => ⟨0x0, 0, 1, 0, 1, .ro, .ns, 0, 0xFF, 0, 0, false⟩
  | .EVENTS_pll_unlock => ⟨0x4, 0, 1, 4, 1, .rw1c, .ns, 0, 0xFF, 0, 0, false⟩
  | .EVENTS_drv_ref_lost => ⟨0x4, 0, 1, 3, 1, .rw1c, .ns, 0, 0xFF, 0, 0, false⟩
  | .EVENTS_ep_ref_lost => ⟨0x4, 0, 1, 2, 1, .rw1c, .ns, 0, 0xFF, 0, 0, false⟩
  | .EVENTS_ref156_lost => ⟨0x4, 0, 1, 1, 1, .rw1c, .ns, 0, 0xFF, 0, 0, false⟩
  | .EVENTS_xtal_out_of_range => ⟨0x4, 0, 1, 0, 1, .rw1c, .ns, 0, 0xFF, 0, 0, false⟩
  | .EVENTS_INT_enable => ⟨0x8, 0, 1, 0, 5, .rw, .ns, 0, 0xFF, 0, 0, false⟩
  | .PPM_valid => ⟨0x10, 4, 5, 31, 1, .ro, .ns, 0, 0xFF, 0, 0, false⟩
  | .PPM_offset => ⟨0x10, 4, 5, 0, 16, .ro, .ns, 0, 0xFF, 0, 0, false⟩

/-- Fields of PWR (block 0x09, spec/23). -/
inductive PwrF where
  | STATUS_seq_step | STATUS_enabled | STATUS_pgood | LOOP_CFG_target_hi_pct | LOOP_CFG_target_lo_pct 
  | LOOP_CFG_emerg_pct | LOOP_CFG_step_mv | LOOP_CFG2_interval_us | LOOP_CFG2_down_count | LOOP_CFG2_hold 
  | EVENTS_avs_fault | EVENTS_emergency | EVENTS_at_vmax | EVENTS_recal_done | EVENTS_INT_enable 
  | D_VOLT_read_mv | D_VOLT_set_mv | D_SLACK_min_pct | D_SLACK_avs_fault | D_SLACK_stretches | D_LIMITS_vmax_mv 
  | D_LIMITS_vmin_mv | D_CAL_next | D_CAL_done 
  deriving DecidableEq, Repr

def PwrF.all : List PwrF :=
  [.STATUS_seq_step, .STATUS_enabled, .STATUS_pgood, .LOOP_CFG_target_hi_pct, .LOOP_CFG_target_lo_pct, 
   .LOOP_CFG_emerg_pct, .LOOP_CFG_step_mv, .LOOP_CFG2_interval_us, .LOOP_CFG2_down_count, .LOOP_CFG2_hold, 
   .EVENTS_avs_fault, .EVENTS_emergency, .EVENTS_at_vmax, .EVENTS_recal_done, .EVENTS_INT_enable, 
   .D_VOLT_read_mv, .D_VOLT_set_mv, .D_SLACK_min_pct, .D_SLACK_avs_fault, .D_SLACK_stretches, .D_LIMITS_vmax_mv, 
   .D_LIMITS_vmin_mv, .D_CAL_next, .D_CAL_done]

def PwrF.spec : PwrF → FldSpec
  | .STATUS_seq_step => ⟨0x0, 0, 1, 28, 4, .ro, .ns, 0, 0x80, 0, 0, false⟩
  | .STATUS_enabled => ⟨0x0, 0, 1, 8, 5, .ro, .ns, 0, 0x80, 0, 0, false⟩
  | .STATUS_pgood => ⟨0x0, 0, 1, 0, 5, .ro, .ns, 0, 0x80, 0, 0, false⟩
  | .LOOP_CFG_target_hi_pct => ⟨0x4, 0, 1, 24, 8, .rw, .swnr, 10, 0x80, 2, 30, false⟩
  | .LOOP_CFG_target_lo_pct => ⟨0x4, 0, 1, 16, 8, .rw, .swnr, 6, 0x80, 1, 29, false⟩
  | .LOOP_CFG_emerg_pct => ⟨0x4, 0, 1, 8, 8, .rw, .swnr, 2, 0x80, 0, 0, false⟩
  | .LOOP_CFG_step_mv => ⟨0x4, 0, 1, 0, 8, .rw, .swnr, 5, 0x80, 1, 20, false⟩
  | .LOOP_CFG2_interval_us => ⟨0x8, 0, 1, 16, 16, .rw, .swnr, 10, 0x80, 5, 100, false⟩
  | .LOOP_CFG2_down_count => ⟨0x8, 0, 1, 8, 8, .rw, .swnr, 8, 0x80, 1, 64, false⟩
  | .LOOP_CFG2_hold => ⟨0x8, 0, 1, 0, 1, .rw, .swnr, 0, 0x80, 0, 0, false⟩
  | .EVENTS_avs_fault => ⟨0xC, 0, 1, 3, 1, .rw1c, .ns, 0, 0x80, 0, 0, false⟩
  | .EVENTS_emergency => ⟨0xC, 0, 1, 2, 1, .rw1c, .ns, 0, 0x80, 0, 0, false⟩
  | .EVENTS_at_vmax => ⟨0xC, 0, 1, 1, 1, .rw1c, .ns, 0, 0x80, 0, 0, false⟩
  | .EVENTS_recal_done => ⟨0xC, 0, 1, 0, 1, .rw1c, .ns, 0, 0x80, 0, 0, false⟩
  | .EVENTS_INT_enable => ⟨0x10, 0, 1, 0, 4, .rw, .ns, 0, 0x80, 0, 0, false⟩
  | .D_VOLT_read_mv => ⟨0x100, 16, 7, 16, 16, .ro, .ns, 0, 0x80, 0, 0, false⟩
  | .D_VOLT_set_mv => ⟨0x100, 16, 7, 0, 16, .ro, .ns, 0, 0x80, 0, 0, false⟩
  | .D_SLACK_min_pct => ⟨0x104, 16, 7, 24, 8, .ro, .ns, 0, 0x80, 0, 0, false⟩
  | .D_SLACK_avs_fault => ⟨0x104, 16, 7, 16, 1, .ro, .ns, 0, 0x80, 0, 0, false⟩
  | .D_SLACK_stretches => ⟨0x104, 16, 7, 0, 16, .ro, .ns, 0, 0x80, 0, 0, false⟩
  | .D_LIMITS_vmax_mv => ⟨0x108, 16, 7, 16, 16, .ro, .ns, 900, 0x80, 0, 0, false⟩
  | .D_LIMITS_vmin_mv => ⟨0x108, 16, 7, 0, 16, .ro, .ns, 680, 0x80, 0, 0, false⟩
  | .D_CAL_next => ⟨0x10C, 16, 7, 8, 8, .ro, .ns, 0, 0x80, 0, 0, false⟩
  | .D_CAL_done => ⟨0x10C, 16, 7, 0, 8, .ro, .ns, 0, 0x80, 0, 0, false⟩

/-- Fields of LAT (block 0x0A, spec/23). -/
inductive LatF where
  | STATUS_pair_ring | STATUS_missed_markers | STATUS_over_budget | STATUS_ring_dies | EVENTS_misaligned 
  | EVENTS_ring_opened | EVENTS_ring_break | EVENTS_unavailable | EVENTS_absent | EVENTS_INT_enable 
  | ERR_ADDR_LO_addr | ERR_ADDR_HI_addr | RTT_rtt_ns | HOP_DELAY_delay_ps 
  deriving DecidableEq, Repr

def LatF.all : List LatF :=
  [.STATUS_pair_ring, .STATUS_missed_markers, .STATUS_over_budget, .STATUS_ring_dies, .EVENTS_misaligned, 
   .EVENTS_ring_opened, .EVENTS_ring_break, .EVENTS_unavailable, .EVENTS_absent, .EVENTS_INT_enable, 
   .ERR_ADDR_LO_addr, .ERR_ADDR_HI_addr, .RTT_rtt_ns, .HOP_DELAY_delay_ps]

def LatF.spec : LatF → FldSpec
  | .STATUS_pair_ring => ⟨0x0, 0, 1, 31, 1, .ro, .ns, 0, 0xFF, 0, 0, false⟩
  | .STATUS_missed_markers => ⟨0x0, 0, 1, 16, 8, .ro, .ns, 0, 0xFF, 0, 0, false⟩
  | .STATUS_over_budget => ⟨0x0, 0, 1, 8, 8, .ro, .ns, 0, 0xFF, 0, 0, false⟩
  | .STATUS_ring_dies => ⟨0x0, 0, 1, 3, 5, .ro, .ns, 0, 0xFF, 0, 0, false⟩
  | .EVENTS_misaligned => ⟨0x4, 0, 1, 4, 1, .rw1c, .ns, 0, 0xFF, 0, 0, false⟩
  | .EVENTS_ring_opened => ⟨0x4, 0, 1, 3, 1, .rw1c, .ns, 0, 0xFF, 0, 0, false⟩
  | .EVENTS_ring_break => ⟨0x4, 0, 1, 2, 1, .rw1c, .ns, 0, 0xFF, 0, 0, false⟩
  | .EVENTS_unavailable => ⟨0x4, 0, 1, 1, 1, .rw1c, .ns, 0, 0xFF, 0, 0, false⟩
  | .EVENTS_absent => ⟨0x4, 0, 1, 0, 1, .rw1c, .ns, 0, 0xFF, 0, 0, false⟩
  | .EVENTS_INT_enable => ⟨0x8, 0, 1, 0, 5, .rw, .ns, 0, 0xFF, 0, 0, false⟩
  | .ERR_ADDR_LO_addr => ⟨0xC, 0, 1, 0, 32, .ro, .ns, 0, 0xFF, 0, 0, false⟩
  | .ERR_ADDR_HI_addr => ⟨0x10, 0, 1, 0, 8, .ro, .ns, 0, 0xFF, 0, 0, false⟩
  | .RTT_rtt_ns => ⟨0x14, 0, 1, 0, 32, .ro, .ns, 0, 0x80, 0, 0, false⟩
  | .HOP_DELAY_delay_ps => ⟨0x18, 0, 1, 0, 16, .ro, .ns, 0, 0xFF, 0, 0, false⟩

/-- Fields of ETH (block 0x10, spec/05). -/
inductive EthF where
  | LINK_SUMMARY_up | OVF_SUMMARY_any | SNAP_CTRL_done | SNAP_CTRL_go | SNAP_CTRL_port 
  | PORT_STATUS_lanes_locked | PORT_STATUS_fec_degraded | PORT_STATUS_preempt_active | PORT_STATUS_speed 
  | PORT_STATUS_link_state | PORT_CFG_max_frame | PORT_CFG_speed | PORT_CFG_default_pcp | PORT_CFG_vlan 
  | PORT_FLAGS_flags | PREEMPT_CFG_verify_time_ms | PREEMPT_CFG_add_frag_size | PREEMPT_STATUS_verify_state 
  | FEC_CFG_deg_thr | CNT_OVF_ovf | CNT_OVF_INT_enable | MAC_LO_mac | MAC_HI_mac | IPV4_addr | IPV6_addr 
  deriving DecidableEq, Repr

def EthF.all : List EthF :=
  [.LINK_SUMMARY_up, .OVF_SUMMARY_any, .SNAP_CTRL_done, .SNAP_CTRL_go, .SNAP_CTRL_port, 
   .PORT_STATUS_lanes_locked, .PORT_STATUS_fec_degraded, .PORT_STATUS_preempt_active, .PORT_STATUS_speed, 
   .PORT_STATUS_link_state, .PORT_CFG_max_frame, .PORT_CFG_speed, .PORT_CFG_default_pcp, .PORT_CFG_vlan, 
   .PORT_FLAGS_flags, .PREEMPT_CFG_verify_time_ms, .PREEMPT_CFG_add_frag_size, .PREEMPT_STATUS_verify_state, 
   .FEC_CFG_deg_thr, .CNT_OVF_ovf, .CNT_OVF_INT_enable, .MAC_LO_mac, .MAC_HI_mac, .IPV4_addr, .IPV6_addr]

def EthF.spec : EthF → FldSpec
  | .LINK_SUMMARY_up => ⟨0x0, 0, 1, 0, 32, .ro, .ns, 0, 0x01, 0, 0, false⟩
  | .OVF_SUMMARY_any => ⟨0x4, 0, 1, 0, 32, .ro, .ns, 0, 0x01, 0, 0, false⟩
  | .SNAP_CTRL_done => ⟨0x8, 0, 1, 9, 1, .ro, .ns, 0, 0x01, 0, 0, false⟩
  | .SNAP_CTRL_go => ⟨0x8, 0, 1, 8, 1, .wo, .ns, 0, 0x01, 0, 0, false⟩
  | .SNAP_CTRL_port => ⟨0x8, 0, 1, 0, 5, .rw, .ns, 0, 0x01, 0, 31, false⟩
  | .PORT_STATUS_lanes_locked => ⟨0x1000, 256, 32, 8, 8, .ro, .ns, 0, 0x01, 0, 0, false⟩
  | .PORT_STATUS_fec_degraded => ⟨0x1000, 256, 32, 7, 1, .ro, .ns, 0, 0x01, 0, 0, false⟩
  | .PORT_STATUS_preempt_active => ⟨0x1000, 256, 32, 6, 1, .ro, .ns, 0, 0x01, 0, 0, false⟩
  | .PORT_STATUS_speed => ⟨0x1000, 256, 32, 4, 2, .ro, .ns, 0, 0x01, 0, 0, false⟩
  | .PORT_STATUS_link_state => ⟨0x1000, 256, 32, 0, 3, .ro, .ns, 0, 0x01, 0, 0, false⟩
  | .PORT_CFG_max_frame => ⟨0x1004, 256, 32, 18, 14, .rw, .swnr, 1518, 0x01, 1518, 9216, false⟩
  | .PORT_CFG_speed => ⟨0x1004, 256, 32, 16, 2, .rw, .swnr, 0, 0x01, 0, 0, false⟩
  | .PORT_CFG_default_pcp => ⟨0x1004, 256, 32, 13, 3, .rw, .swnr, 0, 0x01, 0, 7, false⟩
  | .PORT_CFG_vlan => ⟨0x1004, 256, 32, 0, 12, .rw, .swnr, 0, 0x01, 0, 4094, false⟩
  | .PORT_FLAGS_flags => ⟨0x1008, 256, 32, 0, 4, .rw, .swnr, 0, 0x01, 0, 0, false⟩
  | .PREEMPT_CFG_verify_time_ms => ⟨0x100C, 256, 32, 8, 8, .rw, .swnr, 10, 0x01, 1, 128, false⟩
  | .PREEMPT_CFG_add_frag_size => ⟨0x100C, 256, 32, 0, 2, .rw, .swnr, 0, 0x01, 0, 3, false⟩
  | .PREEMPT_STATUS_verify_state => ⟨0x1010, 256, 32, 0, 2, .ro, .ns, 0, 0x01, 0, 0, false⟩
  | .FEC_CFG_deg_thr => ⟨0x1014, 256, 32, 0, 16, .rw, .swnr, 4096, 0x01, 0, 0, false⟩
  | .CNT_OVF_ovf => ⟨0x1018, 256, 32, 0, 32, .rw1c, .ns, 0, 0x01, 0, 0, false⟩
  | .CNT_OVF_INT_enable => ⟨0x101C, 256, 32, 0, 32, .rw, .ns, 0, 0x01, 0, 0, false⟩
  | .MAC_LO_mac => ⟨0x1020, 256, 32, 0, 32, .ro, .ns, 0, 0x01, 0, 0, false⟩
  | .MAC_HI_mac => ⟨0x1024, 256, 32, 0, 16, .ro, .ns, 0, 0x01, 0, 0, false⟩
  | .IPV4_addr => ⟨0x1028, 256, 32, 0, 32, .ro, .ns, 0, 0x01, 0, 0, false⟩
  | .IPV6_addr => ⟨0x1030, 256, 32, 0, 128, .ro, .ns, 0, 0x01, 0, 0, false⟩

/-- Fields of SDS (block 0x11, spec/05). -/
inductive SdsF where
  | GROUP_CFG_medium | LT_CFG_train_limit_ms | RECAL_STATUS_next | LANE_STATUS_snr | LANE_STATUS_symerr_wrap 
  | LANE_STATUS_freeze_lost | LANE_STATUS_in_recal | LANE_STATUS_cdr_lock | LANE_STATUS_signal_detect 
  | LANE_STATUS_state | LANE_CTRL_snap | LANE_CTRL_tx_invert | LANE_CTRL_rx_invert | LANE_CTRL_freeze_dfe 
  | LANE_CTRL_freeze_ffe | LANE_CTRL_freeze_ctle | LANE_TXEQ_taps | LANE_RXEQ_ctle | LANE_RXEQ_dfe1 
  | LANE_SYMERR_count | LANE_FFE_taps 
  deriving DecidableEq, Repr

def SdsF.all : List SdsF :=
  [.GROUP_CFG_medium, .LT_CFG_train_limit_ms, .RECAL_STATUS_next, .LANE_STATUS_snr, .LANE_STATUS_symerr_wrap, 
   .LANE_STATUS_freeze_lost, .LANE_STATUS_in_recal, .LANE_STATUS_cdr_lock, .LANE_STATUS_signal_detect, 
   .LANE_STATUS_state, .LANE_CTRL_snap, .LANE_CTRL_tx_invert, .LANE_CTRL_rx_invert, .LANE_CTRL_freeze_dfe, 
   .LANE_CTRL_freeze_ffe, .LANE_CTRL_freeze_ctle, .LANE_TXEQ_taps, .LANE_RXEQ_ctle, .LANE_RXEQ_dfe1, 
   .LANE_SYMERR_count, .LANE_FFE_taps]

def SdsF.spec : SdsF → FldSpec
  | .GROUP_CFG_medium => ⟨0x0, 0, 1, 0, 10, .rw, .swnr, 0, 0x01, 0, 0, false⟩
  | .LT_CFG_train_limit_ms => ⟨0x4, 0, 1, 0, 16, .rw, .swnr, 1000, 0x01, 100, 2000, false⟩
  | .RECAL_STATUS_next => ⟨0x8, 0, 1, 0, 20, .ro, .ns, 0, 0x01, 0, 0, false⟩
  | .LANE_STATUS_snr => ⟨0x1000, 128, 40, 22, 10, .ro, .ns, 0, 0x01, 0, 0, false⟩
  | .LANE_STATUS_symerr_wrap => ⟨0x1000, 128, 40, 8, 1, .rw1c, .ns, 0, 0x01, 0, 0, false⟩
  | .LANE_STATUS_freeze_lost => ⟨0x1000, 128, 40, 7, 1, .rw1c, .ns, 0, 0x01, 0, 0, false⟩
  | .LANE_STATUS_in_recal => ⟨0x1000, 128, 40, 6, 1, .ro, .ns, 0, 0x01, 0, 0, false⟩
  | .LANE_STATUS_cdr_lock => ⟨0x1000, 128, 40, 5, 1, .ro, .ns, 0, 0x01, 0, 0, false⟩
  | .LANE_STATUS_signal_detect => ⟨0x1000, 128, 40, 4, 1, .ro, .ns, 0, 0x01, 0, 0, false⟩
  | .LANE_STATUS_state => ⟨0x1000, 128, 40, 0, 4, .ro, .ns, 0, 0x01, 0, 0, false⟩
  | .LANE_CTRL_snap => ⟨0x1004, 128, 40, 8, 1, .wo, .swnr, 0, 0x01, 0, 0, true⟩
  | .LANE_CTRL_tx_invert => ⟨0x1004, 128, 40, 7, 1, .rw, .swnr, 0, 0x01, 0, 0, false⟩
  | .LANE_CTRL_rx_invert => ⟨0x1004, 128, 40, 6, 1, .rw, .swnr, 0, 0x01, 0, 0, false⟩
  | .LANE_CTRL_freeze_dfe => ⟨0x1004, 128, 40, 2, 1, .rw, .swnr, 0, 0x01, 0, 0, true⟩
  | .LANE_CTRL_freeze_ffe => ⟨0x1004, 128, 40, 1, 1, .rw, .swnr, 0, 0x01, 0, 0, true⟩
  | .LANE_CTRL_freeze_ctle => ⟨0x1004, 128, 40, 0, 1, .rw, .swnr, 0, 0x01, 0, 0, true⟩
  | .LANE_TXEQ_taps => ⟨0x1008, 128, 40, 0, 30, .rw, .swnr, 4032, 0x01, 0, 0, true⟩
  | .LANE_RXEQ_ctle => ⟨0x100C, 128, 40, 8, 5, .rw, .swnr, 0, 0x01, 0, 31, true⟩
  | .LANE_RXEQ_dfe1 => ⟨0x100C, 128, 40, 0, 8, .rw, .swnr, 0, 0x01, 0, 0, true⟩
  | .LANE_SYMERR_count => ⟨0x1010, 128, 40, 0, 32, .ro, .ns, 0, 0x01, 0, 0, false⟩
  | .LANE_FFE_taps => ⟨0x1040, 128, 40, 0, 32, .rw, .swnr, 0, 0x01, 0, 0, true⟩

/-- Fields of SWX (block 0x12, spec/06). -/
inductive SwxF where
  | STATUS_cm_die | STATUS_cells_used | CFG_lossless_reserve | CFG_ct_min_cells | CFG_ct_enable 
  | LOOPBACK_enable | SNAP_CTRL_done | SNAP_CTRL_go | SNAP_CTRL_port | OUT_LIMIT_green_limit 
  | OUT_LIMIT_yellow_limit | OUT_LIMIT_red_limit | MCAST_GROUP_valid | MCAST_GROUP_members | CNT_OVF_ovf 
  | CNT_OVF_INT_enable 
  deriving DecidableEq, Repr

def SwxF.all : List SwxF :=
  [.STATUS_cm_die, .STATUS_cells_used, .CFG_lossless_reserve, .CFG_ct_min_cells, .CFG_ct_enable, 
   .LOOPBACK_enable, .SNAP_CTRL_done, .SNAP_CTRL_go, .SNAP_CTRL_port, .OUT_LIMIT_green_limit, 
   .OUT_LIMIT_yellow_limit, .OUT_LIMIT_red_limit, .MCAST_GROUP_valid, .MCAST_GROUP_members, .CNT_OVF_ovf, 
   .CNT_OVF_INT_enable]

def SwxF.spec : SwxF → FldSpec
  | .STATUS_cm_die => ⟨0x0, 0, 1, 18, 3, .ro, .ns, 0, 0x01, 0, 0, false⟩
  | .STATUS_cells_used => ⟨0x0, 0, 1, 0, 18, .ro, .ns, 0, 0x01, 0, 0, false⟩
  | .CFG_lossless_reserve => ⟨0x4, 0, 1, 8, 11, .rw, .swnr, 256, 0x01, 0, 2047, false⟩
  | .CFG_ct_min_cells => ⟨0x4, 0, 1, 1, 4, .rw, .swnr, 4, 0x01, 1, 15, false⟩
  | .CFG_ct_enable => ⟨0x4, 0, 1, 0, 1, .rw, .swnr, 1, 0x01, 0, 0, false⟩
  | .LOOPBACK_enable => ⟨0x8, 0, 1, 0, 1, .rw, .s, 0, 0x01, 0, 0, true⟩
  | .SNAP_CTRL_done => ⟨0xC, 0, 1, 9, 1, .ro, .ns, 0, 0x01, 0, 0, false⟩
  | .SNAP_CTRL_go => ⟨0xC, 0, 1, 8, 1, .wo, .ns, 0, 0x01, 0, 0, false⟩
  | .SNAP_CTRL_port => ⟨0xC, 0, 1, 0, 4, .rw, .ns, 0, 0x01, 0, 15, false⟩
  | .OUT_LIMIT_green_limit => ⟨0x40, 4, 16, 20, 10, .rw, .swnr, 192, 0x01, 1, 768, true⟩
  | .OUT_LIMIT_yellow_limit => ⟨0x40, 4, 16, 10, 10, .rw, .swnr, 128, 0x01, 0, 0, true⟩
  | .OUT_LIMIT_red_limit => ⟨0x40, 4, 16, 0, 10, .rw, .swnr, 64, 0x01, 0, 0, true⟩
  | .MCAST_GROUP_valid => ⟨0x80, 4, 32, 31, 1, .rw, .swnr, 0, 0x01, 0, 0, true⟩
  | .MCAST_GROUP_members => ⟨0x80, 4, 32, 0, 16, .rw, .swnr, 0, 0x01, 0, 0, true⟩
  | .CNT_OVF_ovf => ⟨0x100, 4, 16, 0, 11, .rw1c, .ns, 0, 0x01, 0, 0, false⟩
  | .CNT_OVF_INT_enable => ⟨0x140, 4, 16, 0, 11, .rw, .ns, 0, 0x01, 0, 0, false⟩

/-- Fields of POL (block 0x13, spec/06). -/
inductive PolF where
  | SNAP_CTRL_policer | SNAP_CTRL_done | SNAP_CTRL_go | SNAP_CTRL_clear_ovf | SNAP_CTRL_ovf | OVF_SUMMARY_any 
  | OVF_SUMMARY_lowest 
  deriving DecidableEq, Repr

def PolF.all : List PolF :=
  [.SNAP_CTRL_policer, .SNAP_CTRL_done, .SNAP_CTRL_go, .SNAP_CTRL_clear_ovf, .SNAP_CTRL_ovf, .OVF_SUMMARY_any, 
   .OVF_SUMMARY_lowest]

def PolF.spec : PolF → FldSpec
  | .SNAP_CTRL_policer => ⟨0x0, 0, 1, 21, 11, .wo, .ns, 0, 0x01, 0, 0, false⟩
  | .SNAP_CTRL_done => ⟨0x0, 0, 1, 19, 1, .ro, .ns, 0, 0x01, 0, 0, false⟩
  | .SNAP_CTRL_go => ⟨0x0, 0, 1, 18, 1, .wo, .ns, 0, 0x01, 0, 0, false⟩
  | .SNAP_CTRL_clear_ovf => ⟨0x0, 0, 1, 17, 1, .wo, .ns, 0, 0x01, 0, 0, false⟩
  | .SNAP_CTRL_ovf => ⟨0x0, 0, 1, 9, 8, .ro, .ns, 0, 0x01, 0, 0, false⟩
  | .OVF_SUMMARY_any => ⟨0x4, 0, 1, 11, 1, .ro, .ns, 0, 0x01, 0, 0, false⟩
  | .OVF_SUMMARY_lowest => ⟨0x4, 0, 1, 0, 11, .ro, .ns, 0, 0x01, 0, 0, false⟩

/-- Fields of SCH (block 0x14, spec/06). -/
inductive SchF where
  | EXPRESS_classes | GATE_DROP_OVF_ovf | GATE_STATE_running | GATE_STATE_hold | GATE_STATE_list 
  | GATE_STATE_entry | GATE_STATE_open | GATE_DROP_count | STALE_DROP_count 
  deriving DecidableEq, Repr

def SchF.all : List SchF :=
  [.EXPRESS_classes, .GATE_DROP_OVF_ovf, .GATE_STATE_running, .GATE_STATE_hold, .GATE_STATE_list, 
   .GATE_STATE_entry, .GATE_STATE_open, .GATE_DROP_count, .STALE_DROP_count]

def SchF.spec : SchF → FldSpec
  | .EXPRESS_classes => ⟨0x0, 0, 1, 0, 8, .ro, .ns, 192, 0x01, 0, 0, false⟩
  | .GATE_DROP_OVF_ovf => ⟨0x4, 0, 1, 0, 32, .rw1c, .ns, 0, 0x01, 0, 0, false⟩
  | .GATE_STATE_running => ⟨0x100, 4, 32, 18, 1, .ro, .ns, 0, 0x01, 0, 0, false⟩
  | .GATE_STATE_hold => ⟨0x100, 4, 32, 17, 1, .ro, .ns, 0, 0x01, 0, 0, false⟩
  | .GATE_STATE_list => ⟨0x100, 4, 32, 16, 1, .ro, .ns, 0, 0x01, 0, 0, false⟩
  | .GATE_STATE_entry => ⟨0x100, 4, 32, 8, 8, .ro, .ns, 0, 0x01, 0, 0, false⟩
  | .GATE_STATE_open => ⟨0x100, 4, 32, 0, 8, .ro, .ns, 255, 0x01, 0, 0, false⟩
  | .GATE_DROP_count => ⟨0x180, 4, 32, 0, 32, .ro, .ns, 0, 0x01, 0, 0, false⟩
  | .STALE_DROP_count => ⟨0x200, 4, 32, 0, 32, .ro, .ns, 0, 0x01, 0, 0, false⟩

/-- Fields of EPF (block 0x15, spec/18). -/
inductive EpfF where
  | STATUS_data_presence | STATUS_configured | STATUS_link_state | STATUS_speed | STATUS_width 
  | STATUS_l0p_width | STATUS_perst | STATUS_wake | STATUS_num_vfs | EVENTS_wake | EVENTS_cfs 
  | EVENTS_unexpected_completion | EVENTS_late_completion | EVENTS_completion_timeout | EVENTS_function_stopped 
  | EVENTS_link_down | EVENTS_counter_wrap | EVENTS_INT_enable | SNAP_CTRL_done | SNAP_CTRL_go | CNT_OVF_ovf 
  | CNT_OVF_INT_enable | IDS_subsys_vendor | IDS_vendor | IDS2_subsys_id | IDS2_device | LAND_BASE 
  | LAND_STATUS_valid | LAND_STATUS_used | F_CFG_enabled | F_CFG_host_id | F_STATE_dstate | F_STATE_bme 
  | F_STATE_mse | F_STATE_cc_en | F_STATE_rdy | F_STATE_cfs | F_STATE_stopping | F_STATE_shst 
  | F_STATE_io_queues | F_STATE_in_flight 
  deriving DecidableEq, Repr

def EpfF.all : List EpfF :=
  [.STATUS_data_presence, .STATUS_configured, .STATUS_link_state, .STATUS_speed, .STATUS_width, 
   .STATUS_l0p_width, .STATUS_perst, .STATUS_wake, .STATUS_num_vfs, .EVENTS_wake, .EVENTS_cfs, 
   .EVENTS_unexpected_completion, .EVENTS_late_completion, .EVENTS_completion_timeout, .EVENTS_function_stopped, 
   .EVENTS_link_down, .EVENTS_counter_wrap, .EVENTS_INT_enable, .SNAP_CTRL_done, .SNAP_CTRL_go, .CNT_OVF_ovf, 
   .CNT_OVF_INT_enable, .IDS_subsys_vendor, .IDS_vendor, .IDS2_subsys_id, .IDS2_device, .LAND_BASE, 
   .LAND_STATUS_valid, .LAND_STATUS_used, .F_CFG_enabled, .F_CFG_host_id, .F_STATE_dstate, .F_STATE_bme, 
   .F_STATE_mse, .F_STATE_cc_en, .F_STATE_rdy, .F_STATE_cfs, .F_STATE_stopping, .F_STATE_shst, 
   .F_STATE_io_queues, .F_STATE_in_flight]

def EpfF.spec : EpfF → FldSpec
  | .STATUS_data_presence => ⟨0x0, 0, 1, 31, 1, .ro, .ns, 0, 0x01, 0, 0, false⟩
  | .STATUS_configured => ⟨0x0, 0, 1, 30, 1, .ro, .ns, 0, 0x01, 0, 0, false⟩
  | .STATUS_link_state => ⟨0x0, 0, 1, 27, 3, .ro, .ns, 0, 0x01, 0, 0, false⟩
  | .STATUS_speed => ⟨0x0, 0, 1, 23, 4, .ro, .ns, 0, 0x01, 0, 0, false⟩
  | .STATUS_width => ⟨0x0, 0, 1, 18, 5, .ro, .ns, 0, 0x01, 0, 0, false⟩
  | .STATUS_l0p_width => ⟨0x0, 0, 1, 13, 5, .ro, .ns, 0, 0x01, 0, 0, false⟩
  | .STATUS_perst => ⟨0x0, 0, 1, 12, 1, .ro, .ns, 0, 0x01, 0, 0, false⟩
  | .STATUS_wake => ⟨0x0, 0, 1, 11, 1, .ro, .ns, 0, 0x01, 0, 0, false⟩
  | .STATUS_num_vfs => ⟨0x0, 0, 1, 0, 6, .ro, .ns, 0, 0x01, 0, 0, false⟩
  | .EVENTS_wake => ⟨0x4, 0, 1, 7, 1, .rw1c, .ns, 0, 0x01, 0, 0, false⟩
  | .EVENTS_cfs => ⟨0x4, 0, 1, 6, 1, .rw1c, .ns, 0, 0x01, 0, 0, false⟩
  | .EVENTS_unexpected_completion => ⟨0x4, 0, 1, 5, 1, .rw1c, .ns, 0, 0x01, 0, 0, false⟩
  | .EVENTS_late_completion => ⟨0x4, 0, 1, 4, 1, .rw1c, .ns, 0, 0x01, 0, 0, false⟩
  | .EVENTS_completion_timeout => ⟨0x4, 0, 1, 3, 1, .rw1c, .ns, 0, 0x01, 0, 0, false⟩
  | .EVENTS_function_stopped => ⟨0x4, 0, 1, 2, 1, .rw1c, .ns, 0, 0x01, 0, 0, false⟩
  | .EVENTS_link_down => ⟨0x4, 0, 1, 1, 1, .rw1c, .ns, 0, 0x01, 0, 0, false⟩
  | .EVENTS_counter_wrap => ⟨0x4, 0, 1, 0, 1, .rw1c, .ns, 0, 0x01, 0, 0, false⟩
  | .EVENTS_INT_enable => ⟨0x8, 0, 1, 0, 8, .rw, .ns, 0, 0x01, 0, 0, false⟩
  | .SNAP_CTRL_done => ⟨0xC, 0, 1, 9, 1, .ro, .ns, 0, 0x01, 0, 0, false⟩
  | .SNAP_CTRL_go => ⟨0xC, 0, 1, 8, 1, .wo, .ns, 0, 0x01, 0, 0, false⟩
  | .CNT_OVF_ovf => ⟨0x10, 0, 1, 0, 14, .rw1c, .ns, 0, 0x01, 0, 0, false⟩
  | .CNT_OVF_INT_enable => ⟨0x14, 0, 1, 0, 14, .rw, .ns, 0, 0x01, 0, 0, false⟩
  | .IDS_subsys_vendor => ⟨0x18, 0, 1, 16, 16, .ro, .ns, 0, 0x01, 0, 0, false⟩
  | .IDS_vendor => ⟨0x18, 0, 1, 0, 16, .ro, .ns, 0, 0x01, 0, 0, false⟩
  | .IDS2_subsys_id => ⟨0x1C, 0, 1, 16, 16, .ro, .ns, 0, 0x01, 0, 0, false⟩
  | .IDS2_device => ⟨0x1C, 0, 1, 0, 16, .ro, .ns, 18438, 0x01, 0, 0, false⟩
  | .LAND_BASE => ⟨0x40, 0, 1, 0, 64, .rw, .ns, 0, 0x7E, 0, 0, false⟩
  | .LAND_STATUS_valid => ⟨0x48, 0, 1, 31, 1, .ro, .ns, 0, 0x7E, 0, 0, false⟩
  | .LAND_STATUS_used => ⟨0x48, 0, 1, 0, 15, .ro, .ns, 0, 0x7E, 0, 0, false⟩
  | .F_CFG_enabled => ⟨0x200, 8, 64, 31, 1, .rw, .swnr, 0, 0x01, 0, 0, false⟩
  | .F_CFG_host_id => ⟨0x200, 8, 64, 0, 10, .rw, .swnr, 0, 0x01, 0, 1023, false⟩
  | .F_STATE_dstate => ⟨0x204, 8, 64, 30, 2, .ro, .ns, 0, 0x01, 0, 0, false⟩
  | .F_STATE_bme => ⟨0x204, 8, 64, 29, 1, .ro, .ns, 0, 0x01, 0, 0, false⟩
  | .F_STATE_mse => ⟨0x204, 8, 64, 28, 1, .ro, .ns, 0, 0x01, 0, 0, false⟩
  | .F_STATE_cc_en => ⟨0x204, 8, 64, 27, 1, .ro, .ns, 0, 0x01, 0, 0, false⟩
  | .F_STATE_rdy => ⟨0x204, 8, 64, 26, 1, .ro, .ns, 0, 0x01, 0, 0, false⟩
  | .F_STATE_cfs => ⟨0x204, 8, 64, 25, 1, .ro, .ns, 0, 0x01, 0, 0, false⟩
  | .F_STATE_stopping => ⟨0x204, 8, 64, 24, 1, .ro, .ns, 0, 0x01, 0, 0, false⟩
  | .F_STATE_shst => ⟨0x204, 8, 64, 22, 2, .ro, .ns, 0, 0x01, 0, 0, false⟩
  | .F_STATE_io_queues => ⟨0x204, 8, 64, 16, 6, .ro, .ns, 0, 0x01, 0, 0, false⟩
  | .F_STATE_in_flight => ⟨0x204, 8, 64, 0, 15, .ro, .ns, 0, 0x01, 0, 0, false⟩

/-- Fields of RDX (block 0x20, spec/07). -/
inductive RdxF where
  | STATUS_contexts_open | STATUS_slots_used | CFG_max_slots | CFG_ack_coalesce | CFG_ack_delay_ns 
  | CC_CFG_cnp_interval_us | CC_CFG_min_rate_mbps | CC_CFG2_recover_us | CC_CFG2_ai_mbps | REGION_RANGE_last 
  | REGION_RANGE_first | CHAIN_BASE | CONN_CMD_op | CONN_CMD_conn | CONN_STATUS_drained | CONN_STATUS_busy 
  | CONN_STATUS_result | REG_CMD_op | REG_CMD_index | REG_STATUS_result | REVOKE_DONE_valid | REVOKE_DONE_lost 
  | REVOKE_DONE_index | CHAIN_FAIL_valid | CHAIN_FAIL_lost | CHAIN_FAIL_chain | CHAIN_CMD_op | CHAIN_CMD_chain 
  | CHAIN_STATUS_result | EVENTS_stray | EVENTS_chain_failed | EVENTS_conn_error | EVENTS_revoke_done 
  | EVENTS_counter_wrap | EVENTS_INT_enable | SNAP_CTRL_done | SNAP_CTRL_go | CNT_OVF_ovf | CNT_OVF_INT_enable 
  deriving DecidableEq, Repr

def RdxF.all : List RdxF :=
  [.STATUS_contexts_open, .STATUS_slots_used, .CFG_max_slots, .CFG_ack_coalesce, .CFG_ack_delay_ns, 
   .CC_CFG_cnp_interval_us, .CC_CFG_min_rate_mbps, .CC_CFG2_recover_us, .CC_CFG2_ai_mbps, .REGION_RANGE_last, 
   .REGION_RANGE_first, .CHAIN_BASE, .CONN_CMD_op, .CONN_CMD_conn, .CONN_STATUS_drained, .CONN_STATUS_busy, 
   .CONN_STATUS_result, .REG_CMD_op, .REG_CMD_index, .REG_STATUS_result, .REVOKE_DONE_valid, .REVOKE_DONE_lost, 
   .REVOKE_DONE_index, .CHAIN_FAIL_valid, .CHAIN_FAIL_lost, .CHAIN_FAIL_chain, .CHAIN_CMD_op, .CHAIN_CMD_chain, 
   .CHAIN_STATUS_result, .EVENTS_stray, .EVENTS_chain_failed, .EVENTS_conn_error, .EVENTS_revoke_done, 
   .EVENTS_counter_wrap, .EVENTS_INT_enable, .SNAP_CTRL_done, .SNAP_CTRL_go, .CNT_OVF_ovf, .CNT_OVF_INT_enable]

def RdxF.spec : RdxF → FldSpec
  | .STATUS_contexts_open => ⟨0x0, 0, 1, 16, 13, .ro, .ns, 0, 0x7E, 0, 0, false⟩
  | .STATUS_slots_used => ⟨0x0, 0, 1, 0, 14, .ro, .ns, 0, 0x7E, 0, 0, false⟩
  | .CFG_max_slots => ⟨0x4, 0, 1, 23, 5, .rw, .ns, 4, 0x7E, 1, 16, false⟩
  | .CFG_ack_coalesce => ⟨0x4, 0, 1, 16, 7, .rw, .ns, 16, 0x7E, 1, 64, false⟩
  | .CFG_ack_delay_ns => ⟨0x4, 0, 1, 0, 16, .rw, .ns, 2000, 0x7E, 0, 65535, false⟩
  | .CC_CFG_cnp_interval_us => ⟨0x8, 0, 1, 22, 10, .rw, .ns, 50, 0x7E, 1, 1000, false⟩
  | .CC_CFG_min_rate_mbps => ⟨0x8, 0, 1, 0, 17, .rw, .ns, 1000, 0x7E, 100, 100000, false⟩
  | .CC_CFG2_recover_us => ⟨0xC, 0, 1, 22, 10, .rw, .ns, 55, 0x7E, 10, 1000, false⟩
  | .CC_CFG2_ai_mbps => ⟨0xC, 0, 1, 0, 17, .rw, .ns, 5000, 0x7E, 10, 100000, false⟩
  | .REGION_RANGE_last => ⟨0x10, 0, 1, 16, 16, .rw, .swnr, 0, 0x7E, 0, 0, false⟩
  | .REGION_RANGE_first => ⟨0x10, 0, 1, 0, 16, .rw, .swnr, 65535, 0x7E, 0, 0, false⟩
  | .CHAIN_BASE => ⟨0x18, 0, 1, 0, 64, .rw, .ns, 0, 0x7E, 0, 0, false⟩
  | .CONN_CMD_op => ⟨0x20, 0, 1, 28, 4, .wo, .ns, 0, 0x7E, 0, 0, false⟩
  | .CONN_CMD_conn => ⟨0x20, 0, 1, 0, 24, .wo, .ns, 0, 0x7E, 0, 0, false⟩
  | .CONN_STATUS_drained => ⟨0x24, 0, 1, 25, 1, .ro, .ns, 0, 0x7E, 0, 0, false⟩
  | .CONN_STATUS_busy => ⟨0x24, 0, 1, 24, 1, .ro, .ns, 0, 0x7E, 0, 0, false⟩
  | .CONN_STATUS_result => ⟨0x24, 0, 1, 0, 24, .ro, .ns, 0, 0x7E, 0, 0, false⟩
  | .REG_CMD_op => ⟨0x28, 0, 1, 30, 2, .wo, .ns, 0, 0x7E, 0, 0, false⟩
  | .REG_CMD_index => ⟨0x28, 0, 1, 0, 16, .wo, .ns, 0, 0x7E, 0, 0, false⟩
  | .REG_STATUS_result => ⟨0x2C, 0, 1, 0, 3, .ro, .ns, 0, 0x7E, 0, 0, false⟩
  | .REVOKE_DONE_valid => ⟨0x38, 0, 1, 31, 1, .ro, .ns, 0, 0x7E, 0, 0, false⟩
  | .REVOKE_DONE_lost => ⟨0x38, 0, 1, 30, 1, .ro, .ns, 0, 0x7E, 0, 0, false⟩
  | .REVOKE_DONE_index => ⟨0x38, 0, 1, 0, 16, .ro, .ns, 0, 0x7E, 0, 0, false⟩
  | .CHAIN_FAIL_valid => ⟨0x3C, 0, 1, 31, 1, .ro, .ns, 0, 0x7E, 0, 0, false⟩
  | .CHAIN_FAIL_lost => ⟨0x3C, 0, 1, 30, 1, .ro, .ns, 0, 0x7E, 0, 0, false⟩
  | .CHAIN_FAIL_chain => ⟨0x3C, 0, 1, 0, 15, .ro, .ns, 0, 0x7E, 0, 0, false⟩
  | .CHAIN_CMD_op => ⟨0x30, 0, 1, 30, 2, .wo, .ns, 0, 0x7E, 0, 0, false⟩
  | .CHAIN_CMD_chain => ⟨0x30, 0, 1, 0, 15, .wo, .ns, 0, 0x7E, 0, 0, false⟩
  | .CHAIN_STATUS_result => ⟨0x34, 0, 1, 0, 2, .ro, .ns, 0, 0x7E, 0, 0, false⟩
  | .EVENTS_stray => ⟨0x40, 0, 1, 4, 1, .rw1c, .ns, 0, 0x7E, 0, 0, false⟩
  | .EVENTS_chain_failed => ⟨0x40, 0, 1, 3, 1, .rw1c, .ns, 0, 0x7E, 0, 0, false⟩
  | .EVENTS_conn_error => ⟨0x40, 0, 1, 2, 1, .rw1c, .ns, 0, 0x7E, 0, 0, false⟩
  | .EVENTS_revoke_done => ⟨0x40, 0, 1, 1, 1, .rw1c, .ns, 0, 0x7E, 0, 0, false⟩
  | .EVENTS_counter_wrap => ⟨0x40, 0, 1, 0, 1, .rw1c, .ns, 0, 0x7E, 0, 0, false⟩
  | .EVENTS_INT_enable => ⟨0x44, 0, 1, 0, 5, .rw, .ns, 0, 0x7E, 0, 0, false⟩
  | .SNAP_CTRL_done => ⟨0x48, 0, 1, 9, 1, .ro, .ns, 0, 0x7E, 0, 0, false⟩
  | .SNAP_CTRL_go => ⟨0x48, 0, 1, 8, 1, .wo, .ns, 0, 0x7E, 0, 0, false⟩
  | .CNT_OVF_ovf => ⟨0x4C, 0, 1, 0, 26, .rw1c, .ns, 0, 0x7E, 0, 0, false⟩
  | .CNT_OVF_INT_enable => ⟨0x50, 0, 1, 0, 26, .rw, .ns, 0, 0x7E, 0, 0, false⟩

/-- Fields of CMD (block 0x21, spec/08). -/
inductive CmdF where
  | STATUS_orphans | STATUS_slots_used | CFG_horizon_us | CFG_dup_window_ms | CFG_resume_hold_s | GATE_refuse 
  | DEFER_STATUS_widened | DEFER_STATUS_entries | ABORT_CONN_conn | ABORT_CID_cid | ABORT_STATUS_busy 
  | ABORT_STATUS_result | REPLAY_FLOOR | EVENTS_late_restamp | EVENTS_orphan_evicted | EVENTS_defer_full 
  | EVENTS_defer_new | EVENTS_counter_wrap | EVENTS_INT_enable | SNAP_CTRL_done | SNAP_CTRL_go | CNT_OVF_ovf 
  | CNT_OVF_INT_enable 
  deriving DecidableEq, Repr

def CmdF.all : List CmdF :=
  [.STATUS_orphans, .STATUS_slots_used, .CFG_horizon_us, .CFG_dup_window_ms, .CFG_resume_hold_s, .GATE_refuse, 
   .DEFER_STATUS_widened, .DEFER_STATUS_entries, .ABORT_CONN_conn, .ABORT_CID_cid, .ABORT_STATUS_busy, 
   .ABORT_STATUS_result, .REPLAY_FLOOR, .EVENTS_late_restamp, .EVENTS_orphan_evicted, .EVENTS_defer_full, 
   .EVENTS_defer_new, .EVENTS_counter_wrap, .EVENTS_INT_enable, .SNAP_CTRL_done, .SNAP_CTRL_go, .CNT_OVF_ovf, 
   .CNT_OVF_INT_enable]

def CmdF.spec : CmdF → FldSpec
  | .STATUS_orphans => ⟨0x0, 0, 1, 16, 16, .ro, .ns, 0, 0x7E, 0, 0, false⟩
  | .STATUS_slots_used => ⟨0x0, 0, 1, 0, 16, .ro, .ns, 0, 0x7E, 0, 0, false⟩
  | .CFG_horizon_us => ⟨0x4, 0, 1, 22, 10, .rw, .ns, 100, 0x7E, 10, 1000, false⟩
  | .CFG_dup_window_ms => ⟨0x4, 0, 1, 12, 10, .rw, .ns, 1000, 0x7E, 10, 1000, false⟩
  | .CFG_resume_hold_s => ⟨0x4, 0, 1, 0, 12, .rw, .ns, 30, 0x7E, 1, 600, false⟩
  | .GATE_refuse => ⟨0x8, 0, 1, 0, 2, .rw, .ns, 0, 0x7E, 0, 0, true⟩
  | .DEFER_STATUS_widened => ⟨0xC, 0, 1, 31, 1, .rw1c, .ns, 0, 0x7E, 0, 0, false⟩
  | .DEFER_STATUS_entries => ⟨0xC, 0, 1, 0, 14, .ros, .ns, 0, 0x7E, 0, 0, false⟩
  | .ABORT_CONN_conn => ⟨0x10, 0, 1, 0, 24, .rw, .ns, 0, 0x7E, 0, 0, false⟩
  | .ABORT_CID_cid => ⟨0x14, 0, 1, 0, 16, .wo, .ns, 0, 0x7E, 0, 0, false⟩
  | .ABORT_STATUS_busy => ⟨0x18, 0, 1, 2, 1, .ro, .ns, 0, 0x7E, 0, 0, false⟩
  | .ABORT_STATUS_result => ⟨0x18, 0, 1, 0, 2, .ro, .ns, 0, 0x7E, 0, 0, false⟩
  | .REPLAY_FLOOR => ⟨0x20, 0, 1, 0, 64, .rw, .ns, 0, 0x7E, 0, 0, true⟩
  | .EVENTS_late_restamp => ⟨0x30, 0, 1, 4, 1, .rw1c, .ns, 0, 0x7E, 0, 0, false⟩
  | .EVENTS_orphan_evicted => ⟨0x30, 0, 1, 3, 1, .rw1c, .ns, 0, 0x7E, 0, 0, false⟩
  | .EVENTS_defer_full => ⟨0x30, 0, 1, 2, 1, .rw1c, .ns, 0, 0x7E, 0, 0, false⟩
  | .EVENTS_defer_new => ⟨0x30, 0, 1, 1, 1, .rw1c, .ns, 0, 0x7E, 0, 0, false⟩
  | .EVENTS_counter_wrap => ⟨0x30, 0, 1, 0, 1, .rw1c, .ns, 0, 0x7E, 0, 0, false⟩
  | .EVENTS_INT_enable => ⟨0x34, 0, 1, 0, 5, .rw, .ns, 0, 0x7E, 0, 0, false⟩
  | .SNAP_CTRL_done => ⟨0x38, 0, 1, 9, 1, .ro, .ns, 0, 0x7E, 0, 0, false⟩
  | .SNAP_CTRL_go => ⟨0x38, 0, 1, 8, 1, .wo, .ns, 0, 0x7E, 0, 0, false⟩
  | .CNT_OVF_ovf => ⟨0x3C, 0, 1, 0, 24, .rw1c, .ns, 0, 0x7E, 0, 0, false⟩
  | .CNT_OVF_INT_enable => ⟨0x40, 0, 1, 0, 24, .rw, .ns, 0, 0x7E, 0, 0, false⟩

/-- Fields of NSM (block 0x22, spec/09). -/
inductive NsmF where
  | STATUS_mapped_here | STATUS_not_ready | EVENTS_ana_changed | EVENTS_reservation_changed 
  | EVENTS_sanitize_done | EVENTS_format_done | EVENTS_drain_done | EVENTS_not_ready | EVENTS_INT_enable 
  | ANA_CHGCNT | SANITIZE_global_erased | SANITIZE_restricted | SANITIZE_sstat | SANITIZE_sprog | NS_present 
  | NS_enabled | NS_ready | NS_write_protected | NS_draining | NS_format_active | NS_mapped_here | NS_channel 
  | NS_group | NS_ana_state | NS_fpi_left | NS_registrants 
  deriving DecidableEq, Repr

def NsmF.all : List NsmF :=
  [.STATUS_mapped_here, .STATUS_not_ready, .EVENTS_ana_changed, .EVENTS_reservation_changed, 
   .EVENTS_sanitize_done, .EVENTS_format_done, .EVENTS_drain_done, .EVENTS_not_ready, .EVENTS_INT_enable, 
   .ANA_CHGCNT, .SANITIZE_global_erased, .SANITIZE_restricted, .SANITIZE_sstat, .SANITIZE_sprog, .NS_present, 
   .NS_enabled, .NS_ready, .NS_write_protected, .NS_draining, .NS_format_active, .NS_mapped_here, .NS_channel, 
   .NS_group, .NS_ana_state, .NS_fpi_left, .NS_registrants]

def NsmF.spec : NsmF → FldSpec
  | .STATUS_mapped_here => ⟨0x0, 0, 1, 16, 13, .ro, .ns, 0, 0x7E, 0, 0, false⟩
  | .STATUS_not_ready => ⟨0x0, 0, 1, 0, 13, .ro, .ns, 0, 0x7E, 0, 0, false⟩
  | .EVENTS_ana_changed => ⟨0x4, 0, 1, 5, 1, .rw1c, .ns, 0, 0x7E, 0, 0, false⟩
  | .EVENTS_reservation_changed => ⟨0x4, 0, 1, 4, 1, .rw1c, .ns, 0, 0x7E, 0, 0, false⟩
  | .EVENTS_sanitize_done => ⟨0x4, 0, 1, 3, 1, .rw1c, .ns, 0, 0x7E, 0, 0, false⟩
  | .EVENTS_format_done => ⟨0x4, 0, 1, 2, 1, .rw1c, .ns, 0, 0x7E, 0, 0, false⟩
  | .EVENTS_drain_done => ⟨0x4, 0, 1, 1, 1, .rw1c, .ns, 0, 0x7E, 0, 0, false⟩
  | .EVENTS_not_ready => ⟨0x4, 0, 1, 0, 1, .rw1c, .ns, 0, 0x7E, 0, 0, false⟩
  | .EVENTS_INT_enable => ⟨0x8, 0, 1, 0, 6, .rw, .ns, 0, 0x7E, 0, 0, false⟩
  | .ANA_CHGCNT => ⟨0x10, 0, 1, 0, 64, .ro, .ns, 0, 0x7E, 0, 0, false⟩
  | .SANITIZE_global_erased => ⟨0x18, 0, 1, 19, 1, .ro, .ns, 0, 0x7E, 0, 0, false⟩
  | .SANITIZE_restricted => ⟨0x18, 0, 1, 18, 1, .ro, .ns, 0, 0x7E, 0, 0, false⟩
  | .SANITIZE_sstat => ⟨0x18, 0, 1, 16, 2, .ro, .ns, 0, 0x7E, 0, 0, false⟩
  | .SANITIZE_sprog => ⟨0x18, 0, 1, 0, 16, .ro, .ns, 65535, 0x7E, 0, 0, false⟩
  | .NS_present => ⟨0x10000, 4, 4096, 31, 1, .ro, .ns, 0, 0x7E, 0, 0, false⟩
  | .NS_enabled => ⟨0x10000, 4, 4096, 30, 1, .ro, .ns, 0, 0x7E, 0, 0, false⟩
  | .NS_ready => ⟨0x10000, 4, 4096, 29, 1, .ro, .ns, 0, 0x7E, 0, 0, false⟩
  | .NS_write_protected => ⟨0x10000, 4, 4096, 28, 1, .ro, .ns, 0, 0x7E, 0, 0, false⟩
  | .NS_draining => ⟨0x10000, 4, 4096, 27, 1, .ro, .ns, 0, 0x7E, 0, 0, false⟩
  | .NS_format_active => ⟨0x10000, 4, 4096, 26, 1, .ro, .ns, 0, 0x7E, 0, 0, false⟩
  | .NS_mapped_here => ⟨0x10000, 4, 4096, 25, 1, .ro, .ns, 0, 0x7E, 0, 0, false⟩
  | .NS_channel => ⟨0x10000, 4, 4096, 22, 3, .ro, .ns, 0, 0x7E, 0, 0, false⟩
  | .NS_group => ⟨0x10000, 4, 4096, 20, 2, .ro, .ns, 0, 0x7E, 0, 0, false⟩
  | .NS_ana_state => ⟨0x10000, 4, 4096, 16, 4, .ro, .ns, 1, 0x7E, 0, 0, false⟩
  | .NS_fpi_left => ⟨0x10000, 4, 4096, 8, 7, .ro, .ns, 0, 0x7E, 0, 0, false⟩
  | .NS_registrants => ⟨0x10000, 4, 4096, 0, 8, .ro, .ns, 0, 0x7E, 0, 0, false⟩

/-- Fields of SPG (block 0x23, spec/10). -/
inductive SpgF where
  | STATUS_slots_free | DIRTY_blocks | DIRTY_CEILING_limit_mib | INDEX_entries_used | EVICT_CFG_high_pct 
  | EVICT_CFG_low_pct | SA_CFG_gain_us | MIRROR_CFG_match_limit_us | SCRUB_CFG_enable | SCRUB_CFG_pass_s 
  | SCRUB_POS_line | ECC_LAST_area | ECC_LAST_uncorrectable | ECC_LAST_line | CRUMB_HEAD | CRUMB_NEXT 
  | MIRROR_ACK | EVENTS_crumb_lost | EVENTS_index_rebuilt | EVENTS_mirror_match_timeout | EVENTS_crumb_pressure 
  | EVENTS_ceiling_reached | EVENTS_ecc_uncorrected | EVENTS_counter_wrap | EVENTS_INT_enable | SNAP_CTRL_done 
  | SNAP_CTRL_go | CNT_OVF_ovf | CNT_OVF_INT_enable | GRP_SA_full_pct | GRP_SA_hold_us 
  deriving DecidableEq, Repr

def SpgF.all : List SpgF :=
  [.STATUS_slots_free, .DIRTY_blocks, .DIRTY_CEILING_limit_mib, .INDEX_entries_used, .EVICT_CFG_high_pct, 
   .EVICT_CFG_low_pct, .SA_CFG_gain_us, .MIRROR_CFG_match_limit_us, .SCRUB_CFG_enable, .SCRUB_CFG_pass_s, 
   .SCRUB_POS_line, .ECC_LAST_area, .ECC_LAST_uncorrectable, .ECC_LAST_line, .CRUMB_HEAD, .CRUMB_NEXT, 
   .MIRROR_ACK, .EVENTS_crumb_lost, .EVENTS_index_rebuilt, .EVENTS_mirror_match_timeout, .EVENTS_crumb_pressure, 
   .EVENTS_ceiling_reached, .EVENTS_ecc_uncorrected, .EVENTS_counter_wrap, .EVENTS_INT_enable, .SNAP_CTRL_done, 
   .SNAP_CTRL_go, .CNT_OVF_ovf, .CNT_OVF_INT_enable, .GRP_SA_full_pct, .GRP_SA_hold_us]

def SpgF.spec : SpgF → FldSpec
  | .STATUS_slots_free => ⟨0x0, 0, 1, 0, 21, .ro, .ns, 1048576, 0x7E, 0, 0, false⟩
  | .DIRTY_blocks => ⟨0x4, 0, 1, 0, 21, .ro, .ns, 0, 0x7E, 0, 0, false⟩
  | .DIRTY_CEILING_limit_mib => ⟨0x8, 0, 1, 0, 12, .rw, .swnr, 2048, 0x7E, 64, 3584, true⟩
  | .INDEX_entries_used => ⟨0xC, 0, 1, 0, 21, .ro, .ns, 0, 0x7E, 0, 0, false⟩
  | .EVICT_CFG_high_pct => ⟨0x10, 0, 1, 8, 8, .rw, .ns, 12, 0x7E, 2, 50, false⟩
  | .EVICT_CFG_low_pct => ⟨0x10, 0, 1, 0, 8, .rw, .ns, 6, 0x7E, 1, 49, false⟩
  | .SA_CFG_gain_us => ⟨0x14, 0, 1, 0, 8, .rw, .ns, 8, 0x7E, 1, 255, false⟩
  | .MIRROR_CFG_match_limit_us => ⟨0x18, 0, 1, 0, 16, .rw, .ns, 1000, 0x7E, 10, 10000, false⟩
  | .SCRUB_CFG_enable => ⟨0x1C, 0, 1, 31, 1, .rw, .ns, 1, 0x7E, 0, 0, false⟩
  | .SCRUB_CFG_pass_s => ⟨0x1C, 0, 1, 0, 17, .rw, .ns, 300, 0x7E, 10, 86400, false⟩
  | .SCRUB_POS_line => ⟨0x20, 0, 1, 0, 27, .ro, .ns, 0, 0x7E, 0, 0, false⟩
  | .ECC_LAST_area => ⟨0x24, 0, 1, 29, 3, .ro, .ns, 0, 0x7E, 0, 0, false⟩
  | .ECC_LAST_uncorrectable => ⟨0x24, 0, 1, 28, 1, .ro, .ns, 0, 0x7E, 0, 0, false⟩
  | .ECC_LAST_line => ⟨0x24, 0, 1, 0, 27, .ro, .ns, 0, 0x7E, 0, 0, false⟩
  | .CRUMB_HEAD => ⟨0x28, 0, 1, 0, 64, .ro, .ns, 0, 0x7E, 0, 0, false⟩
  | .CRUMB_NEXT => ⟨0x30, 0, 1, 0, 64, .ro, .ns, 0, 0x7E, 0, 0, false⟩
  | .MIRROR_ACK => ⟨0x38, 0, 1, 0, 64, .ro, .ns, 0, 0x7E, 0, 0, false⟩
  | .EVENTS_crumb_lost => ⟨0x40, 0, 1, 6, 1, .rw1c, .ns, 0, 0x7E, 0, 0, false⟩
  | .EVENTS_index_rebuilt => ⟨0x40, 0, 1, 5, 1, .rw1c, .ns, 0, 0x7E, 0, 0, false⟩
  | .EVENTS_mirror_match_timeout => ⟨0x40, 0, 1, 4, 1, .rw1c, .ns, 0, 0x7E, 0, 0, false⟩
  | .EVENTS_crumb_pressure => ⟨0x40, 0, 1, 3, 1, .rw1c, .ns, 0, 0x7E, 0, 0, false⟩
  | .EVENTS_ceiling_reached => ⟨0x40, 0, 1, 2, 1, .rw1c, .ns, 0, 0x7E, 0, 0, false⟩
  | .EVENTS_ecc_uncorrected => ⟨0x40, 0, 1, 1, 1, .rw1c, .ns, 0, 0x7E, 0, 0, false⟩
  | .EVENTS_counter_wrap => ⟨0x40, 0, 1, 0, 1, .rw1c, .ns, 0, 0x7E, 0, 0, false⟩
  | .EVENTS_INT_enable => ⟨0x44, 0, 1, 0, 7, .rw, .ns, 0, 0x7E, 0, 0, false⟩
  | .SNAP_CTRL_done => ⟨0x48, 0, 1, 9, 1, .ro, .ns, 0, 0x7E, 0, 0, false⟩
  | .SNAP_CTRL_go => ⟨0x48, 0, 1, 8, 1, .wo, .ns, 0, 0x7E, 0, 0, false⟩
  | .CNT_OVF_ovf => ⟨0x4C, 0, 1, 0, 20, .rw1c, .ns, 0, 0x7E, 0, 0, false⟩
  | .CNT_OVF_INT_enable => ⟨0x50, 0, 1, 0, 20, .rw, .ns, 0, 0x7E, 0, 0, false⟩
  | .GRP_SA_full_pct => ⟨0x60, 4, 4, 24, 8, .ro, .ns, 0, 0x7E, 0, 0, false⟩
  | .GRP_SA_hold_us => ⟨0x60, 4, 4, 0, 17, .ro, .ns, 0, 0x7E, 0, 0, false⟩

/-- Fields of ARB (block 0x24, spec/10). -/
inductive ArbF where
  | STATUS_idle | STATUS_boost | STATUS_drained | FREEZE_mask | PRIO_level | WINDOW_clocks | COMMIT_commit 
  | QUOTA_q | SNAP_CTRL_done | SNAP_CTRL_go | CNT_OVF_ovf | CNT_OVF_INT_enable 
  deriving DecidableEq, Repr

def ArbF.all : List ArbF :=
  [.STATUS_idle, .STATUS_boost, .STATUS_drained, .FREEZE_mask, .PRIO_level, .WINDOW_clocks, .COMMIT_commit, 
   .QUOTA_q, .SNAP_CTRL_done, .SNAP_CTRL_go, .CNT_OVF_ovf, .CNT_OVF_INT_enable]

def ArbF.spec : ArbF → FldSpec
  | .STATUS_idle => ⟨0x0, 0, 1, 16, 10, .ro, .ns, 1023, 0x7E, 0, 0, false⟩
  | .STATUS_boost => ⟨0x0, 0, 1, 1, 1, .ro, .ns, 0, 0x7E, 0, 0, false⟩
  | .STATUS_drained => ⟨0x0, 0, 1, 0, 1, .ro, .ns, 1, 0x7E, 0, 0, false⟩
  | .FREEZE_mask => ⟨0x4, 0, 1, 0, 10, .rw, .ns, 0, 0x7E, 0, 0, true⟩
  | .PRIO_level => ⟨0x8, 0, 1, 0, 20, .rws, .ns, 272367, 0x7E, 0, 0, false⟩
  | .WINDOW_clocks => ⟨0xC, 0, 1, 0, 13, .rws, .ns, 256, 0x7E, 8, 4096, false⟩
  | .COMMIT_commit => ⟨0x10, 0, 1, 0, 1, .wo, .ns, 0, 0x7E, 0, 0, false⟩
  | .QUOTA_q => ⟨0x40, 4, 10, 0, 13, .rws, .ns, 48, 0x7E, 0, 4096, false⟩
  | .SNAP_CTRL_done => ⟨0x80, 0, 1, 9, 1, .ro, .ns, 0, 0x7E, 0, 0, false⟩
  | .SNAP_CTRL_go => ⟨0x80, 0, 1, 8, 1, .wo, .ns, 0, 0x7E, 0, 0, false⟩
  | .CNT_OVF_ovf => ⟨0x84, 0, 1, 0, 20, .rw1c, .ns, 0, 0x7E, 0, 0, false⟩
  | .CNT_OVF_INT_enable => ⟨0x88, 0, 1, 0, 20, .rw, .ns, 0, 0x7E, 0, 0, false⟩

/-- Fields of GRP (block 0x25, spec/11). -/
inductive GrpF where
  | STATUS_recovering | STATUS_standby_view | STATUS_chan_state | STEER_CFG_budget_pct | STEER_CFG_ratio_x16 
  | STEER_CFG_min_us | REBUILD_CFG_spare_delay_s | REBUILD_CFG_crit_pct | REBUILD_CFG_rate_10mbps 
  | BITMAP_CFG_linger_ms | EVENTS_exposure | EVENTS_resync_done | EVENTS_record_lost | EVENTS_badlist_full 
  | EVENTS_bad_unit | EVENTS_group_failed | EVENTS_rebuild_done | EVENTS_rebuild_started | EVENTS_member_lost 
  | EVENTS_counter_wrap | EVENTS_INT_enable | SNAP_CTRL_done | SNAP_CTRL_go | CNT_OVF_ovf | CNT_OVF_INT_enable 
  | MEMBER_LAT_l_ns | G_STATE_held | G_STATE_critical | G_STATE_full_resync | G_STATE_paused 
  | G_STATE_configured | G_STATE_state | G_MEMBERS_states | G_SERVING_bays | G_CMD_op | G_CURSOR | G_STRIPES 
  | G_REGIONS_marked | G_BADUNITS_count | G_RECORD_generation 
  deriving DecidableEq, Repr

def GrpF.all : List GrpF :=
  [.STATUS_recovering, .STATUS_standby_view, .STATUS_chan_state, .STEER_CFG_budget_pct, .STEER_CFG_ratio_x16, 
   .STEER_CFG_min_us, .REBUILD_CFG_spare_delay_s, .REBUILD_CFG_crit_pct, .REBUILD_CFG_rate_10mbps, 
   .BITMAP_CFG_linger_ms, .EVENTS_exposure, .EVENTS_resync_done, .EVENTS_record_lost, .EVENTS_badlist_full, 
   .EVENTS_bad_unit, .EVENTS_group_failed, .EVENTS_rebuild_done, .EVENTS_rebuild_started, .EVENTS_member_lost, 
   .EVENTS_counter_wrap, .EVENTS_INT_enable, .SNAP_CTRL_done, .SNAP_CTRL_go, .CNT_OVF_ovf, .CNT_OVF_INT_enable, 
   .MEMBER_LAT_l_ns, .G_STATE_held, .G_STATE_critical, .G_STATE_full_resync, .G_STATE_paused, 
   .G_STATE_configured, .G_STATE_state, .G_MEMBERS_states, .G_SERVING_bays, .G_CMD_op, .G_CURSOR, .G_STRIPES, 
   .G_REGIONS_marked, .G_BADUNITS_count, .G_RECORD_generation]

def GrpF.spec : GrpF → FldSpec
  | .STATUS_recovering => ⟨0x0, 0, 1, 31, 1, .ro, .ns, 0, 0x7E, 0, 0, false⟩
  | .STATUS_standby_view => ⟨0x0, 0, 1, 30, 1, .ro, .ns, 0, 0x7E, 0, 0, false⟩
  | .STATUS_chan_state => ⟨0x0, 0, 1, 0, 4, .ro, .ns, 7, 0x7E, 0, 0, false⟩
  | .STEER_CFG_budget_pct => ⟨0x4, 0, 1, 24, 8, .rw, .ns, 10, 0x7E, 0, 100, false⟩
  | .STEER_CFG_ratio_x16 => ⟨0x4, 0, 1, 16, 8, .rw, .ns, 32, 0x7E, 17, 255, false⟩
  | .STEER_CFG_min_us => ⟨0x4, 0, 1, 0, 16, .rw, .ns, 200, 0x7E, 10, 10000, false⟩
  | .REBUILD_CFG_spare_delay_s => ⟨0x8, 0, 1, 20, 12, .rw, .ns, 60, 0x7E, 0, 3600, false⟩
  | .REBUILD_CFG_crit_pct => ⟨0x8, 0, 1, 12, 8, .rw, .ns, 50, 0x7E, 0, 100, false⟩
  | .REBUILD_CFG_rate_10mbps => ⟨0x8, 0, 1, 0, 12, .rw, .ns, 200, 0x7E, 10, 800, false⟩
  | .BITMAP_CFG_linger_ms => ⟨0xC, 0, 1, 0, 16, .rw, .ns, 5000, 0x7E, 100, 60000, false⟩
  | .EVENTS_exposure => ⟨0x10, 0, 1, 9, 1, .rw1c, .ns, 0, 0x7E, 0, 0, false⟩
  | .EVENTS_resync_done => ⟨0x10, 0, 1, 8, 1, .rw1c, .ns, 0, 0x7E, 0, 0, false⟩
  | .EVENTS_record_lost => ⟨0x10, 0, 1, 7, 1, .rw1c, .ns, 0, 0x7E, 0, 0, false⟩
  | .EVENTS_badlist_full => ⟨0x10, 0, 1, 6, 1, .rw1c, .ns, 0, 0x7E, 0, 0, false⟩
  | .EVENTS_bad_unit => ⟨0x10, 0, 1, 5, 1, .rw1c, .ns, 0, 0x7E, 0, 0, false⟩
  | .EVENTS_group_failed => ⟨0x10, 0, 1, 4, 1, .rw1c, .ns, 0, 0x7E, 0, 0, false⟩
  | .EVENTS_rebuild_done => ⟨0x10, 0, 1, 3, 1, .rw1c, .ns, 0, 0x7E, 0, 0, false⟩
  | .EVENTS_rebuild_started => ⟨0x10, 0, 1, 2, 1, .rw1c, .ns, 0, 0x7E, 0, 0, false⟩
  | .EVENTS_member_lost => ⟨0x10, 0, 1, 1, 1, .rw1c, .ns, 0, 0x7E, 0, 0, false⟩
  | .EVENTS_counter_wrap => ⟨0x10, 0, 1, 0, 1, .rw1c, .ns, 0, 0x7E, 0, 0, false⟩
  | .EVENTS_INT_enable => ⟨0x14, 0, 1, 0, 10, .rw, .ns, 0, 0x7E, 0, 0, false⟩
  | .SNAP_CTRL_done => ⟨0x18, 0, 1, 9, 1, .ro, .ns, 0, 0x7E, 0, 0, false⟩
  | .SNAP_CTRL_go => ⟨0x18, 0, 1, 8, 1, .wo, .ns, 0, 0x7E, 0, 0, false⟩
  | .CNT_OVF_ovf => ⟨0x1C, 0, 1, 0, 18, .rw1c, .ns, 0, 0x7E, 0, 0, false⟩
  | .CNT_OVF_INT_enable => ⟨0x20, 0, 1, 0, 18, .rw, .ns, 0, 0x7E, 0, 0, false⟩
  | .MEMBER_LAT_l_ns => ⟨0x40, 4, 8, 0, 32, .ro, .ns, 0, 0x7E, 0, 0, false⟩
  | .G_STATE_held => ⟨0x100, 64, 4, 7, 1, .ro, .ns, 0, 0x7E, 0, 0, false⟩
  | .G_STATE_critical => ⟨0x100, 64, 4, 6, 1, .ro, .ns, 0, 0x7E, 0, 0, false⟩
  | .G_STATE_full_resync => ⟨0x100, 64, 4, 5, 1, .ro, .ns, 0, 0x7E, 0, 0, false⟩
  | .G_STATE_paused => ⟨0x100, 64, 4, 4, 1, .ro, .ns, 0, 0x7E, 0, 0, false⟩
  | .G_STATE_configured => ⟨0x100, 64, 4, 3, 1, .ro, .ns, 0, 0x7E, 0, 0, false⟩
  | .G_STATE_state => ⟨0x100, 64, 4, 0, 3, .ro, .ns, 0, 0x7E, 0, 0, false⟩
  | .G_MEMBERS_states => ⟨0x104, 64, 4, 0, 32, .ro, .ns, 1431655765, 0x7E, 0, 0, false⟩
  | .G_SERVING_bays => ⟨0x108, 64, 4, 0, 32, .ro, .ns, 4294967295, 0x7E, 0, 0, false⟩
  | .G_CMD_op => ⟨0x10C, 64, 4, 0, 3, .wo, .ns, 0, 0x7E, 0, 0, false⟩
  | .G_CURSOR => ⟨0x110, 64, 4, 0, 64, .ro, .ns, 0, 0x7E, 0, 0, false⟩
  | .G_STRIPES => ⟨0x118, 64, 4, 0, 64, .ro, .ns, 0, 0x7E, 0, 0, false⟩
  | .G_REGIONS_marked => ⟨0x120, 64, 4, 0, 24, .ro, .ns, 0, 0x7E, 0, 0, false⟩
  | .G_BADUNITS_count => ⟨0x124, 64, 4, 0, 12, .ro, .ns, 0, 0x7E, 0, 0, false⟩
  | .G_RECORD_generation => ⟨0x128, 64, 4, 0, 32, .ro, .ns, 0, 0x7E, 0, 0, false⟩

/-- Fields of RSH (block 0x26, spec/12). -/
inductive RshF where
  | STATUS_busy | STATUS_group | CFG_rate_10mbps | BUF | EVENTS_backup_lost | EVENTS_refused | EVENTS_paused 
  | EVENTS_switched | EVENTS_counter_wrap | EVENTS_INT_enable | SNAP_CTRL_done | SNAP_CTRL_go | CNT_OVF_ovf 
  | CNT_OVF_INT_enable | G_STATE_refuse_cause | G_STATE_wait_cause | G_STATE_held | G_STATE_paused 
  | G_STATE_cancel_pending | G_STATE_direction | G_STATE_moving | G_STATE_phase | G_CMD_op | G_STEP_backed 
  | G_STEP_blocks | G_CURSOR | G_END 
  deriving DecidableEq, Repr

def RshF.all : List RshF :=
  [.STATUS_busy, .STATUS_group, .CFG_rate_10mbps, .BUF, .EVENTS_backup_lost, .EVENTS_refused, .EVENTS_paused, 
   .EVENTS_switched, .EVENTS_counter_wrap, .EVENTS_INT_enable, .SNAP_CTRL_done, .SNAP_CTRL_go, .CNT_OVF_ovf, 
   .CNT_OVF_INT_enable, .G_STATE_refuse_cause, .G_STATE_wait_cause, .G_STATE_held, .G_STATE_paused, 
   .G_STATE_cancel_pending, .G_STATE_direction, .G_STATE_moving, .G_STATE_phase, .G_CMD_op, .G_STEP_backed, 
   .G_STEP_blocks, .G_CURSOR, .G_END]

def RshF.spec : RshF → FldSpec
  | .STATUS_busy => ⟨0x0, 0, 1, 3, 1, .ro, .ns, 0, 0x7E, 0, 0, false⟩
  | .STATUS_group => ⟨0x0, 0, 1, 0, 2, .ro, .ns, 0, 0x7E, 0, 0, false⟩
  | .CFG_rate_10mbps => ⟨0x4, 0, 1, 0, 12, .rw, .ns, 200, 0x7E, 10, 800, false⟩
  | .BUF => ⟨0x8, 0, 1, 0, 64, .rw, .ns, 0, 0x7E, 0, 0, false⟩
  | .EVENTS_backup_lost => ⟨0x10, 0, 1, 4, 1, .rw1c, .ns, 0, 0x7E, 0, 0, false⟩
  | .EVENTS_refused => ⟨0x10, 0, 1, 3, 1, .rw1c, .ns, 0, 0x7E, 0, 0, false⟩
  | .EVENTS_paused => ⟨0x10, 0, 1, 2, 1, .rw1c, .ns, 0, 0x7E, 0, 0, false⟩
  | .EVENTS_switched => ⟨0x10, 0, 1, 1, 1, .rw1c, .ns, 0, 0x7E, 0, 0, false⟩
  | .EVENTS_counter_wrap => ⟨0x10, 0, 1, 0, 1, .rw1c, .ns, 0, 0x7E, 0, 0, false⟩
  | .EVENTS_INT_enable => ⟨0x14, 0, 1, 0, 5, .rw, .ns, 0, 0x7E, 0, 0, false⟩
  | .SNAP_CTRL_done => ⟨0x18, 0, 1, 9, 1, .ro, .ns, 0, 0x7E, 0, 0, false⟩
  | .SNAP_CTRL_go => ⟨0x18, 0, 1, 8, 1, .wo, .ns, 0, 0x7E, 0, 0, false⟩
  | .CNT_OVF_ovf => ⟨0x1C, 0, 1, 0, 8, .rw1c, .ns, 0, 0x7E, 0, 0, false⟩
  | .CNT_OVF_INT_enable => ⟨0x20, 0, 1, 0, 8, .rw, .ns, 0, 0x7E, 0, 0, false⟩
  | .G_STATE_refuse_cause => ⟨0x100, 64, 4, 12, 4, .ro, .ns, 0, 0x7E, 0, 0, false⟩
  | .G_STATE_wait_cause => ⟨0x100, 64, 4, 9, 3, .ro, .ns, 0, 0x7E, 0, 0, false⟩
  | .G_STATE_held => ⟨0x100, 64, 4, 8, 1, .ro, .ns, 0, 0x7E, 0, 0, false⟩
  | .G_STATE_paused => ⟨0x100, 64, 4, 7, 1, .ro, .ns, 0, 0x7E, 0, 0, false⟩
  | .G_STATE_cancel_pending => ⟨0x100, 64, 4, 6, 1, .ro, .ns, 0, 0x7E, 0, 0, false⟩
  | .G_STATE_direction => ⟨0x100, 64, 4, 5, 1, .ro, .ns, 0, 0x7E, 0, 0, false⟩
  | .G_STATE_moving => ⟨0x100, 64, 4, 4, 1, .ro, .ns, 0, 0x7E, 0, 0, false⟩
  | .G_STATE_phase => ⟨0x100, 64, 4, 0, 4, .ro, .ns, 0, 0x7E, 0, 0, false⟩
  | .G_CMD_op => ⟨0x104, 64, 4, 0, 2, .wo, .swnr, 0, 0x7E, 0, 0, false⟩
  | .G_STEP_backed => ⟨0x108, 64, 4, 16, 1, .ro, .ns, 0, 0x7E, 0, 0, false⟩
  | .G_STEP_blocks => ⟨0x108, 64, 4, 0, 16, .ro, .ns, 0, 0x7E, 0, 0, false⟩
  | .G_CURSOR => ⟨0x110, 64, 4, 0, 64, .ro, .ns, 0, 0x7E, 0, 0, false⟩
  | .G_END => ⟨0x118, 64, 4, 0, 64, .ro, .ns, 0, 0x7E, 0, 0, false⟩

/-- Fields of DRV (block 0x27, spec/13). -/
inductive DrvF where
  | STATUS_write_gate | STATUS_link_up | STATUS_ready | STATUS_present | CFG_cmd_timeout_ms | CFG_retries 
  | CFG2_link_limit_ms | CFG2_ready_limit_s | CFG2_media_limit | HEALTH_CFG_poll_s | HEALTH_CFG_wear_warn_pct 
  | EVENTS_resv_lost | EVENTS_link_degraded | EVENTS_write_gated | EVENTS_late_completion 
  | EVENTS_reservation_conflict | EVENTS_critical_warning | EVENTS_wear_warn | EVENTS_foreign 
  | EVENTS_unsuitable | EVENTS_drive_failed | EVENTS_drive_lost | EVENTS_drive_ready | EVENTS_counter_wrap 
  | EVENTS_INT_enable | SNAP_CTRL_done | SNAP_CTRL_go | SNAP_CTRL_bay | CNT_OVF_INT_enable | RES_KEY 
  | B_STATE_state | B_STATE_class | B_STATE_dual_port | B_STATE_group | B_STATE_position | B_STATE_spare 
  | B_STATE_led | B_STATE_cause | B_LINK_speed | B_LINK_width | B_LINK_reversed | B_LINK_dpc | B_CMD_op 
  | B_HEALTH_critical_warning | B_HEALTH_percent_used | B_HEALTH_avail_spare | B_HEALTH_spare_thresh 
  | B_HEALTH2_temp_k | B_HEALTH2_poll_age_s | B_SB_generation | B_ERR_class | B_ERR_sc | B_ERR_sct 
  | B_ERR_media_window | B_OVF_ovf 
  deriving DecidableEq, Repr

def DrvF.all : List DrvF :=
  [.STATUS_write_gate, .STATUS_link_up, .STATUS_ready, .STATUS_present, .CFG_cmd_timeout_ms, .CFG_retries, 
   .CFG2_link_limit_ms, .CFG2_ready_limit_s, .CFG2_media_limit, .HEALTH_CFG_poll_s, .HEALTH_CFG_wear_warn_pct, 
   .EVENTS_resv_lost, .EVENTS_link_degraded, .EVENTS_write_gated, .EVENTS_late_completion, 
   .EVENTS_reservation_conflict, .EVENTS_critical_warning, .EVENTS_wear_warn, .EVENTS_foreign, 
   .EVENTS_unsuitable, .EVENTS_drive_failed, .EVENTS_drive_lost, .EVENTS_drive_ready, .EVENTS_counter_wrap, 
   .EVENTS_INT_enable, .SNAP_CTRL_done, .SNAP_CTRL_go, .SNAP_CTRL_bay, .CNT_OVF_INT_enable, .RES_KEY, 
   .B_STATE_state, .B_STATE_class, .B_STATE_dual_port, .B_STATE_group, .B_STATE_position, .B_STATE_spare, 
   .B_STATE_led, .B_STATE_cause, .B_LINK_speed, .B_LINK_width, .B_LINK_reversed, .B_LINK_dpc, .B_CMD_op, 
   .B_HEALTH_critical_warning, .B_HEALTH_percent_used, .B_HEALTH_avail_spare, .B_HEALTH_spare_thresh, 
   .B_HEALTH2_temp_k, .B_HEALTH2_poll_age_s, .B_SB_generation, .B_ERR_class, .B_ERR_sc, .B_ERR_sct, 
   .B_ERR_media_window, .B_OVF_ovf]

def DrvF.spec : DrvF → FldSpec
  | .STATUS_write_gate => ⟨0x0, 0, 1, 24, 1, .ro, .ns, 0, 0x7E, 0, 0, false⟩
  | .STATUS_link_up => ⟨0x0, 0, 1, 16, 8, .ro, .ns, 0, 0x7E, 0, 0, false⟩
  | .STATUS_ready => ⟨0x0, 0, 1, 8, 8, .ro, .ns, 0, 0x7E, 0, 0, false⟩
  | .STATUS_present => ⟨0x0, 0, 1, 0, 8, .ro, .ns, 0, 0x7E, 0, 0, false⟩
  | .CFG_cmd_timeout_ms => ⟨0x4, 0, 1, 16, 16, .rw, .ns, 5000, 0x7E, 100, 60000, false⟩
  | .CFG_retries => ⟨0x4, 0, 1, 0, 3, .rw, .ns, 3, 0x7E, 0, 7, false⟩
  | .CFG2_link_limit_ms => ⟨0x8, 0, 1, 16, 16, .rw, .ns, 1000, 0x7E, 100, 10000, false⟩
  | .CFG2_ready_limit_s => ⟨0x8, 0, 1, 8, 8, .rw, .ns, 30, 0x7E, 1, 120, false⟩
  | .CFG2_media_limit => ⟨0x8, 0, 1, 0, 8, .rw, .ns, 64, 0x7E, 1, 255, false⟩
  | .HEALTH_CFG_poll_s => ⟨0xC, 0, 1, 20, 12, .rw, .ns, 60, 0x7E, 10, 3600, false⟩
  | .HEALTH_CFG_wear_warn_pct => ⟨0xC, 0, 1, 12, 8, .rw, .ns, 90, 0x7E, 1, 100, false⟩
  | .EVENTS_resv_lost => ⟨0x10, 0, 1, 12, 1, .rw1c, .ns, 0, 0x7E, 0, 0, false⟩
  | .EVENTS_link_degraded => ⟨0x10, 0, 1, 11, 1, .rw1c, .ns, 0, 0x7E, 0, 0, false⟩
  | .EVENTS_write_gated => ⟨0x10, 0, 1, 10, 1, .rw1c, .ns, 0, 0x7E, 0, 0, false⟩
  | .EVENTS_late_completion => ⟨0x10, 0, 1, 9, 1, .rw1c, .ns, 0, 0x7E, 0, 0, false⟩
  | .EVENTS_reservation_conflict => ⟨0x10, 0, 1, 8, 1, .rw1c, .ns, 0, 0x7E, 0, 0, false⟩
  | .EVENTS_critical_warning => ⟨0x10, 0, 1, 7, 1, .rw1c, .ns, 0, 0x7E, 0, 0, false⟩
  | .EVENTS_wear_warn => ⟨0x10, 0, 1, 6, 1, .rw1c, .ns, 0, 0x7E, 0, 0, false⟩
  | .EVENTS_foreign => ⟨0x10, 0, 1, 5, 1, .rw1c, .ns, 0, 0x7E, 0, 0, false⟩
  | .EVENTS_unsuitable => ⟨0x10, 0, 1, 4, 1, .rw1c, .ns, 0, 0x7E, 0, 0, false⟩
  | .EVENTS_drive_failed => ⟨0x10, 0, 1, 3, 1, .rw1c, .ns, 0, 0x7E, 0, 0, false⟩
  | .EVENTS_drive_lost => ⟨0x10, 0, 1, 2, 1, .rw1c, .ns, 0, 0x7E, 0, 0, false⟩
  | .EVENTS_drive_ready => ⟨0x10, 0, 1, 1, 1, .rw1c, .ns, 0, 0x7E, 0, 0, false⟩
  | .EVENTS_counter_wrap => ⟨0x10, 0, 1, 0, 1, .rw1c, .ns, 0, 0x7E, 0, 0, false⟩
  | .EVENTS_INT_enable => ⟨0x14, 0, 1, 0, 13, .rw, .ns, 0, 0x7E, 0, 0, false⟩
  | .SNAP_CTRL_done => ⟨0x18, 0, 1, 9, 1, .ro, .ns, 0, 0x7E, 0, 0, false⟩
  | .SNAP_CTRL_go => ⟨0x18, 0, 1, 8, 1, .wo, .ns, 0, 0x7E, 0, 0, false⟩
  | .SNAP_CTRL_bay => ⟨0x18, 0, 1, 0, 3, .rw, .ns, 0, 0x7E, 0, 7, false⟩
  | .CNT_OVF_INT_enable => ⟨0x1C, 0, 1, 0, 13, .rw, .ns, 0, 0x7E, 0, 0, false⟩
  | .RES_KEY => ⟨0x20, 0, 1, 0, 64, .ro, .ns, 0, 0x7E, 0, 0, false⟩
  | .B_STATE_state => ⟨0x100, 64, 8, 28, 4, .ro, .ns, 0, 0x7E, 0, 0, false⟩
  | .B_STATE_class => ⟨0x100, 64, 8, 25, 3, .ro, .ns, 0, 0x7E, 0, 0, false⟩
  | .B_STATE_dual_port => ⟨0x100, 64, 8, 24, 1, .ro, .ns, 0, 0x7E, 0, 0, false⟩
  | .B_STATE_group => ⟨0x100, 64, 8, 22, 2, .ro, .ns, 0, 0x7E, 0, 0, false⟩
  | .B_STATE_position => ⟨0x100, 64, 8, 19, 3, .ro, .ns, 0, 0x7E, 0, 0, false⟩
  | .B_STATE_spare => ⟨0x100, 64, 8, 18, 1, .ro, .ns, 0, 0x7E, 0, 0, false⟩
  | .B_STATE_led => ⟨0x100, 64, 8, 16, 2, .ro, .ns, 0, 0x7E, 0, 0, false⟩
  | .B_STATE_cause => ⟨0x100, 64, 8, 0, 4, .ro, .ns, 0, 0x7E, 0, 0, false⟩
  | .B_LINK_speed => ⟨0x104, 64, 8, 8, 4, .ro, .ns, 0, 0x7E, 0, 0, false⟩
  | .B_LINK_width => ⟨0x104, 64, 8, 4, 4, .ro, .ns, 0, 0x7E, 0, 0, false⟩
  | .B_LINK_reversed => ⟨0x104, 64, 8, 3, 1, .ro, .ns, 0, 0x7E, 0, 0, false⟩
  | .B_LINK_dpc => ⟨0x104, 64, 8, 2, 1, .rw1c, .ns, 0, 0x7E, 0, 0, false⟩
  | .B_CMD_op => ⟨0x108, 64, 8, 0, 3, .wo, .ns, 0, 0x7E, 0, 0, false⟩
  | .B_HEALTH_critical_warning => ⟨0x10C, 64, 8, 24, 8, .ro, .ns, 0, 0x7E, 0, 0, false⟩
  | .B_HEALTH_percent_used => ⟨0x10C, 64, 8, 16, 8, .ro, .ns, 0, 0x7E, 0, 0, false⟩
  | .B_HEALTH_avail_spare => ⟨0x10C, 64, 8, 8, 8, .ro, .ns, 0, 0x7E, 0, 0, false⟩
  | .B_HEALTH_spare_thresh => ⟨0x10C, 64, 8, 0, 8, .ro, .ns, 0, 0x7E, 0, 0, false⟩
  | .B_HEALTH2_temp_k => ⟨0x110, 64, 8, 16, 16, .ro, .ns, 0, 0x7E, 0, 0, false⟩
  | .B_HEALTH2_poll_age_s => ⟨0x110, 64, 8, 0, 16, .ro, .ns, 65535, 0x7E, 0, 0, false⟩
  | .B_SB_generation => ⟨0x114, 64, 8, 0, 32, .ro, .ns, 0, 0x7E, 0, 0, false⟩
  | .B_ERR_class => ⟨0x118, 64, 8, 28, 4, .ro, .ns, 0, 0x7E, 0, 0, false⟩
  | .B_ERR_sc => ⟨0x118, 64, 8, 20, 8, .ro, .ns, 0, 0x7E, 0, 0, false⟩
  | .B_ERR_sct => ⟨0x118, 64, 8, 17, 3, .ro, .ns, 0, 0x7E, 0, 0, false⟩
  | .B_ERR_media_window => ⟨0x118, 64, 8, 0, 8, .ro, .ns, 0, 0x7E, 0, 0, false⟩
  | .B_OVF_ovf => ⟨0x11C, 64, 8, 0, 13, .rw1c, .ns, 0, 0x7E, 0, 0, false⟩

/-- Fields of CIP (block 0x28, spec/14). -/
inductive CipF where
  | STATUS_kat_pass | STATUS_ktk_ready | STATUS_slots_loaded | CFG_enc_min_pct | LOAD_CTRL_op | LOAD_CTRL_kind 
  | LOAD_CTRL_slot | LOAD_STATUS_busy | LOAD_STATUS_result | LOAD_META_nsid | LOAD_GEN_generation 
  | LOAD_FIXED_fixed | LOAD_BLOB_bytes | GCM_DONE_valid | GCM_DONE_lost | GCM_DONE_distrust | GCM_DONE_tag 
  | EVENTS_zeroised | EVENTS_no_media_root | EVENTS_kat_fail | EVENTS_key_exhausted | EVENTS_auth_fail 
  | EVENTS_load_refused | EVENTS_counter_wrap | EVENTS_INT_enable | SNAP_CTRL_done | SNAP_CTRL_go | CNT_OVF_ovf 
  | CNT_OVF_INT_enable | GSLOT_STATE_exhausted | GSLOT_STATE_seal | GSLOT_STATE_state | GSLOT_FIXED_fixed 
  | GSLOT_CTR | SLOT_A_state | SLOT_A_nsid | SLOT_B_generation 
  deriving DecidableEq, Repr

def CipF.all : List CipF :=
  [.STATUS_kat_pass, .STATUS_ktk_ready, .STATUS_slots_loaded, .CFG_enc_min_pct, .LOAD_CTRL_op, .LOAD_CTRL_kind, 
   .LOAD_CTRL_slot, .LOAD_STATUS_busy, .LOAD_STATUS_result, .LOAD_META_nsid, .LOAD_GEN_generation, 
   .LOAD_FIXED_fixed, .LOAD_BLOB_bytes, .GCM_DONE_valid, .GCM_DONE_lost, .GCM_DONE_distrust, .GCM_DONE_tag, 
   .EVENTS_zeroised, .EVENTS_no_media_root, .EVENTS_kat_fail, .EVENTS_key_exhausted, .EVENTS_auth_fail, 
   .EVENTS_load_refused, .EVENTS_counter_wrap, .EVENTS_INT_enable, .SNAP_CTRL_done, .SNAP_CTRL_go, .CNT_OVF_ovf, 
   .CNT_OVF_INT_enable, .GSLOT_STATE_exhausted, .GSLOT_STATE_seal, .GSLOT_STATE_state, .GSLOT_FIXED_fixed, 
   .GSLOT_CTR, .SLOT_A_state, .SLOT_A_nsid, .SLOT_B_generation]

def CipF.spec : CipF → FldSpec
  | .STATUS_kat_pass => ⟨0x0, 0, 1, 31, 1, .ro, .ns, 0, 0x7F, 0, 0, false⟩
  | .STATUS_ktk_ready => ⟨0x0, 0, 1, 30, 1, .ro, .ns, 0, 0x7F, 0, 0, false⟩
  | .STATUS_slots_loaded => ⟨0x0, 0, 1, 0, 13, .ro, .ns, 0, 0x7F, 0, 0, false⟩
  | .CFG_enc_min_pct => ⟨0x4, 0, 1, 0, 8, .rw, .swnr, 25, 0x7E, 0, 100, false⟩
  | .LOAD_CTRL_op => ⟨0x8, 0, 1, 30, 2, .wo, .s, 0, 0x7F, 0, 0, false⟩
  | .LOAD_CTRL_kind => ⟨0x8, 0, 1, 29, 1, .wo, .s, 0, 0x7F, 0, 0, false⟩
  | .LOAD_CTRL_slot => ⟨0x8, 0, 1, 0, 12, .wo, .s, 0, 0x7F, 0, 0, false⟩
  | .LOAD_STATUS_busy => ⟨0xC, 0, 1, 3, 1, .ro, .swnr, 0, 0x7F, 0, 0, false⟩
  | .LOAD_STATUS_result => ⟨0xC, 0, 1, 0, 3, .ro, .swnr, 0, 0x7F, 0, 0, false⟩
  | .LOAD_META_nsid => ⟨0x10, 0, 1, 0, 13, .wo, .s, 0, 0x7F, 1, 4096, false⟩
  | .LOAD_GEN_generation => ⟨0x14, 0, 1, 0, 32, .wo, .s, 0, 0x7F, 0, 0, false⟩
  | .LOAD_FIXED_fixed => ⟨0x18, 0, 1, 0, 32, .wo, .s, 0, 0x7F, 0, 0, false⟩
  | .LOAD_BLOB_bytes => ⟨0x40, 4, 18, 0, 32, .wo, .s, 0, 0x7F, 0, 0, false⟩
  | .GCM_DONE_valid => ⟨0x1C, 0, 1, 31, 1, .ro, .ns, 0, 0x7E, 0, 0, false⟩
  | .GCM_DONE_lost => ⟨0x1C, 0, 1, 30, 1, .ro, .ns, 0, 0x7E, 0, 0, false⟩
  | .GCM_DONE_distrust => ⟨0x1C, 0, 1, 29, 1, .ro, .ns, 0, 0x7E, 0, 0, false⟩
  | .GCM_DONE_tag => ⟨0x1C, 0, 1, 0, 16, .ro, .ns, 0, 0x7E, 0, 0, false⟩
  | .EVENTS_zeroised => ⟨0x20, 0, 1, 6, 1, .rw1c, .ns, 0, 0x7F, 0, 0, false⟩
  | .EVENTS_no_media_root => ⟨0x20, 0, 1, 5, 1, .rw1c, .ns, 0, 0x7F, 0, 0, false⟩
  | .EVENTS_kat_fail => ⟨0x20, 0, 1, 4, 1, .rw1c, .ns, 0, 0x7F, 0, 0, false⟩
  | .EVENTS_key_exhausted => ⟨0x20, 0, 1, 3, 1, .rw1c, .ns, 0, 0x7F, 0, 0, false⟩
  | .EVENTS_auth_fail => ⟨0x20, 0, 1, 2, 1, .rw1c, .ns, 0, 0x7F, 0, 0, false⟩
  | .EVENTS_load_refused => ⟨0x20, 0, 1, 1, 1, .rw1c, .ns, 0, 0x7F, 0, 0, false⟩
  | .EVENTS_counter_wrap => ⟨0x20, 0, 1, 0, 1, .rw1c, .ns, 0, 0x7F, 0, 0, false⟩
  | .EVENTS_INT_enable => ⟨0x24, 0, 1, 0, 7, .rw, .ns, 0, 0x7F, 0, 0, false⟩
  | .SNAP_CTRL_done => ⟨0x28, 0, 1, 9, 1, .ro, .ns, 0, 0x7F, 0, 0, false⟩
  | .SNAP_CTRL_go => ⟨0x28, 0, 1, 8, 1, .wo, .ns, 0, 0x7F, 0, 0, false⟩
  | .CNT_OVF_ovf => ⟨0x2C, 0, 1, 0, 8, .rw1c, .ns, 0, 0x7F, 0, 0, false⟩
  | .CNT_OVF_INT_enable => ⟨0x30, 0, 1, 0, 8, .rw, .ns, 0, 0x7F, 0, 0, false⟩
  | .GSLOT_STATE_exhausted => ⟨0x200, 16, 4, 3, 1, .ro, .swnr, 0, 0x7F, 0, 0, false⟩
  | .GSLOT_STATE_seal => ⟨0x200, 16, 4, 2, 1, .ro, .swnr, 0, 0x7F, 0, 0, false⟩
  | .GSLOT_STATE_state => ⟨0x200, 16, 4, 0, 2, .ro, .swnr, 0, 0x7F, 0, 0, false⟩
  | .GSLOT_FIXED_fixed => ⟨0x204, 16, 4, 0, 32, .ro, .swnr, 0, 0x7F, 0, 0, false⟩
  | .GSLOT_CTR => ⟨0x208, 16, 4, 0, 64, .ro, .swnr, 0, 0x7F, 0, 0, false⟩
  | .SLOT_A_state => ⟨0x10000, 8, 4096, 30, 2, .ro, .swnr, 0, 0x7E, 0, 0, false⟩
  | .SLOT_A_nsid => ⟨0x10000, 8, 4096, 0, 13, .ro, .swnr, 0, 0x7E, 0, 0, false⟩
  | .SLOT_B_generation => ⟨0x10004, 8, 4096, 0, 32, .ro, .swnr, 0, 0x7E, 0, 0, false⟩

/-- Fields of PAIR (block 0x30, spec/15). -/
inductive PairF where
  | STATUS_reason | STATUS_role | STATUS_mirror | STATUS_stale | STATUS_seeding | STATUS_partner_lost 
  | STATUS_claim_granted | STATUS_claim_asserted | STATUS_peer_claim | STATUS_majority | STATUS_partner_lapsed 
  | STATUS_part_match | STATUS_config_match | STATUS_fw_compatible | LEASE_CFG_duration_ms | LEASE_CFG_renew_ms 
  | HB_CFG_hb_interval_us | HB_CFG_hb_miss | LEASE_KICK_kick | LEASE_COUNT_present | LEASE_COUNT_held 
  | LEASE_COUNT_lapsed | CMD_op | DROP | PARTNER_FW_release | PARTNER_STATE_failed_channels 
  | PARTNER_STATE_flags | PARTNER_STATE_servo | PARTNER_STATE_mode | HELD | LAPSED | LINK_STATUS_phase 
  | LINK_STATUS_ring_closed | LINK_STATUS_authenticated | LINK_STATUS_link_state | LINK_RTT_rtt_ns 
  | CD_STATUS_partner_failed | CD_STATUS_seeding | CD_STATUS_mirrored | TABLE_ACK | EVENTS_rekey 
  | EVENTS_link_auth_fail | EVENTS_handover_refused | EVENTS_takeover_done | EVENTS_claim_contended 
  | EVENTS_claim_lost | EVENTS_kick_missed | EVENTS_stale | EVENTS_pairing_refused | EVENTS_partner_lost 
  | EVENTS_counter_wrap | EVENTS_INT_enable | SNAP_CTRL_done | SNAP_CTRL_go | CNT_OVF_ovf | CNT_OVF_INT_enable 
  | SHADOW_bits 
  deriving DecidableEq, Repr

def PairF.all : List PairF :=
  [.STATUS_reason, .STATUS_role, .STATUS_mirror, .STATUS_stale, .STATUS_seeding, .STATUS_partner_lost, 
   .STATUS_claim_granted, .STATUS_claim_asserted, .STATUS_peer_claim, .STATUS_majority, .STATUS_partner_lapsed, 
   .STATUS_part_match, .STATUS_config_match, .STATUS_fw_compatible, .LEASE_CFG_duration_ms, .LEASE_CFG_renew_ms, 
   .HB_CFG_hb_interval_us, .HB_CFG_hb_miss, .LEASE_KICK_kick, .LEASE_COUNT_present, .LEASE_COUNT_held, 
   .LEASE_COUNT_lapsed, .CMD_op, .DROP, .PARTNER_FW_release, .PARTNER_STATE_failed_channels, 
   .PARTNER_STATE_flags, .PARTNER_STATE_servo, .PARTNER_STATE_mode, .HELD, .LAPSED, .LINK_STATUS_phase, 
   .LINK_STATUS_ring_closed, .LINK_STATUS_authenticated, .LINK_STATUS_link_state, .LINK_RTT_rtt_ns, 
   .CD_STATUS_partner_failed, .CD_STATUS_seeding, .CD_STATUS_mirrored, .TABLE_ACK, .EVENTS_rekey, 
   .EVENTS_link_auth_fail, .EVENTS_handover_refused, .EVENTS_takeover_done, .EVENTS_claim_contended, 
   .EVENTS_claim_lost, .EVENTS_kick_missed, .EVENTS_stale, .EVENTS_pairing_refused, .EVENTS_partner_lost, 
   .EVENTS_counter_wrap, .EVENTS_INT_enable, .SNAP_CTRL_done, .SNAP_CTRL_go, .CNT_OVF_ovf, .CNT_OVF_INT_enable, 
   .SHADOW_bits]

def PairF.spec : PairF → FldSpec
  | .STATUS_reason => ⟨0x0, 0, 1, 28, 4, .ro, .ns, 0, 0x80, 0, 0, false⟩
  | .STATUS_role => ⟨0x0, 0, 1, 26, 2, .ro, .ns, 0, 0x80, 0, 0, false⟩
  | .STATUS_mirror => ⟨0x0, 0, 1, 24, 2, .ro, .ns, 0, 0x80, 0, 0, false⟩
  | .STATUS_stale => ⟨0x0, 0, 1, 23, 1, .ros, .ns, 0, 0x80, 0, 0, false⟩
  | .STATUS_seeding => ⟨0x0, 0, 1, 22, 1, .ro, .ns, 0, 0x80, 0, 0, false⟩
  | .STATUS_partner_lost => ⟨0x0, 0, 1, 21, 1, .ro, .ns, 0, 0x80, 0, 0, false⟩
  | .STATUS_claim_granted => ⟨0x0, 0, 1, 20, 1, .ro, .ns, 0, 0x80, 0, 0, false⟩
  | .STATUS_claim_asserted => ⟨0x0, 0, 1, 19, 1, .ro, .ns, 0, 0x80, 0, 0, false⟩
  | .STATUS_peer_claim => ⟨0x0, 0, 1, 18, 1, .ro, .ns, 0, 0x80, 0, 0, false⟩
  | .STATUS_majority => ⟨0x0, 0, 1, 17, 1, .ro, .ns, 0, 0x80, 0, 0, false⟩
  | .STATUS_partner_lapsed => ⟨0x0, 0, 1, 16, 1, .ro, .ns, 0, 0x80, 0, 0, false⟩
  | .STATUS_part_match => ⟨0x0, 0, 1, 15, 1, .ro, .ns, 0, 0x80, 0, 0, false⟩
  | .STATUS_config_match => ⟨0x0, 0, 1, 14, 1, .ro, .ns, 0, 0x80, 0, 0, false⟩
  | .STATUS_fw_compatible => ⟨0x0, 0, 1, 13, 1, .ro, .ns, 0, 0x80, 0, 0, false⟩
  | .LEASE_CFG_duration_ms => ⟨0x4, 0, 1, 18, 14, .rw, .swnr, 1000, 0x80, 100, 10000, false⟩
  | .LEASE_CFG_renew_ms => ⟨0x4, 0, 1, 6, 12, .rw, .swnr, 250, 0x80, 25, 2500, false⟩
  | .HB_CFG_hb_interval_us => ⟨0x8, 0, 1, 22, 10, .rw, .swnr, 100, 0x80, 10, 1000, false⟩
  | .HB_CFG_hb_miss => ⟨0x8, 0, 1, 16, 6, .rw, .swnr, 8, 0x80, 3, 32, false⟩
  | .LEASE_KICK_kick => ⟨0xC, 0, 1, 0, 1, .wo, .s, 0, 0x80, 0, 0, false⟩
  | .LEASE_COUNT_present => ⟨0x10, 0, 1, 16, 8, .ro, .ns, 0, 0x80, 0, 0, false⟩
  | .LEASE_COUNT_held => ⟨0x10, 0, 1, 8, 8, .ro, .ns, 0, 0x80, 0, 0, false⟩
  | .LEASE_COUNT_lapsed => ⟨0x10, 0, 1, 0, 8, .ro, .ns, 0, 0x80, 0, 0, false⟩
  | .CMD_op => ⟨0x14, 0, 1, 0, 2, .wo, .s, 0, 0x80, 0, 0, false⟩
  | .DROP => ⟨0x18, 0, 1, 0, 64, .ro, .ns, 0, 0x80, 0, 0, false⟩
  | .PARTNER_FW_release => ⟨0x20, 0, 1, 0, 32, .ro, .ns, 0, 0x80, 0, 0, false⟩
  | .PARTNER_STATE_failed_channels => ⟨0x24, 0, 1, 16, 6, .ro, .ns, 0, 0x80, 0, 0, false⟩
  | .PARTNER_STATE_flags => ⟨0x24, 0, 1, 8, 8, .ro, .ns, 0, 0x80, 0, 0, false⟩
  | .PARTNER_STATE_servo => ⟨0x24, 0, 1, 4, 4, .ro, .ns, 0, 0x80, 0, 0, false⟩
  | .PARTNER_STATE_mode => ⟨0x24, 0, 1, 0, 4, .ro, .ns, 0, 0x80, 0, 0, false⟩
  | .HELD => ⟨0x28, 0, 1, 0, 64, .ro, .ns, 0, 0x80, 0, 0, false⟩
  | .LAPSED => ⟨0x30, 0, 1, 0, 64, .ro, .ns, 0, 0x80, 0, 0, false⟩
  | .LINK_STATUS_phase => ⟨0x40, 0, 1, 8, 8, .ro, .ns, 0, 0x01, 0, 0, false⟩
  | .LINK_STATUS_ring_closed => ⟨0x40, 0, 1, 7, 1, .ro, .ns, 0, 0x01, 0, 0, false⟩
  | .LINK_STATUS_authenticated => ⟨0x40, 0, 1, 6, 1, .ro, .ns, 0, 0x01, 0, 0, false⟩
  | .LINK_STATUS_link_state => ⟨0x40, 0, 1, 0, 3, .ro, .ns, 0, 0x01, 0, 0, false⟩
  | .LINK_RTT_rtt_ns => ⟨0x44, 0, 1, 0, 32, .ro, .ns, 0, 0x01, 0, 0, false⟩
  | .CD_STATUS_partner_failed => ⟨0x60, 0, 1, 2, 1, .ro, .ns, 0, 0x7E, 0, 0, false⟩
  | .CD_STATUS_seeding => ⟨0x60, 0, 1, 1, 1, .ro, .ns, 0, 0x7E, 0, 0, false⟩
  | .CD_STATUS_mirrored => ⟨0x60, 0, 1, 0, 1, .ro, .ns, 0, 0x7E, 0, 0, false⟩
  | .TABLE_ACK => ⟨0x64, 0, 1, 0, 64, .ro, .ns, 0, 0x7E, 0, 0, false⟩
  | .EVENTS_rekey => ⟨0x80, 0, 1, 10, 1, .rw1c, .ns, 0, 0xFF, 0, 0, false⟩
  | .EVENTS_link_auth_fail => ⟨0x80, 0, 1, 9, 1, .rw1c, .ns, 0, 0xFF, 0, 0, false⟩
  | .EVENTS_handover_refused => ⟨0x80, 0, 1, 8, 1, .rw1c, .ns, 0, 0xFF, 0, 0, false⟩
  | .EVENTS_takeover_done => ⟨0x80, 0, 1, 7, 1, .rw1c, .ns, 0, 0xFF, 0, 0, false⟩
  | .EVENTS_claim_contended => ⟨0x80, 0, 1, 6, 1, .rw1c, .ns, 0, 0xFF, 0, 0, false⟩
  | .EVENTS_claim_lost => ⟨0x80, 0, 1, 5, 1, .rw1c, .ns, 0, 0xFF, 0, 0, false⟩
  | .EVENTS_kick_missed => ⟨0x80, 0, 1, 4, 1, .rw1c, .ns, 0, 0xFF, 0, 0, false⟩
  | .EVENTS_stale => ⟨0x80, 0, 1, 3, 1, .rw1c, .ns, 0, 0xFF, 0, 0, false⟩
  | .EVENTS_pairing_refused => ⟨0x80, 0, 1, 2, 1, .rw1c, .ns, 0, 0xFF, 0, 0, false⟩
  | .EVENTS_partner_lost => ⟨0x80, 0, 1, 1, 1, .rw1c, .ns, 0, 0xFF, 0, 0, false⟩
  | .EVENTS_counter_wrap => ⟨0x80, 0, 1, 0, 1, .rw1c, .ns, 0, 0xFF, 0, 0, false⟩
  | .EVENTS_INT_enable => ⟨0x84, 0, 1, 0, 11, .rw, .ns, 0, 0xFF, 0, 0, false⟩
  | .SNAP_CTRL_done => ⟨0x88, 0, 1, 9, 1, .ro, .ns, 0, 0xFF, 0, 0, false⟩
  | .SNAP_CTRL_go => ⟨0x88, 0, 1, 8, 1, .wo, .ns, 0, 0xFF, 0, 0, false⟩
  | .CNT_OVF_ovf => ⟨0x8C, 0, 1, 0, 10, .rw1c, .ns, 0, 0xFF, 0, 0, false⟩
  | .CNT_OVF_INT_enable => ⟨0x90, 0, 1, 0, 10, .rw, .ns, 0, 0xFF, 0, 0, false⟩
  | .SHADOW_bits => ⟨0x1000, 4, 128, 0, 32, .rw, .ns, 0, 0x7E, 0, 0, false⟩

/-- Fields of FLS (block 0x31, spec/16). -/
inductive FlsF where
  | STATUS_warning | STATUS_psu_warn | STATUS_v12_low | STATUS_flush_done | STATUS_deadline | STATUS_v12_mv 
  | WARN_CFG_psu_enable | WARN_CFG_v12_enable | WARN_CFG_v12_thr_mv | BUDGET_holdup_ms | BUDGET_drive_mbps 
  | WARN_TS | EVENTS_over_budget | EVENTS_distrust | EVENTS_member_lost | EVENTS_early_end | EVENTS_deadline 
  | EVENTS_warning | EVENTS_replay_done | EVENTS_counter_wrap | EVENTS_INT_enable | SNAP_CTRL_done 
  | SNAP_CTRL_go | CNT_OVF_ovf | CNT_OVF_INT_enable | CH_STATUS_state | CH_STATUS_members | CH_STATUS_allow_mib 
  | CH_PROGRESS_records | CH_EPOCH | REPLAY_STATUS_source | REPLAY_STATUS_sets | REPLAY_STATUS_outcome 
  | REPLAY_STATUS_running 
  deriving DecidableEq, Repr

def FlsF.all : List FlsF :=
  [.STATUS_warning, .STATUS_psu_warn, .STATUS_v12_low, .STATUS_flush_done, .STATUS_deadline, .STATUS_v12_mv, 
   .WARN_CFG_psu_enable, .WARN_CFG_v12_enable, .WARN_CFG_v12_thr_mv, .BUDGET_holdup_ms, .BUDGET_drive_mbps, 
   .WARN_TS, .EVENTS_over_budget, .EVENTS_distrust, .EVENTS_member_lost, .EVENTS_early_end, .EVENTS_deadline, 
   .EVENTS_warning, .EVENTS_replay_done, .EVENTS_counter_wrap, .EVENTS_INT_enable, .SNAP_CTRL_done, 
   .SNAP_CTRL_go, .CNT_OVF_ovf, .CNT_OVF_INT_enable, .CH_STATUS_state, .CH_STATUS_members, .CH_STATUS_allow_mib, 
   .CH_PROGRESS_records, .CH_EPOCH, .REPLAY_STATUS_source, .REPLAY_STATUS_sets, .REPLAY_STATUS_outcome, 
   .REPLAY_STATUS_running]

def FlsF.spec : FlsF → FldSpec
  | .STATUS_warning => ⟨0x0, 0, 1, 31, 1, .ro, .ns, 0, 0x80, 0, 0, false⟩
  | .STATUS_psu_warn => ⟨0x0, 0, 1, 30, 1, .ro, .ns, 0, 0x80, 0, 0, false⟩
  | .STATUS_v12_low => ⟨0x0, 0, 1, 29, 1, .ro, .ns, 0, 0x80, 0, 0, false⟩
  | .STATUS_flush_done => ⟨0x0, 0, 1, 28, 1, .ro, .ns, 0, 0x80, 0, 0, false⟩
  | .STATUS_deadline => ⟨0x0, 0, 1, 27, 1, .ro, .ns, 0, 0x80, 0, 0, false⟩
  | .STATUS_v12_mv => ⟨0x0, 0, 1, 0, 16, .ro, .ns, 0, 0x80, 0, 0, false⟩
  | .WARN_CFG_psu_enable => ⟨0x4, 0, 1, 31, 1, .rw, .swnr, 1, 0x80, 0, 0, false⟩
  | .WARN_CFG_v12_enable => ⟨0x4, 0, 1, 30, 1, .rw, .swnr, 1, 0x80, 0, 0, false⟩
  | .WARN_CFG_v12_thr_mv => ⟨0x4, 0, 1, 0, 16, .rw, .swnr, 10800, 0x80, 9000, 11500, false⟩
  | .BUDGET_holdup_ms => ⟨0x8, 0, 1, 20, 12, .rw, .swnr, 0, 0x80, 0, 1000, true⟩
  | .BUDGET_drive_mbps => ⟨0x8, 0, 1, 0, 16, .rw, .swnr, 0, 0x80, 0, 16000, true⟩
  | .WARN_TS => ⟨0xC, 0, 1, 0, 64, .ro, .ns, 0, 0x80, 0, 0, false⟩
  | .EVENTS_over_budget => ⟨0x14, 0, 1, 7, 1, .rw1c, .ns, 0, 0xFE, 0, 0, false⟩
  | .EVENTS_distrust => ⟨0x14, 0, 1, 6, 1, .rw1c, .ns, 0, 0xFE, 0, 0, false⟩
  | .EVENTS_member_lost => ⟨0x14, 0, 1, 5, 1, .rw1c, .ns, 0, 0xFE, 0, 0, false⟩
  | .EVENTS_early_end => ⟨0x14, 0, 1, 4, 1, .rw1c, .ns, 0, 0xFE, 0, 0, false⟩
  | .EVENTS_deadline => ⟨0x14, 0, 1, 3, 1, .rw1c, .ns, 0, 0xFE, 0, 0, false⟩
  | .EVENTS_warning => ⟨0x14, 0, 1, 2, 1, .rw1c, .ns, 0, 0xFE, 0, 0, false⟩
  | .EVENTS_replay_done => ⟨0x14, 0, 1, 1, 1, .rw1c, .ns, 0, 0xFE, 0, 0, false⟩
  | .EVENTS_counter_wrap => ⟨0x14, 0, 1, 0, 1, .rw1c, .ns, 0, 0xFE, 0, 0, false⟩
  | .EVENTS_INT_enable => ⟨0x18, 0, 1, 0, 8, .rw, .ns, 0, 0xFE, 0, 0, false⟩
  | .SNAP_CTRL_done => ⟨0x1C, 0, 1, 9, 1, .ro, .ns, 0, 0xFE, 0, 0, false⟩
  | .SNAP_CTRL_go => ⟨0x1C, 0, 1, 8, 1, .wo, .ns, 0, 0xFE, 0, 0, false⟩
  | .CNT_OVF_ovf => ⟨0x20, 0, 1, 0, 9, .rw1c, .ns, 0, 0xFE, 0, 0, false⟩
  | .CNT_OVF_INT_enable => ⟨0x24, 0, 1, 0, 9, .rw, .ns, 0, 0xFE, 0, 0, false⟩
  | .CH_STATUS_state => ⟨0x40, 0, 1, 28, 4, .ro, .ns, 0, 0x7E, 0, 0, false⟩
  | .CH_STATUS_members => ⟨0x40, 0, 1, 24, 4, .ro, .ns, 0, 0x7E, 0, 0, false⟩
  | .CH_STATUS_allow_mib => ⟨0x40, 0, 1, 0, 12, .ro, .ns, 0, 0x7E, 0, 0, false⟩
  | .CH_PROGRESS_records => ⟨0x44, 0, 1, 0, 32, .ro, .ns, 0, 0x7E, 0, 0, false⟩
  | .CH_EPOCH => ⟨0x48, 0, 1, 0, 64, .rw, .swnr, 0, 0x7E, 0, 0, false⟩
  | .REPLAY_STATUS_source => ⟨0x50, 0, 1, 28, 4, .ro, .ns, 0, 0x7E, 0, 0, false⟩
  | .REPLAY_STATUS_sets => ⟨0x50, 0, 1, 26, 2, .ro, .ns, 0, 0x7E, 0, 0, false⟩
  | .REPLAY_STATUS_outcome => ⟨0x50, 0, 1, 23, 3, .ro, .ns, 0, 0x7E, 0, 0, false⟩
  | .REPLAY_STATUS_running => ⟨0x50, 0, 1, 22, 1, .ro, .ns, 0, 0x7E, 0, 0, false⟩

/-- Fields of BAY (block 0x32, spec/17). -/
inductive BayF where
  | STATUS_chain_ok | STATUS_vgd_ok | STATUS_warn_hold | STATUS_ramping | STATUS_on_count | STATUS_driven 
  | CFG_SENSE_rs_uohm | CFG_SENSE_stagger_max | CFG_RAMP_slew_dv | CFG_RAMP_ramp_limit_ms | CFG_RAMP_gnr_us 
  | CFG_LIMIT_ilim_10ma | CFG_LIMIT_p_fold | CFG_LIMIT_limit_ms | CFG_TRIP_trip_ma | CFG_THERM_theta 
  | CFG_THERM_tau_ms | CFG_THERM_fet_max_c | CFG_THERM_cool_hyst_c | CFG_THERM_mode | CFG_THERM2_ambient_c 
  | CFG_THERM2_therm_max_c | CFG_RETRY_retries_max | CFG_RETRY_backoff_ms | CFG_RETRY_reseat_min_ms 
  | CFG_SEAT_clear_s | CFG_SEAT_seat_deb_ms | CFG_SEAT_epw_lead_ms | EVENTS_warn_held | EVENTS_therm_fault 
  | EVENTS_taken | EVENTS_vgd_low | EVENTS_chain_fault | EVENTS_seat_change | EVENTS_latched | EVENTS_fault 
  | EVENTS_counter_wrap | EVENTS_INT_enable | CMD_op | CMD_bay | SNAP_CTRL_done | SNAP_CTRL_go | SNAP_CTRL_bay 
  | CNT_OVF_INT_enable | B_STATE_state | B_STATE_present | B_STATE_seated | B_STATE_pg | B_STATE_driven 
  | B_STATE_held_sense | B_STATE_owned | B_STATE_cmd_off | B_STATE_epw | B_MEAS_i_ma | B_MEAS_vout_mv 
  | B_GATE_vgate_mv | B_GATE_p_w | B_THERM_t_est_c | B_THERM_therm_c | B_THERM_therm_fault | B_FAULT_cause 
  | B_FAULT_count | B_TIMER_backoff_left_ms | B_TIMER_absence_ms | B_OVF_ovf 
  deriving DecidableEq, Repr

def BayF.all : List BayF :=
  [.STATUS_chain_ok, .STATUS_vgd_ok, .STATUS_warn_hold, .STATUS_ramping, .STATUS_on_count, .STATUS_driven, 
   .CFG_SENSE_rs_uohm, .CFG_SENSE_stagger_max, .CFG_RAMP_slew_dv, .CFG_RAMP_ramp_limit_ms, .CFG_RAMP_gnr_us, 
   .CFG_LIMIT_ilim_10ma, .CFG_LIMIT_p_fold, .CFG_LIMIT_limit_ms, .CFG_TRIP_trip_ma, .CFG_THERM_theta, 
   .CFG_THERM_tau_ms, .CFG_THERM_fet_max_c, .CFG_THERM_cool_hyst_c, .CFG_THERM_mode, .CFG_THERM2_ambient_c, 
   .CFG_THERM2_therm_max_c, .CFG_RETRY_retries_max, .CFG_RETRY_backoff_ms, .CFG_RETRY_reseat_min_ms, 
   .CFG_SEAT_clear_s, .CFG_SEAT_seat_deb_ms, .CFG_SEAT_epw_lead_ms, .EVENTS_warn_held, .EVENTS_therm_fault, 
   .EVENTS_taken, .EVENTS_vgd_low, .EVENTS_chain_fault, .EVENTS_seat_change, .EVENTS_latched, .EVENTS_fault, 
   .EVENTS_counter_wrap, .EVENTS_INT_enable, .CMD_op, .CMD_bay, .SNAP_CTRL_done, .SNAP_CTRL_go, .SNAP_CTRL_bay, 
   .CNT_OVF_INT_enable, .B_STATE_state, .B_STATE_present, .B_STATE_seated, .B_STATE_pg, .B_STATE_driven, 
   .B_STATE_held_sense, .B_STATE_owned, .B_STATE_cmd_off, .B_STATE_epw, .B_MEAS_i_ma, .B_MEAS_vout_mv, 
   .B_GATE_vgate_mv, .B_GATE_p_w, .B_THERM_t_est_c, .B_THERM_therm_c, .B_THERM_therm_fault, .B_FAULT_cause, 
   .B_FAULT_count, .B_TIMER_backoff_left_ms, .B_TIMER_absence_ms, .B_OVF_ovf]

def BayF.spec : BayF → FldSpec
  | .STATUS_chain_ok => ⟨0x0, 0, 1, 31, 1, .ro, .ns, 0, 0x80, 0, 0, false⟩
  | .STATUS_vgd_ok => ⟨0x0, 0, 1, 30, 1, .ro, .ns, 0, 0x80, 0, 0, false⟩
  | .STATUS_warn_hold => ⟨0x0, 0, 1, 29, 1, .ro, .ns, 0, 0x80, 0, 0, false⟩
  | .STATUS_ramping => ⟨0x0, 0, 1, 16, 8, .ro, .ns, 0, 0x80, 0, 0, false⟩
  | .STATUS_on_count => ⟨0x0, 0, 1, 8, 8, .ro, .ns, 0, 0x80, 0, 0, false⟩
  | .STATUS_driven => ⟨0x0, 0, 1, 0, 8, .ro, .ns, 0, 0x80, 0, 0, false⟩
  | .CFG_SENSE_rs_uohm => ⟨0x4, 0, 1, 16, 16, .rw, .swnr, 1000, 0x80, 500, 5000, false⟩
  | .CFG_SENSE_stagger_max => ⟨0x4, 0, 1, 8, 8, .rw, .swnr, 4, 0x80, 1, 48, false⟩
  | .CFG_RAMP_slew_dv => ⟨0x8, 0, 1, 24, 8, .rw, .swnr, 30, 0x80, 5, 120, false⟩
  | .CFG_RAMP_ramp_limit_ms => ⟨0x8, 0, 1, 16, 8, .rw, .swnr, 50, 0x80, 5, 200, false⟩
  | .CFG_RAMP_gnr_us => ⟨0x8, 0, 1, 0, 16, .rw, .swnr, 500, 0x80, 50, 5000, false⟩
  | .CFG_LIMIT_ilim_10ma => ⟨0xC, 0, 1, 22, 10, .rw, .swnr, 600, 0x80, 100, 1000, false⟩
  | .CFG_LIMIT_p_fold => ⟨0xC, 0, 1, 14, 8, .rw, .swnr, 60, 0x80, 10, 200, false⟩
  | .CFG_LIMIT_limit_ms => ⟨0xC, 0, 1, 7, 7, .rw, .swnr, 10, 0x80, 1, 100, false⟩
  | .CFG_TRIP_trip_ma => ⟨0x10, 0, 1, 16, 16, .rw, .swnr, 15000, 0x80, 2000, 40000, false⟩
  | .CFG_THERM_theta => ⟨0x14, 0, 1, 24, 8, .rw, .swnr, 20, 0x80, 1, 200, false⟩
  | .CFG_THERM_tau_ms => ⟨0x14, 0, 1, 14, 10, .rw, .swnr, 50, 0x80, 1, 1000, false⟩
  | .CFG_THERM_fet_max_c => ⟨0x14, 0, 1, 6, 8, .rw, .swnr, 150, 0x80, 100, 175, false⟩
  | .CFG_THERM_cool_hyst_c => ⟨0x14, 0, 1, 1, 5, .rw, .swnr, 20, 0x80, 5, 31, false⟩
  | .CFG_THERM_mode => ⟨0x14, 0, 1, 0, 1, .rw, .swnr, 0, 0x80, 0, 0, false⟩
  | .CFG_THERM2_ambient_c => ⟨0x18, 0, 1, 24, 8, .rw, .swnr, 55, 0x80, 0, 100, false⟩
  | .CFG_THERM2_therm_max_c => ⟨0x18, 0, 1, 16, 8, .rw, .swnr, 110, 0x80, 60, 150, false⟩
  | .CFG_RETRY_retries_max => ⟨0x1C, 0, 1, 28, 4, .rw, .swnr, 3, 0x80, 0, 15, false⟩
  | .CFG_RETRY_backoff_ms => ⟨0x1C, 0, 1, 14, 14, .rw, .swnr, 1000, 0x80, 100, 10000, false⟩
  | .CFG_RETRY_reseat_min_ms => ⟨0x1C, 0, 1, 0, 14, .rw, .swnr, 1000, 0x80, 100, 10000, false⟩
  | .CFG_SEAT_clear_s => ⟨0x20, 0, 1, 20, 12, .rw, .swnr, 60, 0x80, 1, 3600, false⟩
  | .CFG_SEAT_seat_deb_ms => ⟨0x20, 0, 1, 10, 10, .rw, .swnr, 100, 0x80, 10, 1000, false⟩
  | .CFG_SEAT_epw_lead_ms => ⟨0x20, 0, 1, 3, 7, .rw, .swnr, 5, 0x80, 0, 100, false⟩
  | .EVENTS_warn_held => ⟨0x24, 0, 1, 8, 1, .rw1c, .ns, 0, 0x80, 0, 0, false⟩
  | .EVENTS_therm_fault => ⟨0x24, 0, 1, 7, 1, .rw1c, .ns, 0, 0x80, 0, 0, false⟩
  | .EVENTS_taken => ⟨0x24, 0, 1, 6, 1, .rw1c, .ns, 0, 0x80, 0, 0, false⟩
  | .EVENTS_vgd_low => ⟨0x24, 0, 1, 5, 1, .rw1c, .ns, 0, 0x80, 0, 0, false⟩
  | .EVENTS_chain_fault => ⟨0x24, 0, 1, 4, 1, .rw1c, .ns, 0, 0x80, 0, 0, false⟩
  | .EVENTS_seat_change => ⟨0x24, 0, 1, 3, 1, .rw1c, .ns, 0, 0x80, 0, 0, false⟩
  | .EVENTS_latched => ⟨0x24, 0, 1, 2, 1, .rw1c, .ns, 0, 0x80, 0, 0, false⟩
  | .EVENTS_fault => ⟨0x24, 0, 1, 1, 1, .rw1c, .ns, 0, 0x80, 0, 0, false⟩
  | .EVENTS_counter_wrap => ⟨0x24, 0, 1, 0, 1, .rw1c, .ns, 0, 0x80, 0, 0, false⟩
  | .EVENTS_INT_enable => ⟨0x28, 0, 1, 0, 9, .rw, .ns, 0, 0x80, 0, 0, false⟩
  | .CMD_op => ⟨0x2C, 0, 1, 29, 3, .wo, .s, 0, 0x80, 0, 0, false⟩
  | .CMD_bay => ⟨0x2C, 0, 1, 0, 6, .wo, .s, 0, 0x80, 0, 0, false⟩
  | .SNAP_CTRL_done => ⟨0x30, 0, 1, 9, 1, .ro, .ns, 0, 0x80, 0, 0, false⟩
  | .SNAP_CTRL_go => ⟨0x30, 0, 1, 8, 1, .wo, .ns, 0, 0x80, 0, 0, false⟩
  | .SNAP_CTRL_bay => ⟨0x30, 0, 1, 0, 6, .rw, .ns, 0, 0x80, 0, 47, false⟩
  | .CNT_OVF_INT_enable => ⟨0x34, 0, 1, 0, 9, .rw, .ns, 0, 0x80, 0, 0, false⟩
  | .B_STATE_state => ⟨0x100, 32, 48, 28, 4, .ro, .ns, 0, 0x80, 0, 0, false⟩
  | .B_STATE_present => ⟨0x100, 32, 48, 27, 1, .ro, .ns, 0, 0x80, 0, 0, false⟩
  | .B_STATE_seated => ⟨0x100, 32, 48, 26, 1, .ro, .ns, 0, 0x80, 0, 0, false⟩
  | .B_STATE_pg => ⟨0x100, 32, 48, 25, 1, .ro, .ns, 0, 0x80, 0, 0, false⟩
  | .B_STATE_driven => ⟨0x100, 32, 48, 24, 1, .ro, .ns, 0, 0x80, 0, 0, false⟩
  | .B_STATE_held_sense => ⟨0x100, 32, 48, 23, 1, .ro, .ns, 0, 0x80, 0, 0, false⟩
  | .B_STATE_owned => ⟨0x100, 32, 48, 22, 1, .ro, .ns, 0, 0x80, 0, 0, false⟩
  | .B_STATE_cmd_off => ⟨0x100, 32, 48, 21, 1, .ro, .ns, 0, 0x80, 0, 0, false⟩
  | .B_STATE_epw => ⟨0x100, 32, 48, 20, 1, .ro, .ns, 0, 0x80, 0, 0, false⟩
  | .B_MEAS_i_ma => ⟨0x104, 32, 48, 16, 16, .ro, .ns, 0, 0x80, 0, 0, false⟩
  | .B_MEAS_vout_mv => ⟨0x104, 32, 48, 0, 16, .ro, .ns, 0, 0x80, 0, 0, false⟩
  | .B_GATE_vgate_mv => ⟨0x108, 32, 48, 16, 16, .ro, .ns, 0, 0x80, 0, 0, false⟩
  | .B_GATE_p_w => ⟨0x108, 32, 48, 8, 8, .ro, .ns, 0, 0x80, 0, 0, false⟩
  | .B_THERM_t_est_c => ⟨0x10C, 32, 48, 24, 8, .ro, .ns, 0, 0x80, 0, 0, false⟩
  | .B_THERM_therm_c => ⟨0x10C, 32, 48, 16, 8, .ro, .ns, 0, 0x80, 0, 0, false⟩
  | .B_THERM_therm_fault => ⟨0x10C, 32, 48, 15, 1, .ro, .ns, 0, 0x80, 0, 0, false⟩
  | .B_FAULT_cause => ⟨0x110, 32, 48, 28, 4, .ro, .ns, 0, 0x80, 0, 0, false⟩
  | .B_FAULT_count => ⟨0x110, 32, 48, 24, 4, .ro, .ns, 0, 0x80, 0, 0, false⟩
  | .B_TIMER_backoff_left_ms => ⟨0x114, 32, 48, 16, 16, .ro, .ns, 0, 0x80, 0, 0, false⟩
  | .B_TIMER_absence_ms => ⟨0x114, 32, 48, 0, 16, .ro, .ns, 0, 0x80, 0, 0, false⟩
  | .B_OVF_ovf => ⟨0x118, 32, 48, 0, 9, .rw1c, .ns, 0, 0x80, 0, 0, false⟩

/-- A field of some block. -/
inductive Fld where
  | tim (f : TimF)
  | img (f : ImgF)
  | mgt (f : MgtF)
  | sec (f : SecF)
  | bgw (f : BgwF)
  | pmc (f : PmcF)
  | rst (f : RstF)
  | clk (f : ClkF)
  | pwr (f : PwrF)
  | lat (f : LatF)
  | eth (f : EthF)
  | sds (f : SdsF)
  | swx (f : SwxF)
  | pol (f : PolF)
  | sch (f : SchF)
  | epf (f : EpfF)
  | rdx (f : RdxF)
  | cmd (f : CmdF)
  | nsm (f : NsmF)
  | spg (f : SpgF)
  | arb (f : ArbF)
  | grp (f : GrpF)
  | rsh (f : RshF)
  | drv (f : DrvF)
  | cip (f : CipF)
  | pair (f : PairF)
  | fls (f : FlsF)
  | bay (f : BayF)
  deriving DecidableEq, Repr

def Fld.spec : Fld → FldSpec
  | .tim f => f.spec
  | .img f => f.spec
  | .mgt f => f.spec
  | .sec f => f.spec
  | .bgw f => f.spec
  | .pmc f => f.spec
  | .rst f => f.spec
  | .clk f => f.spec
  | .pwr f => f.spec
  | .lat f => f.spec
  | .eth f => f.spec
  | .sds f => f.spec
  | .swx f => f.spec
  | .pol f => f.spec
  | .sch f => f.spec
  | .epf f => f.spec
  | .rdx f => f.spec
  | .cmd f => f.spec
  | .nsm f => f.spec
  | .spg f => f.spec
  | .arb f => f.spec
  | .grp f => f.spec
  | .rsh f => f.spec
  | .drv f => f.spec
  | .cip f => f.spec
  | .pair f => f.spec
  | .fls f => f.spec
  | .bay f => f.spec

/-- Block numbers, as each chapter gives them with its register map. -/
def Fld.block : Fld → Nat
  | .tim _ => 0x01
  | .img _ => 0x02
  | .mgt _ => 0x03
  | .sec _ => 0x04
  | .bgw _ => 0x05
  | .pmc _ => 0x06
  | .rst _ => 0x07
  | .clk _ => 0x08
  | .pwr _ => 0x09
  | .lat _ => 0x0A
  | .eth _ => 0x10
  | .sds _ => 0x11
  | .swx _ => 0x12
  | .pol _ => 0x13
  | .sch _ => 0x14
  | .epf _ => 0x15
  | .rdx _ => 0x20
  | .cmd _ => 0x21
  | .nsm _ => 0x22
  | .spg _ => 0x23
  | .arb _ => 0x24
  | .grp _ => 0x25
  | .rsh _ => 0x26
  | .drv _ => 0x27
  | .cip _ => 0x28
  | .pair _ => 0x30
  | .fls _ => 0x31
  | .bay _ => 0x32

/-- The fields of a block number. -/
def fieldsOf (blk : Nat) : List Fld :=
  match blk with
  | 0x01 => TimF.all.map Fld.tim
  | 0x02 => ImgF.all.map Fld.img
  | 0x03 => MgtF.all.map Fld.mgt
  | 0x04 => SecF.all.map Fld.sec
  | 0x05 => BgwF.all.map Fld.bgw
  | 0x06 => PmcF.all.map Fld.pmc
  | 0x07 => RstF.all.map Fld.rst
  | 0x08 => ClkF.all.map Fld.clk
  | 0x09 => PwrF.all.map Fld.pwr
  | 0x0A => LatF.all.map Fld.lat
  | 0x10 => EthF.all.map Fld.eth
  | 0x11 => SdsF.all.map Fld.sds
  | 0x12 => SwxF.all.map Fld.swx
  | 0x13 => PolF.all.map Fld.pol
  | 0x14 => SchF.all.map Fld.sch
  | 0x15 => EpfF.all.map Fld.epf
  | 0x20 => RdxF.all.map Fld.rdx
  | 0x21 => CmdF.all.map Fld.cmd
  | 0x22 => NsmF.all.map Fld.nsm
  | 0x23 => SpgF.all.map Fld.spg
  | 0x24 => ArbF.all.map Fld.arb
  | 0x25 => GrpF.all.map Fld.grp
  | 0x26 => RshF.all.map Fld.rsh
  | 0x27 => DrvF.all.map Fld.drv
  | 0x28 => CipF.all.map Fld.cip
  | 0x30 => PairF.all.map Fld.pair
  | 0x31 => FlsF.all.map Fld.fls
  | 0x32 => BayF.all.map Fld.bay
  | _ => []

/-- Dies (bit d for die d) on which a block exists. -/
def blockDies (blk : Nat) : Nat :=
  match blk with
  | 0x01 => 0xFF
  | 0x02 => 0x80
  | 0x03 => 0x80
  | 0x04 => 0xFF
  | 0x05 => 0xFF
  | 0x06 => 0xFF
  | 0x07 => 0xFE
  | 0x08 => 0xFF
  | 0x09 => 0x80
  | 0x0A => 0xFF
  | 0x10 => 0x01
  | 0x11 => 0x01
  | 0x12 => 0x01
  | 0x13 => 0x01
  | 0x14 => 0x01
  | 0x15 => 0x7F
  | 0x20 => 0x7E
  | 0x21 => 0x7E
  | 0x22 => 0x7E
  | 0x23 => 0x7E
  | 0x24 => 0x7E
  | 0x25 => 0x7E
  | 0x26 => 0x7E
  | 0x27 => 0x7E
  | 0x28 => 0x7F
  | 0x30 => 0xFF
  | 0x31 => 0xFE
  | 0x32 => 0x80
  | _ => 0

end Sys2Proof.Machine
end

