-- ==== Sys2Proof/Machine/State.lean ====
section
/-! DEFINITION. The state of the package as plain data: the register file, the counters, the state the chapters of
spec/ give the engines beside their registers, and the queue of waiting commands; faults, refusals and reset. -/

set_option Elab.async false

namespace Sys2Proof.Machine

/-- Why a command ends a run with a fault.  No rule of the spec gives a command such an end: the type has no reason. -/
inductive Fault where
  deriving DecidableEq, Repr

/-- Why a command has no meaning. -/
inductive Refusal where
  /-- Raised by exec's arm of a command that is not modelled yet.  Safe: the run stops. -/
  | notModelled (mnemonic : String)
  deriving DecidableEq, Repr

/-- A register field instance: die, field, index. -/
structure RegKey where
  die : Nat
  fld : Fld
  idx : Nat
  deriving DecidableEq, Repr

/-- A block counter or snapshot counter: die, block number, index, instance (spec/22 R602). -/
structure CtrKey where
  die : Nat
  blk : Nat
  idx : Nat
  inst : Nat
  deriving DecidableEq, Repr

/-- A snapshot buffer of one block, die and world (spec/05 R139): the counters copied, and what else was captured. -/
structure Snapshot where
  die : Nat
  blk : Nat
  secure : Bool
  values : List Nat
  extra : Nat := 0
  deriving DecidableEq, Repr

/-- A pending _LO/_HI latch (spec/03 R79): requester, die of the register, the pair's block and offset, upper half. -/
structure Latch where
  req : Req
  die : Nat
  blk : Nat
  off : Nat
  upper : Nat
  deriving DecidableEq, Repr

/-- Events that the manual logs under a block-specific code which a release's catalogue assigns (spec/19 R654). -/
inductive EvName where
  | timeForwardStep | dieTimeFault | timeDisagree | trainTimeout | imageFallback | lateSwitch | stageDiscarded
  | lossOfShelfTime | gateDropped | driveUnsuitable | driveFault | driveCritical | driveWear | bayFault | staleSet
  | staleCleared | partnerLost | driveLost | driveFailed | positionOut | groupFailed | badUnit | crumbLost
  | deferredRange | tamper | pairingRefused | handoverRefused | claimContended | claimLost | fencingFailed
  | patrolMismatch | zeroised | authFail | keyRefused | channelFailed | reshapeRefused | reshapePaused
  | recordLost | unrecovered | debugUnlock | cdHeldOut | linkDegraded | linkDown | fecDegrade | verifyFailed | connectRefused | lateCommand | unexpectedCompletion
  deriving DecidableEq, Repr

/-- Event codes (spec/19 R556): a common index of the block, an MGT code, or a catalogue event. -/
inductive LogCode where
  | common (index : Nat)
  | mgt (code : Nat)
  | ev (name : EvName)
  deriving DecidableEq, Repr

/-- An event log record (spec/19 R554), without the CRC that the logger computes over it. -/
structure LogRec where
  die : Nat
  blk : Nat
  code : LogCode
  args : List Nat := []
  ts64 : Nat := 0
  tsSet : Bool := false
  quality : Nat := 3
  secure : Bool := false
  uptime : Nat := 0
  deriving DecidableEq, Repr

/-- A Lattice message in transit: class 0 time, 1 lease, 2 interrupt, 3 Proofing, 4 register access (spec/01 R22). -/
structure LatMsg where
  cls : Nat
  src : Nat
  dst : Nat
  tag : Nat
  secure : Bool := false
  deriving DecidableEq, Repr

/-- One hop of the ring: the message that has started, and those waiting in order of arrival. -/
structure LatHop where
  started : Option LatMsg := none
  waiting : List LatMsg := []
  deriving DecidableEq, Repr

/-- The Lattice ring (spec/01 R22-R24): hop h leads out of die h. -/
structure LatState where
  hops : List (Nat × LatHop) := []
  inbox : List LatMsg := []
  deriving DecidableEq, Repr

/-- A latched trigger of the mode controller (spec/19 *Trigger codes*) and the Quarantine cause it carries (R44). -/
structure Trig where
  code : Nat
  cause : Nat := 0
  deriving DecidableEq, Repr

/-- What the mode controller holds beside MGT.MODE (spec/02). -/
structure ModeState where
  trigs : List Trig := []
  /-- Instant (uptime, ns) of entry to the present mode. -/
  entered : Nat := 0
  /-- Deadline of a Maintenance drain in progress (R36). -/
  drain : Option Nat := none
  /-- The Bring-up work is complete (R34). -/
  workDone : Bool := false
  /-- Maintenance was entered from the recovery boot or manufacturing-test strap code (R37). -/
  fromTest : Bool := false
  /-- The 2 s wait of a Pair-B package (R40) and the pairing wait (R35) have run out. -/
  gateWaitOver : Bool := false
  pairWaitOver : Bool := false
  /-- Quarantine: the engines are held; the root ports are held too (R43). -/
  rootsHeld : Bool := false
  /-- A quarantine entered from tamper does not flush (R43). -/
  tampered : Bool := false
  /-- Channel dies whose disable drains, with the drain's deadline (R50). -/
  chanDrain : List (Nat × Nat) := []
  /-- Channel dies in reset or replaying, with the deadline of the channel recovery limit (R49). -/
  chanRecover : List (Nat × Nat) := []
  /-- Data presence withdrawn while still in the mode (spec/15 R435, R449). -/
  withdrawn : Bool := false
  /-- First entry to Active, Standby or Maintenance made in this boot (R548). -/
  served : Bool := false
  /-- Instant of entry to Bring-up (R40). -/
  bringupAt : Nat := 0
  /-- Channel dies that failed holding dirty data: smallest and largest e of that data (R51); a handover drops it. -/
  lostDirty : List (Nat × Nat × Nat) := []
  deriving DecidableEq, Repr

/-- The TS64 counter of one die (spec/03 R52, R67): the value at an instant, and how it goes on. -/
structure DieTime where
  set : Bool := false
  val : Nat := 0
  /-- Uptime at which the counter held `val`. -/
  anchor : Nat := 0
  /-- Offset still to be slewed in, at the limit `ppm` (R63). -/
  slew : Int := 0
  ppm : Nat := 100
  /-- Nanoseconds for which the counter is held still (R67). -/
  hold : Nat := 0
  /-- TS64 of recent die time faults (R68). -/
  faults : List Nat := []
  deriving DecidableEq, Repr

/-- A time distribution message (R67): TS64 at departure, servo state and step flag. -/
structure TimeMsg where
  ts : Nat
  residence : Nat
  servo : Nat
  step : Bool
  deriving DecidableEq, Repr

/-- An open schedule window (R73): die, entry index, entry, TS64 at which it closes. -/
structure OpenWindow where
  die : Nat
  idx : Nat
  entry : SchedEntry
  closes : Nat
  deriving DecidableEq, Repr

/-- Shelf time and schedules (spec/03). -/
structure TimState where
  counters : List (Nat × DieTime) := []
  /-- e_anchor, t_a, g_base and t_g of R54; `rate` is the growth rate in force, in ps/s. -/
  eAnchor : Nat := 0
  tAnchor : Nat := 0
  gBase : Nat := 0
  tGrowth : Nat := 0
  rate : Nat := 100000
  offset : Int := 0
  /-- Consecutive measurements within the lock threshold, and beyond ten times it (R62). -/
  goodRun : Nat := 0
  badRun : Nat := 0
  /-- The Time section in force. -/
  cfg : TimeSection := { sources := [] }
  /-- Ports whose Announce and whose Sync are within their timeouts, 1PPS and Partner sources valid (*Time sources*),
  and the last announced dataset of each port; the partner's dataset under key 32. -/
  annPorts : List Nat := []
  syncPorts : List Nat := []
  ppsGood : Bool := false
  partnerGood : Bool := false
  masters : List (Nat × Dataset) := []
  firstLockOver : Bool := false
  leapAt : Option (Nat × Int) := none
  /-- Uptime of the last 1PPS edge, and how many gaps in a row were right (*Time sources*). -/
  ppsLast : Option Nat := none
  ppsRun : Nat := 0
  ppsHigh : Bool := false
  stepFlag : Bool := false
  messages : List (Nat × TimeMsg) := []
  disagree : Bool := false
  /-- Uptime since which Δ has been back within the first condition of R69, in an episode. -/
  agreeFrom : Option Nat := none
  ePartner : Nat := 0
  /-- Schedule tables by (die, index): active entries, image shadows, and the next occurrence not yet acted on. -/
  sched : List ((Nat × Nat) × SchedEntry) := []
  shadow : List ((Nat × Nat) × SchedEntry) := []
  nextOcc : List ((Nat × Nat) × Nat) := []
  windows : List OpenWindow := []
  deriving DecidableEq, Repr

/-- PMC state beside its registers (spec/22): CTR_LO writes held for their CTR_HI (R605), and armed masks. -/
structure PmcState where
  /-- (die, counter, requester) and the low half. -/
  held : List ((Nat × Nat × Req) × Nat) := []
  /-- Armed starts (die, mask and instant) and armed snapshots (die, instant) (R607). -/
  starts : List (Nat × (Nat × Nat)) := []
  shots : List (Nat × Nat) := []
  deriving DecidableEq, Repr

/-- What leaves the package: an event at its pins, its networks, its drives, its partner or its cores. -/
inductive OutMsg where
  /-- An interrupt (R72 and every EVENTS_INT field): target 0 a die's control cores, 1 the MD's non-secure cores,
  2 the MD's secure cores; die, block, bit or vector. -/
  | irq (target die blk vec : Nat)
  /-- A generation sent to the partner's Praline: die, key slot, value (spec/14 R399). -/
  | generation (die slot gen : Nat)
  /-- The data of a register read: package address and word (spec/00 R11). -/
  | readData (addr value : Nat)
  /-- A Lattice message handed to a partner die. -/
  | lattice (m : LatMsg)
  /-- A level driven at a named pin. -/
  | pin (name : String) (level : Bool)
  /-- An acknowledgement (syndrome 0), RNR NAK (1), PSN sequence error (2), invalid request (3) or remote access error
  (4): die, connection, PSN, message sequence number. -/
  | rdmaAck (die conn syndrome psn msn : Nat)
  /-- A congestion notification packet. -/
  | cnp (die conn : Nat)
  /-- A packet of a work request: die, connection, PSN, opcode class (0 WRITE, 1 with immediate, 2 SEND, 3 with
  immediate), payload bytes, last of its message. -/
  | rdmaPkt (die conn psn op bytes : Nat) (last relaxed : Bool)
  /-- A frame sent on a logical port: bytes from destination address to FCS, class, and whether its FCS is spoilt. -/
  | frame (port bytes cls : Nat) (spoilt : Bool)
  /-- A verify (false) or respond (true) mPacket. -/
  | mpacket (port : Nat) (respond : Bool)
  /-- An ARP or Neighbor Discovery frame that the port die makes: an answer, or an announcement (R125, R128). -/
  | arpNd (port : Nat) (answer : Bool)
  /-- A PTP message sent on a logical port: Announce (0) with its clockClass and, in Locked, the upstream dataset, or Sync (1) (R60);
  its source address (spec/05 R129). -/
  | ptp (port kind clockClass : Nat) (upstream : Option Dataset) (mac : Nat)
  /-- A command completed on a queue: die, connection, CID, status (SCT × 256 + SC), DW0, DW1. -/
  | completion (die conn cid status dw0 dw1 : Nat)
  /-- What an admin command returns: die, connection, command, its fields. -/
  | hostData (die conn what : Nat) (fields : List Nat)
  /-- The answer to a connection request: accepted with flags, paths, slots; or rejected (R171). -/
  | cmReply (die : Nat) (accept block : Bool) (flags paths slots : Nat)
  /-- A command sent to a drive: die, bay, CID, operation, member LBA, blocks written (none for a read). -/
  | drive (die bay cid op lba n : Nat) (data : List Block)
  /-- PERST# of a bay's drive port: die, bay, asserted (spec/13 R367). -/
  | perst (die bay : Nat) (asserted : Bool)
  /-- EPW_N of a bay, the early power warning to the drive (spec/17 R482): asserted or released. -/
  | epw (bay : Nat) (asserted : Bool)
  /-- The gate of a bay: 0 turned off hard, 1 turned off soft, 2 high impedance, 3 driven at a level, 4 regulated; mV. -/
  | gate (bay how level : Nat)
  /-- Requests of the endpoint (tag, function, submission entries or data), read data scattered, completion entries written
  (function, queue, CID, status, DW0, DW1, SQHD, phase), MSI-X messages, power management events, errors reported through AER
  (0 Completion Timeout, 1 Unexpected Completion). -/
  | epRead (tag fn : Nat) (fetch : Bool) (n : Nat)
  | epData (fn cid chain : Nat) (relaxed : Bool)
  | epCompletion (fn cq cid status dw0 dw1 sqhd : Nat) (phase : Bool)
  | epMsix (fn vec : Nat)
  | epPme (fn : Nat)
  | epAer (fn kind : Nat)
  /-- An answer over a management transport, by binding (0 SMBus/I3C, 1 PCIe VDM, 2 SGMII): 0 PLDM, 1 MCTP control, 2 NVMe-MI,
  3 SPDM, 4 Folric export, 5 ARP or ICMP echo; and 6 a record printed on the console. -/
  | mgmt (what binding : Nat) (fields : List Nat)
  /-- An NVMe Abort for a drive command (R383). -/
  | driveAbort (die bay cid : Nat)
  /-- An arbiter grant: die, requester. -/
  | grant (die n : Nat)
  /-- A partner frame (spec/15 R417): type, channel (255 for none), link sequence number, its fields, its blocks.  A stage report
(type 8, subtype 5) has the staged digest and epoch, and for a cancellation its code (spec/04 R101, R102); a Crumb frame one mirrored
Crumb's fields; a mirror acknowledgement a and table_ack; a table event table_seq, event, connection or region index and the image; a
repair frame 0 and the block's or Crumb's name for a request, 1 for the block in reply, 2 for a reply without it (spec/10 R301). -/
  | partner (type chan seq : Nat) (body : List Nat) (data : List Block)
  deriving DecidableEq, Repr
/-- A boot ledger record (spec/20 R574): the header's fields and the body's fields; `prev` is the previous record's
hash. -/
structure LedgerRec where
  kind : Nat
  body : List Nat := []
  brk : Bool := false
  seq : Nat := 0
  bootCount : Nat := 0
  prev : Nat := 0
  ts : Nat := 0
  uptime : Nat := 0
  quality : Nat := 0xFF
  segment : Nat := 0
  deriving DecidableEq, Repr

/-- Security (spec/20) beside its registers. -/
structure SecState where
  ledgerQ : List LedgerRec := []
  ledger : List LedgerRec := []
  /-- Praline's ledger head (R577): seq and hash of the last record appended. -/
  headSeq : Nat := 0
  headHash : Nat := 0
  /-- Owner key digests in Praline (spec/20 R571). -/
  owner : Option Nat := none
  /-- Tamper sources that Praline holds until a boot record has carried them (R584); appends have stopped for the boot (R585). -/
  tamper : Nat := 0
  stopped : Bool := false
  /-- The append of the oldest queued record has started (R577, R578). -/
  appending : Bool := false
  /-- An append that failed is retried at this instant (R578). -/
  retryAt : Option Nat := none
  /-- Segment and offset of the next record (R573). -/
  segment : Nat := 0
  offset : Nat := 0
  /-- The boot's ledger nonce, its alias keys, the measurements taken by index (R567, R569, R582). -/
  nonce : Nat := 0
  alias_ : Option Nat := none
  measured : List (Nat × Nat) := []
  deriving DecidableEq, Repr

/-- The image loader (spec/04): images in force, buffered, staged and in the two slots, the selector copies, the
rollback floor in Praline, the partner's stage report, and the dies that still hold the old bank. -/
structure ImgState where
  active : Option Image := none
  previous : Option Image := none
  buffer : Option Image := none
  staged : Option Image := none
  slotA : Option Image := none
  slotB : Option Image := none
  sel0 : Selector := {}
  sel1 : Selector := {}
  floor : Nat := 0
  peer : Option (Nat × Nat) := none
  switchAt : Nat := 0
  oldBanks : List Nat := []
  deriving DecidableEq, Repr

/-- A preemptable frame in reassembly (spec/05 R137): the next fragment count and the bytes so far. -/
structure Reasm where
  next : Nat
  bytes : Nat
  /-- The frame found no FIFO space, and is discarded whole (R130). -/
  dropped : Bool := false
  deriving DecidableEq, Repr

/-- Ethernet MACs and lanes (spec/05) beside their registers. -/
structure EthState where
  /-- Receive FIFO bytes reserved, by logical port (R130). -/
  fifo : List (Nat × Nat) := []
  reasm : List (Nat × Reasm) := []
  /-- Verify mPackets sent since the port came Up (R135). -/
  verifies : List (Nat × Nat) := []
  /-- Announcements still to be repeated (R128), and when. -/
  gratLeft : Nat := 0
  gratAt : Nat := 0
  /-- Lanes whose medium in force is CR/KR (R117). -/
  crkr : List Nat := []
  /-- Coefficients as adapted; and what waits for an update boundary (R118, R119). -/
  live : List (Nat × LaneCoef) := []
  snapDue : List Nat := []
  rxDue : List (Nat × LaneCoef) := []
  txDue : List (Nat × Nat) := []
  deriving DecidableEq, Repr

/-- A frame or transfer at a switch input (spec/06 R141): its output or group, cells still to enter stage 1. -/
structure SwFrame where
  fid : Nat
  src : Nat
  group : Bool
  dest : Nat
  cells : Nat
  left : Nat
  bytes : Nat
  err : Bool := false
  secure : Bool := false
  colour : Nat := 0
  tclass : Nat := 0
  stamp : Nat := 0
  /-- Egress logical port and host, for a frame to ports 0-3. -/
  lport : Nat := 0
  host : Option Nat := none
  /-- Ingress logical port whose FIFO holds it. -/
  inPort : Option Nat := none
  /-- Members of a later pass (R146); none: the group's membership. -/
  members : Option Nat := none
  deriving DecidableEq, Repr

/-- A cell in a middle buffer (spec/06 *Cell header*): its frame, sequence number, and the outputs still owed a copy. -/
structure SwCell where
  frame : SwFrame
  seq : Nat
  first : Bool
  last : Bool
  owed : List Nat
  later : Nat := 0
  deriving DecidableEq, Repr

/-- A frame arriving at an output: cells received, and whether it is in cut-through (R150) or was ended (R151). -/
structure OutFrame where
  frame : SwFrame
  got : Nat
  ct : Bool
  ended : Bool := false
  later : Nat := 0
  deriving DecidableEq, Repr

/-- The switch core (spec/06). -/
structure SwxState where
  slot : Nat := 0
  nextFid : Nat := 0
  inq : List (Nat × List SwFrame) := []
  middle : List (Nat × List SwCell) := []
  /-- Next sequence number of a stream at its input, and the next to be released at an output: key input, stream
  (group streams from 16 on), output (16 at the input). -/
  seqs : List ((Nat × Nat × Nat) × Nat) := []
  reseq : List (Nat × List SwCell) := []
  arriving : List (Nat × List OutFrame) := []
  /-- Frames delivered whole at an output that is no Ethernet port, oldest first. -/
  delivered : List (Nat × List OutFrame) := []
  /-- Memberships in force, and those waiting for their group streams to empty (R148). -/
  members : List (Nat × Nat) := []
  pendingMembers : List (Nat × Nat) := []
  /-- Copies of the connection-to-host maps (R152). -/
  connHost : List (Nat × Nat) := []
  /-- Policer buckets tc, te and the instant of the last frame, in ps (R153); overflow bits per policer. -/
  buckets : List (Nat × (Nat × Nat × Nat)) := []
  polOvf : List (Nat × Nat) := []
  deriving DecidableEq, Repr

/-- A frame waiting at a logical port (spec/06 R157, R158). -/
structure SchFrame where
  fid : Nat
  bytes : Nat
  cls : Nat
  at_ : Nat
  /-- It carries an error mark, and leaves with an inverted CRC (R151). -/
  err : Bool := false
  deriving DecidableEq, Repr

/-- The egress schedulers (spec/06 R156-R164): FIFOs by (logical port, queue) where queue is a subscriber node, or
0x10000 + class for a default queue; shaper buckets by (level, node) in the units of R153 with their instants; deficit
round robin pointers and deficits; the instant at which a port's gate entry began. -/
structure SchState where
  fifos : List ((Nat × Nat) × List SchFrame) := []
  shapers : List ((Nat × Nat) × (Int × Nat)) := []
  drrAt : List ((Nat × Nat) × Nat) := []
  deficits : List ((Nat × Nat) × Nat) := []
  entryAt : List (Nat × Nat) := []
  /-- A preemptable frame of a port that a gate has cut: its queue, the frame and the bytes sent (R163). -/
  part : List (Nat × (Nat × SchFrame × Nat)) := []
  deriving DecidableEq, Repr

/-- A message in progress in standard mode (spec/07 R176, R191). -/
structure InMsg where
  write : Bool
  rkey : Nat := 0
  /-- Running placement address, and the packets so far. -/
  va : Nat := 0
  count : Nat := 0
  deriving DecidableEq, Repr

/-- A reassembly slot (spec/07 R184): `got` packets accepted, `bits` placed; `early` once a relaxed write retired. -/
structure Slot where
  base : Nat
  lastIdx : Nat
  opcode : Nat
  relaxed : Bool
  final : Bool
  va : Nat
  rkey : Nat
  got : Nat := 0
  bits : Nat := 0
  imm : Nat := 0
  ackReq : Bool := false
  early : Bool := false
  capsule : Capsule := {}
  deriving DecidableEq, Repr

/-- A packet sent and not yet acknowledged; the chain whose flagged final work request it ends. -/
structure TxPkt where
  psn : Nat
  bytes : Nat
  chain : Option Nat := none
  deriving DecidableEq, Repr

/-- A checked packet on its way to the stack (spec/07 R192): its ticket on the connection, region, slot and bit. -/
structure Placing where
  ticket : Nat
  region : Option Nat := none
  slot : Option (Nat × Nat) := none
  deriving DecidableEq, Repr

/-- A retired SEND or WRITE with immediate waiting for the placements before it (R176). -/
structure Delivery where
  need : Nat
  send : Bool
  imm : Option Nat := none
  capsule : Capsule := {}
  stamp : Nat := 0
  quality : Nat := 0
  deriving DecidableEq, Repr

/-- A connection context (spec/07 R174): state code, generation, F fields, H fields, and the transport's own state. -/
structure Conn where
  state : Nat := 0
  gen : Nat := 0
  f : ConnF := {}
  epsn : Nat := 0
  rxMsn : Nat := 0
  txNext : Nat := 0
  txUna : Nat := 0
  txMsn : Nat := 0
  retriesLeft : Nat := 0
  rnrLeft : Nat := 0
  credits : Nat := 0
  rate : Nat := 0
  lastRx : Nat := 0
  nakSent : Bool := false
  msg : Option InMsg := none
  slots : List Slot := []
  sent : List TxPkt := []
  ticket : Nat := 0
  placing : List Placing := []
  deliveries : List Delivery := []
  /-- Packets retired since the last acknowledgement, and when one is due (R177); last answers to a duplicate and to
  a CE mark, which are rate limited. -/
  unacked : Nat := 0
  ackDue : Option Nat := none
  dupAckAt : Option Nat := none
  cnpAt : Option Nat := none
  hold : Option Nat := none
  nakPsn : Nat := 0
  timer : Nat := 0
  rateAt : Nat := 0
  path : Nat := 0
  /-- Bytes 128-255, which belong to firmware: words by number. -/
  firm : List (Nat × Nat) := []
  /-- Number of the table event that told the partner of it, 0 for none (spec/15 R429). -/
  evSeq : Nat := 0
  deriving DecidableEq, Repr

/-- A region entry (spec/07 R188). -/
structure Region where
  state : Nat := 0
  tag : Nat := 0
  f : RegionF := {}
  inFlight : Nat := 0
  evSeq : Nat := 0
  deriving DecidableEq, Repr

/-- A pre-posted chain (spec/07 R195-R200): state code, header, number of work requests, kinds counted, and how many
work requests have been sent. -/
structure Chain where
  state : Nat := 0
  hdr : ChainHdr := {}
  wrs : Nat := 1
  got0 : Bool := false
  got1 : Bool := false
  sent : Nat := 0
  deriving DecidableEq, Repr

/-- RDMA transport (spec/07), by (channel die ID, index); `colds` counts COLD resets, for the values drawn then. -/
structure RdxState where
  colds : Nat := 0
  conns : List ((Nat × Nat) × Conn) := []
  regions : List ((Nat × Nat) × Region) := []
  chains : List ((Nat × Nat) × Chain) := []
  revokeDone : List (Nat × List Nat) := []
  chainFail : List (Nat × List Nat) := []
  /-- Last table_seq sent by a die (spec/15 R429). -/
  tableSeq : List (Nat × Nat) := []
  deriving DecidableEq, Repr

/-- A command slot's contents (spec/08 R219, *Command slot*), with what its execution needs: `status` as SCT × 256 + SC
once decided, `blocks` a read's staging (LBA and data once there), `seqs` its Crumbs, `reserved` the data slots and budget
it holds (R282), `order` its place among the admitted commands. -/
structure CmdSlot where
  state : Nat := 0
  conn : Nat := 0
  host : Nat := 0
  /-- It came on an admin queue. -/
  admin : Bool := false
  cap : Capsule := {}
  slba : Nat := 0
  nlb : Nat := 0
  e : Nat := 0
  msn : Nat := 0
  stamp : Nat := 0
  quality : Nat := 3
  order : Nat := 0
  late : Bool := false
  superseded : Bool := false
  caught : Bool := false
  dup : Bool := false
  status : Option Nat := none
  dw0 : Nat := 0
  dw1 : Nat := 0
  seqs : List Nat := []
  reserved : Nat := 0
  taken : Bool := false
  ranges : List (Nat × Nat) := []
  blocks : List (Nat × Option Block) := []
  region : Option Nat := none
  mirrorWait : List Nat := []
  orphanAt : Option Nat := none
  holdNs : Nat := 0
  /-- Slots of duplicates on other connections that complete with this outcome (R242). -/
  waiters : List Nat := []
  deriving DecidableEq, Repr

/-- A queue of a controller on a connection (spec/08 R205-R207). -/
structure NvmQueue where
  conn : Nat
  host : Nat
  qid : Nat
  size : Nat
  /-- Commands received on it so far. -/
  count : Nat := 0
  deriving DecidableEq, Repr

/-- An entry of a controller's logs or pending events: type, information, page. -/
structure AsyncEvent where
  kind : Nat
  info : Nat
  page : Nat
  deriving DecidableEq, Repr

/-- A controller of a host on a channel die (spec/09 R256-R263). -/
structure Ctrl where
  host : Nat
  hostId : Nat := 0
  kato : Nat := 0
  kaAt : Nat := 0
  cc : Nat := 0
  shst : Nat := 0
  aeMask : Nat := 0
  /-- Outstanding Asynchronous Event Requests (their slots), and events that wait for one. -/
  aers : List Nat := []
  events : List AsyncEvent := []
  /-- Error log, the latest first: error count, queue ID, CID, status, NSID, LBA. -/
  errors : List (List Nat) := []
  changedNs : List Nat := []
  resvLog : List (Nat × Nat) := []
  resvMask : List (Nat × Nat) := []
  /-- Blocks that its reads and writes moved. -/
  blocksRead : Nat := 0
  blocksWritten : Nat := 0
  deriving DecidableEq, Repr

/-- A resume token (spec/08 R245-R247). -/
structure Token where
  conn : Nat
  host : Nat
  check : Nat
  used : Bool := false
  holdFrom : Option Nat := none
  holdNs : Nat := 0
  /-- An outcome of the queue was evicted (R247). -/
  evicted : Bool := false
  deriving DecidableEq, Repr

/-- The duplicate key of a command (spec/08 R242). -/
structure DupKey where
  host : Nat
  nsid : Nat
  opcode : Nat
  slba : Nat
  nlb : Nat
  cid : Nat
  deriving DecidableEq, Repr

/-- A deferred range (spec/08 R249, spec/13 R381). -/
structure DeferEntry where
  nsid : Nat
  cause : Nat
  whole : Bool := false
  slba : Nat := 0
  nlb : Nat := 0
  from_ : Nat := 0
  to_ : Nat := 0
  detect : Nat := 0
  logSeq : Nat := 0
  deriving DecidableEq, Repr

/-- A record of log page 0xD0 (spec/08 R251). -/
structure DeferRec where
  seq : Nat
  die : Nat
  range : DeferEntry
  cleared : Bool := false
  deriving DecidableEq, Repr

/-- A namespace's reservation record (spec/13 R380): type, holder, registrants with their keys. -/
structure Resv where
  rtype : Nat := 0
  holder : Option Nat := none
  generation : Nat := 0
  prgen : Nat := 0
  regs : List (Nat × Nat) := []
  deriving DecidableEq, Repr

/-- A progress record of Format or Sanitize (spec/09 R272). -/
structure Progress where
  action : Nat
  phase : Nat := 0
  nsid : Nat
  host : Nat := 0
  start : Nat := 0
  cursor : Nat := 0
  total : Nat := 0
  generation : Nat := 0
  cid : Nat := 0
  slot : Option Nat := none
  checkAt : Nat := 0
  /-- Crypto Erase: key slots replaced so far. -/
  keysDone : List Nat := []
  deriving DecidableEq, Repr

/-- A reservation change whose record is being written (spec/09 R265). -/
structure ResvChange where
  slot : Nat
  nsid : Nat
  next : Resv
  action : Nat
  /-- Hosts whose commands a preempt-and-abort aborts (R267), and hosts to notify with the kind (R268). -/
  abort : List Nat := []
  notify : List (Nat × Nat) := []
  deriving DecidableEq, Repr

/-- An Abort that waits for the partner's acknowledgement of its Cancel Crumb (spec/08 R238). -/
structure AbortWait where
  adminSlot : Nat
  seq : Nat
  deriving DecidableEq, Repr

/-- The command engine of a channel die (spec/08, spec/09). -/
structure CmdDie where
  slots : List (Nat × CmdSlot) := []
  order : Nat := 0
  prevE : List (Nat × Nat) := []
  queues : List NvmQueue := []
  ctrls : List (Nat × Ctrl) := []
  tokens : List Token := []
  filter : List DupKey := []
  filterUntil : Option Nat := none
  defer : List DeferEntry := []
  resv : List (Nat × Resv) := []
  resvChange : List ResvChange := []
  formats : List (Nat × Progress) := []
  sanitize : Option Progress := none
  aborts : List AbortWait := []
  /-- Namespaces that drain (R275), with removal flag and the epoch's instant. -/
  draining : List (Nat × Bool × Nat) := []
  anaStates : List (Nat × Nat) := []
  floorLo : Nat := 0
  /-- Context that was last replenished with receive buffers while slots were short (R208). -/
  lastOffer : Nat := 4095
  deriving DecidableEq, Repr

/-- The command engines, and what the package counts for them: deferred error log, open queues live in `dies`. -/
structure CmdState where
  dies : List (Nat × CmdDie) := []
  deferLog : List DeferRec := []
  deferSeq : Nat := 0
  deferDropped : Bool := false
  /-- ANA change count (R263), and the last value received from the partner. -/
  anaCount : Nat := 0
  anaPartner : Nat := 0
  /-- The pair-wide secret of the resume tokens (R245), and the MAC in the subsystem NQN (spec/09 R256). -/
  pairSecret : Nat := 0
  nqnMac : Option Nat := none
  /-- HOSTID of each host's most recent Connect on any die (R264). -/
  hostIds : List (Nat × Nat) := []
  deriving DecidableEq, Repr

/-- An index entry (spec/10 R279) with its data. -/
structure IdxEntry where
  nsid : Nat
  lba : Nat
  slot : Nat
  group : Nat := 0
  dirty : Bool := true
  destaging : Bool := false
  ref : Bool := false
  pending : Bool := false
  poisoned : Bool := false
  conn : Nat := 0
  pins : Nat := 0
  e : Nat := 0
  msn : Nat := 0
  seq : Nat := 0
  bucket : Nat := 0
  data : Block := 0
  /-- Instant of its write's commit, for the hold time of R289. -/
  at_ : Nat := 0
  deriving DecidableEq, Repr

/-- A zero range entry (spec/10 R284). -/
structure ZeroRange where
  nsid : Nat
  slba : Nat
  nlb : Nat
  e : Nat
  conn : Nat
  msn : Nat
  seq : Nat
  applied : Bool := false
  /-- Stripes to which it has been applied. -/
  done : List Nat := []
  deriving DecidableEq, Repr

/-- A Crumb in the ring, with what its retirement needs (spec/10 R295). -/
structure RingCrumb where
  c : Crumb
  retired : Bool := false
  chainDone : Bool := false
  writtenAt : Nat := 0
  mirrored : Bool := false
  placed : Bool := true
  /-- Its copy has been asked of the partner (R301). -/
  asked : Bool := false
  deriving DecidableEq, Repr

/-- A mirrored Crumb that waits for its data in the Standby (spec/10 R298, R300). -/
structure MirrorIn where
  c : Crumb
  data : List Block := []
  located : Bool := true
  arrived : Nat := 0
  deriving DecidableEq, Repr

/-- Stripe-assembly loop of a group (spec/10 R290). -/
structure Assembly where
  hold : Nat := 0
  full : Nat := 0
  total : Nat := 0
  deriving DecidableEq, Repr

/-- The memory arbiter (spec/10 R303-R307): active values, window count, quota counts, demoted requesters,
last-granted pointer per level. -/
structure ArbState where
  prio : Nat := 272367
  window : Nat := 256
  quotas : List Nat := [48, 48, 48, 48, 48, 48, 48, 48, 48, 48]
  clock : Nat := 0
  used : List Nat := [0, 0, 0, 0, 0, 0, 0, 0, 0, 0]
  last : List (Option Nat) := [none, none, none, none]
  flush : Bool := false
  deriving DecidableEq, Repr

/-- The Sponge of a channel die (spec/10). -/
structure SpgDie where
  index : List IdxEntry := []
  ranges : List ZeroRange := []
  ring : List RingCrumb := []
  /-- Dirty blocks reserved and not yet committed (R287), by command slot. -/
  reserved : Nat := 0
  hand : Nat := 0
  evicting : Bool := false
  asm_ : List (Nat × Assembly) := []
  incoming : List MirrorIn := []
  ackSent : Nat := 0
  ackAt : Nat := 0
  outbox : List Crumb := []
  seedNo : Nat := 0
  ceilingWait : Bool := false
  deriving DecidableEq, Repr

structure SpgState where
  dies : List (Nat × SpgDie) := []
  /-- The mirror stream was treated as lost (R300), until Pairing begins. -/
  mirrorLost : Bool := false
  arbs : List (Nat × ArbState) := []
  deriving DecidableEq, Repr

/-- A bad-unit entry (spec/11 R341). -/
structure BadUnit where
  start : Nat
  count : Nat
  cause : Nat
  position : Nat
  deriving DecidableEq, Repr

/-- A stripe update in progress (spec/11 R318, R319). -/
structure StripeUpd where
  stripe : Nat
  method : Nat
  /-- Blocks written: data strip index, row, contents in plaintext, nsid, LBA, seq. -/
  w : List (Nat × Nat × Block × Nat × Nat × Nat) := []
  intent : Nat := 0
  writing : Bool := false
  unreadable : List (Nat × Nat) := []
  deriving DecidableEq, Repr

/-- A redundancy group of a channel die at run time (spec/11). -/
structure Group where
  configured : Bool := false
  layout : Nat := 1
  k : Nat := 1
  strip : Nat := 16
  n : Nat := 2
  stripes : Nat := 0
  steer : Bool := true
  window : Bool := true
  spareMask : Nat := 0
  members : List Nat := []
  /-- Member state code and serving bay of each position. -/
  states : List Nat := []
  serving : List (Option Nat) := []
  absentAt : List (Nat × Nat) := []
  released : List Nat := []
  /-- Rebuild pass: running, cursor, join points by position, second lap, held. -/
  pass : Bool := false
  cursor : Nat := 0
  join : List (Nat × Nat) := []
  lap2 : Bool := false
  partial_ : Bool := false
  held : Bool := false
  /-- Dirty-region bitmap: regions marked, those durable; instants since which R327 holds. -/
  marked : List Nat := []
  durable : List Nat := []
  quietSince : List (Nat × Nat) := []
  /-- Resynchronisation: pending stripes, whole group, its start. -/
  resync : List Nat := []
  fullResync : Bool := false
  fullCursor : Nat := 0
  resyncAt : Nat := 0
  bad : List BadUnit := []
  generation : Nat := 0
  /-- A record write: 0 none, 1 its first copy, 2 the others; the bits it carries; another is due. -/
  recPhase : Nat := 0
  recMarks : List Nat := []
  recAgain : Bool := false
  /-- The rebuild step and the resynchronisation step in hand: 0 none, 1 reading, 2 writing; the stripe. -/
  rbPhase : Nat := 0
  rsPhase : Nat := 0
  rsStripe : Nat := 0
  locks : List Nat := []
  updates : List StripeUpd := []
  /-- Repair writes that wait for their stripe's lock (R323, R343): stripe, position, row, contents. -/
  repairs : List (Nat × Nat × Nat × Block) := []
  lat : List (Nat × Nat) := []
  steered : Nat := 0
  steerMs : Nat := 0
  /-- Member reads of the group in a ms of TS64 and in the ms before it (R324). -/
  readMs : Nat := 0
  readNow : Nat := 0
  readPrev : Nat := 0
  failed : Bool := false
  checkAt : Nat := 0
  /-- During a moving reshape: the other layout's tolerance and how many of its positions are out; the view of the other
  layout numbers its stripes from 2⁶³ (spec/12 R355, R358). -/
  tolCap : Nat := 9
  otherOut : Nat := 0
  flag : Nat := 0
  /-- The record was lost at the last load (R329); the instant at which the group became Failed. -/
  recLost : Bool := false
  failedAt : Nat := 0
  deriving DecidableEq, Repr

/-- The redundancy engines, by (die, group); the channel states (spec/02 R46) are in GRP.STATUS. -/
structure GrpState where
  groups : List ((Nat × Nat) × Group) := []
  deriving DecidableEq, Repr

/-- A reshape of a group (spec/12): the reshape record's fields (R359) and what the engine holds beside them. -/
structure Reshape where
  /-- 1 in place, 2 moving, 3 build. -/
  kind : Nat := 2
  phase : Nat := 0
  /-- Reversing: source and destination are swapped (R361), so the group's own fields are the destination's. -/
  reverse : Bool := false
  src : GroupEntry := {}
  dst : GroupEntry := {}
  /-- Stripes of the layout that is not the group's own. -/
  stripes : Nat := 0
  cursor : Nat := 0
  end_ : Nat := 0
  stepBlocks : Nat := 0
  /-- The step in hand: 0 none, 1 locked, 2 reading, 3 writing its backup, 7 writing the record of the backup, 4 ready for its
  destination, 5 writing its destination, 6 writing its record. -/
  step : Nat := 0
  buf : List Block := []
  /-- The backup as written, and record flag bit 0. -/
  bkp : List Block := []
  inflight : Bool := false
  heldBy : Bool := false
  heldLayout : Bool := false
  pauseBay : Bool := false
  cancel : Bool := false
  wait : Nat := 0
  refuse : Nat := 0
  moved : Bool := false
  generation : Nat := 0
  startTs : Nat := 0
  waitReads : List (Nat × Nat) := []
  /-- Member states of destination positions whose bay serves no source position. -/
  dstStates : List Nat := []
  /-- Namespaces mapped to the group when a moving reshape started: others are not ready until its switch (R351). -/
  nss : List Nat := []
  /-- In place: position and added or replacing bay; the phase of its pass.  In Switching the phase is 3 while the first copy of the
  group record is being written (R363). -/
  inBays : List (Nat × Nat) := []
  passStep : Nat := 0
  switched : Bool := false
  deriving DecidableEq, Repr

structure RshState where
  groups : List ((Nat × Nat) × Reshape) := []
  deriving DecidableEq, Repr

/-- What a drive command is for: its engine and the unit it serves. -/
structure DrvOwner where
  /-- 1 host read, 2 stripe update, 3 group record, 4 rebuild, 5 resynchronisation, 6 reshape, 7 reservation record,
  8 progress record, 9 superblock, 10 lease slot, 11 deferred table, 12 flush, 13 zero fill, 14 repair, 15 replay read,
  16 health, 17 key registration, 18 fencing, 20 a host's unit from its row, 22 a host read by one command, 23 reshape backup,
  24 reshape record, 25 reshape destination, 26 switch, 27 in-place pass, 28 patrol; 0 for a command whose outcome nobody takes. -/
  kind : Nat
  a : Nat := 0
  b : Nat := 0
  /-- Of a host's unit: positions tried without success, and those that failed with a media error, one bit each (R322, R323). -/
  tried : Nat := 0
  media : Nat := 0
  deriving DecidableEq, Repr

/-- A drive command sent (spec/13 R383). -/
structure DrvCmd where
  die : Nat
  bay : Nat
  cid : Nat
  /-- 0 read and 5 reservation report; write-class commands: 1 write, 2 reservation register, 3 acquire, 4 release. -/
  op : Nat
  lba : Nat := 0
  n : Nat := 1
  owner : DrvOwner
  pos : Nat := 0
  tries : Nat := 1
  issued : Nat := 0
  /-- Timed out and its Abort sent at this instant. -/
  abortAt : Option Nat := none
  /-- A background command that its root port holds back (spec/21 R594), with its data. -/
  held : Bool := false
  data : List Block := []
  deriving DecidableEq, Repr

/-- The outcome of a drive command, for its engine. -/
structure DrvResult where
  die : Nat
  owner : DrvOwner
  pos : Nat
  lba : Nat
  op : Nat
  /-- Blocks of the command. -/
  n : Nat := 1
  ok : Bool
  media : Bool := false
  gated : Bool := false
  data : List Block := []
  took : Nat := 0
  deriving DecidableEq, Repr

/-- The superblock in force of a drive as read (spec/13 R376). -/
structure Superblock where
  valid : Bool := true
  magic : Bool := true
  role : Nat := 1
  channel : Nat := 0
  group : Nat := 0
  position : Nat := 0
  generation : Nat := 0
  ownerId : Nat := 0
  shelf : Nat := 0
  lastReplay : Nat := 0
  /-- The copy that holds it (R376, R377). -/
  copy : Nat := 0
  deriving DecidableEq, Repr

/-- A lease slot of a drive (spec/13 R379). -/
structure LeaseSlot where
  valid : Bool := true
  role : Nat := 0
  released : Bool := false
  takeover : Bool := false
  seq : Nat := 0
  package : Nat := 0
  grant : Nat := 0
  expiry : Nat := 0
  err : Nat := 0
  quality : Nat := 3
  config : Nat := 0
  fw : Nat := 0
  deriving DecidableEq, Repr

/-- What the device knows of a drive in a bay: its superblock, size, media errors of the window, known timeouts. -/
structure Drive where
  sb : Superblock := { valid := false, magic := false }
  blocks : Nat := 0
  mediaWindowAt : Nat := 0
  deadline : Nat := 0
  polledAt : Nat := 0
  wearSeen : Bool := false
  locate : Bool := false
  late : List Nat := []
  /-- A superblock whose write is in flight (R377). -/
  sbNext : Option Superblock := none
  deriving DecidableEq, Repr

structure DrvState where
  drives : List ((Nat × Nat) × Drive) := []
  cmds : List DrvCmd := []
  results : List DrvResult := []
  nextCid : Nat := 0
  shelf : Option Nat := none
  deriving DecidableEq, Repr

/-- A key slot of the cipher engine (spec/14 R400-R406): the key in force as (derivation, generation), the one that waits
behind the fence, jobs in flight. -/
structure KeySlot where
  key : Nat := 0
  next : Option (Nat × Nat × Nat × Nat) := none
  /-- A clear waits behind the fence. -/
  clearing : Bool := false
  jobs : Nat := 0
  /-- An opening slot has accepted a frame since its key was loaded (R409). -/
  opened : Bool := false
  deriving DecidableEq, Repr

structure CipState where
  /-- XTS slots by (die, slot), GCM slots by (die, slot + 0x10000). -/
  slots : List ((Nat × Nat) × KeySlot) := []
  /-- Sealing keys and fixed fields loaded in this boot (R407). -/
  sealed : List (Nat × Nat × Nat) := []
  done : List (Nat × List (Nat × Bool)) := []
  mediaRoot : Option Nat := none
  /-- Key generation table in force (R397), and a replacement waiting for the partner (R399). -/
  gens : List ((Nat × Nat) × Nat) := []
  replacing : List (Nat × Nat) := []
  /-- Generations committed whose new key is not yet loaded (R399 step 3), by (die, slot). -/
  replaced : List (Nat × Nat) := []
  /-- GCM_DONE overflowed since its last read, by die (R411). -/
  lost : List Nat := []
  deriving DecidableEq, Repr

/-- The lease engine's record of a drive (spec/15 R434-R436): own writes in flight (sequence number, expiry, release), x(d),
y(d), the first read that found the slot bad, whether both slots were read in this stay and whether they allow acquisition. -/
structure LeaseRec where
  acquired : Bool := false
  seq : Nat := 0
  flights : List (Nat × Nat × Bool) := []
  x : Option Nat := none
  y : Option Nat := none
  badSince : Option Nat := none
  ownBad : Option Nat := none
  read : Bool := false
  free : Bool := false
  deriving DecidableEq, Repr

/-- Pairing, leases and takeover (spec/15) beside the PAIR registers. -/
structure PairState where
  /-- Link sequence numbers: last sent, last accepted; frames kept for resending (number, type, channel, fields, blocks);
  when the last NAK and the last acknowledgement were sent; attempts at the oldest frame. -/
  txSeq : Nat := 0
  rxSeq : Nat := 0
  replay : List (Nat × Nat × Nat × List Nat × List Block) := []
  nakAt : Option Nat := none
  ackAt : Nat := 0
  attempts : Nat := 0
  /-- TS64 (of the MD) and uptime of the last partner frame accepted (t_S). -/
  lastTs : Option Nat := none
  lastAt : Nat := 0
  hbAt : Nat := 0
  helloAt : Nat := 0
  /-- Time since which the link has been up; the last heartbeat's t_tx and its arrival. -/
  linkUp : Option Nat := none
  hbTx : Nat := 0
  hbRx : Nat := 0
  hello : Option Hello := none
  seen : Bool := false
  paired : Bool := false
  secret : Nat := 0
  /-- Why pairing was refused: a reason code of PAIR.STATUS. -/
  refusal : Nat := 0
  acqState : Nat := 0
  acqSent : Nat := 0
  partnerKey : Option Nat := none
  /-- Seal phase and open phase, the TS64 at which the seal phase began, and a rekey announced. -/
  sealPhase : Nat := 0
  openPhase : Nat := 0
  phaseAt : Nat := 0
  rekey : Bool := false
  leases : List ((Nat × Nat) × LeaseRec) := []
  kicked : Bool := false
  tickDue : Bool := false
  acquireSince : Option Nat := none
  lapseRaised : Bool := false
  /-- The interlock claim: instant of the assertion, retries made, instant of the next, exhausted. -/
  claimAt : Option Nat := none
  retries : Nat := 0
  retryAt : Option Nat := none
  exhausted : Bool := false
  /-- Fencing (R442, R443): drives in progress, done, failed; all done; bays whose gate stays closed for the boot. -/
  fencing : List (Nat × Nat) := []
  fenced : List (Nat × Nat) := []
  fenceFailed : List (Nat × Nat) := []
  fenceDone : Bool := false
  closed : List (Nat × Nat) := []
  /-- Partner loss in Active (R445): h₀, stage, drives whose renewal of h₀ completed, when it reached m. -/
  h0 : Nat := 0
  lossStage : Nat := 0
  renewed : List (Nat × Nat) := []
  renewedAt : Nat := 0
  /-- Handover (R449): 0 none, 1 requested, 2 accepted, 3 go sent, 4 go received, 5 taken over and the old Active not yet seen in
  Standby; its instant; it is for Maintenance. -/
  ho : Nat := 0
  hoAt : Nat := 0
  hoMaint : Bool := false
  /-- Mirror re-seed (R428): seed cut of each channel, last Crumb sent; this package is being seeded. -/
  cuts : List (Nat × Nat) := []
  seeded : Bool := false
  /-- The stream from the Active ended (R423) while this package stands by. -/
  streamLost : Bool := false
  tableSeq : List (Nat × Nat) := []
  /-- Carried data of a write by (die, seq): first block and blocks. -/
  carried : List ((Nat × Nat) × List (Nat × Block)) := []
  /-- Gate handover (R452): bays offered to this package, and those this package releases, with the instant of the hold. -/
  gateOffers : List Nat := []
  gateHeld : List (Nat × Nat) := []
  deriving DecidableEq, Repr

/-- A flush record of the flush in hand (spec/16 R465): number, member's bay, kind, payload blocks, Crumbs, and how far it is:
0 waiting, 1 written and not complete, 2 complete. -/
structure FlRec where
  recSeq : Nat
  bay : Nat
  kind : Nat
  blocks : Nat := 0
  crumbs : Nat := 0
  progress : Nat := 0
  deriving DecidableEq, Repr

/-- The flush engine of a channel die (spec/16): members that take records, members of the set, member headers, records,
blocks placed on each member, whether a member was lost; and for replay, the sets, the records whose open is awaited
(tag, set, number), those opened, the Crumb records found, and whether the channel has started and has been replayed. -/
structure FlsDie where
  members : List Nat := []
  listed : List Nat := []
  hdrs : List FlushHeader := []
  queue : List FlRec := []
  placed : List (Nat × Nat) := []
  lost : Bool := false
  closed : List Nat := []
  sets : List FlushSet := []
  opens : List (Nat × Nat × Nat) := []
  opened : List (Nat × Nat) := []
  started : Bool := false
  replayed : Bool := false
  lastReplay : Nat := 0
  deriving DecidableEq, Repr

structure FlsState where
  dies : List (Nat × FlsDie) := []
  warnAt : Nat := 0
  deriving DecidableEq, Repr

/-- A bay power channel (spec/17) beside its registers: both seat pins in contact and since when; when the seat was lost; the
retry count n, the retry timer's end, whether the count has latched the bay, the cause a retry waits for; starts of the ramp, of
the stay in Limit, of On, of the precharge hold and of Stopping; the loop's allowed current, gate current (0 none, 1 sink,
2 regulated source, 3 full source) and last output sample; the thermal estimate's rise d in µ°C; the state in which the seat was
lost; the last thermistor reading in half degrees; thermistor samples in a row out
of range and in it; whether the gate was ever held since Bring-up; the level a guard watches from, and whether it acted. -/
structure BayRec where
  contact : Bool := false
  contactAt : Nat := 0
  lostAt : Option Nat := none
  n : Nat := 0
  timer : Option Nat := none
  latched : Bool := false
  waits : Nat := 0
  rampAt : Nat := 0
  limitAt : Nat := 0
  onAt : Nat := 0
  pre : Option Nat := none
  stopAt : Nat := 0
  iAllow : Nat := 0
  drive : Nat := 0
  vLast : Nat := 0
  d : Int := 0
  lostSt : Nat := 0
  half : Int := 0
  thermBad : Nat := 0
  thermGood : Nat := 0
  everHeld : Bool := false
  guard_ : Option Nat := none
  acted : Bool := false
  deriving DecidableEq, Repr

/-- Bay power (spec/17) beside the BAY registers: scans in a row discarded and good, a gate offer that goes on to bays as they
settle (R499). -/
structure BayState where
  recs : List (Nat × BayRec) := []
  chainBad : Nat := 0
  chainGood : Nat := 0
  offering : Bool := false
  deriving DecidableEq, Repr

/-- A queue of a function (spec/18 R513): a submission queue with its completion queue, or a completion queue with its vector;
`phase` of the next entry; `phase` and `ien` belong to completion queues. -/
structure EpQueue where
  fn : Nat
  qid : Nat
  size : Nat
  cq : Nat := 0
  ien : Bool := true
  head : Nat := 0
  tail : Nat := 0
  phase : Bool := true
  deriving DecidableEq, Repr

/-- A command between fetch and completion (spec/18 R516-R519): its channel die once known; state 0 its data is fetched, 1 it may
be forwarded, 2 forwarded, 3 it waits for landing space, 4 it is decided and its completion entry waits for room, 5 a queue
command that the endpoint serves; the chain that completes it. -/
structure EpCmd where
  tok : Nat
  fn : Nat
  sq : Nat
  cap : Capsule := {}
  die : Nat := 0
  st : Nat := 0
  status : Nat := 0
  dw0 : Nat := 0
  dw1 : Nat := 0
  chain : Option Nat := none
  deriving DecidableEq, Repr

/-- An outstanding request of the endpoint (spec/18 R516, R522): a fetch of `n` entries, or of the data of a command. -/
structure EpReq where
  tag : Nat
  fn : Nat
  fetch : Bool
  sq : Nat
  n : Nat := 0
  tok : Nat := 0
  issued : Nat := 0
  stale : Bool := false
  resetAt : Option Nat := none
  deriving DecidableEq, Repr

/-- Landing pages in use (spec/18 R517): die, connection and CID of the command, pages, and whether it has been forwarded. -/
structure EpLand where
  die : Nat
  conn : Nat
  cid : Nat
  pages : Nat
  fwd : Bool := false
  deriving DecidableEq, Repr

/-- The direct-attach endpoint (spec/18) beside the EPF registers. -/
structure EpState where
  /-- Submission and completion queues. -/
  sqs : List EpQueue := []
  cqs : List EpQueue := []
  cmds : List EpCmd := []
  reqs : List EpReq := []
  /-- Tags held back and until when (R523). -/
  heldTags : List (Nat × Nat) := []
  land : List EpLand := []
  /-- Function and queue served last (R516). -/
  lastFn : Nat := 63
  lastSq : List (Nat × Nat) := []
  nextTok : Nat := 0
  /-- Commands forwarded on each endpoint connection (R518). -/
  msns : List (Nat × Nat) := []
  /-- Work requests that have reached port 11: die, chain, whether it is the last. -/
  port11 : List (Nat × Nat × Bool) := []
  /-- Messages due by (function, vector), those held in the pending bit array, and the µs of TS64 of the last one sent. -/
  msiDue : List (Nat × Nat) := []
  pba : List (Nat × Nat) := []
  msiAt : List ((Nat × Nat) × Nat) := []
  /-- Functions stopped until CC.EN is cleared or they are reset; PME_Status and PME_En. -/
  stopped : List Nat := []
  pmeStatus : List Nat := []
  pmeEn : List Nat := []
  /-- Sizes of the admin queues as CC.EN was set, kept while RDY waits for data presence. -/
  aq : List (Nat × (Nat × Nat)) := []
  refclk : Bool := true
  deriving DecidableEq, Repr

/-- A record of the event log ring (spec/19 R554): what was reported, with seq, boot count and severity. -/
structure EvRec where
  seq : Nat
  boot : Nat
  severity : Nat
  r : LogRec
  deriving DecidableEq, Repr

/-- An update in progress (spec/19 R545): component 1 firmware or 2 configuration image, the agent's binding, bytes received,
the instant at which the transfer counts as lost, the image once it is whole. -/
structure FwUpdate where
  comp : Nat
  binding : Nat
  bytes : Nat := 0
  deadline : Nat := 0
  fw : Option FwImage := none
  cfg : Option Image := none
  deriving DecidableEq, Repr

/-- The management subsystem (spec/19) beside the MGT registers: firmware slots and selector copies, Praline's firmware rollback
floor and boot count, the release that runs and its slot, the update; the event log ring, the records of this period by source
and those suppressed, the period's number, the NVM log and the records due for it, whether copying has stopped; watchdog
deadlines; sensors at or above the trip and since when; endpoint IDs by binding; datagrams answered in a second; console input. -/
structure MgtState where
  fwA : Option FwImage := none
  fwB : Option FwImage := none
  fsel0 : FwSelector := {}
  fsel1 : FwSelector := {}
  fwFloor : Nat := 0
  bootCount : Nat := 0
  running : Option FwImage := none
  runSlot : Nat := 0
  update : Option FwUpdate := none
  evlog : List EvRec := []
  counts : List ((Nat × Nat × LogCode) × Nat) := []
  suppressed : List ((Nat × Nat × LogCode) × Nat) := []
  period : Nat := 0
  nvmLog : List EvRec := []
  nvmDue : List Nat := []
  nvmStopped : Bool := false
  fallbackDue : Option Nat := none
  sWdt : Option Nat := none
  nsWdt : Option Nat := none
  hot : List (Nat × Nat) := []
  eids : List (Nat × Nat) := []
  second : Nat := 0
  answered : Nat := 0
  console : List Nat := []
  deriving DecidableEq, Repr

/-- Background work of a channel die (spec/21): by activity the grant, the charge in the tick and the debt, in ns; blocks that
rebuild and reshape have written in the tick; the charge of each port; ports with foreground commands waiting, and ports that held
a background command back; the critical floor holds; patrol's stripe in hand (group, stripe, 1 reading or 2 writing), the group
visited last, and the earliest instant of its next stripe. -/
structure BgwDie where
  grant : List Nat := [0, 0, 0, 0, 0, 0]
  used : List Nat := [0, 0, 0, 0, 0, 0]
  debt : List Nat := [0, 0, 0, 0, 0, 0]
  rebuilt : Nat := 0
  reshaped : Nat := 0
  port : List (Nat × Nat) := []
  fgWait : Nat := 0
  yielded : List Nat := []
  critical : Bool := false
  patrol : Option (Nat × Nat × Nat) := none
  lastGroup : Nat := 3
  patrolAt : Nat := 0
  deriving DecidableEq, Repr

/-- The reset controller, the clocks and the voltage loop (spec/23).  `phase`: 0 COLD held, 1 the crystal starts, 2 fuse load,
3 Supervise before the strap is read, 4 rail sequencing, 5 clock check, 6 release of Lattice interfaces from Proofing on, 7 release
of the remainders from Bring-up on.  `held` RESET_N is low at COLD level; `lat` dies whose Lattice interface, SEC and Proofing agent
are released; `stackInit` dies whose stack initialises; when the last step was made; whether the COLD reset cleared the stacks;
PACKAGE sources held in Flush; watchdog deadlines of the dies; instants of resets by sources 7 and 8; DIE (2) and CHANNEL (3)
resets in progress with their starts; drives and set points: n_hi of each loop, AVSBus failures in a row, die stretched since. -/
structure RstState where
  phase : Nat := 0
  held : Bool := false
  lat : List Nat := []
  stackInit : List Nat := []
  at_ : Nat := 0
  cold : Bool := true
  waiting : List Nat := []
  wdt : List (Nat × Nat) := []
  resets : List (Nat × Nat) := []
  active : List (Nat × Nat × Nat) := []
  nHi : List (Nat × Nat) := []
  avsBad : List (Nat × Nat) := []
  stretched : List (Nat × Nat) := []
  /-- The crystal is out of range: uptime counts on the common reference (R623). -/
  xtalOut : Bool := false
  /-- The mode before a PACKAGE reset that RESET_N still holds. -/
  prev : Nat := 0
  /-- Dies whose remainder has been released or is being released (steps 7 and 8). -/
  freed : List Nat := []
  deriving DecidableEq, Repr

-- SUBSTATES

/-- The whole state of the package.  `now` is uptime in ns (R554), `fresh` the model's counter of free values,
`channels` the channel dies of the part (R2). -/
structure State where
  now : Nat := 0
  fresh : Nat := 0
  channels : Nat := 6
  regs : List (RegKey × Nat) := []
  ctrs : List (CtrKey × Nat) := []
  snaps : List Snapshot := []
  latches : List Latch := []
  logq : List LogRec := []
  out : List OutMsg := []
  lat : LatState := {}
  mode : ModeState := {}
  tim : TimState := {}
  pmc : PmcState := {}
  sec : SecState := {}
  img : ImgState := {}
  eth : EthState := {}
  swx : SwxState := {}
  sch : SchState := {}
  rdx : RdxState := {}
  cmd : CmdState := {}
  spg : SpgState := {}
  grp : GrpState := {}
  rsh : RshState := {}
  drv : DrvState := {}
  cip : CipState := {}
  pair : PairState := {}
  fls : FlsState := {}
  bay : BayState := {}
  ep : EpState := {}
  mgt : MgtState := {}
  bgw : List (Nat × BgwDie) := []
  rst : RstState := {}
  pending : List Instr := []
  deriving DecidableEq, Repr

/-- The package right after a COLD reset: every register field at its reset value, nothing else in motion. -/
def State.reset : State := {}

/-- What a command answers. -/
abbrev Out := Host.Outcome State Fault Refusal

end Sys2Proof.Machine
end

