-- ==== Sys2Proof/Machine/Ops.lean ====
section
/-! DEFINITION. The operations every chapter shares: association lists, the register file, events and interrupts,
counters (with the performance counters that follow them), the event log's records, shelf time on a die, and the
latching of mode triggers. -/

set_option Elab.async false

namespace Sys2Proof.Machine

/-! ### Association lists -/

/-- The value under a key. -/
def alGet {κ α : Type} [DecidableEq κ] : List (κ × α) → κ → Option α
  | [], _ => none
  | (k', v) :: l, k => if k' = k then some v else alGet l k

/-- The list with the value under a key set. -/
def alPut {κ α : Type} [DecidableEq κ] : List (κ × α) → κ → α → List (κ × α)
  | [], k, v => [(k, v)]
  | (k', v') :: l, k, v => if k' = k then (k, v) :: l else (k', v') :: alPut l k v

/-- The list without a key. -/
def alDel {κ α : Type} [DecidableEq κ] (l : List (κ × α)) (k : κ) : List (κ × α) :=
  l.filter (fun p => p.1 ≠ k)

/-- The first entry that a test accepts. -/
def alFind {κ α : Type} (l : List (κ × α)) (p : κ → α → Bool) : Option (κ × α) :=
  l.find? (fun e => p e.1 e.2)

/-- Fold a state change over a list. -/
def foldS {σ α : Type} (f : σ → α → σ) : σ → List α → σ
  | s, [] => s
  | s, a :: l => foldS f (f s a) l

/-- Insertion by a key, and a list sorted by it in rising order. -/
def insertKey {α : Type} (k : α → Nat) (a : α) : List α → List α
  | [] => [a]
  | b :: l => if k a ≤ k b then a :: b :: l else b :: insertKey k a l
def sortKey {α : Type} (k : α → Nat) (l : List α) : List α := l.foldr (insertKey k) []

/-! ### Dies -/

/-- The management die. -/
abbrev mdId : Nat := 7
/-- The die ID of channel die c. -/
def cdId (c : Nat) : Nat := c + 1
/-- The part carries this die (spec/00 R2). -/
def State.hasDie (s : State) (d : Nat) : Bool := d = 0 || d = 7 || (1 ≤ d && d ≤ s.channels)
/-- The channel dies of the part. -/
def State.cds (s : State) : List Nat := List.range s.channels
/-- The dies of the part. -/
def State.dies (s : State) : List Nat := 0 :: 7 :: (List.range s.channels).map (· + 1)

/-! ### The register file -/

/-- A field's value. -/
def State.r (s : State) (d : Nat) (f : Fld) (i : Nat := 0) : Nat :=
  (alGet s.regs ⟨d, f, i⟩).getD f.spec.reset

/-- A one-bit field, as a truth value. -/
def State.rb (s : State) (d : Nat) (f : Fld) (i : Nat := 0) : Bool := s.r d f i ≠ 0

/-- Set a field, cut to its width. -/
def State.w (s : State) (d : Nat) (f : Fld) (v : Nat) (i : Nat := 0) : State :=
  { s with regs := alPut s.regs ⟨d, f, i⟩ (v % 2 ^ f.spec.width) }

/-- Set a one-bit field from a truth value. -/
def State.wb (s : State) (d : Nat) (f : Fld) (b : Bool) (i : Nat := 0) : State := s.w d f (if b then 1 else 0) i

/-- Bit n of a field of bits, and the field with bit n set or cleared. -/
def State.rbit (s : State) (d : Nat) (f : Fld) (n : Nat) (i : Nat := 0) : Bool := (s.r d f i).testBit n
def setBit (v n : Nat) (b : Bool) : Nat := if b then v ||| 2 ^ n else if v.testBit n then v - 2 ^ n else v
def State.wbit (s : State) (d : Nat) (f : Fld) (n : Nat) (b : Bool) (i : Nat := 0) : State :=
  s.w d f (setBit (s.r d f i) n b) i

/-- The package address of an offset of a block (spec/00 R7), and of a field. -/
def pkgAddr (d blk off : Nat) : Nat := d * 2 ^ 36 + blk * 2 ^ 28 + off
def fldAddr (d : Nat) (f : Fld) (i : Nat := 0) : Nat := pkgAddr d f.block (f.spec.base + f.spec.stride * i)

/-- A signed value in `w` bits of two's complement, saturating, and back. -/
def toSigned (w : Nat) (v : Int) : Nat :=
  let hi : Int := 2 ^ (w - 1) - 1
  let lo : Int := -(2 ^ (w - 1))
  let c := if v > hi then hi else if v < lo then lo else v
  (if c < 0 then c + 2 ^ w else c).toNat
def ofSigned (w v : Nat) : Int := if v < 2 ^ (w - 1) then (v : Int) else (v : Int) - 2 ^ w

/-! ### What leaves the package -/

/-- Send a message out. -/
def State.emit (s : State) (m : OutMsg) : State := { s with out := s.out ++ [m] }

/-- A fresh number for a value the spec leaves open. -/
def State.tick (s : State) : State := { s with fresh := s.fresh + 1 }

/-! ### Events and interrupts -/

/-- The interrupt enables that go with a block's EVENTS register. -/
def intEnable (blk : Nat) : Option Fld :=
  match blk with
  | 0x03 => some (.mgt .EVENTS_INT_enable)
  | 0x04 => some (.sec .EVENTS_INT_enable)
  | 0x05 => some (.bgw .EVENTS_INT_enable)
  | 0x06 => some (.pmc .EVENTS_INT_enable)
  | 0x07 => some (.rst .EVENTS_INT_enable)
  | 0x08 => some (.clk .EVENTS_INT_enable)
  | 0x09 => some (.pwr .EVENTS_INT_enable)
  | 0x0A => some (.lat .EVENTS_INT_enable)
  | 0x15 => some (.epf .EVENTS_INT_enable)
  | 0x20 => some (.rdx .EVENTS_INT_enable)
  | 0x21 => some (.cmd .EVENTS_INT_enable)
  | 0x22 => some (.nsm .EVENTS_INT_enable)
  | 0x23 => some (.spg .EVENTS_INT_enable)
  | 0x25 => some (.grp .EVENTS_INT_enable)
  | 0x26 => some (.rsh .EVENTS_INT_enable)
  | 0x27 => some (.drv .EVENTS_INT_enable)
  | 0x28 => some (.cip .EVENTS_INT_enable)
  | 0x30 => some (.pair .EVENTS_INT_enable)
  | 0x31 => some (.fls .EVENTS_INT_enable)
  | 0x32 => some (.bay .EVENTS_INT_enable)
  | _ => none

/-- Where a die's interrupts go: a channel die's to its control cores, the others' to the MD's non-secure cores. -/
def irqTarget (d : Nat) : Nat := if 1 ≤ d ∧ d ≤ 6 then 0 else 1

/-- Interrupt for a bit of a block's EVENTS register, if enabled. -/
def State.irqFor (s : State) (d blk bit target : Nat) : State :=
  match intEnable blk with
  | some e => if s.rbit d e bit then s.emit (.irq target d blk bit) else s
  | none => s

/-- A hardware event: its bit is set, and its interrupt is raised where enabled. -/
def State.ev (s : State) (d : Nat) (f : Fld) : State :=
  (s.w d f 1).irqFor d f.block f.spec.lo (irqTarget d)

/-! ### Counters -/

/-- A block counter. -/
def State.ctr (s : State) (d blk idx : Nat) (inst : Nat := 0) : Nat :=
  (alGet s.ctrs ⟨d, blk, idx, inst⟩).getD 0

/-- One PMC counter moves on (spec/22 R603, R606). -/
def State.pmcAdd (s : State) (d n amount : Nat) : State :=
  let v := s.r d (.pmc .CTR) n + amount
  let s := s.w d (.pmc .CTR) v n
  if v < 2 ^ 64 then s else
    let s := s.wbit d (.pmc .OVF_ovf) n true
    if s.rbit d (.pmc .OVF_INT_enable) n then
      (s.w d (.pmc .EVENTS_overflow) 1).irqFor d 0x06 0
        (if s.rb d (.pmc .CTR_CFG_secure) n then 2 else irqTarget d)
    else s

/-- The running PMC counters of a die that select an event move on with it (spec/22 R603). -/
def State.pmcFeed (s : State) (d sel amount : Nat) : State :=
  foldS (fun s n =>
    if s.rbit d (.pmc .STATUS_running) n && s.r d (.pmc .CTR_SEL_selector) n = sel then s.pmcAdd d n amount else s)
    s (List.range 8)

/-- The sticky overflow bits, their enables and the wrap event of a block's counters. -/
def ovfOf (blk : Nat) : Option (Fld × Fld × Option Fld) :=
  match blk with
  | 0x03 => some (.mgt .CNT_OVF_ovf, .mgt .CNT_OVF_INT_enable, some (.mgt .EVENTS_counter_wrap))
  | 0x04 => some (.sec .CNT_OVF_ovf, .sec .CNT_OVF_INT_enable, some (.sec .EVENTS_counter_wrap))
  | 0x05 => some (.bgw .CNT_OVF_ovf, .bgw .CNT_OVF_INT_enable, some (.bgw .EVENTS_counter_wrap))
  | 0x10 => some (.eth .CNT_OVF_ovf, .eth .CNT_OVF_INT_enable, none)
  | 0x12 => some (.swx .CNT_OVF_ovf, .swx .CNT_OVF_INT_enable, none)
  | 0x15 => some (.epf .CNT_OVF_ovf, .epf .CNT_OVF_INT_enable, some (.epf .EVENTS_counter_wrap))
  | 0x20 => some (.rdx .CNT_OVF_ovf, .rdx .CNT_OVF_INT_enable, some (.rdx .EVENTS_counter_wrap))
  | 0x21 => some (.cmd .CNT_OVF_ovf, .cmd .CNT_OVF_INT_enable, some (.cmd .EVENTS_counter_wrap))
  | 0x23 => some (.spg .CNT_OVF_ovf, .spg .CNT_OVF_INT_enable, some (.spg .EVENTS_counter_wrap))
  | 0x24 => some (.arb .CNT_OVF_ovf, .arb .CNT_OVF_INT_enable, none)
  | 0x25 => some (.grp .CNT_OVF_ovf, .grp .CNT_OVF_INT_enable, some (.grp .EVENTS_counter_wrap))
  | 0x26 => some (.rsh .CNT_OVF_ovf, .rsh .CNT_OVF_INT_enable, some (.rsh .EVENTS_counter_wrap))
  | 0x27 => some (.drv .B_OVF_ovf, .drv .CNT_OVF_INT_enable, some (.drv .EVENTS_counter_wrap))
  | 0x28 => some (.cip .CNT_OVF_ovf, .cip .CNT_OVF_INT_enable, some (.cip .EVENTS_counter_wrap))
  | 0x30 => some (.pair .CNT_OVF_ovf, .pair .CNT_OVF_INT_enable, some (.pair .EVENTS_counter_wrap))
  | 0x31 => some (.fls .CNT_OVF_ovf, .fls .CNT_OVF_INT_enable, some (.fls .EVENTS_counter_wrap))
  | 0x32 => some (.bay .B_OVF_ovf, .bay .CNT_OVF_INT_enable, some (.bay .EVENTS_counter_wrap))
  | _ => none

/-- A counter has wrapped: its sticky bit, and the wrap event or counter interrupt where enabled. -/
def State.wrapped (s : State) (d blk idx inst : Nat) : State :=
  match ovfOf blk with
  | none => s
  | some (o, e, ev) =>
    let ei := if e.spec.count = 1 then 0 else inst
    let s := s.wbit d o idx true inst
    if s.rbit d e idx ei then
      match ev with
      | some f => s.ev d f
      | none => s.emit (.irq (irqTarget d) d blk idx)
    else s

/-- A block counter moves on, and every PMC counter that follows it (spec/22 R603). -/
def State.bump (s : State) (d blk idx : Nat) (n : Nat := 1) (inst : Nat := 0) : State :=
  let v := s.ctr d blk idx inst + n
  let s := { s with ctrs := alPut s.ctrs ⟨d, blk, idx, inst⟩ (v % 2 ^ 64) }
  let s := if v < 2 ^ 64 then s else s.wrapped d blk idx inst
  s.pmcFeed d (blk * 2 ^ 24 + idx * 2 ^ 16 + inst) n

/-! ### Shelf time on a die (spec/03 R52, R53, R67) -/

/-- The counter's value at an uptime. -/
def DieTime.read (t : DieTime) (now : Nat) : Nat :=
  if t.set then
    let dt := now - t.anchor - t.hold
    let lim : Int := (dt * t.ppm / 1000000 : Nat)
    let c := if t.slew > lim then lim else if t.slew < -lim then -lim else t.slew
    ((t.val + dt : Nat) + c).toNat
  else 0

/-- The slew still to be made at an uptime. -/
def DieTime.slewLeft (t : DieTime) (now : Nat) : Int :=
  let lim : Int := ((now - t.anchor - t.hold) * t.ppm / 1000000 : Nat)
  if t.slew > lim then t.slew - lim else if t.slew < -lim then t.slew + lim else 0

def State.dieTime (s : State) (d : Nat) : DieTime := (alGet s.tim.counters d).getD {}

/-- TS64 of a die; zero while unset. -/
def State.ts64 (s : State) (d : Nat) : Nat := (s.dieTime d).read s.now

/-- TS64 of a die is set. -/
def State.tsSet (s : State) (d : Nat) : Bool := (s.dieTime d).set

/-- Time quality (spec/03 R76) of a die: the servo state it knows; 3 while unset. -/
def State.quality (s : State) (d : Nat) : Nat :=
  match s.r d (.tim .STATE_state) with
  | 2 => 0
  | 1 => 1
  | 3 => 2
  | _ => 3

/-- The PMC counters that count shelf nanoseconds follow a die's TS64 (spec/22, native event 0). -/
def State.shelfNs (s : State) (d before : Nat) : State :=
  if s.tsSet d && before ≠ 0 then s.pmcFeed d 0x06000000 (s.ts64 d - before) else s

/-- Uptime moves on to an instant; instants already past leave it. -/
def State.advance (s : State) (t : Nat) : State :=
  if t ≤ s.now then s else
    foldS (fun (s' : State) d => s'.shelfNs d (s.ts64 d)) { s with now := t } s.dies

/-- Replace a die's counter. -/
def State.setDieTime (s : State) (d : Nat) (t : DieTime) : State :=
  let before := s.ts64 d
  let s := { s with tim := { s.tim with counters := alPut s.tim.counters d t } }
  s.shelfNs d before

/-! ### Event log records (spec/19 R554, R556) -/

/-- A die reports an event: the record sets out for the management die's ring. -/
def State.log (s : State) (d blk : Nat) (code : LogCode) (args : List Nat := []) (secure : Bool := false) : State :=
  let rec_ : LogRec := ⟨d, blk, code, args, s.ts64 d, s.tsSet d, s.quality d, secure, s.now⟩
  { s with logq := s.logq ++ [rec_] }

/-- A record of the MGT block, sent by the secure cores. -/
def State.logMgt (s : State) (code : Nat) (args : List Nat) : State := s.log mdId 0x03 (.mgt code) args true

/-- A catalogue event of a block. -/
def State.logEv (s : State) (d blk : Nat) (e : EvName) (args : List Nat := []) : State := s.log d blk (.ev e) args

/-- A write discarded because a field is out of range (index 0x01), or not allowed in the present state (0x02). -/
def State.discardRange (s : State) (d : Nat) (f : Fld) (v : Nat) (i : Nat := 0) : State :=
  s.log d f.block (.common 1) [fldAddr d f i, v]
def State.discardState (s : State) (d : Nat) (f : Fld) (v : Nat) (i : Nat := 0) : State :=
  s.log d f.block (.common 2) [fldAddr d f i, v]

/-- A denied access (spec/00 R13): the target die's counter, its SEC event and last-violation record, and the log. -/
def State.worldViolation (s : State) (q : Req) (d blk off : Nat) (write : Bool) : State :=
  let a := pkgAddr d blk off
  let s := s.bump d 0x04 0
  let s := s.ev d (.sec .EVENTS_world_violation)
  let s := ((s.w d (.sec .VIOL_LAST_LO_addr) (a % 2 ^ 32)).w d (.sec .VIOL_LAST_HI_addr) (a / 2 ^ 32)).w d
    (.sec .VIOL_LAST_HI_die) q.die
  let s := s.wb d (.sec .VIOL_LAST_HI_write) write
  s.log d blk (.common 3) [a, q.die, if write then 1 else 0] q.secure

/-- A block command of the secure world or of either: a non-secure write is denied. -/
def State.secureOnly (s : State) (q : Req) (d : Nat) (f : Fld) (k : State) : State :=
  if q.secure then k else s.worldViolation q d f.block f.spec.base true

/-! ### Modes and roles (spec/02) -/

/-- The package's mode: MGT.MODE.current once the management die's cores run, Off before (spec/23 R617). -/
def State.modeNow (s : State) : Nat := if s.rst.phase < 3 then 0 else s.r mdId (.mgt .MODE_current)
/-- Role of the strap: 0 Solo, 1 Pair-A, 2 Pair-B; the recovery boot and manufacturing-test codes are apart. -/
def State.role (s : State) : Nat := s.r mdId (.rst .STRAP_role)
def State.testStrap (s : State) : Bool := s.rb mdId (.rst .STRAP_recovery) || s.rb mdId (.rst .STRAP_mfg_test)
def State.paired (s : State) : Bool := (s.role = 1 || s.role = 2) && !s.testStrap
def State.solo (s : State) : Bool := s.role = 0 && !s.testStrap
/-- The port a package's drive commands use (spec/00, Names and numbering). -/
def State.drivePort (s : State) : Nat := if s.role = 2 then 1 else 0

/-- *Mode transitions* has a row for a trigger code in a mode (spec/02 R31, R32). -/
def modeHasRow (mode code : Nat) : Bool :=
  match code with
  | 0x1 => true
  | 0x2 => mode ≠ 0 && mode ≠ 0xB
  | 0x3 => mode ≠ 0 && mode ≠ 8
  | 0x4 => mode ≠ 0
  | 0x5 => mode ≠ 0 && mode ≠ 8 && mode ≠ 0xB
  | 0x6 => mode ≠ 0 && mode ≠ 8 && mode ≠ 0xB
  | 0x7 => mode = 5 || mode = 9
  | 0x8 => mode ≠ 5 && mode ≠ 6 && mode ≠ 0xA && mode ≠ 0xB
  | 0x9 => mode = 5 || mode = 6 || mode = 0xA
  | 0xA => mode = 6
  | 0xB => mode = 7
  | 0xC => mode = 6
  | 0xD => mode = 5
  | 0xE => mode = 6
  | _ => false

/-- The record of a discarded trigger (spec/02 R32). -/
def State.discardTrig (s : State) (code : Nat) : State := s.logMgt 0x312 [s.modeNow, code]

/-- A trigger arrives: it is latched, or discarded at once where the mode has no row for it (spec/02 R32). -/
def State.trig (s : State) (code : Nat) (cause : Nat := 0) : State :=
  if modeHasRow s.modeNow code then
    if s.mode.trigs.contains ⟨code, cause⟩ then s else { s with mode := { s.mode with trigs := s.mode.trigs ++ [{ code, cause }] } }
  else s.discardTrig code

/-- A fatal error (spec/02 R44 cause 0x09). -/
def State.fatal (s : State) : State := s.trig 5 9

/-! ### Partner frames (spec/15 R417-R420) -/

def State.pairBump (s : State) (d i : Nat) (n : Nat := 1) : State := s.bump d 0x30 i n
def State.authenticated (s : State) : Bool := s.rb 0 (.pair .LINK_STATUS_authenticated)

/-- A sealing slot 0 may take another invocation (spec/14 R407). -/
def State.sealReady (s : State) (d : Nat) : Bool := decide (s.r d (.cip .GSLOT_CTR) 0 < 2 ^ 48)

/-- Slot 0 of a die takes an invocation; the one that brings its counter to 2⁴⁸ is the last (R407, R413). -/
def State.sealTake (s : State) (d : Nat) : State :=
  let n := s.r d (.cip .GSLOT_CTR) 0 + 1
  let s := s.w d (.cip .GSLOT_CTR) n 0
  if n < 2 ^ 48 then s else (s.w d (.cip .GSLOT_STATE_exhausted) 1 0).ev d (.cip .EVENTS_key_exhausted)

/-- A seal is refused (R407). -/
def State.sealRefuse (s : State) (d : Nat) : State := (s.ev d (.cip .EVENTS_key_exhausted)).ev d (.cip .EVENTS_load_refused)

/-- A frame is numbered, kept for resending and sent; a sealed frame takes an invocation of slot 0 (R420, R409).  Frames other than
the hello and the authentication go to an authenticated partner only. -/
def State.sendPartner (s : State) (type chan : Nat) (body : List Nat) (data : List Block := []) : State :=
  let clear := type = 8 && (body.headD 0 = 1 || body.headD 0 = 2)
  if !s.authenticated && !clear then s
  else if !clear && !s.sealReady 0 then s.sealRefuse 0
  else
    let p := s.pair
    let n := p.txSeq + 1
    let s := { s with pair := { p with txSeq := n, replay := p.replay ++ [(n, type, chan, body, data)], ackAt := s.now } }
    let s := if clear then s else (s.sealTake 0).bump 0 0x28 0
    (s.pairBump 0 0).emit (.partner type chan n body data)
/-- A control frame (type 0x08): subtype and body. -/
def State.sendControl (s : State) (sub : Nat) (body : List Nat := []) : State := s.sendPartner 8 255 (sub :: body)

/-! ### Snapshots (spec/05 R139) -/

/-- A block's counters are copied into the buffer of a world; done is set in that world's copy of SNAP_CTRL. -/
def State.snapshot (s : State) (d blk : Nat) (secure : Bool) (values : List Nat) (doneFld : Fld) (extra : Nat := 0) :
    State :=
  let buf : Snapshot := ⟨d, blk, secure, values, extra⟩
  let s := { s with snaps :=
    (s.snaps.filter (fun (x : Snapshot) => !(x.die = d && x.blk = blk && x.secure = secure))) ++ [buf] }
  s.w d doneFld 1 (if secure then 1 else 0)

/-- The counters 0 to n-1 of a block. -/
def State.counters (s : State) (d blk n : Nat) (inst : Nat := 0) : List Nat :=
  (List.range n).map (fun i => s.ctr d blk i inst)

end Sys2Proof.Machine
end

