-- ==== Sys2Proof/Machine/Ledger.lean ====
section
/-! DEFINITION. Queueing a record of the boot ledger (spec/20 R576-R578), shared by every chapter that appends one. -/

set_option Elab.async false

namespace Sys2Proof.Machine

/-- Bytes of a record of a kind (R574): header, body, trailer. -/
def recordLen (kind : Nat) : Nat := 128 + (if kind = 1 then 6208 else if kind = 3 then 128 else 64) + 3408

/-- The append of the oldest queued record starts (R577, R578): none is in hand or waits for its retry, and no power warning is
asserted.  The record is built with the next sequence number, the head's hash and the time of the append. -/
def State.ledgerStart (s : State) : State :=
  match s.sec.ledgerQ with
  | [] => s
  | r :: rest =>
    if s.sec.appending ∨ s.sec.stopped ∨ s.sec.retryAt.isSome ∨ s.rb mdId (.fls .STATUS_warning) then s else
      let r := { r with seq := s.sec.headSeq + 1, prev := s.sec.headHash, ts := s.ts64 mdId, uptime := s.now
                        quality := if s.tsSet mdId then s.quality mdId else 0xFF }
      { s with sec := { s.sec with ledgerQ := r :: rest, appending := true } }

/-- A record joins the queue of appends.  A full queue drops a kind 2 record and counts it; kinds 1, 3 and 4 are
never dropped (R578). -/
def State.ledgerAdd (s : State) (kind : Nat) (body : List Nat) (brk : Bool := false) : State :=
  if s.sec.stopped then s
  else if kind = 2 ∧ 16 ≤ s.sec.ledgerQ.length then s.bump mdId 0x04 4
  else
    let q := s.sec.ledgerQ ++ [{ kind := kind, body := body, brk := brk, bootCount := s.r mdId (.mgt .BOOT_COUNT_count) : LedgerRec }]
    (({ s with sec := { s.sec with ledgerQ := q } }).w mdId (.sec .LEDGER_STATUS_queued) q.length).ledgerStart

end Sys2Proof.Machine
end

