-- ==== Sys2Proof/Machine/Time.lean ====
section
/-! DEFINITION. Shelf time: the servo, the error bounds, UTC, 1PPS, schedule tables (spec/03), but for the commands
whose effects reach into later chapters (Machine/Late.lean). -/

set_option Elab.async false

namespace Sys2Proof

def SchedEntry.enabled (e : SchedEntry) : Bool := e.flags.testBit 0
/-- Kinds 0x03, 0x04 and 0x05 are windows (*Schedule kinds*). -/
def SchedEntry.window (e : SchedEntry) : Bool := e.kind = 3 || e.kind = 4 || e.kind = 5

/-- TS64 of occurrence n, if the entry has one. -/
def SchedEntry.occ (e : SchedEntry) (n : Nat) : Option Nat :=
  if e.period = 0 then (if n = 0 then some e.base else none) else some (e.base + n * e.period)

/-- The latest occurrence at or before an instant. -/
def SchedEntry.latest (e : SchedEntry) (ts : Nat) : Option Nat :=
  if ts < e.base then none else if e.period = 0 then some 0 else some ((ts - e.base) / e.period)

/-- Schedule entry fields are within the ranges of *Schedule entry* and *Schedule kinds*. -/
def SchedEntry.inRange (e : SchedEntry) : Bool :=
  (e.period = 0 || (1000 ≤ e.period && e.period ≤ 604800000000000)) &&
  (if e.window then
      e.duration ≥ 1000 && (if e.period = 0 then e.duration ≤ 604800000000000 else e.duration < e.period)
    else e.duration = 0) &&
  e.flags < 8 && e.reserved = 0 &&
  (match e.kind with
   | 1 => e.target < 32 && e.param < 2
   | 2 => e.target = 0 && e.param = 0
   | 3 => e.target < 16 && e.param < 8
   | 4 => e.target < 10 && e.param = 0
   | 5 => e.target = 0 && e.param = 0
   | 6 => e.target = 0 && e.param = 0
   | 7 => e.target < 64 && e.param = 0
   | _ => false)

/-- One 32-bit word of an entry replaced (*Schedule entry*, eight registers). -/
def SchedEntry.setWord (e : SchedEntry) (k v : Nat) : SchedEntry :=
  let lo (x : Nat) := x / 2 ^ 32 * 2 ^ 32 + v
  let hi (x : Nat) := v * 2 ^ 32 + x % 2 ^ 32
  match k with
  | 0 => { e with base := lo e.base }
  | 1 => { e with base := hi e.base }
  | 2 => { e with period := lo e.period }
  | 3 => { e with period := hi e.period }
  | 4 => { e with duration := lo e.duration }
  | 5 => { e with duration := hi e.duration }
  | 6 => { e with kind := v % 256, flags := v / 256 % 256, target := v / 65536 }
  | _ => { e with param := v % 65536, reserved := v / 65536 }

end Sys2Proof

namespace Sys2Proof.Machine

/-! ### The error bound (R54-R56) -/

/-- Growth of a bound, in ns rounded up, at a rate in ps/s over a span in ns. -/
def growth (rate dt : Nat) : Nat := (rate * dt + (10 ^ 12 - 1)) / 10 ^ 12

/-- Servo state code of the port die. -/
def State.servo (s : State) : Nat := s.r 0 (.tim .STATE_state)

/-- E_pkg before saturation (R54). -/
def State.ePkgRaw (s : State) : Nat :=
  match s.servo with
  | 0 => 0xFFFFFFFF
  | 1 | 2 => s.tim.offset.natAbs + s.r 0 (.tim .SERVO_CFG2_asym_ns) + 8 + s.tim.gBase
      + growth s.tim.rate (s.ts64 0 - s.tim.tGrowth)
  | _ => s.tim.eAnchor + growth s.tim.rate (s.ts64 0 - s.tim.tAnchor)

def sat32 (n : Nat) : Nat := if n < 2 ^ 32 then n else 0xFFFFFFFF
def State.ePkg (s : State) : Nat := sat32 s.ePkgRaw

/-- The distribution bound D of a die (R67 *Distribution bounds*). -/
def distBound (d : Nat) : Nat := if d = 0 then 0 else if d = 7 then 10 else d + 3

/-- E_die (R56); all ones while the die has no time. -/
def State.eDie (s : State) (d : Nat) : Nat := if s.tsSet d then sat32 (s.ePkg + distBound d) else 0xFFFFFFFF

/-- The growth rate of R55, in ps/s. -/
def State.growthRate (s : State) : Nat :=
  if s.servo = 4 then 20000000
  else if s.rb 0 (.tim .STATE_ref10m_valid) then s.r 0 (.tim .HOLD_RATE_10M_ps_per_s)
  else s.r 0 (.tim .HOLD_RATE_ps_per_s)

/-- The bound is anchored anew and the rate in force chosen (R55, R80). -/
def State.reanchor (s : State) : State :=
  let now := s.ts64 0
  let t := s.tim
  let t := match s.servo with
    | 0 => t
    | 1 | 2 => { t with gBase := t.gBase + growth t.rate (now - t.tGrowth), tGrowth := now }
    | _ => { t with eAnchor := s.ePkgRaw, tAnchor := now }
  let s := { s with tim := t }
  { s with tim := { s.tim with rate := s.growthRate } }

/-! ### Sources (R57) -/

/-- A listed source is valid (*Time sources*). -/
def State.srcValid (s : State) (src : TimeSource) : Bool :=
  let port (p : Nat) := s.tim.annPorts.contains p && s.tim.syncPorts.contains p
  match src.kind with
  | 1 => port src.port
  | 2 => s.tim.ppsGood && port src.todPort
  | 3 => s.tim.partnerGood && s.rb mdId (.lat .STATUS_pair_ring)
  | _ => false

/-- Index of the first valid source from a position on. -/
def firstValid (ok : TimeSource → Bool) : List TimeSource → Nat → Option Nat
  | [], _ => none
  | a :: l, i => if ok a then some i else firstValid ok l (i + 1)

def State.bestSource (s : State) : Option Nat := firstValid s.srcValid s.tim.cfg.sources 0

/-- Index of the selected source, while one is selected. -/
def State.selected (s : State) : Option Nat :=
  if s.r 0 (.tim .STATE_src_kind) = 0 then none else some (s.r 0 (.tim .STATE_src_index))

/-- The key under which the dataset behind a source is kept: its PTP port, its tod_port, or the partner's under 32 (R60). -/
def sourceKey (x : TimeSource) : Nat :=
  match x.kind with
  | 1 => x.port
  | 2 => x.todPort
  | _ => 32

/-- The dataset behind the selected source (R60), if one has been announced. -/
def State.upstream (s : State) : Option Dataset :=
  match s.selected with
  | none => none
  | some i => (s.tim.cfg.sources[i]?).bind fun x => alGet s.tim.masters (sourceKey x)

/-- UTC for display (R77): from the selected PTP master while it marks its offset valid, else the fallback. -/
def State.utcShow (s : State) : State :=
  let m : Dataset := if s.r 0 (.tim .STATE_src_kind) = 3 then {} else s.upstream.getD {}
  let s := (s.wb 0 (.tim .UTC_from_ptp) m.utcValid).w 0 (.tim .UTC_offset_s)
    (if m.utcValid then m.utcOffset else s.r 0 (.tim .UTC_fallback_s))
  let s := (s.wb 0 (.tim .UTC_leap59) m.leap59).wb 0 (.tim .UTC_leap61) m.leap61
  { s with tim := { s.tim with
      leapAt := if m.leap61 then some (m.dayEnd, 1) else if m.leap59 then some (m.dayEnd, -1) else none } }

def State.select (s : State) (i : Option Nat) : State :=
  (match i with
  | none => (s.w 0 (.tim .STATE_src_kind) 0).w 0 (.tim .STATE_src_index) 0
  | some i => (s.w 0 (.tim .STATE_src_kind) ((s.tim.cfg.sources.getD i {}).kind)).w 0 (.tim .STATE_src_index) i).utcShow

/-! ### Servo transitions (R62) -/

/-- A time anchor's body (spec/20 R576): cause, servo state, source kind, the master's clockClass, E_pkg, TS64, its identity and
stepsRemoved, domain, UTC offset. -/
def State.anchorBody (s : State) (cause : Nat) : List Nat :=
  let m := s.upstream.getD {}
  [cause, s.servo, s.r 0 (.tim .STATE_src_kind), m.clockClass, s.ePkg, s.ts64 mdId, m.identity, m.stepsRemoved, s.tim.cfg.domain,
   s.r 0 (.tim .UTC_offset_s)]

/-- The events a die records when the servo state it knows changes (R67): lock_lost, holdover_entered,
freerun_entered, and first_lock at the first Locked of the boot. -/
def State.servoEvents (s : State) (d old new : Nat) : State :=
  let s := if old = 2 ∧ new ≠ 2 then s.ev d (.tim .EVENTS_lock_lost) else s
  let s := if old ≠ 3 ∧ new = 3 then s.ev d (.tim .EVENTS_holdover_entered) else s
  let s := if old ≠ 4 ∧ new = 4 then s.ev d (.tim .EVENTS_freerun_entered) else s
  if new = 2 ∧ !s.rb d (.tim .STATE_ever_locked) then
    let s := (s.ev d (.tim .EVENTS_first_lock)).w d (.tim .STATE_ever_locked) 1
    -- The management die appends the time anchor (R64).
    if d = mdId then s.ledgerAdd 2 (s.anchorBody 1) else s
  else s

/-- The 1PPS output is driven (R61). -/
def State.ppsDriven (s : State) : Bool :=
  s.rb 0 (.tim .PPS_CFG_out_enable) && (s.servo = 2 || (s.servo = 3 && s.rb 0 (.tim .PPS_CFG_out_in_holdover)))

/-- While it is not driven the 1PPS output is low (R61). -/
def State.ppsCheck (s : State) : State :=
  if s.tim.ppsHigh && !s.ppsDriven then ({ s with tim := { s.tim with ppsHigh := false } }).emit (.pin "PPS_OUT" false) else s

/-- The servo changes state on the port die; the runs of measurements count anew. -/
def State.servoTo (s : State) (new : Nat) : State :=
  let old := s.servo
  let s := ((s.w 0 (.tim .STATE_state) new).ppsCheck).servoEvents 0 old new
  { s with tim := { s.tim with goodRun := 0, badRun := 0, rate := s.growthRate } }

/-- Entry to Holdover: t_a := t_g and e_anchor := abs(o) + a + 8 + g_base. -/
def State.toHoldover (s : State) : State :=
  let e := s.tim.offset.natAbs + s.r 0 (.tim .SERVO_CFG2_asym_ns) + 8 + s.tim.gBase
  let s := { s with tim := { s.tim with eAnchor := e, tAnchor := s.tim.tGrowth } }
  (s.select none).servoTo 3

/-- Entry to Acquiring with a source.  From Holdover and Free-run the growth accumulated is kept in g_base. -/
def State.toAcquiring (s : State) (i : Nat) : State :=
  let s := if s.servo = 3 ∨ s.servo = 4 then
      let base := s.tim.offset.natAbs + s.r 0 (.tim .SERVO_CFG2_asym_ns) + 8
      { s with tim := { s.tim with gBase := s.ePkgRaw - base, tGrowth := s.ts64 0 } }
    else s
  (s.select (some i)).servoTo 1

/-- The rows of *Servo transitions* that depend on the sources and on E_pkg alone. -/
def State.servoEvaluate (s : State) : State :=
  match s.servo, s.bestSource with
  | 0, _ => s
  | 1, none | 2, none => s.toHoldover
  | 1, some i | 2, some i => if s.selected = some i then s else s.toAcquiring i
  | 3, none =>
    if 1000 * s.r 0 (.tim .SERVO_CFG_freerun_thr_us) ≤ s.ePkgRaw then
      ({ s with tim := { s.tim with eAnchor := s.ePkgRaw, tAnchor := s.ts64 0 } }).servoTo 4
    else s
  | _, none => s
  | _, some i => s.toAcquiring i

/-! ### Schedule tables (R71-R75) -/

def State.entry (s : State) (d i : Nat) : SchedEntry := (alGet s.tim.sched (d, i)).getD {}

/-- Occurrences that do not fire are counted; a wrap sets skip_wrap (R74). -/
def State.skip (s : State) (d n : Nat) : State :=
  let v := s.r d (.tim .SKIPPED_count) + n
  let s := s.w d (.tim .SKIPPED_count) v
  if v < 2 ^ 32 then s else s.ev d (.tim .EVENTS_skip_wrap)

/-- TS64 of a die was carried past occurrences of one entry (R74): the entry is left to act once, for the latest
occurrence passed, unless a window's whole interval was passed. -/
def State.carryPast (s : State) (d i : Nat) : State :=
  let e := s.entry d i
  let n := (alGet s.tim.nextOcc (d, i)).getD 0
  let ts := s.ts64 d
  if !e.enabled || !s.tsSet d then s else
    match e.latest ts with
    | none => s
    | some m =>
      if m < n then s else
        let whole := e.window && decide ((e.occ m).getD 0 + e.duration ≤ ts)
        let n' := if whole then m + 1 else m
        let s := { s with tim := { s.tim with nextOcc := alPut s.tim.nextOcc (d, i) n' } }
        s.skip d (n' - n)

/-- Every entry of a die is carried past what a step of its TS64 passed. -/
def State.carryAll (s : State) (d : Nat) : State :=
  foldS (fun s (p : (Nat × Nat) × SchedEntry) => if p.1.1 = d then s.carryPast d p.1.2 else s) s s.tim.sched

/-- TS64 of a die is set or stepped forward to a value (R62, R63, R66, R67). -/
def State.stepTo (s : State) (d v : Nat) : State :=
  let t := s.dieTime d
  (s.setDieTime d { t with set := true, val := v, anchor := s.now, slew := 0, hold := 0 }).carryAll d

/-- Uptime that a die's TS64 needs for an instant still to come: it may be held still (R67), or slewed back (R63). -/
def DieTime.span (t : DieTime) (now ts : Nat) : Nat :=
  let need := ts - t.read now
  if need = 0 then 0 else
    let held := t.hold - (now - t.anchor)
    held + if t.slew < 0 then (need + 1) * 1000000 / (1000000 - t.ppm) + 1 else need

/-- Uptime moves on until a die's TS64 is at an instant. -/
def State.reachTs (s : State) (d ts : Nat) : State :=
  if !s.tsSet d then s else s.advance (s.now + (s.dieTime d).span s.now ts)

/-- Dies whose table an image entry of a kind is written to (R72). -/
def kindOnDie (kind d : Nat) : Bool :=
  match kind with
  | 1 | 4 => d = 0
  | 2 | 6 => d = 7
  | 3 | 5 => true
  | _ => false

/-- The image entries of a die are replaced by a table (R75): windows of the old table close, and the new entries
stand as if carried past their occurrences. -/
def State.commitEntries (s : State) (d : Nat) (new : List ((Nat × Nat) × SchedEntry)) : State :=
  let keep (k : Nat × Nat) : Bool := k.1 ≠ d || 192 ≤ k.2
  let t := s.tim
  let s := { s with tim := { t with
    sched := t.sched.filter (fun p => keep p.1) ++ new
    nextOcc := t.nextOcc.filter (fun p => keep p.1)
    windows := t.windows.filter (fun w => keep (w.die, w.idx)) } }
  foldS (fun s (p : (Nat × Nat) × SchedEntry) => s.carryPast d p.1.2) s new

/-! ### Measurements (R62, R63) -/

/-- The servo accepts a measurement of the grandmaster's TAI from source i. -/
def State.measure (s : State) (i tai : Nat) : State :=
  if s.servo = 0 then
    let s := (s.stepTo 0 tai).select (some i)
    let s := { s with tim := { s.tim with offset := 0, gBase := 0, tGrowth := tai } }
    s.servoTo 1
  else
    let now := s.ts64 0
    let o : Int := (tai : Int) - now
    let thr := s.r 0 (.tim .SERVO_CFG_lock_thr_ns)
    let good := if o.natAbs ≤ thr then s.tim.goodRun + 1 else 0
    let bad := if 10 * thr < o.natAbs then s.tim.badRun + 1 else 0
    let t := s.dieTime 0
    let s := if ((1000000 * s.r 0 (.tim .SERVO_CFG2_step_thr_ms) : Nat) : Int) < o then
        let s := (s.stepTo 0 tai).ev 0 (.tim .EVENTS_step_seen)
        let s := s.logEv 0 0x01 .timeForwardStep [now, tai]
        { s with tim := { s.tim with offset := 0, stepFlag := true } }
      else
        let s := s.setDieTime 0 { t with val := now, anchor := s.now, slew := o, hold := 0,
                                         ppm := s.r 0 (.tim .SERVO_CFG2_slew_ppm) }
        { s with tim := { s.tim with offset := o } }
    let s := s.w 0 (.tim .OFFSET_o_ns) (toSigned 32 s.tim.offset)
    let s := { s with tim := { s.tim with gBase := 0, tGrowth := s.ts64 0, goodRun := good, badRun := bad } }
    if s.servo = 1 && decide (16 ≤ good) then s.servoTo 2
    else if s.servo = 2 && decide (4 ≤ bad) then s.servoTo 1
    else s

/-- A measurement counts when its source is the one the servo follows, or, while time is Unset, the best valid. -/
def State.measureFrom (s : State) (isSrc : TimeSource → Bool) (tai : Nat) : State :=
  let s := s.servoEvaluate
  match if s.servo = 0 then s.bestSource else s.selected with
  | none => s
  | some i => if isSrc (s.tim.cfg.sources.getD i { kind := 0 }) then s.measure i tai else s

/-! ### Meanings -/

/-- E_pair (R69): the package's own bound while the pair ring is open. -/
def State.ePair (s : State) : Nat :=
  let e := s.ePkg
  if !s.rb mdId (.lat .STATUS_pair_ring) then e else
    let dl := (ofSigned 32 (s.r 0 (.tim .PARTNER_DELTA_delta_ns))).natAbs
    if dl ≤ e + s.tim.ePartner + 40 then max e s.tim.ePartner else sat32 (max (max e s.tim.ePartner) (dl + 40))

/-- Δ is within the first condition of R69. -/
def State.deltaAgrees (s : State) : Bool :=
  (ofSigned 32 (s.r 0 (.tim .PARTNER_DELTA_delta_ns))).natAbs ≤ s.ePkg + s.tim.ePartner + 40

/-- The error bounds are written to their registers, and a disagreement episode begins (R56, R69). -/
def State.reportBounds (s : State) : State :=
  let s := foldS (fun s d => s.w d (.tim .ERR_BOUND_e_ns) (s.eDie d)) s s.dies
  let s := s.w 0 (.tim .PAIR_ERR_e_pair_ns) s.ePair
  let off := s.rb mdId (.lat .STATUS_pair_ring) && !s.deltaAgrees
  let since := if !s.tim.disagree || off then none else some (s.tim.agreeFrom.getD s.now)
  let s := { s with tim := { s.tim with agreeFrom := since } }
  if off && !s.tim.disagree then
    let s := { s with tim := { s.tim with disagree := true } }
    (s.ev 0 (.tim .EVENTS_time_disagree)).logEv 0 0x01 .timeDisagree
      [s.r 0 (.tim .PARTNER_DELTA_delta_ns), s.ePkg, s.tim.ePartner]
  else s

/-- ERROR_BOUND_UPDATE (R54): a changed rate or threshold re-anchors the bound, the servo's rows are evaluated, and
each die reports its bound. -/
def execErrorBoundUpdate (s : State) : Out :=
  let s := if s.tim.rate = s.growthRate then s else s.reanchor
  .next s.servoEvaluate.reportBounds

/-- PTP_MESSAGE_RECEIVED (R58). -/
def execPtpMessageReceived (port : Fin 32) (m : PtpMsg) (s : State) : Out :=
  let p := port.val
  let isPort (src : TimeSource) : Bool := src.kind = 1 && src.port = p
  if !(s.rbit 0 (.eth .PORT_FLAGS_flags) 0 p && s.rbit 0 (.eth .PORT_FLAGS_flags) 1 p) then .next s else
  match m with
  | .unsupported => .next (s.bump 0 0x10 10 1 p)
  | .announce m =>
    let s := { s with tim := { s.tim with
      annPorts := if s.tim.annPorts.contains p then s.tim.annPorts else s.tim.annPorts ++ [p]
      masters := alPut s.tim.masters p m } }
    let s := s.servoEvaluate
    let own : Bool := match s.selected with
      | some i => sourceKey (s.tim.cfg.sources.getD i {}) = p
      | none => false
    .next (if own then s.utcShow else s)
  | .sync tai =>
    let s := { s with tim := { s.tim with
      syncPorts := if s.tim.syncPorts.contains p then s.tim.syncPorts else s.tim.syncPorts ++ [p] } }
    .next (s.measureFrom isPort tai)

/-- SOURCE_VALIDITY_TIMEOUT (*Time sources*): the Announce or the Sync of a port is overdue, or 1PPS edges are. -/
def execSourceValidityTimeout (port : Fin 32) (announce sync pps : Bool) (s : State) : Out :=
  let p := port.val
  .next ({ s with tim := { s.tim with
    annPorts := if announce then s.tim.annPorts.filter (· ≠ p) else s.tim.annPorts
    syncPorts := if sync then s.tim.syncPorts.filter (· ≠ p) else s.tim.syncPorts
    ppsGood := s.tim.ppsGood && !pps
    ppsRun := if pps then 0 else s.tim.ppsRun } }).servoEvaluate

/-- PPS_INPUT_EDGE (R61): an edge at an uptime; `sec` is the second that the named PTP port gives it. -/
def execPpsInputEdge (at_ sec : Nat) (s : State) : Out :=
  if !s.rb 0 (.tim .PPS_CFG_in_enable) then .next s else
  let s := s.advance at_
  let delay := ofSigned 18 (s.r 0 (.tim .PPS_CFG_in_delay_ns))
  let ok : Bool := match s.tim.ppsLast with
    | none => false
    | some l => 999999000 ≤ s.now - l && s.now - l ≤ 1000001000
  let run := if ok then s.tim.ppsRun + 1 else 0
  let s := { s with tim := { s.tim with ppsLast := some s.now, ppsRun := run, ppsGood := decide (3 ≤ run) } }
  if 3 ≤ run then .next (s.measureFrom (fun src => src.kind = 2) ((sec * 10 ^ 9 : Nat) + delay).toNat)
  else .next s.servoEvaluate

/-- REF10M_CHECK (R57): validity over the last 1 ms, and the bound re-anchored when it changes (R55). -/
def execRef10mCheck (missing : Bool) (ppm : Int) (s : State) : Out :=
  let ok := !missing && decide (ppm.natAbs ≤ 50)
  let old := s.rb 0 (.tim .STATE_ref10m_valid)
  let s := if ok = old then s else
    let s := s.reanchor.wb 0 (.tim .STATE_ref10m_valid) ok
    { s with tim := { s.tim with rate := s.growthRate } }
  .next (s.wb 0 (.clk .STATUS_ref10m_ok) ok)

/-- FIRST_LOCK_WAIT_EXPIRY (R66). -/
def execFirstLockWaitExpiry (s : State) : Out :=
  let s := s.advance (s.mode.entered + s.tim.cfg.firstLockWait * 10 ^ 9)
  .next { s with tim := { s.tim with firstLockOver := true } }

/-- Every present drive has been read, or has left discovery without reaching Ready (R66). -/
def State.discoveryOver (s : State) : Bool :=
  (s.cds.all fun c => (List.range 8).all fun b =>
    let st := s.r (cdId c) (.drv .B_STATE_state) b
    st = 0 || st = 6 || st = 8 || st = 9 || st = 10)

/-- TS64_SEED (R66): `expiries` are the lease expiries recorded in the slots that were read. -/
def execTs64Seed (expiries : List Nat) (s : State) : Out :=
  if s.servo = 0 ∧ s.tim.firstLockOver ∧ s.rb 0 (.tim .SERVO_CFG_unref_start) ∧ s.bestSource = none ∧ s.discoveryOver
  then
    let v := expiries.foldl max 0 + s.tim.cfg.firstLockWait * 10 ^ 9
    let s := s.stepTo 0 v
    let s := { s with tim := { s.tim with eAnchor := 1000 * s.r 0 (.tim .SERVO_CFG_freerun_thr_us), tAnchor := v } }
    .next (s.servoTo 4)
  else .next s

/-- Fused delay of the hops from the port die to a die, in ns (R67). -/
def State.hopDelay (s : State) (d : Nat) : Nat :=
  (((s.dies.filter (fun k => k ≠ 0 && (k < d || k = d))).map (fun k => s.r k (.lat .HOP_DELAY_delay_ps))).foldl
    (· + ·) 0) / 1000

/-- Messages wait at a hop of the Lattice (spec/01 R22). -/
def State.latSend (s : State) (hop : Nat) (m : LatMsg) : State :=
  let h := (alGet s.lat.hops hop).getD {}
  { s with lat := { s.lat with hops := alPut s.lat.hops hop { h with waiting := h.waiting ++ [m] } } }

/-- TIME_DISTRIBUTION_SEND (R67): TS64 at departure, servo state and step flag, to every other die. -/
def execTimeDistributionSend (s : State) : Out :=
  let m : TimeMsg := ⟨s.ts64 0, 0, s.servo, s.tim.stepFlag⟩
  let s := { s with tim := { s.tim with
    messages := (s.dies.filter (· ≠ 0)).map (fun d => (d, m)), stepFlag := false } }
  .next (s.latSend 0 { cls := 0, src := 0, dst := 7, tag := s.ts64 0 })

/-- TIME_DISAGREE_EPISODE_END (R69): 1 s with Δ back within the first condition. -/
def execTimeDisagreeEpisodeEnd (s : State) : Out :=
  match s.tim.agreeFrom with
  | none => .next s
  | some t =>
    let s := s.advance (t + 1000000000)
    .next (if s.deltaAgrees then { s with tim := { s.tim with disagree := false, agreeFrom := none } } else s)

/-- SCHEDULE_WINDOW_CLOSE (R73): TS64 reaches the end of an entry's open window. -/
def execScheduleWindowClose (die : DieId) (idx : Fin 256) (s : State) : Out :=
  match s.tim.windows.find? (fun w => w.die = die.val && w.idx = idx.val) with
  | none => .next s
  | some w =>
    let s := s.reachTs die.val w.closes
    .next { s with tim := { s.tim with windows := s.tim.windows.filter (fun x => x ≠ w) } }

/-- TIM_SCHED_COMMIT (R75). -/
def execTimSchedCommit (q : Req) (die : DieId) (s : State) : Out :=
  let d := die.val
  .next (s.secureOnly q d (.tim .SCHED_COMMIT_commit)
    (s.commitEntries d (s.tim.shadow.filter (fun p => p.1.1 = d && decide (p.1.2 < 192)))))

/-- A firmware timer is written, checked whole when its enable bit is set (R655, R653). -/
def State.timerWrite (s : State) (q : Req) (d i k v : Nat) : State :=
  let e := s.entry d i
  let e' := e.setWord k v
  let off := 0x400 + 32 * i + 4 * k
  if !q.secure && (e.flags.testBit 1 || e'.flags.testBit 1) then s.worldViolation q d 0x01 off true
  else if (e.enabled || e'.enabled) && !(e'.kind = 7 && e'.inRange) then
    s.log d 0x01 (.common 1) [pkgAddr d 0x01 off, v]
  else
    let s := { s with tim := { s.tim with sched := alPut s.tim.sched (d, i) e'
                                          nextOcc := alPut s.tim.nextOcc (d, i) 0 } }
    s.carryPast d i

/-- TIM_SCHED_WRITE (R653, R655): word k of an entry; an image entry's shadow, or a firmware timer. -/
def execTimSchedWrite (q : Req) (die : DieId) (idx : Fin 256) (k : Fin 8) (v : Word) (s : State) : Out :=
  let d := die.val
  let i := idx.val
  if i < 192 then
    if q.secure then
      let e := (alGet s.tim.shadow (d, i)).getD {}
      .next { s with tim := { s.tim with shadow := alPut s.tim.shadow (d, i) (e.setWord k.val v.toNat) } }
    else if (s.entry d i).setWord k.val v.toNat = s.entry d i then .next s
    else .next (s.worldViolation q d 0x01 (0x400 + 32 * i + 4 * k.val) true)
  else .next (s.timerWrite q d i k.val v.toNat)

/-- PPS_OUTPUT_PULSE (R61): TS64 reaches a whole second. -/
def execPpsOutputPulse (s : State) : Out :=
  let s := s.reachTs 0 ((s.ts64 0 + (10 ^ 9 - 1)) / 10 ^ 9 * 10 ^ 9)
  if s.tsSet 0 && s.ppsDriven then
    .next (({ s with tim := { s.tim with ppsHigh := true } }).emit (.pin "PPS_OUT" true))
  else .next s

/-- PPS_OUTPUT_WIDTH_END (R61). -/
def execPpsOutputWidthEnd (s : State) : Out :=
  if s.tim.ppsHigh then
    let s := s.reachTs 0 (s.ts64 0 / 10 ^ 9 * 10 ^ 9 + s.r 0 (.tim .PPS_CFG_out_width_ms) * 10 ^ 6)
    .next (({ s with tim := { s.tim with ppsHigh := false } }).emit (.pin "PPS_OUT" false))
  else .next s

/-- UTC_LEAP_OFFSET_CHANGE (R77): TS64 reaches the end of the flagged UTC day. -/
def execUtcLeapOffsetChange (s : State) : Out :=
  match s.tim.leapAt with
  | none => .next s
  | some (t, dv) =>
    let s := s.reachTs 0 t
    if s.tsSet 0 ∧ t ≤ s.ts64 0 then
      let s := s.w 0 (.tim .UTC_offset_s) ((s.r 0 (.tim .UTC_offset_s) : Int) + dv).toNat
      let s := (s.w 0 (.tim .UTC_leap59) 0).w 0 (.tim .UTC_leap61) 0
      -- What was announced before the leap is kept as it reads after it.
      let done (m : Dataset) : Dataset :=
        if (m.leap59 || m.leap61) && m.dayEnd = t then
          { m with utcOffset := ((m.utcOffset : Int) + dv).toNat, leap59 := false, leap61 := false }
        else m
      .next { s with tim := { s.tim with leapAt := none, masters := s.tim.masters.map (fun e => (e.1, done e.2)) } }
    else .next s

/-- The dataset a MASTER port announces (R60), as clockClass. -/
def State.announcedClass (s : State) : Nat :=
  match s.servo with
  | 2 => (s.upstream.getD {}).clockClass
  | 3 => if s.ePkg ≤ 1000 then 135 else 165
  | _ => 248

/-- The package has data presence (spec/02 R30). -/
def State.dataPresence (s : State) : Bool := s.modeNow = 5 && !s.mode.withdrawn

/-- The source address of a port's PTP messages (spec/05 R129), byte 0 lowest: without data presence it is locally administered, and
in Pair-B the lowest bit of its last byte is inverted. -/
def State.ptpMac (s : State) (p : Nat) : Nat :=
  let mac := s.r 0 (.eth .MAC_LO_mac) p + 2 ^ 32 * s.r 0 (.eth .MAC_HI_mac) p
  if s.dataPresence then mac else
    let mac := setBit mac 1 true
    if s.role = 2 then setBit mac 40 (!mac.testBit 40) else mac

/-- PTP_MESSAGE_SEND (R60): a MASTER port sends an Announce (kind 0) or a Sync (kind 1; none in Unset). -/
def execPtpMessageSend (port : Fin 32) (sync : Bool) (s : State) : Out :=
  if s.tim.cfg.clockType = 1 ∧ s.tim.cfg.masterPorts.testBit port.val then
    if sync ∧ s.servo = 0 then .next s
    else .next (s.emit (.ptp port.val (if sync then 1 else 0) s.announcedClass
      (if s.servo = 2 then s.upstream else none) (s.ptpMac port.val)))
  else .next s

end Sys2Proof.Machine
end

