-- ==== Sys2Proof/Machine/ImageCheck.lean ====
section
/-! DEFINITION. Validation of a configuration image (spec/04 R91-R98, R107): each section's ranges and cross-checks.
A failure is (code, section type, entry index). -/

set_option Elab.async false

namespace Sys2Proof.Machine

/-- Index of the first entry that a check refuses. -/
def firstBad {α : Type} (ok : α → Bool) : List α → Nat → Option Nat
  | [], _ => none
  | a :: l, i => if ok a then firstBad ok l (i + 1) else some i

/-- The first failure of a list of sections, each with its check's answer. -/
def firstFail : List (Nat × Option Nat) → Option (Nat × Nat)
  | [] => none
  | (sec, some i) :: _ => some (sec, i)
  | (_, none) :: l => firstFail l

def between (lo v hi : Nat) : Bool := decide (lo ≤ v) && decide (v ≤ hi)
def distinct {α : Type} [DecidableEq α] (l : List α) : Bool := decide l.Nodup

/-- Package section ranges (R93). -/
def pkgInRange (p : PkgSection) : Bool :=
  between 1 p.channelEnable 63 && decide (p.flags < 2) && between 2000 p.bringupMs 60000 &&
  between 1000 p.drainMs 60000 && between 1000 p.pairingWaitMs 600000 && between 50 p.chanRecoveryMs 5000 &&
  between 1 p.mgmtPrefix 30

/-- Time section ranges (R93). -/
def timeInRange (t : TimeSection) : Bool :=
  between 1 t.sources.length 4 && decide (t.profile ≤ 2) &&
  (if t.profile = 2 then between 24 t.domain 43 else decide (t.domain ≤ 127)) && decide (t.clockType ≤ 1) &&
  t.sources.all (fun a => between 1 a.kind 3 && decide (a.port < 32) && decide (a.todPort < 32)) &&
  between 20 t.lockThr 10000 && between 10 t.freerunThr 10000 && between 1000 t.holdRate 1000000 &&
  between 100 t.holdRate10m 100000 && between 1 t.stepThr 100 && decide (t.ppsFlags < 8) &&
  between 10 t.slewPpm 500 && decide (t.asym ≤ 10000) && decide (t.utcFallback ≤ 255) &&
  between 2 t.announceTimeout 10 && decide (t.ppsInDelay.natAbs ≤ 100000) && between 1 t.ppsOutWidth 500 &&
  decide (-7 ≤ t.logSync) && decide (t.logSync ≤ 0) && decide (-7 ≤ t.logDelay) && decide (t.logDelay ≤ 0) &&
  decide (-3 ≤ t.logAnnounce) && decide (t.logAnnounce ≤ 2) && between 1 t.firstLockWait 3600 &&
  decide (t.masterPorts < 2 ^ 32)

/-- Lanes a logical port takes at a speed code (R94). -/
def speedLanes (speed : Nat) : Nat := 2 ^ speed

def portInRange (p : PortEntry) : Bool :=
  decide (p.port < 32) && decide (p.speed ≤ 3) && decide (p.flags < 16) &&
  (p.rdmaMtu = 1024 || p.rdmaMtu = 2048 || p.rdmaMtu = 4096) && between 1518 p.maxFrame 9216 &&
  decide (p.vlan ≤ 4094) && decide (p.prefix4 ≤ 32) && decide (p.prefix6 ≤ 128) && decide (p.defaultPcp ≤ 7)

def policerInRange (p : PolicerEntry) : Bool :=
  decide (p.id < 2048) && decide (p.algorithm ≤ 1) && decide (p.flags < 4) && between 1 p.cir 1600000 &&
  (if p.algorithm = 0 then p.eir = 0 else decide (p.eir ≤ 1600000)) && between 1518 p.cbs 16777216 &&
  decide (p.ebs ≤ 16777216)

def nodeInRange (n : SchedNode) : Bool :=
  decide (n.level ≤ 2) && decide (n.priority ≤ 7) &&
  (match n.level with
   | 0 => true
   | 1 => decide (n.parent < 32)
   | _ => n.parent = 0xFFFF) &&
  between 1 n.weight 1024 && decide (n.shaper ≤ 1600000) && between 1 n.burstKib 16384

def gateInRange (g : GateList) : Bool :=
  decide (g.port < 32) && decide (g.list ≤ 1) && between 1 g.entries.length 256 && between 1000 g.cycle 1000000000 &&
  g.entries.all (fun e => decide (e.mask < 256) && between 100 e.interval g.cycle)

def hostInRange (h : HostEntry) : Bool :=
  decide (h.id < 1024) && decide (h.flags < 16) && between 1 h.maxConn 256 && decide (h.hostnqn ≠ 0)

def nsInRange (n : NsEntry) : Bool :=
  between 1 n.nsid 4096 && decide (n.channel ≤ 5) && decide (n.group ≤ 3) && decide (n.flags < 4) &&
  decide (n.keySlot ≤ 4095) && between 1 n.size (2 ^ 40) && decide (n.offset % 16384 = 0) &&
  decide (n.nguid ≠ 0) && decide (n.eui64 ≠ 0) && between 1 n.anagrp 4096

def accessInRange (a : AccessEntry) : Bool := decide (a.rights < 16)

/-- Members that a layout with k data members has (R97). -/
def layoutMembers (layout k : Nat) : Nat :=
  match layout with
  | 1 => 2
  | 2 => 3
  | 3 => k + 1
  | _ => k + 2

def groupInRange (g : GroupEntry) : Bool :=
  decide (g.channel ≤ 5) && decide (g.group ≤ 3) && between 1 g.layout 4 &&
  (match g.layout with
   | 3 => between 2 g.k 7
   | 4 => between 2 g.k 6
   | _ => g.k = 1) &&
  between 14 g.stripLog2 18 && decide (g.flags < 4) && decide (g.members.length = layoutMembers g.layout g.k) &&
  decide (g.spareMask < 256) && g.members.all (fun b => decide (b < 8)) && distinct g.members &&
  between 100 g.maxResidence 100000 && decide (g.targetPct ≤ 100)

def leaseInRange (l : LeaseSection) : Bool :=
  between 100 l.durationMs 10000 && between 25 l.renewMs (l.durationMs / 4) && between 10 l.hbIntervalUs 1000 &&
  between 3 l.hbMiss 32

def profileInRange (p : Profile) : Bool :=
  decide (p.id ≤ 7) && decide (p.patrol ≤ 100) && decide (p.spongeScrub ≤ 100) && decide (p.rebuild ≤ 100) &&
  decide (p.reshape ≤ 100) && decide (p.telemetry ≤ 100) && decide (p.recal ≤ 100) && decide (p.fgFloor ≤ 100)

def regionInRange (w : WorldRegion) : Bool := decide (w.die ≤ 7) && decide (w.index ≤ 63) && decide (1 ≤ w.size4k) &&
  -- Within the die's memory (spec/20 R564); the management die's is refused in step 11.
  (w.die = 7 || decide (w.base4k + w.size4k ≤ if w.die = 0 then 0x800 else 0x200400))
def securityInRange (x : SecSection) : Bool :=
  decide (x.debugPolicy ≤ 1) && decide (x.exportPaths < 8) && decide (x.blockWorld < 128)
def epInRange (e : EpEntry) : Bool := decide (e.fn ≤ 63) && decide (e.host ≤ 1023)

/-- A count within a section's limits; a failure names no entry. -/
def countOk (lo n hi : Nat) : Option Nat := if between lo n hi then none else some 0xFFFF

/-- Step 10: ranges, reserved fields and entry counts, section by section. -/
def imageRanges (m : Image) : Option (Nat × Nat) :=
  firstFail [
    (1, if pkgInRange m.pkg then none else some 0), (2, if timeInRange m.time then none else some 0),
    (3, countOk 1 m.schedule.length 192), (3, firstBad (fun e => e.inRange) m.schedule 0),
    (4, countOk 1 m.ports.length 32), (4, firstBad portInRange m.ports 0),
    (5, countOk 0 m.policers.length 2048), (5, firstBad policerInRange m.policers 0),
    (6, countOk 0 m.nodes.length 4384), (6, firstBad nodeInRange m.nodes 0),
    (7, countOk 0 m.gates.length 64), (7, firstBad gateInRange m.gates 0),
    (8, countOk 1 m.hosts.length 1024), (8, firstBad hostInRange m.hosts 0),
    (9, countOk 1 m.namespaces.length 4096), (9, firstBad nsInRange m.namespaces 0),
    (10, countOk 1 m.access.length 131072), (10, firstBad accessInRange m.access 0),
    (11, countOk 1 m.groups.length 24), (11, firstBad groupInRange m.groups 0),
    (12, if leaseInRange m.lease then none else some 0),
    (13, countOk 0 m.background.length 8), (13, firstBad profileInRange m.background 0),
    (14, countOk 0 m.regions.length 512), (14, firstBad regionInRange m.regions 0),
    (15, if securityInRange m.security then none else some 0),
    (16, countOk 0 m.endpoints.length 64), (16, firstBad epInRange m.endpoints 0),
    (0, if m.facts.reservedZero then none else some 0xFFFF)]

/-- A logical port is configured for PTP (R57). -/
def ptpPort (m : Image) (p : Nat) : Bool :=
  m.ports.any (fun e => e.port = p && e.flags.testBit 0 && e.flags.testBit 1)

/-- R57 and the master_ports checks of R93. -/
def timeCross (m : Image) (role : Nat) : Bool :=
  m.time.sources.all (fun a => match a.kind with
    | 1 => ptpPort m a.port
    | 2 => ptpPort m a.todPort
    | _ => role ≠ 0) &&
  (List.range 32).all (fun p => !m.time.masterPorts.testBit p ||
    (m.time.clockType = 1 && ptpPort m p &&
      !m.time.sources.any (fun a => (a.kind = 1 && a.port = p) || (a.kind = 2 && a.todPort = p))))

/-- R93: exactly one entry of kind 0x02, whose period is the renewal interval; R95: gate lists named are present. -/
def scheduleCross (m : Image) : Bool :=
  (match m.schedule.filter (fun e => e.kind = 2) with
   | [e] => e.period = m.lease.renewMs * 1000000
   | _ => false) &&
  m.schedule.all (fun e => e.kind ≠ 7 && (e.kind ≠ 1 || m.gates.any (fun g => g.port = e.target && g.list = e.param)))

/-- R94: one speed on a physical port, aligned lanes, no lane taken twice; R112: room for an RDMA packet. -/
def portsCross (m : Image) : Bool :=
  distinct (m.ports.map (·.port)) &&
  m.ports.all (fun a => !a.flags.testBit 2 || decide (a.rdmaMtu + 106 ≤ a.maxFrame)) &&
  m.ports.all (fun a => (a.port % 8) % speedLanes a.speed = 0 &&
    m.ports.all (fun b => a.port / 8 ≠ b.port / 8 || a.speed = b.speed))

/-- R95, R157: scheduler nodes and gate lists; a port node's id is its logical port. -/
def trafficCross (m : Image) : Bool :=
  let lvl (k : Nat) := m.nodes.filter (fun n => n.level = k)
  distinct (m.policers.map (·.id)) &&
  (List.range 3).all (fun k => distinct ((lvl k).map (·.id))) &&
  decide ((lvl 0).length ≤ 4096) && decide ((lvl 1).length ≤ 256) && decide ((lvl 2).length ≤ 32) &&
  m.nodes.all (fun n => match n.level with
    | 0 => (lvl 1).any (fun p => p.id = n.parent)
    | 1 => m.ports.any (fun p => p.port = n.parent)
    | _ => m.ports.any (fun p => p.port = n.id)) &&
  m.gates.all (fun g => (g.entries.map (·.interval)).foldl (· + ·) 0 = g.cycle) &&
  distinct (m.gates.map (fun g => (g.port, g.list)))

/-- Access entries rise by host, then namespace. -/
def accessSorted : List AccessEntry → Bool
  | a :: b :: l => (decide (a.host < b.host) || (a.host = b.host && decide (a.nsid < b.nsid))) && accessSorted (b :: l)
  | _ => true

/-- R96. -/
def hostsCross (m : Image) : Bool :=
  distinct (m.hosts.map (·.id)) && distinct (m.namespaces.map (·.nsid)) && accessSorted m.access &&
  m.access.all (fun a => m.hosts.any (fun h => h.id = a.host) && m.namespaces.any (fun n => n.nsid = a.nsid)) &&
  distinct (m.namespaces.map (fun n => (n.channel, n.keySlot))) &&
  distinct (m.namespaces.map (·.nguid)) && distinct (m.namespaces.map (·.eui64)) &&
  m.namespaces.all (fun a => m.groups.any (fun g => g.channel = a.channel && g.group = a.group) &&
    m.namespaces.all (fun b => a.nsid = b.nsid || a.channel ≠ b.channel || a.group ≠ b.group ||
      decide (a.offset + a.size ≤ b.offset) || decide (b.offset + b.size ≤ a.offset))) &&
  m.hosts.all (fun h => (h.policer = 0xFFFF || m.policers.any (fun p => p.id = h.policer)) &&
    (h.node = 0xFFFF || m.nodes.any (fun n => n.level = 0 && n.id = h.node)))

/-- R4, R18, R97: channels present, and each bay a member of at most one group. -/
def groupsCross (m : Image) (channels : Nat) : Bool :=
  decide (m.pkg.channelEnable < 2 ^ channels) &&
  m.groups.all (fun g => decide (g.channel < channels) &&
    g.members.all (fun b => !g.spareMask.testBit b) &&
    m.groups.all (fun h => g.channel ≠ h.channel || g.group = h.group ||
      g.members.all (fun b => !h.members.contains b))) &&
  distinct (m.groups.map (fun g => (g.channel, g.group))) &&
  m.namespaces.all (fun n => decide (n.channel < channels))

/-- R98; spec/20 R564, R4: no World regions entry names the management die or an absent channel die. -/
def restCross (m : Image) (channels : Nat) : Bool :=
  m.background.all (fun p => decide (p.patrol + p.spongeScrub + p.rebuild + p.reshape + p.telemetry + p.recal ≤ 100)) &&
  distinct (m.background.map (·.id)) && distinct (m.regions.map (fun w => (w.die, w.index))) &&
  m.regions.all (fun a => m.regions.all (fun b => a.die ≠ b.die || a.index = b.index ||
    decide (a.base4k + a.size4k ≤ b.base4k) || decide (b.base4k + b.size4k ≤ a.base4k))) &&
  m.regions.all (fun w => decide (w.die ≤ channels)) && distinct (m.endpoints.map (·.fn)) &&
  m.endpoints.all (fun e => m.hosts.any (fun h => h.id = e.host && h.flags.testBit 3)) &&
  (m.endpoints.isEmpty || m.endpoints.any (fun e => e.fn = 0))

/-- Step 11: cross-references. -/
def imageCross (m : Image) (channels role : Nat) : Option (Nat × Nat) :=
  let no (b : Bool) : Option Nat := if b then none else some 0xFFFF
  firstFail [(2, no (timeCross m role)), (3, no (scheduleCross m)), (4, no (portsCross m)), (6, no (trafficCross m)),
    (9, no (hostsCross m)), (11, no (groupsCross m channels)), (14, no (restCross m channels))]

/-- The groups whose layout, k, strip or members change (class Layout of R107). -/
def layoutChange (a b : GroupEntry) : Bool :=
  a.layout ≠ b.layout || a.k ≠ b.k || a.stripLog2 ≠ b.stripLog2 || a.members ≠ b.members

/-- Step 12: every difference is permitted (R107); `reshaping c g` says that a group is already in Reshape. -/
def changesPermitted (old new : Image) (reshaping : Nat → Nat → Bool) : Bool :=
  old.partCode = new.partCode && old.flags = new.flags &&
  old.namespaces.all (fun a => match new.namespaces.find? (fun b => b.nsid = a.nsid) with
    | none => true
    | some b => a.channel = b.channel && a.group = b.group && a.offset = b.offset && a.keySlot = b.keySlot &&
        decide (a.size ≤ b.size)) &&
  old.groups.all (fun a => match new.groups.find? (fun b => b.channel = a.channel && b.group = a.group) with
    | none => !new.namespaces.any (fun n => n.channel = a.channel && n.group = a.group) &&
        !old.namespaces.any (fun n => n.channel = a.channel && n.group = a.group) && !reshaping a.channel a.group
    | some b => a = b || !reshaping a.channel a.group)

/-- The role and firmware an image is checked against, and the present floor. -/
def State.imageCheck (s : State) (m : Image) : Option (Nat × Nat × Nat) :=
  let role := s.role
  let roleOk := s.rb mdId (.rst .STRAP_mfg_test) || (if role = 0 then m.flags.testBit 0 else m.flags.testBit 1)
  if !m.facts.headerOk then some (1, 0, 0xFFFF)
  else if !(m.partCode = s.r mdId (.mgt .ID_part_code) && decide (m.minStepping ≤ s.r mdId (.mgt .ID_stepping)) && roleOk)
    then some (2, 0, 0xFFFF)
  else if s.sec.owner ≠ some m.keyDigest then some (3, 0, 0xFFFF)
  else if !m.facts.ecdsaOk then some (4, 0, 0xFFFF)
  else if !m.facts.mldsaOk then some (5, 0, 0xFFFF)
  else if m.seq < s.img.floor then some (6, 0, 0xFFFF)
  else if !between m.fwMin (s.r mdId (.mgt .FW_RELEASE_release)) m.fwMax then some (7, 0, 0xFFFF)
  else if !m.facts.structureOk then some (8, 0, 0xFFFF)
  else if !m.facts.sectionsPresent then some (9, 0, 0xFFFF)
  else match imageRanges m with
    | some (sec, i) => some (10, sec, i)
    | none => match imageCross m s.channels role with
      | some (sec, i) => some (11, sec, i)
      | none => none

/-- A staged image's further checks (steps 6, 12 and 13), after steps 1 to 11. -/
def State.stagedCheck (s : State) (m : Image) : Option (Nat × Nat × Nat) :=
  let cur := s.img.active.getD {}
  let reshaping (c g : Nat) : Bool := let p := s.r (cdId c) (.rsh .G_STATE_phase) g; p = 1 || p = 2 || p = 3 || p = 5
  match s.imageCheck m with
  | some f => if f.1 ≤ 6 || decide (cur.seq < m.seq) then some f else some (6, 0, 0xFFFF)
  | none =>
    if m.seq ≤ cur.seq then some (6, 0, 0xFFFF)
    else if !changesPermitted cur m reshaping then some (12, 0, 0xFFFF)
    else if s.tsSet mdId && decide (s.ts64 mdId + 2 * 10 ^ 9 ≤ m.epoch) &&
        decide (m.epoch ≤ s.ts64 mdId + 2592000 * 10 ^ 9) then none
    else some (13, 0, 0xFFFF)

end Sys2Proof.Machine
end

