-- ==== Sys2Proof/Machine/ImageLoad.lean ====
section
/-! DEFINITION. The image loader: loading at start and staging (spec/04 R83-R86, R100-R102). -/

set_option Elab.async false

namespace Sys2Proof.Machine

/-- The selector copy in force (R83): the valid copy with the larger seq, copy 0 when equal. -/
def State.selector (s : State) : Selector :=
  let a := s.img.sel0
  let b := s.img.sel1
  if a.valid && (!b.valid || decide (b.seq ≤ a.seq)) then a else if b.valid then b else {}

/-- The other copy is rewritten with seq raised by 1 (R83). -/
def State.writeSelector (s : State) (f : Selector → Selector) : State :=
  let a := s.img.sel0
  let b := s.img.sel1
  let cur := s.selector
  let new := { f cur with valid := true, seq := cur.seq + 1 }
  if a.valid && (!b.valid || decide (b.seq ≤ a.seq)) then { s with img := { s.img with sel1 := new } }
  else { s with img := { s.img with sel0 := new } }

/-- A failure code, with the section and entry where there are any (R91). -/
def State.imgFail (s : State) (f : Nat × Nat × Nat) : State :=
  ((s.w mdId (.img .STATUS_fail_code) f.1).w mdId (.img .FAIL_INFO_section_type) f.2.1).w mdId
    (.img .FAIL_INFO_entry_index) f.2.2

/-- An image becomes the one in force: its seq, its digest. -/
def State.imgInForce (s : State) (m : Image) : State :=
  (({ s with img := { s.img with active := some m } }).w mdId (.img .ACTIVE_SEQ_seq) m.seq).w mdId
    (.img .ACTIVE_HASH_bytes) m.digest

/-- The stage registers of a staged image, or of none. -/
def State.stageRegs (s : State) (seq epoch digest : Nat) : State :=
  ((s.w mdId (.img .STAGED_SEQ_seq) seq).w mdId (.img .EPOCH) epoch).w mdId (.img .STAGED_HASH_bytes) digest

/-- An image that the selector holds as staged stays staged over a start (R106), unless it was loaded as the fallback. -/
def State.stageKept (s : State) (sel : Selector) (other : Option Image) : State :=
  match other with
  | some m =>
    if !sel.staged then s else
      (({ s with img := { s.img with staged := some m } }).stageRegs m.seq m.epoch m.digest).w mdId (.img .STATUS_stage_state) 4
  | none => s

/-- CONFIG_IMAGE_LOAD (R84, R85): in Proofing the loader reads the boot device (its slots and selector copies) and
validates the current slot, or the other where that fails. -/
def execConfigImageLoad (a b : Option Image) (sel0 sel1 : Selector) (s : State) : Out :=
  if s.modeNow ≠ 2 then .next s else
  let s := { s with img := { s.img with slotA := a, slotB := b, sel0 := sel0, sel1 := sel1 } }
  let sel := s.selector
  let cur := sel.current
  let s := s.w mdId (.img .ROLLBACK_FLOOR_floor) s.img.floor
  let s := s.w mdId (.img .STATUS_boot_device) (s.r mdId (.rst .STRAP_boot_device))
  let first := if cur = 0 then a else b
  let other := if cur = 0 then b else a
  let check (m : Option Image) : Option (Nat × Nat × Nat) := match m with
    | none => some (1, 0, 0xFFFF)
    | some m => s.imageCheck m
  match first, check first, other, check other with
  | some m, none, _, _ => .next (((s.w mdId (.img .STATUS_current_slot) cur).imgInForce m).stageKept sel other)
  | _, some f, some m, none =>
    let s := ((s.imgFail f).w mdId (.img .STATUS_current_slot) (1 - cur)).imgInForce m
    .next ((s.w mdId (.img .STATUS_fallback_used) 1).logEv mdId 0x02 .imageFallback [f.1, m.seq])
  | _, some _, _, some g => .next ((s.imgFail g).trig 8 3)
  | _, some f, none, none => .next ((s.imgFail f).trig 8 3)
  | _, none, _, _ => .next s

/-- A staging is pending, from stage_start to its end. -/
def State.stagePending (s : State) : Bool := between 1 (s.r mdId (.img .STATUS_stage_state)) 5

/-- Modes in which a staging is accepted and a switch is made (R100, R105). -/
def stageMode (m : Nat) : Bool := m = 4 || m = 5 || m = 6 || m = 0xA

/-- Unmirrored Active (spec/02 R38). -/
def State.unmirrored (s : State) : Bool := s.modeNow = 5 && s.paired && s.r mdId (.pair .STATUS_mirror) ≠ 1
def State.ringClosed (s : State) : Bool := s.rb mdId (.lat .STATUS_pair_ring)

/-- IMG_STAGE_START (R100, R101, spec/20 R578); `cancelToo` is a write of 1 to both bits, which is discarded. -/
def execImgStageStart (q : Req) (cancelToo : Bool) (s : State) : Out :=
  .next (s.secureOnly q mdId (.img .CONTROL_stage_start)
    (if cancelToo || !stageMode s.modeNow || s.stagePending || decide (8 < s.sec.ledgerQ.length) then
        s.discardState mdId (.img .CONTROL_stage_start) (if cancelToo then 3 else 1)
     else
      let m := s.img.buffer
      let s := { s with img := { s.img with staged := m } }
      let s := (s.w mdId (.img .STATUS_stage_state) 1).imgFail (0, 0, 0xFFFF)
      if s.r mdId (.img .STATUS_current_slot) = 0 then { s with img := { s.img with slotB := m } }
      else { s with img := { s.img with slotA := m } }))

/-- A staging ends cancelled, with a code; the selector is written with staged = 0 (R101, R102). -/
def State.stageCancelled (s : State) (code : Nat) : State :=
  let s := { s with img := { s.img with staged := none } }
  let s := (s.writeSelector (fun x => { x with staged := false, epoch := 0 })).stageRegs 0 0 0
  (s.w mdId (.img .STATUS_stage_state) 7).w mdId (.img .STATUS_fail_code) code

/-- IMG_STAGE_CANCEL (R101). -/
def execImgStageCancel (q : Req) (s : State) : Out :=
  let epoch := (s.img.staged.getD {}).epoch
  let allowed := s.stagePending && s.r mdId (.img .STATUS_stage_state) ≠ 5 &&
    decide (s.ts64 mdId + 10 ^ 9 ≤ epoch) && (s.solo || s.unmirrored || s.ringClosed)
  .next (s.secureOnly q mdId (.img .CONTROL_stage_cancel)
    (if allowed then
        let s' := s.stageCancelled 0x0F
        if s.paired && s.ringClosed then s'.sendControl 5 [0, 0, 0x0F] else s'
     else s.discardState mdId (.img .CONTROL_stage_cancel) 2))

/-- A staged image is agreed when the partner has reported the same digest and epoch (R102). -/
def State.stageAgree (s : State) : State :=
  match s.img.staged with
  | some m => if s.r mdId (.img .STATUS_stage_state) = 3 ∧ s.img.peer = some (m.digest, m.epoch) then
      s.w mdId (.img .STATUS_stage_state) 4 else s
  | none => s

/-- STAGING_COMPLETE (R100): the slot is written and read back, and validated. -/
def execStagingComplete (nvmOk : Bool) (s : State) : Out :=
  if !between 1 (s.r mdId (.img .STATUS_stage_state)) 2 then .next s else
  let reject (f : Nat × Nat × Nat) : State :=
    (({ s with img := { s.img with staged := none } }).imgFail f).w mdId (.img .STATUS_stage_state) 6
  match s.img.staged with
  | none => .next (reject (1, 0, 0xFFFF))
  | some m =>
    if !nvmOk then .next (reject (0x10, 0, 0xFFFF)) else
    match s.stagedCheck m with
    | some f => .next (reject f)
    | none =>
      let s := (s.writeSelector (fun x => { x with staged := true, epoch := m.epoch })).stageRegs m.seq m.epoch m.digest
      if s.paired && s.ringClosed && !s.unmirrored then
        .next (((s.w mdId (.img .STATUS_stage_state) 3).sendControl 5 [m.digest, m.epoch]).stageAgree)
      else .next (s.w mdId (.img .STATUS_stage_state) 4)

/-- STAGE_REPORT_RECEIVED (R102): the partner's staged digest and epoch, or its cancellation. -/
def execStageReportReceived (digest epoch : Nat) (cancel : Option (BitVec 8)) (s : State) : Out :=
  if !(s.paired && s.ringClosed) then .next s else
  match cancel with
  | some c => .next (if s.stagePending then s.stageCancelled c.toNat else s)
  | none => .next ({ s with img := { s.img with peer := some (digest, epoch) } }).stageAgree

/-- STAGE_AGREEMENT_DEADLINE (R102): with no agreement by 1 s before the epoch, both packages cancel. -/
def execStageAgreementDeadline (s : State) : Out :=
  match s.img.staged with
  | none => .next s
  | some m =>
    if s.r mdId (.img .STATUS_stage_state) ≠ 3 then .next s else
    let s := s.reachTs mdId (m.epoch - 10 ^ 9)
    if m.epoch ≤ s.ts64 mdId + 10 ^ 9 then .next ((s.stageCancelled 0x0E).sendControl 5 [0, 0, 0x0E]) else .next s

end Sys2Proof.Machine
end

