-- ==== Sys2Proof/Machine/Switch.lean ====
section
/-! DEFINITION. The switch core and the policers (spec/06 R141-R155). -/

set_option Elab.async false

namespace Sys2Proof.Machine

/-- The image whose tables a stamp uses (spec/04 R104). -/
def State.bank (s : State) (stamp : Nat) : Image :=
  if stamp < s.img.switchAt then (s.img.previous.getD (s.img.active.getD {})) else s.img.active.getD {}

/-- A list kept under a key. -/
def alList {κ α : Type} [DecidableEq κ] (l : List (κ × List α)) (k : κ) : List α := (alGet l k).getD []
def alPush {κ α : Type} [DecidableEq κ] (l : List (κ × List α)) (k : κ) (a : α) : List (κ × List α) :=
  alPut l k (alList l k ++ [a])

/-! ### Ports and groups -/

/-- A switch port is enabled: those of absent channel dies are not (spec/01 R21). -/
def State.swEnabled (s : State) (p : Nat) : Bool := !(between (4 + s.channels) p 9)

/-- Cells of a frame of B bytes (R141). -/
def cellsOf (b : Nat) : Nat := (b + 239) / 240

/-- The membership in force of a group. -/
def State.groupMembers (s : State) (g : Nat) : Nat := (alGet s.swx.members g).getD 0

/-- Outputs of a mask, in ascending order. -/
def maskList (m : Nat) : List Nat := (List.range 16).filter (fun p => m.testBit p)

/-- The first pass of a membership (R146): all of it up to four members; otherwise the four lowest and port 15. -/
def passOf (m : Nat) : List Nat × Nat :=
  let l := maskList m
  if l.length ≤ 4 then (l, 0)
  else (l.take 4 ++ [15], (l.drop 4).foldl (fun a p => a + 2 ^ p) 0)

/-- Cells queued for an output in the middle buffers. -/
def State.occupancy (s : State) (out : Nat) : Nat :=
  (s.swx.middle.map (fun m => (m.2.filter (fun c => c.owed.contains out)).length)).foldl (· + ·) 0

def State.cellsUsed (s : State) : Nat := (s.swx.middle.map (fun m => m.2.length)).foldl (· + ·) 0
/-- What admitted frames from Ethernet inputs still hold of their reservations (R144): ceil(max_frame / 240) less the cells sent. -/
def State.cellsReserved (s : State) : Nat :=
  (s.swx.inq.map (fun q => (q.2.map (fun f =>
    if f.src < 4 then cellsOf (s.r 0 (.eth .PORT_CFG_max_frame) f.lport) - (f.cells - f.left) else 0)).foldl (· + ·) 0)).foldl (· + ·) 0

/-- A frame enters a switch input. -/
def State.swPush (s : State) (f : SwFrame) : State :=
  { s with swx := { s.swx with inq := alPush s.swx.inq f.src { f with fid := s.swx.nextFid },
                               nextFid := s.swx.nextFid + 1 } }

/-- A frame from a lossless input (4-15), or one that a block of the package makes. -/
def State.swInject (s : State) (src dest bytes : Nat) (lport : Nat := 0) (host : Option Nat := none) (tclass : Nat := 0)
    (secure : Bool := false) : State :=
  if s.swEnabled dest then
    s.swPush { fid := 0, src := src, group := false, dest := dest, cells := cellsOf bytes, left := cellsOf bytes,
               bytes := bytes, secure := secure, tclass := tclass, lport := lport, host := host }
  else s.bump 0 0x12 8 (cellsOf bytes) dest

/-- Admission of a frame from an Ethernet input at its first cell (R144): whether it is admitted. -/
def State.swAdmit (s : State) (f : SwFrame) (maxFrame : Nat) : State × Bool :=
  let outs := if f.group then maskList (s.groupMembers f.dest) else [f.dest]
  let limit (o : Nat) : Nat := 256 * (match f.colour with
    | 0 => s.r 0 (.swx .OUT_LIMIT_green_limit) o
    | 1 => s.r 0 (.swx .OUT_LIMIT_yellow_limit) o
    | _ => s.r 0 (.swx .OUT_LIMIT_red_limit) o)
  if !f.group && !s.swEnabled f.dest then (s.bump 0 0x12 8 f.cells f.dest, false)
  else
    let full := outs.find? (fun o => decide (limit o ≤ s.occupancy o))
    let free := 196608 - s.cellsUsed - s.cellsReserved
    if full.isSome || decide (free < cellsOf maxFrame + 16 * s.r 0 (.swx .CFG_lossless_reserve)) then
      (s.bump 0 0x12 (5 + min f.colour 2) 1 (full.getD (outs.headD 0)), false)
    else (s.swPush f, true)

/-! ### Policers (R152-R155) -/

/-- The bucket arithmetic of R153: (tc, te) after the fill and the decision, and the colour. -/
def police (p : PolicerEntry) (tc te dt bytes pre : Nat) : Nat × Nat × Nat :=
  let cost := bytes * 8000000
  let cmax := p.cbs * 8000000
  let emax := p.ebs * 8000000
  let add := p.cir * dt
  let room := cmax - tc
  let tc' := if p.algorithm = 0 then tc + min add room else min cmax (tc + add)
  let te' := if p.algorithm = 0 then min emax (te + (add - room)) else min emax (te + p.eir * dt)
  if pre = 0 ∧ cost ≤ tc' then (tc' - cost, te', 0)
  else if pre ≠ 2 ∧ cost ≤ te' then (tc', te' - cost, 1)
  else (tc', te', 2)

/-- One of a policer's counters, with its overflow bit (R166). -/
def State.polBump (s : State) (id idx n : Nat) : State :=
  let wraps := decide (2 ^ 64 ≤ s.ctr 0 0x13 idx id + n)
  let s := s.bump 0 0x13 idx n id
  if !wraps then s else
    let o := alPut s.swx.polOvf id (setBit ((alGet s.swx.polOvf id).getD 0) idx true)
    let low := (o.filter (fun e => e.2 ≠ 0)).foldl (fun a e => min a e.1) 2047
    (({ s with swx := { s.swx with polOvf := o } }).w 0 (.pol .OVF_SUMMARY_any) 1).w 0 (.pol .OVF_SUMMARY_lowest) low

/-- A frame is policed at its stamp: its colour, and whether it goes on (R152-R154). -/
def State.policeFrame (s : State) (p : PolicerEntry) (bytes : Nat) (dei : Bool) : State × Nat × Bool :=
  let id := p.id
  let nowPs := s.now * 1000
  let (tc, te, last) := (alGet s.swx.buckets id).getD (p.cbs * 8000000, p.ebs * 8000000, nowPs)
  let pre := if p.flags.testBit 0 && dei then 1 else 0
  let (tc, te, col) := police p tc te (nowPs - last) bytes pre
  let s := { s with swx := { s.swx with buckets := alPut s.swx.buckets id (tc, te, nowPs) } }
  let s := (s.polBump id (2 * col) 1).polBump id (2 * col + 1) bytes
  if col = 2 ∧ !p.flags.testBit 1 then (s.polBump id 6 1, col, false) else (s, col, true)

/-- A frame of a stream that may have no policer. -/
def State.policeMay (s : State) (p : Option PolicerEntry) (bytes : Nat) (dei : Bool) : State × Nat × Bool :=
  match p with
  | some x => s.policeFrame x bytes dei
  | none => (s, 0, true)

/-! ### Cells (R141-R151) -/

/-- Stream of a frame at its input: the output, or 16 + group. -/
def SwFrameStream (f : SwFrame) : Nat := if f.group then 16 + f.dest else f.dest

/-- Cells of an input's stream that have not been delivered. -/
def State.streamBusy (s : State) (src stream : Nat) : Bool :=
  s.swx.middle.any (fun m => m.2.any (fun c => c.frame.src = src && SwFrameStream c.frame = stream)) ||
  s.swx.reseq.any (fun m => m.2.any (fun c => c.frame.src = src && SwFrameStream c.frame = stream))

/-- Cells of a lossless input on their way to an output. -/
def State.inFlight (s : State) (src out : Nat) : Nat :=
  (s.swx.middle.map (fun m => (m.2.filter (fun c => c.frame.src = src && c.owed.contains out)).length)).foldl (· + ·) 0

/-- A frame may send its next cell: its group is not held (R148), and a lossless input has credit (R144). -/
def State.maySend (s : State) (f : SwFrame) : Bool :=
  !(f.group && f.members.isNone && (alGet s.swx.pendingMembers f.dest).isSome) &&
  (decide (f.src < 4) ||
    (if f.group then maskList (f.members.getD (s.groupMembers f.dest)) else [f.dest]).all
      (fun o => decide (s.inFlight f.src o < Config.switchCredit f.src o)))

/-- Stage 1 for one input in a slot: its next cell goes to a middle buffer. -/
def State.stage1 (s : State) (i t : Nat) : State :=
  let q := alList s.swx.inq i
  match q.find? (fun f => s.maySend f) with
  | none => s
  | some f =>
    let stream := SwFrameStream f
    let seq := (alGet s.swx.seqs (i, stream, 16)).getD 0
    let (pass, later) := if f.group then passOf (f.members.getD (s.groupMembers f.dest)) else ([f.dest], 0)
    let (outs, dead) := (pass.filter (fun o => s.swEnabled o), pass.filter (fun o => !s.swEnabled o))
    let last := decide (f.left ≤ 1)
    let cell : SwCell := ⟨f, seq, decide (f.left = f.cells), last, outs, later⟩
    let q' := if last then q.erase f else q.map (fun g => if g.fid = f.fid then { g with left := g.left - 1 } else g)
    let x := s.swx
    let s := { s with swx := { x with
      inq := alPut x.inq i q'
      seqs := alPut x.seqs (i, stream, 16) ((seq + 1) % 65536)
      middle := if outs.isEmpty then x.middle else alPush x.middle ((i + t) % 16) cell } }
    let s := foldS (fun s o => s.bump 0 0x12 8 1 o) s dead
    match f.inPort, last with
    | some p, true =>
      let used := (alGet s.eth.fifo p).getD 0
      { s with eth := { s.eth with fifo := alPut s.eth.fifo p (used - s.r 0 (.eth .PORT_CFG_max_frame) p) } }
    | _, _ => s

/-- Rate of a switch port in Gbit/s (*Switch core ports*; an Ethernet port takes its logical port's). -/
def State.swRate (s : State) (port lport : Nat) : Nat :=
  if port < 4 then 200 * 2 ^ s.r 0 (.eth .PORT_STATUS_speed) lport
  else if port ≤ 9 then 2000
  else if port = 11 then 1024
  else if port = 12 then 100
  else 1600

/-- The traffic class and queue of a frame at its logical port (R156). -/
def State.schQueue (s : State) (f : SwFrame) : Nat × Nat :=
  let m := s.img.active.getD {}
  let dflt := (s.r 0 (.eth .PORT_CFG_default_pcp) f.lport)
  match f.host with
  | none => if f.tclass = 0 then (dflt, 0x10000 + dflt) else (f.tclass, 0x10000 + f.tclass)
  | some h =>
    match m.hosts.find? (fun e => e.id = h) with
    | none => (dflt, 0x10000 + dflt)
    | some e =>
      match m.nodes.find? (fun n => n.level = 0 && n.id = e.node) with
      | none => (dflt, 0x10000 + dflt)
      | some sub =>
        match m.nodes.find? (fun n => n.level = 1 && n.id = sub.parent && n.parent = f.lport) with
        | none => (dflt, 0x10000 + dflt)
        | some svc => (svc.priority, sub.id)

/-- A frame is handed to its scheduler queue, or to the block behind the port. -/
def State.swHand (s : State) (out : Nat) (o : OutFrame) : State :=
  if out < 4 then
    let (cls, q) := s.schQueue o.frame
    { s with sch := { s.sch with
        fifos := alPush s.sch.fifos (o.frame.lport, q) ⟨o.frame.fid, o.frame.bytes, cls, s.now, o.frame.err⟩ } }
  else { s with swx := { s.swx with delivered := alPush s.swx.delivered out o } }

/-- A frame is whole at an output. -/
def State.swDeliver (s : State) (out : Nat) (o : OutFrame) : State :=
  let s := s.bump 0 0x12 0 1 out
  let s := if o.ct then s.bump 0 0x12 2 1 out else s
  let s := if o.ct && o.frame.err then s.bump 0 0x12 3 1 out else s
  s.swHand out o

/-- A cell is released at an output, in its stream's order (R142): it joins its frame there. -/
def State.swArrive (s : State) (out : Nat) (c : SwCell) : State :=
  let s := s.bump 0 0x12 1 1 out
  let l := alList s.swx.arriving out
  let dieLink := between 4 out 9 || out = 12
  let old := l.find? (fun o => o.frame.fid = c.frame.fid)
  let idle := l.isEmpty && decide (s.occupancy out = 0)
  let ct := !c.frame.group && !dieLink && s.rb 0 (.swx .CFG_ct_enable) && idle &&
    decide (s.swRate out c.frame.lport ≤ s.swRate c.frame.src c.frame.lport)
  let o : OutFrame := match old with
    | some o => { o with got := o.got + 1 }
    | none => ⟨c.frame, 1, ct, false, c.later⟩
  let rest := l.filter (fun x => x.frame.fid ≠ c.frame.fid)
  let put (l : List OutFrame) : State := { s with swx := { s.swx with arriving := alPut s.swx.arriving out l } }
  if c.last then (if o.ended then put rest else (put rest).swDeliver out o) else put (rest ++ [o])

/-- Cells at an output that are next in their streams are released. -/
def State.swRelease (s : State) (out : Nat) : Nat → State
  | 0 => s
  | n + 1 =>
    let l := alList s.swx.reseq out
    match l.find? (fun c => (alGet s.swx.seqs (c.frame.src, SwFrameStream c.frame, out)).getD 0 = c.seq) with
    | none => s
    | some c =>
      let x := s.swx
      let s := { s with swx := { x with
        reseq := alPut x.reseq out (l.erase c)
        seqs := alPut x.seqs (c.frame.src, SwFrameStream c.frame, out) ((c.seq + 1) % 65536) } }
      (s.swArrive out c).swRelease out n

/-- Stage 2 for one middle buffer in a slot (R145): the head cell owed to the output it meets. -/
def State.stage2 (s : State) (m t : Nat) : State :=
  let out := (m + t) % 16
  let b := alList s.swx.middle m
  match b.find? (fun c => c.owed.contains out) with
  | none => s
  | some c =>
    let c' := { c with owed := c.owed.erase out }
    let b' := if c'.owed.isEmpty then b.erase c else b.map (fun x => if x = c then c' else x)
    let x := s.swx
    ({ s with swx := { x with middle := alPut x.middle m b', reseq := alPush x.reseq out c } }).swRelease out 64

/-- A cut-through frame finds its next cell absent (R151): it is ended as a frame with an error mark, and the rest of it
discarded. -/
def State.ctUnderrun (s : State) (out : Nat) : State :=
  let l := alList s.swx.arriving out
  match l.find? (fun o => o.ct && !o.ended) with
  | none => s
  | some o =>
    let l := l.map (fun x => if x.frame.fid = o.frame.fid then { x with ended := true } else x)
    (({ s with swx := { s.swx with arriving := alPut s.swx.arriving out l } }).bump 0 0x12 4 1 out).swHand out
      { o with frame := { o.frame with err := true, bytes := min o.frame.bytes (240 * o.got) } }

/-- CELL_FORWARD (R141): one slot of the cyclic pattern; `underruns` are outputs whose cut-through frame finds no
next cell when it is needed. -/
def execCellForward (underruns : List (Fin 16)) (s : State) : Out :=
  let t := s.swx.slot
  let s := foldS (fun s m => s.stage2 m t) s (List.range 16)
  let s := foldS (fun s i => s.stage1 i t) s (List.range 16)
  let s := foldS (fun s o => s.ctUnderrun o.val) s underruns
  let s := { s with swx := { s.swx with slot := (t + 1) % 16 } }
  .next (s.w 0 (.swx .STATUS_cells_used) s.cellsUsed)

/-- REPLICATION_PASS (R146): a frame that arrived at port 15 re-enters stage 1 with the remaining members. -/
def execReplicationPass (s : State) : Out :=
  match alList s.swx.delivered 15 with
  | [] => .next s
  | o :: l =>
    let s := { s with swx := { s.swx with delivered := alPut s.swx.delivered 15 l } }
    .next ((s.swPush { o.frame with src := 15, group := true, left := o.frame.cells, members := some o.later,
                                    inPort := none }).bump 0 0x12 9 o.frame.cells 15)

/-- RECIRCULATED_FRAME (R149): a frame sent to port 13 or 14 re-enters stage 1 as received there; port 14 only
while its loopback is set. -/
def execRecirculatedFrame (loopback : Bool) (lport : Fin 32) (s : State) : Out :=
  let p := if loopback then 14 else 13
  match alList s.swx.delivered p with
  | [] => .next s
  | o :: l =>
    let s := { s with swx := { s.swx with delivered := alPut s.swx.delivered p l } }
    if loopback && !s.rb 0 (.swx .LOOPBACK_enable) then .next s else
    .next ((s.swPush { o.frame with src := p, group := false, dest := lport.val / 8, lport := lport.val,
                                    left := o.frame.cells, inPort := none }).bump 0 0x12 10 1 p)

/-- A group's membership changes (R148): the new one waits until the group's streams are empty. -/
def State.setMembers (s : State) (g mask : Nat) : State :=
  let s := s.w 0 (.swx .MCAST_GROUP_members) mask g
  let s := s.w 0 (.swx .MCAST_GROUP_valid) 1 g
  if mask = s.groupMembers g ∧ alGet s.swx.pendingMembers g = none then s
  else { s with swx := { s.swx with pendingMembers := alPut s.swx.pendingMembers g mask } }

/-- The mirror groups follow the mirror condition and the partner's channel dies (R146). -/
def State.mirrorGroups (s : State) : State :=
  foldS (fun s c =>
    let toPartner := s.r mdId (.pair .STATUS_mirror) = 1 && !s.rb (cdId c) (.pair .CD_STATUS_partner_failed)
    s.setMembers c (2 ^ (4 + c) + if toPartner then 2 ^ 10 else 0)) s s.cds

/-- MCAST_GROUP_WRITE (R146, R148): groups 0-5 are the hardware's. -/
def execMcastGroupWrite (q : Req) (g : Fin 32) (valid : Bool) (members : BitVec 16) (s : State) : Out :=
  if g.val < 6 then .next s else
  .next (if q.secure then (s.setMembers g.val members.toNat).wb 0 (.swx .MCAST_GROUP_valid) valid g.val
    else s.worldViolation q 0 0x12 (0x80 + 4 * g.val) true)

/-- MCAST_HOLD_RELEASE (R148): every earlier cell of the group's streams has been delivered. -/
def execMcastHoldRelease (g : Fin 32) (s : State) : Out :=
  match alGet s.swx.pendingMembers g.val with
  | none => .next s
  | some m =>
    if (List.range 16).any (fun i => s.streamBusy i (16 + g.val)) then .next s
    else
      let stream := 16 + g.val
      let seqs := foldS (fun q (k : Nat × Nat) =>
        alPut q (k.1, stream, k.2) ((alGet s.swx.seqs (k.1, stream, 16)).getD 0)) s.swx.seqs
        ((List.range 16).flatMap (fun i => (maskList m).map (fun o => (i, o))))
      .next { s with swx := { s.swx with members := alPut s.swx.members g.val m, seqs := seqs
                                         pendingMembers := alDel s.swx.pendingMembers g.val } }

/-- SWX_LOOPBACK_WRITE (R149): accepted only in Maintenance. -/
def execSwxLoopbackWrite (q : Req) (v : Bool) (s : State) : Out :=
  .next (s.secureOnly q 0 (.swx .LOOPBACK_enable) (if s.modeNow = 0xA then s.wb 0 (.swx .LOOPBACK_enable) v else s))

/-- OUT_LIMIT_WRITE (R144): one that breaks red ≤ yellow ≤ green, or the range of green, is discarded. -/
def execOutLimitWrite (q : Req) (p : Fin 16) (green yellow red : BitVec 10) (s : State) : Out :=
  let ok := between 1 green.toNat 768 && decide (yellow.toNat ≤ green.toNat) && decide (red.toNat ≤ yellow.toNat)
  .next (if !q.secure then s.worldViolation q 0 0x12 (0x40 + 4 * p.val) true
    else if ok then ((s.w 0 (.swx .OUT_LIMIT_green_limit) green.toNat p.val).w 0 (.swx .OUT_LIMIT_yellow_limit)
      yellow.toNat p.val).w 0 (.swx .OUT_LIMIT_red_limit) red.toNat p.val
    else s)

/-- SWX_SNAPSHOT (R166). -/
def execSwxSnapshot (q : Req) (port : Fin 16) (s : State) : Out :=
  .next ((s.w 0 (.swx .SNAP_CTRL_port) port.val).snapshot 0 0x12 q.secure (s.counters 0 0x12 11 port.val)
    (.swx .SNAP_CTRL_done))

/-- POL_SNAPSHOT (R166): a policer's counters and buckets; clear_ovf clears its overflow bits after the copy. -/
def execPolSnapshot (q : Req) (id : Fin 2048) (clear : Bool) (s : State) : Out :=
  let p := id.val
  let o := (alGet s.swx.polOvf p).getD 0
  let e := ((s.img.active.getD {}).policers.find? (fun e => e.id = p)).getD { id := p }
  let (tc, te, _) := (alGet s.swx.buckets p).getD (e.cbs * 8000000, e.ebs * 8000000, 0)
  let s := s.snapshot 0 0x13 q.secure (s.counters 0 0x13 7 p ++ [tc, te]) (.pol .SNAP_CTRL_done) o
  let s := s.w 0 (.pol .SNAP_CTRL_ovf) o (if q.secure then 1 else 0)
  if !clear then .next s else
    let m := s.swx.polOvf.filter (fun x => x.1 ≠ p && x.2 ≠ 0)
    let low := m.foldl (fun a x => min a x.1) 2047
    .next ((({ s with swx := { s.swx with polOvf := m } }).wb 0 (.pol .OVF_SUMMARY_any) (!m.isEmpty)).w 0
      (.pol .OVF_SUMMARY_lowest) (if m.isEmpty then 0 else low))

end Sys2Proof.Machine
end

