-- ==== Sys2Proof/Machine/Egress.lean ====
section
/-! DEFINITION. The egress scheduler, the gates, and the transmitting MAC (spec/05 R133-R136, spec/06 R156-R164). -/

set_option Elab.async false

namespace Sys2Proof.Machine

/-! ### Transmission (R133-R136) -/

/-- Bytes of a frame on the wire from destination address to FCS (R133, R134), and whether it was truncated. -/
def State.wireBytes (s : State) (port payload : Nat) : Nat × Bool :=
  let tagged := max payload 60 + (if s.r 0 (.eth .PORT_CFG_vlan) port = 0 then 0 else 4) + 4
  let mx := s.r 0 (.eth .PORT_CFG_max_frame) port
  if mx < tagged then (mx, true) else (tagged, false)

/-- A whole frame leaves the MAC; a truncated one, or one with an error mark, with an inverted CRC (R134, R151). -/
def State.txWhole (s : State) (port bytes cls : Nat) (truncated : Bool) (err : Bool := false) : State :=
  let s := if truncated then s.bump 0 0x10 15 1 port else s
  ((s.bump 0 0x10 13 1 port).bump 0 0x10 14 bytes port).emit (.frame port bytes cls (truncated || err))

/-- The first 8-byte boundary at or after `sent` at which a preemptable frame of B bytes may be preempted (R136):
bytes of frame data, or none. -/
def preemptAt (afs total fragStart sent : Nat) : Option Nat :=
  let d := max sent (fragStart + (64 * (1 + afs) - 4))
  let d := (d + 7) / 8 * 8
  if d + 64 ≤ total then some d else none

/-- Express frames, each ready at an offset of the preemptable frame's data, cut it into fragments (R136). -/
def State.preemptAll (s : State) (port total : Nat) : Nat → Nat → List (Nat × Nat × Nat) → State
  | _, n, [] => if n = 0 then s else s.bump 0 0x10 17 1 port
  | start, n, (ready, bytes, cls) :: l =>
    match preemptAt (s.r 0 (.eth .PREEMPT_CFG_add_frag_size) port) total start ready with
    | some d =>
      let s := ((s.bump 0 0x10 18 1 port).bump 0 0x10 17 1 port).txWhole port bytes cls false
      s.preemptAll port total d (n + 1) l
    | none => (s.txWhole port bytes cls false).preemptAll port total start n l

/-- FRAME_TRANSMIT (R133): a frame is handed to the MAC; `express` are the express frames that become ready while it
is sent, each with the offset in its data at which it does, its bytes and its class. -/
def execFrameTransmit (port : Fin 32) (payload cls : Nat) (express : List (Nat × Nat × Nat)) (s : State) : Out :=
  let p := port.val
  if s.r 0 (.eth .PORT_STATUS_link_state) p ≠ 2 then .next s else
  let (bytes, spoilt) := s.wireBytes p payload
  let ex := express.map (fun e => (e.1, (s.wireBytes p e.2.1).1, e.2.2))
  let pre := s.rb 0 (.eth .PORT_STATUS_preempt_active) p && !(s.r 0 (.sch .EXPRESS_classes)).testBit cls
  if pre then .next ((s.preemptAll p bytes 0 0 ex).txWhole p bytes cls spoilt)
  else .next (foldS (fun s e => s.txWhole p e.2.1 e.2.2 false) (s.txWhole p bytes cls spoilt) ex)

/-! ### Gates (R160-R163) -/

/-- The running gate list of a port, if one runs. -/
def State.gateList (s : State) (p : Nat) : Option GateList :=
  if !s.rb 0 (.sch .GATE_STATE_running) p then none else
    (s.img.active.getD {}).gates.find? (fun g => g.port = p && g.list = s.r 0 (.sch .GATE_STATE_list) p)

/-- A port enters an entry of its list at an instant. -/
def State.gateEntry (s : State) (p : Nat) (g : GateList) (e ts : Nat) : State :=
  let x := g.entries.getD e {}
  let s := ((s.w 0 (.sch .GATE_STATE_entry) e p).w 0 (.sch .GATE_STATE_open) x.mask p).wb 0
    (.sch .GATE_STATE_hold) x.hold p
  { s with sch := { s.sch with entryAt := alPut s.sch.entryAt p ts } }

/-- An occurrence of kind 0x01 starts the named list at entry 0; a list that the image does not hold opens every
gate (R160). -/
def State.gateStart (s : State) (p list ts : Nat) : State :=
  match (s.img.active.getD {}).gates.find? (fun g => g.port = p && g.list = list) with
  | some g => ((s.w 0 (.sch .GATE_STATE_running) 1 p).w 0 (.sch .GATE_STATE_list) list p).gateEntry p g 0 ts
  | none => ((s.w 0 (.sch .GATE_STATE_running) 0 p).w 0 (.sch .GATE_STATE_open) 0xFF p).w 0 (.sch .GATE_STATE_hold) 0 p

/-- GATE_ENTRY_ADVANCE (R160): interval_ns after its start, the entry gives way to the next. -/
def execGateEntryAdvance (port : Fin 32) (s : State) : Out :=
  let p := port.val
  match s.gateList p with
  | none => .next s
  | some g =>
    let e := s.r 0 (.sch .GATE_STATE_entry) p
    let due := (alGet s.sch.entryAt p).getD 0 + (g.entries.getD e {}).interval
    let s := s.reachTs 0 due
    if s.ts64 0 < due then .next s
    else .next (s.gateEntry p g (if e + 1 < g.entries.length then e + 1 else 0) due)

/-- Nanoseconds for which a class stays open from the start of entry e on, over at most n entries. -/
def openRun (es : List GateEntry) (cls : Nat) : Nat → Nat → Nat
  | _, 0 => 0
  | e, n + 1 =>
    let x := es.getD (e % es.length) {}
    if x.mask.testBit cls then x.interval + openRun es cls (e + 1) n else 0

/-- The next kind 0x01 occurrence of a port after an instant. -/
def State.nextGateStart (s : State) (p ts : Nat) : Option Nat :=
  (s.tim.sched.filter (fun e => e.1.1 = 0 && e.2.kind = 1 && e.2.enabled && e.2.target = p)).foldl
    (fun a e => match e.2.occ (match e.2.latest ts with
        | some m => m + 1
        | none => 0) with
      | none => a
      | some t => some (match a with
        | none => t
        | some b => min b t)) none

/-- Nanoseconds left until the window of a class closes (R161); none: it does not close. -/
def State.windowLeft (s : State) (p cls : Nat) : Option Nat :=
  let ts := s.ts64 0
  let byOcc := (s.nextGateStart p ts).map (fun t => t - ts)
  let byList := match s.gateList p with
    | none => none
    | some g =>
      let n := g.entries.length
      let e := s.r 0 (.sch .GATE_STATE_entry) p
      if g.entries.all (fun x => x.mask.testBit cls) then none
      else some (openRun g.entries cls e n - (ts - (alGet s.sch.entryAt p).getD ts))
  match byOcc, byList with
  | none, b => b
  | a, none => a
  | some a, some b => some (min a b)

/-- The longest window of a class in the list in force; none: always open (R162). -/
def State.longestWindow (s : State) (p cls : Nat) : Option Nat :=
  match s.gateList p with
  | none => none
  | some g =>
    if g.entries.all (fun x => x.mask.testBit cls) then none
    else some ((List.range g.entries.length).foldl (fun a e => max a (openRun g.entries cls e g.entries.length)) 0)

/-- A transmission of n bytes takes at most a span in ns, at a port's rate. -/
def State.fits (s : State) (p bytes span : Nat) : Bool :=
  decide (bytes * 8 ≤ 200 * 2 ^ s.r 0 (.eth .PORT_STATUS_speed) p * span)

/-- Frames of a class may be preempted on a port (R156). -/
def State.preemptable (s : State) (p cls : Nat) : Bool :=
  s.rb 0 (.eth .PORT_STATUS_preempt_active) p && !(s.r 0 (.sch .EXPRESS_classes)).testBit cls

/-- The last boundary at which a frame may be preempted so that the fragment from `sent` on, with its 8 bytes of preamble and its
mCRC, ends within a span in ns (R136, R163): bytes of frame data sent by then. -/
def State.lastBoundary (s : State) (p total sent span : Nat) : Option Nat :=
  let room := 200 * 2 ^ s.r 0 (.eth .PORT_STATUS_speed) p * span / 8
  let d := min (total - sent - 64) (room - 12) / 8 * 8
  if 64 * (1 + s.r 0 (.eth .PREEMPT_CFG_add_frag_size) p) - 4 ≤ d then some (sent + d) else none

/-- A frame of a class, or the rest of it once `sent` bytes have left, may start (R161, R163). -/
def State.gateAdmits (s : State) (p cls bytes : Nat) (sent : Nat := 0) : Bool :=
  (s.r 0 (.sch .GATE_STATE_open) p).testBit cls && !(s.preemptable p cls && s.rb 0 (.sch .GATE_STATE_hold) p) &&
  (match s.windowLeft p cls with
   | none => true
   | some left => s.fits p (bytes - sent + 8) left || (s.preemptable p cls && (s.lastBoundary p bytes sent left).isSome))

/-! ### Selection (R158, R159) -/

/-- The node entries of a queue's path: subscriber, service and port node. -/
def State.queueNodes (s : State) (p q : Nat) : List SchedNode :=
  let m := s.img.active.getD {}
  let port := m.nodes.filter (fun n => n.level = 2 && n.id = p)
  if 0x10000 ≤ q then port else
    match m.nodes.find? (fun n => n.level = 0 && n.id = q) with
    | none => port
    | some sub => sub :: (m.nodes.filter (fun n => n.level = 1 && n.id = sub.parent)) ++ port

/-- A shaper's bucket now, in the units of R153. -/
def State.shaperNow (s : State) (n : SchedNode) : Int :=
  let cap : Int := (n.burstKib * 1024 * 8000000 : Nat)
  match alGet s.sch.shapers (n.level, n.id) with
  | none => cap
  | some (v, t) => min cap (v + (n.shaper * ((s.now - t) * 1000) : Nat))

def State.conforms (s : State) (n : SchedNode) : Bool := n.shaper = 0 || decide (0 ≤ s.shaperNow n)

/-- A frame at the head of a queue of a port is eligible. -/
def State.eligible (s : State) (p q : Nat) (f : SchFrame) : Bool :=
  s.gateAdmits p f.cls (s.wireBytes p f.bytes).1 && (s.queueNodes p q).all s.conforms

/-- Deficit round robin over candidate keys with their quanta and costs: the pointer stays on a key while its deficit
covers its head's cost, and otherwise moves on and grants a quantum.  Answers the key chosen and the deficits. -/
def drr (cost : Nat → Nat) (quantum : Nat → Nat) (keys : List Nat) (defs : List (Nat × Nat)) :
    Nat → Nat → Option Nat × List (Nat × Nat)
  | _, 0 => (none, defs)
  | at_, n + 1 =>
    match keys with
    | [] => (none, defs)
    | k0 :: _ =>
      let k := if keys.contains at_ then at_ else k0
      let d := (alGet defs k).getD 0
      if cost k ≤ d then (some k, alPut defs k (d - cost k))
      else
        let next := ((keys.dropWhile (· ≠ k)).drop 1).headD k0
        drr cost quantum keys (alPut defs next ((alGet defs next).getD 0 + quantum next)) next n

/-- The service a queue belongs to: its service node, or 0x10000 + class for a default queue. -/
def State.serviceOf (s : State) (q : Nat) : Nat :=
  if 0x10000 ≤ q then q else
    match (s.img.active.getD {}).nodes.find? (fun n => n.level = 0 && n.id = q) with
    | none => q
    | some n => n.parent

def State.nodeOf (s : State) (level id : Nat) : SchedNode :=
  ((s.img.active.getD {}).nodes.find? (fun n => n.level = level && n.id = id)).getD { id := id, level := level }

/-- The deficits of one round robin, cut to it. -/
def State.deficitsOf (s : State) (key : Nat) : List (Nat × Nat) :=
  (s.sch.deficits.filter (fun e => e.1.1 = key)).map (fun e => (e.1.2, e.2))

def State.putDeficits (s : State) (key : Nat) (l : List (Nat × Nat)) (at_ : Nat) : State :=
  { s with sch := { s.sch with
    deficits := s.sch.deficits.filter (fun e => e.1.1 ≠ key) ++ l.map (fun e => ((key, e.1), e.2))
    drrAt := alPut s.sch.drrAt (key, 0) at_ } }

/-- Head frames that can never fit their class's longest window are discarded (R162). -/
def State.gateDrops (s : State) (p : Nat) : State :=
  foldS (fun s (e : (Nat × Nat) × List SchFrame) =>
    if e.1.1 ≠ p then s else
    match e.2 with
    | [] => s
    | f :: l =>
      match s.longestWindow p f.cls with
      | some w =>
        if decide (0 < w) && !s.fits p ((s.wireBytes p f.bytes).1 + 8) w then
          let s := { s with sch := { s.sch with fifos := alPut s.sch.fifos e.1 l } }
          let v := s.r 0 (.sch .GATE_DROP_count) p + 1
          let s := (s.w 0 (.sch .GATE_DROP_count) v p).bump 0 0x14 0 1 p
          if v < 2 ^ 32 then s else s.wbit 0 (.sch .GATE_DROP_OVF_ovf) p true
        else s
      | none => s) s s.sch.fifos

/-- A frame goes out from `sent` on: to its end, or to the last boundary before its window closes, where the port preempts it
(R163). -/
def State.fragSend (s : State) (p q : Nat) (f : SchFrame) (sent : Nat) : State :=
  let (bytes, truncated) := s.wireBytes p f.bytes
  let cut : Option Nat := match s.windowLeft p f.cls with
    | none => none
    | some left => if s.fits p (bytes - sent + 8) left then none else s.lastBoundary p bytes sent left
  match cut with
  | some d => (({ s with sch := { s.sch with part := alPut s.sch.part p (q, f, d) } }).bump 0 0x10 18 1 p).bump 0 0x10 17 1 p
  | none =>
    (if sent = 0 then s else ({ s with sch := { s.sch with part := alDel s.sch.part p } }).bump 0 0x10 17 1 p).txWhole p bytes f.cls truncated f.err

/-- Bytes that a frame is charged (R158, R159): its bytes on the wire and 20. -/
def State.chargeOf (s : State) (p : Nat) (f : SchFrame) : Nat := (s.wireBytes p f.bytes).1 + 20

/-- The frame of a queue starts: it leaves its FIFO and charges the shapers of its path. -/
def State.schSend (s : State) (p q : Nat) (f : SchFrame) : State :=
  let charge : Int := (s.chargeOf p f * 8000000 : Nat)
  let s := { s with sch := { s.sch with fifos := alPut s.sch.fifos (p, q) ((alList s.sch.fifos (p, q)).drop 1) } }
  let s := foldS (fun s n =>
    { s with sch := { s.sch with shapers := alPut s.sch.shapers (n.level, n.id) (s.shaperNow n - charge, s.now) } })
    s (s.queueNodes p q)
  s.fragSend p q f 0

/-- The frame that the scheduler takes among eligible head frames, each with its queue (R158). -/
def State.schSelect (s : State) (p : Nat) (heads : List (Nat × SchFrame)) : State :=
  let cls := heads.foldl (fun a e => max a e.2.cls) 0
  let heads := heads.filter (fun e => e.2.cls = cls)
  let services := (heads.map (fun e => s.serviceOf e.1)).eraseDups
  let fuel := 32 * (heads.length + 1)
  -- Within a service: the highest rank, and deficit round robin among its queues.
  let best (v : Nat) : List (Nat × SchFrame) :=
    let l := heads.filter (fun e => s.serviceOf e.1 = v)
    let top := l.foldl (fun a e => max a (s.nodeOf 0 e.1).priority) 0
    l.filter (fun e => decide (0x10000 ≤ e.1) || (s.nodeOf 0 e.1).priority = top)
  let kSub (v : Nat) := 0x1000 + p * 0x20000 + v
  let cost (l : List (Nat × SchFrame)) (q : Nat) : Nat := ((l.find? (fun e => e.1 = q)).map (fun e => s.chargeOf p e.2)).getD 0
  let within (v : Nat) : Option (Nat × SchFrame) × List (Nat × Nat) :=
    let l := best v
    let (q, defs) := drr (cost l) (fun q => 512 * (s.nodeOf 0 q).weight) (l.map (·.1)) (s.deficitsOf (kSub v))
      ((alGet s.sch.drrAt (kSub v, 0)).getD 0) fuel
    (q.bind (fun q => l.find? (fun e => e.1 = q)), defs)
  let kSvc := p * 8 + cls
  let (svc, d1) := drr (fun v => ((within v).1.map (fun e => s.chargeOf p e.2)).getD 0)
    (fun v => 512 * (if 0x10000 ≤ v then 1 else (s.nodeOf 1 v).weight)) services (s.deficitsOf kSvc)
    ((alGet s.sch.drrAt (kSvc, 0)).getD 0) fuel
  match svc with
  | none => s
  | some v =>
    match within v with
    | (some (q, f), d2) => ((s.putDeficits kSvc d1 v).putDeficits (kSub v) d2 q).schSend p q f
    | (none, _) => s

/-- TRANSMIT_OPPORTUNITY (R158, R163): while a cut frame waits to go on, only express frames may pass it. -/
def execTransmitOpportunity (port : Fin 32) (s : State) : Out :=
  let p := port.val
  if s.r 0 (.eth .PORT_STATUS_link_state) p ≠ 2 then .next s else
  let s := s.gateDrops p
  let heads := s.sch.fifos.filterMap (fun e => if e.1.1 ≠ p then none else
    match e.2 with
    | [] => none
    | f :: _ => if s.eligible p e.1.2 f then some (e.1.2, f) else none)
  .next (match alGet s.sch.part p with
    | none => if heads.isEmpty then s else s.schSelect p heads
    | some (q, f, sent) =>
      let ex := heads.filter (fun e => !s.preemptable p e.2.cls)
      if !ex.isEmpty then s.schSelect p ex
      else if s.gateAdmits p f.cls (s.wireBytes p f.bytes).1 sent then s.fragSend p q f sent else s)

/-- SCHEDULER_STALE_DROP (R158): frames older than 100 ms. -/
def execSchedulerStaleDrop (port : Fin 32) (s : State) : Out :=
  let p := port.val
  let stale (f : SchFrame) : Bool := decide (100000000 < s.now - f.at_)
  let n := (s.sch.fifos.map (fun (e : (Nat × Nat) × List SchFrame) => if e.1.1 = p then (e.2.filter stale).length else 0)).foldl (· + ·) 0
  let s := { s with sch := { s.sch with
    fifos := s.sch.fifos.map (fun (e : (Nat × Nat) × List SchFrame) =>
      if e.1.1 = p then (e.1, e.2.filter (fun f => !stale f)) else e) } }
  let v := s.r 0 (.sch .STALE_DROP_count) p + n
  let s := (s.w 0 (.sch .STALE_DROP_count) v p).bump 0 0x14 1 n p
  .next (if v < 2 ^ 32 then s else s.wbit 0 (.sch .GATE_DROP_OVF_ovf) p true)

end Sys2Proof.Machine
end

