-- ==== Sys2Proof/Machine/BgwBase.lean ====
section
/-! DEFINITION. The share profile in force, the cost of background commands, grants and the background queue of a root port
(spec/21 R590-R594), and the drive commands that engines issue (spec/13 R373, R383). -/

set_option Elab.async false

namespace Sys2Proof.Machine

def State.bg (s : State) (d : Nat) : BgwDie := (alGet s.bgw d).getD {}
def State.setBg (s : State) (d : Nat) (x : BgwDie) : State := { s with bgw := alPut s.bgw d x }
def State.bgBump (s : State) (d i : Nat) (n : Nat := 1) : State := s.bump d 0x05 i n

/-- The profile of a number: the Background section's, or the built-in default (R590). -/
def State.profileOf (s : State) (n : Nat) : Option Profile := (s.img.active.getD {}).background.find? (fun p => p.id = n)
/-- The profile in force on a die (R590, R591). -/
def State.profile (s : State) (d : Nat) : Profile := (s.profileOf (s.r d (.bgw .STATUS_profile))).getD {}

/-- The share of an activity (*Background activities*). -/
def Profile.share (p : Profile) (a : Nat) : Nat :=
  match a with
  | 0 => p.patrol
  | 1 => p.spongeScrub
  | 2 => p.rebuild
  | 3 => p.reshape
  | 4 => p.telemetry
  | _ => p.recal

/-- Bytes per µs at the trained rate of a root port (R592): 14,302 at 64 GT/s x2, in proportion at other rates. -/
def State.portRate (s : State) (d b : Nat) : Nat :=
  let gt := match s.r d (.drv .B_LINK_speed) b with
    | 1 => 5
    | 2 => 10
    | 3 => 16
    | 4 => 32
    | 5 => 64
    | _ => 128
  max 1 (14302 * gt * max 1 (s.r d (.drv .B_LINK_width) b) / 256)

/-- The charge of a command that moves some blocks (R592), in ns. -/
def State.bgCost (s : State) (d b blocks : Nat) : Nat :=
  let r := s.portRate d b
  5000 + (4096 * blocks * 1000 + (r - 1)) / r

/-- A charge to an activity and to a port. -/
def State.bgAdd (s : State) (d a b ns : Nat) : State :=
  let x := s.bg d
  s.setBg d { x with used := x.used.set a (x.used.getD a 0 + ns), port := alPut x.port b ((alGet x.port b).getD 0 + ns) }
/-- Commands (bay, blocks) are charged to an activity; a step is charged whole at its first command (R592). -/
def State.bgCharge (s : State) (d a : Nat) (cmds : List (Nat × Nat)) : State :=
  foldS (fun (s : State) (c : Nat × Nat) => s.bgAdd d a c.1 (s.bgCost d c.1 c.2)) s cmds

/-- An activity may issue work: its charge and debt are below its grant; rebuild and reshape have not yet written what their rates
allow in the tick (R592, R593, spec/11 R337). -/
def State.bgMay (s : State) (d a : Nat) : Bool :=
  let x := s.bg d
  decide (x.used.getD a 0 + x.debt.getD a 0 < x.grant.getD a 0) &&
    (a ≠ 2 || decide (4096 * x.rebuilt < 10000 * s.r d (.grp .REBUILD_CFG_rate_10mbps))) &&
    (a ≠ 3 || decide (4096 * x.reshaped < 10000 * s.r d (.rsh .CFG_rate_10mbps)))
/-- Blocks written count towards the rate. -/
def State.bgWrote (s : State) (d a blocks : Nat) : State :=
  let x := s.bg d
  s.setBg d (if a = 2 then { x with rebuilt := x.rebuilt + blocks } else { x with reshaped := x.reshaped + blocks })

/-- The activity of a drive command's owner. -/
def DrvOwner.activity (o : DrvOwner) : Option Nat :=
  match o.kind with
  | 28 => some 0
  | 4 | 5 | 13 => some 2
  | 6 | 23 | 25 | 27 => some 3
  | _ => none

/-- A root port holds a background command back (R594). -/
def State.bgHolds (s : State) (d b : Nat) (o : DrvOwner) : Bool :=
  match o.activity with
  | none => false
  | some a =>
    let x := s.bg d
    let out := (s.drv.cmds.filter (fun c => c.die = d && c.bay = b && !c.held && c.owner.activity.isSome)).length
    decide (s.r d (.bgw .CFG_bg_depth) ≤ out) ||
      (x.fgWait.testBit b && !(a = 2 && x.critical) &&
        decide ((100 - (s.profile d).fgFloor) * 10000 ≤ (alGet x.port b).getD 0))

/-! ### Drive commands -/

def State.drive (s : State) (d b : Nat) : Drive := (alGet s.drv.drives (d, b)).getD {}
def State.setDrive (s : State) (d b : Nat) (x : Drive) : State :=
  { s with drv := { s.drv with drives := alPut s.drv.drives (d, b) x } }
def State.drvBump (s : State) (d b i : Nat) (n : Nat := 1) : State := s.bump d 0x27 i n b

/-- The write gate of a die passes a write-class command (R373). -/
def State.gatePasses (s : State) (d b : Nat) (o : DrvOwner) : Bool :=
  match o.kind with
  | 10 | 17 => true
  | 18 => s.modeNow = 5 || s.modeNow = 7 || s.modeNow = 9 ||
      (s.modeNow = 4 && s.rb mdId (.pair .STATUS_claim_granted))
  | 12 => s.modeNow = 8 && s.rb mdId (.pair .STATUS_claim_granted)
  | _ => s.rb d (.drv .STATUS_write_gate) && s.modeNow ≠ 8 && !s.pair.closed.contains (d, b)

/-- A command goes to its drive. -/
def State.drvSend (s : State) (c : DrvCmd) : State :=
  let s := s.drvBump c.die c.bay 0
  let s := if c.op = 0 then s.drvBump c.die c.bay 1 c.n else if c.op = 1 then s.drvBump c.die c.bay 2 c.n else s
  let s := if c.owner.activity.isSome then s.bgBump c.die 4 else s
  s.emit (.drive c.die c.bay c.cid c.op c.lba c.n c.data)

/-- Background commands charged as they are issued; steps of rebuild and reshape are charged whole (spec/21 R592). -/
def chargedAtIssue (o : DrvOwner) : Bool := o.kind = 5 || o.kind = 13 || o.kind = 23 || o.kind = 28

/-- The outcome of an owner's drive command is kept for its engine to take. -/
def DrvOwner.taken (o : DrvOwner) : Bool :=
  !(o.kind = 0 || o.kind = 8 || o.kind = 9 || o.kind = 11 || o.kind = 14 || o.kind = 15 || o.kind = 17 || o.kind = 24)

/-- An engine issues a drive command; the write gate may refuse it, and a root port may hold a background command back. -/
def State.drvIssue (s : State) (d bay op lba n : Nat) (o : DrvOwner) (pos : Nat := 0) (data : List Block := []) : State :=
  if op ≠ 0 && op ≠ 5 && !s.gatePasses d bay o then
    let r : DrvResult := { die := d, owner := o, pos := pos, lba := lba, op := op, n := n, ok := false, gated := true }
    let s := ((s.drvBump d bay 9).ev d (.drv .EVENTS_write_gated))
    if o.taken then { s with drv := { s.drv with results := s.drv.results ++ [r] } } else s
  else
    let cid := s.drv.nextCid
    let hold := s.bgHolds d bay o
    let c : DrvCmd := { die := d, bay := bay, cid := cid, op := op, lba := lba, n := n, owner := o, pos := pos, issued := s.now
                        held := hold, data := data }
    let s := if chargedAtIssue o then s.bgCharge d (o.activity.getD 0) [(bay, n)] else s
    let s := { s with drv := { s.drv with nextCid := (cid + 1) % 65536
                                          cmds := s.drv.cmds ++ [c] } }
    if hold then
      let x := s.bg d
      s.setBg d { x with yielded := if x.yielded.contains bay then x.yielded else x.yielded ++ [bay] }
    else s.drvSend c

/-- Background commands that a root port held back go, in order, as it may issue them (spec/21 R594). -/
def State.bgRelease (s : State) (d bay : Nat) : State :=
  foldS (fun (s : State) (c : DrvCmd) =>
    if !c.held || c.die ≠ d || c.bay ≠ bay || s.bgHolds d bay c.owner then s
    else if c.op ≠ 0 && c.op ≠ 5 && !s.gatePasses d bay c.owner then
      -- A write not yet sent when the gate closed is a gate refusal (spec/13 R388).
      let r : DrvResult := { die := d, owner := c.owner, pos := c.pos, lba := c.lba, op := c.op, n := c.n, ok := false, gated := true }
      let s := (s.drvBump d bay 9).ev d (.drv .EVENTS_write_gated)
      { s with drv := { s.drv with cmds := s.drv.cmds.filter (fun y => y.cid ≠ c.cid || y.die ≠ d)
                                   results := if c.owner.taken then s.drv.results ++ [r] else s.drv.results } }
    else
      let s := { s with drv := { s.drv with cmds := s.drv.cmds.map (fun (y : DrvCmd) =>
        if y.cid = c.cid && y.die = d then { y with held := false, issued := s.now } else y) } }
      s.drvSend c) s s.drv.cmds

/-- Every command an engine issued for a unit has completed. -/
def State.drvQuiet (s : State) (d : Nat) (o : DrvOwner) : Bool := !s.drv.cmds.any (fun c => c.die = d && c.owner = o)
def State.drvResults (s : State) (d : Nat) (o : DrvOwner) : List DrvResult :=
  s.drv.results.filter (fun r => r.die = d && r.owner = o)
def State.drvTake (s : State) (d : Nat) (o : DrvOwner) : State :=
  { s with drv := { s.drv with results := s.drv.results.filter (fun r => !(r.die = d && r.owner = o)) } }

/-- What is outstanding for some owners is discarded as it comes. -/
def State.disown (s : State) (d : Nat) (mine : DrvOwner → Bool) : State :=
  { s with drv := { s.drv with
    results := s.drv.results.filter (fun r => !(r.die = d && mine r.owner))
    cmds := s.drv.cmds.map (fun c => if c.die = d && mine c.owner then { c with owner := { kind := 0 } } else c) } }

end Sys2Proof.Machine
end

