-- ==== Sys2Proof/Machine/Ports.lean ====
section
/-! DEFINITION. Ethernet ports and SerDes lanes (spec/05). -/

set_option Elab.async false

namespace Sys2Proof.Machine

/-! ### Lanes (R116-R121) -/

def State.lane (s : State) (l : Nat) : Nat := s.r 0 (.sds .LANE_STATUS_state) l
def State.laneTracks (s : State) (l : Nat) : Bool := s.lane l = 3 || s.lane l = 4

/-- Lanes of a logical port at the speed in force (R94, R124). -/
def State.portLanes (s : State) (p : Nat) : List Nat :=
  (List.range (speedLanes (s.r 0 (.eth .PORT_STATUS_speed) p))).map (fun i => p + i)

def State.link (s : State) (p : Nat) : Nat := s.r 0 (.eth .PORT_STATUS_link_state) p

def State.linkTo (s : State) (p st : Nat) : State :=
  (s.w 0 (.eth .PORT_STATUS_link_state) st p).wbit 0 (.eth .LINK_SUMMARY_up) p (st = 2)

/-- Release of a FIFO reservation whose frame goes no further. -/
def State.fifoFree (s : State) (p : Nat) : State :=
  { s with eth := { s.eth with
      fifo := alPut s.eth.fifo p ((alGet s.eth.fifo p).getD 0 - s.r 0 (.eth .PORT_CFG_max_frame) p) } }

/-- Exit from Up (R122, R123): counted and logged; a frame in transmission, or one of which fragments have been sent, is aborted;
reassembly and preemption end. -/
def State.leaveUp (s : State) (p st : Nat) (sending : Bool) : State :=
  if s.link p ≠ 2 then s.linkTo p st else
  let s := (s.linkTo p st).bump 0 0x10 22 1 p
  let s := s.logEv 0 0x10 .linkDown [p, st]
  let s := if sending then s.bump 0 0x10 16 1 p else s
  let s := if (alGet s.sch.part p).isSome then
      ({ s with sch := { s.sch with part := alDel s.sch.part p } }).bump 0 0x10 16 1 p else s
  let s := match alGet s.eth.reasm p with
    | none => s
    | some x =>
      let s := { s with eth := { s.eth with reasm := alDel s.eth.reasm p } }
      if x.dropped then s else (s.bump 0 0x10 3 1 p).fifoFree p
  (s.w 0 (.eth .PORT_STATUS_preempt_active) 0 p).w 0 (.eth .PREEMPT_STATUS_verify_state) 0 p

/-- What a port shows of its lanes (R122): lanes_locked; Down while its lanes are Off, Training from when they are not, and from
Local fault once all of them track. -/
def State.portLocked (s : State) (p : Nat) : State :=
  let ls := s.portLanes p
  let mask := (List.range ls.length).foldl (fun a i => if s.laneTracks (p + i) then a + 2 ^ i else a) 0
  let s := s.w 0 (.eth .PORT_STATUS_lanes_locked) mask p
  if ls.all (fun l => s.lane l = 0) then (if s.link p = 0 then s else s.leaveUp p 0 false)
  else if s.link p = 0 || (s.link p = 3 && ls.all s.laneTracks) then s.linkTo p 1
  else s

/-- The enabled logical port that a network lane serves. -/
def State.portOf (s : State) (l : Nat) : Option Nat :=
  (List.range 32).find? (fun p => s.rbit 0 (.eth .PORT_FLAGS_flags) 0 p && (s.portLanes p).contains l)

/-- A lane changes its adaptation state; on entry to Acquire it takes its group's medium (R117). -/
def State.laneTo (s : State) (l st : Nat) : State :=
  let s := s.w 0 (.sds .LANE_STATUS_state) st l
  let s := if st = 1 then
      { s with eth := { s.eth with crkr := if s.rbit 0 (.sds .GROUP_CFG_medium) (l / 4) then
          (if s.eth.crkr.contains l then s.eth.crkr else s.eth.crkr ++ [l]) else s.eth.crkr.filter (· ≠ l) } }
    else s
  let s := if st = 0 ∨ st = 5 then
      (s.w 0 (.sds .LANE_STATUS_cdr_lock) 0 l).w 0 (.sds .LANE_STATUS_signal_detect) 0 l
    else s
  match if l < 32 then s.portOf l else none with
  | some p => s.portLocked p
  | none => s

/-- Lanes leave Off for Acquire when their port is enabled and the mode allows, and go to Off otherwise (R113, R116). -/
def State.lanesFollow (s : State) : State :=
  let run := decide (3 ≤ s.modeNow) && s.modeNow ≠ 0xB
  foldS (fun s l =>
    let want := run && (if l < 32 then (s.portOf l).isSome else s.paired)
    if want && s.lane l = 0 then s.laneTo l 1
    else if !want && s.lane l ≠ 0 then s.laneTo l 0
    else s) (foldS (fun (s : State) p => if !s.rbit 0 (.eth .PORT_FLAGS_flags) 0 p && s.link p ≠ 0 then
      (s.leaveUp p 0 false).w 0 (.eth .PORT_STATUS_lanes_locked) 0 p else s) s (List.range 32)) (List.range 40)

/-- LANE_ACQUIRE_COMPLETE (R116): to Train on a CR/KR lane, to Track on a C2M lane. -/
def execLaneAcquireComplete (lane : Fin 40) (snr : BitVec 10) (s : State) : Out :=
  let l := lane.val
  if s.lane l ≠ 1 then .next s else
  let s := (s.w 0 (.sds .LANE_STATUS_cdr_lock) 1 l).w 0 (.sds .LANE_STATUS_signal_detect) 1 l
  .next ((s.w 0 (.sds .LANE_STATUS_snr) snr.toNat l).laneTo l (if s.eth.crkr.contains l then 2 else 3))

/-- LANE_TRAINING_COMPLETE (R117, R119): LANE_TXEQ shows the result. -/
def execLaneTrainingComplete (lane : Fin 40) (taps : BitVec 30) (s : State) : Out :=
  let l := lane.val
  if s.lane l ≠ 2 then .next s else .next ((s.w 0 (.sds .LANE_TXEQ_taps) taps.toNat l).laneTo l 3)

/-- LANE_TRAINING_TIMEOUT (R117). -/
def execLaneTrainingTimeout (lane : Fin 40) (s : State) : Out :=
  let l := lane.val
  if s.lane l ≠ 2 then .next s else .next ((s.laneTo l 1).logEv 0 0x11 .trainTimeout [l])

/-- LANE_SIGNAL_LOSS (R116, R118): to Fault, with the freeze bits cleared. -/
def execLaneSignalLoss (lane : Fin 40) (s : State) : Out :=
  let l := lane.val
  if !s.laneTracks l then .next s else
  let s := ((s.w 0 (.sds .LANE_CTRL_freeze_ctle) 0 l).w 0 (.sds .LANE_CTRL_freeze_ffe) 0 l).w 0
    (.sds .LANE_CTRL_freeze_dfe) 0 l
  .next ((s.w 0 (.sds .LANE_STATUS_freeze_lost) 1 l).laneTo l 5)

/-- LANE_FAULT_RECOVERY (R116). -/
def execLaneFaultRecovery (lane : Fin 40) (s : State) : Out :=
  if s.lane lane.val = 5 then .next (s.laneTo lane.val 1) else .next s

def State.frozenBits (s : State) (l : Nat) : Bool :=
  s.rb 0 (.sds .LANE_CTRL_freeze_ctle) l || s.rb 0 (.sds .LANE_CTRL_freeze_ffe) l ||
  s.rb 0 (.sds .LANE_CTRL_freeze_dfe) l

/-- The coefficient registers of a lane show a set of coefficients. -/
def State.showCoef (s : State) (l : Nat) (c : LaneCoef) : State :=
  let s := (s.w 0 (.sds .LANE_RXEQ_ctle) c.ctle l).w 0 (.sds .LANE_RXEQ_dfe1) c.dfe l
  foldS (fun s r => s.w 0 (.sds .LANE_FFE_taps) (c.ffe.getD r 0) (l * 8 + r)) s (List.range 8)

/-- LANE_UPDATE_BOUNDARY (R118, R119): `adapted` are the coefficients to which the lane's loops have come. -/
def execLaneUpdateBoundary (lane : Fin 40) (adapted : LaneCoef) (s : State) : Out :=
  let l := lane.val
  let old := (alGet s.eth.live l).getD {}
  -- the parts that are not held take the adapted values; writes made in Frozen replace held values
  let hold := s.lane l = 4
  let held := (alGet s.eth.rxDue l).getD old
  let c : LaneCoef := if hold then
      { ctle := if s.rb 0 (.sds .LANE_CTRL_freeze_ctle) l then held.ctle else adapted.ctle
        dfe := if s.rb 0 (.sds .LANE_CTRL_freeze_dfe) l then held.dfe else adapted.dfe
        ffe := if s.rb 0 (.sds .LANE_CTRL_freeze_ffe) l then held.ffe else adapted.ffe }
    else if s.lane l = 3 then adapted else old
  let s := { s with eth := { s.eth with live := alPut s.eth.live l c, rxDue := alDel s.eth.rxDue l } }
  let s := match alGet s.eth.txDue l with
    | some v => ({ s with eth := { s.eth with txDue := alDel s.eth.txDue l } }).w 0 (.sds .LANE_TXEQ_taps) v l
    | none => s
  let s := if s.eth.snapDue.contains l then
      ({ s with eth := { s.eth with snapDue := s.eth.snapDue.filter (· ≠ l) } }).showCoef l c
    else s
  let s := if s.lane l = 3 && s.frozenBits l then (s.laneTo l 4).showCoef l c
    else if s.lane l = 4 && !s.frozenBits l then s.laneTo l 3
    else if s.lane l = 4 then s.showCoef l c else s
  .next s

/-- LANE_FREEZE_WRITE (R118): it takes effect at the next update boundary. -/
def execLaneFreezeWrite (q : Req) (lane : Fin 40) (ctle ffe dfe : Bool) (s : State) : Out :=
  let l := lane.val
  .next (if !q.secure then s.worldViolation q 0 0x11 (0x1004 + 0x80 * l) true
    else ((s.wb 0 (.sds .LANE_CTRL_freeze_ctle) ctle l).wb 0 (.sds .LANE_CTRL_freeze_ffe) ffe l).wb 0
      (.sds .LANE_CTRL_freeze_dfe) dfe l)

/-- LANE_SNAP (R119). -/
def execLaneSnap (q : Req) (lane : Fin 40) (s : State) : Out :=
  let l := lane.val
  .next (if !q.secure then s.worldViolation q 0 0x11 (0x1004 + 0x80 * l) true
    else { s with eth := { s.eth with snapDue := s.eth.snapDue ++ [l] } })

/-- LANE_RXEQ_WRITE (R119): LANE_RXEQ, or register r of LANE_FFE; only in Frozen. -/
def execLaneRxeqWrite (q : Req) (lane : Fin 40) (ffe : Option (Fin 8)) (v : Word) (s : State) : Out :=
  let l := lane.val
  let old := (alGet s.eth.rxDue l).getD ((alGet s.eth.live l).getD {})
  let c : LaneCoef := match ffe with
    | none => { old with ctle := v.toNat / 256 % 32, dfe := v.toNat % 256 }
    | some r => { old with ffe := (List.range 8).map (fun i => if i = r.val then v.toNat else old.ffe.getD i 0) }
  .next (if !q.secure then s.worldViolation q 0 0x11 (0x100C + 0x80 * l) true
    else if s.lane l = 4 then { s with eth := { s.eth with rxDue := alPut s.eth.rxDue l c } }
    else s.discardState 0 (.sds .LANE_RXEQ_ctle) v.toNat l)

/-- Sum of the tap magnitudes of LANE_TXEQ. -/
def tapSum (v : Nat) : Nat :=
  let m (k : Nat) : Nat := (ofSigned 6 (v / 2 ^ k % 64)).natAbs
  m 24 + m 18 + m 12 + m 0 + v / 64 % 64

/-- LANE_TXEQ_WRITE (R119). -/
def execLaneTxeqWrite (q : Req) (lane : Fin 40) (v : BitVec 30) (s : State) : Out :=
  let l := lane.val
  .next (if !q.secure then s.worldViolation q 0 0x11 (0x1008 + 0x80 * l) true
    else if s.eth.crkr.contains l then s.discardState 0 (.sds .LANE_TXEQ_taps) v.toNat l
    else if 63 < tapSum v.toNat then s
    else { s with eth := { s.eth with txDue := alPut s.eth.txDue l v.toNat } })

/-- SERDES_RECAL_LANE (R121): in an open window of kind 0x04, one lane calibrates in 200 µs; lanes not in Track are
skipped; a window that closes first leaves the pointer at its lane. -/
def execSerdesRecalLane (group : Fin 10) (s : State) : Out :=
  let g := group.val
  match s.tim.windows.find? (fun w => w.die = 0 && w.entry.kind = 4 && w.entry.target = g) with
  | none => .next s
  | some w =>
    if (s.profile 0).recal = 0 || !between 3 s.modeNow 0xA then .next s else
    let v := s.r 0 (.sds .RECAL_STATUS_next)
    let first := v / 2 ^ (2 * g) % 4
    match (List.range 4).find? (fun i => s.lane (4 * g + (first + i) % 4) = 3) with
    | none => .next s
    | some i =>
      let ln := (first + i) % 4
      let done := decide (s.ts64 0 + 200000 ≤ w.closes)
      let nxt := if done then (ln + 1) % 4 else ln
      .next ((if done then s.advance (s.now + 200000) else s).w 0 (.sds .RECAL_STATUS_next)
        (v - first * 2 ^ (2 * g) + nxt * 2 ^ (2 * g)))

/-! ### Links (R122, R123, R135) -/

/-- PORT_LINK_UP (R122): all conditions have held for 2 ms; a port with the preemption flag starts verification. -/
def execPortLinkUp (port : Fin 32) (s : State) : Out :=
  let p := port.val
  if s.rbit 0 (.eth .PORT_FLAGS_flags) 0 p && (s.portLanes p).all s.laneTracks && s.link p ≠ 2 && s.link p ≠ 4 then
    let s := s.linkTo p 2
    if s.rbit 0 (.eth .PORT_FLAGS_flags) 3 p then
      let s := s.w 0 (.eth .PREEMPT_STATUS_verify_state) 1 p
      .next (({ s with eth := { s.eth with verifies := alPut s.eth.verifies p 1 } }).emit (.mpacket p false))
    else .next s
  else .next s

/-- PORT_LINK_FAULT (R122, R123); `sending`: a frame was in transmission, which is aborted. -/
def execPortLinkFault (port : Fin 32) (sending : Bool) (s : State) : Out :=
  let p := port.val
  if s.link p = 2 ∨ s.link p = 4 then .next (s.leaveUp p 3 sending) else .next s

/-- REMOTE_FAULT_RECEIVED (R122): signalling begins, or ends. -/
def execRemoteFaultReceived (port : Fin 32) (ends sending : Bool) (s : State) : Out :=
  let p := port.val
  if ends then (if s.link p = 4 then .next (s.linkTo p 1) else .next s)
  else if s.link p = 0 then .next s
  else .next (s.leaveUp p 4 sending)

/-- FEC_DEGRADE_WINDOW_END (R115): what the window's codewords held, and corrected symbols lane by lane. -/
def execFecDegradeWindowEnd (port : Fin 32) (corrected uncorrected : Nat) (symbols : List Nat) (s : State) : Out :=
  let p := port.val
  let total := symbols.foldl (· + ·) 0
  let s := ((s.bump 0 0x10 19 corrected p).bump 0 0x10 20 uncorrected p).bump 0 0x10 21 total p
  let s := foldS (fun s i =>
    let l := p + i
    let n := symbols.getD i 0
    let v := s.r 0 (.sds .LANE_SYMERR_count) l + n
    let s := (s.w 0 (.sds .LANE_SYMERR_count) v l).bump 0 0x11 0 n l
    if v < 2 ^ 32 then s else s.w 0 (.sds .LANE_STATUS_symerr_wrap) 1 l) s (List.range symbols.length)
  let thr := s.r 0 (.eth .FEC_CFG_deg_thr) p
  let deg := decide (thr ≠ 0) && decide (thr < total)
  let was := s.rb 0 (.eth .PORT_STATUS_fec_degraded) p
  let s := s.wb 0 (.eth .PORT_STATUS_fec_degraded) deg p
  .next (if deg && !was then s.logEv 0 0x10 .fecDegrade [p, total] else s)

/-- PREEMPT_VERIFY_TIMEOUT (R135). -/
def execPreemptVerifyTimeout (port : Fin 32) (s : State) : Out :=
  let p := port.val
  if s.r 0 (.eth .PREEMPT_STATUS_verify_state) p ≠ 1 then .next s else
  let n := (alGet s.eth.verifies p).getD 0
  if n < 3 then
    .next (({ s with eth := { s.eth with verifies := alPut s.eth.verifies p (n + 1) } }).emit (.mpacket p false))
  else .next (((s.w 0 (.eth .PREEMPT_STATUS_verify_state) 3 p).bump 0 0x10 24 1 p).logEv 0 0x10 .verifyFailed [p])

/-- PREEMPT_RESPOND_RECEIVED (R135). -/
def execPreemptRespondReceived (port : Fin 32) (s : State) : Out :=
  let p := port.val
  if s.r 0 (.eth .PREEMPT_STATUS_verify_state) p = 1 then
    .next ((s.w 0 (.eth .PREEMPT_STATUS_verify_state) 2 p).w 0 (.eth .PORT_STATUS_preempt_active) 1 p)
  else .next s

/-! ### Reception (R125-R132) -/

/-- A data port: enabled, with the NVMe-oF data flag (R125). -/
def State.dataPort (s : State) (p : Nat) : Bool :=
  s.rbit 0 (.eth .PORT_FLAGS_flags) 0 p && s.rbit 0 (.eth .PORT_FLAGS_flags) 2 p

/-- The frame's VLAN is accepted (R127). -/
def State.vlanOk (s : State) (p : Nat) (f : RxFrame) : Bool :=
  let v := s.r 0 (.eth .PORT_CFG_vlan) p
  if v = 0 then f.vid = none || f.vid = some 0 else f.vid = some v

/-- A RoCEv2 frame to the port goes to the policer and the switch core (R147, R152, R154; spec/07 R170 for QP 1). -/
def State.roceIn (s : State) (p qp bytes : Nat) (dei err : Bool) : State :=
  let c := qp / 2 ^ 21
  -- Bits 23:21 that name no channel die: there is no switch port for the frame.
  if qp ≠ 1 ∧ 6 ≤ c then s.fifoFree p else
  let host := alGet s.swx.connHost qp
  let bank := s.bank (s.ts64 0)
  let pol := (host.bind (fun h => bank.hosts.find? (fun e => e.id = h))).bind
    (fun e => bank.policers.find? (fun x => x.id = e.policer))
  let (s, col, goes) := s.policeMay pol bytes dei
  if !goes then s.fifoFree p else
    let cm := qp = 1
    let f : SwFrame := { fid := 0, src := p / 8, group := !cm, dest := if cm then 4 + s.r 0 (.swx .STATUS_cm_die) else c,
                         cells := cellsOf bytes, left := cellsOf bytes, bytes := bytes, err := err, colour := col,
                         stamp := s.ts64 0, lport := p, host := host, inPort := some p }
    if !cm && !s.swEnabled (4 + c) then (s.bump 0 0x12 8 f.cells (4 + c)).fifoFree p else
    let (s, ok) := s.swAdmit f (s.r 0 (.eth .PORT_CFG_max_frame) p)
    if ok then s else s.fifoFree p

/-- The checks, the filter and the counting of one whole frame that holds a FIFO reservation. -/
def State.rxWhole (s : State) (p : Nat) (f : RxFrame) : State :=
  let mx := s.r 0 (.eth .PORT_CFG_max_frame) p
  let present := s.dataPort p && s.dataPresence
  let count (i : Nat) : State := s.bump 0 0x10 i 1 p
  let bad := f.errBlock || !f.fcsOk
  let marked (i : Nat) : State := match f.kind with
    | .roce true qp =>
      if present && s.vlanOk p f then (count i).roceIn p qp (min f.bytes mx) f.dei true else (count i).fifoFree p
    | _ => (count i).fifoFree p
  let okay (k : State → State) : State := k ((count 0).bump 0 0x10 1 f.bytes p)
  if mx < f.bytes then marked 4
  else if f.bytes < 64 then (count (if f.fcsOk then 5 else 6)).fifoFree p
  else if bad then marked 7
  else if !s.vlanOk p f then (count 8).fifoFree p
  else match f.kind with
    | .macControl => (count 9).fifoFree p
    | .ptpUnsupported => if s.rbit 0 (.eth .PORT_FLAGS_flags) 1 p then (count 10).fifoFree p else (count 11).fifoFree p
    | .ptp => if s.rbit 0 (.eth .PORT_FLAGS_flags) 1 p then (okay id).fifoFree p else (count 11).fifoFree p
    | .arp true | .nd true =>
      if present then okay (fun s => ((s.bump 0 0x10 23 1 p).emit (.arpNd p true)).fifoFree p)
      else (count 11).fifoFree p
    | .roce true qp => if present then okay (fun s => s.roceIn p qp f.bytes f.dei false) else (count 11).fifoFree p
    | _ => (count 11).fifoFree p

/-- Reserve max_frame bytes of FIFO space at the start of a frame (R130), or say that it does not fit. -/
def State.fifoReserve (s : State) (p : Nat) : Option State :=
  let mx := s.r 0 (.eth .PORT_CFG_max_frame) p
  let used := (alGet s.eth.fifo p).getD 0
  if 32768 * speedLanes (s.r 0 (.eth .PORT_STATUS_speed) p) < used + mx then none
  else some { s with eth := { s.eth with fifo := alPut s.eth.fifo p (used + mx) } }

/-- FRAME_RECEIVED (R125). -/
def execFrameReceived (port : Fin 32) (f : RxFrame) (s : State) : Out :=
  let p := port.val
  if s.link p ≠ 2 then .next s else
  if f.kind = .verify then
    if s.rbit 0 (.eth .PORT_FLAGS_flags) 3 p then .next (s.emit (.mpacket p true)) else .next (s.bump 0 0x10 3 1 p)
  else match s.fifoReserve p with
    | none => .next (s.bump 0 0x10 2 1 p)
    | some s => .next (s.rxWhole p f)

/-- FRAGMENT_RECEIVED (R135, R137): a start or continuation fragment; `last` ends the frame, which is then `f`. -/
def execFragmentReceived (port : Fin 32) (start : Bool) (frag : Fin 4) (bytes : Nat) (crcOk last : Bool) (f : RxFrame)
    (s : State) : Out :=
  let p := port.val
  if s.link p ≠ 2 then .next s else
  let err (s : State) : State := s.bump 0 0x10 3 1 p
  if !s.rbit 0 (.eth .PORT_FLAGS_flags) 3 p then .next (err s) else
  let s := s.bump 0 0x10 12 1 p
  let drop (s : State) : State := (({ s with eth := { s.eth with reasm := alDel s.eth.reasm p } })).fifoFree p
  let step (s : State) (n total : Nat) : State :=
    if last then (({ s with eth := { s.eth with reasm := alDel s.eth.reasm p } })).rxWhole p { f with bytes := total }
    else { s with eth := { s.eth with reasm := alPut s.eth.reasm p { next := n, bytes := total } } }
  match start, alGet s.eth.reasm p with
  | true, old =>
    let s := match old with
      | some x => if x.dropped then s else drop (err s)
      | none => s
    match s.fifoReserve p with
    | none =>
      -- The whole frame is discarded: its other fragments are no frame's.
      .next (({ s with eth := { s.eth with reasm := if last then alDel s.eth.reasm p else alPut s.eth.reasm p { next := 0, bytes := 0, dropped := true } } }).bump
        0 0x10 2 1 p)
    | some s => if crcOk then .next (step s 0 bytes) else .next (drop (err s))
  | false, none => .next (err s)
  | false, some x =>
    if x.dropped then .next (if last then { s with eth := { s.eth with reasm := alDel s.eth.reasm p } } else s)
    else if !crcOk || frag.val ≠ x.next then .next (drop (err s))
    else .next (step s ((x.next + 1) % 4) (x.bytes + bytes))

/-- The announcements of R128 on every data port. -/
def State.announce (s : State) : State :=
  foldS (fun s p => if s.dataPort p && s.link p = 2 then s.emit (.arpNd p false) else s) s (List.range 32)

/-- On gaining data presence, the announcements are sent, and two repeats are due (R128). -/
def State.gainPresence (s : State) : State :=
  let s := s.announce
  { s with eth := { s.eth with gratLeft := 2, gratAt := s.now + 10000000 } }

/-- GRATUITOUS_REPEAT (R128). -/
def execGratuitousRepeat (s : State) : Out :=
  if s.eth.gratLeft = 0 || !s.dataPresence then .next s else
  let s := (s.advance s.eth.gratAt).announce
  .next { s with eth := { s.eth with gratLeft := s.eth.gratLeft - 1, gratAt := s.eth.gratAt + 10000000 } }

/-- ETH_SNAPSHOT (R139). -/
def execEthSnapshot (q : Req) (port : Fin 32) (s : State) : Out :=
  .next ((s.w 0 (.eth .SNAP_CTRL_port) port.val).snapshot 0 0x10 q.secure (s.counters 0 0x10 25 port.val)
    (.eth .SNAP_CTRL_done))

end Sys2Proof.Machine
end

