-- ==== Sys2Proof/Machine/EpBase.lean ====
section
/-! DEFINITION. The endpoint's function registers and wake events (spec/18 R524, R526). -/

set_option Elab.async false

namespace Sys2Proof.Machine

def State.setEp (s : State) (e : EpState) : State := { s with ep := e }
def State.epfBump (s : State) (i : Nat) (n : Nat := 1) : State := s.bump 0 0x15 i n
/-- A function of the endpoint exists (R510). -/
def State.fnExists (s : State) (f : Nat) : Bool := decide (f ≤ s.r 0 (.epf .STATUS_num_vfs))
def State.fnConfigured (s : State) (f : Nat) : Bool := s.rb 0 (.epf .F_CFG_enabled) f

/-- A wake event (R526): PM_PME in D3hot, leaving L1 first, EP_WAKE_N in D3cold. -/
def State.epWake (s : State) (f : Nat) : State :=
  let cold := s.rb 0 (.epf .STATUS_perst)
  if !s.ep.pmeEn.contains f || !(cold || s.r 0 (.epf .F_STATE_dstate) f = 3) then s else
    let s := s.setEp { s.ep with pmeStatus := if s.ep.pmeStatus.contains f then s.ep.pmeStatus else s.ep.pmeStatus ++ [f] }
    let s := (s.epfBump 13).ev 0 (.epf .EVENTS_wake)
    if cold then (s.w 0 (.epf .STATUS_wake) 1).emit (.pin "EP_WAKE_N" false)
    else (if 4 ≤ s.r 0 (.epf .STATUS_link_state) then s.w 0 (.epf .STATUS_link_state) 2 else s).emit (.epPme f)

end Sys2Proof.Machine
end

