-- ==== Sys2Proof/Machine/CmdBase.lean ====
section
/-! DEFINITION. The tables of the command engine (spec/08), the outcome store of Orphaned commands, and the deferred
range table (R249-R251). -/

set_option Elab.async false

namespace Sys2Proof.Machine

/-! ### Statuses (R252), as SCT × 256 + SC -/

def stOk : Nat := 0
def stUnavailable : Nat := 0x7C0
def stRecovering : Nat := 0x7C1
def stMaintenance : Nat := 0x7C2
def stDeferred : Nat := 0x7C3
def stOtherChannel : Nat := 0x7C4
def stResumeRefused : Nat := 0x7C5
def stPushRefused : Nat := 0x7C6
def stAborted : Nat := 0x007
def stBadOpcode : Nat := 0x001
def stBadField : Nat := 0x002
def stDataTransfer : Nat := 0x004
def stBadNamespace : Nat := 0x00B
def stSglLength : Nat := 0x00F
def stSglType : Nat := 0x011
def stWriteProtected : Nat := 0x020
def stLbaRange : Nat := 0x080
def stNotReady : Nat := 0x082
def stResvConflict : Nat := 0x083
def stReadError : Nat := 0x281
def stAccessDenied : Nat := 0x286
def stConnBusy : Nat := 0x181
def stConnParams : Nat := 0x182
def stConnHost : Nat := 0x184
/-- Statuses that spec/09 names and the NVMe base specification numbers. -/
def stFormatInProgress : Nat := 0x084
def stSanitizeFailed : Nat := 0x01C
def stSanitizeInProgress : Nat := 0x01D
def stHostIdFormat : Nat := 0x018
def stInvalidFormat : Nat := 0x10A
def stLogPage : Nat := 0x109
def stAerLimit : Nat := 0x105

/-! ### Tables -/

def State.cd (s : State) (d : Nat) : CmdDie := (alGet s.cmd.dies d).getD {}
def State.setCd (s : State) (d : Nat) (c : CmdDie) : State :=
  { s with cmd := { s.cmd with dies := alPut s.cmd.dies d c } }
def State.slot (s : State) (d k : Nat) : CmdSlot := (alGet (s.cd d).slots k).getD {}

/-- A counter of the CMD block. -/
def State.cmdBump (s : State) (d i : Nat) (n : Nat := 1) : State := s.bump d 0x21 i n

/-- Used slots and held outcomes are shown in STATUS, saturating. -/
def State.cmdShow (s : State) (d : Nat) : State :=
  let sl := (s.cd d).slots
  (s.w d (.cmd .STATUS_slots_used) (min sl.length 0xFFFF)).w d (.cmd .STATUS_orphans)
    (min (sl.filter (fun x => x.2.state = 6)).length 0xFFFF)

def State.setSlot (s : State) (d k : Nat) (v : CmdSlot) : State :=
  let c := s.cd d
  (s.setCd d { c with slots := alPut c.slots k v }).cmdShow d

/-- A slot becomes Free. -/
def State.freeSlot (s : State) (d k : Nat) : State :=
  let c := s.cd d
  (s.setCd d { c with slots := alDel c.slots k }).cmdShow d

/-- The lowest Free slot of a die's 32,768. -/
def State.newSlot (s : State) (d : Nat) : Option Nat :=
  let used := (s.cd d).slots.map (·.1)
  (List.range (min (used.length + 1) 32768)).find? (fun k => !used.contains k)

/-- The queue of a connection. -/
def State.queueOf (s : State) (d conn : Nat) : Option NvmQueue := (s.cd d).queues.find? (fun q => q.conn = conn)

/-- Controllers, by controller ID. -/
def State.ctrl (s : State) (d id : Nat) : Option Ctrl := alGet (s.cd d).ctrls id
def State.setCtrl (s : State) (d id : Nat) (c : Ctrl) : State :=
  let x := s.cd d
  s.setCd d { x with ctrls := alPut x.ctrls id c }
/-- The controller ID of a host on a channel die (R205). -/
def ctrlId (d host : Nat) : Nat := 0x1000 * d + host

/-- Endpoint connections carry generation 0 (spec/18 R515). -/
def isEp (conn : Nat) : Bool := conn / 4096 % 512 = 0
/-- The function of an endpoint connection. -/
def epFn (conn : Nat) : Nat := conn / 64 % 64

/-- Write-class, in the sense of R212. -/
def writeClass (op : Nat) : Bool := op = 1 || op = 8 || op = 9

/-- The Mirror condition in force for a channel (spec/02 R38, spec/15 R431). -/
def State.mirrored (s : State) (d : Nat) : Bool :=
  s.modeNow = 5 && s.paired && s.r mdId (.pair .STATUS_mirror) = 1 && !s.rb d (.pair .CD_STATUS_partner_failed)

/-- A channel die is present and runs: neither in reset nor held out (spec/23, RST.DIE_STATE). -/
def State.cdUp (s : State) (d : Nat) : Bool :=
  decide (1 ≤ d) && decide (d ≤ s.channels) && s.r mdId (.rst .DIE_STATE_dies) / 2 ^ (4 * d) % 4 = 0

/-- A command to the engines of a channel die: without effect on one that is absent or does not run, and in Quarantine, which
holds every engine (spec/02 R43). -/
def onCd (d : Nat) (s : State) (f : State → State) : Out := .next (if s.cdUp (cdId d) && s.modeNow ≠ 0xB then f s else s)
/-- An event at the root ports of a channel die: in Quarantine they run until they too are held (spec/02 R43). -/
def onRoot (d : Nat) (s : State) (f : State → State) : Out := .next (if s.cdUp (cdId d) && !(s.modeNow = 0xB && s.mode.rootsHeld) then f s else s)
/-- A write of a register of a channel die that runs. -/
def onDie (d : Nat) (s : State) (f : State → State) : Out := .next (if s.cdUp (cdId d) then f s else s)

/-- The contents of a connection context's and a region entry's image, as a table event carries them (spec/15 R429). -/
def connImage (c : Conn) : List Nat :=
  let f := c.f
  [c.gen, f.remoteQpn, f.host, f.pd, f.flags, f.pmtu, f.paths, f.slotLimit, f.epsn, f.txNext, f.ackTimeout, f.retryCnt, f.rnrRetry,
   f.rnrTimer, f.tclass, f.port, f.destMac, f.remoteIp] ++ f.udpSrc
def regionImage (r : Region) : List Nat := [r.tag, r.f.flags, r.f.pd, r.f.base, r.f.length, r.f.conn]

/-- A table event goes to the partner while it mirrors or is seeded (spec/15 R429); a connection or region keeps its number. -/
def State.tableEvent (s : State) (d event a : Nat) : State :=
  if s.mirrored d || (s.modeNow = 5 && s.rb mdId (.pair .STATUS_seeding)) then
    let n := (alGet s.rdx.tableSeq d).getD 0 + 1
    let x := s.rdx
    let i := a % 4096
    let s := { s with rdx := { x with
      tableSeq := alPut x.tableSeq d n
      conns := if event = 1 then x.conns.map (fun (e : (Nat × Nat) × Conn) => if e.1 = (d, i) then (e.1, { e.2 with evSeq := n }) else e) else x.conns
      regions := if event = 3 then x.regions.map (fun (e : (Nat × Nat) × Region) => if e.1 = (d, a) then (e.1, { e.2 with evSeq := n }) else e)
        else x.regions } }
    (s.pairBump d 0).sendPartner 6 (d - 1) ([n, event, a] ++ (if event = 1 then connImage ((alGet x.conns (d, i)).getD {})
      else if event = 3 then regionImage ((alGet x.regions (d, a)).getD {}) else []))
  else s

/-! ### The Sponge's tables and the Crumb ring (spec/10) -/

def State.sp (s : State) (d : Nat) : SpgDie := (alGet s.spg.dies d).getD {}
def SpgDie.dirtyCount (x : SpgDie) : Nat := (x.index.filter (·.dirty)).length + x.reserved

/-- The dirty ceiling in blocks (R287), and the fixed numbers of the stack (R277). -/
def State.ceiling (s : State) (d : Nat) : Nat := 256 * s.r d (.spg .DIRTY_CEILING_limit_mib)
def dataSlots : Nat := 1048576
def SpgDie.freeSlots (x : SpgDie) : Nat := dataSlots - x.index.length - x.reserved

/-- The Sponge's counts are shown in its registers; the arbiter's destage boost follows D (R307). -/
def State.setSp (s : State) (d : Nat) (x : SpgDie) : State :=
  let s := { s with spg := { s.spg with dies := alPut s.spg.dies d x } }
  ((((s.w d (.spg .STATUS_slots_free) x.freeSlots).w d (.spg .DIRTY_blocks) x.dirtyCount).w d
    (.spg .INDEX_entries_used) x.index.length)).wb d (.arb .STATUS_boost)
    (decide (3 * s.ceiling d ≤ 4 * x.dirtyCount) && decide (0 < x.dirtyCount))

def State.crumbNext (s : State) (d : Nat) : Nat := max 1 (s.r d (.spg .CRUMB_NEXT))

/-- Oldest unretired seq, and occupancy (R294). -/
def State.crumbHead (s : State) (d : Nat) : Nat :=
  match (s.sp d).ring.find? (fun r => !r.retired) with
  | some r => r.c.seq
  | none => s.crumbNext d
def State.crumbOcc (s : State) (d : Nat) : Nat := s.crumbNext d - s.crumbHead d

/-- The head and the pressure event follow the ring (R294, R297). -/
def State.crumbShow (s : State) (d : Nat) : State :=
  let x := s.sp d
  let s := s.setSp d { x with ring := x.ring.dropWhile (·.retired) }
  let s := (s.w d (.spg .CRUMB_HEAD) (s.crumbHead d))
  if 917504 ≤ s.crumbOcc d then s.ev d (.spg .EVENTS_crumb_pressure) else s

def State.ringCrumb (s : State) (d seq : Nat) : Option RingCrumb := (s.sp d).ring.find? (fun r => r.c.seq = seq)
def State.mapRing (s : State) (d : Nat) (f : RingCrumb → RingCrumb) : State :=
  let x := s.sp d
  s.setSp d { x with ring := x.ring.map f }

/-- A Crumb retires. -/
def State.retireCrumb (s : State) (d seq : Nat) : State :=
  (s.mapRing d (fun r => if r.c.seq = seq then { r with retired := true } else r)).crumbShow d

/-- The hold of commands with these Crumbs has ended: kinds 0x04 and 0x05 retire, write-class Crumbs may (R224, R295). -/
def State.holdOver (s : State) (d : Nat) (seqs : List Nat) : State :=
  (s.mapRing d (fun r => if seqs.contains r.c.seq then
    { r with chainDone := true, retired := r.retired || r.c.kind = 4 || r.c.kind = 5 } else r)).crumbShow d

/-! ### Outcomes (R220, R243) -/

/-- A slot becomes Orphaned, its outcome held; a full store drops the oldest outcome. -/
def State.orphan (s : State) (d k : Nat) : State :=
  let x := s.slot d k
  let orphans := (s.cd d).slots.filter (fun e => e.2.state = 6)
  let s := if orphans.length < 32768 then s else
    match orphans.foldl (fun (m : Option (Nat × CmdSlot)) e => match m with
        | none => some e
        | some y => if e.2.orphanAt.getD 0 < y.2.orphanAt.getD 0 then some e else m) none with
    | none => s
    | some old =>
      let c := s.cd d
      let s := s.setCd d { c with tokens := c.tokens.map (fun t => if t.conn = old.2.conn then { t with evicted := true } else t) }
      (((s.holdOver d old.2.seqs).freeSlot d old.1).cmdBump d 18).ev d (.cmd .EVENTS_orphan_evicted)
  s.setSlot d k { x with state := 6, orphanAt := some s.now, holdNs := 1000000 * s.r d (.cmd .CFG_dup_window_ms) }

/-- The completion chain of a command fires (R219). -/
def State.slotFires (s : State) (d k : Nat) : State :=
  let x := s.slot d k
  if x.state = 3 ∨ x.state = 4 then s.setSlot d k { x with state := 5, status := some (x.status.getD stOk) } else s

/-- The completion chain of a command failed: a command whose outcome is reached becomes Orphaned (R220). -/
def State.slotChainFailed (s : State) (d k : Nat) : State :=
  let x := s.slot d k
  if x.state = 5 ∨ x.state = 4 then s.orphan d k else s

/-! ### Asynchronous events (spec/09 R260) -/

/-- An event reaches a controller: it completes an outstanding request, or waits for one. -/
def State.asyncEvent (s : State) (d id : Nat) (e : AsyncEvent) : State :=
  match s.ctrl d id with
  | none => s
  | some c =>
    match c.aers with
    | [] =>
      let s := s.setCtrl d id { c with events := c.events ++ [e] }
      if 0x7000 ≤ id then s.epWake (id - 0x7000) else s
    | k :: rest =>
      let s := s.setCtrl d id { c with aers := rest }
      let x := s.slot d k
      (s.freeSlot d k).emit (.completion d x.conn x.cap.cid stOk (e.kind + 256 * e.info + 65536 * e.page) 0)

/-- The controllers of hosts that hold any right on a namespace, on every channel die. -/
def State.ctrlsOf (s : State) (nsid : Nat) : List (Nat × Nat) :=
  let acc := (s.img.active.getD {}).access
  (s.cds.map (fun c => ((s.cd (cdId c)).ctrls.filter (fun e =>
    acc.any (fun a => a.host = e.2.host && a.nsid = nsid && a.rights ≠ 0))).map (fun e => (cdId c, e.1)))).flatten

/-! ### The deferred range table (R249-R251) -/

def DeferEntry.covers (x : DeferEntry) (nsid lba : Nat) : Bool :=
  x.nsid = nsid && (x.whole || (decide (x.slba ≤ lba) && decide (lba < x.slba + x.nlb)))

def State.deferShow (s : State) (d : Nat) : State :=
  s.w d (.cmd .DEFER_STATUS_entries) (s.cd d).defer.length

/-- A record of log page 0xD0 and its asynchronous event (R251). -/
def State.deferLogged (s : State) (d : Nat) (x : DeferEntry) : State :=
  let rec_ : DeferRec := ⟨s.cmd.deferSeq, d, x, false⟩
  let log := s.cmd.deferLog ++ [rec_]
  let s := { s with cmd := { s.cmd with
    deferSeq := s.cmd.deferSeq + 1
    deferDropped := s.cmd.deferDropped || decide (256 < log.length)
    deferLog := log.drop (log.length - 256) } }
  let s := s.logEv d 0x21 .deferredRange [x.nsid, x.cause, x.slba, x.nlb]
  foldS (fun s (p : Nat × Nat) =>
    match s.ctrl p.1 p.2 with
    | some c => if c.aeMask.testBit 31 then s.asyncEvent p.1 p.2 ⟨7, 0, 0xD0⟩ else s
    | none => s) s (s.ctrlsOf x.nsid)

/-- Positions that hold a copy of the group record (spec/11 R328). -/
def Group.holders (x : Group) : List Nat :=
  ((List.range x.n).filter (fun p => let c := x.states.getD p 5; c ≠ 1 && c ≠ 2 && c ≠ 5)).take
    (if x.layout = 4 then 3 else 2)

def State.dieGroups (s : State) (d : Nat) : List (Nat × Group) :=
  (s.grp.groups.filter (fun e => e.1.1 = d && e.2.configured)).map (fun e => (e.1.2, e.2))

/-- The header and each changed page of the deferred range table go to the copy holders of every group of the channel, the lowest
first; the others follow when that copy has completed (spec/13 R381). -/
def State.deferWrite (s : State) (d : Nat) (old : List DeferEntry) : State :=
  let new := (s.cd d).defer
  let pages := (List.range (max old.length new.length / 64 + 1)).filter (fun p => (old.drop (64 * p)).take 64 ≠ (new.drop (64 * p)).take 64)
  if pages.isEmpty then s else
  foldS (fun (s : State) (e : Nat × Group) =>
    match e.2.holders with
    | [] => s
    | p :: _ => foldS (fun (s : State) lba => s.drvIssue d ((e.2.serving.getD p none).getD 0) 1 lba 1 { kind := 11, a := e.1, b := 2 * lba } p) s
        (768 :: pages.map (769 + ·))) s (s.dieGroups d)

/-- Record a deferred range: merged with one it touches of the same namespace and cause; a full table widens. -/
def State.deferRange (s : State) (d nsid cause slba nlb from_ to_ : Nat) (whole : Bool := false) : State :=
  let c := s.cd d
  let x : DeferEntry := ⟨nsid, cause, whole, if whole then 0 else slba, if whole then 0 else nlb, from_, to_, s.ts64 d, s.cmd.deferSeq⟩
  let touch := fun (y : DeferEntry) => y.nsid = nsid && y.cause = cause &&
    (y.whole || whole || (decide (y.slba ≤ slba + nlb) && decide (slba ≤ y.slba + y.nlb)))
  let old := c.defer.filter touch
  let rest := c.defer.filter (fun y => !touch y)
  let merged := old.foldl (fun (a y : DeferEntry) =>
    let w := a.whole || y.whole
    let lo := min a.slba y.slba
    let hi := max (a.slba + a.nlb) (y.slba + y.nlb)
    { a with whole := w, slba := if w then 0 else lo, nlb := if w then 0 else hi - lo,
             from_ := min a.from_ y.from_, to_ := max a.to_ y.to_ }) x
  let s :=
    if old.isEmpty && decide (8192 ≤ rest.length) then
      let keep := rest.filter (fun y => y.nsid ≠ nsid)
      let s := s.setCd d { c with defer := (keep ++ [{ x with whole := true, slba := 0, nlb := 0 }]).take 8192 }
      ((s.w d (.cmd .DEFER_STATUS_widened) 1).cmdBump d 23).ev d (.cmd .EVENTS_defer_full)
    else s.setCd d { c with defer := rest ++ [merged] }
  (((s.deferShow d).ev d (.cmd .EVENTS_defer_new)).deferWrite d c.defer).deferLogged d x

/-- Clear the marks of a range of a namespace (R250); a split that finds no entry leaves the entry in force.  Log
records whose range is cleared completely are flagged (spec/09 R261). -/
def State.deferClear (s : State) (d nsid slba nlb : Nat) (whole : Bool := false) : State :=
  let c := s.cd d
  let size := (((s.img.active.getD {}).namespaces.find? (fun n => n.nsid = nsid)).map (·.size)).getD 0
  let cut := fun (acc : List DeferEntry) (y : DeferEntry) =>
    if y.nsid ≠ nsid then acc ++ [y]
    else if whole then acc
    else
      -- A whole-namespace entry marks every block of the namespace.
      let a := if y.whole then 0 else y.slba
      let b := if y.whole then size else y.slba + y.nlb
      let lo := slba
      let hi := slba + nlb
      let left : DeferEntry := { y with whole := false, slba := a, nlb := lo - a }
      let right : DeferEntry := { y with whole := false, slba := hi, nlb := b - hi }
      if hi ≤ a ∨ b ≤ lo then acc ++ [y]
      else if lo ≤ a ∧ b ≤ hi then acc
      else if 2 ^ 32 ≤ lo - a ∨ 2 ^ 32 ≤ b - hi then acc ++ [y]
      else if a < lo ∧ hi < b then
        if c.defer.length < 8192 then acc ++ [left, right] else acc ++ [y]
      else if a < lo then acc ++ [left]
      else acc ++ [right]
  let s := s.setCd d { c with defer := c.defer.foldl cut [] }
  let s := { s with cmd := { s.cmd with deferLog := s.cmd.deferLog.map (fun (r : DeferRec) =>
    if r.die = d && r.range.nsid = nsid &&
        (whole || (!r.range.whole && decide (slba ≤ r.range.slba) && decide (r.range.slba + r.range.nlb ≤ slba + nlb)))
    then { r with cleared := true } else r) } }
  (s.deferShow d).deferWrite d c.defer

/-- The lowest marked LBA that a read touches. -/
def State.deferHit (s : State) (d nsid slba nlb : Nat) : Option Nat :=
  ((List.range nlb).map (fun i => slba + i)).find? (fun l => (s.cd d).defer.any (fun y => y.covers nsid l))

end Sys2Proof.Machine
end

