-- ==== Sys2Proof/Machine/Rdma.lean ====
section
/-! DEFINITION. Operations of the RDMA transport (spec/07): contexts, acknowledgements, entry to Error, region checks,
retirement, chains. -/

set_option Elab.async false

namespace Sys2Proof.Machine

/-! ### Contexts, regions and chains in their tables -/

/-- Values drawn after a COLD reset: a context's generation 1-511 and an entry's key tag (R203). -/
def State.coldGen (s : State) (d i : Nat) : Nat := 1 + Config.drbg s.rdx.colds (d * 65536 * 2 + i) % 511
def State.coldTag (s : State) (d i : Nat) : Nat := Config.drbg s.rdx.colds (d * 65536 * 2 + 65536 + i) % 65536

def State.conn (s : State) (d i : Nat) : Conn :=
  match alGet s.rdx.conns (d, i) with
  | some c => c
  | none => { gen := s.coldGen d i }

def State.setConn (s : State) (d i : Nat) (c : Conn) : State :=
  { s with rdx := { s.rdx with conns := alPut s.rdx.conns (d, i) c } }

def State.region (s : State) (d i : Nat) : Region :=
  match alGet s.rdx.regions (d, i) with
  | some r => r
  | none => { tag := s.coldTag d i }

def State.setRegion (s : State) (d i : Nat) (r : Region) : State :=
  { s with rdx := { s.rdx with regions := alPut s.rdx.regions (d, i) r } }

def State.chain (s : State) (d n : Nat) : Chain := (alGet s.rdx.chains (d, n)).getD {}
def State.setChain (s : State) (d n : Nat) (c : Chain) : State :=
  { s with rdx := { s.rdx with chains := alPut s.rdx.chains (d, n) c } }

/-- A connection number's fields (R172), and the number of a context. -/
def connIdx (qp : Nat) : Nat := qp % 4096
def connGen (qp : Nat) : Nat := qp / 4096 % 512
def connNum (d i gen : Nat) : Nat := (d - 1) * 2 ^ 21 + gen * 4096 + i

/-- A counter of the RDX block. -/
def State.rdxBump (s : State) (d i : Nat) (n : Nat := 1) : State := s.bump d 0x20 i n

/-- Open contexts and used slots are shown in STATUS. -/
def State.rdxStatus (s : State) (d : Nat) : State :=
  let open_ := (s.rdx.conns.filter (fun e => e.1.1 = d && e.2.state ≠ 0)).length
  let used := (s.rdx.conns.map (fun e => if e.1.1 = d then e.2.slots.length else 0)).foldl (· + ·) 0
  (s.w d (.rdx .STATUS_contexts_open) open_).w d (.rdx .STATUS_slots_used) used

def pmtuBytes (code : Nat) : Nat := match code with
  | 3 => 1024
  | 4 => 2048
  | _ => 4096

/-! ### What is sent back -/

/-- Frame bytes of an acknowledgement, a NAK or a CNP. -/
def ackFrameBytes : Nat := 86

/-- A frame of a connection crosses the switch core to its logical port. -/
def State.rdmaOut (s : State) (d : Nat) (c : Conn) (bytes : Nat) : State :=
  s.swInject (3 + d) (c.f.port / 8) bytes c.f.port (some c.f.host) c.f.tclass

/-- An acknowledgement of PSN epsn − 1 (R177). -/
def State.sendAck (s : State) (d i : Nat) : State :=
  let c := s.conn d i
  let s := s.setConn d i { c with unacked := 0, ackDue := none }
  let s := (s.rdxBump d 18).emit (.rdmaAck d (connNum d i c.gen) 0 ((c.epsn + (2 ^ 24 - 1)) % 2 ^ 24) c.rxMsn)
  s.rdmaOut d c ackFrameBytes

/-- A NAK: 1 RNR, 2 PSN sequence error, 3 invalid request, 4 remote access error. -/
def State.sendNak (s : State) (d i syn psn : Nat) : State :=
  let c := s.conn d i
  ((s.rdxBump d 19).emit (.rdmaAck d (connNum d i c.gen) syn psn c.rxMsn)).rdmaOut d c ackFrameBytes

/-- The answer to a duplicate, at most once in ack_delay_ns (R177). -/
def State.dupAck (s : State) (d i : Nat) : State :=
  let c := s.conn d i
  let ok := match c.dupAckAt with
    | none => true
    | some t => decide (t + s.r d (.rdx .CFG_ack_delay_ns) ≤ s.now)
  if ok then (s.setConn d i { c with dupAckAt := some s.now }).sendAck d i else s

/-- A packet marked CE draws a CNP, rate limited (R180). -/
def State.ceMark (s : State) (d i : Nat) : State :=
  let c := s.conn d i
  let ok := match c.cnpAt with
    | none => true
    | some t => decide (t + 1000 * s.r d (.rdx .CC_CFG_cnp_interval_us) ≤ s.now)
  if ok then
    (((s.setConn d i { c with cnpAt := some s.now }).rdxBump d 20).emit (.cnp d (connNum d i c.gen))).rdmaOut d c
      ackFrameBytes
  else s

/-! ### Chains (R195-R200) -/

/-- A chain enters Failed: counted, shown in EVENTS, pushed into RDX.CHAIN_FAIL when it signals (R200). -/
def State.chainFailed (s : State) (d n : Nat) : State :=
  let c := s.chain d n
  let s := ((s.setChain d n { c with state := 5 }).rdxBump d 23).ev d (.rdx .EVENTS_chain_failed)
  if !c.hdr.flags.testBit 0 then s else
    let s := s.slotChainFailed d n
    let q := alList s.rdx.chainFail d
    if q.length < 256 then
      (({ s with rdx := { s.rdx with chainFail := alPut s.rdx.chainFail d (q ++ [n]) } }).w d (.rdx .CHAIN_FAIL_valid) 1).w d
        (.rdx .CHAIN_FAIL_chain) ((q ++ [n]).headD 0)
    else s.w d (.rdx .CHAIN_FAIL_lost) 1

/-- A trigger arrives for a chain (R197): it counts, or it is stray. A chain whose count is complete fires (R199);
its connection must be in RTS or Drain. A doorbell must also carry the doorbell_key. -/
def State.chainTrigger (s : State) (d n kind key : Nat) : State :=
  let c := s.chain d n
  let bell := decide (kind ≠ 3) || c.hdr.doorbellKey = key
  let is0 := bell && c.hdr.kind0 = kind && !c.got0 && c.hdr.key0 = key
  let is1 := bell && decide (c.hdr.armCount = 2) && c.hdr.kind1 = kind && !c.got1 && c.hdr.key1 = key
  if c.state = 1 && (is0 || is1) then
    let c := if is0 then { c with got0 := true } else { c with got1 := true }
    let full := c.got0 && (decide (c.hdr.armCount = 1) || c.got1) || (decide (c.hdr.armCount = 1) && c.got1)
    if full then
      let s := (s.setChain d n { c with state := 2 }).rdxBump d 22
      let st := (s.conn d (connIdx c.hdr.conn)).state
      let s := if c.hdr.flags.testBit 0 then s.slotFires d n else s
      if st = 2 ∨ st = 3 ∨ (isEp c.hdr.conn ∧ (s.queueOf d c.hdr.conn).isSome) then s else s.chainFailed d n
    else s.setChain d n c
  else (s.rdxBump d 24).ev d (.rdx .EVENTS_stray)

/-- Chains of a connection that are Armed or Firing. -/
def State.liveChains (s : State) (d conn : Nat) : List Nat :=
  (s.rdx.chains.filter (fun e => e.1.1 = d && e.2.hdr.conn = conn && (e.2.state = 1 || e.2.state = 2))).map (·.1.2)

/-- Armed chains of some dies that still wait for kind 0x2 take it (R198). -/
def State.releaseChains (s : State) (p : Nat → Bool) : State :=
  foldS (fun s (e : (Nat × Nat) × Chain) =>
    if e.2.state ≠ 1 || !p e.1.1 then s
    else if e.2.hdr.kind0 = 2 && !e.2.got0 then s.chainTrigger e.1.1 e.1.2 2 e.2.hdr.key0
    else if e.2.hdr.armCount = 2 && e.2.hdr.kind1 = 2 && !e.2.got1 then s.chainTrigger e.1.1 e.1.2 2 e.2.hdr.key1
    else s) s s.rdx.chains

/-- The mirror condition becomes Unmirrored (R198). -/
def State.releaseMirror (s : State) : State := s.releaseChains (fun _ => true)

/-- Entry to Error (R202): slots freed, chains Failed, packets not sent abandoned; `hw`: by hardware.  A message that has
retired is still delivered once the placements before it are confirmed (R176, R192). -/
def State.connError (s : State) (d i : Nat) (hw : Bool) : State :=
  let c := s.conn d i
  let s := s.setConn d i { c with state := 4, slots := [], sent := [], msg := none, ackDue := none }
  let s := if hw then (s.rdxBump d 25).ev d (.rdx .EVENTS_conn_error) else s
  -- A Resume hold starts for the connection's token (spec/08 R246).
  let cn := connNum d i c.gen
  let x := s.cd d
  let s := s.setCd d { x with tokens := x.tokens.map (fun t => if t.conn = cn && t.holdFrom.isNone then { t with holdFrom := some s.now, holdNs := 1000000000 * s.r d (.cmd .CFG_resume_hold_s) } else t) }
  let s := s.tableEvent d 2 cn
  (foldS (fun s n => s.chainFailed d n) s (s.liveChains d (connNum d i c.gen))).rdxStatus d

/-- A connection is drained (R201). -/
def State.connDrained (s : State) (d i : Nat) : Bool :=
  let c := s.conn d i
  c.state = 3 && c.slots.isEmpty && (s.liveChains d (connNum d i c.gen)).isEmpty && c.txUna = c.txNext

/-! ### World Region Table cover (R189, R195) -/

/-- From an address on, how far the valid non-secure entries of a die's table reach, over at most n of them. -/
def State.wrtReach (s : State) (d : Nat) (write : Bool) : Nat → Nat → Nat
  | pos, 0 => pos
  | pos, n + 1 =>
    match (List.range 64).find? (fun k =>
        s.rb d (.sec .WRT_FLAGS_valid) k && !s.rb d (.sec .WRT_FLAGS_secure) k &&
        !(write && s.rb d (.sec .WRT_FLAGS_ns_read_only) k) &&
        decide (4096 * s.r d (.sec .WRT_BASE_base_4k) k ≤ pos) &&
        decide (pos < 4096 * (s.r d (.sec .WRT_BASE_base_4k) k + s.r d (.sec .WRT_SIZE_size_4k) k))) with
    | none => pos
    | some k => s.wrtReach d write (4096 * (s.r d (.sec .WRT_BASE_base_4k) k + s.r d (.sec .WRT_SIZE_size_4k) k)) n

/-- Every byte of a range is in non-secure regions (writable ones where `write`). -/
def State.wrtCovers (s : State) (d base len : Nat) (write : Bool) : Bool :=
  decide (base + len ≤ s.wrtReach d write base 64)

/-! ### Region checks (R191, R192) -/

/-- A WRITE packet's check: the region index it passes on, or none. -/
def State.regionCheck (s : State) (d : Nat) (c : Conn) (conn rkey va bytes : Nat) (withImm : Bool) : Option Nat :=
  let i := rkey / 65536
  let r := s.region d i
  if decide (s.r d (.rdx .REGION_RANGE_first) ≤ i) && decide (i ≤ s.r d (.rdx .REGION_RANGE_last)) && r.state = 1 &&
      r.tag = rkey % 65536 && r.f.pd = c.f.pd && (r.f.conn = 0xFFFFFF || r.f.conn = conn) &&
      r.f.flags.testBit (if withImm then 1 else 0) && (bytes = 0 || decide (va + bytes ≤ r.f.length)) then some i
  else none

/-- A refused packet (R191). -/
def State.regionRefused (s : State) (d i psn : Nat) : State :=
  ((s.rdxBump d 11).sendNak d i 4 psn).connError d i true

/-- A packet on its way to the stack (R192). -/
def State.startPlacing (s : State) (d i : Nat) (region : Option Nat) (slot : Option (Nat × Nat)) : State :=
  let c := s.conn d i
  let s := s.setConn d i { c with ticket := c.ticket + 1, placing := c.placing ++ [⟨c.ticket, region, slot⟩]
                                  lastRx := s.ts64 0 }
  match region with
  | some k => let r := s.region d k; s.setRegion d k { r with inFlight := r.inFlight + 1 }
  | none => s

/-- A revocation completes when its entry is Fencing with nothing in flight (R193). -/
def State.revokeIfDone (s : State) (d k : Nat) : State :=
  let r := s.region d k
  if r.state = 2 ∧ r.inFlight = 0 then
    let s := (s.setRegion d k { r with state := 0, tag := (r.tag + 1) % 65536 }).ev d (.rdx .EVENTS_revoke_done)
    let q := alList s.rdx.revokeDone d
    if q.length < 64 then
      let s := { s with rdx := { s.rdx with revokeDone := alPut s.rdx.revokeDone d (q ++ [k]) } }
      (s.w d (.rdx .REVOKE_DONE_valid) 1).w d (.rdx .REVOKE_DONE_index) ((q ++ [k]).headD 0)
    else s.w d (.rdx .REVOKE_DONE_lost) 1
  else s

/-! ### Retirement (R176, R177, R185) -/

/-- Packets retire: an acknowledgement on AckReq or after ack_coalesce of them, or due after ack_delay_ns. -/
def State.retired (s : State) (d i packets : Nat) (ackReq : Bool) : State :=
  let c := s.conn d i
  let n := c.unacked + packets
  let s := s.setConn d i { c with unacked := n, ackDue := match c.ackDue with
    | some t => some t
    | none => some (s.now + s.r d (.rdx .CFG_ack_delay_ns)) }
  if ackReq || decide (s.r d (.rdx .CFG_ack_coalesce) ≤ n) then s.sendAck d i else s

/-- A retired SEND, or WRITE with immediate, waits for the placements before it. -/
def State.queueDelivery (s : State) (d i : Nat) (send : Bool) (imm : Option Nat) (cap : Capsule) : State :=
  let c := s.conn d i
  let dl : Delivery := ⟨c.ticket, send, imm, cap, s.ts64 0, s.quality 0⟩
  s.setConn d i { c with deliveries := c.deliveries ++ [dl] }

/-- Bits 0 to n are all set. -/
def fullBits (bits n : Nat) : Bool := bits = 2 ^ (n + 1) - 1

/-- Opcode 0xC0, 0xC1: SEND; 0xC1, 0xC3: with immediate. -/
def mpSend (op : Nat) : Bool := op = 0xC0 || op = 0xC1
def mpImm (op : Nat) : Bool := op = 0xC1 || op = 0xC3

/-- Retire what a multipath connection's slots allow (R185): relaxed writes early, the others in order. -/
def State.mpRetire (s : State) (d i : Nat) : Nat → State
  | 0 => s
  | n + 1 =>
    let c := s.conn d i
    match c.slots.find? (fun x => fullBits x.bits x.lastIdx && x.base = c.epsn) with
    | some x =>
      let c' := { c with slots := c.slots.erase x, epsn := (x.base + x.lastIdx + 1) % 2 ^ 24
                         rxMsn := if x.early then c.rxMsn else (c.rxMsn + 1) % 2 ^ 24 }
      let s := s.setConn d i c'
      let s := if x.early then s else
        let s := if mpSend x.opcode || mpImm x.opcode then
            s.queueDelivery d i (mpSend x.opcode) (if mpImm x.opcode then some x.imm else none) x.capsule else s
        s.retired d i (x.lastIdx + 1) x.ackReq
      s.mpRetire d i n
    | none =>
      match c.slots.find? (fun x => fullBits x.bits x.lastIdx && x.opcode = 0xC2 && x.relaxed && !x.final && !x.early &&
          c.f.flags.testBit 1) with
      | some x =>
        let s := s.setConn d i { c with slots := c.slots.map (fun y => if y = x then { y with early := true } else y)
                                        rxMsn := (c.rxMsn + 1) % 2 ^ 24 }
        (s.retired d i (x.lastIdx + 1) x.ackReq).mpRetire d i n
      | none => s

/-! ### Receive buffers (spec/08 R208, spec/21 R595) -/

/-- SENDs of a connection that hold a buffer and have not reached the command engine. -/
def Conn.sendsHeld (c : Conn) : Nat :=
  (c.deliveries.filter (·.send)).length + (c.slots.filter (fun x => mpSend x.opcode)).length +
    (match c.msg with
     | some m => if m.write then 0 else 1
     | none => 0)

/-- Buffers that a connection in RTS still wants: its queue's entries, less the commands in flight, the SENDs on their way and
the buffers already offered. -/
def State.wants (s : State) (d i : Nat) (c : Conn) : Nat :=
  if c.state ≠ 2 then 0 else
    match s.queueOf d (connNum d i c.gen) with
    | none => 0
    | some q =>
      let flight := ((s.cd d).slots.filter (fun y => y.2.conn = q.conn && y.2.state ≠ 6)).length
      q.size + 1 - (flight + c.sendsHeld + c.credits)

/-- Buffers go to connections in turn while any are left: what each is given, and the last that was given one. -/
def dealBuffers : Nat → List (Nat × Nat) → List (Nat × Nat) → Nat → List (Nat × Nat) × Nat
  | 0, _, got, last => (got, last)
  | _, [], got, last => (got, last)
  | n + 1, (i, w) :: rest, got, _ =>
    dealBuffers n (if w ≤ 1 then rest else rest ++ [(i, w - 1)]) (alPut got i ((alGet got i).getD 0 + 1)) i

/-- Receive buffers are offered on the connections of a die (R208): each one reserves a Free slot; while slots are short the
connections are replenished in round-robin order; none while thermal admission withholds them (spec/21 R595) or a handover
drains (spec/15 R449). -/
def State.offer (s : State) (d : Nat) : State :=
  let x := s.cd d
  let mine := s.rdx.conns.filter (fun e => e.1.1 = d && e.2.gen ≠ 0)
  let want := (mine.map (fun e => (e.1.2, s.wants d e.1.2 e.2))).filter (fun e => decide (0 < e.2))
  let held := (mine.map (fun e => e.2.credits + e.2.sendsHeld)).foldl (· + ·) 0
  let flight := (x.slots.filter (fun y => y.2.state ≠ 6)).length
  if want.isEmpty ∨ s.pair.ho = 2 ∨ s.pair.ho = 3 then s else
    let room := if s.r d (.bgw .THERM_STATUS_limit) ≤ flight then 0 else 32768 - (x.slots.length + held)
    let sum := (want.map (·.2)).foldl (· + ·) 0
    let order := sortKey (fun e => (e.1 + 4096 - (x.lastOffer + 1)) % 4096) want
    let (got, last) := if sum ≤ room then (order, x.lastOffer) else dealBuffers room order [] x.lastOffer
    let s := if sum ≤ room then s else (s.cmdBump d 19).setCd d { x with lastOffer := last }
    foldS (fun (s : State) (e : Nat × Nat) =>
      let c := s.conn d e.1
      s.setConn d e.1 { c with credits := c.credits + e.2 }) s got

end Sys2Proof.Machine
end

