-- ==== Sys2Proof/Machine/SpongeOps.lean ====
section
/-! DEFINITION. Operations of the Sponge (spec/10): the index and its buckets, keys, Crumbs, commits, the dirty count. -/

set_option Elab.async false

namespace Sys2Proof.Machine

/-! ### Counters -/

def State.spgBump (s : State) (d i : Nat) (n : Nat := 1) : State := s.bump d 0x23 i n

/-! ### Keys (R227) -/

/-- Key (e, conn, msn) x is later than y. -/
def keyLater (ex cx mx ey cy my : Nat) : Bool :=
  if ex ≠ ey then decide (ey < ex)
  else if cx ≠ cy then decide (cy < cx)
  else
    let df := (mx + 2 ^ 24 - my % 2 ^ 24) % 2 ^ 24
    (decide (1 ≤ df) && decide (df < 2 ^ 23)) || (decide (df = 2 ^ 23) && decide (my < mx))

/-! ### Buckets (R280) -/

/-- CRC-32C (Castagnoli, reflected) of n bytes of a number, lowest byte first. -/
def crcBits : Nat → Nat → Nat
  | c, 0 => c
  | c, n + 1 => crcBits (if c % 2 = 1 then (c / 2).xor 0x82F63B78 else c / 2) n
def crcBytes : Nat → Nat → Nat → Nat
  | c, _, 0 => c
  | c, v, n + 1 => crcBytes (crcBits (c.xor (v % 256)) 8) (v / 256) n
def crc32c (v n : Nat) : Nat := (crcBytes 0xFFFFFFFF v n).xor 0xFFFFFFFF

def blockKey (nsid lba : Nat) : Nat := lba + 2 ^ 40 * (nsid - 1)
def State.buckets (s : State) (d nsid lba : Nat) : Nat × Nat :=
  let c := crc32c (Config.drbg (s.sp d).seedNo (1000000 + d) % 2 ^ 64 + 2 ^ 64 * blockKey nsid lba) 16
  let b1 := c % 2 ^ 17
  let b2 := c / 2 ^ 15 % 2 ^ 17
  (b1, if b2 = b1 then b1.xor 1 else b2)

/-! ### Lookup, eviction, insertion -/

def State.lookup (s : State) (d nsid lba : Nat) : Option IdxEntry :=
  (s.sp d).index.find? (fun x => x.nsid = nsid && x.lba = lba)

/-- The zero range of the latest key that covers a block. -/
def State.rangeOver (s : State) (d nsid lba : Nat) : Option ZeroRange :=
  ((s.sp d).ranges.filter (fun r => r.nsid = nsid && decide (r.slba ≤ lba) && decide (lba < r.slba + r.nlb))).foldl
    (fun (m : Option ZeroRange) r => match m with
      | none => some r
      | some y => if keyLater r.e r.conn r.msn y.e y.conn y.msn then some r else some y) none

/-- What the Sponge holds for a block (R284): the later of its index entry and its zero range. -/
def State.held (s : State) (d nsid lba : Nat) : Option Block :=
  match s.lookup d nsid lba, s.rangeOver d nsid lba with
  | none, none => none
  | some x, none => some x.data
  | none, some _ => some 0
  | some x, some r => if keyLater x.e x.conn x.msn r.e r.conn r.msn then some x.data else some 0

/-- Replace the entries of a block. -/
def State.mapIndex (s : State) (d : Nat) (f : IdxEntry → IdxEntry) : State :=
  let x := s.sp d
  s.setSp d { x with index := x.index.map f }

/-- An entry may be evicted (R286). -/
def State.evictable (s : State) (d : Nat) (x : IdxEntry) : Bool :=
  !x.dirty && !x.destaging && x.pins = 0 && !x.pending &&
    decide (x.e + 1000 * s.r d (.cmd .CFG_horizon_us) ≤ s.ts64 d)

def State.dropEntry (s : State) (d slot : Nat) : State :=
  let x := s.sp d
  s.setSp d { x with index := x.index.filter (fun (y : IdxEntry) => y.slot ≠ slot) }

/-- The entry a bucket eviction takes: ref clear first, otherwise the earliest e (R286). -/
def bucketVictim (l : List IdxEntry) : Option IdxEntry :=
  match l.find? (fun x => !x.ref) with
  | some x => some x
  | none => l.foldl (fun (m : Option IdxEntry) x => match m with
      | none => some x
      | some y => if x.e < y.e then some x else some y) none

/-- A bucket for a new entry: room in b1, then b2, then an eviction from them. -/
def State.bucketFor (s : State) (d nsid lba : Nat) : Option (Nat × Option IdxEntry) :=
  let (b1, b2) := s.buckets d nsid lba
  let idx := (s.sp d).index
  if (idx.filter (fun x => x.bucket = b1)).length < 8 then some (b1, none)
  else if (idx.filter (fun x => x.bucket = b2)).length < 8 then some (b2, none)
  else (bucketVictim (idx.filter (fun x => (x.bucket = b1 || x.bucket = b2) && s.evictable d x))).map
    (fun v => (v.bucket, some v))

/-- The lowest free data slot. -/
def SpgDie.slotFor (x : SpgDie) : Nat :=
  ((List.range (x.index.length + 1)).find? (fun k => !x.index.any (fun y => y.slot = k))).getD x.index.length

/-- The group of a namespace on its channel, in the bank in force. -/
def State.nsEntry (s : State) (nsid : Nat) : Option NsEntry :=
  match (s.img.active.getD {}).namespaces.find? (fun n => n.nsid = nsid) with
  | some n => some n
  | none => (s.img.previous.getD {}).namespaces.find? (fun n => n.nsid = nsid)
def State.nsGroup (s : State) (nsid : Nat) : Nat := ((s.nsEntry nsid).map (·.group)).getD 0

/-! ### Crumbs (R292-R296) -/

def mirroredKind (k : Nat) : Bool := k ≠ 4
def lastRoom (k : Nat) : Bool := k = 0x11 || k = 0x20 || k = 0x21 || k = 0x22

/-- A Crumb may be written now. -/
def State.crumbRoom (s : State) (d kind : Nat) : Bool :=
  if lastRoom kind then decide (s.crumbOcc d < 1048576) else decide (s.crumbOcc d < 1044480)

/-- A Crumb's fields in the order of its layout (R292). -/
def crumbFields (c : Crumb) : List Nat :=
  [c.kind, c.flags, c.host, c.nsid, c.seq, c.e, c.stamp, c.slba, c.nlb, c.conn, c.opcode, c.msn, c.group, c.cid, c.aux, c.aux2]

/-- Write a Crumb: numbered, placed in the ring, and mirrored where its kind and the condition say so. -/
def State.writeCrumb (s : State) (d : Nat) (c : Crumb) : State :=
  let seq := s.crumbNext d
  let c := { c with seq := seq }
  let m := s.mirrored d && mirroredKind c.kind
  -- During a re-seed every Crumb from the seed cut on is mirrored, while the Active stays Unmirrored (spec/15 R428).
  let seeding := s.modeNow = 5 && s.rb d (.pair .CD_STATUS_seeding) && mirroredKind c.kind
  let x := s.sp d
  let own := (c.kind = 0x11 || c.kind = 0x20 || c.kind = 0x22) && !m
  let s := s.setSp d { x with ring := x.ring ++ [{ c := c, retired := own, writtenAt := s.now, mirrored := m, placed := !m }] }
  let s := s.w d (.spg .CRUMB_NEXT) (seq + 1)
  let s := s.spgBump d 9
  let s := if m || seeding then (s.spgBump d 10).sendPartner 3 (d - 1) (crumbFields c) else s
  s.crumbShow d

/-- A command's chain is Done, or its hold has ended: kinds 0x04 and 0x05 retire, write-class Crumbs may (R295).  The
Active marks a chain that reached Done on the mirror (R224). -/
def State.crumbChainDone (s : State) (d : Nat) (done : Bool) (seq : Nat) : State :=
  match s.ringCrumb d seq with
  | none => s
  | some r =>
    let s := if done && s.mirrored d && r.c.kind ≠ 4 then s.writeCrumb d { kind := 0x20, slba := seq } else s
    let s := s.mapRing d (fun y => if y.c.seq = seq then { y with chainDone := true } else y)
    if r.c.kind = 4 || r.c.kind = 5 then s.retireCrumb d seq else s

/-- A write-class Crumb's blocks are destaged, replaced or dropped: nothing dirty carries its seq, no range of it waits. -/
def State.crumbSettled (s : State) (d seq : Nat) : Bool :=
  !(s.sp d).index.any (fun x => x.seq = seq && (x.dirty || x.destaging)) &&
    !(s.sp d).ranges.any (fun r => r.seq = seq && !r.applied)

/-! ### Commit (R283, R284) -/

/-- The index step of one block of a write: replaces the block, or is superseded. -/
def State.commitBlock (s : State) (d : Nat) (c : Crumb) (group lba : Nat) (b : Block) : State :=
  let old := s.lookup d c.nsid lba
  let superseded := match old with
    | some x => keyLater x.e x.conn x.msn c.e c.conn c.msn
    | none => match s.rangeOver d c.nsid lba with
      | some r => keyLater r.e r.conn r.msn c.e c.conn c.msn
      | none => false
  if superseded then s.cmdBump d 13 else
    let x := s.sp d
    let ent : IdxEntry := { nsid := c.nsid, lba := lba, slot := 0, group := group, conn := c.conn, e := c.e, msn := c.msn,
                            seq := c.seq, data := b, at_ := s.ts64 d }
    let s := match old with
      | some o => (s.spgBump d 3).setSp d { x with
          index := x.index.map (fun (y : IdxEntry) => if y.slot = o.slot then { ent with slot := o.slot, bucket := o.bucket, ref := o.ref } else y) }
      | none =>
        match s.bucketFor d c.nsid lba with
        | some (k, v) =>
          let idx := match v with
            | some v => x.index.filter (fun (y : IdxEntry) => y.slot ≠ v.slot)
            | none => x.index
          let s := if v.isSome then s.spgBump d 6 else s
          s.setSp d { x with index := idx ++ [{ ent with slot := ({ x with index := idx } : SpgDie).slotFor, bucket := k }] }
        | none => s.setSp d { x with index := x.index ++ [{ ent with slot := x.slotFor, bucket := (s.buckets d c.nsid lba).1 }] }
    s.spgBump d 2

/-- The index step of a write: its blocks from slba on. -/
def State.commitBlocks (s : State) (d : Nat) (c : Crumb) (group : Nat) (data : List Block) : State :=
  foldS (fun s (e : Block × Nat) => s.commitBlock d c group (c.slba + e.2) e.1) s data.zipIdx

/-- The commit of a zero range: entries of earlier keys are dropped. -/
def State.commitRange (s : State) (d : Nat) (c : Crumb) : State :=
  let x := s.sp d
  s.setSp d { x with
    index := x.index.filter (fun (y : IdxEntry) => !(y.nsid = c.nsid && decide (c.slba ≤ y.lba) && decide (y.lba < c.slba + c.nlb) &&
      keyLater c.e c.conn c.msn y.e y.conn y.msn))
    ranges := x.ranges ++ [⟨c.nsid, c.slba, c.nlb, c.e, c.conn, c.msn, c.seq, false, []⟩] }

/-- Range entries that are applied and past the ordering horizon are freed (R284). -/
def State.purgeRanges (s : State) (d : Nat) : State :=
  let x := s.sp d
  s.setSp d { x with ranges := x.ranges.filter (fun (r : ZeroRange) =>
    !(r.applied && decide (r.e + 1000 * s.r d (.cmd .CFG_horizon_us) ≤ s.ts64 d))) }

/-- A namespace's blocks leave the Sponge and their Crumbs retire (spec/09 R269, spec/11 R333). -/
def State.dropBlocks (s : State) (d : Nat) (p : Nat → Bool) : State :=
  let x := s.sp d
  let s := s.setSp d { x with index := x.index.filter (fun (y : IdxEntry) => !p y.nsid), ranges := x.ranges.filter (fun (y : ZeroRange) => !p y.nsid) }
  foldS (fun s (r : RingCrumb) =>
    if p r.c.nsid && (r.c.kind = 1 || r.c.kind = 2 || r.c.kind = 3) && !r.retired then s.retireCrumb d r.c.seq else s) s
    (s.sp d).ring

/-! ### Uncorrectable errors of the stack (R301) -/

/-- A dirty block that nothing can repair: poisoned, and a deferred range of cause 0x01. -/
def State.poison (s : State) (d : Nat) (e : IdxEntry) : State :=
  (s.mapIndex d (fun y => if y.slot = e.slot then { y with poisoned := true, pending := false, data := 0 } else y)).deferRange d e.nsid 1 e.lba 1 e.e e.e

/-- A Crumb that nothing can repair counts as retired. -/
def State.crumbLost (s : State) (d seq : Nat) : State :=
  (((s.mapRing d (fun y => if y.c.seq = seq then { y with asked := false } else y)).retireCrumb d seq).ev d (.spg .EVENTS_crumb_lost)).logEv d 0x23 .crumbLost [seq]

/-- The area of a line, by the codes of SPG.ECC_LAST. -/
def areaOf (line : Nat) : Nat :=
  let a := 64 * line
  if a < 0x100000000 then 0 else if a < 0x104000000 then 1 else if a < 0x106000000 then 2 else if a < 0x10A000000 then 3
  else if a < 0x12A000000 then 4 else if a < 0x14A200000 then 5 else 6

/-- An error of the stack is shown; an uncorrectable one is counted. -/
def State.eccShow (s : State) (d line : Nat) (bad : Bool) : State :=
  let s := ((s.w d (.spg .ECC_LAST_area) (areaOf line)).wb d (.spg .ECC_LAST_uncorrectable) bad).w d (.spg .ECC_LAST_line) line
  if bad then (s.spgBump d 14).ev d (.spg .EVENTS_ecc_uncorrected) else s

/-- A repair request to the partner (R301). -/
def State.askRepair (s : State) (d nsid lba seq : Nat) : State := (s.pairBump d 3).sendPartner 9 (d - 1) [0, nsid, lba, seq]
/-- A data slot is unreadable: a clean block is dropped; a dirty one is asked of the partner, and waits for its answer, or is
poisoned. -/
def State.blockBroken (s : State) (d : Nat) (e : IdxEntry) : State :=
  if !e.dirty then s.dropEntry d e.slot
  else if s.mirrored d then (s.mapIndex d (fun y => if y.slot = e.slot then { y with pending := true } else y)).askRepair d e.nsid e.lba (e.seq % 2 ^ 32)
  else s.poison d e

/-- The partner answers no more: what was asked of it has the outcome of the unmirrored case. -/
def State.repairsLost (s : State) (d : Nat) : State :=
  let s := foldS (fun (s : State) (e : IdxEntry) => if e.pending then s.poison d e else s) s (s.sp d).index
  foldS (fun (s : State) (r : RingCrumb) => if r.asked then s.crumbLost d r.c.seq else s) s (s.sp d).ring

end Sys2Proof.Machine
end

