-- ==== Sys2Proof/Machine/GroupOps.lean ====
section
/-! DEFINITION. Operations of the redundancy engine (spec/11): address mapping, parity arithmetic, member and group
states, group records, targets; and what follows from them for namespaces (spec/09 R276) and channels (spec/02 R46). -/

set_option Elab.async false

namespace Sys2Proof.Machine

/-! ### Parity arithmetic (R315, R317) -/

def mask01 : Block := BitVec.ofNat 32768 ((2 ^ 32768 - 1) / 255)
/-- Every byte of a block multiplied by 0x02 in GF(2⁸) modulo 0x11D. -/
def xtime (b : Block) : Block :=
  ((b &&& (mask01 * 0x7F#32768)) <<< 1) ^^^ (((b >>> 7) &&& mask01) * 0x1D#32768)
def xtimes : Nat → Block → Block
  | 0, b => b
  | n + 1, b => xtimes n (xtime b)
/-- Every byte of a block multiplied by a scalar. -/
def gfScale (c : Nat) (b : Block) : Block :=
  (List.range 8).foldl (fun a i => if c.testBit i then a ^^^ xtimes i b else a) 0
/-- The same in single bytes: product, power, inverse. -/
def gf2 (a : Nat) : Nat := if a < 128 then 2 * a else (2 * a).xor 0x11D
def gf2n : Nat → Nat → Nat
  | 0, a => a
  | n + 1, a => gf2n n (gf2 a)
def gfMul (a b : Nat) : Nat := (List.range 8).foldl (fun x i => if a.testBit i then x.xor (gf2n i b) else x) 0
def gfPow (a : Nat) : Nat → Nat
  | 0 => 1
  | n + 1 => gfMul a (gfPow a n)
def gfInv (a : Nat) : Nat := gfPow a 254
/-- g^i for the generator g = 0x02, exponents modulo 255. -/
def gExp (i : Int) : Nat := gfPow 2 (i % 255).toNat

def xorAll (l : List Block) : Block := l.foldl (· ^^^ ·) 0
/-- P and Q of the data strips of a row, by data strip index. -/
def parityP (data : List (Nat × Block)) : Block := xorAll (data.map (·.2))
def parityQ (data : List (Nat × Block)) : Block := xorAll (data.map (fun e => gfScale (gExp e.1) e.2))

/-- The missing data strip x of a row from what is there (*Reconstruction*): data strips by index, P, Q. -/
def reconstruct (k : Nat) (data : List (Nat × Block)) (p q : Option Block) (x : Nat) : Option Block :=
  let others := data.filter (fun e => e.1 ≠ x && decide (e.1 < k))
  let missing := (List.range k).filter (fun j => j ≠ x && !others.any (fun e => e.1 = j))
  match missing, p, q with
  | [], some p, _ => some (p ^^^ parityP others)
  | [], none, some q => some (gfScale (gExp (-(x : Int))) (q ^^^ parityQ others))
  | [y], some p, some q =>
    let lo := min x y
    let hi := max x y
    let p' := p ^^^ parityP others
    let q' := q ^^^ parityQ others
    let df := (hi : Int) - lo
    let dlo := gfScale (gfInv ((gExp df).xor 1)) (gfScale (gExp df) p' ^^^ gfScale (gExp (-(lo : Int))) q')
    some (if x = lo then dlo else p' ^^^ dlo)
  | _, _, _ => none

/-! ### Layouts and mapping (R311-R314) -/

def dataBase : Nat := 1048576
def State.grp_ (s : State) (d g : Nat) : Group := (alGet s.grp.groups (d, g)).getD {}
def Group.mirror (x : Group) : Bool := x.layout = 1 || x.layout = 2
def Group.tolerance (x : Group) : Nat := min x.tolCap (if x.layout = 2 ∨ x.layout = 4 then 2 else 1)
def Group.kEff (x : Group) : Nat := if x.mirror then 1 else x.k
/-- Position of P in stripe t, and the role of a position: data index, k for P, k + 1 for Q. -/
def Group.pPos (x : Group) (t : Nat) : Nat := (x.n - 1) - t % 2 ^ 63 % x.n
def Group.role (x : Group) (t pos : Nat) : Nat :=
  if x.mirror then 0
  else if x.layout = 4 then (pos + x.n - x.pPos t + x.n - 2) % x.n |> fun j => if j < x.k then j else if pos = x.pPos t then x.k else x.k + 1
  else (pos + x.n - x.pPos t + x.n - 1) % x.n |> fun j => if j < x.k then j else x.k
/-- The position of a role. -/
def Group.posOf (x : Group) (t role : Nat) : Nat :=
  if x.layout = 4 then
    if role = x.k then x.pPos t else if role = x.k + 1 then (x.pPos t + 1) % x.n else (x.pPos t + 2 + role) % x.n
  else if role = x.k then x.pPos t else (x.pPos t + 1 + role) % x.n
/-- Stripe, data strip index and row of a group block; its member LBA. -/
def Group.locate (x : Group) (gb : Nat) : Nat × Nat × Nat :=
  if x.mirror then (gb / x.strip + x.flag, 0, gb % x.strip)
  else (gb / (x.k * x.strip) + x.flag, gb % (x.k * x.strip) / x.strip, gb % x.strip)
def Group.lbaOf (x : Group) (t o : Nat) : Nat := dataBase + t % 2 ^ 63 * x.strip + o
/-- The group block of a stripe's data strip and row. -/
def Group.blockAt (x : Group) (t j o : Nat) : Nat := t % 2 ^ 63 * x.kEff * x.strip + j * x.strip + o
def Group.regionOfStripe (x : Group) (t : Nat) : Nat := t % 2 ^ 63 * x.strip / 16384
def Group.regionOfBlock (x : Group) (gb : Nat) : Nat := x.regionOfStripe (x.locate gb).1
def Group.regions (x : Group) : Nat := (x.stripes * x.strip + 16383) / 16384

/-- The group block of a namespace's LBA, and the namespace and LBA of a group block. -/
def State.groupBlock (s : State) (nsid lba : Nat) : Nat := ((s.nsEntry nsid).map (·.offset)).getD 0 + lba
def State.ownerOf (s : State) (d g gb : Nat) : Option (Nat × Nat) :=
  ((s.img.active.getD {}).namespaces.find? (fun n => cdId n.channel = d && n.group = g && decide (n.offset ≤ gb) &&
    decide (gb < n.offset + n.size))).map (fun n => (n.nsid, gb - n.offset))

/-! ### The two layouts of a moving reshape (spec/12 R351, R354, R355)

The group's own fields are the source's, or, in Reversing, the destination's; a view with the other layout's fields numbers
its stripes from 2⁶³. -/

def State.rshOf (s : State) (d g : Nat) : Option Reshape := alGet s.rsh.groups (d, g)
def Reshape.live (r : Reshape) : Bool := r.kind = 2 && (r.phase = 2 || r.phase = 3 || r.phase = 5)
def Reshape.descending (r : Reshape) : Bool :=
  let kOf := fun (e : GroupEntry) => if e.layout = 1 ∨ e.layout = 2 then 1 else e.k
  decide (kOf r.dst < kOf r.src) ≠ (r.reverse && decide (kOf r.dst = kOf r.src))
/-- A group block lies in the destination layout (R351). -/
def Reshape.migrated (r : Reshape) (gb : Nat) : Bool :=
  if r.descending then decide (r.cursor ≤ gb) && decide (gb < r.end_) else decide (gb < r.cursor)
/-- The layout that is not the group's own, and whether a block lies in it. -/
def Reshape.other (r : Reshape) : GroupEntry := if r.reverse then r.src else r.dst
def Reshape.inOther (r : Reshape) (gb : Nat) : Bool := r.live && decide (gb < r.end_) && r.migrated gb ≠ r.reverse
/-- First block of the step in hand, and whether a block is at the cursor. -/
def Reshape.from_ (r : Reshape) : Nat := if r.descending then r.cursor - r.stepBlocks else r.cursor
def Reshape.atCursor (r : Reshape) (gb : Nat) : Bool :=
  r.live && r.step ≠ 0 && decide (r.from_ ≤ gb) && decide (gb < r.from_ + r.stepBlocks)

/-- The group under its other layout. -/
def State.otherView (s : State) (d g : Nat) : Group :=
  let x := s.grp_ d g
  match s.rshOf d g with
  | none => x
  | some r =>
    let e := r.other
    let st := e.members.mapIdx (fun i b =>
      match (List.range x.n).find? (fun p => x.serving.getD p none = some b) with
      | some p => x.states.getD p 5
      | none => r.dstStates.getD i 0)
    { x with layout := e.layout, k := e.k, strip := 2 ^ (e.stripLog2 - 12), n := e.members.length, stripes := r.stripes, flag := 2 ^ 63
             members := e.members, serving := e.members.map some, states := st, cursor := x.cursor - x.stripes, lap2 := false
             join := (List.range e.members.length).map (fun i => (i, 0)) }

/-- The view that a stripe number, or a group block's place, calls for. -/
def State.viewT (s : State) (d g t : Nat) : Group := if 2 ^ 63 ≤ t then s.otherView d g else s.grp_ d g
def State.viewB (s : State) (d g gb : Nat) : Group :=
  if (s.rshOf d g).any (fun r => r.inOther gb) then s.otherView d g else s.grp_ d g
/-- A stripe's blocks lie in the stripe's layout. -/
def State.stripeLive (s : State) (d g t : Nat) : Bool :=
  (s.viewB d g ((s.viewT d g t).blockAt t 0 0)).flag = t / 2 ^ 63 * 2 ^ 63

/-! ### States (R331-R333) -/

def Group.out (x : Group) (pos : Nat) : Bool := let c := x.states.getD pos 5; c = 1 || c = 2 || c = 3 || c = 4
def Group.outCount (x : Group) : Nat := ((List.range x.n).filter x.out).length
def Group.resyncing (x : Group) : Bool := !x.resync.isEmpty || x.fullResync
def Group.state (x : Group) : Nat :=
  if x.tolerance < max x.outCount x.otherOut then 4
  else if x.resyncing then 3
  else if x.states.any (fun c => c = 3 || c = 4) then 2
  else if x.states.any (fun c => c = 1 || c = 2) then 1
  else 0

def packNibbles (l : List Nat) (n dflt : Nat) : Nat :=
  (List.range n).foldl (fun a i => a + (l.getD i dflt) * 16 ^ i) 0

/-- Rebuild, reshape, sanitise and destage progress only in Active, Takeover and Replay (spec/02 R48). -/
def State.workRuns (s : State) : Bool := s.modeNow = 5 || (s.modeNow = 7 && s.pair.fenceDone) || s.modeNow = 9

/-- A group is put back, and its registers follow. -/
def State.setGrp (s : State) (d g : Nat) (x : Group) : State :=
  let s := { s with grp := { s.grp with groups := alPut s.grp.groups (d, g) x } }
  let s := s.wb d (.grp .G_STATE_paused) (x.configured && (x.pass || !x.resync.isEmpty || x.fullResync) && !s.workRuns) g
  let s := ((((s.wb d (.grp .G_STATE_held) x.held g).wb d (.grp .G_STATE_critical)
    (x.configured && x.outCount = x.tolerance) g).wb d (.grp .G_STATE_full_resync) x.fullResync g).wb d
    (.grp .G_STATE_configured) x.configured g).w d (.grp .G_STATE_state) x.state g
  let s := (s.w d (.grp .G_MEMBERS_states) (packNibbles x.states 8 5) g).w d (.grp .G_SERVING_bays)
    (packNibbles (x.serving.map (fun b => b.getD 15)) 8 15) g
  let s := ((s.w d (.grp .G_CURSOR) x.cursor g).w d (.grp .G_STRIPES) x.stripes g).w d (.grp .G_REGIONS_marked)
    x.marked.length g
  (s.w d (.grp .G_BADUNITS_count) x.bad.length g).w d (.grp .G_RECORD_generation) x.generation g

/-- A position has a drive that is written: In sync, or a target. -/
def Group.present (x : Group) (p : Nat) : Bool := let c := x.states.getD p 5; c = 0 || c = 3 || c = 4
/-- Parity roles of a layout. -/
def Group.parities (x : Group) : List Nat := if x.mirror then [] else if x.layout = 4 then [x.k, x.k + 1] else [x.k]
/-- The stripe at a pass's cursor: past the group's own stripes come those of a moving reshape's other layout, whose committed
rows are rebuilt under it (spec/12 R358). -/
def Group.passStripe (x : Group) : Nat := if x.cursor < x.stripes then x.cursor else 2 ^ 63 + (x.cursor - x.stripes)

def State.grpBump (s : State) (d i : Nat) (n : Nat := 1) : State := s.bump d 0x25 i n

/-- The channel state of a die (spec/02 R46, R47); Failed stays until the channel returns to service. -/
def State.chanShow (s : State) (d : Nat) : State :=
  let cur := s.r d (.grp .STATUS_chan_state)
  if cur = 5 ∨ cur = 6 ∨ s.rb d (.grp .STATUS_standby_view) then s else
    let gs := (s.dieGroups d).map (fun e => e.2.state)
    -- A build reports as Resync (spec/12 R347).
    let rsh := s.rsh.groups.any (fun e => e.1.1 = d && e.2.kind ≠ 3 && (e.2.phase = 1 || e.2.phase = 2 || e.2.phase = 3 || e.2.phase = 5))
    let sani := match (s.cd d).sanitize with
      | some p => decide (p.phase < 3)
      | none => false
    s.w d (.grp .STATUS_chan_state)
      (if sani then 4 else if gs.any (fun c => c = 2 || c = 3) then 2 else if rsh then 3
       else if gs.any (fun c => c = 1 || c = 4) then 1 else 0)

/-- A channel state of Failed. -/
def State.chanFailed (s : State) (d : Nat) : Bool := s.r d (.grp .STATUS_chan_state) = 5

/-! ### Namespaces (spec/09 R276, spec/04 R99) -/

def State.nsReady (s : State) (n : NsEntry) : Bool :=
  let d := cdId n.channel
  let x := s.grp_ d n.group
  x.configured && x.state ≠ 4 && decide (n.offset + n.size ≤ x.kEff * x.strip * x.stripes) &&
    -- Added or grown while a moving reshape runs (spec/12 R351).
    !(s.rshOf d n.group).any (fun r => r.live && (!r.nss.contains n.nsid || decide (r.end_ < n.offset + n.size))) &&
    s.r d (.cip .SLOT_A_state) n.keySlot = 2 && s.cip.mediaRoot.isSome

/-- The ANA state of an ANA group on a die (spec/09 R262). -/
def State.anaState (s : State) (d grp : Nat) : Nat :=
  let drains := (s.cd d).draining.any (fun e => (s.nsEntry e.1).any (fun n => n.anagrp = grp))
  let handover := s.modeNow = 5 && (s.pair.ho = 1 || s.pair.ho = 2 || s.pair.ho = 3)
  if handover || s.r d (.cmd .GATE_refuse) = 3 || drains then 0xF
  else if s.r d (.cmd .GATE_refuse) = 1 then 3 else 1

/-- The package's ANA change count takes a new value: every die shows it, and each controller whose mask allows it has an ANA
Change event (spec/09 R263). -/
def State.anaRise (s : State) (n : Nat) : State :=
  let s := { s with cmd := { s.cmd with anaCount := n } }
  let s := foldS (fun (s : State) k => (s.w (cdId k) (.nsm .ANA_CHGCNT) n).ev (cdId k) (.nsm .EVENTS_ana_changed)) s s.cds
  foldS (fun (s : State) (k : Nat) => foldS (fun (s : State) (e : Nat × Ctrl) =>
    if e.2.aeMask.testBit 11 then s.asyncEvent (cdId k) e.1 ⟨2, 3, 0x0C⟩ else s) s (s.cd (cdId k)).ctrls) s s.cds

/-- The NSM registers of a die follow the tables. -/
def State.nsmShow (s : State) (d : Nat) : State :=
  let img := s.img.active.getD {}
  let s := foldS (fun (s : State) (n : NsEntry) =>
    let i := n.nsid - 1
    let here := cdId n.channel = d
    let ready := here && s.nsReady n
    let s := if here && s.rb d (.nsm .NS_ready) i && !ready then s.ev d (.nsm .EVENTS_not_ready) else s
    let s := ((((s.w d (.nsm .NS_present) 1 i).wb d (.nsm .NS_enabled) (n.flags.testBit 0) i).wb d (.nsm .NS_ready)
      ready i).wb d (.nsm .NS_write_protected) (n.flags.testBit 1) i).wb d (.nsm .NS_mapped_here) here i
    let s := (s.w d (.nsm .NS_channel) n.channel i).w d (.nsm .NS_group) n.group i
    let s := (s.w d (.nsm .NS_ana_state) (s.anaState d n.anagrp) i).wb d (.nsm .NS_draining)
      ((s.cd d).draining.any (fun e => e.1 = n.nsid)) i
    let s := s.w d (.nsm .NS_registrants) (((alGet (s.cd d).resv n.nsid).getD {}).regs.length) i
    match alGet (s.cd d).formats n.nsid with
    | some p => (s.wb d (.nsm .NS_format_active) (decide (p.phase < 3)) i).w d (.nsm .NS_fpi_left)
        ((100 * (p.total - p.cursor) + p.total - 1) / max 1 p.total) i
    | none => (s.w d (.nsm .NS_format_active) 0 i).w d (.nsm .NS_fpi_left) 0 i) s img.namespaces
  -- Namespaces that the table no longer lists; a removed one may still drain (spec/09 R275).
  let gone := ((s.img.previous.getD {}).namespaces.filter (fun n => !img.namespaces.any (fun m => m.nsid = n.nsid))).map (·.nsid)
  let s := foldS (fun (s : State) n =>
    let i := n - 1
    let s := foldS (fun (s : State) f => s.w d (.nsm f) 0 i) s [.NS_present, .NS_enabled, .NS_ready, .NS_write_protected, .NS_mapped_here,
      .NS_channel, .NS_group, .NS_registrants, .NS_format_active, .NS_fpi_left]
    (s.w d (.nsm .NS_ana_state) 1 i).wb d (.nsm .NS_draining) ((s.cd d).draining.any (fun e => e.1 = n)) i) s gone
  let mine := img.namespaces.filter (fun n => cdId n.channel = d)
  let s := (s.w d (.nsm .STATUS_mapped_here) mine.length).w d (.nsm .STATUS_not_ready)
    (mine.filter (fun n => !s.nsReady n)).length
  -- A change of the state reported for an ANA group (spec/09 R263).
  let now := (img.namespaces.map (·.anagrp)).eraseDups.map (fun a => (a, s.anaState d a))
  let c := s.cd d
  if c.anaStates = now then s
  else
    let s := s.setCd d { c with anaStates := now }
    if c.anaStates.isEmpty then s else s.anaRise (s.cmd.anaCount + 1)

/-! ### Group records (R328, R330) -/

/-- A record write starts: its first copy; a write already under way is followed by another. -/
def State.recordWrite (s : State) (d g : Nat) : State :=
  let x := s.grp_ d g
  if x.recPhase ≠ 0 then s.setGrp d g { x with recAgain := true }
  else
    let s := s.setGrp d g { x with generation := (x.generation + 1) % 2 ^ 32, recPhase := 1, recMarks := x.marked, recAgain := false }
    let s := s.grpBump d 12
    match x.holders with
    | [] => s
    | p :: _ => s.drvIssue d (((x.serving.getD p none)).getD 0) 1 256 1 { kind := 3, a := g, b := 1 } p

/-! ### Stripe locks and repair writes (R318, R323, R343) -/

/-- Repair writes whose stripe is unlocked begin: each holds its stripe's lock until it has completed. -/
def State.startRepairs (s : State) (d g : Nat) : State :=
  foldS (fun (s : State) (r : Nat × Nat × Nat × Block) =>
    let x := s.grp_ d g
    let v := s.viewT d g r.1
    let o : DrvOwner := { kind := 14, a := g, b := r.1 }
    if x.locks.contains r.1 then s
    else
      let s := s.setGrp d g { x with repairs := x.repairs.erase r, locks := x.locks ++ [r.1] }
      let s := if s.stripeLive d g r.1 && v.present r.2.1 then
          (s.drvIssue d ((v.serving.getD r.2.1 none).getD 0) 1 (v.lbaOf r.1 r.2.2.1) 1 o r.2.1 [r.2.2.2]).grpBump d 7 else s
      if s.drvQuiet d o then
        let x := s.grp_ d g
        s.setGrp d g { x with locks := x.locks.erase r.1 }
      else s) s (s.grp_ d g).repairs

/-- Locks of stripes are released; their regions are quiet from now on (R327). -/
def State.unlock (s : State) (d g : Nat) (ts : List Nat) : State :=
  let x := s.grp_ d g
  (s.setGrp d g { x with
    locks := x.locks.filter (fun t => !ts.contains t)
    quietSince := ts.foldl (fun l t => let r := x.regionOfStripe t; if x.marked.contains r then alPut l r s.now else l) x.quietSince }).startRepairs d g

/-- A unit is to be written back to its position (R323). -/
def State.repair (s : State) (d g t p o : Nat) (b : Block) : State :=
  let x := s.grp_ d g
  (s.setGrp d g { x with repairs := x.repairs.filter (fun r => !(r.1 = t && r.2.1 = p && r.2.2.1 = o)) ++ [(t, p, o, b)] }).startRepairs d g

/-- A repair write that waits for a stripe's lock writes what the row will hold: units written meanwhile (position, row,
contents) replace its own (R343). -/
def Group.repairsSee (x : Group) (t : Nat) (w : List (Nat × Nat × Block)) : Group :=
  { x with repairs := x.repairs.map (fun r => match w.find? (fun e => r.1 = t && e.1 = r.2.1 && e.2.1 = r.2.2.1) with
      | some e => (r.1, r.2.1, r.2.2.1, e.2.2)
      | none => r) }

/-! ### Positions going out of service (R330, R333, R382) -/

/-- Runs of adjacent blocks with the smallest and largest e. -/
def runsOf (l : List (Nat × Nat)) : List (Nat × Nat × Nat × Nat) :=
  (sortKey (fun e => e.1) l).foldl (fun acc (e : Nat × Nat) =>
    match acc.getLast? with
    | some (a, n, lo, hi) => if e.1 = a + n then acc.dropLast ++ [(a, n + 1, min lo e.2, max hi e.2)] else acc ++ [(e.1, 1, e.2, e.2)]
    | none => [(e.1, 1, e.2, e.2)]) []

/-- A group becomes Failed (R333). -/
def State.groupFails (s : State) (d g : Nat) : State :=
  let x := s.grp_ d g
  -- What is under way for its stripes is dropped, with the locks it held.
  let mine := x.updates.map (·.stripe) ++ (if x.rbPhase ≠ 0 then [x.passStripe] else []) ++ (if x.rsPhase ≠ 0 then [x.rsStripe] else []) ++
    (s.drv.cmds.filter (fun c => c.die = d && c.owner.kind = 14 && c.owner.a = g)).map (·.owner.b)
  let s := s.disown d (fun o => o.a = g && (o.kind = 2 || o.kind = 4 || o.kind = 5 || o.kind = 14))
  let s := s.setGrp d g { x with failed := true, failedAt := s.now, pass := false, updates := [], rbPhase := 0, rsPhase := 0, repairs := []
                                 locks := x.locks.filter (fun t => !mine.contains t) }
  let s := (s.ev d (.grp .EVENTS_group_failed)).logEv d 0x25 .groupFailed [g]
  let nss := ((s.img.active.getD {}).namespaces.filter (fun n => cdId n.channel = d && n.group = g)).map (·.nsid)
  let s := foldS (fun (s : State) nsid =>
    let dirty := ((s.sp d).index.filter (fun y => y.nsid = nsid && y.dirty)).map (fun y => (y.lba, y.e))
    let y := s.sp d
    let s := s.setSp d { y with index := y.index.filter (fun (z : IdxEntry) => !(z.nsid = nsid && z.dirty)) }
    foldS (fun (s : State) (r : Nat × Nat × Nat × Nat) =>
      (s.grpBump d 16 r.2.1).deferRange d nsid 1 r.1 r.2.1 r.2.2.1 r.2.2.2) s (runsOf dirty)) s nss
  (s.recordWrite d g).nsmShow d

/-- The group and position that a bay serves. -/
def State.posOfBay (s : State) (d b : Nat) : Option (Nat × Nat) :=
  (s.dieGroups d).findSome? (fun e => ((List.range e.2.n).find? (fun p => e.2.serving.getD p none = some b && e.2.states.getD p 5 ≠ 5)).map
    (fun p => (e.1, p)))

/-- Bay 8c + b of the shelf. -/
def shelfBay (d b : Nat) : Nat := 8 * (d - 1) + b

/-- The LED that the holder of a bay's gate drive shows (R387). -/
def State.ledShow (s : State) (d b : Nat) : State :=
  let st := s.r d (.drv .B_STATE_state) b
  let cls := s.r d (.drv .B_STATE_class) b
  let pos := match s.posOfBay d b with
    | some (g, p) => (s.grp_ d g).states.getD p 5
    | none => 5
  let v := if !s.rb mdId (.bay .B_STATE_driven) (shelfBay d b) then 0
    else if (s.drive d b).locate then 3
    else if pos = 2 ∨ st = 8 ∨ st = 9 ∨ cls = 4 ∨ cls = 5 then 1
    else if pos = 3 ∨ pos = 4 then 2 else 0
  s.w d (.drv .B_STATE_led) v b

/-- The LEDs of a die follow the member states. -/
def State.ledsShow (s : State) (d : Nat) : State := foldS (fun (s : State) b => s.ledShow d b) s (List.range 8)

/-- A position goes out of service as Absent (1) or Failed (2). -/
def State.posOut (s : State) (d g pos code : Nat) : State :=
  let x := s.grp_ d g
  let old := x.states.getD pos 5
  if old = 5 ∨ old = 2 ∨ (old = 1 ∧ code = 1) then s else
    let x' := { x with states := x.states.set pos code, absentAt := alPut x.absentAt pos s.now, join := alDel x.join pos
                       pass := x.pass && ((List.range x.n).any (fun p => p ≠ pos && (x.states.getD p 5 = 3 || x.states.getD p 5 = 4)) ||
                         (s.rshOf d g).any (fun r => r.live && r.dstStates.contains 3)) }
    let s := s.setGrp d g x'
    -- A pass without a target ends where it stands.
    let s := if x.pass && !x'.pass && x.rbPhase ≠ 0 then
        let s := (s.disown d (fun o => o.a = g && o.kind = 4)).setGrp d g { x' with rbPhase := 0 }
        s.unlock d g [x.passStripe]
      else s
    let s := (s.ev d (.grp .EVENTS_member_lost)).logEv d 0x25 .positionOut [g, pos, code]
    let s := if x'.tolerance < x'.outCount && !x.failed then s.groupFails d g else s.recordWrite d g
    (s.ledsShow d).chanShow d

/-- A superblock is written to the copy that is not in force, its generation raised (spec/13 R377); never on a Foreign or
Misplaced bay (R375). -/
def State.writeSb (s : State) (d b role g pos : Nat) (replay : Option Nat := none) : State :=
  let c := s.r d (.drv .B_STATE_class) b
  if s.r d (.drv .B_STATE_state) b ≠ 6 ∨ c = 4 ∨ c = 5 then s else
    let x := s.drive d b
    -- The shelf's first superblock draws its uuid (R378).
    let s := if s.drv.shelf.isSome then s else
      { s with fresh := s.fresh + 1, drv := { s.drv with shelf := some (Config.drbg s.fresh 378) } }
    let sb : Superblock := { valid := true, magic := true, role := role, channel := d - 1, group := g, position := pos
                             generation := x.sb.generation + 1, ownerId := s.sec.owner.getD 0, shelf := s.drv.shelf.getD 0
                             lastReplay := replay.getD x.sb.lastReplay, copy := if x.sb.valid then 1 - x.sb.copy else 0 }
    (s.setDrive d b { x with sbNext := some sb }).drvIssue d b 1 sb.copy 1 { kind := 9, a := b }

/-- The class of a drive and what it shows (R378). -/
def State.showSb (s : State) (d b cls : Nat) : State :=
  let sb := (s.drive d b).sb
  let s := (s.w d (.drv .B_STATE_class) cls b).w d (.drv .B_SB_generation) (if sb.valid then sb.generation else 0) b
  (s.w d (.drv .B_STATE_group) (if cls = 1 then sb.group else 0) b).w d (.drv .B_STATE_position) (if cls = 1 then sb.position else 0) b

/-- A superblock write completed: the new copy is in force, or the old one stays (R377). -/
def State.sbDone (s : State) (d b : Nat) (ok : Bool) : State :=
  let x := s.drive d b
  match x.sbNext with
  | none => s
  | some sb =>
    let s := s.setDrive d b { x with sbNext := none, sb := if ok then sb else x.sb }
    if ok then s.showSb d b (if sb.role = 1 then 1 else 3) else s

/-! ### Targets (R334-R336) -/

/-- A position becomes Target (3) or Returning (4), served by a bay; it joins a pass that runs, or starts one. -/
def State.takeTarget (s : State) (d g pos bay code : Nat) : State :=
  let x := s.grp_ d g
  -- The pass of other targets, held up while the group was Failed, goes on from its cursor.
  let running := x.pass || (List.range x.n).any (fun p => p ≠ pos && (x.states.getD p 5 = 3 || x.states.getD p 5 = 4))
  let at_ := if running then x.cursor else 0
  -- A second lap ends at the join points it began with: a position that comes then waits for the next pass.
  let waits := running && x.lap2
  let home := x.members.getD pos 255
  let x' := { x with
    states := x.states.set pos code, serving := x.serving.set pos (some bay), absentAt := alDel x.absentAt pos
    join := if waits then alDel x.join pos else alPut x.join pos at_
    pass := true, partial_ := x.partial_ || (!waits && decide (code = 4))
    released := if bay ≠ home ∧ home < 8 then (x.released.erase home) ++ [home] else x.released
    lat := alPut x.lat bay 100000 }
  let x' := { x' with failed := x'.failed && decide (x'.tolerance < max x'.outCount x'.otherOut) }
  let x' := if running then x' else { x' with cursor := 0, lap2 := false }
  let s := ((s.setGrp d g x').ledsShow d).ev d (.grp .EVENTS_rebuild_started)
  let s := if bay ≠ home ∧ home < 8 then s.writeSb d home 2 255 255 else s
  (((s.w d (.grp .MEMBER_LAT_l_ns) 100000 bay).recordWrite d g).chanShow d).nsmShow d

/-- A bay may serve as a spare of a group: Ready, Blank or Released, serving nothing, large enough (R334). -/
def State.spareOk (s : State) (d g b : Nat) : Bool :=
  let x := s.grp_ d g
  s.r d (.drv .B_STATE_state) b = 6 &&
    (s.r d (.drv .B_STATE_class) b = 2 || s.r d (.drv .B_STATE_class) b = 3 || x.released.contains b) &&
    (s.posOfBay d b).isNone && decide (dataBase + x.stripes * x.strip ≤ (s.drive d b).blocks) &&
    (x.spareMask.testBit b || x.released.contains b)
def State.spareFor (s : State) (d g : Nat) : Option Nat := (List.range 8).find? (s.spareOk d g)

/-- The lowest out-of-service position without a target takes a spare at once. -/
def State.takeSpare (s : State) (d g : Nat) (pos : Nat) : State :=
  match s.spareFor d g with
  | some b => s.takeTarget d g pos b 3
  | none => s

/-! ### The dirty-region bitmap (R326) -/

/-- Regions that a range of a namespace touches in its group. -/
def State.regionsOf (s : State) (d nsid slba nlb : Nat) : List Nat :=
  let a := (s.viewB d (s.nsGroup nsid) (s.groupBlock nsid slba)).regionOfBlock (s.groupBlock nsid slba)
  let b := (s.viewB d (s.nsGroup nsid) (s.groupBlock nsid (slba + (nlb - 1)))).regionOfBlock (s.groupBlock nsid (slba + (nlb - 1)))
  (List.range (max a b - min a b + 1)).map (fun i => min a b + i)

/-- The bits of regions are set; one not yet durable asks for a record write. -/
def State.markRegions (s : State) (d g : Nat) (rs : List Nat) : State :=
  let x := s.grp_ d g
  let new := rs.filter (fun r => !x.marked.contains r)
  let s := s.setGrp d g { x with marked := x.marked ++ new, quietSince := rs.foldl (fun l r => alPut l r s.now) x.quietSince }
  if new.isEmpty then s else s.recordWrite d g
def State.regionsDurable (s : State) (d g : Nat) (rs : List Nat) : Bool := rs.all (fun r => (s.grp_ d g).durable.contains r)

/-! ### Units (R322) -/

/-- A target at a position serves a stripe (R336). -/
def Group.targetServes (x : Group) (pos t : Nat) : Bool :=
  match alGet x.join pos with
  | none => false
  | some j =>
    let clean := x.states.getD pos 5 = 4 && !x.marked.contains (x.regionOfStripe t)
    let i := t % 2 ^ 63
    clean || (if x.lap2 then decide (j ≤ i) || decide (i < x.cursor) else decide (j ≤ i) && decide (i < x.cursor))

def Group.badAt (x : Group) (gb : Nat) : Bool := x.bad.any (fun b => decide (b.start ≤ gb) && decide (gb < b.start + b.count))

/-- A position serves a stripe: In sync, or a target whose rebuild covers it. -/
def Group.serves (x : Group) (pos t : Nat) : Bool :=
  let c := x.states.getD pos 5
  c = 0 || ((c = 3 || c = 4) && x.targetServes pos t)

/-- What is left of an entry of the bad-unit list when a range of group blocks leaves it. -/
def BadUnit.cut (b : BadUnit) (lo hi : Nat) : List BadUnit :=
  (if b.start < lo then [{ b with count := min (b.start + b.count) lo - b.start }] else []) ++
    (if hi < b.start + b.count then [{ b with start := max hi b.start, count := b.start + b.count - max hi b.start }] else [])
/-- A range of group blocks leaves the bad-unit list (R341); a split that finds no entry leaves the list as it is. -/
def Group.clearBad (x : Group) (lo hi : Nat) : Group :=
  let l := x.bad.flatMap (fun b => b.cut lo hi)
  if l.length ≤ 2048 then { x with bad := l } else x

/-- A unit that is lost, and whose block the Sponge does not hold, is listed (R341); a full list grows the nearest entry. -/
def State.addBad (s : State) (d g gb cause pos : Nat) : State :=
  let x := s.grp_ d g
  if x.badAt gb || (s.ownerOf d g gb).any (fun e => (s.held d e.1 e.2).isSome) then s else
  let touch := fun (b : BadUnit) => decide (b.start ≤ gb + 1) && decide (gb ≤ b.start + b.count)
  let grow := fun (b : BadUnit) =>
    let lo := min b.start gb
    { b with start := lo, count := max (b.start + b.count) (gb + 1) - lo }
  let dist := fun (b : BadUnit) => if gb < b.start then b.start - gb else gb - (b.start + b.count - 1)
  let old : List BadUnit := x.bad.filter touch
  let s : State := match old with
    | b :: rest =>
      let lo := (rest.map (·.start)).foldl min (min b.start gb)
      let hi := (rest.map (fun y => y.start + y.count)).foldl max (max (b.start + b.count) (gb + 1))
      s.setGrp d g { x with bad := x.bad.filter (fun y => !touch y) ++ [{ b with start := lo, count := hi - lo }] }
    | [] =>
    if x.bad.length < 2048 then s.setGrp d g { x with bad := x.bad ++ [⟨gb, 1, cause, pos⟩] }
    else
      let near := x.bad.foldl (fun (m : Option BadUnit) b => match m with
        | none => some b
        | some y => if dist b < dist y then some b else some y) none
      (s.setGrp d g { x with bad := x.bad.map (fun b => if some b = near then grow b else b) }).ev d
        (.grp .EVENTS_badlist_full)
  (((s.grpBump d 14).ev d (.grp .EVENTS_bad_unit)).logEv d 0x25 .badUnit [g, gb, cause]).recordWrite d g

/-! ### Encryption (spec/14 R391-R393) -/

def State.xtsKey (s : State) (d nsid : Nat) : Nat := (((alGet s.cip.slots (d, ((s.nsEntry nsid).map (·.keySlot)).getD 0))).getD {}).key
def tweak (nsid lba : Nat) : Nat := lba + 2 ^ 40 * (nsid - 1)
def State.encrypt (s : State) (d nsid lba : Nat) (b : Block) : Block :=
  Config.xtsEncrypt (s.xtsKey d nsid) (tweak nsid lba) b
def State.decrypt (s : State) (d nsid lba : Nat) (b : Block) : Block :=
  Config.xtsDecrypt (s.xtsKey d nsid) (tweak nsid lba) b
def State.cipBump (s : State) (d i : Nat) (n : Nat := 1) : State := s.bump d 0x28 i n
/-- The contents of a group block as they stand on a member; a block of no namespace is zeros (R393). -/
def State.onMember (s : State) (d g gb : Nat) (b : Block) : Block :=
  match s.ownerOf d g gb with
  | some (nsid, lba) => s.encrypt d nsid lba b
  | none => 0

end Sys2Proof.Machine
end

