-- ==== Sys2Proof/Machine/CmdOps.lean ====
section
/-! DEFINITION. Operations of the command engine (spec/08): completion, the admission checks, keys, duplicates, the commit
of writes, and the reads of units that a read misses in the Sponge (spec/11 R322-R325). -/

set_option Elab.async false

namespace Sys2Proof

/-- SLBA and blocks of a command; the ranges of a Dataset Management. -/
def Capsule.slba (c : Capsule) : Nat := c.cdw10 + 2 ^ 32 * c.cdw11
def Capsule.nlb (c : Capsule) : Nat := c.cdw12 % 65536 + 1
def pairUp : List Nat → List (Nat × Nat)
  | a :: b :: l => (a, b) :: pairUp l
  | _ => []
def Capsule.ranges (c : Capsule) : List (Nat × Nat) := (pairUp c.info).take (c.cdw10 % 256 + 1)

end Sys2Proof

namespace Sys2Proof.Machine

/-! ### Completing -/

/-- A write's hold on a push region ends (R217). -/
def State.dropRegion (s : State) (d k : Nat) : State :=
  let x := s.slot d k
  match x.region with
  | none => s
  | some i =>
    let s := s.setSlot d k { x with region := none }
    let r := s.region d i
    (s.setRegion d i { r with inFlight := r.inFlight - 1 }).revokeIfDone d i

/-- Space that a command reserved and did not use goes back (R282). -/
def State.unreserve (s : State) (d k : Nat) : State :=
  let x := s.slot d k
  let y := s.sp d
  (s.setSp d { y with reserved := y.reserved - x.reserved }).setSlot d k { x with reserved := 0, taken := false, blocks := [] }

/-- A command that completes with an error is listed in its controller's error log, 64 entries at most (spec/09 *Log pages*). -/
def State.errLogged (s : State) (d k status : Nat) : State :=
  let x := s.slot d k
  let id := if isEp x.conn then 0x7000 + epFn x.conn else ctrlId d x.host
  match s.ctrl d id, s.queueOf d x.conn with
  | some c, some q =>
    let n := ((c.errors.head?).bind (·.head?)).getD 0 + 1
    s.setCtrl d id { c with errors := ([n, q.qid, x.cap.cid, status, x.cap.nsid, x.slba] :: c.errors).take 64 }
  | _, _ => s

/-- Blocks moved by a controller's own command (spec/09 *Log pages*). -/
def State.unitsMoved (s : State) (d k rd wr : Nat) : State :=
  let x := s.slot d k
  let id := if isEp x.conn then 0x7000 + epFn x.conn else ctrlId d x.host
  match s.ctrl d id with
  | some c => s.setCtrl d id { c with blocksRead := c.blocksRead + rd, blocksWritten := c.blocksWritten + wr }
  | none => s

/-- A command completes through a chain of one response SEND, armed with kind 0x5 and triggered at once (R213). -/
def State.completeOnly (s : State) (d k status : Nat) (dw0 dw1 : Nat := 0) : State :=
  let s := if status ≠ 0 then (s.cmdBump d 6).errLogged d k status else s
  let s := (s.dropRegion d k).unreserve d k
  let x := s.slot d k
  let s := s.setSlot d k { x with state := 5, status := some status, dw0 := dw0, dw1 := dw1, waiters := [] }
  let s := s.setChain d k { state := 1, hdr := { armCount := 1, flags := 1, conn := x.conn, kind0 := 5 }, wrs := 1 }
  s.chainTrigger d k 5 0

/-- Duplicates on other connections complete with their original's status (R242). -/
def State.settle (s : State) (d k : Nat) : State :=
  let x := s.slot d k
  if (x.state = 5 ∨ x.state = 6) ∧ !x.waiters.isEmpty then
    let s := s.setSlot d k { x with waiters := [] }
    foldS (fun (s : State) w => s.completeOnly d w (x.status.getD 0) x.dw0 x.dw1) s x.waiters
  else s

def State.completeWith (s : State) (d k status : Nat) (dw0 dw1 : Nat := 0) : State :=
  let w := (s.slot d k).waiters
  foldS (fun (s : State) k' => s.completeOnly d k' status dw0 dw1) (s.completeOnly d k status dw0 dw1) w

/-- A trigger for a command's chain, and what follows. -/
def State.raise (s : State) (d k kind key : Nat) : State := (s.chainTrigger d k kind key).settle d k

/-- A completion chain is armed for a command (R222, R223). -/
def State.armFor (s : State) (d k : Nat) (kind0 : Nat) (mirror : Bool) (wrs : Nat) : State :=
  s.setChain d k { state := 1, wrs := wrs,
                   hdr := { armCount := if mirror then 2 else 1, flags := 1, conn := (s.slot d k).conn, kind0 := kind0,
                            kind1 := if mirror then 2 else 0 } }

/-- The chain's keys take the Crumb's number. -/
def State.keyChain (s : State) (d k key : Nat) : State :=
  let c := s.chain d k
  s.setChain d k { c with hdr := { c.hdr with key0 := key, key1 := key } }

/-! ### Admission (R211-R218, R227) -/

/-- The opcodes of *Admin commands* (spec/09 R260). -/
def adminOpcodes : List Nat := [0x02, 0x06, 0x08, 0x09, 0x0A, 0x0C, 0x18, 0x80, 0x84, 0x7F]
def ioOpcodes : List Nat := [0x00, 0x01, 0x02, 0x08, 0x09, 0x0D, 0x0E, 0x11, 0x15, 0x7F]
def isResv (op : Nat) : Bool := op = 0x0D || op = 0x0E || op = 0x11 || op = 0x15

/-- A reservation stands against a command of a host (R266; the table of types is the NVMe base specification's). -/
def Resv.conflicts (r : Resv) (host op : Nat) : Bool :=
  let registrant := r.regs.any (fun e => e.1 = host)
  if op = 0x0D ∨ op = 0x0E then false
  else if op = 0x11 ∨ op = 0x15 then !registrant
  else if r.rtype = 0 ∨ r.holder = some host then false
  else
    let write := writeClass op || op = 0
    let excl := r.rtype = 2 || r.rtype = 4 || r.rtype = 6
    (write || excl) && !(decide (3 ≤ r.rtype) && registrant)

/-- The data descriptor of a command (R215-R218): a status, or the push region it holds. -/
def State.dataCheck (s : State) (d : Nat) (conn : Nat) (c : Capsule) : Nat × Option Nat :=
  if isEp conn then (if c.psdt ≠ 0 then (stBadField, none) else (stOk, none))
  else match c.opcode with
  | 0x01 =>
    if c.sgl.kind = 0x40 then (stSglType, none)
    else if c.sgl.kind = 0x01 then
      if c.sgl.addr = 0 ∧ c.sgl.length = c.nlb * 4096 ∧ c.sgl.length ≤ 16384 then (stOk, none) else (stSglLength, none)
    else if c.sgl.kind = 0xF0 then
      let i := c.sgl.key / 65536
      let r := s.region d i
      let ci := s.conn d (connIdx conn)
      if decide (s.r d (.rdx .REGION_RANGE_first) ≤ i) && decide (i ≤ s.r d (.rdx .REGION_RANGE_last)) && r.state = 1 &&
          r.tag = c.sgl.key % 65536 && r.f.pd = ci.f.pd && (r.f.conn = 0xFFFFFF || r.f.conn = conn) &&
          decide (c.sgl.addr + c.sgl.length ≤ r.f.length) && c.sgl.length = c.nlb * 4096 then (stOk, some i)
      else (stPushRefused, none)
    else (stSglType, none)
  | 0x02 =>
    let segs := if c.sgl.kind = 0x31 then c.more else [c.sgl]
    if !(c.sgl.kind = 0x40 || (c.sgl.kind = 0x31 && decide (1 ≤ c.more.length) && decide (c.more.length ≤ 8))) ||
        segs.any (fun x => x.kind ≠ 0x40) then (stSglType, none)
    else if (segs.map (·.length)).foldl (· + ·) 0 ≠ c.nlb * 4096 then (stSglLength, none)
    else (stOk, none)
  | 0x09 => if c.sgl.kind = 0x01 then (stOk, none) else (stSglType, none)
  | _ => if c.sgl.kind = 0 ∧ c.sgl.addr = 0 ∧ c.sgl.length = 0 ∧ c.sgl.key = 0 then (stOk, none) else (stSglType, none)

/-- The admission checks (*Admission checks*): the status of the first that fails with its DW0, or the push region. -/
def State.ioCheck (s : State) (d conn host stamp : Nat) (c : Capsule) : Nat × Nat × Option Nat :=
  let img := s.bank stamp
  let gate := s.r d (.cmd .GATE_refuse)
  if gate = 1 then (stUnavailable, 0, none)
  else if gate = 2 then (stRecovering, 0, none)
  else if gate = 3 then (stMaintenance, 0, none)
  else if s.chanFailed d then (stUnavailable, 0, none)
  else if !ioOpcodes.contains c.opcode then (stBadOpcode, 0, none)
  else if c.fuse ≠ 0 then (stBadField, 0, none)
  else if (c.opcode = 1 ∨ c.opcode = 2 ∨ c.opcode = 8) ∧ c.cdw12 / 2 ^ 26 % 16 ≠ 0 then (stBadField, 0, none)
  else if (c.opcode = 1 ∨ c.opcode = 2) ∧ 512 < c.nlb then (stBadField, 0, none)
  else match img.namespaces.find? (fun n => n.nsid = c.nsid && n.flags.testBit 0) with
  | none => (stBadNamespace, 0, none)
  | some n =>
    if cdId n.channel ≠ d then (stOtherChannel, n.channel, none)
    else if !s.nsReady n then (stNotReady, 0, none)
    else
      let rights := ((img.access.find? (fun a => a.host = host && a.nsid = c.nsid)).map (·.rights)).getD 0
      let right := if c.opcode = 0 then rights.testBit 0 || rights.testBit 1 else if c.opcode = 2 then rights.testBit 0
        else if isResv c.opcode then rights.testBit 2 else rights.testBit 1
      if !right then (stAccessDenied, 0, none)
      else if writeClass c.opcode && n.flags.testBit 1 then (stWriteProtected, 0, none)
      else if ((c.opcode = 1 ∨ c.opcode = 2 ∨ c.opcode = 8) ∧ n.size < c.slba + c.nlb) ∨
          (c.opcode = 9 ∧ c.ranges.any (fun r => decide (n.size < r.1 + r.2))) then (stLbaRange, 0, none)
      else match s.dataCheck d conn c with
        | (0, reg) =>
          let x := s.cd d
          if (match x.sanitize with
              | some p => decide (p.phase < 3)
              | none => false) then (stSanitizeInProgress, 0, none)
          else if s.rb d (.nsm .SANITIZE_restricted) then (stSanitizeFailed, 0, none)
          else if (alGet x.formats c.nsid).any (fun p => decide (p.phase < 3)) then (stFormatInProgress, 0, none)
          else if ((alGet x.resv c.nsid).getD {}).conflicts host c.opcode then (stResvConflict, 0, none)
          else (stOk, 0, reg)
        | (st, _) => (st, 0, none)

def CmdSlot.dupKey (x : CmdSlot) : DupKey := ⟨x.host, x.cap.nsid, x.cap.opcode, x.slba, x.nlb, x.cap.cid⟩

/-- The effective stamp of an admitted command (R227). -/
def State.effective (s : State) (d conn stamp : Nat) : Nat × Bool :=
  let now := s.ts64 d
  let late := decide (stamp + 1000 * s.r d (.cmd .CFG_horizon_us) < now)
  let e := if late then now else stamp
  (max (max e ((alGet (s.cd d).prevE conn).getD 0)) (s.r d (.cmd .REPLAY_FLOOR)), late)

/-- A capsule is admitted on a connection with a queue (R211): stamped, keyed, tried against the duplicate filter and the
admission checks.  Admin and Fabrics capsules wait in Admitted for firmware. -/
def State.admitCommand (s : State) (d conn : Nat) (c : Capsule) (stamp quality msn : Nat) : State :=
  match s.newSlot d, s.queueOf d conn with
  | none, _ => s.cmdBump d 19
  | some k, none =>
    -- The first capsule of a connection must be a Connect (R206).
    if c.opcode = 0x7F ∧ c.nsid % 256 = 1 then
      (s.cmdBump d 0).setSlot d k { state := 1, conn := conn, cap := c, stamp := stamp, msn := msn, quality := quality, order := (s.cd d).order }
    else s
  | some k, some q =>
    let (e, late) := s.effective d conn stamp
    let cd := s.cd d
    let slot : CmdSlot := { state := 1, conn := conn, host := q.host, admin := q.qid = 0, cap := c, slba := c.slba, nlb := c.nlb, e := e, msn := msn,
                            stamp := stamp, quality := quality, order := cd.order, late := late, ranges := c.ranges }
    let s := s.setCd d { cd with order := cd.order + 1
                                 queues := cd.queues.map (fun y => if y.conn = conn then { y with count := y.count + 1 } else y) }
    let s := s.cmdBump d 0
    if c.opcode = 0x7F then
      -- Types of which no command is known complete with Invalid Field (R209).
      let s := s.setSlot d k slot
      if [0x00, 0x01, 0x04, 0x08, 0xC0, 0xC1, 0xC2].contains (c.nsid % 256) then s else s.completeWith d k stBadField
    else if q.qid = 0 then
      let s := s.setSlot d k slot
      if adminOpcodes.contains c.opcode then s else s.completeWith d k stBadOpcode
    else
      let cd := s.cd d
      let s := s.setCd d { cd with prevE := alPut cd.prevE conn e }
      let s := s.setSlot d k slot
      let s := if late then (s.cmdBump d 12).ev d (.cmd .EVENTS_late_restamp) else s
      match cd.slots.find? (fun y => y.1 ≠ k && decide (1 ≤ y.2.state) && !y.2.admin && y.2.dupKey = slot.dupKey && !y.2.dup) with
      | some (o, y) =>
        if y.state ≠ 6 then
          if y.conn = conn then (s.freeSlot d k).cmdBump d 9
          else
            let s := (s.setSlot d k { slot with dup := true }).cmdBump d 9
            if y.state = 5 then s.completeWith d k (y.status.getD 0) y.dw0 y.dw1
            else s.setSlot d o { y with waiters := y.waiters ++ [k] }
        else
          let s := (s.setSlot d k { slot with dup := true }).cmdBump d 10
          ((s.holdOver d y.seqs).freeSlot d o).completeWith d k (y.status.getD 0) y.dw0 y.dw1
      | none =>
        if writeClass c.opcode && cd.filter.contains slot.dupKey then
          (s.cmdBump d 11).completeWith d k stOk
        else
          match s.ioCheck d conn q.host stamp c with
          | (0, _, reg) =>
            let s := match reg with
              | some i => let r := s.region d i
                (s.setRegion d i { r with inFlight := r.inFlight + 1 }).setSlot d k { slot with region := some i }
              | none => s
            s.armFor d k 1 (s.mirrored d && c.opcode ≠ 2 && c.opcode ≠ 0 && c.opcode ≠ 0x0E)
              (if c.opcode = 2 then (if c.sgl.kind = 0x31 then c.more.length else 1) + 1 else 1)
          | (st, dw0, _) =>
            let s := if st = stAccessDenied then s.cmdBump d 20 else if st = stOtherChannel then s.cmdBump d 21
              else if st = stUnavailable ∨ st = stRecovering ∨ st = stMaintenance then s.cmdBump d 22 else s
            s.completeWith d k st dw0

/-! ### Writes (R221, R282, R326) -/

def DataFrozen (s : State) (d : Nat) : Bool :=
  s.rbit d (.arb .FREEZE_mask) 1 || s.rbit d (.arb .FREEZE_mask) 3 || s.rbit d (.arb .FREEZE_mask) 4

/-- Earlier commands of a die wait for space: the head of the line holds back those behind it. -/
def State.spaceQueueAhead (s : State) (d k : Nat) : Bool :=
  (s.cd d).slots.any (fun y => y.1 ≠ k && y.2.state = 3 && y.2.cap.opcode = 1 && !y.2.taken && decide (y.2.order < (s.slot d k).order))

/-- A write in Executing obtains its slots and budget and its bytes are copied; otherwise it waits (R282, R287). -/
def State.reserveSpace (s : State) (d k : Nat) (data : List Block) : State :=
  let x := s.slot d k
  let y := s.sp d
  if x.state ≠ 3 ∨ x.taken then s
  else if s.spaceQueueAhead d k then s
  else if y.freeSlots < x.nlb ∨ s.ceiling d < y.dirtyCount + x.nlb then
    let s := s.spgBump d 8
    if s.ceiling d < y.dirtyCount + x.nlb && !y.ceilingWait then
      (s.setSp d { y with ceilingWait := true }).ev d (.spg .EVENTS_ceiling_reached) else s
  else if (List.range x.nlb).any (fun i => (s.lookup d x.cap.nsid (x.slba + i)).isNone &&
      (s.bucketFor d x.cap.nsid (x.slba + i)).isNone) then s.spgBump d 7
  else
    let s := s.setSp d { y with reserved := y.reserved + x.nlb, ceilingWait := false }
    (s.setSlot d k { x with reserved := x.nlb, taken := true
                            blocks := (List.range x.nlb).map (fun i => (x.slba + i, some (data.getD i 0))) })

/-- The regions a write-class command touches. -/
def State.cmdRegions (s : State) (d k : Nat) : List Nat :=
  let x := s.slot d k
  if x.cap.opcode = 9 then ((x.ranges.filter (fun r => r.2 ≠ 0)).map (fun r => s.regionsOf d x.cap.nsid r.1 r.2)).flatten.eraseDups
  else s.regionsOf d x.cap.nsid x.slba x.nlb

def State.crumbOf (s : State) (d k : Nat) (kind : Nat) : Crumb :=
  let x := s.slot d k
  { kind := kind, flags := x.quality % 4 + (if x.late then 4 else 0), host := x.host, nsid := x.cap.nsid, e := x.e
    stamp := x.stamp, slba := x.slba, nlb := x.nlb, conn := x.conn, opcode := x.cap.opcode, msn := x.msn, cid := x.cap.cid
    group := s.nsGroup x.cap.nsid
    aux := if kind = 1 && x.region.isSome then 1 else 0, aux2 := if kind = 1 then x.region.getD 0 else 0 }

/-- What a commit of blocks does beside its index step: marks of deferred ranges and bad units go (R250). -/
def State.committed (s : State) (d nsid slba nlb : Nat) : State :=
  (s.deferClear d nsid slba nlb).w d (.nsm .SANITIZE_global_erased) 0

/-- A mirrored write of a connection that the partner does not shadow is followed by its data, two blocks to a frame (spec/15 R430). -/
def State.carryData (s : State) (d : Nat) (c : Crumb) (l : List Block) : State :=
  let i := connIdx c.conn
  let sent := s.mirrored d || (s.modeNow = 5 && s.rb d (.pair .CD_STATUS_seeding))
  if !sent || (!isEp c.conn && (s.r d (.pair .SHADOW_bits) (i / 32)).testBit (i % 32)) then s else
    foldS (fun (s : State) k => s.sendPartner 4 (d - 1) [c.seq, 2 * k, min 2 (l.length - 2 * k)] ((l.drop (2 * k)).take 2)) (s.pairBump d 1)
      (List.range ((l.length + 1) / 2))

/-- A write-class command commits once its bytes are in, its bits are durable and a Crumb position is free (R221). -/
def State.tryCommit (s : State) (d k : Nat) : State :=
  let s := s.purgeRanges d
  let x := s.slot d k
  let rs := s.cmdRegions d k
  let g := s.nsGroup x.cap.nsid
  if x.state ≠ 3 ∨ (x.cap.opcode = 1 ∧ !x.taken) ∨ DataFrozen s d then s
  else if x.cap.opcode ≠ 1 ∧ 4096 < (s.sp d).ranges.length + (if x.cap.opcode = 9 then (x.ranges.filter (fun r => r.2 ≠ 0)).length else 1) then s
  else if !s.regionsDurable d g rs then s.grpBump d 13
  else if !s.crumbRoom d 1 then s.spgBump d 11
  else
    let seq := s.crumbNext d
    let superBefore := s.ctr d 0x21 13
    let s := match x.cap.opcode with
      | 1 =>
        let c := { s.crumbOf d k 1 with seq := seq }
        let l := x.blocks.map (fun (b : Nat × Option Block) => b.2.getD 0)
        let s := (s.writeCrumb d c).carryData d c l
        let y := s.sp d
        let s := s.setSp d { y with reserved := y.reserved - x.reserved }
        (((s.commitBlocks d c g l).committed d x.cap.nsid x.slba x.nlb).cmdBump d 4 x.nlb).unitsMoved d k 0 x.nlb
      | 8 =>
        let c := { s.crumbOf d k 2 with seq := seq }
        ((s.writeCrumb d c).commitRange d c).committed d x.cap.nsid x.slba x.nlb
      | _ =>
        let rs := x.ranges.filter (fun (r : Nat × Nat) => r.2 ≠ 0)
        foldS (fun (s : State) (e : (Nat × Nat) × Nat) =>
          let c := { s.crumbOf d k 3 with seq := s.crumbNext d, slba := e.1.1, nlb := e.1.2, aux := e.2, aux2 := rs.length
                                          flags := (s.crumbOf d k 3).flags + 8 + (if e.2 + 1 = rs.length then 16 else 0) }
          ((s.writeCrumb d c).commitRange d c).committed d x.cap.nsid e.1.1 e.1.2) s rs.zipIdx
    let last := s.crumbNext d - 1
    let x := s.slot d k
    let s := s.setSlot d k { x with state := 4, seqs := (List.range (last + 1 - seq)).map (· + seq), reserved := 0, blocks := []
                                    superseded := decide (s.ctr d 0x21 13 ≠ superBefore) }
    let s := (s.dropRegion d k).keyChain d k last
    let failed := (s.chain d k).state = 5
    let s := s.raise d k 1 last
    if failed then
      let y := s.slot d k
      ((s.setSlot d k { y with status := some stOk }).orphan d k).settle d k
    else s

/-! ### Reads (R225, R230, R231, R322-R325) -/

def overlaps (a an b bn : Nat) : Bool := decide (a < b + bn) && decide (b < a + an)

/-- A read must wait behind a write of its connection with an earlier key that has not committed (R230). -/
def State.readBlocked (s : State) (d k : Nat) : Bool :=
  let x := s.slot d k
  -- A block that waits for the partner's copy (spec/10 R301).
  (s.sp d).index.any (fun y => y.pending && y.nsid = x.cap.nsid && decide (x.slba ≤ y.lba) && decide (y.lba < x.slba + x.nlb)) ||
  (s.cd d).slots.any (fun y => y.1 ≠ k && y.2.conn = x.conn && writeClass y.2.cap.opcode && y.2.cap.nsid = x.cap.nsid &&
    (y.2.state = 1 || y.2.state = 2 || y.2.state = 3) && keyLater x.e x.conn x.msn y.2.e y.2.conn y.2.msn &&
    (if y.2.cap.opcode = 9 then y.2.ranges.any (fun r => overlaps r.1 r.2 x.slba x.nlb) else overlaps y.2.slba y.2.nlb x.slba x.nlb))

/-- Crumbs whose data a read would take and that the partner has not acknowledged (R231). -/
def State.unmirroredFor (s : State) (d k : Nat) : List Nat :=
  let x := s.slot d k
  if !s.mirrored d then [] else
    (((s.sp d).index.filter (fun y => y.nsid = x.cap.nsid && decide (x.slba ≤ y.lba) && decide (y.lba < x.slba + x.nlb))).map
      (·.seq)).filter (fun q => (s.ringCrumb d q).any (fun r => !r.placed))

def State.pred (s : State) (d g bay : Nat) : Nat :=
  let x := s.grp_ d g
  let l := (alGet x.lat bay).getD 100000
  let oldest := (s.drv.cmds.filter (fun c => c.die = d && c.bay = bay && c.op = 0 && !c.held)).foldl (fun m c => max m (s.now - c.issued)) 0
  max l oldest

def Group.bay (x : Group) (p : Nat) : Nat := (x.serving.getD p none).getD 0

/-- Member reads are counted, for their die and for the steering budget of their group (R324). -/
def State.memberReads (s : State) (d g n : Nat) : State :=
  let x := s.grp_ d g
  let ms := s.ts64 d / 1000000
  let x := if x.readMs = ms then { x with readNow := x.readNow + n }
    else { x with readMs := ms, readNow := n, readPrev := if x.readMs + 1 = ms then x.readNow else 0 }
  (s.setGrp d g x).grpBump d 3 n
/-- Member reads of a group in the ms of TS64 before this one. -/
def State.readsBefore (s : State) (d g : Nat) : Nat :=
  let x := s.grp_ d g
  let ms := s.ts64 d / 1000000
  if x.readMs = ms then x.readPrev else if x.readMs + 1 = ms then x.readNow else 0

/-- A unit may serve as a source: its position serves the stripe, has not been tried, and the unit is not listed as bad. -/
def Group.usable (x : Group) (t o tried p : Nat) : Bool :=
  x.serves p t && !tried.testBit p &&
    (let r := x.role t p
     !(decide (r < x.kEff) && x.badAt (x.blockAt t r o)))

/-- Positions whose units reconstruct the unit of a position in a row (R322), but for positions tried; none: it cannot be done. -/
def Group.sources (x : Group) (t o pos : Nat) (tried : Nat := 0) : Option (List Nat) :=
  let okp := fun p => p ≠ pos && x.usable t o tried p
  let data := (List.range x.k).map (fun j => x.posOf t j)
  let have_ := data.filter okp
  let p := x.posOf t x.k
  let q := x.posOf t (x.k + 1)
  let missing := (data.filter (fun y => y ≠ pos && !okp y)).length
  let dbl := x.layout = 4
  if missing = 0 && okp p then some (have_ ++ [p])
  else if missing = 0 && dbl && okp q then some (have_ ++ [q])
  else if missing = 1 && dbl && okp p && okp q then some (have_ ++ [p, q])
  else none

/-- What a steered read reads instead of a position: the row's other data units, and P, or Q where its position has the
smaller prediction; none unless every other data unit is usable and P or Q is present (R324). -/
def State.steerSources (s : State) (d g t o pos : Nat) : Option (List Nat) :=
  let x := s.viewT d g t
  let others := ((List.range x.k).map (fun j => x.posOf t j)).filter (· ≠ pos)
  let par := (x.k :: (if x.layout = 4 then [x.k + 1] else [])).map (fun r => x.posOf t r)
  let par := par.filter (fun p => p ≠ pos && x.usable t o 0 p)
  if !others.all (x.usable t o 0) then none
  else match par with
    | [] => none
    | p :: rest => some (others ++ [rest.foldl (fun m q => if s.pred d g (x.bay q) < s.pred d g (x.bay m) then q else m) p])

/-- A direct read of a position is steered to a reconstruction (R324). -/
def State.steers (s : State) (d g t o pos : Nat) : Bool :=
  let x := s.viewT d g t
  match s.steerSources d g t o pos with
  | none => false
  | some src =>
    let pd := s.pred d g (x.bay pos)
    let worst := (src.map (fun p => s.pred d g (x.bay p))).foldl max 0
    let budget := max 16 (s.r d (.grp .STEER_CFG_budget_pct) * s.readsBefore d g / 100)
    x.steer && decide (1000 * s.r d (.grp .STEER_CFG_min_us) ≤ pd) &&
      decide (s.r d (.grp .STEER_CFG_ratio_x16) * worst < 16 * pd) &&
      decide ((if x.steerMs = s.ts64 d / 1000000 then x.steered else 0) < budget)

/-- Reads of a row's sources are issued for one unit. -/
def State.readSources (s : State) (d g : Nat) (x : Group) (o : DrvOwner) (src : List Nat) (lba : Nat) : State :=
  foldS (fun (s : State) p => (s.drvIssue d (x.bay p) 0 lba 1 o p).memberReads d g 1) s src

/-- A drive command's owner serves a unit or the whole of a host's read. -/
def DrvOwner.hostRead (o : DrvOwner) : Bool := o.kind = 1 || o.kind = 20 || o.kind = 22
/-- What is outstanding for a host's read is discarded as it comes. -/
def State.dropReads (s : State) (d k : Nat) : State :=
  let mine := fun (o : DrvOwner) => o.hostRead && o.a = k
  let s := s.disown d mine
  { s with rsh := { s.rsh with groups := s.rsh.groups.map (fun e =>
    if e.1.1 = d then (e.1, { e.2 with waitReads := e.2.waitReads.filter (fun w => w.1 ≠ k) }) else e) } }

/-- A read has all its data: its trigger is raised; one whose chain has failed has reached its outcome (R220). -/
def State.readDone (s : State) (d k kind key : Nat) : State :=
  if (s.chain d k).state = 5 then ((s.setSlot d k { s.slot d k with status := some stOk }).orphan d k).settle d k
  else s.raise d k kind key

/-- The read of a host's command cannot be served (R223, R322). -/
def State.readFails (s : State) (d k : Nat) : State :=
  let x := s.slot d k
  if x.state ≠ 3 then s else
    let s := s.dropReads d k
    let s := if (s.chain d k).state = 1 then s.chainFailed d k else s
    s.completeWith d k stReadError

/-- A missed block's data is there. -/
def State.blockArrives (s : State) (d k lba : Nat) (b : Block) : State :=
  let x := s.slot d k
  s.setSlot d k { x with blocks := x.blocks.map (fun e => if e.1 = lba then (e.1, some b) else e) }

/-- A block of a read is read directly, from a mirror's next position, or from its row, whichever way is left after the
positions tried (R322, R323, R325); with none the unit is lost. -/
def State.readUnit (s : State) (d k lba tried media : Nat) : State :=
  let g := s.nsGroup (s.slot d k).cap.nsid
  let gb := s.groupBlock (s.slot d k).cap.nsid lba
  let x := s.viewB d g gb
  let (t, j, o) := x.locate gb
  let ml := x.lbaOf t o
  let own : DrvOwner := { kind := 1, a := k, b := lba, tried := tried, media := media }
  if x.mirror then
    let order := ((List.range x.n).map (fun i => (t % 2 ^ 63 + i) % x.n)).filter (fun p => x.serves p t && !tried.testBit p)
    match (if x.steer then order.foldl (fun (m : Option Nat) p => match m with
          | none => some p
          | some y => if s.pred d g (x.bay p) < s.pred d g (x.bay y) then some p else some y) none
        else order.head?) with
    | some p => s.readSources d g x own [p] ml
    | none =>
      let lost := ((List.range x.n).find? (fun p => tried.testBit p)).getD (t % 2 ^ 63 % x.n)
      (s.addBad d g gb 2 lost).readFails d k
  else
    let pos := x.posOf t j
    let direct := x.serves pos t && !tried.testBit pos
    if direct && !(tried = 0 && s.steers d g t o pos) then s.readSources d g x own [pos] ml
    else if direct then
      let ms := s.ts64 d / 1000000
      let y := s.grp_ d g
      let s := (s.setGrp d g { y with steerMs := ms, steered := if y.steerMs = ms then y.steered + 1 else 1 }).grpBump d 5
      s.readSources d g x { own with kind := 20 } ((s.steerSources d g t o pos).getD []) ml
    else match x.sources t o pos tried with
      | none => (s.addBad d g gb 2 pos).readFails d k
      | some src => (s.grpBump d 6).readSources d g x { own with kind := 20 } src ml

/-- The read of one block from the drives starts: under the layout that holds it; a block at a reshape's cursor waits for the
step's buffer, or is taken from it (spec/12 R354). -/
def State.readBlock (s : State) (d k lba : Nat) : State :=
  let nsid := (s.slot d k).cap.nsid
  let g := s.nsGroup nsid
  let gb := s.groupBlock nsid lba
  let rsh := (s.rshOf d g).getD {}
  if rsh.atCursor gb then
    if 3 ≤ rsh.step then (s.cipBump d 1).blockArrives d k lba (s.decrypt d nsid lba (rsh.buf.getD (gb - rsh.from_) 0))
    else
      ({ s with rsh := { s.rsh with groups := alPut s.rsh.groups (d, g) { rsh with waitReads := rsh.waitReads ++ [(k, lba)] } } }).bump d 0x26 5
  else if (s.viewB d g gb).badAt gb then (s.grpBump d 15).readFails d k
  else s.readUnit d k lba 0 0

/-- A read enters Executing (R225): its Crumb records its key, each block is looked up once, and the misses are read. -/
def State.startRead (s : State) (d k : Nat) : State :=
  let x := s.slot d k
  let staged := ((s.cd d).slots.map (fun y => if y.2.cap.opcode = 2 && y.2.state = 3 then y.2.blocks.length else 0)).foldl (· + ·) 0
  if 131072 < staged + x.nlb then (s.setSlot d k { x with state := 3 }).spgBump d 19
  else if !s.crumbRoom d 4 then (s.setSlot d k { x with state := 3 }).spgBump d 11
  else
    match s.deferHit d x.cap.nsid x.slba x.nlb with
    | some l => (s.cmdBump d 16).completeWith d k stDeferred (l % 2 ^ 32) (l / 2 ^ 32)
    | none =>
      let seq := s.crumbNext d
      let s := s.writeCrumb d (s.crumbOf d k 4)
      let lbas := (List.range x.nlb).map (· + x.slba)
      let hits := lbas.map (fun l => (l, s.held d x.cap.nsid l))
      let nhit := (hits.filter (fun e => e.2.isSome)).length
      let poisoned := lbas.any (fun l => (s.lookup d x.cap.nsid l).any (·.poisoned))
      let s := s.mapIndex d (fun y => if y.nsid = x.cap.nsid && lbas.contains y.lba then { y with ref := true } else y)
      let s := ((((s.spgBump d 0 x.nlb).spgBump d 1 nhit).cmdBump d 5 nhit).cmdBump d 1).cmdBump d 3 x.nlb
      let s := s.unitsMoved d k x.nlb 0
      let s := (s.setSlot d k { x with state := 3, blocks := hits, seqs := [seq] }).keyChain d k seq
      if poisoned then s.completeWith d k stDeferred (x.slba % 2 ^ 32) (x.slba / 2 ^ 32)
      else
        let misses := (hits.filter (fun e => e.2.isNone)).map (·.1)
        -- A slot bound to another namespace fails the job (spec/14 R400).
        if !misses.isEmpty && s.r d (.cip .SLOT_A_nsid) (((s.nsEntry x.cap.nsid).map (·.keySlot)).getD 0) ≠ x.cap.nsid then
          ((s.cipBump d 6).ev d (.cip .EVENTS_load_refused)).readFails d k
        else
        -- One drive command serves the whole read where it lies on one unit run (R223).
        let g := s.nsGroup x.cap.nsid
        let grp := s.viewB d g (s.groupBlock x.cap.nsid x.slba)
        let (t, j, o) := grp.locate (s.groupBlock x.cap.nsid x.slba)
        let pos := if grp.mirror then t % grp.n else grp.posOf t j
        let rsh := (s.rshOf d g).getD {}
        if nhit = 0 ∧ o + x.nlb ≤ grp.strip ∧ grp.serves pos t ∧ !grp.mirror ∧ !s.steers d g t o pos ∧
            !(lbas.any (fun l => grp.badAt (s.groupBlock x.cap.nsid l) || rsh.atCursor (s.groupBlock x.cap.nsid l))) then
          let cid := s.drv.nextCid
          let s := (s.drvIssue d (grp.bay pos) 0 (grp.lbaOf t o) x.nlb { kind := 22, a := k } pos).memberReads d g 1
          let c := s.chain d k
          s.setChain d k { c with hdr := { c.hdr with kind0 := 4, key0 := 65536 * grp.bay pos + cid } }
        else foldS (fun (s : State) l => if (s.slot d k).state = 3 then s.readBlock d k l else s) s misses

/-- Every block of a read is in staging. -/
def CmdSlot.assembled (x : CmdSlot) : Bool := x.cap.opcode = 2 && x.state = 3 && !x.blocks.isEmpty && x.blocks.all (fun e => e.2.isSome)

/-! ### Abort (R236, R237) -/

/-- The outcome of an abort for a command in flight: caught (true), with its effect. -/
def State.abortSlot (s : State) (d k : Nat) : State × Bool :=
  let x := s.slot d k
  if x.state = 1 ∨ x.state = 2 ∨ x.state = 3 then
    if x.cap.opcode = 2 ∧ (s.chain d k).state = 2 then (s, false)
    else
      let s := s.dropReads d k
      let s := s.setSlot d k { x with caught := true }
      let s := if writeClass x.cap.opcode && s.mirrored d then
          s.writeCrumb d { s.crumbOf d k 0x21 with aux := stAborted } else s
      (s.completeWith d k stAborted, true)
  else (s, false)

end Sys2Proof.Machine
end

