-- ==== Sys2Proof/Machine/EpOps.lean ====
section
/-! DEFINITION. Operations of the endpoint (spec/18): its queues and completion entries, landing pages, forwarding, stopping a
function, and data presence. -/

set_option Elab.async false

namespace Sys2Proof.Machine

/-- The endpoint connection of queue y of a function on a channel die (R515). -/
def epConn (d f y : Nat) : Nat := (d - 1) * 2 ^ 21 + 64 * f + y

/-- F_STATE.in_flight and io_queues follow the function's commands and queues. -/
def State.epShow (s : State) (f : Nat) : State :=
  let e := s.ep
  let fetching := ((e.reqs.filter (fun r => r.fn = f && r.fetch && !r.stale)).map (·.n)).foldl (· + ·) 0
  (s.w 0 (.epf .F_STATE_in_flight) ((e.cmds.filter (fun c => c.fn = f)).length + fetching) f).w 0 (.epf .F_STATE_io_queues)
    (e.sqs.filter (fun q => q.fn = f && q.qid ≠ 0)).length f
/-- LAND_STATUS.used of a die. -/
def State.landShow (s : State) (d : Nat) : State :=
  s.w d (.epf .LAND_STATUS_used) (((s.ep.land.filter (fun l => l.die = d)).map (·.pages)).foldl (· + ·) 0)

def State.epSq (s : State) (f y : Nat) : Option EpQueue := s.ep.sqs.find? (fun q => q.fn = f && q.qid = y)
def State.epCq (s : State) (f y : Nat) : Option EpQueue := s.ep.cqs.find? (fun q => q.fn = f && q.qid = y)
/-- A function is running: enabled, ready, not stopped, not being reset. -/
def State.fnRuns (s : State) (f : Nat) : Bool :=
  s.fnExists f && s.rb 0 (.epf .F_STATE_rdy) f && !s.rb 0 (.epf .F_STATE_cfs) f && !s.ep.stopped.contains f &&
    !s.rb 0 (.epf .F_STATE_stopping) f

/-- CSTS.CFS of a function sets. -/
def State.epCfs (s : State) (f : Nat) : State := ((s.w 0 (.epf .F_STATE_cfs) 1 f).ev 0 (.epf .EVENTS_cfs))

/-! ### Landing pages (R517) -/

/-- The command engine has taken a command's bytes or refused it, and its Crumb is covered: the pages are free. -/
def State.landOver (s : State) (l : EpLand) : Bool :=
  l.fwd && (match (s.cd l.die).slots.find? (fun z => z.2.conn = l.conn && z.2.cap.cid = l.cid && z.2.state ≠ 0) with
    | none => true
    | some z => decide (5 ≤ z.2.state) || (!s.mirrored l.die && (z.2.state = 4 || (z.2.state = 3 && z.2.taken))))
def State.landSweep (s : State) : State :=
  let s := s.setEp { s.ep with land := s.ep.land.filter (fun l => !s.landOver l) }
  foldS (fun (s : State) c => s.landShow (cdId c)) s s.cds

/-- Pages that a command's data takes: a Write's blocks; one for a range list or the data of a reservation command. -/
def epPages (c : Capsule) : Nat :=
  if c.opcode = 1 then c.nlb else if c.opcode = 9 || isResv c.opcode then 1 else 0

/-! ### Completion entries (R514, R519) -/

/-- An entry is written to the completion queue of a command, or it waits while the queue is full. -/
def State.epPost (s : State) (c : EpCmd) : State :=
  let sq := (s.epSq c.fn c.sq).getD { fn := c.fn, qid := c.sq, size := 2 }
  match s.epCq c.fn sq.cq with
  | none => s
  | some q =>
    if (q.tail + 1) % q.size = q.head then
      s.setEp { s.ep with cmds := s.ep.cmds.map (fun (x : EpCmd) => if x.tok = c.tok then { c with st := 4 } else x) }
    else
      let wrap := decide (q.tail + 1 = q.size)
      let q' := { q with tail := if wrap then 0 else q.tail + 1, phase := if wrap then !q.phase else q.phase }
      let due := if q.ien && !s.ep.msiDue.contains (c.fn, q.cq) then s.ep.msiDue ++ [(c.fn, q.cq)] else s.ep.msiDue
      let s := s.setEp { s.ep with cqs := s.ep.cqs.map (fun x => if x = q then q' else x)
                                   cmds := s.ep.cmds.filter (fun x => x.tok ≠ c.tok), msiDue := due }
      (((s.emit (.epCompletion c.fn q.qid c.cap.cid c.status c.dw0 c.dw1 sq.head q.phase)).epfBump 6).epfBump 1).epShow c.fn
/-- The endpoint completes a command itself (R516). -/
def State.epLocal (s : State) (c : EpCmd) (status : Nat) (dw0 : Nat := 0) : State :=
  (s.epfBump 4).epPost { c with status := status, dw0 := dw0 }

/-! ### Forwarding (R517, R518) -/

/-- A command goes through port 11 to its channel die's command engine, with the stamp of its first cell (R211). -/
def State.epForward (s : State) (c : EpCmd) : State :=
  let conn := epConn c.die c.fn c.sq
  let msn := ((alGet s.ep.msns conn).getD 0 + 1) % 2 ^ 24
  let e := s.ep
  let s := s.setEp { e with
    msns := alPut e.msns conn msn
    cmds := e.cmds.map (fun (x : EpCmd) => if x.tok = c.tok then { x with st := 2 } else x)
    land := e.land.map (fun (l : EpLand) => if l.die = c.die && l.conn = conn && l.cid = c.cap.cid then { l with fwd := true } else l) }
  (s.epfBump 3).admitCommand c.die conn c.cap (s.ts64 0) (s.quality 0) msn

/-- The commands of a queue for a die go in submission order: one whose data is still being fetched holds the later ones. -/
def State.epAdvance (s : State) (f y d : Nat) : State :=
  let l := s.ep.cmds.filter (fun c => c.fn = f && c.sq = y && c.die = d && (c.st = 0 || c.st = 1 || c.st = 3))
  foldS (fun (s : State) c => s.epForward c) s (l.takeWhile (fun c => c.st = 1))

/-- A request of the endpoint: the lowest tag that is neither outstanding nor held back. -/
def State.epTag (s : State) : Option Nat :=
  if 4096 ≤ s.ep.reqs.length then none else
    (List.range 16384).find? (fun t => !s.ep.reqs.any (fun r => r.tag = t) && !s.ep.heldTags.any (fun h => h.1 = t && decide (s.now < h.2)))

/-- A command's data is fetched into landing pages, or it waits for them. -/
def State.epFetchData (s : State) (c : EpCmd) : State :=
  let set := fun (s : State) (st : Nat) =>
    s.setEp { s.ep with cmds := s.ep.cmds.map (fun (x : EpCmd) => if x.tok = c.tok then { x with st := st } else x) }
  let used := s.r c.die (.epf .LAND_STATUS_used)
  match s.epTag with
  | none => set s 3
  | some t =>
    if 16384 < used + epPages c.cap then set s 3 else
      let s := set s 0
      let s := s.setEp { s.ep with
        reqs := s.ep.reqs ++ [{ tag := t, fn := c.fn, fetch := false, sq := c.sq, tok := c.tok, issued := s.now }]
        land := s.ep.land ++ [{ die := c.die, conn := epConn c.die c.fn c.sq, cid := c.cap.cid, pages := epPages c.cap }] }
      (((s.landShow c.die).epfBump 1).emit (.epRead t c.fn false (epPages c.cap)))
/-- Freed pages go to the waiting writes, oldest first (R532). -/
def State.epRetry (s : State) : State :=
  let s := s.landSweep
  foldS (fun (s : State) c => s.epFetchData c) s (s.ep.cmds.filter (fun c => c.st = 3))

/-! ### Stopping a function (R527-R530) -/

/-- What a channel die holds of a function: its endpoint connections are in Error, and every chain of it fails (R528 step 3). -/
def State.epDieStop (s : State) (d f : Nat) : State :=
  let mine := fun conn => isEp conn && epFn conn = f
  let y := s.cd d
  let s := s.setCd d { y with queues := y.queues.filter (fun q => !mine q.conn), ctrls := alDel y.ctrls (0x7000 + f) }
  let s := foldS (fun (s : State) k => s.freeSlot d k) s (((y.ctrls.find? (fun e => e.1 = 0x7000 + f)).map (·.2.aers)).getD [])
  foldS (fun (s : State) n => s.chainFailed d n) s
    ((s.rdx.chains.filter (fun e => e.1.1 = d && mine e.2.hdr.conn && (e.2.state = 1 || e.2.state = 2))).map (·.1.2))

/-- A function stops (R528); `reset`: the stale requests also time out 90 ms after a reset (R529). -/
def State.epStop (s : State) (f : Nat) (reset : Bool) : State :=
  let e := s.ep
  let mine := e.cmds.filter (fun c => c.fn = f)
  let gone := mine.filter (fun c => c.st ≠ 2 && c.chain.isNone)
  let s := s.setEp { e with
    cmds := e.cmds.filter (fun c => c.fn ≠ f)
    land := e.land.filter (fun l => !(epFn l.conn = f && !l.fwd))
    reqs := e.reqs.map (fun (r : EpReq) => if r.fn = f then { r with stale := true, resetAt := if reset then some s.now else r.resetAt } else r)
    msiDue := e.msiDue.filter (fun m => m.1 ≠ f), stopped := if e.stopped.contains f then e.stopped else e.stopped ++ [f] }
  let s := (s.epfBump 5 gone.length).ev 0 (.epf .EVENTS_function_stopped)
  let s := foldS (fun (s : State) c => (s.epDieStop (cdId c) f).landShow (cdId c)) s s.cds
  s.epShow f

/-- A function's registers as a function level reset leaves them, its queues deleted. -/
def State.epClear (s : State) (f : Nat) : State :=
  let s := s.setEp { s.ep with sqs := s.ep.sqs.filter (fun q => q.fn ≠ f), cqs := s.ep.cqs.filter (fun q => q.fn ≠ f)
                               pba := s.ep.pba.filter (fun m => m.1 ≠ f), aq := alDel s.ep.aq f
                               stopped := s.ep.stopped.filter (· ≠ f) }
  let s := ((s.w 0 (.epf .F_STATE_cc_en) 0 f).w 0 (.epf .F_STATE_rdy) 0 f).w 0 (.epf .F_STATE_cfs) 0 f
  (s.w 0 (.epf .F_STATE_shst) 0 f).epShow f

/-- A function reset (R525, R529). -/
def State.epReset (s : State) (f : Nat) : State :=
  let s := (s.epStop f true).epClear f
  let s := ((s.w 0 (.epf .F_STATE_dstate) 0 f).w 0 (.epf .F_STATE_bme) 0 f).w 0 (.epf .F_STATE_mse) 0 f
  s.w 0 (.epf .F_STATE_stopping) 1 f
/-- A conventional reset of every function; no VF exists after it. -/
def State.epResetAll (s : State) : State :=
  (foldS (fun (s : State) f => s.epReset f) s (List.range (s.r 0 (.epf .STATUS_num_vfs) + 1))).w 0 (.epf .STATUS_num_vfs) 0

/-- RDY sets (R512): every channel die that runs has the function's controller and its admin queue. -/
def State.epReady (s : State) (f : Nat) : State :=
  match alGet s.ep.aq f with
  | none => s
  | some (asq, acq) =>
    let host := s.r 0 (.epf .F_CFG_host_id) f
    let s := s.w 0 (.epf .F_STATE_rdy) 1 f
    let s := s.setEp { s.ep with
      sqs := s.ep.sqs.filter (fun q => !(q.fn = f && q.qid = 0)) ++ [{ fn := f, qid := 0, size := asq }]
      cqs := s.ep.cqs.filter (fun q => !(q.fn = f && q.qid = 0)) ++ [{ fn := f, qid := 0, size := acq }] }
    foldS (fun (s : State) c =>
      let d := cdId c
      if !s.cdUp d then s else
        let s := s.setCtrl d (0x7000 + f) { host := host }
        let y := s.cd d
        s.setCd d { y with queues := y.queues ++ [⟨epConn d f 0, host, 0, asq, 0⟩] }) s s.cds

/-- Data presence is lost (R530): every function stops and sets CFS. -/
def State.epAbsent (s : State) : State :=
  if !s.rb 0 (.epf .STATUS_data_presence) then s else
    foldS (fun (s : State) f => (s.epStop f false).epCfs f) (s.w 0 (.epf .STATUS_data_presence) 0)
      ((List.range (s.r 0 (.epf .STATUS_num_vfs) + 1)).filter (fun f => s.rb 0 (.epf .F_STATE_cc_en) f && !s.ep.stopped.contains f))
/-- Data presence is gained (R512, R526). -/
def State.epPresent (s : State) : State :=
  if s.rb 0 (.epf .STATUS_data_presence) then s else
    foldS (fun (s : State) f =>
      let s := s.epWake f
      if s.rb 0 (.epf .F_STATE_cc_en) f && !s.rb 0 (.epf .F_STATE_cfs) f && !s.rb 0 (.epf .F_STATE_rdy) f then s.epReady f else s)
      (s.w 0 (.epf .STATUS_data_presence) 1) (List.range (s.r 0 (.epf .STATUS_num_vfs) + 1))

end Sys2Proof.Machine
end

