-- ==== Sys2Proof/Machine/ReshapeOps.lean ====
section
/-! DEFINITION. Operations of the reshape engine (spec/12): its registers and record, conditions at the start, the rows a
step touches, pausing, and the switch. -/

set_option Elab.async false

namespace Sys2Proof

def GroupEntry.kOf (e : GroupEntry) : Nat := if e.layout = 1 ∨ e.layout = 2 then 1 else e.k
def GroupEntry.strip (e : GroupEntry) : Nat := 2 ^ (e.stripLog2 - 12)
def GroupEntry.isMirror (e : GroupEntry) : Bool := e.layout = 1 || e.layout = 2
def GroupEntry.tolerance (e : GroupEntry) : Nat := if e.layout = 2 ∨ e.layout = 4 then 2 else 1

end Sys2Proof

namespace Sys2Proof.Machine

def State.rshBump (s : State) (d i : Nat) (n : Nat := 1) : State := s.bump d 0x26 i n
def Reshape.running (r : Reshape) : Bool := r.phase = 2 || r.phase = 3 || r.phase = 5

/-- A group's reshape is put back, and the RSH registers of its die follow (R364). -/
def State.setRsh (s : State) (d g : Nat) (r : Reshape) : State :=
  let s := { s with rsh := { s.rsh with groups := alPut s.rsh.groups (d, g) r } }
  let s := ((s.w d (.rsh .G_STATE_refuse_cause) r.refuse g).w d (.rsh .G_STATE_wait_cause) r.wait g).wb d (.rsh .G_STATE_held)
    r.heldLayout g
  let s := ((s.wb d (.rsh .G_STATE_paused) (r.running && (r.heldBy || r.pauseBay || !s.workRuns)) g).wb d (.rsh .G_STATE_cancel_pending)
    r.cancel g).wb d (.rsh .G_STATE_direction) r.descending g
  let s := (s.wb d (.rsh .G_STATE_moving) (r.kind = 2) g).w d (.rsh .G_STATE_phase) r.phase g
  let s := (s.wb d (.rsh .G_STEP_backed) r.inflight g).w d (.rsh .G_STEP_blocks) r.stepBlocks g
  let s := (s.w d (.rsh .G_CURSOR) r.cursor g).w d (.rsh .G_END) r.end_ g
  match (List.range 4).find? (fun k => (s.rshOf d k).any (·.running)) with
  | some k => (s.w d (.rsh .STATUS_busy) 1).w d (.rsh .STATUS_group) k
  | none => (s.w d (.rsh .STATUS_busy) 0).w d (.rsh .STATUS_group) 0

/-- Bays of either layout. -/
def Reshape.bays (r : Reshape) (x : Group) : List Nat :=
  ((x.serving.filterMap id) ++ r.other.members ++ r.inBays.map (·.2)).eraseDups

/-- Every copy of the reshape record is written, generation raised (R359). -/
def State.rshRecord (s : State) (d g : Nat) : State :=
  match s.rshOf d g with
  | none => s
  | some r =>
    let s := (s.setRsh d g { r with generation := (r.generation + 1) % 2 ^ 32 }).rshBump d 4
    foldS (fun (s : State) b => if s.r d (.drv .B_STATE_state) b = 6 then s.drvIssue d b 1 9216 1 { kind := 24, a := g } else s) s
      (r.bays (s.grp_ d g))

/-! ### The start (R346-R350) -/

/-- E: the end of the furthest namespace of a group in the bank in force. -/
def State.groupEnd (s : State) (d g : Nat) : Nat :=
  (((s.img.active.getD {}).namespaces.filter (fun n => cdId n.channel = d && n.group = g)).map (fun n => n.offset + n.size)).foldl max 0

/-- T over bays as found (R312). -/
def State.stripesOver (s : State) (d : Nat) (bays : List Nat) (strip : Nat) : Nat :=
  match (bays.filter (fun b => s.r d (.drv .B_STATE_state) b = 6)).map (fun b => min (s.drive d b).blocks (2 ^ 37 + dataBase)) with
  | [] => 0
  | a :: l => ((l.foldl min a) - dataBase) / strip

def lcmStep (a b : Nat) : Nat := let l := Nat.lcm a b; l * ((1024 + l - 1) / l)

/-- How a Layout difference is carried out (R346). -/
def reshapeKind (src dst : GroupEntry) : Nat :=
  let sameShape := (src.layout = dst.layout || (src.isMirror && dst.isMirror)) && src.kOf = dst.kOf && src.stripLog2 = dst.stripLog2
  if sameShape then 1 else 2

/-- The entry that describes a group's layout in force, substitutions included (R335, R349). -/
def Group.entry (x : Group) (d g : Nat) : GroupEntry :=
  { channel := d - 1, group := g, layout := x.layout, k := x.k, stripLog2 := 12 + Nat.log2 x.strip
    members := (List.range x.n).map (fun p => (x.serving.getD p none).getD (x.members.getD p 0)) }

/-- A destination bay is in the way: absent (1) or in use (2); foreign (3); none (0) (R348). -/
def State.bayCheck (s : State) (d g b : Nat) : Nat :=
  let x := s.grp_ d g
  if x.serving.contains (some b) then 0
  else if s.r d (.drv .B_STATE_state) b ≠ 6 then 1
  else if s.r d (.drv .B_STATE_class) b = 5 then 3
  else if (s.posOfBay d b).isSome then 2
  else if s.r d (.drv .B_STATE_class) b = 2 ∨ s.r d (.drv .B_STATE_class) b = 3 ∨ x.released.contains b ∨ x.spareMask.testBit b then 0
  else 2

/-- The destination bays leave every spare mask of the die when a reshape starts (R348). -/
def State.leaveSpares (s : State) (d : Nat) (bays : List Nat) : State :=
  foldS (fun (s : State) (e : Nat × Group) =>
    let x := s.grp_ d e.1
    let m := bays.foldl (fun m b => setBit m b false) x.spareMask
    foldS (fun (s : State) b => s.w d (.drv .B_STATE_spare) 0 b) (s.setGrp d e.1 { x with spareMask := m }) bays) s (s.dieGroups d)

/-- A waiting reshape is checked and started, or waits, or is refused (R347, R348). -/
def State.reshapeTry (s : State) (d g : Nat) : State :=
  match s.rshOf d g with
  | none => s
  | some r =>
    if r.phase ≠ 1 then s else
      let x := s.grp_ d g
      let checks := r.dst.members.map (s.bayCheck d g)
      let t := s.stripesOver d r.dst.members r.dst.strip
      let e := s.groupEnd d g
      let refuse := fun (s : State) c => (((s.setRsh d g { r with phase := 7, refuse := c, wait := 0, heldLayout := true }).rshRecord d g).ev d
        (.rsh .EVENTS_refused)).logEv d 0x26 .reshapeRefused [g, c]
      let waits := fun (s : State) (c : Nat) => if r.wait = c then s else (s.setRsh d g { r with wait := c }).rshRecord d g
      if checks.all (· ≠ 1) ∧ r.dst.kOf * r.dst.strip * t < e then refuse s 1
      else if checks.contains 3 then refuse s 2
      else if checks.contains 1 then waits s 1
      else if checks.contains 2 then waits s 2
      else if (List.range 4).any (fun k => k ≠ g && ((s.rshOf d k).any (·.running) ||
          (decide (k < g) && (s.rshOf d k).any (fun y => y.phase = 1 && y.wait = 0)))) then waits s 3
      else
        let s := s.leaveSpares d r.dst.members
        let step := lcmStep (r.src.kOf * r.src.strip) (r.dst.kOf * r.dst.strip)
        let end_ := (e + step - 1) / step * step
        let r := { r with phase := 2, wait := 0, startTs := s.ts64 d, generation := r.generation }
        match r.kind with
        | 2 =>
          let r := { r with stripes := t, stepBlocks := step, end_ := end_, dstStates := r.dst.members.map (fun _ => 0)
                            nss := ((s.img.active.getD {}).namespaces.filter (fun (n : NsEntry) => cdId n.channel = d && n.group = g)).map (fun (n : NsEntry) => n.nsid) }
          let r := { r with cursor := if r.descending then end_ else 0 }
          let s := s.setGrp d g { x with tolCap := r.dst.tolerance }
          ((s.setRsh d g r).rshRecord d g).chanShow d
        | 1 =>
          let bays := ((List.range r.dst.members.length).filterMap (fun p =>
            let b := r.dst.members.getD p 0
            if p < x.n && x.serving.getD p none = some b then none else some (p, b)))
          let bays := if r.dst.members.length < x.n then [] else bays
          ((s.setRsh d g { r with stripes := t, end_ := min x.stripes t, inBays := bays, cursor := if bays.isEmpty then min x.stripes t else 0 }).rshRecord
            d g).chanShow d
        | _ =>
          -- A new group: every position is In sync, and its parity is brought to agree (R346).
          let e := r.dst
          let y : Group := { configured := true, layout := e.layout, k := e.k, strip := e.strip, n := e.members.length, stripes := t
                             steer := e.flags.testBit 0, window := e.flags.testBit 1, spareMask := e.spareMask, members := e.members
                             states := e.members.map (fun _ => 0), serving := e.members.map some
                             fullResync := true, resyncAt := s.ts64 d }
          let s := ((s.setGrp d g y).setRsh d g { r with stripes := t, end_ := t }).recordWrite d g
          let s := foldS (fun (s : State) b => s.w d (.grp .MEMBER_LAT_l_ns) 100000 b) s e.members
          ((s.rshRecord d g).chanShow d).nsmShow d

/-- Waiting reshapes of a die are looked at again, in ascending group number. -/
def State.reshapeRecheck (s : State) (d : Nat) : State := foldS (fun (s : State) g => s.reshapeTry d g) s (List.range 4)

/-- A Layout difference begins its reshape at the epoch (R346, R348, R349); a new group is a build. -/
def State.reshapeBegin (s : State) (e : GroupEntry) : State :=
  let d := cdId e.channel
  let x := s.grp_ d e.group
  let kind := if x.configured then reshapeKind (x.entry d e.group) e else 3
  let s := s.setRsh d e.group { kind := kind, phase := 1, src := x.entry d e.group, dst := e }
  s

/-! ### Rows of a step (R352) -/

/-- The view of the layout that a run moves from, and of the one it moves to. -/
def State.srcView (s : State) (d g : Nat) (r : Reshape) : Group := if r.reverse then s.otherView d g else s.grp_ d g
def State.dstView (s : State) (d g : Nat) (r : Reshape) : Group := if r.reverse then s.grp_ d g else s.otherView d g

/-- Stripes of a view that hold the blocks of a step. -/
def Group.stepStripes (x : Group) (a n : Nat) : List Nat :=
  let per := x.kEff * x.strip
  (List.range (n / per)).map (fun i => a / per + i + x.flag)

/-- The rows a step writes meet rows of source data not yet migrated (R352). -/
def Reshape.backed (r : Reshape) : Bool :=
  let kd := r.dst.kOf
  let ks := r.src.kOf
  if r.descending then decide (r.from_ * ks < r.cursor * kd) else decide (r.cursor * kd < (r.cursor + r.stepBlocks) * ks)

/-- Every bay of either layout serves, and no drive of them is out of service (R358). -/
def State.reshapeWhole (s : State) (d g : Nat) (r : Reshape) : Bool :=
  (s.grp_ d g).outCount = 0 && r.dstStates.all (· = 0) &&
    (r.bays (s.grp_ d g)).all (fun b => s.r d (.drv .B_STATE_state) b = 6)

/-- The locks of a step are released. -/
def State.stepUnlock (s : State) (d g : Nat) (r : Reshape) : State :=
  let mine := (s.srcView d g r).stepStripes r.from_ r.stepBlocks ++ (s.dstView d g r).stepStripes r.from_ r.stepBlocks
  s.unlock d g mine

/-- A reshape that has reached Done, Cancelled or Refused: those that wait are looked at. -/
def State.reshapeOver (s : State) (d : Nat) : State := ((s.reshapeRecheck d).chanShow d).nsmShow d

/-- The step in hand, or the stripe of an in-place pass, is abandoned: what was issued for it is nobody's, its locks go, and reads
that wait for its buffer read again (R354). -/
def State.stepDrop (s : State) (d g : Nat) : State :=
  match s.rshOf d g with
  | none => s
  | some r =>
    let s := s.disown d (fun o => o.a = g && (o.kind = 6 || o.kind = 23 || o.kind = 25 || o.kind = 27))
    let s := s.setRsh d g { r with step := 0, inflight := false, passStep := 0, buf := [], bkp := [], waitReads := [] }
    let s := if r.step ≠ 0 then s.stepUnlock d g r else s
    let s := if r.kind = 1 ∧ r.passStep ≠ 0 then s.unlock d g [r.cursor] else s
    foldS (fun (s : State) (w : Nat × Nat) => if (s.slot d w.1).state = 3 then s.readBlock d w.1 w.2 else s) s r.waitReads

/-- A reshape becomes Cancelled and its group runs the held layout (R349, R361). -/
def State.reshapeCancelled (s : State) (d g : Nat) : State :=
  match s.rshOf d g with
  | none => s
  | some r =>
    let s := s.stepDrop d g
    -- The passes of a build stop.
    let x := s.grp_ d g
    let s := if r.kind = 3 ∧ x.rsPhase ≠ 0 then (s.disown d (fun o => o.a = g && o.kind = 5)).unlock d g [x.rsStripe] else s
    let x := s.grp_ d g
    let x := if r.kind = 3 then { x with fullResync := false, rsPhase := 0 } else x
    let s := s.setGrp d g { x with tolCap := 9, otherOut := 0, released := x.released ++ (r.inBays.map (·.2)).filter (fun b => !x.released.contains b) }
    let s := foldS (fun (s : State) (e : Nat × Nat) => s.writeSb d e.2 2 255 255) s r.inBays
    let r := (s.rshOf d g).getD r
    ((s.setRsh d g { r with phase := 6, cancel := false, heldLayout := true, inBays := [], wait := 0, pauseBay := false }).rshRecord d g).reshapeOver d

/-- Reads that wait for a step's buffer are served from it (R354). -/
def State.serveWaiting (s : State) (d g : Nat) : State :=
  match s.rshOf d g with
  | none => s
  | some r =>
    let s := s.setRsh d g { r with waitReads := [] }
    foldS (fun (s : State) (e : Nat × Nat) =>
      let x := s.slot d e.1
      if x.state = 3 && x.cap.opcode = 2 then
        let gb := s.groupBlock x.cap.nsid e.2
        if (s.grp_ d g).badAt gb then (s.grpBump d 15).readFails d e.1
        else (s.cipBump d 1).blockArrives d e.1 e.2 (s.decrypt d x.cap.nsid e.2 (r.buf.getD (gb - r.from_) 0))
      else s) s r.waitReads

/-- The destination rows of a step, encrypted as they stand: position, member LBA, contents. -/
def State.stepWrites (s : State) (d g : Nat) (r : Reshape) : List (Nat × Nat × Block) :=
  let v := s.dstView d g r
  (v.stepStripes r.from_ r.stepBlocks).flatMap (fun t => (List.range v.strip).flatMap (fun o =>
    let row := (List.range v.kEff).map (fun j => (j, r.buf.getD (v.blockAt t j o - r.from_) 0))
    if v.mirror then (List.range v.n).map (fun p => (p, v.lbaOf t o, (row.headD (0, 0)).2))
    else row.map (fun e => (v.posOf t e.1, v.lbaOf t o, e.2)) ++ [(v.posOf t v.k, v.lbaOf t o, parityP row)] ++
      (if v.layout = 4 then [(v.posOf t (v.k + 1), v.lbaOf t o, parityQ row)] else [])))

/-- The destination rows go out once their region bits are durable (R353 step 4). -/
def State.stepDestination (s : State) (d g : Nat) : State :=
  match s.rshOf d g with
  | none => s
  | some r =>
    let v := s.dstView d g r
    let rs := ((v.stepStripes r.from_ r.stepBlocks).map v.regionOfStripe).eraseDups
    let s := s.markRegions d g rs
    if !s.regionsDurable d g rs then s.setRsh d g { r with step := 4 }
    else
      let s := s.setRsh d g { r with step := 5 }
      foldS (fun (s : State) (w : Nat × Nat × Block) =>
        if v.out w.1 then s
        else (s.drvIssue d (v.bay w.1) 1 w.2.1 1 { kind := 25, a := g } w.1 [w.2.2]).rshBump d 3) s (s.stepWrites d g r)

/-- A member state of a destination-only bay changes; a bay of either layout out of service pauses the reshape (R358). -/
def State.reshapeBay (s : State) (d b code : Nat) : State :=
  foldS (fun (s : State) g =>
    match s.rshOf d g with
    | none => s
    | some r =>
      if !r.running || !(r.bays (s.grp_ d g)).contains b then s else
        let own := (s.grp_ d g).serving.contains (some b)
        let st := r.other.members.mapIdx (fun i m => if m = b && !own then code else r.dstStates.getD i 0)
        let fresh := !r.pauseBay
        let r := { r with dstStates := if r.kind = 2 then st else r.dstStates, pauseBay := true, wait := 4
                          passStep := if r.inBays.any (fun e => e.2 = b) then 0 else r.passStep
                          cursor := if r.kind = 1 && r.inBays.any (fun e => e.2 = b) then 0 else r.cursor }
        let s := s.setRsh d g r
        let x := s.grp_ d g
        let v := s.otherView d g
        let s := if r.kind = 2 then s.setGrp d g { x with otherOut := v.outCount } else s
        let s := if r.kind = 2 && decide (x.tolerance < v.outCount) && !x.failed then s.groupFails d g else s
        if fresh then (s.ev d (.rsh .EVENTS_paused)).logEv d 0x26 .reshapePaused [g, b] else s) s (List.range 4)

/-- A paused reshape resumes when every bay of both layouts serves again (R358). -/
def State.reshapeResume (s : State) (d g : Nat) : State :=
  match s.rshOf d g with
  | none => s
  | some r => if r.pauseBay && s.reshapeWhole d g r then s.setRsh d g { r with pauseBay := false, wait := 0 } else s

/-- A Block Erase Sanitize moves every reshape of the die to its switch at once (R357). -/
def State.reshapeAtOnce (s : State) (d : Nat) : State :=
  foldS (fun (s : State) g =>
    match s.rshOf d g with
    | none => s
    | some r =>
      -- A run that turns back is over as it stands: the members are zero under any layout.
      if r.phase = 5 then s.reshapeCancelled d g
      else if r.phase ≠ 2 then s
      else
        let s := s.stepDrop d g
        let x := s.grp_ d g
        let s := if r.kind = 3 then s.setGrp d g { x with fullResync := false } else s
        let r := (s.rshOf d g).getD r
        s.setRsh d g { r with pauseBay := false, wait := 0, cursor := if r.kind = 2 && r.descending then 0 else r.end_ }) s (List.range 4)

/-- A reshape has reached its switch (R362). -/
def State.switchDue (s : State) (d g : Nat) (r : Reshape) : Bool :=
  r.phase = 2 && r.step = 0 && r.passStep = 0 &&
    (if r.kind = 3 then !(s.grp_ d g).resyncing
     else if r.kind = 2 && r.descending then r.cursor = 0 else decide (r.end_ ≤ r.cursor))

/-- The group takes the destination layout (R363 step 2). -/
def State.takeLayout (s : State) (d g : Nat) (r : Reshape) : State :=
  let x := s.grp_ d g
  if r.kind = 3 then s else
    let e := r.dst
    let n := e.members.length
    let st := e.members.mapIdx (fun i b => match (List.range x.n).find? (fun p => x.serving.getD p none = some b) with
      | some p => x.states.getD p 5
      | none => r.dstStates.getD i 0)
    let gone := (x.serving.filterMap id).filter (fun b => !e.members.contains b)
    s.setGrp d g { x with
      layout := e.layout, k := e.k, strip := e.strip, n := n, members := e.members, serving := e.members.map some, states := st
      stripes := r.stripes, tolCap := 9, otherOut := 0, released := (x.released.filter (fun b => !e.members.contains b)) ++ gone
      join := [], pass := false, lap2 := false, cursor := 0, steer := e.flags.testBit 0, window := e.flags.testBit 1, spareMask := e.spareMask
      generation := (x.generation + 1) % 2 ^ 32 }

/-- A source unit of a step as its reads gave it: read directly, from a mirror's positions, or reconstructed; none: not yet. -/
def stepUnit (v : Group) (rd : List DrvResult) (gb : Nat) : Option Block :=
  let (t, j, o) := v.locate gb
  let at_ := fun p => (rd.find? (fun r => r.pos = p && r.lba = v.lbaOf t o && r.owner.b = gb && r.ok)).map (fun r => r.data.headD 0)
  if v.mirror then (List.range v.n).findSome? at_
  else match at_ (v.posOf t j) with
    | some b => some b
    | none =>
      let data := (List.range v.k).filterMap (fun i => (at_ (v.posOf t i)).map (fun b => (i, b)))
      reconstruct v.k data (at_ (v.posOf t v.k)) (if v.layout = 4 then at_ (v.posOf t (v.k + 1)) else none) j

/-- Positions that are read for a unit of a step, but for those that failed it with a media error (R322, R323, R353). -/
def stepWays (v : Group) (gb tried : Nat) : List Nat :=
  let (t, j, o) := v.locate gb
  let ok := fun p => v.serves p t && !tried.testBit p
  if v.mirror then ((List.range v.n).filter ok).take 1
  else if ok (v.posOf t j) && !v.badAt gb then [v.posOf t j]
  else (v.sources t o (v.posOf t j) tried).getD []

end Sys2Proof.Machine
end

