-- ==== Sys2Proof/Machine/Transport.lean ====
section
/-! DEFINITION. The meanings of the commands of the RDMA transport (spec/07). -/

set_option Elab.async false

namespace Sys2Proof.Machine

/-! ### Connections -/

/-- The connection manager die (R170): the lowest present channel die that is not Failed. -/
def State.cmDie (s : State) : Option Nat := s.cds.find? (fun c => !s.chanFailed (cdId c))

/-- CM_REQUEST (R170, R171): `block` says that the request carries an extension block whose magic matches. -/
def execCmRequest (bytes : Nat) (block : Bool) (version flags paths slots channel : Nat) (s : State) : Out :=
  match s.cmDie with
  | none => .next (s.bump 0 0x12 8 (cellsOf bytes) 4)
  | some c =>
    let s := s.w 0 (.swx .STATUS_cm_die) c
    if !(block && version = 1) then .next (s.emit (.cmReply (cdId c) true false 0 1 1))
    else if s.channels ≤ channel ∨ s.chanFailed (cdId channel) ∨ paths < 1 ∨ 4 < paths ∨ slots < 1 ∨ 16 < slots then
      .next (s.emit (.cmReply (cdId c) false true 0 0 0))
    else .next (s.emit (.cmReply (cdId c) true true (flags % 4) paths (min slots (s.r (cdId channel) (.rdx .CFG_max_slots)))))

/-- CONN_STATUS after a command: code, and on open the number's bits 20:0; drained as the connection stands. -/
def State.connResult (s : State) (d i code num : Nat) : State :=
  (s.w d (.rdx .CONN_STATUS_result) (code * 2 ^ 22 + num % 2 ^ 21)).wb d (.rdx .CONN_STATUS_drained) (s.connDrained d i)

/-- The connection a number names: its context has the generation. -/
def State.connNamed (s : State) (d conn : Nat) : Bool := (s.conn d (connIdx conn)).gen = connGen conn

/-- CONN_OPEN (R172, R175). -/
def execConnOpen (d : Cd) (conn : BitVec 24) (s : State) : Out := onCd d s fun s =>
  let d := cdId d
  let i := conn.toNat % 4096
  let c := s.conn d i
  if c.state ≠ 0 then s.connResult d i 2 0
  else
    let gen := if c.gen = 511 then 1 else c.gen + 1
    let s := s.setConn d i { gen := gen, state := 1, firm := c.firm }
    let s := s.wbit d (.pair .SHADOW_bits) (i % 32) false (i / 32)
    (s.rdxStatus d).connResult d i 0 (gen * 4096 + i)

/-- The entry of a logical port that a connection may use: enabled, with the NVMe-oF data flag. -/
def State.connPort (s : State) (p : Nat) : Option PortEntry :=
  (s.img.active.getD {}).ports.find? (fun e => e.port = p && e.flags.testBit 0 && e.flags.testBit 2)

/-- Speed of a logical port in Mbit/s: 200G, 400G, 800G or 1.6T by its code. -/
def speedMbps (code : Nat) : Nat := 200000 * 2 ^ code
def State.portSpeed (s : State) (p : Nat) : Nat := speedMbps (((s.connPort p).map (·.speed)).getD 0)

/-- The ranges of the F fields (*Connection context*). -/
def connFOk (f : ConnF) (mtu : Nat) : Bool :=
  decide (f.remoteQpn < 2 ^ 24) && decide (f.host < 1024) && decide (f.pd < 4096) && decide (f.flags < 8) &&
    decide (3 ≤ f.pmtu) && decide (f.pmtu ≤ 5) && decide (pmtuBytes f.pmtu ≤ mtu) &&
    decide (1 ≤ f.paths) && decide (f.paths ≤ 4) && decide (1 ≤ f.slotLimit) && decide (f.slotLimit ≤ 16) &&
    (f.flags.testBit 0 || (f.paths = 1 && f.slotLimit = 1)) && decide (f.epsn < 2 ^ 24) && decide (f.txNext < 2 ^ 24) &&
    decide (1 ≤ f.ackTimeout) && decide (f.ackTimeout ≤ 31) && decide (f.retryCnt ≤ 7) && decide (f.rnrRetry ≤ 7) &&
    decide (f.rnrTimer ≤ 31) && decide (f.tclass ≤ 7) && decide (f.port ≤ 31) &&
    (let u := f.udpSrc.take f.paths
     u.length = f.paths && u.eraseDups.length = u.length && (f.udpSrc.drop f.paths).all (· = 0))

/-- CONN_READY (R175). -/
def execConnReady (d : Cd) (conn : BitVec 24) (s : State) : Out := onCd d s fun s =>
  let d := cdId d
  let i := connIdx conn.toNat
  let c := s.conn d i
  if c.state ≠ 1 ∨ !s.connNamed d conn.toNat then s.connResult d i 2 0
  else match s.connPort c.f.port with
  | none => s.connResult d i 3 0
  | some e =>
    if !(connFOk c.f e.rdmaMtu) then s.connResult d i 3 0
    else
      let s := s.setConn d i { c with state := 2, epsn := c.f.epsn, txNext := c.f.txNext, txUna := c.f.txNext, rxMsn := 0
                                      retriesLeft := c.f.retryCnt, rnrLeft := c.f.rnrRetry, credits := 1
                                      rate := s.portSpeed c.f.port, rateAt := s.now }
      let s := { s with swx := { s.swx with connHost := alPut s.swx.connHost conn.toNat c.f.host } }
      ((s.tableEvent d 1 conn.toNat).rdxStatus d).connResult d i 0 0

/-- CONN_DRAIN (R201). -/
def execConnDrain (d : Cd) (conn : BitVec 24) (s : State) : Out := onCd d s fun s =>
  let d := cdId d
  let i := connIdx conn.toNat
  let c := s.conn d i
  if c.state = 2 ∧ s.connNamed d conn.toNat then (s.setConn d i { c with state := 3 }).connResult d i 0 0
  else s.connResult d i 2 0

/-- CONN_ERROR_CMD (R202). -/
def execConnErrorCmd (d : Cd) (conn : BitVec 24) (s : State) : Out := onCd d s fun s =>
  let d := cdId d
  let i := connIdx conn.toNat
  let c := s.conn d i
  if (c.state = 1 ∨ c.state = 2 ∨ c.state = 3) ∧ s.connNamed d conn.toNat then (s.connError d i false).connResult d i 0 0
  else s.connResult d i 2 0

/-- A queue goes with its connection; the admin queue takes its controller along. -/
def State.queueGone (s : State) (d conn : Nat) : State :=
  let x := s.cd d
  match x.queues.find? (fun q => q.conn = conn) with
  | none => s
  | some q => s.setCd d { x with queues := x.queues.filter (fun y => y.conn ≠ conn)
                                 ctrls := if q.qid = 0 then alDel x.ctrls (ctrlId d q.host) else x.ctrls
                                 tokens := x.tokens.filter (fun t => t.conn ≠ conn || t.holdFrom.isSome) }

/-- CONN_FREE (R175, R201). -/
def execConnFree (d : Cd) (conn : BitVec 24) (s : State) : Out := onCd d s fun s =>
  let d := cdId d
  let i := connIdx conn.toNat
  let c := s.conn d i
  if (c.state = 4 ∨ s.connDrained d i) ∧ s.connNamed d conn.toNat then
    let s := (s.setConn d i { c with state := 0, msg := none, slots := [], sent := [], deliveries := [], ackDue := none, hold := none }).queueGone d conn.toNat
    let s := { s with swx := { s.swx with connHost := alDel s.swx.connHost conn.toNat } }
    ((s.tableEvent d 2 conn.toNat).rdxStatus d).connResult d i 0 0
  else s.connResult d i 2 0

/-- CONN_SHADOW (R175). -/
def execConnShadow (d : Cd) (conn : BitVec 24) (s : State) : Out := onCd d s fun s =>
  let d := cdId d
  let i := connIdx conn.toNat
  let c := s.conn d i
  if c.state = 1 ∧ s.connNamed d conn.toNat then
    (s.setConn d i { c with state := 5, epsn := c.f.epsn }).connResult d i 0 0
  else s.connResult d i 2 0

/-! ### Received packets -/

/-- A message that NAKs an invalid request and enters Error (R168, R176). -/
def State.invalidRequest (s : State) (d i psn : Nat) : State := (s.sendNak d i 3 psn).connError d i true

/-- The checks every packet passes (R169, R173), and the CNP of R180; true: the packet goes on. -/
def State.rxHead (s : State) (d : Nat) (p : RdmaPkt) : State × Bool :=
  let s := (s.rdxBump d 0).rdxBump d 1 p.bytes
  let i := connIdx p.qp
  let c := s.conn d i
  if !p.icrcOk ∨ p.errMark then (s.rdxBump d 2, false)
  else if p.tver ≠ 0 then (s.rdxBump d 4, false)
  else if p.pkey % 32768 ≠ 0x7FFF then (s.rdxBump d 3, false)
  else if (c.state ≠ 2 ∧ c.state ≠ 3) ∨ c.gen ≠ connGen p.qp then (s.rdxBump d 5, false)
  else
    let s := if p.ce then s.ceMark d i else s
    if p.opcode ≤ 0x0B ∨ (0xC0 ≤ p.opcode ∧ p.opcode ≤ 0xC3) then
      if decide (0xC0 ≤ p.opcode) = c.f.flags.testBit 0 then (s, true) else (s.invalidRequest d i p.psn, false)
    else if p.opcode = 0x0C ∨ p.opcode = 0x13 ∨ p.opcode = 0x14 then (s.invalidRequest d i p.psn, false)
    else (s.rdxBump d 4, false)

/-- Standard opcodes: begins a message, ends one, is a WRITE, carries an immediate. -/
def opBegins (op : Nat) : Bool := op % 6 = 0 || 4 ≤ op % 6
def opEnds (op : Nat) : Bool := 2 ≤ op % 6
def opWrite (op : Nat) : Bool := 6 ≤ op
def opImm (op : Nat) : Bool := op % 6 = 3 || op % 6 = 5

/-- A standard-mode packet in sequence (R176, R178, R191, R201). -/
def State.rxNext (s : State) (d i : Nat) (p : RdmaPkt) : State :=
  let c := s.conn d i
  let begins := opBegins p.opcode
  let continues := match c.msg with
    | none => begins
    | some m => !begins && m.write = opWrite p.opcode
  if c.state = 3 && begins && c.msg.isNone then s.rdxBump d 10
  else if !continues then s.invalidRequest d i p.psn
  else if begins && !opWrite p.opcode && c.credits = 0 then s.sendNak d i 1 p.psn
  else
    let m : InMsg := match c.msg with
      | some m => m
      | none => { write := opWrite p.opcode, rkey := p.rkey, va := p.va }
    let region := if m.write then s.regionCheck d c p.qp m.rkey m.va p.bytes (opImm p.opcode) else none
    if m.write && region.isNone then s.regionRefused d i p.psn
    else
      let s := s.startPlacing d i region none
      let c := s.conn d i
      let m := { m with va := m.va + p.bytes, count := m.count + 1 }
      let c := { c with epsn := (c.epsn + 1) % 2 ^ 24, nakSent := false
                        credits := if begins && !m.write then c.credits - 1 else c.credits }
      if opEnds p.opcode then
        let s := s.setConn d i { c with msg := none, rxMsn := (c.rxMsn + 1) % 2 ^ 24 }
        let s := if !m.write || opImm p.opcode then
            s.queueDelivery d i (!m.write) (if opImm p.opcode then some p.imm else none) p.capsule else s
        s.retired d i m.count p.ackReq
      else s.setConn d i { c with msg := some m }

/-- RDMA_PACKET_RECEIVED (R176). -/
def execRdmaPacketReceived (d : Cd) (p : RdmaPkt) (s : State) : Out := onCd d s fun s =>
  let d := cdId d
  let i := connIdx p.qp
  match s.rxHead d p with
  | (s, false) => s
  | (s, true) =>
    let c := s.conn d i
    let df := (p.psn + 2 ^ 24 - c.epsn) % 2 ^ 24
    if df = 0 then s.rxNext d i p
    else if df < 2 ^ 23 then
      let s := s.rdxBump d 8
      if c.nakSent then s else (s.setConn d i { c with nakSent := true }).sendNak d i 2 c.epsn
    else (s.rdxBump d 6).dupAck d i

/-- A packet joins a slot: checked, and on its way to the stack (R184, R191). -/
def State.joinSlot (s : State) (d i : Nat) (p : RdmaPkt) (x : Slot) : State :=
  let c := s.conn d i
  let write := !mpSend p.opcode
  let region := if write then s.regionCheck d c p.qp x.rkey (x.va + p.index * pmtuBytes c.f.pmtu) p.bytes (mpImm p.opcode) else none
  if write && region.isNone then s.regionRefused d i p.psn
  else
    let x' := { x with got := x.got + 1, ackReq := if p.index = p.lastIndex then p.ackReq else x.ackReq
                       imm := if p.index = p.lastIndex then p.imm else x.imm
                       capsule := if mpSend p.opcode && p.index = p.lastIndex then p.capsule else x.capsule }
    let slots := if c.slots.any (fun y => y.base = x.base) then c.slots.map (fun y => if y.base = x.base then x' else y)
      else c.slots ++ [x']
    ((s.setConn d i { c with slots := slots }).startPlacing d i region (some (x.base, p.index))).rdxStatus d

/-- MULTIPATH_PACKET_RECEIVED (R183, R184): the cases in the order of the text. -/
def execMultipathPacketReceived (d : Cd) (p : RdmaPkt) (s : State) : Out := onCd d s fun s =>
  let d := cdId d
  let i := connIdx p.qp
  match s.rxHead d p with
  | (s, false) => s
  | (s, true) =>
    let c := s.conn d i
    let df := (p.psn + 2 ^ 24 - c.epsn) % 2 ^ 24
    let base := (p.psn + 2 ^ 24 - p.index) % 2 ^ 24
    let relaxed := p.relaxed && c.f.flags.testBit 1
    let bytesOk := p.index = p.lastIndex || p.bytes = pmtuBytes c.f.pmtu
    if 2 ^ 23 ≤ df then (s.rdxBump d 6).dupAck d i
    else if p.lastIndex < p.index ∨ !bytesOk then s.invalidRequest d i p.psn
    else if df < c.f.slotLimit * 1024 then
      match c.slots.find? (fun x => x.base = base) with
      | some x =>
        if x.bits.testBit p.index then (s.rdxBump d 7).dupAck d i
        else if x.opcode ≠ p.opcode ∨ x.lastIdx ≠ p.lastIndex ∨ x.relaxed ≠ relaxed ∨ x.final ≠ p.final ∨
            (!mpSend p.opcode ∧ (x.va ≠ p.va ∨ x.rkey ≠ p.rkey)) then s.invalidRequest d i p.psn
        else s.joinSlot d i p x
      | none =>
        if 2 ^ 23 ≤ (base + 2 ^ 24 - c.epsn) % 2 ^ 24 then s.rdxBump d 8
        else if c.f.slotLimit ≤ c.slots.length ∨ 8192 ≤ s.r d (.rdx .STATUS_slots_used) then s.rdxBump d 9
        else if c.state = 3 then s.rdxBump d 10
        else if mpSend p.opcode && c.credits = 0 then s.sendNak d i 1 p.psn
        else
          let s := if mpSend p.opcode then s.setConn d i { c with credits := c.credits - 1 } else s
          s.joinSlot d i p { base := base, lastIdx := p.lastIndex, opcode := p.opcode, relaxed := relaxed, final := p.final
                             va := p.va, rkey := p.rkey }
    else s.rdxBump d 8

/-- ACK_DELAY_EXPIRY (R177). -/
def execAckDelayExpiry (d : Cd) (conn : BitVec 24) (s : State) : Out := onCd d s fun s =>
  let d := cdId d
  let i := connIdx conn.toNat
  let c := s.conn d i
  match c.ackDue with
  | none => s
  | some t => if c.state = 2 ∨ c.state = 3 then (s.advance t).sendAck d i else s

/-- PLACEMENT_CONFIRM (R192): the arbiter confirms the bytes of the packet with a ticket on a context. -/
def execPlacementConfirm (d : Cd) (conn : BitVec 24) (ticket : Nat) (s : State) : Out := onCd d s fun s =>
  let d := cdId d
  let i := connIdx conn.toNat
  let c := s.conn d i
  match c.placing.find? (fun p => p.ticket = ticket) with
  | none => s
  | some p =>
    let s := s.setConn d i { c with
      placing := c.placing.filter (fun y => y.ticket ≠ ticket)
      slots := match p.slot with
        | some (b, k) => c.slots.map (fun x => if x.base = b then { x with bits := x.bits ||| 2 ^ k } else x)
        | none => c.slots }
    let s := match p.region with
      | some k => let r := s.region d k
        (s.setRegion d k { r with inFlight := r.inFlight - 1 }).revokeIfDone d k
      | none => s
    (s.mpRetire d i (2 * (s.conn d i).slots.length + 1)).rdxStatus d

/-! ### Delivery -/

/-- SEND_DELIVERY (R176, R185, R197): the oldest retired message whose earlier placements are confirmed goes to the command
engine, or rings a chain's doorbell. -/
def execSendDelivery (d : Cd) (conn : BitVec 24) (s : State) : Out := onCd d s fun s =>
  let d := cdId d
  let i := connIdx conn.toNat
  let c := s.conn d i
  match c.deliveries with
  | [] => s
  | m :: rest =>
    if c.placing.any (fun p => decide (p.ticket < m.need)) then s
    else
      let s := s.setConn d i { c with deliveries := rest }
      let num := connNum d i c.gen
      match m.send, m.imm with
      | false, some v =>
        if v.testBit 31 then
          let n := v % 32768
          if (s.chain d n).hdr.conn = num then s.chainTrigger d n 3 (v / 32768 % 65536)
          else (s.rdxBump d 24).ev d (.rdx .EVENTS_stray)
        else s
      | false, none => s
      | true, _ => (s.admitCommand d num m.capsule m.stamp m.quality c.rxMsn).offer d

/-! ### Sending -/

/-- Every packet from a PSN on is sent again on the connection, unless an RNR NAK holds its sending (R179). -/
def State.resend (s : State) (d i psn : Nat) : State :=
  let c := s.conn d i
  if c.hold.isSome then s else
  let again := c.sent.filter (fun t => decide ((t.psn + 2 ^ 24 - psn) % 2 ^ 24 < 2 ^ 23))
  let s := s.rdxBump d 15 again.length
  foldS (fun (s : State) (t : TxPkt) => (s.emit (.rdmaPkt d (connNum d i c.gen) t.psn 0 t.bytes t.chain.isSome false)).rdmaOut d c
    (t.bytes + 98)) s again

def ackTimer (c : Conn) : Nat := 4096 * 2 ^ c.f.ackTimeout

/-- A retry is spent, and everything from a PSN goes out again; with none left the connection enters Error (R179). -/
def State.retry (s : State) (d i psn : Nat) : State :=
  let c := s.conn d i
  if c.retriesLeft = 0 then (s.rdxBump d 16).connError d i true
  else (s.setConn d i { c with retriesLeft := c.retriesLeft - 1, timer := s.now + ackTimer c }).resend d i psn

def State.sends (s : State) (d i : Nat) : Bool := (s.conn d i).state = 2 || (s.conn d i).state = 3

/-- RETRANSMIT_TIMEOUT (R179). -/
def execRetransmitTimeout (d : Cd) (conn : BitVec 24) (s : State) : Out := onCd d s fun s =>
  let d := cdId d
  let i := connIdx conn.toNat
  let c := s.conn d i
  if s.sends d i && c.txUna ≠ c.txNext then (s.advance c.timer).retry d i c.txUna else s

/-- A chain whose flagged final work request is covered is Done, and the command engine is signalled (R200, R224). -/
def State.chainDone (s : State) (d n : Nat) : State :=
  let c := s.chain d n
  let s := s.setChain d n { c with state := 3 }
  if !c.hdr.flags.testBit 0 then s else
    let x := s.slot d n
    let s := foldS (fun (s : State) q => s.crumbChainDone d true q) s x.seqs
    if x.state = 5 then (s.freeSlot d n).offer d else s

/-- ACK_RECEIVED (R179). -/
def execAckReceived (d : Cd) (conn psn msn : BitVec 24) (s : State) : Out := onCd d s fun s =>
  let d := cdId d
  let i := connIdx conn.toNat
  let c := s.conn d i
  let win := (c.txNext + 2 ^ 24 - c.txUna) % 2 ^ 24
  let off := (psn.toNat + 2 ^ 24 - c.txUna) % 2 ^ 24
  if !(s.sends d i && s.connNamed d conn.toNat) then s.rdxBump d 5
  else if off < win then
    let acked := c.sent.filter (fun t => decide ((t.psn + 2 ^ 24 - c.txUna) % 2 ^ 24 ≤ off))
    let s := s.setConn d i { c with
      txUna := (psn.toNat + 1) % 2 ^ 24, txMsn := msn.toNat, retriesLeft := c.f.retryCnt, rnrLeft := c.f.rnrRetry
      timer := s.now + ackTimer c, sent := c.sent.filter (fun t => !decide ((t.psn + 2 ^ 24 - c.txUna) % 2 ^ 24 ≤ off)) }
    foldS (fun (s : State) (t : TxPkt) => match t.chain with
      | some n => s.chainDone d n
      | none => s) s acked
  else s.setConn d i { c with retriesLeft := c.f.retryCnt }

/-- NAK_RECEIVED (R179): a PSN sequence error, or another syndrome that ends the connection. -/
def execNakReceived (d : Cd) (conn : BitVec 24) (sequence : Bool) (psn : BitVec 24) (s : State) : Out := onCd d s fun s =>
  let d := cdId d
  let i := connIdx conn.toNat
  if !(s.sends d i && s.connNamed d conn.toNat) then s.rdxBump d 5
  else
    let s := s.rdxBump d 17
    if sequence then s.retry d i psn.toNat else s.connError d i true

/-- The time an RNR NAK encodes, in ns (the InfiniBand encoding). -/
def rnrNs (code : Nat) : Nat :=
  10 * ([65536000, 1000, 2000, 3000, 4000, 6000, 8000, 12000, 16000, 24000, 32000, 48000, 64000, 96000, 128000, 192000,
         256000, 384000, 512000, 768000, 1024000, 1536000, 2048000, 3072000, 4096000, 6144000, 8192000, 12288000,
         16384000, 24576000, 32768000, 49152000].getD code 0)

/-- RNR_NAK_RECEIVED (R179). -/
def execRnrNakReceived (d : Cd) (conn : BitVec 24) (timer : Fin 32) (psn : BitVec 24) (s : State) : Out := onCd d s fun s =>
  let d := cdId d
  let i := connIdx conn.toNat
  let c := s.conn d i
  if !(s.sends d i && s.connNamed d conn.toNat) then s.rdxBump d 5
  else
    let s := s.rdxBump d 17
    if c.rnrLeft = 0 ∧ c.f.rnrRetry ≠ 7 then (s.rdxBump d 16).connError d i true
    else s.setConn d i { c with rnrLeft := if c.f.rnrRetry = 7 then 7 else c.rnrLeft - 1
                                hold := some (s.now + rnrNs timer), nakPsn := psn.toNat }

/-- RNR_HOLD_EXPIRY (R179). -/
def execRnrHoldExpiry (d : Cd) (conn : BitVec 24) (s : State) : Out := onCd d s fun s =>
  let d := cdId d
  let i := connIdx conn.toNat
  let c := s.conn d i
  match c.hold with
  | none => s
  | some t =>
    let s := (s.advance t).setConn d i { c with hold := none }
    if s.sends d i then s.resend d i c.nakPsn else s

/-- CNP_RECEIVED (R180). -/
def execCnpReceived (d : Cd) (conn : BitVec 24) (s : State) : Out := onCd d s fun s =>
  let d := cdId d
  let i := connIdx conn.toNat
  let c := s.conn d i
  if !(s.sends d i && s.connNamed d conn.toNat) then s.rdxBump d 5
  else (s.rdxBump d 21).setConn d i { c with rate := max (c.rate / 2) (s.r d (.rdx .CC_CFG_min_rate_mbps)), rateAt := s.now }

/-- RATE_RECOVER_STEP (R180). -/
def execRateRecoverStep (d : Cd) (conn : BitVec 24) (s : State) : Out := onCd d s fun s =>
  let d := cdId d
  let i := connIdx conn.toNat
  let c := s.conn d i
  if !s.sends d i then s else
    let s := s.advance (c.rateAt + 1000 * s.r d (.rdx .CC_CFG2_recover_us))
    s.setConn d i { c with rate := max c.rate (min (c.rate + s.r d (.rdx .CC_CFG2_ai_mbps)) (s.portSpeed c.f.port)), rateAt := s.now }

/-- A work request's fields are in range (*Work request*, R182). -/
def workReqOk (w : WorkReq) (c : Conn) : Bool :=
  decide (w.opcode ≤ 3) && decide (w.flags < 8) && w.reserved = 0 && decide (w.length ≤ 2 ^ 31) &&
    (!c.f.flags.testBit 0 || decide (w.length ≤ 1024 * pmtuBytes c.f.pmtu)) &&
    (decide (w.opcode ≤ 1) || (w.remoteVa = 0 && w.remoteKey = 0))

/-- A local range lies wholly in the data slots, read staging or the receive buffers, or in a non-secure region (R196). -/
def State.localOk (s : State) (d a n : Nat) : Bool :=
  decide (a + n ≤ 0x100000000) || (decide (0x10A000000 ≤ a) && decide (a + n ≤ 0x12A000000)) ||
    (decide (0x12A000000 ≤ a) && decide (a + n ≤ 0x14A200000)) || s.wrtCovers d a n false

/-- The packets of a work request. -/
def State.sendPackets (s : State) (d i n : Nat) (w : WorkReq) : Nat → Nat → State
  | _, 0 => s
  | left, k + 1 =>
    let c := s.conn d i
    let mtu := pmtuBytes c.f.pmtu
    let b := min left mtu
    let last := k = 0
    let final := w.flags.testBit 0
    let relaxed := c.f.flags.testBit 0 && c.f.flags.testBit 1 && !final
    let s := s.setConn d i { c with txNext := (c.txNext + 1) % 2 ^ 24, path := (c.path + 1) % max 1 c.f.paths
                                    timer := if c.txUna = c.txNext then s.now + ackTimer c else c.timer
                                    sent := c.sent ++ [⟨c.txNext, b, if last && final then some n else none⟩] }
    let s := ((s.rdxBump d 13).rdxBump d 14 b).emit (.rdmaPkt d (connNum d i c.gen) c.txNext w.opcode b last relaxed)
    (s.rdmaOut d c (b + 98)).sendPackets d i n w (left - b) k

/-- WORK_REQUEST_SEND (R200, R196): a Firing chain sends its next work request, as read from the stack now. -/
def execWorkRequestSend (d : Cd) (n : Fin 32768) (w : WorkReq) (s : State) : Out := onCd d s fun s =>
  let d := cdId d
  let n := n.val
  let ch := s.chain d n
  if ch.state ≠ 2 ∨ ch.wrs ≤ ch.sent then s else
    let i := connIdx ch.hdr.conn
    let c := s.conn d i
    let final := decide (ch.sent + 1 = ch.wrs)
    if isEp ch.hdr.conn then
      -- To port 11, not as RoCE packets (spec/18 R519).
      let s := s.setChain d n { ch with sent := ch.sent + 1 }
      { s with ep := { s.ep with port11 := s.ep.port11 ++ [(d, n, final && ch.hdr.flags.testBit 0)] } }
    else if !s.sends d i then s.chainFailed d n
    else if c.hold.isSome then s
    else if !workReqOk w c || !s.localOk d w.localAddr w.length || w.flags.testBit 0 ≠ final then s.chainFailed d n
    else
      let mtu := pmtuBytes c.f.pmtu
      let s := s.setChain d n { ch with sent := ch.sent + 1 }
      let s := s.sendPackets d i n w w.length (max 1 ((w.length + mtu - 1) / mtu))
      if final && ch.hdr.flags.testBit 0 then
        let x := s.slot d n
        s.emit (.completion d x.conn x.cap.cid (x.status.getD 0) x.dw0 x.dw1)
      else s

/-! ### Regions -/

/-- REGION_REGISTER (R189). -/
def execRegionRegister (d : Cd) (i : Fin 65536) (s : State) : Out := onCd d s fun s =>
  let d := cdId d
  let i := i.val
  let r := s.region d i
  let f := r.f
  let code :=
    if i < s.r d (.rdx .REGION_RANGE_first) ∨ s.r d (.rdx .REGION_RANGE_last) < i then 1
    else if r.state ≠ 0 then 2
    else if 4 ≤ f.flags ∨ 4096 ≤ f.pd ∨ f.base % 4096 ≠ 0 ∨ f.length % 4096 ≠ 0 ∨ f.length < 4096 ∨ 2 ^ 30 < f.length ∨
        2 ^ 24 ≤ f.conn then 3
    else if !s.wrtCovers d f.base f.length true then 4
    else 0
  let s := s.w d (.rdx .REG_STATUS_result) code
  if code = 0 then (s.setRegion d i { r with state := 1 }).tableEvent d 3 i else s.rdxBump d 12

/-- REGION_REVOKE (R193). -/
def execRegionRevoke (d : Cd) (i : Fin 65536) (s : State) : Out := onCd d s fun s =>
  let d := cdId d
  let i := i.val
  let r := s.region d i
  if r.state ≠ 1 then (s.w d (.rdx .REG_STATUS_result) 2).rdxBump d 12
  else ((s.w d (.rdx .REG_STATUS_result) 0).setRegion d i { r with state := 2 }).tableEvent d 4 i

/-- REVOCATION_COMPLETE (R193 step 3). -/
def execRevocationComplete (d : Cd) (i : Fin 65536) (s : State) : Out := onCd d s fun s =>
  s.revokeIfDone (cdId d) i.val

/-- REVOKE_DONE_POP (R193): a read of REVOKE_DONE. -/
def execRevokeDonePop (d : Cd) (s : State) : Out := onCd d s fun s =>
  let d := cdId d
  let q := (alList s.rdx.revokeDone d).drop 1
  let s := s.emit (.readData (pkgAddr d 0x20 0x38) (s.r d (.rdx .REVOKE_DONE_valid) * 2 ^ 31 +
    s.r d (.rdx .REVOKE_DONE_lost) * 2 ^ 30 + s.r d (.rdx .REVOKE_DONE_index)))
  let s := { s with rdx := { s.rdx with revokeDone := alPut s.rdx.revokeDone d q } }
  ((s.w d (.rdx .REVOKE_DONE_lost) 0).wb d (.rdx .REVOKE_DONE_valid) (!q.isEmpty)).w d (.rdx .REVOKE_DONE_index) (q.headD 0)

/-! ### Chains -/

/-- A chain's header is in range (*Chain header*). -/
def chainHdrOk (h : ChainHdr) : Bool :=
  (h.armCount = 1 || h.armCount = 2) && decide (h.flags < 2) && decide (h.conn < 2 ^ 24) &&
    decide (1 ≤ h.kind0) && decide (h.kind0 ≤ 5) &&
    (if h.armCount = 1 then h.kind1 = 0 else decide (1 ≤ h.kind1) && decide (h.kind1 ≤ 5) && h.kind1 ≠ h.kind0) &&
    decide (h.doorbellKey < 65536) && decide (h.key0 < 2 ^ 64) && decide (h.key1 < 2 ^ 64)

/-- CHAIN_ARM (R196): the header and work requests are what the arm reads from the stack. -/
def execChainArm (d : Cd) (n : Fin 32768) (h : ChainHdr) (ws : List WorkReq) (reservedZero : Bool) (s : State) : Out :=
  onCd d s fun s =>
  let d := cdId d
  let n := n.val
  let c := s.chain d n
  let cn := s.conn d (connIdx h.conn)
  let finals := ws.map (fun w => w.flags.testBit 0)
  if c.state = 1 ∨ c.state = 2 ∨ cn.state ≠ 2 ∨ cn.gen ≠ connGen h.conn ∨ !chainHdrOk h ∨ !reservedZero ∨ ws.isEmpty ∨
      15 < ws.length ∨ ws.any (fun w => !workReqOk w cn) ∨ finals.getLast? ≠ some true ∨ finals.dropLast.any id then
    s.w d (.rdx .CHAIN_STATUS_result) 3
  else (s.setChain d n { state := 1, hdr := h, wrs := ws.length }).w d (.rdx .CHAIN_STATUS_result) 0

/-- CHAIN_CANCEL (R199). -/
def execChainCancel (d : Cd) (n : Fin 32768) (s : State) : Out := onCd d s fun s =>
  let d := cdId d
  let n := n.val
  let c := s.chain d n
  if c.state = 1 then (s.setChain d n { c with state := 4 }).w d (.rdx .CHAIN_STATUS_result) 0
  else s.w d (.rdx .CHAIN_STATUS_result) (if c.state = 2 ∨ c.state = 3 ∨ c.state = 5 then 1 else 2)

/-- CHAIN_FIRMWARE_TRIGGER (R197 kind 0x5). -/
def execChainFirmwareTrigger (d : Cd) (n : Fin 32768) (s : State) : Out := onCd d s fun s =>
  let d := cdId d
  let n := n.val
  let s := s.w d (.rdx .CHAIN_STATUS_result) (if (s.chain d n).state = 1 then 0 else 2)
  s.raise d n 5 0

/-- CHAIN_TRIGGER (R197): a trigger with its key; a drive completion without success fails an Armed chain. -/
def execChainTrigger (d : Cd) (n : Fin 32768) (kind : Fin 6) (key : BitVec 64) (ok : Bool) (s : State) : Out :=
  onCd d s fun s =>
  let d := cdId d
  if kind.val = 4 && !ok then (if (s.chain d n.val).state = 1 then s.chainFailed d n.val else s)
  else s.raise d n.val kind.val key.toNat

/-- CHAIN_FAIL_POP (R200): a read of CHAIN_FAIL. -/
def execChainFailPop (d : Cd) (s : State) : Out := onCd d s fun s =>
  let d := cdId d
  let q := (alList s.rdx.chainFail d).drop 1
  let s := s.emit (.readData (pkgAddr d 0x20 0x3C) (s.r d (.rdx .CHAIN_FAIL_valid) * 2 ^ 31 +
    s.r d (.rdx .CHAIN_FAIL_lost) * 2 ^ 30 + s.r d (.rdx .CHAIN_FAIL_chain)))
  let s := { s with rdx := { s.rdx with chainFail := alPut s.rdx.chainFail d q } }
  ((s.w d (.rdx .CHAIN_FAIL_lost) 0).wb d (.rdx .CHAIN_FAIL_valid) (!q.isEmpty)).w d (.rdx .CHAIN_FAIL_chain) (q.headD 0)

/-- RDX_SNAPSHOT (R204). -/
def execRdxSnapshot (q : Req) (d : Cd) (s : State) : Out := onDie d s fun s =>
  let d := cdId d
  s.snapshot d 0x20 q.secure (s.counters d 0x20 26) (.rdx .SNAP_CTRL_done)

end Sys2Proof.Machine
end

