-- ==== Sys2Proof/Machine/Commands.lean ====
section
/-! DEFINITION. The meanings of the I/O and Fabrics commands, of abort, and of the command engine's gate, filter and
holds (spec/08). -/

set_option Elab.async false

namespace Sys2Proof.Machine

/-- A slot that holds a command in one of two states with an opcode; anything else leaves the state as it is. -/
def onSlot (d : Cd) (k : Fin 32768) (op : Nat) (s : State) (f : Nat → Nat → CmdSlot → State) : Out :=
  .next (let x := s.slot (cdId d) k.val
    if s.cdUp (cdId d) && (x.state = 1 || x.state = 2) && x.cap.opcode = op then f (cdId d) k.val x else s)

/-- The same for a command of an I/O queue, or of an admin queue. -/
def onIo (d : Cd) (k : Fin 32768) (op : Nat) (s : State) (f : Nat → Nat → CmdSlot → State) : Out :=
  onSlot d k op s fun d k x => if x.admin then s else f d k x
def onAdmin (d : Cd) (k : Fin 32768) (op : Nat) (s : State) (f : Nat → Nat → CmdSlot → State) : Out :=
  onSlot d k op s fun d k x => if x.admin then f d k x else s

/-- The same for a Fabrics command of a type. -/
def onFabrics (d : Cd) (k : Fin 32768) (fctype : Nat) (s : State) (f : Nat → Nat → CmdSlot → State) : Out :=
  onSlot d k 0x7F s fun d k x => if x.cap.nsid % 256 = fctype then f d k x else s

/-- The controller ID of a slot's queue. -/
def CmdSlot.ctrl (x : CmdSlot) (d : Nat) : Nat := if isEp x.conn then 0x7000 + epFn x.conn else ctrlId d x.host

/-- A Connect is refused: its status, and the connection goes to Drain (R207). -/
def State.refuseConnect (s : State) (d k status : Nat) : State :=
  let i := connIdx (s.slot d k).conn
  let s := (s.completeWith d k status).logEv d 0x21 .connectRefused [status]
  let c := s.conn d i
  if c.state = 2 then s.setConn d i { c with state := 3 } else s

/-- FABRICS_CONNECT (R206, spec/09 R256, R258).  `subnqn` is the MAC in the SUBNQN, none for another string. -/
def execFabricsConnect (d : Cd) (k : Fin 32768) (subnqn : Option Nat) (hostnqn hostId qid sqsize cntlid kato : Nat)
    (s : State) : Out :=
  onFabrics d k 1 s fun d k x =>
  let cn := s.conn d (connIdx x.conn)
  -- Accepted only as the first capsule of a connection in RTS.
  if cn.state ≠ 2 ∨ (s.queueOf d x.conn).isSome then s.completeWith d k stConnParams
  else if s.cmd.nqnMac.isNone ∨ subnqn ≠ s.cmd.nqnMac then s.refuseConnect d k stConnParams
  else match (s.img.active.getD {}).hosts.find? (fun h => h.hostnqn = hostnqn && h.flags.testBit 0 && !h.flags.testBit 3) with
  | none => s.refuseConnect d k stConnHost
  | some h =>
    let mine := (s.cds.map (fun c => ((s.cd (cdId c)).queues.filter (fun q => q.host = h.id && !isEp q.conn)).length)).foldl (· + ·) 0
    let id := ctrlId d h.id
    let has := (s.ctrl d id).isSome
    if h.srcIpv6 ≠ 0 ∧ h.srcIpv6 ≠ cn.f.remoteIp then s.refuseConnect d k stConnHost
    else if h.maxConn ≤ mine then s.refuseConnect d k stConnHost
    else if qid = 0 ∧ has then s.refuseConnect d k stConnBusy
    else if (qid = 0 ∧ cntlid ≠ 0xFFFF) ∨ (qid ≠ 0 ∧ (cntlid ≠ id ∨ !has)) ∨ 255 < qid ∨
        (s.cd d).queues.any (fun q => q.host = h.id && q.qid = qid) then s.refuseConnect d k stConnParams
    else if sqsize < 1 ∨ (if qid = 0 then 31 else 1023) < sqsize then s.refuseConnect d k stConnParams
    else if kato ≠ 0 ∧ (kato < 1000 ∨ 600000 < kato) then s.refuseConnect d k stConnParams
    else
      let y := s.cd d
      let s := s.setCd d { y with queues := y.queues ++ [⟨x.conn, h.id, qid, sqsize, 0⟩] }
      let s := if qid = 0 then
          s.setCtrl d id { host := h.id, hostId := hostId, kato := kato, kaAt := s.now }
        else match s.ctrl d id with
          | some c => s.setCtrl d id { c with hostId := hostId }
          | none => s
      let s := { s with cmd := { s.cmd with hostIds := alPut s.cmd.hostIds h.id hostId } }
      let s := s.setSlot d k { x with host := h.id }
      (s.completeWith d k stOk id).offer d

/-- FABRICS_DISCONNECT (R212, R245): the queue closes; no new commands come on its connection. -/
def execFabricsDisconnect (d : Cd) (k : Fin 32768) (s : State) : Out := onFabrics d k 8 s fun d k x =>
  let i := connIdx x.conn
  let s := s.completeWith d k stOk
  let c := s.conn d i
  if c.state = 2 then s.setConn d i { c with state := 3, credits := 0 } else s

/-- Controller properties (R259): CAP, VS 2.0.0, CC, CSTS. -/
def Ctrl.property (c : Ctrl) (off : Nat) : Option Nat := match off with
  | 0x00 => some (Config.digest [0xCA9])
  | 0x08 => some 0x20000
  | 0x14 => some c.cc
  | 0x1C => some (c.cc % 2 + 4 * c.shst)
  | _ => none

/-- PROPERTY_GET (R259). -/
def execPropertyGet (d : Cd) (k : Fin 32768) (s : State) : Out := onFabrics d k 4 s fun d k x =>
  match (s.ctrl d (x.ctrl d)).bind (fun c => c.property x.cap.cdw11) with
  | some v => s.completeWith d k stOk (v % 2 ^ 32) (v / 2 ^ 32 % 2 ^ 32)
  | none => s.completeWith d k stBadField

/-- PROPERTY_SET (R259): CC, with the shutdown request of CC.SHN. -/
def execPropertySet (d : Cd) (k : Fin 32768) (s : State) : Out := onFabrics d k 0 s fun d k x =>
  match s.ctrl d (x.ctrl d) with
  | none => s.completeWith d k stBadField
  | some c =>
    if x.cap.cdw11 ≠ 0x14 then s.completeWith d k stBadField
    else
      let shn := x.cap.cdw12 / 2 ^ 14 % 4
      let c := { c with cc := x.cap.cdw12, shst := if x.cap.cdw12 % 2 = 0 then 0 else if shn = 1 ∨ shn = 2 then 1 else c.shst }
      (s.setCtrl d (x.ctrl d) c).completeWith d k stOk

/-- CONTROLLER_SHUTDOWN_COMPLETE (R259): every command of the controller has reached Completing or Orphaned. -/
def execControllerShutdownComplete (d : Cd) (host : Fin 1024) (s : State) : Out := onCd d s fun s =>
  let d := cdId d
  match s.ctrl d (ctrlId d host.val) with
  | none => s
  | some c =>
    let busy := (s.cd d).slots.any (fun y => y.2.host = host.val && !isEp y.2.conn && decide (1 ≤ y.2.state) && decide (y.2.state ≤ 4) &&
      !c.aers.contains y.1)
    if c.shst = 1 ∧ !busy then s.setCtrl d (ctrlId d host.val) { c with shst := 2 } else s

/-! ### I/O commands -/

/-- Earlier write-class commands of a Flush's connection still run (R226). -/
def State.flushBlocked (s : State) (d k : Nat) : Bool :=
  let x := s.slot d k
  (s.cd d).slots.any (fun y => y.1 ≠ k && y.2.conn = x.conn && writeClass y.2.cap.opcode && decide (1 ≤ y.2.state) &&
    decide (y.2.state ≤ 4) && decide (y.2.order < x.order))

/-- IO_FLUSH (R226). -/
def execIoFlush (d : Cd) (k : Fin 32768) (s : State) : Out := onIo d k 0x00 s fun d k x =>
  if s.flushBlocked d k then s.setSlot d k { x with state := 3 } else s.completeWith d k stOk

/-- FLUSH_CONDITION_MET (R226). -/
def execFlushConditionMet (d : Cd) (k : Fin 32768) (s : State) : Out := onCd d s fun s =>
  let d := cdId d
  let x := s.slot d k.val
  if x.state = 3 ∧ x.cap.opcode = 0 ∧ !s.flushBlocked d k.val then s.completeWith d k.val stOk else s

/-- A write-class command enters Executing; the bits of its regions are set (R326). -/
def State.startWrite (s : State) (d k : Nat) : State :=
  let x := s.slot d k
  (((s.setSlot d k { x with state := 3 }).cmdBump d 2)).markRegions d (s.nsGroup x.cap.nsid) (s.cmdRegions d k)

/-- IO_WRITE (R221, R282): `data` are the bytes that the engine takes from the capsule or the push region; none where the
stack reports them uncorrectable (spec/10 R301). -/
def execIoWrite (d : Cd) (k : Fin 32768) (data : Option (List Block)) (s : State) : Out := onIo d k 0x01 s fun d k _ =>
  let s := s.startWrite d k
  match data with
  | none => s.completeWith d k stDataTransfer
  | some l => ((s.reserveSpace d k l).tryCommit d k).epRetry

/-- SPONGE_SPACE_RESERVED (R282). -/
def execSpongeSpaceReserved (d : Cd) (k : Fin 32768) (data : List Block) (s : State) : Out := onCd d s fun s =>
  let d := cdId d
  let x := s.slot d k.val
  if x.state = 3 ∧ x.cap.opcode = 1 ∧ !x.taken then ((s.reserveSpace d k.val data).tryCommit d k.val).epRetry else s

/-- WRITE_COMMIT (R221). -/
def execWriteCommit (d : Cd) (k : Fin 32768) (s : State) : Out := onCd d s fun s =>
  let x := s.slot (cdId d) k.val
  if writeClass x.cap.opcode then (s.tryCommit (cdId d) k.val).epRetry else s

/-- IO_WRITE_ZEROES (spec/10 R284). -/
def execIoWriteZeroes (d : Cd) (k : Fin 32768) (s : State) : Out := onIo d k 0x08 s fun d k _ =>
  (s.startWrite d k).tryCommit d k

/-- IO_DATASET_MANAGEMENT (R212, spec/10 R284): only the deallocate attribute acts. -/
def execIoDatasetManagement (d : Cd) (k : Fin 32768) (s : State) : Out := onIo d k 0x09 s fun d k x =>
  if x.cap.cdw11.testBit 2 && x.ranges.any (fun r => r.2 ≠ 0) then (s.startWrite d k).tryCommit d k
  else s.completeWith d k stOk

/-- A read waits, or starts (R230, R231). -/
def State.readOrWait (s : State) (d k : Nat) (first : Bool) : State :=
  let x := s.slot d k
  if s.readBlocked d k then
    let s := if first then s.cmdBump d 14 else s
    s.setSlot d k { x with state := 2 }
  else
    let um := s.unmirroredFor d k
    if !um.isEmpty then
      let s := if first then s.cmdBump d 15 else s
      s.setSlot d k { x with state := 2, mirrorWait := um }
    else s.startRead d k

/-- IO_READ (R225); `ecc`: which of its blocks, counted from its SLBA, the stack reports uncorrectable in their data slots
(spec/10 R301). -/
def execIoRead (d : Cd) (k : Fin 32768) (ecc : List Nat) (s : State) : Out := onIo d k 0x02 s fun d k x =>
  if x.state ≠ 1 then s
  else if s.readBlocked d k then s.readOrWait d k true
  else
    let s := foldS (fun (s : State) i => match s.lookup d x.cap.nsid (x.slba + i) with
      | some e => if i < x.nlb ∧ !e.poisoned ∧ !e.pending then (s.eccShow d (64 * e.slot) true).blockBroken d e else s
      | none => s) s ecc
    s.readOrWait d k true

/-- READ_WAIT_END (R230, R231): also a read in Executing that waited for staging pages (spec/10 R285). -/
def execReadWaitEnd (d : Cd) (k : Fin 32768) (s : State) : Out := onCd d s fun s =>
  let d := cdId d
  let x := s.slot d k.val
  if x.cap.opcode = 2 ∧ (x.state = 2 ∨ (x.state = 3 ∧ x.blocks.isEmpty)) then s.readOrWait d k.val false else s

/-- READ_ASSEMBLED (R223). -/
def execReadAssembled (d : Cd) (k : Fin 32768) (s : State) : Out := onCd d s fun s =>
  let d := cdId d
  let x := s.slot d k.val
  if x.assembled && (s.chain d k.val).hdr.kind0 = 1 then s.readDone d k.val 1 (x.seqs.headD 0) else s

/-! ### Vendor Fabrics commands (R209, R210, R245-R248) -/

/-- The check value of a resume token. -/
def State.tokenCheck (s : State) (conn host : Nat) : Nat := Config.digest [0x544F4B, s.cmd.pairSecret, conn, host] % 2 ^ 30

/-- RESUME_OPEN (R245). -/
def execResumeOpen (d : Cd) (k : Fin 32768) (s : State) : Out := onFabrics d k 0xC0 s fun d k x =>
  let ok := (s.img.active.getD {}).hosts.any (fun h => h.id = x.host && h.flags.testBit 1) &&
    (s.queueOf d x.conn).any (fun q => q.qid ≠ 0)
  if !ok then s.completeWith d k stResumeRefused
  else
    let chk := s.tokenCheck x.conn x.host
    let y := s.cd d
    let s := s.setCd d { y with tokens := (y.tokens.filter (fun t => t.conn ≠ x.conn)) ++ [{ conn := x.conn, host := x.host, check := chk }] }
    let tok := x.conn * 2 ^ 40 + x.host * 2 ^ 30 + chk
    s.completeWith d k stOk (tok % 2 ^ 32) (tok / 2 ^ 32)

/-- One outcome completion on a queue (R248). -/
def State.sendOutcome (s : State) (d conn cid status slba nlb op : Nat) : State :=
  (s.cmdBump d 17).emit (.completion d conn cid status (slba % 2 ^ 32) ((nlb - 1) % 65536 + 65536 * op))

/-- RESUME (R247, R248): on the same package the outcomes are the queue's Orphaned commands; after a takeover, the
queue's mirrored write-class Crumbs. -/
def execResume (d : Cd) (k : Fin 32768) (s : State) : Out := onFabrics d k 0xC1 s fun d k x =>
  let tok := x.cap.cdw10 + 2 ^ 32 * x.cap.cdw11
  let conn := tok / 2 ^ 40
  let host := tok / 2 ^ 30 % 1024
  let y := s.cd d
  let first := (s.queueOf d x.conn).any (fun q => q.qid ≠ 0 && q.count = 1)
  let good := host = x.host && conn / 2 ^ 21 + 1 = d && tok % 2 ^ 30 = s.tokenCheck conn host && first
  let orphans := y.slots.filter (fun e => e.2.state = 6 && e.2.conn = conn)
  let finish := fun (s : State) (n : Nat) (whole : Bool) => s.completeWith d k stOk n (if whole then 1 else 0)
  match y.tokens.find? (fun t => t.conn = conn) with
  | some t =>
    if !good ∨ t.used then s.completeWith d k stResumeRefused
    else
      let s := s.setCd d { y with tokens := y.tokens.map (fun z => if z.conn = conn then { z with used := true } else z) }
      let s := foldS (fun (s : State) (e : Nat × CmdSlot) =>
        let s := s.sendOutcome d x.conn e.2.cap.cid (e.2.status.getD 0) e.2.slba e.2.nlb e.2.cap.opcode
        (s.holdOver d e.2.seqs).freeSlot d e.1) s orphans
      finish s orphans.length (!t.evicted)
  | none =>
    if !good ∨ y.filterUntil.isNone then s.completeWith d k stResumeRefused
    else
      -- A Cancel is the outcome of a write-class command that was caught (spec/10 R292).
      let cr := (s.sp d).ring.filter (fun r => !r.retired && !r.chainDone && r.c.conn = conn &&
        (r.c.kind = 1 || r.c.kind = 2 || (r.c.kind = 3 && r.c.flags.testBit 4) || r.c.kind = 0x21))
      let s := s.setCd d { y with tokens := y.tokens ++ [{ conn := conn, host := host, check := tok % 2 ^ 30, used := true, holdFrom := some s.now }] }
      let s := foldS (fun (s : State) (r : RingCrumb) => s.sendOutcome d x.conn r.c.cid
        (if r.c.kind = 0x21 then r.c.aux else stOk) r.c.slba r.c.nlb r.c.opcode) s cr
      let s := foldS (fun (s : State) (e : Nat × CmdSlot) => (s.holdOver d e.2.seqs).freeSlot d e.1) s orphans
      finish s cr.length true

/-- PUSH_REGION_INFO (R210). -/
def execPushRegionInfo (d : Cd) (k : Fin 32768) (s : State) : Out := onFabrics d k 0xC2 s fun d k x =>
  let mine := (s.rdx.regions.filter (fun e => e.1.1 = d && e.2.state = 1 && e.2.f.conn = x.conn)).map (·.1.2)
  match mine with
  | [] => s.completeWith d k stPushRefused
  | a :: l =>
    let i := l.foldl min a
    let r := s.region d i
    -- Not before the partner has the region (spec/15 R429).
    if s.mirrored d && decide (s.r d (.pair .TABLE_ACK) < r.evSeq) then s
    else s.completeWith d k stOk (i * 65536 + r.tag) (r.f.length / 4096)

/-! ### Abort (R236-R238) -/

/-- The decision of an abort on a connection: 0 caught, 1 not caught, 2 no command. -/
def State.decideAbort (s : State) (d conn cid : Nat) : State × Nat :=
  match (s.cd d).slots.find? (fun y => y.2.conn = conn && y.2.cap.cid = cid && decide (1 ≤ y.2.state)) with
  | none => (s.cmdBump d 8, 2)
  | some y =>
    match s.abortSlot d y.1 with
    | (s, true) => (s.cmdBump d 7, 0)
    | (s, false) => (s.cmdBump d 8, 1)

/-- ABORT_CID_WRITE (R236). -/
def execAbortCidWrite (d : Cd) (cid : BitVec 16) (s : State) : Out := onCd d s fun s =>
  let d := cdId d
  let (s, r) := s.decideAbort d (s.r d (.cmd .ABORT_CONN_conn)) cid.toNat
  (s.w d (.cmd .ABORT_STATUS_busy) 0).w d (.cmd .ABORT_STATUS_result) r

/-- ADMIN_ABORT (R236, R238): the firmware passes the target on and completes the Abort, in Mirrored Active only after the
partner has acknowledged a Cancel record. -/
def execAdminAbort (d : Cd) (k : Fin 32768) (s : State) : Out := onAdmin d k 0x08 s fun d k x =>
    let sqid := x.cap.cdw10 % 65536
    let cid := x.cap.cdw10 / 65536
    match (s.cd d).queues.find? (fun q => q.host = x.host && q.qid = sqid && isEp q.conn = isEp x.conn &&
        (!isEp x.conn || epFn q.conn = epFn x.conn)) with
    | none => s.completeWith d k stOk 1
    | some q =>
      let before := s.crumbNext d
      let s := s.w d (.cmd .ABORT_CONN_conn) q.conn
      let (s, r) := s.decideAbort d q.conn cid
      let s := (s.w d (.cmd .ABORT_STATUS_busy) 0).w d (.cmd .ABORT_STATUS_result) r
      if r = 0 && s.mirrored d && decide (before < s.crumbNext d) then
        let y := s.cd d
        (s.setCd d { y with aborts := y.aborts ++ [⟨k, before⟩] }).setSlot d k { x with state := 3 }
      else s.completeWith d k stOk (if r = 0 then 0 else 1)

/-- ABORT_CANCEL_ACKNOWLEDGED (R238). -/
def execAbortCancelAcknowledged (d : Cd) (k : Fin 32768) (s : State) : Out := onCd d s fun s =>
  let d := cdId d
  let y := s.cd d
  match y.aborts.find? (fun a => a.adminSlot = k.val) with
  | none => s
  | some a =>
    if (s.ringCrumb d a.seq).all (fun r => r.placed) then
      (s.setCd d { y with aborts := y.aborts.filter (fun z => z.adminSlot ≠ k.val) }).completeWith d k.val stOk 0
    else s

/-! ### Gate, floor, holds -/

/-- CMD_GATE_WRITE (R241). -/
def execCmdGateWrite (d : Cd) (v : BitVec 2) (s : State) : Out := onCd d s fun s =>
  let d := cdId d
  let cur := s.r d (.cmd .GATE_refuse)
  let maint := s.modeNow = 0xA || s.mode.drain.isSome
  let v := if v.toNat = 0 ∧ cur = 2 ∧ maint then 3 else v.toNat
  let s := s.w d (.cmd .GATE_refuse) v
  (if cur = 2 ∧ v ≠ 2 then s.w d (.grp .STATUS_recovering) 0 else s).nsmShow d

/-- REPLAY_FLOOR_WRITE (R234): the floor is applied as a maximum. -/
def execReplayFloorWrite (d : Cd) (hi : BitVec 32) (s : State) : Out := onCd d s fun s =>
  let d := cdId d
  s.w d (.cmd .REPLAY_FLOOR) (max (s.r d (.cmd .REPLAY_FLOOR)) (hi.toNat * 2 ^ 32 + (s.cd d).floorLo))

/-- The end of a hold: its Crumbs may retire and the slot is Free (R243, R224). -/
def State.endHold (s : State) (d k : Nat) : State :=
  (s.holdOver d (s.slot d k).seqs).freeSlot d k

/-- When a token's hold ends. -/
def Token.ends (t : Token) : Nat := t.holdFrom.getD 0 + t.holdNs

/-- ORPHAN_HOLD_EXPIRY (R243). -/
def execOrphanHoldExpiry (d : Cd) (k : Fin 32768) (s : State) : Out := onCd d s fun s =>
  let d := cdId d
  let x := s.slot d k.val
  if x.state ≠ 6 then s else
    let resume := ((s.cd d).tokens.filter (fun t => t.conn = x.conn && t.holdFrom.isSome && !t.used)).foldl (fun m t => max m t.ends) 0
    ((s.advance (max (x.orphanAt.getD 0 + x.holdNs) resume)).endHold d k.val).offer d

/-- RESUME_HOLD_EXPIRY (R246). -/
def execResumeHoldExpiry (d : Cd) (conn : BitVec 24) (s : State) : Out := onCd d s fun s =>
  let d := cdId d
  let y := s.cd d
  match y.tokens.find? (fun t => t.conn = conn.toNat && t.holdFrom.isSome) with
  | none => s
  | some t => (s.advance t.ends).setCd d { y with tokens := y.tokens.filter (fun z => z.conn ≠ conn.toNat) }

/-- TAKEOVER_FILTER_EXPIRY (R244). -/
def execTakeoverFilterExpiry (d : Cd) (s : State) : Out := onCd d s fun s =>
  let d := cdId d
  match (s.cd d).filterUntil with
  | none => s
  | some t => let s := s.advance t
    s.setCd d { s.cd d with filter := [], filterUntil := none }

/-- CMD_SNAPSHOT (R255). -/
def execCmdSnapshot (q : Req) (d : Cd) (s : State) : Out := onDie d s fun s =>
  s.snapshot (cdId d) 0x21 q.secure (s.counters (cdId d) 0x21 24) (.cmd .SNAP_CTRL_done)

end Sys2Proof.Machine
end

