-- ==== Sys2Proof/Machine/Admin.lean ====
section
/-! DEFINITION. The meanings of the admin commands, reservations, Format, Sanitize and namespace drains (spec/09). -/

set_option Elab.async false

namespace Sys2Proof.Machine

/-! ### Keep alive -/

/-- KEEP_ALIVE (R258). -/
def execKeepAlive (d : Cd) (k : Fin 32768) (s : State) : Out := onAdmin d k 0x18 s fun d k x =>
  match s.ctrl d (x.ctrl d) with
  | some c => (s.setCtrl d (x.ctrl d) { c with kaAt := s.now }).completeWith d k stOk
  | none => s

/-- KEEP_ALIVE_TIMEOUT (R258): the controller's connections enter Error and it ceases. -/
def execKeepAliveTimeout (d : Cd) (host : Fin 1024) (s : State) : Out := onCd d s fun s =>
  let d := cdId d
  let id := ctrlId d host.val
  match s.ctrl d id with
  | none => s
  | some c =>
    if c.kato = 0 then s else
      let s := s.advance (c.kaAt + 1000000 * c.kato)
      let qs := (s.cd d).queues.filter (fun q => q.host = host.val && !isEp q.conn)
      let s := foldS (fun (s : State) (q : NvmQueue) => s.connError d (connIdx q.conn) true) s qs
      let y := s.cd d
      s.setCd d { y with ctrls := alDel y.ctrls id, queues := y.queues.filter (fun q => !(q.host = host.val && !isEp q.conn)) }

/-! ### Identify, log pages, features -/

/-- Namespaces in a controller's active namespace list (R257); of every channel die for the endpoint's (spec/18 R510). -/
def State.activeNs (s : State) (d host : Nat) (ep : Bool) : List NsEntry :=
  let img := s.bank (s.ts64 d)
  img.namespaces.filter (fun n => n.flags.testBit 0 && (ep || cdId n.channel = d) &&
    img.access.any (fun a => a.host = host && a.nsid = n.nsid && a.rights ≠ 0))

/-- The namespace structure of *Identify values*: NSZE, NLBAF, FLBAS, LBADS, NMIC, RESCAP, FPI, DLFEAT, NSATTR, ANAGRPID,
NGUID, EUI64; zero-filled outside the active namespace list. -/
def State.identifyNs (s : State) (d host nsid : Nat) (ep : Bool) : List Nat :=
  match (s.activeNs d host ep).find? (fun n => n.nsid = nsid) with
  | none => []
  | some n => [n.size, 0, 0, 12, 1, 0x7F, 128 + s.r (cdId n.channel) (.nsm .NS_fpi_left) (nsid - 1), 0x09, if n.flags.testBit 1 then 1 else 0,
      n.anagrp, n.nguid, n.eui64]

/-- The controller structure of *Identify values*; IOCCSZ and IORCSZ are 0 for an endpoint's controller (spec/18 R513). -/
def identifyCtrl (id : Nat) (ep : Bool) : List Nat :=
  [id, 9, 1024, 4096, 0x002C, 0, 0, 511, 511, 0x04, 3, 0x95, 4096, 4096, if ep then 0 else 1028, if ep then 0 else 1, 0, 10]

/-- IDENTIFY (R257, *Identify values*). -/
def execIdentify (d : Cd) (k : Fin 32768) (s : State) : Out := onAdmin d k 0x06 s fun d k x =>
  let ep := isEp x.conn
  let act := (s.activeNs d x.host ep).map (·.nsid)
  let data : Option (List Nat) := match x.cap.cdw10 % 256 with
    | 0x00 => some (s.identifyNs d x.host x.cap.nsid ep)
    | 0x01 => some (identifyCtrl (x.ctrl d) ep)
    | 0x02 => some ((sortKey id (act.filter (fun n => decide (x.cap.nsid < n)))).take 1024)
    | 0x03 => some (match (s.activeNs d x.host ep).find? (fun n => n.nsid = x.cap.nsid) with
      | some n => [n.nguid, n.eui64]
      | none => [])
    | 0x08 => some (s.identifyNs d x.host x.cap.nsid ep)
    | _ => none
  match data with
  | none => s.completeWith d k stBadField
  | some l => (s.emit (.hostData d x.conn 0x06 l)).completeWith d k stOk

/-- The ANA log page (R263): change count, then each group with its state and namespaces, in ascending order. -/
def State.anaPage (s : State) (d host : Nat) (rgo ep : Bool) : List Nat :=
  let ns := s.activeNs d host ep
  let grps := sortKey id (ns.map (·.anagrp)).eraseDups
  s.cmd.anaCount :: (grps.map (fun g =>
    let l := sortKey id ((ns.filter (fun n => n.anagrp = g)).map (·.nsid))
    [g, s.anaState (((ns.find? (fun n => n.anagrp = g)).map (fun n => cdId n.channel)).getD d) g] ++ (if rgo then [] else l.length :: l))).flatten

/-- The Sanitize Status page (R271): SPROG and SSTAT. -/
def State.sanitizePage (s : State) (d : Nat) : List Nat :=
  [s.r d (.nsm .SANITIZE_sprog), s.r d (.nsm .SANITIZE_sstat) + (if s.rb d (.nsm .SANITIZE_global_erased) then 256 else 0)]

/-- GET_LOG_PAGE (R260, *Log pages*). -/
def execGetLogPage (d : Cd) (k : Fin 32768) (s : State) : Out := onAdmin d k 0x02 s fun d k x =>
  let id := x.ctrl d
  match s.ctrl d id with
  | none => s
  | some c =>
    let done := fun (s : State) (l : List Nat) => (s.emit (.hostData d x.conn 0x02 ((x.cap.cdw10 % 256) :: l))).completeWith d k stOk
    let bays := List.range 8
    match x.cap.cdw10 % 256 with
    | 0x01 => done s c.errors.flatten
    | 0x02 =>
      let used := (bays.map (fun b => if (s.posOfBay d b).isSome then s.r d (.drv .B_HEALTH_percent_used) b else 0)).foldl max 0
      done s [s.r mdId (.mgt .SENSOR_value) (d - 1), used, (8 * c.blocksRead + 999) / 1000, (8 * c.blocksWritten + 999) / 1000]
    | 0x03 => done s [1, s.r mdId (.mgt .FW_RELEASE_release)]
    | 0x04 =>
      let l := if 1024 < c.changedNs.length then [0xFFFFFFFF] else c.changedNs
      done (s.setCtrl d id { c with changedNs := [] }) l
    | 0x05 => done s (adminOpcodes ++ ioOpcodes)
    | 0x0C => done s (s.anaPage d x.host (x.cap.cdw10.testBit 8) (isEp x.conn))
    | 0x80 => done (s.setCtrl d id { c with resvLog := c.resvLog.drop 1 })
        (match c.resvLog with
          | e :: _ => [e.1, e.2, c.resvLog.length - 1]
          | [] => [])
    | 0x81 => done s (s.sanitizePage d)
    | 0xD0 =>
      let mine := s.cmd.deferLog.filter (fun r => (s.img.active.getD {}).access.any (fun a =>
        a.host = x.host && a.nsid = r.range.nsid && a.rights ≠ 0))
      done s ([mine.length, ((mine.getLast?).map (·.seq)).getD 0, if s.cmd.deferDropped then 1 else 0] ++ (mine.map (fun r =>
        [r.seq, r.range.nsid, r.range.cause, (if r.range.whole then 1 else 0) + (if r.cleared then 2 else 0), r.range.slba,
         r.range.nlb, r.range.detect, r.range.from_, r.range.to_])).flatten)
    -- The performance counter page is served by PERF_COUNTER_LOG_PAGE.
    | 0xD1 => s
    | _ => s.completeWith d k stLogPage

/-- SET_FEATURES (R260, *Features*). -/
def execSetFeatures (d : Cd) (k : Fin 32768) (s : State) : Out := onAdmin d k 0x09 s fun d k x =>
  let id := x.ctrl d
  match s.ctrl d id with
  | none => s
  | some c =>
    let v := x.cap.cdw11
    match x.cap.cdw10 % 256 with
    | 0x07 => s.completeWith d k stOk (if isEp x.conn then 62 + 65536 * 62 else 254 + 65536 * 254)
    | 0x0B => (s.setCtrl d id { c with aeMask := v &&& 0x80000900 }).completeWith d k stOk
    | 0x0F => if v ≠ 0 ∧ (v < 1000 ∨ 600000 < v) then s.completeWith d k stBadField
        else (s.setCtrl d id { c with kato := v, kaAt := s.now }).completeWith d k stOk
    | 0x82 => (s.setCtrl d id { c with resvMask := alPut c.resvMask x.cap.nsid (v &&& 0xE) }).completeWith d k stOk
    | 0x83 => s.completeWith d k (if v.testBit 0 then stOk else stBadField)
    | _ => s.completeWith d k stBadField

/-- GET_FEATURES (R260, *Features*). -/
def execGetFeatures (d : Cd) (k : Fin 32768) (s : State) : Out := onAdmin d k 0x0A s fun d k x =>
  match s.ctrl d (x.ctrl d) with
  | none => s
  | some c =>
    match x.cap.cdw10 % 256 with
    | 0x07 => s.completeWith d k stOk (if isEp x.conn then 62 + 65536 * 62 else 254 + 65536 * 254)
    | 0x0B => s.completeWith d k stOk c.aeMask
    | 0x0F => s.completeWith d k stOk c.kato
    | 0x81 => (s.emit (.hostData d x.conn 0x0A [c.hostId])).completeWith d k stOk
    | 0x82 => s.completeWith d k stOk ((alGet c.resvMask x.cap.nsid).getD 0)
    | 0x83 => s.completeWith d k stOk 1
    | _ => s.completeWith d k stBadField

/-- ASYNC_EVENT_REQUEST (R260): held until an event is pending, 16 at most. -/
def execAsyncEventRequest (d : Cd) (k : Fin 32768) (s : State) : Out := onAdmin d k 0x0C s fun d k x =>
  let id := x.ctrl d
  match s.ctrl d id with
  | none => s
  | some c =>
    if c.aers.contains k then s
    else match c.events with
    | e :: rest => (s.setCtrl d id { c with events := rest }).completeWith d k stOk (e.kind + 256 * e.info + 65536 * e.page)
    | [] => if 16 ≤ c.aers.length then s.completeWith d k stAerLimit
        else s.setCtrl d id { c with aers := c.aers ++ [k] }

/-! ### Reservations (R264-R268) -/

/-- Reservation types held by all registrants. -/
def allRegistrants (t : Nat) : Bool := t = 5 || t = 6
def Resv.holds (r : Resv) (h : Nat) : Bool := r.rtype ≠ 0 && (r.holder = some h || (allRegistrants r.rtype && r.regs.any (fun e => e.1 = h)))

/-- A reservation command with its outcome: an error status, or the change to be recorded. -/
def State.resvDo (s : State) (d k : Nat) (action : Nat) (out : Nat ⊕ Resv) (abort : List Nat := []) (notify : List (Nat × Nat) := []) :
    State :=
  let x := s.slot d k
  let y := s.cd d
  match out with
  | .inl st => s.completeWith d k st
  | .inr r =>
    let g := s.nsGroup x.cap.nsid
    let grp := s.grp_ d g
    let s := (s.setCd d { y with resvChange := y.resvChange ++ [⟨k, x.cap.nsid, r, action, abort, notify⟩] }).setSlot d k
      { x with state := 3 }
    match grp.holders with
    | p :: _ => s.drvIssue d (grp.bay p) 1 (1023 + x.cap.nsid) 1 { kind := 7, a := x.cap.nsid, b := 1 } p
    | [] => s

/-- A reservation command waits behind another on its namespace (R266). -/
def State.resvStart (s : State) (d k : Nat) (f : Resv → State) : State :=
  let x := s.slot d k
  let y := s.cd d
  if y.resvChange.any (fun c => c.nsid = x.cap.nsid) ∨ y.slots.any (fun z => z.1 ≠ k && z.2.cap.nsid = x.cap.nsid &&
      isResv z.2.cap.opcode && z.2.state = 2 && keyLater x.e x.conn x.msn z.2.e z.2.conn z.2.msn) then
    s.setSlot d k { x with state := 2 }
  else f ((alGet y.resv x.cap.nsid).getD {})

/-- RESERVATION_REGISTER (R264): action register, unregister or replace; keys in the command's data. -/
def execReservationRegister (d : Cd) (k : Fin 32768) (s : State) : Out := onIo d k 0x0D s fun d k x =>
  s.resvStart d k fun r =>
    let crkey := x.cap.info.getD 0 0
    let nrkey := x.cap.info.getD 1 0
    let iekey := x.cap.cdw10.testBit 3
    let mine := alGet r.regs x.host
    let r' := { r with generation := (r.generation + 1) % 2 ^ 32, prgen := (r.prgen + 1) % 2 ^ 32 }
    if x.cap.cdw10 / 2 ^ 30 = 2 then s.resvDo d k 0 (.inl stBadField)
    else match x.cap.cdw10 % 8 with
    | 0 =>
      match mine with
      | some key => s.resvDo d k 0 (if key = nrkey then .inr r else .inl stResvConflict)
      | none => s.resvDo d k 0 (if 128 ≤ r.regs.length then .inl stBadField else .inr { r' with regs := r.regs ++ [(x.host, nrkey)] })
    | 1 =>
      match mine with
      | none => s.resvDo d k 1 (.inl stResvConflict)
      | some key =>
        if !iekey ∧ key ≠ crkey then s.resvDo d k 1 (.inl stResvConflict)
        else
          let regs := r.regs.filter (fun e => e.1 ≠ x.host)
          let gone := r.rtype ≠ 0 && (r.holder = some x.host || (allRegistrants r.rtype && regs.isEmpty))
          let note := if gone && (r.rtype = 3 || r.rtype = 4) then regs.map (fun e => (e.1, 2)) else []
          s.resvDo d k 1 (.inr { r' with regs := regs, rtype := if gone then 0 else r.rtype, holder := if gone then none else r.holder }) [] note
    | 2 =>
      match mine with
      | none => if iekey then
            s.resvDo d k 2 (if 128 ≤ r.regs.length then .inl stBadField else .inr { r' with regs := r.regs ++ [(x.host, nrkey)] })
          else s.resvDo d k 2 (.inl stResvConflict)
      | some key => s.resvDo d k 2 (if iekey ∨ key = crkey then
          .inr { r' with regs := r.regs.map (fun e => if e.1 = x.host then (e.1, nrkey) else e) } else .inl stResvConflict)
    | _ => s.resvDo d k 0 (.inl stBadField)

/-- RESERVATION_REPORT (R264): EDS = 1 only. -/
def execReservationReport (d : Cd) (k : Fin 32768) (s : State) : Out := onIo d k 0x0E s fun d k x =>
  s.resvStart d k fun r =>
    if !x.cap.cdw11.testBit 0 then s.completeWith d k stHostIdFormat
    else
      let hid := fun h => (alGet s.cmd.hostIds h).getD 0
      (s.emit (.hostData d x.conn 0x0E ([r.prgen, r.rtype, r.regs.length, 1] ++ (r.regs.map (fun e =>
        [hid e.1, e.2, if r.holds e.1 then 1 else 0])).flatten))).completeWith d k stOk

/-- RESERVATION_ACQUIRE (R264, R267): acquire, preempt, preempt and abort. -/
def execReservationAcquire (d : Cd) (k : Fin 32768) (s : State) : Out := onIo d k 0x11 s fun d k x =>
  s.resvStart d k fun r =>
    let crkey := x.cap.info.getD 0 0
    let prkey := x.cap.info.getD 1 0
    let rtype := x.cap.cdw10 / 256 % 256
    let act := x.cap.cdw10 % 8
    let own := alGet r.regs x.host = some crkey || (x.cap.cdw10.testBit 3 && (alGet r.regs x.host).isSome)
    if !own then s.resvDo d k act (.inl stResvConflict)
    else if rtype = 0 ∨ 6 < rtype ∨ 2 < act then s.resvDo d k act (.inl stBadField)
    else
      let take := fun (r : Resv) => { r with rtype := rtype, holder := if allRegistrants rtype then none else some x.host }
      let r' := { r with generation := (r.generation + 1) % 2 ^ 32 }
      if act = 0 then
        if r.rtype = 0 then s.resvDo d k act (.inr (take r'))
        else s.resvDo d k act (if r.holds x.host ∧ r.rtype = rtype then .inr r else .inl stResvConflict)
      else
        let rg := { r' with prgen := (r.prgen + 1) % 2 ^ 32 }
        let holderKey := r.holder.bind (fun h => alGet r.regs h)
        if allRegistrants r.rtype && prkey = 0 then
          let gone := (r.regs.filter (fun e => e.1 ≠ x.host)).map (·.1)
          s.resvDo d k act (.inr (take { rg with regs := r.regs.filter (fun e => e.1 = x.host) }))
            (if act = 2 then gone else []) (gone.map (fun h => (h, 1)))
        else
          let gone := (r.regs.filter (fun e => e.2 = prkey && e.1 ≠ x.host)).map (·.1)
          if prkey = 0 ∨ (gone.isEmpty ∧ holderKey ≠ some prkey) then s.resvDo d k act (.inl stResvConflict)
          else
            let regs := r.regs.filter (fun e => !gone.contains e.1)
            let takes := r.rtype = 0 || holderKey = some prkey
            s.resvDo d k act (.inr (if takes && r.rtype ≠ 0 then take { rg with regs := regs } else { rg with regs := regs }))
              (if act = 2 then gone else []) (gone.map (fun h => (h, 1)) ++
                (if r.rtype ≠ 0 && holderKey = some prkey && r.rtype ≠ rtype then regs.map (fun e => (e.1, 2)) else []))

/-- RESERVATION_RELEASE (R264): release, clear. -/
def execReservationRelease (d : Cd) (k : Fin 32768) (s : State) : Out := onIo d k 0x15 s fun d k x =>
  s.resvStart d k fun r =>
    let crkey := x.cap.info.getD 0 0
    let rtype := x.cap.cdw10 / 256 % 256
    let own := alGet r.regs x.host = some crkey || (x.cap.cdw10.testBit 3 && (alGet r.regs x.host).isSome)
    let r' := { r with generation := (r.generation + 1) % 2 ^ 32 }
    if !own then s.resvDo d k 3 (.inl stResvConflict)
    else match x.cap.cdw10 % 8 with
    | 0 =>
      if !r.holds x.host then s.resvDo d k 3 (.inr r)
      else if r.rtype ≠ rtype then s.resvDo d k 3 (.inl stBadField)
      else s.resvDo d k 3 (.inr { r' with rtype := 0, holder := none }) []
        (if 3 ≤ r.rtype then (r.regs.filter (fun e => e.1 ≠ x.host)).map (fun e => (e.1, 2)) else [])
    | 1 => s.resvDo d k 4 (.inr { r' with prgen := (r.prgen + 1) % 2 ^ 32, rtype := 0, holder := none, regs := [] }) []
        ((r.regs.filter (fun e => e.1 ≠ x.host)).map (fun e => (e.1, 3)))
    | _ => s.resvDo d k 3 (.inl stBadField)

/-- A notification reaches a host's controller on a die, unless its mask says not (R268). -/
def State.resvNotify (s : State) (d nsid host kind : Nat) : State :=
  let id := ctrlId d host
  match s.ctrl d id with
  | none => s
  | some c =>
    if ((alGet c.resvMask nsid).getD 0).testBit kind then s
    else (s.setCtrl d id { c with resvLog := (c.resvLog ++ [(nsid, kind)]).drop ((c.resvLog.length + 1) - 64) }).asyncEvent d id ⟨6, 0, 0x80⟩

/-- RESERVATION_RECORD_WRITTEN (R265, R267, R268, spec/13 R380): the first copy has completed and the others are written, or
all have, and the Crumb is written and kind 0x1 raised. -/
def execReservationRecordWritten (d : Cd) (nsid : Nat) (s : State) : Out := onCd d s fun s =>
  let d := cdId d
  let y := s.cd d
  match y.resvChange.find? (fun c => c.nsid = nsid) with
  | none => s
  | some ch =>
    let g := s.nsGroup nsid
    let grp := s.grp_ d g
    let o1 : DrvOwner := { kind := 7, a := nsid, b := 1 }
    let o2 : DrvOwner := { kind := 7, a := nsid, b := 2 }
    if !s.drvQuiet d o1 ∨ !s.drvQuiet d o2 then s
    else if !(s.drvResults d o1).isEmpty && !(grp.holders.drop 1).isEmpty then
      foldS (fun (s : State) p => s.drvIssue d (grp.bay p) 1 (1023 + nsid) 1 o2 p) (s.drvTake d o1) (grp.holders.drop 1)
    else if !s.crumbRoom d 5 then s.spgBump d 11
    else
      let s := (s.drvTake d o1).drvTake d o2
      let s := s.setCd d { y with resvChange := y.resvChange.filter (fun c => c.nsid ≠ nsid), resv := alPut y.resv nsid ch.next }
      let seq := s.crumbNext d
      let s := s.writeCrumb d { s.crumbOf d ch.slot 5 with slba := ch.next.generation, aux := ch.action, aux2 := ch.next.rtype }
      let x := s.slot d ch.slot
      let s := (s.setSlot d ch.slot { x with state := 4, seqs := [seq] }).keyChain d ch.slot seq
      let s := foldS (fun (s : State) h => foldS (fun (s : State) (z : Nat × CmdSlot) =>
          if z.2.host = h ∧ z.2.cap.nsid = nsid ∧ z.1 ≠ ch.slot ∧ !z.2.admin then (s.abortSlot d z.1).1 else s) s (s.cd d).slots) s ch.abort
      let s := foldS (fun (s : State) (n : Nat × Nat) => s.resvNotify d nsid n.1 n.2) s ch.notify
      ((s.ev d (.nsm .EVENTS_reservation_changed)).nsmShow d).raise d ch.slot 1 seq

/-! ### Format and Sanitize (R269-R273) -/

/-- The host may give privileged commands on a namespace (R260). -/
def State.privileged (s : State) (host nsid : Nat) : Bool :=
  let img := s.img.active.getD {}
  img.hosts.any (fun h => h.id = host && h.flags.testBit 2) &&
    img.access.any (fun a => a.host = host && a.nsid = nsid && a.rights.testBit 3)

/-- The progress record goes to its copies (R272). -/
def State.progressWrite (s : State) (d : Nat) (nsid : Option Nat) (groups : List Nat) : State :=
  foldS (fun (s : State) g =>
    let x := s.grp_ d g
    foldS (fun (s : State) p => s.drvIssue d (x.bay p) 1 (match nsid with
      | some n => 5119 + n
      | none => 10) 1 { kind := 8, a := nsid.getD 0 } p) s x.holders) s groups

def State.setFormat (s : State) (d nsid : Nat) (p : Progress) : State :=
  let y := s.cd d
  let p := { p with generation := (p.generation + 1) % 2 ^ 32, checkAt := s.ts64 d }
  let s := s.setCd d { y with formats := alPut y.formats nsid p }
  ((s.progressWrite d (some nsid) [s.nsGroup nsid]).nsmShow d)

/-- SPROG (R271). -/
def Progress.sprog (p : Progress) : Nat := min 65535 (65536 * p.cursor / max 1 p.total)

def State.setSanitize (s : State) (d : Nat) (p : Progress) : State :=
  let y := s.cd d
  let p := { p with generation := (p.generation + 1) % 2 ^ 32, checkAt := s.ts64 d }
  let s := s.setCd d { y with sanitize := some p }
  let s := s.progressWrite d none ((s.dieGroups d).map (·.1))
  let s := (s.w d (.nsm .SANITIZE_sstat) (if p.phase < 3 then 2 else if p.phase = 3 then 1 else 3)).w d (.nsm .SANITIZE_sprog)
    (if p.phase < 3 then p.sprog else 0xFFFF)
  s.chanShow d

/-- Commands in flight on a namespace: admitted and not yet at their outcome. -/
def State.nsBusy (s : State) (d nsid : Nat) : Bool :=
  (s.cd d).slots.any (fun z => z.2.cap.nsid = nsid && decide (1 ≤ z.2.state) && decide (z.2.state ≤ 4) &&
    !z.2.admin)

/-- FORMAT_NVM (R269). -/
def execFormatNvm (d : Cd) (k : Fin 32768) (s : State) : Out := onAdmin d k 0x80 s fun d k x =>
  let nsid := x.cap.nsid
  let ses := x.cap.cdw10 / 512 % 8
  if nsid = 0xFFFFFFFF then s.completeWith d k stBadField
  else match (s.img.active.getD {}).namespaces.find? (fun n => n.nsid = nsid) with
  | none => s.completeWith d k stBadNamespace
  | some n =>
    if cdId n.channel ≠ d ∨ !n.flags.testBit 0 then s.completeWith d k stBadNamespace
    else if !s.privileged x.host nsid then s.completeWith d k stAccessDenied
    else if x.cap.cdw10 % 512 ≠ 0 ∨ 2 < ses then s.completeWith d k stInvalidFormat
    else if (s.cd d).sanitize.any (fun p => decide (p.phase < 3)) then s.completeWith d k stSanitizeInProgress
    else if (alGet (s.cd d).formats nsid).any (fun p => decide (p.phase < 3)) then s.completeWith d k stFormatInProgress
    else if !s.crumbRoom d 7 then s.spgBump d 11
    else
      let s := s.writeCrumb d { s.crumbOf d k 7 with slba := 0, nlb := 0, aux := ses }
      (s.setSlot d k { x with state := 3 }).setFormat d nsid
        { action := ses, nsid := nsid, host := x.host, start := s.ts64 d, total := n.size, cid := x.cap.cid, slot := some k }

/-- A format's phase is written, and its start Crumb retires once it is 2 or later (spec/10 R295). -/
def State.retireStart (s : State) (d kind nsid : Nat) : State :=
  match (s.sp d).ring.find? (fun r => r.c.kind = kind && r.c.nsid = nsid && !r.retired) with
  | some r => s.retireCrumb d r.c.seq
  | none => s

/-- FORMAT_DRAIN_COMPLETE (R269 steps 2-4). -/
def execFormatDrainComplete (d : Cd) (nsid : Nat) (s : State) : Out := onCd d s fun s =>
  let d := cdId d
  match alGet (s.cd d).formats nsid with
  | none => s
  | some p =>
    if p.phase ≠ 0 ∨ s.nsBusy d nsid then s
    else
      let s := (s.dropBlocks d (fun n => n = nsid)).setFormat d nsid { p with phase := if p.action = 2 then 1 else 2 }
      let s := if p.action = 2 then s else s.retireStart d 7 nsid
      let x := s.grp_ d (s.nsGroup nsid)
      match s.nsEntry nsid with
      | some n => s.markRegions d n.group ((List.range ((n.size * 1 + 16383) / (16384 * x.kEff) + 1)).map
          (fun i => x.regionOfBlock (n.offset + i * 16384 * x.kEff)) |>.filter (fun r => decide (r < x.regions)))
      | none => s

/-- SANITIZE (R270). -/
def execSanitize (d : Cd) (k : Fin 32768) (s : State) : Out := onAdmin d k 0x84 s fun d k x =>
  let act := x.cap.cdw10 % 8
  let mine := (s.img.active.getD {}).namespaces.filter (fun n => cdId n.channel = d && n.flags.testBit 0)
  if act = 3 ∨ x.cap.cdw10.testBit 3 ∨ (act ≠ 1 ∧ act ≠ 2 ∧ act ≠ 4) then s.completeWith d k stBadField
  else if mine.any (fun n => !s.privileged x.host n.nsid) then s.completeWith d k stAccessDenied
  else if (s.cd d).sanitize.any (fun p => decide (p.phase < 3)) then s.completeWith d k stSanitizeInProgress
  else if act = 1 then (s.w d (.nsm .SANITIZE_restricted) 0).completeWith d k stOk
  else if !s.crumbRoom d 6 then s.spgBump d 11
  else
    let gs := s.dieGroups d
    let spares := ((List.range 8).filter (fun b => s.rb d (.drv .B_STATE_spare) b)).map (fun b => (s.drive d b).blocks - dataBase)
    let total := if act = 2 then (gs.map (fun e => e.2.n * e.2.stripes * e.2.strip)).foldl (· + ·) 0 + spares.foldl (· + ·) 0
      else ((s.img.active.getD {}).namespaces.filter (fun n => cdId n.channel = d)).foldl (fun a n => a + n.size) 0
    let s := s.writeCrumb d { s.crumbOf d k 6 with nsid := 0xFFFFFFFF, slba := 0, nlb := 0, aux := act }
    let s := s.setSanitize d { action := act, phase := if act = 4 then 1 else 2, nsid := 0xFFFFFFFF, host := x.host
                               start := s.ts64 d, total := total, cid := x.cap.cid }
    let s := s.dropBlocks d (fun _ => true)
    let s := if act = 2 then s.reshapeAtOnce d else s
    (if act = 4 then s else s.retireStart d 6 0xFFFFFFFF).completeWith d k stOk

/-- ZERO_FILL_CHECKPOINT (R272): after at most 262,144 blocks or 1 s of zero fill, the record copies are rewritten.  A
namespace for a Format, none for the Sanitize. -/
def execZeroFillCheckpoint (d : Cd) (nsid : Option Nat) (blocks : Nat) (s : State) : Out := onCd d s fun s =>
  let d := cdId d
  if !s.workRuns || !s.bgMay d 2 then s else
    let s := (s.bgCharge d 2 [(8, min blocks 262144)]).bgWrote d 2 (min blocks 262144)
    let step := fun (p : Progress) => { p with cursor := min p.total (p.cursor + min blocks 262144) }
    match nsid with
    | some n => match alGet (s.cd d).formats n with
      | some p => if p.phase = 2 && (s.nsEntry n).any (fun e => e.flags.testBit 0) then s.setFormat d n (step p) else s
      | none => s
    | none => match (s.cd d).sanitize with
      | some p => if p.phase = 2 then s.setSanitize d (step p) else s
      | none => s

/-- The completion status of a command whose operation outlived its slot is an Orphaned outcome (R273), of the queue that its start
Crumb names where the ring still holds it. -/
def State.outcomeKept (s : State) (d : Nat) (p : Progress) (status : Nat) : State :=
  match s.newSlot d with
  | none => s
  | some k => (s.setSlot d k { state := 5, conn := (((s.sp d).ring.find? (fun r => r.c.kind = 7 && r.c.nsid = p.nsid && r.c.cid = p.cid)).map (·.c.conn)).getD 0, host := p.host, admin := true, status := some status
                               cap := { opcode := 0x80, cid := p.cid, nsid := p.nsid } }).orphan d k

/-- FORMAT_FILL_COMPLETE (R269 steps 6 and 7). -/
def execFormatFillComplete (d : Cd) (nsid : Nat) (s : State) : Out := onCd d s fun s =>
  let d := cdId d
  match alGet (s.cd d).formats nsid with
  | none => s
  | some p =>
    if p.phase ≠ 2 ∨ p.cursor ≠ p.total then s
    else
      let s := (s.setFormat d nsid { p with phase := 3, slot := none }).deferClear d nsid 0 0 true
      let g := s.nsGroup nsid
      let x := s.grp_ d g
      let lo := s.groupBlock nsid 0
      let s := s.setGrp d g (x.clearBad lo (lo + p.total))
      let s := s.ev d (.nsm .EVENTS_format_done)
      match p.slot with
      | some k => if (s.slot d k).state = 3 ∧ (s.slot d k).cap.opcode = 0x80 then s.completeWith d k stOk else s
      | none => s.outcomeKept d p stOk

/-- SANITIZE_FILL_COMPLETE (R270, R271): completed, or failed. -/
def execSanitizeFillComplete (d : Cd) (ok : Bool) (s : State) : Out := onCd d s fun s =>
  let d := cdId d
  match (s.cd d).sanitize with
  | none => s
  | some p =>
    if 3 ≤ p.phase ∨ (ok ∧ (p.phase ≠ 2 ∨ p.cursor ≠ p.total)) then s
    else if ok then
      let s := s.setSanitize d { p with phase := 3 }
      let s := foldS (fun (s : State) (e : DeferEntry) => s.deferClear d e.nsid 0 0 true) s (s.cd d).defer
      let s := (if p.action = 2 then s.w d (.nsm .SANITIZE_global_erased) 1 else s).w d (.nsm .SANITIZE_restricted) 0
      (s.ev d (.nsm .EVENTS_sanitize_done)).chanShow d
    else
      ((s.setSanitize d { p with phase := 4 }).w d (.nsm .SANITIZE_restricted) 1).ev d (.nsm .EVENTS_sanitize_done)

/-- CLEAR_DEFERRED_RANGE (R261), over the NVMe-MI path; accepted only in a session of the owner (spec/19 R550). -/
def execClearDeferredRange (nsid slba nlb : Nat) (owner : Bool) (s : State) : Out :=
  match s.nsEntry nsid with
  | none => .next s
  | some n => if !owner then .next (s.emit (.mgmt 2 0 [stAccessDenied])) else .next (if s.cdUp (cdId n.channel) then s.deferClear (cdId n.channel) nsid slba nlb (nlb = 0) else s)

/-! ### Namespace drains (R275) -/

/-- NAMESPACE_DRAIN_LIMIT_EXPIRY (R275 step 2). -/
def execNamespaceDrainLimitExpiry (d : Cd) (nsid : Nat) (s : State) : Out := onCd d s fun s =>
  let d := cdId d
  match (s.cd d).draining.find? (fun e => e.1 = nsid) with
  | none => s
  | some e =>
    let s := s.reachTs d (e.2.2 + 1000000 * (s.img.active.getD {}).pkg.drainMs)
    foldS (fun (s : State) (z : Nat × CmdSlot) =>
      if z.2.cap.nsid = nsid && !z.2.admin then (s.abortSlot d z.1).1 else s) s (s.cd d).slots

/-- NAMESPACE_DRAIN_COMPLETE (R275 steps 3-5). -/
def execNamespaceDrainComplete (d : Cd) (nsid : Nat) (s : State) : Out := onCd d s fun s =>
  let d := cdId d
  match (s.cd d).draining.find? (fun e => e.1 = nsid) with
  | none => s
  | some e =>
    if s.nsBusy d nsid ∨ (s.sp d).index.any (fun y => y.nsid = nsid && y.dirty) then s
    else
      let y := s.cd d
      let s := s.setCd d { y with draining := y.draining.filter (fun z => z.1 ≠ nsid)
                                  resv := if e.2.1 then alDel y.resv nsid else y.resv
                                  formats := if e.2.1 then alDel y.formats nsid else y.formats }
      let s := if e.2.1 then (s.deferClear d nsid 0 0 true) else s
      let s := (s.ev d (.nsm .EVENTS_drain_done)).nsmShow d
      let acc := (s.img.previous.getD {}).access
      foldS (fun (s : State) (c : Nat) => foldS (fun (s : State) (z : Nat × Ctrl) =>
        if acc.any (fun a => a.host = z.2.host && a.nsid = nsid && a.rights ≠ 0) then
          let s := s.setCtrl (cdId c) z.1 { z.2 with changedNs := if z.2.changedNs.contains nsid then z.2.changedNs else z.2.changedNs ++ [nsid] }
          if z.2.aeMask.testBit 8 then s.asyncEvent (cdId c) z.1 ⟨2, 0, 0x04⟩ else s
        else s) s (s.cd (cdId c)).ctrls) s s.cds

end Sys2Proof.Machine
end

