-- ==== Sys2Proof/Machine/Sponge.lean ====
section
/-! DEFINITION. The meanings of the commands of the Sponge, the Crumb journal and the memory arbiter (spec/10). -/

set_option Elab.async false

namespace Sys2Proof.Machine

/-! ### Eviction and the assembly window -/

/-- The next occupied data slot at or after the hand, wrapping. -/
def SpgDie.nextSlot (x : SpgDie) : Option IdxEntry :=
  let best := fun (m : Option IdxEntry) (e : IdxEntry) => match m with
    | none => some e
    | some y => if e.slot < y.slot then some e else some y
  match (x.index.filter (fun e => decide (x.hand ≤ e.slot))).foldl best none with
  | some e => some e
  | none => x.index.foldl best none

/-- EVICTION_STEP (R286): the hand passes one occupied slot while free slots are short. -/
def execEvictionStep (d : Cd) (s : State) : Out := onCd d s fun s =>
  let d := cdId d
  let x := s.sp d
  let lo := 100 * x.freeSlots < s.r d (.spg .EVICT_CFG_low_pct) * dataSlots
  let hi := s.r d (.spg .EVICT_CFG_high_pct) * dataSlots ≤ 100 * x.freeSlots
  let run := if x.evicting then !decide hi else decide lo
  if !run then s.setSp d { x with evicting := false }
  else match x.nextSlot with
  | none => s.setSp d { x with evicting := true }
  | some e =>
    let x := { x with evicting := true, hand := (e.slot + 1) % dataSlots }
    if !s.evictable d e then s.setSp d x
    else if e.ref then
      s.setSp d { x with index := x.index.map (fun (y : IdxEntry) => if y.slot = e.slot then { y with ref := false } else y) }
    else (s.setSp d { x with index := x.index.filter (fun (y : IdxEntry) => y.slot ≠ e.slot) }).spgBump d 6

/-- The assembly window is in force for a group (R289). -/
def Group.windowOn (x : Group) : Bool := x.configured && !x.mirror && x.window

/-- HOLD_TIME_ADJUST (R290), at the next TS64 that is a multiple of 1,000,000 ns. -/
def execHoldTimeAdjust (d : Cd) (g : Fin 4) (s : State) : Out := onCd d s fun s =>
  let d := cdId d
  let g := g.val
  if !(s.grp_ d g).windowOn then s else
    let s := s.reachTs d ((s.ts64 d / 1000000 + 1) * 1000000)
    let e := ((s.img.active.getD {}).groups.find? (fun e => cdId e.channel = d && e.group = g)).getD {}
    let x := s.sp d
    let a := (alGet x.asm_ g).getD {}
    let c := s.ceiling d
    let dd := x.dirtyCount
    let f := 100 * a.full / max 1 a.total
    let h : Int := if 0 < a.total then (a.hold : Int) + s.r d (.spg .SA_CFG_gain_us) * ((e.targetPct : Int) - f) else a.hold
    let cap : Nat := e.maxResidence * min (2 * (c - dd)) c / max 1 c
    let h := (max 0 (min h (cap : Int))).toNat
    let s := s.setSp d { x with asm_ := alPut x.asm_ g { hold := h, full := 0, total := 0 } }
    (s.w d (.spg .GRP_SA_hold_us) h g).w d (.spg .GRP_SA_full_pct) (if 0 < a.total then f else s.r d (.spg .GRP_SA_full_pct) g) g

/-! ### Crumbs -/

/-- RETIRE_CRUMB_WRITE (R295): the chain is Done or its hold has ended, and its blocks are settled. -/
def execRetireCrumbWrite (d : Cd) (seq : Nat) (s : State) : Out := onCd d s fun s =>
  let d := cdId d
  match s.ringCrumb d seq with
  | none => s
  | some r =>
    if (r.c.kind = 1 ∨ r.c.kind = 2 ∨ r.c.kind = 3) ∧ !r.retired ∧ r.chainDone ∧ s.crumbSettled d seq ∧ s.crumbRoom d 0x22 then
      (s.writeCrumb d { kind := 0x22, slba := seq }).retireCrumb d seq
    else s

/-- MIRROR_CRUMBS_RECEIVED (R298): a mirrored Crumb arrives at the Standby with the data it has located. -/
def execMirrorCrumbsReceived (d : Cd) (c : Crumb) (data : List Block) (located : Bool) (s : State) : Out := onCd d s fun s =>
  let d := cdId d
  if s.modeNow ≠ 6 ∧ s.modeNow ≠ 4 then s else
    let x := s.sp d
    s.setSp d { x with incoming := x.incoming ++ [⟨c, data, located, s.now⟩] }

/-- A Crumb that names another retires it in the Standby, and retires with it (R295, R431). -/
def State.standbyRetire (s : State) (d : Nat) (c : Crumb) : State :=
  let s : State := match c.kind with
    | 0x11 => s.retireCrumb d c.slba
    | 0x20 =>
      let s := s.mapRing d (fun r => if r.c.seq = c.slba then { r with chainDone := true } else r)
      if (s.ringCrumb d c.slba).any (fun r => r.c.kind = 5 || r.c.kind = 6 || r.c.kind = 7) then s.retireCrumb d c.slba else s
    | 0x22 =>
      let s := s.mapIndex d (fun y => if y.seq = c.slba then { y with dirty := false } else y)
      let x := s.sp d
      let s := s.setSp d { x with ranges := x.ranges.map (fun (y : ZeroRange) => if y.seq = c.slba then { y with applied := true } else y) }
      s.retireCrumb d c.slba
    | _ => s
  let ring := (s.sp d).ring
  (s.mapRing d (fun (r : RingCrumb) => if (r.c.kind = 0x11 || r.c.kind = 0x20 || r.c.kind = 0x22) && !ring.any (fun q => q.c.seq = r.c.slba && !q.retired)
    then { r with retired := true } else r)).crumbShow d

/-- MIRROR_CRUMB_PLACED (R298 steps 1-4): the oldest Crumb received is placed, once its data is there and space allows. -/
def execMirrorCrumbPlaced (d : Cd) (s : State) : Out := onCd d s fun s =>
  let d := cdId d
  let x := s.sp d
  match x.incoming with
  | [] => s
  | m :: rest =>
    if !m.located ∨ (m.c.kind = 1 ∧ (x.freeSlots < m.c.nlb ∨ s.ceiling d < x.dirtyCount + m.c.nlb)) ∨
        (m.c.kind = 5 ∧ (alGet (s.cd d).resv m.c.nsid).any (fun r => decide (m.c.slba < r.generation))) then s
    else
      let g := s.nsGroup m.c.nsid
      let s := match m.c.kind with
        | 1 => s.commitBlocks d m.c g ((List.range m.c.nlb).map (fun i => m.data.getD i 0))
        | 2 => s.commitRange d m.c
        | 3 => s.commitRange d m.c
        | _ => s
      let x := s.sp d
      let s := s.setSp d { x with incoming := rest, ackSent := max x.ackSent m.c.seq
                                  ring := x.ring ++ [{ c := m.c, writtenAt := s.now }] }
      ((s.w d (.spg .CRUMB_NEXT) (max (s.r d (.spg .CRUMB_NEXT)) (m.c.seq + 1))).standbyRetire d m.c).crumbShow d

/-- MIRROR_ACK_SEND (R298). -/
def execMirrorAckSend (d : Cd) (s : State) : Out := onCd d s fun s =>
  let d := cdId d
  let x := s.sp d
  if (s.modeNow = 6 ∨ s.modeNow = 4) ∧ s.r d (.spg .MIRROR_ACK) < x.ackSent then
    (((s.setSp d { x with ackAt := s.now }).w d (.spg .MIRROR_ACK) x.ackSent).pairBump d 4).sendPartner 5 (d - 1) [x.ackSent, s.r d (.pair .TABLE_ACK)]
  else s

/-- A mirror acknowledgement reaches the Active: the Crumbs it covers are placed, those that retire by it retire, and kind
0x2 is raised for every Armed chain that waits for one of them (R295, R299). -/
def State.mirrorAcked (s : State) (d a : Nat) : State :=
  let s := s.w d (.spg .MIRROR_ACK) (max (s.r d (.spg .MIRROR_ACK)) a)
  let s := s.mapRing d (fun r => if r.c.seq ≤ a then 
    ({ r with placed := true, retired := r.retired || (lastRoom r.c.kind && r.c.kind ≠ 0x21 && r.mirrored) } : RingCrumb) else r)
  let hit := fun (c : Chain) => c.state = 1 &&
    ((c.hdr.armCount = 2 && c.hdr.kind1 = 2 && !c.got1 && decide (c.hdr.key1 ≤ a) &&
      (s.ringCrumb d c.hdr.key1).any (fun r => decide (1 ≤ r.c.kind) && decide (r.c.kind ≤ 5))) ||
     (c.hdr.kind0 = 2 && !c.got0 && decide (c.hdr.key0 ≤ a) &&
      (s.ringCrumb d c.hdr.key0).any (fun r => decide (1 ≤ r.c.kind) && decide (r.c.kind ≤ 5))))
  let s := s.crumbShow d
  foldS (fun (s : State) (e : (Nat × Nat) × Chain) =>
    if e.1.1 = d && hit e.2 then s.raise d e.1.2 2 (if e.2.hdr.kind0 = 2 then e.2.hdr.key0 else e.2.hdr.key1) else s) s s.rdx.chains

/-- table_ack reaches the Active (spec/15 R429): firmware sets the PAIR.SHADOW bit of every connection it covers. -/
def State.tableAcked (s : State) (d n : Nat) : State :=
  let s := s.w d (.pair .TABLE_ACK) (max n (s.r d (.pair .TABLE_ACK)))
  foldS (fun (s : State) (e : (Nat × Nat) × Conn) =>
    if e.1.1 = d && e.2.state = 2 && e.2.evSeq ≠ 0 && decide (e.2.evSeq ≤ n) then s.wbit d (.pair .SHADOW_bits) (e.1.2 % 32) true (e.1.2 / 32)
    else s) s s.rdx.conns

/-- MIRROR_ACK_RECEIVED (R299): the acknowledgement a with table_ack. -/
def execMirrorAckReceived (d : Cd) (a tableAck : Nat) (s : State) : Out := onCd d s fun s =>
  let d := cdId d
  if s.modeNow ≠ 5 then s else (((s.spgBump d 12).tableAcked d tableAck).mirrorAcked d a).epRetry

/-- MIRROR_MATCH_TIMEOUT (R300). -/
def execMirrorMatchTimeout (d : Cd) (s : State) : Out := onCd d s fun s =>
  let d := cdId d
  match (s.sp d).incoming.find? (fun m => !m.located) with
  | none => s
  | some m =>
    let s := (s.advance (m.arrived + 1000 * s.r d (.spg .MIRROR_CFG_match_limit_us))).ev d (.spg .EVENTS_mirror_match_timeout)
    { s with spg := { s.spg with mirrorLost := true } }

/-! ### Errors of the stack (R301, R302) -/

/-- An uncorrectable error in a line has the outcome of its area (*Uncorrectable errors*). -/
def State.uncorrectable (s : State) (d line : Nat) (reader : Option Nat) : State :=
  let a := 64 * line
  match areaOf line with
  | 0 =>
    match (s.sp d).index.find? (fun y => y.slot = a / 4096) with
    | none => s
    | some e =>
      s.blockBroken d e
  | 1 =>
    match (s.sp d).ring.find? (fun r => r.c.seq % 1048576 = (a - 0x100000000) / 64) with
    | none => s
    | some r => if s.mirrored d then (s.mapRing d (fun y => if y.c.seq = r.c.seq then { y with asked := true } else y)).askRepair d 0 0 r.c.seq
        else s.crumbLost d r.c.seq
  | 2 => s.ev d (.spg .EVENTS_index_rebuilt)
  | 3 => s.ev d (.spg .EVENTS_index_rebuilt)
  | 4 => match reader with
    | some k => if (s.slot d k).state = 3 && (s.slot d k).cap.opcode = 2 then s.readFails d k else s
    | none => s
  | 5 =>
    let k := (a - 0x12A000000) / 16448
    if (s.slot d k).state = 3 && (s.slot d k).cap.opcode = 1 && !(s.slot d k).taken then s.completeWith d k stDataTransfer else s
  | _ =>
    let base := s.r d (.rdx .CHAIN_BASE)
    let n := (a - base) / 512
    if base ≤ a ∧ n < 32768 ∧ ((s.chain d n).state = 1 ∨ (s.chain d n).state = 2) then s.chainFailed d n else s

/-- SCRUB_LINE (R302): the next line read back whole (0), with an error corrected (1) or an uncorrectable one (2);
`dropped`: another requester wrote the line before the write-back; `reader`: the slot of the read whose staging holds the line. -/
def execScrubLine (d : Cd) (result : Fin 3) (dropped : Bool) (reader : Option (Fin 32768)) (s : State) : Out := onCd d s fun s =>
  let d := cdId d
  if !s.rb d (.spg .SCRUB_CFG_enable) ∨ s.modeNow < 3 ∨ s.modeNow = 0xB ∨ (s.profile d).spongeScrub = 0 then s else
    let line := s.r d (.spg .SCRUB_POS_line)
    let s := (s.spgBump d 15).w d (.spg .SCRUB_POS_line) ((line + 1) % 134217728)
    if result = 0 then s
    else
      let s := s.eccShow d line (result = 2)
      if result = 1 then
        let s := s.spgBump d 13
        if dropped then s.spgBump d 16 else s
      else s.uncorrectable d line (reader.map (·.val))

/-- REPAIR_FRAME_RECEIVED (R301): a request by block, key and seq_lo is served, or a reply rewrites the block; nsid 0 names
a Crumb by its seq. -/
def execRepairFrameReceived (d : Cd) (nsid lba seq : Nat) (reply : Option (Option Block)) (s : State) : Out :=
  onCd d s fun s =>
  let d := cdId d
  match reply with
  | none =>
    if nsid = 0 then match s.ringCrumb d seq with
      | some r => s.sendPartner 9 (d - 1) ([1, 0, 0, seq] ++ crumbFields r.c)
      | none => s.sendPartner 9 (d - 1) [2, 0, 0, seq]
    else match (s.lookup d nsid lba).filter (fun e => e.seq % 2 ^ 32 = seq) with
      | some e => s.sendPartner 9 (d - 1) [1, nsid, lba, seq] [e.data]
      | none => s.sendPartner 9 (d - 1) [2, nsid, lba, seq]
  | some r =>
    if nsid = 0 then
      if !(s.ringCrumb d seq).any (·.asked) then s
      else if r.isSome then s.mapRing d (fun y => if y.c.seq = seq then { y with asked := false } else y)
      else s.crumbLost d seq
    else match s.lookup d nsid lba with
    | none => s
    | some e =>
      if e.seq % 2 ^ 32 ≠ seq ∨ !e.dirty ∨ !e.pending then s
      else match r with
      | some b => (s.mapIndex d (fun y => if y.slot = e.slot then { y with data := b, pending := false } else y)).spgBump d 18
      | none => s.poison d e

/-! ### The arbiter (R303-R307) -/

def State.arb (s : State) (d : Nat) : ArbState := (alGet s.spg.arbs d).getD {}
def State.setArb (s : State) (d : Nat) (a : ArbState) : State := { s with spg := { s.spg with arbs := alPut s.spg.arbs d a } }

/-- The window ends: every count returns to zero. -/
def ArbState.newWindow (a : ArbState) : ArbState := { a with clock := 0, used := [0, 0, 0, 0, 0, 0, 0, 0, 0, 0] }

/-- The effective level of a requester (R304, R305, R307). -/
def State.arbLevel (s : State) (d n : Nat) : Nat :=
  let a := s.arb d
  let lvl := a.prio / 4 ^ n % 4
  if a.flush && (n = 3 || n = 5) then 3
  else
    let l := if lvl = 3 && decide (a.quotas.getD n 48 ≤ a.used.getD n 0) then 0 else lvl
    if n = 5 && s.rb d (.arb .STATUS_boost) then max 2 l else l

/-- ARBITER_GRANT (R304): one clock, with the requesters that have a request pending and no burst held back. -/
def execArbiterGrant (d : Cd) (pending : BitVec 10) (s : State) : Out := onCd d s fun s =>
  let d := cdId d
  let a := s.arb d
  let a := if a.window ≤ a.clock then a.newWindow else a
  let s := s.setArb d a
  let frozen := s.r d (.arb .FREEZE_mask)
  let cand := (List.range 10).filter (fun n => pending.getLsbD n && !frozen.testBit n)
  let top := (cand.map (s.arbLevel d)).foldl max 0
  let tied := cand.filter (fun n => s.arbLevel d n = top)
  let start := match (a.last.getD top none) with
    | some k => k + 1
    | none => 0
  match ((List.range 10).map (fun i => (start + i) % 10)).find? (fun n => tied.contains n) with
  | none => s.setArb d { a with clock := a.clock + 1 }
  | some n =>
    let own3 := a.prio / 4 ^ n % 4 = 3 && top = 3 && !(a.flush && (n = 3 || n = 5))
    let used := if own3 then a.used.set n (a.used.getD n 0 + 1) else a.used
    let drops := own3 && used.getD n 0 = a.quotas.getD n 48
    let s := s.setArb d { a with clock := a.clock + 1, used := used, last := a.last.set top (some n) }
    let s := (s.bump d 0x24 n).emit (.grant d n)
    if drops then s.bump d 0x24 (10 + n) else s

/-- ARB_WINDOW_END (R305). -/
def execArbWindowEnd (d : Cd) (s : State) : Out := onCd d s fun s =>
  let d := cdId d
  let a := s.arb d
  if a.window ≤ a.clock then s.setArb d a.newWindow else s

/-- ARB_COMMIT (R306): the shadow values become active and a new window starts; the pointers are kept. -/
def execArbCommit (d : Cd) (s : State) : Out := onCd d s fun s =>
  let d := cdId d
  s.setArb d { (s.arb d).newWindow with
    prio := s.r d (.arb .PRIO_level), window := s.r d (.arb .WINDOW_clocks)
    quotas := (List.range 10).map (fun n => s.r d (.arb .QUOTA_q) n) }

/-- ARB_FREEZE_WRITE (R307): bursts already granted have completed, so every frozen requester is idle. -/
def execArbFreezeWrite (d : Cd) (mask : BitVec 10) (s : State) : Out := onCd d s fun s =>
  let d := cdId d
  ((s.w d (.arb .FREEZE_mask) mask.toNat).w d (.arb .STATUS_idle) 0x3FF).w d (.arb .STATUS_drained) 1

/-- DIRTY_CEILING_WRITE (R287): 64 to 3,584 MiB, from the secure world; nothing is discarded. -/
def execDirtyCeilingWrite (q : Req) (d : Cd) (mib : BitVec 12) (s : State) : Out := onCd d s fun s =>
  let d := cdId d
  if !q.secure ∧ mib.toNat ≠ s.r d (.spg .DIRTY_CEILING_limit_mib) then s.worldViolation q d 0x23 0x008 true
  else if mib.toNat < 64 ∨ 3584 < mib.toNat then s.discardRange d (.spg .DIRTY_CEILING_limit_mib) mib.toNat
  else let s := s.w d (.spg .DIRTY_CEILING_limit_mib) mib.toNat
    s.setSp d (s.sp d)

/-- SPG_SNAPSHOT (R310). -/
def execSpgSnapshot (q : Req) (d : Cd) (s : State) : Out := onDie d s fun s =>
  s.snapshot (cdId d) 0x23 q.secure (s.counters (cdId d) 0x23 20) (.spg .SNAP_CTRL_done)

/-- ARB_SNAPSHOT (R310). -/
def execArbSnapshot (q : Req) (d : Cd) (s : State) : Out := onDie d s fun s =>
  s.snapshot (cdId d) 0x24 q.secure (s.counters (cdId d) 0x24 20) (.arb .SNAP_CTRL_done)

end Sys2Proof.Machine
end

