-- ==== Sys2Proof/Machine/Redundancy.lean ====
section
/-! DEFINITION. The meanings of the commands of the redundancy engine (spec/11), and the completion of drive commands with
its error classes (spec/13 R382, R383). -/

set_option Elab.async false

namespace Sys2Proof.Machine

/-! ### Choosing and planning a stripe update (R289, R318, R319) -/

/-- Group blocks of a stripe, by data strip and row. -/
def Group.cells (x : Group) : List (Nat × Nat) :=
  ((List.range x.kEff).map (fun j => (List.range x.strip).map (fun o => (j, o)))).flatten

/-- Namespace and LBA of a cell of a stripe. -/
def State.cellOwner (s : State) (d g t : Nat) (c : Nat × Nat) : Option (Nat × Nat) :=
  s.ownerOf d g ((s.viewT d g t).blockAt t c.1 c.2)

/-- A zero range not yet applied to a stripe covers a block, and is its newest content. -/
def State.zeroPending (s : State) (d t nsid lba : Nat) : Bool :=
  match s.rangeOver d nsid lba with
  | none => false
  | some r => !r.applied && !r.done.contains t && (match s.lookup d nsid lba with
    | none => true
    | some e => keyLater r.e r.conn r.msn e.e e.conn e.msn)

/-- The blocks an update of a stripe writes: dirty, or under a zero range. -/
def State.updateSet (s : State) (d g t : Nat) : List (Nat × Nat × Block × Nat × Nat × Nat) :=
  -- A stripe with a block that waits for the partner's copy is left alone (spec/10 R301).
  if !s.stripeLive d g t || (s.viewT d g t).cells.any (fun c => (s.cellOwner d g t c).any (fun e => (s.lookup d e.1 e.2).any (·.pending))) then [] else
  (s.viewT d g t).cells.filterMap (fun c =>
    match s.cellOwner d g t c with
    | none => none
    | some (nsid, lba) =>
      if s.zeroPending d t nsid lba then some (c.1, c.2, 0, nsid, lba, 0)
      else match s.lookup d nsid lba with
        | some e => if e.dirty then some (c.1, c.2, if e.poisoned then 0 else e.data, nsid, lba, e.seq) else none
        | none => none)

/-- Every block of a stripe's data strips is held. -/
def State.stripeFull (s : State) (d g t : Nat) : Bool :=
  (s.viewT d g t).cells.all (fun c => match s.cellOwner d g t c with
    | none => true
    | some (n, l) => (s.held d n l).isSome)

/-- The stripe table is full and the stripe's oldest dirty block is the oldest of all (R291). -/
def State.stripeForced (s : State) (d g t : Nat) : Bool :=
  let dirty := (s.sp d).index.filter (·.dirty)
  decide (262144 < dirty.length) &&
    (let at_ := dirty.map (fun e =>
        let h := s.nsGroup e.nsid
        let gb := s.groupBlock e.nsid e.lba
        ((h, ((s.viewB d h gb).locate gb).1), e.at_))
     decide (262144 < (at_.map (·.1)).eraseDups.length) &&
       (match at_ with
        | [] => false
        | a :: rest => (rest.foldl (fun m e => if e.2 < m.2 then e else m) a).1 = (g, t)))

/-- A stripe may be destaged now (R289, R297): full, held long enough, of a mirror, or holding blocks of the head Crumb
under pressure. -/
def State.destageDue (s : State) (d g t : Nat) : Bool :=
  let x := s.grp_ d g
  let w := s.updateSet d g t
  let h := if x.windowOn then ((alGet (s.sp d).asm_ g).getD {}).hold else 0
  let oldest := (w.filterMap (fun e => (s.lookup d e.2.2.2.1 e.2.2.2.2.1).map (·.at_))).foldl min (s.ts64 d)
  let head := s.crumbHead d
  !w.isEmpty && (!x.windowOn || s.stripeFull d g t || decide (oldest + 1000 * h ≤ s.ts64 d) ||
    (decide (917504 ≤ s.crumbOcc d) && w.any (fun e => e.2.2.2.2.2 = head)))

/-- The method of an update (R319). -/
def State.planMethod (s : State) (d g t : Nat) (w : List (Nat × Nat × Block × Nat × Nat × Nat)) (bad : List (Nat × Nat)) : Nat :=
  let x := s.viewT d g t
  let m := (x.parities.filter (fun r => x.present (x.posOf t r))).length
  let rows := (w.map (fun e => e.2.1)).eraseDups
  let inW := fun (j o : Nat) => w.any (fun e => e.1 = j && e.2.1 = o)
  let heldCell := fun (j o : Nat) => match s.cellOwner d g t (j, o) with
    | none => true
    | some (n, l) => (s.held d n l).isSome
  if x.mirror || s.stripeFull d g t || m = 0 then 0
  else
    let heldRows := (rows.map (fun o => ((List.range x.k).filter (fun j => heldCell j o)).length)).foldl (· + ·) 0
    let rmw := w.length + m * rows.length
    let rcw := x.k * rows.length - heldRows
    if w.any (fun e => let p := x.posOf t e.1; !x.serves p t || bad.contains (p, e.2.1) || x.badAt (x.blockAt t e.1 e.2.1)) ||
        bad.any (fun b => x.parities.any (fun r => x.posOf t r = b.1)) then 2
    else if rows.any (fun o => (List.range x.k).any (fun j => !inW j o && x.out (x.posOf t j))) then 1
    -- A build's updates ahead of its cursor never use the old parity (spec/12 R346).
    else if rcw < rmw || (x.fullResync && decide (x.fullCursor ≤ t) && (s.rshOf d g).any (fun r => r.kind = 3)) then 2 else 1

/-- Positions whose unit of a row could not be read. -/
def rowMask (bad : List (Nat × Nat)) (o : Nat) : Nat := bad.foldl (fun m b => if b.2 = o then setBit m b.1 true else m) 0

/-- The reads of an update, by position and row. -/
def State.planReads (s : State) (d g t method : Nat) (w : List (Nat × Nat × Block × Nat × Nat × Nat)) (bad : List (Nat × Nat)) :
    List (Nat × Nat) :=
  let x := s.viewT d g t
  let rows := (w.map (fun e => e.2.1)).eraseDups
  let heldCell := fun (j o : Nat) => match s.cellOwner d g t (j, o) with
    | none => true
    | some (n, l) => (s.held d n l).isSome
  match method with
  | 1 => w.map (fun e => (x.posOf t e.1, e.2.1)) ++
      ((x.parities.map (fun r => x.posOf t r)).filter (fun p => x.present p && x.serves p t)).flatMap (fun p => rows.map (fun o => (p, o)))
  | 2 => (rows.flatMap (fun o => (List.range x.k).flatMap (fun j =>
      if w.any (fun e => e.1 = j && e.2.1 = o) || heldCell j o then []
      else
        let p := x.posOf t j
        if x.serves p t && !bad.contains (p, o) then [(p, o)]
        else ((x.sources t o p (rowMask bad o)).getD []).map (fun q => (q, o))))).eraseDups
  | _ => []

def stripeOwner (g t : Nat) : DrvOwner := { kind := 2, a := g, b := t }

/-- An update is planned and its reads are issued. -/
def State.planUpdate (s : State) (d g t : Nat) (bad : List (Nat × Nat)) : State :=
  let w := s.updateSet d g t
  let m := s.planMethod d g t w bad
  let reads := s.planReads d g t m w bad
  let s := s.mapIndex d (fun y => if w.any (fun e => e.2.2.2.1 = y.nsid && e.2.2.2.2.1 = y.lba) then { y with destaging := true } else y)
  let x := s.grp_ d g
  let s := s.setGrp d g { x with updates := (x.updates.filter (fun u => u.stripe ≠ t)) ++ [{ stripe := t, method := m, w := w, unreadable := bad }] }
  let x := s.viewT d g t
  foldS (fun (s : State) (r : Nat × Nat) => (s.drvIssue d (x.bay r.1) 0 (x.lbaOf t r.2) 1 (stripeOwner g t) r.1).memberReads d g 1) s reads

/-- STRIPE_UPDATE_START (R318 steps 1 and 2). -/
def execStripeUpdateStart (d : Cd) (g : Fin 4) (t : Nat) (s : State) : Out := onCd d s fun s =>
  let d := cdId d
  let g := g.val
  let x := s.grp_ d g
  let v := s.viewT d g t
  let forced := s.stripeForced d g t
  if !s.workRuns ∨ !x.configured ∨ x.state = 4 ∨ v.stripes ≤ t % 2 ^ 63 ∨ (!s.destageDue d g t ∧ (!forced ∨ (s.updateSet d g t).isEmpty)) then s
  else if x.locks.contains t then
    let s := s.grpBump d 17
    if (s.rshOf d g).any (fun r => r.atCursor (v.blockAt t 0 0)) then s.bump d 0x26 6 else s
  else if (s.updateSet d g t).any (fun e => (s.nsEntry e.2.2.2.1).any (fun n => s.r d (.cip .SLOT_A_state) n.keySlot ≠ 2)) then
    s.cipBump d 7
  else if (s.updateSet d g t).any (fun e => (s.nsEntry e.2.2.2.1).any (fun n => s.r d (.cip .SLOT_A_nsid) n.keySlot ≠ n.nsid)) then
    -- A slot bound to another namespace fails the job: the unit is not written (spec/14 R400).
    (s.cipBump d 6).ev d (.cip .EVENTS_load_refused)
  else
    let s := if s.destageDue d g t then s else s.spgBump d 17
    (s.setGrp d g { x with locks := x.locks ++ [t] }).planUpdate d g t []

/-- What a read of an update returned. -/
def readOf (l : List DrvResult) (p lba : Nat) : Option Block :=
  ((l.find? (fun r => r.pos = p && r.lba = lba && r.ok && r.op = 0)).map (fun r => r.data.headD 0))

/-- The old contents of a data unit of a row as the reads give them, reconstructed where its position is out. -/
def Group.oldUnit (x : Group) (t o j : Nat) (rd : List DrvResult) : Option Block :=
  let lba := x.lbaOf t o
  match readOf rd (x.posOf t j) lba with
  | some b => some b
  | none =>
    let data := (List.range x.k).filterMap (fun i => (readOf rd (x.posOf t i) lba).map (fun b => (i, b)))
    reconstruct x.k data (readOf rd (x.posOf t x.k) lba) (if x.layout = 4 then readOf rd (x.posOf t (x.k + 1)) lba else none) j

/-- The parity of a row after an update: by role, with the new data as it stands on the members. -/
def State.newParity (s : State) (d g t o method : Nat) (new : List (Nat × Block)) (rd : List DrvResult) (role : Nat) : Block :=
  let x := s.viewT d g t
  let lba := x.lbaOf t o
  if method = 1 then
    let old := (readOf rd (x.posOf t role) lba).getD 0
    let diffs := new.map (fun e => (e.1, e.2 ^^^ ((readOf rd (x.posOf t e.1) lba).getD 0)))
    old ^^^ (if role = x.k then parityP diffs else parityQ diffs)
  else
    let row := (List.range x.k).map (fun j => (j,
      match new.find? (fun e => e.1 = j) with
      | some e => e.2
      | none => match s.cellOwner d g t (j, o) with
        | none => (x.oldUnit t o j rd).getD 0
        | some (n, l) => match s.held d n l with
          | some b => s.encrypt d n l b
          -- A unit that is lost counts as an encrypted zero block (R341).
          | none => (x.oldUnit t o j rd).getD (s.encrypt d n l 0)))
    if role = x.k then parityP row else parityQ row

/-- Units of an update's rows that can be neither read nor reconstructed, with their positions (R341). -/
def State.updateLost (s : State) (d g t : Nat) (u : StripeUpd) (rd : List DrvResult) : List (Nat × Nat) :=
  let x := s.viewT d g t
  if u.method ≠ 2 then [] else
  ((u.w.map (fun e => e.2.1)).eraseDups.flatMap (fun o => (List.range x.k).map (fun j => (j, o)))).filterMap (fun c =>
    if u.w.any (fun e => e.1 = c.1 && e.2.1 = c.2) then none
    else match s.cellOwner d g t c with
      | none => none
      | some (n, l) => if (s.held d n l).isSome || (x.oldUnit t c.2 c.1 rd).isSome then none
          else some (x.blockAt t c.1 c.2, x.posOf t c.1))

/-- STRIPE_READS_COMPLETE (R318 steps 3 and 4). -/
def execStripeReadsComplete (d : Cd) (g : Fin 4) (t : Nat) (s : State) : Out := onCd d s fun s =>
  let d := cdId d
  let g := g.val
  let x := s.viewT d g t
  let o := stripeOwner g t
  match x.updates.find? (fun u => u.stripe = t && !u.writing) with
  | none => s
  | some u =>
    if !s.drvQuiet d o ∨ !s.workRuns then s
    else
      let rd := s.drvResults d o
      let failed := rd.filter (fun r => !r.ok)
      if !failed.isEmpty then
        (s.drvTake d o).planUpdate d g t (u.unreadable ++ failed.map (fun r => (r.pos, (r.lba - dataBase) % x.strip)))
      else if !s.crumbRoom d 0x10 then s.spgBump d 11
      else
        let s := s.drvTake d o
        let s := foldS (fun (s : State) (e : Nat × Nat) => s.addBad d g e.1 2 e.2) s (s.updateLost d g t u rd)
        let rows := (u.w.map (fun e => e.2.1)).eraseDups
        let cipher := u.w.map (fun e => (e.1, e.2.1, s.encrypt d e.2.2.2.1 e.2.2.2.2.1 e.2.2.1))
        let dataW := if x.mirror then
            cipher.flatMap (fun e => ((List.range x.n).filter x.present).map (fun p => (p, e.2.1, e.2.2)))
          else cipher.map (fun e => (x.posOf t e.1, e.2.1, e.2.2))
        let parW := rows.flatMap (fun o => x.parities.map (fun r =>
          (x.posOf t r, o, s.newParity d g t o u.method ((cipher.filter (fun e => e.2.1 = o)).map (fun e => (e.1, e.2.2))) rd r)))
        let writes := (dataW ++ parW).filter (fun w => x.present w.1)
        -- An in-place reshape writes the added and replacing bays as well (spec/12 R356).
        let dual := (((s.rshOf d g).filter (fun r => r.kind = 1 && r.phase = 2)).map (·.inBays)).getD []
        let more := dual.flatMap (fun e => (writes.filter (fun w => w.1 = (if e.1 < x.n then e.1 else (writes.headD (0, 0, 0)).1))).map
          (fun w => (e.1, e.2, w.2.1, w.2.2)))
        let flagged := decide (2 ^ 63 ≤ t) ≠ (s.rshOf d g).any (fun r => r.live && r.reverse)
        let mask := (writes.map (·.1)).foldl (fun m p => setBit m p true) 0
        let e := (u.w.filterMap (fun e => (s.lookup d e.2.2.2.1 e.2.2.2.2.1).map (·.e))).foldl max 0
        let intent := s.crumbNext d
        let s := s.writeCrumb d { kind := 0x10, slba := t % 2 ^ 63 + (if flagged then 2 ^ 63 else 0), group := g, e := e, aux := mask, aux2 := u.method }
        let s := s.grpBump d (match u.method with
          | 0 => 0
          | 1 => 1
          | _ => 2)
        let s := s.cipBump d 0 u.w.length
        let y := s.grp_ d g
        let y := y.repairsSee t writes
        let s := s.setGrp d g { y with updates := y.updates.map (fun v => if v.stripe = t then { v with writing := true, intent := intent } else v) }
        let s := foldS (fun (s : State) (w : Nat × Nat × Nat × Block) =>
          (s.drvIssue d w.2.1 1 (x.lbaOf t w.2.2.1) 1 o w.1 [w.2.2.2]).grpBump d 4) s more
        foldS (fun (s : State) (w : Nat × Nat × Block) =>
          (s.drvIssue d (x.bay w.1) 1 (x.lbaOf t w.2.1) 1 o w.1 [w.2.2]).grpBump d 4) s writes

/-- STRIPE_WRITES_COMPLETE (R318 step 5, R285, R321). -/
def execStripeWritesComplete (d : Cd) (g : Fin 4) (t : Nat) (s : State) : Out := onCd d s fun s =>
  let d := cdId d
  let g := g.val
  let x := s.viewT d g t
  let o := stripeOwner g t
  match x.updates.find? (fun u => u.stripe = t && u.writing) with
  | none => s
  | some u =>
    if !s.drvQuiet d o ∨ x.state = 4 then s
    else
      let s := s.drvTake d o
      let full := s.stripeFull d g t && !x.mirror
      let s := (s.writeCrumb d { kind := 0x11, slba := u.intent, group := g }).retireCrumb d u.intent
      let s := s.mapIndex d (fun y =>
        match u.w.find? (fun e => e.2.2.2.1 = y.nsid && e.2.2.2.2.1 = y.lba) with
        | some e => { y with destaging := false, dirty := y.dirty && decide (y.seq ≠ e.2.2.2.2.2) }
        | none => y)
      let n := u.w.length
      let s := s.spgBump d (if full then 4 else 5) n
      let y := s.sp d
      let a := (alGet y.asm_ g).getD {}
      -- Zero ranges of which this stripe held the last part are applied (R284).
      let s := s.setSp d { y with
        asm_ := alPut y.asm_ g { a with full := a.full + (if full then 4096 * n else 0), total := a.total + 4096 * n }
        ranges := y.ranges.map (fun (r : ZeroRange) =>
          if s.nsGroup r.nsid ≠ g then r else
            let done := if r.done.contains t then r.done else r.done ++ [t]
            let stripes := ((List.range r.nlb).map (fun i =>
              let gb := s.groupBlock r.nsid (r.slba + i)
              ((s.viewB d g gb).locate gb).1)).eraseDups
            { r with done := done, applied := r.applied || stripes.all (fun i => done.contains i) }) }
      let wrote := u.w.map (fun e => x.blockAt t e.1 e.2.1)
      let x := wrote.foldl (fun (x : Group) gb => if x.badAt gb then x.clearBad gb (gb + 1) else x) (s.grp_ d g)
      (s.setGrp d g { x with updates := x.updates.filter (fun v => v.stripe ≠ t) }).unlock d g [t]

/-! ### Host reads that went to the drives (R322-R325) -/

/-- The reads of one block have completed: the block, repaired on the positions whose media error asked for it, or the next
way to it (R322, R323, R325). -/
def State.unitProgress (s : State) (d : Nat) (o : DrvOwner) (rs : List DrvResult) : State :=
  let nsid := (s.slot d o.a).cap.nsid
  let g := s.nsGroup nsid
  let gb := s.groupBlock nsid o.b
  let x := s.viewB d g gb
  let (t, j, row) := x.locate gb
  let failed := rs.filter (fun r => !r.ok)
  if !failed.isEmpty then
    let tried := failed.foldl (fun m r => setBit m r.pos true) o.tried
    let media := failed.foldl (fun m r => if o.kind = 1 && r.media then setBit m r.pos true else m) o.media
    s.readUnit d o.a o.b tried media
  else
    let unit := if o.kind = 1 then (rs.head?).map (fun r => r.data.headD 0)
      else
        let data := (List.range x.k).filterMap (fun i => (readOf rs (x.posOf t i) (x.lbaOf t row)).map (fun b => (i, b)))
        reconstruct x.k data (readOf rs (x.posOf t x.k) (x.lbaOf t row))
          (if x.layout = 4 then readOf rs (x.posOf t (x.k + 1)) (x.lbaOf t row) else none) j
    match unit with
    | none => (s.addBad d g gb 2 (x.posOf t j)).readFails d o.a
    | some b =>
      let s := foldS (fun (s : State) p => s.repair d g t p row b) s ((List.range x.n).filter (fun p => o.media.testBit p && x.present p))
      (s.cipBump d 1).blockArrives d o.a o.b (s.decrypt d nsid o.b b)

/-- The reads of a host's command go on after a drive command of theirs completed. -/
def State.readProgress (s : State) (d : Nat) (o : DrvOwner) : State :=
  if !s.drvQuiet d o then s
  else
    let rs := s.drvResults d o
    let s := s.drvTake d o
    let x := s.slot d o.a
    if x.state ≠ 3 ∨ x.cap.opcode ≠ 2 ∨ rs.isEmpty then s
    else if o.kind = 22 then
      match rs.find? (·.ok) with
      | some r =>
        let s := s.cipBump d 1 x.nlb
        let s := s.setSlot d o.a { x with blocks := (List.range x.nlb).map (fun i =>
          (x.slba + i, some (s.decrypt d x.cap.nsid (x.slba + i) (r.data.getD i 0)))) }
        s.readDone d o.a 4 (s.chain d o.a).hdr.key0
      | none =>
        -- The read is assembled block by block instead.
        let c := s.chain d o.a
        let s := s.setChain d o.a { c with hdr := { c.hdr with kind0 := 1, key0 := x.seqs.headD 0 } }
        foldS (fun (s : State) i => if (s.slot d o.a).state = 3 then s.readBlock d o.a (x.slba + i) else s) s (List.range x.nlb)
    else s.unitProgress d o rs

/-! ### Drive errors (R382-R385) -/

/-- The last error of a bay. -/
def State.drvErr (s : State) (d b cls sct sc : Nat) : State :=
  ((s.w d (.drv .B_ERR_class) cls b).w d (.drv .B_ERR_sct) sct b).w d (.drv .B_ERR_sc) sc b

/-- What follows at once from a drive command that is over: a superblock's copy, the other copies of the deferred range table, a
repair write's lock, a host's read. -/
def State.drvOver (s : State) (d b : Nat) (o : DrvOwner) (ok : Bool) : State :=
  if o.kind = 9 then s.sbDone d b ok
  else if o.kind = 11 ∧ o.b % 2 = 0 then
    -- The first copy of a block of the deferred range table is written: the others follow (R381).
    let x := s.grp_ d o.a
    foldS (fun (s : State) p => s.drvIssue d (x.bay p) 1 (o.b / 2) 1 { o with b := o.b + 1 } p) s (x.holders.drop 1)
  else if o.kind = 14 then (if s.drvQuiet d o then s.unlock d o.a [o.b] else s)
  else if o.hostRead then s.readProgress d o else s

/-- Commands outstanding on a bay complete as failed, in one clock (R384). -/
def State.failBay (s : State) (d b : Nat) : State :=
  let mine := s.drv.cmds.filter (fun c => c.die = d && c.bay = b)
  let s := { s with drv := { s.drv with
    cmds := s.drv.cmds.filter (fun c => !(c.die = d && c.bay = b))
    results := s.drv.results ++ (mine.filter (fun c => c.owner.taken)).map (fun c =>
      { die := d, owner := c.owner, pos := c.pos, lba := c.lba, op := c.op, n := c.n, ok := false }) } }
  foldS (fun (s : State) (c : DrvCmd) => s.drvOver d b c.owner false) s mine

/-- A bay's position goes out of service. -/
def State.bayOut (s : State) (d b code : Nat) : State :=
  let s := match s.posOfBay d b with
    | some (g, p) =>
      let s := s.posOut d g p code
      -- A Failed position takes a spare at once (R334).
      if code = 2 ∧ (s.grp_ d g).states.getD p 5 = 2 then s.takeSpare d g p else s
    | none => s
  s.reshapeBay d b code

/-- C4: the position is Failed (R382). -/
def State.driveFault (s : State) (d b sct sc : Nat) : State :=
  let s := ((s.drvErr d b 4 sct sc).ev d (.drv .EVENTS_drive_failed)).logEv d 0x27 .driveFailed [b, 4, sc]
  (s.bayOut d b 2).failBay d b

/-- C1: counted in the 60 s window; past the limit it is a C4 event. -/
def State.mediaError (s : State) (d b sct sc : Nat) : State :=
  let x := s.drive d b
  let fresh := x.mediaWindowAt + 60000000000 ≤ s.ts64 d
  let n := if fresh then 1 else s.r d (.drv .B_ERR_media_window) b + 1
  let s := if fresh then s.setDrive d b { x with mediaWindowAt := s.ts64 d } else s
  let s := ((s.drvBump d b 3).drvErr d b 1 sct sc).w d (.drv .B_ERR_media_window) (min n 255) b
  if s.r d (.drv .CFG2_media_limit) < n ∧ (s.posOfBay d b).isSome then s.driveFault d b sct sc else s

/-- The outcome of a command reaches its engine. -/
def State.drvFinish (s : State) (c : DrvCmd) (ok media gated : Bool) (data : List Block) : State :=
  let r : DrvResult := { die := c.die, owner := c.owner, pos := c.pos, lba := c.lba, op := c.op, ok := ok, media := media,
                         gated := gated, data := data, took := s.now - c.issued, n := c.n }
  match s.drv.cmds.find? (fun y => y.cid = c.cid && y.die = c.die) with
  | none => s
  | some y =>
    -- The owner as it stands now: a command whose engine has given it up belongs to nobody.
    let r := { r with owner := y.owner }
    let s := { s with drv := { s.drv with cmds := s.drv.cmds.filter (fun z => z.cid ≠ c.cid || z.die ≠ c.die)
                                          results := if y.owner.taken then s.drv.results ++ [r] else s.drv.results } }
    (s.bgRelease c.die c.bay).drvOver c.die c.bay y.owner ok

/-- A command is issued again with a new CID (R383). -/
def State.drvReissue (s : State) (c : DrvCmd) : State :=
  let cid := s.drv.nextCid
  let again : DrvCmd := { c with cid := cid, tries := c.tries + 1, issued := s.now, abortAt := none }
  let others := s.drv.cmds.filter (fun (y : DrvCmd) => y.cid ≠ c.cid || y.die ≠ c.die)
  let s := { s with drv := { s.drv with nextCid := (cid + 1) % 65536, cmds := others ++ [again] } }
  let s := ((s.drvBump c.die c.bay 0).drvBump c.die c.bay 5).emit (.drive c.die c.bay cid c.op c.lba c.n c.data)
  -- A read that one command serves is keyed by its command identifier.
  if c.owner.kind = 22 then
    let ch := s.chain c.die c.owner.a
    s.setChain c.die c.owner.a { ch with hdr := { ch.hdr with key0 := 65536 * c.bay + cid } }
  else s

/-- C2: the position is Failed; a lease slot write that fails is no member error (R382, spec/15 R434). -/
def State.writeFault (s : State) (c : DrvCmd) (sct sc : Nat) : State :=
  let s := s.drvErr c.die c.bay 2 sct sc
  if c.owner.kind = 10 then s else s.bayOut c.die c.bay 2

/-- A C3 event: a retry while retries last; exhausted, C1 for a read and C2 for a write (R382). -/
def State.transient (s : State) (c : DrvCmd) (sct sc : Nat) : State :=
  let s := s.drvErr c.die c.bay 3 sct sc
  if c.tries ≤ s.r c.die (.drv .CFG_retries) then s.drvReissue c
  else if c.op = 0 then (s.mediaError c.die c.bay sct sc).drvFinish c false true false []
  else if c.op = 5 then s.drvFinish c false false false []
  else (s.writeFault c sct sc).drvFinish c false false false []

/-- The latency estimate of a member (R324). -/
def State.latency (s : State) (c : DrvCmd) : State :=
  match s.posOfBay c.die c.bay with
  | none => s
  | some (g, _) =>
    let x := s.grp_ c.die g
    let l : Int := ((alGet x.lat c.bay).getD 100000 : Nat)
    let v : Int := (min (s.now - c.issued) 10000000 : Nat)
    let l' := (max 0 (l + (v - l).tdiv 16)).toNat
    (s.setGrp c.die g { x with lat := alPut x.lat c.bay l' }).w c.die (.grp .MEMBER_LAT_l_ns) l' c.bay

/-- DRIVE_COMMAND_COMPLETION (R382, R383). -/
def execDriveCommandCompletion (d : Cd) (bay : Fin 8) (cid : BitVec 16) (sct : Fin 8) (sc : BitVec 8) (data : List Block)
    (s : State) : Out := onRoot d s fun s =>
  let d := cdId d
  let b := bay.val
  match s.drv.cmds.find? (fun c => c.die = d && c.bay = b && c.cid = cid.toNat && c.abortAt.isNone && !c.held) with
  | none =>
    if (s.drive d b).late.contains cid.toNat then (s.drvBump d b 6).ev d (.drv .EVENTS_late_completion) else s
  | some c =>
    let st := sct.val * 256 + sc.toNat
    if st = 0 then
      let s := if c.op = 0 && decide (c.n ≤ 32) then s.latency c else s
      s.drvFinish c true false false data
    else if st = 0x082 ∨ st = 0x021 then s.transient c sct.val sc.toNat
    else if c.op = 0 then (s.mediaError d b sct.val sc.toNat).drvFinish c false true false []
    -- A Reservation Report is not write-class (R373).
    else if c.op = 5 then (s.drvErr d b 0 sct.val sc.toNat).drvFinish c false false false []
    else if st = 0x083 ∨ st = 0x01B then
      -- C6: the write gate closes and the interlock is lost.
      let s := ((s.drvBump d b 10).drvErr d b 6 sct.val sc.toNat).ev d (.drv .EVENTS_reservation_conflict)
      ((s.w d (.drv .STATUS_write_gate) 0).trig 7).drvFinish c false false true []
    else (s.writeFault c sct.val sc.toNat).drvFinish c false false false []

/-! ### Group records and the bitmap -/

/-- GROUP_RECORD_WRITE_COMPLETE (R328, R326): the copy on the lowest position has completed and the others are written, or
all have completed and the bits the record carries are durable. -/
def execGroupRecordWriteComplete (d : Cd) (g : Fin 4) (s : State) : Out := onCd d s fun s =>
  let d := cdId d
  let g := g.val
  let x := s.grp_ d g
  let o1 : DrvOwner := { kind := 3, a := g, b := 1 }
  let o2 : DrvOwner := { kind := 3, a := g, b := 2 }
  if x.recPhase = 0 ∨ !s.drvQuiet d o1 ∨ !s.drvQuiet d o2 then s
  else if x.recPhase = 1 && !(x.holders.drop 1).isEmpty then
    let s := (s.drvTake d o1).setGrp d g { x with recPhase := 2 }
    foldS (fun (s : State) p => s.drvIssue d (x.bay p) 1 256 1 o2 p) s (x.holders.drop 1)
  else
    let s := (s.drvTake d o1).drvTake d o2
    let s := s.setGrp d g { x with recPhase := 0, durable := x.recMarks }
    if x.recAgain then s.recordWrite d g else s

/-- BITMAP_BIT_CLEAR_DUE (R327). -/
def execBitmapBitClearDue (d : Cd) (g : Fin 4) (region : Nat) (s : State) : Out := onCd d s fun s =>
  let d := cdId d
  let g := g.val
  let x := s.grp_ d g
  let dirty := (s.sp d).index.any (fun y => y.dirty && s.nsGroup y.nsid = g && x.regionOfBlock (s.groupBlock y.nsid y.lba) = region)
  let waiting := (s.cd d).slots.any (fun z => z.2.state = 3 && writeClass z.2.cap.opcode && s.nsGroup z.2.cap.nsid = g &&
    (s.cmdRegions d z.1).contains region)
  let zeros := (s.sp d).ranges.any (fun r => !r.applied && s.nsGroup r.nsid = g && (s.regionsOf d r.nsid r.slba r.nlb).contains region)
  if !x.marked.contains region ∨ dirty ∨ zeros ∨ waiting ∨ x.locks.any (fun t => x.regionOfStripe t = region) ∨ x.outCount ≠ 0 ∨
      x.fullResync ∨ x.resync.any (fun t => x.regionOfStripe t = region) then s
  else
    let s := s.advance ((alGet x.quietSince region).getD s.now + 1000000 * s.r d (.grp .BITMAP_CFG_linger_ms))
    (s.setGrp d g { x with marked := x.marked.filter (· ≠ region), durable := x.durable.filter (· ≠ region)
                           quietSince := alDel x.quietSince region }).recordWrite d g

/-! ### Targets and passes -/

/-- SPARE_DELAY_EXPIRY (R334). -/
def execSpareDelayExpiry (d : Cd) (g : Fin 4) (pos : Fin 8) (s : State) : Out := onCd d s fun s =>
  let d := cdId d
  let x := s.grp_ d g.val
  if !x.configured ∨ x.states.getD pos.val 5 ≠ 1 then s
  else (s.advance ((alGet x.absentAt pos.val).getD s.now + 1000000000 * s.r d (.grp .REBUILD_CFG_spare_delay_s))).takeSpare d g.val pos.val

/-- G_CMD_TAKE_TARGET (R334): G_CMD op 1. -/
def execGCmdTakeTarget (d : Cd) (g : Fin 4) (s : State) : Out := onCd d s fun s =>
  let d := cdId d
  let x := s.grp_ d g.val
  match (List.range x.n).find? (fun p => x.states.getD p 5 = 1 || x.states.getD p 5 = 2), s.spareFor d g.val with
  | some p, some _ => if x.configured then s.takeSpare d g.val p else s.discardState d (.grp .G_CMD_op) 1 g.val
  | _, _ => s.discardState d (.grp .G_CMD_op) 1 g.val

/-- G_CMD_HOLD_PASS (R337): op 2 holds the pass at its cursor. -/
def execGCmdHoldPass (d : Cd) (g : Fin 4) (s : State) : Out := onCd d s fun s =>
  let d := cdId d
  let x := s.grp_ d g.val
  if x.configured && x.pass && !x.held then s.setGrp d g.val { x with held := true } else s.discardState d (.grp .G_CMD_op) 2 g.val

/-- G_CMD_RELEASE_PASS (R337): op 3 releases it. -/
def execGCmdReleasePass (d : Cd) (g : Fin 4) (s : State) : Out := onCd d s fun s =>
  let d := cdId d
  let x := s.grp_ d g.val
  if x.configured && x.held then s.setGrp d g.val { x with held := false } else s.discardState d (.grp .G_CMD_op) 3 g.val

/-- A full resynchronisation becomes pending (R339). -/
def State.fullResync (s : State) (d g : Nat) : State :=
  let x := s.grp_ d g
  ((s.setGrp d g { x with fullResync := true, fullCursor := 0, resyncAt := s.ts64 d }).recordWrite d g).chanShow d

/-- G_CMD_FULL_RESYNC (R339): op 4. -/
def execGCmdFullResync (d : Cd) (g : Fin 4) (s : State) : Out := onCd d s fun s =>
  let d := cdId d
  let x := s.grp_ d g.val
  if x.configured && x.state ≠ 4 then s.fullResync d g.val else s.discardState d (.grp .G_CMD_op) 4 g.val

/-- Targets that the pass writes at a stripe (R336). -/
def Group.targetsAt (x : Group) (t : Nat) : List Nat :=
  ((List.range x.n).filter (fun p => x.states.getD p 5 = 3 || x.states.getD p 5 = 4)).filter (fun p =>
    match alGet x.join p with
    | none => false
    | some j => if x.lap2 then decide (t < j) else decide (j ≤ t))

/-- A Returning position alone: its pass visits only stripes of marked regions. -/
def Group.visits (x : Group) (t : Nat) : Bool :=
  (x.targetsAt t).any (fun p => x.states.getD p 5 = 3) || x.marked.contains (x.regionOfStripe t)

/-- Largest join point. -/
def Group.joinMax (x : Group) : Nat := (x.join.map (·.2)).foldl max 0

/-- Positions finish and become In sync (R338); superblocks follow (spec/13 R377). -/
def State.targetsDone (s : State) (d g : Nat) (ps : List Nat) : State :=
  let x := s.grp_ d g
  let s := s.setGrp d g { x with states := x.states.mapIdx (fun i c => if ps.contains i then 0 else c)
                                 join := x.join.filter (fun e => !ps.contains e.1)
                                 quietSince := x.marked.foldl (fun l r => alPut l r s.now) x.quietSince }
  foldS (fun (s : State) p => s.writeSb d (x.bay p) 1 g p) (s.ledsShow d) ps

/-- The end of a pass: past the group's own stripes come those of a moving reshape's other layout (spec/12 R358). -/
def State.passEnd (s : State) (d g : Nat) : Nat :=
  let x := s.grp_ d g
  match s.rshOf d g with
  | some r => if r.live then x.stripes + r.stripes else x.stripes
  | none => x.stripes

/-- The cursor moves past a stripe; the lap or the pass may end (R336, R338). -/
def State.passMoves (s : State) (d g t : Nat) : State :=
  let x := s.grp_ d g
  let s := (s.setGrp d g { x with cursor := x.cursor + 1, rbPhase := 0 }).unlock d g [t]
  let x := s.grp_ d g
  let fin := fun (s : State) =>
    let x := s.grp_ d g
    let left := (List.range x.n).filter (fun p => x.states.getD p 5 = 3 || x.states.getD p 5 = 4)
    let s := s.setGrp d g { x with pass := !left.isEmpty, cursor := 0, join := left.map (fun p => (p, 0)), lap2 := false
                                   partial_ := left.any (fun p => x.states.getD p 5 = 4) }
    let s := match s.rshOf d g with
      | some r =>
        let s := s.setRsh d g { r with dstStates := r.dstStates.map (fun c => if c = 3 then 0 else c) }
        let x := s.grp_ d g
        (s.setGrp d g { x with otherOut := if r.live then (s.otherView d g).outCount else 0 }).reshapeResume d g
      | none => s
    (((s.ev d (.grp .EVENTS_rebuild_done)).recordWrite d g).chanShow d).nsmShow d
  if x.lap2 then
    let done := (x.join.filter (fun e => decide (e.2 ≤ x.cursor))).map (·.1)
    let s := if done.isEmpty then s else s.targetsDone d g done
    if ((s.grp_ d g).join).isEmpty then fin s else s
  else if s.passEnd d g ≤ x.cursor then
    let s := s.targetsDone d g ((x.join.filter (fun e => e.2 = 0)).map (·.1))
    let x := s.grp_ d g
    if x.join.isEmpty then fin s
    else (s.setGrp d g { x with lap2 := true, cursor := 0 }).recordWrite d g
  else s

/-! ### The strips of a stripe, as a pass reads them -/

/-- A unit of a position as the reads of its stripe gave it, and whether it was read at all. -/
def unitRead (rd : List DrvResult) (p lba : Nat) : Option Block :=
  (rd.find? (fun r => r.pos = p && r.ok && r.op = 0 && decide (r.lba ≤ lba) && decide (lba < r.lba + r.n))).map
    (fun r => r.data.getD (lba - r.lba) 0)
def unitTried (rd : List DrvResult) (p lba : Nat) : Bool :=
  rd.any (fun r => r.pos = p && r.op = 0 && decide (r.lba ≤ lba) && decide (lba < r.lba + r.n))
/-- A unit read by itself failed with a media error. -/
def unitBroken (rd : List DrvResult) (p lba : Nat) : Bool :=
  rd.any (fun r => r.pos = p && r.op = 0 && r.lba = lba && r.n = 1 && !r.ok && r.media)

/-- Further reads (position, LBA, blocks) of a stripe: runs that failed with a media error once more, unit by unit; of a mirror,
units still missing, from the next position (R325, R342). -/
def State.stripRetries (s : State) (d g t : Nat) (src : List Nat) (rd : List DrvResult) : List (Nat × Nat × Nat) :=
  let x := s.viewT d g t
  let again := rd.filter (fun r => !r.ok && r.media && decide (1 < r.n) && x.serves r.pos t &&
    !rd.any (fun q => q.pos = r.pos && q.n = 1 && q.lba = r.lba))
  if !again.isEmpty then again.flatMap (fun r => (List.range r.n).map (fun i => (r.pos, r.lba + i, 1)))
  else if !x.mirror then []
  else ((List.range x.strip).filter (fun i => !(s.cellOwner d g t (0, i)).any (fun e => (s.held d e.1 e.2).isSome) &&
      !x.badAt (x.blockAt t 0 i))).filterMap (fun i =>
    let l := x.lbaOf t i
    if src.any (fun p => (unitRead rd p l).isSome) then none
    else (src.find? (fun p => x.serves p t && !unitTried rd p l)).map (fun p => (p, l, 1)))
def State.issueReads (s : State) (d g t : Nat) (o : DrvOwner) (l : List (Nat × Nat × Nat)) : State :=
  foldS (fun (s : State) (r : Nat × Nat × Nat) =>
    (s.drvIssue d ((s.viewT d g t).bay r.1) 0 r.2.1 r.2.2 o r.1).memberReads d g 1) s l

/-- A data unit of a stripe from what the pass has read: the Sponge's block where it holds one, the unit read, or the unit
reconstructed from the row's usable units (R317, R336); none: it is lost. -/
def State.stripValue (s : State) (d g t : Nat) (rd : List DrvResult) (j i : Nat) : Option Block :=
  let x := s.viewT d g t
  let l := x.lbaOf t i
  let direct := fun (j : Nat) =>
    ((s.cellOwner d g t (j, i)).bind (fun e => (s.held d e.1 e.2).map (s.encrypt d e.1 e.2))).orElse (fun _ =>
      if x.badAt (x.blockAt t j i) then none
      else if x.mirror then (List.range x.n).findSome? (fun p => unitRead rd p l) else unitRead rd (x.posOf t j) l)
  match direct j with
  | some b => some b
  | none =>
    if x.mirror then none
    else reconstruct x.k ((List.range x.k).filterMap (fun y => (direct y).map (fun b => (y, b)))) (unitRead rd (x.posOf t x.k) l)
      (if x.layout = 4 then unitRead rd (x.posOf t (x.k + 1)) l else none) j
/-- The same with a lost unit as an encrypted zero block, and the unit of any role (R315, R341). -/
def State.stripUnit (s : State) (d g t : Nat) (rd : List DrvResult) (role i : Nat) : Block :=
  let x := s.viewT d g t
  let data := fun (j : Nat) => (s.stripValue d g t rd j i).getD (s.onMember d g (x.blockAt t j i) 0)
  if role < x.kEff then data role
  else
    let row := (List.range x.k).map (fun j => (j, data j))
    if role = x.k then parityP row else parityQ row

/-- Positions that a pass reads a stripe from, but for those it writes; of a mirror the first is read, and the others where its
units cannot be. -/
def State.passSources (s : State) (d g t : Nat) (not_ : List Nat) : List Nat :=
  let x := s.viewT d g t
  (List.range x.n).filter (fun p => !not_.contains p && x.serves p t)
/-- The reads of a stripe: units that are usable and that the Sponge does not hold, in runs (R336). -/
def State.passReads (s : State) (d g t : Nat) (not_ : List Nat) : List (Nat × Nat × Nat) :=
  let x := s.viewT d g t
  let src := s.passSources d g t not_
  (if x.mirror then src.take 1 else src).flatMap (fun p =>
    let j := x.role t p
    let need := (List.range x.strip).filter (fun i => decide (x.kEff ≤ j) ||
      (!(s.cellOwner d g t (j, i)).any (fun e => (s.held d e.1 e.2).isSome) && !x.badAt (x.blockAt t j i)))
    (runsOf (need.map (fun i => (x.lbaOf t i, 0)))).map (fun r => (p, r.1, r.2.1)))

/-- Data units of a stripe that are lost, as index and row. -/
def State.stripLost (s : State) (d g t : Nat) (rd : List DrvResult) : List (Nat × Nat) :=
  (s.viewT d g t).cells.filter (fun c => (s.stripValue d g t rd c.1 c.2).isNone)
/-- They are bad units (R341). -/
def State.passBad (s : State) (d g t : Nat) (rd : List DrvResult) : State :=
  let x := s.viewT d g t
  foldS (fun (s : State) (c : Nat × Nat) =>
    let pos := if x.mirror then (((List.range x.n).find? (fun p => unitTried rd p (x.lbaOf t c.2))).getD 0) else x.posOf t c.1
    s.addBad d g (x.blockAt t c.1 c.2) 1 pos) s (s.stripLost d g t rd)

/-- The strip of a position as the pass writes it. -/
def State.passStrip (s : State) (d g t : Nat) (rd : List DrvResult) (p : Nat) : List Block :=
  let x := s.viewT d g t
  (List.range x.strip).map (fun i => s.stripUnit d g t rd (x.role t p) i)

/-- Single units that a pass writes on positions that are not its targets (position, row): the parity of rows that lost a unit,
consistent with the zero block (R341). -/
def State.passParity (s : State) (d g t : Nat) (rd : List DrvResult) (not_ : List Nat) : List (Nat × Nat) :=
  let x := s.viewT d g t
  ((s.stripLost d g t rd).map (·.2)).eraseDups.flatMap (fun i =>
    ((x.parities.map (fun r => x.posOf t r)).filter (fun p => x.present p && !not_.contains p)).map (fun p => (p, i)))
/-- Source units of a parity group that could not be read and were reconstructed are repaired (R323, R342). -/
def State.passRepairs (s : State) (d g t : Nat) (rd : List DrvResult) (not_ : List Nat) : List (Nat × Nat) :=
  let x := s.viewT d g t
  if x.mirror then [] else
  let lost := s.stripLost d g t rd
  ((s.passSources d g t not_).flatMap (fun p => (List.range x.strip).map (fun i => (p, i)))).filter (fun e =>
    unitBroken rd e.1 (x.lbaOf t e.2) && !lost.any (fun c => c.2 = e.2 && (decide (x.k ≤ x.role t e.1) || c.1 = x.role t e.1)))

/-- What a pass writes beside its targets is issued. -/
def State.passExtra (s : State) (d g t : Nat) (o : DrvOwner) (rd : List DrvResult) (not_ : List Nat) : State :=
  let x := s.viewT d g t
  let fix := s.passRepairs d g t rd not_
  let s := foldS (fun (s : State) (e : Nat × Nat) =>
    (s.drvIssue d (x.bay e.1) 1 (x.lbaOf t e.2) 1 o e.1 [s.stripUnit d g t rd (x.role t e.1) e.2]).grpBump d 7) s fix
  foldS (fun (s : State) (e : Nat × Nat) =>
    (s.drvIssue d (x.bay e.1) 1 (x.lbaOf t e.2) 1 o e.1 [s.stripUnit d g t rd (x.role t e.1) e.2]).grpBump d 4) s
    (s.passParity d g t rd not_)

/-- One step of an in-place reshape's pass (spec/12 R356): the stripe is read, then the added and replacing bays are written. -/
def State.inPlaceStep (s : State) (d g : Nat) (r : Reshape) : State :=
  let x := s.grp_ d g
  let t := r.cursor
  let o : DrvOwner := { kind := 27, a := g, b := t }
  if r.passStep = 0 then
    if !s.bgMay d 3 then s
    else if x.locks.contains t then s.grpBump d 17
    else
      let reads := s.passReads d g t []
      let s := (s.bgCharge d 3 (reads.map (fun e => (x.bay e.1, e.2.2)) ++
        r.inBays.map (fun e => (e.2, x.strip)))).bgWrote d 3 (x.strip * r.inBays.length)
      ((s.setGrp d g { x with locks := x.locks ++ [t] }).setRsh d g { r with passStep := 1 }).issueReads d g t o reads
  else if !s.drvQuiet d o then s
  else if r.passStep = 1 then
    let rd := s.drvResults d o
    let more := s.stripRetries d g t (s.passSources d g t []) rd
    if !more.isEmpty then s.issueReads d g t o more
    else
      let s := (s.drvTake d o).passBad d g t rd
      let s := s.setRsh d g { r with passStep := 2 }
      let s := foldS (fun (s : State) (e : Nat × Nat) =>
        (s.drvIssue d e.2 1 (x.lbaOf t 0) x.strip o e.1 (s.passStrip d g t rd e.1)).rshBump d 3) s r.inBays
      s.passExtra d g t o rd []
  else
    let s := (s.drvTake d o).unlock d g [t]
    let s := s.setRsh d g { r with passStep := 0, cursor := t + 1 }
    (s.rshBump d 0).rshBump d 2 (x.strip * x.kEff)

/-- REBUILD_STEP (R336): the stripe at the cursor is locked and its sources are read; then the targets' strips are written;
then the lock is released and the cursor moves.  Each step waits for the drive commands of the one before.  With no pass
of the group under way, the pass of an in-place reshape goes on (spec/12 R356). -/
def execRebuildStep (d : Cd) (g : Fin 4) (s : State) : Out := onCd d s fun s =>
  let d := cdId d
  let g := g.val
  let x := s.grp_ d g
  let t := x.passStripe
  let v := s.viewT d g t
  let o : DrvOwner := { kind := 4, a := g, b := t }
  let tg := if x.cursor < x.stripes then x.targetsAt t else (List.range v.n).filter (fun p => v.states.getD p 5 = 3 || v.states.getD p 5 = 4)
  if !x.configured ∨ x.resyncing ∨ !s.workRuns ∨ x.state = 4 then s
  else if !x.pass then
    match s.rshOf d g with
    | some r => if r.kind = 1 ∧ r.phase = 2 ∧ r.cursor < r.end_ ∧ !r.pauseBay ∧ (!r.heldBy ∨ r.passStep ≠ 0) then s.inPlaceStep d g r else s
    | none => s
  else if x.held then s
  else if x.rbPhase = 0 then
    if tg.isEmpty || !s.stripeLive d g t || (decide (x.cursor < x.stripes) && !x.visits t) then s.passMoves d g t
    else if !s.bgMay d 2 then s
    else if x.locks.contains t then s.grpBump d 17
    else
      let reads := s.passReads d g t tg
      let s := (s.bgCharge d 2 (reads.map (fun e => (v.bay e.1, e.2.2)) ++ tg.map (fun p => (v.bay p, v.strip)))).bgWrote d 2 (v.strip * tg.length)
      (s.setGrp d g { x with rbPhase := 1, locks := x.locks ++ [t] }).issueReads d g t o reads
  else if !s.drvQuiet d o then s
  else if x.rbPhase = 1 then
    let rd := s.drvResults d o
    let more := s.stripRetries d g t (s.passSources d g t tg) rd
    if !more.isEmpty then s.issueReads d g t o more
    else
      let s := (s.drvTake d o).passBad d g t rd
      let x' := s.grp_ d g
      let s := s.setGrp d g { x' with rbPhase := 2 }
      let s := foldS (fun (s : State) p =>
        (s.drvIssue d (v.bay p) 1 (v.lbaOf t 0) v.strip o p (s.passStrip d g t rd p)).grpBump d 4) s tg
      s.passExtra d g t o rd tg
  else ((s.drvTake d o).grpBump d 8).passMoves d g t

/-- REBUILD_CHECKPOINT (R338): a second of TS64 after the last record write. -/
def execRebuildCheckpoint (d : Cd) (g : Fin 4) (s : State) : Out := onCd d s fun s =>
  let d := cdId d
  let x := s.grp_ d g.val
  if !x.pass then s else
    let s := s.reachTs d (x.checkAt + 1000000000)
    let x := s.grp_ d g.val
    (s.setGrp d g.val { x with checkAt := s.ts64 d }).recordWrite d g.val

/-! ### Resynchronisation (R339, R340) -/

/-- Exposed units of a stripe get a deferred range of cause 0x05, but for blocks the Sponge holds. -/
def State.expose (s : State) (d g : Nat) (units : List Nat) : State :=
  if units.isEmpty then s else
    let x := s.grp_ d g
    let s := (s.grpBump d 11 units.length).ev d (.grp .EVENTS_exposure)
    let owned := units.filterMap (s.ownerOf d g)
    let owned := owned.filter (fun e => (s.lookup d e.1 e.2).isNone)
    let nss := (owned.map (·.1)).eraseDups
    foldS (fun (s : State) n =>
      foldS (fun (s : State) (r : Nat × Nat × Nat × Nat) => s.deferRange d n 5 r.1 r.2.1 0 x.resyncAt) s
        (runsOf ((owned.filter (fun e => e.1 = n)).map (fun e => (e.2, 0))))) s nss

/-- A stripe has been resynchronised. -/
def State.resyncMoves (s : State) (d g t : Nat) : State :=
  let s := s.grpBump d 9
  let x := s.grp_ d g
  let x := { x with rsPhase := 0, resync := x.resync.filter (· ≠ t), fullCursor := if x.fullResync then t + 1 else x.fullCursor }
  let past := x.fullResync && decide (x.stripes ≤ x.fullCursor)
  let x := if past then { x with fullResync := false, quietSince := x.marked.foldl (fun l r => alPut l r s.now) x.quietSince } else x
  let s := (s.setGrp d g x).unlock d g [t]
  if x.resyncing then s else ((s.ev d (.grp .EVENTS_resync_done)).recordWrite d g).chanShow d

/-- What a row of a stripe calls for in its resynchronisation: units to write (position, row, contents), exposed units, and units
that are lost (group block, position). -/
structure RowResync where
  writes : List (Nat × Nat × Block) := []
  exposed : List Nat := []
  lost : List (Nat × Nat) := []
  /-- Unreadable units that were reconstructed and are written. -/
  repaired : Nat := 0
  deriving DecidableEq, Repr

/-- A row of a stripe is made to agree (R340), from the units read of the positions in service. -/
def Group.resyncRow (x : Group) (t i : Nat) (unit : Nat → Option Block) : RowResync :=
  let in_ := (List.range x.n).filter (fun p => !x.out p)
  let fix := fun (p : Nat) (b : Block) => if in_.contains p && unit p ≠ some b then [(p, i, b)] else []
  if x.mirror then
    match in_.findSome? unit with
    | none => { lost := [(x.blockAt t 0 i, in_.headD 0)] }
    | some b => { writes := in_.flatMap (fun p => fix p b) }
  else
    let pp := x.posOf t x.k
    let qp := x.posOf t (x.k + 1)
    let da := (List.range x.k).filterMap (fun j => (unit (x.posOf t j)).map (fun b => (j, b)))
    let gone := (List.range x.k).filter (fun j => (unit (x.posOf t j)).isNone)
    let qFix := fun (l : List (Nat × Block)) => if x.layout = 4 then fix qp (parityQ l) else []
    match gone, unit pp, (if x.layout = 4 then unit qp else none) with
    | [], _, _ => { writes := fix pp (parityP da) ++ qFix da }
    | [j], some p, some q =>
      -- The missing unit from P; Q is checked against it, and rewritten where it disagrees.
      let dj := p ^^^ parityP da
      let back := fix (x.posOf t j) dj
      { writes := back ++ qFix (da ++ [(j, dj)]), repaired := back.length
        exposed := if q = parityQ (da ++ [(j, dj)]) then [] else [x.blockAt t j i] }
    | l, _, _ => { exposed := (l.filter (fun j => x.out (x.posOf t j))).map (fun j => x.blockAt t j i)
                   lost := (l.filter (fun j => !x.out (x.posOf t j))).map (fun j => (x.blockAt t j i, x.posOf t j)) }

/-- Units to write of a stripe are issued: a whole strip where every unit of it is known. -/
def State.issueStrips (s : State) (d g t : Nat) (o : DrvOwner) (rd : List DrvResult) (writes : List (Nat × Nat × Block))
    (ps : List Nat) : State :=
  let x := s.grp_ d g
  foldS (fun (s : State) p =>
    let mine := writes.filter (fun w => w.1 = p)
    let strip := (List.range x.strip).map (fun i => ((mine.find? (fun w => w.2.1 = i)).map (·.2.2)).orElse (fun _ => unitRead rd p (x.lbaOf t i)))
    if strip.all (·.isSome) then (s.drvIssue d (x.bay p) 1 (x.lbaOf t 0) x.strip o p (strip.map (·.getD 0))).grpBump d 4
    else foldS (fun (s : State) (w : Nat × Nat × Block) =>
      (s.drvIssue d (x.bay p) 1 (x.lbaOf t w.2.1) 1 o p [w.2.2]).grpBump d 4) s mine) s ps

/-- RESYNC_STRIPE (R340): the next stripe is locked and read, then made to agree, then released. -/
def execResyncStripe (d : Cd) (g : Fin 4) (s : State) : Out := onCd d s fun s =>
  let d := cdId d
  let g := g.val
  let x := s.grp_ d g
  let next := if x.fullResync then some x.fullCursor else x.resync.head?
  let rows := List.range x.strip
  match (if x.rsPhase = 0 then next else some x.rsStripe) with
  | none => s
  | some t =>
    let o : DrvOwner := { kind := 5, a := g, b := t }
    let in_ := (List.range x.n).filter (fun p => !x.out p)
    if !x.configured ∨ !x.resyncing ∨ !s.workRuns ∨ x.state = 4 then s
    else if x.rsPhase = 0 then
      if !s.bgMay d 2 then s
      else if x.locks.contains t then s.grpBump d 17
      else (s.setGrp d g { x with rsPhase := 1, rsStripe := t, locks := x.locks ++ [t] }).issueReads d g t o
        (in_.map (fun p => (p, x.lbaOf t 0, x.strip)))
    else if !s.drvQuiet d o then s
    else if x.rsPhase = 1 then
      let rd := s.drvResults d o
      let more := s.stripRetries d g t in_ rd
      if !more.isEmpty then s.issueReads d g t o more
      else
        let s := s.drvTake d o
        let unit := fun (i p : Nat) => if x.out p then none else unitRead rd p (x.lbaOf t i)
        let plan := rows.map (fun i => x.resyncRow t i (unit i))
        let writes := plan.flatMap (·.writes)
        let s := foldS (fun (s : State) (e : Nat × Nat) => s.addBad d g e.1 3 e.2) s (plan.flatMap (·.lost))
        let x' := s.grp_ d g
        let s := (s.setGrp d g { x'.repairsSee t writes with rsPhase := 2 }).grpBump d 7 ((plan.map (·.repaired)).foldl (· + ·) 0)
        let ps := in_.filter (fun p => writes.any (fun w => w.1 = p))
        let s := ((s.issueStrips d g t o rd writes ps).bgWrote d 2 (x.strip * ps.length)).grpBump d 10 ps.length
        s.expose d g (plan.flatMap (·.exposed))
    else (s.drvTake d o).resyncMoves d g t

/-- GRP_SNAPSHOT (R345). -/
def execGrpSnapshot (q : Req) (d : Cd) (s : State) : Out := onDie d s fun s =>
  s.snapshot (cdId d) 0x25 q.secure (s.counters (cdId d) 0x25 18) (.grp .SNAP_CTRL_done)

end Sys2Proof.Machine
end

