-- ==== Sys2Proof/Machine/Reshape.lean ====
section
/-! DEFINITION. The meanings of the commands of the reshape engine (spec/12). -/

set_option Elab.async false

namespace Sys2Proof.Machine

def stepOwner (g : Nat) (kind : Nat) : DrvOwner := { kind := kind, a := g }
/-- Every drive command of a kind for a group has completed. -/
def State.rshQuiet (s : State) (d g kind : Nat) : Bool := !s.drv.cmds.any (fun c => c.die = d && c.owner.kind = kind && c.owner.a = g)
def State.rshTake (s : State) (d g kind : Nat) : State :=
  { s with drv := { s.drv with results := s.drv.results.filter (fun r => !(r.die = d && r.owner.kind = kind && r.owner.a = g)) } }

/-- A moving reshape may take its next step now (R347, R353, R358, R360, R364). -/
def State.stepMay (s : State) (d g : Nat) (r : Reshape) : Bool :=
  let x := s.grp_ d g
  r.kind = 2 && (r.phase = 2 || r.phase = 5) && s.workRuns && x.configured && x.state ≠ 4 && !x.pass && !x.resyncing &&
    !r.heldBy && !r.pauseBay && !s.switchDue d g r && s.rshQuiet d g 24

/-- The reads of a unit of a step are issued. -/
def State.stepRead (s : State) (d g : Nat) (r : Reshape) (gb tried : Nat) : State :=
  let v := s.srcView d g r
  let (t, _, o) := v.locate gb
  s.readSources d g v { kind := 6, a := g, b := gb } (stepWays v gb tried) (v.lbaOf t o)
/-- The units of a step are read under the layout that the run moves from. -/
def State.stepReads (s : State) (d g : Nat) (r : Reshape) : State :=
  let s := s.setRsh d g { r with step := 2, buf := [] }
  foldS (fun (s : State) i => s.stepRead d g r (r.from_ + i) 0) s (List.range r.stepBlocks)

/-- A step is charged whole at its first command: a strip of each data position of its source stripes read, a strip of each
position of its destination stripes written (spec/21 R592). -/
def State.stepCharge (s : State) (d g : Nat) (r : Reshape) : State :=
  let v := s.srcView d g r
  let w := s.dstView d g r
  let src := (v.stepStripes r.from_ r.stepBlocks).flatMap (fun t => (List.range v.kEff).map (fun j => (v.bay (v.posOf t j), v.strip)))
  let dst := (w.stepStripes r.from_ r.stepBlocks).flatMap (fun _ => (List.range w.n).map (fun p => (w.bay p, w.strip)))
  (s.bgCharge d 3 (src ++ dst)).bgWrote d 3 ((dst.map (·.2)).foldl (· + ·) 0)

/-- RESHAPE_STEP_START (R353 steps 1 and 2): the locks of both layouts, then, once earlier reads of the destination rows
have completed, the reads of the source units. -/
def execReshapeStepStart (d : Cd) (g : Fin 4) (s : State) : Out := onCd d s fun s =>
  let d := cdId d
  let g := g.val
  match s.rshOf d g with
  | none => s
  | some r =>
    -- A step that holds its locks goes on while the group serves.
    if r.step = 1 ∧ (!s.workRuns ∨ (s.grp_ d g).state = 4) ∨ r.step ≠ 1 ∧ !s.stepMay d g r then s
    else if s.r d (.rsh .BUF) = 0 then s.setRsh d g { r with wait := 5 }
    else
      let src := (s.srcView d g r).stepStripes r.from_ r.stepBlocks
      let v := s.dstView d g r
      let dst := v.stepStripes r.from_ r.stepBlocks
      let x := s.grp_ d g
      let lo := v.lbaOf (dst.headD 0) 0
      let hi := v.lbaOf (dst.getLastD 0) 0 + v.strip
      let reading := s.drv.cmds.any (fun c => c.die = d && c.op = 0 && (v.serving.contains (some c.bay)) &&
        decide (c.lba < hi) && decide (lo < c.lba + c.n))
      if r.step = 0 then
        if !s.bgMay d 3 then s
        else if (src ++ dst).any (fun t => x.locks.contains t) then s.grpBump d 17
        else
          let s := s.stepCharge d g r
          let s := s.setGrp d g { x with locks := x.locks ++ src ++ dst }
          if reading then s.setRsh d g { r with step := 1, wait := 0 } else s.stepReads d g { r with wait := 0 }
      else if r.step = 1 ∧ !reading then s.stepReads d g r
      else s

/-- RESHAPE_STEP_READS_COMPLETE (R353 steps 2 to 4): the buffer holds the step; its backup or its destination follows. -/
def execReshapeStepReadsComplete (d : Cd) (g : Fin 4) (s : State) : Out := onCd d s fun s =>
  let d := cdId d
  let g := g.val
  match s.rshOf d g with
  | none => s
  | some r =>
    let v := s.srcView d g r
    let rd := s.drv.results.filter (fun y => y.die = d && y.owner.kind = 6 && y.owner.a = g)
    let units := (List.range r.stepBlocks).map (fun i => (r.from_ + i, stepUnit v rd (r.from_ + i)))
    let tried := fun (gb : Nat) => (rd.filter (fun y => y.owner.b = gb && !y.ok && y.media)).foldl (fun m y => setBit m y.pos true) 0
    let again := (units.filter (fun e => e.2.isNone && !(stepWays v e.1 (tried e.1)).isEmpty)).map (·.1)
    if (s.grp_ d g).state = 4 then s
    else if r.step = 4 then s.stepDestination d g
    else if r.step ≠ 2 ∨ !s.rshQuiet d g 6 then s
    else if !again.isEmpty then foldS (fun (s : State) gb => s.stepRead d g r gb (tried gb)) s again
    else
      -- A unit that is lost is listed, and moved as an encrypted zero block (spec/11 R341).
      let s := foldS (fun (s : State) (e : Nat × Option Block) => if e.2.isSome then s else
        let (t, j, _) := v.locate e.1
        s.addBad d g e.1 2 (if v.mirror then 0 else v.posOf t j)) (s.rshTake d g 6) units
      let buf := units.map (fun e => e.2.getD (s.onMember d g e.1 0))
      if r.backed then
        let s := (s.setRsh d g { r with step := 3, buf := buf, bkp := buf }).serveWaiting d g
        let holders := ((List.range v.n).filter (fun p => !v.out p)).take (v.tolerance + 1)
        foldS (fun (s : State) p => s.drvIssue d (v.bay p) 1 9217 r.stepBlocks { kind := 23, a := g } p buf) s holders
      else ((s.setRsh d g { r with step := 4, buf := buf }).serveWaiting d g).stepDestination d g

/-- RESHAPE_BACKUP_WRITTEN (R353 steps 3 and 4): the backup is written, then the record with flag bit 0; then the
destination rows follow. -/
def execReshapeBackupWritten (d : Cd) (g : Fin 4) (s : State) : Out := onCd d s fun s =>
  let d := cdId d
  let g := g.val
  match s.rshOf d g with
  | none => s
  | some r =>
    if r.step = 3 ∧ s.rshQuiet d g 23 then
      ((s.rshTake d g 23).setRsh d g { r with step := 7, inflight := true }).rshRecord d g
    else if r.step = 7 ∧ s.rshQuiet d g 24 then ((s.rshTake d g 24).setRsh d g { r with step := 4 }).stepDestination d g
    else if r.step = 4 then s.stepDestination d g
    else s

/-- The cursor past the step in hand. -/
def Reshape.next (r : Reshape) : Nat := if r.descending then r.cursor - r.stepBlocks else r.cursor + r.stepBlocks

/-- A Moving reshape with steps committed is turned round (R361). -/
def State.reverse (s : State) (d g : Nat) (r : Reshape) : State :=
  (s.setRsh d g { r with phase := 5, reverse := true, src := r.dst, dst := r.src, cancel := false }).rshRecord d g

/-- RESHAPE_STEP_COMMIT (R353 steps 5 and 6): the destination rows are written and the record follows with the cursor
advanced; when every copy of it has completed the step commits. -/
def execReshapeStepCommit (d : Cd) (g : Fin 4) (s : State) : Out := onCd d s fun s =>
  let d := cdId d
  let g := g.val
  match s.rshOf d g with
  | none => s
  | some r =>
    if r.step = 5 ∧ s.rshQuiet d g 25 then ((s.rshTake d g 25).setRsh d g { r with step := 6 }).rshRecord d g
    else if r.step = 6 ∧ s.rshQuiet d g 24 then
      let s := (s.rshTake d g 24).stepUnlock d g r
      let s := (s.rshBump d 0).rshBump d 2 r.stepBlocks
      let s := if r.inflight then s.rshBump d 1 else s
      let r := { r with step := 0, cursor := r.next, inflight := false, bkp := [], buf := [], moved := true, generation := ((s.rshOf d g).getD r).generation }
      let s := s.setRsh d g r
      let past := if r.descending then r.cursor = 0 else r.end_ ≤ r.cursor
      if r.phase = 5 then (if past then s.reshapeCancelled d g else s)
      else if r.cancel then s.reverse d g r
      else s
    else s

/-- RESHAPE_CANCEL (R361): RSH.G_CMD op 1, accepted only in Active. -/
def execReshapeCancel (q : Req) (d : Cd) (g : Fin 4) (s : State) : Out := onCd d s fun s =>
  let d := cdId d
  let g := g.val
  s.secureOnly q d (.rsh .G_CMD_op)
    (match s.rshOf d g with
    | none => s.discardState d (.rsh .G_CMD_op) 1 g
    | some r =>
      if s.modeNow ≠ 5 ∨ (r.phase ≠ 1 ∧ r.phase ≠ 2) then s.discardState d (.rsh .G_CMD_op) 1 g
      else if r.phase = 1 ∨ r.kind ≠ 2 then s.reshapeCancelled d g
      -- A step whose destination is being written commits first; an earlier one is abandoned where none has committed.
      else if r.step = 5 ∨ r.step = 6 ∨ (r.step ≠ 0 ∧ r.moved) then (s.setRsh d g { r with cancel := true }).rshRecord d g
      else if r.moved then s.reverse d g r
      else s.reshapeCancelled d g)

/-- RESHAPE_HOLD (R364): op 2 holds the reshape at the next step boundary. -/
def execReshapeHold (q : Req) (d : Cd) (g : Fin 4) (s : State) : Out := onCd d s fun s =>
  let d := cdId d
  s.secureOnly q d (.rsh .G_CMD_op)
    (match s.rshOf d g.val with
    | some r => if (r.phase = 1 ∨ r.running) ∧ !r.heldBy then s.setRsh d g.val { r with heldBy := true } else s.discardState d (.rsh .G_CMD_op) 2 g.val
    | none => s.discardState d (.rsh .G_CMD_op) 2 g.val)

/-- RESHAPE_RELEASE (R364): op 3 releases the hold. -/
def execReshapeRelease (q : Req) (d : Cd) (g : Fin 4) (s : State) : Out := onCd d s fun s =>
  let d := cdId d
  s.secureOnly q d (.rsh .G_CMD_op)
    (match s.rshOf d g.val with
    | some r => if r.heldBy then s.setRsh d g.val { r with heldBy := false } else s.discardState d (.rsh .G_CMD_op) 3 g.val
    | none => s.discardState d (.rsh .G_CMD_op) 3 g.val)

/-- The first copies of the destination's group record go out (R363 step 2). -/
def State.switchRecord (s : State) (d g : Nat) (r : Reshape) : State :=
  match r.dst.members.find? (fun b => s.r d (.drv .B_STATE_state) b = 6) with
  | some b => if r.kind = 3 then s else (s.drvIssue d b 1 256 1 { kind := 26, a := g }).grpBump d 12
  | none => s

/-- RESHAPE_SWITCH (R362, R363 step 1). -/
def execReshapeSwitch (d : Cd) (g : Fin 4) (s : State) : Out := onCd d s fun s =>
  let d := cdId d
  let g := g.val
  match s.rshOf d g with
  | none => s
  | some r =>
    if !s.switchDue d g r ∨ !s.workRuns ∨ r.pauseBay ∨ !s.rshQuiet d g 24 then s
    else
      ((s.rshTake d g 24).setRsh d g { r with phase := 3, wait := 0, switched := false, passStep := 0 }).rshRecord d g

/-- RESHAPE_SWITCH_COMPLETE (R363 steps 2 to 4): the reshape record has completed, and the first copy of the group record
follows; that copy has completed and the switch takes effect, and the other copies, the superblocks and the Done record
follow; when they have completed, the reshape is over. -/
def execReshapeSwitchComplete (d : Cd) (g : Fin 4) (s : State) : Out := onCd d s fun s =>
  let d := cdId d
  let g := g.val
  match s.rshOf d g with
  | none => s
  | some r =>
    if r.phase ≠ 3 ∨ !s.rshQuiet d g 24 ∨ !s.rshQuiet d g 26 then s
    else if !r.switched ∧ r.passStep ≠ 3 then ((s.rshTake d g 24).setRsh d g { r with passStep := 3 }).switchRecord d g r
    else if !r.switched then
      let old := (s.grp_ d g).serving.filterMap id
      let s := ((s.rshTake d g 24).rshTake d g 26).setRsh d g { r with switched := true, passStep := 0 }
      let s := s.takeLayout d g r
      let x := s.grp_ d g
      let s := foldS (fun (s : State) p => s.drvIssue d (x.bay p) 1 256 1 { kind := 26, a := g } p) s (if r.kind = 3 then [] else x.holders.drop 1)
      let s := foldS (fun (s : State) p => s.writeSb d (x.bay p) 1 g p) s (List.range x.n)
      let s := foldS (fun (s : State) b => s.writeSb d b 2 255 255) s (old.filter (fun b => !x.serving.contains (some b)))
      s.rshRecord d g
    else
      let s := ((s.rshTake d g 24).rshTake d g 26).setRsh d g { r with phase := 4, heldLayout := false, inBays := [], cancel := false }
      (((s.ev d (.rsh .EVENTS_switched)).reshapeOver d).nsmShow d)

/-- RSH_SNAPSHOT (R365). -/
def execRshSnapshot (q : Req) (d : Cd) (s : State) : Out := onDie d s fun s =>
  s.snapshot (cdId d) 0x26 q.secure (s.counters (cdId d) 0x26 8) (.rsh .SNAP_CTRL_done)

/-! ### Recovery at channel start (R360) -/

/-- The in-flight backed step is restored from its backup, or completed with exposure. -/
def State.reshapeRecover (s : State) (d g : Nat) (bkpOk : Bool) : State :=
  match s.rshOf d g with
  | none => s
  | some r =>
    if (r.phase = 2 ∨ r.phase = 5) ∧ r.inflight ∧ r.kind = 2 then
      let s := s.rshBump d 7
      let s := if bkpOk then s else
        let owned := (List.range r.stepBlocks).filterMap (fun i => s.ownerOf d g (r.from_ + i))
        let s := foldS (fun (s : State) n =>
          foldS (fun (s : State) (y : Nat × Nat × Nat × Nat) => s.deferRange d n 5 y.1 y.2.1 0 r.startTs) s
            (runsOf ((owned.filter (fun e => e.1 = n)).map (fun e => (e.2, 0))))) s ((owned.map (·.1)).eraseDups)
        s.ev d (.rsh .EVENTS_backup_lost)
      let x := s.grp_ d g
      let src := (s.srcView d g r).stepStripes r.from_ r.stepBlocks
      let dst := (s.dstView d g r).stepStripes r.from_ r.stepBlocks
      let s := s.setGrp d g { x with locks := x.locks ++ src ++ dst }
      if bkpOk then (s.setRsh d g { r with step := 4, buf := r.bkp }).stepDestination d g
      else s.stepReads d g r
    else
      let s := s.setRsh d g { r with step := 0, passStep := 0, buf := [], waitReads := [], switched := false }
      -- In Switching, R363 is carried out again.
      if r.phase = 3 then s.rshRecord d g else s

end Sys2Proof.Machine
end

