-- ==== Sys2Proof/Machine/DrivePorts.lean ====
section
/-! DEFINITION. The meanings of the commands of the drive ports (spec/13), and the allowed ceiling that follows the flush
members of a channel (spec/16 R462, R463). -/

set_option Elab.async false

namespace Sys2Proof.Machine

/-! ### Flush members and the allowed ceiling (spec/16 R462, R463) -/

/-- A bay is a flush member of its channel. -/
def State.flushMember (s : State) (d b : Nat) : Bool :=
  s.r d (.drv .B_STATE_state) b = 6 && s.r d (.drv .B_STATE_class) b = 1 &&
    (match s.posOfBay d b with
     | some (g, p) => (s.grp_ d g).states.getD p 5 ≠ 2
     | none => true)
/-- Flush members by position: groups in order, positions in order. -/
def State.flushMembers (s : State) (d : Nat) : List Nat :=
  let l := (List.range 8).filter (s.flushMember d)
  let k := fun b => 8 * s.r d (.drv .B_STATE_group) b + s.r d (.drv .B_STATE_position) b
  sortKey k l

def State.allowed (s : State) (n : Nat) : Nat :=
  let hold := s.r mdId (.fls .BUDGET_holdup_ms)
  let mbps := s.r mdId (.fls .BUDGET_drive_mbps)
  let h := min hold (s.r mdId (.pair .LEASE_CFG_duration_ms) - s.r mdId (.pair .LEASE_CFG_renew_ms)) - 3
  if n = 0 ∨ h = 0 ∨ mbps = 0 ∨ hold = 0 then 0
  else min (max 1 (n - 1) * mbps * h * 1000 * 123 / (124 * 1048576) - 64) 3584

/-- A is computed again, and over_budget is set while the ceiling exceeds it (R462). -/
def State.ceilingShow (s : State) (d : Nat) : State :=
  let n := (s.flushMembers d).length
  let a := s.allowed n
  let s := (s.w d (.fls .CH_STATUS_members) n).w d (.fls .CH_STATUS_allow_mib) a
  if a < s.r d (.spg .DIRTY_CEILING_limit_mib) then s.ev d (.fls .EVENTS_over_budget) else s

/-! ### Bays -/

/-- A bay's discovery state. -/
def State.bayState (s : State) (d b st : Nat) (cause : Nat := 0) : State :=
  let s := ((s.w d (.drv .B_STATE_state) st b).wbit d (.drv .STATUS_ready) b (st = 6)).w d (.drv .B_STATE_cause) cause b
  (s.ledShow d b)

/-- Entry to Unsuitable or Fault (R369). -/
def State.bayBad (s : State) (d b st cause : Nat) : State :=
  (((s.bayState d b st cause).ev d (.drv .EVENTS_unsuitable)).logEv d 0x27 .driveUnsuitable [b, st, cause]).reshapeRecheck d

/-- Link training begins: its limit runs from now. -/
def State.bayTrain (s : State) (d b : Nat) : State :=
  let x := s.drive d b
  (s.setDrive d b { x with deadline := s.now + 1000000 * s.r d (.drv .CFG2_link_limit_ms) }).bayState d b 2

/-- The link of a bay is down. -/
def State.linkGone (s : State) (d b : Nat) : State :=
  (((s.wbit d (.drv .STATUS_link_up) b false).w d (.drv .B_LINK_speed) 0 b).w d (.drv .B_LINK_width) 0 b)

/-- A C5 event: the position becomes Absent, and commands outstanding fail (R382, R384, R385). -/
def State.driveLost (s : State) (d b next : Nat) : State :=
  let was := s.r d (.drv .B_STATE_state) b
  let s := (s.linkGone d b).drvErr d b 5 0 0
  let s := if was = 6 then (s.ev d (.drv .EVENTS_drive_lost)).logEv d 0x27 .driveLost [b, 5] else s
  let s := s.bayState d b next
  let s := if next = 0 then ((s.w d (.drv .B_STATE_class) 0 b).w d (.drv .B_STATE_group) 0 b).w d (.drv .B_STATE_position) 0 b else s
  (((s.bayOut d b 1).failBay d b).ceilingShow d).reshapeRecheck d

/-! ### Discovery (R367-R372) -/

/-- Discovery runs while the channel dies are released and the mode is not Quarantine (R369). -/
def State.discovers (s : State) : Bool := s.modeNow ≠ 0xB

/-- BAY_PERST_RELEASE (R367): 100 ms after power-good; a bay in Link down trains again once it is powered. -/
def execBayPerstRelease (d : Cd) (bay : Fin 8) (s : State) : Out := onRoot d s fun s =>
  let d := cdId d
  let b := bay.val
  if (s.r d (.drv .B_STATE_state) b = 1 ∨ s.r d (.drv .B_STATE_state) b = 7) ∧ s.discovers ∧ s.rb mdId (.bay .B_STATE_pg) (shelfBay d b) then
    ((s.advance (s.drive d b).deadline).emit (.perst d b false)).bayTrain d b
  else s

/-- DRIVE_LINK_UP (R366, R369): speed code 1-6, lanes, reversal. -/
def execDriveLinkUp (d : Cd) (bay : Fin 8) (speed width : Nat) (reversed : Bool) (s : State) : Out := onRoot d s fun s =>
  let d := cdId d
  let b := bay.val
  if s.r d (.drv .B_STATE_state) b ≠ 2 ∨ !s.discovers then s else
    let s := ((s.wbit d (.drv .STATUS_link_up) b true).w d (.drv .B_LINK_speed) speed b).w d (.drv .B_LINK_width) width b
    let s := (s.wb d (.drv .B_LINK_reversed) reversed b).bayState d b 3
    if speed < 6 ∨ width < 2 then s.ev d (.drv .EVENTS_link_degraded) else s

/-- DRIVE_LINK_TRAINING_TIMEOUT (R369). -/
def execDriveLinkTrainingTimeout (d : Cd) (bay : Fin 8) (s : State) : Out := onRoot d s fun s =>
  let d := cdId d
  if s.r d (.drv .B_STATE_state) bay.val ≠ 2 then s
  else (s.advance (s.drive d bay.val).deadline).bayBad d bay.val 9 0xF

/-- DRIVE_ENUMERATION_COMPLETE (R369): the class code is 0x01_0802 and BAR0 is assigned, with CAP.TO of the drive. -/
def execDriveEnumerationComplete (d : Cd) (bay : Fin 8) (ok : Bool) (capTo : BitVec 8) (s : State) : Out := onRoot d s fun s =>
  let d := cdId d
  let b := bay.val
  if s.r d (.drv .B_STATE_state) b ≠ 3 ∨ !s.discovers then s
  else if ok then
    let lim := min (capTo.toNat * 500) (1000 * s.r d (.drv .CFG2_ready_limit_s))
    (s.setDrive d b { s.drive d b with deadline := s.now + 1000000 * lim }).bayState d b 4
  else s.bayBad d b 8 1

/-- DRIVE_CONTROLLER_READY (R369): CSTS.RDY, or CSTS.CFS. -/
def execDriveControllerReady (d : Cd) (bay : Fin 8) (cfs : Bool) (s : State) : Out := onRoot d s fun s =>
  let d := cdId d
  if s.r d (.drv .B_STATE_state) bay.val ≠ 4 ∨ !s.discovers then s
  else if cfs then s.bayBad d bay.val 9 0xF else s.bayState d bay.val 5

/-- DRIVE_READY_TIMEOUT (R369). -/
def execDriveReadyTimeout (d : Cd) (bay : Fin 8) (s : State) : Out := onRoot d s fun s =>
  let d := cdId d
  if s.r d (.drv .B_STATE_state) bay.val ≠ 4 then s
  else (s.advance (s.drive d bay.val).deadline).bayBad d bay.val 9 0xF

/-- The first requirement that a drive does not meet (R370); 0: none. -/
def State.unsuitable (s : State) (x : DriveIdent) : Nat :=
  if !x.nvm2 then 1 else if !x.format then 2 else if x.blocks < dataBase + 16384 then 3 else if !x.reservations then 4
  else if s.paired && !x.dualPort then 5 else if !x.queues then 6 else 0

/-- The superblock in force (R376). -/
def identSb (x : DriveIdent) : Superblock :=
  let ok := fun (c : SbCopy) => c.magic && c.crcOk
  let of := fun (c : SbCopy) (n : Nat) =>
    ({ valid := true, magic := true, role := c.role, channel := c.channel, group := c.group,
       position := c.position, generation := c.generation, ownerId := c.ownerId, shelf := c.shelf,
       lastReplay := c.lastReplay, copy := n } : Superblock)
  if ok x.copy0 && (!ok x.copy1 || decide (x.copy1.generation ≤ x.copy0.generation)) then of x.copy0 0
  else if ok x.copy1 then of x.copy1 1
  else { valid := false, magic := x.copy0.magic || x.copy1.magic }

/-- The drive class of a superblock on a die (R378). -/
def State.classify (s : State) (d : Nat) (sb : Superblock) : Nat :=
  if sb.valid then
    if some sb.ownerId ≠ s.sec.owner ∨ some sb.shelf ≠ s.drv.shelf then 5
    else if sb.role = 2 then 3
    else if sb.channel = d - 1 && ((s.img.active.getD {}).groups.any (fun g => cdId g.channel = d && g.group = sb.group && decide (sb.position < g.members.length)))
      then 1
    else 4
  else if sb.magic then 4 else 2

/-- The shelf uuid that most valid superblocks of the owner hold, the lowest bay deciding a tie (R378). -/
def State.shelfVote (s : State) : Option Nat :=
  let sbs := s.cds.flatMap (fun c => (List.range 8).filterMap (fun b =>
    let x := s.drive (cdId c) b
    if s.r (cdId c) (.drv .B_STATE_state) b = 6 && x.sb.valid && some x.sb.ownerId = s.sec.owner then some x.sb.shelf else none))
  let count := fun u => (sbs.filter (· = u)).length
  (sbs.foldl (fun (m : Option Nat) u => match m with
    | none => some u
    | some v => if count v < count u then some u else some v) none)

/-- Every Ready drive's class follows the shelf uuid; entry to Foreign is an event. -/
def State.classShow (s : State) (d b : Nat) : State :=
  let cls := s.classify d (s.drive d b).sb
  let was := s.r d (.drv .B_STATE_class) b
  let s := s.showSb d b cls
  if cls = 5 ∧ was ≠ 5 then s.ev d (.drv .EVENTS_foreign) else s
def State.agreeShelf (s : State) : State :=
  match s.shelfVote with
  | none => s
  | some u =>
    let s := { s with drv := { s.drv with shelf := some u } }
    foldS (fun (s : State) c => foldS (fun (s : State) b =>
      if s.r (cdId c) (.drv .B_STATE_state) b = 6 then s.classShow (cdId c) b else s) s (List.range 8)) s s.cds

/-- The reservation key of this boot (R372). -/
def State.resKey (s : State) : Nat :=
  0x4658 * 2 ^ 48 + (if s.role = 2 then 2 else 1) * 2 ^ 40 + s.r mdId (.mgt .BOOT_COUNT_count) % 2 ^ 40

/-- A position comes back In sync: it missed no write, for its group was Failed since it went (R333). -/
def State.posBack (s : State) (d g pos : Nat) : State :=
  let x := s.grp_ d g
  -- The pass of other targets goes on from its cursor.
  let x' := { x with states := x.states.set pos 0, absentAt := alDel x.absentAt pos
                     pass := x.pass || x.states.any (fun c => c = 3 || c = 4)
                     quietSince := x.marked.foldl (fun l r => alPut l r s.now) x.quietSince }
  let x' := { x' with failed := x'.failed && decide (x'.tolerance < max x'.outCount x'.otherOut) }
  ((((s.setGrp d g x').ledsShow d).recordWrite d g).chanShow d).nsmShow d

/-- What a drive in Ready is taken for (R334): its position returns, a new drive in a serving bay becomes its target, a
member whose position has another drive becomes a released bay, and Failed positions take a spare. -/
def State.placeDrive (s : State) (d b : Nat) : State :=
  let cls := s.r d (.drv .B_STATE_class) b
  let sb := (s.drive d b).sb
  let s :=
    if cls = 1 then
      let x := s.grp_ d sb.group
      if !x.configured then s
      else if x.serving.getD sb.position none = some b then
        if x.states.getD sb.position 5 ≠ 1 then s
        else if x.failed && decide (x.failedAt ≤ (alGet x.absentAt sb.position).getD 0) then s.posBack d sb.group sb.position
        else if !x.recLost then s.takeTarget d sb.group sb.position b 4
        else s
      else
        let s := s.setGrp d sb.group { x with released := (x.released.erase b) ++ [b] }
        s.writeSb d b 2 255 255
    else if cls = 2 ∨ cls = 3 then
      match (s.dieGroups d).findSome? (fun e => ((List.range e.2.n).find? (fun p => e.2.serving.getD p none = some b &&
          (e.2.states.getD p 5 = 1 || e.2.states.getD p 5 = 2) && decide (dataBase + e.2.stripes * e.2.strip ≤ (s.drive d b).blocks))).map
          (fun p => (e.1, p))) with
      | some (g, p) => s.takeTarget d g p b 3
      | none => s
    else s
  foldS (fun (s : State) (e : Nat × Group) =>
    foldS (fun (s : State) p => if (s.grp_ d e.1).states.getD p 5 = 2 then s.takeSpare d e.1 p else s) s (List.range e.2.n)) s
    (s.dieGroups d)

/-- A bay of a running reshape's destination is back: its band is rebuilt (spec/12 R358). -/
def State.reshapeBack (s : State) (d b : Nat) : State :=
  foldS (fun (s : State) g =>
    match s.rshOf d g with
    | none => s
    | some r =>
      if !r.running then s else
        let back := r.other.members.mapIdx (fun i m => m = b && r.dstStates.getD i 0 = 1)
        let s := if back.contains true then
            let s := s.setRsh d g { r with dstStates := r.dstStates.mapIdx (fun i c => if back.getD i false then 3 else c) }
            let x := s.grp_ d g
            s.setGrp d g (if x.pass then x else { x with pass := true, cursor := 0, lap2 := false })
          else s
        s.reshapeResume d g) s (List.range 4)

/-- DRIVE_IDENTIFY_COMPLETE (R370-R378): Unsuitable, or the key is registered, the drive is classified and Ready. -/
def execDriveIdentifyComplete (d : Cd) (bay : Fin 8) (x : DriveIdent) (s : State) : Out := onRoot d s fun s =>
  let d := cdId d
  let b := bay.val
  if s.r d (.drv .B_STATE_state) b ≠ 5 ∨ !s.discovers then s
  else if s.unsuitable x ≠ 0 then s.bayBad d b 8 (s.unsuitable x)
  else
    let s := s.w d (.drv .RES_KEY) s.resKey
    let s := s.drvIssue d b 2 0 0 { kind := 17, a := b }
    let s := s.setDrive d b { s.drive d b with sb := identSb x, blocks := x.blocks, wearSeen := false, sbNext := none }
    let s := (s.bayState d b 6).ev d (.drv .EVENTS_drive_ready)
    let s := (if s.modeNow = 3 ∨ s.drv.shelf.isNone then s.agreeShelf else s).classShow d b
    ((((s.placeDrive d b).reshapeBack d b).reshapeRecheck d).ceilingShow d).ledShow d b

/-! ### Losses and errors (R382-R385) -/

/-- Ready bays of lost links go to Link down, and train again at once while seated and powered. -/
def State.linkLost (s : State) (d b : Nat) : State :=
  let s := s.drvBump d b 8
  if s.r d (.drv .B_STATE_state) b = 6 then
    let s := s.driveLost d b 7
    let n := shelfBay d b
    if s.rb mdId (.bay .B_STATE_seated) n && s.rb mdId (.bay .B_STATE_pg) n then s.bayTrain d b else s
  else s.linkGone d b

/-- DRIVE_LINK_LOSS (R382). -/
def execDriveLinkLoss (d : Cd) (bay : Fin 8) (s : State) : Out := onRoot d s fun s =>
  if s.rbit (cdId d) (.drv .STATUS_link_up) bay.val then s.linkLost (cdId d) bay.val else s

/-- DOWNSTREAM_PORT_CONTAINMENT (R366, R382). -/
def execDownstreamPortContainment (d : Cd) (bay : Fin 8) (s : State) : Out := onRoot d s fun s =>
  let d := cdId d
  let b := bay.val
  if s.rbit d (.drv .STATUS_link_up) b then ((s.drvBump d b 12).w d (.drv .B_LINK_dpc) 1 b).linkLost d b else s

/-- DRIVE_CONTROLLER_FATAL (R382): CSTS.CFS of a Ready drive is a C4 event for a bay that serves a position. -/
def execDriveControllerFatal (d : Cd) (bay : Fin 8) (s : State) : Out := onRoot d s fun s =>
  let d := cdId d
  if s.r d (.drv .B_STATE_state) bay.val = 6 ∧ (s.posOfBay d bay.val).isSome then (s.driveFault d bay.val 0 0).ceilingShow d else s

/-- The command of a bay and CID. -/
def State.drvCmd (s : State) (d b cid : Nat) : Option DrvCmd := s.drv.cmds.find? (fun c => c.die = d && c.bay = b && c.cid = cid && !c.held)

/-- DRIVE_COMMAND_TIMEOUT (R383). -/
def execDriveCommandTimeout (d : Cd) (bay : Fin 8) (cid : BitVec 16) (s : State) : Out := onRoot d s fun s =>
  let d := cdId d
  let b := bay.val
  match s.drvCmd d b cid.toNat with
  | none => s
  | some c =>
    if c.abortAt.isSome then s else
      let s := s.advance (c.issued + 1000000 * s.r d (.drv .CFG_cmd_timeout_ms))
      let s := { s with drv := { s.drv with cmds := s.drv.cmds.map (fun (y : DrvCmd) => if y = c then { y with abortAt := some s.now } else y) } }
      let x := s.drive d b
      let s := s.setDrive d b { x with late := x.late ++ [c.cid] }
      ((s.drvBump d b 4).drvBump d b 7).emit (.driveAbort d b c.cid)

/-- DRIVE_ABORT_COMPLETE (R383). -/
def execDriveAbortComplete (d : Cd) (bay : Fin 8) (cid : BitVec 16) (s : State) : Out := onRoot d s fun s =>
  match s.drvCmd (cdId d) bay.val cid.toNat with
  | some c => if c.abortAt.isSome then s.transient c 0 0 else s
  | none => s

/-- DRIVE_ABORT_WAIT_EXPIRY (R383): 1 s after the Abort was sent. -/
def execDriveAbortWaitExpiry (d : Cd) (bay : Fin 8) (cid : BitVec 16) (s : State) : Out := onRoot d s fun s =>
  match s.drvCmd (cdId d) bay.val cid.toNat with
  | some c => match c.abortAt with
    | some t => (s.advance (t + 1000000000)).transient c 0 0
    | none => s
  | none => s

/-! ### Health (R386) -/

/-- A SMART log page is read. -/
def State.health (s : State) (d b : Nat) (m : Smart) : State :=
  let s := s.drvBump d b 11
  let s := ((s.w d (.drv .B_HEALTH_critical_warning) m.critical.toNat b).w d (.drv .B_HEALTH_percent_used) m.used.toNat b).w d
    (.drv .B_HEALTH_avail_spare) m.spare.toNat b
  let s := ((s.w d (.drv .B_HEALTH_spare_thresh) m.thresh.toNat b).w d (.drv .B_HEALTH2_temp_k) m.tempK.toNat b).w d
    (.drv .B_HEALTH2_poll_age_s) 0 b
  let x := s.drive d b
  let s := s.setDrive d b { x with polledAt := s.now }
  let c := m.critical.toNat
  let s := if c.testBit 0 || c.testBit 1 || c.testBit 4 then (s.ev d (.drv .EVENTS_critical_warning)).logEv d 0x27 .driveCritical [b, c] else s
  let s := if s.r d (.drv .HEALTH_CFG_wear_warn_pct) ≤ m.used.toNat ∧ !x.wearSeen then
      let s := s.setDrive d b { s.drive d b with wearSeen := true }
      (s.ev d (.drv .EVENTS_wear_warn)).logEv d 0x27 .driveWear [b, m.used.toNat]
    else s
  if (c.testBit 2 || c.testBit 3) && (s.posOfBay d b).isSome then (s.driveFault d b 0 0).ceilingShow d else s

/-- HEALTH_POLL (R386). -/
def execHealthPoll (d : Cd) (bay : Fin 8) (m : Smart) (s : State) : Out := onRoot d s fun s =>
  let d := cdId d
  let b := bay.val
  if s.r d (.drv .B_STATE_state) b ≠ 6 ∨ !s.discovers then s
  else
    let s := s.advance ((s.drive d b).polledAt + 1000000000 * s.r d (.drv .HEALTH_CFG_poll_s))
    if s.bgMay d 4 then ((s.bgCharge d 4 [(b, 1)]).bgBump d 4).health d b m else s

/-- DRIVE_ASYNC_EVENT (R386): one of type SMART / Health Status has the log page read at once. -/
def execDriveAsyncEvent (d : Cd) (bay : Fin 8) (smart : Bool) (m : Smart) (s : State) : Out := onRoot d s fun s =>
  if s.r (cdId d) (.drv .B_STATE_state) bay.val = 6 ∧ smart ∧ s.discovers then s.health (cdId d) bay.val m else s

/-! ### Bay commands -/

/-- DRV_LOCATE_ON (R387): B_CMD op 1. -/
def execDrvLocateOn (d : Cd) (bay : Fin 8) (s : State) : Out := onDie d s fun s =>
  (s.setDrive (cdId d) bay.val { s.drive (cdId d) bay.val with locate := true }).ledShow (cdId d) bay.val

/-- DRV_LOCATE_OFF (R387): op 2. -/
def execDrvLocateOff (d : Cd) (bay : Fin 8) (s : State) : Out := onDie d s fun s =>
  (s.setDrive (cdId d) bay.val { s.drive (cdId d) bay.val with locate := false }).ledShow (cdId d) bay.val

/-- DRV_CLAIM (R378): op 3, secure world only: a released superblock to both copies of a Misplaced or Foreign drive. -/
def execDrvClaim (q : Req) (d : Cd) (bay : Fin 8) (s : State) : Out := onDie d s fun s =>
  let d := cdId d
  let b := bay.val
  let c := s.r d (.drv .B_STATE_class) b
  s.secureOnly q d (.drv .B_CMD_op)
    (if s.r d (.drv .B_STATE_state) b = 6 ∧ (c = 4 ∨ c = 5) then
      let x := s.drive d b
      let s := if s.drv.shelf.isSome then s else
        { s with fresh := s.fresh + 1, drv := { s.drv with shelf := some (Config.drbg s.fresh 378) } }
      let sb : Superblock := { valid := true, magic := true, role := 2, channel := d - 1, group := 255, position := 255
                               generation := x.sb.generation + 1, ownerId := s.sec.owner.getD 0, shelf := s.drv.shelf.getD 0 }
      (s.setDrive d b { x with sbNext := some sb }).drvIssue d b 1 0 2 { kind := 9, a := b }
    else s.discardState d (.drv .B_CMD_op) 3 b)

/-- DRV_RESTART_DISCOVERY (R369): op 4, secure world only. -/
def execDrvRestartDiscovery (q : Req) (d : Cd) (bay : Fin 8) (s : State) : Out := onDie d s fun s =>
  let d := cdId d
  let b := bay.val
  let st := s.r d (.drv .B_STATE_state) b
  s.secureOnly q d (.drv .B_CMD_op)
    (if st = 8 ∨ st = 9 then ((s.emit (.perst d b true)).emit (.perst d b false)).bayTrain d b
     else s.discardState d (.drv .B_CMD_op) 4 b)

/-- DRV_SNAPSHOT (R390): the counters of the bay that SNAP_CTRL.bay names. -/
def execDrvSnapshot (q : Req) (d : Cd) (s : State) : Out := onDie d s fun s =>
  let b := s.r (cdId d) (.drv .SNAP_CTRL_bay)
  s.snapshot (cdId d) 0x27 q.secure (s.counters (cdId d) 0x27 13 b) (.drv .SNAP_CTRL_done) b

end Sys2Proof.Machine
end

