-- ==== Sys2Proof/Machine/Cipher.lean ====
section
/-! DEFINITION. The meanings of the commands of the cipher engine and its key slots (spec/14). -/

set_option Elab.async false

namespace Sys2Proof.Machine

/-- The engine's slots are keyed by (die, number), a GCM slot's number from 2¹⁶ on. -/
def slotKey (gcm : Bool) (n : Nat) : Nat := if gcm then 0x10000 + n else n
def State.keySlot (s : State) (d k : Nat) : KeySlot := (alGet s.cip.slots (d, k)).getD {}
def State.setKeySlot (s : State) (d k : Nat) (x : KeySlot) : State :=
  { s with cip := { s.cip with slots := alPut s.cip.slots (d, k) x } }

/-- State code of a slot: 0 Empty, 1 Loading, 2 Loaded. -/
def State.slotState (s : State) (d : Nat) (gcm : Bool) (n : Nat) : Nat :=
  if gcm then s.r d (.cip .GSLOT_STATE_state) n else s.r d (.cip .SLOT_A_state) n
def State.setSlotState (s : State) (d : Nat) (gcm : Bool) (n v : Nat) : State :=
  if gcm then s.w d (.cip .GSLOT_STATE_state) v n else s.w d (.cip .SLOT_A_state) v n

/-- Loaded slots of a die: XTS slots on a channel die, GCM slots on the port die. -/
def State.slotsShow (s : State) (d : Nat) : State :=
  let n := if d = 0 then ((List.range 4).filter (fun k => s.r d (.cip .GSLOT_STATE_state) k = 2)).length
    else (s.regs.filter (fun e => e.1.die = d && e.1.fld = .cip .SLOT_A_state && e.2 = 2)).length
  let busy := s.cip.slots.any (fun e => e.1.1 = d && (e.2.next.isSome || e.2.clearing))
  (s.w d (.cip .STATUS_slots_loaded) n).wb d (.cip .LOAD_STATUS_busy) busy

def State.loadRefused (s : State) (d code : Nat) : State :=
  ((s.w d (.cip .LOAD_STATUS_result) code).cipBump d (if d = 0 then 5 else 6)).ev d (.cip .EVENTS_load_refused)

/-- A key slot used by a namespace of a channel has its new key (R399 step 4): the Format or Sanitize goes on to its fill. -/
def State.keyReplaced (s : State) (d n : Nat) : State :=
  let s := { s with cip := { s.cip with replaced := s.cip.replaced.filter (· ≠ (d, n)) } }
  let nss := ((s.img.active.getD {}).namespaces.filter (fun e => cdId e.channel = d && e.keySlot = n)).map (·.nsid)
  let s := foldS (fun (s : State) nsid => match alGet (s.cd d).formats nsid with
    | some p => if p.phase = 1 then (s.setFormat d nsid { p with phase := 2 }).retireStart d 7 nsid else s
    | none => s) s nss
  match (s.cd d).sanitize with
  | some p =>
    if p.phase ≠ 1 then s else
      let done := n :: p.keysDone
      let all := ((s.img.active.getD {}).namespaces.filter (fun e => cdId e.channel = d)).all (fun e => done.contains e.keySlot)
      let s := s.setSanitize d { p with keysDone := done, phase := if all then 2 else 1 }
      if all then s.retireStart d 6 0xFFFFFFFF else s
  | none => s

/-- A key comes into force in a slot: its binding, and the counter of a GCM slot starts again (R402, R406). -/
def State.slotLoaded (s : State) (d : Nat) (gcm : Bool) (n key nsid gen fixed : Nat) : State :=
  let s := (s.setKeySlot d (slotKey gcm n) { s.keySlot d (slotKey gcm n) with key := key, next := none, clearing := false,
                                                                              opened := false }).setSlotState d gcm n 2
  let s := s.cipBump d (if d = 0 then 4 else 5)
  if gcm then
    let sealing := decide (n = 0) || (decide (d = 0) && decide (n = 1))
    let s := ((s.w d (.cip .GSLOT_FIXED_fixed) fixed n).w d (.cip .GSLOT_CTR) 0 n).wb d (.cip .GSLOT_STATE_seal) sealing n
    let s := s.w d (.cip .GSLOT_STATE_exhausted) 0 n
    (if sealing then { s with cip := { s.cip with sealed := s.cip.sealed ++ [(d, key, fixed)] } } else s).slotsShow d
  else
    let s := ((s.w d (.cip .SLOT_A_nsid) nsid n).w d (.cip .SLOT_B_generation) gen n).slotsShow d
    let s := if s.cip.replaced.contains (d, n) then s.keyReplaced d n else s
    s.nsmShow d

def State.slotEmptied (s : State) (d : Nat) (gcm : Bool) (n : Nat) : State :=
  let s := (s.setKeySlot d (slotKey gcm n) {}).setSlotState d gcm n 0
  if gcm then (((s.w d (.cip .GSLOT_FIXED_fixed) 0 n).w d (.cip .GSLOT_CTR) 0 n).w d (.cip .GSLOT_STATE_exhausted) 0 n).slotsShow d
  else (((s.w d (.cip .SLOT_A_nsid) 0 n).w d (.cip .SLOT_B_generation) 0 n).slotsShow d).nsmShow d

/-- The die has a cipher engine that runs: the port die, or a channel die in service. -/
def State.cipDie (s : State) (d : Nat) : Bool := d = 0 || s.cdUp d

/-- KEY_SLOT_LOAD (R401, R402, R405, R407): LOAD_CTRL op 1, with what unwrapping LOAD_BLOB gives: the key, or a failure. -/
def execKeySlotLoad (q : Req) (die : DieId) (gcm : Bool) (n : BitVec 12) (key : Option Nat) (equalHalves : Bool) (s : State) : Out :=
  let d := die.val
  let n := n.toNat
  let k := slotKey gcm n
  .next (if !s.cipDie d then s else s.secureOnly q d (.cip .LOAD_CTRL_op)
    (let fixed := s.r d (.cip .LOAD_FIXED_fixed)
     let nsid := s.r d (.cip .LOAD_META_nsid)
     let gen := s.r d (.cip .LOAD_GEN_generation)
     let sealing := gcm && (decide (n = 0) || (decide (d = 0) && decide (n = 1)))
     if (gcm ∧ 4 ≤ n) ∨ (!gcm ∧ d = 0) then s.loadRefused d 4
     else if !s.rb d (.cip .STATUS_kat_pass) ∨ !s.rb d (.cip .STATUS_ktk_ready) then s.loadRefused d 5
     else if s.slotState d gcm n = 1 then s.loadRefused d 1
     else match key with
       | none => s.loadRefused d 2
       | some key =>
         if !gcm && equalHalves then s.loadRefused d 3
         else if sealing && s.cip.sealed.contains (d, key, fixed) then s.loadRefused d 6
         else
           let s := s.w d (.cip .LOAD_STATUS_result) 0
           if s.slotState d gcm n = 0 then s.slotLoaded d gcm n key nsid gen fixed
           else ((s.setKeySlot d k { s.keySlot d k with next := some (key, nsid, gen, fixed) }).setSlotState d gcm n 1).slotsShow d))

/-- KEY_SLOT_CLEAR (R402): LOAD_CTRL op 2. -/
def execKeySlotClear (q : Req) (die : DieId) (gcm : Bool) (n : BitVec 12) (s : State) : Out :=
  let d := die.val
  let n := n.toNat
  let k := slotKey gcm n
  .next (if !s.cipDie d then s else s.secureOnly q d (.cip .LOAD_CTRL_op)
    (if (gcm ∧ 4 ≤ n) ∨ (!gcm ∧ d = 0) then s.loadRefused d 4
     else if s.slotState d gcm n = 1 then s.loadRefused d 1
     else
       let s := s.w d (.cip .LOAD_STATUS_result) 0
       if s.slotState d gcm n = 0 then s
       else ((s.setKeySlot d k { s.keySlot d k with clearing := true }).setSlotState d gcm n 1).slotsShow d))

/-- KEY_SLOT_FENCE_COMPLETE (R402): the slot's jobs have drained. -/
def execKeySlotFenceComplete (die : DieId) (gcm : Bool) (n : BitVec 12) (s : State) : Out :=
  let d := die.val
  let n := n.toNat
  let x := s.keySlot d (slotKey gcm n)
  .next (if s.slotState d gcm n ≠ 1 then s
    else if x.clearing then s.slotEmptied d gcm n
    else match x.next with
      | some (key, nsid, gen, fixed) => s.slotLoaded d gcm n key nsid gen fixed
      | none => s)

/-! ### Key generations (R397-R399) -/

def State.generation (s : State) (d n : Nat) : Nat := (alGet s.cip.gens (d, n)).getD 0

/-- A replacement cannot be made: the Format or Sanitize that asked for it fails (R397). -/
def State.keyRefused (s : State) (d n : Nat) : State :=
  let s := s.logEv mdId 0x28 .keyRefused [d, n]
  let nss := ((s.img.active.getD {}).namespaces.filter (fun e => cdId e.channel = d && e.keySlot = n)).map (·.nsid)
  let s := foldS (fun (s : State) nsid => match alGet (s.cd d).formats nsid with
    | some p =>
      if p.phase = 1 then
        let s := s.setFormat d nsid { p with phase := 4, slot := none }
        match p.slot with
        | some k => if (s.slot d k).state = 3 then s.completeWith d k stFormatInProgress else s
        | none => s
      else s
    | none => s) s nss
  match (s.cd d).sanitize with
  | some p => if p.phase = 1 then
      ((s.setSanitize d { p with phase := 4 }).w d (.nsm .SANITIZE_restricted) 1).ev d (.nsm .EVENTS_sanitize_done) else s
  | none => s

/-- The new generation is committed in Praline (R399 step 2). -/
def State.commitGeneration (s : State) (d n : Nat) : State :=
  { s with cip := { s.cip with
    gens := alPut s.cip.gens (d, n) (s.generation d n + 1)
    replacing := s.cip.replacing.filter (· ≠ (d, n))
    replaced := if s.cip.replaced.contains (d, n) then s.cip.replaced else s.cip.replaced ++ [(d, n)] } }

/-- KEY_REPLACEMENT (R397, R399): Praline raises a slot's generation; in Mirrored Active the partner commits it first. -/
def execKeyReplacement (d : Cd) (n : BitVec 12) (s : State) : Out := onCd d s fun s =>
  let d := cdId d
  let n := n.toNat
  if s.cip.replacing.contains (d, n) ∨ s.cip.mediaRoot.isNone then s
  else if s.generation d n = 0xFFFFFFFF then s.keyRefused d n
  else if s.modeNow = 5 && s.paired && s.r mdId (.pair .STATUS_mirror) = 1 then
    ({ s with cip := { s.cip with replacing := s.cip.replacing ++ [(d, n)] } }).emit (.generation d n (s.generation d n + 1))
  else s.commitGeneration d n

/-- PARTNER_GENERATION_COMMITTED (R399 step 2). -/
def execPartnerGenerationCommitted (d : Cd) (n : BitVec 12) (s : State) : Out := onCd d s fun s =>
  if s.cip.replacing.contains (cdId d, n.toNat) then s.commitGeneration (cdId d) n.toNat else s

/-! ### GCM_DONE (R408, R411) -/

/-- The entry that a read of GCM_DONE gives. -/
def State.gcmShow (s : State) (d : Nat) : State :=
  let l := (alGet s.cip.done d).getD []
  let s := s.wb d (.cip .GCM_DONE_lost) (s.cip.lost.contains d)
  match l with
  | [] => ((s.w d (.cip .GCM_DONE_valid) 0).w d (.cip .GCM_DONE_distrust) 0).w d (.cip .GCM_DONE_tag) 0
  | (tag, bad) :: _ => ((s.w d (.cip .GCM_DONE_valid) 1).wb d (.cip .GCM_DONE_distrust) bad).w d (.cip .GCM_DONE_tag) tag

/-- A result joins the queue of 256; a full queue loses it (R411). -/
def State.gcmPush (s : State) (d tag : Nat) (distrust : Bool) : State :=
  let l := (alGet s.cip.done d).getD []
  (if l.length < 256 then { s with cip := { s.cip with done := alPut s.cip.done d (l ++ [(tag, distrust)]) } }
   else { s with cip := { s.cip with lost := if s.cip.lost.contains d then s.cip.lost else s.cip.lost ++ [d] } }).gcmShow d

/-- GCM_DONE_POP (R408): a read of GCM_DONE takes its first entry and clears lost. -/
def execGcmDonePop (d : Cd) (s : State) : Out := onCd d s fun s =>
  let d := cdId d
  let s := s.emit (.readData (pkgAddr d 0x28 0x1C) (s.r d (.cip .GCM_DONE_valid) * 2 ^ 31 + s.r d (.cip .GCM_DONE_lost) * 2 ^ 30 +
    s.r d (.cip .GCM_DONE_distrust) * 2 ^ 29 + s.r d (.cip .GCM_DONE_tag)))
  ({ s with cip := { s.cip with done := alPut s.cip.done d (((alGet s.cip.done d).getD []).drop 1)
                                lost := s.cip.lost.filter (· ≠ d) } }).gcmShow d

/-- CIP_SNAPSHOT (R415): eight counters of a channel die, seven of the port die. -/
def execCipSnapshot (q : Req) (die : DieId) (s : State) : Out :=
  let d := die.val
  .next (if s.cipDie d then s.snapshot d 0x28 q.secure (s.counters d 0x28 (if d = 0 then 7 else 8)) (.cip .SNAP_CTRL_done) else s)

/-! ### Zeroisation (R412) -/

/-- Every slot of a die is Empty, without any fence. -/
def State.clearSlots (s : State) (d : Nat) : State :=
  let s := { s with cip := { s.cip with slots := s.cip.slots.filter (fun e => e.1.1 ≠ d), done := alDel s.cip.done d } }
  let clear := fun (k : RegKey) => k.die = d && (k.fld = .cip .SLOT_A_state || k.fld = .cip .SLOT_A_nsid || k.fld = .cip .SLOT_B_generation ||
    k.fld = .cip .GSLOT_STATE_state || k.fld = .cip .GSLOT_STATE_exhausted || k.fld = .cip .GSLOT_STATE_seal ||
    k.fld = .cip .GSLOT_FIXED_fixed || k.fld = .cip .GSLOT_CTR)
  let s := { s with regs := s.regs.filter (fun e => !clear e.1) }
  ((s.slotsShow d).w d (.cip .STATUS_ktk_ready) 0).gcmShow d
def State.zeroise (s : State) (d : Nat) : State :=
  let s := (s.clearSlots d).ev d (.cip .EVENTS_zeroised)
  if d = 0 then s else s.nsmShow d

end Sys2Proof.Machine
end

