-- ==== Sys2Proof/Machine/ImageSwitch.lean ====
section
/-! DEFINITION. Writing an image's sections into the tables of the dies, and the epoch switch (spec/04 R84, R103-R108). -/

set_option Elab.async false

namespace Sys2Proof.Machine

/-! ### Sections into registers (R84, spec/03 R80, spec/05 R140, spec/15 R456) -/

/-- The Time section (spec/03 R80): a change of a rate or threshold anchors E_pkg anew. -/
def State.loadTime (s : State) (t : TimeSection) : State :=
  let was := s.selected.bind (fun i => s.tim.cfg.sources[i]?)
  let s := ({ s with tim := { s.tim with cfg := t } })
  -- The source that is followed keeps its place in the list, or is no longer listed.
  let s := if s.selected.isNone then s else s.select (was.bind (fun x => t.sources.findIdx? (fun y => y = x)))
  let s := ((s.w 0 (.tim .SERVO_CFG_lock_thr_ns) t.lockThr).w 0 (.tim .SERVO_CFG_freerun_thr_us) t.freerunThr).wb 0
    (.tim .SERVO_CFG_unref_start) t.unrefStart
  let s := ((s.w 0 (.tim .SERVO_CFG2_step_thr_ms) t.stepThr).w 0 (.tim .SERVO_CFG2_slew_ppm) t.slewPpm).w 0
    (.tim .SERVO_CFG2_asym_ns) t.asym
  let s := ((s.w 0 (.tim .HOLD_RATE_ps_per_s) t.holdRate).w 0 (.tim .HOLD_RATE_10M_ps_per_s) t.holdRate10m).w 0
    (.tim .UTC_fallback_s) t.utcFallback
  let s := (s.w 0 (.tim .PPS_CFG_in_delay_ns) (toSigned 18 t.ppsInDelay)).w 0 (.tim .PPS_CFG_out_width_ms) t.ppsOutWidth
  let s := ((s.wb 0 (.tim .PPS_CFG_in_enable) (t.ppsFlags.testBit 0)).wb 0 (.tim .PPS_CFG_out_enable) (t.ppsFlags.testBit 1)).wb 0
    (.tim .PPS_CFG_out_in_holdover) (t.ppsFlags.testBit 2)
  s.reanchor.utcShow.ppsCheck

/-- One Ports entry. -/
def State.loadPort (s : State) (e : PortEntry) : State :=
  let p := e.port
  let s := ((s.w 0 (.eth .PORT_CFG_max_frame) e.maxFrame p).w 0 (.eth .PORT_CFG_speed) e.speed p).w 0
    (.eth .PORT_CFG_default_pcp) e.defaultPcp p
  let s := (s.w 0 (.eth .PORT_CFG_vlan) e.vlan p).w 0 (.eth .PORT_FLAGS_flags) e.flags p
  let s := (s.w 0 (.eth .MAC_LO_mac) (e.mac % 2 ^ 32) p).w 0 (.eth .MAC_HI_mac) (e.mac / 2 ^ 32) p
  ((s.w 0 (.eth .IPV4_addr) e.ipv4 p).w 0 (.eth .IPV6_addr) e.ipv6 p).w 0 (.eth .PORT_STATUS_speed) e.speed p

/-- The physical port of a logical port (spec/04 R94). -/
def physOf (p : Nat) : Nat := p / 8

/-- The Ports section.  A physical port whose speed or split changes goes down and trains again (spec/05 R124); a port that
the section no longer lists is disabled. -/
def State.loadPorts (s : State) (old new : List PortEntry) (retrain : Bool) : State :=
  let key (l : List PortEntry) (x : Nat) : List (Nat × Nat) := (l.filter (fun e => physOf e.port = x)).map (fun e => (e.port, e.speed))
  let changed := (List.range 4).filter (fun x => retrain && key old x ≠ key new x)
  let s := foldS (fun (s : State) p => if changed.contains (physOf p) then s.leaveUp p 0 false else s) s (List.range 32)
  let s := foldS (fun (s : State) (e : PortEntry) =>
    if new.any (fun n => n.port = e.port) then s else s.wbit 0 (.eth .PORT_FLAGS_flags) 0 false e.port) s old
  let s := foldS (fun (s : State) e => s.loadPort e) s new
  (foldS (fun (s : State) l => if changed.contains (physOf l) && s.lane l ≠ 0 then s.laneTo l 1 else s) s (List.range 32)).lanesFollow

/-- The Lease section (spec/15 R456). -/
def State.loadLease (s : State) (l : LeaseSection) : State :=
  let s := (s.w mdId (.pair .LEASE_CFG_duration_ms) l.durationMs).w mdId (.pair .LEASE_CFG_renew_ms) l.renewMs
  (s.w mdId (.pair .HB_CFG_hb_interval_us) l.hbIntervalUs).w mdId (.pair .HB_CFG_hb_miss) l.hbMiss

/-- The Schedule section as the image shadow of every die that takes an entry's kind (spec/03 R72), and its commit on a die
(R75). -/
def State.shadowSchedule (s : State) (l : List SchedEntry) : State :=
  let entries := (s.dies.map (fun d => (l.zipIdx).filterMap (fun (e : SchedEntry × Nat) =>
    if kindOnDie e.1.kind d then some ((d, e.2), e.1) else none))).flatten
  { s with tim := { s.tim with shadow := s.tim.shadow.filter (fun p => 192 ≤ p.1.2) ++ entries } }
def State.commitSchedule (s : State) : State :=
  foldS (fun (s : State) d => s.commitEntries d (s.tim.shadow.filter (fun p => p.1.1 = d && decide (p.1.2 < 192)))) s s.dies

/-- The bays that some group of the die holds as spares. -/
def State.spareShow (s : State) (d : Nat) : State :=
  foldS (fun (s : State) b => s.wb d (.drv .B_STATE_spare)
    ((s.dieGroups d).any (fun y => y.2.spareMask.testBit b)) b) s (List.range 8)

/-- A group's fields that an image may change without a reshape (spec/04 R107, spec/12 R346): flags and spares; its
stripe-assembly loop starts anew where the entry changed (spec/10 R290). -/
def State.loadGroup (s : State) (old : Option GroupEntry) (e : GroupEntry) : State :=
  let d := cdId e.channel
  let x := s.grp_ d e.group
  let s := if x.configured then s.setGrp d e.group { x with spareMask := e.spareMask, steer := e.flags.testBit 0
                                                            window := e.flags.testBit 1 } else s
  let s := if old = some e then s else
    let sp := s.sp d
    (s.setSp d { sp with asm_ := alPut sp.asm_ e.group { hold := e.maxResidence / 2 } }).w d (.spg .GRP_SA_hold_us)
      (e.maxResidence / 2) e.group
  s.spareShow d

/-- A group that the image no longer lists is no group of its channel any more (R107). -/
def State.dropGroup (s : State) (e : GroupEntry) : State :=
  let d := cdId e.channel
  let s := s.setGrp d e.group { generation := (s.grp_ d e.group).generation }
  let sp := s.sp d
  (((s.setSp d { sp with asm_ := alDel sp.asm_ e.group }).w d (.spg .GRP_SA_hold_us) 0 e.group).spareShow d).chanShow d

/-- Every section that takes effect in Bring-up and at each epoch. -/
def State.loadTables (s : State) (old m : Image) (retrain : Bool) : State :=
  let s := ((s.loadTime m.time).loadPorts old.ports m.ports retrain).loadLease m.lease
  foldS (fun (s : State) (e : GroupEntry) => s.loadGroup (old.groups.find? (fun x => x.channel = e.channel && x.group = e.group)) e)
    (s.shadowSchedule m.schedule) m.groups

/-- The Endpoint section (spec/18 R510), written only at a start. -/
def State.loadEndpoint (s : State) (l : List EpEntry) : State :=
  foldS (fun (s : State) (e : EpEntry) => (s.wb 0 (.epf .F_CFG_enabled) e.enabled e.fn).w 0 (.epf .F_CFG_host_id) e.host e.fn) s l

/-! ### The epoch switch (R103-R105) -/

/-- A Restart-class change (R107): a channel enabled, or the Security, World regions or Endpoint sections. -/
def restartClass (old new : Image) : Bool :=
  old.security ≠ new.security || old.regions ≠ new.regions || old.endpoints ≠ new.endpoints ||
  (List.range 6).any (fun c => new.pkg.channelEnable.testBit c && !old.pkg.channelEnable.testBit c)

/-- Namespaces disabled or removed drain (spec/09 R275); hosts removed lose their connections once no command of theirs is
in flight (R107). -/
def State.drainNamespaces (s : State) (old new : Image) (at_ : Nat) : State :=
  let s := foldS (fun (s : State) (n : NsEntry) =>
    let next := new.namespaces.find? (fun x => x.nsid = n.nsid)
    let stays := next.any (fun x => x.flags.testBit 0)
    if n.flags.testBit 0 && !stays then
      let d := cdId n.channel
      let c := s.cd d
      s.setCd d { c with draining := c.draining.filter (fun e => e.1 ≠ n.nsid) ++ [(n.nsid, next.isNone, at_)] }
    else s) s old.namespaces
  foldS (fun (s : State) d => if s.cdUp d then s.nsmShow d else s) s (s.cds.map cdId)

/-- A disabled channel starts its drain (spec/02 R50). -/
def State.disableChannel (s : State) (d : Nat) : State :=
  if s.chanFailed d ∨ s.mode.chanDrain.any (fun e => e.1 = d) then s else
    -- Step 1: the gate of the channel answers unavailable (spec/08 R241).
    let s := if s.cdUp d then (s.w d (.cmd .GATE_refuse) 1).nsmShow d else s
    { s with mode := { s.mode with chanDrain := s.mode.chanDrain ++
      [(d, s.now + 1000000 * (s.img.active.getD {}).pkg.drainMs)] } }

/-- The connections of a host that the image no longer lists, with no command in flight, close. -/
def State.dropHosts (s : State) : State :=
  match s.img.active with
  | none => s
  | some m =>
    foldS (fun (s : State) (e : (Nat × Nat) × Conn) =>
      let busy := (s.cd e.1.1).slots.any (fun z => connIdx z.2.conn = e.1.2 && !isEp z.2.conn)
      if (e.2.state = 2 || e.2.state = 3) && !m.hosts.any (fun h => h.id = e.2.f.host) && !busy then s.connError e.1.1 e.1.2 true
      else s) s s.rdx.conns

/-- Traffic control at an epoch: a changed policer starts with full buckets (spec/06 R155), and a port whose running list has
changed restarts it at the epoch (R164). -/
def State.epochTraffic (s : State) (old new : Image) (ts : Nat) : State :=
  let entry (m : Image) (i : Nat) : Option PolicerEntry := m.policers.find? (fun e => e.id = i)
  let s := { s with swx := { s.swx with buckets := s.swx.buckets.filter (fun b => entry old b.1 = entry new b.1) } }
  foldS (fun (s : State) p =>
    let l := s.r 0 (.sch .GATE_STATE_list) p
    let gate (m : Image) : Option GateList := m.gates.find? (fun g => g.port = p && g.list = l)
    if s.rb 0 (.sch .GATE_STATE_running) p && gate old ≠ gate new then s.gateStart p l ts else s) s (List.range 32)

/-- R103: banks flip and the schedule commits; the selector and the rollback floor; Layout reshapes; restart_pending. -/
def State.epochSwitch (s : State) (late : Bool := false) : State :=
  match s.img.staged with
  | none => s
  | some m =>
    let old := s.img.active.getD {}
    let s := s.w mdId (.img .STATUS_stage_state) 5
    let s := { s with img := { s.img with previous := some old, switchAt := m.epoch, oldBanks := s.dies, staged := none } }
    -- Restart-class sections stay as loaded at the start.
    let live := { m with security := old.security, regions := old.regions, endpoints := old.endpoints
                         pkg := { m.pkg with channelEnable := m.pkg.channelEnable &&& old.pkg.channelEnable } }
    let s := (s.imgInForce live).loadTables old live true
    let s := (s.epochTraffic old live m.epoch).commitSchedule
    let slot := 1 - s.r mdId (.img .STATUS_current_slot)
    let s := s.writeSelector (fun x => { x with current := slot, staged := false, epoch := 0, curSeq := m.seq })
    let floor := max s.img.floor old.seq
    let s := ({ s with img := { s.img with floor := floor } }).w mdId (.img .ROLLBACK_FLOOR_floor) floor
    let s := (s.w mdId (.img .STATUS_current_slot) slot).stageRegs 0 0 0
    let s := s.ledgerAdd 3 [old.digest, m.digest, m.epoch, old.seq, m.seq, if late then 1 else 0]
    let s := s.drainNamespaces old live m.epoch
    let s := foldS (fun (s : State) c => if old.pkg.channelEnable.testBit c && !m.pkg.channelEnable.testBit c then
      s.disableChannel (cdId c) else s) s s.cds
    let s := foldS (fun (s : State) (e : GroupEntry) =>
      if m.groups.any (fun x => x.channel = e.channel && x.group = e.group) then s else s.dropGroup e) s old.groups
    let s := foldS (fun (s : State) (e : GroupEntry) =>
      match old.groups.find? (fun x => x.channel = e.channel && x.group = e.group) with
      | some x => if layoutChange x e then s.reshapeBegin e else s
      | none => s.reshapeBegin e) s m.groups
    let s := foldS (fun (s : State) d => s.reshapeRecheck d) s (s.cds.map cdId)
    let s := if restartClass old m then s.w mdId (.img .STATUS_restart_pending) 1 else s
    (s.w mdId (.img .STATUS_stage_state) 0).dropHosts

/-- EPOCH_SWITCH (R103, R105): the epoch of a staged image that awaits it. -/
def execEpochSwitch (s : State) : Out :=
  match s.img.staged with
  | none => .next s
  | some m =>
    if s.r mdId (.img .STATUS_stage_state) ≠ 4 then .next s else
    let s := s.reachTs mdId m.epoch
    if s.tsSet mdId && decide (m.epoch ≤ s.ts64 mdId) && stageMode s.modeNow then .next s.epochSwitch else .next s

/-- On entry to a mode that may switch, an epoch already passed switches late (R105). -/
def State.lateSwitch (s : State) : State :=
  match s.img.staged with
  | none => s
  | some m =>
    if s.r mdId (.img .STATUS_stage_state) = 4 && s.tsSet mdId && decide (m.epoch < s.ts64 mdId) && stageMode s.modeNow then
      ((s.epochSwitch true).w mdId (.img .STATUS_late_switch) 1).logEv mdId 0x02 .lateSwitch [m.seq, m.epoch]
    else s

/-- OLD_BANK_RELEASE (R104): no command stamped before the epoch is still ahead of the die's access check. -/
def execOldBankRelease (die : DieId) (s : State) : Out :=
  let d := die.val
  let ahead := (s.cd d).slots.any (fun z => z.2.state = 1 && decide (z.2.stamp < s.img.switchAt)) ||
    s.rdx.conns.any (fun e => e.1.1 = d && e.2.deliveries.any (fun x => decide (x.stamp < s.img.switchAt)))
  if ahead ∨ !s.img.oldBanks.contains d then .next s else
    let left := s.img.oldBanks.filter (· ≠ d)
    .next { s with img := { s.img with oldBanks := left } }

/-- R108: a validated staged image whose digest is the partner's and whose epoch has passed is switched to before the
compare. -/
def State.pairingSwitch (s : State) (digest : Nat) : State :=
  match s.img.staged with
  | some m => if s.modeNow = 4 && s.r mdId (.img .STATUS_stage_state) = 4 && m.digest = digest &&
      decide (m.epoch ≤ s.ts64 mdId) && s.tsSet mdId then s.epochSwitch else s
  | none => s

end Sys2Proof.Machine
end

