-- ==== Sys2Proof/Machine/MgtOps.lean ====
section
/-! DEFINITION. Operations of the management subsystem (spec/19): the event log, firmware selectors, validation of a firmware
image, the board description, and the end of an update. -/

set_option Elab.async false

namespace Sys2Proof.Machine

def State.setMgt (s : State) (m : MgtState) : State := { s with mgt := m }
def State.mgtBump (s : State) (i : Nat) (n : Nat := 1) : State := s.bump mdId 0x03 i n

/-! ### Event log (R554-R556, R654) -/


/-- Severity of an event code (R556, R654, *MGT event codes*). -/
def LogCode.severity : LogCode → Nat
  | .common 3 | .common 4 => 2
  | .common 0xF => 0
  | .common _ => 1
  | .mgt c => if c = 0x313 ∨ c = 0x331 then 4 else if c = 0x321 ∨ c = 0x332 then 3 else if c = 0x323 ∨ c = 0x330 then 2
      else if c = 0x320 then 0 else 1
  | .ev e => match e with
    | .timeForwardStep | .dieTimeFault | .timeDisagree | .imageFallback | .driveUnsuitable | .driveCritical | .driveWear | .bayFault
    | .staleSet | .staleCleared | .partnerLost => 2
    | .driveLost | .driveFailed | .driveFault | .positionOut | .groupFailed | .badUnit | .crumbLost | .deferredRange => 3
    | .tamper => 4
    | e => Config.catalogueSeverity (e.ctorIdx)

/-- The code of a record (R556): the block in bits 15:8 and an index, which the release's catalogue gives for a block's own events. -/
def LogCode.number (c : LogCode) (blk : Nat) : Nat := match c with
  | .common i => blk * 256 + i
  | .mgt n => n
  | .ev e => blk * 256 + Config.catalogueIndex e.ctorIdx

/-- A record is due for the NVM log (R555): warning or higher, and codes 0x0310 to 0x0313. -/
def LogCode.kept (c : LogCode) : Bool := decide (2 ≤ c.severity) || (match c with
  | .mgt n => between 0x310 n 0x313
  | _ => false)

/-- A record is appended to the ring of 4,096 with the next seq, and printed on the console (R554, R553). -/
def State.evAppend (s : State) (r : LogRec) : State :=
  let seq := s.r mdId (.mgt .EVLOG_NEXT)
  let m := s.mgt
  let past := decide (4096 ≤ m.evlog.length)
  let e : EvRec := { seq := seq, boot := s.r mdId (.mgt .BOOT_COUNT_count), severity := r.code.severity, r := r }
  let l := (if past then m.evlog.drop 1 else m.evlog) ++ [e]
  let s := s.setMgt { m with evlog := l, nvmDue := if r.code.kept then m.nvmDue ++ [seq] else m.nvmDue }
  let s := if past then (s.mgtBump 2).ev mdId (.mgt .EVENTS_evlog_overwrite) else s
  (((s.w mdId (.mgt .EVLOG_NEXT) (seq + 1)).w mdId (.mgt .EVLOG_STATUS_ram_records) l.length).mgtBump 0).emit (.mgmt 6 0 [seq])

/-- A new period of 10 ms of uptime begins: a summary for every code suppressed in the one before (R556). -/
def State.evPeriod (s : State) : State :=
  let p := s.now / 10000000
  if p = s.mgt.period then s else
    let l := s.mgt.suppressed
    let s := s.setMgt { s.mgt with period := p, counts := [], suppressed := [] }
    foldS (fun (s : State) (e : (Nat × Nat × LogCode) × Nat) =>
      s.evAppend ⟨e.1.1, e.1.2.1, .common 0xF, [e.1.2.2.number e.1.2.1, e.2], s.ts64 mdId, s.tsSet mdId, s.quality mdId, false, s.now⟩) s l

/-- The oldest reported record reaches the management die. -/
def State.evTake (s : State) (r : LogRec) : State :=
  let s := s.evPeriod
  let k := (r.die, r.blk, r.code)
  let n := (alGet s.mgt.counts k).getD 0
  if 64 ≤ n then
    (s.setMgt { s.mgt with suppressed := alPut s.mgt.suppressed k ((alGet s.mgt.suppressed k).getD 0 + 1) }).mgtBump 1
  else (s.setMgt { s.mgt with counts := alPut s.mgt.counts k (n + 1) }).evAppend r

/-! ### Firmware (R540, R542, R543) -/

/-- The selector copy in force, and the rewriting of the other (R83). -/
def State.fwSel (s : State) : FwSelector :=
  let a := s.mgt.fsel0
  let b := s.mgt.fsel1
  if a.valid && (!b.valid || decide (b.seq ≤ a.seq)) then a else if b.valid then b else {}
def State.fwShow (s : State) : State :=
  let x := s.fwSel
  ((s.wb mdId (.mgt .FW_STATUS_trial_pending) x.trial).w mdId (.mgt .FW_STATUS_attempts) x.attempts).w mdId
    (.mgt .FW_STATUS_current_slot) x.current
def State.writeFwSel (s : State) (f : FwSelector → FwSelector) : State :=
  let a := s.mgt.fsel0
  let b := s.mgt.fsel1
  let cur := s.fwSel
  let new := { f cur with valid := true, seq := cur.seq + 1 }
  (if a.valid && (!b.valid || decide (b.seq ≤ a.seq)) then s.setMgt { s.mgt with fsel1 := new } else s.setMgt { s.mgt with fsel0 := new }).fwShow

def State.fwSlot (s : State) (i : Nat) : Option FwImage := if i = 0 then s.mgt.fwA else s.mgt.fwB
def State.setFwSlot (s : State) (i : Nat) (x : Option FwImage) : State :=
  s.setMgt (if i = 0 then { s.mgt with fwA := x } else { s.mgt with fwB := x })

/-- Board description ranges (R542, R489). -/
def boardOk (b : BoardDesc) : Bool :=
  b.magicOk && decide (b.thermMode ≤ 1) && between 1 b.staggerMax 48 && between 5 b.slewDv 120 &&
  (b.holdupMs = 0 || between 5 b.holdupMs 1000) && (b.driveMbps = 0 || between 500 b.driveMbps 16000) && between 500 b.rsUohm 5000 &&
  between 100 b.ilim10ma 1000 && between 2000 b.tripMa 40000 && between 10 b.pFold 200 && between 1 b.theta 200 &&
  between 1 b.tauMs 1000 && between 100 b.fetMaxC 175 && between 5 b.coolHystC 31 && decide (b.ambientC ≤ 100) &&
  between 60 b.thermMaxC 150 && between 5 b.rampLimitMs 200 && between 1 b.limitMs 100 && between 50 b.gnrUs 5000 &&
  between 9000 b.v12ThrMv 11500 && decide (b.warnEnables ≤ 3) && between 85 b.thermWarnC 105 && decide (b.retriesMax ≤ 15) &&
  decide (b.epwLeadMs ≤ 100) && between 100 b.backoffMs 10000 && between 100 b.reseatMinMs 10000 && between 10 b.seatDebMs 1000 &&
  between 1 b.clearS 3600 && decide (30 * b.ilim10ma ≤ 2 * b.tripMa) && decide (b.tripMa * b.rsUohm ≤ 45000000)

/-- Bit of part_mask for the part (spec/00 R2). -/
def partBit (channels : Nat) : Nat := if channels = 6 then 0 else if channels = 4 then 1 else if channels = 2 then 2 else 3

/-- *Firmware validation order*, steps 1 to 11 (R543): the code of the first failure, 0 for none. -/
def State.fwCheck (s : State) (f : FwImage) : Nat :=
  if !f.headerOk then 1
  else if !f.partMask.testBit (partBit s.channels) || decide (s.r mdId (.mgt .ID_stepping) < f.minStepping) then 2
  else if !f.vendorKeysOk then 3
  else if !f.vendorEcdsa then 4
  else if !f.vendorMldsa then 5
  else if s.sec.owner ≠ some f.ownerKeys then 6
  else if !f.ownerEcdsa then 7
  else if !f.ownerMldsa then 8
  else if f.securityVersion < s.mgt.fwFloor then 9
  else if !f.componentsOk then 0xA
  else if !boardOk f.board then 0xB
  else 0

/-- Step 12, for an update only. -/
def State.fwUpdateCheck (s : State) (f : FwImage) : Nat :=
  let c := s.fwCheck f
  let m := s.img.active.getD {}
  let pair := match s.pair.hello with
    | some h => !s.rb 0 (.pair .LINK_STATUS_authenticated) || (decide (h.floor ≤ f.release) && decide (f.pairFloor ≤ h.fw))
    | none => true
  if c ≠ 0 then c else if !between m.fwMin f.release m.fwMax || !pair then 0xC else 0

/-- Secure-world firmware writes the board description's values in Bring-up (R542). -/
def State.boardLoad (s : State) (b : BoardDesc) : State :=
  let w := fun (s : State) (f : BayF) (v : Nat) => s.w mdId (.bay f) v
  let s := w (w (w (w s .CFG_THERM_mode b.thermMode) .CFG_SENSE_stagger_max b.staggerMax) .CFG_RAMP_slew_dv b.slewDv) .CFG_SENSE_rs_uohm b.rsUohm
  let s := (s.w mdId (.fls .BUDGET_holdup_ms) b.holdupMs).w mdId (.fls .BUDGET_drive_mbps) b.driveMbps
  let s := w (w (w (w s .CFG_LIMIT_ilim_10ma b.ilim10ma) .CFG_TRIP_trip_ma b.tripMa) .CFG_LIMIT_p_fold b.pFold) .CFG_THERM_theta b.theta
  let s := w (w (w (w s .CFG_THERM_tau_ms b.tauMs) .CFG_THERM_fet_max_c b.fetMaxC) .CFG_THERM_cool_hyst_c b.coolHystC) .CFG_THERM2_ambient_c b.ambientC
  let s := w (w (w (w s .CFG_THERM2_therm_max_c b.thermMaxC) .CFG_RAMP_ramp_limit_ms b.rampLimitMs) .CFG_LIMIT_limit_ms b.limitMs) .CFG_RAMP_gnr_us b.gnrUs
  let s := (s.w mdId (.fls .WARN_CFG_v12_thr_mv) b.v12ThrMv).wb mdId (.fls .WARN_CFG_psu_enable) (b.warnEnables.testBit 0)
  let s := (s.wb mdId (.fls .WARN_CFG_v12_enable) (b.warnEnables.testBit 1)).w mdId (.mgt .THERM_CFG_warn_c) b.thermWarnC
  let s := w (w (w s .CFG_RETRY_retries_max b.retriesMax) .CFG_SEAT_epw_lead_ms b.epwLeadMs) .CFG_RETRY_backoff_ms b.backoffMs
  w (w (w s .CFG_RETRY_reseat_min_ms b.reseatMinMs) .CFG_SEAT_seat_deb_ms b.seatDebMs) .CFG_SEAT_clear_s b.clearS

/-- An update ends: failed (state 5) or cancelled (6) with a code; the slot's header is erased (R546, R547). -/
def State.updateEnds (s : State) (st code : Nat) : State :=
  match s.mgt.update with
  | none => s
  | some u =>
    let s := s.setMgt { s.mgt with update := none }
    let s := if u.comp = 1 then s.setFwSlot (1 - s.fwSel.current) none else s
    let s := ((s.w mdId (.mgt .FW_STATUS_update_state) st).w mdId (.mgt .FW_STATUS_fail_code) code).ev mdId (.mgt .EVENTS_update_failed)
    s.logMgt 0x321 [u.comp, code]
/-- The power warning stops a slot write (R559). -/
def State.updateWarn (s : State) : State :=
  if s.mgt.update.any (fun u => u.comp = 1) && s.r mdId (.mgt .FW_STATUS_update_state) ≠ 3 then s.updateEnds 5 0xD else s

/-- The first entry to Active, Standby or Maintenance confirms a trial release (R548, R544). -/
def State.fwConfirm (s : State) : State :=
  let x := s.fwSel
  if !s.rb mdId (.mgt .FW_STATUS_trial_running) then s else
    let old := ((s.fwSlot x.current).map (·.securityVersion)).getD 0
    let rel := s.r mdId (.mgt .FW_RELEASE_release)
    let s := s.writeFwSel (fun y => { y with current := 1 - y.current, trial := false, attempts := 0, currentRelease := rel, trialRelease := 0 })
    let floor := max s.mgt.fwFloor old
    let s := ((s.setMgt { s.mgt with fwFloor := floor }).w mdId (.mgt .FW_FLOOR_floor) floor).w mdId (.mgt .FW_STATUS_trial_running) 0
    s.logMgt 0x324 [rel, floor]

end Sys2Proof.Machine
end

