-- ==== Sys2Proof/Machine/FlushOps.lean ====
section
/-! DEFINITION. Operations of the flush engine (spec/16 R463-R471): entry to Flush, the records of a set and their placing,
the loss of a member, and the end of a channel's flush. -/

set_option Elab.async false

namespace Sys2Proof.Machine

def State.flsBump (s : State) (d i : Nat) (n : Nat := 1) : State := s.bump d 0x31 i n
def State.fl (s : State) (d : Nat) : FlsDie := (alGet s.fls.dies d).getD {}
def State.setFl (s : State) (d : Nat) (x : FlsDie) : State := { s with fls := { s.fls with dies := alPut s.fls.dies d x } }
def flushOwner (code n : Nat) : DrvOwner := { kind := 12, a := code, b := n }

/-- EPW_N is asserted on every bay that the package drives (spec/17 R497). -/
def State.earlyPower (s : State) : State :=
  foldS (fun (s : State) n => if s.rb mdId (.bay .B_STATE_driven) n then (s.w mdId (.bay .B_STATE_epw) 1 n).emit (.epw n true) else s) s (List.range 48)

/-- The flush is complete when every channel die is done, stopped or not writing (R467). -/
def State.flushEnds (s : State) : State :=
  let past := (s.cds.map cdId).all (fun d => !s.cdUp d || s.chanFailed d || between 6 (s.r d (.fls .CH_STATUS_state)) 8)
  if s.modeNow ≠ 8 ∨ !past ∨ s.rb mdId (.fls .STATUS_flush_done) then s else
    let s := (s.w mdId (.fls .STATUS_flush_done) 1).earlyPower
    if s.rb mdId (.fls .STATUS_warning) then s else s.trig 8

/-- A channel stops (R469): no close record. -/
def State.flushStop (s : State) (d : Nat) : State :=
  if !between 1 (s.r d (.fls .CH_STATUS_state)) 5 then s else
    let s := (s.w d (.fls .CH_STATUS_state) 7).ev d (.fls .EVENTS_early_end)
    ((s.ev mdId (.fls .EVENTS_early_end)).flsBump mdId 2).flushEnds

/-- Blocks a member's open and closed sets hold, as distances from the start of a new set in the log (R464). -/
def hdrRoom (h : FlushHeader) : Nat :=
  let live := h.sets.filter (fun x => x.2.2.2 = 1 || x.2.2.2 = 2)
  (live.map (fun x => (x.2.1 + 1015806 - h.next) % 1015806)).foldl min 1015806
/-- The set entry a flush takes: a free one, or the Consumed one with the lowest start. -/
def hdrEntry (h : FlushHeader) : Option Nat :=
  if h.sets.length < 3 then some h.sets.length
  else match (List.range 3).find? (fun i => ((h.sets.getD i (0, 0, 0, 0)).2.2.2) = 0) with
    | some i => some i
    | none => ((List.range 3).filter (fun i => (h.sets.getD i (0, 0, 0, 0)).2.2.2 = 3)).foldl (fun (m : Option Nat) i => match m with
        | none => some i
        | some j => if (h.sets.getD i (0, 0, 0, 0)).2.1 < (h.sets.getD j (0, 0, 0, 0)).2.1 then some i else some j) none

def State.flHeader (s : State) (d b : Nat) : FlushHeader := ((s.fl d).hdrs.find? (fun h => h.bay = b)).getD { bay := b }
/-- The copy of a member's header that is not in force is rewritten, generation raised (R464). -/
def State.putHeader (s : State) (d : Nat) (h : FlushHeader) (o : DrvOwner) : State :=
  let x := s.fl d
  let h := { h with generation := h.generation + 1 }
  (s.setFl d { x with hdrs := x.hdrs.filter (fun y => y.bay ≠ h.bay) ++ [h] }).drvIssue d h.bay 1 (32768 + h.generation % 2) 1 o
def setAt (l : List (Nat × Nat × Nat × Nat)) (i : Nat) (e : Nat × Nat × Nat × Nat) : List (Nat × Nat × Nat × Nat) :=
  if i < l.length then l.set i e else l ++ [e]

/-- Numbers of payload blocks cut into records of at most 123. -/
def recordSizes (n : Nat) : List Nat :=
  (List.range (n / 123)).map (fun _ => 123) ++ (if n % 123 = 0 then [] else [n % 123])

/-- The records of a set, placed round-robin over the members in order (R465, R467, R468). -/
def State.flushPlan (s : State) (d : Nat) (members : List Nat) : List FlRec :=
  let x := s.sp d
  let nCrumbs := s.crumbOcc d
  let dirty := x.index.filter (fun y => y.dirty && x.ring.any (fun r => r.c.seq = y.seq && r.c.kind = 1 && !r.retired))
  let heads : List (Nat × Nat × Nat) := members.map (fun _ => (1, 0, 0))
  let crumbs := (recordSizes ((nCrumbs + 63) / 64)).mapIdx (fun i b => (2, b, min (64 * b) (nCrumbs - 64 * 123 * i)))
  let data := (recordSizes dirty.length).map (fun b => (3, b, 0))
  (heads ++ crumbs ++ data).mapIdx (fun i r =>
    { recSeq := i + 1, bay := members.getD (i % max 1 members.length) 0, kind := r.1, blocks := r.2.1, crumbs := r.2.2 })

/-- The next waiting record of a member is sealed and written, unless the log has no room for it (R464, R465). -/
def State.flushNext (s : State) (d b : Nat) : State :=
  let x := s.fl d
  if x.queue.any (fun r => r.bay = b && r.progress = 1) then s else
  match x.queue.find? (fun r => r.bay = b && r.progress = 0) with
  | none => s
  | some r =>
    if !s.sealReady d then s.sealRefuse d else
    let h := s.flHeader d b
    let at_ := (alGet x.placed b).getD 0
    if hdrRoom h < at_ + 1 + r.blocks then
      -- No room: this member takes no further records, and its waiting records go to the next members in rotation.
      let rest := x.members.filter (· ≠ b)
      let s := s.setFl d { x with members := rest, queue := x.queue.map (fun (y : FlRec) =>
        if y.bay = b && y.progress = 0 then { y with bay := rest.getD (y.recSeq % max 1 rest.length) b } else y) }
      if rest.isEmpty then s.flushStop d else s
    else
      let s := s.setFl d { x with placed := alPut x.placed b (at_ + 1 + r.blocks)
                                  queue := x.queue.map (fun (y : FlRec) => if y.recSeq = r.recSeq then { y with progress := 1 } else y) }
      let s := (s.sealTake d).cipBump d 2 (4096 * r.blocks)
      s.drvIssue d b 1 (32770 + (h.next - 32770 + at_) % 1015806) (1 + r.blocks) (flushOwner 2 r.recSeq)

/-- FLUSH_ENTRY_QUIESCE on a channel die (R466): uncommitted commands are abandoned and steps of reshapes given up. -/
def State.flushQuiesce (s : State) (d : Nat) : State :=
  let s := foldS (fun (s : State) (z : Nat × CmdSlot) =>
    if between 1 z.2.state 3 then (s.setChain d z.1 { s.chain d z.1 with state := 0 }).freeSlot d z.1 else s) s (s.cd d).slots
  let x := s.sp d
  let s := (s.setSp d { x with reserved := 0 }).w d (.arb .FREEZE_mask) 0
  let s := foldS (fun (s : State) g => match s.rshOf d g with
    | some r => if r.running then (s.stepUnlock d g r).setRsh d g { r with step := 0, passStep := 0, buf := [] } else s
    | none => s) s (List.range 4)
  let a := (alGet s.spg.arbs d).getD {}
  { s with spg := { s.spg with arbs := alPut s.spg.arbs d { a with flush := true } } }

/-- A channel's flush begins: headers with the new set Open on every member that has an entry for it (R467 step 1). -/
def State.flushBegin (s : State) (d : Nat) : State :=
  let members := (s.flushMembers d).filter (fun b => (hdrEntry (s.flHeader d b)).isSome)
  let epoch := s.r d (.fls .CH_EPOCH)
  let x := s.fl d
  let s := s.setFl d { x with members := members, listed := members, queue := [], placed := [], lost := false, closed := [] }
  if members.isEmpty then (s.w d (.fls .CH_STATUS_state) 2).flushStop d else
    let s := (s.w d (.fls .CH_STATUS_state) 2).w d (.fls .CH_PROGRESS_records) 0
    let plan := s.flushPlan d members
    let s := s.setFl d { s.fl d with queue := plan }
    foldS (fun (s : State) b =>
      let h := s.flHeader d b
      s.putHeader d { h with sets := setAt h.sets ((hdrEntry h).getD 0) (epoch, h.next, 0, 1) } (flushOwner 1 b)) s members

/-- Entry to Flush (R466, R470): only a package with a granted claim writes records. -/
def State.flushEntry (s : State) : State :=
  let claim := s.rb mdId (.pair .STATUS_claim_granted)
  let s := ({ s with mode := { s.mode with withdrawn := true } } : State).epAbsent
  let s := ((s.w mdId (.fls .STATUS_flush_done) 0).w mdId (.fls .STATUS_deadline) 0).flsBump mdId 1
  let s := foldS (fun (s : State) c =>
    let d := cdId c
    if !s.cdUp d then s else
      let s := s.flushQuiesce d
      if claim then s.flushBegin d else s.w d (.fls .CH_STATUS_state) 8) s s.cds
  s.flushEnds

/-- A member that fails stops taking records; its records not complete go to the next member in rotation (R469). -/
def State.flushMemberLost (s : State) (d b : Nat) : State :=
  let x := s.fl d
  let rest := x.members.filter (· ≠ b)
  let moved := x.queue.filter (fun r => r.bay = b && r.progress ≠ 2)
  let s := (s.setFl d { x with members := rest, lost := true, queue := x.queue.map (fun (y : FlRec) =>
    if y.bay = b && y.progress ≠ 2 then { y with bay := rest.getD (y.recSeq % max 1 rest.length) b, progress := 0 } else y) }).ev d
    (.fls .EVENTS_member_lost)
  let s := s.flsBump d 3 moved.length
  if rest.isEmpty then s.flushStop d else foldS (fun (s : State) m => s.flushNext d m) s rest

/-- Largest n with records 1 to n complete. -/
def flushReach (q : List FlRec) : Nat → Nat → Nat
  | 0, n => n
  | k + 1, n => if q.any (fun r => r.recSeq = n + 1 && r.progress = 2) then flushReach q k (n + 1) else n

/-- What the channel writes next, once every record of the earlier kinds is complete (R467). -/
def State.flushAdvance (s : State) (d : Nat) : State :=
  let x := s.fl d
  let waiting (k : Nat) : Bool := x.queue.any (fun r => r.kind = k && r.progress ≠ 2)
  let s := s.w d (.fls .CH_PROGRESS_records) (flushReach x.queue x.queue.length 0)
  let cur := s.r d (.fls .CH_STATUS_state)
  if waiting 1 then s
  else if waiting 2 then s.w d (.fls .CH_STATUS_state) 3
  else if waiting 3 then s.w d (.fls .CH_STATUS_state) 4
  else if cur < 5 then
    -- Close: a kind 4 record on every member that took records.
    let s := s.w d (.fls .CH_STATUS_state) 5
    foldS (fun (s : State) b =>
      let h := s.flHeader d b
      let at_ := (alGet (s.fl d).placed b).getD 0
      s.drvIssue d b 1 (32770 + (h.next - 32770 + at_) % 1015806) 1 (flushOwner 3 b)) s x.members
  else s

end Sys2Proof.Machine
end

