-- ==== Sys2Proof/Machine/PairOps.lean ====
section
/-! DEFINITION. Operations of the partner link, the lease engine, the interlock claim and fencing (spec/15). -/

set_option Elab.async false

namespace Sys2Proof.Machine

def State.setPair (s : State) (p : PairState) : State := { s with pair := p }

/-! ### The partner link (R416-R422) -/

/-- The partner link is Up (R416): every partner lane tracks. -/
def State.partnerLink (s : State) : Bool := s.paired && (List.range 8).all (fun i => s.laneTracks (32 + i))
/-- A NAK, at most once per 1 µs (R420). -/
def State.partnerNak (s : State) : State :=
  let ok := match s.pair.nakAt with
    | some t => decide (t + 1000 ≤ s.now)
    | none => true
  if ok then
    ((s.setPair { s.pair with nakAt := some s.now }).pairBump 0 6).emit (.partner 0xFF 255 s.pair.rxSeq [1] [])
  else s

/-- Keys of a direction (R422): label of the role that seals, phase. -/
def State.linkKey (s : State) (role phase : Nat) : Nat := Config.digest [0x504C, role, s.pair.secret, phase]

/-- A GCM slot of the port die moves to another and becomes Empty (R409). -/
def State.promote (s : State) (from_ to_ : Nat) : State :=
  let s := s.setKeySlot 0 (slotKey true to_) (s.keySlot 0 (slotKey true from_))
  let s := (s.w 0 (.cip .GSLOT_FIXED_fixed) (s.r 0 (.cip .GSLOT_FIXED_fixed) from_) to_).w 0 (.cip .GSLOT_CTR)
    (s.r 0 (.cip .GSLOT_CTR) from_) to_
  let s := (s.setSlotState 0 true to_ (s.r 0 (.cip .GSLOT_STATE_state) from_)).setSlotState 0 true from_ 0
  let s := ((s.setKeySlot 0 (slotKey true from_) {}).w 0 (.cip .GSLOT_CTR) 0 from_).w 0 (.cip .GSLOT_FIXED_fixed) 0 from_
  s.cipBump 0 6

/-! ### Present drives and leases (R432-R436) -/

/-- Lease drives: Ready, of class Member, Blank or Released (spec/13 R379). -/
def State.leaseDrives (s : State) : List (Nat × Nat) :=
  ((s.cds.map cdId).filter s.cdUp).flatMap (fun d => ((List.range 8).filter (fun b =>
    s.r d (.drv .B_STATE_state) b = 6 && between 1 (s.r d (.drv .B_STATE_class) b) 3)).map (fun b => (d, b)))

/-- P (R432). -/
def State.presentDrives (s : State) : Nat :=
  ((s.cds.map cdId).flatMap (fun d => (List.range 8).filter (fun b =>
    let n := shelfBay d b
    s.rb mdId (.bay .B_STATE_seated) n && s.rb mdId (.bay .B_STATE_pg) n &&
      !(s.r d (.drv .B_STATE_class) b = 4 || s.r d (.drv .B_STATE_class) b = 5 || s.r d (.drv .B_STATE_state) b = 8)))).length
/-- m, a strict majority. -/
def State.strictMajority (s : State) : Nat := s.presentDrives / 2 + 1

def State.lease (s : State) (d b : Nat) : LeaseRec := (alGet s.pair.leases (d, b)).getD {}
def State.setLease (s : State) (d b : Nat) (l : LeaseRec) : State :=
  s.setPair { s.pair with leases := alPut s.pair.leases (d, b) l }

def State.leaseNs (s : State) : Nat := 1000000 * s.r mdId (.pair .LEASE_CFG_duration_ms)
def State.lossNs (s : State) : Nat :=
  1000 * s.r mdId (.pair .HB_CFG_hb_miss) * s.r mdId (.pair .HB_CFG_hb_interval_us) + 2 * s.ePair

/-- Insertion in falling order, and the m-th largest of a list (R435). -/
def insertDesc (a : Nat) : List Nat → List Nat
  | [] => [a]
  | b :: l => if b ≤ a then a :: b :: l else b :: insertDesc a l
def sortDesc (l : List Nat) : List Nat := l.foldr insertDesc []
def mthLargest (m : Nat) (l : List Nat) : Option Nat := if m = 0 then none else (sortDesc l)[m - 1]?

/-- The drive is held; the partner's lease on it is lapsed (R435, R436). -/
def State.holds (s : State) (d b : Nat) : Bool := match (s.lease d b).x with
  | some x => decide (s.ts64 mdId + s.ePair < x)
  | none => false
def State.lapsed (s : State) (d b : Nat) : Bool := match (s.lease d b).y with
  | some y => s.tsSet mdId && decide (y + s.ePair + 50000 ≤ s.ts64 mdId)
  | none => false

/-- Acquisition is allowed now (R427, R434, R35, R65, R444). -/
def State.mayAcquire (s : State) : Bool :=
  let p := s.pair
  let order := if s.modeNow = 7 then true
    else if s.modeNow = 3 then s.solo && s.mode.workDone
    else if s.modeNow = 4 then
      p.refusal ≠ 5 && p.refusal ≠ 7 &&
      (if p.seen && p.paired then s.role = 1 || p.acqState = 3
       else s.role = 1 || s.mode.pairWaitOver || (s.rb mdId (.pair .STATUS_partner_lost) && !p.seen))
    else false
  order && s.tsSet mdId && decide (s.ePair ≤ s.r mdId (.pair .LEASE_CFG_duration_ms) * 250000) &&
    !s.rb mdId (.pair .STATUS_stale)

/-- A mask over the 48 bays. -/
def bayMask (l : List (Nat × Nat)) : Nat := (l.map (fun e => 2 ^ shelfBay e.1 e.2)).foldl (· + ·) 0

/-- No strict majority is obtainable (R427), and the acquisition state reported. -/
def State.noMajority (s : State) : Bool :=
  s.rb mdId (.pair .STATUS_stale) || s.presentDrives = 0 || s.pair.exhausted ||
  (match s.pair.acquireSince with
   | some t => decide (t + 1000000 * (s.r mdId (.pair .LEASE_CFG_duration_ms) + s.r mdId (.pair .LEASE_CFG_renew_ms)) ≤ s.ts64 mdId) &&
       s.leaseDrives.all (fun e => (s.lease e.1 e.2).read) &&
       decide ((s.leaseDrives.filter (fun e => s.holds e.1 e.2)).length < s.strictMajority)
   | none => false)
def State.acqNow (s : State) : Nat :=
  if s.modeNow = 4 && s.noMajority then 3 else if s.rb mdId (.pair .STATUS_majority) then 2
  else if s.mayAcquire then 1 else 0

/-- The reason shown while the package waits (spec/02 R34). -/
def State.pairReason (s : State) : Nat :=
  if s.rb mdId (.pair .STATUS_stale) then 8
  else if s.modeNow ≠ 4 ∧ s.modeNow ≠ 3 then 0
  else if s.pair.refusal ≠ 0 then s.pair.refusal
  else if !s.tsSet mdId || decide (s.r mdId (.pair .LEASE_CFG_duration_ms) * 250000 < s.ePair) then 4
  else if s.noMajority then 3
  else if s.modeNow = 4 && !s.pair.seen then 1 else 0

/-- R435: the evaluation of the own lease and of the partner's, and what the registers show of it. -/
def State.leaseEval (s : State) : State :=
  let drives := s.leaseDrives
  let held := drives.filter (fun e => s.holds e.1 e.2)
  let lapsed := drives.filter (fun e => s.lapsed e.1 e.2)
  let m := s.strictMajority
  let p := s.presentDrives
  let majority := p ≠ 0 && decide (m ≤ held.length)
  let drop := (mthLargest m (drives.filterMap (fun e => (s.lease e.1 e.2).x))).map (· - s.ePair)
  let s := ((s.w mdId (.pair .LEASE_COUNT_present) p).w mdId (.pair .LEASE_COUNT_held) held.length).w mdId
    (.pair .LEASE_COUNT_lapsed) lapsed.length
  let s := (s.w mdId (.pair .HELD) (bayMask held)).w mdId (.pair .LAPSED) (bayMask lapsed)
  let s := (s.wb mdId (.pair .STATUS_majority) majority).wb mdId (.pair .STATUS_partner_lapsed) (p ≠ 0 && decide (m ≤ lapsed.length))
  let s := (s.w mdId (.pair .DROP) (drop.getD 0)).w mdId (.pair .STATUS_role) s.role
  let s := if s.mayAcquire then (if s.pair.acquireSince.isNone then s.setPair { s.pair with acquireSince := some (s.ts64 mdId) } else s)
    else s.setPair { s.pair with acquireSince := none }
  let s := s.w mdId (.pair .STATUS_reason) s.pairReason
  let a := s.acqNow
  let s := if a ≠ s.pair.acqSent && s.authenticated then (s.setPair { s.pair with acqSent := a }).sendControl 0x0D [a] else s
  -- The partner's leases lapsed on a strict majority, in Standby; stale stands (R444, R455).
  if s.modeNow = 6 && s.rb mdId (.pair .STATUS_partner_lapsed) && !s.rb mdId (.pair .STATUS_stale) && !s.pair.lapseRaised then
    (s.setPair { s.pair with lapseRaised := true }).trig 0xA
  else s

/-! ### Lease slots (spec/13, *Lease slot*) -/

def crc32Bits : Nat → Nat → Nat
  | c, 0 => c
  | c, n + 1 => crc32Bits (if c % 2 = 1 then (c / 2).xor 0xEDB88320 else c / 2) n
def crc32Bytes : Nat → Nat → Nat → Nat
  | c, _, 0 => c
  | c, v, n + 1 => crc32Bytes (crc32Bits (c.xor (v % 256)) 8) (v / 256) n
/-- CRC-32 (IEEE 802.3) of the n low bytes of a number. -/
def crc32 (v n : Nat) : Nat := (crc32Bytes 0xFFFFFFFF v n).xor 0xFFFFFFFF

/-- Bytes of a block as a number, least significant byte first. -/
def blockField (b : Block) (off n : Nat) : Nat := b.toNat / 2 ^ (8 * off) % 2 ^ (8 * n)

/-- A lease slot as a block of 4 KiB. -/
def LeaseSlot.block (x : LeaseSlot) : Block :=
  let flags := (if x.released then 1 else 0) + (if x.takeover then 2 else 0)
  let v := 0x45534C46 + 2 ^ 32 + x.role * 2 ^ 40 + flags * 2 ^ 48 + x.seq % 2 ^ 64 * 2 ^ 64 + x.package % 2 ^ 128 * 2 ^ 128 +
    x.grant % 2 ^ 64 * 2 ^ 256 + x.expiry % 2 ^ 64 * 2 ^ 320 + x.err % 2 ^ 32 * 2 ^ 384 + x.quality % 256 * 2 ^ 416 +
    x.config % 2 ^ 128 * 2 ^ 448 + x.fw % 2 ^ 32 * 2 ^ 576
  BitVec.ofNat 32768 (v + crc32 v 252 * 2 ^ 2016)
def slotMagic (b : Block) : Bool := blockField b 0 4 = 0x45534C46
def slotOf (b : Block) : LeaseSlot :=
  { valid := slotMagic b && crc32 (blockField b 0 252) 252 = blockField b 252 4, role := blockField b 5 1
    released := (blockField b 6 2).testBit 0, takeover := (blockField b 6 2).testBit 1, seq := blockField b 8 8
    package := blockField b 16 16, grant := blockField b 32 8, expiry := blockField b 40 8, err := blockField b 48 4
    quality := blockField b 52 1, config := blockField b 56 16, fw := blockField b 72 4 }

/-- The package's own slot, and the other (R433). -/
def State.ownSlot (s : State) : Nat := if s.role = 2 then 9 else 8
def State.otherSlot (s : State) : Nat := if s.role = 2 then 8 else 9

/-- The lease engine writes the package's slot on a drive (R434); `released` is the write of R438. -/
def State.leaseWrite (s : State) (d b : Nat) (released : Bool := false) : State :=
  let l := s.lease d b
  let seq := l.seq + 1
  let ts := s.ts64 mdId
  let expiry := if released then ts else ts + s.leaseNs
  let x : LeaseSlot := { role := s.role, released := released, takeover := s.modeNow = 7, seq := seq, package := Config.packageId
                         grant := ts, expiry := expiry, err := s.ePair, quality := s.quality mdId
                         config := s.r mdId (.img .ACTIVE_HASH_bytes), fw := s.r mdId (.mgt .FW_RELEASE_release) }
  (s.setLease d b { l with seq := seq, flights := l.flights ++ [(seq, expiry, released)] }).drvIssue d b 1 s.ownSlot 1
    { kind := 10, a := 0, b := seq } 0 [x.block]

/-! ### The claim (R440, R441) -/

/-- Write gates close and data presence is withdrawn (R435, R438). -/
def State.closeGates (s : State) : State :=
  let s := foldS (fun (s : State) c => s.w (cdId c) (.drv .STATUS_write_gate) 0) s s.cds
  ({ s with mode := { s.mode with withdrawn := true } } : State).epAbsent
def State.openGates (s : State) : State := foldS (fun (s : State) c => if s.cdUp (cdId c) then s.w (cdId c) (.drv .STATUS_write_gate) 1 else s) s s.cds

/-- INTLK_OUT_N is deasserted. -/
def State.dropClaim (s : State) : State :=
  let was := s.rb mdId (.pair .STATUS_claim_asserted)
  let s := s.setPair { s.pair with claimAt := none, retryAt := none }
  let s := (s.w mdId (.pair .STATUS_claim_asserted) 0).w mdId (.pair .STATUS_claim_granted) 0
  if was then s.emit (.pin "INTLK_OUT_N" true) else s
/-- A granted claim is lost (R441). -/
def State.claimGone (s : State) : State :=
  if s.rb mdId (.pair .STATUS_claim_granted) then
    ((s.dropClaim.closeGates).ev mdId (.pair .EVENTS_claim_lost)).logEv mdId 0x30 .claimLost [s.modeNow]
  else s.dropClaim.closeGates

/-- R438: the claim is deasserted and the gates close; then the slot is written released on every lease drive. -/
def State.leaseRelease (s : State) : State :=
  foldS (fun (s : State) (e : Nat × Nat) => s.leaseWrite e.1 e.2 true) s.claimGone s.leaseDrives

/-- A claim is contended (R440): deasserted, counted, and retried after the role's spacing, up to 8 times. -/
def State.contend (s : State) : State :=
  let s := s.dropClaim.pairBump mdId 4
  if s.pair.retries < 8 then
    s.setPair { s.pair with retries := s.pair.retries + 1, retryAt := some (s.now + if s.role = 2 then 500000 else 50000) }
  else ((s.setPair { s.pair with exhausted := true }).ev mdId (.pair .EVENTS_claim_contended)).logEv mdId 0x30 .claimContended []

/-- The claim is asserted. -/
def State.assertClaim (s : State) : State :=
  let s := ((s.setPair { s.pair with claimAt := some s.now, retryAt := none }).w mdId (.pair .STATUS_claim_asserted) 1).emit
    (.pin "INTLK_OUT_N" false)
  if s.rb mdId (.pair .STATUS_peer_claim) then s.contend else s
/-- INTERLOCK_CLAIM_REQUEST (R441): with a strict majority held, in Pairing, in Takeover, and in Bring-up in Solo. -/
def State.claimRequest (s : State) : State :=
  if s.rb mdId (.pair .STATUS_majority) && s.pair.claimAt.isNone && s.pair.retryAt.isNone && !s.pair.exhausted &&
      (s.modeNow = 4 || s.modeNow = 7 || (s.modeNow = 3 && s.solo)) then s.assertClaim else s

/-! ### Fencing (R442, R443) -/

/-- Every Ready drive's Reservation Report is asked for. -/
def State.fenceStart (s : State) : State :=
  let drives := ((s.cds.map cdId).filter s.cdUp).flatMap (fun d => ((List.range 8).filter (fun b =>
    s.r d (.drv .B_STATE_state) b = 6)).map (fun b => (d, b)))
  let s := s.setPair { s.pair with fencing := drives, fenced := [], fenceFailed := [] }
  foldS (fun (s : State) (e : Nat × Nat) => (s.drvIssue e.1 e.2 5 0 0 { kind := 18, a := 0, b := e.2 }).pairBump mdId 7) s drives

/-- Fencing may start: the claim is granted; in Pairing with a paired partner its key report has come (R442). -/
def State.fenceDue (s : State) : State :=
  let p := s.pair
  if s.rb mdId (.pair .STATUS_claim_granted) && p.fencing.isEmpty && p.fenced.isEmpty && p.fenceFailed.isEmpty && !p.fenceDone &&
      (s.modeNow = 7 || (s.modeNow = 4 && (!(p.seen && p.paired) || p.partnerKey.isSome))) then s.fenceStart else s

/-- Fencing has ended on every drive: Pairing may be left; Takeover goes on to replay, or fails (R443). -/
def State.fenceEnd (s : State) : State :=
  let p := s.pair
  if !p.fencing.isEmpty ∨ p.fenceDone then s
  else if s.modeNow = 7 then
    if p.fenced.length < s.strictMajority then (s.logEv mdId 0x30 .fencingFailed [p.fenced.length]).trig 8 0x0B
    else (s.setPair { p with fenceDone := true }).openGates
  else if s.modeNow = 4 then (s.setPair { p with fenceDone := true }).trig 8
  else s

/-! ### The mirror condition (R38, R428-R431, R445) -/

/-- What PAIR.CD_STATUS shows of the mirror condition, and the groups of R146. -/
def State.mirrorShow (s : State) : State :=
  let s := foldS (fun (s : State) c => s.wb (cdId c) (.pair .CD_STATUS_mirrored) (s.mirrored (cdId c))) s s.cds
  s.mirrorGroups

/-- No Crumb of a die waits for the partner any more. -/
def State.ringUnmirrored (s : State) (d : Nat) : State :=
  ((s.mapRing d (fun r => { r with placed := true, retired := r.retired || (lastRoom r.c.kind && r.c.kind ≠ 0x21 && r.mirrored) })).crumbShow d).repairsLost d

/-- The partner's channel has Failed: this package's channel of that index is Unmirrored, and its waiting writes go on (R431, R198). -/
def State.channelUnmirrors (s : State) (d : Nat) : State := (s.ringUnmirrored d).releaseChains (fun k => k = d)

/-- The Active becomes Unmirrored: the waiting writes are released, and every shadow bit is cleared (R198, R430). -/
def State.unmirror (s : State) : State :=
  let s := s.w mdId (.pair .STATUS_mirror) 2
  let s := foldS (fun (s : State) c =>
    let d := cdId c
    (foldS (fun (s : State) w => s.w d (.pair .SHADOW_bits) 0 w) s (List.range 128)).ringUnmirrored d) s s.cds
  let s := s.setPair { s.pair with lossStage := 0, renewed := [] }
  s.mirrorShow.releaseMirror

/-- Stale (R444): kept through warm resets, logged. -/
def State.staleSet (s : State) : State :=
  if s.rb mdId (.pair .STATUS_stale) then s else
    ((s.w mdId (.pair .STATUS_stale) 1).ev mdId (.pair .EVENTS_stale)).logEv mdId 0x30 .staleSet [s.pair.lastTs.getD 0]

/-- Seeding is over or abandoned. -/
def State.seedOff (s : State) : State :=
  let s := foldS (fun (s : State) c => s.w (cdId c) (.pair .CD_STATUS_seeding) 0) s s.cds
  (s.setPair { s.pair with cuts := [], seeded := false }).w mdId (.pair .STATUS_seeding) 0

/-- What LAT.STATUS shows of the ring in force on every die of it (spec/01 R23, R24, spec/23 R634): this package's dies that are
not bypassed, and the partner's while the pair ring is closed. -/
def State.ringShow (s : State) : State :=
  let v := s.r mdId (.rst .DIE_STATE_dies)
  let own := 1 + (s.rst.lat.filter (fun d => !v.testBit (4 * d + 2))).length
  let pair := s.r mdId (.lat .STATUS_pair_ring)
  let other := if pair = 0 then 0 else 2 + ((s.pair.hello.map (·.partCode)).getD 0x4806) % 16
  foldS (fun (s : State) d => (s.w d (.lat .STATUS_ring_dies) (own + other)).w d (.lat .STATUS_pair_ring) pair) s (mdId :: s.rst.lat)

/-! ### Handover (R449) -/

/-- The Active asks the Standby for a planned handover. -/
def State.handoverAsk (s : State) (maint : Bool) : State :=
  let s := (s.setPair { s.pair with ho := 1, hoAt := s.now, hoMaint := maint }).sendControl 0x06
  -- The groups report Change (spec/09 R262).
  foldS (fun (s : State) c => if s.cdUp (cdId c) then s.nsmShow (cdId c) else s) s s.cds
/-- A handover can be asked for: Mirrored Active, no handover in hand. -/
def State.handoverOk (s : State) : Bool := s.modeNow = 5 && s.paired && s.pair.seen && s.r mdId (.pair .STATUS_mirror) = 1 && s.pair.ho = 0
/-- The drain of R36 (spec/02) begins: gates that hold 0 take 3, and the limit runs. -/
def State.drainStart (s : State) : State :=
  let s := { s with mode := { s.mode with drain := some (s.now + 1000000 * (s.img.active.getD {}).pkg.drainMs) } }
  foldS (fun (s : State) c =>
    let d := cdId c
    if s.cdUp d && s.r d (.cmd .GATE_refuse) = 0 then (s.w d (.cmd .GATE_refuse) 3).nsmShow d else s) s s.cds
/-- R423: the partner is lost. -/
def State.partnerLost (s : State) : State :=
  let open_ := s.rb mdId (.lat .STATUS_pair_ring)
  let s := ((s.w mdId (.lat .STATUS_pair_ring) 0).w 0 (.pair .LINK_STATUS_ring_closed) 0).ringShow
  let s := if open_ then s.ev mdId (.lat .EVENTS_ring_opened) else s
  let s := (s.w 0 (.pair .LINK_STATUS_authenticated) 0).w mdId (.pair .STATUS_partner_lost) 1
  let s := (((s.ev mdId (.pair .EVENTS_partner_lost)).ev 0 (.pair .EVENTS_partner_lost)).pairBump mdId 5).logEv mdId 0x30 .partnerLost
    [s.pair.lastTs.getD 0]
  let p := s.pair
  let seeding := p.seeded || s.rb mdId (.pair .STATUS_seeding)
  let s := s.setPair { p with seen := false, paired := false, hello := none, partnerKey := none, acqState := 0, rekey := false, attempts := 0
                              replay := [], carried := [], ho := if p.ho = 3 then 3 else 0
                              hoMaint := p.hoMaint && decide (p.ho = 3)
                              streamLost := p.streamLost || s.modeNow = 6 }
  let s := { s with tim := { s.tim with partnerGood := false }, img := { s.img with peer := none } }
  -- A re-seed that the loss cuts short leaves the package being seeded stale.
  let s := if p.seeded && s.modeNow = 4 then s.staleSet else s
  let s := if seeding then s.seedOff else s
  -- A handover ends with the loss (R455); the command to enter Maintenance goes on without it.
  let s := if p.ho = 1 ∨ p.ho = 2 then
      let s := foldS (fun (s : State) c => (s.nsmShow (cdId c)).offer (cdId c)) s s.cds
      if p.hoMaint && s.modeNow = 5 && s.mode.drain.isNone then s.drainStart else s
    else s
  if s.modeNow = 5 && s.r mdId (.pair .STATUS_mirror) = 1 then
    s.setPair { s.pair with lossStage := 1, h0 := s.ts64 mdId + s.lossNs, renewed := [] }
  else s

/-! ### Re-seed (R428) -/

/-- The Active starts a re-seed: Praline's transfer, the seed cuts, then dirty blocks and unretired Crumbs below the cuts. -/
def State.reseedStart (s : State) : State :=
  let chans := s.cds.filter (fun c => s.cdUp (cdId c) && !s.chanFailed (cdId c) && !s.rb (cdId c) (.pair .CD_STATUS_partner_failed))
  let s := s.w mdId (.pair .STATUS_seeding) 1
  let gens := s.cip.gens.flatMap (fun e => [e.1.1, e.1.2, e.2])
  let s := s.sendPartner 0x0B 255 (s.drv.shelf.getD 0 :: s.cip.mediaRoot.getD 0 :: gens)
  foldS (fun (s : State) c =>
    let d := cdId c
    let cut := s.crumbNext d
    let s := (s.setPair { s.pair with cuts := alPut s.pair.cuts d cut }).w d (.pair .CD_STATUS_seeding) 1
    let s := foldS (fun (s : State) (y : IdxEntry) =>
      if y.dirty then (s.sendPartner 0x0A c [1, y.nsid, y.lba, y.e, y.conn, y.msn, y.seq] [y.data]).pairBump d 2 else s) s (s.sp d).index
    foldS (fun (s : State) (r : RingCrumb) =>
      if !r.retired then s.sendPartner 0x0A c [2, r.c.kind, r.c.seq, r.c.nsid, r.c.slba, r.c.nlb] else s) s (s.sp d).ring) s chans

/-- R442's key report goes out as soon as the partner authenticates, and again when the key changes. -/
def State.keyReport (s : State) : State := s.sendControl 0x0E [s.resKey]

/-! ### Pairing (R425-R427) -/

/-- Pairing is refused with a reason: logged once (R426). -/
def State.pairRefused (s : State) (reason : Nat) : State :=
  let first := s.pair.refusal ≠ reason
  let s := s.setPair { s.pair with paired := false, refusal := reason }
  if first then (s.ev mdId (.pair .EVENTS_pairing_refused)).logEv mdId 0x30 .pairingRefused [reason] else s

/-- *Pairing comparison* (R426), in Pairing; `root` says that both packages hold a media root for the agreed shelf and that
the roots differ. -/
def State.pairCompare (s : State) (root : Bool) : State :=
  match s.pair.hello with
  | none => s
  | some h =>
    let s := s.pairingSwitch h.digest
    let part := h.partCode = s.r mdId (.mgt .ID_part_code)
    let cfg := h.digest = s.r mdId (.img .ACTIVE_HASH_bytes)
    let fw := decide (s.r mdId (.mgt .FW_PAIR_FLOOR_floor) ≤ h.fw) && decide (h.floor ≤ s.r mdId (.mgt .FW_RELEASE_release))
    let s := ((s.wb mdId (.pair .STATUS_part_match) part).wb mdId (.pair .STATUS_config_match) cfg).wb mdId
      (.pair .STATUS_fw_compatible) fw
    let major := s.rbit mdId (.pair .PARTNER_STATE_flags) 4
    let refuse (s : State) (cause : Nat) : State :=
      let s := s.pairRefused 2
      if major && s.modeNow = 4 then s.trig 8 cause else s
    if !part then refuse s 7
    else if h.role = s.role then s.pairRefused 5
    else if !cfg then refuse s 5
    else if !fw then refuse s 6
    else if root then s.pairRefused 7
    else s.setPair { s.pair with paired := true, refusal := 0 }

/-! ### A refused handover (R449) -/

/-- A handover ends refused; one for Maintenance goes on with the drain alone (R449 step 1). -/
def State.handoverRefused (s : State) : State :=
  let maint := s.pair.hoMaint && s.modeNow = 5 && s.mode.drain.isNone
  let s := ((s.setPair { s.pair with ho := 0, hoMaint := false }).ev mdId (.pair .EVENTS_handover_refused)).logEv mdId 0x30 .handoverRefused []
  let s := foldS (fun (s : State) c => (s.nsmShow (cdId c)).offer (cdId c)) s s.cds
  if maint then s.drainStart else s

/-! ### Entry to a mode -/

/-- What entry to Pairing or Takeover starts afresh: acquisition, slot readings, the kick, the claim's retries, fencing. -/
def State.pairFresh (s : State) : State :=
  let p := s.pair
  s.setPair { p with
    leases := p.leases.map (fun e => (e.1, { e.2 with acquired := false, y := none, read := false, free := false }))
    kicked := false, acquireSince := none, retries := 0, retryAt := none, exhausted := false, fencing := [], fenced := []
    fenceFailed := [], fenceDone := false, lapseRaised := false }

end Sys2Proof.Machine
end

