-- ==== Sys2Proof/Machine/BayOps.lean ====
section
/-! DEFINITION. Operations of the bay power channels (spec/17): states, turning a gate off, faults, ramps, taking a gate and
handing it over, and what a mode change does to the bays. -/

set_option Elab.async false

namespace Sys2Proof.Machine

def State.bayR (s : State) (n : Nat) : BayRec := (alGet s.bay.recs n).getD {}
def State.setBayR (s : State) (n : Nat) (x : BayRec) : State := { s with bay := { s.bay with recs := alPut s.bay.recs n x } }
def State.bayBump (s : State) (n i : Nat) : State := s.bump mdId 0x32 i 1 n
/-- The bay's power state (R502). -/
def State.baySt (s : State) (n : Nat) : Nat := s.r mdId (.bay .B_STATE_state) n
def State.bayDriven (s : State) (n : Nat) : Bool := s.rb mdId (.bay .B_STATE_driven) n
/-- Bays present in the part (R4). -/
def State.bays (s : State) : List Nat := List.range (8 * s.channels)
def bayCd (n : Nat) : Nat := n / 8 + 1
def bayLocal (n : Nat) : Nat := n % 8
/-- The bay power channels run (R500): from Bring-up on. -/
def State.bayRuns (s : State) : Bool := decide (3 ≤ s.modeNow)
/-- The mode's gate drive column lets a ramp start (spec/02 R30). -/
def State.bayMode (s : State) : Bool := between 3 s.modeNow 9 || (s.modeNow = 0xA && s.solo)

def State.bayCount (s : State) (p : Nat → Bool) : Nat := (s.bays.filter p).length
/-- The counts in STATUS follow the bays. -/
def State.bayShow (s : State) : State :=
  ((s.w mdId (.bay .STATUS_ramping) (s.bayCount (fun n => s.baySt n = 4))).w mdId (.bay .STATUS_on_count)
    (s.bayCount (fun n => s.baySt n = 5 || s.baySt n = 6))).w mdId (.bay .STATUS_driven) (s.bayCount s.bayDriven)

/-- Gates are handed over one at a time, the first after its hold (R452): 10 µs, or 20 µs apart in Quarantine. -/
def State.gateOffer (s : State) (l : List Nat) : State :=
  let ok := l.filter (fun n => s.bayDriven n && !(s.baySt n = 4 || s.baySt n = 7 || s.baySt n = 8) &&
    !s.pair.gateHeld.any (fun e => e.1 = n))
  if ok.isEmpty then s else
    let gap := if s.modeNow = 0xB then 20000 else 10000
    let s := s.setPair { s.pair with gateHeld := s.pair.gateHeld ++ ok.map (fun n => (n, s.now + gap)) }
    s.sendControl 0x0A [(ok.map (fun n => 2 ^ n)).foldl (· + ·) 0]
/-- Every gate is offered; a bay in Ramp, Stopping or Backoff once it has left that state (R499). -/
def State.gateOfferAll (s : State) : State :=
  ({ s with bay := { s.bay with offering := true } } : State).gateOffer s.bays

/-- A bay enters a power state. -/
def State.bayEnter (s : State) (n st : Nat) : State :=
  let s := (s.w mdId (.bay .B_STATE_state) st n).bayShow
  if s.bay.offering then s.gateOffer [n] else s

/-- Bay power goes while a drive is seated: the root port's bay is Disabled (spec/13 R369). -/
def State.bayDark (s : State) (n : Nat) : State :=
  let d := bayCd n
  let b := bayLocal n
  let s := (s.w mdId (.bay .B_STATE_pg) 0 n).emit (.perst d b true)
  if s.cdUp d && s.rb mdId (.bay .B_STATE_seated) n && s.r d (.drv .B_STATE_state) b ≠ 0 then s.driveLost d b 0xA else s

/-- EPW_N of a bay is asserted or released (R482, R496, R497). -/
def State.bayEpw (s : State) (n : Nat) (on : Bool) : State := (s.wb mdId (.bay .B_STATE_epw) on n).emit (.epw n on)

/-- The gate is turned off, hard or soft; PERST# is asserted at once (R493, R367). -/
def State.bayOff (s : State) (n : Nat) (hard : Bool) : State :=
  let s := (s.emit (.gate n (if hard then 0 else 1) 0)).setBayR n { s.bayR n with drive := 0, pre := none }
  s.bayDark n

/-- n as the register shows it: 15 saturates. -/
def State.bayN (s : State) (n v : Nat) : State :=
  (s.setBayR n { s.bayR n with n := v }).w mdId (.bay .B_FAULT_count) (min v 15) n

/-- A fault is recorded (R493). -/
def State.bayFaultLog (s : State) (n cause : Nat) : State :=
  let s := (s.w mdId (.bay .B_FAULT_cause) cause n).ev mdId (.bay .EVENTS_fault)
  s.logEv mdId 0x32 .bayFault [n, cause, s.r mdId (.bay .B_MEAS_i_ma) n, s.r mdId (.bay .B_MEAS_vout_mv) n,
    s.r mdId (.bay .B_THERM_t_est_c) n]

def State.bayLatch (s : State) (n : Nat) : State :=
  ((s.setBayR n { s.bayR n with latched := true, timer := none }).ev mdId (.bay .EVENTS_latched)).bayEnter n 9

/-- The retry timer of R494. -/
def State.bayBackoff (s : State) (cause n : Nat) : Nat :=
  let b := min 60000 (s.r mdId (.bay .CFG_RETRY_backoff_ms) * 2 ^ (n - 1))
  if cause = 3 then min 60000 (2 * b) else b

/-- A bay that is powered up by this package's channel. -/
def State.bayLive (s : State) (n : Nat) : Bool := between 4 (s.baySt n) 7

/-- *Bay faults* (R493, R494): a counted fault of a bay in Ramp, On, Limit or Stopping.  Of a bay whose seat was lost in the same
scan the gate is off already and the state stands: n and the timer are what R495 then judges (R503). -/
def State.bayFault (s : State) (n cause : Nat) : State :=
  let s := s.bayFaultLog n cause
  let gone := !s.bayLive n
  let s := if gone then s else s.bayOff n (cause = 2 || cause = 3)
  let v := (s.bayR n).n + 1
  let s := s.bayN n v
  let s := s.setBayR n { s.bayR n with waits := cause }
  if s.r mdId (.bay .CFG_RETRY_retries_max) < v then
    (if gone then s.setBayR n { s.bayR n with latched := true, timer := none } else s.bayLatch n)
  else
    let s := s.setBayR n { s.bayR n with timer := some (s.now + 1000000 * s.bayBackoff cause v) }
    if gone then s else s.bayEnter n 8

/-- A ramp starts (R485, R368): the dual-port enable is out first, EPW_N is released, a Disabled drive is Empty and, being
seated, Powering again. -/
def State.bayRamp (s : State) (n : Nat) : State :=
  let d := bayCd n
  let b := bayLocal n
  let s := if s.rb mdId (.bay .B_STATE_epw) n then s.bayEpw n false else s
  let s := s.setBayR n { s.bayR n with rampAt := s.now, pre := none, vLast := s.r mdId (.bay .B_MEAS_vout_mv) n }
  let s := (s.emit (.gate n 4 0)).bayBump n 0
  let s := if s.cdUp d then
      let s := s.w d (.drv .B_STATE_dual_port) 1 b
      if s.r d (.drv .B_STATE_state) b = 0xA then s.bayState d b 1 else s
    else s
  s.bayEnter n 4

/-- Power-good (R487): a drive that is Powering, or whose link is down, has PERST# released 100 ms from now. -/
def State.bayPg (s : State) (n : Nat) : State :=
  let d := bayCd n
  let b := bayLocal n
  let s := s.w mdId (.bay .B_STATE_pg) 1 n
  if s.cdUp d then s.setDrive d b { s.drive d b with deadline := s.now + 100000000 } else s
def State.bayOn (s : State) (n : Nat) : State := (s.setBayR n { s.bayR n with onAt := s.now }).bayEnter n 5

/-- The FET's dissipation from the last samples, µW (R491). -/
def State.bayPower (s : State) (n : Nat) : Int :=
  ((s.r mdId (.fls .STATUS_v12_mv) : Int) - s.r mdId (.bay .B_MEAS_vout_mv) n) * s.r mdId (.bay .B_MEAS_i_ma) n

/-- A package takes a bay's gate (R499): where = 0 an undriven gate that was never held, 1 one that was held, 2 in a planned
transfer; `off` says that the gate was received off, with the partner's n and remaining timer. -/
def State.gateTake (s : State) (n how level : Nat) (off : Option (Nat × Nat)) : State :=
  let s := (s.w mdId (.bay .B_STATE_driven) 1 n).w mdId (.bay .B_STATE_owned) 1 n
  let s := ((s.bayBump n 8).ev mdId (.bay .EVENTS_taken)).emit (.gate n 3 level)
  let s := s.bayShow
  if !s.rb mdId (.bay .B_STATE_seated) n then s
  else if s.rb mdId (.bay .B_STATE_pg) n then
    (s.setBayR n { s.bayR n with d := s.bayPower n * (s.r mdId (.bay .CFG_THERM_theta) : Int) / 10 }).bayOn n
  else match off with
    | some (cnt, left) =>
      if !s.rb mdId (.lat .STATUS_pair_ring) then
        ((s.bayN n (s.r mdId (.bay .CFG_RETRY_retries_max) + 1)).bayFaultLog n 0).bayLatch n
      else
        let s := s.bayN n cnt
        if s.r mdId (.bay .CFG_RETRY_retries_max) < cnt then s.bayLatch n
        else if left = 0 then s.bayEnter n 2
        else (s.setBayR n { s.bayR n with timer := some (s.now + 1000000 * left), waits := 0 }).bayEnter n 8
    | none =>
      if how = 0 then (if s.baySt n = 0xA then s.bayEnter n 3 else s) else s.bayRamp n

/-- An undriven gate is taken where R40 allows it: never held since Bring-up began. -/
def State.gateFree (s : State) (n : Nat) : Bool :=
  !(s.bayR n).everHeld && ((s.role ≠ 2 || s.testStrap) || s.mode.gateWaitOver)

/-- The held-gate sense of the bays this package does not drive (R453, R498): a gate that was held and no longer is is taken, and
an undriven one where R40 allows it.  A package in Quarantine takes none: it powers no new bay (spec/02 R30). -/
def State.gateWatch (s : State) (held : Nat) : State :=
  if !s.bayRuns then s else
  foldS (fun (s : State) n =>
    let now := held.testBit n
    let was := s.rb mdId (.bay .B_STATE_held_sense) n
    let s := s.wb mdId (.bay .B_STATE_held_sense) now n
    if s.bayDriven n then s else
      let s := if now then s.setBayR n { s.bayR n with everHeld := true } else s
      let lvl := s.r mdId (.bay .B_GATE_vgate_mv) n
      if now || s.modeNow = 0xB then s
      else if was then s.gateTake n 1 lvl none
      else if s.gateFree n then s.gateTake n 0 lvl none else s) s s.bays

/-- The power warning stops every ramp (R485). -/
def State.bayWarn (s : State) : State :=
  let s := s.wb mdId (.bay .STATUS_warn_hold) s.bayRuns
  foldS (fun (s : State) n =>
    if s.baySt n = 4 then ((s.bayOff n false).bayEnter n 3).ev mdId (.bay .EVENTS_warn_held) else s) s s.bays
def State.bayWarnOver (s : State) : State := s.w mdId (.bay .STATUS_warn_hold) 0

/-- Entry to Quarantine (R501): a bay in Ramp is turned off soft and enters Off without counting. -/
def State.bayQuarantine (s : State) : State :=
  foldS (fun (s : State) n => if s.baySt n = 4 then (s.bayOff n false).bayEnter n 2 else s) s s.bays

/-- The bay power channels stop (R500): a Solo package turns each gate off soft with EPW_N; in a pair each gate is left at high
impedance and guarded.  Every BAY register returns to its reset value (R504). -/
def State.bayStop (s : State) : State :=
  let recs := (s.bays.filter s.bayDriven).map (fun n =>
    (n, ({ guard_ := if s.paired then some (s.r mdId (.bay .B_GATE_vgate_mv) n) else none } : BayRec)))
  let s := foldS (fun (s : State) n =>
    if s.bayDriven n then
      let s := s.emit (.gate n (if s.paired then 2 else 1) (s.r mdId (.bay .B_GATE_vgate_mv) n))
      if s.paired then s else s.emit (.epw n true)
    else s) s s.bays
  { s with regs := s.regs.filter (fun e => match e.1.fld with | .bay _ => false | _ => true)
           bay := { recs := recs }
           pair := { s.pair with gateHeld := [], gateOffers := [] } }

/-- The channels run again in Bring-up: guards that acted are logged, every guard disarms (R500). -/
def State.bayStart (s : State) (held : Nat) : State :=
  let s := foldS (fun (s : State) (e : Nat × BayRec) =>
    if e.2.acted then s.logEv mdId 0x32 .bayFault [e.1] else s) s s.bay.recs
  let s := { s with bay := { recs := s.bay.recs.map (fun (e : Nat × BayRec) => (e.1, { e.2 with guard_ := none, acted := false, everHeld := false })) } }
  s.gateWatch held

end Sys2Proof.Machine
end

