-- ==== Sys2Proof/Machine/Bay.lean ====
section
/-! DEFINITION. The meanings of the commands of the bay power channels (spec/17), and of the gate transfer between the packages
(spec/15 R452, R453). -/

set_option Elab.async false

namespace Sys2Proof.Machine

/-- A command of a bay that the part has, while the channels run. -/
def onBay (n : Nat) (s : State) (f : State → State) : Out :=
  .next (if s.bayRuns && decide (n < 8 * s.channels) then f s else s)

/-! ### Gate transfer (R452, R453) -/

/-- GATE_OFFER_RECEIVED (R452): the sense is armed; bays already taken are answered as taken (R455). -/
def execGateOfferReceived (mask : BitVec 48) (s : State) : Out :=
  if !s.authenticated || !s.bayRuns then .next s else
  let l := s.bays.filter (fun n => mask.toNat.testBit n)
  let mine := l.filter s.bayDriven
  let s := s.setPair { s.pair with gateOffers := l.filter (fun n => !s.bayDriven n) }
  .next (s.sendControl 0x0C [(mine.map (fun n => 2 ^ n)).foldl (· + ·) 0])

/-- GATE_RELEASE_HOLD_EXPIRY (R452): the lowest bay held is released, and the next is held. -/
def execGateReleaseHoldExpiry (s : State) : Out :=
  match s.pair.gateHeld with
  | [] => .next s
  | (n, t) :: rest =>
    let s := s.advance t
    let gap := if s.modeNow = 0xB then 20000 else 10000
    let s := s.setPair { s.pair with gateHeld := rest.map (fun e => (e.1, s.now + gap)) }
    let lvl := s.r mdId (.bay .B_GATE_vgate_mv) n
    let s := if s.rb mdId (.bay .B_STATE_epw) n then s.bayEpw n false else s
    let s := ((s.w mdId (.bay .B_STATE_driven) 0 n).wb mdId (.bay .B_STATE_held_sense)
      (s.r mdId (.bay .B_MEAS_vout_mv) n + 2000 ≤ lvl) n).bayShow
    .next ((s.emit (.gate n 2 lvl)).sendControl 0x0B [2 ^ n, lvl])

/-- GATE_RELEASED_RECEIVED (R452, R499): an offered bay is taken at the sampled level.  A gate under the held-gate threshold
was received off, with the partner's B_FAULT.count and remaining timer of the bay, read over the pair ring. -/
def execGateReleasedReceived (bay : Fin 48) (level sampled : BitVec 16) (count : BitVec 4) (left : BitVec 16) (s : State) : Out :=
  onBay bay.val s fun s =>
    let n := bay.val
    if !s.pair.gateOffers.contains n || s.bayDriven n then s else
      let s := s.setPair { s.pair with gateOffers := s.pair.gateOffers.filter (· ≠ n) }
      let s := s.w mdId (.bay .B_GATE_vgate_mv) sampled.toNat n
      let off := sampled.toNat < s.r mdId (.bay .B_MEAS_vout_mv) n + 2000
      let s := s.gateTake n 2 level.toNat (if off then some (count.toNat, left.toNat) else none)
      s.sendControl 0x0C [2 ^ n]

/-- GATE_TAKEN_RECEIVED (R452, R502): bays released to the partner are its own. -/
def execGateTakenReceived (mask : BitVec 48) (s : State) : Out :=
  if !s.bayRuns then .next s else
  .next (foldS (fun (s : State) n =>
    if mask.toNat.testBit n && !s.bayDriven n && s.rb mdId (.bay .B_STATE_owned) n then
      let s := s.w mdId (.bay .B_STATE_owned) 0 n
      if s.rb mdId (.bay .B_STATE_seated) n then s.bayEnter n 0xA else s
    else s) s s.bays)

/-- GATE_WATCH_SAMPLE (R453): the held-gate sense of the 48 bays. -/
def execGateWatchSample (held : BitVec 48) (s : State) : Out := .next (s.gateWatch held.toNat)

/-! ### The sideband chain (R482-R484, R495) -/

/-- A bay is no longer seated (R484): a driven gate is turned off hard; the absence time runs (R495). -/
def State.seatLoss (s : State) (n : Nat) : State :=
  let was := s.rb mdId (.bay .B_STATE_seated) n
  let x := s.bayR n
  let s := s.setBayR n { x with contact := false, lostAt := if was then some s.now else x.lostAt, lostSt := s.baySt n, pre := none }
  if !was then s.bayEnter n 0 else
    let s := if s.bayDriven n then (s.emit (.gate n 0 0)).setBayR n { s.bayR n with drive := 0 } else s
    let d := bayCd n
    let b := bayLocal n
    let s := ((s.bayBump n 7).ev mdId (.bay .EVENTS_seat_change)).w mdId (.bay .B_STATE_seated) 0 n
    let s := if s.cdUp d then (s.wbit d (.drv .STATUS_present) b false).driveLost d b 0 else s
    let s := (s.w mdId (.bay .B_STATE_pg) 0 n).emit (.perst d b true)
    s.bayEnter n 0

/-- Both seat pins make contact (R495): after an absence of reseat_min_ms the retry count and timer are gone. -/
def State.seatMade (s : State) (n : Nat) : State :=
  let x := { s.bayR n with contact := true, contactAt := s.now }
  let long := match x.lostAt with
    | some t => decide (1000000 * s.r mdId (.bay .CFG_RETRY_reseat_min_ms) ≤ s.now - t)
    | none => true
  let s := if long then (s.setBayR n { x with timer := none, latched := false, lostAt := none }).bayN n 0 else s.setBayR n x
  if s.baySt n = 0 then s.bayEnter n 1 else s

/-- SIDEBAND_SCAN (R482, R483): the marker of the scan, and the seat and present pins of the 48 bays. -/
def execSidebandScan (marker : Bool) (seatA seatB present : BitVec 48) (s : State) : Out :=
  if !s.bayRuns then .next s
  else if !marker then
    let k := s.bay.chainBad + 1
    let s := { s with bay := { s.bay with chainBad := k, chainGood := 0 } }
    .next (if k = 3 then (s.w mdId (.bay .STATUS_chain_ok) 0).ev mdId (.bay .EVENTS_chain_fault) else s)
  else
    let k := s.bay.chainGood + 1
    let s := { s with bay := { s.bay with chainBad := 0, chainGood := k } }
    let s := if k = 16 then s.w mdId (.bay .STATUS_chain_ok) 1 else s
    .next (foldS (fun (s : State) n =>
      let s := s.wb mdId (.bay .B_STATE_present) (present.toNat.testBit n) n
      let c := seatA.toNat.testBit n && seatB.toNat.testBit n
      if c = (s.bayR n).contact then s
      else if c then s.seatMade n
      else if !s.rb mdId (.bay .STATUS_chain_ok) && s.bayDriven n then s
      else s.seatLoss n) s s.bays)

/-- SEAT_DEBOUNCE_EXPIRY (R484, R495, R369): the bay is seated. -/
def execSeatDebounceExpiry (bay : Fin 48) (s : State) : Out := onBay bay.val s fun s =>
  let n := bay.val
  let x := s.bayR n
  if !x.contact || s.rb mdId (.bay .B_STATE_seated) n || s.modeNow = 0xB then s else
    let s := s.advance (x.contactAt + 1000000 * s.r mdId (.bay .CFG_SEAT_seat_deb_ms))
    let s := ((s.setBayR n { x with lostAt := none }).w mdId (.bay .B_STATE_seated) 1 n).ev mdId (.bay .EVENTS_seat_change)
    let d := bayCd n
    let b := bayLocal n
    let s := if s.cdUp d then
        let s := s.wbit d (.drv .STATUS_present) b true
        let s := if s.r d (.drv .B_STATE_state) b = 0 then s.bayState d b 1 else s
        if s.rb mdId (.bay .B_STATE_pg) n then s.setDrive d b { s.drive d b with deadline := s.now + 100000000 } else s
      else s
    if !s.bayDriven n && s.rb mdId (.bay .B_STATE_held_sense) n then s.bayEnter n 0xA
    else if x.latched then s.bayEnter n 9
    else match x.timer with
      | some t => if t ≤ s.now then (s.setBayR n { s.bayR n with timer := none }).bayEnter n 3 else s.bayEnter n 8
      | none => s.bayEnter n 3

/-! ### Ramp, power-good and Limit (R485-R490) -/

/-- A Queued bay may ramp now, but for its place in the order (R485). -/
def State.bayMay (s : State) (n : Nat) : Bool :=
  s.baySt n = 3 && s.rb mdId (.bay .B_STATE_owned) n && s.bayDriven n && s.rb mdId (.bay .B_STATE_seated) n &&
    !s.rb mdId (.bay .B_STATE_cmd_off) n &&
    decide (s.r mdId (.bay .B_MEAS_vout_mv) n < (if (s.bayR n).pre.isSome then 1000 else 2000))
/-- No ramp starts at all. -/
def State.bayHeld (s : State) : Bool :=
  !s.bayMode || s.rb mdId (.fls .STATUS_warning) || !s.rb mdId (.bay .STATUS_chain_ok) || !s.rb mdId (.bay .STATUS_vgd_ok)

/-- BAY_RAMP_START (R485): the bay is the lowest that may ramp, and fewer than stagger_max are in Ramp.  One whose output reads
2.0 V or more stays in Queued, held from now. -/
def execBayRampStart (bay : Fin 48) (s : State) : Out := onBay bay.val s fun s =>
  let n := bay.val
  let full := s.r mdId (.bay .CFG_SENSE_stagger_max) ≤ s.bayCount (fun n => s.baySt n = 4)
  if s.bayHeld then s
  else if s.baySt n = 3 && decide (2000 ≤ s.r mdId (.bay .B_MEAS_vout_mv) n) && (s.bayR n).pre.isNone then
    s.setBayR n { s.bayR n with pre := some s.now }
  else if s.bayMay n && !full && (s.bays.find? s.bayMay = some n) then s.bayRamp n else s

/-- I_allow of R486, mA, from V12_MON and the bay output in mV. -/
def State.iAllow (s : State) (v12 vout : Nat) : Nat :=
  min (10 * s.r mdId (.bay .CFG_LIMIT_ilim_10ma)) (s.r mdId (.bay .CFG_LIMIT_p_fold) * 1000000 / max (v12 - vout) 500)

/-- BAY_LOOP_STEP (R481, R486): the samples of 1 µs, in mA and mV, and the gate current they call for. -/
def execBayLoopStep (bay : Fin 48) (i vout vgate v12 : BitVec 16) (s : State) : Out := onBay bay.val s fun s =>
  let n := bay.val
  let x := s.bayR n
  let vo := vout.toNat
  let allow := s.iAllow v12.toNat vo
  let slew := 100 * s.r mdId (.bay .CFG_RAMP_slew_dv)
  let dv : Int := ((vo : Int) - x.vLast) * 1000
  let st := s.baySt n
  let live := between 4 st 6 && s.bayDriven n
  let g := if !live then 0 else if allow < i.toNat then 1 else if st = 4 && decide (dv < slew) then 2
    else if st = 5 || st = 6 then (if vgate.toNat < vo + 10000 then 3 else 0) else 0
  let s := s.setBayR n { x with iAllow := allow, drive := g, vLast := vo }
  let s := ((s.w mdId (.bay .B_MEAS_i_ma) i.toNat n).w mdId (.bay .B_MEAS_vout_mv) vo n).w mdId (.bay .B_GATE_vgate_mv) vgate.toNat n
  (s.w mdId (.bay .B_GATE_p_w) (min 255 ((v12.toNat - vo) * i.toNat / 1000000)) n).w mdId (.fls .STATUS_v12_mv) v12.toNat

/-- BAY_POWER_GOOD (R487): held for 1 ms; a bay in Ramp enters On. -/
def execBayPowerGood (bay : Fin 48) (s : State) : Out := onBay bay.val s fun s =>
  let n := bay.val
  if !s.rb mdId (.bay .B_STATE_seated) n || s.rb mdId (.bay .B_STATE_pg) n then s else
    let s := s.bayPg n
    if s.baySt n = 4 then (s.bayBump n 1).bayOn n else s

/-- BAY_POWER_GOOD_LOSS (R487, R367): PERST# is asserted; the bay's state stands. -/
def execBayPowerGoodLoss (bay : Fin 48) (s : State) : Out := onBay bay.val s fun s =>
  let n := bay.val
  let d := bayCd n
  let b := bayLocal n
  if !s.rb mdId (.bay .B_STATE_pg) n then s else
    let s := (s.w mdId (.bay .B_STATE_pg) 0 n).emit (.perst d b true)
    if s.cdUp d && s.rbit d (.drv .STATUS_link_up) b then s.linkLost d b else s

/-- BAY_LIMIT_ENTRY (R488). -/
def execBayLimitEntry (bay : Fin 48) (s : State) : Out := onBay bay.val s fun s =>
  let n := bay.val
  if s.baySt n = 5 then (s.setBayR n { s.bayR n with limitAt := s.now }).bayEnter n 6 else s

/-- BAY_LIMIT_EXIT (R488). -/
def execBayLimitExit (bay : Fin 48) (s : State) : Out := onBay bay.val s fun s =>
  if s.baySt bay.val = 6 then s.bayEnter bay.val 5 else s

/-- BAY_LIMIT_TIMEOUT (R488): fault 0x1. -/
def execBayLimitTimeout (bay : Fin 48) (s : State) : Out := onBay bay.val s fun s =>
  let n := bay.val
  if s.baySt n = 6 then
    ((s.advance ((s.bayR n).limitAt + 1000000 * s.r mdId (.bay .CFG_LIMIT_limit_ms))).bayBump n 4).bayFault n 1
  else s

/-- BAY_FAST_TRIP (R489): fault 0x3 in Ramp, 0x2 in On, Limit and Stopping.  A trip within the scan of 20 µs that lost the bay's seat
counts as well (R503). -/
def execBayFastTrip (bay : Fin 48) (s : State) : Out := onBay bay.val s fun s =>
  let n := bay.val
  let x := s.bayR n
  let lost := s.baySt n = 0 && between 4 x.lostSt 7 && (match x.lostAt with | some t => decide (s.now < t + 20000) | none => false)
  if !s.bayLive n && !lost then s
  else if (if lost then x.lostSt else s.baySt n) = 4 then ((s.bayBump n 2).bayBump n 3).bayFault n 3
  else (s.bayBump n 2).bayFault n 2

/-- BAY_SHORT_AT_START (R489): fault 0x3. -/
def execBayShortAtStart (bay : Fin 48) (s : State) : Out := onBay bay.val s fun s =>
  if s.baySt bay.val = 4 then (s.bayBump bay.val 3).bayFault bay.val 3 else s

/-- BAY_GATE_NOT_RISING (R490): fault 0x6 in Ramp, On or Limit. -/
def execBayGateNotRising (bay : Fin 48) (s : State) : Out := onBay bay.val s fun s =>
  if between 4 (s.baySt bay.val) 6 then (s.bayBump bay.val 6).bayFault bay.val 6 else s

/-- BAY_RAMP_TIMEOUT (R490): fault 0x7. -/
def execBayRampTimeout (bay : Fin 48) (s : State) : Out := onBay bay.val s fun s =>
  let n := bay.val
  if s.baySt n = 4 then (s.advance ((s.bayR n).rampAt + 1000000 * s.r mdId (.bay .CFG_RAMP_ramp_limit_ms))).bayFault n 7 else s

/-! ### Thermal protection (R491, R492) -/

/-- FET_THERMAL_UPDATE (R491): d in µ°C from the last samples. -/
def execFetThermalUpdate (bay : Fin 48) (s : State) : Out := onBay bay.val s fun s =>
  let n := bay.val
  let x := s.bayR n
  let p := s.bayPower n
  let tau : Int := s.r mdId (.bay .CFG_THERM_tau_ms)
  let d := x.d + (p * (s.r mdId (.bay .CFG_THERM_theta) : Int) / 10 - x.d) / (100 * tau)
  let amb : Int := s.r mdId (.bay .CFG_THERM2_ambient_c)
  let tref := if !s.rb mdId (.bay .CFG_THERM_mode) then 2 * amb
    else if s.rb mdId (.bay .B_THERM_therm_fault) n then 2 * (amb + 20) else x.half
  let t := 500000 * tref + d
  let s := (s.setBayR n { x with d := d }).w mdId (.bay .B_THERM_t_est_c) (min 255 (t / 1000000).toNat) n
  if s.bayLive n && decide (1000000 * (s.r mdId (.bay .CFG_THERM_fet_max_c) : Int) ≤ t) then (s.bayBump n 5).bayFault n 4 else s

/-- THERMISTOR_SAMPLE (R492): the reading of one millisecond in half degrees. -/
def execThermistorSample (bay : Fin 48) (half : Int) (s : State) : Out := onBay bay.val s fun s =>
  let n := bay.val
  if !s.rb mdId (.bay .CFG_THERM_mode) then s else
    let x := s.bayR n
    let ok := decide (-80 ≤ half) && decide (half ≤ 300)
    let x := { x with thermBad := if ok then 0 else x.thermBad + 1, thermGood := if ok then x.thermGood + 1 else 0 }
    let s := s.setBayR n x
    let s := if ok then (s.setBayR n { x with half := half }).w mdId (.bay .B_THERM_therm_c) (half / 2 + 64).toNat n else s
    let s := if !ok && x.thermBad = 10 then (s.w mdId (.bay .B_THERM_therm_fault) 1 n).ev mdId (.bay .EVENTS_therm_fault)
      else if ok && x.thermGood = 1000 then s.w mdId (.bay .B_THERM_therm_fault) 0 n else s
    if s.bayLive n && !s.rb mdId (.bay .B_THERM_therm_fault) n && decide (2 * (s.r mdId (.bay .CFG_THERM2_therm_max_c) : Int) ≤ half)
    then (s.bayBump n 5).bayFault n 5 else s

/-! ### Retries (R494, R485) -/

/-- Every wait of *Bay faults* is met; a thermal estimate at fet_max_c makes every retry wait (R503). -/
def State.bayWaitOver (s : State) (n : Nat) : Bool :=
  let h := s.r mdId (.bay .CFG_THERM_cool_hyst_c)
  let t := s.r mdId (.bay .B_THERM_t_est_c) n
  let m := s.r mdId (.bay .CFG_THERM_fet_max_c)
  match (s.bayR n).waits with
  | 4 => decide (t + h ≤ m)
  | 5 => decide (t < m) && decide ((s.bayR n).half + 2 * h ≤ 2 * (s.r mdId (.bay .CFG_THERM2_therm_max_c) : Int))
  | _ => decide (t < m)

/-- BAY_BACKOFF_EXPIRY (R494): the timer has run out; the bay is Queued once its waits are met. -/
def execBayBackoffExpiry (bay : Fin 48) (s : State) : Out := onBay bay.val s fun s =>
  let n := bay.val
  if s.baySt n ≠ 8 ∨ s.modeNow = 0xB then s else
    let s := match (s.bayR n).timer with
      | some t => (s.advance t).setBayR n { s.bayR n with timer := none }
      | none => s
    if s.bayWaitOver n then s.bayEnter n 3 else s

/-- BAY_RETRY_COUNT_CLEAR (R494): clear_s of On and Limit without a break. -/
def execBayRetryCountClear (bay : Fin 48) (s : State) : Out := onBay bay.val s fun s =>
  let n := bay.val
  if s.baySt n = 5 ∨ s.baySt n = 6 then
    (s.advance ((s.bayR n).onAt + 1000000000 * s.r mdId (.bay .CFG_SEAT_clear_s))).bayN n 0
  else s

/-- BAY_PRECHARGE_TIMEOUT (R485): cause 0x8, which does not count. -/
def execBayPrechargeTimeout (bay : Fin 48) (s : State) : Out := onBay bay.val s fun s =>
  let n := bay.val
  match (s.bayR n).pre with
  | some t => if s.baySt n = 3 then (s.advance (t + 10000000000)).bayFaultLog n 8 else s
  | none => s

/-- VGD_LOW (R485): VGD12 is below 10.8 V. -/
def execVgdLow (s : State) : Out :=
  if s.bayRuns && s.rb mdId (.bay .STATUS_vgd_ok) then
    .next ((s.w mdId (.bay .STATUS_vgd_ok) 0).ev mdId (.bay .EVENTS_vgd_low))
  else .next s

/-- VGD_OK_RESTORED (R485): VGD12 has been above 11.0 V for 10 ms. -/
def execVgdOkRestored (s : State) : Out := if s.bayRuns then .next (s.w mdId (.bay .STATUS_vgd_ok) 1) else .next s

/-! ### Commands (R496, R494, R504) -/

/-- A CMD op of the secure world on a bay; for ops 1 and 2 the bay is owned and the mode neither Quarantine nor Flush. -/
def State.bayCmd (s : State) (q : Req) (n op : Nat) (ok : Bool) (k : State) : State :=
  s.secureOnly q mdId (.bay .CMD_op)
    (if decide (n < 8 * s.channels) && ok && s.bayRuns then k
     else s.discardState mdId (.bay .CMD_op) (op * 2 ^ 29 + n))
def State.bayMine (s : State) (n : Nat) : Bool :=
  s.rb mdId (.bay .B_STATE_owned) n && s.modeNow ≠ 8 && s.modeNow ≠ 0xB

/-- BAY_CMD_ON (R496): op 1. -/
def execBayCmdOn (q : Req) (bay : BitVec 6) (s : State) : Out :=
  let n := bay.toNat
  let ok := s.bayMine n && (s.baySt n = 2 || s.baySt n = 8 || (s.rb mdId (.bay .B_STATE_cmd_off) n && s.baySt n ≠ 7))
  .next (s.bayCmd q n 1 ok
    (let s := (s.w mdId (.bay .B_STATE_cmd_off) 0 n).setBayR n { s.bayR n with timer := none }
     if s.baySt n = 2 ∨ s.baySt n = 8 then s.bayEnter n 3 else s))

/-- BAY_CMD_OFF (R496): op 2. -/
def execBayCmdOff (q : Req) (bay : BitVec 6) (s : State) : Out :=
  let n := bay.toNat
  let ok := s.bayMine n && (s.baySt n = 5 || s.baySt n = 6)
  .next (s.bayCmd q n 2 ok
    (let s := ((s.w mdId (.bay .B_STATE_cmd_off) 1 n).bayEpw n true).setBayR n { s.bayR n with stopAt := s.now }
     s.bayEnter n 7))

/-- BAY_CMD_CLEAR_RETRIES (R494, R503): op 3. -/
def execBayCmdClearRetries (q : Req) (bay : BitVec 6) (s : State) : Out :=
  let n := bay.toNat
  .next (s.bayCmd q n 3 true
    (let s := (s.bayN n 0).setBayR n { (s.bayN n 0).bayR n with latched := false }
     if s.baySt n = 9 ∧ s.modeNow ≠ 0xB then s.bayEnter n 3 else s))

/-- BAY_EPW_LEAD_EXPIRY (R496): the gate is turned off soft and the bay enters Off, EPW_N still asserted. -/
def execBayEpwLeadExpiry (bay : Fin 48) (s : State) : Out := onBay bay.val s fun s =>
  let n := bay.val
  if s.baySt n = 7 then
    ((s.advance ((s.bayR n).stopAt + 1000000 * s.r mdId (.bay .CFG_SEAT_epw_lead_ms))).bayOff n false).bayEnter n 2
  else s

/-- GATE_GUARD_DISCHARGE (R500): a released gate more than 300 mV under its level is discharged; a gate under the held-gate
threshold disarms its guard. -/
def execGateGuardDischarge (bay : Fin 48) (vgate vout : BitVec 16) (s : State) : Out :=
  let n := bay.val
  let x := s.bayR n
  match x.guard_ with
  | none => .next s
  | some l =>
    if vgate.toNat < vout.toNat + 2000 then .next (s.setBayR n { x with guard_ := none })
    else if vgate.toNat + 300 < l then .next (((s.setBayR n { x with guard_ := none, acted := true }).emit (.gate n 1 vgate.toNat)).emit (.epw n true))
    else .next s

/-- BAY_SNAPSHOT (R505): the 9 counters of the bay that SNAP_CTRL.bay names. -/
def execBaySnapshot (q : Req) (s : State) : Out :=
  let b := s.r mdId (.bay .SNAP_CTRL_bay)
  .next (s.snapshot mdId 0x32 q.secure (s.counters mdId 0x32 9 b) (.bay .SNAP_CTRL_done) b)

end Sys2Proof.Machine
end

