-- ==== Sys2Proof/Machine/Ep.lean ====
section
/-! DEFINITION. The meanings of the commands of the direct-attach endpoint (spec/18). -/

set_option Elab.async false

namespace Sys2Proof.Machine

/-- The port die runs, so that the endpoint does: from Bring-up on. -/
def onEp (s : State) (f : State → State) : Out := .next (if 3 ≤ s.modeNow then f s else s)

/-! ### Controller registers (R512, R527, R531) -/

/-- EP_CC_ENABLE (R512): CC.EN goes from 0 to 1 with the other fields of CC, the sizes of the admin queues, and Bus Master
Enable as the host has set it. -/
def execEpCcEnable (fn : Fin 64) (iosqes iocqes mps ams : Nat) (asq acq : BitVec 10) (bme : Bool) (s : State) : Out := onEp s fun s =>
  let f := fn.val
  if !s.fnExists f || s.rb 0 (.epf .F_STATE_cc_en) f || s.rb 0 (.epf .F_STATE_stopping) f || s.r 0 (.epf .F_STATE_dstate) f ≠ 0 then s else
    let s := ((s.w 0 (.epf .F_STATE_cc_en) 1 f).w 0 (.epf .F_STATE_mse) 1 f).wb 0 (.epf .F_STATE_bme) bme f
    if iosqes ≠ 6 ∨ iocqes ≠ 4 ∨ mps ≠ 0 ∨ ams ≠ 0 ∨ !s.fnConfigured f then s.epCfs f else
      let s := s.setEp { s.ep with aq := alPut s.ep.aq f (asq.toNat + 1, acq.toNat + 1) }
      if s.rb 0 (.epf .STATUS_data_presence) then s.epReady f else s

/-- EP_CC_DISABLE (R527): CC.EN from 1 to 0. -/
def execEpCcDisable (fn : Fin 64) (s : State) : Out := onEp s fun s =>
  let f := fn.val
  if s.fnExists f && s.rb 0 (.epf .F_STATE_cc_en) f then
    (if s.ep.stopped.contains f then s else s.epStop f false).epClear f
  else s

/-- EP_SHUTDOWN (R531): CC.SHN of 01b or 10b. -/
def execEpShutdown (fn : Fin 64) (shn : BitVec 2) (s : State) : Out := onEp s fun s =>
  let f := fn.val
  if s.fnExists f && s.rb 0 (.epf .F_STATE_cc_en) f && (shn = 1 || shn = 2) && !s.rb 0 (.epf .F_STATE_stopping) f &&
      s.r 0 (.epf .F_STATE_shst) f = 0 then
    s.w 0 (.epf .F_STATE_shst) 1 f
  else s

/-- EP_SHUTDOWN_COMPLETE (R531). -/
def execEpShutdownComplete (fn : Fin 64) (s : State) : Out := onEp s fun s =>
  let f := fn.val
  if s.r 0 (.epf .F_STATE_shst) f = 1 ∧ !s.ep.stopped.contains f ∧ s.r 0 (.epf .F_STATE_in_flight) f = 0 then
    s.w 0 (.epf .F_STATE_shst) 2 f
  else s

/-! ### Queues (R513, R516, R519) -/

/-- EP_SQ_DOORBELL (R516). -/
def execEpSqDoorbell (fn : Fin 64) (q : Fin 64) (tail : BitVec 16) (s : State) : Out := onEp s fun s =>
  let s := s.epfBump 0
  if s.fnRuns fn.val && s.r 0 (.epf .F_STATE_dstate) fn.val = 0 then
    s.setEp { s.ep with sqs := s.ep.sqs.map (fun (x : EpQueue) =>
      if x.fn = fn.val && x.qid = q.val && decide (tail.toNat < x.size) then { x with tail := tail.toNat } else x) }
  else s

/-- The chain of a command whose completion entry is written is Done (R519). -/
def State.epFinish (s : State) (c : EpCmd) : State :=
  let open_ := fun (s : State) => s.ep.cmds.any (fun x => x.tok = c.tok)
  let s := s.epPost c
  if open_ s then s else match c.chain with
    | some n => (s.chainDone c.die n).epRetry
    | none => s

/-- EP_CQ_DOORBELL (R519): room for the completion entries that wait. -/
def execEpCqDoorbell (fn : Fin 64) (q : Fin 64) (head : BitVec 16) (s : State) : Out := onEp s fun s =>
  let f := fn.val
  let s := s.epfBump 0
  if s.fnRuns f && s.r 0 (.epf .F_STATE_dstate) f = 0 then
    let s := s.setEp { s.ep with cqs := s.ep.cqs.map (fun (x : EpQueue) =>
      if x.fn = f && x.qid = q.val && decide (head.toNat < x.size) then { x with head := head.toNat } else x) }
    foldS (fun (s : State) c => if c.st = 4 then s.epFinish c else s) s
      (s.ep.cmds.filter (fun c => c.fn = f && c.st = 4 && (s.epSq f c.sq).any (fun x => x.cq = q.val)))
  else s

/-- A list read from the entry after the one with a given value, round the end. -/
def rotateAfter (l : List Nat) (last : Nat) : List Nat := l.filter (fun x => decide (last < x)) ++ l.filter (fun x => decide (x ≤ last))

/-- EP_FETCH_TURN (R516): round robin among functions, and within a function among its non-empty queues; up to 8 entries in one
request. -/
def execEpFetchTurn (s : State) : Out := onEp s fun s =>
  let ready := fun f => s.fnRuns f && s.fnConfigured f && s.r 0 (.epf .F_STATE_dstate) f = 0 && s.rb 0 (.epf .F_STATE_bme) f &&
    s.ep.sqs.any (fun q => q.fn = f && q.head ≠ q.tail)
  let flight := ((List.range 64).map (fun f => s.r 0 (.epf .F_STATE_in_flight) f)).foldl (· + ·) 0
  match (rotateAfter (List.range 64) s.ep.lastFn).find? ready, s.epTag with
  | some f, some t =>
    let qs := (List.range 64).filter (fun y => s.ep.sqs.any (fun q => q.fn = f && q.qid = y && q.head ≠ q.tail))
    match (rotateAfter qs ((alGet s.ep.lastSq f).getD 63)).head? with
    | none => s
    | some y =>
      match s.epSq f y with
      | none => s
      | some q =>
        let n := min (min 8 ((if q.head < q.tail then q.tail else q.size) - q.head)) (16384 - flight)
        if n = 0 then s else
          let s := s.setEp { s.ep with
            lastFn := f, lastSq := alPut s.ep.lastSq f y
            sqs := s.ep.sqs.map (fun (x : EpQueue) => if x = q then { x with head := (x.head + n) % x.size } else x)
            reqs := s.ep.reqs ++ [{ tag := t, fn := f, fetch := true, sq := y, n := n, issued := s.now }] }
          (((s.epfBump 2).epfBump 1).emit (.epRead t f true n)).epShow f
  | _, _ => s

/-- The die whose control cores serve an admin command (R513, R520). -/
def State.epAdminDie (s : State) (c : EpCmd) : Option Nat :=
  let ups := (s.cds.map cdId).filter (fun d => s.cdUp d && !s.chanFailed d)
  let target := if c.cap.opcode = 8 then
      ((s.ep.cmds.find? (fun x => x.fn = c.fn && x.sq = c.cap.cdw10 % 65536 && x.cap.cid = c.cap.cdw10 / 65536 && x.st = 2)).map (·.die))
    else (s.nsEntry c.cap.nsid).map (fun n => cdId n.channel)
  match target with
  | some d => if ups.contains d then some d else ups.head?
  | none => ups.head?

/-- An admin entry (R513, R520): a queue command waits for the endpoint, an Abort may find its target here, and any other goes
to a channel die's control cores. -/
def State.epAdmin (s : State) (c : EpCmd) : State :=
  let op := c.cap.opcode
  let put := fun (s : State) (c : EpCmd) => s.setEp { s.ep with cmds := s.ep.cmds.map (fun (x : EpCmd) => if x.tok = c.tok then c else x) }
  if op = 0x7F then s.epLocal c stBadOpcode
  else if op = 0 ∨ op = 1 ∨ op = 4 ∨ op = 5 then put s { c with st := 5 }
  else
    let caught := if op = 8 then s.ep.cmds.find? (fun x => x.fn = c.fn && x.sq = c.cap.cdw10 % 65536 &&
        x.cap.cid = c.cap.cdw10 / 65536 && x.tok ≠ c.tok && (x.st = 0 || x.st = 1 || x.st = 3)) else none
    match caught with
    | some x =>
      let e := s.ep
      let s := s.setEp { e with land := e.land.filter (fun l => !(l.conn = epConn x.die x.fn x.sq && l.cid = x.cap.cid && !l.fwd))
                                reqs := e.reqs.map (fun (r : EpReq) => if r.tok = x.tok && !r.fetch then { r with stale := true } else r) }
      ((((s.landShow x.die).epLocal x stAborted).epAdvance x.fn x.sq x.die).epLocal c stOk)
    | none => match s.epAdminDie c with
      | none => s.epLocal c stUnavailable
      | some d => let c := { c with die := d, st := 1 }
        (put s c).epForward c

/-- An I/O entry: the first outcome of *Endpoint checks* that applies (R516). -/
def State.epIo (s : State) (c : EpCmd) : State :=
  let op := c.cap.opcode
  let host := s.r 0 (.epf .F_CFG_host_id) c.fn
  if !ioOpcodes.contains op || op = 0x7F then s.epLocal c stBadOpcode
  else if c.cap.fuse ≠ 0 ∨ c.cap.psdt ≠ 0 then s.epLocal c stBadField
  else match (s.activeNs 0 host true).find? (fun n => n.nsid = c.cap.nsid) with
  | none => s.epLocal c stBadNamespace
  | some n =>
    let d := cdId n.channel
    let gate := s.r d (.cmd .GATE_refuse)
    if !s.hasDie d || s.chanFailed d || (decide (0 < epPages c.cap) && s.cdUp d && !s.rb d (.epf .LAND_STATUS_valid)) then
      s.epLocal c stUnavailable
    else if gate = 2 ∨ !s.cdUp d then s.epLocal c stRecovering
    else if gate = 3 then s.epLocal c stMaintenance
    else
      let c := { c with die := d, st := if epPages c.cap = 0 then 1 else 3 }
      let s := s.setEp { s.ep with cmds := s.ep.cmds.map (fun (x : EpCmd) => if x.tok = c.tok then c else x) }
      if epPages c.cap = 0 then s.epAdvance c.fn c.sq d else (s.landSweep).epFetchData c

def State.epReq (s : State) (tag : Nat) : Option EpReq := s.ep.reqs.find? (fun r => r.tag = tag)
def State.dropReq (s : State) (tag : Nat) : State := s.setEp { s.ep with reqs := s.ep.reqs.filter (fun r => r.tag ≠ tag) }

/-- EP_SQ_FETCH_COMPLETE (R516): the entries that a fetch returns. -/
def execEpSqFetchComplete (tag : BitVec 14) (entries : List Capsule) (s : State) : Out := onEp s fun s =>
  match s.epReq tag.toNat with
  | none => s
  | some r =>
    if !r.fetch || r.stale || entries.length ≠ r.n then s else
      let s := (s.dropReq r.tag).epfBump 0
      foldS (fun (s : State) cap =>
        let c : EpCmd := { tok := s.ep.nextTok, fn := r.fn, sq := r.sq, cap := cap, st := 0 }
        let s := (s.setEp { s.ep with nextTok := c.tok + 1, cmds := s.ep.cmds ++ [c] }).epShow r.fn
        if r.sq = 0 then s.epAdmin c else s.epIo c) s entries

/-- A queue command that waits at the endpoint. -/
def onEpAdmin (fn : Fin 64) (cid : BitVec 16) (op : Nat) (s : State) (f : EpCmd → State → State) : Out := onEp s fun s =>
  match s.ep.cmds.find? (fun c => c.fn = fn.val && c.sq = 0 && c.st = 5 && c.cap.cid = cid.toNat && c.cap.opcode = op) with
  | none => s
  | some c => f c s

/-- EP_CREATE_IO_SQ (R513): opcode 0x01; Invalid Field without PC, else the standard's statuses. -/
def execEpCreateIoSq (fn : Fin 64) (cid : BitVec 16) (s : State) : Out := onEpAdmin fn cid 0x01 s fun c s =>
  let f := fn.val
  let y := c.cap.cdw10 % 65536
  let size := c.cap.cdw10 / 65536 + 1
  let cq := c.cap.cdw11 / 65536
  if c.cap.cdw11 % 2 = 0 then s.epLocal c stBadField
  else if y = 0 ∨ 63 < y ∨ (s.epSq f y).isSome then s.epLocal c 0x101
  else if cq = 0 ∨ 63 < cq then s.epLocal c 0x101
  else if (s.epCq f cq).isNone then s.epLocal c 0x100
  else if size < 2 ∨ 1024 < size then s.epLocal c 0x102
  else
    let host := s.r 0 (.epf .F_CFG_host_id) f
    let s := s.setEp { s.ep with sqs := s.ep.sqs ++ [{ fn := f, qid := y, size := size, cq := cq }] }
    let s := foldS (fun (s : State) i =>
      let d := cdId i
      let z := s.cd d
      if s.cdUp d then s.setCd d { z with queues := z.queues ++ [⟨epConn d f y, host, y, size, 0⟩] } else s) s s.cds
    (s.epShow f).epLocal c stOk

/-- EP_CREATE_IO_CQ (R513): opcode 0x05. -/
def execEpCreateIoCq (fn : Fin 64) (cid : BitVec 16) (s : State) : Out := onEpAdmin fn cid 0x05 s fun c s =>
  let f := fn.val
  let y := c.cap.cdw10 % 65536
  let size := c.cap.cdw10 / 65536 + 1
  let vec := c.cap.cdw11 / 65536
  if c.cap.cdw11 % 2 = 0 then s.epLocal c stBadField
  else if y = 0 ∨ 63 < y ∨ (s.epCq f y).isSome then s.epLocal c 0x101
  else if size < 2 ∨ 1024 < size then s.epLocal c 0x102
  else if 63 < vec then s.epLocal c 0x108
  else
    let s := s.setEp { s.ep with cqs := s.ep.cqs ++ [{ fn := f, qid := y, size := size, cq := vec, ien := c.cap.cdw11.testBit 1 }] }
    s.epLocal c stOk

/-- EP_DELETE_IO_SQ (R513): opcode 0x00; commands of the queue at the endpoint are aborted, the forwarded ones lose their
connection. -/
def execEpDeleteIoSq (fn : Fin 64) (cid : BitVec 16) (s : State) : Out := onEpAdmin fn cid 0x00 s fun c s =>
  let f := fn.val
  let y := c.cap.cdw10 % 65536
  if y = 0 ∨ (s.epSq f y).isNone then s.epLocal c 0x101 else
    let s := foldS (fun (s : State) x => s.epLocal x stAborted) s
      (s.ep.cmds.filter (fun x => x.fn = f && x.sq = y && (x.st = 0 || x.st = 1 || x.st = 3)))
    let e := s.ep
    let s := s.setEp { e with
      sqs := e.sqs.filter (fun q => !(q.fn = f && q.qid = y)), cmds := e.cmds.filter (fun x => !(x.fn = f && x.sq = y))
      land := e.land.filter (fun l => !(epFn l.conn = f && l.conn % 64 = y && !l.fwd))
      reqs := e.reqs.map (fun (r : EpReq) => if r.fn = f && r.sq = y then { r with stale := true } else r) }
    let s := foldS (fun (s : State) i =>
      let d := cdId i
      let z := s.cd d
      let conn := epConn d f y
      let s := s.setCd d { z with queues := z.queues.filter (fun q => q.conn ≠ conn) }
      (foldS (fun (s : State) n => s.chainFailed d n) s (s.liveChains d conn)).landShow d) s s.cds
    (s.epShow f).epLocal c stOk

/-- EP_DELETE_IO_CQ (R513): opcode 0x04; refused while a submission queue uses it. -/
def execEpDeleteIoCq (fn : Fin 64) (cid : BitVec 16) (s : State) : Out := onEpAdmin fn cid 0x04 s fun c s =>
  let f := fn.val
  let y := c.cap.cdw10 % 65536
  if y = 0 ∨ (s.epCq f y).isNone then s.epLocal c 0x101
  else if s.ep.sqs.any (fun q => q.fn = f && q.qid ≠ 0 && q.cq = y) then s.epLocal c 0x10C
  else (s.setEp { s.ep with cqs := s.ep.cqs.filter (fun q => !(q.fn = f && q.qid = y)) }).epLocal c stOk

/-! ### Data and completions (R517, R519, R514) -/

/-- A data fetch has failed (R516 check 6): the command is never forwarded. -/
def State.epDataFailed (s : State) (r : EpReq) : State :=
  match s.ep.cmds.find? (fun c => c.tok = r.tok) with
  | none => s
  | some c =>
    let s := s.setEp { s.ep with land := s.ep.land.filter (fun l => !(l.conn = epConn c.die c.fn c.sq && l.cid = c.cap.cid && !l.fwd)) }
    ((((s.landShow c.die).epLocal c stDataTransfer).epAdvance c.fn c.sq c.die).epRetry)

/-- EP_DATA_FETCH_COMPLETE (R517): the data is in the landing area; `data` are a Write's blocks, `info` a range list or the
data of a reservation command. -/
def execEpDataFetchComplete (tag : BitVec 14) (data : List Block) (info : List Nat) (s : State) : Out := onEp s fun s =>
  match s.epReq tag.toNat with
  | none => s
  | some r =>
    if r.fetch || r.stale then s else
      let s := (s.dropReq r.tag).epfBump 0
      match s.ep.cmds.find? (fun c => c.tok = r.tok) with
      | none => s
      | some c =>
        let c := { c with st := 1, cap := { c.cap with data := data, info := info } }
        let s := s.setEp { s.ep with cmds := s.ep.cmds.map (fun (x : EpCmd) => if x.tok = c.tok then c else x) }
        (s.epAdvance c.fn c.sq c.die).epRetry

/-- EP_CHAIN_WORK_REQUEST (R519, R528): the oldest work request at port 11: read data is scattered, the response writes the
completion entry; what comes for a stopped function is discarded. -/
def execEpChainWorkRequest (relaxed : Bool) (s : State) : Out := onEp s fun s =>
  match s.ep.port11 with
  | [] => s
  | (d, n, final) :: rest =>
    let s := s.setEp { s.ep with port11 := rest }
    let z := s.slot d n
    match s.ep.cmds.find? (fun c => c.die = d && c.st = 2 && epConn d c.fn c.sq = z.conn && c.cap.cid = z.cap.cid) with
    | none => s.epfBump 8
    | some c =>
      if final then
        let c := { c with status := z.status.getD 0, dw0 := z.dw0, dw1 := z.dw1, chain := some n }
        let s := s.setEp { s.ep with cmds := s.ep.cmds.map (fun (x : EpCmd) => if x.tok = c.tok then c else x) }
        s.epFinish c
      else (s.epfBump 1).emit (.epData c.fn c.cap.cid n relaxed)

/-- EP_MSIX_SEND (R514): a vector's message is posted while MSI-X is enabled, at most once in 1 µs of TS64; masked or in D3hot
it is held in the pending bit array. -/
def execEpMsixSend (fn : Fin 64) (vec : Fin 64) (enabled masked : Bool) (s : State) : Out := onEp s fun s =>
  let m := (fn.val, vec.val)
  let us := s.ts64 0 / 1000
  let due := s.ep.msiDue.contains m || s.ep.pba.contains m
  let e := s.ep
  if !due || !s.fnRuns fn.val then s
  else if !enabled then s.setEp { e with msiDue := e.msiDue.filter (· ≠ m) }
  else if masked || s.r 0 (.epf .F_STATE_dstate) fn.val = 3 then
    s.setEp { e with msiDue := e.msiDue.filter (· ≠ m), pba := if e.pba.contains m then e.pba else e.pba ++ [m] }
  else if s.tsSet 0 && alGet e.msiAt m = some us then s
  else
    let s := s.setEp { e with msiDue := e.msiDue.filter (· ≠ m), pba := e.pba.filter (· ≠ m), msiAt := alPut e.msiAt m us }
    ((s.epfBump 7).epfBump 1).emit (.epMsix fn.val vec.val)

/-! ### Timeouts and completions (R522, R523) -/

/-- *Completion timeout values*, in ns. -/
def ctoNs (enc : Nat) : Option Nat := match enc with
  | 0 => some 40000000
  | 1 => some 80000
  | 2 => some 8000000
  | 5 => some 40000000
  | 6 => some 160000000
  | 9 => some 700000000
  | 10 => some 3000000000
  | 13 => some 10000000000
  | 14 => some 50000000000
  | _ => none

/-- EP_COMPLETION_TIMEOUT (R522, R523, R529): `enc` and `off` are Device Control 2's value and Completion Timeout Disable. -/
def execEpCompletionTimeout (tag : BitVec 14) (enc : BitVec 4) (off : Bool) (s : State) : Out := onEp s fun s =>
  match s.epReq tag.toNat with
  | none => s
  | some r =>
    let own := if off then none else (ctoNs enc.toNat).map (r.issued + ·)
    let at_ := match own, r.resetAt with
      | some a, some b => some (min a (b + 90000000))
      | some a, none => some a
      | none, some b => some (b + 90000000)
      | none, none => none
    match at_ with
    | none => s
    | some t =>
      let s := (s.dropReq r.tag).advance t
      let s := s.setEp { s.ep with heldTags := s.ep.heldTags.filter (fun h => h.1 ≠ r.tag) ++ [(r.tag, s.now + 1000000000)] }
      let s := ((s.epfBump 10).ev 0 (.epf .EVENTS_completion_timeout)).emit (.epAer r.fn 0)
      if r.stale then s
      else if r.fetch then (s.epStop r.fn false).epCfs r.fn
      else s.epDataFailed r

/-- EP_COMPLETION_RECEIVED (R522, R523, R528): a completion of a tag; `bad` is one with UR or CA status.  A good completion of a
live request is taken with its contents by EP_SQ_FETCH_COMPLETE or EP_DATA_FETCH_COMPLETE. -/
def execEpCompletionReceived (tag : BitVec 14) (bad : Bool) (s : State) : Out := onEp s fun s =>
  match s.epReq tag.toNat with
  | some r =>
    if r.stale then ((s.epfBump 0).dropReq r.tag).epfBump 9
    else if !bad then s
    else
      let s := (s.epfBump 0).dropReq r.tag
      if r.fetch then (s.epStop r.fn false).epCfs r.fn else s.epDataFailed r
  | none =>
    let s := (s.epfBump 0).emit (.epAer 0 1)
    let s := s.logEv 0 0x15 .unexpectedCompletion [tag.toNat]
    if s.ep.heldTags.any (fun h => h.1 = tag.toNat && decide (s.now < h.2)) then
      (s.epfBump 11).ev 0 (.epf .EVENTS_late_completion)
    else (s.epfBump 12).ev 0 (.epf .EVENTS_unexpected_completion)

/-! ### Stop causes, power states and resets (R524-R530) -/

/-- EP_BME_CLEAR (R527). -/
def execEpBmeClear (fn : Fin 64) (s : State) : Out := onEp s fun s =>
  let f := fn.val
  if !s.fnExists f then s else
    let s := s.w 0 (.epf .F_STATE_bme) 0 f
    if s.rb 0 (.epf .F_STATE_cc_en) f && !s.ep.stopped.contains f then (s.epStop f false).epCfs f else s

/-- EP_D3HOT_ENTRY (R524): with PME_En as the host has set it. -/
def execEpD3hotEntry (fn : Fin 64) (pmeEn : Bool) (s : State) : Out := onEp s fun s =>
  let f := fn.val
  if !s.fnExists f || s.r 0 (.epf .F_STATE_dstate) f = 3 then s else
    let s := s.w 0 (.epf .F_STATE_dstate) 3 f
    let l := s.ep.pmeEn.filter (· ≠ f)
    let s := s.setEp { s.ep with pmeEn := if pmeEn then l ++ [f] else l }
    if s.r 0 (.epf .F_STATE_in_flight) f = 0 ∨ s.ep.stopped.contains f then s else (s.epStop f false).epCfs f

/-- EP_D0_ENTRY (R524, R532): queues and held messages go on; PME_Status is cleared by the host or stands. -/
def execEpD0Entry (fn : Fin 64) (clearPme : Bool) (s : State) : Out := onEp s fun s =>
  let f := fn.val
  if !s.fnExists f || s.r 0 (.epf .F_STATE_dstate) f ≠ 3 then s else
    let s := s.w 0 (.epf .F_STATE_dstate) 0 f
    s.setEp { s.ep with pmeStatus := if clearPme then s.ep.pmeStatus.filter (· ≠ f) else s.ep.pmeStatus
                        msiDue := s.ep.msiDue ++ (s.ep.pba.filter (fun m => m.1 = f && !s.ep.msiDue.contains m))
                        pba := s.ep.pba.filter (fun m => m.1 ≠ f) }

/-- EP_FLR (R525): a PF reset also clears VF Enable. -/
def execEpFlr (fn : Fin 64) (s : State) : Out := onEp s fun s =>
  if !s.fnExists fn.val then s
  else if fn.val = 0 then s.epResetAll else s.epReset fn.val

/-- EP_VF_ENABLE (R510): VF Enable set with NumVFs, or NumVFs raised. -/
def execEpVfEnable (n : Fin 64) (s : State) : Out := onEp s fun s =>
  if s.r 0 (.epf .STATUS_num_vfs) < n.val then s.w 0 (.epf .STATUS_num_vfs) n.val else s

/-- EP_VF_DISABLE (R527): the VFs above the new number cease. -/
def execEpVfDisable (n : Fin 64) (s : State) : Out := onEp s fun s =>
  let old := s.r 0 (.epf .STATUS_num_vfs)
  if old ≤ n.val then s else
    let s := foldS (fun (s : State) f => s.epReset f) s ((List.range (old + 1)).filter (fun f => decide (n.val < f)))
    s.w 0 (.epf .STATUS_num_vfs) n.val

/-- The link goes down. -/
def State.epLinkDown (s : State) : State :=
  let was := s.r 0 (.epf .STATUS_link_state)
  let s := if 2 ≤ was then s.ev 0 (.epf .EVENTS_link_down) else s
  (((s.w 0 (.epf .STATUS_link_state) 0).w 0 (.epf .STATUS_speed) 0).w 0 (.epf .STATUS_width) 0).w 0 (.epf .STATUS_l0p_width) 0

/-- The link trains (R507): some function configured, EP_PERST_N deasserted, EP_REFCLK valid, from Bring-up on. -/
def State.epTrain (s : State) : State :=
  let conf := (List.range 64).any s.fnConfigured
  let s := s.wb 0 (.epf .STATUS_configured) conf
  if conf && !s.rb 0 (.epf .STATUS_perst) && s.ep.refclk && decide (3 ≤ s.modeNow) && s.r 0 (.epf .STATUS_link_state) = 0 then
    s.w 0 (.epf .STATUS_link_state) 1 else s

/-- EP_CONVENTIONAL_RESET (R525): EP_PERST_N, a hot reset, or a link down. -/
def execEpConventionalReset (perst hot : Bool) (s : State) : Out := onEp s fun s =>
  let s := s.epResetAll
  let s := if perst then s.w 0 (.epf .STATUS_perst) 1 else s
  if hot && !perst then s else s.epLinkDown.epTrain

/-- EP_RESET_COMPLETE (R529): no stale request is left; the channel dies have confirmed. -/
def execEpResetComplete (fn : Fin 64) (s : State) : Out := onEp s fun s =>
  if s.ep.reqs.any (fun r => r.fn = fn.val) then s else s.w 0 (.epf .F_STATE_stopping) 0 fn.val

/-- EP_PERST_DEASSERT (R526, R507). -/
def execEpPerstDeassert (s : State) : Out := onEp s fun s =>
  let s := if s.rb 0 (.epf .STATUS_wake) then (s.w 0 (.epf .STATUS_wake) 0).emit (.pin "EP_WAKE_N" true) else s
  (s.w 0 (.epf .STATUS_perst) 0).epTrain

/-- EP_LINK_UP (R506, R507): speed code 1-6, lanes. -/
def execEpLinkUp (speed : BitVec 4) (width : BitVec 5) (s : State) : Out := onEp s fun s =>
  let w := width.toNat
  if s.r 0 (.epf .STATUS_link_state) ≠ 1 ∨ !between 1 speed.toNat 6 ∨ !([1, 2, 4, 8, 16].contains w) then s else
    (((s.w 0 (.epf .STATUS_link_state) 2).w 0 (.epf .STATUS_speed) speed.toNat).w 0 (.epf .STATUS_width) w).w 0 (.epf .STATUS_l0p_width) w

/-- EP_L0P_WIDTH_CHANGE (R508): the partner's request is accepted: state 2 L0, 3 L0p with a width, 4 L1, 5 L1.1, 6 L1.2. -/
def execEpL0pWidthChange (state : BitVec 3) (width : BitVec 5) (s : State) : Out := onEp s fun s =>
  let st := state.toNat
  let w := width.toNat
  let full := s.r 0 (.epf .STATUS_width)
  if s.r 0 (.epf .STATUS_link_state) < 2 ∨ st < 2 ∨ 6 < st then s
  else if st = 3 then
    if [1, 2, 4, 8, 16].contains w && decide (w ≤ full) then
      (s.w 0 (.epf .STATUS_link_state) (if w = full then 2 else 3)).w 0 (.epf .STATUS_l0p_width) w else s
  else if st = 2 then (s.w 0 (.epf .STATUS_link_state) (if s.r 0 (.epf .STATUS_l0p_width) < full then 3 else 2))
  else s.w 0 (.epf .STATUS_link_state) st

/-- EPF_SNAPSHOT (R534). -/
def execEpfSnapshot (q : Req) (s : State) : Out := onEp s fun s =>
  s.snapshot 0 0x15 q.secure (s.counters 0 0x15 14) (.epf .SNAP_CTRL_done)

end Sys2Proof.Machine
end

