-- ==== Sys2Proof/Machine/Mgt.lean ====
section
/-! DEFINITION. The meanings of the commands of the management subsystem (spec/19). -/

set_option Elab.async false

namespace Sys2Proof.Machine

/-! ### Cores and watchdogs (R535, R537) -/

/-- LOCKSTEP_MISMATCH (R535). -/
def execLockstepMismatch (s : State) : Out := .next s.fatal

/-- SECURE_WATCHDOG_EXPIRY (R537). -/
def execSecureWatchdogExpiry (s : State) : Out :=
  match s.mgt.sWdt with
  | none => .next s
  | some t => .next ((s.advance t).setMgt { (s.advance t).mgt with sWdt := none }).fatal

/-- NS_WATCHDOG_EXPIRY (R537): the non-secure cores restart; MCTP state and an update's transfer are dropped. -/
def execNsWatchdogExpiry (s : State) : Out :=
  match s.mgt.nsWdt with
  | none => .next s
  | some t =>
    let s := s.advance t
    let s := s.setMgt { s.mgt with nsWdt := some (s.now + 1000000 * s.r mdId (.mgt .WDT_CFG_ns_timeout_ms)), eids := [], console := [] }
    let s := (s.ev mdId (.mgt .EVENTS_ns_watchdog)).logMgt 0x332 []
    .next (if s.r mdId (.mgt .FW_STATUS_update_state) = 1 then s.updateEnds 6 0xE else s)

/-- SECURE_WATCHDOG_KICK (R537): s_kick, secure world only. -/
def execSecureWatchdogKick (q : Req) (s : State) : Out :=
  .next (s.secureOnly q mdId (.mgt .WDT_KICK_s_kick)
    (s.setMgt { s.mgt with sWdt := some (s.now + 1000000 * s.r mdId (.mgt .WDT_CFG_s_timeout_ms)) }))

/-- NS_WATCHDOG_KICK (R537): ns_kick. -/
def execNsWatchdogKick (s : State) : Out :=
  .next (s.setMgt { s.mgt with nsWdt := some (s.now + 1000000 * s.r mdId (.mgt .WDT_CFG_ns_timeout_ms)) })

/-- A message has come and is answered. -/
def State.mctpAnswer (s : State) (what binding : Nat) (fields : List Nat) : State :=
  ((s.mgtBump 4).mgtBump 5).emit (.mgmt what binding fields)

/-! ### Updates (R545-R548) -/

/-- Modes in which a firmware update is accepted (R546). -/
def fwUpdateMode (m : Nat) : Bool := m = 4 || m = 5 || m = 6 || m = 0xA || m = 0xB

/-- PLDM_REQUEST_UPDATE (R545-R547): of component 1 or 2, on a binding.  The answer: 0 accepted, 1 ALREADY_IN_UPDATE_MODE,
2 NOT_IN_UPDATE_MODE, 3 refused with code 0x0F. -/
def execPldmRequestUpdate (binding : Fin 3) (comp : Fin 3) (s : State) : Out :=
  let b := binding.val
  let c := comp.val
  if c = 0 then .next s
  else if s.mgt.update.isSome then .next (s.mctpAnswer 0 b [1])
  else if !(if c = 1 then fwUpdateMode s.modeNow else stageMode s.modeNow) then .next (s.mctpAnswer 0 b [2])
  else if c = 1 && (s.fwSel.trial || between 1 (s.r mdId (.img .STATUS_stage_state)) 2) then
    let s := (s.w mdId (.mgt .FW_STATUS_fail_code) 0xF).ev mdId (.mgt .EVENTS_update_failed)
    .next ((s.logMgt 0x321 [c, 0xF]).mctpAnswer 0 b [3])
  else
    let s := s.setMgt { s.mgt with update := some { comp := c, binding := b, deadline := s.now + 60000000000 } }
    let s := if c = 1 then s.setFwSlot (1 - s.fwSel.current) none else s
    let s := (s.w mdId (.mgt .FW_STATUS_update_state) 1).w mdId (.mgt .FW_STATUS_fail_code) 0
    .next (((s.mgtBump 8).logMgt 0x320 [c]).mctpAnswer 0 b [0])

/-- PLDM_FIRMWARE_DATA (R545, R546): a piece of 64 to 4,096 bytes; with the last piece the image is whole.  `err` is an NVM
write error. -/
def execPldmFirmwareData (bytes : Nat) (fw : Option FwImage) (cfg : Option Image) (err : Bool) (s : State) : Out :=
  match s.mgt.update with
  | none => .next s
  | some u =>
    if s.r mdId (.mgt .FW_STATUS_update_state) ≠ 1 ∨ !between 1 bytes 4096 then .next s
    else if err then .next (s.updateEnds 5 0xD)
    else
      let u := { u with bytes := u.bytes + bytes, deadline := s.now + 60000000000
                        fw := if u.comp = 1 then fw else none, cfg := if u.comp = 2 then cfg else none }
      .next (((s.setMgt { s.mgt with update := some u }).mgtBump 4).mgtBump 5)

/-- FIRMWARE_UPDATE_VERIFIED (R546, R543): VerifyComplete: the slot is read back and validated, or a configuration image's
staging starts. -/
def execFirmwareUpdateVerified (s : State) : Out :=
  match s.mgt.update with
  | none => .next s
  | some u =>
    if s.r mdId (.mgt .FW_STATUS_update_state) ≠ 1 then .next s else
    match u.comp, u.fw, u.cfg with
    | 1, some f, _ =>
      let code := s.fwUpdateCheck f
      if code ≠ 0 then .next ((s.updateEnds 5 code).mctpAnswer 0 u.binding [code])
      else
        let s := (s.setFwSlot (1 - s.fwSel.current) (some f)).w mdId (.mgt .FW_STATUS_update_state) 3
        .next ((s.ev mdId (.mgt .EVENTS_update_done)).mctpAnswer 0 u.binding [0])
    | 2, _, some m =>
      let s := { s with img := { s.img with buffer := some m } }
      let s := (s.setMgt { s.mgt with update := none }).w mdId (.mgt .FW_STATUS_update_state) 3
      execImgStageStart ⟨7, true⟩ false ((s.ev mdId (.mgt .EVENTS_update_done)).mctpAnswer 0 u.binding [0])
    | _, _, _ => .next s

/-- PLDM_ACTIVATE_FIRMWARE (R548). -/
def execPldmActivateFirmware (s : State) : Out :=
  match s.mgt.update with
  | some u =>
    if u.comp = 1 && s.r mdId (.mgt .FW_STATUS_update_state) = 3 then
      let rel := (u.fw.map (·.release)).getD 0
      let s := s.writeFwSel (fun x => { x with trial := true, attempts := 0, trialRelease := rel })
      .next (((s.setMgt { s.mgt with update := none }).w mdId (.mgt .FW_STATUS_update_state) 4).mctpAnswer 0 u.binding [0])
    else .next s
  | none => .next s

/-- PLDM_CANCEL_UPDATE (R547): by the agent whose update is in progress. -/
def execPldmCancelUpdate (binding : Fin 3) (s : State) : Out :=
  if s.mgt.update.any (fun u => u.binding = binding.val) then .next ((s.updateEnds 6 0xE).mctpAnswer 0 binding.val [0]) else .next s

/-- PLDM_TRANSFER_TIMEOUT (R547): 60 s without transfer. -/
def execPldmTransferTimeout (s : State) : Out :=
  match s.mgt.update with
  | some u => if s.r mdId (.mgt .FW_STATUS_update_state) = 1 then .next ((s.advance u.deadline).updateEnds 6 0xE) else .next s
  | none => .next s

/-! ### Management transports (R549-R553) -/

/-- MCTP_CONTROL_MESSAGE (R549): command 0x01 Set Endpoint ID by the bus owner, 0x02 Get Endpoint ID, others answered as such;
the endpoint ID of the SGMII binding is fixed by the role. -/
def execMctpControlMessage (binding : Fin 3) (cmd eid : BitVec 8) (s : State) : Out :=
  let b := binding.val
  let fixed := if s.role = 2 then 0x11 else 0x10
  let s := if cmd = 1 ∧ b ≠ 2 then s.setMgt { s.mgt with eids := alPut s.mgt.eids b eid.toNat } else s
  .next (s.mctpAnswer 1 b [cmd.toNat, if b = 2 then fixed else (alGet s.mgt.eids b).getD 0])

/-- NVME_MI_COMMAND (R550): Read Data Structure 0x00, Subsystem Health Status Poll 0x01, Controller Health Status Poll 0x02,
Configuration Get 0x04, VPD Read 0x05; every other is an Invalid Command Opcode. -/
def execNvmeMiCommand (binding : Fin 3) (op : BitVec 8) (s : State) : Out :=
  let s := s.mgtBump 7
  let fails := (s.cds.filter (fun c => s.chanFailed (cdId c))).length
  let temp := ((List.range 40).map (fun i => s.r mdId (.mgt .SENSOR_value) i)).foldl max 0
  .next (match op.toNat with
    | 0x00 => s.mctpAnswer 2 binding.val [0, 0, 2]
    | 0x01 => s.mctpAnswer 2 binding.val [0, 1, fails, temp]
    | 0x02 => s.mctpAnswer 2 binding.val [0, 2, fails, temp]
    | 0x04 => s.mctpAnswer 2 binding.val [0, 4, 64]
    | 0x05 => s.mctpAnswer 2 binding.val [0, 5, s.r mdId (.mgt .ID_part_code), Config.packageId]
    | _ => s.mctpAnswer 2 binding.val [3])

/-- MI_ADMIN_COMMAND (R550): an admin command by NVMe-MI to a controller: Identify, Get Log Page and Get Features, read-only, with
every namespace and every log record in view. -/
def execMiAdminCommand (binding : Fin 3) (ctrl : BitVec 16) (op : BitVec 8) (nsid cdw10 : BitVec 32) (s : State) : Out :=
  let id := ctrl.toNat
  let ups := (s.cds.map cdId).filter (fun d => s.cdUp d && !s.chanFailed d)
  let ep := decide (0x7000 ≤ id)
  let d := if ep then ups.headD 0 else id / 0x1000
  let s := s.mgtBump 7
  let img := s.img.active.getD {}
  let all := img.namespaces.filter (fun n => n.flags.testBit 0)
  let ns := fun k => (all.find? (fun n => n.nsid = k)).map (fun n => [n.size, 0, 0, 12, 1, 0x7F, 0x09, n.anagrp, n.nguid, n.eui64])
  let answer := fun (l : List Nat) => s.mctpAnswer 2 binding.val (stOk :: l)
  .next (if !s.cdUp d then s.mctpAnswer 2 binding.val [stUnavailable] else
    match op.toNat, cdw10.toNat % 256 with
    | 0x06, 0x00 => answer ((ns nsid.toNat).getD [])
    | 0x06, 0x01 => answer (identifyCtrl id ep)
    | 0x06, 0x02 => answer (((sortKey (fun n => n) (all.map (·.nsid))).filter (fun n => decide (nsid.toNat < n))).take 1024)
    | 0x06, 0x03 => answer (((all.find? (fun n => n.nsid = nsid.toNat)).map (fun n => [n.nguid, n.eui64])).getD [])
    | 0x02, 0xD0 => answer ((s.cmd.deferLog.map (fun (r : DeferRec) => [r.seq, r.range.nsid, r.range.cause, r.range.slba, r.range.nlb,
        if r.cleared then 1 else 0])).flatten)
    | 0x02, 0x81 => answer (s.sanitizePage d)
    | 0x02, 0x03 => answer [1, s.r mdId (.mgt .FW_RELEASE_release)]
    | 0x02, p => match s.ctrl d id with
      | some c => answer (p :: c.errors.flatten)
      | none => answer [p]
    | 0x0A, 0x07 => answer [if ep then 62 + 65536 * 62 else 254 + 65536 * 254]
    | 0x0A, 0x0B => answer [((s.ctrl d id).map (·.aeMask)).getD 0]
    | 0x0A, 0x0F => answer [((s.ctrl d id).map (·.kato)).getD 0]
    | 0x0A, 0x83 => answer [1]
    | 0x06, _ => s.mctpAnswer 2 binding.val [stBadField]
    | 0x0A, _ => s.mctpAnswer 2 binding.val [stBadField]
    | _, _ => s.mctpAnswer 2 binding.val [stBadOpcode])

/-- A binding's bit of export_paths (spec/04 R93): bit 0 SGMII, bit 1 SMBus or I3C, bit 2 PCIe VDM. -/
def State.exports (s : State) (b : Nat) : Bool :=
  ((s.img.active.getD {}).security.exportPaths).testBit (if b = 2 then 0 else if b = 0 then 1 else 2)

/-- FOLRIC_READ_EVENT_LOG (R551): up to 15 records from a seq upward, from the ring or the NVM log. -/
def execFolricReadEventLog (binding : Fin 3) (start : Nat) (n : Fin 16) (s : State) : Out :=
  let b := binding.val
  if !s.exports b then .next (s.mctpAnswer 4 b [1]) else
  let held := s.mgt.evlog ++ s.mgt.nvmLog.filter (fun e => !s.mgt.evlog.any (fun x => x.seq = e.seq))
  let l := ((sortKey (fun (e : EvRec) => e.seq) held).filter (fun e => decide (start ≤ e.seq))).take n.val
  .next (s.mctpAnswer 4 b (l.length :: (l.map (fun (e : EvRec) => [e.seq, e.r.ts64, e.r.uptime, e.boot, e.r.die, e.r.blk, e.severity,
    e.r.code.number e.r.blk] ++ e.r.args)).flatten))

/-- FOLRIC_READ_LEDGER (spec/20 R579): status 1 for a record not held, 2 for an offset beyond it; the record of
which at most 1,008 bytes are read, as its fields. -/
def execFolricReadLedger (binding : Fin 3) (seq off : Nat) (len : BitVec 16) (s : State) : Out :=
  let b := binding.val
  if !s.exports b then .next (s.mctpAnswer 4 b [1]) else
  let l := s.sec.ledger
  let lo := ((l.head?).map (·.seq)).getD 0
  let hi := ((l.getLast?).map (·.seq)).getD 0
  .next (match l.find? (fun r => r.seq = seq) with
    | none => s.mctpAnswer 4 b [1, 0, lo, hi]
    | some r =>
      let n := recordLen r.kind
      if n ≤ off then s.mctpAnswer 4 b [2, n, lo, hi] else s.mctpAnswer 4 b ([0, n, lo, hi, off, min (min len.toNat 1008) (n - off),
        r.kind, if r.brk then 1 else 0, r.bootCount, r.seq, r.prev, r.ts, r.uptime, r.quality] ++ r.body))

/-- FOLRIC_READ_SENSORS (R551): on every binding. -/
def execFolricReadSensors (binding : Fin 3) (first : Fin 64) (count : Fin 65) (s : State) : Out :=
  .next (s.mctpAnswer 4 binding.val (((List.range count.val).filter (fun i => decide (first.val + i < 64))).map (fun i =>
    let n := first.val + i
    s.r mdId (.mgt .SENSOR_value) n * 65536 + s.r mdId (.mgt .SENSOR_crit) n * 4 + s.r mdId (.mgt .SENSOR_warn) n * 2 +
      s.r mdId (.mgt .SENSOR_valid) n)))

/-- SGMII_DATAGRAM (R552): kind 0 ARP, 1 ICMP echo, 2 an MCTP packet on port 4860, others not served; 4,000 in a second.
An MCTP packet's message is counted where it is answered. -/
def execSgmiiDatagram (kind : Fin 4) (s : State) : Out :=
  let sec := s.now / 1000000000
  let m := s.mgt
  let n := if m.second = sec then m.answered else 0
  if kind.val = 3 then .next s
  else if 4000 ≤ n then .next ((s.setMgt { m with second := sec, answered := n }).mgtBump 6)
  else
    let s := s.setMgt { m with second := sec, answered := n + 1 }
    .next (if kind.val = 2 then s else s.emit (.mgmt 5 2 [kind.val]))

/-- UART_INPUT (R553): accepted only in Maintenance entered from the manufacturing-test strap code. -/
def execUartInput (c : BitVec 8) (s : State) : Out :=
  if s.modeNow = 0xA && s.mode.fromTest && s.rb mdId (.rst .STRAP_mfg_test) then
    .next (s.setMgt { s.mgt with console := s.mgt.console ++ [c.toNat] })
  else .next s

/-! ### Event log (R554-R556) -/

/-- EVENT_LOG_APPEND (R554, R556). -/
def execEventLogAppend (s : State) : Out :=
  match s.logq with
  | [] => .next s
  | r :: l => .next (({ s with logq := l } : State).evTake r)

/-- EVENT_LOG_NVM_COPY (R555): a page write of up to four records that are due and still in the ring; `ok` unless NVM reports an
error. -/
def execEventLogNvmCopy (ok : Bool) (s : State) : Out :=
  let m := s.mgt
  if m.nvmStopped || s.rb mdId (.fls .STATUS_warning) || m.nvmDue.isEmpty then .next s
  else if !ok then
    .next (((s.setMgt { m with nvmStopped := true }).w mdId (.mgt .EVLOG_STATUS_nvm_ok) 0).ev mdId (.mgt .EVENTS_nvm_log_error))
  else
    let due := m.evlog.filter (fun e => m.nvmDue.contains e.seq)
    let l := due.take 4
    let left := (due.drop 4).map (·.seq)
    let log := m.nvmLog ++ l
    .next ((s.setMgt { m with nvmDue := left, nvmLog := log.drop (log.length - 262144) }).mgtBump 3 l.length)

/-- SUPPRESSION_PERIOD_END (R556). -/
def execSuppressionPeriodEnd (s : State) : Out := .next (s.advance ((s.now / 10000000 + 1) * 10000000)).evPeriod

/-! ### Sensors (R557, R558) -/

/-- The die of a sensor. -/
def sensorDie (n : Nat) : Nat :=
  if n < 8 then 0 else if n < 32 then (n - 8) / 4 + 1 else if n < 34 then 7 else if n < 40 then n - 33
  else if n = 40 then 0 else if n < 47 then n - 40 else 7
def junction (n : Nat) : Bool := decide (n < 34)

/-- SENSOR_SAMPLE (R557, R558): a value in the sensor's unit. -/
def execSensorSample (idx : Fin 51) (value : Int) (s : State) : Out :=
  let n := idx.val
  if !s.hasDie (sensorDie n) then .next s else
  let s := (s.w mdId (.mgt .SENSOR_value) (toSigned 16 value) n).w mdId (.mgt .SENSOR_valid) 1 n
  if !decide (n < 40) then .next s else
    let warn : Int := 8 * s.r mdId (.mgt .THERM_CFG_warn_c)
    let was := s.rb mdId (.mgt .SENSOR_warn) n
    let s := if !was && decide (warn ≤ value) then
        ((s.w mdId (.mgt .SENSOR_warn) 1 n).ev mdId (.mgt .EVENTS_sensor_warn)).logMgt 0x330 [n, toSigned 16 value]
      else if was && decide (value ≤ warn - 16) then s.w mdId (.mgt .SENSOR_warn) 0 n else s
    let hot := decide (920 ≤ value)
    .next (if !junction n then s
      else if hot then (if s.mgt.hot.any (fun e => e.1 = n) then s else s.setMgt { s.mgt with hot := s.mgt.hot ++ [(n, s.now)] })
      else (s.setMgt { s.mgt with hot := alDel s.mgt.hot n }).w mdId (.mgt .SENSOR_crit) 0 n)

/-- THERMAL_TRIP (R558): a junction at or above 115 °C for 1 ms. -/
def execThermalTrip (idx : Fin 51) (s : State) : Out :=
  let n := idx.val
  match alGet s.mgt.hot n with
  | none => .next s
  | some t =>
    if s.rb mdId (.mgt .SENSOR_crit) n then .next s else
    let s := ((s.advance (t + 1000000)).w mdId (.mgt .SENSOR_crit) 1 n).ev mdId (.mgt .EVENTS_thermal_trip)
    .next (s.logMgt 0x331 [n, s.r mdId (.mgt .SENSOR_value) n]).fatal

/-! ### Registers with effects of their own -/

/-- QCAUSE_READ (R560): a read that returns a non-zero code then clears it. -/
def execQcauseRead (s : State) : Out :=
  .next ((s.emit (.readData (fldAddr mdId (.mgt .QCAUSE_code)) (s.r mdId (.mgt .QCAUSE_code)))).w mdId (.mgt .QCAUSE_code) 0)

/-- MGT_SNAPSHOT (R561). -/
def execMgtSnapshot (q : Req) (s : State) : Out :=
  .next (s.snapshot mdId 0x03 q.secure (s.counters mdId 0x03 9) (.mgt .SNAP_CTRL_done))

end Sys2Proof.Machine
end

