-- ==== Sys2Proof/Machine/Security.lean ====
section
/-! DEFINITION. The meanings of the commands of Proofing, the boot ledger, enrolment, debug and tamper (spec/20). -/

set_option Elab.async false

namespace Sys2Proof.Machine

/-! ### Proofing (R567, R568) -/

/-- Firmware selection at a start (R548): the slot that the boot ROM loads; none where neither slot verifies. -/
def State.fwBoot (s : State) : Option State :=
  let x := s.fwSel
  let ok := fun (s : State) (i : Nat) => match s.fwSlot i with
    | some f => decide (s.fwCheck f = 0)
    | none => false
  let run := fun (s : State) i (trial : Bool) =>
    let f := (s.fwSlot i).getD {}
    let s := s.setMgt { s.mgt with running := some f, runSlot := i }
    let s := (s.w mdId (.mgt .FW_RELEASE_release) f.release).w mdId (.mgt .FW_PAIR_FLOOR_floor) f.pairFloor
    (s.wb mdId (.mgt .FW_STATUS_trial_running) trial).fwShow
  let cur := fun (s : State) (fell : Bool) =>
    -- A current slot that fails leaves the other (R548: neither slot verifies).
    let s := if fell then ((s.w mdId (.mgt .FW_STATUS_fallback_used) 1).ev mdId (.mgt .EVENTS_trial_fallback)) else s
    if ok s x.current then some (run s x.current false)
    else if ok s (1 - x.current) then some (run s (1 - x.current) false) else none
  if x.trial && decide (x.attempts < 2) then
    let s := s.writeFwSel (fun y => { y with attempts := y.attempts + 1 })
    if ok s (1 - x.current) then
      some ((run s (1 - x.current) true).logMgt 0x322 [x.trialRelease, x.attempts + 1])
    else cur ((s.writeFwSel (fun y => { y with trial := false })).logMgt 0x323 [x.trialRelease]) true
  else if x.trial then cur ((s.writeFwSel (fun y => { y with trial := false })).logMgt 0x323 [x.trialRelease]) true
  else cur s false

/-- PROOFING_START (R567 steps 1-5): `ok` says that the self-tests passed; the boot device's slots and selector copies are as
held. -/
def execProofingStart (ok : Bool) (s : State) : Out :=
  if s.modeNow ≠ 2 then .next s
  else if !ok then .next (s.trig 8 3)
  else
    let n := s.mgt.bootCount + 1
    let s := (s.setMgt { s.mgt with bootCount := n }).w mdId (.mgt .BOOT_COUNT_count) n
    let s := { s with fresh := s.fresh + 1, sec := { s.sec with nonce := Config.drbg s.fresh 567, alias_ := none, measured := [], stopped := false } }
    let s := s.w mdId (.mgt .FW_FLOOR_floor) s.mgt.fwFloor
    match s.fwBoot with
    | none => .next (s.trig 8 3)
    | some s =>
      let d := ((s.mgt.running.map (·.digests)).getD [])
      let m := [(1, Config.romDigest), (2, d.getD 0 0), (3, d.getD 1 0), (11, d.getD 4 0),
                (12, Config.digest [((s.mgt.running.map (·.board.thermMode)).getD 0)])]
      -- The management die is measured by its own boot; of the others SEC.PROOF says as yet that they are present.
      let s := s.w mdId (.sec .PROOF_dies) ((s.cds.map (fun c => 16 ^ cdId c)).foldl (· + ·) (7 * 2 ^ 28 + 1))
      .next { s with sec := { s.sec with measured := m } }

/-- Bits of a die in SEC.PROOF. -/
def State.setProof (s : State) (d v : Nat) : State :=
  let r := s.r mdId (.sec .PROOF_dies)
  s.w mdId (.sec .PROOF_dies) (r - r / 2 ^ (4 * d) % 16 * 2 ^ (4 * d) + v * 2 ^ (4 * d))
def State.proof (s : State) (d : Nat) : Nat := s.r mdId (.sec .PROOF_dies) / 2 ^ (4 * d) % 16

/-- The four bits of a die in RST.DIE_STATE: 0 in reset, 1 held out, 2 bypassed on Lattice, 3 locked (spec/23 R634). -/
def State.dieBits (s : State) (d : Nat) : Nat := s.r mdId (.rst .DIE_STATE_dies) / 2 ^ (4 * d) % 16
def State.setDie (s : State) (d v : Nat) : State :=
  let r := s.r mdId (.rst .DIE_STATE_dies)
  (s.w mdId (.rst .DIE_STATE_dies) (r - r / 2 ^ (4 * d) % 16 * 2 ^ (4 * d) + v * 2 ^ (4 * d))).ringShow

/-- A channel die is held in reset and Failed (R42): bits in reset, held out, bypassed. -/
def State.holdOut (s : State) (d : Nat) : State :=
  let s := (s.setDie d 7).ev mdId (.rst .EVENTS_cd_held_out)
  (s.w d (.grp .STATUS_chan_state) 5).logEv mdId 0x07 .cdHeldOut [d]

/-- PROOFING_DIGEST_RECEIVED (R567 step 6, R568, R42): a die's two digests match what the management die computed, or not; the
measurement is the die's firmware as it measured it. -/
def execProofingDigestReceived (die : DieId) (fwMatch cfgMatch : Bool) (digest : Nat) (s : State) : Out :=
  let d := die.val
  if s.modeNow ≠ 2 ∨ !s.hasDie d ∨ d = mdId ∨ !s.rst.lat.contains d ∨ s.rb mdId (.sec .STATUS_locked) then .next s else
    let s := { s with sec := { s.sec with measured := alPut s.sec.measured (d + 4) digest } }
    if fwMatch && cfgMatch then .next (s.setProof d 7)
    else
      let s := (s.setProof d (3 + if d = 0 then 0 else 8)).ev mdId (.sec .EVENTS_proof_mismatch)
      if d = 0 then .next (s.trig 8 3)
      else
        let s := s.holdOut d
        .next (if (s.cds.map cdId).all (fun e => s.proof e = 11) then s.trig 8 4 else s)

/-- The World regions and Security sections are written to a die (R564, R567 step 7): the image's entries, or the default ones. -/
def State.loadWrt (s : State) (d : Nat) : State :=
  let m := s.img.active.getD {}
  let s := { s with regs := s.regs.filter (fun (e : RegKey × Nat) => !(e.1.die = d && (e.1.fld = .sec .WRT_BASE_base_4k ||
    e.1.fld = .sec .WRT_SIZE_size_4k || e.1.fld = .sec .WRT_FLAGS_valid || e.1.fld = .sec .WRT_FLAGS_secure || e.1.fld = .sec .WRT_FLAGS_ns_read_only))) }
  let put := fun (s : State) (w : WorldRegion) =>
    let s := (s.w d (.sec .WRT_BASE_base_4k) w.base4k w.index).w d (.sec .WRT_SIZE_size_4k) w.size4k w.index
    ((s.wb d (.sec .WRT_FLAGS_secure) w.secure w.index).wb d (.sec .WRT_FLAGS_ns_read_only) w.readOnly w.index).wb d
      (.sec .WRT_FLAGS_valid) w.valid w.index
  let mine := m.regions.filter (fun w => w.die = d)
  if !mine.isEmpty then foldS put s mine
  else if d = 0 then put s { die := 0, index := 0, base4k := 0, size4k := 0x800 }
  else put (put s { die := d, index := 0, base4k := 0x14A200, size4k := 0x200000 - 0x14A200 })
    { die := d, index := 1, base4k := 0x200000, size4k := 0x400 }

/-- A die receives its Proofing end message: it locks; its key-transport key is derived (R566, R401). -/
def State.dieLock (s : State) (d : Nat) : State :=
  let s := (s.w d (.sec .STATUS_proofing_done) 1).w d (.sec .STATUS_locked) 1
  let s := s.setDie d (s.dieBits d ||| 8)
  if d ≤ 6 then s.w d (.cip .STATUS_ktk_ready) 1 else s

/-- The boot record's body (R575): reset cause, strap code, role, boot device, slot, part, stepping, flags, the
fused ROM version and fuse revision, release, floors, image seq, tamper sources, die status, nonce, identity, measurements, alias keys. -/
def State.bootBody (s : State) : List Nat :=
  [s.r mdId (.rst .CAUSE_sources), s.r mdId (.rst .STRAP_code), if s.testStrap then 3 else s.role, s.r mdId (.rst .STRAP_boot_device),
   s.mgt.runSlot, s.r mdId (.mgt .ID_part_code), s.r mdId (.mgt .ID_stepping),
   s.r mdId (.mgt .FW_STATUS_trial_running) + 2 * s.r mdId (.mgt .FW_STATUS_fallback_used) + 4 * s.r mdId (.img .STATUS_fallback_used) +
     8 * s.r mdId (.rst .STRAP_recovery) + (if s.sec.tamper = 0 then 0 else 16), Config.romVersion, Config.fuseRevision,
   s.r mdId (.mgt .FW_RELEASE_release), s.mgt.fwFloor, s.img.floor, s.r mdId (.img .ACTIVE_SEQ_seq), s.sec.tamper,
   s.r mdId (.sec .PROOF_dies), s.sec.nonce, Config.identityDigest] ++ (List.range 13).map (fun i => (alGet s.sec.measured (i + 1)).getD 0) ++ [s.sec.alias_.getD 0]

/-- PROOFING_END (R567 steps 7-10): every die has answered.  The last record of the ledger area is the head's, or one past it
with the head's hash before it (`ahead`, its hash), or the area does not hold the head (`holds` false). -/
def execProofingEnd (holds : Bool) (ahead : Option Nat) (s : State) : Out :=
  let ds := 0 :: s.cds.map cdId
  if s.modeNow ≠ 2 ∨ s.rb mdId (.sec .STATUS_locked) ∨ s.img.active.isNone ∨ s.mgt.running.isNone ∨ s.proof 0 ≠ 7 ∨
      !ds.all (fun d => (s.proof d).testBit 1) ∨ !(s.cds.map cdId).any (fun d => s.proof d = 7) then .next s
  else
    let m := s.img.active.getD {}
    let ok := ds.filter (fun d => s.proof d = 7)
    let s := s.w mdId (.sec .BLOCK_WORLD_secure) m.security.blockWorld
    let s := (s.w mdId (.sec .DEBUG_policy) m.security.debugPolicy)
    let s := foldS (fun (s : State) d => s.loadWrt d) s ok
    let s := foldS (fun (s : State) d => s.dieLock d) s (ok ++ [mdId])
    let s := { s with sec := { s.sec with measured := alPut s.sec.measured 13 m.digest } }
    let s := { s with sec := { s.sec with alias_ := some (Config.digest (s.sec.nonce :: s.sec.measured.map (fun (y : Nat × Nat) => y.2))) } }
    -- The head against the area (R577).
    let s := match ahead with
      | some h => { s with sec := { s.sec with headSeq := s.sec.headSeq + 1, headHash := h } }
      | none => s
    let brk := !holds && ahead.isNone && s.sec.headSeq ≠ 0
    let s := (s.wb mdId (.sec .LEDGER_STATUS_ledger_break) brk).w mdId (.sec .LEDGER_SEQ) s.sec.headSeq
    let s := (s.ledgerAdd 1 s.bootBody brk).w mdId (.sec .LEDGER_STATUS_nvm_ok) 1
    .next (s.trig 8)

/-! ### The ledger (R573-R578) -/

/-- LEDGER_WRITE_COMPLETE (R577): the oldest queued record is written and read back, and Praline advances the head; `ok` false
is a write error (R578). -/
def execLedgerWriteComplete (ok : Bool) (s : State) : Out :=
  match s.sec.ledgerQ with
  | [] => .next s
  | r :: rest =>
    if !s.sec.appending then .next s
    else if !ok then
      let s := { s with sec := { s.sec with retryAt := some (s.now + 1000000000), appending := false } }
      .next ((s.ev mdId (.sec .EVENTS_ledger_error)).w mdId (.sec .LEDGER_STATUS_nvm_ok) 0)
    else
      let x := s.sec
      let n := recordLen r.kind
      let next := decide (131072 < x.offset + n)
      let seg := if next then (x.segment + 1) % 119 else x.segment
      let off := if next then 0 else x.offset
      let r := { r with segment := seg }
      let hash := Config.digest ([r.kind, r.seq, r.prev, r.bootCount, r.ts, r.uptime, r.quality, if r.brk then 1 else 0] ++ r.body)
      let kept := if next then x.ledger.filter (fun y => y.segment ≠ seg) else x.ledger
      let s := { s with sec := { x with ledgerQ := rest, appending := false, ledger := kept ++ [r], headSeq := r.seq, headHash := hash
                                        segment := seg, offset := off + n, tamper := if r.kind = 1 then 0 else x.tamper } }
      let s := ((s.bump mdId 0x04 3).w mdId (.sec .LEDGER_SEQ) r.seq).w mdId (.sec .LEDGER_STATUS_queued) rest.length
      let s := (s.w mdId (.sec .LEDGER_STATUS_segment_offset) ((off + n) / 8)).w mdId (.sec .LEDGER_STATUS_nvm_ok) 1
      -- The boot record has taken the reset causes (spec/23 R616).
      let s := if r.kind = 1 then (s.w mdId (.sec .LEDGER_STATUS_boot_recorded) 1).w mdId (.rst .CAUSE_sources) 0 else s
      .next s.ledgerStart

/-- LEDGER_WRITE_RETRY (R578): 1 s after the error. -/
def execLedgerWriteRetry (s : State) : Out :=
  match s.sec.retryAt with
  | none => .next s
  | some t => let s := s.advance t
    .next ({ s with sec := { s.sec with retryAt := none } } : State).ledgerStart

/-! ### Owner, media root, debug (R571, R572, R583) -/

/-- Maintenance entered from the manufacturing-test strap code. -/
def State.mfgMaintenance (s : State) : Bool := s.modeNow = 0xA && s.mode.fromTest && s.rb mdId (.rst .STRAP_mfg_test)

/-- OWNER_ENROLMENT (R571), inside an SPDM secured session. -/
def execOwnerEnrolment (session : Bool) (owner : Nat) (s : State) : Out :=
  if session && s.mfgMaintenance && s.sec.owner.isNone then
    .next (({ s with sec := { s.sec with owner := some owner } } : State).ledgerAdd 4 [2, 0, Config.digest [owner]])
  else .next s

/-- The media root and the key generation table are gone (R571, R585). -/
def State.dropRoot (s : State) : State :=
  let s := { s with cip := { s.cip with mediaRoot := none, gens := [] } }
  foldS (fun (s : State) c => if s.cdUp (cdId c) then (s.ev (cdId c) (.cip .EVENTS_no_media_root)).nsmShow (cdId c) else s) s s.cds

/-- OWNER_TRANSFER (R571): signed by the current owner keys. -/
def execOwnerTransfer (session signed : Bool) (owner : Nat) (s : State) : Out :=
  if session && signed && s.sec.owner.isSome then
    .next ((({ s with sec := { s.sec with owner := some owner } } : State).dropRoot).ledgerAdd 4 [3, 0, Config.digest [owner]])
  else .next s

/-- MEDIA_ROOT_IMPORT (R572): from the owner's session, for the agreed shelf uuid, while none is held. -/
def execMediaRootImport (owner intact : Bool) (shelf root : Nat) (s : State) : Out :=
  if owner && intact && s.cip.mediaRoot.isNone && s.drv.shelf = some shelf then
    let s := { s with cip := { s.cip with mediaRoot := some root, gens := [] } }
    let s := foldS (fun (s : State) c => if s.cdUp (cdId c) then s.nsmShow (cdId c) else s) s s.cds
    .next (s.ledgerAdd 4 [4, 0, Config.digest [shelf, root]])
  else .next s

/-- What Praline erases on tamper (R585). -/
def State.zeroisePraline (s : State) : State :=
  let s := s.dropRoot
  { s with pair := { s.pair with secret := 0 }, cmd := { s.cmd with pairSecret := 0 }, sec := { s.sec with alias_ := none } }

/-- DEBUG_TOKEN_WRITE (R583): scope 1 non-secure or 2 secure. -/
def execDebugTokenWrite (scope : BitVec 8) (signed : Bool) (package boot expiry : Nat) (s : State) : Out :=
  if s.r mdId (.sec .DEBUG_policy) ≠ 1 then .next s else
  let ok := signed && package = Config.packageId && boot = s.r mdId (.mgt .BOOT_COUNT_count) && s.tsSet mdId && decide (s.ts64 mdId < expiry) &&
    decide (s.sec.ledgerQ.length ≤ 8) && (scope = 1 || (scope = 2 && s.mfgMaintenance))
  if !ok then
    .next ((s.bump mdId 0x04 7).w mdId (.sec .DEBUG_refusals) (min 255 (s.r mdId (.sec .DEBUG_refusals) + 1)))
  else
    let s := if scope = 2 then s.zeroisePraline else s
    let s := s.w mdId (.sec .DEBUG_scope) scope.toNat
    let s := foldS (fun (s : State) d => s.w d (.sec .STATUS_debug) (max scope.toNat (s.r d (.sec .STATUS_debug)))) s s.dies
    let s := (s.ev mdId (.sec .EVENTS_debug_unlock)).logEv mdId 0x04 .debugUnlock [scope.toNat]
    .next (s.ledgerAdd 4 [1, scope.toNat, Config.digest [scope.toNat, package, boot, expiry]])

/-! ### Tamper (R584, R585) -/

/-- Every line of a die's stack is written with zero: the Sponge holds nothing (R43, R585). -/
def State.stackZero (s : State) (d : Nat) : State :=
  { s with spg := { s.spg with dies := alPut s.spg.dies d {} }, fls := { s.fls with dies := alDel s.fls.dies d } }

/-- TAMPER (R584, R585): a source, bit 0 to 3. -/
def execTamper (source : Fin 4) (s : State) : Out :=
  if s.modeNow = 0 then .next s else
    let bit := 2 ^ source.val
    let t := s.sec.tamper ||| bit
    let s := { s with sec := { s.sec with tamper := t, stopped := true, ledgerQ := [], appending := false, retryAt := none } }
    let s := (s.w mdId (.sec .TAMPER_STATUS_sources) t).w mdId (.sec .LEDGER_STATUS_queued) 0
    let s := ((s.ev mdId (.sec .EVENTS_tamper)).logEv mdId 0x04 .tamper [bit])
    -- Every key slot and key-transport key of every die is cleared.
    let s := (foldS (fun (s : State) d => s.zeroise d) s (0 :: s.cds.map cdId)).zeroisePraline
    let s := foldS (fun (s : State) c => s.stackZero (cdId c)) s s.cds
    let s := s.leaseRelease
    let s := { s with mode := { s.mode with tampered := true } }
    .next (s.trig 2 8)

/-! ### SPDM (R581, R582) -/

/-- SPDM_REQUEST: GET_MEASUREMENTS (0xE0) answers the digest of an index, index 0 the number of them, 0xFF all of them; every
other request is answered under the alias key. -/
def execSpdmRequest (binding : Fin 3) (code index : BitVec 8) (s : State) : Out :=
  let b := binding.val
  let m := fun i => if i = 14 then s.sec.headHash else if i = 13 then s.r mdId (.img .ACTIVE_HASH_bytes) else (alGet s.sec.measured i).getD 0
  if code = 0xE0 then
    let s := s.bump mdId 0x04 6
    let i := index.toNat
    .next (if i = 0 then s.mctpAnswer 3 b [14] else if i = 0xFF then s.mctpAnswer 3 b ((List.range 14).map (fun k => m (k + 1)))
      else if i ≤ 14 then s.mctpAnswer 3 b [m i] else s.mctpAnswer 3 b [])
  else .next (s.mctpAnswer 3 b [code.toNat, s.sec.alias_.getD 0])

/-- SEC_SNAPSHOT (R588): of a die. -/
def execSecSnapshot (q : Req) (die : DieId) (s : State) : Out :=
  let d := die.val
  .next (if s.hasDie d then s.snapshot d 0x04 q.secure (s.counters d 0x04 (if d = mdId then 8 else 3)) (.sec .SNAP_CTRL_done) else s)

end Sys2Proof.Machine
end

