-- ==== Sys2Proof/Machine/Background.lean ====
section
/-! DEFINITION. The meanings of the commands of background work (spec/21), and the performance counter log page (spec/22 R610). -/

set_option Elab.async false

namespace Sys2Proof.Machine

/-! ### The tick (R590-R595) -/

/-- A die runs: the management die with its cores, any other once released. -/
def State.dieUp (s : State) (d : Nat) : Bool :=
  if d = mdId then decide (3 ≤ s.rst.phase) else s.hasDie d && s.r mdId (.rst .DIE_STATE_dies) / 2 ^ (4 * d) % 4 = 0

/-- The window in force and its profile are evaluated (R590, R591). -/
def State.windowEval (s : State) (d : Nat) : State :=
  let ws := s.tim.windows.filter (fun w => w.die = d && w.entry.kind = 3)
  let best := ws.foldl (fun (m : Option OpenWindow) w => match m with
    | none => some w
    | some y => if w.entry.target < y.entry.target then some w else some y) none
  let n := (best.map (fun (w : OpenWindow) => w.entry.param)).getD 0
  let old := s.r d (.bgw .STATUS_profile)
  let s := (s.wb d (.bgw .STATUS_base) best.isNone).w d (.bgw .STATUS_window) ((best.map (fun (w : OpenWindow) => w.entry.target)).getD 0)
  let s := (s.w d (.bgw .STATUS_profile) n).wb d (.bgw .STATUS_builtin) (s.profileOf n).isNone
  if n = old then s else s.ev d (.bgw .EVENTS_profile_change)

/-- T_j of a channel die (R595), °C: its own junction sites and those of the port die. -/
def State.junctionMax (s : State) (d : Nat) : Nat :=
  let own := (List.range 4).map (fun i => 8 + 4 * (d - 1) + i)
  let vals := ((List.range 8 ++ own).filter (fun i => s.rb mdId (.mgt .SENSOR_valid) i)).map (fun i =>
    (ofSigned 16 (s.r mdId (.mgt .SENSOR_value) i)).toNat / 8)
  vals.foldl max 0

/-- f and L of stage 2 (R595). -/
def admitPct (minPct startC fullC t : Nat) : Nat := if t < startC then 100 else max minPct (100 * (fullC - t) / (fullC - startC))

/-- The thermal admission loop of a channel die (R595). -/
def State.thermal (s : State) (d : Nat) : State :=
  let t := s.junctionMax d
  let shed := s.r d (.bgw .THERM_CFG_shed_c)
  let start := s.r d (.bgw .THERM_CFG_start_c)
  let old := s.r d (.bgw .STATUS_therm_stage)
  let one := decide (shed ≤ t) || (old ≠ 0 && decide (shed ≤ t + 2))
  let stage := if start ≤ t then 2 else if one then 1 else 0
  let f := admitPct (s.r d (.bgw .THERM_CFG_min_pct)) start (s.r d (.bgw .THERM_CFG_full_c)) t
  let s := ((s.w d (.bgw .STATUS_therm_stage) stage).w d (.bgw .THERM_STATUS_t_c) (min t 255)).w d (.bgw .THERM_STATUS_f_pct) f
  let s := s.w d (.bgw .THERM_STATUS_limit) (32768 * f / 100)
  let s := if old = 0 && stage ≠ 0 then s.ev d (.bgw .EVENTS_therm_shed) else s
  let s := if old ≠ 2 && stage = 2 then s.ev d (.bgw .EVENTS_therm_limit) else s
  if stage = 2 then s.bgBump d 7 else s

/-- The grants of the tick, what was not granted of the last one carried as debt, and the port queues released (R592, R593). -/
def State.grants (s : State) (d fgWait : Nat) : State :=
  let x := s.bg d
  let ports := ((List.range 8).filter (fun b => s.r d (.drv .B_STATE_state) b = 6)).length
  let tNs := 1000000 * ports
  let p := s.profile d
  let shed := s.r d (.bgw .STATUS_therm_stage) ≠ 0
  let crit := (s.dieGroups d).any (fun e => e.2.outCount = e.2.tolerance && e.2.state ≠ 4)
  let floor := if crit then s.r d (.grp .REBUILD_CFG_crit_pct) * tNs / 100 else 0
  let g := fun a => let v := if shed then 0 else Profile.share p a * tNs / 100
    if a = 2 then max v floor else if a = 1 ∨ a = 5 then 0 else v
  let debt := fun a => x.used.getD a 0 + x.debt.getD a 0 - x.grant.getD a 0
  let acts := List.range 6
  let s := foldS (fun (s : State) a => (s.w d (.bgw .USED_used_us) (min 65535 (x.used.getD a 0 / 1000)) a).w d (.bgw .USED_debt_us)
    (min 65535 (debt a / 1000)) a) s acts
  let s := s.bgBump d 5 ((x.used.foldl (· + ·) 0) / 1000)
  let s := s.bgBump d 6 x.yielded.length
  let s := s.setBg d { x with grant := acts.map g, used := acts.map (fun _ => 0), debt := acts.map debt, rebuilt := 0, reshaped := 0
                              port := [], fgWait := fgWait, yielded := [], critical := crit }
  let s := foldS (fun (s : State) b => s.bgRelease d b) s (List.range 8)
  -- A port that goes on holding a command back yields in this tick too.
  s.setBg d { s.bg d with yielded := (List.range 8).filter (fun b => s.drv.cmds.any (fun c => c.die = d && c.bay = b && c.held)) }

/-- BACKGROUND_TICK (R591): the next TS64 that is a multiple of 1 ms on a die; `fgWait` are its root ports on which foreground
commands wait for a drive queue entry (R594). -/
def execBackgroundTick (die : DieId) (fgWait : BitVec 8) (s : State) : Out :=
  let d := die.val
  if !s.dieUp d || !s.tsSet d then .next s else
    let s := (s.reachTs d ((s.ts64 d / 1000000 + 1) * 1000000)).windowEval d
    .next (if 1 ≤ d ∧ d ≤ 6 then ((s.thermal d).grants d fgWait.toNat).offer d else s)

/-! ### Patrol (R598) -/

/-- Patrol visits a group: Optimal and in no reshape. -/
def State.patrols (s : State) (d g : Nat) : Bool :=
  let x := s.grp_ d g
  x.configured && x.state = 0 && decide (0 < x.stripes) && !(s.rshOf d g).any (fun r => between 1 r.phase 3 || r.phase = 5)

def patrolOwner (g t : Nat) : DrvOwner := { kind := 28, a := g, b := t }

/-- What a row of a stripe calls for in patrol: unreadable units that the rest of the row gives (R323), copies or parity that
differ, and units that are lost. -/
def Group.patrolRow (x : Group) (t i : Nat) (unit : Nat → Option Block) : RowResync :=
  let ps := List.range x.n
  let fix := fun (p : Nat) (b : Block) => if unit p ≠ some b then [(p, i, b)] else []
  let of := fun (l : List (Nat × Nat × Block)) =>
    ({ writes := l, repaired := (l.filter (fun w => (unit w.1).isNone)).length } : RowResync)
  if x.mirror then
    match ps.findSome? unit with
    | none => { lost := [(x.blockAt t 0 i, 0)] }
    | some b => of (ps.flatMap (fun p => fix p b))
  else
    let da := (List.range x.k).filterMap (fun j => (unit (x.posOf t j)).map (fun b => (j, b)))
    let pp := unit (x.posOf t x.k)
    let qq := if x.layout = 4 then unit (x.posOf t (x.k + 1)) else none
    let whole := (List.range x.k).map (fun j => (j, match da.find? (fun e => e.1 = j) with
      | some e => some e.2
      | none => reconstruct x.k da pp qq j))
    if whole.all (fun e => e.2.isSome) then
      let row := whole.map (fun e => (e.1, e.2.getD 0))
      of (row.flatMap (fun e => fix (x.posOf t e.1) e.2) ++ fix (x.posOf t x.k) (parityP row) ++
        (if x.layout = 4 then fix (x.posOf t (x.k + 1)) (parityQ row) else []))
    else { lost := (whole.filter (fun e => e.2.isNone)).map (fun e => (x.blockAt t e.1 i, x.posOf t e.1)) }

/-- A stripe's units have been read: unreadable ones are repaired, rows that disagree are rewritten. -/
def State.patrolCheck (s : State) (d g t : Nat) : State :=
  let x := s.grp_ d g
  let o := patrolOwner g t
  let rd := s.drvResults d o
  let more := s.stripRetries d g t (List.range x.n) rd
  if !more.isEmpty then s.issueReads d g t o more
  else
    let s := s.drvTake d o
    let unit := fun (i p : Nat) => unitRead rd p (x.lbaOf t i)
    let plan := (List.range x.strip).map (fun i => x.patrolRow t i (unit i))
    let writes := plan.flatMap (·.writes)
    let fixed := (plan.map (·.repaired)).foldl (· + ·) 0
    let s := if fixed = 0 then s else ((s.grpBump d 7 fixed).bgBump d 2 fixed).ev d (.bgw .EVENTS_patrol_repair)
    let s := foldS (fun (s : State) (e : Nat × Nat) => s.addBad d g e.1 2 e.2) s (plan.flatMap (·.lost))
    -- Copies, or parity, that differ from what the row calls for.
    let bad := (List.range x.n).filter (fun p => writes.any (fun w => w.1 = p && (unit w.2.1 p).isSome))
    let s := if bad.isEmpty then s else
      ((s.bgBump d 1).ev d (.bgw .EVENTS_patrol_mismatch)).logEv d 0x05 .patrolMismatch [g, t, (bad.map (2 ^ ·)).foldl (· + ·) 0]
    let s := s.setGrp d g ((s.grp_ d g).repairsSee t writes)
    let s := s.issueStrips d g t o rd writes ((List.range x.n).filter (fun p => writes.any (fun w => w.1 = p)))
    s.setBg d { s.bg d with patrol := some (g, t, 2) }

/-- The stripe is over: its lock goes and, unless it was abandoned, the cursor moves. -/
def State.patrolMoves (s : State) (d g t : Nat) (whole : Bool) : State :=
  let x := s.grp_ d g
  let s := s.unlock d g [t]
  let s := s.setBg d { s.bg d with patrol := none }
  if !whole then s else
    let s := s.bgBump d 0
    if t + 1 < x.stripes then s.w d (.bgw .G_PATROL) (t + 1) g
    else ((s.w d (.bgw .G_PATROL) 0 g).bgBump d 3).ev d (.bgw .EVENTS_patrol_pass)

/-- PATROL_STRIPE (R598): the next stripe is locked and read, then checked, then released.  Groups are visited in turn, no faster
than a pass in pass_h. -/
def execPatrolStripe (d : Cd) (s : State) : Out := onCd d s fun s =>
  let d := cdId d
  let x := s.bg d
  if !s.workRuns then s else
  match x.patrol with
  | some (g, t, ph) =>
    let o := patrolOwner g t
    if !s.drvQuiet d o then s
    else if !s.patrols d g then (s.drvTake d o).patrolMoves d g t false
    else if ph = 1 then s.patrolCheck d g t
    else (s.drvTake d o).patrolMoves d g t true
  | none =>
    let order := (List.range 4).map (fun i => (x.lastGroup + 1 + i) % 4)
    match order.find? (fun g => s.patrols d g) with
    | none => s
    | some g =>
      if !s.rb d (.bgw .PATROL_CFG_enable) || !s.bgMay d 0 then s else
      let y := s.grp_ d g
      let t := s.r d (.bgw .G_PATROL) g
      if y.locks.contains t then s else
        let total := ((List.range 4).filter (fun g => s.patrols d g)).foldl (fun a g => a + (s.grp_ d g).stripes) 0
        let s := s.advance x.patrolAt
        let s := s.setBg d { x with patrol := some (g, t, 1), lastGroup := g
                                    patrolAt := s.now + 3600000000000 * s.r d (.bgw .PATROL_CFG_pass_h) / max 1 total }
        let s := s.setGrp d g { y with locks := y.locks ++ [t] }
        s.issueReads d g t (patrolOwner g t) ((List.range y.n).map (fun p => (p, y.lbaOf t 0, y.strip)))

/-- BGW_SNAPSHOT (R601). -/
def execBgwSnapshot (q : Req) (die : DieId) (s : State) : Out :=
  let d := die.val
  .next (if s.hasDie d then s.snapshot d 0x05 q.secure (s.counters d 0x05 (if 1 ≤ d ∧ d ≤ 6 then 8 else 2)) (.bgw .SNAP_CTRL_done) else s)

/-! ### The performance counter log page (spec/22 R610) -/

/-- Eight entries of a die: die, counter, flags, selector, value. -/
def State.perfEntries (s : State) (d : Nat) : List Nat :=
  (List.range 8).flatMap (fun n =>
    if s.rb d (.pmc .CTR_CFG_host_visible) n && !s.rb d (.pmc .CTR_CFG_secure) n && s.rb d (.pmc .ACCESS_host_enable) then
      [d, n, (if s.rbit d (.pmc .STATUS_running) n then 1 else 0) + (if s.rbit d (.pmc .OVF_ovf) n then 2 else 0) + 4,
       s.r d (.pmc .CTR_SEL_selector) n, s.r d (.pmc .CTR) n]
    else [0, 0, 0, 0, 0])

/-- PERF_COUNTER_LOG_PAGE (R610): Get Log Page with LID 0xD1. -/
def execPerfCounterLogPage (d : Cd) (k : Fin 32768) (s : State) : Out := onAdmin d k 0x02 s fun d k x =>
  if x.cap.cdw10 % 256 ≠ 0xD1 then s else
  let flags := (((s.img.active.getD {}).hosts.find? (fun h => h.id = x.host)).map (·.flags)).getD 0
  if !flags.testBit 2 then s.completeWith d k stAccessDenied
  else if !s.rb d (.pmc .ACCESS_host_enable) then s.completeWith d k stBadField
  else
    let l := [s.ts64 d, s.ts64 0, d - 1] ++ s.perfEntries d ++ s.perfEntries 0
    (s.emit (.hostData d x.conn 0x02 (0xD1 :: l))).completeWith d k stOk

end Sys2Proof.Machine
end

