-- ==== Sys2Proof/Machine/Counters.lean ====
section
/-! DEFINITION. The performance counters (spec/22). -/

set_option Elab.async false

namespace Sys2Proof.Machine

/-- A non-secure write of R609 to the PMC of a die that names the counters of a mask. -/
def State.pmcDenied (s : State) (q : Req) (d mask : Nat) : Bool :=
  !q.secure && (!s.rb d (.pmc .ACCESS_ns_program) ||
    (List.range 8).any (fun n => mask.testBit n && s.rb d (.pmc .CTR_CFG_secure) n))

/-- Run a write of R609, or deny it. -/
def State.pmcGuard (s : State) (q : Req) (d mask : Nat) (f : Fld) (n : Nat) (k : State) : State :=
  if !s.hasDie d then s else if s.pmcDenied q d mask then s.worldViolation q d 0x06 (f.spec.base + f.spec.stride * n) true else k

/-- The running bits of a die, in STATUS and in each CTR_CFG. -/
def State.setRunning (s : State) (d mask : Nat) : State :=
  foldS (fun s n => s.wb d (.pmc .CTR_CFG_running) (mask.testBit n) n) (s.w d (.pmc .STATUS_running) mask)
    (List.range 8)

def State.pmcStart (s : State) (d mask : Nat) : State := s.setRunning d (s.r d (.pmc .STATUS_running) ||| mask)
def State.pmcStop (s : State) (d mask : Nat) : State :=
  s.setRunning d (s.r d (.pmc .STATUS_running) &&& (255 - mask))

/-- PMC_START (R604): a write of PMC.CTRL; one that names a counter in both fields is discarded. -/
def execPmcStart (q : Req) (die : DieId) (start stop : BitVec 8) (s : State) : Out :=
  let d := die.val
  let a := start.toNat
  let b := stop.toNat
  .next (s.pmcGuard q d (a ||| b) (.pmc .CTRL_start) 0
    (if a &&& b ≠ 0 then s.discardState d (.pmc .CTRL_start) (b * 256 + a) else (s.pmcStop d b).pmcStart d a))

/-- PMC_STOP (R604). -/
def execPmcStop (q : Req) (die : DieId) (stop : BitVec 8) (s : State) : Out :=
  .next (s.pmcGuard q die.val stop.toNat (.pmc .CTRL_stop) 0 (s.pmcStop die.val stop.toNat))

/-- PMC_TIMED_ARM (R607): a write of PMC.TIMED. -/
def execPmcTimedArm (q : Req) (die : DieId) (armStart armSnap : Bool) (mask : BitVec 8) (s : State) : Out :=
  let d := die.val
  let m := mask.toNat
  let st := armStart && decide (m ≠ 0)
  let s1 := (s.w d (.pmc .TIMED_mask) m).wb d (.pmc .TIMED_arm_start) st
  let s1 := (s1.wb d (.pmc .TIMED_arm_snap) armSnap).wb d (.pmc .STATUS_start_armed) st
  let s1 := s1.wb d (.pmc .STATUS_snap_armed) armSnap
  let s1 := { s1 with pmc := { s1.pmc with
    starts := if st then alPut s.pmc.starts d (m, s.r d (.pmc .START_AT)) else alDel s.pmc.starts d
    shots := if armSnap then alPut s.pmc.shots d (s.r d (.pmc .SNAP_AT)) else alDel s.pmc.shots d } }
  .next (s.pmcGuard q d (if armStart then m else 0) (.pmc .TIMED_mask) 0 s1)

/-- PMC_TIMED_START (R607): TS64 reaches the armed instant. -/
def execPmcTimedStart (die : DieId) (s : State) : Out :=
  let d := die.val
  match alGet s.pmc.starts d with
  | none => .next s
  | some (m, t) =>
    let s := s.reachTs d t
    if s.tsSet d ∧ t ≤ s.ts64 d then
      let s := (s.pmcStart d m).ev d (.pmc .EVENTS_timed_start)
      let s := (s.w d (.pmc .TIMED_arm_start) 0).w d (.pmc .STATUS_start_armed) 0
      .next { s with pmc := { s.pmc with starts := alDel s.pmc.starts d } }
    else .next s

/-- The copy of R608 for a world: eight counters, TS64, running bits; a secure counter is hidden from the
non-secure buffer. -/
def State.pmcCopy (s : State) (d : Nat) (secure : Bool) : State :=
  let hide (n : Nat) : Bool := !secure && s.rb d (.pmc .CTR_CFG_secure) n
  let vals := (List.range 8).map (fun n => if hide n then 0 else s.r d (.pmc .CTR) n)
  let run := (List.range 8).foldl (fun a n =>
    if s.rbit d (.pmc .STATUS_running) n && !hide n then a + 2 ^ n else a) 0
  s.snapshot d 0x06 secure (vals ++ [s.ts64 d]) (.pmc .SNAP_CTRL_done) run

/-- PMC_TIMED_SNAPSHOT (R607, R608): both buffers are written. -/
def execPmcTimedSnapshot (die : DieId) (s : State) : Out :=
  let d := die.val
  match alGet s.pmc.shots d with
  | none => .next s
  | some t =>
    let s := s.reachTs d t
    if s.tsSet d ∧ t ≤ s.ts64 d then
      let s := ((s.pmcCopy d false).pmcCopy d true).ev d (.pmc .EVENTS_timed_snap)
      let s := (s.w d (.pmc .TIMED_arm_snap) 0).w d (.pmc .STATUS_snap_armed) 0
      .next { s with pmc := { s.pmc with shots := alDel s.pmc.shots d } }
    else .next s

/-- PMC_SNAPSHOT (R608): the buffer of the writer's world. -/
def execPmcSnapshot (q : Req) (die : DieId) (s : State) : Out := .next (s.pmcCopy die.val q.secure)

/-- PMC_COUNTER_PRESET (R605): CTR_LO is held for the requester's CTR_HI, which sets all 64 bits. -/
def execPmcCounterPreset (q : Req) (die : DieId) (n : Fin 8) (hi : Bool) (v : Word) (s : State) : Out :=
  let d := die.val
  let k := (d, n.val, q)
  .next (s.pmcGuard q d (2 ^ n.val) (.pmc .CTR) n.val
    (if s.rbit d (.pmc .STATUS_running) n.val then s.discardState d (.pmc .CTR) v.toNat n.val
     else if hi then
      let lo := (alGet s.pmc.held k).getD (s.r d (.pmc .CTR) n.val % 2 ^ 32)
      ({ s with pmc := { s.pmc with held := alDel s.pmc.held k } }).w d (.pmc .CTR) (v.toNat * 2 ^ 32 + lo) n.val
     else { s with pmc := { s.pmc with held := alPut s.pmc.held k v.toNat } }))

/-- Highest index and number of instances (0: none applies) of a block's events on a die (R602 *Event table*). -/
def eventRange (d blk idx : Nat) : Option Nat :=
  let cd := decide (1 ≤ d) && decide (d ≤ 6)
  let md := decide (d = 7)
  let pd := decide (d = 0)
  let upTo (ok : Bool) (n inst : Nat) : Option Nat := if ok && decide (idx ≤ n) then some inst else none
  match blk with
  | 0x03 => upTo md 8 1
  | 0x04 => upTo true (if md then 7 else 2) 1
  | 0x05 => upTo true (if cd then 7 else 1) 1
  | 0x06 => upTo true 2 1
  | 0x10 => upTo pd 24 32
  | 0x11 => upTo pd 0 40
  | 0x12 => upTo pd 10 16
  | 0x13 => upTo pd 6 2048
  | 0x14 => upTo pd 1 32
  | 0x15 => upTo pd 13 1
  | 0x20 => upTo cd 25 1
  | 0x21 => upTo cd 23 1
  | 0x23 => upTo cd 19 1
  | 0x24 => upTo cd 19 1
  | 0x25 => upTo cd 17 1
  | 0x26 => upTo cd 7 1
  | 0x27 => upTo cd 12 8
  | 0x28 => if cd then upTo true 7 1 else upTo pd 6 1
  | 0x30 => upTo true (if md then 9 else if pd then 7 else 4) 1
  | 0x31 => if md then upTo true 2 1 else upTo cd 8 1
  | 0x32 => upTo md 8 48
  | _ => none

/-- A word is an event selector on a die (R602). -/
def validSelector (d sel : Nat) : Bool :=
  match eventRange d (sel / 2 ^ 24) (sel / 2 ^ 16 % 256) with
  | none => false
  | some n => decide (sel / 2 ^ 11 % 32 = 0) && decide (sel % 2 ^ 11 < n)

/-- PMC_SELECTOR_WRITE (R602, R605). -/
def execPmcSelectorWrite (q : Req) (die : DieId) (n : Fin 8) (sel : Word) (s : State) : Out :=
  let d := die.val
  .next (s.pmcGuard q d (2 ^ n.val) (.pmc .CTR_SEL_selector) n.val
    (if s.rbit d (.pmc .STATUS_running) n.val then s.discardState d (.pmc .CTR_SEL_selector) sel.toNat n.val
     else if validSelector d sel.toNat then s.w d (.pmc .CTR_SEL_selector) sel.toNat n.val
     else (s.ev d (.pmc .EVENTS_sel_refused)).discardRange d (.pmc .CTR_SEL_selector) sel.toNat n.val))

end Sys2Proof.Machine
end

