-- ==== Sys2Proof/Machine/Pair.lean ====
section
/-! DEFINITION. Partner link, pairing, leases, interlock, takeover and handover (spec/15, rows PARTNER_FRAME_RECEIVED to
HANDOVER_DONE_RECEIVED, and PAIR_SNAPSHOT). -/

set_option Elab.async false

namespace Sys2Proof.Machine

/-! ### The link -/

/-- PARTNER_FRAME_RECEIVED (R418, R420): type, link_seq and link_ack, whether the frame is sealed, its key phase bit and
invocation number, its checks, and the subtype of a control frame. -/
def execPartnerFrameReceived (type : BitVec 8) (seq ack inv : Nat) (sealing phase fcsOk tagOk : Bool) (sub : BitVec 8) (s : State) :
    Out :=
  if !s.partnerLink then .next s else
  let p := s.pair
  let clear := type.toNat = 8 && (sub.toNat = 1 || sub.toNat = 2)
  if !fcsOk then .next ((s.pairBump 0 4).partnerNak)
  else if !sealing && !clear then .next ((s.pairBump 0 5).partnerNak)
  else
    -- The phase bit chooses slot 2 or slot 3.
    let k := if phase = decide (p.openPhase % 2 = 1) then 2 else 3
    if sealing && decide (inv ≤ s.r 0 (.cip .GSLOT_CTR) k) && (s.keySlot 0 (slotKey true k)).opened then .next (s.cipBump 0 3)
    else if sealing && !tagOk then
      .next (((((s.cipBump 0 2).ev 0 (.cip .EVENTS_auth_fail)).pairBump 0 3).ev 0 (.pair .EVENTS_link_auth_fail)).partnerNak)
    else if seq ≠ p.rxSeq + 1 then .next (if p.rxSeq + 1 < seq then s.partnerNak else s)
    else
      let s := if sealing then
          ((s.setKeySlot 0 (slotKey true k) { s.keySlot 0 (slotKey true k) with opened := true }).w 0 (.cip .GSLOT_CTR) inv k).cipBump 0 1
        else s
      let s := if sealing && k = 3 then (s.promote 3 2).setPair { s.pair with openPhase := s.pair.openPhase + 1 } else s
      let left := s.pair.replay.filter (fun f => decide (ack < f.1))
      let s := s.setPair { s.pair with rxSeq := seq, replay := left, lastTs := some (s.ts64 mdId), lastAt := s.now
                                       attempts := if left.length = s.pair.replay.length then s.pair.attempts else 0 }
      let s := s.pairBump 0 1
      .next (if between 1 type.toNat 0x0B then s else s.pairBump 0 5)

/-- PARTNER_NAK_RECEIVED (R420): every frame from link_ack + 1 on is sealed again and resent. -/
def execPartnerNakReceived (ack : Nat) (s : State) : Out :=
  let p := s.pair
  let again := p.replay.filter (fun f => decide (ack < f.1))
  let s := s.setPair { p with replay := again, attempts := p.attempts + 1 }
  .next (foldS (fun (s : State) (f : Nat × Nat × Nat × List Nat × List Block) =>
    if s.authenticated && !s.sealReady 0 then s.sealRefuse 0 else
    let s := if s.authenticated then (s.sealTake 0).cipBump 0 0 else s
    ((s.pairBump 0 2).pairBump 0 0).emit (.partner f.2.1 f.2.2.1 f.1 f.2.2.2.1 f.2.2.2.2)) s again)

/-- PARTNER_LINK_ACK_SEND (R420). -/
def execPartnerLinkAckSend (s : State) : Out :=
  if !s.authenticated then .next s else
  let s := s.advance (s.pair.ackAt + 1000)
  .next (((s.setPair { s.pair with ackAt := s.now }).pairBump 0 0).emit (.partner 0xFE 255 s.pair.rxSeq [] []))

/-- HEARTBEAT_SEND (R421). -/
def execHeartbeatSend (s : State) : Out :=
  if !s.authenticated then .next s else
  let s := s.advance (s.pair.hbAt + 1000 * s.r mdId (.pair .HB_CFG_hb_interval_us))
  let bit (b : Bool) (n : Nat) : Nat := if b then 2 ^ n else 0
  let flags := bit (s.r mdId (.pair .STATUS_mirror) = 1 && s.modeNow = 5) 0 + bit (s.rb mdId (.pair .STATUS_stale)) 1 +
    bit (s.rb mdId (.pair .STATUS_claim_asserted)) 2 + bit (s.rb mdId (.pair .STATUS_claim_granted)) 3 +
    bit (s.rb mdId (.pair .STATUS_majority)) 4 + bit s.mayAcquire 5 + bit (s.rb mdId (.pair .STATUS_seeding)) 6
  let failed := (s.cds.filter (fun c => s.chanFailed (cdId c))).foldl (fun a c => a + 2 ^ c) 0
  let gm : Dataset := s.upstream.getD {}
  let locked := s.servo = 2
  let s := s.setPair { s.pair with hbAt := s.now }
  .next (s.sendPartner 1 255 [s.ts64 0, s.pair.hbTx, s.now - s.pair.hbRx, s.ePkg, s.modeNow, flags, failed, s.servo,
    s.r mdId (.pair .LEASE_COUNT_present), s.r mdId (.pair .LEASE_COUNT_held), s.cmd.anaCount,
    if locked then gm.identity else 0, gm.clockClass, gm.accuracy, gm.variance, gm.priority1,
    gm.priority2, gm.stepsRemoved])

/-- What a heartbeat tells is kept (R421, R69): the round trip and Δ, missed heartbeats, the partner's time and dataset, its mode
and flags. -/
def State.heartbeatNote (s : State) (h : Heartbeat) : State :=
  let t := s.ts64 0
  let rtt := t - h.echoTx - h.echoHold
  let s := if h.echoTx = 0 then s else
    let delta : Int := (h.tTx : Int) + (rtt / 2 : Nat) - t
    (s.w 0 (.pair .LINK_RTT_rtt_ns) rtt).w 0 (.tim .PARTNER_DELTA_delta_ns) (toSigned 32 delta)
  -- Heartbeats that the interval should have brought since the last one.
  let step := 1000 * s.r mdId (.pair .HB_CFG_hb_interval_us)
  let missed := if s.pair.hbRx = 0 then 0 else (s.now - s.pair.hbRx) / step - 1
  let s := if missed = 0 then s else s.pairBump mdId 9 missed
  let s := s.setPair { s.pair with hbTx := h.tTx, hbRx := s.now }
  let good := h.servo.toNat = 2 && !h.srcPartner
  let s := { s with tim := { s.tim with ePartner := h.ePkg, partnerGood := good
                                        masters := alPut s.tim.masters 32 { h.gm with stepsRemoved := h.gm.stepsRemoved + 1 } } }
  let s := { s with cmd := { s.cmd with anaPartner := max s.cmd.anaPartner h.anaCount } }
  let s := ((s.w mdId (.pair .PARTNER_STATE_mode) h.mode.toNat).w mdId (.pair .PARTNER_STATE_servo) h.servo.toNat).w mdId
    (.pair .PARTNER_STATE_flags) h.flags.toNat
  s.w mdId (.pair .PARTNER_STATE_failed_channels) h.failed.toNat

/-- The partner's failed channels (R421, R426): a channel that has newly failed there is Unmirrored. -/
def State.heartbeatFailed (s : State) (h : Heartbeat) : State :=
  let newly := s.cds.filter (fun c => h.failed.toNat.testBit c && !s.rb (cdId c) (.pair .CD_STATUS_partner_failed))
  let s := foldS (fun (s : State) c => s.wb (cdId c) (.pair .CD_STATUS_partner_failed) (h.failed.toNat.testBit c)) s s.cds
  if s.modeNow = 5 && s.r mdId (.pair .STATUS_mirror) = 1 then foldS (fun (s : State) c => s.channelUnmirrors (cdId c)) s newly else s

/-- The Active's answer to the partner's mode: a partner seen outside Standby leaves it Unmirrored at once, one in Pairing is
re-seeded (R38, R426, R427), and after a planned handover the old Active reports Standby and needs no re-seed (R448, R449 step 6). -/
def State.heartbeatActive (s : State) (h : Heartbeat) : State :=
  let s := if s.modeNow = 5 && s.r mdId (.pair .STATUS_mirror) = 1 && h.mode.toNat ≠ 6 && s.pair.lossStage = 0 && s.pair.ho ≠ 3 then
      s.unmirror.mirrorShow else s.mirrorShow
  let s := if s.modeNow = 5 && s.paired && s.pair.paired && h.mode.toNat = 4 && s.rb mdId (.pair .STATUS_majority) &&
      !s.rb mdId (.pair .STATUS_seeding) && s.r mdId (.pair .STATUS_mirror) ≠ 1 then s.reseedStart else s
  if s.modeNow = 5 && s.pair.ho = 5 && h.mode.toNat ≠ 5 then
    let s := s.setPair { s.pair with ho := 0 }
    if h.mode.toNat = 6 then (s.w mdId (.pair .STATUS_mirror) 1).mirrorShow else s
  else s

/-- The partner of the Active: the re-seed begins, and the preserved Sponge is discarded (R41, R428 step 1). -/
def State.heartbeatSeed (s : State) (h : Heartbeat) : State :=
  if s.modeNow = 4 && s.pair.paired && h.flags.getLsbD 6 && !s.pair.seeded then
    let s := foldS (fun (s : State) c =>
      let d := cdId c
      let x := s.sp d
      let s := s.setSp d { x with index := [], ranges := [], ring := [], incoming := [], ackSent := 0, reserved := 0 }
      (s.w d (.pair .CD_STATUS_seeding) 1).crumbShow d) s (s.cds.filter (fun c => s.cdUp (cdId c)))
    (s.setPair { s.pair with seeded := true, streamLost := false }).w mdId (.pair .STATUS_seeding) 1
  else s

/-- HEARTBEAT_RECEIVED (R421, R38, R69, R426-R428). -/
def execHeartbeatReceived (h : Heartbeat) (s : State) : Out :=
  if !s.authenticated then .next s else
  let s := ((s.heartbeatNote h).heartbeatFailed h).reportBounds
  -- A partner that becomes the holder of the majority is compared again.
  let s := if s.modeNow = 4 && s.pair.refusal = 2 && h.flags.getLsbD 4 then s.pairCompare false else s
  .next ((s.heartbeatActive h).heartbeatSeed h)

/-- PARTNER_LOST (R423): the cause found: 0 no frame for hb_miss heartbeats, 1 the link down, 2 sixteen attempts, 3 a full
replay buffer, 4 the pair ring's round trip, 5 the mirror stream (spec/10 R300). -/
def execPartnerLost (cause : Fin 6) (s : State) : Out :=
  if !s.pair.seen then .next s else
  let wait := 1000 * s.r mdId (.pair .HB_CFG_hb_miss) * s.r mdId (.pair .HB_CFG_hb_interval_us)
  match cause.val with
  | 0 | 1 =>
    let s := s.advance (s.pair.lastAt + wait)
    let s := if cause.val = 1 then s.w 0 (.pair .LINK_STATUS_link_state) 3 else s
    .next s.partnerLost
  | 2 => .next (if 16 ≤ s.pair.attempts then s.partnerLost else s)
  | 5 => .next (if s.modeNow = 6 && s.spg.mirrorLost then s.partnerLost else s)
  | _ => .next s.partnerLost

/-- HELLO_SEND (R424). -/
def execHelloSend (s : State) : Out :=
  if !(s.modeNow = 4 || s.modeNow = 5 || s.modeNow = 6) || !s.partnerLink || s.authenticated then .next s else
  let up := (s.pair.linkUp).getD s.now
  let s := s.setPair { s.pair with linkUp := some up }
  let s := s.advance (max (up + 2000000) (if s.pair.helloAt = 0 then 0 else s.pair.helloAt + 10000000))
  let s := (s.setPair { s.pair with helloAt := s.now }).w 0 (.pair .LINK_STATUS_link_state) 2
  .next (s.sendControl 1 [s.r mdId (.mgt .ID_part_code), s.r mdId (.mgt .ID_stepping), s.role, Config.packageId,
    s.r mdId (.img .ACTIVE_HASH_bytes), s.r mdId (.img .ACTIVE_SEQ_seq), s.r mdId (.mgt .FW_RELEASE_release),
    s.r mdId (.mgt .FW_PAIR_FLOOR_floor), s.modeNow])

/-- HELLO_RECEIVED (R424, R425): the authentication frame follows, with an ephemeral key that is drawn. -/
def execHelloReceived (h : Hello) (s : State) : Out :=
  if !s.partnerLink || !s.paired then .next s else
  let s := (s.setPair { s.pair with hello := some h }).w mdId (.pair .PARTNER_FW_release) h.fw
  let s := s.tick
  .next (s.sendControl 2 [Config.packageId, Config.drbg s.fresh 425])

/-- AUTHENTICATION_RECEIVED (R425, R426, R108): the chain, its owner binding and the signature, the shared secret, and
whether both hold a media root for the agreed shelf and the roots differ. -/
def execAuthenticationReceived (chainOk ownerOk sigOk : Bool) (secret : Nat) (rootDiffers : Bool) (s : State) : Out :=
  if s.pair.hello.isNone || !s.partnerLink || !s.paired then .next s else
  if !(chainOk && ownerOk && sigOk) then
    .next (((s.pairRefused 6).setPair { s.pair with seen := false, paired := false, refusal := 6 }).w mdId (.pair .STATUS_reason) 6)
  else
    let s := s.setPair { s.pair with seen := true, secret := secret, sealPhase := 0, openPhase := 0, phaseAt := s.ts64 0, rekey := false
                                     refusal := 0, hbRx := 0, hbTx := 0, attempts := 0 }
    let s := { s with cmd := { s.cmd with pairSecret := Config.digest [0x52534D, secret] } }
    let other := if s.role = 1 then 2 else 1
    let s := s.slotLoaded 0 true 0 (s.linkKey s.role 0) 0 0 (0x40 + s.role)
    let s := s.slotLoaded 0 true 2 (s.linkKey other 0) 0 0 (0x40 + other)
    let s := ((s.w 0 (.pair .LINK_STATUS_authenticated) 1).w 0 (.pair .LINK_STATUS_ring_closed) 1).w 0 (.pair .LINK_STATUS_phase) 0
    let s := (s.w mdId (.lat .STATUS_pair_ring) 1).ringShow.w mdId (.pair .STATUS_partner_lost) 0
    let s := (s.pairCompare rootDiffers).keyReport
    -- A Standby whose stream was lost sees the partner again.
    let s := if s.modeNow = 6 && s.pair.streamLost then s.trig 0xE else s
    .next (s.w mdId (.pair .STATUS_reason) s.pairReason)

/-- REKEY_PHASE_START (R422): 600 s of TS64 after the phase began, or 2⁴⁰ invocations. -/
def execRekeyPhaseStart (s : State) : Out :=
  if !s.authenticated || s.pair.rekey then .next s else
  let s := if 2 ^ 40 ≤ s.r 0 (.cip .GSLOT_CTR) 0 then s else s.reachTs 0 (s.pair.phaseAt + 600000000000)
  let n := s.pair.sealPhase + 1
  let s := s.slotLoaded 0 true 1 (s.linkKey s.role n) 0 0 (0x40 + s.role)
  .next ((s.setPair { s.pair with rekey := true }).sendControl 3 [n])

/-- REKEY_ANNOUNCE_RECEIVED (R422): the next open key is loaded into slot 3 and acknowledged. -/
def execRekeyAnnounceReceived (phase : Nat) (s : State) : Out :=
  if !s.authenticated || phase ≠ s.pair.openPhase + 1 then .next s else
  let other := if s.role = 1 then 2 else 1
  .next ((s.slotLoaded 0 true 3 (s.linkKey other phase) 0 0 (0x40 + other)).sendControl 4 [phase])

/-- REKEY_ACK_RECEIVED (R422): the next frame is sealed under slot 1, which is promoted. -/
def execRekeyAckReceived (phase : Nat) (s : State) : Out :=
  if !s.authenticated || !s.pair.rekey || phase ≠ s.pair.sealPhase + 1 then .next s else
  let s := s.promote 1 0
  let s := s.setPair { s.pair with rekey := false, sealPhase := phase, phaseAt := s.ts64 0 }
  .next (((s.w 0 (.pair .LINK_STATUS_phase) phase).ev 0 (.pair .EVENTS_rekey)).pairBump 0 7)

/-- KEY_REPORT_RECEIVED (R442): the partner's reservation key is recorded; fencing that waited for it starts. -/
def execKeyReportReceived (key : BitVec 64) (s : State) : Out :=
  if !s.authenticated then .next s else
  .next (s.setPair { s.pair with partnerKey := some key.toNat }).fenceDue

/-- ACQUISITION_STATE_RECEIVED (R427). -/
def execAcquisitionStateReceived (st : Fin 4) (s : State) : Out :=
  if !s.authenticated then .next s else .next (s.setPair { s.pair with acqState := st.val })

/-! ### The mirror in the Standby -/

/-- A Shadow context takes a packet as if it were Ready to receive, sends nothing, and keeps its state (spec/07 R194). -/
def State.shadowPlace (s : State) (d i : Nat) (p : RdmaPkt) : State :=
  let c := s.conn d i
  let t := s.setConn d i { c with state := 2 }
  let t := if c.f.flags.testBit 0 then
      match (t.conn d i).slots.find? (fun x => x.base = p.psn) with
      | some x => t.joinSlot d i p x
      | none =>
        let x : Slot := { base := p.psn, lastIdx := p.lastIndex, opcode := p.opcode, relaxed := p.relaxed, final := p.final
                          va := p.va, rkey := p.rkey, imm := p.imm, ackReq := false, capsule := p.capsule }
        t.joinSlot d i p x
    else if p.psn = c.epsn then t.rxNext d i p else t
  let y := t.conn d i
  if y.state ≠ 2 then s
  else { t.setConn d i { y with state := c.state, unacked := 0, ackDue := none, credits := c.credits } with out := s.out }

/-- REPLICATED_FRAME_RECEIVED (spec/07 R194). -/
def execReplicatedFrameReceived (d : Cd) (p : RdmaPkt) (s : State) : Out := onCd d s fun s =>
  let d := cdId d
  let i := connIdx p.qp
  let c := s.conn d i
  if (s.modeNow ≠ 6 && s.modeNow ≠ 4) || c.state ≠ 5 || c.gen ≠ connGen p.qp || !p.icrcOk || p.errMark then s
  else s.shadowPlace d i p

/-- CARRIED_DATA_RECEIVED (R430): blocks of a mirrored write; the write is located once all of them are there. -/
def execCarriedDataReceived (d : Cd) (seq first : Nat) (data : List Block) (s : State) : Out := onCd d s fun s =>
  let d := cdId d
  if s.modeNow ≠ 6 ∧ s.modeNow ≠ 4 then s else
    let have_ := (alGet s.pair.carried (d, seq)).getD []
    let all := have_ ++ (data.zipIdx.map (fun e => (first + e.2, e.1)))
    let s := (s.setPair { s.pair with carried := alPut s.pair.carried (d, seq) all })
    match (s.sp d).incoming.find? (fun m => m.c.seq = seq && !m.located) with
    | none => s
    | some m =>
      if (List.range m.c.nlb).all (fun i => (alGet all i).isSome) then
        let x := s.sp d
        let s := s.setSp d { x with incoming := x.incoming.map (fun (y : MirrorIn) => if y.c.seq = seq then
          { y with located := true, data := (List.range m.c.nlb).map (fun i => (alGet all i).getD 0) } else y) }
        s.setPair { s.pair with carried := alDel s.pair.carried (d, seq) }
      else s

/-- TABLE_EVENT_RECEIVED (R429): firmware of the Standby applies the event through RDX, in order, and raises table_ack.  An
event 2 leaves the Shadow context in place. -/
def execTableEventReceived (d : Cd) (seq : Nat) (event : Fin 5) (conn : BitVec 24) (f : ConnF) (index : Fin 65536)
    (region : RegionF) (s : State) : Out := onCd d s fun s =>
  let d := cdId d
  if s.modeNow ≠ 6 ∧ s.modeNow ≠ 4 then s
  else if seq ≠ ((alGet s.pair.tableSeq d).getD 0) + 1 then s
  else
    let s := s.setPair { s.pair with tableSeq := alPut s.pair.tableSeq d seq }
    let i := connIdx conn.toNat
    let s := match event.val with
      | 1 => s.setConn d i { s.conn d i with state := 5, gen := connGen conn.toNat, f := f, epsn := f.epsn, rxMsn := 0, slots := [], msg := none,
                                             deliveries := [], placing := [] }
      | 3 => s.setRegion d index.val { s.region d index.val with state := 1, tag := region.flags / 256 % 65536, f := region }
      | 4 => s.setRegion d index.val { s.region d index.val with state := 0 }
      | _ => s
    s.w d (.pair .TABLE_ACK) seq

/-- SEED_FRAME_RECEIVED (R428): a dirty block with its index entry, and Crumbs below the seed cut. -/
def execSeedFrameReceived (d : Cd) (blocks : List (Crumb × Block)) (crumbs : List Crumb) (s : State) : Out := onCd d s fun s =>
  let d := cdId d
  if s.modeNow ≠ 4 ∨ !s.pair.seeded then s else
    let s := foldS (fun (s : State) (e : Crumb × Block) => (s.commitBlock d e.1 (s.nsGroup e.1.nsid) e.1.slba e.2).pairBump d 2) s blocks
    let s := foldS (fun (s : State) (c : Crumb) =>
      let s := if c.kind = 2 ∨ c.kind = 3 then s.commitRange d c else s
      let x := s.sp d
      let s := s.setSp d { x with ring := x.ring ++ [{ c := c, writtenAt := s.now }], ackSent := max x.ackSent c.seq }
      s.w d (.spg .CRUMB_NEXT) (max (s.r d (.spg .CRUMB_NEXT)) (c.seq + 1))) s crumbs
    s.crumbShow d

/-- PRALINE_TRANSFER_RECEIVED (R428): accepted only for the agreed shelf uuid. -/
def execPralineTransferReceived (uuid root : Nat) (gens : List ((Nat × Nat) × Nat)) (s : State) : Out :=
  if s.modeNow ≠ 4 ∨ !s.pair.seeded ∨ s.drv.shelf ≠ some uuid then .next s
  else .next { s with cip := { s.cip with mediaRoot := some root, gens := gens } }

/-- RESEED_COMPLETE (R428 step 5): in the Active, every Crumb sent is acknowledged on every seeded channel; in the partner,
every frame received is placed and acknowledged, and Standby follows. -/
def execReseedComplete (s : State) : Out :=
  if s.modeNow = 5 && s.rb mdId (.pair .STATUS_seeding) then
    let done := s.pair.cuts.all (fun e => decide (s.crumbNext e.1 ≤ s.r e.1 (.spg .MIRROR_ACK) + 1))
    if done && s.r mdId (.pair .PARTNER_STATE_mode) = 6 then
      let s := s.seedOff
      .next (s.w mdId (.pair .STATUS_mirror) 1).mirrorShow
    else .next s
  else if s.modeNow = 4 && s.pair.seeded then
    let done := (s.cds.filter (fun c => s.cdUp (cdId c))).all (fun c =>
      let x := s.sp (cdId c)
      x.incoming.isEmpty && decide (x.ackSent ≤ s.r (cdId c) (.spg .MIRROR_ACK)))
    .next (if done && s.pair.paired then s.seedOff.trig 8 else s)
  else .next s

/-! ### Leases -/

/-- The modes in which leases are renewed (spec/02 R30). -/
def State.renews (s : State) : Bool :=
  let m := s.modeNow
  m = 4 || m = 5 || m = 7 || m = 9 || (s.solo && (m = 3 || m = 0xA))

/-- LEASE_RENEWAL_TICK (R434): an occurrence of a kind 0x02 entry. -/
def execLeaseRenewalTick (s : State) : Out :=
  if !s.pair.tickDue then .next s else
  let kicked := s.pair.kicked
  let s := s.setPair { s.pair with tickDue := false, kicked := false }
  if !s.renews then .next s
  else if kicked then
    .next (foldS (fun (s : State) (e : Nat × Nat) =>
      if (s.lease e.1 e.2).acquired then (s.leaseWrite e.1 e.2).pairBump mdId 0 else s) s s.leaseDrives)
  else .next ((s.ev mdId (.pair .EVENTS_kick_missed)).pairBump mdId 2)

/-- LEASE_KICK (R434): PAIR.LEASE_KICK. -/
def execLeaseKick (q : Req) (s : State) : Out :=
  .next (s.secureOnly q mdId (.pair .LEASE_KICK_kick) (s.setPair { s.pair with kicked := true }))

/-- LEASE_ACQUISITION_WRITE (R434): the first write on a drive in this stay, both slots having been read lapsed or own. -/
def execLeaseAcquisitionWrite (d : Cd) (bay : Fin 8) (s : State) : Out :=
  let k := cdId d
  let l := s.lease k bay.val
  if s.leaseDrives.contains (k, bay.val) && s.mayAcquire && !l.acquired && l.flights.isEmpty && l.read && l.free then
    .next (s.leaseWrite k bay.val)
  else .next s

/-- LEASE_SLOT_WRITE_COMPLETE (R434, R441, R445). -/
def execLeaseSlotWriteComplete (d : Cd) (bay : Fin 8) (s : State) : Out :=
  let k := cdId d
  let b := bay.val
  let l := s.lease k b
  match l.flights with
  | [] => .next s
  | (seq, expiry, released) :: rest =>
    let o : DrvOwner := { kind := 10, a := 0, b := seq }
    -- The record of this drive's own write: sequence numbers are counted by drive.
    match (s.drvResults k o).head? with
    | none => .next s
    | some r =>
      let s := s.drvTake k o
      if !r.ok then
        let s := (s.setLease k b { l with flights := rest }).pairBump mdId 1
        .next (if r.gated then s.claimGone.leaseEval else s.leaseEval)
      else
        let s := s.setLease k b { l with flights := rest, x := some expiry, acquired := !released }
        let p := s.pair
        let s := if p.lossStage = 2 && !p.renewed.contains (k, b) then
            let ren := p.renewed ++ [(k, b)]
            if s.strictMajority ≤ ren.length then s.setPair { p with renewed := ren, lossStage := 3, renewedAt := s.now }
            else s.setPair { p with renewed := ren }
          else s
        .next s.leaseEval.claimRequest

/-- LEASE_EVALUATE (R435): every 1 µs. -/
def execLeaseEvaluate (s : State) : Out := .next s.leaseEval.claimRequest

/-- HARDWARE_LEASE_TIMER_FIRE (R435): TS64 reaches t_drop while the claim is granted. -/
def execHardwareLeaseTimerFire (s : State) : Out :=
  if !s.rb mdId (.pair .STATUS_claim_granted) then .next s else
  let s := (s.reachTs mdId (s.r mdId (.pair .DROP))).leaseEval
  if s.r mdId (.pair .DROP) ≤ s.ts64 mdId then
    let s := s.claimGone
    -- In Flush the channels stop with the gate (spec/16 R469).
    .next (if s.modeNow = 8 then (foldS (fun (s : State) c => s.flushStop (cdId c)) s s.cds).trig 7 else s.trig 7)
  else .next s

/-- PARTNER_SLOT_READ (R436): the slots are read on every lease drive; in a stay that acquires, the own slot too. -/
def execPartnerSlotRead (s : State) : Out :=
  if !(between 3 s.modeNow 0xA) || s.modeNow = 8 then .next s else
  .next (foldS (fun (s : State) (e : Nat × Nat) =>
    let s := s.drvIssue e.1 e.2 0 s.otherSlot 1 { kind := 10, a := 1, b := e.2 }
    if (s.lease e.1 e.2).acquired then s else s.drvIssue e.1 e.2 0 s.ownSlot 1 { kind := 10, a := 2, b := e.2 }) s s.leaseDrives)

/-- What a slot read makes of an instant of lapse: known, and the first read that found the slot bad (R436). -/
def slotY (r : DrvResult) (bad : Option Nat) (ts len : Nat) : Option Nat × Option Nat :=
  if !r.ok then (none, bad)
  else
    let b := r.data.headD 0
    if !slotMagic b then (some 0, none)
    else if (slotOf b).valid then (some (slotOf b).expiry, none)
    else let t := bad.getD ts
      (some (t + len), some t)

/-- PARTNER_SLOT_READ_COMPLETE (R434, R436, R444): the reads of a drive's slots have completed. -/
def execPartnerSlotReadComplete (d : Cd) (bay : Fin 8) (s : State) : Out :=
  let k := cdId d
  let b := bay.val
  let o1 : DrvOwner := { kind := 10, a := 1, b := b }
  let o2 : DrvOwner := { kind := 10, a := 2, b := b }
  if !s.drvQuiet k o1 ∨ !s.drvQuiet k o2 then .next s else
  match (s.drvResults k o1).getLast? with
  | none => .next s
  | some r =>
    let own := (s.drvResults k o2).getLast?
    let s := (s.drvTake k o1).drvTake k o2
    let ts := s.ts64 mdId
    let l := s.lease k b
    let (y, bad) := slotY r l.badSince ts s.leaseNs
    let slot := slotOf (r.data.headD 0)
    let mineOther := r.ok && slot.valid && slot.package = Config.packageId % 2 ^ 128
    let late (z : Option Nat) : Bool := match z with
      | some v => decide (v + s.ePair + 50000 ≤ ts)
      | none => false
    let (oy, ob) := match own with
      | some z => slotY z l.ownBad ts s.leaseNs
      | none => (none, l.ownBad)
    let mineOwn := own.any (fun z => z.ok && (slotOf (z.data.headD 0)).valid &&
      (slotOf (z.data.headD 0)).package = Config.packageId % 2 ^ 128)
    let both := own.any (fun z => z.ok) && r.ok
    let seq := match own with
      | some z => if mineOwn then max l.seq (slotOf (z.data.headD 0)).seq else l.seq
      | none => l.seq
    let s := s.setLease k b { l with y := y, badSince := bad, ownBad := ob, seq := seq, read := l.read || both
                                     free := (late y || mineOther) && (late oy || mineOwn) }
    -- A grant beyond the threshold makes the package stale.
    let watching := s.modeNow = 6 || (s.modeNow = 4 && s.paired && s.pair.lastTs.isSome)
    let past := match s.pair.lastTs with
      | some t => r.ok && slot.valid && decide (t + s.lossNs < slot.grant)
      | none => false
    let s := if watching && past then s.staleSet else s
    .next s.leaseEval

/-! ### Interlock -/

/-- INTERLOCK_CLAIM_WINDOW_END (R440): the claim has stood alone for 10 µs. -/
def execInterlockClaimWindowEnd (s : State) : Out :=
  match s.pair.claimAt with
  | none => .next s
  | some t =>
    if s.rb mdId (.pair .STATUS_claim_granted) then .next s else
    let s := s.advance (t + 10000)
    let s := ((s.setPair { s.pair with retries := 0 }).w mdId (.pair .STATUS_claim_granted) 1).pairBump mdId 3
    let s := { s with mode := { s.mode with withdrawn := s.mode.withdrawn && s.modeNow = 5 } }
    -- Solo leaves Bring-up; a pair fences first.
    if s.modeNow = 3 && s.mode.workDone && s.rb mdId (.pair .STATUS_majority) then .next (s.trig 8) else .next s.fenceDue

/-- INTERLOCK_IN_ASSERT (R440): the level of INTLK_IN_N; an assertion in the window leaves the claim contended; a
Quarantined package releases its bays in turn (R452). -/
def execInterlockInAssert (asserted : Bool) (s : State) : Out :=
  let s := s.wb mdId (.pair .STATUS_peer_claim) asserted
  let s := if asserted && s.paired && s.modeNow = 0xB then s.gateOfferAll else s
  if asserted && s.pair.claimAt.isSome && !s.rb mdId (.pair .STATUS_claim_granted) then .next s.contend else .next s

/-- INTERLOCK_CLAIM_RETRY (R440). -/
def execInterlockClaimRetry (s : State) : Out :=
  match s.pair.retryAt with
  | none => .next s
  | some t =>
    let s := (s.advance t).setPair { s.pair with retryAt := none }
    .next s.claimRequest

/-- RESERVATION_FENCING_COMPLETE (R442, R443): the report of a drive has come, with the keys registered and whether the drive
has a reservation, and the commands it calls for go out; or those commands have completed. -/
def execReservationFencingComplete (d : Cd) (bay : Fin 8) (keys : List (BitVec 64)) (reserved : Bool) (s : State) : Out :=
  let k := cdId d
  let b := bay.val
  let o0 : DrvOwner := { kind := 18, a := 0, b := b }
  let o1 : DrvOwner := { kind := 18, a := 1, b := b }
  if !s.pair.fencing.contains (k, b) ∨ !s.drvQuiet k o0 ∨ !s.drvQuiet k o1 then .next s else
  let p := s.pair
  let past := s.setPair { p with fencing := p.fencing.filter (· ≠ (k, b)) }
  let fail (s : State) : State :=
    let p := s.pair
    let s := (s.setPair { p with fenceFailed := p.fenceFailed ++ [(k, b)] })
    -- A failure that is not C5: in Takeover the position is Failed and the gate stays closed for that bay (R443).
    let s := if s.modeNow = 7 && s.r k (.drv .B_STATE_state) b = 6 then
        (s.setPair { s.pair with closed := s.pair.closed ++ [(k, b)] }).bayOut k b 2 else s
    s.fenceEnd
  let done (s : State) : State :=
    let p := s.pair
    (s.setPair { p with fenced := p.fenced ++ [(k, b)] }).fenceEnd
  match s.drvResults k o0, s.drvResults k o1 with
  | r :: _, [] =>
    let clear (s : State) : State := s.drvTake k o0
    if !r.ok then .next (fail (clear past)) else
    let ks := keys.map (·.toNat)
    let spare := if s.modeNow = 4 && p.seen && p.paired then p.partnerKey else none
    let victims := ks.filter (fun x => x ≠ s.resKey && some x ≠ spare)
    let s0 := if ks.contains s.resKey then clear s else (clear s).drvIssue k b 2 0 0 { kind := 17, a := b }
    let s1 := if reserved then s0 else (s0.drvIssue k b 3 0 0 o1).pairBump mdId 7
    let s2 := foldS (fun (s : State) (x : Nat) => (s.drvIssue k b 3 x 0 o1).pairBump mdId 7) s1 victims
    if reserved && victims.isEmpty then .next (done (s2.setPair past.pair)) else .next s2
  | _, rs@(_ :: _) =>
    let s := past.drvTake k o1
    .next (if rs.all (·.ok) then done s else fail s)
  | [], [] => .next s

/-! ### Commands of firmware -/

/-- PAIR_CMD_CLEAR_STALE (R444): PAIR.CMD op 1. -/
def execPairCmdClearStale (q : Req) (s : State) : Out :=
  .next (s.secureOnly q mdId (.pair .CMD_op)
    (if s.rb mdId (.pair .STATUS_stale) then
      (s.w mdId (.pair .STATUS_stale) 0).logEv mdId 0x30 .staleCleared [s.pair.lastTs.getD 0] else s))

/-- PAIR_CMD_HANDOVER (R449): PAIR.CMD op 2. -/
def execPairCmdHandover (q : Req) (s : State) : Out :=
  .next (s.secureOnly q mdId (.pair .CMD_op)
    (if s.handoverOk then s.handoverAsk false else s.discardState mdId (.pair .CMD_op) 2))

/-- PAIR_CMD_CANCEL_HANDOVER (R449): PAIR.CMD op 3, before go. -/
def execPairCmdCancelHandover (q : Req) (s : State) : Out :=
  .next (s.secureOnly q mdId (.pair .CMD_op)
    (if s.pair.ho = 1 ∨ s.pair.ho = 2 then
      foldS (fun (s : State) c => (s.nsmShow (cdId c)).offer (cdId c)) (s.setPair { s.pair with ho := 0 }) s.cds
     else s.discardState mdId (.pair .CMD_op) 3))

/-! ### Partner loss in the Active (R445) -/

/-- PARTNER_LOSS_H0 (R445 step 1). -/
def execPartnerLossH0 (s : State) : Out :=
  if s.pair.lossStage ≠ 1 ∨ s.modeNow ≠ 5 then .next s else
  let s := s.reachTs mdId s.pair.h0
  let s := s.setPair { s.pair with lossStage := 2, renewed := [] }
  .next (foldS (fun (s : State) (e : Nat × Nat) => (s.leaseWrite e.1 e.2).pairBump mdId 0) s s.leaseDrives)

/-- PARTNER_LOSS_UNMIRROR (R445 steps 2 and 3). -/
def execPartnerLossUnmirror (s : State) : Out :=
  if s.pair.lossStage ≠ 3 ∨ s.modeNow ≠ 5 then .next s else
  let s := s.advance (s.pair.renewedAt + 1000000 * (s.r mdId (.pair .LEASE_CFG_renew_ms) + 2))
  .next s.unmirror

/-- TAKEOVER_MAJORITY_TIMEOUT (R446 step 3). -/
def execTakeoverMajorityTimeout (s : State) : Out :=
  if s.modeNow ≠ 7 then .next s else
  let s := s.advance (s.mode.entered + s.leaseNs)
  .next (if s.rb mdId (.pair .STATUS_claim_granted) then s else s.trig 0xB)

/-! ### Planned handover (R449) -/

/-- HANDOVER_REQUEST_RECEIVED (R449 step 1): the Standby accepts unless it is stale or a seed runs. -/
def execHandoverRequestReceived (s : State) : Out :=
  if s.modeNow = 6 && s.authenticated && !s.rb mdId (.pair .STATUS_stale) && !s.rb mdId (.pair .STATUS_seeding) then
    .next (s.sendControl 0x07)
  else .next s

/-- HANDOVER_ACCEPT_RECEIVED (R449 step 2): the groups report Change, and no new receive buffers are offered. -/
def execHandoverAcceptReceived (s : State) : Out :=
  if s.modeNow ≠ 5 ∨ s.pair.ho ≠ 1 then .next s else
  let s := s.setPair { s.pair with ho := 2, hoAt := s.now }
  -- For Maintenance, the drain of R36 runs before the Active lets go.
  let s := if s.pair.hoMaint then s.drainStart else s
  let s := { s with rdx := { s.rdx with conns := s.rdx.conns.map (fun e => (e.1, if e.2.state = 2 then { e.2 with credits := 0 } else e.2)) } }
  .next (foldS (fun (s : State) c => s.nsmShow (cdId c)) s s.cds)

/-- HANDOVER_ANSWER_TIMEOUT (R449 step 1): 10 ms without an answer. -/
def execHandoverAnswerTimeout (s : State) : Out :=
  if s.pair.ho ≠ 1 then .next s else .next ((s.advance (s.pair.hoAt + 10000000)).handoverRefused)

/-- HANDOVER_QUIESCED (R449 steps 3 and 4): commands still in flight past the drain limit are aborted; once every chain is
Done or Orphaned and the mirror covers the last Crumb of every channel, presence goes, the leases are released, and go is sent. -/
def execHandoverQuiesced (s : State) : Out :=
  if s.modeNow ≠ 5 ∨ s.pair.ho ≠ 2 then .next s else
  let past := decide (s.pair.hoAt + 1000000 * (s.img.active.getD {}).pkg.drainMs ≤ s.now)
  let ups := (s.cds.map cdId).filter s.cdUp
  let s := if past then foldS (fun (s : State) d => foldS (fun (s : State) (z : Nat × CmdSlot) =>
      if z.2.cap.opcode = 0x0C && z.2.admin then s else (s.abortSlot d z.1).1) s (s.cd d).slots) s ups else s
  let quiet := ups.all (fun d => (s.cd d).slots.all (fun z => z.2.state = 6 || (z.2.cap.opcode = 0x0C && z.2.admin)) &&
    (!s.mirrored d || decide (s.crumbNext d ≤ s.r d (.spg .MIRROR_ACK) + 1)) &&
    (!s.pair.hoMaint || (s.sp d).index.all (fun y => !y.dirty)))
  if !quiet then .next s else
  let s := ({ s with mode := { s.mode with withdrawn := true } } : State).epAbsent
  let s := s.leaseRelease
  .next ((s.setPair { s.pair with ho := 3 }).sendControl 0x08 (ups.map (fun d => s.crumbNext d - 1)))

/-- HANDOVER_GO_RECEIVED (R449 step 5). -/
def execHandoverGoReceived (s : State) : Out :=
  if s.modeNow = 6 && s.authenticated then .next ((s.setPair { s.pair with ho := 4 }).trig 0xC) else .next s

/-- HANDOVER_DONE_RECEIVED (R449 step 6). -/
def execHandoverDoneReceived (s : State) : Out :=
  if s.modeNow = 5 && s.pair.ho = 3 then .next (((s.setPair { s.pair with ho := 0 }).pairBump mdId 8).trig 0xD) else .next s

/-- PAIR_SNAPSHOT (R457). -/
def execPairSnapshot (q : Req) (die : DieId) (s : State) : Out :=
  let d := die.val
  let n := if d = 7 then 10 else if d = 0 then 8 else 5
  .next (if s.hasDie d then s.snapshot d 0x30 q.secure (s.counters d 0x30 n) (.pair .SNAP_CTRL_done) else s)

end Sys2Proof.Machine
end

