-- ==== Sys2Proof/Machine/Flush.lean ====
section
/-! DEFINITION. Power warning, Flush and Replay (spec/16, rows POWER_WARNING_ASSERT to FLS_SNAPSHOT), and the result of a GCM
open (spec/14 R408). -/

set_option Elab.async false

namespace Sys2Proof.Machine

/-! ### The warning (R458) -/

/-- The two sources as they stand, each under its enable. -/
def State.warned (s : State) : Bool :=
  (s.rb mdId (.fls .WARN_CFG_psu_enable) && s.rb mdId (.fls .STATUS_psu_warn)) ||
  (s.rb mdId (.fls .WARN_CFG_v12_enable) && s.rb mdId (.fls .STATUS_v12_low))

/-- POWER_WARNING_ASSERT (R458): PSU_WARN_N has been asserted for 1 µs, or V12_MON's reading has been low for 2 µs. -/
def execPowerWarningAssert (psu : Bool) (mv : BitVec 16) (s : State) : Out :=
  let s := s.w mdId (.fls .STATUS_v12_mv) mv.toNat
  let s := if psu then s.w mdId (.fls .STATUS_psu_warn) 1 else s
  let s := if mv.toNat < s.r mdId (.fls .WARN_CFG_v12_thr_mv) then s.w mdId (.fls .STATUS_v12_low) 1 else s
  if s.warned && !s.rb mdId (.fls .STATUS_warning) then
    let s := (s.w mdId (.fls .STATUS_warning) 1).w mdId (.fls .WARN_TS) (s.ts64 mdId)
    let s := ((s.ev mdId (.fls .EVENTS_warning)).flsBump mdId 0)
    .next ((({ s with fls := { s.fls with warnAt := s.now } } : State).bayWarn.updateWarn).trig 3)
  else .next s

/-- POWER_WARNING_DEASSERT (R458): both sources have been clear for 10 ms. -/
def execPowerWarningDeassert (mv : BitVec 16) (s : State) : Out :=
  if mv.toNat < s.r mdId (.fls .WARN_CFG_v12_thr_mv) + 300 && s.rb mdId (.fls .WARN_CFG_v12_enable) then
    .next (s.w mdId (.fls .STATUS_v12_mv) mv.toNat)
  else
    let was := s.rb mdId (.fls .STATUS_warning)
    let s := ((s.w mdId (.fls .STATUS_v12_mv) mv.toNat).w mdId (.fls .STATUS_psu_warn) 0).wb mdId (.fls .STATUS_v12_low)
      (mv.toNat < s.r mdId (.fls .WARN_CFG_v12_thr_mv))
    let s := (s.w mdId (.fls .STATUS_warning) 0).bayWarnOver.ledgerStart
    .next (if was && s.modeNow = 8 && s.rb mdId (.fls .STATUS_flush_done) then s.trig 8 else s)

/-- HOLDUP_DEADLINE_EXPIRY (R467): holdup_ms after the warning. -/
def execHoldupDeadlineExpiry (s : State) : Out :=
  if s.modeNow ≠ 8 ∨ s.r mdId (.fls .BUDGET_holdup_ms) = 0 then .next s else
  let s := s.advance (s.fls.warnAt + 1000000 * s.r mdId (.fls .BUDGET_holdup_ms))
  let s := s.w mdId (.fls .STATUS_deadline) 1
  let s := if s.rb mdId (.fls .STATUS_flush_done) then s else s.ev mdId (.fls .EVENTS_deadline)
  .next s.earlyPower

/-- FLS_BUDGET_WRITE (R460, R479): a field outside its range discards the write. -/
def execFlsBudgetWrite (q : Req) (holdup : BitVec 12) (mbps : BitVec 16) (s : State) : Out :=
  let ok := (holdup.toNat = 0 || between 5 holdup.toNat 1000) && (mbps.toNat = 0 || between 500 mbps.toNat 16000)
  .next (s.secureOnly q mdId (.fls .BUDGET_holdup_ms)
    (if ok then
      let s := (s.w mdId (.fls .BUDGET_holdup_ms) holdup.toNat).w mdId (.fls .BUDGET_drive_mbps) mbps.toNat
      foldS (fun (s : State) c => if s.cdUp (cdId c) then s.ceilingShow (cdId c) else s) s s.cds
     else s.discardRange mdId (.fls .BUDGET_holdup_ms) (holdup.toNat * 2 ^ 20 + mbps.toNat)))

/-! ### The flush engine (R467-R469) -/

/-- FLUSH_RECORD_WRITE_COMPLETE (R465, R467-R469): a write of a member has completed, and the engine writes the next record,
the close record, or the closing header; or the member has failed. -/
def execFlushRecordWriteComplete (d : Cd) (bay : Fin 8) (s : State) : Out := onCd d s fun s =>
  let d := cdId d
  let b := bay.val
  if !between 1 (s.r d (.fls .CH_STATUS_state)) 5 then s else
  let mine (r : DrvResult) : Bool := r.die = d && r.owner.kind = 12 &&
    (if r.owner.a = 2 then (s.fl d).queue.any (fun x => x.recSeq = r.owner.b && x.bay = b) else r.owner.b = b)
  match s.drv.results.find? mine with
  | none => s
  | some r =>
    let s := s.drvTake d r.owner
    if r.gated then s.flushStop d
    else if !r.ok then s.flushMemberLost d b
    else match r.owner.a with
      | 1 => s.flushNext d b
      | 2 =>
        let x := s.fl d
        match x.queue.find? (fun y => y.recSeq = r.owner.b) with
        | none => s
        | some y =>
          let s := s.setFl d { x with queue := x.queue.map (fun (z : FlRec) => if z.recSeq = y.recSeq then { z with progress := 2 } else z) }
          let s := s.flsBump d 0
          let s := if y.kind = 3 then s.flsBump d 1 y.blocks else if y.kind = 2 then s.flsBump d 2 y.crumbs else s
          (s.flushNext d b).flushAdvance d
      | 3 =>
        -- The member header, with the set's blocks filled in and its state Closed.
        let h := s.flHeader d b
        let n := (alGet (s.fl d).placed b).getD 0 + 1
        let sets := h.sets.map (fun e => if e.2.2.2 = 1 && e.1 = s.r d (.fls .CH_EPOCH) then (e.1, e.2.1, n, 2) else e)
        (s.flsBump d 0).putHeader d { h with sets := sets, next := 32770 + (h.next - 32770 + n) % 1015806 } (flushOwner 4 b)
      | _ =>
        let x := s.fl d
        let closed := x.closed ++ [b]
        let s := s.setFl d { x with closed := closed }
        if x.members.all closed.contains then (s.w d (.fls .CH_STATUS_state) 6).flushEnds else s

/-! ### Channel start (R473, and what it loads) -/

/-- A group as its record, its superblocks and the image give it (R329, spec/11 R331). -/
def State.loadGroupRecord (s : State) (d g : Nat) (rec? : Option GroupRec) (e? : Option GroupEntry) : State :=
  let ready (b : Nat) : Bool := s.r d (.drv .B_STATE_state) b = 6 && s.r d (.drv .B_STATE_class) b = 1
  match rec?, e? with
  -- A group that the image does not list is not configured, whatever records its drives still hold (spec/04 R107).
  | _, none => s
  | some r, some e =>
    let strip := 2 ^ (r.stripLog2 - 12)
    let n := r.states.length
    let serving := r.serving.map (fun b => if b < 8 then some b else none)
    let at_ (p : Nat) : Nat := (serving.getD p none).getD 255
    let states := r.states.mapIdx (fun p c => if c = 0 ∨ c = 3 ∨ c = 4 then (if ready (at_ p) then c else 1) else c)
    let stripes := s.stripesOver d (serving.filterMap id) strip
    let regions := (stripes * strip + 16383) / 16384
    let lost := r.lostPages.flatMap (fun p => (List.range 32768).map (fun i => 32768 * p + i) |>.filter (fun i => decide (i < regions)))
    let marked := (r.marked ++ lost).eraseDups
    let per := 16384 / strip
    let x : Group := { configured := true, layout := r.layout, k := r.k, strip := strip, n := n, stripes := stripes
                       steer := e.flags.testBit 0, window := e.flags.testBit 1, spareMask := e.spareMask
                       members := e.members, states := states, serving := serving
                       absentAt := ((List.range n).filter (fun p => states.getD p 5 = 1)).map (fun p => (p, s.now))
                       cursor := r.cursor, join := r.joins, lap2 := r.lap2, partial_ := r.part
                       pass := states.any (fun c => c = 3 || c = 4), marked := marked, durable := marked
                       fullResync := r.full, resyncAt := s.ts64 d
                       resync := lost.flatMap (fun m => (List.range per).map (fun i => m * per + i) |>.filter (fun t => decide (t < stripes)))
                       generation := r.generation, bad := r.bad.map (fun b => ⟨b.1, b.2.1, b.2.2.1, b.2.2.2⟩) }
    let s := s.setGrp d g x
    let s := if r.lostPages.isEmpty then s else s.ev d (.grp .EVENTS_record_lost)
    let s := if r.badOk then s else
      foldS (fun (s : State) (n : NsEntry) => if cdId n.channel = d && n.group = g then s.deferRange d n.nsid 5 0 0 0 (s.ts64 d) true
        else s) s (s.img.active.getD {}).namespaces
    if r.lostPages.isEmpty && r.badOk then s else s.recordWrite d g
  | none, some e =>
    -- The record is lost: member states from the superblocks, every region marked, full resynchronisation.
    let n := e.members.length
    let good (p : Nat) : Bool := let b := e.members.getD p 0
      ready b && (s.drive d b).sb.group = g && (s.drive d b).sb.position = p
    let states := (List.range n).map (fun p => if good p then 0 else 1)
    let stripes := s.stripesOver d e.members e.strip
    let regions := (stripes * e.strip + 16383) / 16384
    let x : Group := { configured := true, layout := e.layout, k := e.k, strip := e.strip, n := n, stripes := stripes
                       steer := e.flags.testBit 0, window := e.flags.testBit 1, spareMask := e.spareMask, members := e.members
                       states := states, serving := e.members.map some
                       absentAt := ((List.range n).filter (fun p => !good p)).map (fun p => (p, s.now))
                       marked := List.range regions, durable := [], fullResync := true, resyncAt := s.ts64 d, recLost := true }
    let s := ((s.setGrp d g x).ev d (.grp .EVENTS_record_lost)).logEv d 0x25 .recordLost [g]
    -- No copy holds the bad-unit entries: the units they listed cannot be known.
    let s := foldS (fun (s : State) (n : NsEntry) => if cdId n.channel = d && n.group = g then s.deferRange d n.nsid 5 0 0 0 (s.ts64 d) true
        else s) s (s.img.active.getD {}).namespaces
    s.recordWrite d g

/-- A reshape as its record gives it (R359): in Reversing the record's source and destination are swapped, as the run's are. -/
def reshapeOf (r : ReshapeRec) : Reshape :=
  let rev := r.phase = 5
  let z : Reshape := {
    kind := r.kind, phase := r.phase, reverse := rev, src := r.src, dst := r.dst, stripes := r.stripes, cursor := r.cursor
    end_ := r.end_, stepBlocks := r.stepBlocks, inflight := r.inflight, bkp := r.backup.getD [], heldBy := r.held
    heldLayout := decide (6 ≤ r.phase), cancel := r.cancel, generation := r.generation, startTs := r.startTs }
  { z with moved := rev || (if z.descending then z.cursor ≠ z.end_ else z.cursor ≠ 0) }

/-- The stripe intents without a Stripe done are pending resynchronisation (R339). -/
def State.intentsPending (s : State) (d : Nat) : State :=
  foldS (fun (s : State) (r : RingCrumb) =>
    if r.c.kind = 0x10 && !r.retired then
      let x := s.grp_ d r.c.group
      if x.configured then
        ((s.setGrp d r.c.group { x with resync := if x.resync.contains r.c.slba then x.resync else x.resync ++ [r.c.slba]
                                        resyncAt := s.ts64 d }).retireCrumb d r.c.seq)
      else s
    else s) s (s.sp d).ring

/-- A channel that failed with dirty data and was not handed over defers every block of every marked region when it returns to
service (spec/02 R51; cause 0x02 of spec/08 *Deferred error causes*). -/
def State.lostDefers (s : State) (d : Nat) : State :=
  match alGet s.mode.lostDirty d with
  | none => s
  | some (lo, hi) =>
    let s := { s with mode := { s.mode with lostDirty := alDel s.mode.lostDirty d } }
    foldS (fun (s : State) (e : Nat × Group) => foldS (fun (s : State) (n : NsEntry) =>
      if cdId n.channel = d && n.group = e.1 then
        foldS (fun (s : State) m =>
          let per := 16384 * e.2.kEff
          let a := max n.offset (m * per)
          let b := min (n.offset + n.size) ((m + 1) * per)
          if a < b then s.deferRange d n.nsid 2 (a - n.offset) (b - a) lo hi else s) s e.2.marked
      else s) s (s.img.active.getD {}).namespaces) s (s.dieGroups d)

/-- A channel start takes the records of its region: the group records, the reservations, the deferred ranges, the Format and
Sanitize progress (spec/09 R276, spec/13 R380), and the reshapes, recovered before replay (spec/12 R360). -/
def State.channelRecords (s : State) (d : Nat) (band : ChannelBand) : State :=
  let img := s.img.active.getD {}
  -- Records.
  let s := foldS (fun (s : State) g => s.loadGroupRecord d g (band.groups.find? (fun r => r.group = g))
    (img.groups.find? (fun e => cdId e.channel = d && e.group = g))) s (List.range 4)
  let c := s.cd d
  let known := (img.namespaces.filter (fun n => cdId n.channel = d)).map (·.nsid)
  let s := s.setCd d { c with
    resv := band.resv.map (fun r => (r.nsid, { rtype := r.rtype, holder := r.holder, generation := r.generation, prgen := r.prgen, regs := r.regs }))
    defer := (band.ranges.map (fun r => (⟨r.nsid, r.cause, r.whole, r.slba, r.nlb, r.from_, r.to_, r.detect, r.logSeq⟩ : DeferEntry))) ++
      c.defer.filter (fun y => !band.ranges.any (fun r => r.nsid = y.nsid && r.cause = y.cause))
    formats := (band.progress.filter (fun p => p.nsid ≠ 0 && decide (p.phase < 3))).map (fun p => (p.nsid,
      { action := p.action, phase := p.phase, nsid := p.nsid, host := p.host, start := p.start, cursor := p.cursor, total := p.total
        generation := p.generation, cid := p.cid, checkAt := s.ts64 d }))
    sanitize := (band.progress.find? (fun p => p.nsid = 0)).map (fun p =>
      { action := p.action, phase := p.phase, nsid := 0xFFFFFFFF, host := p.host, start := p.start, cursor := p.cursor, total := p.total
        generation := p.generation, cid := p.cid, checkAt := s.ts64 d }) }
  -- NSM.SANITIZE is recomputed from the record (spec/09 R276).
  let s := match (s.cd d).sanitize with
    | none => s
    | some p => ((s.w d (.nsm .SANITIZE_sstat) (if p.phase < 3 then 2 else if p.phase = 3 then 1 else 3)).w d (.nsm .SANITIZE_sprog)
        (if p.phase < 3 then p.sprog else 0xFFFF)).wb d (.nsm .SANITIZE_restricted) (p.phase = 4)
  -- A namespace that has groups and no valid reservation record starts with none, and the loss is recorded (spec/13 R380).
  let lostResv := known.filter (fun n => band.groups.isEmpty = false && !band.resv.any (fun r => r.nsid = n))
  let s := if lostResv.isEmpty then s else s.ev d (.drv .EVENTS_resv_lost)
  let s := s.deferShow d
  let s := if band.rangesLost then foldS (fun (s : State) n => s.deferRange d n 5 0 0 0 (s.ts64 d) true) s known else s
  -- Reshapes, recovered before replay (spec/12 R360).
  foldS (fun (s : State) (r : ReshapeRec) =>
    let z := reshapeOf r
    let x := s.grp_ d r.group
    let s := if z.live then s.setGrp d r.group { x with tolCap := min z.src.tolerance z.dst.tolerance } else s
    let here (b : Nat) : Bool := x.serving.contains (some b) || s.r d (.drv .B_STATE_state) b = 6
    let z := { z with
      dstStates := z.other.members.map (fun b => if here b then 0 else 1)
      nss := (img.namespaces.filter (fun n => cdId n.channel = d && n.group = r.group && decide (n.offset + n.size ≤ z.end_))).map (·.nsid)
      inBays := if z.kind = 1 ∧ z.phase = 2 ∧ x.n ≤ z.dst.members.length then ((List.range z.dst.members.length).map (fun p =>
        (p, z.dst.members.getD p 0))).filter (fun e => !(decide (e.1 < x.n) && x.serving.getD e.1 none = some e.2)) else [] }
    let s := s.setRsh d r.group z
    let s := if z.live then s.setGrp d r.group { s.grp_ d r.group with otherOut := (s.otherView d r.group).outCount } else s
    let s := if z.running && !s.reshapeWhole d r.group z then s.setRsh d r.group { z with pauseBay := true, wait := 4 } else s
    s.reshapeRecover d r.group r.backup.isSome) s band.reshapes

/-- A channel start selects its Crumb source and opens what it replays (spec/16 R473), resynchronises the marked regions where
there is no source at all (spec/11 R339), and returns the patrol cursors to 0 (spec/21 R598). -/
def State.channelSource (s : State) (d : Nat) (band : ChannelBand) (takeover recovering : Bool) : State :=
  -- The Crumb source (R473).
  let sp := s.sp d
  let last := ((List.range 8).map (fun b => if s.r d (.drv .B_STATE_class) b = 1 then (s.drive d b).sb.lastReplay else 0)).foldl max 0
  let preserved := !sp.ring.isEmpty || !sp.index.isEmpty
  let top (z : FlushSet) : Nat := ((z.records.flatMap (fun (r : FlushRecord) => r.crumbs.map (·.seq)) ++ (z.records.filter (fun (r : FlushRecord) => r.kind = 1)).map
    (fun (r : FlushRecord) => r.seqB - 1))).foldl max 0
  let sets := ((sortKey (·.epoch) band.sets).filter (fun z => decide (last < top z))).take 3
  let source := if takeover then 3 else if preserved then 1 else if sets.isEmpty then 0 else 2
  let used := if source = 2 then sets else []
  let opens := (used.flatMap (fun z => (z.records.filter (fun r => r.kind = 2 || r.kind = 3)).map (fun r => (z.epoch, r.recSeq)))).mapIdx
    (fun i e => (i % 65536, e.1, e.2))
  let f := s.fl d
  let s := s.setFl d { f with hdrs := band.headers, sets := used, opens := opens, opened := [], started := true, replayed := false, lastReplay := last }
  let ringTop := (sp.ring.map (fun r => r.c.seq)).foldl max 0
  let setTop := (band.sets.map top).foldl max 0
  let s := s.w d (.spg .CRUMB_NEXT) (max (s.r d (.spg .CRUMB_NEXT)) (max ringTop setTop + 1))
  let s := ((s.w d (.fls .REPLAY_STATUS_source) source).w d (.fls .REPLAY_STATUS_sets) used.length).wb d (.fls .REPLAY_STATUS_running)
    (source ≠ 0 && (takeover || recovering || s.modeNow = 9))
  -- With no source at all, the marked regions are resynchronised (R339).
  let s := if source = 0 && band.sets.isEmpty then
      foldS (fun (s : State) (e : Nat × Group) =>
        let x := s.grp_ d e.1
        let per := 16384 / max 1 x.strip
        let ts := x.marked.flatMap (fun m => (List.range per).map (fun i => m * per + i) |>.filter (fun t => decide (t < x.stripes)))
        if ts.isEmpty then s else s.setGrp d e.1 { x with resync := (x.resync ++ ts).eraseDups, resyncAt := s.ts64 d }) s (s.dieGroups d)
    else s
  let s := if source = 1 ∨ source = 3 then s.intentsPending d else s
  let s := s.w d (.grp .STATUS_chan_state) 0
  -- Patrol cursors return to 0 at every channel start (spec/21 R598).
  let s := foldS (fun (s : State) g => s.w d (.bgw .G_PATROL) 0 g) (s.setBg d { s.bg d with patrol := none }) (List.range 4)
  ((s.lostDefers d).ceilingShow d |>.chanShow d).nsmShow d

/-- CHANNEL_START (R473, R447; spec/11 R329, spec/12 R360, spec/13 R380, R381, spec/09 R273): what the bands of the drives gave.
The Crumb source is chosen, and every record, table and pending resynchronisation is loaded. -/
def execChannelStart (d : Cd) (band : ChannelBand) (s : State) : Out := onCd d s fun s =>
  let d := cdId d
  let takeover := decide (s.modeNow = 7)
  let recovering := s.rb d (.grp .STATUS_recovering)
  if !(s.modeNow = 3 || recovering || (takeover && s.pair.fenceDone)) ∨ s.chanFailed d then s
  else (s.channelRecords d band).channelSource d band takeover recovering

/-- GCM_OPEN_RESULT (spec/14 R408, R410; R474, R475): the open of a record has ended; when it succeeds its Crumbs are placed
and its index steps made, and when it does not the record is unrecovered. -/
def execGcmOpenResult (d : Cd) (tag : BitVec 16) (ok : Bool) (s : State) : Out := onCd d s fun s =>
  let d := cdId d
  let x := s.fl d
  match (if s.modeNow = 9 || s.rb d (.grp .STATUS_recovering) then x.opens.find? (fun o => o.1 = tag.toNat) else none) with
  | none => s
  | some o =>
    let s := s.gcmPush d tag.toNat (!ok)
    let s := s.setFl d { x with opens := x.opens.filter (fun y => y ≠ o), opened := if ok then x.opened ++ [(o.2.1, o.2.2)] else x.opened }
    match (x.sets.find? (fun z => z.epoch = o.2.1)).bind (fun z => z.records.find? (fun r => r.recSeq = o.2.2)) with
    | none => s
    | some r =>
      let s := s.cipBump d 3 (4096 * (r.descs.length + (r.crumbs.length + 63) / 64))
      if ok then
        let s := s.flsBump d 4
        let s := foldS (fun (s : State) (c : Crumb) =>
          if (s.ringCrumb d c.seq).isSome then s else
            let s := if c.kind = 2 ∨ c.kind = 3 then s.commitRange d c else s
            let y := s.sp d
            (s.setSp d { y with ring := y.ring ++ [{ c := c, writtenAt := s.now }] }).flsBump d 7) s r.crumbs
        foldS (fun (s : State) (z : FlushDesc) =>
          if z.poisoned then s else
            (s.commitBlock d { kind := 1, nsid := z.nsid, slba := z.lba, nlb := 1, conn := z.conn, msn := z.msn, e := z.e, seq := z.seq }
              (s.nsGroup z.nsid) z.lba z.data).flsBump d 6) s r.descs
      else
        let s := ((s.cipBump d 4).ev d (.cip .EVENTS_auth_fail)).flsBump d 5
        let s := s.ev d (.fls .EVENTS_distrust)
        foldS (fun (s : State) (z : FlushDesc) => (s.deferRange d z.nsid 4 z.lba 1 z.e z.e).flsBump d 8) s r.descs

/-! ### The end of replay (R472, R474) -/

/-- Records 1 to n of a set that are present and opened (kinds 1 and 4 hold nothing to open). -/
def setReach (z : FlushSet) (opened : List (Nat × Nat)) : Nat → Nat → Nat
  | 0, n => n
  | k + 1, n => if z.records.any (fun r => r.recSeq = n + 1 && (r.kind = 1 || r.kind = 4 || opened.contains (z.epoch, n + 1)))
      then setReach z opened k (n + 1) else n

/-- The outcome of a set (R472): 0 complete, 1 truncated with its Crumbs whole, 2 Crumbs incomplete, 3 no set record; with n. -/
def setOutcome (z : FlushSet) (opened : List (Nat × Nat)) : Nat × Nat :=
  let n := setReach z opened z.records.length 0
  let last := (z.records.map (·.recSeq)).foldl max 0
  let head := z.records.find? (fun r => r.kind = 1)
  match head with
  | none => (3, n)
  | some h =>
    let closes := (z.records.filter (fun r => r.kind = 4 && r.flags.testBit 0)).length
    if h.members ≤ closes ∧ n = last then (0, n)
    else
      let covered := (z.records.filter (fun r => r.kind = 2 && decide (r.recSeq ≤ n))).flatMap (fun r =>
        (List.range (r.seqB - r.seqA)).map (fun i => r.seqA + i))
      if (List.range (h.seqB - h.seqA)).all (fun i => covered.contains (h.seqA + i)) then (1, n) else (2, n)

/-- The deferred ranges of a truncated set (R472). -/
def State.setDefers (s : State) (d : Nat) (z : FlushSet) (opened : List (Nat × Nat)) : State :=
  let (o, n) := setOutcome z opened
  if o = 1 then
    let high := ((z.records.filter (fun r => r.kind = 3 && decide (r.recSeq ≤ n))).map (·.seqA)).foldl max 0
    let descs := (z.records.filter (fun r => opened.contains (z.epoch, r.recSeq))).flatMap (·.descs)
    let crumbs := ((s.sp d).ring.filter (fun r => r.c.kind = 1 && !r.retired && decide (high < r.c.seq))).map (·.c)
    let es := crumbs.map (·.e)
    let lo := es.foldl min (es.headD 0)
    let hi := es.foldl max 0
    foldS (fun (s : State) (c : Crumb) => foldS (fun (s : State) i =>
      let lba := c.slba + i
      let held := descs.any (fun y => y.nsid = c.nsid && y.lba = lba && (y.seq = c.seq || keyLater y.e y.conn y.msn c.e c.conn c.msn))
      if held then s else (s.deferRange d c.nsid 3 lba 1 lo hi).flsBump d 8) s (List.range c.nlb)) s crumbs
  else if o = 2 then
    let eMax := ((z.records.find? (fun r => r.kind = 1)).map (·.eMax)).getD 0
    foldS (fun (s : State) (e : Nat × Group) => foldS (fun (s : State) (n : NsEntry) =>
      if cdId n.channel = d && n.group = e.1 then
        foldS (fun (s : State) m =>
          -- The namespace's blocks that lie in a marked region.
          let per := 16384 * e.2.kEff
          let lo := max n.offset (m * per)
          let hi := min (n.offset + n.size) ((m + 1) * per)
          if lo < hi then (s.deferRange d n.nsid 3 (lo - n.offset) (hi - lo) 0 eMax).flsBump d 8 else s) s e.2.marked
      else s) s (s.img.active.getD {}).namespaces) s (s.dieGroups d)
  else s

/-- Write-class Crumbs without a Chain done become Orphaned outcomes and enter the filter; Cancel Crumbs are outcomes (R447,
R474 step 4). -/
def State.orphansFrom (s : State) (d : Nat) : State :=
  let hold := 1000000000 * s.r d (.cmd .CFG_resume_hold_s)
  let open_ := (s.sp d).ring.filter (fun r => !r.retired && !r.chainDone && between 1 r.c.kind 3)
  let s := foldS (fun (s : State) (r : RingCrumb) => match s.newSlot d with
    | none => s
    | some k => s.setSlot d k { state := 6, conn := r.c.conn, host := r.c.host, slba := r.c.slba, nlb := r.c.nlb, e := r.c.e, msn := r.c.msn
                                cap := { opcode := r.c.opcode, cid := r.c.cid, nsid := r.c.nsid }, stamp := r.c.stamp, status := some stOk
                                seqs := [r.c.seq], orphanAt := some s.now, holdNs := hold }) s open_
  let s := foldS (fun (s : State) (r : RingCrumb) => if r.c.kind = 0x21 && !r.retired then
      match s.newSlot d with
      | none => s
      | some k => s.setSlot d k { state := 6, conn := r.c.conn, host := r.c.host, slba := r.c.slba, nlb := r.c.nlb, e := r.c.e, msn := r.c.msn
                                  cap := { opcode := r.c.opcode, cid := r.c.cid, nsid := r.c.nsid }, status := some r.c.aux
                                  seqs := [r.c.seq], orphanAt := some s.now, holdNs := hold }
    else s) s (s.sp d).ring
  let c := s.cd d
  -- In a package that serves, the hold runs from now on.
  let until_ := if s.modeNow = 5 && !open_.isEmpty then some (s.now + hold) else c.filterUntil
  s.setCd d { c with filterUntil := until_, filter := c.filter ++ open_.map (fun r => ⟨r.c.host, r.c.nsid, r.c.opcode, r.c.slba, r.c.nlb, r.c.cid⟩) }

/-- Every channel that is not Failed has replayed. -/
def State.allReplayed (s : State) : Bool :=
  (s.cds.map cdId).all (fun d => s.chanFailed d || !s.cdUp d || (s.fl d).replayed)

/-- The superblocks of every present member carry the largest seq replayed, and the sets used or passed over are Consumed
(R474 steps 6 and 7); a replay after a CHANNEL or DIE reset in a serving package leaves the sets as they are (R476). -/
def State.replayWrites (s : State) (d top : Nat) (recovering : Bool) : State :=
  let s := foldS (fun (s : State) (e : Nat × Group) => foldS (fun (s : State) p =>
    match e.2.serving.getD p none with
    | some b => if e.2.present p then s.writeSb d b 1 e.1 p (some top) else s
    | none => s) s (List.range e.2.n)) s (s.dieGroups d)
  if recovering then s else foldS (fun (s : State) (h : FlushHeader) =>
    if h.sets.any (fun e => e.2.2.2 = 1 || e.2.2.2 = 2) then
      s.putHeader d { h with sets := h.sets.map (fun e => if e.2.2.2 = 1 ∨ e.2.2.2 = 2 then (e.1, e.2.1, e.2.2.1, 3) else e) } { kind := 15, a := h.bay }
    else s) s (s.fl d).hdrs

/-- The channel is replayed. -/
def State.replayOver (s : State) (d outcome : Nat) : State :=
  let s := s.setFl d { s.fl d with replayed := true, sets := [], opened := [] }
  let s := (s.w d (.fls .REPLAY_STATUS_running) 0).w d (.fls .REPLAY_STATUS_outcome) outcome
  let s := (s.ev d (.fls .EVENTS_replay_done)).w d (.grp .STATUS_recovering) 0
  let s := { s with mode := { s.mode with chanRecover := s.mode.chanRecover.filter (fun e => e.1 ≠ d) } }
  let s := ((s.crumbShow d).chanShow d).nsmShow d
  if (s.modeNow = 9 || s.modeNow = 7) && s.allReplayed then s.trig 8 else s

/-- What replay makes of the Crumb source: retirements, resynchronisations, outcomes, deferred ranges, the floor. -/
def State.replayCrumbs (s : State) (d source : Nat) (x : FlsDie) : State :=
  let s := if source = 2 then
      (foldS (fun (s : State) (r : RingCrumb) => s.standbyRetire d r.c) s (sortKey (fun (r : RingCrumb) => r.c.seq) (s.sp d).ring)).intentsPending d
    else s
  let s := foldS (fun (s : State) (z : FlushSet) => s.setDefers d z x.opened) (s.orphansFrom d) x.sets
  let ring := (s.sp d).ring
  let floor := (ring.map (fun r => r.c.e)).foldl max 0 + 1
  if ring.isEmpty then s else s.w d (.cmd .REPLAY_FLOOR) (max floor (s.r d (.cmd .REPLAY_FLOOR)))

/-- REPLAY_COMPLETE (R474 steps 4-7, R447): every open has ended. -/
def execReplayComplete (d : Cd) (s : State) : Out := onCd d s fun s =>
  let d := cdId d
  let x := s.fl d
  let recovering := s.rb d (.grp .STATUS_recovering)
  if !x.started || x.replayed || !x.opens.isEmpty || !(s.modeNow = 9 || recovering || (s.modeNow = 7 && s.pair.fenceDone)) then s else
  let source := s.r d (.fls .REPLAY_STATUS_source)
  let outcome := if source = 2 then (x.sets.map (fun z => (setOutcome z x.opened).1)).foldl max 0 else if source = 0 then 3 else 0
  let s := s.replayCrumbs d source x
  let top := ((s.sp d).ring.map (fun r => r.c.seq)).foldl max x.lastReplay
  (s.replayWrites d top recovering).replayOver d outcome

/-- FLS_SNAPSHOT (R479). -/
def execFlsSnapshot (q : Req) (die : DieId) (s : State) : Out :=
  let d := die.val
  let n := if d = 7 then 3 else 9
  .next (if s.hasDie d && d ≠ 0 then s.snapshot d 0x31 q.secure (s.counters d 0x31 n) (.fls .SNAP_CTRL_done) else s)

end Sys2Proof.Machine
end

