-- ==== Sys2Proof/Machine/ResetOps.lean ====
section
/-! DEFINITION. What each reset level clears and keeps (spec/23 R613), the start of the management die's cores, the release of a
die, and the failure of a channel die (spec/02 R50, R51). -/

set_option Elab.async false

namespace Sys2Proof.Machine

/-! ### What a reset clears (R613) -/

/-- Fields that fuses give. -/
def fusedField (f : Fld) : Bool :=
  f = .rst .SRC_MAP_level || f = .pwr .D_LIMITS_vmax_mv || f = .pwr .D_LIMITS_vmin_mv || f = .lat .HOP_DELAY_delay_ps ||
  f = .mgt .ID_part_code || f = .mgt .ID_stepping || f = .epf .IDS_subsys_vendor || f = .epf .IDS_vendor ||
  f = .epf .IDS2_subsys_id || f = .epf .IDS2_device

/-- Fields that show the level of a pin, a rail or a clock, or that a rule keeps through a PACKAGE reset. -/
def inputField (f : Fld) : Bool :=
  f = .fls .STATUS_warning || f = .fls .STATUS_psu_warn || f = .fls .STATUS_v12_low || f = .fls .STATUS_v12_mv ||
  f = .pair .STATUS_peer_claim || f = .epf .STATUS_perst || f = .clk .STATUS_xtal_ok || f = .clk .STATUS_ref156_ok ||
  f = .clk .STATUS_ep_ref_ok || f = .clk .STATUS_drv_ref_ok || f = .clk .STATUS_ref10m_ok || f = .clk .PPM_valid || f = .clk .PPM_offset ||
  f = .pwr .STATUS_enabled || f = .pwr .STATUS_pgood || f = .pwr .D_VOLT_set_mv || f = .pwr .D_VOLT_read_mv || f = .pwr .D_CAL_next ||
  f = .pwr .D_CAL_done

/-- A field that a PACKAGE reset keeps: ROS, RST.CAUSE, fuses and levels (R613, R616). -/
def warmField (f : Fld) : Bool := f.spec.acc = .ros || f = .rst .CAUSE_sources || fusedField f || inputField f

/-- Blocks whose registers a CHANNEL reset returns to their reset values: the engine blocks, and BGW, PMC and SEC by their own
rules (R254, R309, R344, R364, R389, R456, R478, R533, R587, R600, R612). -/
def channelBlock (b : Nat) : Bool := b = 4 || b = 5 || b = 6 || b = 0x15 || between 0x20 b 0x28 || b = 0x30 || b = 0x31

/-- The WRT, the lock and the key-transport key outlast a CHANNEL reset (R568, R587, R613). -/
def lockField (f : Fld) : Bool :=
  f = .sec .STATUS_locked || f = .sec .STATUS_proofing_done || f = .sec .WRT_BASE_base_4k || f = .sec .WRT_SIZE_size_4k ||
  f = .sec .WRT_FLAGS_valid || f = .sec .WRT_FLAGS_secure || f = .sec .WRT_FLAGS_ns_read_only || f = .cip .STATUS_ktk_ready

/-- A register of a channel die outlasts a DIE reset, or a CHANNEL reset. -/
def dieKeeps (die : Bool) (f : Fld) : Bool :=
  f.spec.acc = .ros || f = .spg .DIRTY_CEILING_limit_mib || f = .grp .STATUS_chan_state || fusedField f ||
    (!die && (!channelBlock f.block || lockField f))

/-- The Sponge's stack contents through a warm reset: the index, the zero ranges and the ring; nothing in flight is left (R41). -/
def SpgDie.preserved (x : SpgDie) (seed : Nat) : SpgDie :=
  { index := x.index.map (fun (y : IdxEntry) => { y with pins := 0, destaging := false }), ranges := x.ranges, ring := x.ring
    hand := x.hand, seedNo := seed }

/-- The preserved index is rebuilt under a new seed (spec/10 R280). -/
def State.reindex (s : State) (d : Nat) : State :=
  let old := (s.sp d).index
  let s := s.setSp d { s.sp d with index := [] }
  foldS (fun (s : State) (y : IdxEntry) =>
    let b := ((s.bucketFor d y.nsid y.lba).map (·.1)).getD (s.buckets d y.nsid y.lba).1
    let x := s.sp d
    s.setSp d { x with index := x.index ++ [{ y with bucket := b }] }) s old

/-- The engines of a channel die as a DIE or CHANNEL reset leaves them (R613). -/
def State.engineClear (s : State) (d : Nat) (die : Bool) : State :=
  let hold := 1000000000 * s.r d (.cmd .CFG_resume_hold_s)
  let s := { s with
    regs := s.regs.filter (fun (e : RegKey × Nat) => e.1.die ≠ d || dieKeeps die e.1.fld)
    ctrs := s.ctrs.filter (fun (e : CtrKey × Nat) => e.1.die ≠ d || (!die && !channelBlock e.1.blk))
    snaps := s.snaps.filter (fun (x : Snapshot) => x.die ≠ d || (!die && !channelBlock x.blk))
    latches := s.latches.filter (fun (x : Latch) => x.die ≠ d) }
  -- Contexts, regions and chains are Free; generations and key tags go on (spec/07 R203).
  let s := { s with rdx := { s.rdx with
    conns := s.rdx.conns.map (fun (e : (Nat × Nat) × Conn) => if e.1.1 = d then (e.1, { gen := e.2.gen }) else e)
    regions := s.rdx.regions.map (fun (e : (Nat × Nat) × Region) => if e.1.1 = d then (e.1, { tag := e.2.tag }) else e)
    chains := s.rdx.chains.filter (fun (e : (Nat × Nat) × Chain) => e.1.1 ≠ d)
    revokeDone := alDel s.rdx.revokeDone d, chainFail := alDel s.rdx.chainFail d } }
  -- Slots are Free; outcomes live on only in Crumbs (spec/08 R254, R224).
  let c := s.cd d
  let s := s.setCd d { tokens := c.tokens.map (fun (t : Token) => if t.holdFrom.isSome then t else { t with holdFrom := some s.now, holdNs := hold })
                       draining := c.draining, defer := c.defer }
  let s := s.setSp d ((s.sp d).preserved (s.sp d).seedNo)
  let s := { s with
    spg := { s.spg with arbs := alDel s.spg.arbs d }
    grp := { groups := s.grp.groups.filter (fun (e : (Nat × Nat) × Group) => e.1.1 ≠ d) }
    rsh := { groups := s.rsh.groups.filter (fun (e : (Nat × Nat) × Reshape) => e.1.1 ≠ d) }
    drv := { s.drv with drives := s.drv.drives.filter (fun (e : (Nat × Nat) × Drive) => e.1.1 ≠ d)
                        cmds := s.drv.cmds.filter (fun (x : DrvCmd) => x.die ≠ d)
                        results := s.drv.results.filter (fun (x : DrvResult) => x.die ≠ d) }
    fls := { s.fls with dies := alDel s.fls.dies d }
    bgw := alDel s.bgw d
    pmc := { held := s.pmc.held.filter (fun (e : (Nat × Nat × Req) × Nat) => e.1.1 ≠ d), starts := s.pmc.starts.filter (fun (e : Nat × (Nat × Nat)) => e.1 ≠ d)
             shots := s.pmc.shots.filter (fun (e : Nat × Nat) => e.1 ≠ d) }
    swx := { s.swx with connHost := s.swx.connHost.filter (fun (e : Nat × Nat) => e.1 / 2 ^ 21 + 1 ≠ d) }
    ep := { s.ep with land := s.ep.land.filter (fun (x : EpLand) => x.die ≠ d) }
    pair := { s.pair with cuts := alDel s.pair.cuts d, carried := s.pair.carried.filter (fun (e : (Nat × Nat) × List (Nat × Block)) => e.1.1 ≠ d) } }
  -- Key slots; a DIE reset erases the key-transport key too (spec/14 R404).
  let ktk := s.rb d (.cip .STATUS_ktk_ready)
  let s := s.clearSlots d
  let s := if die then
      { s with tim := { s.tim with sched := s.tim.sched.filter (fun (e : (Nat × Nat) × SchedEntry) => e.1.1 ≠ d)
                                   nextOcc := s.tim.nextOcc.filter (fun (e : (Nat × Nat) × Nat) => e.1.1 ≠ d)
                                   windows := s.tim.windows.filter (fun (w : OpenWindow) => w.die ≠ d) } }
    else s.wb d (.cip .STATUS_ktk_ready) ktk
  -- PERST# of every bay is asserted (spec/13 R367).
  foldS (fun (s : State) b => s.emit (.perst d b true)) s (List.range 8)

/-- The whole package as a COLD or a PACKAGE reset leaves it (R613): what each keeps, and everything else at its reset value. -/
def State.wipe (s : State) (cold : Bool) : State :=
  let n : State := { (State.reset) with
    now := if cold then 0 else s.now
    fresh := s.fresh + 1
    channels := s.channels
    regs := s.regs.filter (fun (e : RegKey × Nat) => if cold then fusedField e.1.fld else warmField e.1.fld)
    out := s.out
    pending := s.pending
    logq := if cold then [] else s.logq
    sec := { ledger := s.sec.ledger, headSeq := s.sec.headSeq, headHash := s.sec.headHash, owner := s.sec.owner
             tamper := s.sec.tamper, segment := s.sec.segment, offset := s.sec.offset }
    img := { slotA := s.img.slotA, slotB := s.img.slotB, sel0 := s.img.sel0, sel1 := s.img.sel1, floor := s.img.floor }
    cip := { mediaRoot := s.cip.mediaRoot, gens := s.cip.gens }
    -- PME_Status and PME_En survive a conventional reset, which a reset of the port die is (spec/18 R525).
    ep := if cold then { refclk := s.ep.refclk } else { refclk := s.ep.refclk, pmeEn := s.ep.pmeEn, pmeStatus := s.ep.pmeStatus }
    mgt := { fwA := s.mgt.fwA, fwB := s.mgt.fwB, fsel0 := s.mgt.fsel0, fsel1 := s.mgt.fsel1, fwFloor := s.mgt.fwFloor
             bootCount := s.mgt.bootCount, nvmLog := s.mgt.nvmLog, evlog := if cold then [] else s.mgt.evlog
             nvmDue := if cold then [] else s.mgt.nvmDue }
    mode := { lostDirty := if cold then [] else s.mode.lostDirty }
    fls := { warnAt := s.fls.warnAt }
    rst := { cold := cold || (s.rst.cold && !s.rst.freed.any (fun d => d ≠ 0)) }
    bay := { recs := s.bay.recs }
    rdx := if cold then { colds := s.rdx.colds + 1 } else
      { colds := s.rdx.colds
        conns := s.rdx.conns.map (fun (e : (Nat × Nat) × Conn) => (e.1, { gen := e.2.gen }))
        regions := s.rdx.regions.map (fun (e : (Nat × Nat) × Region) => (e.1, { tag := e.2.tag })) }
    spg := if cold then {} else { dies := s.spg.dies.map (fun (e : Nat × SpgDie) => (e.1, e.2.preserved s.fresh)) } }
  let n := n.w mdId (.sec .TAMPER_STATUS_sources) s.sec.tamper
  if cold then n else foldS (fun (n : State) c => n.reindex (cdId c)) n n.cds

/-! ### The start of the management die (R617) -/

/-- The cores of the management die start: Supervise is entered, with the transition's record (spec/02 R29), the watchdogs run,
and the event log goes on past what the NVM log and the ring hold (spec/19 R537, R554, R555). -/
def State.superviseStart (s : State) (prev : Nat) : State :=
  let s := { s with rst := { s.rst with phase := 3, held := false, at_ := s.now } }
  let s := { s with mode := { s.mode with entered := s.now } }
  let top := ((s.mgt.nvmLog ++ s.mgt.evlog).map (·.seq)).foldl (fun a b => max a (b + 1)) 0
  let s := (s.w mdId (.mgt .EVLOG_NEXT) top).w mdId (.mgt .EVLOG_STATUS_nvm_ok) 1
  let s := s.w mdId (.mgt .EVLOG_STATUS_ram_records) s.mgt.evlog.length
  let s := s.w mdId (.mgt .BOOT_COUNT_count) s.mgt.bootCount
  let s := s.setMgt { s.mgt with nvmStopped := false
                                 sWdt := some (s.now + 1000000 * s.r mdId (.mgt .WDT_CFG_s_timeout_ms))
                                 nsWdt := some (s.now + 1000000 * s.r mdId (.mgt .WDT_CFG_ns_timeout_ms)) }
  let s := (s.w mdId (.mgt .MODE_previous) prev).w mdId (.mgt .MODE_current) 1
  (s.logMgt 0x310 [prev, 1, if prev = 0 then 8 else 4]).w mdId (.rst .DIE_STATE_dies) 0x01111111

/-- The bit of a source in RST.CAUSE (R616), and the level at which it acts: fused, or the production level (R614). -/
def State.cause (s : State) (n : Nat) : State := s.wbit mdId (.rst .CAUSE_sources) n true
def State.level (s : State) (n : Nat) : Nat :=
  let v := s.r mdId (.rst .SRC_MAP_level) / 4 ^ n % 4
  match n with
  | 0 | 1 => 0
  | 2 => if v ≤ 1 then v else 1
  | 5 => 2
  | 6 => 3
  | 7 => if 2 ≤ v then v else 3
  | 8 => if 2 ≤ v then v else 2
  | _ => 1

/-- Rails that are enabled go off in reverse order (R625, R633). -/
def State.railsOff (s : State) : State :=
  let on := s.r mdId (.pwr .STATUS_enabled)
  let s := foldS (fun (s : State) k => if on.testBit (4 - k) then s.emit (.pin ("PWR_EN" ++ toString (4 - k)) false) else s) s (List.range 5)
  (s.w mdId (.pwr .STATUS_enabled) 0).w mdId (.pwr .STATUS_pgood) 0

/-- A PACKAGE reset (R613, R617): bays stop, the package is cleared, and the release order goes on from step 3 after its gap, or
when the source ends. -/
def State.packageReset (s : State) (hold : Bool := false) : State :=
  let prev := s.modeNow
  let seq := between 1 (s.r mdId (.pwr .STATUS_seq_step)) 6
  let s := (s.bayStop.dropClaim).wipe false
  let s := if seq then s.railsOff else s
  -- Stacks that no release has initialised since COLD still need it.
  let cold := s.rst.cold
  let s := { s with rst := { phase := 2, held := hold, cold := cold, at_ := s.now, prev := prev } }
  if hold then s else (s.advance (s.now + 10240)).superviseStart prev

/-- A COLD reset by a source (R613, R616): `hold` while RESET_N is low. -/
def State.coldReset (s : State) (source : Nat) (hold : Bool := false) : State :=
  let s := (s.bayStop.dropClaim.railsOff).wipe true
  let s := { s with rst := { phase := 0, held := hold, cold := true } }
  s.w mdId (.rst .CAUSE_sources) (2 ^ source)

/-- A source of PACKAGE level (R615): held in Flush unless it is the Flush exit; a trigger that goes before it in the same step
leaves it latched (spec/02 R32). -/
def State.packageSource (s : State) (source : Nat) (hold : Bool := false) : State :=
  let s := s.cause source
  if s.modeNow = 8 && source ≠ 3 then
    { s with rst := { s.rst with waiting := if s.rst.waiting.contains source then s.rst.waiting else s.rst.waiting ++ [source] } }
  else if s.mode.trigs.any (fun t => t.code = 1 || t.code = 2 || t.code = 3) then s.trig 4
  else s.packageReset hold

/-! ### Failure of a channel die (spec/02 R50, R51) -/

/-- A Failed channel die holds no connection context (spec/08 R240). -/
def State.dropContexts (s : State) (d : Nat) : State :=
  let s := { s with rdx := { s.rdx with
    conns := s.rdx.conns.map (fun (e : (Nat × Nat) × Conn) => if e.1.1 = d then (e.1, { gen := e.2.gen }) else e)
    chains := s.rdx.chains.filter (fun (e : (Nat × Nat) × Chain) => e.1.1 ≠ d) }
                    swx := { s.swx with connHost := s.swx.connHost.filter (fun (e : Nat × Nat) => e.1 / 2 ^ 21 + 1 ≠ d) } }
  let c := s.cd d
  (s.setCd d { c with queues := [], ctrls := [] }).rdxStatus d

/-- A channel fails without draining: its commands in flight complete as unavailable, it is Failed, and a Mirrored Active that
holds dirty data on it asks for a handover; in any other case its return defers the marked regions (R51). -/
def State.channelFails (s : State) (d : Nat) : State :=
  if s.chanFailed d then s else
    let dirty := (s.sp d).index.filter (·.dirty)
    let mirrored := s.mirrored d
    let s := foldS (fun (s : State) (z : Nat × CmdSlot) =>
      if between 1 z.2.state 4 && !(z.2.admin && z.2.cap.opcode = 0x0C) then s.completeWith d z.1 stUnavailable else s) s (s.cd d).slots
    let s := s.dropContexts d
    let s := if s.modeNow = 8 then s.flushStop d else s
    let s := (s.w d (.grp .STATUS_chan_state) 5).w d (.grp .STATUS_recovering) 0
    let s := s.logEv mdId 0x25 .channelFailed [d]
    let s := { s with mode := { s.mode with chanRecover := s.mode.chanRecover.filter (fun (e : Nat × Nat) => e.1 ≠ d)
                                            chanDrain := s.mode.chanDrain.filter (fun (e : Nat × Nat) => e.1 ≠ d) } }
    let s := foldS (fun (s : State) c => s.nsmShow (cdId c)) s (s.cds.filter (fun c => s.cdUp (cdId c)))
    let ask := mirrored && (s.img.active.getD {}).pkg.flags.testBit 0 && !dirty.isEmpty
    let s := if ask && s.handoverOk then s.handoverAsk false else s
    let s := if dirty.isEmpty then s
      else
        let es := dirty.map (·.e)
        { s with mode := { s.mode with lostDirty := alPut s.mode.lostDirty d (es.foldl min (es.headD 0), es.foldl max 0) } }
    let s := if s.modeNow = 5 then s.mirrorShow else s
    let s := if (s.modeNow = 9 || s.modeNow = 7) && s.allReplayed then s.trig 8 else s
    s.flushEnds

/-- A die is held out and Failed (R619, R623, R629, R405, spec/03 R68): in reset, held out, bypassed. -/
def State.dieFails (s : State) (d : Nat) : State :=
  let s := s.channelFails d
  let s := (s.setDie d (7 + s.dieBits d / 8 * 8)).ev mdId (.rst .EVENTS_cd_held_out)
  let s := s.logEv mdId 0x07 .cdHeldOut [d]
  { s with rst := { s.rst with active := s.rst.active.filter (fun (e : Nat × Nat × Nat) => e.1 ≠ d), stackInit := s.rst.stackInit.filter (· ≠ d)
                               wdt := alDel s.rst.wdt d } }

/-! ### Release of a die (R617, R618) -/

/-- The known-answer test of a die's cipher engine (spec/14 R405): a channel die that fails it is held out; the port die's failure
is a fatal error. -/
def State.cipherKat (s : State) (d : Nat) (ok : Bool) : State :=
  let s := s.wb d (.cip .STATUS_kat_pass) ok
  if ok then s else
    let s := s.ev d (.cip .EVENTS_kat_fail)
    if d = 0 then s.fatal else s.dieFails d

/-- The endpoint's ready functions take their connections on a die (spec/18 R512, R515). -/
def State.epJoin (s : State) (d : Nat) : State :=
  foldS (fun (s : State) f =>
    if s.rb 0 (.epf .F_STATE_rdy) f && !s.ep.stopped.contains f && (s.ctrl d (0x7000 + f)).isNone then
      let host := s.r 0 (.epf .F_CFG_host_id) f
      let s := s.setCtrl d (0x7000 + f) { host := host }
      let y := s.cd d
      s.setCd d { y with queues := y.queues ++ (s.ep.sqs.filter (fun q => q.fn = f)).map (fun q => ⟨epConn d f q.qid, host, q.qid, q.size, 0⟩) }
    else s) s (List.range (s.r 0 (.epf .STATUS_num_vfs) + 1))

/-- A channel die's engines run: its watchdog starts, it takes TS64 from time distribution, never below what it showed (R53, R618);
its seated bays are discovered. -/
def State.dieRuns (s : State) (d : Nat) (kat : Bool) : State :=
  let s := s.setDie d (s.dieBits d / 8 * 8)
  let s := if s.tsSet 0 then
      let v := max (s.ts64 0) (s.ts64 d)
      s.setDieTime d { s.dieTime d with set := true, val := v, anchor := s.now, slew := 0, hold := 0 }
    else s
  let s := { s with rst := { s.rst with stackInit := s.rst.stackInit.filter (· ≠ d), active := s.rst.active.filter (fun (e : Nat × Nat × Nat) => e.1 ≠ d)
                                        wdt := alPut s.rst.wdt d (s.now + 1000000 * s.r d (.rst .WDT_CFG_timeout_ms)) } }
  let s := if s.chanFailed d then s else s.w d (.grp .STATUS_chan_state) (if s.r d (.grp .STATUS_chan_state) = 7 then 0 else s.r d (.grp .STATUS_chan_state))
  let s := s.w d (.clk .STATUS_pll_lock) 1
  let s := (s.w mdId (.pwr .D_SLACK_stretches) 0 d)
  let s := { s with rst := { s.rst with nHi := alDel s.rst.nHi d, avsBad := alDel s.rst.avsBad d, stretched := alDel s.rst.stretched d } }
  let s := foldS (fun (s : State) b =>
    let n := shelfBay d b
    if s.rb mdId (.bay .B_STATE_seated) n then
      let s := (s.wbit d (.drv .STATUS_present) b true).bayState d b 1
      if s.rb mdId (.bay .B_STATE_pg) n then s.setDrive d b { s.drive d b with deadline := s.now + 100000000 } else s
    else s) s (List.range 8)
  (((s.epJoin d).ceilingShow d).crumbShow d).cipherKat d kat

/-- A die that comes back from a DIE or CHANNEL reset replays what its stack kept; until then its gate answers Channel recovering
(R618, spec/02 R49, spec/08 R241, spec/16 R476). -/
def State.dieBack (s : State) (d : Nat) (kat : Bool) : State :=
  let s := if s.chanFailed d then s else (s.w d (.grp .STATUS_recovering) 1).w d (.cmd .GATE_refuse) 2
  let s := s.dieRuns d kat
  if s.chanFailed d then s else
    let s := s.wb d (.drv .STATUS_write_gate) (s.workRuns && s.rb mdId (.pair .STATUS_claim_granted))
    (if s.modeNow = 5 then s.mirrorShow else s).nsmShow d

/-! ### DIE and CHANNEL resets (R615, R618, R619) -/

/-- Resets by sources 7 and 8 in the last 60 s of uptime, as RST.CD_RESETS counts them (R619). -/
def State.cdResets (s : State) (d : Nat) : Nat :=
  (s.rst.resets.filter (fun (e : Nat × Nat) => e.1 = d && decide (s.now < e.2 + 60000000000))).length

/-- A DIE (2) or CHANNEL (3) reset of a die begins; one by source 7 or 8 counts, and the third within 60 s holds the die out. -/
def State.resetBegins (s : State) (d level source : Nat) : State :=
  let counts := source = 7 || source = 8
  let s := if counts then
      let s := { s with rst := { s.rst with resets := s.rst.resets.filter (fun (e : Nat × Nat) => decide (s.now < e.2 + 60000000000)) ++ [(d, s.now)] } }
      let n := min 15 (s.cdResets d)
      let v := s.r mdId (.rst .CD_RESETS_count)
      s.w mdId (.rst .CD_RESETS_count) (v - v / 16 ^ (d - 1) % 16 * 16 ^ (d - 1) + n * 16 ^ (d - 1))
    else s
  if counts && decide (3 ≤ s.cdResets d) then s.dieFails d
  else
    let s := if s.modeNow = 8 then s.flushStop d else s
    let s := s.engineClear d (level = 2)
    let s := s.setDie d (if level = 2 then 5 else s.dieBits d / 8 * 8 + 1)
    let s := if level = 2 then s.setProof d 0 else s
    let s := { s with rst := { s.rst with active := s.rst.active.filter (fun (e : Nat × Nat × Nat) => e.1 ≠ d) ++ [(d, level, s.now)], wdt := alDel s.rst.wdt d
                                          stackInit := s.rst.stackInit.filter (· ≠ d) }
                      mode := { s.mode with chanRecover := s.mode.chanRecover.filter (fun (e : Nat × Nat) => e.1 ≠ d) ++
                        [(d, s.now + 1000000 * (s.img.active.getD {}).pkg.chanRecoveryMs)] } }
    let s := s.ev mdId (if level = 2 then .rst .EVENTS_die_reset else .rst .EVENTS_channel_reset)
    (if s.modeNow = 5 then s.mirrorShow else s).flushEnds

/-- A source acts on a die (R615): one already in a reset as wide absorbs it. -/
def State.dieSource (s : State) (d source : Nat) : State :=
  let s := s.cause source
  let level := s.level source
  -- A die whose engines have not been released is in reset already, or held out.
  if !s.rst.freed.contains d ∨ s.rst.stackInit.contains d ∨ (s.dieBits d).testBit 1 then s else
  match s.rst.active.find? (fun e => e.1 = d) with
  | some (_, l, _) => if l ≤ level then s else s.resetBegins d level source
  | none => s.resetBegins d level source

end Sys2Proof.Machine
end

