-- ==== Sys2Proof/Machine/Modes.lean ====
section
/-! DEFINITION. The mode controller, its commands and limits, and the disabling of a channel (spec/02, spec/19 R538, rows
MODE_TRIGGER_EVALUATE to CHANNEL_FAIL). -/

set_option Elab.async false

namespace Sys2Proof.Machine

/-! ### What a transition needs (R31, R45) -/

/-- Recovery data is present: Crumbs of the flush areas or of the preserved Sponge, newer than the last completed replay (R31, R41). -/
def State.recoveryData (s : State) : Bool :=
  (s.cds.map cdId).any (fun d =>
    let x := s.fl d
    s.cdUp d && !s.chanFailed d && x.started && !x.replayed && (match s.r d (.fls .REPLAY_STATUS_source) with
      | 1 => (s.sp d).ring.any (fun r => decide (x.lastReplay < r.c.seq))
      | 2 => true
      | _ => false))

/-- Acknowledged data that has not been destaged is held (R31). -/
def State.dirtyHeld (s : State) : Bool := (s.cds.map cdId).any (fun d => (s.sp d).index.any (·.dirty))

/-- Leases are held on a strict majority and the claim is granted (R39, spec/15 R441). -/
def State.mayServe (s : State) : Bool := s.rb mdId (.pair .STATUS_majority) && s.rb mdId (.pair .STATUS_claim_granted)
def State.serveMode (s : State) : Nat := if s.recoveryData then 9 else 5

/-- *Mode transitions* (R31) with *Modes by role* (R45): where a latched trigger leads from the present mode; none where no row
applies now. -/
def State.target (s : State) (t : Trig) : Option Nat :=
  let m := s.modeNow
  let yes (b : Bool) (n : Nat) : Option Nat := if b then some n else none
  match t.code with
  | 0x1 => some 0
  | 0x2 => yes (m ≠ 0 && m ≠ 0xB) 0xB
  | 0x3 => yes (m = 5 || m = 6 || m = 7 || m = 9 || (m = 0xB && s.dirtyHeld && !s.mode.tampered && !s.testStrap)) 8
  | 0x4 => yes (m ≠ 0) 1
  | 0x5 | 0x6 => yes (m ≠ 0 && m ≠ 8 && m ≠ 0xB) 0xB
  | 0x7 => yes ((m = 5 || m = 9) && s.paired) 4
  | 0x8 =>
    if t.cause ≠ 0 then yes (m ≠ 0 && m ≠ 8) 0xB else
    match m with
    | 1 => some 2
    | 2 => some 3
    | 3 => if s.testStrap then yes s.mode.workDone 0xA else if s.paired then yes s.mode.workDone 4 else yes s.mayServe s.serveMode
    | 4 => if s.mayServe && s.pair.fenceDone then some s.serveMode
           else yes (s.pair.paired && s.rbit mdId (.pair .PARTNER_STATE_flags) 4) 6
    | 7 => yes (s.pair.fenceDone && s.allReplayed) 5
    | 8 => yes (s.rb mdId (.fls .STATUS_flush_done) && !s.rb mdId (.fls .STATUS_warning)) 1
    | 9 => yes s.allReplayed 5
    | _ => none
  | 0x9 => match m with
    | 5 => some 0xA
    | 6 => some 0xA
    | 0xA => if s.mode.fromTest then none else if s.paired then some 4 else yes s.mayServe 5
    | _ => none
  | 0xA => yes (m = 6) 7
  | 0xB => yes (m = 7) 6
  | 0xC => yes (m = 6) 7
  | 0xD => yes (m = 5 && s.paired) 6
  | 0xE => yes (m = 6) 4
  | _ => none

/-- The place of a trigger in the list of R32. -/
def trigClass (code : Nat) : Nat := match code with
  | 0x1 => 1
  | 0x2 => 2
  | 0x3 => 3
  | 0x4 => 4
  | 0x5 | 0x6 => 5
  | 0x7 | 0xA | 0xB => 6
  | 0x9 => 8
  | _ => 7

/-- The latched trigger that is taken, with its target. -/
def State.firstTrig (s : State) : Option (Trig × Nat) :=
  (sortKey (fun (t : Trig) => trigClass t.code) s.mode.trigs).findSome? (fun t => (s.target t).map (fun m => (t, m)))

/-! ### Leaving a mode -/

/-- Gates that hold 3 return to 0 (spec/08 R241). -/
def State.gatesBack (s : State) : State :=
  foldS (fun (s : State) c =>
    let d := cdId c
    if s.cdUp d && s.r d (.cmd .GATE_refuse) = 3 then (s.w d (.cmd .GATE_refuse) 0).nsmShow d else s) s s.cds

/-- What leaving a mode does. -/
def State.leaveMode (s : State) (new : Nat) : State :=
  match s.modeNow with
  | 5 =>
    let s := { s with mode := { s.mode with drain := none, withdrawn := true } }
    let s := if new = 0xA then s.epAbsent else s.epAbsent.gatesBack
    let s := (s.setPair { s.pair with lossStage := 0, renewed := [] }).w mdId (.pair .STATUS_mirror) 0
    (if s.rb mdId (.pair .STATUS_seeding) then s.seedOff else s).mirrorShow
  | 6 => foldS (fun (s : State) c => (s.w (cdId c) (.grp .STATUS_standby_view) 0).chanShow (cdId c)) s s.cds
  | 0xA => s.gatesBack.w mdId (.pwr .LOOP_CFG2_hold) 0
  | _ => s

/-- The mode registers and the record of a transition (R29). -/
def State.modeRegs (s : State) (new code : Nat) : State :=
  let prev := s.modeNow
  let s := (s.w mdId (.mgt .MODE_previous) prev).w mdId (.mgt .MODE_current) new
  let s := s.w mdId (.mgt .MODE_TS) (if s.tsSet mdId then s.ts64 mdId else 0)
  let s := { s with mode := { s.mode with entered := s.now } }
  let s := s.logMgt 0x310 [prev, new, code]
  -- Work that the mode pauses or lets run (R48).
  let s := foldS (fun (s : State) (e : (Nat × Nat) × Group) => s.setGrp e.1.1 e.1.2 e.2) s s.grp.groups
  foldS (fun (s : State) (e : (Nat × Nat) × Reshape) => s.setRsh e.1.1 e.1.2 e.2) s s.rsh.groups

/-! ### Entering a mode -/

/-- First entry to Active, Standby or Maintenance of a boot (spec/19 R548), and a switch that the epoch missed (spec/04 R105). -/
def State.serves (s : State) : State :=
  let s := if s.mode.served then s else s.fwConfirm
  ({ s with mode := { s.mode with served := true } } : State).lateSwitch

/-- The NQN's mac: that of the lowest logical port with the data flag (spec/09 R256). -/
def nqnPort (l : List PortEntry) : Option Nat :=
  ((sortKey (fun (e : PortEntry) => e.port) (l.filter (fun e => e.flags.testBit 0 && e.flags.testBit 2))).head?).map (·.mac)

/-- Entry to Bring-up: gates (R40), the image's sections (spec/04 R84), the board's values (spec/19 R542), lanes and links. -/
def State.enterBringup (s : State) (held : Nat) : State :=
  let s := { s with mode := { s.mode with bringupAt := s.now, workDone := false, gateWaitOver := false }
                    rst := { s.rst with phase := 7, at_ := s.now } }
  let m := s.img.active.getD {}
  let s := match s.mgt.running with
    | some f => s.boardLoad f.board
    | none => s
  let s := ((s.loadTables {} m false).loadEndpoint m.endpoints).commitSchedule
  let s := { s with cmd := { s.cmd with nqnMac := nqnPort m.ports } }
  let s := foldS (fun (s : State) c =>
    let d := cdId c
    if s.chanFailed d then s else s.w d (.grp .STATUS_chan_state) (if m.pkg.channelEnable.testBit c then 0 else 5)) s s.cds
  ((s.bayStart held).lanesFollow).epTrain

/-- Entry to Pairing (R35, spec/15 R427). -/
def State.enterPairing (s : State) : State :=
  let s := s.claimGone.pairFresh
  let s := { s with mode := { s.mode with pairWaitOver := false } }
  let s := s.setPair { s.pair with ho := 0, hoMaint := false, streamLost := false, seeded := false }
  let s := if s.pair.seen && s.pair.refusal ≠ 7 then s.pairCompare false else s
  let s := s.w mdId (.pair .STATUS_reason) s.pairReason
  s.lateSwitch

/-- Entry to Active (R38, spec/05 R128, spec/08 R244, R246, spec/09 R263, spec/15 R448, R449). -/
def State.enterActive (s : State) (prev : Nat) : State :=
  let s := s.openGates
  let s := { s with mode := { s.mode with withdrawn := false } }
  let s := (s.w mdId (.pair .STATUS_mirror) (if s.paired then 2 else 0)).mirrorShow
  let s := if prev = 7 then
      let s := (s.ev mdId (.pair .EVENTS_takeover_done)).pairBump mdId 6
      foldS (fun (s : State) c =>
        let d := cdId c
        let x := s.cd d
        let hold := 1000000000 * s.r d (.cmd .CFG_resume_hold_s)
        s.setCd d { x with tokens := x.tokens.map (fun (t : Token) => { t with holdFrom := some s.now, holdNs := hold }) }) s s.cds
    else s
  let s := if prev = 7 || prev = 9 then
      foldS (fun (s : State) c =>
        let d := cdId c
        let x := s.cd d
        -- After a takeover the hold of its tokens runs with it, whatever the filter holds.
        if prev = 9 && x.filter.isEmpty then s else
          s.setCd d { x with filterUntil := some (s.now + 1000000000 * s.r d (.cmd .CFG_resume_hold_s)) }) s s.cds
    else s
  let s := foldS (fun (s : State) c => s.setFl (cdId c) { s.fl (cdId c) with replayed := true }) s (s.cds.filter (fun c => (s.fl (cdId c)).started))
  let handed := s.pair.ho = 4
  let s := if handed then s.sendControl 0x09 else s
  let s := s.setPair { s.pair with ho := if handed then 5 else 0 }
  let s := s.anaRise (max s.cmd.anaCount s.cmd.anaPartner + 1)
  let s := foldS (fun (s : State) c => if s.cdUp (cdId c) then s.nsmShow (cdId c) else s) s s.cds
  s.gainPresence.epPresent.serves

/-- Entry to Standby (R48, spec/15 R437, R452): what the package held it lets go, and it watches the partner's leases anew. -/
def State.enterStandby (s : State) (prev : Nat) : State :=
  let s := if prev = 5 then s.dropClaim.closeGates else s.leaseRelease
  let maint := s.pair.hoMaint && prev = 5
  let s := s.setPair { s.pair with
    lapseRaised := false, ho := 0, hoMaint := false, streamLost := false, fenceDone := false, acquireSince := none
    leases := s.pair.leases.map (fun (e : (Nat × Nat) × LeaseRec) => (e.1, { e.2 with acquired := false, y := none, read := false, free := false })) }
  let s := { s with spg := { s.spg with mirrorLost := false } }
  -- After a handover the partner serves what a failed channel held (R51).
  let s := if prev = 5 then { s with mode := { s.mode with lostDirty := [] } } else s
  let s := foldS (fun (s : State) c => s.w (cdId c) (.grp .STATUS_standby_view) 1) (s.w mdId (.pair .STATUS_reason) s.pairReason) s.cds
  let s := s.gateOfferAll.serves
  if maint then s.trig 9 else s

/-- Entry to Takeover (spec/15 R446): Shadow contexts become Free, generations kept; acquisition starts afresh. -/
def State.enterTakeover (s : State) : State :=
  let s := { s with rdx := { s.rdx with
    conns := s.rdx.conns.map (fun (e : (Nat × Nat) × Conn) => if e.2.state = 5 then (e.1, { gen := e.2.gen }) else e) } }
  let s := foldS (fun (s : State) c =>
    let d := cdId c
    let s := s.rdxStatus d
    s.setFl d { s.fl d with started := false, replayed := false }) s s.cds
  s.pairFresh

/-- Entry to Replay: the write gates open, and every channel that has a source replays. -/
def State.enterReplay (s : State) : State :=
  foldS (fun (s : State) c =>
    let d := cdId c
    if s.cdUp d && s.r d (.fls .REPLAY_STATUS_source) ≠ 0 && !(s.fl d).replayed then s.w d (.fls .REPLAY_STATUS_running) 1 else s) s.openGates s.cds

/-- Entry to Maintenance (R36, R37): the data path is fenced; a paired package lets its leases, its claim and its gates go. -/
def State.enterMaintenance (s : State) (prev : Nat) : State :=
  let s := { s with mode := { s.mode with fromTest := s.testStrap, drain := none } }
  let s := s.setPair { s.pair with hoMaint := false, ho := 0 }
  let s := if s.paired then s.leaseRelease.gateOfferAll else s.closeGates
  if prev = 3 then s.lateSwitch else s.serves

/-- Entry to Quarantine (R43, R44, spec/17 R501). -/
def State.enterQuarantine (s : State) (cause : Nat) : State :=
  let s := (s.w mdId (.mgt .QCAUSE_code) cause).logMgt 0x313 [cause]
  let s := { s with mode := { s.mode with rootsHeld := false, drain := none } }
  let s := s.leaseRelease
  let s := foldS (fun (s : State) p => if s.link p ≠ 0 then s.leaveUp p 0 false else s) s (List.range 32)
  s.lanesFollow.bayQuarantine

/-- A transition to a mode other than Off and Supervise: the old mode is left, the registers and the record are written, and the
new mode's entry acts. -/
def State.modeTo (s : State) (new : Nat) (t : Trig) (held : Nat) : State :=
  let prev := s.modeNow
  let s := (s.leaveMode new).modeRegs new t.code
  match new with
  | 2 => { s with rst := { s.rst with phase := 6, at_ := s.now } }
  | 3 => s.enterBringup held
  | 4 => s.enterPairing
  | 5 => s.enterActive prev
  | 6 => s.enterStandby prev
  | 7 => s.enterTakeover
  | 8 => s.flushEntry
  | 9 => s.enterReplay
  | 0xA => s.enterMaintenance prev
  | _ => s.enterQuarantine t.cause

/-- Latched triggers that have no row for the new mode are discarded, each with its record (R32). -/
def State.sweepTrigs (s : State) : State :=
  let old := s.mode.trigs
  let m := s.modeNow
  let s := { s with mode := { s.mode with trigs := old.filter (fun (t : Trig) => modeHasRow m t.code) } }
  foldS (fun (s : State) (t : Trig) => s.discardTrig t.code) s (old.filter (fun (t : Trig) => !modeHasRow m t.code))

/-- MODE_TRIGGER_EVALUATE (R32): the first trigger that applies is taken; `held` is the held-gate sense of the bays. -/
def execModeTriggerEvaluate (held : BitVec 48) (s : State) : Out :=
  let m := s.modeNow
  -- The row that leaves the mode unchanged on a power warning.
  let quiet := m = 1 || m = 2 || m = 3 || m = 4 || m = 0xA
  let s := if quiet then { s with mode := { s.mode with trigs := s.mode.trigs.filter (fun (t : Trig) => t.code ≠ 3) } } else s
  match s.firstTrig with
  | none => .next s
  | some (t, new) =>
    let s := { s with mode := { s.mode with trigs := s.mode.trigs.filter (fun (y : Trig) => y ≠ t) } }
    if new = 0 then .next (s.coldReset 1)
    else if new = 1 then .next ((if m = 8 && t.code = 8 then s.cause 3 else s).packageReset)
    else .next ((s.modeTo new t held.toNat).sweepTrigs)

/-! ### Limits and ends of work (R34-R36, R40, R43) -/

/-- QUARANTINE_ROOT_PORT_HOLD (R43): every release write has ended, or 100 ms have passed since entry. -/
def execQuarantineRootPortHold (s : State) : Out :=
  if s.modeNow ≠ 0xB ∨ s.mode.rootsHeld then .next s else
  let past := s.pair.leases.all (fun e => e.2.flights.isEmpty)
  let s := if past then s else s.advance (s.mode.entered + 100000000)
  .next { s with mode := { s.mode with rootsHeld := true } }

/-- MODE_TIME_LIMIT_EXPIRY (R34). -/
def execModeTimeLimitExpiry (s : State) : Out :=
  let limit := match s.modeNow with
    | 1 => some 200000000
    | 2 => some 5000000000
    | 3 => if s.mode.workDone then none else some (1000000 * (s.img.active.getD {}).pkg.bringupMs)
    | _ => none
  match limit with
  | none => .next s
  | some n => .next ((s.advance (s.mode.entered + n)).trig 6 0xA)

/-- BRINGUP_WORK_COMPLETE (R34): every domain is released, and every channel die has read its bands or is Failed. -/
def execBringupWorkComplete (s : State) : Out :=
  let up (d : Nat) : Bool := s.r mdId (.rst .DIE_STATE_dies) / 16 ^ d % 4 = 0
  let past := s.cds.all (fun c => s.chanFailed (cdId c) || (s.cdUp (cdId c) && (s.fl (cdId c)).started))
  if s.modeNow ≠ 3 ∨ s.mode.workDone ∨ !up 0 ∨ !past then .next s else
  let s := { s with mode := { s.mode with workDone := true } }
  let s := s.w mdId (.pair .STATUS_reason) s.pairReason
  .next (if s.testStrap || s.paired || s.mayServe then s.trig 8 else s)

/-- Commands in flight on a die, past admission and without an outcome. -/
def State.busySlots (s : State) (d : Nat) : Bool :=
  (s.cd d).slots.any (fun z => z.2.state ≠ 6 && !(z.2.cap.opcode = 0x0C && z.2.admin))
def State.undrained (s : State) (d : Nat) : Bool := s.busySlots d || (s.sp d).index.any (·.dirty)
/-- Commands still in flight are aborted (spec/08 R239). -/
def State.abortAll (s : State) (d : Nat) : State :=
  foldS (fun (s : State) (z : Nat × CmdSlot) => if z.2.cap.opcode = 0x0C && z.2.admin then s else (s.abortSlot d z.1).1) s (s.cd d).slots

/-- MAINTENANCE_DRAIN_LIMIT_EXPIRY (R34, R36 step 2). -/
def execMaintenanceDrainLimitExpiry (s : State) : Out :=
  match s.mode.drain with
  | none => .next s
  | some t => .next (foldS (fun (s : State) c => if s.cdUp (cdId c) then s.abortAll (cdId c) else s) (s.advance t) s.cds)

/-- MAINTENANCE_DRAIN_COMPLETE (R36): no command is in flight and no data is dirty. -/
def execMaintenanceDrainComplete (s : State) : Out :=
  if s.modeNow ≠ 5 ∨ s.mode.drain.isNone ∨ s.pair.ho ≠ 0 then .next s
  else if (s.cds.map cdId).any (fun d => s.cdUp d && !s.chanFailed d && s.undrained d) then .next s
  else .next (s.trig 9)

/-- A refused command of the mode controller (R28, spec/19 R538). -/
def State.modeRefused (s : State) (new : Nat) : State := (s.w mdId (.mgt .MODE_cmd_result) 2).logMgt 0x311 [new]

/-- MODE_CMD_ENTER_MAINTENANCE (spec/19 R538, R36, R37, spec/15 R449): MGT.MODE_CMD op 1. -/
def execModeCmdEnterMaintenance (q : Req) (s : State) : Out :=
  .next (s.secureOnly q mdId (.mgt .MODE_CMD_op)
    (match s.modeNow with
     | 5 =>
       let s := s.w mdId (.mgt .MODE_cmd_result) 1
       if s.mode.drain.isSome || s.pair.hoMaint then s else if s.handoverOk then s.handoverAsk true else s.drainStart
     | 6 => (s.w mdId (.mgt .MODE_cmd_result) 1).trig 9
     | _ => s.modeRefused 0xA))

/-- MODE_CMD_RELEASE_MAINTENANCE (spec/19 R538): MGT.MODE_CMD op 2. -/
def execModeCmdReleaseMaintenance (q : Req) (s : State) : Out :=
  .next (s.secureOnly q mdId (.mgt .MODE_CMD_op)
    (if s.modeNow = 0xA && (s.target ⟨9, 0⟩).isSome then (s.w mdId (.mgt .MODE_cmd_result) 1).trig 9
     else s.modeRefused (if s.paired then 4 else 5)))

/-- PAIR_B_GATE_WAIT_EXPIRY (R40): 2 s after entry to Bring-up. -/
def execPairBGateWaitExpiry (held : BitVec 48) (s : State) : Out :=
  if s.modeNow < 3 ∨ s.role ≠ 2 ∨ s.mode.gateWaitOver then .next s else
  let s := s.advance (s.mode.bringupAt + 2000000000)
  .next (({ s with mode := { s.mode with gateWaitOver := true } } : State).gateWatch held.toNat)

/-- PAIRING_WAIT_EXPIRY (R35). -/
def execPairingWaitExpiry (s : State) : Out :=
  if s.modeNow ≠ 4 ∨ (s.pair.seen ∧ s.pair.refusal ≠ 2) ∨ s.mode.pairWaitOver then .next s else
  let s := s.advance (s.mode.entered + 1000000 * (s.img.active.getD {}).pkg.pairingWaitMs)
  .next { s with mode := { s.mode with pairWaitOver := true } }

/-! ### Channels (R49, R50) -/

/-- CHANNEL_RECOVERY_LIMIT_EXPIRY (R49): a die still in reset at the limit is Failed. -/
def execChannelRecoveryLimitExpiry (c : Cd) (s : State) : Out :=
  let d := cdId c
  match alGet s.mode.chanRecover d with
  | none => .next s
  | some t =>
    let s := s.advance t
    .next (if s.cdUp d then s else s.channelFails d)

/-- CHANNEL_DISABLE_COMMAND (R50): a command of the secure world. -/
def execChannelDisableCommand (c : Cd) (s : State) : Out :=
  .next (if 3 ≤ s.modeNow ∧ c.val < s.channels then s.disableChannel (cdId c) else s)

/-- CHANNEL_DISABLE_DRAIN_COMPLETE (R50 steps 3 and 4): the superblocks are written and the channel is Failed. -/
def execChannelDisableDrainComplete (c : Cd) (s : State) : Out :=
  let d := cdId c
  if !s.mode.chanDrain.any (fun e => e.1 = d) ∨ (s.cdUp d && s.undrained d) then .next s else
  let s := if s.cdUp d then
      foldS (fun (s : State) (e : Nat × Group) => foldS (fun (s : State) p =>
        match e.2.serving.getD p none with
        | some b => if e.2.present p then s.writeSb d b 1 e.1 p else s
        | none => s) s (List.range e.2.n)) s (s.dieGroups d)
    else s
  .next (s.channelFails d)

/-- CHANNEL_DISABLE_DRAIN_LIMIT_EXPIRY (R50 step 2, spec/08 R239). -/
def execChannelDisableDrainLimitExpiry (c : Cd) (s : State) : Out :=
  let d := cdId c
  match alGet s.mode.chanDrain d with
  | none => .next s
  | some t => .next (if s.cdUp d then (s.advance t).abortAll d else s.advance t)

/-- CHANNEL_FAIL (R50): a die fails without draining. -/
def execChannelFail (c : Cd) (s : State) : Out :=
  let d := cdId c
  if s.modeNow < 3 ∨ !s.cdUp d then .next s else
  let s := s.channelFails d
  let s := s.setDie d (s.dieBits d ||| 7)
  .next { s with rst := { s.rst with wdt := alDel s.rst.wdt d } }

end Sys2Proof.Machine
end

