-- ==== Sys2Proof/Machine/Resets.lean ====
section
/-! DEFINITION. The meanings of the commands of reset, clocks and supplies (spec/23). -/

set_option Elab.async false

namespace Sys2Proof.Machine

/-! ### The release order (R617, R618) -/

/-- POWER_ON_RELEASE (R617): the standby rails have been good for the power-on delay; uptime starts. -/
def execPowerOnRelease (s : State) : Out :=
  if s.rst.phase ≠ 0 ∨ s.rst.held then .next s else .next { s with now := 0, rst := { s.rst with phase := 1, at_ := 0 } }

/-- CLK.PPM of an input, in 0.1 ppm; an input is valid within ±1,000 ppm (R623). -/
def ppmOk (v : BitVec 16) : Bool := decide (-10000 ≤ ofSigned 16 v.toNat) && decide (ofSigned 16 v.toNat ≤ 10000)
def State.ppm (s : State) (d i : Nat) (v : BitVec 16) : State := (s.w d (.clk .PPM_valid) 1 i).w d (.clk .PPM_offset) v.toNat i

/-- CRYSTAL_VALID (R617 step 2): within ±1,000 ppm, or not valid within 20 ms, which leaves the internal oscillator and ends in
Quarantine with cause 0x02. -/
def execCrystalValid (ppm : Option (BitVec 16)) (s : State) : Out :=
  if s.rst.phase ≠ 1 then .next s else
  match ppm with
  | some v =>
    if ppmOk v then .next (({ s with rst := { s.rst with phase := 2, at_ := s.now } } : State).ppm mdId 0 v |>.w mdId (.clk .STATUS_xtal_ok) 1)
    else .next s
  | none =>
    let s := (s.advance (s.rst.at_ + 20000000)).superviseStart 0
    .next (({ s with rst := { s.rst with xtalOut := true } } : State).trig 8 2)

/-- FUSE_LOAD_COMPLETE (R617 step 3): 4,096 cycles of the load and a gap of 256 cycles, of 40 ns each. -/
def execFuseLoadComplete (s : State) : Out :=
  if s.rst.phase ≠ 2 ∨ s.rst.held ∨ !s.rst.cold then .next s else
  .next (((s.advance (s.rst.at_ + 174080)).superviseStart 0).fwShow)

/-- A strap sample: the ratio in 1/4,096, within ±0.022 of a code's centre (R620). -/
def strapCode (r : BitVec 12) : Option Nat :=
  let v := r.toNat
  let n := v / 256
  let c := 256 * n + 128
  if (if v < c then c - v else v - c) ≤ 90 then some n else none

/-- What a code sets (*Strap codes*). -/
def State.strapSet (s : State) (n : Nat) : State :=
  let role := if n = 13 then 3 else (n - 1) % 6 / 2
  let s := ((s.w mdId (.rst .STRAP_valid) 1).w mdId (.rst .STRAP_role) role).w mdId (.rst .STRAP_code) n
  let s := s.wb mdId (.rst .STRAP_boot_device) (n % 2 = 0)
  (s.wb mdId (.rst .STRAP_recovery) (between 7 n 12)).wb mdId (.rst .STRAP_mfg_test) (n = 13)

/-- A device rail is enabled and its step of *Power-up sequence* waits (R625). -/
def State.railEnable (s : State) (k : Nat) : State :=
  let s := s.w mdId (.pwr .STATUS_seq_step) (k + 1)
  -- Step 3 first writes the core rails of the dies present.
  let s := if k = 2 then foldS (fun (s : State) d => s.w mdId (.pwr .D_VOLT_set_mv) 850 d) s (0 :: s.cds.map cdId) else s
  (s.wbit mdId (.pwr .STATUS_enabled) k true).emit (.pin ("PWR_EN" ++ toString k) true)

/-- STRAP_READ (R621): 16 samples at 62.5 µs. -/
def execStrapRead (samples : List (BitVec 12)) (s : State) : Out :=
  if s.rst.phase ≠ 3 ∨ samples.length ≠ 16 then .next s else
  let s := s.advance (s.rst.at_ + 1000000)
  let s := s.w mdId (.rst .STRAP_ratio) (samples.getLastD 0).toNat
  let codes := samples.map strapCode
  let bad := (s.w mdId (.rst .STRAP_valid) 0).trig 8 1
  match codes.headD none with
  | none => .next bad
  | some n =>
    if codes.any (fun c => c ≠ some n) ∨ n = 0 ∨ n = 14 ∨ n = 15 then .next bad
    else
      let s := s.strapSet n
      .next (({ s with rst := { s.rst with phase := 4, at_ := s.now } } : State).railEnable 0)

/-- RAIL_STEP_COMPLETE (R625): the step's condition holds; a gap of 100 µs follows. -/
def execRailStepComplete (s : State) : Out :=
  let k := s.r mdId (.pwr .STATUS_seq_step) - 1
  if s.rst.phase ≠ 4 ∨ !between 1 (s.r mdId (.pwr .STATUS_seq_step)) 5 then .next s else
  let s := s.wbit mdId (.pwr .STATUS_pgood) k true
  let s := if k = 2 then foldS (fun (s : State) d => s.w mdId (.pwr .D_VOLT_read_mv) 850 d) s (0 :: s.cds.map cdId) else s
  let s := s.advance (s.now + 100000)
  let s := { s with rst := { s.rst with at_ := s.now } }
  if k < 4 then .next (s.railEnable (k + 1))
  else .next ({ s with rst := { s.rst with phase := 5 } }.w mdId (.pwr .STATUS_seq_step) 6)

/-- A step of the power-up sequence fails: the rails go off in reverse order, 100 µs apart, for good (R625). -/
def State.railFails (s : State) : State :=
  let n := ((List.range 5).filter (fun k => s.rbit mdId (.pwr .STATUS_enabled) k)).length
  let s := (s.railsOff.advance (s.now + 100000 * (n - 1))).w mdId (.pwr .STATUS_seq_step) 8
  s.trig 8 2

/-- RAIL_STEP_TIMEOUT (R625): 125,000 cycles without the condition of a rail step, or the clock check fails. -/
def execRailStepTimeout (s : State) : Out :=
  if (s.rst.phase = 4 ∨ s.rst.phase = 5) ∧ between 1 (s.r mdId (.pwr .STATUS_seq_step)) 6 then
    .next ((if s.rst.phase = 4 then s.advance (s.rst.at_ + 5000000) else s).railFails)
  else .next s

/-- CLOCK_CHECK_COMPLETE (R625 step 6, R623): REFCLK156 and the DRV_REFCLK of each present channel die valid, every PLL locked; the
offsets measured, EP_REFCLK's where it is valid. -/
def execClockCheckComplete (ref : BitVec 16) (drv : List (BitVec 16)) (ep : Option (BitVec 16)) (s : State) : Out :=
  if s.rst.phase ≠ 5 ∨ s.r mdId (.pwr .STATUS_seq_step) ≠ 6 ∨ !ppmOk ref ∨ drv.length ≠ s.channels ∨ !drv.all ppmOk then .next s else
  let s := s.advance (s.rst.at_ + 1000000)
  let s := foldS (fun (s : State) d => (s.w d (.clk .STATUS_ref156_ok) 1).w d (.clk .STATUS_pll_lock) 1) s s.dies
  let s := s.ppm 0 1 ref
  let s := foldS (fun (s : State) (e : BitVec 16 × Nat) => (s.ppm (cdId e.2) 3 e.1).w (cdId e.2) (.clk .STATUS_drv_ref_ok) 1) s drv.zipIdx
  let ok := ep.any ppmOk
  let s := match ep with
    | some v => (s.ppm 0 2 v).wb 0 (.clk .STATUS_ep_ref_ok) ok
    | none => s
  let s := { s with ep := { s.ep with refclk := ok } }
  .next ((s.w mdId (.pwr .STATUS_seq_step) 7).trig 8)

/-- DIE_RELEASE_STEP (R617 steps 6-8): the next die in order.  From Proofing on, Lattice interface, SEC and Proofing agent, 64 cycles
apart; from Bring-up on, the rest of the port die, then of each channel die, 1,024 cycles apart, its stack initialised after COLD;
`kat` is the known-answer test of a die's cipher engine. -/
def execDieReleaseStep (kat : Bool) (s : State) : Out :=
  if s.rst.phase = 6 then
    match (0 :: s.cds.map cdId).find? (fun d => !s.rst.lat.contains d) with
    | none => .next s
    | some d =>
      let s := s.advance (s.rst.at_ + 2560)
      .next (({ s with rst := { s.rst with lat := s.rst.lat ++ [d], at_ := s.now } } : State).ringShow)
  else if s.rst.phase = 7 then
    if !s.rst.freed.contains 0 then
      let s := { s with rst := { s.rst with freed := [0], at_ := s.now } }
      .next ((s.setDie 0 (s.dieBits 0 / 8 * 8)).cipherKat 0 kat)
    else
      match (s.cds.map cdId).find? (fun d => !s.rst.freed.contains d && !(s.dieBits d).testBit 1) with
      | none => .next s
      | some d =>
        let s := if s.rst.freed.length = 1 then s else s.advance (s.rst.at_ + 40960)
        let s := { s with rst := { s.rst with freed := s.rst.freed ++ [d], at_ := s.now } }
        if s.rst.cold then .next { s with rst := { s.rst with stackInit := s.rst.stackInit ++ [d] } } else .next (s.dieRuns d kat)
  else .next s

/-- STACK_INIT_COMPLETE (R617): a die's stack is initialised, within 2 ms, and its engines are released. -/
def execStackInitComplete (c : Cd) (kat : Bool) (s : State) : Out :=
  .next (if s.rst.stackInit.contains (cdId c) then s.dieRuns (cdId c) kat else s)

/-! ### Sources (R614-R616) -/

/-- RESET_N_ASSERT (R614 source 2): low for at least 1 µs. -/
def execResetNAssert (s : State) : Out :=
  if s.rst.phase = 0 then .next s
  else if s.level 2 = 0 then .next (s.coldReset 2 true) else .next (s.packageSource 2 true)

/-- RESET_N_RELEASE (R617): a COLD reset by RESET_N is released without the power-on delay; a PACKAGE reset goes on from step 3. -/
def execResetNRelease (s : State) : Out :=
  if !s.rst.held then .next s
  else if s.rst.phase = 0 then .next { s with now := 0, rst := { s.rst with phase := 1, held := false, at_ := 0 } }
  else .next ((s.advance (s.now + 10240)).superviseStart s.rst.prev)

/-- DEVICE_RAIL_UNDERVOLTAGE (R626, R614 source 1): an enabled device rail. -/
def execDeviceRailUndervoltage (s : State) : Out :=
  if s.r mdId (.pwr .STATUS_enabled) = 0 then .next s else .next (s.coldReset 1)

/-- STANDBY_SUPPLY_LOSS (R617): the power-on reset circuit asserts COLD. -/
def execStandbySupplyLoss (s : State) : Out := .next (s.coldReset 0)

/-- RST.CMD (R615): accepted from the secure world; discarded and logged in the cases named there. -/
def State.rstCmd (s : State) (q : Req) (op cd : Nat) (k : State) : State :=
  let d := cdId cd
  let refused := s.rb mdId (.fls .STATUS_warning) || s.modeNow = 8 ||
    (op ≠ 1 && (decide (s.channels ≤ cd) || (s.dieBits d).testBit 1)) || (op = 2 && !s.rb mdId (.sec .STATUS_locked))
  s.secureOnly q mdId (.rst .CMD_op)
    (if refused then (s.discardState mdId (.rst .CMD_op) (op * 2 ^ 30 + cd)).ev mdId (.rst .EVENTS_cmd_refused) else k)

/-- RST_CMD_PACKAGE (R614 source 4). -/
def execRstCmdPackage (q : Req) (s : State) : Out := .next (s.rstCmd q 1 0 (s.packageSource 4))
/-- RST_CMD_DIE (R614 source 5). -/
def execRstCmdDie (q : Req) (cd : Fin 8) (s : State) : Out := .next (s.rstCmd q 2 cd.val (s.dieSource (cdId cd.val) 5))
/-- RST_CMD_CHANNEL (R614 source 6). -/
def execRstCmdChannel (q : Req) (cd : Fin 8) (s : State) : Out := .next (s.rstCmd q 3 cd.val (s.dieSource (cdId cd.val) 6))

/-- CD_WATCHDOG_KICK (R634): RST.WDT_KICK of a channel die. -/
def execCdWatchdogKick (c : Cd) (s : State) : Out :=
  let d := cdId c
  .next (if s.cdUp d && (alGet s.rst.wdt d).isSome then
    { s with rst := { s.rst with wdt := alPut s.rst.wdt d (s.now + 1000000 * s.r d (.rst .WDT_CFG_timeout_ms)) } } else s)

/-- CD_WATCHDOG_EXPIRY (R614 source 7). -/
def execCdWatchdogExpiry (c : Cd) (s : State) : Out :=
  let d := cdId c
  match alGet s.rst.wdt d with
  | none => .next s
  | some t => if s.cdUp d then .next ((s.advance t).dieSource d 7) else .next s

/-- CD_FATAL_ERROR (R614 source 8, R615): of a die that runs, or is in a reset. -/
def execCdFatalError (c : Cd) (s : State) : Out :=
  .next (if s.rst.freed.contains (cdId c) then s.dieSource (cdId c) 8 else s)

/-- PD_WATCHDOG_EXPIRY (R614): no reset source, but a fatal error. -/
def execPdWatchdogExpiry (s : State) : Out := .next (if s.rst.freed.contains 0 then s.fatal else s)

/-- JTAG_RESET_REQUEST (R614 source 9): while debug is open. -/
def execJtagResetRequest (s : State) : Out :=
  .next (if s.rb mdId (.sec .DEBUG_scope) then s.packageSource 9 else s)

/-- DIE_RESET_RELEASE (R618, spec/20 R568): 256 cycles; then steps 6 and 7 of Proofing for the die, and its remainder. -/
def execDieResetRelease (c : Cd) (fwMatch cfgMatch : Bool) (digest : Nat) (kat : Bool) (s : State) : Out :=
  let d := cdId c
  match s.rst.active.find? (fun e => e.1 = d && e.2.1 = 2) with
  | none => .next s
  | some (_, _, t) =>
    let s := s.advance (t + 10240)
    let s := { s with sec := { s.sec with measured := alPut s.sec.measured (d + 4) digest } }
    if !(fwMatch && cfgMatch) then
      .next (((s.setProof d 11).ev mdId (.sec .EVENTS_proof_mismatch)).dieFails d)
    else
      let s := ((s.setProof d 7).loadWrt d).dieLock d
      let s := s.commitEntries d (s.tim.shadow.filter (fun p => p.1.1 = d && decide (p.1.2 < 192)))
      .next (s.dieBack d kat)

/-- CHANNEL_RESET_RELEASE (R618): 64 cycles. -/
def execChannelResetRelease (c : Cd) (kat : Bool) (s : State) : Out :=
  let d := cdId c
  match s.rst.active.find? (fun e => e.1 = d && e.2.1 = 3) with
  | none => .next s
  | some (_, _, t) => .next ((s.advance (t + 2560)).dieBack d kat)

/-! ### Clocks (R622, R623) -/

/-- REFCLK_OR_PLL_LOSS (R623): REFCLK156 (0), a PLL of the port die (1) or of the management die (2). -/
def execRefclkOrPllLoss (which : Fin 3) (s : State) : Out :=
  if s.rst.phase < 4 then .next s else
  let d := if which = 2 then mdId else 0
  let s := if which = 0 then
      (foldS (fun (s : State) d => s.w d (.clk .STATUS_ref156_ok) 0) s s.dies).ev 0 (.clk .EVENTS_ref156_lost)
    else (s.w d (.clk .STATUS_pll_lock) 0).ev d (.clk .EVENTS_pll_unlock)
  .next (if s.modeNow = 1 then s.railFails else s.fatal)

/-- CD_CLOCK_LOSS (R623): a channel die's PLL, or its DRV_REFCLK. -/
def execCdClockLoss (c : Cd) (pll : Bool) (s : State) : Out :=
  let d := cdId c
  if !s.cdUp d then .next s else
  let s := if pll then (s.w d (.clk .STATUS_pll_lock) 0).ev d (.clk .EVENTS_pll_unlock)
    else (s.w d (.clk .STATUS_drv_ref_ok) 0).ev d (.clk .EVENTS_drv_ref_lost)
  .next (s.dieFails d)

/-- EP_REFCLK_INVALID (R623): the endpoint's link goes down, a conventional reset; or the clock is valid again. -/
def execEpRefclkInvalid (valid : Bool) (s : State) : Out :=
  if s.rst.phase < 4 ∨ valid = s.ep.refclk then .next s else
  let s := ({ s with ep := { s.ep with refclk := valid } } : State).wb 0 (.clk .STATUS_ep_ref_ok) valid
  if valid then .next s.epTrain
  else
    let s := s.ev 0 (.clk .EVENTS_ep_ref_lost)
    .next (if s.rst.freed.contains 0 then s.epResetAll.epLinkDown else s)

/-- CRYSTAL_OUT_OF_RANGE (R623): outside ±1,000 ppm for 1 ms. -/
def execCrystalOutOfRange (ppm : BitVec 16) (s : State) : Out :=
  if s.rst.phase < 3 ∨ ppmOk ppm then .next s else
  let s := ((s.ppm mdId 0 ppm).w mdId (.clk .STATUS_xtal_ok) 0).ev mdId (.clk .EVENTS_xtal_out_of_range)
  .next { s with rst := { s.rst with xtalOut := true } }

/-- CRYSTAL_BACK_IN_RANGE (R623). -/
def execCrystalBackInRange (ppm : BitVec 16) (s : State) : Out :=
  if !s.rst.xtalOut ∨ !ppmOk ppm then .next s else
  let s := (s.ppm mdId 0 ppm).w mdId (.clk .STATUS_xtal_ok) 1
  .next { s with rst := { s.rst with xtalOut := false } }

/-! ### The adaptive voltage loop (R628-R631) -/

/-- The loop of a die runs: its remainder is released. -/
def State.loopRuns (s : State) (d : Nat) : Bool := s.rst.freed.contains d && !s.rst.stackInit.contains d && s.dieUp d

/-- v within the die's limits, written over AVSBus. -/
def State.setVolt (s : State) (d v : Nat) : State :=
  let hi := s.r mdId (.pwr .D_LIMITS_vmax_mv) d
  let n := max (s.r mdId (.pwr .D_LIMITS_vmin_mv) d) (min v hi)
  let old := s.r mdId (.pwr .D_VOLT_set_mv) d
  let s := s.w mdId (.pwr .D_VOLT_set_mv) n d
  if n = hi ∧ old ≠ hi then s.ev mdId (.pwr .EVENTS_at_vmax) else s

/-- The regulator's answer (R631): a third frame in a row without a valid one, or a fault in it, is an AVSBus fault, which holds the
set point at the last value acknowledged. -/
def State.avsReply (s : State) (d : Nat) (reply : Option (BitVec 16)) (fault : Bool) : State :=
  let was := s.rb mdId (.pwr .D_SLACK_avs_fault) d
  let n := if reply.isSome then 0 else (alGet s.rst.avsBad d).getD 0 + 1
  let s := { s with rst := { s.rst with avsBad := alPut s.rst.avsBad d n } }
  if fault || decide (3 ≤ n) then
    let s := s.w mdId (.pwr .D_SLACK_avs_fault) 1 d
    if was then s else (s.ev mdId (.pwr .EVENTS_avs_fault)).w mdId (.pwr .D_VOLT_set_mv) (s.r mdId (.pwr .D_VOLT_read_mv) d) d
  else match reply with
    | none => s
    | some v =>
      let s := (s.w mdId (.pwr .D_SLACK_avs_fault) 0 d).w mdId (.pwr .D_VOLT_read_mv) v.toNat d
      if was then s.w mdId (.pwr .D_VOLT_set_mv) v.toNat d else s

/-- AVS_LOOP_INTERVAL (R628): the least slack of the interval, the regulator's reading, and a fault in its status. -/
def execAvsLoopInterval (die : Fin 7) (slack : BitVec 8) (reply : Option (BitVec 16)) (fault : Bool) (s : State) : Out :=
  let d := die.val
  if !s.loopRuns d then .next s else
  let x := slack.toNat
  let s := (s.avsReply d reply fault).w mdId (.pwr .D_SLACK_min_pct) x d
  let lo := s.r mdId (.pwr .LOOP_CFG_target_lo_pct)
  let s := if lo ≤ x then { s with rst := { s.rst with stretched := alDel s.rst.stretched d } } else s
  if s.rb mdId (.pwr .D_SLACK_avs_fault) d || s.rb mdId (.pwr .LOOP_CFG2_hold) then .next s else
  let v := s.r mdId (.pwr .D_VOLT_set_mv) d
  let step := s.r mdId (.pwr .LOOP_CFG_step_mv)
  let n := if s.r mdId (.pwr .LOOP_CFG_target_hi_pct) < x then (alGet s.rst.nHi d).getD 0 + 1 else 0
  let down := decide (s.r mdId (.pwr .LOOP_CFG2_down_count) ≤ n) && n ≠ 0
  let s := { s with rst := { s.rst with nHi := alPut s.rst.nHi d (if down then 0 else n) } }
  .next (s.setVolt d (if x < lo then v + step else if down then v - step else v))

/-- SLACK_EMERGENCY (R629): slack below emerg_pct; the clock is stretched and v rises, once an episode. -/
def execSlackEmergency (die : Fin 7) (slack : BitVec 8) (s : State) : Out :=
  let d := die.val
  if !s.loopRuns d ∨ s.r mdId (.pwr .LOOP_CFG_emerg_pct) ≤ slack.toNat ∨ (alGet s.rst.stretched d).isSome then .next s else
  let s := { s with rst := { s.rst with stretched := alPut s.rst.stretched d s.now } }
  let s := (s.w mdId (.pwr .D_SLACK_stretches) (min 65535 (s.r mdId (.pwr .D_SLACK_stretches) d + 1)) d).ev mdId (.pwr .EVENTS_emergency)
  .next (if s.rb mdId (.pwr .D_SLACK_avs_fault) d || s.rb mdId (.pwr .LOOP_CFG2_hold) then s
    else s.setVolt d (s.r mdId (.pwr .D_VOLT_set_mv) d + 4 * s.r mdId (.pwr .LOOP_CFG_step_mv)))

/-- SLACK_EMERGENCY_TIMEOUT (R629, R631): slack stays below emerg_pct for 100 µs at the highest set point. -/
def execSlackEmergencyTimeout (die : Fin 7) (s : State) : Out :=
  let d := die.val
  let top := s.rb mdId (.pwr .D_SLACK_avs_fault) d || s.r mdId (.pwr .D_VOLT_set_mv) d = s.r mdId (.pwr .D_LIMITS_vmax_mv) d
  match alGet s.rst.stretched d with
  | none => .next s
  | some t =>
    if !top ∨ !s.loopRuns d then .next s else
    let s := s.advance (t + 100000)
    let s := { s with rst := { s.rst with stretched := alDel s.rst.stretched d } }
    .next (if d = 0 then s.fatal else s.dieFails d)

/-- VOLTAGE_RECAL_MONITOR (R630): one monitor, 100 µs, inside an open window of kind 0x05, while the profile allows it. -/
def execVoltageRecalMonitor (die : Fin 7) (s : State) : Out :=
  let d := die.val
  let n := if d = 0 then 32 else 16
  let open_ := s.tim.windows.any (fun w => w.die = d && w.entry.kind = 5 && decide (s.ts64 d + 100000 ≤ w.closes))
  if !s.loopRuns d ∨ !open_ ∨ (s.profile d).recal = 0 ∨ !between 3 s.modeNow 0xA then .next s else
  let s := s.advance (s.now + 100000)
  let k := (s.r mdId (.pwr .D_CAL_next) d + 1) % n
  let s := (s.w mdId (.pwr .D_CAL_next) k d).w mdId (.pwr .D_CAL_done) (min 255 (s.r mdId (.pwr .D_CAL_done) d + 1)) d
  .next (if k = 0 then s.ev mdId (.pwr .EVENTS_recal_done) else s)

end Sys2Proof.Machine
end

