-- ==== Sys2Proof/Machine/Late.lean ====
section
/-! DEFINITION. Lattice (spec/01 R22-R24), time distribution and the firing of schedule entries (spec/03), and the ends of a zero
range and of a Cancel Crumb (spec/10 R284, R295). -/

set_option Elab.async false

namespace Sys2Proof.Machine

/-! ### Lattice -/

/-- The dies on the package's own ring, in ring order from the port die; bypassed ones are left out (R23). -/
def State.ringDies (s : State) : List Nat :=
  ((0 :: s.cds.map cdId).filter (fun d => s.rst.lat.contains d && !(s.dieBits d).testBit 2)) ++ [mdId]
/-- The die after another on the ring. -/
def State.ringNext (s : State) (d : Nat) : Nat := ((s.ringDies.dropWhile (· ≠ d)).drop 1).headD (s.ringDies.headD mdId)

/-- The first waiting message of the highest class (R22). -/
def firstMsg (l : List LatMsg) : Option LatMsg := (sortKey (fun (m : LatMsg) => m.cls) l).head?
def dropFirst (l : List LatMsg) (m : LatMsg) : List LatMsg := l.takeWhile (· ≠ m) ++ (l.dropWhile (· ≠ m)).drop 1

/-- LATTICE_MESSAGE_FORWARD (R22): a message may join the hop; the one that has started completes, at its destination or at the
next hop, and the first of the highest class starts. -/
def execLatticeMessageForward (hop : DieId) (join : Option (Fin 5)) (dst : DieId) (tag : Nat) (secure : Bool) (s : State) : Out :=
  let h := hop.val
  if !s.ringDies.contains h then .next s else
  let s := match join with
    | some c => s.latSend h { cls := c.val, src := h, dst := dst.val, tag := tag, secure := secure }
    | none => s
  let next := s.ringNext h
  let x := (alGet s.lat.hops h).getD {}
  let s := match x.started with
    | none => s
    | some m =>
      -- PMC native event 1: a message passed on without being consumed (spec/22 R602).
      let s := if m.src = h then s else s.pmcFeed h 0x06010000 1
      if m.dst = next ∨ m.dst = h then { s with lat := { s.lat with inbox := s.lat.inbox ++ [m] } } else s.latSend next m
  let x := (alGet s.lat.hops h).getD {}
  let x := match firstMsg x.waiting with
    | some m => { started := some m, waiting := dropFirst x.waiting m }
    | none => { x with started := none }
  .next { s with lat := { s.lat with hops := alPut s.lat.hops h x } }

/-- The pair ring opens at the port die, and the partner is lost (R24, spec/15 R423). -/
def State.ringOpens (s : State) : State := if s.rb mdId (.lat .STATUS_pair_ring) then s.partnerLost else s
/-- A break at the port die or the management die (R23). -/
def State.ringBreaks (s : State) : State := (s.ev mdId (.lat .EVENTS_ring_break)).fatal

/-- RING_MARKER (R24): every 1 µs; the round trip in ns, or none where the marker did not come back. -/
def execRingMarker (rtt : Option (BitVec 32)) (s : State) : Out :=
  if s.rst.lat.isEmpty then .next s else
  let s := s.advance (s.now + 1000)
  let pair := s.rb mdId (.lat .STATUS_pair_ring)
  match rtt with
  | some v =>
    let n := if 2000 < v.toNat then min 255 (s.r mdId (.lat .STATUS_over_budget) + 1) else 0
    let s := ((s.w mdId (.lat .RTT_rtt_ns) v.toNat).w mdId (.lat .STATUS_missed_markers) 0).w mdId (.lat .STATUS_over_budget) n
    .next (if pair && decide (8 ≤ n) then s.ringOpens else s)
  | none =>
    let n := min 255 (s.r mdId (.lat .STATUS_missed_markers) + 1)
    let s := s.w mdId (.lat .STATUS_missed_markers) n
    .next (if !pair && n = 4 then s.ringBreaks else s)

/-! ### Time distribution (R67, R68) -/

/-- A die time fault (R67): recorded; the third within 1 s of TS64 holds a channel die out, or is fatal on the management die. -/
def State.dieTimeFault (s : State) (d : Nat) : State :=
  let s := (s.ev d (.tim .EVENTS_die_time_fault)).logEv d 0x01 .dieTimeFault [s.ts64 d]
  let t := s.dieTime d
  let l := t.faults.filter (fun x => decide (s.ts64 d < x + 1000000000)) ++ [s.ts64 d]
  let s := { s with tim := { s.tim with counters := alPut s.tim.counters d { t with faults := l } } }
  if l.length < 3 then s else if d = mdId then s.fatal else s.dieFails d

/-- TIME_DISTRIBUTION_RECEIVE (R53, R67): a die takes the message sent to it, with the residence it has accumulated in ns. -/
def execTimeDistributionReceive (die : DieId) (residence : Nat) (s : State) : Out :=
  let d := die.val
  match alGet s.tim.messages d with
  | none => .next s
  | some m =>
    let up := d ≠ 0 && s.dieUp d
    let v := m.ts + m.residence + residence + s.hopDelay d
    -- The message travels that long: the port die's counter has reached the corrected value when it arrives.
    let s := if up && m.servo ≠ 0 then s.reachTs 0 v else s
    let s := { s with tim := { s.tim with messages := alDel s.tim.messages d } }
    if !up then .next s else
    let old := s.r d (.tim .STATE_state)
    let s := (s.servoEvents d old m.servo).w d (.tim .STATE_state) m.servo
    if m.servo = 0 then .next s
    else if !s.tsSet d then .next (s.stepTo d (max v (s.dieTime d).val))
    else
      let cur := s.ts64 d
      let t := s.dieTime d
      let bound := distBound d
      if m.step && decide (cur < v) then .next ((s.stepTo d v).ev d (.tim .EVENTS_step_seen))
      else if v + bound < cur then
        .next ((s.setDieTime d { t with val := cur, anchor := s.now, slew := 0, hold := cur - v }).dieTimeFault d)
      else if cur + bound < v then .next ((s.stepTo d v).dieTimeFault d)
      else .next (s.setDieTime d { t with val := cur, anchor := s.now, slew := (v : Int) - cur, hold := 0
                                          ppm := s.r 0 (.tim .SERVO_CFG2_slew_ppm) })

/-- TIME_MESSAGE_LOSS (R68): 8 µs without a message: the die is on a broken ring.  A pair ring is opened; on a ring of its own the
management die finds the break; a channel die's is found by the markers. -/
def execTimeMessageLoss (die : DieId) (s : State) : Out :=
  let d := die.val
  if d = 0 ∨ !s.dieUp d ∨ !s.tsSet d then .next s else
  let s := s.advance (s.now + 8000)
  .next (if s.rb mdId (.lat .STATUS_pair_ring) then s.ringOpens else if d = mdId then s.ringBreaks else s)

/-! ### Schedule entries (R71-R74) -/

/-- Where an entry's interrupt goes (R72): the secure cores of the management die (2), its non-secure cores (1), or the control
cores of the die (0). -/
def timerTarget (d : Nat) (secure : Bool) : Nat := if secure then 2 else if d = mdId then 1 else 0

/-- What an entry does when it fires (*Schedule kinds*, spec/06 R160, spec/15 R434, spec/20 R576, spec/21 R596). -/
def State.entryActs (s : State) (d i : Nat) (e : SchedEntry) (at_ : Nat) : State :=
  let s := if e.window then
      { s with tim := { s.tim with windows := s.tim.windows.filter (fun w => !(w.die = d && w.idx = i)) ++ [⟨d, i, e, at_ + e.duration⟩] } }
    else s
  match e.kind with
  | 1 => s.gateStart e.target e.param at_
  | 2 => s.setPair { s.pair with tickDue := true }
  | 3 => s.windowEval d
  | 4 | 5 => if between 1 d 6 then s else if (s.profile d).recal = 0 || !between 3 s.modeNow 0xA then s.bgBump d 1 else s.bgBump d 0
  | 6 => if s.servo = 2 then s.ledgerAdd 2 (s.anchorBody 2) else s.bump mdId 0x04 5
  | _ => s

/-- SCHEDULE_ENTRY_FIRE (R73): TS64 of the die reaches the entry's next occurrence. -/
def execScheduleEntryFire (die : DieId) (idx : Fin 256) (s : State) : Out :=
  let d := die.val
  let i := idx.val
  let e := s.entry d i
  let n := (alGet s.tim.nextOcc (d, i)).getD 0
  match e.occ n with
  | none => .next s
  | some f =>
    if !e.enabled ∨ !s.tsSet d ∨ !s.dieUp d then .next s else
    let s := s.reachTs d f
    let s := { s with tim := { s.tim with nextOcc := alPut s.tim.nextOcc (d, i) (n + 1) } }
    let s := s.entryActs d i e f
    .next (if e.flags.testBit 2 then
      s.emit (.irq (timerTarget d (e.flags.testBit 1)) d 0x01 (if e.kind = 7 then e.target else 64 + e.kind)) else s)

/-! ### Ends in the Sponge -/

/-- ZERO_RANGE_ENTRY_FREE (spec/10 R284): an applied entry is freed once TS64 has passed its e plus the ordering horizon; a zeroing
command that waited for an entry goes on. -/
def execZeroRangeEntryFree (d : Cd) (seq : Nat) (s : State) : Out := onCd d s fun s =>
  let d := cdId d
  match (s.sp d).ranges.find? (fun r => r.seq = seq && r.applied) with
  | none => s
  | some r =>
    let s := (s.reachTs d (r.e + 1000 * s.r d (.cmd .CFG_horizon_us))).purgeRanges d
    let waiting := (s.cd d).slots.filter (fun z => z.2.state = 3 && (z.2.cap.opcode = 8 || z.2.cap.opcode = 9) && !z.2.admin)
    foldS (fun (s : State) (z : Nat × CmdSlot) => s.tryCommit d z.1) s (sortKey (fun (z : Nat × CmdSlot) => z.2.order) waiting)

/-- CANCEL_CRUMB_RETIREMENT (spec/10 R295): dup_window_ms after it was written, or the end of a Resume hold covering its queue. -/
def execCancelCrumbRetirement (d : Cd) (seq : Nat) (s : State) : Out := onCd d s fun s =>
  let d := cdId d
  match s.ringCrumb d seq with
  | none => s
  | some r =>
    if r.c.kind ≠ 0x21 ∨ r.retired then s else
    let hold := ((s.cd d).tokens.filter (fun t => t.conn = r.c.conn && t.holdFrom.isSome)).foldl (fun m t => max m t.ends) 0
    (s.advance (max (r.writtenAt + 1000000 * s.r d (.cmd .CFG_dup_window_ms)) hold)).retireCrumb d seq

end Sys2Proof.Machine
end

