-- ==== Sys2Proof/Machine/RegAccess.lean ====
section
/-! DEFINITION. Register accesses (spec/00 R7-R13, spec/01 R23, spec/03 R78, R79): where an access goes, which fields it
reaches, what a read answers and what a write changes.  A field whose write or read has a row of its own in the opcode table
is left to that row. -/

set_option Elab.async false

namespace Sys2Proof.Machine

/-! ### Fields at an offset -/

/-- Instance and word number of a field at an offset, if its register lies there; a field wider than 32 bits fills
consecutive registers from its lowest word on. -/
def fldAt (f : Fld) (off : Nat) : Option (Nat × Nat) :=
  let x := f.spec
  let size := 4 * ((x.lo + x.width + 31) / 32)
  if off < x.base then none else
    let o := off - x.base
    if x.stride = 0 then (if o < size then some (0, o / 4) else none)
    else if o / x.stride < x.count ∧ o % x.stride < size then some (o / x.stride, o % x.stride / 4) else none

/-- A field reached by an access: the field, its instance, the word of it. -/
structure FldHit where
  f : Fld
  i : Nat
  k : Nat
  deriving DecidableEq, Repr

/-- The fields of the register at an offset of a block on a die; none on a die that does not carry it (R9, R78). -/
def fieldsAt (d blk off : Nat) : List FldHit :=
  (fieldsOf blk).filterMap (fun (f : Fld) =>
    if f.spec.dies.testBit d then (fldAt f off).map (fun (p : Nat × Nat) => (⟨f, p.1, p.2⟩ : FldHit)) else none)

/-- The part of a register's word that belongs to a field. -/
def FldHit.part (h : FldHit) (word : Nat) : Nat :=
  if h.f.spec.width ≤ 32 then word / 2 ^ h.f.spec.lo % 2 ^ h.f.spec.width else word % 2 ^ 32

/-- The part of a field's value that its register's word holds, and the value with that part replaced. -/
def FldHit.slice (h : FldHit) (v : Nat) : Nat :=
  if h.f.spec.width ≤ 32 then v else v / 2 ^ (32 * h.k) % 2 ^ 32
def FldHit.merge (h : FldHit) (v part : Nat) : Nat :=
  if h.f.spec.width ≤ 32 then part else v - v / 2 ^ (32 * h.k) % 2 ^ 32 * 2 ^ (32 * h.k) + part * 2 ^ (32 * h.k)

/-- A world may read, or write, a field (R13 *World values*). -/
def FldHit.mayRead (h : FldHit) (secure : Bool) : Bool := secure || h.f.spec.world ≠ .s
def FldHit.mayWrite (h : FldHit) (secure : Bool) : Bool := secure || h.f.spec.world = .ns

/-- SNAP_CTRL.done and SNAP_CTRL.ovf stand in each world's copy (spec/05 R139). -/
def worldCopy (f : Fld) : Bool :=
  [.mgt .SNAP_CTRL_done, .sec .SNAP_CTRL_done, .bgw .SNAP_CTRL_done, .pmc .SNAP_CTRL_done, .eth .SNAP_CTRL_done,
   .swx .SNAP_CTRL_done, .pol .SNAP_CTRL_done, .pol .SNAP_CTRL_ovf, .epf .SNAP_CTRL_done, .rdx .SNAP_CTRL_done,
   .cmd .SNAP_CTRL_done, .spg .SNAP_CTRL_done, .arb .SNAP_CTRL_done, .grp .SNAP_CTRL_done, .rsh .SNAP_CTRL_done,
   .drv .SNAP_CTRL_done, .cip .SNAP_CTRL_done, .pair .SNAP_CTRL_done, .fls .SNAP_CTRL_done,
   .bay .SNAP_CTRL_done].contains f

/-! ### Values that registers compute -/

/-- A duration in units, saturating at a limit. -/
def spanIn (ns unit lim : Nat) : Nat := min (ns / unit) lim

/-- The value of a field as a read finds it: most stand in the register file; ages and timers follow uptime. -/
def State.fieldNow (s : State) (d : Nat) (h : FldHit) (secure : Bool) : Nat :=
  match h.f with
  | .drv .B_HEALTH2_poll_age_s =>
    if s.r d h.f h.i = 0xFFFF then 0xFFFF else spanIn (s.now - (s.drive d h.i).polledAt) 1000000000 0xFFFF
  | .bay .B_TIMER_backoff_left_ms => spanIn (((s.bayR h.i).timer.getD s.now) - s.now) 1000000 60000
  | .bay .B_TIMER_absence_ms =>
    if s.rb mdId (.bay .B_STATE_seated) h.i then 0 else spanIn (s.now - ((s.bayR h.i).lostAt.getD s.now)) 1000000 0xFFFF
  | .rst .CD_RESETS_count => (s.cds.map (fun c => min 15 (s.cdResets (cdId c)) * 16 ^ c)).foldl (· + ·) 0
  | .pmc .CTR => if !secure && s.rb d (.pmc .CTR_CFG_secure) h.i then 0 else s.r d h.f h.i
  | f => s.r d f (if worldCopy f && secure then 1 else h.i)

/-- Bits of the bays that a test accepts (BAY.SEATED, ON, DRIVEN and EPW). -/
def State.bayMask (s : State) (p : Nat → Bool) : Nat :=
  (s.bays.filter p).foldl (fun (a : Nat) n => a + 2 ^ n) 0

/-- The 64-bit values that no field of the register file holds: TIM.NOW, MGT.UPTIME and the bay masks. -/
def State.wideNow (s : State) (d blk off : Nat) : Option Nat :=
  if blk = 0x01 ∧ off = 0 then some (s.ts64 d)
  else if blk = 0x03 ∧ d = mdId ∧ off = 0x28 then some s.now
  else if blk = 0x32 ∧ d = mdId then
    match off with
    | 0x40 => some (s.bayMask (fun n => s.rb mdId (.bay .B_STATE_seated) n))
    | 0x48 => some (s.bayMask (fun n => s.baySt n = 5 || s.baySt n = 6))
    | 0x50 => some (s.bayMask s.bayDriven)
    | 0x58 => some (s.bayMask (fun n => s.rb mdId (.bay .B_STATE_epw) n))
    | _ => none
  else none

/-- Where a block's snapshot window begins, and how many registers it has. -/
def snapWindow (blk : Nat) : Option (Nat × Nat) :=
  match blk with
  | 0x03 => some (0x200, 18)
  | 0x04 => some (0x100, 16)
  | 0x05 => some (0x100, 16)
  | 0x06 => some (0x100, 18)
  | 0x10 => some (0x4000, 64)
  | 0x12 => some (0x800, 22)
  | 0x13 => some (0x100, 18)
  | 0x15 => some (0x100, 28)
  | 0x20 => some (0x100, 52)
  | 0x21 => some (0x100, 48)
  | 0x23 => some (0x100, 40)
  | 0x24 => some (0x100, 40)
  | 0x25 => some (0x400, 36)
  | 0x26 => some (0x200, 16)
  | 0x27 => some (0x400, 26)
  | 0x28 => some (0x100, 16)
  | 0x30 => some (0x100, 20)
  | 0x31 => some (0x100, 18)
  | 0x32 => some (0x800, 18)
  | _ => none

/-- The word of a snapshot window in the reader's buffer (spec/05 R139); PMC.SNAP_RUN follows its window (spec/22 R608). -/
def State.snapWord (s : State) (d blk off : Nat) (secure : Bool) : Option Nat :=
  match snapWindow blk with
  | none => none
  | some (base, n) =>
    let buf := s.snaps.find? (fun (x : Snapshot) => x.die = d && x.blk = blk && x.secure = secure)
    if !(blockDies blk).testBit d then none
    else if base ≤ off ∧ off < base + 4 * n then
      let k := (off - base) / 4
      some (((buf.map (fun (x : Snapshot) => x.values.getD (k / 2) 0)).getD 0) / 2 ^ (32 * (k % 2)) % 2 ^ 32)
    else if blk = 0x06 ∧ off = 0x148 then some ((buf.map (·.extra)).getD 0)
    else none

/-! ### Table windows -/

/-- The word k of a schedule entry (spec/03 R71). -/
def schedWord (e : SchedEntry) (k : Nat) : Nat :=
  match k with
  | 0 => e.base % 2 ^ 32
  | 1 => e.base / 2 ^ 32 % 2 ^ 32
  | 2 => e.period % 2 ^ 32
  | 3 => e.period / 2 ^ 32 % 2 ^ 32
  | 4 => e.duration % 2 ^ 32
  | 5 => e.duration / 2 ^ 32 % 2 ^ 32
  | 6 => e.kind + 2 ^ 8 * e.flags + 2 ^ 16 * e.target
  | _ => e.param + 2 ^ 16 * e.reserved

/-- The word k of a connection context (spec/07 R174); a context that was never opened is zero. -/
def State.connWord (s : State) (d i k : Nat) : Nat :=
  if (alGet s.rdx.conns (d, i)).isNone then 0 else
  let c := s.conn d i
  let f := c.f
  let u (n : Nat) := f.udpSrc.getD n 0
  match k with
  | 0 => connNum d i c.gen % 2 ^ 24 + c.state * 2 ^ 24
  | 1 => f.remoteQpn
  | 2 => f.host + 2 ^ 16 * f.pd
  | 3 => f.flags + 2 ^ 8 * f.pmtu + 2 ^ 16 * f.paths + 2 ^ 24 * f.slotLimit
  | 4 => if c.state = 1 then f.epsn else c.epsn
  | 5 => c.rxMsn
  | 6 => if c.state = 1 then f.txNext else c.txNext
  | 7 => c.txUna
  | 8 => c.txMsn
  | 9 => f.ackTimeout + 2 ^ 8 * f.retryCnt + 2 ^ 16 * f.rnrRetry + 2 ^ 24 * c.retriesLeft
  | 10 => f.rnrTimer + 2 ^ 8 * f.tclass + 2 ^ 16 * (min c.credits 65535)
  | 11 => f.port
  | 12 => u 0 + 2 ^ 16 * u 1
  | 13 => u 2 + 2 ^ 16 * u 3
  | 14 => f.destMac % 2 ^ 32
  | 15 => f.destMac / 2 ^ 32 % 2 ^ 16
  | 20 => c.rate
  | 21 => c.slots.length
  | 22 => c.lastRx % 2 ^ 32
  | 23 => c.lastRx / 2 ^ 32 % 2 ^ 32
  | 24 => (s.rdx.chains.filter (fun (e : (Nat × Nat) × Chain) =>
      e.1.1 = d && (e.2.state = 1 || e.2.state = 2) && e.2.hdr.conn = connNum d i c.gen)).length
  | k => if 16 ≤ k ∧ k < 20 then f.remoteIp / 2 ^ (32 * (k - 16)) % 2 ^ 32
         else if 32 ≤ k then (alGet c.firm k).getD 0 else 0

/-- The word k of a region entry (spec/07 R188). -/
def State.regionWord (s : State) (d i k : Nat) : Nat :=
  let r := s.region d i
  match k with
  | 0 => r.state + 2 ^ 8 * r.f.flags + 2 ^ 16 * r.tag
  | 1 => r.f.pd
  | 2 => r.f.base % 2 ^ 32
  | 3 => r.f.base / 2 ^ 32 % 2 ^ 32
  | 4 => r.f.length
  | 5 => r.f.conn
  | 6 => r.inFlight
  | _ => 0

/-- The words of a Policers entry, of a Scheduler entry and of a gate list (spec/04 *Traffic entries*). -/
def policerWord (e : PolicerEntry) (k : Nat) : Nat :=
  match k with
  | 0 => e.id + 2 ^ 16 * e.algorithm + 2 ^ 24 * e.flags
  | 1 => e.cir
  | 2 => e.eir
  | 3 => e.cbs
  | 4 => e.ebs
  | _ => 0
def nodeWord (e : SchedNode) (k : Nat) : Nat :=
  match k with
  | 0 => e.id + 2 ^ 16 * e.level + 2 ^ 24 * e.priority
  | 1 => e.parent + 2 ^ 16 * e.weight
  | 2 => e.shaper
  | _ => e.burstKib
def gateWord (g : GateList) (k : Nat) : Nat :=
  match k with
  | 0 => g.port + 2 ^ 8 * g.list + 2 ^ 16 * g.entries.length
  | 1 => g.cycle
  | 2 => 0
  | 3 => 0
  | k =>
    match g.entries[(k - 4) / 2]? with
    | none => 0
    | some e => if k % 2 = 0 then e.mask + (if e.hold then 2 ^ 8 else 0) else e.interval

/-- The word of a table window, and whether the reader's world may not read it (spec/03 R653, spec/06 R165, spec/07 R203). -/
def State.tableWord (s : State) (d blk off : Nat) (secure : Bool) : Option (Nat × Bool) :=
  let img := s.img.active.getD {}
  if blk = 0x01 ∧ 0x400 ≤ off ∧ off < 0x2400 then
    let i := (off - 0x400) / 32
    let e := s.entry d i
    let denied := decide (192 ≤ i) && e.flags.testBit 1 && !secure
    some (if denied then 0 else schedWord e ((off - 0x400) / 4 % 8), denied)
  else if blk = 0x13 ∧ d = 0 ∧ 0x10000 ≤ off ∧ off < 0x20000 then
    let e := img.policers.find? (fun e => e.id = (off - 0x10000) / 32)
    some (((e.map (fun e => policerWord e (off / 4 % 8))).getD 0), false)
  else if blk = 0x14 ∧ d = 0 ∧ 0x10000 ≤ off then
    let node (level base n : Nat) : Option (Nat × Bool) :=
      let i := (off - base) / 16
      if i < n then
        some (((img.nodes.find? (fun e => e.level = level && e.id = i)).map (fun e => nodeWord e (off / 4 % 4))).getD 0, false)
      else none
    if off < 0x20000 then node 0 0x10000 4096
    else if off < 0x21000 then node 1 0x20000 256
    else if off < 0x22000 then node 2 0x21000 32
    else if 0x40000 ≤ off ∧ off < 0x80000 then
      let n := (off - 0x40000) / 0x1000
      let k := off % 0x1000 / 4
      if k < 516 then
        some (((img.gates.find? (fun g => g.port = n / 2 && g.list = n % 2)).map (fun g => gateWord g k)).getD 0, false)
      else none
    else none
  else if blk = 0x20 ∧ 1 ≤ d ∧ d ≤ 6 ∧ 0x10000 ≤ off ∧ off < 0x110000 then
    some (s.connWord d ((off - 0x10000) / 256) (off / 4 % 64), false)
  else if blk = 0x20 ∧ 1 ≤ d ∧ d ≤ 6 ∧ 0x200000 ≤ off ∧ off < 0x400000 then
    some (s.regionWord d ((off - 0x200000) / 32) (off / 4 % 8), false)
  else none

/-! ### Where an access ends -/

/-- Blocks whose engines a CHANNEL reset holds: those whose registers it clears (spec/23 R613). -/
def engineBlock (blk : Nat) : Bool :=
  blk = 0x05 || blk = 0x06 || blk = 0x15 || (decide (0x20 ≤ blk) && decide (blk ≤ 0x28)) || blk = 0x30 || blk = 0x31

/-- A block of a local die answers (spec/01 R23, spec/23 R652): the die is not bypassed, its Lattice interface has been
released, and so has its remainder, or the block is one that answers before (LAT and SEC), or a CHANNEL reset leaves it. -/
def State.answers (s : State) (d blk : Nat) : Bool :=
  if d = mdId then true else
    s.rst.lat.contains d && !(s.dieBits d).testBit 2 &&
      (blk = 0x04 || blk = 0x0A || (s.rst.freed.contains d && !(s.dieBits d).testBit 0) ||
        (s.rst.active.any (fun (e : Nat × Nat × Nat) => e.1 = d && e.2.1 = 3) && !engineBlock blk))

/-- An access that ends short of a register (R3, R8, R23): the requesting die's LAT block and the event log. -/
def State.latError (s : State) (q : Req) (f : LatF) (addr code : Nat) (args : List Nat) : State :=
  let d := q.die.val
  let s := s.ev d (.lat f)
  let s := (s.w d (.lat .ERR_ADDR_LO_addr) (addr % 2 ^ 32)).w d (.lat .ERR_ADDR_HI_addr) (addr / 2 ^ 32)
  s.log d 0x0A (.common code) args q.secure

/-- Where an access ends: at a die's block, short of it, or in the partner package. -/
inductive Dest where
  | absent
  | unavailable
  | misaligned
  | partner
  | reg (d blk off : Nat)
  deriving DecidableEq, Repr

/-- The destination of an access (R7, R8): absence and availability are decided before alignment. -/
def State.dest (s : State) (addr : Nat) (full : Bool) : Dest :=
  let d := addr / 2 ^ 36 % 16
  let blk := addr / 2 ^ 28 % 256
  let off := addr % 2 ^ 28
  if 8 ≤ d then
    (if !s.paired then .absent else if s.rb mdId (.lat .STATUS_pair_ring) then .partner else .unavailable)
  else if !s.hasDie d then .absent
  else if !s.answers d blk then .unavailable
  else if !full ∨ addr % 4 ≠ 0 then .misaligned
  else .reg d blk off

/-- What an access that ends short of a register does; `write` is an argument of the record of a misaligned access. -/
def State.destError (s : State) (q : Req) (addr : Nat) (write : Bool) : Dest → State
  | .absent => s.latError q .EVENTS_absent addr 5 [addr]
  | .unavailable => s.latError q .EVENTS_unavailable addr 5 [addr]
  | .misaligned => s.latError q .EVENTS_misaligned addr 6 [addr, if write then 1 else 0]
  | .partner => s
  | .reg _ _ _ => s

/-- An access to a partner die leaves over the pair ring (R7, R22); its answer is the partner's. -/
def State.toPartner (s : State) (q : Req) (addr : Nat) : State :=
  s.emit (.lattice { cls := 4, src := q.die.val, dst := addr / 2 ^ 36, tag := addr, secure := q.secure })

/-! ### Reads -/

/-- What a read finds at an offset: the word of the readable fields, and whether the read is denied. -/
def State.wordAt (s : State) (d blk off : Nat) (secure : Bool) : Nat × Bool :=
  match s.wideNow d blk off, (if 4 ≤ off then s.wideNow d blk (off - 4) else none) with
  | some v, _ => (v % 2 ^ 32, false)
  | none, some v => (v / 2 ^ 32 % 2 ^ 32, false)
  | none, none =>
    match s.tableWord d blk off secure with
    | some r => r
    | none =>
      match s.snapWord d blk off secure with
      | some v => (v, false)
      | none =>
        let hs := fieldsAt d blk off
        let ok := hs.filter (fun h => h.mayRead secure)
        ((ok.filter (fun h => h.f.spec.acc ≠ .wo)).foldl (fun (a : Nat) h =>
            a + h.slice (s.fieldNow d h secure) * (if h.f.spec.width ≤ 32 then 2 ^ h.f.spec.lo else 1)) 0,
          !hs.isEmpty && ok.isEmpty)

/-- The _LO register of a pair that refers to R79: the blocks whose chapters give the latch, and the wide values. -/
def pairLo (d blk off : Nat) : Bool :=
  (blk = 0x01 && off = 0) || (blk = 0x03 && d = mdId && off = 0x28) || (blk = 0x04 && off = 0x4) || (blk = 0x0A && off = 0xC) ||
    (blk = 0x32 && d = mdId && [0x40, 0x48, 0x50, 0x58].contains off) ||
    (blk ≠ 0x02 && (fieldsAt d blk off).any (fun h =>
      h.f.spec.width = 64 && h.k = 0 && h.f ≠ .rdx .CHAIN_BASE && h.f ≠ .cmd .REPLAY_FLOOR))

/-- Reads with a row of their own: QCAUSE, REVOKE_DONE, CHAIN_FAIL and GCM_DONE. -/
def readsApart (blk off : Nat) : Bool :=
  (blk = 0x03 && off = 0x10) || (blk = 0x20 && (off = 0x38 || off = 0x3C)) || (blk = 0x28 && off = 0x1C)

/-- A read that ends at a register of a local die (R13, R79). -/
def State.readReg (s : State) (q : Req) (addr d blk off : Nat) : State :=
  let s := s.pmcFeed d 0x06020000 1
  let mine (lo : Nat) (x : Latch) : Bool := x.req = q && x.die = d && x.blk = blk && x.off = lo
  if pairLo d blk off then
    let hi := (s.wordAt d blk (off + 4) q.secure).1
    let (v, denied) := s.wordAt d blk off q.secure
    if denied then (s.worldViolation q d blk off false).emit (.readData addr 0) else
      ({ s with latches := s.latches.filter (fun x => !mine off x) ++ [⟨q, d, blk, off, hi⟩] } : State).emit (.readData addr v)
  else
    match (if 4 ≤ off then s.latches.find? (mine (off - 4)) else none) with
    | some x => ({ s with latches := s.latches.filter (fun y => !mine (off - 4) y) } : State).emit (.readData addr x.upper)
    | none =>
      let (v, denied) := s.wordAt d blk off q.secure
      if denied then (s.worldViolation q d blk off false).emit (.readData addr 0) else s.emit (.readData addr v)

/-- LO_REGISTER_READ (R79, R11, R13): a read of a package address; `full` is an access of 32 bits. -/
def execLoRegisterRead (q : Req) (addr : BitVec 40) (full : Bool) (s : State) : Out :=
  let a := addr.toNat
  match s.dest a full with
  | .reg d blk off => .next (if readsApart blk off then s else s.readReg q a d blk off)
  | .partner => .next (s.toPartner q a)
  | e => .next ((s.destError q a false e).emit (.readData a 0))

/-! ### Writes -/

/-- WO fields that hold a value for a later command, where the others start an action that has a row of its own. -/
def woValue (f : Fld) : Bool :=
  f = .cip .LOAD_META_nsid || f = .cip .LOAD_GEN_generation || f = .cip .LOAD_FIXED_fixed || f = .cip .LOAD_BLOB_bytes

/-- A write of a field changes it (R13, third paragraph). -/
def State.wouldChange (s : State) (d : Nat) (word : Nat) (h : FldHit) : Bool :=
  let v := h.part word
  match h.f.spec.acc with
  | .rw | .rws | .rwl => v ≠ h.slice (s.r d h.f h.i)
  | .wo | .rw1c | .rw1s => v ≠ 0
  | .ro | .ros => false

/-- The field's write has a row of its own in the opcode table. -/
def FldHit.apart (h : FldHit) : Bool := h.f.spec.own || (h.f.spec.acc = .wo && !woValue h.f)

/-- A field is written by REGISTER_WRITE: firmware may write it, and no other row does. -/
def FldHit.plain (h : FldHit) : Bool := !h.apart && h.f.spec.acc ≠ .ro && h.f.spec.acc ≠ .ros

/-- The value that a field would hold after a write. -/
def State.written (s : State) (d word : Nat) (h : FldHit) : Nat :=
  let v := h.part word
  let old := s.r d h.f h.i
  match h.f.spec.acc with
  | .rw1c => old - (old &&& v)
  | .rw1s => old ||| v
  | _ => h.merge old v

/-- The written value is within the field's range. -/
def FldHit.inRange (h : FldHit) (word : Nat) : Bool :=
  let v := h.part word
  h.f.spec.rmax = 0 || h.f.spec.acc = .rw1c || (decide (h.f.spec.rmin ≤ v) && decide (v ≤ h.f.spec.rmax))

/-- A field of the register at hand as it would stand after the write. -/
def State.after (s : State) (d word : Nat) (hs : List FldHit) (f : Fld) (i : Nat := 0) : Nat :=
  match hs.find? (fun h => h.f = f && h.i = i) with
  | some h => s.written d word h
  | none => s.r d f i

/-- The conditions that chapters give on fields of one register together, beyond each field's range. -/
def State.jointRange (s : State) (d blk off word : Nat) (hs : List FldHit) : Bool :=
  let v (f : Fld) := s.after d word hs f
  match blk, off with
  | 0x05, 0x8 => decide (v (.bgw .THERM_CFG_shed_c) ≤ v (.bgw .THERM_CFG_start_c)) &&
      decide (v (.bgw .THERM_CFG_start_c) + 1 < v (.bgw .THERM_CFG_full_c))
  | 0x09, 0x4 => decide (v (.pwr .LOOP_CFG_target_lo_pct) < v (.pwr .LOOP_CFG_target_hi_pct)) &&
      decide (v (.pwr .LOOP_CFG_emerg_pct) < v (.pwr .LOOP_CFG_target_lo_pct))
  | 0x15, 0x40 => word % 2 ^ 26 = 0
  | 0x20, 0x18 => word % 2 ^ 24 = 0
  | 0x23, 0x10 => decide (v (.spg .EVICT_CFG_low_pct) < v (.spg .EVICT_CFG_high_pct))
  | 0x26, 0x8 => word % 2 ^ 24 = 0
  | 0x30, 0x4 => decide (4 * v (.pair .LEASE_CFG_renew_ms) ≤ v (.pair .LEASE_CFG_duration_ms))
  | 0x32, 0x4 => decide (s.r mdId (.bay .CFG_TRIP_trip_ma) * v (.bay .CFG_SENSE_rs_uohm) ≤ 45000000)
  | 0x32, 0x10 =>
    let trip := v (.bay .CFG_TRIP_trip_ma)
    decide (15 * s.r mdId (.bay .CFG_LIMIT_ilim_10ma) ≤ trip) && decide (trip * s.r mdId (.bay .CFG_SENSE_rs_uohm) ≤ 45000000)
  | _, _ => true

/-- Two valid WRT entries of a die overlap once entry i stands as a write leaves it (spec/20 R587). -/
def State.wrtOverlap (s : State) (d word i : Nat) (hs : List FldHit) : Bool :=
  let b := s.after d word hs (.sec .WRT_BASE_base_4k) i
  let n := s.after d word hs (.sec .WRT_SIZE_size_4k) i
  s.after d word hs (.sec .WRT_FLAGS_valid) i ≠ 0 && (List.range 64).any (fun k =>
    k ≠ i && s.rb d (.sec .WRT_FLAGS_valid) k &&
      decide (s.r d (.sec .WRT_BASE_base_4k) k < b + n) &&
      decide (b < s.r d (.sec .WRT_BASE_base_4k) k + s.r d (.sec .WRT_SIZE_size_4k) k))

/-- The present state allows a write of the register: the conditions that chapters put on it. -/
def State.writeAllowed (s : State) (d blk off word : Nat) (hs : List FldHit) : Bool :=
  match blk with
  | 0x04 => !(hs.any (fun h => match h.f with
      | .sec .WRT_BASE_base_4k | .sec .WRT_SIZE_size_4k | .sec .WRT_FLAGS_valid => s.wrtOverlap d word h.i hs
      | _ => false))
  | 0x06 => !(hs.any (fun h => (h.f = .pmc .CTR_CFG_secure || h.f = .pmc .CTR_CFG_host_visible) &&
      s.rbit d (.pmc .STATUS_running) h.i))
  | 0x09 => !(off = 0x8 && s.after d word hs (.pwr .LOOP_CFG2_hold) ≠ 0 && s.modeNow ≠ 0xA)
  | 0x15 => !((off = 0x40 || off = 0x44) && s.r d (.epf .LAND_STATUS_used) ≠ 0)
  | 0x26 => !((off = 0x8 || off = 0xC) && (List.range 4).any (fun g =>
      let p := s.r d (.rsh .G_STATE_phase) g
      p = 2 || p = 3 || p = 5))
  | 0x31 => !((off = 0x48 || off = 0x4C) && s.modeNow = 8)
  | 0x32 => !(decide (0x4 ≤ off) && decide (off ≤ 0x1C) && s.bays.any (fun n => between 4 (s.baySt n) 7))
  | _ => true

/-- What follows from a write: the landing area's check (spec/18 R517), and PAIR's or BAY's readers take the new values. -/
def State.afterWrite (s : State) (d blk off : Nat) : State :=
  if blk = 0x15 ∧ (off = 0x40 ∨ off = 0x44) then
    let b := s.r d (.epf .LAND_BASE)
    s.wb d (.epf .LAND_STATUS_valid) (b ≠ 0 && s.wrtCovers d b (2 ^ 26) true)
  else if blk = 0x01 ∧ d = 0 ∧ off = 0x34 then s.utcShow
  else if blk = 0x01 ∧ d = 0 ∧ off = 0x38 then s.ppsCheck
  else if blk = 0x10 ∧ d = 0 ∧ 0x1000 ≤ off ∧ off % 0x100 = 8 then s.lanesFollow
  else s

/-- A write that the writer's world may make, of the plain fields of a register (R11): a locked RWL field (spec/20 R566), a
value out of range or a state that forbids it discards the write. -/
def State.writeFields (s : State) (q : Req) (d blk off word : Nat) (hs : List FldHit) : State :=
  let a := pkgAddr d blk off
  if hs.isEmpty then s
  else if hs.any (fun h => h.f.spec.acc = .rwl) && s.rb d (.sec .STATUS_locked) then
    ((s.bump d 0x04 1).ev d (.sec .EVENTS_locked_write)).log d blk (.common 4) [a] q.secure
  else if !(hs.all (fun h => h.inRange word) && s.jointRange d blk off word hs) then s.log d blk (.common 1) [a, word] q.secure
  else if !s.writeAllowed d blk off word hs then s.log d blk (.common 2) [a, word] q.secure
  else (foldS (fun (s : State) h => s.w d h.f (s.written d word h) h.i) s hs).afterWrite d blk off

/-- The F fields of a connection context with word k written (spec/07 R174). -/
def connFSet (f : ConnF) (k v : Nat) : ConnF :=
  let put (n x : Nat) : List Nat := (List.range 4).map (fun j =>
    if j = 2 * n then x % 65536 else if j = 2 * n + 1 then x / 65536 else f.udpSrc.getD j 0)
  match k with
  | 1 => { f with remoteQpn := v }
  | 2 => { f with host := v % 65536, pd := v / 65536 }
  | 3 => { f with flags := v % 256, pmtu := v / 256 % 256, paths := v / 65536 % 256, slotLimit := v / 2 ^ 24 }
  | 4 => { f with epsn := v }
  | 6 => { f with txNext := v }
  | 9 => { f with ackTimeout := v % 256, retryCnt := v / 256 % 256, rnrRetry := v / 65536 % 256 }
  | 10 => { f with rnrTimer := v % 256, tclass := v / 256 % 256 }
  | 11 => { f with port := v % 65536 }
  | 12 => { f with udpSrc := put 0 v }
  | 13 => { f with udpSrc := put 1 v }
  | 14 => { f with destMac := f.destMac / 2 ^ 32 * 2 ^ 32 + v }
  | 15 => { f with destMac := v % 65536 * 2 ^ 32 + f.destMac % 2 ^ 32 }
  | k => if 16 ≤ k ∧ k < 20 then
      { f with remoteIp := f.remoteIp - f.remoteIp / 2 ^ (32 * (k - 16)) % 2 ^ 32 * 2 ^ (32 * (k - 16)) + v * 2 ^ (32 * (k - 16)) }
    else f

/-- Words of a connection context that hold an F field. -/
def connFWord (k : Nat) : Bool :=
  [1, 2, 3, 4, 6, 9, 10, 11, 12, 13, 14, 15, 16, 17, 18, 19].contains k || decide (32 ≤ k)

/-- A write of word k of a context: taken in Init only, else a refused write (spec/07 R174, R175). -/
def State.connWrite (s : State) (q : Req) (d i k v off : Nat) : State :=
  let c := s.conn d i
  if !connFWord k then s
  else if c.state ≠ 1 then
    ((s.bump d 0x04 2).ev d (.sec .EVENTS_refused_write)).log d 0x20 (.common 2) [pkgAddr d 0x20 off, v] q.secure
  else if 32 ≤ k then s.setConn d i { c with firm := alPut c.firm k v }
  else s.setConn d i { c with f := connFSet c.f k v }

/-- The F fields of a region entry with word k written (spec/07 R188). -/
def regionFSet (f : RegionF) (k v : Nat) : RegionF :=
  match k with
  | 0 => { f with flags := v / 256 % 256 }
  | 1 => { f with pd := v % 65536 }
  | 2 => { f with base := f.base / 2 ^ 32 * 2 ^ 32 + v }
  | 3 => { f with base := v * 2 ^ 32 + f.base % 2 ^ 32 }
  | 4 => { f with length := v }
  | 5 => { f with conn := v }
  | _ => f

/-- A write of word k of a region entry: taken while Free, else counted in reg_refused. -/
def State.regionWrite (s : State) (d i k v : Nat) : State :=
  let r := s.region d i
  if 6 ≤ k then s
  else if r.state ≠ 0 then s.rdxBump d 12
  else s.setRegion d i { r with f := regionFSet r.f k v }

/-- A non-secure write that spec/22 R609 denies beyond the worlds of the fields: START_AT, SNAP_AT and CTR_CFG. -/
def State.pmcLimits (s : State) (q : Req) (d blk off : Nat) : Bool :=
  blk = 0x06 &&
    ((decide (0x10 ≤ off) && decide (off < 0x20) && s.pmcDenied q d 0) ||
      (decide (0x40 ≤ off) && decide (off < 0xC0) && decide (off % 16 = 0) && s.pmcDenied q d (2 ^ ((off - 0x40) / 16))))

/-- A write that ends at a register of a local die (R11, R13). -/
def State.writeReg (s : State) (q : Req) (d blk off word : Nat) : State :=
  let s := s.pmcFeed d 0x06020000 1
  if blk = 0x20 ∧ 1 ≤ d ∧ d ≤ 6 ∧ 0x10000 ≤ off ∧ off < 0x110000 then
    s.connWrite q d ((off - 0x10000) / 256) (off / 4 % 64) word off
  else if blk = 0x20 ∧ 1 ≤ d ∧ d ≤ 6 ∧ 0x200000 ≤ off ∧ off < 0x400000 then
    s.regionWrite d ((off - 0x200000) / 32) (off / 4 % 8) word
  else if s.pmcLimits q d blk off then s.worldViolation q d blk off true
  else
    let hs := fieldsAt d blk off
    let no := hs.filter (fun h => !h.mayWrite q.secure && !h.apart)
    let yes := hs.filter (fun h => h.mayWrite q.secure && h.plain)
    let t := if no.any (s.wouldChange d word) then s.worldViolation q d blk off true else s
    t.writeFields q d blk off word yes

/-- REGISTER_WRITE (R11, R13): a write of a package address; `full` is an access of 32 bits.  What reaches a partner die is
the partner's. -/
def execRegisterWrite (q : Req) (addr : BitVec 40) (full : Bool) (v : Word) (s : State) : Out :=
  let a := addr.toNat
  match s.dest a full with
  | .reg d blk off => .next (s.writeReg q d blk off v.toNat)
  | .partner => .next (s.toPartner q a)
  | e => .next (s.destError q a true e)

end Sys2Proof.Machine
end

