-- ==== Sys2Proof/Machine/Dispatch.lean ====
section
/-! DEFINITION. Which meaning each command has: one arm for each constructor. -/

namespace Sys2Proof.Machine

/-- The effect of a command on everything but the queue of waiting commands. -/
def exec (i : Instr) (s : State) : Host.Outcome State Fault Refusal :=
  match i with
  | .registerWrite q addr full v => Sys2Proof.Machine.execRegisterWrite q addr full v s
  | .loRegisterRead q addr full => Sys2Proof.Machine.execLoRegisterRead q addr full s
  | .latticeMessageForward hop join dst tag secure => Sys2Proof.Machine.execLatticeMessageForward hop join dst tag secure s
  | .ringMarker rtt => Sys2Proof.Machine.execRingMarker rtt s
  | .modeTriggerEvaluate held => Sys2Proof.Machine.execModeTriggerEvaluate held s
  | .quarantineRootPortHold => Sys2Proof.Machine.execQuarantineRootPortHold s
  | .modeTimeLimitExpiry => Sys2Proof.Machine.execModeTimeLimitExpiry s
  | .bringupWorkComplete => Sys2Proof.Machine.execBringupWorkComplete s
  | .maintenanceDrainLimitExpiry => Sys2Proof.Machine.execMaintenanceDrainLimitExpiry s
  | .maintenanceDrainComplete => Sys2Proof.Machine.execMaintenanceDrainComplete s
  | .modeCmdEnterMaintenance q => Sys2Proof.Machine.execModeCmdEnterMaintenance q s
  | .modeCmdReleaseMaintenance q => Sys2Proof.Machine.execModeCmdReleaseMaintenance q s
  | .pairBGateWaitExpiry held => Sys2Proof.Machine.execPairBGateWaitExpiry held s
  | .pairingWaitExpiry => Sys2Proof.Machine.execPairingWaitExpiry s
  | .channelRecoveryLimitExpiry c => Sys2Proof.Machine.execChannelRecoveryLimitExpiry c s
  | .channelDisableCommand c => Sys2Proof.Machine.execChannelDisableCommand c s
  | .channelDisableDrainComplete c => Sys2Proof.Machine.execChannelDisableDrainComplete c s
  | .channelDisableDrainLimitExpiry c => Sys2Proof.Machine.execChannelDisableDrainLimitExpiry c s
  | .channelFail c => Sys2Proof.Machine.execChannelFail c s
  | .errorBoundUpdate => Sys2Proof.Machine.execErrorBoundUpdate s
  | .ptpMessageReceived port m => Sys2Proof.Machine.execPtpMessageReceived port m s
  | .sourceValidityTimeout port announce sync pps => Sys2Proof.Machine.execSourceValidityTimeout port announce sync pps s
  | .ppsInputEdge at_ sec => Sys2Proof.Machine.execPpsInputEdge at_ sec s
  | .ref10mCheck missing ppm => Sys2Proof.Machine.execRef10mCheck missing ppm s
  | .firstLockWaitExpiry => Sys2Proof.Machine.execFirstLockWaitExpiry s
  | .ts64Seed expiries => Sys2Proof.Machine.execTs64Seed expiries s
  | .timeDistributionSend => Sys2Proof.Machine.execTimeDistributionSend s
  | .timeDistributionReceive die residence => Sys2Proof.Machine.execTimeDistributionReceive die residence s
  | .timeMessageLoss die => Sys2Proof.Machine.execTimeMessageLoss die s
  | .timeDisagreeEpisodeEnd => Sys2Proof.Machine.execTimeDisagreeEpisodeEnd s
  | .scheduleEntryFire die idx => Sys2Proof.Machine.execScheduleEntryFire die idx s
  | .scheduleWindowClose die idx => Sys2Proof.Machine.execScheduleWindowClose die idx s
  | .timSchedCommit q die => Sys2Proof.Machine.execTimSchedCommit q die s
  | .timSchedWrite q die idx k v => Sys2Proof.Machine.execTimSchedWrite q die idx k v s
  | .ppsOutputPulse => Sys2Proof.Machine.execPpsOutputPulse s
  | .ppsOutputWidthEnd => Sys2Proof.Machine.execPpsOutputWidthEnd s
  | .utcLeapOffsetChange => Sys2Proof.Machine.execUtcLeapOffsetChange s
  | .configImageLoad a b sel0 sel1 => Sys2Proof.Machine.execConfigImageLoad a b sel0 sel1 s
  | .imgStageStart q cancelToo => Sys2Proof.Machine.execImgStageStart q cancelToo s
  | .imgStageCancel q => Sys2Proof.Machine.execImgStageCancel q s
  | .stagingComplete nvmOk => Sys2Proof.Machine.execStagingComplete nvmOk s
  | .stageReportReceived digest epoch cancel => Sys2Proof.Machine.execStageReportReceived digest epoch cancel s
  | .stageAgreementDeadline => Sys2Proof.Machine.execStageAgreementDeadline s
  | .epochSwitch => Sys2Proof.Machine.execEpochSwitch s
  | .oldBankRelease die => Sys2Proof.Machine.execOldBankRelease die s
  | .laneAcquireComplete lane snr => Sys2Proof.Machine.execLaneAcquireComplete lane snr s
  | .laneTrainingComplete lane taps => Sys2Proof.Machine.execLaneTrainingComplete lane taps s
  | .laneTrainingTimeout lane => Sys2Proof.Machine.execLaneTrainingTimeout lane s
  | .laneSignalLoss lane => Sys2Proof.Machine.execLaneSignalLoss lane s
  | .laneFaultRecovery lane => Sys2Proof.Machine.execLaneFaultRecovery lane s
  | .laneUpdateBoundary lane adapted => Sys2Proof.Machine.execLaneUpdateBoundary lane adapted s
  | .laneFreezeWrite q lane ctle ffe dfe => Sys2Proof.Machine.execLaneFreezeWrite q lane ctle ffe dfe s
  | .laneSnap q lane => Sys2Proof.Machine.execLaneSnap q lane s
  | .laneRxeqWrite q lane ffe v => Sys2Proof.Machine.execLaneRxeqWrite q lane ffe v s
  | .laneTxeqWrite q lane v => Sys2Proof.Machine.execLaneTxeqWrite q lane v s
  | .serdesRecalLane group => Sys2Proof.Machine.execSerdesRecalLane group s
  | .portLinkUp port => Sys2Proof.Machine.execPortLinkUp port s
  | .portLinkFault port sending => Sys2Proof.Machine.execPortLinkFault port sending s
  | .remoteFaultReceived port ends sending => Sys2Proof.Machine.execRemoteFaultReceived port ends sending s
  | .fecDegradeWindowEnd port corrected uncorrected symbols => Sys2Proof.Machine.execFecDegradeWindowEnd port corrected uncorrected symbols s
  | .frameReceived port f => Sys2Proof.Machine.execFrameReceived port f s
  | .gratuitousRepeat => Sys2Proof.Machine.execGratuitousRepeat s
  | .frameTransmit port payload cls express => Sys2Proof.Machine.execFrameTransmit port payload cls express s
  | .preemptVerifyTimeout port => Sys2Proof.Machine.execPreemptVerifyTimeout port s
  | .preemptRespondReceived port => Sys2Proof.Machine.execPreemptRespondReceived port s
  | .fragmentReceived port start frag bytes crcOk last f => Sys2Proof.Machine.execFragmentReceived port start frag bytes crcOk last f s
  | .ethSnapshot q port => Sys2Proof.Machine.execEthSnapshot q port s
  | .cellForward underruns => Sys2Proof.Machine.execCellForward underruns s
  | .replicationPass => Sys2Proof.Machine.execReplicationPass s
  | .recirculatedFrame loopback lport => Sys2Proof.Machine.execRecirculatedFrame loopback lport s
  | .mcastGroupWrite q g valid members => Sys2Proof.Machine.execMcastGroupWrite q g valid members s
  | .mcastHoldRelease g => Sys2Proof.Machine.execMcastHoldRelease g s
  | .swxLoopbackWrite q v => Sys2Proof.Machine.execSwxLoopbackWrite q v s
  | .outLimitWrite q p green yellow red => Sys2Proof.Machine.execOutLimitWrite q p green yellow red s
  | .transmitOpportunity port => Sys2Proof.Machine.execTransmitOpportunity port s
  | .schedulerStaleDrop port => Sys2Proof.Machine.execSchedulerStaleDrop port s
  | .gateEntryAdvance port => Sys2Proof.Machine.execGateEntryAdvance port s
  | .swxSnapshot q port => Sys2Proof.Machine.execSwxSnapshot q port s
  | .polSnapshot q id clear => Sys2Proof.Machine.execPolSnapshot q id clear s
  | .cmRequest bytes block version flags paths slots channel => Sys2Proof.Machine.execCmRequest bytes block version flags paths slots channel s
  | .connOpen d conn => Sys2Proof.Machine.execConnOpen d conn s
  | .connReady d conn => Sys2Proof.Machine.execConnReady d conn s
  | .connDrain d conn => Sys2Proof.Machine.execConnDrain d conn s
  | .connErrorCmd d conn => Sys2Proof.Machine.execConnErrorCmd d conn s
  | .connFree d conn => Sys2Proof.Machine.execConnFree d conn s
  | .connShadow d conn => Sys2Proof.Machine.execConnShadow d conn s
  | .rdmaPacketReceived d p => Sys2Proof.Machine.execRdmaPacketReceived d p s
  | .multipathPacketReceived d p => Sys2Proof.Machine.execMultipathPacketReceived d p s
  | .ackDelayExpiry d conn => Sys2Proof.Machine.execAckDelayExpiry d conn s
  | .placementConfirm d conn ticket => Sys2Proof.Machine.execPlacementConfirm d conn ticket s
  | .sendDelivery d conn => Sys2Proof.Machine.execSendDelivery d conn s
  | .retransmitTimeout d conn => Sys2Proof.Machine.execRetransmitTimeout d conn s
  | .ackReceived d conn psn msn => Sys2Proof.Machine.execAckReceived d conn psn msn s
  | .nakReceived d conn sequence psn => Sys2Proof.Machine.execNakReceived d conn sequence psn s
  | .rnrNakReceived d conn timer psn => Sys2Proof.Machine.execRnrNakReceived d conn timer psn s
  | .rnrHoldExpiry d conn => Sys2Proof.Machine.execRnrHoldExpiry d conn s
  | .cnpReceived d conn => Sys2Proof.Machine.execCnpReceived d conn s
  | .rateRecoverStep d conn => Sys2Proof.Machine.execRateRecoverStep d conn s
  | .workRequestSend d n w => Sys2Proof.Machine.execWorkRequestSend d n w s
  | .regionRegister d idx => Sys2Proof.Machine.execRegionRegister d idx s
  | .regionRevoke d idx => Sys2Proof.Machine.execRegionRevoke d idx s
  | .revocationComplete d idx => Sys2Proof.Machine.execRevocationComplete d idx s
  | .revokeDonePop d => Sys2Proof.Machine.execRevokeDonePop d s
  | .chainArm d n h ws reservedZero => Sys2Proof.Machine.execChainArm d n h ws reservedZero s
  | .chainCancel d n => Sys2Proof.Machine.execChainCancel d n s
  | .chainFirmwareTrigger d n => Sys2Proof.Machine.execChainFirmwareTrigger d n s
  | .chainTrigger d n kind key ok => Sys2Proof.Machine.execChainTrigger d n kind key ok s
  | .chainFailPop d => Sys2Proof.Machine.execChainFailPop d s
  | .rdxSnapshot q d => Sys2Proof.Machine.execRdxSnapshot q d s
  | .fabricsConnect d k subnqn hostnqn hostId qid sqsize cntlid kato => Sys2Proof.Machine.execFabricsConnect d k subnqn hostnqn hostId qid sqsize cntlid kato s
  | .fabricsDisconnect d k => Sys2Proof.Machine.execFabricsDisconnect d k s
  | .propertyGet d k => Sys2Proof.Machine.execPropertyGet d k s
  | .propertySet d k => Sys2Proof.Machine.execPropertySet d k s
  | .controllerShutdownComplete d host => Sys2Proof.Machine.execControllerShutdownComplete d host s
  | .ioFlush d k => Sys2Proof.Machine.execIoFlush d k s
  | .ioWrite d k data => Sys2Proof.Machine.execIoWrite d k data s
  | .ioRead d k ecc => Sys2Proof.Machine.execIoRead d k ecc s
  | .ioWriteZeroes d k => Sys2Proof.Machine.execIoWriteZeroes d k s
  | .ioDatasetManagement d k => Sys2Proof.Machine.execIoDatasetManagement d k s
  | .reservationRegister d k => Sys2Proof.Machine.execReservationRegister d k s
  | .reservationReport d k => Sys2Proof.Machine.execReservationReport d k s
  | .reservationAcquire d k => Sys2Proof.Machine.execReservationAcquire d k s
  | .reservationRelease d k => Sys2Proof.Machine.execReservationRelease d k s
  | .reservationRecordWritten d nsid => Sys2Proof.Machine.execReservationRecordWritten d nsid s
  | .resumeOpen d k => Sys2Proof.Machine.execResumeOpen d k s
  | .resume d k => Sys2Proof.Machine.execResume d k s
  | .pushRegionInfo d k => Sys2Proof.Machine.execPushRegionInfo d k s
  | .spongeSpaceReserved d k data => Sys2Proof.Machine.execSpongeSpaceReserved d k data s
  | .writeCommit d k => Sys2Proof.Machine.execWriteCommit d k s
  | .readWaitEnd d k => Sys2Proof.Machine.execReadWaitEnd d k s
  | .readAssembled d k => Sys2Proof.Machine.execReadAssembled d k s
  | .flushConditionMet d k => Sys2Proof.Machine.execFlushConditionMet d k s
  | .adminAbort d k => Sys2Proof.Machine.execAdminAbort d k s
  | .abortCidWrite d cid => Sys2Proof.Machine.execAbortCidWrite d cid s
  | .abortCancelAcknowledged d k => Sys2Proof.Machine.execAbortCancelAcknowledged d k s
  | .cmdGateWrite d v => Sys2Proof.Machine.execCmdGateWrite d v s
  | .replayFloorWrite d hi => Sys2Proof.Machine.execReplayFloorWrite d hi s
  | .orphanHoldExpiry d k => Sys2Proof.Machine.execOrphanHoldExpiry d k s
  | .resumeHoldExpiry d conn => Sys2Proof.Machine.execResumeHoldExpiry d conn s
  | .takeoverFilterExpiry d => Sys2Proof.Machine.execTakeoverFilterExpiry d s
  | .cmdSnapshot q d => Sys2Proof.Machine.execCmdSnapshot q d s
  | .keepAlive d k => Sys2Proof.Machine.execKeepAlive d k s
  | .keepAliveTimeout d host => Sys2Proof.Machine.execKeepAliveTimeout d host s
  | .getLogPage d k => Sys2Proof.Machine.execGetLogPage d k s
  | .identify d k => Sys2Proof.Machine.execIdentify d k s
  | .setFeatures d k => Sys2Proof.Machine.execSetFeatures d k s
  | .getFeatures d k => Sys2Proof.Machine.execGetFeatures d k s
  | .asyncEventRequest d k => Sys2Proof.Machine.execAsyncEventRequest d k s
  | .formatNvm d k => Sys2Proof.Machine.execFormatNvm d k s
  | .formatDrainComplete d nsid => Sys2Proof.Machine.execFormatDrainComplete d nsid s
  | .sanitize d k => Sys2Proof.Machine.execSanitize d k s
  | .keyReplacement d n => Sys2Proof.Machine.execKeyReplacement d n s
  | .partnerGenerationCommitted d n => Sys2Proof.Machine.execPartnerGenerationCommitted d n s
  | .zeroFillCheckpoint d nsid blocks => Sys2Proof.Machine.execZeroFillCheckpoint d nsid blocks s
  | .formatFillComplete d nsid => Sys2Proof.Machine.execFormatFillComplete d nsid s
  | .sanitizeFillComplete d ok => Sys2Proof.Machine.execSanitizeFillComplete d ok s
  | .clearDeferredRange nsid slba nlb owner => Sys2Proof.Machine.execClearDeferredRange nsid slba nlb owner s
  | .namespaceDrainLimitExpiry d nsid => Sys2Proof.Machine.execNamespaceDrainLimitExpiry d nsid s
  | .namespaceDrainComplete d nsid => Sys2Proof.Machine.execNamespaceDrainComplete d nsid s
  | .evictionStep d => Sys2Proof.Machine.execEvictionStep d s
  | .holdTimeAdjust d g => Sys2Proof.Machine.execHoldTimeAdjust d g s
  | .stripeUpdateStart d g t => Sys2Proof.Machine.execStripeUpdateStart d g t s
  | .stripeReadsComplete d g t => Sys2Proof.Machine.execStripeReadsComplete d g t s
  | .stripeWritesComplete d g t => Sys2Proof.Machine.execStripeWritesComplete d g t s
  | .retireCrumbWrite d seq => Sys2Proof.Machine.execRetireCrumbWrite d seq s
  | .mirrorCrumbsReceived d c data located => Sys2Proof.Machine.execMirrorCrumbsReceived d c data located s
  | .mirrorCrumbPlaced d => Sys2Proof.Machine.execMirrorCrumbPlaced d s
  | .mirrorAckSend d => Sys2Proof.Machine.execMirrorAckSend d s
  | .mirrorAckReceived d a tableAck => Sys2Proof.Machine.execMirrorAckReceived d a tableAck s
  | .mirrorMatchTimeout d => Sys2Proof.Machine.execMirrorMatchTimeout d s
  | .scrubLine d result dropped reader => Sys2Proof.Machine.execScrubLine d result dropped reader s
  | .repairFrameReceived d nsid lba seq reply => Sys2Proof.Machine.execRepairFrameReceived d nsid lba seq reply s
  | .arbiterGrant d pending => Sys2Proof.Machine.execArbiterGrant d pending s
  | .arbWindowEnd d => Sys2Proof.Machine.execArbWindowEnd d s
  | .arbCommit d => Sys2Proof.Machine.execArbCommit d s
  | .arbFreezeWrite d mask => Sys2Proof.Machine.execArbFreezeWrite d mask s
  | .dirtyCeilingWrite q d mib => Sys2Proof.Machine.execDirtyCeilingWrite q d mib s
  | .spgSnapshot q d => Sys2Proof.Machine.execSpgSnapshot q d s
  | .arbSnapshot q d => Sys2Proof.Machine.execArbSnapshot q d s
  | .driveCommandCompletion d bay cid sct sc data => Sys2Proof.Machine.execDriveCommandCompletion d bay cid sct sc data s
  | .groupRecordWriteComplete d g => Sys2Proof.Machine.execGroupRecordWriteComplete d g s
  | .bitmapBitClearDue d g region => Sys2Proof.Machine.execBitmapBitClearDue d g region s
  | .spareDelayExpiry d g pos => Sys2Proof.Machine.execSpareDelayExpiry d g pos s
  | .gCmdTakeTarget d g => Sys2Proof.Machine.execGCmdTakeTarget d g s
  | .gCmdHoldPass d g => Sys2Proof.Machine.execGCmdHoldPass d g s
  | .gCmdReleasePass d g => Sys2Proof.Machine.execGCmdReleasePass d g s
  | .gCmdFullResync d g => Sys2Proof.Machine.execGCmdFullResync d g s
  | .rebuildStep d g => Sys2Proof.Machine.execRebuildStep d g s
  | .rebuildCheckpoint d g => Sys2Proof.Machine.execRebuildCheckpoint d g s
  | .resyncStripe d g => Sys2Proof.Machine.execResyncStripe d g s
  | .grpSnapshot q d => Sys2Proof.Machine.execGrpSnapshot q d s
  | .reshapeStepStart d g => Sys2Proof.Machine.execReshapeStepStart d g s
  | .reshapeStepReadsComplete d g => Sys2Proof.Machine.execReshapeStepReadsComplete d g s
  | .reshapeBackupWritten d g => Sys2Proof.Machine.execReshapeBackupWritten d g s
  | .reshapeStepCommit d g => Sys2Proof.Machine.execReshapeStepCommit d g s
  | .reshapeCancel q d g => Sys2Proof.Machine.execReshapeCancel q d g s
  | .reshapeHold q d g => Sys2Proof.Machine.execReshapeHold q d g s
  | .reshapeRelease q d g => Sys2Proof.Machine.execReshapeRelease q d g s
  | .reshapeSwitch d g => Sys2Proof.Machine.execReshapeSwitch d g s
  | .reshapeSwitchComplete d g => Sys2Proof.Machine.execReshapeSwitchComplete d g s
  | .rshSnapshot q d => Sys2Proof.Machine.execRshSnapshot q d s
  | .bayPerstRelease d bay => Sys2Proof.Machine.execBayPerstRelease d bay s
  | .driveLinkUp d bay speed width reversed => Sys2Proof.Machine.execDriveLinkUp d bay speed width reversed s
  | .driveLinkTrainingTimeout d bay => Sys2Proof.Machine.execDriveLinkTrainingTimeout d bay s
  | .driveEnumerationComplete d bay ok capTo => Sys2Proof.Machine.execDriveEnumerationComplete d bay ok capTo s
  | .driveControllerReady d bay cfs => Sys2Proof.Machine.execDriveControllerReady d bay cfs s
  | .driveReadyTimeout d bay => Sys2Proof.Machine.execDriveReadyTimeout d bay s
  | .driveIdentifyComplete d bay x => Sys2Proof.Machine.execDriveIdentifyComplete d bay x s
  | .driveLinkLoss d bay => Sys2Proof.Machine.execDriveLinkLoss d bay s
  | .downstreamPortContainment d bay => Sys2Proof.Machine.execDownstreamPortContainment d bay s
  | .driveCommandTimeout d bay cid => Sys2Proof.Machine.execDriveCommandTimeout d bay cid s
  | .driveAbortComplete d bay cid => Sys2Proof.Machine.execDriveAbortComplete d bay cid s
  | .driveAbortWaitExpiry d bay cid => Sys2Proof.Machine.execDriveAbortWaitExpiry d bay cid s
  | .healthPoll d bay m => Sys2Proof.Machine.execHealthPoll d bay m s
  | .driveAsyncEvent d bay smart m => Sys2Proof.Machine.execDriveAsyncEvent d bay smart m s
  | .drvLocateOn d bay => Sys2Proof.Machine.execDrvLocateOn d bay s
  | .drvLocateOff d bay => Sys2Proof.Machine.execDrvLocateOff d bay s
  | .drvClaim q d bay => Sys2Proof.Machine.execDrvClaim q d bay s
  | .drvRestartDiscovery q d bay => Sys2Proof.Machine.execDrvRestartDiscovery q d bay s
  | .drvSnapshot q d => Sys2Proof.Machine.execDrvSnapshot q d s
  | .keySlotLoad q die gcm n key equalHalves => Sys2Proof.Machine.execKeySlotLoad q die gcm n key equalHalves s
  | .keySlotClear q die gcm n => Sys2Proof.Machine.execKeySlotClear q die gcm n s
  | .keySlotFenceComplete die gcm n => Sys2Proof.Machine.execKeySlotFenceComplete die gcm n s
  | .gcmOpenResult d tag ok => Sys2Proof.Machine.execGcmOpenResult d tag ok s
  | .gcmDonePop d => Sys2Proof.Machine.execGcmDonePop d s
  | .cipSnapshot q die => Sys2Proof.Machine.execCipSnapshot q die s
  | .partnerFrameReceived type seq ack inv sealing phase fcsOk tagOk sub => Sys2Proof.Machine.execPartnerFrameReceived type seq ack inv sealing phase fcsOk tagOk sub s
  | .partnerNakReceived ack => Sys2Proof.Machine.execPartnerNakReceived ack s
  | .partnerLinkAckSend => Sys2Proof.Machine.execPartnerLinkAckSend s
  | .heartbeatSend => Sys2Proof.Machine.execHeartbeatSend s
  | .heartbeatReceived h => Sys2Proof.Machine.execHeartbeatReceived h s
  | .partnerLost cause => Sys2Proof.Machine.execPartnerLost cause s
  | .helloSend => Sys2Proof.Machine.execHelloSend s
  | .helloReceived h => Sys2Proof.Machine.execHelloReceived h s
  | .authenticationReceived chainOk ownerOk sigOk secret rootDiffers => Sys2Proof.Machine.execAuthenticationReceived chainOk ownerOk sigOk secret rootDiffers s
  | .rekeyPhaseStart => Sys2Proof.Machine.execRekeyPhaseStart s
  | .rekeyAnnounceReceived phase => Sys2Proof.Machine.execRekeyAnnounceReceived phase s
  | .rekeyAckReceived phase => Sys2Proof.Machine.execRekeyAckReceived phase s
  | .keyReportReceived key => Sys2Proof.Machine.execKeyReportReceived key s
  | .acquisitionStateReceived st => Sys2Proof.Machine.execAcquisitionStateReceived st s
  | .replicatedFrameReceived d p => Sys2Proof.Machine.execReplicatedFrameReceived d p s
  | .carriedDataReceived d seq first data => Sys2Proof.Machine.execCarriedDataReceived d seq first data s
  | .tableEventReceived d seq event conn f index region => Sys2Proof.Machine.execTableEventReceived d seq event conn f index region s
  | .seedFrameReceived d blocks crumbs => Sys2Proof.Machine.execSeedFrameReceived d blocks crumbs s
  | .pralineTransferReceived uuid root gens => Sys2Proof.Machine.execPralineTransferReceived uuid root gens s
  | .reseedComplete => Sys2Proof.Machine.execReseedComplete s
  | .leaseRenewalTick => Sys2Proof.Machine.execLeaseRenewalTick s
  | .leaseKick q => Sys2Proof.Machine.execLeaseKick q s
  | .leaseAcquisitionWrite d bay => Sys2Proof.Machine.execLeaseAcquisitionWrite d bay s
  | .leaseSlotWriteComplete d bay => Sys2Proof.Machine.execLeaseSlotWriteComplete d bay s
  | .leaseEvaluate => Sys2Proof.Machine.execLeaseEvaluate s
  | .hardwareLeaseTimerFire => Sys2Proof.Machine.execHardwareLeaseTimerFire s
  | .partnerSlotRead => Sys2Proof.Machine.execPartnerSlotRead s
  | .partnerSlotReadComplete d bay => Sys2Proof.Machine.execPartnerSlotReadComplete d bay s
  | .interlockClaimWindowEnd => Sys2Proof.Machine.execInterlockClaimWindowEnd s
  | .interlockInAssert asserted => Sys2Proof.Machine.execInterlockInAssert asserted s
  | .interlockClaimRetry => Sys2Proof.Machine.execInterlockClaimRetry s
  | .reservationFencingComplete d bay keys reserved => Sys2Proof.Machine.execReservationFencingComplete d bay keys reserved s
  | .pairCmdClearStale q => Sys2Proof.Machine.execPairCmdClearStale q s
  | .pairCmdHandover q => Sys2Proof.Machine.execPairCmdHandover q s
  | .pairCmdCancelHandover q => Sys2Proof.Machine.execPairCmdCancelHandover q s
  | .partnerLossH0 => Sys2Proof.Machine.execPartnerLossH0 s
  | .partnerLossUnmirror => Sys2Proof.Machine.execPartnerLossUnmirror s
  | .takeoverMajorityTimeout => Sys2Proof.Machine.execTakeoverMajorityTimeout s
  | .handoverRequestReceived => Sys2Proof.Machine.execHandoverRequestReceived s
  | .handoverAcceptReceived => Sys2Proof.Machine.execHandoverAcceptReceived s
  | .handoverAnswerTimeout => Sys2Proof.Machine.execHandoverAnswerTimeout s
  | .handoverQuiesced => Sys2Proof.Machine.execHandoverQuiesced s
  | .handoverGoReceived => Sys2Proof.Machine.execHandoverGoReceived s
  | .handoverDoneReceived => Sys2Proof.Machine.execHandoverDoneReceived s
  | .gateOfferReceived mask => Sys2Proof.Machine.execGateOfferReceived mask s
  | .gateReleaseHoldExpiry => Sys2Proof.Machine.execGateReleaseHoldExpiry s
  | .gateReleasedReceived bay level sampled count left => Sys2Proof.Machine.execGateReleasedReceived bay level sampled count left s
  | .gateTakenReceived mask => Sys2Proof.Machine.execGateTakenReceived mask s
  | .gateWatchSample held => Sys2Proof.Machine.execGateWatchSample held s
  | .pairSnapshot q die => Sys2Proof.Machine.execPairSnapshot q die s
  | .powerWarningAssert psu mv => Sys2Proof.Machine.execPowerWarningAssert psu mv s
  | .powerWarningDeassert mv => Sys2Proof.Machine.execPowerWarningDeassert mv s
  | .flushRecordWriteComplete d bay => Sys2Proof.Machine.execFlushRecordWriteComplete d bay s
  | .holdupDeadlineExpiry => Sys2Proof.Machine.execHoldupDeadlineExpiry s
  | .flsBudgetWrite q holdup mbps => Sys2Proof.Machine.execFlsBudgetWrite q holdup mbps s
  | .channelStart d band => Sys2Proof.Machine.execChannelStart d band s
  | .replayComplete d => Sys2Proof.Machine.execReplayComplete d s
  | .flsSnapshot q die => Sys2Proof.Machine.execFlsSnapshot q die s
  | .sidebandScan marker seatA seatB present => Sys2Proof.Machine.execSidebandScan marker seatA seatB present s
  | .seatDebounceExpiry bay => Sys2Proof.Machine.execSeatDebounceExpiry bay s
  | .bayRampStart bay => Sys2Proof.Machine.execBayRampStart bay s
  | .bayLoopStep bay iout vout vgate v12 => Sys2Proof.Machine.execBayLoopStep bay iout vout vgate v12 s
  | .bayPowerGood bay => Sys2Proof.Machine.execBayPowerGood bay s
  | .bayPowerGoodLoss bay => Sys2Proof.Machine.execBayPowerGoodLoss bay s
  | .bayLimitEntry bay => Sys2Proof.Machine.execBayLimitEntry bay s
  | .bayLimitExit bay => Sys2Proof.Machine.execBayLimitExit bay s
  | .bayLimitTimeout bay => Sys2Proof.Machine.execBayLimitTimeout bay s
  | .bayFastTrip bay => Sys2Proof.Machine.execBayFastTrip bay s
  | .bayShortAtStart bay => Sys2Proof.Machine.execBayShortAtStart bay s
  | .bayGateNotRising bay => Sys2Proof.Machine.execBayGateNotRising bay s
  | .bayRampTimeout bay => Sys2Proof.Machine.execBayRampTimeout bay s
  | .fetThermalUpdate bay => Sys2Proof.Machine.execFetThermalUpdate bay s
  | .thermistorSample bay half => Sys2Proof.Machine.execThermistorSample bay half s
  | .bayBackoffExpiry bay => Sys2Proof.Machine.execBayBackoffExpiry bay s
  | .bayRetryCountClear bay => Sys2Proof.Machine.execBayRetryCountClear bay s
  | .bayPrechargeTimeout bay => Sys2Proof.Machine.execBayPrechargeTimeout bay s
  | .vgdLow => Sys2Proof.Machine.execVgdLow s
  | .vgdOkRestored => Sys2Proof.Machine.execVgdOkRestored s
  | .bayCmdOn q bay => Sys2Proof.Machine.execBayCmdOn q bay s
  | .bayCmdOff q bay => Sys2Proof.Machine.execBayCmdOff q bay s
  | .bayCmdClearRetries q bay => Sys2Proof.Machine.execBayCmdClearRetries q bay s
  | .bayEpwLeadExpiry bay => Sys2Proof.Machine.execBayEpwLeadExpiry bay s
  | .gateGuardDischarge bay vgate vout => Sys2Proof.Machine.execGateGuardDischarge bay vgate vout s
  | .baySnapshot q => Sys2Proof.Machine.execBaySnapshot q s
  | .epCcEnable fn iosqes iocqes mps ams asq acq bme => Sys2Proof.Machine.execEpCcEnable fn iosqes iocqes mps ams asq acq bme s
  | .epCcDisable fn => Sys2Proof.Machine.execEpCcDisable fn s
  | .epShutdown fn shn => Sys2Proof.Machine.execEpShutdown fn shn s
  | .epShutdownComplete fn => Sys2Proof.Machine.execEpShutdownComplete fn s
  | .epSqDoorbell fn q tail => Sys2Proof.Machine.execEpSqDoorbell fn q tail s
  | .epCqDoorbell fn q head => Sys2Proof.Machine.execEpCqDoorbell fn q head s
  | .epFetchTurn => Sys2Proof.Machine.execEpFetchTurn s
  | .epSqFetchComplete tag entries => Sys2Proof.Machine.execEpSqFetchComplete tag entries s
  | .epCreateIoSq fn cid => Sys2Proof.Machine.execEpCreateIoSq fn cid s
  | .epCreateIoCq fn cid => Sys2Proof.Machine.execEpCreateIoCq fn cid s
  | .epDeleteIoSq fn cid => Sys2Proof.Machine.execEpDeleteIoSq fn cid s
  | .epDeleteIoCq fn cid => Sys2Proof.Machine.execEpDeleteIoCq fn cid s
  | .epDataFetchComplete tag data info => Sys2Proof.Machine.execEpDataFetchComplete tag data info s
  | .epChainWorkRequest relaxed => Sys2Proof.Machine.execEpChainWorkRequest relaxed s
  | .epMsixSend fn vec enabled masked => Sys2Proof.Machine.execEpMsixSend fn vec enabled masked s
  | .epCompletionTimeout tag enc off => Sys2Proof.Machine.execEpCompletionTimeout tag enc off s
  | .epCompletionReceived tag bad => Sys2Proof.Machine.execEpCompletionReceived tag bad s
  | .epBmeClear fn => Sys2Proof.Machine.execEpBmeClear fn s
  | .epD3hotEntry fn pmeEn => Sys2Proof.Machine.execEpD3hotEntry fn pmeEn s
  | .epFlr fn => Sys2Proof.Machine.execEpFlr fn s
  | .epVfDisable n => Sys2Proof.Machine.execEpVfDisable n s
  | .epConventionalReset perst hot => Sys2Proof.Machine.execEpConventionalReset perst hot s
  | .epResetComplete fn => Sys2Proof.Machine.execEpResetComplete fn s
  | .epfSnapshot q => Sys2Proof.Machine.execEpfSnapshot q s
  | .lockstepMismatch => Sys2Proof.Machine.execLockstepMismatch s
  | .secureWatchdogExpiry => Sys2Proof.Machine.execSecureWatchdogExpiry s
  | .nsWatchdogExpiry => Sys2Proof.Machine.execNsWatchdogExpiry s
  | .secureWatchdogKick q => Sys2Proof.Machine.execSecureWatchdogKick q s
  | .nsWatchdogKick => Sys2Proof.Machine.execNsWatchdogKick s
  | .pldmRequestUpdate binding comp => Sys2Proof.Machine.execPldmRequestUpdate binding comp s
  | .pldmFirmwareData bytes fw cfg err => Sys2Proof.Machine.execPldmFirmwareData bytes fw cfg err s
  | .firmwareUpdateVerified => Sys2Proof.Machine.execFirmwareUpdateVerified s
  | .pldmActivateFirmware => Sys2Proof.Machine.execPldmActivateFirmware s
  | .pldmCancelUpdate binding => Sys2Proof.Machine.execPldmCancelUpdate binding s
  | .pldmTransferTimeout => Sys2Proof.Machine.execPldmTransferTimeout s
  | .mctpControlMessage binding cmd eid => Sys2Proof.Machine.execMctpControlMessage binding cmd eid s
  | .nvmeMiCommand binding op => Sys2Proof.Machine.execNvmeMiCommand binding op s
  | .miAdminCommand binding ctrl op nsid cdw10 => Sys2Proof.Machine.execMiAdminCommand binding ctrl op nsid cdw10 s
  | .spdmRequest binding code index => Sys2Proof.Machine.execSpdmRequest binding code index s
  | .folricReadEventLog binding start n => Sys2Proof.Machine.execFolricReadEventLog binding start n s
  | .folricReadLedger binding seq off len => Sys2Proof.Machine.execFolricReadLedger binding seq off len s
  | .folricReadSensors binding first count => Sys2Proof.Machine.execFolricReadSensors binding first count s
  | .sgmiiDatagram kind => Sys2Proof.Machine.execSgmiiDatagram kind s
  | .eventLogAppend => Sys2Proof.Machine.execEventLogAppend s
  | .eventLogNvmCopy ok => Sys2Proof.Machine.execEventLogNvmCopy ok s
  | .suppressionPeriodEnd => Sys2Proof.Machine.execSuppressionPeriodEnd s
  | .sensorSample idx value => Sys2Proof.Machine.execSensorSample idx value s
  | .thermalTrip idx => Sys2Proof.Machine.execThermalTrip idx s
  | .qcauseRead => Sys2Proof.Machine.execQcauseRead s
  | .mgtSnapshot q => Sys2Proof.Machine.execMgtSnapshot q s
  | .proofingStart ok => Sys2Proof.Machine.execProofingStart ok s
  | .proofingDigestReceived die fwMatch cfgMatch digest => Sys2Proof.Machine.execProofingDigestReceived die fwMatch cfgMatch digest s
  | .proofingEnd holds ahead => Sys2Proof.Machine.execProofingEnd holds ahead s
  | .ledgerWriteComplete ok => Sys2Proof.Machine.execLedgerWriteComplete ok s
  | .ledgerWriteRetry => Sys2Proof.Machine.execLedgerWriteRetry s
  | .ownerEnrolment session owner => Sys2Proof.Machine.execOwnerEnrolment session owner s
  | .ownerTransfer session signed owner => Sys2Proof.Machine.execOwnerTransfer session signed owner s
  | .mediaRootImport owner intact shelf root => Sys2Proof.Machine.execMediaRootImport owner intact shelf root s
  | .debugTokenWrite scope signed package boot expiry => Sys2Proof.Machine.execDebugTokenWrite scope signed package boot expiry s
  | .tamper source => Sys2Proof.Machine.execTamper source s
  | .secSnapshot q die => Sys2Proof.Machine.execSecSnapshot q die s
  | .backgroundTick die fgWait => Sys2Proof.Machine.execBackgroundTick die fgWait s
  | .patrolStripe d => Sys2Proof.Machine.execPatrolStripe d s
  | .bgwSnapshot q die => Sys2Proof.Machine.execBgwSnapshot q die s
  | .pmcStart q die start stop => Sys2Proof.Machine.execPmcStart q die start stop s
  | .pmcStop q die stop => Sys2Proof.Machine.execPmcStop q die stop s
  | .pmcTimedArm q die armStart armSnap mask => Sys2Proof.Machine.execPmcTimedArm q die armStart armSnap mask s
  | .pmcTimedStart die => Sys2Proof.Machine.execPmcTimedStart die s
  | .pmcTimedSnapshot die => Sys2Proof.Machine.execPmcTimedSnapshot die s
  | .pmcSnapshot q die => Sys2Proof.Machine.execPmcSnapshot q die s
  | .pmcCounterPreset q die n hi v => Sys2Proof.Machine.execPmcCounterPreset q die n hi v s
  | .pmcSelectorWrite q die n sel => Sys2Proof.Machine.execPmcSelectorWrite q die n sel s
  | .perfCounterLogPage d k => Sys2Proof.Machine.execPerfCounterLogPage d k s
  | .powerOnRelease => Sys2Proof.Machine.execPowerOnRelease s
  | .crystalValid ppm => Sys2Proof.Machine.execCrystalValid ppm s
  | .fuseLoadComplete => Sys2Proof.Machine.execFuseLoadComplete s
  | .strapRead samples => Sys2Proof.Machine.execStrapRead samples s
  | .railStepComplete => Sys2Proof.Machine.execRailStepComplete s
  | .railStepTimeout => Sys2Proof.Machine.execRailStepTimeout s
  | .clockCheckComplete ref drv ep => Sys2Proof.Machine.execClockCheckComplete ref drv ep s
  | .dieReleaseStep kat => Sys2Proof.Machine.execDieReleaseStep kat s
  | .stackInitComplete c kat => Sys2Proof.Machine.execStackInitComplete c kat s
  | .resetNAssert => Sys2Proof.Machine.execResetNAssert s
  | .deviceRailUndervoltage => Sys2Proof.Machine.execDeviceRailUndervoltage s
  | .rstCmdPackage q => Sys2Proof.Machine.execRstCmdPackage q s
  | .rstCmdDie q cd => Sys2Proof.Machine.execRstCmdDie q cd s
  | .rstCmdChannel q cd => Sys2Proof.Machine.execRstCmdChannel q cd s
  | .cdWatchdogKick c => Sys2Proof.Machine.execCdWatchdogKick c s
  | .cdWatchdogExpiry c => Sys2Proof.Machine.execCdWatchdogExpiry c s
  | .cdFatalError c => Sys2Proof.Machine.execCdFatalError c s
  | .jtagResetRequest => Sys2Proof.Machine.execJtagResetRequest s
  | .dieResetRelease c fwMatch cfgMatch digest kat => Sys2Proof.Machine.execDieResetRelease c fwMatch cfgMatch digest kat s
  | .channelResetRelease c kat => Sys2Proof.Machine.execChannelResetRelease c kat s
  | .refclkOrPllLoss which => Sys2Proof.Machine.execRefclkOrPllLoss which s
  | .cdClockLoss c pll => Sys2Proof.Machine.execCdClockLoss c pll s
  | .epRefclkInvalid valid => Sys2Proof.Machine.execEpRefclkInvalid valid s
  | .crystalOutOfRange ppm => Sys2Proof.Machine.execCrystalOutOfRange ppm s
  | .avsLoopInterval die slack reply fault => Sys2Proof.Machine.execAvsLoopInterval die slack reply fault s
  | .slackEmergency die slack => Sys2Proof.Machine.execSlackEmergency die slack s
  | .slackEmergencyTimeout die => Sys2Proof.Machine.execSlackEmergencyTimeout die s
  | .voltageRecalMonitor die => Sys2Proof.Machine.execVoltageRecalMonitor die s
  | .standbySupplyLoss => Sys2Proof.Machine.execStandbySupplyLoss s
  | .resetNRelease => Sys2Proof.Machine.execResetNRelease s
  | .ptpMessageSend port sync => Sys2Proof.Machine.execPtpMessageSend port sync s
  | .pdWatchdogExpiry => Sys2Proof.Machine.execPdWatchdogExpiry s
  | .crystalBackInRange ppm => Sys2Proof.Machine.execCrystalBackInRange ppm s
  | .epPerstDeassert => Sys2Proof.Machine.execEpPerstDeassert s
  | .epLinkUp speed width => Sys2Proof.Machine.execEpLinkUp speed width s
  | .epL0pWidthChange state width => Sys2Proof.Machine.execEpL0pWidthChange state width s
  | .epD0Entry fn clearPme => Sys2Proof.Machine.execEpD0Entry fn clearPme s
  | .epVfEnable n => Sys2Proof.Machine.execEpVfEnable n s
  | .zeroRangeEntryFree d seq => Sys2Proof.Machine.execZeroRangeEntryFree d seq s
  | .cancelCrumbRetirement d seq => Sys2Proof.Machine.execCancelCrumbRetirement d seq s
  | .driveControllerFatal d bay => Sys2Proof.Machine.execDriveControllerFatal d bay s
  | .uartInput c => Sys2Proof.Machine.execUartInput c s

end Sys2Proof.Machine
end

