-- ==== Sys2Proof/Safety.lean ====
section
/-! DEFINITION. What a run keeps: the form of the state that every command leaves as it finds it.  A run has no other safety
condition: no command stops (spec gives every row an effect), so a run ends only where its queue does. -/

set_option Elab.async false

namespace Sys2Proof.Machine

/-- What a latch belongs to (spec/03 R79): requester, die, block and offset of the _LO register. -/
def latchKey (x : Latch) : Req × Nat × Nat × Nat := (x.req, x.die, x.blk, x.off)

/-- What a snapshot buffer belongs to (spec/05 R139): die, block and world. -/
def snapKey (x : Snapshot) : Nat × Nat × Bool := (x.die, x.blk, x.secure)

/-- The form of a state that every step keeps: a register field holds a value of its width (the register tables), each once;
a block counter holds 64 bits (spec/07 R204), each once; a requester has one latch for each pair (spec/03 R79); a world has
one buffer for each block of a die (spec/05 R139). -/
structure Tidy (s : State) : Prop where
  widths : ∀ e ∈ s.regs, e.2 < 2 ^ e.1.fld.spec.width
  fieldsOnce : (s.regs.map Prod.fst).Nodup
  counts : ∀ e ∈ s.ctrs, e.2 < 2 ^ 64
  countersOnce : (s.ctrs.map Prod.fst).Nodup
  latchesOnce : (s.latches.map latchKey).Nodup
  buffersOnce : (s.snaps.map snapKey).Nodup

/-- The parts of a state: its plain fields, the register fields of a block, and the counters of a block. -/
inductive Part where
  | now | fresh | channels | snaps | latches | logq | out | lat | mode | tim | pmc | sec | img | eth | swx | sch | rdx | cmd | spg
  | grp | rsh | drv | cip | pair | fls | bay | ep | mgt | bgw | rst | pending
  | regs (blk : Nat)
  | ctrs (blk : Nat)
  deriving DecidableEq, Repr

/-- Two states agree on a part. -/
def Part.same (s t : State) : Part → Prop
  | .now => t.now = s.now
  | .fresh => t.fresh = s.fresh
  | .channels => t.channels = s.channels
  | .snaps => t.snaps = s.snaps
  | .latches => t.latches = s.latches
  | .logq => t.logq = s.logq
  | .out => t.out = s.out
  | .lat => t.lat = s.lat
  | .mode => t.mode = s.mode
  | .tim => t.tim = s.tim
  | .pmc => t.pmc = s.pmc
  | .sec => t.sec = s.sec
  | .img => t.img = s.img
  | .eth => t.eth = s.eth
  | .swx => t.swx = s.swx
  | .sch => t.sch = s.sch
  | .rdx => t.rdx = s.rdx
  | .cmd => t.cmd = s.cmd
  | .spg => t.spg = s.spg
  | .grp => t.grp = s.grp
  | .rsh => t.rsh = s.rsh
  | .drv => t.drv = s.drv
  | .cip => t.cip = s.cip
  | .pair => t.pair = s.pair
  | .fls => t.fls = s.fls
  | .bay => t.bay = s.bay
  | .ep => t.ep = s.ep
  | .mgt => t.mgt = s.mgt
  | .bgw => t.bgw = s.bgw
  | .rst => t.rst = s.rst
  | .pending => t.pending = s.pending
  | .regs b => ∀ d f i, f.block = b → t.r d f i = s.r d f i
  | .ctrs b => b < 64 → ∀ d n i, t.ctr d b n i = s.ctr d b n i

/-- The parts of the family (spec/00 R2): six, four, two or one channel die. -/
def partChannels (n : Nat) : Prop := n = 6 ∨ n = 4 ∨ n = 2 ∨ n = 1

end Sys2Proof.Machine
end

