-- ==== Sys2Proof/Machine/Footprint.lean ====
section
/-! DEFINITION. Which parts of the state each command may touch: the plain fields, the register fields of a block, the counters
of a block (spec/03 to spec/23: the effects their rules give the command, and those of what it sets off: the performance
counters that follow a block counter (spec/22 R603), the interrupts of an event, the records of the log). -/

set_option Elab.async false

namespace Sys2Proof.Machine

/-- The registers of every block of the map, and the counters of every block. -/
def blocks : List Part := [.regs 0x01, .regs 0x02, .regs 0x03, .regs 0x04, .regs 0x05, .regs 0x06, .regs 0x07, .regs 0x08, .regs 0x09, .regs 0x0A,
  .regs 0x10, .regs 0x11, .regs 0x12, .regs 0x13, .regs 0x14, .regs 0x15, .regs 0x20, .regs 0x21, .regs 0x22, .regs 0x23,
  .regs 0x24, .regs 0x25, .regs 0x26, .regs 0x27, .regs 0x28, .regs 0x30, .regs 0x31, .regs 0x32]
def counters : List Part := (List.range 64).map Part.ctrs

/-- The parts a command may touch; it leaves every other part as it was. -/
def touches : Instr → List Part
  | .registerWrite .. =>
      [.logq, .out, .tim, .eth, .sch, .rdx, .ctrs 0x04, .ctrs 0x10, .ctrs 0x20] ++ blocks
  | .loRegisterRead .. =>
      [.latches, .logq, .out, .regs 0x04, .regs 0x06, .regs 0x0A, .ctrs 0x04]
  | .latticeMessageForward .. =>
      [.out, .lat, .regs 0x06]
  | .ringMarker .. | .timeMessageLoss .. | .partnerLost .. =>
      [.now, .logq, .out, .mode, .tim, .img, .rdx, .cmd, .pair, .ep, .regs 0x06, .regs 0x0A, .regs 0x15, .regs 0x21, .regs 0x22,
      .regs 0x30, .ctrs 0x15, .ctrs 0x21, .ctrs 0x30]
  | .modeTriggerEvaluate .. | .resetNAssert | .deviceRailUndervoltage | .rstCmdPackage .. | .jtagResetRequest |
    .standbySupplyLoss =>
      [.now, .fresh, .snaps, .latches, .logq, .out, .lat, .mode, .tim, .pmc, .sec, .img, .eth, .swx, .sch, .rdx, .cmd, .spg,
      .grp, .rsh, .drv, .cip, .pair, .fls, .bay, .ep, .mgt, .bgw, .rst] ++ blocks ++ counters
  | .quarantineRootPortHold | .pairingWaitExpiry =>
      [.now, .out, .mode, .regs 0x06]
  | .modeTimeLimitExpiry | .takeoverMajorityTimeout =>
      [.now, .logq, .out, .mode, .regs 0x06]
  | .bringupWorkComplete =>
      [.logq, .mode, .regs 0x30]
  | .maintenanceDrainLimitExpiry | .channelDisableDrainLimitExpiry .. | .namespaceDrainLimitExpiry .. =>
      [.now, .out, .rdx, .cmd, .spg, .rsh, .drv, .pair, .regs 0x06, .regs 0x20, .regs 0x21, .regs 0x23, .regs 0x24, .regs 0x28,
      .regs 0x30, .ctrs 0x20, .ctrs 0x21, .ctrs 0x23, .ctrs 0x28, .ctrs 0x30]
  | .maintenanceDrainComplete | .lockstepMismatch | .pdWatchdogExpiry =>
      [.logq, .mode]
  | .modeCmdEnterMaintenance .. =>
      [.logq, .out, .mode, .cmd, .pair, .ep, .regs 0x03, .regs 0x04, .regs 0x06, .regs 0x15, .regs 0x21, .regs 0x22, .regs 0x28,
      .regs 0x30, .ctrs 0x04, .ctrs 0x15, .ctrs 0x28, .ctrs 0x30]
  | .modeCmdReleaseMaintenance .. =>
      [.logq, .out, .mode, .regs 0x03, .regs 0x04, .regs 0x06, .ctrs 0x04]
  | .pairBGateWaitExpiry .. =>
      [.now, .logq, .out, .mode, .pair, .bay, .regs 0x06, .regs 0x27, .regs 0x28, .regs 0x30, .regs 0x32, .ctrs 0x28,
      .ctrs 0x30, .ctrs 0x32]
  | .channelRecoveryLimitExpiry .. =>
      [.now, .logq, .out, .mode, .swx, .rdx, .cmd, .spg, .pair, .ep, .regs 0x06, .regs 0x12, .regs 0x15, .regs 0x20, .regs 0x21,
      .regs 0x22, .regs 0x23, .regs 0x24, .regs 0x25, .regs 0x28, .regs 0x30, .regs 0x31, .regs 0x32, .ctrs 0x15, .ctrs 0x20,
      .ctrs 0x21, .ctrs 0x28, .ctrs 0x30, .ctrs 0x31]
  | .channelDisableCommand .. =>
      [.out, .mode, .cmd, .ep, .regs 0x06, .regs 0x15, .regs 0x21, .regs 0x22, .ctrs 0x15]
  | .channelDisableDrainComplete .. =>
      [.fresh, .logq, .out, .mode, .swx, .rdx, .cmd, .spg, .drv, .pair, .ep, .bgw, .regs 0x05, .regs 0x06, .regs 0x12,
      .regs 0x15, .regs 0x20, .regs 0x21, .regs 0x22, .regs 0x23, .regs 0x24, .regs 0x25, .regs 0x27, .regs 0x28, .regs 0x30,
      .regs 0x31, .regs 0x32, .ctrs 0x05, .ctrs 0x15, .ctrs 0x20, .ctrs 0x21, .ctrs 0x27, .ctrs 0x28, .ctrs 0x30, .ctrs 0x31]
  | .channelFail .. =>
      [.logq, .out, .mode, .swx, .rdx, .cmd, .spg, .pair, .ep, .rst, .regs 0x06, .regs 0x07, .regs 0x0A, .regs 0x12, .regs 0x15,
      .regs 0x20, .regs 0x21, .regs 0x22, .regs 0x23, .regs 0x24, .regs 0x25, .regs 0x28, .regs 0x30, .regs 0x31, .regs 0x32,
      .ctrs 0x15, .ctrs 0x20, .ctrs 0x21, .ctrs 0x28, .ctrs 0x30, .ctrs 0x31]
  | .errorBoundUpdate =>
      [.logq, .out, .tim, .sec, .regs 0x01, .regs 0x04, .regs 0x06, .ctrs 0x04]
  | .ptpMessageReceived .. =>
      [.logq, .out, .tim, .sec, .regs 0x01, .regs 0x04, .regs 0x06, .regs 0x10, .ctrs 0x04, .ctrs 0x10]
  | .sourceValidityTimeout .. | .ts64Seed .. =>
      [.out, .tim, .sec, .regs 0x01, .regs 0x04, .regs 0x06, .ctrs 0x04]
  | .ppsInputEdge .. =>
      [.now, .logq, .out, .tim, .sec, .regs 0x01, .regs 0x04, .regs 0x06, .ctrs 0x04]
  | .ref10mCheck .. =>
      [.tim, .regs 0x01, .regs 0x08]
  | .firstLockWaitExpiry | .timeDisagreeEpisodeEnd | .scheduleWindowClose .. | .ppsOutputPulse | .ppsOutputWidthEnd =>
      [.now, .out, .tim, .regs 0x06]
  | .timeDistributionSend =>
      [.lat, .tim]
  | .timeDistributionReceive .. =>
      [.now, .logq, .out, .mode, .tim, .sec, .swx, .rdx, .cmd, .spg, .pair, .ep, .rst, .regs 0x01, .regs 0x04, .regs 0x06,
      .regs 0x07, .regs 0x0A, .regs 0x12, .regs 0x15, .regs 0x20, .regs 0x21, .regs 0x22, .regs 0x23, .regs 0x24, .regs 0x25,
      .regs 0x28, .regs 0x30, .regs 0x31, .regs 0x32, .ctrs 0x04, .ctrs 0x15, .ctrs 0x20, .ctrs 0x21, .ctrs 0x28, .ctrs 0x30,
      .ctrs 0x31]
  | .scheduleEntryFire .. =>
      [.now, .out, .tim, .sec, .sch, .pair, .regs 0x04, .regs 0x05, .regs 0x06, .regs 0x14, .ctrs 0x04, .ctrs 0x05]
  | .timSchedCommit .. | .timSchedWrite .. =>
      [.logq, .out, .tim, .regs 0x01, .regs 0x04, .regs 0x06, .ctrs 0x04]
  | .utcLeapOffsetChange =>
      [.now, .out, .tim, .regs 0x01, .regs 0x06]
  | .configImageLoad .. =>
      [.logq, .mode, .img, .regs 0x02]
  | .imgStageStart .. =>
      [.logq, .out, .img, .regs 0x02, .regs 0x04, .regs 0x06, .ctrs 0x04]
  | .imgStageCancel .. =>
      [.logq, .out, .img, .pair, .regs 0x02, .regs 0x04, .regs 0x06, .regs 0x28, .regs 0x30, .ctrs 0x04, .ctrs 0x28, .ctrs 0x30]
  | .stagingComplete .. =>
      [.out, .img, .pair, .regs 0x02, .regs 0x06, .regs 0x28, .regs 0x30, .ctrs 0x28, .ctrs 0x30]
  | .stageReportReceived .. =>
      [.img, .regs 0x02]
  | .stageAgreementDeadline =>
      [.now, .out, .img, .pair, .regs 0x02, .regs 0x06, .regs 0x28, .regs 0x30, .ctrs 0x28, .ctrs 0x30]
  | .epochSwitch =>
      [.now, .logq, .out, .mode, .tim, .sec, .img, .eth, .swx, .sch, .rdx, .cmd, .spg, .grp, .rsh, .drv, .pair, .ep, .bgw,
      .regs 0x01, .regs 0x02, .regs 0x04, .regs 0x05, .regs 0x06, .regs 0x10, .regs 0x11, .regs 0x14, .regs 0x15, .regs 0x20,
      .regs 0x21, .regs 0x22, .regs 0x23, .regs 0x24, .regs 0x25, .regs 0x26, .regs 0x27, .regs 0x28, .regs 0x30, .ctrs 0x04,
      .ctrs 0x05, .ctrs 0x10, .ctrs 0x15, .ctrs 0x20, .ctrs 0x21, .ctrs 0x25, .ctrs 0x26, .ctrs 0x27, .ctrs 0x28, .ctrs 0x30]
  | .oldBankRelease .. =>
      [.img]
  | .laneAcquireComplete .. | .laneTrainingComplete .. | .laneTrainingTimeout .. | .laneSignalLoss .. | .laneFaultRecovery .. |
    .laneUpdateBoundary .. =>
      [.logq, .out, .eth, .sch, .regs 0x06, .regs 0x10, .regs 0x11, .ctrs 0x10]
  | .laneFreezeWrite .. =>
      [.logq, .out, .regs 0x04, .regs 0x06, .regs 0x11, .ctrs 0x04]
  | .laneSnap .. | .laneRxeqWrite .. | .laneTxeqWrite .. =>
      [.logq, .out, .eth, .regs 0x04, .regs 0x06, .ctrs 0x04]
  | .serdesRecalLane .. =>
      [.now, .out, .regs 0x06, .regs 0x11]
  | .portLinkUp .. =>
      [.out, .eth, .regs 0x10]
  | .portLinkFault .. | .remoteFaultReceived .. =>
      [.logq, .out, .eth, .sch, .regs 0x06, .regs 0x10, .ctrs 0x10]
  | .fecDegradeWindowEnd .. =>
      [.logq, .out, .regs 0x06, .regs 0x10, .regs 0x11, .ctrs 0x10, .ctrs 0x11]
  | .frameReceived .. | .fragmentReceived .. =>
      [.out, .eth, .swx, .regs 0x06, .regs 0x10, .regs 0x12, .regs 0x13, .ctrs 0x10, .ctrs 0x12, .ctrs 0x13]
  | .gratuitousRepeat =>
      [.now, .out, .eth, .regs 0x06]
  | .frameTransmit .. =>
      [.out, .regs 0x06, .regs 0x10, .ctrs 0x10]
  | .preemptVerifyTimeout .. =>
      [.logq, .out, .eth, .regs 0x06, .regs 0x10, .ctrs 0x10]
  | .preemptRespondReceived .. =>
      [.regs 0x10]
  | .ethSnapshot .. =>
      [.snaps, .regs 0x10]
  | .cellForward .. =>
      [.out, .eth, .swx, .sch, .regs 0x06, .regs 0x12, .ctrs 0x12]
  | .replicationPass | .recirculatedFrame .. =>
      [.out, .swx, .regs 0x06, .regs 0x12, .ctrs 0x12]
  | .mcastGroupWrite .. =>
      [.logq, .out, .swx, .regs 0x04, .regs 0x06, .regs 0x12, .ctrs 0x04]
  | .mcastHoldRelease .. =>
      [.swx]
  | .swxLoopbackWrite .. | .outLimitWrite .. =>
      [.logq, .out, .regs 0x04, .regs 0x06, .regs 0x12, .ctrs 0x04]
  | .transmitOpportunity .. =>
      [.out, .sch, .regs 0x06, .regs 0x10, .regs 0x14, .ctrs 0x10, .ctrs 0x14]
  | .schedulerStaleDrop .. =>
      [.out, .sch, .regs 0x06, .regs 0x14, .ctrs 0x14]
  | .gateEntryAdvance .. =>
      [.now, .out, .sch, .regs 0x06, .regs 0x14]
  | .swxSnapshot .. =>
      [.snaps, .regs 0x12]
  | .polSnapshot .. =>
      [.snaps, .swx, .regs 0x13]
  | .cmRequest .. =>
      [.out, .regs 0x06, .regs 0x12, .ctrs 0x12]
  | .connOpen .. =>
      [.rdx, .regs 0x20, .regs 0x30]
  | .connReady .. =>
      [.out, .swx, .rdx, .pair, .regs 0x06, .regs 0x20, .regs 0x28, .regs 0x30, .ctrs 0x28, .ctrs 0x30]
  | .connDrain .. | .connShadow .. | .chainArm .. | .chainCancel .. =>
      [.rdx, .regs 0x20]
  | .connErrorCmd .. | .rnrNakReceived .. =>
      [.out, .rdx, .cmd, .spg, .pair, .regs 0x06, .regs 0x20, .regs 0x21, .regs 0x23, .regs 0x24, .regs 0x28, .regs 0x30,
      .ctrs 0x20, .ctrs 0x21, .ctrs 0x28, .ctrs 0x30]
  | .connFree .. =>
      [.out, .swx, .rdx, .cmd, .pair, .regs 0x06, .regs 0x20, .regs 0x28, .regs 0x30, .ctrs 0x28, .ctrs 0x30]
  | .rdmaPacketReceived .. | .multipathPacketReceived .. | .nakReceived .. | .replicatedFrameReceived .. =>
      [.out, .swx, .rdx, .cmd, .spg, .pair, .regs 0x06, .regs 0x12, .regs 0x20, .regs 0x21, .regs 0x23, .regs 0x24, .regs 0x28,
      .regs 0x30, .ctrs 0x12, .ctrs 0x20, .ctrs 0x21, .ctrs 0x28, .ctrs 0x30]
  | .ackDelayExpiry .. | .rnrHoldExpiry .. =>
      [.now, .out, .swx, .rdx, .regs 0x06, .regs 0x12, .regs 0x20, .ctrs 0x12, .ctrs 0x20]
  | .placementConfirm .. =>
      [.out, .swx, .rdx, .regs 0x06, .regs 0x12, .regs 0x20, .ctrs 0x12, .ctrs 0x20]
  | .sendDelivery .. | .chainFirmwareTrigger .. | .chainTrigger .. | .fabricsDisconnect .. | .propertyGet .. | .propertySet .. |
    .ioFlush .. | .reservationReport .. | .resumeOpen .. | .resume .. | .pushRegionInfo .. | .readAssembled .. |
    .flushConditionMet .. | .abortCancelAcknowledged .. | .keepAlive .. | .getLogPage .. | .identify .. | .setFeatures .. |
    .getFeatures .. | .asyncEventRequest .. | .perfCounterLogPage .. =>
      [.out, .rdx, .cmd, .spg, .regs 0x06, .regs 0x20, .regs 0x21, .regs 0x23, .regs 0x24, .ctrs 0x20, .ctrs 0x21]
  | .retransmitTimeout .. =>
      [.now, .out, .swx, .rdx, .cmd, .spg, .pair, .regs 0x06, .regs 0x12, .regs 0x20, .regs 0x21, .regs 0x23, .regs 0x24,
      .regs 0x28, .regs 0x30, .ctrs 0x12, .ctrs 0x20, .ctrs 0x21, .ctrs 0x28, .ctrs 0x30]
  | .ackReceived .. =>
      [.out, .rdx, .cmd, .spg, .pair, .regs 0x06, .regs 0x20, .regs 0x21, .regs 0x23, .regs 0x24, .regs 0x28, .regs 0x30,
      .ctrs 0x20, .ctrs 0x21, .ctrs 0x23, .ctrs 0x28, .ctrs 0x30]
  | .cnpReceived .. =>
      [.out, .rdx, .regs 0x06, .regs 0x20, .ctrs 0x20]
  | .rateRecoverStep .. =>
      [.now, .out, .rdx, .regs 0x06]
  | .workRequestSend .. =>
      [.out, .swx, .rdx, .cmd, .spg, .ep, .regs 0x06, .regs 0x12, .regs 0x20, .regs 0x21, .regs 0x23, .regs 0x24, .ctrs 0x12,
      .ctrs 0x20, .ctrs 0x21]
  | .regionRegister .. | .regionRevoke .. =>
      [.out, .rdx, .pair, .regs 0x06, .regs 0x20, .regs 0x28, .regs 0x30, .ctrs 0x20, .ctrs 0x28, .ctrs 0x30]
  | .revocationComplete .. | .revokeDonePop .. | .chainFailPop .. =>
      [.out, .rdx, .regs 0x20]
  | .rdxSnapshot .. =>
      [.snaps, .regs 0x20]
  | .fabricsConnect .. =>
      [.logq, .out, .rdx, .cmd, .spg, .regs 0x06, .regs 0x20, .regs 0x21, .regs 0x23, .regs 0x24, .ctrs 0x20, .ctrs 0x21]
  | .controllerShutdownComplete .. =>
      [.cmd]
  | .ioWrite .. =>
      [.out, .rdx, .cmd, .spg, .grp, .drv, .pair, .ep, .bgw, .regs 0x05, .regs 0x06, .regs 0x15, .regs 0x20, .regs 0x21,
      .regs 0x22, .regs 0x23, .regs 0x24, .regs 0x25, .regs 0x27, .regs 0x28, .regs 0x30, .ctrs 0x05, .ctrs 0x15, .ctrs 0x20,
      .ctrs 0x21, .ctrs 0x23, .ctrs 0x25, .ctrs 0x27, .ctrs 0x28, .ctrs 0x30]
  | .ioRead .. =>
      [.logq, .out, .rdx, .cmd, .spg, .grp, .rsh, .drv, .pair, .ep, .bgw, .regs 0x05, .regs 0x06, .regs 0x15, .regs 0x20,
      .regs 0x21, .regs 0x23, .regs 0x24, .regs 0x25, .regs 0x26, .regs 0x27, .regs 0x28, .regs 0x30, .ctrs 0x05, .ctrs 0x15,
      .ctrs 0x20, .ctrs 0x21, .ctrs 0x23, .ctrs 0x25, .ctrs 0x26, .ctrs 0x27, .ctrs 0x28, .ctrs 0x30]
  | .ioWriteZeroes .. | .ioDatasetManagement .. =>
      [.out, .rdx, .cmd, .spg, .grp, .drv, .pair, .bgw, .regs 0x05, .regs 0x06, .regs 0x20, .regs 0x21, .regs 0x22, .regs 0x23,
      .regs 0x24, .regs 0x25, .regs 0x27, .regs 0x28, .regs 0x30, .ctrs 0x05, .ctrs 0x20, .ctrs 0x21, .ctrs 0x23, .ctrs 0x25,
      .ctrs 0x27, .ctrs 0x28, .ctrs 0x30]
  | .reservationRegister .. | .reservationAcquire .. | .reservationRelease .. =>
      [.out, .rdx, .cmd, .spg, .drv, .bgw, .regs 0x05, .regs 0x06, .regs 0x20, .regs 0x21, .regs 0x23, .regs 0x24, .regs 0x27,
      .ctrs 0x05, .ctrs 0x20, .ctrs 0x21, .ctrs 0x27]
  | .reservationRecordWritten .. =>
      [.out, .rdx, .cmd, .spg, .rsh, .drv, .pair, .ep, .bgw, .regs 0x05, .regs 0x06, .regs 0x15, .regs 0x20, .regs 0x21,
      .regs 0x22, .regs 0x23, .regs 0x24, .regs 0x27, .regs 0x28, .regs 0x30, .ctrs 0x05, .ctrs 0x15, .ctrs 0x20, .ctrs 0x21,
      .ctrs 0x23, .ctrs 0x27, .ctrs 0x28, .ctrs 0x30]
  | .spongeSpaceReserved .. | .writeCommit .. =>
      [.out, .rdx, .cmd, .spg, .drv, .pair, .ep, .bgw, .regs 0x05, .regs 0x06, .regs 0x15, .regs 0x20, .regs 0x21, .regs 0x22,
      .regs 0x23, .regs 0x24, .regs 0x25, .regs 0x27, .regs 0x28, .regs 0x30, .ctrs 0x05, .ctrs 0x15, .ctrs 0x20, .ctrs 0x21,
      .ctrs 0x23, .ctrs 0x25, .ctrs 0x27, .ctrs 0x28, .ctrs 0x30]
  | .readWaitEnd .. =>
      [.logq, .out, .rdx, .cmd, .spg, .grp, .rsh, .drv, .pair, .bgw, .regs 0x05, .regs 0x06, .regs 0x20, .regs 0x21, .regs 0x23,
      .regs 0x24, .regs 0x25, .regs 0x26, .regs 0x27, .regs 0x28, .regs 0x30, .ctrs 0x05, .ctrs 0x20, .ctrs 0x21, .ctrs 0x23,
      .ctrs 0x25, .ctrs 0x26, .ctrs 0x27, .ctrs 0x28, .ctrs 0x30]
  | .adminAbort .. | .abortCidWrite .. =>
      [.out, .rdx, .cmd, .spg, .rsh, .drv, .pair, .regs 0x06, .regs 0x20, .regs 0x21, .regs 0x23, .regs 0x24, .regs 0x28,
      .regs 0x30, .ctrs 0x20, .ctrs 0x21, .ctrs 0x23, .ctrs 0x28, .ctrs 0x30]
  | .cmdGateWrite .. =>
      [.out, .cmd, .ep, .regs 0x06, .regs 0x15, .regs 0x21, .regs 0x22, .regs 0x25, .ctrs 0x15]
  | .replayFloorWrite .. =>
      [.regs 0x21]
  | .orphanHoldExpiry .. =>
      [.now, .out, .rdx, .cmd, .spg, .regs 0x06, .regs 0x21, .regs 0x23, .regs 0x24, .ctrs 0x21]
  | .resumeHoldExpiry .. | .takeoverFilterExpiry .. =>
      [.now, .out, .cmd, .regs 0x06]
  | .cmdSnapshot .. =>
      [.snaps, .regs 0x21]
  | .keepAliveTimeout .. =>
      [.now, .out, .rdx, .cmd, .spg, .pair, .regs 0x06, .regs 0x20, .regs 0x21, .regs 0x23, .regs 0x24, .regs 0x28, .regs 0x30,
      .ctrs 0x20, .ctrs 0x21, .ctrs 0x28, .ctrs 0x30]
  | .formatNvm .. =>
      [.out, .rdx, .cmd, .spg, .drv, .pair, .ep, .bgw, .regs 0x05, .regs 0x06, .regs 0x15, .regs 0x20, .regs 0x21, .regs 0x22,
      .regs 0x23, .regs 0x24, .regs 0x27, .regs 0x28, .regs 0x30, .ctrs 0x05, .ctrs 0x15, .ctrs 0x20, .ctrs 0x21, .ctrs 0x23,
      .ctrs 0x27, .ctrs 0x28, .ctrs 0x30]
  | .formatDrainComplete .. =>
      [.out, .cmd, .spg, .grp, .drv, .ep, .bgw, .regs 0x05, .regs 0x06, .regs 0x15, .regs 0x21, .regs 0x22, .regs 0x23,
      .regs 0x24, .regs 0x25, .regs 0x27, .ctrs 0x05, .ctrs 0x15, .ctrs 0x25, .ctrs 0x27]
  | .sanitize .. =>
      [.fresh, .logq, .out, .rdx, .cmd, .spg, .grp, .rsh, .drv, .pair, .ep, .bgw, .regs 0x05, .regs 0x06, .regs 0x15,
      .regs 0x20, .regs 0x21, .regs 0x22, .regs 0x23, .regs 0x24, .regs 0x25, .regs 0x26, .regs 0x27, .regs 0x28, .regs 0x30,
      .ctrs 0x05, .ctrs 0x15, .ctrs 0x20, .ctrs 0x21, .ctrs 0x23, .ctrs 0x25, .ctrs 0x26, .ctrs 0x27, .ctrs 0x28, .ctrs 0x30]
  | .keyReplacement .. =>
      [.logq, .out, .rdx, .cmd, .spg, .drv, .cip, .ep, .bgw, .regs 0x05, .regs 0x06, .regs 0x15, .regs 0x20, .regs 0x21,
      .regs 0x22, .regs 0x23, .regs 0x24, .regs 0x25, .regs 0x27, .ctrs 0x05, .ctrs 0x15, .ctrs 0x20, .ctrs 0x21, .ctrs 0x27]
  | .partnerGenerationCommitted .. | .pralineTransferReceived .. =>
      [.cip]
  | .zeroFillCheckpoint .. =>
      [.out, .cmd, .drv, .ep, .bgw, .regs 0x05, .regs 0x06, .regs 0x15, .regs 0x21, .regs 0x22, .regs 0x25, .regs 0x27,
      .ctrs 0x05, .ctrs 0x15, .ctrs 0x27]
  | .formatFillComplete .. =>
      [.out, .rdx, .cmd, .spg, .grp, .drv, .ep, .bgw, .regs 0x05, .regs 0x06, .regs 0x15, .regs 0x20, .regs 0x21, .regs 0x22,
      .regs 0x23, .regs 0x24, .regs 0x25, .regs 0x27, .ctrs 0x05, .ctrs 0x15, .ctrs 0x20, .ctrs 0x21, .ctrs 0x27]
  | .sanitizeFillComplete .. =>
      [.out, .cmd, .drv, .bgw, .regs 0x05, .regs 0x06, .regs 0x21, .regs 0x22, .regs 0x25, .regs 0x27, .ctrs 0x05, .ctrs 0x27]
  | .clearDeferredRange .. =>
      [.out, .cmd, .drv, .bgw, .regs 0x05, .regs 0x06, .regs 0x21, .regs 0x27, .ctrs 0x05, .ctrs 0x27]
  | .namespaceDrainComplete .. =>
      [.out, .cmd, .drv, .ep, .bgw, .regs 0x05, .regs 0x06, .regs 0x15, .regs 0x21, .regs 0x22, .regs 0x27, .ctrs 0x05,
      .ctrs 0x15, .ctrs 0x27]
  | .evictionStep .. =>
      [.out, .spg, .regs 0x06, .regs 0x23, .regs 0x24, .ctrs 0x23]
  | .holdTimeAdjust .. | .cancelCrumbRetirement .. =>
      [.now, .out, .spg, .regs 0x06, .regs 0x23, .regs 0x24]
  | .stripeUpdateStart .. =>
      [.out, .spg, .grp, .drv, .bgw, .regs 0x05, .regs 0x06, .regs 0x23, .regs 0x24, .regs 0x25, .regs 0x26, .regs 0x27,
      .regs 0x28, .ctrs 0x05, .ctrs 0x23, .ctrs 0x25, .ctrs 0x26, .ctrs 0x27, .ctrs 0x28]
  | .stripeReadsComplete .. =>
      [.logq, .out, .spg, .grp, .drv, .pair, .bgw, .regs 0x05, .regs 0x06, .regs 0x23, .regs 0x24, .regs 0x25, .regs 0x27,
      .regs 0x28, .regs 0x30, .ctrs 0x05, .ctrs 0x23, .ctrs 0x25, .ctrs 0x27, .ctrs 0x28, .ctrs 0x30]
  | .stripeWritesComplete .. =>
      [.out, .spg, .grp, .drv, .pair, .bgw, .regs 0x05, .regs 0x06, .regs 0x23, .regs 0x24, .regs 0x25, .regs 0x27, .regs 0x28,
      .regs 0x30, .ctrs 0x05, .ctrs 0x23, .ctrs 0x25, .ctrs 0x27, .ctrs 0x28, .ctrs 0x30]
  | .retireCrumbWrite .. =>
      [.out, .spg, .pair, .regs 0x06, .regs 0x23, .regs 0x24, .regs 0x28, .regs 0x30, .ctrs 0x23, .ctrs 0x28, .ctrs 0x30]
  | .mirrorCrumbsReceived .. =>
      [.spg, .regs 0x23, .regs 0x24]
  | .mirrorCrumbPlaced .. =>
      [.out, .spg, .regs 0x06, .regs 0x21, .regs 0x23, .regs 0x24, .ctrs 0x21, .ctrs 0x23]
  | .mirrorAckSend .. =>
      [.out, .spg, .pair, .regs 0x06, .regs 0x23, .regs 0x24, .regs 0x28, .regs 0x30, .ctrs 0x28, .ctrs 0x30]
  | .mirrorAckReceived .. =>
      [.out, .rdx, .cmd, .spg, .ep, .regs 0x06, .regs 0x15, .regs 0x20, .regs 0x21, .regs 0x23, .regs 0x24, .regs 0x30,
      .ctrs 0x15, .ctrs 0x20, .ctrs 0x21, .ctrs 0x23]
  | .mirrorMatchTimeout .. =>
      [.now, .out, .spg, .regs 0x06, .regs 0x23]
  | .scrubLine .. =>
      [.logq, .out, .rdx, .cmd, .spg, .rsh, .drv, .pair, .ep, .bgw, .regs 0x05, .regs 0x06, .regs 0x15, .regs 0x20, .regs 0x21,
      .regs 0x23, .regs 0x24, .regs 0x27, .regs 0x28, .regs 0x30, .ctrs 0x05, .ctrs 0x15, .ctrs 0x20, .ctrs 0x21, .ctrs 0x23,
      .ctrs 0x27, .ctrs 0x28, .ctrs 0x30]
  | .repairFrameReceived .. =>
      [.logq, .out, .cmd, .spg, .drv, .pair, .ep, .bgw, .regs 0x05, .regs 0x06, .regs 0x15, .regs 0x21, .regs 0x23, .regs 0x24,
      .regs 0x27, .regs 0x28, .regs 0x30, .ctrs 0x05, .ctrs 0x15, .ctrs 0x21, .ctrs 0x23, .ctrs 0x27, .ctrs 0x28, .ctrs 0x30]
  | .arbiterGrant .. =>
      [.out, .spg, .regs 0x06, .regs 0x24, .ctrs 0x24]
  | .arbWindowEnd .. | .arbCommit .. =>
      [.spg]
  | .arbFreezeWrite .. =>
      [.regs 0x24]
  | .dirtyCeilingWrite .. =>
      [.logq, .out, .spg, .regs 0x04, .regs 0x06, .regs 0x23, .regs 0x24, .ctrs 0x04]
  | .spgSnapshot .. =>
      [.snaps, .regs 0x23]
  | .arbSnapshot .. =>
      [.snaps, .regs 0x24]
  | .driveCommandCompletion .. =>
      [.fresh, .logq, .out, .mode, .rdx, .cmd, .spg, .grp, .rsh, .drv, .ep, .bgw, .regs 0x05, .regs 0x06, .regs 0x15,
      .regs 0x20, .regs 0x21, .regs 0x22, .regs 0x23, .regs 0x24, .regs 0x25, .regs 0x26, .regs 0x27, .regs 0x28, .ctrs 0x05,
      .ctrs 0x15, .ctrs 0x20, .ctrs 0x21, .ctrs 0x25, .ctrs 0x26, .ctrs 0x27, .ctrs 0x28]
  | .groupRecordWriteComplete .. =>
      [.out, .grp, .drv, .bgw, .regs 0x05, .regs 0x06, .regs 0x25, .regs 0x27, .ctrs 0x05, .ctrs 0x25, .ctrs 0x27]
  | .bitmapBitClearDue .. | .rebuildCheckpoint .. =>
      [.now, .out, .grp, .drv, .bgw, .regs 0x05, .regs 0x06, .regs 0x25, .regs 0x27, .ctrs 0x05, .ctrs 0x25, .ctrs 0x27]
  | .spareDelayExpiry .. =>
      [.now, .fresh, .out, .cmd, .grp, .drv, .ep, .bgw, .regs 0x05, .regs 0x06, .regs 0x15, .regs 0x21, .regs 0x22, .regs 0x25,
      .regs 0x27, .ctrs 0x05, .ctrs 0x15, .ctrs 0x25, .ctrs 0x27]
  | .gCmdTakeTarget .. =>
      [.fresh, .logq, .out, .cmd, .grp, .drv, .ep, .bgw, .regs 0x05, .regs 0x06, .regs 0x15, .regs 0x21, .regs 0x22, .regs 0x25,
      .regs 0x27, .ctrs 0x05, .ctrs 0x15, .ctrs 0x25, .ctrs 0x27]
  | .gCmdHoldPass .. | .gCmdReleasePass .. =>
      [.logq, .grp, .regs 0x25]
  | .gCmdFullResync .. =>
      [.logq, .out, .grp, .drv, .bgw, .regs 0x05, .regs 0x06, .regs 0x25, .regs 0x27, .ctrs 0x05, .ctrs 0x25, .ctrs 0x27]
  | .rebuildStep .. | .reshapeSwitchComplete .. =>
      [.fresh, .logq, .out, .cmd, .grp, .rsh, .drv, .ep, .bgw, .regs 0x05, .regs 0x06, .regs 0x15, .regs 0x21, .regs 0x22,
      .regs 0x25, .regs 0x26, .regs 0x27, .ctrs 0x05, .ctrs 0x15, .ctrs 0x25, .ctrs 0x26, .ctrs 0x27]
  | .resyncStripe .. =>
      [.logq, .out, .cmd, .grp, .drv, .ep, .bgw, .regs 0x05, .regs 0x06, .regs 0x15, .regs 0x21, .regs 0x25, .regs 0x27,
      .ctrs 0x05, .ctrs 0x15, .ctrs 0x21, .ctrs 0x25, .ctrs 0x27]
  | .grpSnapshot .. =>
      [.snaps, .regs 0x25]
  | .reshapeStepStart .. =>
      [.out, .grp, .rsh, .drv, .bgw, .regs 0x05, .regs 0x06, .regs 0x25, .regs 0x26, .regs 0x27, .ctrs 0x05, .ctrs 0x25,
      .ctrs 0x27]
  | .reshapeStepReadsComplete .. =>
      [.logq, .out, .rdx, .cmd, .spg, .grp, .rsh, .drv, .bgw, .regs 0x05, .regs 0x06, .regs 0x20, .regs 0x21, .regs 0x23,
      .regs 0x24, .regs 0x25, .regs 0x26, .regs 0x27, .regs 0x28, .ctrs 0x05, .ctrs 0x20, .ctrs 0x21, .ctrs 0x25, .ctrs 0x26,
      .ctrs 0x27, .ctrs 0x28]
  | .reshapeBackupWritten .. =>
      [.out, .grp, .rsh, .drv, .bgw, .regs 0x05, .regs 0x06, .regs 0x25, .regs 0x26, .regs 0x27, .ctrs 0x05, .ctrs 0x25,
      .ctrs 0x26, .ctrs 0x27]
  | .reshapeStepCommit .. | .driveAbortComplete .. =>
      [.fresh, .logq, .out, .rdx, .cmd, .spg, .grp, .rsh, .drv, .ep, .bgw, .regs 0x05, .regs 0x06, .regs 0x15, .regs 0x20,
      .regs 0x21, .regs 0x22, .regs 0x23, .regs 0x24, .regs 0x25, .regs 0x26, .regs 0x27, .regs 0x28, .ctrs 0x05, .ctrs 0x15,
      .ctrs 0x20, .ctrs 0x21, .ctrs 0x25, .ctrs 0x26, .ctrs 0x27, .ctrs 0x28]
  | .reshapeCancel .. =>
      [.fresh, .logq, .out, .rdx, .cmd, .spg, .grp, .rsh, .drv, .ep, .bgw, .regs 0x04, .regs 0x05, .regs 0x06, .regs 0x15,
      .regs 0x20, .regs 0x21, .regs 0x22, .regs 0x23, .regs 0x24, .regs 0x25, .regs 0x26, .regs 0x27, .regs 0x28, .ctrs 0x04,
      .ctrs 0x05, .ctrs 0x15, .ctrs 0x20, .ctrs 0x21, .ctrs 0x25, .ctrs 0x26, .ctrs 0x27, .ctrs 0x28]
  | .reshapeHold .. | .reshapeRelease .. =>
      [.logq, .out, .rsh, .regs 0x04, .regs 0x06, .regs 0x26, .ctrs 0x04]
  | .reshapeSwitch .. =>
      [.out, .rsh, .drv, .bgw, .regs 0x05, .regs 0x06, .regs 0x26, .regs 0x27, .ctrs 0x05, .ctrs 0x26, .ctrs 0x27]
  | .rshSnapshot .. =>
      [.snaps, .regs 0x26]
  | .bayPerstRelease .. =>
      [.now, .out, .drv, .regs 0x06, .regs 0x27]
  | .driveLinkUp .. =>
      [.out, .regs 0x27]
  | .driveLinkTrainingTimeout .. | .driveReadyTimeout .. =>
      [.now, .logq, .out, .cmd, .grp, .rsh, .drv, .ep, .bgw, .regs 0x05, .regs 0x06, .regs 0x15, .regs 0x21, .regs 0x22,
      .regs 0x25, .regs 0x26, .regs 0x27, .ctrs 0x05, .ctrs 0x15, .ctrs 0x25, .ctrs 0x26, .ctrs 0x27]
  | .driveEnumerationComplete .. | .driveControllerReady .. =>
      [.logq, .out, .cmd, .grp, .rsh, .drv, .ep, .bgw, .regs 0x05, .regs 0x06, .regs 0x15, .regs 0x21, .regs 0x22, .regs 0x25,
      .regs 0x26, .regs 0x27, .ctrs 0x05, .ctrs 0x15, .ctrs 0x25, .ctrs 0x26, .ctrs 0x27]
  | .driveIdentifyComplete .. =>
      [.fresh, .logq, .out, .cmd, .grp, .rsh, .drv, .ep, .bgw, .regs 0x05, .regs 0x06, .regs 0x15, .regs 0x21, .regs 0x22,
      .regs 0x25, .regs 0x26, .regs 0x27, .regs 0x31, .ctrs 0x05, .ctrs 0x15, .ctrs 0x25, .ctrs 0x26, .ctrs 0x27]
  | .driveLinkLoss .. | .downstreamPortContainment .. | .driveAsyncEvent .. | .driveControllerFatal .. =>
      [.fresh, .logq, .out, .rdx, .cmd, .spg, .grp, .rsh, .drv, .ep, .bgw, .regs 0x05, .regs 0x06, .regs 0x15, .regs 0x20,
      .regs 0x21, .regs 0x22, .regs 0x23, .regs 0x24, .regs 0x25, .regs 0x26, .regs 0x27, .regs 0x28, .regs 0x31, .ctrs 0x05,
      .ctrs 0x15, .ctrs 0x20, .ctrs 0x21, .ctrs 0x25, .ctrs 0x26, .ctrs 0x27, .ctrs 0x28]
  | .driveCommandTimeout .. =>
      [.now, .out, .drv, .regs 0x06, .regs 0x27, .ctrs 0x27]
  | .driveAbortWaitExpiry .. =>
      [.now, .fresh, .logq, .out, .rdx, .cmd, .spg, .grp, .rsh, .drv, .ep, .bgw, .regs 0x05, .regs 0x06, .regs 0x15, .regs 0x20,
      .regs 0x21, .regs 0x22, .regs 0x23, .regs 0x24, .regs 0x25, .regs 0x26, .regs 0x27, .regs 0x28, .ctrs 0x05, .ctrs 0x15,
      .ctrs 0x20, .ctrs 0x21, .ctrs 0x25, .ctrs 0x26, .ctrs 0x27, .ctrs 0x28]
  | .healthPoll .. =>
      [.now, .fresh, .logq, .out, .rdx, .cmd, .spg, .grp, .rsh, .drv, .ep, .bgw, .regs 0x05, .regs 0x06, .regs 0x15, .regs 0x20,
      .regs 0x21, .regs 0x22, .regs 0x23, .regs 0x24, .regs 0x25, .regs 0x26, .regs 0x27, .regs 0x28, .regs 0x31, .ctrs 0x05,
      .ctrs 0x15, .ctrs 0x20, .ctrs 0x21, .ctrs 0x25, .ctrs 0x26, .ctrs 0x27, .ctrs 0x28]
  | .drvLocateOn .. | .drvLocateOff .. =>
      [.drv, .regs 0x27]
  | .drvClaim .. =>
      [.fresh, .logq, .out, .drv, .bgw, .regs 0x04, .regs 0x05, .regs 0x06, .regs 0x27, .ctrs 0x04, .ctrs 0x05, .ctrs 0x27]
  | .drvRestartDiscovery .. =>
      [.logq, .out, .drv, .regs 0x04, .regs 0x06, .regs 0x27, .ctrs 0x04]
  | .drvSnapshot .. =>
      [.snaps, .regs 0x27]
  | .keySlotLoad .. =>
      [.logq, .out, .cmd, .spg, .drv, .cip, .ep, .bgw, .regs 0x04, .regs 0x05, .regs 0x06, .regs 0x15, .regs 0x21, .regs 0x22,
      .regs 0x23, .regs 0x24, .regs 0x25, .regs 0x27, .regs 0x28, .ctrs 0x04, .ctrs 0x05, .ctrs 0x15, .ctrs 0x27, .ctrs 0x28]
  | .keySlotClear .. =>
      [.logq, .out, .cip, .regs 0x04, .regs 0x06, .regs 0x28, .ctrs 0x04, .ctrs 0x28]
  | .keySlotFenceComplete .. =>
      [.out, .cmd, .spg, .drv, .cip, .ep, .bgw, .regs 0x05, .regs 0x06, .regs 0x15, .regs 0x21, .regs 0x22, .regs 0x23,
      .regs 0x24, .regs 0x25, .regs 0x27, .regs 0x28, .ctrs 0x05, .ctrs 0x15, .ctrs 0x27, .ctrs 0x28]
  | .gcmOpenResult .. =>
      [.logq, .out, .cmd, .spg, .drv, .cip, .fls, .ep, .bgw, .regs 0x05, .regs 0x06, .regs 0x15, .regs 0x21, .regs 0x23,
      .regs 0x24, .regs 0x27, .regs 0x28, .regs 0x31, .ctrs 0x05, .ctrs 0x15, .ctrs 0x21, .ctrs 0x23, .ctrs 0x27, .ctrs 0x28,
      .ctrs 0x31]
  | .gcmDonePop .. =>
      [.out, .cip, .regs 0x28]
  | .cipSnapshot .. =>
      [.snaps, .regs 0x28]
  | .partnerFrameReceived .. | .rekeyAckReceived .. =>
      [.out, .cip, .pair, .regs 0x06, .regs 0x28, .regs 0x30, .ctrs 0x28, .ctrs 0x30]
  | .partnerNakReceived .. | .handoverRequestReceived | .gateOfferReceived .. =>
      [.out, .pair, .regs 0x06, .regs 0x28, .regs 0x30, .ctrs 0x28, .ctrs 0x30]
  | .partnerLinkAckSend =>
      [.now, .out, .pair, .regs 0x06, .regs 0x30, .ctrs 0x30]
  | .heartbeatSend | .helloSend =>
      [.now, .out, .pair, .regs 0x06, .regs 0x28, .regs 0x30, .ctrs 0x28, .ctrs 0x30]
  | .heartbeatReceived .. =>
      [.logq, .out, .mode, .tim, .sec, .img, .eth, .swx, .sch, .rdx, .cmd, .spg, .grp, .rsh, .drv, .pair, .ep, .bgw, .regs 0x01,
      .regs 0x02, .regs 0x04, .regs 0x05, .regs 0x06, .regs 0x10, .regs 0x11, .regs 0x12, .regs 0x14, .regs 0x15, .regs 0x20,
      .regs 0x21, .regs 0x22, .regs 0x23, .regs 0x24, .regs 0x25, .regs 0x26, .regs 0x27, .regs 0x28, .regs 0x30, .ctrs 0x04,
      .ctrs 0x05, .ctrs 0x10, .ctrs 0x15, .ctrs 0x20, .ctrs 0x21, .ctrs 0x25, .ctrs 0x26, .ctrs 0x27, .ctrs 0x28, .ctrs 0x30]
  | .helloReceived .. =>
      [.fresh, .out, .pair, .regs 0x06, .regs 0x28, .regs 0x30, .ctrs 0x28, .ctrs 0x30]
  | .authenticationReceived .. =>
      [.logq, .out, .mode, .tim, .sec, .img, .eth, .swx, .sch, .rdx, .cmd, .spg, .grp, .rsh, .drv, .cip, .pair, .ep, .bgw,
      .regs 0x01, .regs 0x02, .regs 0x04, .regs 0x05, .regs 0x06, .regs 0x0A, .regs 0x10, .regs 0x11, .regs 0x14, .regs 0x15,
      .regs 0x20, .regs 0x21, .regs 0x22, .regs 0x23, .regs 0x24, .regs 0x25, .regs 0x26, .regs 0x27, .regs 0x28, .regs 0x30,
      .ctrs 0x04, .ctrs 0x05, .ctrs 0x10, .ctrs 0x15, .ctrs 0x20, .ctrs 0x21, .ctrs 0x25, .ctrs 0x26, .ctrs 0x27, .ctrs 0x28,
      .ctrs 0x30]
  | .rekeyPhaseStart =>
      [.now, .out, .cmd, .spg, .drv, .cip, .pair, .ep, .bgw, .regs 0x05, .regs 0x06, .regs 0x15, .regs 0x21, .regs 0x22,
      .regs 0x23, .regs 0x24, .regs 0x25, .regs 0x27, .regs 0x28, .regs 0x30, .ctrs 0x05, .ctrs 0x15, .ctrs 0x27, .ctrs 0x28,
      .ctrs 0x30]
  | .rekeyAnnounceReceived .. =>
      [.out, .cmd, .spg, .drv, .cip, .pair, .ep, .bgw, .regs 0x05, .regs 0x06, .regs 0x15, .regs 0x21, .regs 0x22, .regs 0x23,
      .regs 0x24, .regs 0x25, .regs 0x27, .regs 0x28, .regs 0x30, .ctrs 0x05, .ctrs 0x15, .ctrs 0x27, .ctrs 0x28, .ctrs 0x30]
  | .keyReportReceived .. | .leaseRenewalTick =>
      [.out, .drv, .pair, .bgw, .regs 0x05, .regs 0x06, .regs 0x27, .regs 0x30, .ctrs 0x05, .ctrs 0x27, .ctrs 0x30]
  | .acquisitionStateReceived .. =>
      [.pair]
  | .carriedDataReceived .. =>
      [.spg, .pair, .regs 0x23, .regs 0x24]
  | .tableEventReceived .. =>
      [.rdx, .pair, .regs 0x30]
  | .seedFrameReceived .. =>
      [.out, .spg, .regs 0x06, .regs 0x21, .regs 0x23, .regs 0x24, .regs 0x30, .ctrs 0x21, .ctrs 0x23, .ctrs 0x30]
  | .reseedComplete =>
      [.logq, .mode, .swx, .pair, .regs 0x12, .regs 0x30]
  | .leaseKick .. =>
      [.logq, .out, .pair, .regs 0x04, .regs 0x06, .ctrs 0x04]
  | .leaseAcquisitionWrite .. =>
      [.out, .drv, .pair, .bgw, .regs 0x05, .regs 0x06, .regs 0x27, .ctrs 0x05, .ctrs 0x27]
  | .leaseSlotWriteComplete .. =>
      [.logq, .out, .mode, .rdx, .cmd, .spg, .drv, .pair, .ep, .regs 0x06, .regs 0x15, .regs 0x20, .regs 0x21, .regs 0x23,
      .regs 0x24, .regs 0x27, .regs 0x28, .regs 0x30, .ctrs 0x15, .ctrs 0x20, .ctrs 0x21, .ctrs 0x28, .ctrs 0x30]
  | .leaseEvaluate =>
      [.logq, .out, .mode, .pair, .regs 0x06, .regs 0x28, .regs 0x30, .ctrs 0x28, .ctrs 0x30]
  | .hardwareLeaseTimerFire =>
      [.now, .logq, .out, .mode, .rdx, .cmd, .spg, .pair, .ep, .regs 0x06, .regs 0x15, .regs 0x20, .regs 0x21, .regs 0x23,
      .regs 0x24, .regs 0x27, .regs 0x28, .regs 0x30, .regs 0x31, .regs 0x32, .ctrs 0x15, .ctrs 0x20, .ctrs 0x21, .ctrs 0x28,
      .ctrs 0x30, .ctrs 0x31]
  | .partnerSlotRead =>
      [.out, .drv, .bgw, .regs 0x05, .regs 0x06, .regs 0x27, .ctrs 0x05, .ctrs 0x27]
  | .partnerSlotReadComplete .. =>
      [.logq, .out, .mode, .drv, .pair, .regs 0x06, .regs 0x28, .regs 0x30, .ctrs 0x28, .ctrs 0x30]
  | .interlockClaimWindowEnd =>
      [.now, .logq, .out, .mode, .drv, .pair, .bgw, .regs 0x05, .regs 0x06, .regs 0x27, .regs 0x30, .ctrs 0x05, .ctrs 0x27,
      .ctrs 0x30]
  | .interlockInAssert .. =>
      [.logq, .out, .pair, .bay, .regs 0x06, .regs 0x28, .regs 0x30, .ctrs 0x28, .ctrs 0x30]
  | .interlockClaimRetry =>
      [.now, .logq, .out, .pair, .regs 0x06, .regs 0x30, .ctrs 0x30]
  | .reservationFencingComplete .. =>
      [.fresh, .logq, .out, .mode, .cmd, .spg, .grp, .rsh, .drv, .pair, .ep, .bgw, .regs 0x05, .regs 0x06, .regs 0x15,
      .regs 0x21, .regs 0x22, .regs 0x23, .regs 0x24, .regs 0x25, .regs 0x26, .regs 0x27, .regs 0x30, .ctrs 0x05, .ctrs 0x15,
      .ctrs 0x21, .ctrs 0x25, .ctrs 0x27, .ctrs 0x30]
  | .pairCmdClearStale .. =>
      [.logq, .out, .regs 0x04, .regs 0x06, .regs 0x30, .ctrs 0x04]
  | .pairCmdHandover .. =>
      [.logq, .out, .cmd, .pair, .ep, .regs 0x04, .regs 0x06, .regs 0x15, .regs 0x21, .regs 0x22, .regs 0x28, .regs 0x30,
      .ctrs 0x04, .ctrs 0x15, .ctrs 0x28, .ctrs 0x30]
  | .pairCmdCancelHandover .. =>
      [.logq, .out, .rdx, .cmd, .pair, .ep, .regs 0x04, .regs 0x06, .regs 0x15, .regs 0x21, .regs 0x22, .ctrs 0x04, .ctrs 0x15,
      .ctrs 0x21]
  | .partnerLossH0 =>
      [.now, .out, .drv, .pair, .bgw, .regs 0x05, .regs 0x06, .regs 0x27, .regs 0x30, .ctrs 0x05, .ctrs 0x27, .ctrs 0x30]
  | .partnerLossUnmirror =>
      [.now, .logq, .out, .swx, .rdx, .cmd, .spg, .drv, .pair, .ep, .bgw, .regs 0x05, .regs 0x06, .regs 0x12, .regs 0x15,
      .regs 0x20, .regs 0x21, .regs 0x23, .regs 0x24, .regs 0x27, .regs 0x30, .ctrs 0x05, .ctrs 0x15, .ctrs 0x20, .ctrs 0x21,
      .ctrs 0x27]
  | .handoverAcceptReceived =>
      [.out, .mode, .rdx, .cmd, .pair, .ep, .regs 0x06, .regs 0x15, .regs 0x21, .regs 0x22, .ctrs 0x15]
  | .handoverAnswerTimeout =>
      [.now, .logq, .out, .mode, .rdx, .cmd, .pair, .ep, .regs 0x06, .regs 0x15, .regs 0x21, .regs 0x22, .regs 0x30, .ctrs 0x15,
      .ctrs 0x21]
  | .handoverQuiesced =>
      [.logq, .out, .mode, .rdx, .cmd, .spg, .rsh, .drv, .pair, .ep, .bgw, .regs 0x05, .regs 0x06, .regs 0x15, .regs 0x20,
      .regs 0x21, .regs 0x23, .regs 0x24, .regs 0x27, .regs 0x28, .regs 0x30, .ctrs 0x05, .ctrs 0x15, .ctrs 0x20, .ctrs 0x21,
      .ctrs 0x23, .ctrs 0x27, .ctrs 0x28, .ctrs 0x30]
  | .handoverGoReceived =>
      [.logq, .mode, .pair]
  | .handoverDoneReceived =>
      [.logq, .out, .mode, .pair, .regs 0x06, .regs 0x30, .ctrs 0x30]
  | .gateReleaseHoldExpiry =>
      [.now, .out, .pair, .regs 0x06, .regs 0x28, .regs 0x30, .regs 0x32, .ctrs 0x28, .ctrs 0x30]
  | .gateReleasedReceived .. | .gateWatchSample .. =>
      [.logq, .out, .pair, .bay, .regs 0x06, .regs 0x27, .regs 0x28, .regs 0x30, .regs 0x32, .ctrs 0x28, .ctrs 0x30, .ctrs 0x32]
  | .gateTakenReceived .. | .bayLimitExit .. =>
      [.out, .pair, .regs 0x06, .regs 0x28, .regs 0x30, .regs 0x32, .ctrs 0x28, .ctrs 0x30]
  | .pairSnapshot .. =>
      [.snaps, .regs 0x30]
  | .powerWarningAssert .. =>
      [.fresh, .logq, .out, .mode, .rdx, .cmd, .spg, .grp, .rsh, .drv, .pair, .fls, .bay, .ep, .mgt, .bgw, .regs 0x03,
      .regs 0x05, .regs 0x06, .regs 0x15, .regs 0x20, .regs 0x21, .regs 0x22, .regs 0x23, .regs 0x24, .regs 0x25, .regs 0x26,
      .regs 0x27, .regs 0x28, .regs 0x30, .regs 0x31, .regs 0x32, .ctrs 0x05, .ctrs 0x15, .ctrs 0x20, .ctrs 0x21, .ctrs 0x25,
      .ctrs 0x26, .ctrs 0x27, .ctrs 0x28, .ctrs 0x30, .ctrs 0x31]
  | .powerWarningDeassert .. =>
      [.logq, .mode, .sec, .regs 0x31, .regs 0x32]
  | .flushRecordWriteComplete .. =>
      [.logq, .out, .mode, .drv, .fls, .bgw, .regs 0x05, .regs 0x06, .regs 0x27, .regs 0x28, .regs 0x31, .regs 0x32, .ctrs 0x05,
      .ctrs 0x27, .ctrs 0x28, .ctrs 0x31]
  | .holdupDeadlineExpiry =>
      [.now, .out, .regs 0x06, .regs 0x31, .regs 0x32]
  | .flsBudgetWrite .. =>
      [.logq, .out, .regs 0x04, .regs 0x06, .regs 0x31, .ctrs 0x04]
  | .channelStart .. =>
      [.logq, .out, .mode, .cmd, .spg, .grp, .rsh, .drv, .fls, .ep, .bgw, .regs 0x05, .regs 0x06, .regs 0x15, .regs 0x21,
      .regs 0x22, .regs 0x23, .regs 0x24, .regs 0x25, .regs 0x26, .regs 0x27, .regs 0x31, .ctrs 0x05, .ctrs 0x15, .ctrs 0x21,
      .ctrs 0x25, .ctrs 0x26, .ctrs 0x27]
  | .replayComplete .. =>
      [.fresh, .logq, .out, .mode, .cmd, .spg, .grp, .drv, .fls, .ep, .bgw, .regs 0x05, .regs 0x06, .regs 0x15, .regs 0x21,
      .regs 0x22, .regs 0x23, .regs 0x24, .regs 0x25, .regs 0x27, .regs 0x31, .ctrs 0x05, .ctrs 0x15, .ctrs 0x21, .ctrs 0x27,
      .ctrs 0x31]
  | .flsSnapshot .. =>
      [.snaps, .regs 0x31]
  | .sidebandScan .. | .bayFastTrip .. | .bayShortAtStart .. | .bayGateNotRising .. | .fetThermalUpdate .. | .thermistorSample
    .. =>
      [.fresh, .logq, .out, .rdx, .cmd, .spg, .grp, .rsh, .drv, .pair, .bay, .ep, .bgw, .regs 0x05, .regs 0x06, .regs 0x15,
      .regs 0x20, .regs 0x21, .regs 0x22, .regs 0x23, .regs 0x24, .regs 0x25, .regs 0x26, .regs 0x27, .regs 0x28, .regs 0x30,
      .regs 0x31, .regs 0x32, .ctrs 0x05, .ctrs 0x15, .ctrs 0x20, .ctrs 0x21, .ctrs 0x25, .ctrs 0x26, .ctrs 0x27, .ctrs 0x28,
      .ctrs 0x30, .ctrs 0x32]
  | .seatDebounceExpiry .. =>
      [.now, .out, .drv, .pair, .bay, .regs 0x06, .regs 0x27, .regs 0x28, .regs 0x30, .regs 0x32, .ctrs 0x28, .ctrs 0x30]
  | .bayRampStart .. =>
      [.out, .pair, .bay, .regs 0x06, .regs 0x27, .regs 0x28, .regs 0x30, .regs 0x32, .ctrs 0x28, .ctrs 0x30, .ctrs 0x32]
  | .bayLoopStep .. =>
      [.bay, .regs 0x31, .regs 0x32]
  | .bayPowerGood .. =>
      [.out, .drv, .pair, .bay, .regs 0x06, .regs 0x28, .regs 0x30, .regs 0x32, .ctrs 0x28, .ctrs 0x30, .ctrs 0x32]
  | .bayPowerGoodLoss .. =>
      [.fresh, .logq, .out, .rdx, .cmd, .spg, .grp, .rsh, .drv, .ep, .bgw, .regs 0x05, .regs 0x06, .regs 0x15, .regs 0x20,
      .regs 0x21, .regs 0x22, .regs 0x23, .regs 0x24, .regs 0x25, .regs 0x26, .regs 0x27, .regs 0x28, .regs 0x31, .regs 0x32,
      .ctrs 0x05, .ctrs 0x15, .ctrs 0x20, .ctrs 0x21, .ctrs 0x25, .ctrs 0x26, .ctrs 0x27, .ctrs 0x28]
  | .bayLimitEntry .. =>
      [.out, .pair, .bay, .regs 0x06, .regs 0x28, .regs 0x30, .regs 0x32, .ctrs 0x28, .ctrs 0x30]
  | .bayLimitTimeout .. =>
      [.now, .fresh, .logq, .out, .rdx, .cmd, .spg, .grp, .rsh, .drv, .pair, .bay, .ep, .bgw, .regs 0x05, .regs 0x06,
      .regs 0x15, .regs 0x20, .regs 0x21, .regs 0x22, .regs 0x23, .regs 0x24, .regs 0x25, .regs 0x26, .regs 0x27, .regs 0x28,
      .regs 0x30, .regs 0x31, .regs 0x32, .ctrs 0x05, .ctrs 0x15, .ctrs 0x20, .ctrs 0x21, .ctrs 0x25, .ctrs 0x26, .ctrs 0x27,
      .ctrs 0x28, .ctrs 0x30, .ctrs 0x32]
  | .bayRampTimeout .. | .bayEpwLeadExpiry .. =>
      [.now, .fresh, .logq, .out, .rdx, .cmd, .spg, .grp, .rsh, .drv, .pair, .bay, .ep, .bgw, .regs 0x05, .regs 0x06,
      .regs 0x15, .regs 0x20, .regs 0x21, .regs 0x22, .regs 0x23, .regs 0x24, .regs 0x25, .regs 0x26, .regs 0x27, .regs 0x28,
      .regs 0x30, .regs 0x31, .regs 0x32, .ctrs 0x05, .ctrs 0x15, .ctrs 0x20, .ctrs 0x21, .ctrs 0x25, .ctrs 0x26, .ctrs 0x27,
      .ctrs 0x28, .ctrs 0x30]
  | .bayBackoffExpiry .. =>
      [.now, .out, .pair, .bay, .regs 0x06, .regs 0x28, .regs 0x30, .regs 0x32, .ctrs 0x28, .ctrs 0x30]
  | .bayRetryCountClear .. =>
      [.now, .out, .bay, .regs 0x06, .regs 0x32]
  | .bayPrechargeTimeout .. =>
      [.now, .logq, .out, .regs 0x06, .regs 0x32]
  | .vgdLow =>
      [.out, .regs 0x32]
  | .vgdOkRestored =>
      [.regs 0x32]
  | .bayCmdOn .. | .bayCmdOff .. | .bayCmdClearRetries .. =>
      [.logq, .out, .pair, .bay, .regs 0x04, .regs 0x06, .regs 0x28, .regs 0x30, .regs 0x32, .ctrs 0x04, .ctrs 0x28, .ctrs 0x30]
  | .gateGuardDischarge .. =>
      [.out, .bay]
  | .baySnapshot .. =>
      [.snaps, .regs 0x32]
  | .epCcEnable .. =>
      [.out, .cmd, .ep, .regs 0x15]
  | .epCcDisable .. | .epSqFetchComplete .. | .epDeleteIoSq .. | .epDataFetchComplete .. | .epBmeClear .. | .epD3hotEntry .. |
    .epFlr .. | .epVfDisable .. | .epConventionalReset .. =>
      [.out, .rdx, .cmd, .spg, .ep, .regs 0x06, .regs 0x15, .regs 0x20, .regs 0x21, .regs 0x23, .regs 0x24, .ctrs 0x15,
      .ctrs 0x20, .ctrs 0x21]
  | .epShutdown .. | .epShutdownComplete .. | .epResetComplete .. | .epLinkUp .. | .epL0pWidthChange .. | .epVfEnable .. =>
      [.regs 0x15]
  | .epSqDoorbell .. | .epFetchTurn | .epCreateIoCq .. | .epDeleteIoCq .. | .epMsixSend .. =>
      [.out, .ep, .regs 0x06, .regs 0x15, .ctrs 0x15]
  | .epCqDoorbell .. | .epChainWorkRequest .. =>
      [.out, .rdx, .cmd, .spg, .pair, .ep, .regs 0x06, .regs 0x15, .regs 0x21, .regs 0x23, .regs 0x24, .regs 0x28, .regs 0x30,
      .ctrs 0x15, .ctrs 0x21, .ctrs 0x23, .ctrs 0x28, .ctrs 0x30]
  | .epCreateIoSq .. =>
      [.out, .cmd, .ep, .regs 0x06, .regs 0x15, .ctrs 0x15]
  | .epCompletionTimeout .. =>
      [.now, .out, .rdx, .cmd, .spg, .ep, .regs 0x06, .regs 0x15, .regs 0x20, .regs 0x21, .regs 0x23, .regs 0x24, .ctrs 0x15,
      .ctrs 0x20, .ctrs 0x21]
  | .epCompletionReceived .. =>
      [.logq, .out, .rdx, .cmd, .spg, .ep, .regs 0x06, .regs 0x15, .regs 0x20, .regs 0x21, .regs 0x23, .regs 0x24, .ctrs 0x15,
      .ctrs 0x20, .ctrs 0x21]
  | .epfSnapshot .. =>
      [.snaps, .regs 0x15]
  | .secureWatchdogExpiry =>
      [.now, .logq, .out, .mode, .mgt, .regs 0x06]
  | .nsWatchdogExpiry | .pldmTransferTimeout =>
      [.now, .logq, .out, .mgt, .regs 0x03, .regs 0x06]
  | .secureWatchdogKick .. =>
      [.logq, .out, .mgt, .regs 0x04, .regs 0x06, .ctrs 0x04]
  | .nsWatchdogKick | .uartInput .. =>
      [.mgt]
  | .pldmRequestUpdate .. | .pldmFirmwareData .. | .pldmCancelUpdate .. | .eventLogAppend =>
      [.logq, .out, .mgt, .regs 0x03, .regs 0x06, .ctrs 0x03]
  | .firmwareUpdateVerified =>
      [.logq, .out, .img, .mgt, .regs 0x02, .regs 0x03, .regs 0x04, .regs 0x06, .ctrs 0x03, .ctrs 0x04]
  | .pldmActivateFirmware | .mctpControlMessage .. | .sgmiiDatagram .. | .eventLogNvmCopy .. =>
      [.out, .mgt, .regs 0x03, .regs 0x06, .ctrs 0x03]
  | .nvmeMiCommand .. | .miAdminCommand .. | .folricReadEventLog .. | .folricReadLedger .. | .folricReadSensors .. =>
      [.out, .regs 0x03, .regs 0x06, .ctrs 0x03]
  | .spdmRequest .. =>
      [.out, .regs 0x03, .regs 0x04, .regs 0x06, .ctrs 0x03, .ctrs 0x04]
  | .suppressionPeriodEnd =>
      [.now, .out, .mgt, .regs 0x03, .regs 0x06, .ctrs 0x03]
  | .sensorSample .. =>
      [.logq, .out, .mgt, .regs 0x03]
  | .thermalTrip .. =>
      [.now, .logq, .out, .mode, .regs 0x03, .regs 0x06]
  | .qcauseRead =>
      [.out, .regs 0x03]
  | .mgtSnapshot .. =>
      [.snaps, .regs 0x03]
  | .proofingStart .. =>
      [.fresh, .logq, .out, .mode, .sec, .mgt, .regs 0x03, .regs 0x04]
  | .proofingDigestReceived .. =>
      [.logq, .out, .mode, .sec, .regs 0x04, .regs 0x07, .regs 0x0A, .regs 0x25]
  | .proofingEnd .. =>
      [.logq, .out, .mode, .sec, .ctrs 0x04] ++ blocks
  | .ledgerWriteComplete .. =>
      [.out, .sec, .regs 0x04, .regs 0x06, .regs 0x07, .ctrs 0x04]
  | .ledgerWriteRetry =>
      [.now, .out, .sec, .regs 0x06]
  | .ownerEnrolment .. =>
      [.out, .sec, .regs 0x04, .regs 0x06, .ctrs 0x04]
  | .ownerTransfer .. =>
      [.out, .sec, .cmd, .cip, .ep, .regs 0x04, .regs 0x06, .regs 0x15, .regs 0x21, .regs 0x22, .regs 0x28, .ctrs 0x04,
      .ctrs 0x15]
  | .mediaRootImport .. =>
      [.out, .sec, .cmd, .cip, .ep, .regs 0x04, .regs 0x06, .regs 0x15, .regs 0x21, .regs 0x22, .ctrs 0x04, .ctrs 0x15]
  | .debugTokenWrite .. =>
      [.logq, .out, .sec, .cmd, .cip, .pair, .ep, .regs 0x04, .regs 0x06, .regs 0x15, .regs 0x21, .regs 0x22, .regs 0x28,
      .ctrs 0x04, .ctrs 0x15]
  | .tamper .. =>
      [.logq, .out, .mode, .sec, .rdx, .cmd, .spg, .drv, .cip, .pair, .fls, .ep, .bgw, .ctrs 0x05, .ctrs 0x15, .ctrs 0x20,
      .ctrs 0x21, .ctrs 0x27] ++ blocks
  | .secSnapshot .. =>
      [.snaps, .regs 0x04]
  | .backgroundTick .. =>
      [.now, .out, .rdx, .cmd, .drv, .bgw, .regs 0x05, .regs 0x06, .regs 0x21, .regs 0x27, .ctrs 0x05, .ctrs 0x21, .ctrs 0x27]
  | .patrolStripe .. =>
      [.now, .logq, .out, .grp, .drv, .bgw, .regs 0x05, .regs 0x06, .regs 0x25, .regs 0x27, .ctrs 0x05, .ctrs 0x25, .ctrs 0x27]
  | .bgwSnapshot .. =>
      [.snaps, .regs 0x05]
  | .pmcStart .. | .pmcStop .. | .pmcSelectorWrite .. =>
      [.logq, .out, .regs 0x04, .regs 0x06, .ctrs 0x04]
  | .pmcTimedArm .. | .pmcCounterPreset .. =>
      [.logq, .out, .pmc, .regs 0x04, .regs 0x06, .ctrs 0x04]
  | .pmcTimedStart .. =>
      [.now, .out, .pmc, .regs 0x06]
  | .pmcTimedSnapshot .. =>
      [.now, .snaps, .out, .pmc, .regs 0x06]
  | .pmcSnapshot .. =>
      [.snaps, .regs 0x06]
  | .powerOnRelease =>
      [.now, .rst]
  | .crystalValid .. =>
      [.now, .logq, .out, .mode, .mgt, .rst, .regs 0x03, .regs 0x06, .regs 0x07, .regs 0x08]
  | .fuseLoadComplete | .resetNRelease =>
      [.now, .logq, .out, .mode, .mgt, .rst, .regs 0x03, .regs 0x06, .regs 0x07]
  | .strapRead .. =>
      [.now, .logq, .out, .mode, .rst, .regs 0x06, .regs 0x07, .regs 0x09]
  | .railStepComplete =>
      [.now, .out, .rst, .regs 0x06, .regs 0x09]
  | .railStepTimeout =>
      [.now, .logq, .out, .mode, .regs 0x06, .regs 0x09]
  | .clockCheckComplete .. =>
      [.now, .logq, .out, .mode, .ep, .regs 0x06, .regs 0x08, .regs 0x09]
  | .dieReleaseStep .. | .channelResetRelease .. =>
      [.now, .logq, .out, .mode, .tim, .swx, .rdx, .cmd, .spg, .drv, .pair, .ep, .rst, .regs 0x06, .regs 0x07, .regs 0x08,
      .regs 0x09, .regs 0x0A, .regs 0x12, .regs 0x15, .regs 0x20, .regs 0x21, .regs 0x22, .regs 0x23, .regs 0x24, .regs 0x25,
      .regs 0x27, .regs 0x28, .regs 0x30, .regs 0x31, .regs 0x32, .ctrs 0x15, .ctrs 0x20, .ctrs 0x21, .ctrs 0x28, .ctrs 0x30,
      .ctrs 0x31]
  | .stackInitComplete .. =>
      [.logq, .out, .mode, .tim, .swx, .rdx, .cmd, .spg, .drv, .pair, .ep, .rst, .regs 0x06, .regs 0x07, .regs 0x08, .regs 0x09,
      .regs 0x0A, .regs 0x12, .regs 0x15, .regs 0x20, .regs 0x21, .regs 0x22, .regs 0x23, .regs 0x24, .regs 0x25, .regs 0x27,
      .regs 0x28, .regs 0x30, .regs 0x31, .regs 0x32, .ctrs 0x15, .ctrs 0x20, .ctrs 0x21, .ctrs 0x28, .ctrs 0x30, .ctrs 0x31]
  | .rstCmdDie .. | .rstCmdChannel .. | .cdFatalError .. =>
      [.snaps, .latches, .logq, .out, .mode, .tim, .pmc, .swx, .rdx, .cmd, .spg, .grp, .rsh, .drv, .cip, .pair, .fls, .ep, .bgw,
      .rst] ++ blocks ++ counters
  | .cdWatchdogKick .. =>
      [.rst]
  | .cdWatchdogExpiry .. =>
      [.now, .snaps, .latches, .logq, .out, .mode, .tim, .pmc, .swx, .rdx, .cmd, .spg, .grp, .rsh, .drv, .cip, .pair, .fls, .ep,
      .bgw, .rst] ++ blocks ++ counters
  | .dieResetRelease .. =>
      [.now, .logq, .out, .mode, .tim, .sec, .swx, .rdx, .cmd, .spg, .drv, .pair, .ep, .rst, .ctrs 0x15, .ctrs 0x20, .ctrs 0x21,
      .ctrs 0x28, .ctrs 0x30, .ctrs 0x31] ++ blocks
  | .refclkOrPllLoss .. =>
      [.now, .logq, .out, .mode, .regs 0x06, .regs 0x08, .regs 0x09]
  | .cdClockLoss .. =>
      [.logq, .out, .mode, .swx, .rdx, .cmd, .spg, .pair, .ep, .rst, .regs 0x06, .regs 0x07, .regs 0x08, .regs 0x0A, .regs 0x12,
      .regs 0x15, .regs 0x20, .regs 0x21, .regs 0x22, .regs 0x23, .regs 0x24, .regs 0x25, .regs 0x28, .regs 0x30, .regs 0x31,
      .regs 0x32, .ctrs 0x15, .ctrs 0x20, .ctrs 0x21, .ctrs 0x28, .ctrs 0x30, .ctrs 0x31]
  | .epRefclkInvalid .. =>
      [.out, .rdx, .cmd, .spg, .ep, .regs 0x06, .regs 0x08, .regs 0x15, .regs 0x20, .regs 0x21, .regs 0x23, .regs 0x24,
      .ctrs 0x15, .ctrs 0x20, .ctrs 0x21]
  | .crystalOutOfRange .. =>
      [.out, .rst, .regs 0x08]
  | .avsLoopInterval .. | .slackEmergency .. =>
      [.out, .rst, .regs 0x09]
  | .slackEmergencyTimeout .. =>
      [.now, .logq, .out, .mode, .swx, .rdx, .cmd, .spg, .pair, .ep, .rst, .regs 0x06, .regs 0x07, .regs 0x0A, .regs 0x12,
      .regs 0x15, .regs 0x20, .regs 0x21, .regs 0x22, .regs 0x23, .regs 0x24, .regs 0x25, .regs 0x28, .regs 0x30, .regs 0x31,
      .regs 0x32, .ctrs 0x15, .ctrs 0x20, .ctrs 0x21, .ctrs 0x28, .ctrs 0x30, .ctrs 0x31]
  | .voltageRecalMonitor .. =>
      [.now, .out, .regs 0x06, .regs 0x09]
  | .ptpMessageSend .. =>
      [.out]
  | .crystalBackInRange .. =>
      [.rst, .regs 0x08]
  | .epPerstDeassert =>
      [.out, .regs 0x15]
  | .epD0Entry .. =>
      [.ep, .regs 0x15]
  | .zeroRangeEntryFree .. =>
      [.now, .out, .rdx, .cmd, .spg, .drv, .pair, .bgw, .regs 0x05, .regs 0x06, .regs 0x20, .regs 0x21, .regs 0x22, .regs 0x23,
      .regs 0x24, .regs 0x25, .regs 0x27, .regs 0x28, .regs 0x30, .ctrs 0x05, .ctrs 0x20, .ctrs 0x21, .ctrs 0x23, .ctrs 0x25,
      .ctrs 0x27, .ctrs 0x28, .ctrs 0x30]

end Sys2Proof.Machine
end

