-- ==== Sys2Proof/Certificates/Slice0/Obligations.lean ====
section
/-! DEFINITION. The statements for the provers. -/

set_option Elab.async false

open Sys2Proof Sys2Proof.Machine

/-- A step takes the command at the front of the queue and answers what exec answers on it with the queue's rest. -/
def Obligations.StepRunsFront : Prop :=
 ∀ (c : Instr) (s : State) (rest : List Instr), step { s with pending := c :: rest } = exec c { s with pending := rest }

/-- With no command waiting a step answers a next state that is one nanosecond of uptime later (the model's choice, log
entry 2). -/
def Obligations.EmptyQueueIdles : Prop :=
 ∀ s : State, s.pending = [] → ∃ t, step s = .next t ∧ t.now = s.now + 1 ∧ t.pending = [] ∧
    (∀ p : Part, p ∉ [.now, .out, .regs 0x06] → p.same s t)

/-- Reset leaves every register field at its Reset value, every counter zero, both worlds' buffers empty and the package
in mode Off. -/
def Obligations.ResetValues : Prop :=
 (∀ d f i, State.reset.r d f i = f.spec.reset) ∧ (∀ d b n i, State.reset.ctr d b n i = 0) ∧
  State.reset.latches = [] ∧ State.reset.snaps = [] ∧ State.reset.logq = [] ∧ State.reset.out = [] ∧ State.reset.pending = [] ∧
  State.reset.now = 0 ∧ State.reset.modeNow = 0

/-- The state right after reset has the form that every step keeps. -/
def Obligations.ResetIsTidy : Prop :=
 Tidy State.reset

/-- Every step keeps the widths of registers and counters, one latch per requester and pair, one snapshot buffer per block
and world. -/
def Obligations.StepKeepsTidy : Prop :=
 ∀ s t : State, Tidy s → step s = .next t → Tidy t

/-- No command stops: each answers a next state with the same waiting commands and the same part, and a tidy state stays
tidy. -/
def Obligations.EveryCommandCompletes : Prop :=
 ∀ (i : Instr) (s : State), ∃ t, exec i s = .next t ∧ t.pending = s.pending ∧ t.channels = s.channels ∧ (Tidy s → Tidy t)

/-- Frame of every command: parts of the state outside its list of touched parts are as they were. -/
def Obligations.CommandsStayInFootprint : Prop :=
 ∀ (i : Instr) (s t : State), exec i s = .next t → ∀ p : Part, p ∉ touches i → p.same s t

/-- Register reads and writes: the latched pair, the plain fields of a register, denied writes and accesses that end short
of a register. -/
def Obligations.RegisterAccesses : Prop :=
  -- LO_REGISTER_READ
  (∀ (q : Req) (addr : BitVec 40) (d blk off : Nat) (s : State), s.dest addr.toNat true = .reg d blk off → readsApart blk off = false → pairLo d blk off = true → ((s.pmcFeed d 0x06020000 1).wordAt d blk off q.secure).2 = false →
    
    ∃ t, exec (.loRegisterRead q addr true) s = .next t ∧
      OutMsg.readData addr.toNat ((s.pmcFeed d 0x06020000 1).wordAt d blk off q.secure).1 ∈ t.out ∧
      (⟨q, d, blk, off, ((s.pmcFeed d 0x06020000 1).wordAt d blk (off + 4) q.secure).1⟩ : Latch) ∈ t.latches) ∧
  -- LO_REGISTER_READ
  (∀ (q : Req) (addr : BitVec 40) (d blk off : Nat) (x : Latch) (s : State), s.dest addr.toNat true = .reg d blk (off + 4) → readsApart blk (off + 4) = false → pairLo d blk (off + 4) = false → x ∈ s.latches ∧ latchKey x = (q, d, blk, off) → (s.latches.map latchKey).Nodup → 
    ∃ t, exec (.loRegisterRead q addr true) s = .next t ∧
      OutMsg.readData addr.toNat x.upper ∈ t.out ∧
      ∀ y ∈ t.latches, latchKey y ≠ (q, d, blk, off)) ∧
  -- REGISTER_WRITE
  (∀ (q : Req) (addr : BitVec 40) (v : Word) (d blk off : Nat) (s u : State), s.dest addr.toNat true = .reg d blk off → u = s.pmcFeed d 0x06020000 1 → blk ≠ 0x06 ∧ ¬(blk = 0x20 ∧ 0x10000 ≤ off) → (fieldsAt d blk off).Pairwise (fun a b => ¬(a.f = b.f ∧ a.i = b.i)) →
    (fieldsAt d blk off).all (fun h => h.mayWrite q.secure && h.plain && h.inRange v.toNat && h.f.spec.acc ≠ .rwl && h.f ≠ .epf .LAND_STATUS_valid) = true →
    u.jointRange d blk off v.toNat (fieldsAt d blk off) = true →
    u.writeAllowed d blk off v.toNat (fieldsAt d blk off) = true →
    
    ∃ t, exec (.registerWrite q addr true v) s = .next t ∧
      (∀ h ∈ fieldsAt d blk off, t.r d h.f h.i = u.written d v.toNat h % 2 ^ h.f.spec.width)) ∧
  -- REGISTER_WRITE
  (∀ (q : Req) (addr : BitVec 40) (v : Word) (d blk off : Nat) (h : FldHit) (s u : State), s.dest addr.toNat true = .reg d blk off → u = s.pmcFeed d 0x06020000 1 → blk ≠ 0x04 ∧ blk ≠ 0x06 ∧ ¬(blk = 0x20 ∧ 0x10000 ≤ off) →
    fieldsAt d blk off = [h] → q.secure = false ∧ h.mayWrite false = false ∧ h.apart = false ∧ u.wouldChange d v.toNat h = true →
    
    ∃ t, exec (.registerWrite q addr true v) s = .next t ∧
      t.r d h.f h.i = s.r d h.f h.i ∧
      t.ctr d 0x04 0 = (s.ctr d 0x04 0 + 1) % 2 ^ 64 ∧
      t.r d (.sec .VIOL_LAST_HI_die) = q.die.val % 8 ∧
      t.r d (.sec .VIOL_LAST_LO_addr) = pkgAddr d blk off % 2 ^ 32) ∧
  -- LO_REGISTER_READ
  (∀ (q : Req) (addr : BitVec 40) (full : Bool) (s : State), s.dest addr.toNat full = .absent → 
    ∃ t, exec (.loRegisterRead q addr full) s = .next t ∧
      OutMsg.readData addr.toNat 0 ∈ t.out ∧
      t.r q.die.val (.lat .EVENTS_absent) = 1 ∧
      t.r q.die.val (.lat .ERR_ADDR_LO_addr) = addr.toNat % 2 ^ 32)

/-- A Lattice message passes a hop, the ring marker is measured, and messages of shelf time reach the dies. -/
def Obligations.LatticeAndRing : Prop :=
  -- LATTICE_MESSAGE_FORWARD
  (∀ (hop : DieId) (dst : DieId) (c : Fin 5) (tag : Nat) (secure : Bool) (s : State), s.ringDies.contains hop.val = true → (alGet s.lat.hops hop.val).isNone = true → 
    ∃ t, exec (.latticeMessageForward hop (some c) dst tag secure) s = .next t ∧
      alGet t.lat.hops hop.val = some (⟨some ⟨c.val, hop.val, dst.val, tag, secure⟩, []⟩ : LatHop)) ∧
  -- RING_MARKER
  (∀ (v : BitVec 32) (s : State), s.rst.lat ≠ [] ∧ s.r mdId (.lat .STATUS_over_budget) < 7 →
    
    ∃ t, exec (.ringMarker (some v)) s = .next t ∧
      t.r mdId (.lat .RTT_rtt_ns) = v.toNat ∧
      t.r mdId (.lat .STATUS_missed_markers) = 0 ∧
      t.r mdId (.lat .STATUS_over_budget) = (if 2000 < v.toNat then s.r mdId (.lat .STATUS_over_budget) + 1 else 0) ∧
      t.now = s.now + 1000) ∧
  -- RING_MARKER
  (∀ (s : State), s.rst.lat ≠ [] ∧ s.r mdId (.lat .STATUS_missed_markers) = 3 ∧ s.r mdId (.lat .STATUS_pair_ring) = 0 →
    modeHasRow s.modeNow 5 = true → 
    ∃ t, exec (.ringMarker none) s = .next t ∧
      t.r mdId (.lat .EVENTS_ring_break) = 1 ∧
      (⟨5, 9⟩ : Trig) ∈ t.mode.trigs) ∧
  -- TIME_DISTRIBUTION_RECEIVE
  (∀ (die : DieId) (residence : Nat) (m : TimeMsg) (s : State), alGet s.tim.messages die.val = some m → die.val ≠ 0 ∧ s.dieUp die.val = true ∧ s.tsSet die.val = false ∧ 0 < m.servo ∧ m.servo < 4 →
    
    ∃ t, exec (.timeDistributionReceive die residence) s = .next t ∧
      t.r die.val (.tim .STATE_state) = m.servo ∧
      t.tsSet die.val = true) ∧
  -- TIME_MESSAGE_LOSS
  (∀ (die : DieId) (s : State), die.val ≠ 0 ∧ s.dieUp die.val = true ∧ s.tsSet die.val = true ∧ s.r mdId (.lat .STATUS_pair_ring) = 0 ∧ modeHasRow s.modeNow 5 = true →
    
    ∃ t, exec (.timeMessageLoss die) s = .next t ∧
      t.now = s.now + 8000 ∧
      (die.val = mdId → t.r mdId (.lat .EVENTS_ring_break) = 1 ∧ (⟨5, 9⟩ : Trig) ∈ t.mode.trigs))

/-- The mode controller takes the first trigger that applies, and its limits and ends of work raise the triggers they
name. -/
def Obligations.ModeController : Prop :=
  -- MODE_TRIGGER_EVALUATE
  (∀ (held : BitVec 48) (x : Trig) (n : Nat) (s : State), s.firstTrig = some (x, n) → 2 ≤ n ∧ n < 16 ∧ s.mode.trigs.all (fun y => y.code ≠ 3) = true ∧ s.modeNow < 16 →
    
    ∃ t, exec (.modeTriggerEvaluate held) s = .next t ∧
      t.r mdId (.mgt .MODE_current) = n ∧
      t.r mdId (.mgt .MODE_previous) = s.modeNow) ∧
  -- QUARANTINE_ROOT_PORT_HOLD
  (∀ (s : State), s.modeNow = 0xB ∧ s.mode.rootsHeld = false → 
    ∃ t, exec (.quarantineRootPortHold) s = .next t ∧
      t.mode.rootsHeld = true ∧
      (s.pair.leases.all (fun e => e.2.flights.isEmpty) = false → t.now = max s.now (s.mode.entered + 100000000))) ∧
  -- MODE_TIME_LIMIT_EXPIRY
  (∀ (s : State) (ns : Nat), (s.modeNow = 1 ∧ ns = 200000000) ∨ (s.modeNow = 2 ∧ ns = 5000000000) ∨ (s.modeNow = 3 ∧ s.mode.workDone = false ∧ ns = 1000000 * (s.img.active.getD {}).pkg.bringupMs) →
    
    ∃ t, exec (.modeTimeLimitExpiry) s = .next t ∧
      t.now = max s.now (s.mode.entered + ns) ∧
      (⟨6, 0xA⟩ : Trig) ∈ t.mode.trigs) ∧
  -- BRINGUP_WORK_COMPLETE
  (∀ (s : State), s.modeNow = 3 ∧ s.mode.workDone = false ∧ s.r mdId (.rst .DIE_STATE_dies) % 4 = 0 →
    s.cds.all (fun c => s.chanFailed (cdId c) || (s.cdUp (cdId c) && (s.fl (cdId c)).started)) = true →
    
    ∃ t, exec (.bringupWorkComplete) s = .next t ∧
      t.mode.workDone = true ∧
      (s.paired = true → (⟨8, 0⟩ : Trig) ∈ t.mode.trigs)) ∧
  -- MAINTENANCE_DRAIN_LIMIT_EXPIRY
  (∀ (s : State) (d : Nat), s.mode.drain = some d → 
    ∃ t, exec (.maintenanceDrainLimitExpiry) s = .next t ∧
      t.now = max s.now d ∧
      t.mode.drain = some d) ∧
  -- MAINTENANCE_DRAIN_COMPLETE
  (∀ (s : State), s.modeNow = 5 ∧ s.mode.drain.isSome = true ∧ s.pair.ho = 0 →
    (s.cds.map cdId).any (fun d => s.cdUp d && !s.chanFailed d && s.undrained d) = false →
    
    ∃ t, exec (.maintenanceDrainComplete) s = .next t ∧
      (⟨9, 0⟩ : Trig) ∈ t.mode.trigs) ∧
  -- MODE_CMD_ENTER_MAINTENANCE
  (∀ (q : Req) (s : State), q.secure = true → 
    ∃ t, exec (.modeCmdEnterMaintenance q) s = .next t ∧
      t.r mdId (.mgt .MODE_cmd_result) = (if s.modeNow = 5 ∨ s.modeNow = 6 then 1 else 2) ∧
      (s.modeNow = 6 → (⟨9, 0⟩ : Trig) ∈ t.mode.trigs) ∧
      (s.modeNow = 5 → s.mode.drain = none → s.pair.hoMaint = false → s.handoverOk = false →
      t.mode.drain = some (s.now + 1000000 * (s.img.active.getD {}).pkg.drainMs))) ∧
  -- MODE_CMD_RELEASE_MAINTENANCE
  (∀ (q : Req) (s : State), q.secure = true → 
    ∃ t, exec (.modeCmdReleaseMaintenance q) s = .next t ∧
      (s.modeNow = 0xA → (s.target ⟨9, 0⟩).isSome = true → t.r mdId (.mgt .MODE_cmd_result) = 1 ∧ (⟨9, 0⟩ : Trig) ∈ t.mode.trigs) ∧
      (s.modeNow ≠ 0xA → t.r mdId (.mgt .MODE_cmd_result) = 2 ∧ t.mode.trigs = s.mode.trigs))

/-- The waits of Bring-up and Pairing run out, and channels are disabled, drain, fail and miss their recovery limit. -/
def Obligations.WaitsAndChannels : Prop :=
  -- PAIR_B_GATE_WAIT_EXPIRY
  (∀ (held : BitVec 48) (s : State), ¬ s.modeNow < 3 ∧ s.role = 2 ∧ s.mode.gateWaitOver = false →
    
    ∃ t, exec (.pairBGateWaitExpiry held) s = .next t ∧
      t.mode.gateWaitOver = true ∧
      t.now = max s.now (s.mode.bringupAt + 2000000000)) ∧
  -- PAIRING_WAIT_EXPIRY
  (∀ (s : State), s.modeNow = 4 ∧ s.pair.seen = false ∧ s.mode.pairWaitOver = false →
    
    ∃ t, exec (.pairingWaitExpiry) s = .next t ∧
      t.mode.pairWaitOver = true ∧
      t.now = max s.now (s.mode.entered + 1000000 * (s.img.active.getD {}).pkg.pairingWaitMs)) ∧
  -- CHANNEL_RECOVERY_LIMIT_EXPIRY
  (∀ (c : Cd) (l : Nat) (s : State), alGet s.mode.chanRecover (cdId c) = some l → s.cdUp (cdId c) = false → 
    ∃ t, exec (.channelRecoveryLimitExpiry c) s = .next t ∧
      t.now = max s.now l ∧
      t.chanFailed (cdId c) = true) ∧
  -- CHANNEL_DISABLE_COMMAND
  (∀ (c : Cd) (s : State), 3 ≤ s.modeNow ∧ c.val < s.channels ∧ s.chanFailed (cdId c) = false ∧ s.mode.chanDrain.any (fun e => e.1 = cdId c) = false →
    
    ∃ t, exec (.channelDisableCommand c) s = .next t ∧
      t.mode.chanDrain = s.mode.chanDrain ++ [(cdId c, s.now + 1000000 * (s.img.active.getD {}).pkg.drainMs)] ∧
      (s.cdUp (cdId c) = true → t.r (cdId c) (.cmd .GATE_refuse) = 1)) ∧
  -- CHANNEL_DISABLE_DRAIN_COMPLETE
  (∀ (c : Cd) (s : State), s.mode.chanDrain.any (fun e => e.1 = cdId c) = true →
    (s.cdUp (cdId c) && s.undrained (cdId c)) = false → 
    ∃ t, exec (.channelDisableDrainComplete c) s = .next t ∧
      t.chanFailed (cdId c) = true) ∧
  -- CHANNEL_DISABLE_DRAIN_LIMIT_EXPIRY
  (∀ (c : Cd) (l : Nat) (s : State), alGet s.mode.chanDrain (cdId c) = some l → 
    ∃ t, exec (.channelDisableDrainLimitExpiry c) s = .next t ∧
      t.now = max s.now l) ∧
  -- CHANNEL_FAIL
  (∀ (c : Cd) (s : State), ¬ s.modeNow < 3 ∧ s.cdUp (cdId c) = true → 
    ∃ t, exec (.channelFail c) s = .next t ∧
      t.chanFailed (cdId c) = true ∧
      t.dieBits (cdId c) % 8 = 7 ∧
      alGet t.rst.wdt (cdId c) = none)

/-- Time sources, the servo's measurements and the bounds each die reports. -/
def Obligations.ServoAndSources : Prop :=
  -- ERROR_BOUND_UPDATE
  (∀ (d : Nat) (s : State), s.servo = 0 ∧ s.tim.rate = s.growthRate ∧ s.dies.contains d = true ∧ s.r mdId (.lat .STATUS_pair_ring) = 0 →
    
    ∃ t, exec (.errorBoundUpdate) s = .next t ∧
      t.r d (.tim .ERR_BOUND_e_ns) = 0xFFFFFFFF ∧
      t.r 0 (.tim .PAIR_ERR_e_pair_ns) = 0xFFFFFFFF) ∧
  -- PTP_MESSAGE_RECEIVED
  (∀ (port : Fin 32) (tai : Nat) (s : State), s.rbit 0 (.eth .PORT_FLAGS_flags) 0 port.val = true ∧ s.rbit 0 (.eth .PORT_FLAGS_flags) 1 port.val = true →
    s.servo = 0 ∧ s.bestSource = none ∧ s.tim.syncPorts.contains port.val = false →
    
    ∃ t, exec (.ptpMessageReceived port (.sync tai)) s = .next t ∧
      t.tim.syncPorts.contains port.val = true) ∧
  -- PTP_MESSAGE_RECEIVED
  (∀ (port : Fin 32) (s : State), s.rbit 0 (.eth .PORT_FLAGS_flags) 0 port.val = true ∧ s.rbit 0 (.eth .PORT_FLAGS_flags) 1 port.val = true →
    
    ∃ t, exec (.ptpMessageReceived port .unsupported) s = .next t ∧
      t.ctr 0 0x10 10 port.val = (s.ctr 0 0x10 10 port.val + 1) % 2 ^ 64) ∧
  -- SOURCE_VALIDITY_TIMEOUT
  (∀ (port : Fin 32) (s : State), s.servo = 0 → 
    ∃ t, exec (.sourceValidityTimeout port true true true) s = .next t ∧
      t.tim.annPorts = s.tim.annPorts.filter (· ≠ port.val) ∧
      t.tim.syncPorts = s.tim.syncPorts.filter (· ≠ port.val) ∧
      t.tim.ppsGood = false ∧ t.tim.ppsRun = 0) ∧
  -- PPS_INPUT_EDGE
  (∀ (x sec : Nat) (s : State), s.r 0 (.tim .PPS_CFG_in_enable) ≠ 0 ∧ s.servo = 0 ∧ s.tim.ppsLast = none →
    
    ∃ t, exec (.ppsInputEdge x sec) s = .next t ∧
      t.tim.ppsLast = some (max s.now x) ∧
      t.tim.ppsRun = 0 ∧ t.tim.ppsGood = false) ∧
  -- REF10M_CHECK
  (∀ (missing : Bool) (ppm : Int) (s : State), s.r 0 (.tim .STATE_ref10m_valid) < 2 → 
    ∃ t, exec (.ref10mCheck missing ppm) s = .next t ∧
      t.r 0 (.tim .STATE_ref10m_valid) = (if missing = false ∧ ppm.natAbs ≤ 50 then 1 else 0) ∧
      t.r 0 (.clk .STATUS_ref10m_ok) = (if missing = false ∧ ppm.natAbs ≤ 50 then 1 else 0)) ∧
  -- FIRST_LOCK_WAIT_EXPIRY
  (∀ (s : State), 
    ∃ t, exec (.firstLockWaitExpiry) s = .next t ∧
      t.tim.firstLockOver = true ∧
      t.now = max s.now (s.mode.entered + s.tim.cfg.firstLockWait * 10 ^ 9)) ∧
  -- TS64_SEED
  (∀ (l : List Nat) (s : State), s.servo = 0 ∧ s.tim.firstLockOver = true ∧ s.r 0 (.tim .SERVO_CFG_unref_start) ≠ 0 ∧ s.bestSource = none ∧ s.discoveryOver = true →
    
    ∃ t, exec (.ts64Seed l) s = .next t ∧
      t.tsSet 0 = true ∧
      t.ts64 0 = l.foldl max 0 + s.tim.cfg.firstLockWait * 10 ^ 9 ∧
      t.r 0 (.tim .STATE_state) = 4) ∧
  -- TIME_DISTRIBUTION_SEND
  (∀ (d : Nat) (s : State), s.dies.contains d = true ∧ d ≠ 0 → 
    ∃ t, exec (.timeDistributionSend) s = .next t ∧
      (d, (⟨s.ts64 0, 0, s.servo, s.tim.stepFlag⟩ : TimeMsg)) ∈ t.tim.messages ∧
      t.tim.stepFlag = false) ∧
  -- TIME_DISAGREE_EPISODE_END
  (∀ (s : State), s.deltaAgrees = true → 
    ∃ t, exec (.timeDisagreeEpisodeEnd) s = .next t ∧
      t.tim.disagree = false)

/-- Schedule tables and windows, the 1PPS output, UTC and what a MASTER port announces. -/
def Obligations.SchedulesAndOutputs : Prop :=
  -- SCHEDULE_ENTRY_FIRE
  (∀ (die : DieId) (idx : Fin 256) (f : Nat) (s : State), (s.entry die.val idx.val).occ ((alGet s.tim.nextOcc (die.val, idx.val)).getD 0) = some f →
    (s.entry die.val idx.val).enabled = true ∧ s.tsSet die.val = true ∧ s.dieUp die.val = true ∧ (s.entry die.val idx.val).flags.testBit 2 = true →
    
    ∃ t, exec (.scheduleEntryFire die idx) s = .next t ∧
      OutMsg.irq (timerTarget die.val ((s.entry die.val idx.val).flags.testBit 1)) die.val 1 (if (s.entry die.val idx.val).kind = 7 then (s.entry die.val idx.val).target else 64 + (s.entry die.val idx.val).kind) ∈ t.out) ∧
  -- SCHEDULE_WINDOW_CLOSE
  (∀ (die : DieId) (idx : Fin 256) (w : OpenWindow) (s : State), s.tim.windows.find? (fun w => w.die = die.val && w.idx = idx.val) = some w →
    
    ∃ t, exec (.scheduleWindowClose die idx) s = .next t ∧
      t.tim.windows = s.tim.windows.filter (fun x => x ≠ w)) ∧
  -- TIM_SCHED_COMMIT
  (∀ (q : Req) (die : DieId) (s : State), q.secure = true → 
    ∃ t, exec (.timSchedCommit q die) s = .next t ∧
      t.tim.sched = s.tim.sched.filter (fun (p : (Nat × Nat) × SchedEntry) => p.1.1 ≠ die.val || decide (192 ≤ p.1.2)) ++ s.tim.shadow.filter (fun (p : (Nat × Nat) × SchedEntry) => p.1.1 = die.val && decide (p.1.2 < 192))) ∧
  -- TIM_SCHED_WRITE
  (∀ (q : Req) (die : DieId) (idx : Fin 256) (k : Fin 8) (v : Word) (s : State), q.secure = true ∧ idx.val < 192 → 
    ∃ t, exec (.timSchedWrite q die idx k v) s = .next t ∧
      alGet t.tim.shadow (die.val, idx.val) = some (((alGet s.tim.shadow (die.val, idx.val)).getD {}).setWord k.val v.toNat) ∧
      t.tim.sched = s.tim.sched) ∧
  -- TIM_SCHED_WRITE
  (∀ (q : Req) (die : DieId) (idx : Fin 256) (k : Fin 8) (v : Word) (e : SchedEntry) (s : State), 192 ≤ idx.val ∧ e = (s.entry die.val idx.val).setWord k.val v.toNat →
    (s.entry die.val idx.val).flags.testBit 1 = false ∧ e.flags.testBit 1 = false ∧ (s.entry die.val idx.val).enabled = false ∧ e.enabled = false →
    
    ∃ t, exec (.timSchedWrite q die idx k v) s = .next t ∧
      alGet t.tim.sched (die.val, idx.val) = some e) ∧
  -- PPS_OUTPUT_PULSE
  (∀ (s : State), s.tsSet 0 = true ∧ s.ppsDriven = true → 
    ∃ t, exec (.ppsOutputPulse) s = .next t ∧
      t.tim.ppsHigh = true ∧
      OutMsg.pin "PPS_OUT" true ∈ t.out) ∧
  -- PPS_OUTPUT_WIDTH_END
  (∀ (s : State), s.tim.ppsHigh = true → 
    ∃ t, exec (.ppsOutputWidthEnd) s = .next t ∧
      t.tim.ppsHigh = false ∧
      OutMsg.pin "PPS_OUT" false ∈ t.out) ∧
  -- UTC_LEAP_OFFSET_CHANGE
  (∀ (x : Nat) (dv : Int) (s : State), s.tim.leapAt = some (x, dv) ∧ s.tsSet 0 = true ∧ x ≤ (s.reachTs 0 x).ts64 0 →
    (s.r 0 (.tim .UTC_offset_s) : Int) + dv < 2 ^ 8 → 
    ∃ t, exec (.utcLeapOffsetChange) s = .next t ∧
      t.r 0 (.tim .UTC_offset_s) = ((s.r 0 (.tim .UTC_offset_s) : Int) + dv).toNat ∧
      t.r 0 (.tim .UTC_leap59) = 0 ∧ t.r 0 (.tim .UTC_leap61) = 0 ∧ t.tim.leapAt = none) ∧
  -- PTP_MESSAGE_SEND
  (∀ (port : Fin 32) (sync : Bool) (s : State), s.tim.cfg.clockType = 1 ∧ s.tim.cfg.masterPorts.testBit port.val = true ∧ (sync = true → s.servo ≠ 0) →
    
    ∃ t, exec (.ptpMessageSend port sync) s = .next t ∧
      t.out = s.out ++ [OutMsg.ptp port.val (if sync then 1 else 0) s.announcedClass (if s.servo = 2 then s.upstream else none)
        (s.ptpMac port.val)])

/-- The image loader: load in Proofing, staging, agreement with the partner, the epoch's switch. -/
def Obligations.ImageLoaderCommands : Prop :=
  -- CONFIG_IMAGE_LOAD
  (∀ (m : Image) (b : Option Image) (sel0 sel1 : Selector) (s u : State), s.modeNow = 2 → u = (({ s with img := { s.img with slotA := some m, slotB := b, sel0 := sel0, sel1 := sel1 } } : State).w mdId (.img .ROLLBACK_FLOOR_floor) s.img.floor).w mdId (.img .STATUS_boot_device) (s.r mdId (.rst .STRAP_boot_device)) →
    u.selector.current = 0 ∧ u.imageCheck m = none → 
    ∃ t, exec (.configImageLoad (some m) b sel0 sel1) s = .next t ∧
      t.img.active = some m ∧
      t.img.slotA = some m ∧ t.img.slotB = b ∧
      t.r mdId (.img .STATUS_current_slot) = 0) ∧
  -- CONFIG_IMAGE_LOAD
  (∀ (sel0 sel1 : Selector) (s : State), s.modeNow = 2 → 
    ∃ t, exec (.configImageLoad none none sel0 sel1) s = .next t ∧
      (⟨8, 3⟩ : Trig) ∈ t.mode.trigs) ∧
  -- IMG_STAGE_START
  (∀ (q : Req) (s : State), q.secure = true ∧ stageMode s.modeNow = true ∧ s.stagePending = false ∧ ¬ 8 < s.sec.ledgerQ.length →
    
    ∃ t, exec (.imgStageStart q false) s = .next t ∧
      t.img.staged = s.img.buffer ∧
      t.r mdId (.img .STATUS_stage_state) = 1 ∧
      (s.r mdId (.img .STATUS_current_slot) = 0 → t.img.slotB = s.img.buffer ∧ t.img.slotA = s.img.slotA)) ∧
  -- IMG_STAGE_CANCEL
  (∀ (q : Req) (s : State), q.secure = true ∧ s.stagePending = true ∧ s.r mdId (.img .STATUS_stage_state) ≠ 5 ∧ s.ts64 mdId + 10 ^ 9 ≤ (s.img.staged.getD {}).epoch ∧ s.solo = true →
    
    ∃ t, exec (.imgStageCancel q) s = .next t ∧
      t.img.staged = none ∧
      t.r mdId (.img .STATUS_stage_state) = 7 ∧
      t.r mdId (.img .STATUS_fail_code) = 0x0F) ∧
  -- STAGING_COMPLETE
  (∀ (m : Image) (s : State), between 1 (s.r mdId (.img .STATUS_stage_state)) 2 = true ∧ s.img.staged = some m ∧ s.stagedCheck m = none ∧ s.paired = false →
    
    ∃ t, exec (.stagingComplete true) s = .next t ∧
      t.r mdId (.img .STATUS_stage_state) = 4 ∧
      t.img.staged = some m) ∧
  -- STAGING_COMPLETE
  (∀ (m : Image) (s : State), between 1 (s.r mdId (.img .STATUS_stage_state)) 2 = true ∧ s.img.staged = some m →
    
    ∃ t, exec (.stagingComplete false) s = .next t ∧
      t.r mdId (.img .STATUS_stage_state) = 6 ∧
      t.img.staged = none) ∧
  -- STAGE_REPORT_RECEIVED
  (∀ (m : Image) (s : State), s.paired = true ∧ s.ringClosed = true ∧ s.img.staged = some m ∧ s.r mdId (.img .STATUS_stage_state) = 3 →
    
    ∃ t, exec (.stageReportReceived m.digest m.epoch none) s = .next t ∧
      t.r mdId (.img .STATUS_stage_state) = 4 ∧
      t.img.peer = some (m.digest, m.epoch)) ∧
  -- STAGE_AGREEMENT_DEADLINE
  (∀ (m : Image) (s : State), s.img.staged = some m ∧ s.r mdId (.img .STATUS_stage_state) = 3 →
    m.epoch ≤ (s.reachTs mdId (m.epoch - 10 ^ 9)).ts64 mdId + 10 ^ 9 →
    
    ∃ t, exec (.stageAgreementDeadline) s = .next t ∧
      t.img.staged = none ∧
      t.r mdId (.img .STATUS_stage_state) = 7 ∧ t.r mdId (.img .STATUS_fail_code) = 0x0E ∧
      (s.authenticated = true → s.sealReady 0 = true → OutMsg.partner 8 255 (s.pair.txSeq + 1) [5, 0, 0, 0x0E] [] ∈ t.out)) ∧
  -- EPOCH_SWITCH
  (∀ (m : Image) (s : State), s.img.staged = some m ∧ s.r mdId (.img .STATUS_stage_state) = 4 ∧ stageMode s.modeNow = true ∧ s.tsSet mdId = true →
    m.epoch ≤ (s.reachTs mdId m.epoch).ts64 mdId → 
    ∃ t, exec (.epochSwitch) s = .next t ∧
      t.img.staged = none ∧
      t.img.oldBanks = s.dies ∧
      t.img.floor = max s.img.floor (s.img.active.getD {}).seq) ∧
  -- OLD_BANK_RELEASE
  (∀ (die : DieId) (s : State), s.img.oldBanks.contains die.val = true → (s.cd die.val).slots.any (fun z => z.2.state = 1 && decide (z.2.stamp < s.img.switchAt)) = false →
    s.rdx.conns.any (fun e => e.1.1 = die.val && e.2.deliveries.any (fun x => decide (x.stamp < s.img.switchAt))) = false →
    
    ∃ t, exec (.oldBankRelease die) s = .next t ∧
      t.img.oldBanks = s.img.oldBanks.filter (· ≠ die.val))

/-- A lane moves through its adaptation states, and takes freeze, snap, equaliser and recalibration writes. -/
def Obligations.SerdesLanes : Prop :=
  -- LANE_ACQUIRE_COMPLETE
  (∀ (lane : Fin 40) (snr : BitVec 10) (s : State), s.lane lane.val = 1 → 
    ∃ t, exec (.laneAcquireComplete lane snr) s = .next t ∧
      t.lane lane.val = (if s.eth.crkr.contains lane.val then 2 else 3) ∧
      t.r 0 (.sds .LANE_STATUS_cdr_lock) lane.val = 1 ∧ t.r 0 (.sds .LANE_STATUS_snr) lane.val = snr.toNat) ∧
  -- LANE_TRAINING_COMPLETE
  (∀ (lane : Fin 40) (taps : BitVec 30) (s : State), s.lane lane.val = 2 → 
    ∃ t, exec (.laneTrainingComplete lane taps) s = .next t ∧
      t.lane lane.val = 3 ∧ t.r 0 (.sds .LANE_TXEQ_taps) lane.val = taps.toNat) ∧
  -- LANE_TRAINING_TIMEOUT
  (∀ (lane : Fin 40) (s : State), s.lane lane.val = 2 → 
    ∃ t, exec (.laneTrainingTimeout lane) s = .next t ∧
      t.lane lane.val = 1) ∧
  -- LANE_SIGNAL_LOSS
  (∀ (lane : Fin 40) (s : State), s.laneTracks lane.val = true → 
    ∃ t, exec (.laneSignalLoss lane) s = .next t ∧
      t.lane lane.val = 5 ∧ t.r 0 (.sds .LANE_STATUS_cdr_lock) lane.val = 0 ∧
      t.frozenBits lane.val = false ∧ t.r 0 (.sds .LANE_STATUS_freeze_lost) lane.val = 1) ∧
  -- LANE_FAULT_RECOVERY
  (∀ (lane : Fin 40) (s : State), s.lane lane.val = 5 → 
    ∃ t, exec (.laneFaultRecovery lane) s = .next t ∧
      t.lane lane.val = 1) ∧
  -- LANE_UPDATE_BOUNDARY
  (∀ (lane : Fin 40) (c : LaneCoef) (s : State), s.lane lane.val = 3 → 
    ∃ t, exec (.laneUpdateBoundary lane c) s = .next t ∧
      alGet t.eth.live lane.val = some c ∧
      t.lane lane.val = (if s.frozenBits lane.val then 4 else 3)) ∧
  -- LANE_FREEZE_WRITE
  (∀ (q : Req) (lane : Fin 40) (a b c : Bool) (s : State), q.secure = true → 
    ∃ t, exec (.laneFreezeWrite q lane a b c) s = .next t ∧
      t.rb 0 (.sds .LANE_CTRL_freeze_ctle) lane.val = a ∧ t.rb 0 (.sds .LANE_CTRL_freeze_ffe) lane.val = b ∧ t.rb 0 (.sds .LANE_CTRL_freeze_dfe) lane.val = c) ∧
  -- LANE_SNAP
  (∀ (q : Req) (lane : Fin 40) (s : State), q.secure = true → 
    ∃ t, exec (.laneSnap q lane) s = .next t ∧
      t.eth.snapDue = s.eth.snapDue ++ [lane.val]) ∧
  -- LANE_RXEQ_WRITE
  (∀ (q : Req) (lane : Fin 40) (v : Word) (c : LaneCoef) (s : State), q.secure = true ∧ s.lane lane.val = 4 ∧ c = (alGet s.eth.rxDue lane.val).getD ((alGet s.eth.live lane.val).getD {}) →
    
    ∃ t, exec (.laneRxeqWrite q lane none v) s = .next t ∧
      alGet t.eth.rxDue lane.val = some ({ c with ctle := v.toNat / 256 % 32, dfe := v.toNat % 256 } : LaneCoef)) ∧
  -- LANE_TXEQ_WRITE
  (∀ (q : Req) (lane : Fin 40) (v : BitVec 30) (s : State), q.secure = true ∧ s.eth.crkr.contains lane.val = false ∧ ¬ 63 < tapSum v.toNat →
    
    ∃ t, exec (.laneTxeqWrite q lane v) s = .next t ∧
      alGet t.eth.txDue lane.val = some v.toNat) ∧
  -- SERDES_RECAL_LANE
  (∀ (group : Fin 10) (w : OpenWindow) (i : Nat) (s : State), s.tim.windows.find? (fun w => w.die = 0 && w.entry.kind = 4 && w.entry.target = group.val) = some w →
    ((s.profile 0).recal = 0 || !between 3 s.modeNow 0xA) = false ∧ s.ts64 0 + 200000 ≤ w.closes →
    (List.range 4).find? (fun i => s.lane (4 * group.val + (s.r 0 (.sds .RECAL_STATUS_next) / 2 ^ (2 * group.val) % 4 + i) % 4) = 3) = some i →
    
    ∃ t, exec (.serdesRecalLane group) s = .next t ∧
      t.now = s.now + 200000)

/-- A port's link comes up and fails, its FEC degrades, preemption is verified, and received frames are checked, filtered
and assembled. -/
def Obligations.LinksAndReception : Prop :=
  -- PORT_LINK_UP
  (∀ (port : Fin 32) (s : State), s.rbit 0 (.eth .PORT_FLAGS_flags) 0 port.val = true ∧ (s.portLanes port.val).all s.laneTracks = true ∧ s.link port.val ≠ 2 ∧ s.link port.val ≠ 4 →
    
    ∃ t, exec (.portLinkUp port) s = .next t ∧
      t.link port.val = 2 ∧
      t.r 0 (.eth .LINK_SUMMARY_up) / 2 ^ port.val % 2 = 1 ∧
      (s.rbit 0 (.eth .PORT_FLAGS_flags) 3 port.val = true → OutMsg.mpacket port.val false ∈ t.out ∧ t.r 0 (.eth .PREEMPT_STATUS_verify_state) port.val = 1)) ∧
  -- PORT_LINK_FAULT
  (∀ (port : Fin 32) (sending : Bool) (s : State), s.link port.val = 2 → 
    ∃ t, exec (.portLinkFault port sending) s = .next t ∧
      t.link port.val = 3 ∧
      t.ctr 0 0x10 22 port.val = (s.ctr 0 0x10 22 port.val + 1) % 2 ^ 64 ∧
      t.r 0 (.eth .PORT_STATUS_preempt_active) port.val = 0) ∧
  -- REMOTE_FAULT_RECEIVED
  (∀ (port : Fin 32) (sending : Bool) (s : State), s.link port.val ≠ 0 → 
    ∃ t, exec (.remoteFaultReceived port false sending) s = .next t ∧
      t.link port.val = 4) ∧
  -- FEC_DEGRADE_WINDOW_END
  (∀ (port : Fin 32) (a b n : Nat) (s : State), 0 < s.r 0 (.eth .FEC_CFG_deg_thr) port.val ∧ s.r 0 (.eth .FEC_CFG_deg_thr) port.val < n →
    
    ∃ t, exec (.fecDegradeWindowEnd port a b [n]) s = .next t ∧
      t.r 0 (.eth .PORT_STATUS_fec_degraded) port.val = 1 ∧
      t.ctr 0 0x10 19 port.val = (s.ctr 0 0x10 19 port.val + a) % 2 ^ 64) ∧
  -- PREEMPT_VERIFY_TIMEOUT
  (∀ (port : Fin 32) (s : State), s.r 0 (.eth .PREEMPT_STATUS_verify_state) port.val = 1 →
    
    ∃ t, exec (.preemptVerifyTimeout port) s = .next t ∧
      ((alGet s.eth.verifies port.val).getD 0 < 3 → OutMsg.mpacket port.val false ∈ t.out ∧ alGet t.eth.verifies port.val = some ((alGet s.eth.verifies port.val).getD 0 + 1)) ∧
      (¬ (alGet s.eth.verifies port.val).getD 0 < 3 → t.r 0 (.eth .PREEMPT_STATUS_verify_state) port.val = 3 ∧ t.ctr 0 0x10 24 port.val = (s.ctr 0 0x10 24 port.val + 1) % 2 ^ 64)) ∧
  -- PREEMPT_RESPOND_RECEIVED
  (∀ (port : Fin 32) (s : State), s.r 0 (.eth .PREEMPT_STATUS_verify_state) port.val = 1 →
    
    ∃ t, exec (.preemptRespondReceived port) s = .next t ∧
      t.r 0 (.eth .PREEMPT_STATUS_verify_state) port.val = 2 ∧ t.r 0 (.eth .PORT_STATUS_preempt_active) port.val = 1) ∧
  -- GRATUITOUS_REPEAT
  (∀ (s : State), s.eth.gratLeft ≠ 0 ∧ s.dataPresence = true → 
    ∃ t, exec (.gratuitousRepeat) s = .next t ∧
      t.eth.gratLeft = s.eth.gratLeft - 1 ∧
      t.now = max s.now s.eth.gratAt) ∧
  -- ETH_SNAPSHOT
  (∀ (q : Req) (port : Fin 32) (s : State), 
    ∃ t, exec (.ethSnapshot q port) s = .next t ∧
      (⟨0, 0x10, q.secure, s.counters 0 0x10 25 port.val, 0⟩ : Snapshot) ∈ t.snaps ∧
      t.r 0 (.eth .SNAP_CTRL_done) (if q.secure then 1 else 0) = 1) ∧
  -- FRAME_RECEIVED
  (∀ (port : Fin 32) (f : RxFrame) (s : State), s.link port.val = 2 ∧ f.kind ≠ .verify ∧ (s.fifoReserve port.val).isNone = true →
    
    ∃ t, exec (.frameReceived port f) s = .next t ∧
      t.ctr 0 0x10 2 port.val = (s.ctr 0 0x10 2 port.val + 1) % 2 ^ 64) ∧
  -- FRAME_RECEIVED
  (∀ (port : Fin 32) (f : RxFrame) (s : State), s.link port.val = 2 ∧ f.kind = .verify ∧ s.rbit 0 (.eth .PORT_FLAGS_flags) 3 port.val = true →
    
    ∃ t, exec (.frameReceived port f) s = .next t ∧
      t.out = s.out ++ [OutMsg.mpacket port.val true]) ∧
  -- FRAME_RECEIVED
  (∀ (port : Fin 32) (f : RxFrame) (s u : State), s.link port.val = 2 ∧ f.kind ≠ .verify ∧ s.fifoReserve port.val = some u →
    ¬ u.r 0 (.eth .PORT_CFG_max_frame) port.val < f.bytes ∧ ¬ f.bytes < 64 ∧ (f.errBlock || !f.fcsOk) = false ∧ u.vlanOk port.val f = false →
    
    ∃ t, exec (.frameReceived port f) s = .next t ∧
      t.ctr 0 0x10 8 port.val = (s.ctr 0 0x10 8 port.val + 1) % 2 ^ 64 ∧
      t.ctr 0 0x10 0 port.val = s.ctr 0 0x10 0 port.val) ∧
  -- FRAGMENT_RECEIVED
  (∀ (port : Fin 32) (frag : Fin 4) (n : Nat) (f : RxFrame) (s : State), s.link port.val = 2 ∧ s.rbit 0 (.eth .PORT_FLAGS_flags) 3 port.val = true ∧ (alGet s.eth.reasm port.val).isNone = true ∧ (s.fifoReserve port.val).isSome = true →
    
    ∃ t, exec (.fragmentReceived port true frag n true false f) s = .next t ∧
      alGet t.eth.reasm port.val = some ({ next := 0, bytes := n } : Reasm) ∧
      t.ctr 0 0x10 12 port.val = (s.ctr 0 0x10 12 port.val + 1) % 2 ^ 64) ∧
  -- FRAGMENT_RECEIVED
  (∀ (port : Fin 32) (frag : Fin 4) (n : Nat) (x : Reasm) (f : RxFrame) (s : State), s.link port.val = 2 ∧ s.rbit 0 (.eth .PORT_FLAGS_flags) 3 port.val = true ∧ alGet s.eth.reasm port.val = some x ∧ frag.val = x.next ∧ x.dropped = false →
    
    ∃ t, exec (.fragmentReceived port false frag n true false f) s = .next t ∧
      alGet t.eth.reasm port.val = some ({ next := (x.next + 1) % 4, bytes := x.bytes + n } : Reasm))

/-- The switch core forwards by its cyclic pattern, replicates in passes, recirculates, and takes its writes under their
rules. -/
def Obligations.SwitchCore : Prop :=
  -- CELL_FORWARD
  (∀ (u : List (Fin 16)) (s : State), 
    ∃ t, exec (.cellForward u) s = .next t ∧
      t.swx.slot = (s.swx.slot + 1) % 16 ∧
      t.r 0 (.swx .STATUS_cells_used) = t.cellsUsed % 2 ^ 18) ∧
  -- REPLICATION_PASS
  (∀ (o : OutFrame) (l : List OutFrame) (s : State), alList s.swx.delivered 15 = o :: l → 
    ∃ t, exec (.replicationPass) s = .next t ∧
      alList t.swx.delivered 15 = l ∧
      alList t.swx.inq 15 = alList s.swx.inq 15 ++
        [{ o.frame with src := 15, group := true, left := o.frame.cells, members := some o.later, inPort := none, fid := s.swx.nextFid }]) ∧
  -- RECIRCULATED_FRAME
  (∀ (b : Bool) (lport : Fin 32) (o : OutFrame) (l : List OutFrame) (s : State), alList s.swx.delivered (if b then 14 else 13) = o :: l →
    (b && !s.rb 0 (.swx .LOOPBACK_enable)) = false → 
    ∃ t, exec (.recirculatedFrame b lport) s = .next t ∧
      alList t.swx.delivered (if b then 14 else 13) = l ∧
      alList t.swx.inq (if b then 14 else 13) = alList s.swx.inq (if b then 14 else 13) ++
        [{ o.frame with src := if b then 14 else 13, group := false, dest := lport.val / 8, lport := lport.val, left := o.frame.cells, inPort := none, fid := s.swx.nextFid }]) ∧
  -- MCAST_GROUP_WRITE
  (∀ (q : Req) (g : Fin 32) (v : Bool) (m : BitVec 16) (s : State), q.secure = true ∧ 6 ≤ g.val → 
    ∃ t, exec (.mcastGroupWrite q g v m) s = .next t ∧
      t.r 0 (.swx .MCAST_GROUP_members) g.val = m.toNat ∧ t.rb 0 (.swx .MCAST_GROUP_valid) g.val = v ∧
      (m.toNat ≠ s.groupMembers g.val → alGet t.swx.pendingMembers g.val = some m.toNat ∧ t.swx.members = s.swx.members)) ∧
  -- MCAST_HOLD_RELEASE
  (∀ (g : Fin 32) (m : Nat) (s : State), alGet s.swx.pendingMembers g.val = some m → (List.range 16).any (fun i => s.streamBusy i (16 + g.val)) = false →
    
    ∃ t, exec (.mcastHoldRelease g) s = .next t ∧
      t.groupMembers g.val = m ∧ alGet t.swx.pendingMembers g.val = none) ∧
  -- SWX_LOOPBACK_WRITE
  (∀ (q : Req) (v : Bool) (s : State), q.secure = true → 
    ∃ t, exec (.swxLoopbackWrite q v) s = .next t ∧
      t.rb 0 (.swx .LOOPBACK_enable) = (if s.modeNow = 0xA then v else s.rb 0 (.swx .LOOPBACK_enable))) ∧
  -- OUT_LIMIT_WRITE
  (∀ (q : Req) (p : Fin 16) (a b c : BitVec 10) (s : State), q.secure = true ∧ 1 ≤ a.toNat ∧ a.toNat ≤ 768 ∧ b.toNat ≤ a.toNat ∧ c.toNat ≤ b.toNat →
    
    ∃ t, exec (.outLimitWrite q p a b c) s = .next t ∧
      t.r 0 (.swx .OUT_LIMIT_green_limit) p.val = a.toNat ∧ t.r 0 (.swx .OUT_LIMIT_yellow_limit) p.val = b.toNat ∧
      t.r 0 (.swx .OUT_LIMIT_red_limit) p.val = c.toNat) ∧
  -- SWX_SNAPSHOT
  (∀ (q : Req) (p : Fin 16) (s : State), 
    ∃ t, exec (.swxSnapshot q p) s = .next t ∧
      (⟨0, 0x12, q.secure, s.counters 0 0x12 11 p.val, 0⟩ : Snapshot) ∈ t.snaps) ∧
  -- POL_SNAPSHOT
  (∀ (q : Req) (i : Fin 2048) (c : Bool) (tc te at_ : Nat) (s : State), alGet s.swx.buckets i.val = some (tc, te, at_) → 
    ∃ t, exec (.polSnapshot q i c) s = .next t ∧
      (⟨0, 0x13, q.secure, s.counters 0 0x13 7 i.val ++ [tc, te], (alGet s.swx.polOvf i.val).getD 0⟩ : Snapshot) ∈ t.snaps ∧
      (c = true → (alGet t.swx.polOvf i.val).getD 0 = 0))

/-- The egress side sends frames, advances gate lists and drops stale frames. -/
def Obligations.EgressScheduler : Prop :=
  -- FRAME_TRANSMIT
  (∀ (port : Fin 32) (n cls : Nat) (ex : List (Nat × Nat × Nat)) (s : State), s.r 0 (.eth .PORT_STATUS_link_state) port.val = 2 → 
    ∃ t, exec (.frameTransmit port n cls ex) s = .next t ∧
      OutMsg.frame port.val (s.wireBytes port.val n).1 cls (s.wireBytes port.val n).2 ∈ t.out) ∧
  -- GATE_ENTRY_ADVANCE
  (∀ (port : Fin 32) (g : GateList) (s : State), s.gateList port.val = some g ∧ g.entries.length ≤ 256 →
    ¬ (s.reachTs 0 ((alGet s.sch.entryAt port.val).getD 0 + (g.entries.getD (s.r 0 (.sch .GATE_STATE_entry) port.val) {}).interval)).ts64 0 <
    (alGet s.sch.entryAt port.val).getD 0 + (g.entries.getD (s.r 0 (.sch .GATE_STATE_entry) port.val) {}).interval →
    
    ∃ t, exec (.gateEntryAdvance port) s = .next t ∧
      t.r 0 (.sch .GATE_STATE_entry) port.val =
        (if s.r 0 (.sch .GATE_STATE_entry) port.val + 1 < g.entries.length then s.r 0 (.sch .GATE_STATE_entry) port.val + 1 else 0) ∧
      alGet t.sch.entryAt port.val = some ((alGet s.sch.entryAt port.val).getD 0 +
        (g.entries.getD (s.r 0 (.sch .GATE_STATE_entry) port.val) {}).interval)) ∧
  -- TRANSMIT_OPPORTUNITY
  (∀ (port : Fin 32) (c : Fin 8) (f : SchFrame) (s : State), s.r 0 (.eth .PORT_STATUS_link_state) port.val = 2 ∧ s.sch.fifos = [((port.val, 0x10000 + c.val), [f])] ∧ f.cls = c.val →
    s.longestWindow port.val f.cls = none ∧ s.eligible port.val (0x10000 + c.val) f = true →
    alGet s.sch.part port.val = none ∧ s.windowLeft port.val f.cls = none →
    s.chargeOf port.val f ≤ (alGet (s.deficitsOf (port.val * 8 + f.cls)) (0x10000 + c.val)).getD 0 →
    s.chargeOf port.val f ≤ (alGet (s.deficitsOf (0x1000 + port.val * 0x20000 + (0x10000 + c.val))) (0x10000 + c.val)).getD 0 →
    
    ∃ t, exec (.transmitOpportunity port) s = .next t ∧
      OutMsg.frame port.val (s.wireBytes port.val f.bytes).1 f.cls ((s.wireBytes port.val f.bytes).2 || f.err) ∈ t.out ∧
      alList t.sch.fifos (port.val, 0x10000 + c.val) = []) ∧
  -- SCHEDULER_STALE_DROP
  (∀ (port : Fin 32) (s : State), 
    ∃ t, exec (.schedulerStaleDrop port) s = .next t ∧
      t.sch.fifos = s.sch.fifos.map (fun (e : (Nat × Nat) × List SchFrame) =>
        if e.1.1 = port.val then (e.1, e.2.filter (fun (f : SchFrame) => !decide (100000000 < s.now - f.at_))) else e))

/-- The performance monitor starts, stops, copies, presets and selects its counters. -/
def Obligations.PerformanceCounters : Prop :=
  -- PMC_START
  (∀ (q : Req) (d : DieId) (a b : BitVec 8) (s : State), s.pmcDenied q d.val (a.toNat ||| b.toNat) = false ∧ a.toNat &&& b.toNat = 0 →
    
    ∃ t, exec (.pmcStart q d a b) s = .next t ∧
      t.r d.val (.pmc .STATUS_running) = ((s.r d.val (.pmc .STATUS_running) &&& (255 - b.toNat)) ||| a.toNat) % 256) ∧
  -- PMC_STOP
  (∀ (q : Req) (d : DieId) (b : BitVec 8) (s : State), s.pmcDenied q d.val b.toNat = false → 
    ∃ t, exec (.pmcStop q d b) s = .next t ∧
      t.r d.val (.pmc .STATUS_running) = (s.r d.val (.pmc .STATUS_running) &&& (255 - b.toNat)) % 256) ∧
  -- PMC_TIMED_ARM
  (∀ (q : Req) (d : DieId) (a b : Bool) (m : BitVec 8) (s : State), s.pmcDenied q d.val (if a then m.toNat else 0) = false →
    
    ∃ t, exec (.pmcTimedArm q d a b m) s = .next t ∧
      (a = true → m.toNat ≠ 0 → alGet t.pmc.starts d.val = some (m.toNat, s.r d.val (.pmc .START_AT))) ∧
      (b = true → alGet t.pmc.shots d.val = some (s.r d.val (.pmc .SNAP_AT))) ∧
      t.rb d.val (.pmc .STATUS_snap_armed) = b ∧ t.r d.val (.pmc .TIMED_mask) = m.toNat) ∧
  -- PMC_TIMED_START
  (∀ (d : DieId) (m at_ : Nat) (s : State), alGet s.pmc.starts d.val = some (m, at_) → (s.reachTs d.val at_).tsSet d.val = true ∧ at_ ≤ (s.reachTs d.val at_).ts64 d.val →
    
    ∃ t, exec (.pmcTimedStart d) s = .next t ∧
      t.r d.val (.pmc .STATUS_running) = ((s.reachTs d.val at_).r d.val (.pmc .STATUS_running) ||| m) % 256 ∧
      t.r d.val (.pmc .EVENTS_timed_start) = 1 ∧ alGet t.pmc.starts d.val = none) ∧
  -- PMC_TIMED_SNAPSHOT
  (∀ (d : DieId) (at_ : Nat) (s : State), alGet s.pmc.shots d.val = some at_ → (s.reachTs d.val at_).tsSet d.val = true ∧ at_ ≤ (s.reachTs d.val at_).ts64 d.val →
    
    ∃ t, exec (.pmcTimedSnapshot d) s = .next t ∧
      t.snaps.any (fun x => x.die = d.val && x.blk = 6 && x.secure) = true ∧
      t.snaps.any (fun x => x.die = d.val && x.blk = 6 && !x.secure) = true ∧
      t.r d.val (.pmc .EVENTS_timed_snap) = 1 ∧ alGet t.pmc.shots d.val = none) ∧
  -- PMC_SNAPSHOT
  (∀ (q : Req) (d : DieId) (s : State), 
    ∃ t, exec (.pmcSnapshot q d) s = .next t ∧
      t.snaps.any (fun x => x.die = d.val && x.blk = 6 && x.secure = q.secure && x.values = (List.range 8).map (fun n =>
        if !q.secure && s.rb d.val (.pmc .CTR_CFG_secure) n then 0 else s.r d.val (.pmc .CTR) n) ++ [s.ts64 d.val]) = true) ∧
  -- PMC_COUNTER_PRESET
  (∀ (q : Req) (d : DieId) (n : Fin 8) (hi : Bool) (v : Word) (s : State), s.pmcDenied q d.val (2 ^ n.val) = false ∧ s.rbit d.val (.pmc .STATUS_running) n.val = false →
    
    ∃ t, exec (.pmcCounterPreset q d n hi v) s = .next t ∧
      (hi = true → t.r d.val (.pmc .CTR) n.val = (v.toNat * 2 ^ 32 + (alGet s.pmc.held (d.val, n.val, q)).getD (s.r d.val (.pmc .CTR) n.val % 2 ^ 32)) % 2 ^ 64) ∧
      (hi = false → t.r d.val (.pmc .CTR) n.val = s.r d.val (.pmc .CTR) n.val ∧ alGet t.pmc.held (d.val, n.val, q) = some v.toNat)) ∧
  -- PMC_SELECTOR_WRITE
  (∀ (q : Req) (d : DieId) (n : Fin 8) (v : Word) (s : State), s.pmcDenied q d.val (2 ^ n.val) = false ∧ s.rbit d.val (.pmc .STATUS_running) n.val = false →
    
    ∃ t, exec (.pmcSelectorWrite q d n v) s = .next t ∧
      (validSelector d.val v.toNat = true → t.r d.val (.pmc .CTR_SEL_selector) n.val = v.toNat) ∧
      (validSelector d.val v.toNat = false → t.r d.val (.pmc .EVENTS_sel_refused) = 1 ∧
        t.r d.val (.pmc .CTR_SEL_selector) n.val = s.r d.val (.pmc .CTR_SEL_selector) n.val))

/-- The connection manager answers requests, and connection commands move a context through its states. -/
def Obligations.ConnectionCommands : Prop :=
  -- CM_REQUEST
  (∀ (n v f p sl ch : Nat) (b : Bool) (c : Nat) (s : State), s.cmDie = some c → 
    ∃ t, exec (.cmRequest n b v f p sl ch) s = .next t ∧
      (¬(b = true ∧ v = 1) → OutMsg.cmReply (cdId c) true false 0 1 1 ∈ t.out) ∧
      (b = true → v = 1 → ch < s.channels → s.chanFailed (cdId ch) = false → 1 ≤ p → p ≤ 4 → 1 ≤ sl → sl ≤ 16 →
      OutMsg.cmReply (cdId c) true true (f % 4) p (min sl (s.r (cdId ch) (.rdx .CFG_max_slots))) ∈ t.out)) ∧
  -- CONN_OPEN
  (∀ (d : Cd) (conn : BitVec 24) (s : State), s.cdUp (cdId d) = true ∧ s.modeNow ≠ 0xB → (s.conn (cdId d) (conn.toNat % 4096)).state = 0 → 
    ∃ t, exec (.connOpen d conn) s = .next t ∧
      (t.conn (cdId d) (conn.toNat % 4096)).state = 1 ∧
      (t.conn (cdId d) (conn.toNat % 4096)).gen =
        (if (s.conn (cdId d) (conn.toNat % 4096)).gen = 511 then 1 else (s.conn (cdId d) (conn.toNat % 4096)).gen + 1)) ∧
  -- CONN_READY
  (∀ (d : Cd) (conn : BitVec 24) (e : PortEntry) (s : State), s.cdUp (cdId d) = true ∧ s.modeNow ≠ 0xB → (s.conn (cdId d) (connIdx conn.toNat)).state = 1 ∧ s.connNamed (cdId d) conn.toNat = true ∧ s.connPort (s.conn (cdId d) (connIdx conn.toNat)).f.port = some e ∧ connFOk (s.conn (cdId d) (connIdx conn.toNat)).f e.rdmaMtu = true →
    
    ∃ t, exec (.connReady d conn) s = .next t ∧
      (t.conn (cdId d) (connIdx conn.toNat)).state = 2 ∧ (t.conn (cdId d) (connIdx conn.toNat)).epsn = (s.conn (cdId d) (connIdx conn.toNat)).f.epsn ∧ (t.conn (cdId d) (connIdx conn.toNat)).txNext = (s.conn (cdId d) (connIdx conn.toNat)).f.txNext ∧ (t.conn (cdId d) (connIdx conn.toNat)).txUna = (s.conn (cdId d) (connIdx conn.toNat)).f.txNext ∧
      (t.conn (cdId d) (connIdx conn.toNat)).retriesLeft = (s.conn (cdId d) (connIdx conn.toNat)).f.retryCnt ∧ (t.conn (cdId d) (connIdx conn.toNat)).credits = 1 ∧ alGet t.swx.connHost conn.toNat = some (s.conn (cdId d) (connIdx conn.toNat)).f.host) ∧
  -- CONN_DRAIN
  (∀ (d : Cd) (conn : BitVec 24) (s : State), s.cdUp (cdId d) = true ∧ s.modeNow ≠ 0xB → (s.conn (cdId d) (connIdx conn.toNat)).state = 2 ∧ s.connNamed (cdId d) conn.toNat = true →
    
    ∃ t, exec (.connDrain d conn) s = .next t ∧
      (t.conn (cdId d) (connIdx conn.toNat)).state = 3) ∧
  -- CONN_ERROR_CMD
  (∀ (d : Cd) (conn : BitVec 24) (s : State), s.cdUp (cdId d) = true ∧ s.modeNow ≠ 0xB → ((s.conn (cdId d) (connIdx conn.toNat)).state = 1 ∨ (s.conn (cdId d) (connIdx conn.toNat)).state = 2 ∨ (s.conn (cdId d) (connIdx conn.toNat)).state = 3) ∧ s.connNamed (cdId d) conn.toNat = true →
    
    ∃ t, exec (.connErrorCmd d conn) s = .next t ∧
      (t.conn (cdId d) (connIdx conn.toNat)).state = 4) ∧
  -- CONN_FREE
  (∀ (d : Cd) (conn : BitVec 24) (s : State), s.cdUp (cdId d) = true ∧ s.modeNow ≠ 0xB → ((s.conn (cdId d) (connIdx conn.toNat)).state = 4 ∨ s.connDrained (cdId d) (connIdx conn.toNat) = true) ∧ s.connNamed (cdId d) conn.toNat = true →
    
    ∃ t, exec (.connFree d conn) s = .next t ∧
      (t.conn (cdId d) (connIdx conn.toNat)).state = 0 ∧ alGet t.swx.connHost conn.toNat = none) ∧
  -- CONN_SHADOW
  (∀ (d : Cd) (conn : BitVec 24) (s : State), s.cdUp (cdId d) = true ∧ s.modeNow ≠ 0xB → (s.conn (cdId d) (connIdx conn.toNat)).state = 1 ∧ s.connNamed (cdId d) conn.toNat = true →
    
    ∃ t, exec (.connShadow d conn) s = .next t ∧
      (t.conn (cdId d) (connIdx conn.toNat)).state = 5 ∧ (t.conn (cdId d) (connIdx conn.toNat)).epsn = (s.conn (cdId d) (connIdx conn.toNat)).f.epsn)

/-- The transport receives packets, acknowledges, confirms placements and delivers in order. -/
def Obligations.TransportReceive : Prop :=
  -- RDMA_PACKET_RECEIVED
  (∀ (d : Cd) (p : RdmaPkt) (s : State), s.cdUp (cdId d) = true ∧ s.modeNow ≠ 0xB → 
    ∃ t, exec (.rdmaPacketReceived d p) s = .next t ∧
      (p.icrcOk = false → t.rdx = s.rdx ∧ t.ctr (cdId d) 0x20 0 = (s.ctr (cdId d) 0x20 0 + 1) % 2 ^ 64) ∧
      (p.icrcOk = true ∧ p.errMark = false ∧ p.tver = 0 ∧ p.pkey % 32768 = 0x7FFF ∧ p.ce = false ∧ p.opcode = 4 ∧
      (s.conn (cdId d) (connIdx p.qp)).state = 2 ∧ (s.conn (cdId d) (connIdx p.qp)).gen = connGen p.qp ∧
      (s.conn (cdId d) (connIdx p.qp)).f.flags.testBit 0 = false ∧ (s.conn (cdId d) (connIdx p.qp)).msg = none ∧
      (s.conn (cdId d) (connIdx p.qp)).credits ≠ 0 ∧ p.psn = (s.conn (cdId d) (connIdx p.qp)).epsn ∧ p.psn < 2 ^ 24 →
      (t.conn (cdId d) (connIdx p.qp)).epsn = (p.psn + 1) % 2 ^ 24 ∧
      (t.conn (cdId d) (connIdx p.qp)).rxMsn = ((s.conn (cdId d) (connIdx p.qp)).rxMsn + 1) % 2 ^ 24 ∧
      (t.conn (cdId d) (connIdx p.qp)).deliveries.length = (s.conn (cdId d) (connIdx p.qp)).deliveries.length + 1)) ∧
  -- MULTIPATH_PACKET_RECEIVED
  (∀ (d : Cd) (p : RdmaPkt) (s : State), s.cdUp (cdId d) = true ∧ s.modeNow ≠ 0xB → p.icrcOk = true ∧ p.errMark = false ∧ p.tver = 0 ∧ p.pkey % 32768 = 0x7FFF ∧ p.ce = false ∧ p.opcode = 0xC0 →
    (s.conn (cdId d) (connIdx p.qp)).state = 2 ∧ (s.conn (cdId d) (connIdx p.qp)).gen = connGen p.qp →
    (s.conn (cdId d) (connIdx p.qp)).f.flags.testBit 0 = true ∧ (s.conn (cdId d) (connIdx p.qp)).slots = [] ∧ 0 < (s.conn (cdId d) (connIdx p.qp)).f.slotLimit →
    (s.conn (cdId d) (connIdx p.qp)).credits ≠ 0 ∧ s.r (cdId d) (.rdx .STATUS_slots_used) < 8192 →
    p.psn = (s.conn (cdId d) (connIdx p.qp)).epsn ∧ p.psn < 2 ^ 24 ∧ p.index = 0 ∧ p.lastIndex = 0 →
    
    ∃ t, exec (.multipathPacketReceived d p) s = .next t ∧
      (t.conn (cdId d) (connIdx p.qp)).slots.map (fun x => x.base) = [p.psn] ∧
      (t.conn (cdId d) (connIdx p.qp)).epsn = p.psn ∧ (t.conn (cdId d) (connIdx p.qp)).credits = (s.conn (cdId d) (connIdx p.qp)).credits - 1) ∧
  -- ACK_DELAY_EXPIRY
  (∀ (d : Cd) (conn : BitVec 24) (at_ : Nat) (s : State), s.cdUp (cdId d) = true ∧ s.modeNow ≠ 0xB → (s.conn (cdId d) (connIdx conn.toNat)).ackDue = some at_ ∧ ((s.conn (cdId d) (connIdx conn.toNat)).state = 2 ∨ (s.conn (cdId d) (connIdx conn.toNat)).state = 3) →
    
    ∃ t, exec (.ackDelayExpiry d conn) s = .next t ∧
      (t.conn (cdId d) (connIdx conn.toNat)).ackDue = none ∧ (t.conn (cdId d) (connIdx conn.toNat)).unacked = 0 ∧
      OutMsg.rdmaAck (cdId d) (connNum (cdId d) (connIdx conn.toNat) (s.conn (cdId d) (connIdx conn.toNat)).gen) 0 (((s.conn (cdId d) (connIdx conn.toNat)).epsn + (2 ^ 24 - 1)) % 2 ^ 24) (s.conn (cdId d) (connIdx conn.toNat)).rxMsn ∈ t.out) ∧
  -- PLACEMENT_CONFIRM
  (∀ (d : Cd) (conn : BitVec 24) (k : Nat) (p : Placing) (s : State), s.cdUp (cdId d) = true ∧ s.modeNow ≠ 0xB → (s.conn (cdId d) (connIdx conn.toNat)).placing.find? (fun y => y.ticket = k) = some p →
    
    ∃ t, exec (.placementConfirm d conn k) s = .next t ∧
      (t.conn (cdId d) (connIdx conn.toNat)).placing = (s.conn (cdId d) (connIdx conn.toNat)).placing.filter (fun y => y.ticket ≠ k)) ∧
  -- SEND_DELIVERY
  (∀ (d : Cd) (conn : BitVec 24) (m : Delivery) (l : List Delivery) (s : State), s.cdUp (cdId d) = true ∧ s.modeNow ≠ 0xB → (s.conn (cdId d) (connIdx conn.toNat)).deliveries = m :: l ∧ (s.conn (cdId d) (connIdx conn.toNat)).placing.any (fun p => decide (p.ticket < m.need)) = false →
    
    ∃ t, exec (.sendDelivery d conn) s = .next t ∧
      (m.send = false → (t.conn (cdId d) (connIdx conn.toNat)).deliveries = l)) ∧
  -- ACK_RECEIVED
  (∀ (d : Cd) (conn psn msn : BitVec 24) (s : State), s.cdUp (cdId d) = true ∧ s.modeNow ≠ 0xB → (s.sends (cdId d) (connIdx conn.toNat) && s.connNamed (cdId d) conn.toNat) = true →
    (psn.toNat + 2 ^ 24 - (s.conn (cdId d) (connIdx conn.toNat)).txUna) % 2 ^ 24 < ((s.conn (cdId d) (connIdx conn.toNat)).txNext + 2 ^ 24 - (s.conn (cdId d) (connIdx conn.toNat)).txUna) % 2 ^ 24 →
    (s.conn (cdId d) (connIdx conn.toNat)).sent.all (fun x => x.chain = none) = true →
    
    ∃ t, exec (.ackReceived d conn psn msn) s = .next t ∧
      (t.conn (cdId d) (connIdx conn.toNat)).txUna = (psn.toNat + 1) % 2 ^ 24 ∧ (t.conn (cdId d) (connIdx conn.toNat)).txMsn = msn.toNat ∧
      (t.conn (cdId d) (connIdx conn.toNat)).retriesLeft = (s.conn (cdId d) (connIdx conn.toNat)).f.retryCnt ∧ (t.conn (cdId d) (connIdx conn.toNat)).rnrLeft = (s.conn (cdId d) (connIdx conn.toNat)).f.rnrRetry) ∧
  -- NAK_RECEIVED
  (∀ (d : Cd) (conn : BitVec 24) (b : Bool) (psn : BitVec 24) (s : State), s.cdUp (cdId d) = true ∧ s.modeNow ≠ 0xB → (s.sends (cdId d) (connIdx conn.toNat) && s.connNamed (cdId d) conn.toNat) = true →
    
    ∃ t, exec (.nakReceived d conn b psn) s = .next t ∧
      (b = false → (t.conn (cdId d) (connIdx conn.toNat)).state = 4) ∧
      (b = true → (s.conn (cdId d) (connIdx conn.toNat)).retriesLeft ≠ 0 → (t.conn (cdId d) (connIdx conn.toNat)).retriesLeft = (s.conn (cdId d) (connIdx conn.toNat)).retriesLeft - 1 ∧ (t.conn (cdId d) (connIdx conn.toNat)).state = (s.conn (cdId d) (connIdx conn.toNat)).state)) ∧
  -- RNR_NAK_RECEIVED
  (∀ (d : Cd) (conn : BitVec 24) (k : Fin 32) (psn : BitVec 24) (s : State), s.cdUp (cdId d) = true ∧ s.modeNow ≠ 0xB → (s.sends (cdId d) (connIdx conn.toNat) && s.connNamed (cdId d) conn.toNat) = true →
    ¬((s.conn (cdId d) (connIdx conn.toNat)).rnrLeft = 0 ∧ (s.conn (cdId d) (connIdx conn.toNat)).f.rnrRetry ≠ 7) →
    
    ∃ t, exec (.rnrNakReceived d conn k psn) s = .next t ∧
      (t.conn (cdId d) (connIdx conn.toNat)).hold = some (s.now + rnrNs k.val) ∧ (t.conn (cdId d) (connIdx conn.toNat)).nakPsn = psn.toNat ∧
      (t.conn (cdId d) (connIdx conn.toNat)).rnrLeft = (if (s.conn (cdId d) (connIdx conn.toNat)).f.rnrRetry = 7 then 7 else (s.conn (cdId d) (connIdx conn.toNat)).rnrLeft - 1))

/-- The transport retries, paces, sends work requests, and manages regions and chains. -/
def Obligations.TransportSend : Prop :=
  -- RETRANSMIT_TIMEOUT
  (∀ (d : Cd) (conn : BitVec 24) (s : State), s.cdUp (cdId d) = true ∧ s.modeNow ≠ 0xB → (s.sends (cdId d) (connIdx conn.toNat) && (s.conn (cdId d) (connIdx conn.toNat)).txUna ≠ (s.conn (cdId d) (connIdx conn.toNat)).txNext) = true ∧ (s.conn (cdId d) (connIdx conn.toNat)).retriesLeft ≠ 0 →
    
    ∃ t, exec (.retransmitTimeout d conn) s = .next t ∧
      (t.conn (cdId d) (connIdx conn.toNat)).retriesLeft = (s.conn (cdId d) (connIdx conn.toNat)).retriesLeft - 1 ∧
      (t.conn (cdId d) (connIdx conn.toNat)).timer = max s.now (s.conn (cdId d) (connIdx conn.toNat)).timer + ackTimer (s.conn (cdId d) (connIdx conn.toNat))) ∧
  -- RNR_HOLD_EXPIRY
  (∀ (d : Cd) (conn : BitVec 24) (at_ : Nat) (s : State), s.cdUp (cdId d) = true ∧ s.modeNow ≠ 0xB → (s.conn (cdId d) (connIdx conn.toNat)).hold = some at_ →
    
    ∃ t, exec (.rnrHoldExpiry d conn) s = .next t ∧
      (t.conn (cdId d) (connIdx conn.toNat)).hold = none ∧ t.now = max s.now at_) ∧
  -- CNP_RECEIVED
  (∀ (d : Cd) (conn : BitVec 24) (s : State), s.cdUp (cdId d) = true ∧ s.modeNow ≠ 0xB → (s.sends (cdId d) (connIdx conn.toNat) && s.connNamed (cdId d) conn.toNat) = true →
    
    ∃ t, exec (.cnpReceived d conn) s = .next t ∧
      (t.conn (cdId d) (connIdx conn.toNat)).rate = max ((s.conn (cdId d) (connIdx conn.toNat)).rate / 2) (s.r (cdId d) (.rdx .CC_CFG_min_rate_mbps))) ∧
  -- RATE_RECOVER_STEP
  (∀ (d : Cd) (conn : BitVec 24) (s : State), s.cdUp (cdId d) = true ∧ s.modeNow ≠ 0xB → s.sends (cdId d) (connIdx conn.toNat) = true → 
    ∃ t, exec (.rateRecoverStep d conn) s = .next t ∧
      (t.conn (cdId d) (connIdx conn.toNat)).rate = max (s.conn (cdId d) (connIdx conn.toNat)).rate (min ((s.conn (cdId d) (connIdx conn.toNat)).rate + s.r (cdId d) (.rdx .CC_CFG2_ai_mbps)) (s.portSpeed (s.conn (cdId d) (connIdx conn.toNat)).f.port))) ∧
  -- WORK_REQUEST_SEND
  (∀ (d : Cd) (n : Fin 32768) (w : WorkReq) (s : State), s.cdUp (cdId d) = true ∧ s.modeNow ≠ 0xB → (s.chain (cdId d) n.val).state = 2 ∧ (s.chain (cdId d) n.val).sent + 1 < (s.chain (cdId d) n.val).wrs ∧ isEp (s.chain (cdId d) n.val).hdr.conn = false →
    s.sends (cdId d) (connIdx (s.chain (cdId d) n.val).hdr.conn) = true ∧ (s.conn (cdId d) (connIdx (s.chain (cdId d) n.val).hdr.conn)).hold = none →
    workReqOk w (s.conn (cdId d) (connIdx (s.chain (cdId d) n.val).hdr.conn)) = true ∧ s.localOk (cdId d) w.localAddr w.length = true ∧ w.flags.testBit 0 = false →
    w.length ≤ pmtuBytes (s.conn (cdId d) (connIdx (s.chain (cdId d) n.val).hdr.conn)).f.pmtu →
    
    ∃ t, exec (.workRequestSend d n w) s = .next t ∧
      (t.chain (cdId d) n.val).sent = (s.chain (cdId d) n.val).sent + 1 ∧
      (t.conn (cdId d) (connIdx (s.chain (cdId d) n.val).hdr.conn)).txNext = ((s.conn (cdId d) (connIdx (s.chain (cdId d) n.val).hdr.conn)).txNext + 1) % 2 ^ 24) ∧
  -- REGION_REGISTER
  (∀ (d : Cd) (i : Fin 65536) (s : State), s.cdUp (cdId d) = true ∧ s.modeNow ≠ 0xB → s.r (cdId d) (.rdx .REGION_RANGE_first) ≤ i.val ∧ i.val ≤ s.r (cdId d) (.rdx .REGION_RANGE_last) ∧ (s.region (cdId d) i.val).state = 0 →
    (s.region (cdId d) i.val).f.flags < 4 ∧ (s.region (cdId d) i.val).f.pd < 4096 ∧ (s.region (cdId d) i.val).f.conn < 2 ^ 24 →
    (s.region (cdId d) i.val).f.base % 4096 = 0 ∧ (s.region (cdId d) i.val).f.length % 4096 = 0 ∧ 4096 ≤ (s.region (cdId d) i.val).f.length ∧ (s.region (cdId d) i.val).f.length ≤ 2 ^ 30 →
    s.wrtCovers (cdId d) (s.region (cdId d) i.val).f.base (s.region (cdId d) i.val).f.length true = true →
    
    ∃ t, exec (.regionRegister d i) s = .next t ∧
      (t.region (cdId d) i.val).state = 1 ∧ (t.region (cdId d) i.val).tag = (s.region (cdId d) i.val).tag ∧
      t.r (cdId d) (.rdx .REG_STATUS_result) = 0) ∧
  -- REGION_REVOKE
  (∀ (d : Cd) (i : Fin 65536) (s : State), s.cdUp (cdId d) = true ∧ s.modeNow ≠ 0xB → (s.region (cdId d) i.val).state = 1 → 
    ∃ t, exec (.regionRevoke d i) s = .next t ∧
      (t.region (cdId d) i.val).state = 2 ∧ t.r (cdId d) (.rdx .REG_STATUS_result) = 0) ∧
  -- REVOCATION_COMPLETE
  (∀ (d : Cd) (i : Fin 65536) (s : State), s.cdUp (cdId d) = true ∧ s.modeNow ≠ 0xB → (s.region (cdId d) i.val).state = 2 ∧ (s.region (cdId d) i.val).inFlight = 0 →
    
    ∃ t, exec (.revocationComplete d i) s = .next t ∧
      (t.region (cdId d) i.val).state = 0 ∧ (t.region (cdId d) i.val).tag = ((s.region (cdId d) i.val).tag + 1) % 65536 ∧
      t.r (cdId d) (.rdx .EVENTS_revoke_done) = 1) ∧
  -- REVOKE_DONE_POP
  (∀ (d : Cd) (s : State), s.cdUp (cdId d) = true ∧ s.modeNow ≠ 0xB → 
    ∃ t, exec (.revokeDonePop d) s = .next t ∧
      alList t.rdx.revokeDone (cdId d) = (alList s.rdx.revokeDone (cdId d)).drop 1 ∧
      t.rb (cdId d) (.rdx .REVOKE_DONE_valid) = !((alList s.rdx.revokeDone (cdId d)).drop 1).isEmpty)

/-- Chains are armed, triggered, cancelled and read out as their states allow. -/
def Obligations.ChainCommands : Prop :=
  -- CHAIN_ARM
  (∀ (d : Cd) (n : Fin 32768) (h : ChainHdr) (ws : List WorkReq) (s : State), s.cdUp (cdId d) = true ∧ s.modeNow ≠ 0xB → (s.chain (cdId d) n.val).state ≠ 1 ∧ (s.chain (cdId d) n.val).state ≠ 2 ∧ (s.conn (cdId d) (connIdx h.conn)).state = 2 ∧ (s.conn (cdId d) (connIdx h.conn)).gen = connGen h.conn →
    chainHdrOk h = true ∧ ws.isEmpty = false ∧ ws.length ≤ 15 ∧ ws.any (fun w => !workReqOk w (s.conn (cdId d) (connIdx h.conn))) = false →
    (ws.map (fun w => w.flags.testBit 0)).getLast? = some true ∧ (ws.map (fun w => w.flags.testBit 0)).dropLast.any id = false →
    
    ∃ t, exec (.chainArm d n h ws true) s = .next t ∧
      t.chain (cdId d) n.val = ({ state := 1, hdr := h, wrs := ws.length } : Chain) ∧
      t.r (cdId d) (.rdx .CHAIN_STATUS_result) = 0) ∧
  -- CHAIN_CANCEL
  (∀ (d : Cd) (n : Fin 32768) (s : State), s.cdUp (cdId d) = true ∧ s.modeNow ≠ 0xB → 
    ∃ t, exec (.chainCancel d n) s = .next t ∧
      (t.chain (cdId d) n.val).state = (if (s.chain (cdId d) n.val).state = 1 then 4 else (s.chain (cdId d) n.val).state) ∧
      t.r (cdId d) (.rdx .CHAIN_STATUS_result) = (if (s.chain (cdId d) n.val).state = 1 then 0
        else if (s.chain (cdId d) n.val).state = 2 ∨ (s.chain (cdId d) n.val).state = 3 ∨ (s.chain (cdId d) n.val).state = 5 then 1 else 2)) ∧
  -- CHAIN_FIRMWARE_TRIGGER
  (∀ (d : Cd) (n : Fin 32768) (s : State), s.cdUp (cdId d) = true ∧ s.modeNow ≠ 0xB → (s.chain (cdId d) n.val).state = 1 ∧ (s.chain (cdId d) n.val).hdr.armCount = 2 ∧ (s.chain (cdId d) n.val).got1 = false →
    (s.chain (cdId d) n.val).hdr.kind0 = 5 ∧ (s.chain (cdId d) n.val).hdr.key0 = 0 ∧ (s.chain (cdId d) n.val).got0 = false ∧ (s.slot (cdId d) n.val).waiters = [] →
    
    ∃ t, exec (.chainFirmwareTrigger d n) s = .next t ∧
      (t.chain (cdId d) n.val).got0 = true ∧ (t.chain (cdId d) n.val).state = 1 ∧
      t.r (cdId d) (.rdx .CHAIN_STATUS_result) = 0) ∧
  -- CHAIN_TRIGGER
  (∀ (d : Cd) (n : Fin 32768) (k : Fin 6) (key : BitVec 64) (ok : Bool) (s : State), s.cdUp (cdId d) = true ∧ s.modeNow ≠ 0xB → (k.val = 4 && !ok) = false ∧ (s.slot (cdId d) n.val).waiters = [] →
    
    ∃ t, exec (.chainTrigger d n k key ok) s = .next t ∧
      ((s.chain (cdId d) n.val).state = 1 → (s.chain (cdId d) n.val).hdr.armCount = 2 → (s.chain (cdId d) n.val).got1 = false →
      (s.chain (cdId d) n.val).hdr.kind0 = k.val → (s.chain (cdId d) n.val).hdr.key0 = key.toNat → (s.chain (cdId d) n.val).got0 = false →
      t.chain (cdId d) n.val = { s.chain (cdId d) n.val with got0 := true }) ∧
      ((s.chain (cdId d) n.val).state ≠ 1 → t.chain (cdId d) n.val = s.chain (cdId d) n.val ∧ t.r (cdId d) (.rdx .EVENTS_stray) = 1)) ∧
  -- CHAIN_FAIL_POP
  (∀ (d : Cd) (s : State), s.cdUp (cdId d) = true ∧ s.modeNow ≠ 0xB → 
    ∃ t, exec (.chainFailPop d) s = .next t ∧
      alList t.rdx.chainFail (cdId d) = (alList s.rdx.chainFail (cdId d)).drop 1 ∧
      t.rb (cdId d) (.rdx .CHAIN_FAIL_valid) = !((alList s.rdx.chainFail (cdId d)).drop 1).isEmpty) ∧
  -- RDX_SNAPSHOT
  (∀ (q : Req) (d : Cd) (s : State), s.cdUp (cdId d) = true → 
    ∃ t, exec (.rdxSnapshot q d) s = .next t ∧
      (⟨cdId d, 0x20, q.secure, s.counters (cdId d) 0x20 26, 0⟩ : Snapshot) ∈ t.snaps)

/-- Fabrics commands connect, read and write properties, and open, resume and describe as their rules say. Each clause is
about a command in state Admitted or Waiting whose slot has no duplicate waiting (R242). -/
def Obligations.FabricsCommands : Prop :=
  -- FABRICS_CONNECT
  (∀ (d : Cd) (k : Fin 32768) (nqn : Option Nat) (hn hid sq kato : Nat) (h : HostEntry) (s : State), s.cdUp (cdId d) = true ∧ ((s.slot (cdId d) k.val).state = 1 || (s.slot (cdId d) k.val).state = 2) = true ∧ (s.slot (cdId d) k.val).waiters = [] ∧ (s.slot (cdId d) k.val).cap.opcode = 0x7F ∧ (s.slot (cdId d) k.val).cap.nsid % 256 = 1 →
    (s.conn (cdId d) (connIdx (s.slot (cdId d) k.val).conn)).state = 2 ∧ s.queueOf (cdId d) (s.slot (cdId d) k.val).conn = none ∧ s.cmd.nqnMac.isNone = false ∧ nqn = s.cmd.nqnMac →
    (s.img.active.getD {}).hosts.find? (fun h => h.hostnqn = hn && h.flags.testBit 0 && !h.flags.testBit 3) = some h ∧ h.srcIpv6 = 0 →
    ¬ h.maxConn ≤ (s.cds.map (fun c => ((s.cd (cdId c)).queues.filter (fun q => q.host = h.id && !isEp q.conn)).length)).foldl (· + ·) 0 →
    s.ctrl (cdId d) (ctrlId (cdId d) h.id) = none ∧ (s.cd (cdId d)).queues.any (fun q => q.host = h.id && q.qid = 0) = false →
    1 ≤ sq ∧ sq ≤ 31 ∧ kato = 0 → 
    ∃ t, exec (.fabricsConnect d k nqn hn hid 0 sq 0xFFFF kato) s = .next t ∧
      (t.slot (cdId d) k.val).status = some 0 ∧ (t.slot (cdId d) k.val).dw0 = ctrlId (cdId d) h.id ∧
      t.queueOf (cdId d) (s.slot (cdId d) k.val).conn = some ⟨(s.slot (cdId d) k.val).conn, h.id, 0, sq, 0⟩) ∧
  -- FABRICS_DISCONNECT
  (∀ (d : Cd) (k : Fin 32768) (s : State), s.cdUp (cdId d) = true ∧ ((s.slot (cdId d) k.val).state = 1 || (s.slot (cdId d) k.val).state = 2) = true ∧ (s.slot (cdId d) k.val).waiters = [] ∧ (s.slot (cdId d) k.val).cap.opcode = 0x7F ∧ (s.slot (cdId d) k.val).cap.nsid % 256 = 8 ∧ (s.conn (cdId d) (connIdx (s.slot (cdId d) k.val).conn)).state = 2 →
    
    ∃ t, exec (.fabricsDisconnect d k) s = .next t ∧
      (t.slot (cdId d) k.val).status = some 0 ∧ (t.conn (cdId d) (connIdx (s.slot (cdId d) k.val).conn)).state = 3 ∧ (t.conn (cdId d) (connIdx (s.slot (cdId d) k.val).conn)).credits = 0) ∧
  -- PROPERTY_GET
  (∀ (d : Cd) (k : Fin 32768) (v : Nat) (s : State), s.cdUp (cdId d) = true ∧ ((s.slot (cdId d) k.val).state = 1 || (s.slot (cdId d) k.val).state = 2) = true ∧ (s.slot (cdId d) k.val).waiters = [] ∧ (s.slot (cdId d) k.val).cap.opcode = 0x7F ∧ (s.slot (cdId d) k.val).cap.nsid % 256 = 4 →
    
    ∃ t, exec (.propertyGet d k) s = .next t ∧
      ((s.ctrl (cdId d) ((s.slot (cdId d) k.val).ctrl (cdId d))).bind (fun c => c.property (s.slot (cdId d) k.val).cap.cdw11) = some v →
      (t.slot (cdId d) k.val).status = some 0 ∧ (t.slot (cdId d) k.val).dw0 = v % 2 ^ 32 ∧ (t.slot (cdId d) k.val).dw1 = v / 2 ^ 32 % 2 ^ 32) ∧
      ((s.ctrl (cdId d) ((s.slot (cdId d) k.val).ctrl (cdId d))).bind (fun c => c.property (s.slot (cdId d) k.val).cap.cdw11) = none → (t.slot (cdId d) k.val).status = some stBadField)) ∧
  -- PROPERTY_SET
  (∀ (d : Cd) (k : Fin 32768) (c : Ctrl) (s : State), s.cdUp (cdId d) = true ∧ ((s.slot (cdId d) k.val).state = 1 || (s.slot (cdId d) k.val).state = 2) = true ∧ (s.slot (cdId d) k.val).waiters = [] ∧ (s.slot (cdId d) k.val).cap.opcode = 0x7F ∧ (s.slot (cdId d) k.val).cap.nsid % 256 = 0 ∧ s.ctrl (cdId d) ((s.slot (cdId d) k.val).ctrl (cdId d)) = some c ∧ (s.slot (cdId d) k.val).cap.cdw11 = 0x14 →
    
    ∃ t, exec (.propertySet d k) s = .next t ∧
      (t.slot (cdId d) k.val).status = some 0 ∧ (t.ctrl (cdId d) ((s.slot (cdId d) k.val).ctrl (cdId d))).map (fun c => c.cc) = some (s.slot (cdId d) k.val).cap.cdw12) ∧
  -- CONTROLLER_SHUTDOWN_COMPLETE
  (∀ (d : Cd) (h : Fin 1024) (c : Ctrl) (s : State), s.cdUp (cdId d) = true ∧ s.modeNow ≠ 0xB → s.ctrl (cdId d) (ctrlId (cdId d) h.val) = some c ∧ c.shst = 1 →
    (s.cd (cdId d)).slots.any (fun y => y.2.host = h.val && decide (1 ≤ y.2.state) && decide (y.2.state ≤ 4) && !c.aers.contains y.1) = false →
    
    ∃ t, exec (.controllerShutdownComplete d h) s = .next t ∧
      t.ctrl (cdId d) (ctrlId (cdId d) h.val) = some { c with shst := 2 }) ∧
  -- RESUME_OPEN
  (∀ (d : Cd) (k : Fin 32768) (s : State), s.cdUp (cdId d) = true ∧ ((s.slot (cdId d) k.val).state = 1 || (s.slot (cdId d) k.val).state = 2) = true ∧ (s.slot (cdId d) k.val).waiters = [] ∧ (s.slot (cdId d) k.val).cap.opcode = 0x7F ∧ (s.slot (cdId d) k.val).cap.nsid % 256 = 0xC0 →
    (s.img.active.getD {}).hosts.any (fun h => h.id = (s.slot (cdId d) k.val).host && h.flags.testBit 1) = true ∧ (s.queueOf (cdId d) (s.slot (cdId d) k.val).conn).any (fun q => q.qid ≠ 0) = true →
    
    ∃ t, exec (.resumeOpen d k) s = .next t ∧
      (t.slot (cdId d) k.val).status = some 0 ∧ (t.slot (cdId d) k.val).dw1 = ((s.slot (cdId d) k.val).conn * 2 ^ 40 + (s.slot (cdId d) k.val).host * 2 ^ 30 + s.tokenCheck (s.slot (cdId d) k.val).conn (s.slot (cdId d) k.val).host) / 2 ^ 32 ∧
      (t.cd (cdId d)).tokens.any (fun x => x.conn = (s.slot (cdId d) k.val).conn && x.host = (s.slot (cdId d) k.val).host) = true) ∧
  -- RESUME
  (∀ (d : Cd) (k : Fin 32768) (s : State), s.cdUp (cdId d) = true ∧ ((s.slot (cdId d) k.val).state = 1 || (s.slot (cdId d) k.val).state = 2) = true ∧ (s.slot (cdId d) k.val).waiters = [] ∧ (s.slot (cdId d) k.val).cap.opcode = 0x7F ∧ (s.slot (cdId d) k.val).cap.nsid % 256 = 0xC1 →
    
    ∃ t, exec (.resume d k) s = .next t ∧
      (((s.slot (cdId d) k.val).cap.cdw10 + 2 ^ 32 * (s.slot (cdId d) k.val).cap.cdw11) / 2 ^ 30 % 1024 ≠ (s.slot (cdId d) k.val).host → (t.slot (cdId d) k.val).status = some stResumeRefused) ∧
      ((s.cd (cdId d)).tokens.any (fun x => x.conn = ((s.slot (cdId d) k.val).cap.cdw10 + 2 ^ 32 * (s.slot (cdId d) k.val).cap.cdw11) / 2 ^ 40 && !x.used && x.holdFrom.isSome) = true ∧
      (s.cd (cdId d)).tokens.length = 1 ∧ ((s.slot (cdId d) k.val).cap.cdw10 + 2 ^ 32 * (s.slot (cdId d) k.val).cap.cdw11) / 2 ^ 30 % 1024 = (s.slot (cdId d) k.val).host ∧ ((s.slot (cdId d) k.val).cap.cdw10 + 2 ^ 32 * (s.slot (cdId d) k.val).cap.cdw11) / 2 ^ 40 / 2 ^ 21 + 1 = cdId d ∧
      ((s.slot (cdId d) k.val).cap.cdw10 + 2 ^ 32 * (s.slot (cdId d) k.val).cap.cdw11) % 2 ^ 30 = s.tokenCheck (((s.slot (cdId d) k.val).cap.cdw10 + 2 ^ 32 * (s.slot (cdId d) k.val).cap.cdw11) / 2 ^ 40) (s.slot (cdId d) k.val).host ∧
      (s.queueOf (cdId d) (s.slot (cdId d) k.val).conn).any (fun q => q.qid ≠ 0 && q.count = 1) = true ∧ (s.cd (cdId d)).slots.any (fun e => e.2.state = 6) = false →
      (t.slot (cdId d) k.val).status = some 0 ∧ (t.slot (cdId d) k.val).dw0 = 0))

/-- I/O commands start, commit, read and complete as the command engine's rules say. Each clause is about a slot with no
duplicate waiting (R242). -/
def Obligations.IoCommands : Prop :=
  -- IO_FLUSH
  (∀ (d : Cd) (k : Fin 32768) (s : State), s.cdUp (cdId d) = true ∧ ((s.slot (cdId d) k.val).state = 1 || (s.slot (cdId d) k.val).state = 2) = true ∧ (s.slot (cdId d) k.val).waiters = [] ∧ (s.slot (cdId d) k.val).cap.opcode = 0 ∧ (s.slot (cdId d) k.val).admin = false →
    
    ∃ t, exec (.ioFlush d k) s = .next t ∧
      (s.flushBlocked (cdId d) k.val = true → (t.slot (cdId d) k.val).state = 3) ∧
      (s.flushBlocked (cdId d) k.val = false → (t.slot (cdId d) k.val).status = some 0)) ∧
  -- FLUSH_CONDITION_MET
  (∀ (d : Cd) (k : Fin 32768) (s : State), s.cdUp (cdId d) = true ∧ s.modeNow ≠ 0xB → (s.slot (cdId d) k.val).state = 3 ∧ (s.slot (cdId d) k.val).cap.opcode = 0 ∧ (s.slot (cdId d) k.val).waiters = [] ∧ s.flushBlocked (cdId d) k.val = false →
    
    ∃ t, exec (.flushConditionMet d k) s = .next t ∧
      (t.slot (cdId d) k.val).status = some 0) ∧
  -- IO_WRITE
  (∀ (d : Cd) (k : Fin 32768) (l : Option (List Block)) (s : State), s.cdUp (cdId d) = true ∧ ((s.slot (cdId d) k.val).state = 1 || (s.slot (cdId d) k.val).state = 2) = true ∧ (s.slot (cdId d) k.val).waiters = [] ∧ (s.slot (cdId d) k.val).cap.opcode = 1 ∧ (s.slot (cdId d) k.val).admin = false ∧ s.ep.cmds.any (fun c => c.st = 3) = false →
    
    ∃ t, exec (.ioWrite d k l) s = .next t ∧
      (l = none → (t.slot (cdId d) k.val).status = some stDataTransfer) ∧
      t.ctr (cdId d) 0x21 2 = (s.ctr (cdId d) 0x21 2 + 1) % 2 ^ 64) ∧
  -- SPONGE_SPACE_RESERVED
  (∀ (d : Cd) (k : Fin 32768) (l : List Block) (s : State), s.cdUp (cdId d) = true ∧ s.modeNow ≠ 0xB → (s.slot (cdId d) k.val).state = 3 ∧ (s.slot (cdId d) k.val).cap.opcode = 1 ∧ (s.slot (cdId d) k.val).taken = false ∧ s.ep.cmds.any (fun c => c.st = 3) = false ∧ s.r (cdId d) (.arb .FREEZE_mask) % 4 = 2 →
    s.spaceQueueAhead (cdId d) k.val = false ∧ ¬ (s.sp (cdId d)).freeSlots < (s.slot (cdId d) k.val).nlb ∧ ¬ s.ceiling (cdId d) < (s.sp (cdId d)).dirtyCount + (s.slot (cdId d) k.val).nlb →
    (List.range (s.slot (cdId d) k.val).nlb).any (fun i => (s.lookup (cdId d) (s.slot (cdId d) k.val).cap.nsid ((s.slot (cdId d) k.val).slba + i)).isNone && (s.bucketFor (cdId d) (s.slot (cdId d) k.val).cap.nsid ((s.slot (cdId d) k.val).slba + i)).isNone) = false →
    
    ∃ t, exec (.spongeSpaceReserved d k l) s = .next t ∧
      (t.slot (cdId d) k.val).taken = true ∧ (t.slot (cdId d) k.val).reserved = (s.slot (cdId d) k.val).nlb) ∧
  -- WRITE_COMMIT
  (∀ (d : Cd) (k : Fin 32768) (s : State), s.cdUp (cdId d) = true ∧ s.modeNow ≠ 0xB → (s.slot (cdId d) k.val).state = 3 ∧ (s.slot (cdId d) k.val).cap.opcode = 1 ∧ (s.slot (cdId d) k.val).taken = true ∧ (s.slot (cdId d) k.val).waiters = [] ∧ s.ep.cmds.any (fun c => c.st = 3) = false ∧ DataFrozen (s.purgeRanges (cdId d)) (cdId d) = false →
    (s.purgeRanges (cdId d)).regionsDurable (cdId d) ((s.purgeRanges (cdId d)).nsGroup (s.slot (cdId d) k.val).cap.nsid) ((s.purgeRanges (cdId d)).cmdRegions (cdId d) k.val) = true →
    (s.purgeRanges (cdId d)).crumbRoom (cdId d) 1 = true →
    
    ∃ t, exec (.writeCommit d k) s = .next t ∧
      (t.slot (cdId d) k.val).seqs = [(s.purgeRanges (cdId d)).crumbNext (cdId d)]) ∧
  -- IO_WRITE_ZEROES
  (∀ (d : Cd) (k : Fin 32768) (s : State), s.cdUp (cdId d) = true ∧ ((s.slot (cdId d) k.val).state = 1 || (s.slot (cdId d) k.val).state = 2) = true ∧ (s.slot (cdId d) k.val).waiters = [] ∧ (s.slot (cdId d) k.val).cap.opcode = 8 ∧ (s.slot (cdId d) k.val).admin = false ∧ s.r (cdId d) (.arb .FREEZE_mask) % 4 = 2 →
    
    ∃ t, exec (.ioWriteZeroes d k) s = .next t ∧
      (t.slot (cdId d) k.val).state = 3 ∧ t.ctr (cdId d) 0x21 2 = (s.ctr (cdId d) 0x21 2 + 1) % 2 ^ 64) ∧
  -- IO_DATASET_MANAGEMENT
  (∀ (d : Cd) (k : Fin 32768) (s : State), s.cdUp (cdId d) = true ∧ ((s.slot (cdId d) k.val).state = 1 || (s.slot (cdId d) k.val).state = 2) = true ∧ (s.slot (cdId d) k.val).waiters = [] ∧ (s.slot (cdId d) k.val).cap.opcode = 9 ∧ (s.slot (cdId d) k.val).admin = false →
    ((s.slot (cdId d) k.val).cap.cdw11.testBit 2 && (s.slot (cdId d) k.val).ranges.any (fun r => r.2 ≠ 0)) = false →
    
    ∃ t, exec (.ioDatasetManagement d k) s = .next t ∧
      (t.slot (cdId d) k.val).status = some 0) ∧
  -- IO_READ
  (∀ (d : Cd) (k : Fin 32768) (l : List Nat) (s : State), s.cdUp (cdId d) = true ∧ ((s.slot (cdId d) k.val).state = 1 || (s.slot (cdId d) k.val).state = 2) = true ∧ (s.slot (cdId d) k.val).waiters = [] ∧ (s.slot (cdId d) k.val).cap.opcode = 2 ∧ (s.slot (cdId d) k.val).admin = false ∧ (s.slot (cdId d) k.val).state = 1 →
    
    ∃ t, exec (.ioRead d k l) s = .next t ∧
      (s.readBlocked (cdId d) k.val = true → (t.slot (cdId d) k.val).state = 2) ∧
      (l = [] → s.readBlocked (cdId d) k.val = false → (s.unmirroredFor (cdId d) k.val).isEmpty = false → (t.slot (cdId d) k.val).state = 2 ∧ (t.slot (cdId d) k.val).mirrorWait = s.unmirroredFor (cdId d) k.val) ∧
      (l = [] → s.readBlocked (cdId d) k.val = false → s.unmirroredFor (cdId d) k.val = [] → ¬ 131072 < ((s.cd (cdId d)).slots.map (fun y => if y.2.cap.opcode = 2 && y.2.state = 3 then y.2.blocks.length else 0)).foldl (· + ·) 0 + (s.slot (cdId d) k.val).nlb → s.crumbRoom (cdId d) 4 = true → s.deferHit (cdId d) (s.slot (cdId d) k.val).cap.nsid (s.slot (cdId d) k.val).slba (s.slot (cdId d) k.val).nlb = none → 0 < (s.slot (cdId d) k.val).nlb → (∀ i, i < (s.slot (cdId d) k.val).nlb → (s.held (cdId d) (s.slot (cdId d) k.val).cap.nsid ((s.slot (cdId d) k.val).slba + i)).isSome = true ∧ (s.lookup (cdId d) (s.slot (cdId d) k.val).cap.nsid ((s.slot (cdId d) k.val).slba + i)).any (·.poisoned) = false) → (t.slot (cdId d) k.val).state = 3 ∧ (t.slot (cdId d) k.val).blocks = (List.range (s.slot (cdId d) k.val).nlb).map (fun i => ((s.slot (cdId d) k.val).slba + i, s.held (cdId d) (s.slot (cdId d) k.val).cap.nsid ((s.slot (cdId d) k.val).slba + i))))) ∧
  -- READ_WAIT_END
  (∀ (d : Cd) (k : Fin 32768) (l : Nat) (s : State), s.cdUp (cdId d) = true ∧ s.modeNow ≠ 0xB → (s.slot (cdId d) k.val).cap.opcode = 2 ∧ (s.slot (cdId d) k.val).state = 2 ∧ (s.slot (cdId d) k.val).waiters = [] ∧ s.readBlocked (cdId d) k.val = false ∧ s.unmirroredFor (cdId d) k.val = [] →
    ¬ 131072 < ((s.cd (cdId d)).slots.map (fun y => if y.2.cap.opcode = 2 && y.2.state = 3 then y.2.blocks.length else 0)).foldl (· + ·) 0 + (s.slot (cdId d) k.val).nlb →
    s.crumbRoom (cdId d) 4 = true ∧ s.deferHit (cdId d) (s.slot (cdId d) k.val).cap.nsid (s.slot (cdId d) k.val).slba (s.slot (cdId d) k.val).nlb = some l →
    
    ∃ t, exec (.readWaitEnd d k) s = .next t ∧
      (t.slot (cdId d) k.val).status = some stDeferred ∧ (t.slot (cdId d) k.val).dw0 = l % 2 ^ 32 ∧ (t.slot (cdId d) k.val).dw1 = l / 2 ^ 32) ∧
  -- READ_ASSEMBLED
  (∀ (d : Cd) (k : Fin 32768) (s : State), s.cdUp (cdId d) = true ∧ s.modeNow ≠ 0xB → (s.slot (cdId d) k.val).assembled = true ∧ (s.slot (cdId d) k.val).waiters = [] ∧ (s.chain (cdId d) k.val).hdr.kind0 = 1 ∧ (s.chain (cdId d) k.val).state = 1 ∧ (s.chain (cdId d) k.val).got0 = false →
    (s.chain (cdId d) k.val).hdr.armCount = 2 ∧ (s.chain (cdId d) k.val).got1 = false ∧ (s.chain (cdId d) k.val).hdr.key0 = (s.slot (cdId d) k.val).seqs.headD 0 →
    
    ∃ t, exec (.readAssembled d k) s = .next t ∧
      (t.chain (cdId d) k.val).got0 = true ∧ (t.chain (cdId d) k.val).state = 1)

/-- Aborts decide, the gate and the floor take their writes, and the holds end at their times. -/
def Obligations.AbortsAndHolds : Prop :=
  -- ABORT_CID_WRITE
  (∀ (d : Cd) (cid : BitVec 16) (s : State), s.cdUp (cdId d) = true ∧ s.modeNow ≠ 0xB → 
    ∃ t, exec (.abortCidWrite d cid) s = .next t ∧
      t.r (cdId d) (.cmd .ABORT_STATUS_busy) = 0 ∧
      ((s.cd (cdId d)).slots.any (fun y => y.2.conn = s.r (cdId d) (.cmd .ABORT_CONN_conn) && y.2.cap.cid = cid.toNat && decide (1 ≤ y.2.state)) = false →
      t.r (cdId d) (.cmd .ABORT_STATUS_result) = 2 ∧ t.cmd.dies = s.cmd.dies)) ∧
  -- ADMIN_ABORT
  (∀ (d : Cd) (k : Fin 32768) (s : State), s.cdUp (cdId d) = true ∧ ((s.slot (cdId d) k.val).state = 1 || (s.slot (cdId d) k.val).state = 2) = true ∧ (s.slot (cdId d) k.val).waiters = [] ∧ (s.slot (cdId d) k.val).cap.opcode = 8 ∧ (s.slot (cdId d) k.val).admin = true →
    (s.cd (cdId d)).queues.find? (fun q => q.host = (s.slot (cdId d) k.val).host && q.qid = (s.slot (cdId d) k.val).cap.cdw10 % 65536 && isEp q.conn = isEp (s.slot (cdId d) k.val).conn && (!isEp (s.slot (cdId d) k.val).conn || epFn q.conn = epFn (s.slot (cdId d) k.val).conn)) = none →
    
    ∃ t, exec (.adminAbort d k) s = .next t ∧
      (t.slot (cdId d) k.val).status = some 0 ∧ (t.slot (cdId d) k.val).dw0 = 1) ∧
  -- ABORT_CANCEL_ACKNOWLEDGED
  (∀ (d : Cd) (k : Fin 32768) (a : AbortWait) (s : State), s.cdUp (cdId d) = true ∧ s.modeNow ≠ 0xB → (s.cd (cdId d)).aborts.find? (fun a => a.adminSlot = k.val) = some a ∧ (s.ringCrumb (cdId d) a.seq).all (fun r => r.placed) = true ∧ (s.slot (cdId d) k.val).waiters = [] →
    
    ∃ t, exec (.abortCancelAcknowledged d k) s = .next t ∧
      (t.slot (cdId d) k.val).status = some 0 ∧ (t.slot (cdId d) k.val).dw0 = 0 ∧ (t.cd (cdId d)).aborts.find? (fun a => a.adminSlot = k.val) = none) ∧
  -- CMD_GATE_WRITE
  (∀ (d : Cd) (v : BitVec 2) (s : State), s.cdUp (cdId d) = true ∧ s.modeNow ≠ 0xB → 
    ∃ t, exec (.cmdGateWrite d v) s = .next t ∧
      t.r (cdId d) (.cmd .GATE_refuse) = (if v.toNat = 0 ∧ s.r (cdId d) (.cmd .GATE_refuse) = 2 ∧ (s.modeNow = 0xA ∨ s.mode.drain.isSome = true) then 3 else v.toNat) ∧
      (s.r (cdId d) (.cmd .GATE_refuse) = 2 → v.toNat ≠ 2 → t.r (cdId d) (.grp .STATUS_recovering) = 0)) ∧
  -- REPLAY_FLOOR_WRITE
  (∀ (d : Cd) (v : BitVec 32) (s : State), s.cdUp (cdId d) = true ∧ s.modeNow ≠ 0xB → s.r (cdId d) (.cmd .REPLAY_FLOOR) < 2 ^ 64 ∧ (s.cd (cdId d)).floorLo < 2 ^ 32 →
    
    ∃ t, exec (.replayFloorWrite d v) s = .next t ∧
      t.r (cdId d) (.cmd .REPLAY_FLOOR) = max (s.r (cdId d) (.cmd .REPLAY_FLOOR)) (v.toNat * 2 ^ 32 + (s.cd (cdId d)).floorLo)) ∧
  -- ORPHAN_HOLD_EXPIRY
  (∀ (d : Cd) (k : Fin 32768) (s : State), s.cdUp (cdId d) = true ∧ s.modeNow ≠ 0xB → (s.slot (cdId d) k.val).state = 6 ∧ (s.cd (cdId d)).tokens.any (fun x => x.conn = (s.slot (cdId d) k.val).conn && x.holdFrom.isSome && !x.used) = false →
    
    ∃ t, exec (.orphanHoldExpiry d k) s = .next t ∧
      t.now = max s.now ((s.slot (cdId d) k.val).orphanAt.getD 0 + (s.slot (cdId d) k.val).holdNs) ∧ (t.slot (cdId d) k.val).state = 0) ∧
  -- RESUME_HOLD_EXPIRY
  (∀ (d : Cd) (conn : BitVec 24) (x : Token) (s : State), s.cdUp (cdId d) = true ∧ s.modeNow ≠ 0xB → (s.cd (cdId d)).tokens.find? (fun x => x.conn = conn.toNat && x.holdFrom.isSome) = some x →
    
    ∃ t, exec (.resumeHoldExpiry d conn) s = .next t ∧
      t.now = max s.now x.ends ∧ (t.cd (cdId d)).tokens.any (fun x => x.conn = conn.toNat) = false) ∧
  -- TAKEOVER_FILTER_EXPIRY
  (∀ (d : Cd) (at_ : Nat) (s : State), s.cdUp (cdId d) = true ∧ s.modeNow ≠ 0xB → (s.cd (cdId d)).filterUntil = some at_ → 
    ∃ t, exec (.takeoverFilterExpiry d) s = .next t ∧
      t.now = max s.now at_ ∧ (t.cd (cdId d)).filter = [] ∧ (t.cd (cdId d)).filterUntil = none) ∧
  -- CMD_SNAPSHOT
  (∀ (q : Req) (d : Cd) (s : State), s.cdUp (cdId d) = true → 
    ∃ t, exec (.cmdSnapshot q d) s = .next t ∧
      (⟨cdId d, 0x21, q.secure, s.counters (cdId d) 0x21 24, 0⟩ : Snapshot) ∈ t.snaps)

/-- Admin commands keep a controller alive, describe, set and report, as their rules say. Each clause is about a slot with
no duplicate waiting (R242). -/
def Obligations.AdminCommands : Prop :=
  -- KEEP_ALIVE
  (∀ (d : Cd) (k : Fin 32768) (c : Ctrl) (s : State), s.cdUp (cdId d) = true ∧ ((s.slot (cdId d) k.val).state = 1 || (s.slot (cdId d) k.val).state = 2) = true ∧ (s.slot (cdId d) k.val).waiters = [] ∧ (s.slot (cdId d) k.val).cap.opcode = 0x18 ∧ (s.slot (cdId d) k.val).admin = true ∧ s.ctrl (cdId d) ((s.slot (cdId d) k.val).ctrl (cdId d)) = some c →
    
    ∃ t, exec (.keepAlive d k) s = .next t ∧
      (t.slot (cdId d) k.val).status = some 0 ∧ t.ctrl (cdId d) ((s.slot (cdId d) k.val).ctrl (cdId d)) = some { c with kaAt := s.now }) ∧
  -- KEEP_ALIVE_TIMEOUT
  (∀ (d : Cd) (h : Fin 1024) (c : Ctrl) (s : State), s.cdUp (cdId d) = true ∧ s.modeNow ≠ 0xB → s.ctrl (cdId d) (ctrlId (cdId d) h.val) = some c ∧ c.kato ≠ 0 →
    
    ∃ t, exec (.keepAliveTimeout d h) s = .next t ∧
      t.ctrl (cdId d) (ctrlId (cdId d) h.val) = none ∧ t.now = max s.now (c.kaAt + 1000000 * c.kato) ∧
      (t.cd (cdId d)).queues.any (fun q => q.host = h.val && !isEp q.conn) = false) ∧
  -- IDENTIFY
  (∀ (d : Cd) (k : Fin 32768) (s : State), s.cdUp (cdId d) = true ∧ ((s.slot (cdId d) k.val).state = 1 || (s.slot (cdId d) k.val).state = 2) = true ∧ (s.slot (cdId d) k.val).waiters = [] ∧ (s.slot (cdId d) k.val).cap.opcode = 6 ∧ (s.slot (cdId d) k.val).admin = true →
    
    ∃ t, exec (.identify d k) s = .next t ∧
      ((s.slot (cdId d) k.val).cap.cdw10 % 256 = 0 → (t.slot (cdId d) k.val).status = some 0 ∧ OutMsg.hostData (cdId d) (s.slot (cdId d) k.val).conn 6 (s.identifyNs (cdId d) (s.slot (cdId d) k.val).host (s.slot (cdId d) k.val).cap.nsid (isEp (s.slot (cdId d) k.val).conn)) ∈ t.out) ∧
      ((s.slot (cdId d) k.val).cap.cdw10 % 256 = 1 → (t.slot (cdId d) k.val).status = some 0 ∧ OutMsg.hostData (cdId d) (s.slot (cdId d) k.val).conn 6 (identifyCtrl ((s.slot (cdId d) k.val).ctrl (cdId d)) (isEp (s.slot (cdId d) k.val).conn)) ∈ t.out) ∧
      ((s.slot (cdId d) k.val).cap.cdw10 % 256 = 4 → (t.slot (cdId d) k.val).status = some stBadField)) ∧
  -- GET_LOG_PAGE
  (∀ (d : Cd) (k : Fin 32768) (c : Ctrl) (s : State), s.cdUp (cdId d) = true ∧ ((s.slot (cdId d) k.val).state = 1 || (s.slot (cdId d) k.val).state = 2) = true ∧ (s.slot (cdId d) k.val).waiters = [] ∧ (s.slot (cdId d) k.val).cap.opcode = 2 ∧ (s.slot (cdId d) k.val).admin = true ∧ s.ctrl (cdId d) ((s.slot (cdId d) k.val).ctrl (cdId d)) = some c →
    
    ∃ t, exec (.getLogPage d k) s = .next t ∧
      ((s.slot (cdId d) k.val).cap.cdw10 % 256 = 0x0C → (t.slot (cdId d) k.val).status = some 0 ∧
      OutMsg.hostData (cdId d) (s.slot (cdId d) k.val).conn 2 (0x0C :: s.anaPage (cdId d) (s.slot (cdId d) k.val).host ((s.slot (cdId d) k.val).cap.cdw10.testBit 8) (isEp (s.slot (cdId d) k.val).conn)) ∈ t.out) ∧
      ((s.slot (cdId d) k.val).cap.cdw10 % 256 = 4 → (t.ctrl (cdId d) ((s.slot (cdId d) k.val).ctrl (cdId d))).map (fun c => c.changedNs) = some []) ∧
      ((s.slot (cdId d) k.val).cap.cdw10 % 256 = 0x77 → (t.slot (cdId d) k.val).status = some stLogPage)) ∧
  -- SET_FEATURES
  (∀ (d : Cd) (k : Fin 32768) (c : Ctrl) (s : State), s.cdUp (cdId d) = true ∧ ((s.slot (cdId d) k.val).state = 1 || (s.slot (cdId d) k.val).state = 2) = true ∧ (s.slot (cdId d) k.val).waiters = [] ∧ (s.slot (cdId d) k.val).cap.opcode = 9 ∧ (s.slot (cdId d) k.val).admin = true ∧ s.ctrl (cdId d) ((s.slot (cdId d) k.val).ctrl (cdId d)) = some c →
    
    ∃ t, exec (.setFeatures d k) s = .next t ∧
      ((s.slot (cdId d) k.val).cap.cdw10 % 256 = 0x0F → ((s.slot (cdId d) k.val).cap.cdw11 = 0 ∨ (1000 ≤ (s.slot (cdId d) k.val).cap.cdw11 ∧ (s.slot (cdId d) k.val).cap.cdw11 ≤ 600000)) →
      (t.slot (cdId d) k.val).status = some 0 ∧ t.ctrl (cdId d) ((s.slot (cdId d) k.val).ctrl (cdId d)) = some { c with kato := (s.slot (cdId d) k.val).cap.cdw11, kaAt := s.now }) ∧
      ((s.slot (cdId d) k.val).cap.cdw10 % 256 = 0x0F → 0 < (s.slot (cdId d) k.val).cap.cdw11 → (s.slot (cdId d) k.val).cap.cdw11 < 1000 → (t.slot (cdId d) k.val).status = some stBadField ∧ t.ctrl (cdId d) ((s.slot (cdId d) k.val).ctrl (cdId d)) = some c) ∧
      ((s.slot (cdId d) k.val).cap.cdw10 % 256 = 0x0B → t.ctrl (cdId d) ((s.slot (cdId d) k.val).ctrl (cdId d)) = some { c with aeMask := (s.slot (cdId d) k.val).cap.cdw11 &&& 0x80000900 })) ∧
  -- GET_FEATURES
  (∀ (d : Cd) (k : Fin 32768) (c : Ctrl) (s : State), s.cdUp (cdId d) = true ∧ ((s.slot (cdId d) k.val).state = 1 || (s.slot (cdId d) k.val).state = 2) = true ∧ (s.slot (cdId d) k.val).waiters = [] ∧ (s.slot (cdId d) k.val).cap.opcode = 0x0A ∧ (s.slot (cdId d) k.val).admin = true ∧ s.ctrl (cdId d) ((s.slot (cdId d) k.val).ctrl (cdId d)) = some c →
    
    ∃ t, exec (.getFeatures d k) s = .next t ∧
      ((s.slot (cdId d) k.val).cap.cdw10 % 256 = 0x0F → (t.slot (cdId d) k.val).status = some 0 ∧ (t.slot (cdId d) k.val).dw0 = c.kato) ∧ ((s.slot (cdId d) k.val).cap.cdw10 % 256 = 0x0B → (t.slot (cdId d) k.val).status = some 0 ∧ (t.slot (cdId d) k.val).dw0 = c.aeMask) ∧
      ((s.slot (cdId d) k.val).cap.cdw10 % 256 = 7 → (t.slot (cdId d) k.val).dw0 = (if isEp (s.slot (cdId d) k.val).conn then 62 + 65536 * 62 else 254 + 65536 * 254))) ∧
  -- ASYNC_EVENT_REQUEST
  (∀ (d : Cd) (k : Fin 32768) (c : Ctrl) (s : State), s.cdUp (cdId d) = true ∧ ((s.slot (cdId d) k.val).state = 1 || (s.slot (cdId d) k.val).state = 2) = true ∧ (s.slot (cdId d) k.val).waiters = [] ∧ (s.slot (cdId d) k.val).cap.opcode = 0x0C ∧ (s.slot (cdId d) k.val).admin = true ∧ s.ctrl (cdId d) ((s.slot (cdId d) k.val).ctrl (cdId d)) = some c ∧ c.aers.contains k.val = false →
    
    ∃ t, exec (.asyncEventRequest d k) s = .next t ∧
      (c.events = [] → c.aers.length < 16 → t.ctrl (cdId d) ((s.slot (cdId d) k.val).ctrl (cdId d)) = some { c with aers := c.aers ++ [k.val] }) ∧
      (c.events = [] → 16 ≤ c.aers.length → (t.slot (cdId d) k.val).status = some stAerLimit) ∧
      (c.events ≠ [] → (t.slot (cdId d) k.val).status = some 0 ∧ t.ctrl (cdId d) ((s.slot (cdId d) k.val).ctrl (cdId d)) = some { c with events := c.events.drop 1 })) ∧
  -- CLEAR_DEFERRED_RANGE
  (∀ (n sl_ nl : Nat) (e : NsEntry) (s : State), s.nsEntry n = some e → 
    ∃ t, exec (.clearDeferredRange n sl_ nl false) s = .next t ∧
      OutMsg.mgmt 2 0 [stAccessDenied] ∈ t.out ∧ t.cmd = s.cmd)

/-- Reservation commands wait in key order, conflict or record a change, and take effect when the record is written. Each
clause is about a slot with no duplicate waiting (R242) on a namespace with no change in progress and no earlier
reservation command waiting. -/
def Obligations.Reservations : Prop :=
  -- RESERVATION_REGISTER
  (∀ (d : Cd) (k : Fin 32768) (s : State), s.cdUp (cdId d) = true ∧ ((s.slot (cdId d) k.val).state = 1 || (s.slot (cdId d) k.val).state = 2) = true ∧ (s.slot (cdId d) k.val).waiters = [] ∧ (s.slot (cdId d) k.val).cap.opcode = 0x0D ∧ (s.slot (cdId d) k.val).admin = false ∧ (s.cd (cdId d)).resvChange = [] →
    (s.cd (cdId d)).slots.any (fun z => z.1 ≠ k.val && z.2.cap.nsid = (s.slot (cdId d) k.val).cap.nsid && isResv z.2.cap.opcode && z.2.state = 2 && keyLater (s.slot (cdId d) k.val).e (s.slot (cdId d) k.val).conn (s.slot (cdId d) k.val).msn z.2.e z.2.conn z.2.msn) = false →
    (s.slot (cdId d) k.val).cap.cdw10 = 0 → 
    ∃ t, exec (.reservationRegister d k) s = .next t ∧
      (alGet ((alGet (s.cd (cdId d)).resv (s.slot (cdId d) k.val).cap.nsid).getD {}).regs (s.slot (cdId d) k.val).host = none → ((alGet (s.cd (cdId d)).resv (s.slot (cdId d) k.val).cap.nsid).getD {}).regs.length < 128 →
      (t.cd (cdId d)).resvChange.map (fun c => c.next.regs) = [((alGet (s.cd (cdId d)).resv (s.slot (cdId d) k.val).cap.nsid).getD {}).regs ++ [((s.slot (cdId d) k.val).host, (s.slot (cdId d) k.val).cap.info.getD 1 0)]]) ∧
      (∀ key ∈ alGet ((alGet (s.cd (cdId d)).resv (s.slot (cdId d) k.val).cap.nsid).getD {}).regs (s.slot (cdId d) k.val).host, key ≠ (s.slot (cdId d) k.val).cap.info.getD 1 0 → (t.slot (cdId d) k.val).status = some stResvConflict)) ∧
  -- RESERVATION_REPORT
  (∀ (d : Cd) (k : Fin 32768) (s : State), s.cdUp (cdId d) = true ∧ ((s.slot (cdId d) k.val).state = 1 || (s.slot (cdId d) k.val).state = 2) = true ∧ (s.slot (cdId d) k.val).waiters = [] ∧ (s.slot (cdId d) k.val).cap.opcode = 0x0E ∧ (s.slot (cdId d) k.val).admin = false ∧ (s.cd (cdId d)).resvChange = [] →
    (s.cd (cdId d)).slots.any (fun z => z.1 ≠ k.val && z.2.cap.nsid = (s.slot (cdId d) k.val).cap.nsid && isResv z.2.cap.opcode && z.2.state = 2 && keyLater (s.slot (cdId d) k.val).e (s.slot (cdId d) k.val).conn (s.slot (cdId d) k.val).msn z.2.e z.2.conn z.2.msn) = false →
    
    ∃ t, exec (.reservationReport d k) s = .next t ∧
      (t.slot (cdId d) k.val).status = (if (s.slot (cdId d) k.val).cap.cdw11.testBit 0 then some 0 else some stHostIdFormat)) ∧
  -- RESERVATION_ACQUIRE
  (∀ (d : Cd) (k : Fin 32768) (s : State), s.cdUp (cdId d) = true ∧ ((s.slot (cdId d) k.val).state = 1 || (s.slot (cdId d) k.val).state = 2) = true ∧ (s.slot (cdId d) k.val).waiters = [] ∧ (s.slot (cdId d) k.val).cap.opcode = 0x11 ∧ (s.slot (cdId d) k.val).admin = false ∧ (s.cd (cdId d)).resvChange = [] →
    (s.cd (cdId d)).slots.any (fun z => z.1 ≠ k.val && z.2.cap.nsid = (s.slot (cdId d) k.val).cap.nsid && isResv z.2.cap.opcode && z.2.state = 2 && keyLater (s.slot (cdId d) k.val).e (s.slot (cdId d) k.val).conn (s.slot (cdId d) k.val).msn z.2.e z.2.conn z.2.msn) = false →
    (s.slot (cdId d) k.val).cap.cdw10 = 256 → 
    ∃ t, exec (.reservationAcquire d k) s = .next t ∧
      (alGet ((alGet (s.cd (cdId d)).resv (s.slot (cdId d) k.val).cap.nsid).getD {}).regs (s.slot (cdId d) k.val).host = none → (t.slot (cdId d) k.val).status = some stResvConflict) ∧
      (alGet ((alGet (s.cd (cdId d)).resv (s.slot (cdId d) k.val).cap.nsid).getD {}).regs (s.slot (cdId d) k.val).host = some ((s.slot (cdId d) k.val).cap.info.getD 0 0) → ((alGet (s.cd (cdId d)).resv (s.slot (cdId d) k.val).cap.nsid).getD {}).rtype = 0 →
      (t.cd (cdId d)).resvChange.map (fun c => (c.next.rtype, c.next.holder)) = [(1, some (s.slot (cdId d) k.val).host)])) ∧
  -- RESERVATION_RELEASE
  (∀ (d : Cd) (k : Fin 32768) (s : State), s.cdUp (cdId d) = true ∧ ((s.slot (cdId d) k.val).state = 1 || (s.slot (cdId d) k.val).state = 2) = true ∧ (s.slot (cdId d) k.val).waiters = [] ∧ (s.slot (cdId d) k.val).cap.opcode = 0x15 ∧ (s.slot (cdId d) k.val).admin = false ∧ (s.cd (cdId d)).resvChange = [] →
    (s.cd (cdId d)).slots.any (fun z => z.1 ≠ k.val && z.2.cap.nsid = (s.slot (cdId d) k.val).cap.nsid && isResv z.2.cap.opcode && z.2.state = 2 && keyLater (s.slot (cdId d) k.val).e (s.slot (cdId d) k.val).conn (s.slot (cdId d) k.val).msn z.2.e z.2.conn z.2.msn) = false →
    (s.slot (cdId d) k.val).cap.cdw10 = 256 ∧ alGet ((alGet (s.cd (cdId d)).resv (s.slot (cdId d) k.val).cap.nsid).getD {}).regs (s.slot (cdId d) k.val).host = some ((s.slot (cdId d) k.val).cap.info.getD 0 0) →
    ((alGet (s.cd (cdId d)).resv (s.slot (cdId d) k.val).cap.nsid).getD {}).rtype = 1 ∧ ((alGet (s.cd (cdId d)).resv (s.slot (cdId d) k.val).cap.nsid).getD {}).holder = some (s.slot (cdId d) k.val).host →
    
    ∃ t, exec (.reservationRelease d k) s = .next t ∧
      (t.cd (cdId d)).resvChange.map (fun c => (c.next.rtype, c.next.holder)) = [(0, none)]) ∧
  -- RESERVATION_RECORD_WRITTEN
  (∀ (d : Cd) (n : Nat) (c : ResvChange) (s : State), s.cdUp (cdId d) = true ∧ s.modeNow ≠ 0xB → (s.cd (cdId d)).resvChange = [c] ∧ c.nsid = n ∧ s.drvQuiet (cdId d) { kind := 7, a := n, b := 1 } = true ∧ s.drvQuiet (cdId d) { kind := 7, a := n, b := 2 } = true →
    (!(s.drvResults (cdId d) { kind := 7, a := n, b := 1 }).isEmpty && !((s.grp_ (cdId d) (s.nsGroup n)).holders.drop 1).isEmpty) = false ∧ s.crumbRoom (cdId d) 5 = true →
    
    ∃ t, exec (.reservationRecordWritten d n) s = .next t ∧
      alGet (t.cd (cdId d)).resv n = some c.next ∧ (t.cd (cdId d)).resvChange = [])

/-- Format, Sanitize and namespace drains move through their phases. -/
def Obligations.FormatSanitizeDrain : Prop :=
  -- FORMAT_NVM
  (∀ (d : Cd) (k : Fin 32768) (n : NsEntry) (s : State), s.cdUp (cdId d) = true ∧ ((s.slot (cdId d) k.val).state = 1 || (s.slot (cdId d) k.val).state = 2) = true ∧ (s.slot (cdId d) k.val).waiters = [] ∧ (s.slot (cdId d) k.val).cap.opcode = 0x80 ∧ (s.slot (cdId d) k.val).admin = true ∧ (s.slot (cdId d) k.val).cap.nsid ≠ 0xFFFFFFFF ∧ s.nsEntry (s.slot (cdId d) k.val).cap.nsid = some n →
    cdId n.channel = cdId d ∧ n.flags.testBit 0 = true ∧ s.privileged (s.slot (cdId d) k.val).host (s.slot (cdId d) k.val).cap.nsid = true ∧ (s.slot (cdId d) k.val).cap.cdw10 % 512 = 0 ∧ (s.slot (cdId d) k.val).cap.cdw10 / 512 % 8 ≤ 2 →
    (s.cd (cdId d)).sanitize = none ∧ alGet (s.cd (cdId d)).formats (s.slot (cdId d) k.val).cap.nsid = none →
    
    ∃ t, exec (.formatNvm d k) s = .next t ∧
      (t.slot (cdId d) k.val).state = 3 ∧
      (alGet (t.cd (cdId d)).formats (s.slot (cdId d) k.val).cap.nsid).map (fun p => (p.action, p.phase, p.total)) = some ((s.slot (cdId d) k.val).cap.cdw10 / 512 % 8, 0, n.size)) ∧
  -- FORMAT_DRAIN_COMPLETE
  (∀ (d : Cd) (n : Nat) (p : Progress) (s : State), s.cdUp (cdId d) = true ∧ s.modeNow ≠ 0xB → alGet (s.cd (cdId d)).formats n = some p ∧ p.phase = 0 ∧ s.nsBusy (cdId d) n = false →
    
    ∃ t, exec (.formatDrainComplete d n) s = .next t ∧
      (alGet (t.cd (cdId d)).formats n).map (fun p => p.phase) = some (if p.action = 2 then 1 else 2)) ∧
  -- SANITIZE
  (∀ (d : Cd) (k : Fin 32768) (s : State), s.cdUp (cdId d) = true ∧ ((s.slot (cdId d) k.val).state = 1 || (s.slot (cdId d) k.val).state = 2) = true ∧ (s.slot (cdId d) k.val).waiters = [] ∧ (s.slot (cdId d) k.val).cap.opcode = 0x84 ∧ (s.slot (cdId d) k.val).admin = true →
    
    ∃ t, exec (.sanitize d k) s = .next t ∧
      ((s.slot (cdId d) k.val).cap.cdw10 % 8 = 3 → (t.slot (cdId d) k.val).status = some stBadField) ∧
      ((s.slot (cdId d) k.val).cap.cdw10 = 2 → (((s.img.active.getD {}).namespaces.filter (fun n => cdId n.channel = cdId d && n.flags.testBit 0)).any (fun n => !s.privileged (s.slot (cdId d) k.val).host n.nsid)) = false →
      (s.cd (cdId d)).sanitize = none → (t.slot (cdId d) k.val).status = some 0 ∧ (t.cd (cdId d)).sanitize.map (fun p => (p.action, p.phase)) = some (2, 2))) ∧
  -- ZERO_FILL_CHECKPOINT
  (∀ (d : Cd) (n b : Nat) (p : Progress) (s : State), s.cdUp (cdId d) = true ∧ s.modeNow ≠ 0xB → s.workRuns = true ∧ s.bgMay (cdId d) 2 = true ∧ alGet (s.cd (cdId d)).formats n = some p ∧ p.phase = 2 ∧ (s.nsEntry n).any (fun e => e.flags.testBit 0) = true →
    
    ∃ t, exec (.zeroFillCheckpoint d (some n) b) s = .next t ∧
      (alGet (t.cd (cdId d)).formats n).map (fun p => p.cursor) = some (min p.total (p.cursor + min b 262144))) ∧
  -- FORMAT_FILL_COMPLETE
  (∀ (d : Cd) (n : Nat) (p : Progress) (s : State), s.cdUp (cdId d) = true ∧ s.modeNow ≠ 0xB → alGet (s.cd (cdId d)).formats n = some p ∧ p.phase = 2 ∧ p.cursor = p.total →
    
    ∃ t, exec (.formatFillComplete d n) s = .next t ∧
      (alGet (t.cd (cdId d)).formats n).map (fun p => p.phase) = some 3 ∧ t.r (cdId d) (.nsm .EVENTS_format_done) = 1) ∧
  -- SANITIZE_FILL_COMPLETE
  (∀ (d : Cd) (ok : Bool) (p : Progress) (s : State), s.cdUp (cdId d) = true ∧ s.modeNow ≠ 0xB → (s.cd (cdId d)).sanitize = some p ∧ p.phase = 2 ∧ p.cursor = p.total →
    
    ∃ t, exec (.sanitizeFillComplete d ok) s = .next t ∧
      (t.cd (cdId d)).sanitize.map (fun p => p.phase) = some (if ok then 3 else 4) ∧
      t.r (cdId d) (.nsm .SANITIZE_restricted) = (if ok then 0 else 1) ∧ t.r (cdId d) (.nsm .EVENTS_sanitize_done) = 1) ∧
  -- NAMESPACE_DRAIN_LIMIT_EXPIRY
  (∀ (d : Cd) (n : Nat) (e : Nat × Bool × Nat) (s : State), s.cdUp (cdId d) = true ∧ s.modeNow ≠ 0xB → (s.cd (cdId d)).draining.find? (fun e => e.1 = n) = some e ∧ (s.cd (cdId d)).slots.any (fun z => z.2.cap.nsid = n && !z.2.admin) = false →
    
    ∃ t, exec (.namespaceDrainLimitExpiry d n) s = .next t ∧
      t = s.reachTs (cdId d) (e.2.2 + 1000000 * (s.img.active.getD {}).pkg.drainMs)) ∧
  -- NAMESPACE_DRAIN_COMPLETE
  (∀ (d : Cd) (n : Nat) (e : Nat × Bool × Nat) (s : State), s.cdUp (cdId d) = true ∧ s.modeNow ≠ 0xB → (s.cd (cdId d)).draining.find? (fun e => e.1 = n) = some e ∧ s.nsBusy (cdId d) n = false ∧ (s.sp (cdId d)).index.any (fun y => y.nsid = n && y.dirty) = false →
    
    ∃ t, exec (.namespaceDrainComplete d n) s = .next t ∧
      (t.cd (cdId d)).draining = (s.cd (cdId d)).draining.filter (fun z => z.1 ≠ n) ∧ t.r (cdId d) (.nsm .EVENTS_drain_done) = 1)

/-- Key slots load, clear and change behind their fence, generations rise, and authentication results are read out in
order. -/
def Obligations.CipherEngine : Prop :=
  -- KEY_SLOT_LOAD
  (∀ (q : Req) (d : DieId) (n : BitVec 12) (key : Nat) (s : State), 1 ≤ d.val ∧ s.cdUp d.val = true → 
    ∃ t, exec (.keySlotLoad q d false n (some key) false) s = .next t ∧
      (q.secure = true → s.rb d.val (.cip .STATUS_kat_pass) = true → s.rb d.val (.cip .STATUS_ktk_ready) = true → s.r d.val (.cip .SLOT_A_state) n.toNat = 0 →
      (t.keySlot d.val n.toNat).key = key ∧ t.r d.val (.cip .LOAD_STATUS_result) = 0) ∧
      (q.secure = true → s.rb d.val (.cip .STATUS_kat_pass) = true → s.rb d.val (.cip .STATUS_ktk_ready) = true → s.r d.val (.cip .SLOT_A_state) n.toNat = 2 →
      (t.keySlot d.val n.toNat).key = (s.keySlot d.val n.toNat).key ∧ t.r d.val (.cip .SLOT_A_state) n.toNat = 1) ∧
      (q.secure = true → s.rb d.val (.cip .STATUS_kat_pass) = false → t.r d.val (.cip .LOAD_STATUS_result) = 5 ∧ t.cip = s.cip) ∧
      (q.secure = false → t.cip = s.cip)) ∧
  -- KEY_SLOT_CLEAR
  (∀ (q : Req) (d : DieId) (n : BitVec 12) (s : State), 1 ≤ d.val ∧ s.cdUp d.val = true ∧ q.secure = true → 
    ∃ t, exec (.keySlotClear q d false n) s = .next t ∧
      (s.r d.val (.cip .SLOT_A_state) n.toNat = 2 → (t.keySlot d.val n.toNat).clearing = true ∧ t.r d.val (.cip .SLOT_A_state) n.toNat = 1 ∧ t.r d.val (.cip .LOAD_STATUS_result) = 0) ∧
      (s.r d.val (.cip .SLOT_A_state) n.toNat = 1 → t.cip = s.cip ∧ t.r d.val (.cip .LOAD_STATUS_result) = 1)) ∧
  -- KEY_SLOT_FENCE_COMPLETE
  (∀ (d : DieId) (n : BitVec 12) (s : State), s.r d.val (.cip .SLOT_A_state) n.toNat = 1 → 
    ∃ t, exec (.keySlotFenceComplete d false n) s = .next t ∧
      ((s.keySlot d.val n.toNat).clearing = true → t.keySlot d.val n.toNat = ({} : KeySlot)) ∧
      ((s.keySlot d.val n.toNat).clearing = false → (s.keySlot d.val n.toNat).next = some (9, 1, 1, 0) → (t.keySlot d.val n.toNat).key = 9 ∧ (t.keySlot d.val n.toNat).next = none)) ∧
  -- KEY_REPLACEMENT
  (∀ (d : Cd) (n : BitVec 12) (s : State), s.cdUp (cdId d) = true ∧ s.modeNow ≠ 0xB → s.cip.replacing.contains (cdId d, n.toNat) = false ∧ s.cip.mediaRoot.isNone = false ∧ s.generation (cdId d) n.toNat ≠ 0xFFFFFFFF →
    
    ∃ t, exec (.keyReplacement d n) s = .next t ∧
      ((s.modeNow = 5 && s.paired && s.r mdId (.pair .STATUS_mirror) = 1) = false → t.generation (cdId d) n.toNat = s.generation (cdId d) n.toNat + 1) ∧
      ((s.modeNow = 5 && s.paired && s.r mdId (.pair .STATUS_mirror) = 1) = true → t.generation (cdId d) n.toNat = s.generation (cdId d) n.toNat ∧
      OutMsg.generation (cdId d) n.toNat (s.generation (cdId d) n.toNat + 1) ∈ t.out)) ∧
  -- PARTNER_GENERATION_COMMITTED
  (∀ (d : Cd) (n : BitVec 12) (s : State), s.cdUp (cdId d) = true ∧ s.modeNow ≠ 0xB → s.cip.replacing.contains (cdId d, n.toNat) = true → 
    ∃ t, exec (.partnerGenerationCommitted d n) s = .next t ∧
      t.generation (cdId d) n.toNat = s.generation (cdId d) n.toNat + 1 ∧ t.cip.replacing.contains (cdId d, n.toNat) = false) ∧
  -- GCM_DONE_POP
  (∀ (d : Cd) (s : State), s.cdUp (cdId d) = true ∧ s.modeNow ≠ 0xB → 
    ∃ t, exec (.gcmDonePop d) s = .next t ∧
      (alGet t.cip.done (cdId d)).getD [] = ((alGet s.cip.done (cdId d)).getD []).drop 1 ∧ t.cip.lost.contains (cdId d) = false) ∧
  -- CIP_SNAPSHOT
  (∀ (q : Req) (d : DieId) (s : State), s.cipDie d.val = true → 
    ∃ t, exec (.cipSnapshot q d) s = .next t ∧
      (⟨d.val, 0x28, q.secure, s.counters d.val 0x28 (if d.val = 0 then 7 else 8), 0⟩ : Snapshot) ∈ t.snaps)

/-- The Sponge evicts and holds, and the Crumb journal retires and mirrors, as their rules say. -/
def Obligations.SpongeAndJournal : Prop :=
  -- ZERO_RANGE_ENTRY_FREE
  (∀ (d : Cd) (seq : Nat) (r : ZeroRange) (s : State), s.cdUp (cdId d) = true ∧ s.modeNow ≠ 0xB ∧ s.tsSet (cdId d) = true →
    (s.sp (cdId d)).ranges.find? (fun r => r.seq = seq && r.applied) = some r →
    
    ∃ t, exec (.zeroRangeEntryFree d seq) s = .next t ∧
      (∀ x ∈ (t.sp (cdId d)).ranges, ¬ (x.seq = seq ∧ x.applied = true))) ∧
  -- CANCEL_CRUMB_RETIREMENT
  (∀ (d : Cd) (seq : Nat) (r : RingCrumb) (s : State), s.cdUp (cdId d) = true ∧ s.modeNow ≠ 0xB → s.ringCrumb (cdId d) seq = some r ∧ r.c.kind = 0x21 ∧ r.retired = false →
    
    ∃ t, exec (.cancelCrumbRetirement d seq) s = .next t ∧
      r.writtenAt + 1000000 * s.r (cdId d) (.cmd .CFG_dup_window_ms) ≤ t.now ∧ (t.ringCrumb (cdId d) seq).all (fun x => x.retired = true)) ∧
  -- EVICTION_STEP
  (∀ (d : Cd) (e : IdxEntry) (s : State), s.cdUp (cdId d) = true ∧ s.modeNow ≠ 0xB → (s.sp (cdId d)).evicting = true ∧ 100 * (s.sp (cdId d)).freeSlots < s.r (cdId d) (.spg .EVICT_CFG_high_pct) * dataSlots →
    (s.sp (cdId d)).nextSlot = some e ∧ s.evictable (cdId d) e = true →
    
    ∃ t, exec (.evictionStep d) s = .next t ∧
      (t.sp (cdId d)).hand = (e.slot + 1) % dataSlots ∧
      (t.sp (cdId d)).index = (if e.ref then (s.sp (cdId d)).index.map (fun (y : IdxEntry) => if y.slot = e.slot then { y with ref := false } else y)
        else (s.sp (cdId d)).index.filter (fun (y : IdxEntry) => y.slot ≠ e.slot))) ∧
  -- HOLD_TIME_ADJUST
  (∀ (d : Cd) (g : Fin 4) (s : State), s.cdUp (cdId d) = true ∧ s.modeNow ≠ 0xB → (s.grp_ (cdId d) g.val).windowOn = true → 
    ∃ t, exec (.holdTimeAdjust d g) s = .next t ∧
      (alGet (t.sp (cdId d)).asm_ g.val).map (fun a => (a.full, a.total)) = some (0, 0)) ∧
  -- RETIRE_CRUMB_WRITE
  (∀ (d : Cd) (q : Nat) (r : RingCrumb) (s : State), s.cdUp (cdId d) = true ∧ s.modeNow ≠ 0xB → s.ringCrumb (cdId d) q = some r ∧ (r.c.kind = 1 ∨ r.c.kind = 2 ∨ r.c.kind = 3) ∧ r.retired = false ∧ r.chainDone = true →
    s.crumbSettled (cdId d) q = true ∧ s.crumbRoom (cdId d) 0x22 = true →
    
    ∃ t, exec (.retireCrumbWrite d q) s = .next t ∧
      (t.ringCrumb (cdId d) q).all (fun x => x.retired) = true) ∧
  -- MIRROR_CRUMBS_RECEIVED
  (∀ (d : Cd) (c : Crumb) (l : List Block) (b : Bool) (s : State), s.cdUp (cdId d) = true ∧ s.modeNow ≠ 0xB → ¬ (s.modeNow ≠ 6 ∧ s.modeNow ≠ 4) → 
    ∃ t, exec (.mirrorCrumbsReceived d c l b) s = .next t ∧
      (t.sp (cdId d)).incoming = (s.sp (cdId d)).incoming ++ [⟨c, l, b, s.now⟩]) ∧
  -- MIRROR_CRUMB_PLACED
  (∀ (d : Cd) (m : MirrorIn) (l : List MirrorIn) (s : State), s.cdUp (cdId d) = true ∧ s.modeNow ≠ 0xB → (s.sp (cdId d)).incoming = m :: l ∧ m.located = true ∧ m.c.kind = 4 →
    
    ∃ t, exec (.mirrorCrumbPlaced d) s = .next t ∧
      (t.sp (cdId d)).incoming = l ∧ (t.sp (cdId d)).ackSent = max (s.sp (cdId d)).ackSent m.c.seq ∧
      (t.sp (cdId d)).ring = (s.sp (cdId d)).ring ++ [{ c := m.c, writtenAt := s.now }]) ∧
  -- MIRROR_ACK_SEND
  (∀ (d : Cd) (s : State), s.cdUp (cdId d) = true ∧ s.modeNow ≠ 0xB → (s.modeNow = 6 ∨ s.modeNow = 4) ∧ s.r (cdId d) (.spg .MIRROR_ACK) < (s.sp (cdId d)).ackSent →
    s.authenticated = true ∧ s.sealReady 0 = true → 
    ∃ t, exec (.mirrorAckSend d) s = .next t ∧
      OutMsg.partner 5 (cdId d - 1) (s.pair.txSeq + 1) [(s.sp (cdId d)).ackSent, s.r (cdId d) (.pair .TABLE_ACK)] [] ∈ t.out ∧
      (t.sp (cdId d)).ackAt = s.now) ∧
  -- MIRROR_ACK_RECEIVED
  (∀ (d : Cd) (a ta : Nat) (s : State), s.cdUp (cdId d) = true ∧ s.modeNow ≠ 0xB → s.modeNow = 5 ∧ s.rdx.chains = [] ∧ s.ep.cmds.any (fun c => c.st = 3) = false ∧ s.r (cdId d) (.spg .MIRROR_ACK) < 2 ^ 64 ∧ a < 2 ^ 64 →
    
    ∃ t, exec (.mirrorAckReceived d a ta) s = .next t ∧
      t.r (cdId d) (.spg .MIRROR_ACK) = max (s.r (cdId d) (.spg .MIRROR_ACK)) a ∧
      (t.sp (cdId d)).ring.all (fun r => decide (a < r.c.seq) || r.placed) = true) ∧
  -- SCRUB_LINE
  (∀ (d : Cd) (b : Bool) (r : Option (Fin 32768)) (s : State), s.cdUp (cdId d) = true ∧ s.modeNow ≠ 0xB → s.rb (cdId d) (.spg .SCRUB_CFG_enable) = true ∧ ¬ s.modeNow < 3 ∧ (s.profile (cdId d)).spongeScrub ≠ 0 →
    
    ∃ t, exec (.scrubLine d 1 b r) s = .next t ∧
      t.r (cdId d) (.spg .SCRUB_POS_line) = (s.r (cdId d) (.spg .SCRUB_POS_line) + 1) % 134217728 ∧
      t.r (cdId d) (.spg .ECC_LAST_line) = s.r (cdId d) (.spg .SCRUB_POS_line) % 2 ^ 27 ∧ t.r (cdId d) (.spg .ECC_LAST_uncorrectable) = 0) ∧
  -- REPAIR_FRAME_RECEIVED
  (∀ (d : Cd) (n l q : Nat) (e : IdxEntry) (s : State), s.cdUp (cdId d) = true ∧ s.modeNow ≠ 0xB → n ≠ 0 ∧ s.lookup (cdId d) n l = some e ∧ e.seq % 2 ^ 32 = q →
    s.authenticated = true ∧ s.sealReady 0 = true → 
    ∃ t, exec (.repairFrameReceived d n l q none) s = .next t ∧
      OutMsg.partner 9 (cdId d - 1) (s.pair.txSeq + 1) [1, n, l, q] [e.data] ∈ t.out)

/-- The memory arbiter grants, opens windows, commits and freezes, and the dirty ceiling takes secure writes in range. -/
def Obligations.ArbiterAndCeiling : Prop :=
  -- ARBITER_GRANT
  (∀ (d : Cd) (n : Fin 10) (s : State), s.cdUp (cdId d) = true ∧ s.modeNow ≠ 0xB → (s.arb (cdId d)).clock < (s.arb (cdId d)).window ∧ (s.r (cdId d) (.arb .FREEZE_mask)).testBit n.val = false ∧ (s.arb (cdId d)).last.length = 4 ∧ s.arbLevel (cdId d) n.val < 4 →
    
    ∃ t, exec (.arbiterGrant d (BitVec.ofNat 10 (2 ^ n.val))) s = .next t ∧
      OutMsg.grant (cdId d) n.val ∈ t.out ∧ (t.arb (cdId d)).clock = (s.arb (cdId d)).clock + 1 ∧
      (t.arb (cdId d)).last.getD (s.arbLevel (cdId d) n.val) none = some n.val) ∧
  -- ARB_WINDOW_END
  (∀ (d : Cd) (s : State), s.cdUp (cdId d) = true ∧ s.modeNow ≠ 0xB → (s.arb (cdId d)).window ≤ (s.arb (cdId d)).clock → 
    ∃ t, exec (.arbWindowEnd d) s = .next t ∧
      (t.arb (cdId d)).clock = 0 ∧ (t.arb (cdId d)).used = [0, 0, 0, 0, 0, 0, 0, 0, 0, 0] ∧ (t.arb (cdId d)).last = (s.arb (cdId d)).last) ∧
  -- ARB_COMMIT
  (∀ (d : Cd) (s : State), s.cdUp (cdId d) = true ∧ s.modeNow ≠ 0xB → 
    ∃ t, exec (.arbCommit d) s = .next t ∧
      (t.arb (cdId d)).prio = s.r (cdId d) (.arb .PRIO_level) ∧ (t.arb (cdId d)).window = s.r (cdId d) (.arb .WINDOW_clocks) ∧
      (t.arb (cdId d)).quotas = (List.range 10).map (fun n => s.r (cdId d) (.arb .QUOTA_q) n) ∧ (t.arb (cdId d)).clock = 0 ∧ (t.arb (cdId d)).last = (s.arb (cdId d)).last) ∧
  -- ARB_FREEZE_WRITE
  (∀ (d : Cd) (m : BitVec 10) (s : State), s.cdUp (cdId d) = true ∧ s.modeNow ≠ 0xB → 
    ∃ t, exec (.arbFreezeWrite d m) s = .next t ∧
      t.r (cdId d) (.arb .FREEZE_mask) = m.toNat ∧ t.r (cdId d) (.arb .STATUS_drained) = 1) ∧
  -- DIRTY_CEILING_WRITE
  (∀ (q : Req) (d : Cd) (v : BitVec 12) (s : State), s.cdUp (cdId d) = true ∧ s.modeNow ≠ 0xB → q.secure = true → 
    ∃ t, exec (.dirtyCeilingWrite q d v) s = .next t ∧
      t.r (cdId d) (.spg .DIRTY_CEILING_limit_mib) = (if 64 ≤ v.toNat ∧ v.toNat ≤ 3584 then v.toNat else s.r (cdId d) (.spg .DIRTY_CEILING_limit_mib)) ∧
      (t.sp (cdId d)).index = (s.sp (cdId d)).index) ∧
  -- SPG_SNAPSHOT
  (∀ (q : Req) (d : Cd) (s : State), s.cdUp (cdId d) = true → 
    ∃ t, exec (.spgSnapshot q d) s = .next t ∧
      (⟨cdId d, 0x23, q.secure, s.counters (cdId d) 0x23 20, 0⟩ : Snapshot) ∈ t.snaps) ∧
  -- ARB_SNAPSHOT
  (∀ (q : Req) (d : Cd) (s : State), s.cdUp (cdId d) = true → 
    ∃ t, exec (.arbSnapshot q d) s = .next t ∧
      (⟨cdId d, 0x24, q.secure, s.counters (cdId d) 0x24 20, 0⟩ : Snapshot) ∈ t.snaps)

/-- Stripe updates lock, read, write under an intent and release; drive commands complete by their error class; records
become durable. -/
def Obligations.StripeUpdates : Prop :=
  -- STRIPE_UPDATE_START
  (∀ (d : Cd) (g : Fin 4) (n : Nat) (s : State), s.cdUp (cdId d) = true ∧ s.modeNow ≠ 0xB → s.workRuns = true ∧ (s.grp_ (cdId d) g.val).configured = true ∧ (s.grp_ (cdId d) g.val).state ≠ 4 ∧ n % 2 ^ 63 < (s.viewT (cdId d) g.val n).stripes ∧ s.destageDue (cdId d) g.val n = true ∧ (s.grp_ (cdId d) g.val).locks.contains n = false →
    (s.updateSet (cdId d) g.val n).any (fun e => (s.nsEntry e.2.2.2.1).any (fun n => s.r (cdId d) (.cip .SLOT_A_state) n.keySlot ≠ 2)) = false →
    (s.updateSet (cdId d) g.val n).any (fun e => (s.nsEntry e.2.2.2.1).any (fun n => s.r (cdId d) (.cip .SLOT_A_nsid) n.keySlot ≠ n.nsid)) = false →
    
    ∃ t, exec (.stripeUpdateStart d g n) s = .next t ∧
      (t.grp_ (cdId d) g.val).locks = (s.grp_ (cdId d) g.val).locks ++ [n] ∧ (t.grp_ (cdId d) g.val).updates.any (fun u => u.stripe = n && !u.writing) = true) ∧
  -- STRIPE_READS_COMPLETE
  (∀ (d : Cd) (g : Fin 4) (n : Nat) (u : StripeUpd) (s : State), s.cdUp (cdId d) = true ∧ s.modeNow ≠ 0xB → (s.viewT (cdId d) g.val n).updates.find? (fun u => u.stripe = n && !u.writing) = some u ∧ s.drvQuiet (cdId d) (stripeOwner g.val n) = true ∧ s.workRuns = true →
    (s.drvResults (cdId d) (stripeOwner g.val n)).all (fun r => r.ok) = true ∧ s.crumbRoom (cdId d) 0x10 = true ∧ u ∈ (s.grp_ (cdId d) g.val).updates →
    
    ∃ t, exec (.stripeReadsComplete d g n) s = .next t ∧
      (t.grp_ (cdId d) g.val).updates.any (fun v => v.stripe = n && v.writing && v.intent = s.crumbNext (cdId d)) = true) ∧
  -- STRIPE_WRITES_COMPLETE
  (∀ (d : Cd) (g : Fin 4) (n : Nat) (u : StripeUpd) (s : State), s.cdUp (cdId d) = true ∧ s.modeNow ≠ 0xB → (s.viewT (cdId d) g.val n).updates.find? (fun u => u.stripe = n && u.writing) = some u ∧ s.drvQuiet (cdId d) (stripeOwner g.val n) = true ∧ (s.viewT (cdId d) g.val n).state ≠ 4 →
    
    ∃ t, exec (.stripeWritesComplete d g n) s = .next t ∧
      (t.grp_ (cdId d) g.val).locks.contains n = false ∧ (t.grp_ (cdId d) g.val).updates.any (fun u => u.stripe = n) = false) ∧
  -- DRIVE_COMMAND_COMPLETION
  (∀ (d : Cd) (bay : Fin 8) (cid : BitVec 16) (sct : Fin 8) (sc : BitVec 8) (l : List Block) (c : DrvCmd) (s : State), s.cdUp (cdId d) = true ∧ (s.modeNow = 0xB && s.mode.rootsHeld) = false →
    s.drv.cmds.find? (fun c => c.die = cdId d && c.bay = bay.val && c.cid = cid.toNat && c.abortAt.isNone && !c.held) = some c ∧ c.owner.kind = 2 ∧ c.op = 1 →
    
    ∃ t, exec (.driveCommandCompletion d bay cid sct sc l) s = .next t ∧
      (sct.val = 0 → sc.toNat = 0 → t.drv.cmds.any (fun y => y.die = cdId d && y.cid = cid.toNat) = false ∧
      t.drv.results.any (fun r => r.die = cdId d && r.owner = c.owner && r.ok) = true) ∧
      (sct.val = 0 → sc.toNat = 0x83 → t.r (cdId d) (.drv .STATUS_write_gate) = 0 ∧ t.r (cdId d) (.drv .B_ERR_class) bay.val = 6)) ∧
  -- GROUP_RECORD_WRITE_COMPLETE
  (∀ (d : Cd) (g : Fin 4) (s : State), s.cdUp (cdId d) = true ∧ s.modeNow ≠ 0xB → (s.grp_ (cdId d) g.val).recPhase = 2 ∧ (s.grp_ (cdId d) g.val).recAgain = false ∧ s.drvQuiet (cdId d) { kind := 3, a := g.val, b := 1 } = true ∧ s.drvQuiet (cdId d) { kind := 3, a := g.val, b := 2 } = true →
    
    ∃ t, exec (.groupRecordWriteComplete d g) s = .next t ∧
      (t.grp_ (cdId d) g.val).recPhase = 0 ∧ (t.grp_ (cdId d) g.val).durable = (s.grp_ (cdId d) g.val).recMarks) ∧
  -- BITMAP_BIT_CLEAR_DUE
  (∀ (d : Cd) (g : Fin 4) (n : Nat) (s : State), s.cdUp (cdId d) = true ∧ s.modeNow ≠ 0xB → (s.grp_ (cdId d) g.val).marked.contains n = true ∧ (s.sp (cdId d)).index = [] ∧ (s.sp (cdId d)).ranges = [] ∧ (s.cd (cdId d)).slots = [] ∧ (s.grp_ (cdId d) g.val).locks = [] ∧ (s.grp_ (cdId d) g.val).outCount = 0 ∧ (s.grp_ (cdId d) g.val).fullResync = false ∧ (s.grp_ (cdId d) g.val).resync = [] →
    
    ∃ t, exec (.bitmapBitClearDue d g n) s = .next t ∧
      (t.grp_ (cdId d) g.val).marked.contains n = false ∧ (t.grp_ (cdId d) g.val).durable.contains n = false ∧
      t.now = max s.now ((alGet (s.grp_ (cdId d) g.val).quietSince n).getD s.now + 1000000 * s.r (cdId d) (.grp .BITMAP_CFG_linger_ms))) ∧
  -- GRP_SNAPSHOT
  (∀ (q : Req) (d : Cd) (s : State), s.cdUp (cdId d) = true → 
    ∃ t, exec (.grpSnapshot q d) s = .next t ∧
      (⟨cdId d, 0x25, q.secure, s.counters (cdId d) 0x25 18, 0⟩ : Snapshot) ∈ t.snaps)

/-- Targets are taken, passes held and released, and rebuild and resynchronisation move stripe by stripe. -/
def Obligations.RebuildAndResync : Prop :=
  -- SPARE_DELAY_EXPIRY
  (∀ (d : Cd) (g : Fin 4) (p : Fin 8) (s : State), s.cdUp (cdId d) = true ∧ s.modeNow ≠ 0xB → (s.grp_ (cdId d) g.val).configured = true ∧ (s.grp_ (cdId d) g.val).states.getD p.val 5 = 1 →
    
    ∃ t, exec (.spareDelayExpiry d g p) s = .next t ∧
      t.now = max s.now ((alGet (s.grp_ (cdId d) g.val).absentAt p.val).getD s.now + 1000000000 * s.r (cdId d) (.grp .REBUILD_CFG_spare_delay_s))) ∧
  -- G_CMD_TAKE_TARGET
  (∀ (d : Cd) (g : Fin 4) (s : State), s.cdUp (cdId d) = true ∧ s.modeNow ≠ 0xB → (List.range (s.grp_ (cdId d) g.val).n).find? (fun p => (s.grp_ (cdId d) g.val).states.getD p 5 = 1 || (s.grp_ (cdId d) g.val).states.getD p 5 = 2) = none ∨ s.spareFor (cdId d) g.val = none →
    
    ∃ t, exec (.gCmdTakeTarget d g) s = .next t ∧
      t.grp = s.grp) ∧
  -- G_CMD_HOLD_PASS
  (∀ (d : Cd) (g : Fin 4) (s : State), s.cdUp (cdId d) = true ∧ s.modeNow ≠ 0xB → (s.grp_ (cdId d) g.val).configured = true ∧ (s.grp_ (cdId d) g.val).pass = true ∧ (s.grp_ (cdId d) g.val).held = false →
    
    ∃ t, exec (.gCmdHoldPass d g) s = .next t ∧
      (t.grp_ (cdId d) g.val) = { (s.grp_ (cdId d) g.val) with held := true }) ∧
  -- G_CMD_RELEASE_PASS
  (∀ (d : Cd) (g : Fin 4) (s : State), s.cdUp (cdId d) = true ∧ s.modeNow ≠ 0xB → (s.grp_ (cdId d) g.val).configured = true ∧ (s.grp_ (cdId d) g.val).held = true →
    
    ∃ t, exec (.gCmdReleasePass d g) s = .next t ∧
      (t.grp_ (cdId d) g.val) = { (s.grp_ (cdId d) g.val) with held := false }) ∧
  -- G_CMD_FULL_RESYNC
  (∀ (d : Cd) (g : Fin 4) (s : State), s.cdUp (cdId d) = true ∧ s.modeNow ≠ 0xB → (s.grp_ (cdId d) g.val).configured = true ∧ (s.grp_ (cdId d) g.val).state ≠ 4 →
    
    ∃ t, exec (.gCmdFullResync d g) s = .next t ∧
      (t.grp_ (cdId d) g.val).fullResync = true ∧ (t.grp_ (cdId d) g.val).fullCursor = 0 ∧ (t.grp_ (cdId d) g.val).resyncAt = s.ts64 (cdId d)) ∧
  -- REBUILD_STEP
  (∀ (d : Cd) (g : Fin 4) (s : State), s.cdUp (cdId d) = true ∧ s.modeNow ≠ 0xB → (s.grp_ (cdId d) g.val).configured = true ∧ (s.grp_ (cdId d) g.val).resyncing = false ∧ s.workRuns = true ∧ (s.grp_ (cdId d) g.val).state ≠ 4 ∧ (s.grp_ (cdId d) g.val).pass = true ∧ (s.grp_ (cdId d) g.val).held = false ∧ (s.grp_ (cdId d) g.val).rbPhase = 0 →
    (s.grp_ (cdId d) g.val).cursor + 1 < (s.grp_ (cdId d) g.val).stripes ∧ (s.grp_ (cdId d) g.val).targetsAt (s.grp_ (cdId d) g.val).passStripe = [] ∧ (s.grp_ (cdId d) g.val).lap2 = false ∧ s.rshOf (cdId d) g.val = none →
    
    ∃ t, exec (.rebuildStep d g) s = .next t ∧
      (t.grp_ (cdId d) g.val).cursor = (s.grp_ (cdId d) g.val).cursor + 1 ∧ (t.grp_ (cdId d) g.val).pass = true) ∧
  -- REBUILD_CHECKPOINT
  (∀ (d : Cd) (g : Fin 4) (s : State), s.cdUp (cdId d) = true ∧ s.modeNow ≠ 0xB → (s.grp_ (cdId d) g.val).pass = true → 
    ∃ t, exec (.rebuildCheckpoint d g) s = .next t ∧
      (t.grp_ (cdId d) g.val).checkAt = (s.reachTs (cdId d) ((s.grp_ (cdId d) g.val).checkAt + 1000000000)).ts64 (cdId d) ∧ (t.grp_ (cdId d) g.val).recPhase ≠ 0) ∧
  -- RESYNC_STRIPE
  (∀ (d : Cd) (g : Fin 4) (n : Nat) (s : State), s.cdUp (cdId d) = true ∧ s.modeNow ≠ 0xB → (s.grp_ (cdId d) g.val).rsPhase = 0 ∧ (s.grp_ (cdId d) g.val).fullResync = true ∧ (s.grp_ (cdId d) g.val).fullCursor = n ∧ (s.grp_ (cdId d) g.val).configured = true ∧ s.workRuns = true ∧ (s.grp_ (cdId d) g.val).state ≠ 4 ∧ s.bgMay (cdId d) 2 = true ∧ (s.grp_ (cdId d) g.val).locks.contains n = false →
    
    ∃ t, exec (.resyncStripe d g) s = .next t ∧
      (t.grp_ (cdId d) g.val).rsPhase = 1 ∧ (t.grp_ (cdId d) g.val).rsStripe = n ∧ (t.grp_ (cdId d) g.val).locks = (s.grp_ (cdId d) g.val).locks ++ [n])

/-- A reshape steps, is held, released and cancelled, and switches, as its rules say. -/
def Obligations.ReshapeSteps : Prop :=
  -- RESHAPE_STEP_START
  (∀ (d : Cd) (g : Fin 4) (r : Reshape) (s : State), s.cdUp (cdId d) = true ∧ s.modeNow ≠ 0xB → s.rshOf (cdId d) g.val = some r ∧ s.stepMay (cdId d) g.val r = true ∧ s.r (cdId d) (.rsh .BUF) = 0 →
    
    ∃ t, exec (.reshapeStepStart d g) s = .next t ∧
      t.rshOf (cdId d) g.val = some { r with wait := 5 }) ∧
  -- RESHAPE_STEP_READS_COMPLETE
  (∀ (d : Cd) (g : Fin 4) (r : Reshape) (s : State), s.cdUp (cdId d) = true ∧ s.modeNow ≠ 0xB → s.rshOf (cdId d) g.val = some r ∧ r.step = 2 ∧ s.rshQuiet (cdId d) g.val 6 = true ∧ r.backed = true ∧ r.waitReads = [] →
    
    ∃ t, exec (.reshapeStepReadsComplete d g) s = .next t ∧
      (t.rshOf (cdId d) g.val).map (fun r => r.step) = some 3 ∧ (t.rshOf (cdId d) g.val).map (fun r => r.buf.length) = some r.stepBlocks) ∧
  -- RESHAPE_BACKUP_WRITTEN
  (∀ (d : Cd) (g : Fin 4) (r : Reshape) (s : State), s.cdUp (cdId d) = true ∧ s.modeNow ≠ 0xB → s.rshOf (cdId d) g.val = some r ∧ r.step = 3 ∧ s.rshQuiet (cdId d) g.val 23 = true →
    
    ∃ t, exec (.reshapeBackupWritten d g) s = .next t ∧
      t.rshOf (cdId d) g.val = some { r with step := 7, inflight := true, generation := (r.generation + 1) % 2 ^ 32 }) ∧
  -- RESHAPE_STEP_COMMIT
  (∀ (d : Cd) (g : Fin 4) (r : Reshape) (s : State), s.cdUp (cdId d) = true ∧ s.modeNow ≠ 0xB → s.rshOf (cdId d) g.val = some r ∧ r.step = 6 ∧ s.rshQuiet (cdId d) g.val 24 = true ∧ r.phase = 2 ∧ r.cancel = false →
    
    ∃ t, exec (.reshapeStepCommit d g) s = .next t ∧
      (t.rshOf (cdId d) g.val).map (fun r => (r.cursor, r.step, r.inflight, r.moved)) = some (r.next, 0, false, true)) ∧
  -- RESHAPE_CANCEL
  (∀ (q : Req) (d : Cd) (g : Fin 4) (r : Reshape) (s : State), s.cdUp (cdId d) = true ∧ s.modeNow ≠ 0xB → q.secure = true ∧ s.rshOf (cdId d) g.val = some r ∧ r.kind = 2 ∧ r.phase = 2 ∧ (r.step = 5 ∨ r.step = 6) →
    
    ∃ t, exec (.reshapeCancel q d g) s = .next t ∧
      (s.modeNow = 5 → t.rshOf (cdId d) g.val = some { r with cancel := true, generation := (r.generation + 1) % 2 ^ 32 }) ∧
      (s.modeNow ≠ 5 → t.rsh = s.rsh)) ∧
  -- RESHAPE_HOLD
  (∀ (q : Req) (d : Cd) (g : Fin 4) (r : Reshape) (s : State), s.cdUp (cdId d) = true ∧ s.modeNow ≠ 0xB → q.secure = true ∧ s.rshOf (cdId d) g.val = some r ∧ (r.phase = 1 ∨ r.running = true) ∧ r.heldBy = false →
    
    ∃ t, exec (.reshapeHold q d g) s = .next t ∧
      t.rshOf (cdId d) g.val = some { r with heldBy := true }) ∧
  -- RESHAPE_RELEASE
  (∀ (q : Req) (d : Cd) (g : Fin 4) (r : Reshape) (s : State), s.cdUp (cdId d) = true ∧ s.modeNow ≠ 0xB → q.secure = true ∧ s.rshOf (cdId d) g.val = some r ∧ r.heldBy = true →
    
    ∃ t, exec (.reshapeRelease q d g) s = .next t ∧
      t.rshOf (cdId d) g.val = some { r with heldBy := false }) ∧
  -- RESHAPE_SWITCH
  (∀ (d : Cd) (g : Fin 4) (r : Reshape) (s : State), s.cdUp (cdId d) = true ∧ s.modeNow ≠ 0xB → s.rshOf (cdId d) g.val = some r ∧ s.switchDue (cdId d) g.val r = true ∧ s.workRuns = true ∧ r.pauseBay = false ∧ s.rshQuiet (cdId d) g.val 24 = true →
    
    ∃ t, exec (.reshapeSwitch d g) s = .next t ∧
      (t.rshOf (cdId d) g.val).map (fun r => (r.phase, r.switched)) = some (3, false)) ∧
  -- RESHAPE_SWITCH_COMPLETE
  (∀ (d : Cd) (g : Fin 4) (r : Reshape) (s : State), s.cdUp (cdId d) = true ∧ s.modeNow ≠ 0xB → s.rshOf (cdId d) g.val = some r ∧ r.phase = 3 ∧ r.switched = true ∧ s.rshQuiet (cdId d) g.val 24 = true ∧ s.rshQuiet (cdId d) g.val 26 = true →
    
    ∃ t, exec (.reshapeSwitchComplete d g) s = .next t ∧
      t.r (cdId d) (.rsh .EVENTS_switched) = 1 ∧ (t.rshOf (cdId d) g.val).map (fun r => r.phase) = some 4) ∧
  -- RSH_SNAPSHOT
  (∀ (q : Req) (d : Cd) (s : State), s.cdUp (cdId d) = true → 
    ∃ t, exec (.rshSnapshot q d) s = .next t ∧
      (⟨cdId d, 0x26, q.secure, s.counters (cdId d) 0x26 8, 0⟩ : Snapshot) ∈ t.snaps)

/-- A bay's drive moves through discovery, and its losses and commands are handled by their class. -/
def Obligations.DriveDiscovery : Prop :=
  -- BAY_PERST_RELEASE
  (∀ (d : Cd) (bay : Fin 8) (s : State), s.cdUp (cdId d) = true ∧ (s.modeNow = 0xB && s.mode.rootsHeld) = false →
    (s.r (cdId d) (.drv .B_STATE_state) bay.val = 1 ∨ s.r (cdId d) (.drv .B_STATE_state) bay.val = 7) ∧ s.discovers = true ∧ s.rb mdId (.bay .B_STATE_pg) (shelfBay (cdId d) bay.val) = true →
    
    ∃ t, exec (.bayPerstRelease d bay) s = .next t ∧
      t.r (cdId d) (.drv .B_STATE_state) bay.val = 2 ∧ t.now = max s.now (s.drive (cdId d) bay.val).deadline) ∧
  -- DRIVE_LINK_UP
  (∀ (d : Cd) (bay : Fin 8) (v w : Nat) (b : Bool) (s : State), s.cdUp (cdId d) = true ∧ (s.modeNow = 0xB && s.mode.rootsHeld) = false →
    s.r (cdId d) (.drv .B_STATE_state) bay.val = 2 ∧ s.discovers = true ∧ v < 8 ∧ w < 4 →
    
    ∃ t, exec (.driveLinkUp d bay v w b) s = .next t ∧
      t.r (cdId d) (.drv .B_STATE_state) bay.val = 3 ∧ t.r (cdId d) (.drv .B_LINK_speed) bay.val = v ∧ t.r (cdId d) (.drv .B_LINK_width) bay.val = w ∧
      (v < 6 → t.r (cdId d) (.drv .EVENTS_link_degraded) = 1)) ∧
  -- DRIVE_LINK_TRAINING_TIMEOUT
  (∀ (d : Cd) (bay : Fin 8) (s : State), s.cdUp (cdId d) = true ∧ (s.modeNow = 0xB && s.mode.rootsHeld) = false →
    s.r (cdId d) (.drv .B_STATE_state) bay.val = 2 → 
    ∃ t, exec (.driveLinkTrainingTimeout d bay) s = .next t ∧
      t.r (cdId d) (.drv .B_STATE_state) bay.val = 9 ∧ t.r (cdId d) (.drv .B_STATE_cause) bay.val = 15 ∧ t.now = max s.now (s.drive (cdId d) bay.val).deadline) ∧
  -- DRIVE_ENUMERATION_COMPLETE
  (∀ (d : Cd) (bay : Fin 8) (ok : Bool) (c : BitVec 8) (s : State), s.cdUp (cdId d) = true ∧ (s.modeNow = 0xB && s.mode.rootsHeld) = false →
    s.r (cdId d) (.drv .B_STATE_state) bay.val = 3 ∧ s.discovers = true →
    
    ∃ t, exec (.driveEnumerationComplete d bay ok c) s = .next t ∧
      t.r (cdId d) (.drv .B_STATE_state) bay.val = (if ok then 4 else 8)) ∧
  -- DRIVE_CONTROLLER_READY
  (∀ (d : Cd) (bay : Fin 8) (f : Bool) (s : State), s.cdUp (cdId d) = true ∧ (s.modeNow = 0xB && s.mode.rootsHeld) = false →
    s.r (cdId d) (.drv .B_STATE_state) bay.val = 4 ∧ s.discovers = true →
    
    ∃ t, exec (.driveControllerReady d bay f) s = .next t ∧
      t.r (cdId d) (.drv .B_STATE_state) bay.val = (if f then 9 else 5)) ∧
  -- DRIVE_READY_TIMEOUT
  (∀ (d : Cd) (bay : Fin 8) (s : State), s.cdUp (cdId d) = true ∧ (s.modeNow = 0xB && s.mode.rootsHeld) = false →
    s.r (cdId d) (.drv .B_STATE_state) bay.val = 4 → 
    ∃ t, exec (.driveReadyTimeout d bay) s = .next t ∧
      t.r (cdId d) (.drv .B_STATE_state) bay.val = 9 ∧ t.now = max s.now (s.drive (cdId d) bay.val).deadline) ∧
  -- DRIVE_IDENTIFY_COMPLETE
  (∀ (d : Cd) (bay : Fin 8) (x : DriveIdent) (s : State), s.cdUp (cdId d) = true ∧ (s.modeNow = 0xB && s.mode.rootsHeld) = false →
    s.r (cdId d) (.drv .B_STATE_state) bay.val = 5 ∧ s.discovers = true →
    
    ∃ t, exec (.driveIdentifyComplete d bay x) s = .next t ∧
      (s.unsuitable x ≠ 0 → t.r (cdId d) (.drv .B_STATE_state) bay.val = 8 ∧ t.r (cdId d) (.drv .B_STATE_cause) bay.val = s.unsuitable x) ∧
      (s.unsuitable x = 0 → t.r (cdId d) (.drv .B_STATE_state) bay.val = 6 ∧ (t.drive (cdId d) bay.val).blocks = x.blocks ∧ t.r (cdId d) (.drv .EVENTS_drive_ready) = 1)) ∧
  -- DRIVE_LINK_LOSS
  (∀ (d : Cd) (bay : Fin 8) (s : State), s.cdUp (cdId d) = true ∧ (s.modeNow = 0xB && s.mode.rootsHeld) = false →
    s.rbit (cdId d) (.drv .STATUS_link_up) bay.val = true ∧ s.r (cdId d) (.drv .B_STATE_state) bay.val = 6 ∧ s.rb mdId (.bay .B_STATE_pg) (shelfBay (cdId d) bay.val) = false →
    
    ∃ t, exec (.driveLinkLoss d bay) s = .next t ∧
      t.r (cdId d) (.drv .B_STATE_state) bay.val = 7 ∧ t.rbit (cdId d) (.drv .STATUS_link_up) bay.val = false) ∧
  -- DOWNSTREAM_PORT_CONTAINMENT
  (∀ (d : Cd) (bay : Fin 8) (s : State), s.cdUp (cdId d) = true ∧ (s.modeNow = 0xB && s.mode.rootsHeld) = false →
    s.rbit (cdId d) (.drv .STATUS_link_up) bay.val = true ∧ s.r (cdId d) (.drv .B_STATE_state) bay.val = 6 ∧ s.rb mdId (.bay .B_STATE_pg) (shelfBay (cdId d) bay.val) = false →
    
    ∃ t, exec (.downstreamPortContainment d bay) s = .next t ∧
      t.r (cdId d) (.drv .B_STATE_state) bay.val = 7 ∧ t.r (cdId d) (.drv .B_LINK_dpc) bay.val = 1)

/-- Drive commands time out and are aborted, health is polled, and bay commands locate, claim and restart. -/
def Obligations.DriveCommandsAndHealth : Prop :=
  -- DRIVE_CONTROLLER_FATAL
  (∀ (d : Cd) (bay : Fin 8) (s : State), s.cdUp (cdId d) = true ∧ (s.modeNow = 0xB && s.mode.rootsHeld) = false →
    s.r (cdId d) (.drv .B_STATE_state) bay.val = 6 ∧ (s.posOfBay (cdId d) bay.val).isSome = true →
    
    ∃ t, exec (.driveControllerFatal d bay) s = .next t ∧
      t.r (cdId d) (.drv .B_ERR_class) bay.val = 4 ∧ t.r (cdId d) (.drv .EVENTS_drive_failed) = 1) ∧
  -- DRIVE_COMMAND_TIMEOUT
  (∀ (d : Cd) (bay : Fin 8) (cid : BitVec 16) (c : DrvCmd) (s : State), s.cdUp (cdId d) = true ∧ (s.modeNow = 0xB && s.mode.rootsHeld) = false →
    s.drvCmd (cdId d) bay.val cid.toNat = some c ∧ c.abortAt = none →
    
    ∃ t, exec (.driveCommandTimeout d bay cid) s = .next t ∧
      t.now = max s.now (c.issued + 1000000 * s.r (cdId d) (.drv .CFG_cmd_timeout_ms)) ∧ OutMsg.driveAbort (cdId d) bay.val c.cid ∈ t.out ∧
      (t.drive (cdId d) bay.val).late = (s.drive (cdId d) bay.val).late ++ [c.cid]) ∧
  -- DRIVE_ABORT_COMPLETE
  (∀ (d : Cd) (bay : Fin 8) (cid : BitVec 16) (c : DrvCmd) (s : State), s.cdUp (cdId d) = true ∧ (s.modeNow = 0xB && s.mode.rootsHeld) = false →
    s.drvCmd (cdId d) bay.val cid.toNat = some c ∧ c.abortAt.isSome = true ∧ c.tries ≤ s.r c.die (.drv .CFG_retries) →
    
    ∃ t, exec (.driveAbortComplete d bay cid) s = .next t ∧
      t.r c.die (.drv .B_ERR_class) c.bay = 3 ∧ t.drv.nextCid = (s.drv.nextCid + 1) % 65536 ∧
      t.drv.cmds.any (fun y => y.cid = s.drv.nextCid && y.tries = c.tries + 1 && y.abortAt.isNone) = true) ∧
  -- DRIVE_ABORT_WAIT_EXPIRY
  (∀ (d : Cd) (bay : Fin 8) (cid : BitVec 16) (c : DrvCmd) (n : Nat) (s : State), s.cdUp (cdId d) = true ∧ (s.modeNow = 0xB && s.mode.rootsHeld) = false →
    s.drvCmd (cdId d) bay.val cid.toNat = some c ∧ c.abortAt = some n ∧ c.tries ≤ s.r c.die (.drv .CFG_retries) →
    
    ∃ t, exec (.driveAbortWaitExpiry d bay cid) s = .next t ∧
      t.now = max s.now (n + 1000000000) ∧ t.drv.nextCid = (s.drv.nextCid + 1) % 65536) ∧
  -- HEALTH_POLL
  (∀ (d : Cd) (bay : Fin 8) (m : Smart) (s : State), s.cdUp (cdId d) = true ∧ (s.modeNow = 0xB && s.mode.rootsHeld) = false →
    s.r (cdId d) (.drv .B_STATE_state) bay.val = 6 ∧ s.discovers = true ∧ s.posOfBay (cdId d) bay.val = none →
    (s.advance ((s.drive (cdId d) bay.val).polledAt + 1000000000 * s.r (cdId d) (.drv .HEALTH_CFG_poll_s))).bgMay (cdId d) 4 = true →
    
    ∃ t, exec (.healthPoll d bay m) s = .next t ∧
      t.r (cdId d) (.drv .B_HEALTH_percent_used) bay.val = m.used.toNat ∧ t.r (cdId d) (.drv .B_HEALTH_critical_warning) bay.val = m.critical.toNat) ∧
  -- DRIVE_ASYNC_EVENT
  (∀ (d : Cd) (bay : Fin 8) (m : Smart) (s : State), s.cdUp (cdId d) = true ∧ (s.modeNow = 0xB && s.mode.rootsHeld) = false →
    s.r (cdId d) (.drv .B_STATE_state) bay.val = 6 ∧ s.discovers = true ∧ s.posOfBay (cdId d) bay.val = none →
    
    ∃ t, exec (.driveAsyncEvent d bay true m) s = .next t ∧
      t.r (cdId d) (.drv .B_HEALTH_percent_used) bay.val = m.used.toNat ∧ (t.drive (cdId d) bay.val).polledAt = s.now) ∧
  -- DRV_LOCATE_ON
  (∀ (d : Cd) (bay : Fin 8) (s : State), s.cdUp (cdId d) = true → 
    ∃ t, exec (.drvLocateOn d bay) s = .next t ∧
      (t.drive (cdId d) bay.val).locate = true ∧
      (s.rb mdId (.bay .B_STATE_driven) (shelfBay (cdId d) bay.val) = true → t.r (cdId d) (.drv .B_STATE_led) bay.val = 3)) ∧
  -- DRV_LOCATE_OFF
  (∀ (d : Cd) (bay : Fin 8) (s : State), s.cdUp (cdId d) = true → 
    ∃ t, exec (.drvLocateOff d bay) s = .next t ∧
      (t.drive (cdId d) bay.val).locate = false) ∧
  -- DRV_CLAIM
  (∀ (q : Req) (d : Cd) (bay : Fin 8) (u : Nat) (s : State), s.cdUp (cdId d) = true ∧ q.secure = true ∧ s.drv.shelf = some u →
    
    ∃ t, exec (.drvClaim q d bay) s = .next t ∧
      (s.r (cdId d) (.drv .B_STATE_state) bay.val = 6 → s.r (cdId d) (.drv .B_STATE_class) bay.val = 5 →
      (t.drive (cdId d) bay.val).sbNext.map (fun x => (x.role, x.ownerId, x.shelf)) = some (2, s.sec.owner.getD 0, u)) ∧
      (s.r (cdId d) (.drv .B_STATE_state) bay.val ≠ 6 → t.drv = s.drv)) ∧
  -- DRV_RESTART_DISCOVERY
  (∀ (q : Req) (d : Cd) (bay : Fin 8) (s : State), s.cdUp (cdId d) = true ∧ q.secure = true → 
    ∃ t, exec (.drvRestartDiscovery q d bay) s = .next t ∧
      t.r (cdId d) (.drv .B_STATE_state) bay.val = (if s.r (cdId d) (.drv .B_STATE_state) bay.val = 8 ∨ s.r (cdId d) (.drv .B_STATE_state) bay.val = 9 then 2 else s.r (cdId d) (.drv .B_STATE_state) bay.val)) ∧
  -- DRV_SNAPSHOT
  (∀ (q : Req) (d : Cd) (s : State), s.cdUp (cdId d) = true → 
    ∃ t, exec (.drvSnapshot q d) s = .next t ∧
      (⟨cdId d, 0x27, q.secure, s.counters (cdId d) 0x27 13 (s.r (cdId d) (.drv .SNAP_CTRL_bay)), s.r (cdId d) (.drv .SNAP_CTRL_bay)⟩ : Snapshot) ∈ t.snaps)

/-- The power warning, the flush engine, channel start and replay act as their rules say. -/
def Obligations.FlushAndReplay : Prop :=
  -- POWER_WARNING_ASSERT
  (∀ (b : Bool) (v : BitVec 16) (s : State), s.rb mdId (.fls .STATUS_warning) = false ∧ b = true ∧ s.rb mdId (.fls .WARN_CFG_psu_enable) = true ∧ modeHasRow s.modeNow 3 = true →
    
    ∃ t, exec (.powerWarningAssert b v) s = .next t ∧
      t.r mdId (.fls .STATUS_warning) = 1 ∧ t.r mdId (.fls .EVENTS_warning) = 1 ∧ t.fls.warnAt = s.now ∧
      (⟨3, 0⟩ : Trig) ∈ t.mode.trigs) ∧
  -- POWER_WARNING_DEASSERT
  (∀ (v : BitVec 16) (s : State), s.r mdId (.fls .WARN_CFG_v12_thr_mv) + 300 ≤ v.toNat →
    
    ∃ t, exec (.powerWarningDeassert v) s = .next t ∧
      t.r mdId (.fls .STATUS_warning) = 0 ∧ t.r mdId (.fls .STATUS_psu_warn) = 0 ∧ t.r mdId (.fls .STATUS_v12_low) = 0 ∧
      (s.rb mdId (.fls .STATUS_warning) = true → s.modeNow = 8 → s.rb mdId (.fls .STATUS_flush_done) = true → (⟨8, 0⟩ : Trig) ∈ t.mode.trigs)) ∧
  -- HOLDUP_DEADLINE_EXPIRY
  (∀ (s : State), s.modeNow = 8 ∧ s.r mdId (.fls .BUDGET_holdup_ms) ≠ 0 →
    
    ∃ t, exec (.holdupDeadlineExpiry) s = .next t ∧
      t.now = max s.now (s.fls.warnAt + 1000000 * s.r mdId (.fls .BUDGET_holdup_ms)) ∧ t.r mdId (.fls .STATUS_deadline) = 1 ∧
      (s.rb mdId (.fls .STATUS_flush_done) = false → t.r mdId (.fls .EVENTS_deadline) = 1)) ∧
  -- FLS_BUDGET_WRITE
  (∀ (q : Req) (a : BitVec 12) (b : BitVec 16) (s : State), q.secure = true ∧ (a.toNat = 0 ∨ (5 ≤ a.toNat ∧ a.toNat ≤ 1000)) ∧ (b.toNat = 0 ∨ (500 ≤ b.toNat ∧ b.toNat ≤ 16000)) →
    
    ∃ t, exec (.flsBudgetWrite q a b) s = .next t ∧
      t.r mdId (.fls .BUDGET_holdup_ms) = a.toNat ∧ t.r mdId (.fls .BUDGET_drive_mbps) = b.toNat) ∧
  -- FLUSH_RECORD_WRITE_COMPLETE
  (∀ (d : Cd) (bay : Fin 8) (r : DrvResult) (s : State), s.cdUp (cdId d) = true ∧ s.modeNow ≠ 0xB → between 1 (s.r (cdId d) (.fls .CH_STATUS_state)) 5 = true ∧ r.ok = false →
    s.drv.results.find? (fun r => r.die = cdId d && r.owner.kind = 12 && (if r.owner.a = 2 then (s.fl (cdId d)).queue.any (fun x => x.recSeq = r.owner.b && x.bay = bay.val) else r.owner.b = bay.val)) = some r →
    
    ∃ t, exec (.flushRecordWriteComplete d bay) s = .next t ∧
      t.r (cdId d) (.fls .EVENTS_member_lost) = 1) ∧
  -- CHANNEL_START
  (∀ (d : Cd) (b : ChannelBand) (s : State), s.cdUp (cdId d) = true ∧ s.modeNow ≠ 0xB → s.modeNow = 3 ∧ s.chanFailed (cdId d) = false ∧ (s.sp (cdId d)).ring = [] ∧ (s.sp (cdId d)).index = [] ∧ b.sets = [] ∧ b.reshapes = [] ∧ s.img.active = none ∧ b.groups = [] →
    
    ∃ t, exec (.channelStart d b) s = .next t ∧
      (t.fl (cdId d)).started = true ∧ (t.fl (cdId d)).replayed = false ∧ (t.fl (cdId d)).hdrs = b.headers ∧
      t.r (cdId d) (.fls .REPLAY_STATUS_source) = 0 ∧ t.r (cdId d) (.fls .REPLAY_STATUS_sets) = 0) ∧
  -- GCM_OPEN_RESULT
  (∀ (d : Cd) (g : BitVec 16) (ok : Bool) (o : Nat × Nat × Nat) (s : State), s.cdUp (cdId d) = true ∧ s.modeNow ≠ 0xB → s.modeNow = 9 ∧ (s.fl (cdId d)).opens.find? (fun o => o.1 = g.toNat) = some o →
    
    ∃ t, exec (.gcmOpenResult d g ok) s = .next t ∧
      (t.fl (cdId d)).opens = (s.fl (cdId d)).opens.filter (fun y => y ≠ o) ∧
      (t.fl (cdId d)).opened = (if ok then (s.fl (cdId d)).opened ++ [(o.2.1, o.2.2)] else (s.fl (cdId d)).opened)) ∧
  -- REPLAY_COMPLETE
  (∀ (d : Cd) (s : State), s.cdUp (cdId d) = true ∧ s.modeNow ≠ 0xB → s.modeNow = 9 ∧ (s.fl (cdId d)).started = true ∧ (s.fl (cdId d)).replayed = false ∧ (s.fl (cdId d)).opens = [] →
    
    ∃ t, exec (.replayComplete d) s = .next t ∧
      (t.fl (cdId d)).replayed = true ∧ (t.fl (cdId d)).sets = [] ∧ t.r (cdId d) (.fls .EVENTS_replay_done) = 1 ∧
      t.r (cdId d) (.fls .REPLAY_STATUS_running) = 0) ∧
  -- FLS_SNAPSHOT
  (∀ (q : Req) (d : DieId) (s : State), s.hasDie d.val = true ∧ d.val ≠ 0 → 
    ∃ t, exec (.flsSnapshot q d) s = .next t ∧
      (⟨d.val, 0x31, q.secure, s.counters d.val 0x31 (if d.val = 7 then 3 else 9), 0⟩ : Snapshot) ∈ t.snaps)

/-- The partner link takes frames in order, repeats, acknowledges, beats and opens its authentication. -/
def Obligations.PartnerFrames : Prop :=
  -- PARTNER_FRAME_RECEIVED
  (∀ (ty sub : BitVec 8) (n a i : Nat) (tag : Bool) (s : State), s.partnerLink = true ∧ s.pair.openPhase = 0 ∧ s.r 0 (.cip .GSLOT_CTR) 2 < i →
    
    ∃ t, exec (.partnerFrameReceived ty n a i true false true tag sub) s = .next t ∧
      (tag = true → n = s.pair.rxSeq + 1 → t.pair.rxSeq = n ∧ t.pair.replay = s.pair.replay.filter (fun f => decide (a < f.1))) ∧
      (tag = false → t.pair.rxSeq = s.pair.rxSeq ∧ t.r 0 (.pair .EVENTS_link_auth_fail) = 1)) ∧
  -- PARTNER_NAK_RECEIVED
  (∀ (a : Nat) (s : State), 
    ∃ t, exec (.partnerNakReceived a) s = .next t ∧
      t.pair.replay = s.pair.replay.filter (fun f => decide (a < f.1)) ∧ t.pair.attempts = s.pair.attempts + 1) ∧
  -- PARTNER_LINK_ACK_SEND
  (∀ (s : State), s.authenticated = true → 
    ∃ t, exec (.partnerLinkAckSend) s = .next t ∧
      t.now = max s.now (s.pair.ackAt + 1000) ∧ OutMsg.partner 0xFE 255 s.pair.rxSeq [] [] ∈ t.out) ∧
  -- HEARTBEAT_SEND
  (∀ (s : State), s.authenticated = true → 
    ∃ t, exec (.heartbeatSend) s = .next t ∧
      t.pair.txSeq = s.pair.txSeq + 1 ∧ t.pair.hbAt = max s.now (s.pair.hbAt + 1000 * s.r mdId (.pair .HB_CFG_hb_interval_us))) ∧
  -- HEARTBEAT_RECEIVED
  (∀ (h : Heartbeat) (s : State), s.authenticated = true ∧ s.modeNow ≠ 4 ∧ s.modeNow ≠ 5 →
    
    ∃ t, exec (.heartbeatReceived h) s = .next t ∧
      t.r mdId (.pair .PARTNER_STATE_mode) = h.mode.toNat ∧ t.r mdId (.pair .PARTNER_STATE_flags) = h.flags.toNat ∧
      t.r mdId (.pair .PARTNER_STATE_failed_channels) = h.failed.toNat ∧ t.pair.hbTx = h.tTx) ∧
  -- PARTNER_LOST
  (∀ (c : Fin 6) (s : State), s.pair.seen = true ∧ (c.val = 3 ∨ c.val = 4) ∧ s.modeNow ≠ 5 →
    
    ∃ t, exec (.partnerLost c) s = .next t ∧
      t.pair.seen = false ∧ t.r mdId (.lat .STATUS_pair_ring) = 0 ∧ t.r 0 (.pair .LINK_STATUS_authenticated) = 0 ∧
      t.r mdId (.pair .EVENTS_partner_lost) = 1) ∧
  -- HELLO_SEND
  (∀ (s : State), (s.modeNow = 4 || s.modeNow = 5 || s.modeNow = 6) = true ∧ s.partnerLink = true ∧ s.authenticated = false →
    
    ∃ t, exec (.helloSend) s = .next t ∧
      t.pair.helloAt = t.now ∧ t.pair.txSeq = s.pair.txSeq + 1 ∧ t.r 0 (.pair .LINK_STATUS_link_state) = 2) ∧
  -- HELLO_RECEIVED
  (∀ (h : Hello) (s : State), s.partnerLink = true ∧ s.paired = true → 
    ∃ t, exec (.helloReceived h) s = .next t ∧
      t.pair.hello = some h ∧ t.pair.txSeq = s.pair.txSeq + 1 ∧ t.r mdId (.pair .PARTNER_FW_release) = h.fw % 2 ^ 32) ∧
  -- AUTHENTICATION_RECEIVED
  (∀ (a b c r : Bool) (n : Nat) (s : State), s.pair.hello.isNone = false ∧ s.partnerLink = true ∧ s.paired = true ∧ s.modeNow = 4 →
    
    ∃ t, exec (.authenticationReceived a b c n r) s = .next t ∧
      ((a && b && c) = true → t.pair.seen = true ∧ t.pair.secret = n ∧ t.r 0 (.pair .LINK_STATUS_authenticated) = 1 ∧ t.r mdId (.lat .STATUS_pair_ring) = 1) ∧
      ((a && b && c) = false → t.pair.seen = false ∧ t.pair.paired = false ∧ t.r mdId (.pair .STATUS_reason) = 6)) ∧
  -- KEY_REPORT_RECEIVED
  (∀ (k : BitVec 64) (s : State), s.authenticated = true → 
    ∃ t, exec (.keyReportReceived k) s = .next t ∧
      t.pair.partnerKey = some k.toNat) ∧
  -- ACQUISITION_STATE_RECEIVED
  (∀ (a : Fin 4) (s : State), s.authenticated = true → 
    ∃ t, exec (.acquisitionStateReceived a) s = .next t ∧
      t.pair.acqState = a.val)

/-- The link changes its keys, and the Standby takes replicated frames, carried data, table events and the seed. -/
def Obligations.RekeyAndMirrorIn : Prop :=
  -- REKEY_PHASE_START
  (∀ (s : State), s.authenticated = true ∧ s.pair.rekey = false → 
    ∃ t, exec (.rekeyPhaseStart) s = .next t ∧
      t.pair.rekey = true ∧ t.pair.sealPhase = s.pair.sealPhase ∧ (t.keySlot 0 0x10001).key = s.linkKey s.role (s.pair.sealPhase + 1)) ∧
  -- REKEY_ANNOUNCE_RECEIVED
  (∀ (p : Nat) (s : State), s.authenticated = true ∧ p = s.pair.openPhase + 1 → 
    ∃ t, exec (.rekeyAnnounceReceived p) s = .next t ∧
      (t.keySlot 0 0x10003).key = s.linkKey (if s.role = 1 then 2 else 1) p ∧ t.pair.txSeq = s.pair.txSeq + 1) ∧
  -- REKEY_ACK_RECEIVED
  (∀ (p : Nat) (s : State), s.authenticated = true ∧ s.pair.rekey = true ∧ p = s.pair.sealPhase + 1 →
    
    ∃ t, exec (.rekeyAckReceived p) s = .next t ∧
      t.pair.sealPhase = p ∧ t.pair.rekey = false ∧ t.r 0 (.pair .EVENTS_rekey) = 1 ∧
      (t.keySlot 0 0x10000).key = (s.keySlot 0 0x10001).key) ∧
  -- REPLICATED_FRAME_RECEIVED
  (∀ (d : Cd) (p : RdmaPkt) (s : State), s.cdUp (cdId d) = true ∧ s.modeNow ≠ 0xB → s.modeNow = 6 ∧ (s.conn (cdId d) (connIdx p.qp)).state = 5 ∧ (s.conn (cdId d) (connIdx p.qp)).gen = connGen p.qp ∧ p.icrcOk = true ∧ p.errMark = false →
    (s.conn (cdId d) (connIdx p.qp)).f.flags.testBit 0 = false ∧ (s.conn (cdId d) (connIdx p.qp)).msg = none ∧ (s.conn (cdId d) (connIdx p.qp)).credits ≠ 0 →
    p.opcode = 4 ∧ p.psn = (s.conn (cdId d) (connIdx p.qp)).epsn ∧ p.psn < 2 ^ 24 →
    
    ∃ t, exec (.replicatedFrameReceived d p) s = .next t ∧
      (t.conn (cdId d) (connIdx p.qp)).state = 5 ∧ (t.conn (cdId d) (connIdx p.qp)).epsn = (p.psn + 1) % 2 ^ 24 ∧ t.out = s.out) ∧
  -- CARRIED_DATA_RECEIVED
  (∀ (d : Cd) (n f : Nat) (b : Block) (s : State), s.cdUp (cdId d) = true ∧ s.modeNow ≠ 0xB → s.modeNow = 6 ∧ (s.sp (cdId d)).incoming.find? (fun m => m.c.seq = n && !m.located) = none →
    
    ∃ t, exec (.carriedDataReceived d n f [b]) s = .next t ∧
      alGet t.pair.carried (cdId d, n) = some ((alGet s.pair.carried (cdId d, n)).getD [] ++ [(f, b)])) ∧
  -- TABLE_EVENT_RECEIVED
  (∀ (d : Cd) (n : Nat) (c : BitVec 24) (f : ConnF) (i : Fin 65536) (g : RegionF) (s : State), s.cdUp (cdId d) = true ∧ s.modeNow ≠ 0xB → s.modeNow = 6 ∧ n = ((alGet s.pair.tableSeq (cdId d)).getD 0) + 1 ∧ n < 2 ^ 32 →
    
    ∃ t, exec (.tableEventReceived d n 1 c f i g) s = .next t ∧
      (t.conn (cdId d) (connIdx c.toNat)).state = 5 ∧ (t.conn (cdId d) (connIdx c.toNat)).f = f ∧
      t.r (cdId d) (.pair .TABLE_ACK) = n ∧ alGet t.pair.tableSeq (cdId d) = some n) ∧
  -- SEED_FRAME_RECEIVED
  (∀ (d : Cd) (c : Crumb) (s : State), s.cdUp (cdId d) = true ∧ s.modeNow ≠ 0xB → s.modeNow = 4 ∧ s.pair.seeded = true ∧ c.kind = 4 → 
    ∃ t, exec (.seedFrameReceived d [] [c]) s = .next t ∧
      (t.sp (cdId d)).ring = (s.sp (cdId d)).ring ++ [{ c := c, writtenAt := s.now }] ∧ (t.sp (cdId d)).ackSent = max (s.sp (cdId d)).ackSent c.seq) ∧
  -- PRALINE_TRANSFER_RECEIVED
  (∀ (u v : Nat) (l : List ((Nat × Nat) × Nat)) (s : State), s.modeNow = 4 ∧ s.pair.seeded = true → 
    ∃ t, exec (.pralineTransferReceived u v l) s = .next t ∧
      (s.drv.shelf = some u → t.cip.mediaRoot = some v ∧ t.cip.gens = l) ∧ (s.drv.shelf ≠ some u → t = s)) ∧
  -- RESEED_COMPLETE
  (∀ (s : State), s.modeNow = 4 ∧ s.pair.seeded = true ∧ s.pair.paired = true →
    (s.cds.filter (fun c => s.cdUp (cdId c))).all (fun c => (s.sp (cdId c)).incoming.isEmpty && decide ((s.sp (cdId c)).ackSent ≤ s.r (cdId c) (.spg .MIRROR_ACK))) = true →
    
    ∃ t, exec (.reseedComplete) s = .next t ∧
      t.pair.seeded = false ∧ t.r mdId (.pair .STATUS_seeding) = 0 ∧ (⟨8, 0⟩ : Trig) ∈ t.mode.trigs)

/-- Leases are renewed, evaluated and lost, and the interlock claim is granted, contended and retried. -/
def Obligations.LeasesAndClaim : Prop :=
  -- LEASE_RENEWAL_TICK
  (∀ (s : State), s.pair.tickDue = true ∧ s.renews = true → 
    ∃ t, exec (.leaseRenewalTick) s = .next t ∧
      t.pair.kicked = false ∧ t.pair.tickDue = false ∧
      (s.pair.kicked = false → t.r mdId (.pair .EVENTS_kick_missed) = 1)) ∧
  -- LEASE_KICK
  (∀ (q : Req) (s : State), q.secure = true → 
    ∃ t, exec (.leaseKick q) s = .next t ∧
      t.pair = { s.pair with kicked := true }) ∧
  -- LEASE_ACQUISITION_WRITE
  (∀ (d : Cd) (bay : Fin 8) (s : State), (s.leaseDrives.contains (cdId d, bay.val) && s.mayAcquire && !(s.lease (cdId d) bay.val).acquired && (s.lease (cdId d) bay.val).flights.isEmpty && (s.lease (cdId d) bay.val).read && (s.lease (cdId d) bay.val).free) = true →
    
    ∃ t, exec (.leaseAcquisitionWrite d bay) s = .next t ∧
      (t.lease (cdId d) bay.val).flights = [((s.lease (cdId d) bay.val).seq + 1, s.ts64 mdId + s.leaseNs, false)] ∧
      (t.lease (cdId d) bay.val).seq = (s.lease (cdId d) bay.val).seq + 1) ∧
  -- LEASE_SLOT_WRITE_COMPLETE
  (∀ (d : Cd) (bay : Fin 8) (n e : Nat) (f : Bool) (l : List (Nat × Nat × Bool)) (r : DrvResult) (s : State), (s.lease (cdId d) bay.val).flights = (n, e, f) :: l ∧ (s.drvResults (cdId d) { kind := 10, a := 0, b := n }).head? = some r ∧ r.gated = false →
    
    ∃ t, exec (.leaseSlotWriteComplete d bay) s = .next t ∧
      (r.ok = true → (t.lease (cdId d) bay.val).x = some e ∧ (t.lease (cdId d) bay.val).acquired = !f) ∧
      (r.ok = false → (t.lease (cdId d) bay.val).x = (s.lease (cdId d) bay.val).x ∧ (t.lease (cdId d) bay.val).flights = l)) ∧
  -- LEASE_EVALUATE
  (∀ (s : State), 
    ∃ t, exec (.leaseEvaluate) s = .next t ∧
      t.r mdId (.pair .LEASE_COUNT_present) = s.presentDrives % 2 ^ 8 ∧
      t.rb mdId (.pair .STATUS_majority) = (decide (s.presentDrives ≠ 0) && decide (s.strictMajority ≤ (s.leaseDrives.filter (fun e => s.holds e.1 e.2)).length))) ∧
  -- HARDWARE_LEASE_TIMER_FIRE
  (∀ (s : State), s.rb mdId (.pair .STATUS_claim_granted) = true ∧ s.modeNow = 5 →
    (s.reachTs mdId (s.r mdId (.pair .DROP))).leaseEval.r mdId (.pair .DROP) ≤ (s.reachTs mdId (s.r mdId (.pair .DROP))).leaseEval.ts64 mdId →
    
    ∃ t, exec (.hardwareLeaseTimerFire) s = .next t ∧
      t.r mdId (.pair .STATUS_claim_granted) = 0 ∧ t.r mdId (.pair .EVENTS_claim_lost) = 1 ∧ (⟨7, 0⟩ : Trig) ∈ t.mode.trigs) ∧
  -- PARTNER_SLOT_READ
  (∀ (d b : Nat) (s : State), (!(between 3 s.modeNow 0xA) || s.modeNow = 8) = false ∧ s.leaseDrives = [(d, b)] →
    
    ∃ t, exec (.partnerSlotRead) s = .next t ∧
      t.drv.cmds.any (fun c => c.die = d && c.bay = b && c.op = 0 && c.lba = s.otherSlot && c.owner.kind = 10) = true) ∧
  -- PARTNER_SLOT_READ_COMPLETE
  (∀ (d : Cd) (bay : Fin 8) (r : DrvResult) (s : State), s.drvQuiet (cdId d) { kind := 10, a := 1, b := bay.val } = true ∧ s.drvQuiet (cdId d) { kind := 10, a := 2, b := bay.val } = true →
    (s.drvResults (cdId d) { kind := 10, a := 1, b := bay.val }).getLast? = some r ∧ r.ok = false →
    
    ∃ t, exec (.partnerSlotReadComplete d bay) s = .next t ∧
      (t.lease (cdId d) bay.val).y = none ∧ (t.lease (cdId d) bay.val).x = (s.lease (cdId d) bay.val).x) ∧
  -- INTERLOCK_CLAIM_WINDOW_END
  (∀ (n : Nat) (s : State), s.pair.claimAt = some n ∧ s.rb mdId (.pair .STATUS_claim_granted) = false ∧ s.modeNow = 5 →
    
    ∃ t, exec (.interlockClaimWindowEnd) s = .next t ∧
      t.r mdId (.pair .STATUS_claim_granted) = 1 ∧ t.now = max s.now (n + 10000) ∧ t.pair.retries = 0) ∧
  -- INTERLOCK_IN_ASSERT
  (∀ (b : Bool) (s : State), s.pair.claimAt.isSome = true ∧ s.rb mdId (.pair .STATUS_claim_granted) = false ∧ s.modeNow ≠ 0xB ∧ s.pair.retries < 8 →
    
    ∃ t, exec (.interlockInAssert b) s = .next t ∧
      t.rb mdId (.pair .STATUS_peer_claim) = b ∧
      (b = true → t.pair.claimAt = none ∧ t.pair.retries = s.pair.retries + 1 ∧ t.pair.retryAt = some (s.now + if s.role = 2 then 500000 else 50000))) ∧
  -- INTERLOCK_CLAIM_RETRY
  (∀ (n : Nat) (s : State), s.pair.retryAt = some n ∧ s.rb mdId (.pair .STATUS_majority) = true ∧ s.modeNow = 4 ∧ s.pair.claimAt = none ∧ s.pair.exhausted = false →
    
    ∃ t, exec (.interlockClaimRetry) s = .next t ∧
      t.pair.retryAt = none ∧ t.now = max s.now n ∧ t.pair.claimAt = some t.now) ∧
  -- RESERVATION_FENCING_COMPLETE
  (∀ (d : Cd) (bay : Fin 8) (k : List (BitVec 64)) (v : Bool) (r : DrvResult) (s : State), s.pair.fencing.contains (cdId d, bay.val) = true ∧ s.drvQuiet (cdId d) { kind := 18, a := 0, b := bay.val } = true ∧ s.drvQuiet (cdId d) { kind := 18, a := 1, b := bay.val } = true →
    s.drvResults (cdId d) { kind := 18, a := 0, b := bay.val } = [] ∧ s.drvResults (cdId d) { kind := 18, a := 1, b := bay.val } = [r] →
    
    ∃ t, exec (.reservationFencingComplete d bay k v) s = .next t ∧
      (r.ok = true → t.pair.fenced = s.pair.fenced ++ [(cdId d, bay.val)]) ∧
      (r.ok = false → t.pair.fenced = s.pair.fenced ∧ t.pair.fenceFailed = s.pair.fenceFailed ++ [(cdId d, bay.val)]))

/-- Handover, partner loss and takeover move through their steps. -/
def Obligations.HandoverAndLoss : Prop :=
  -- PAIR_CMD_CLEAR_STALE
  (∀ (q : Req) (s : State), q.secure = true → 
    ∃ t, exec (.pairCmdClearStale q) s = .next t ∧
      t.rb mdId (.pair .STATUS_stale) = false) ∧
  -- PAIR_CMD_HANDOVER
  (∀ (q : Req) (s : State), q.secure = true → 
    ∃ t, exec (.pairCmdHandover q) s = .next t ∧
      (s.handoverOk = true → t.pair.ho = 1 ∧ t.pair.hoAt = s.now ∧ t.pair.hoMaint = false) ∧ (s.handoverOk = false → t.pair = s.pair)) ∧
  -- PAIR_CMD_CANCEL_HANDOVER
  (∀ (q : Req) (s : State), q.secure = true → 
    ∃ t, exec (.pairCmdCancelHandover q) s = .next t ∧
      t.pair.ho = (if s.pair.ho = 1 ∨ s.pair.ho = 2 then 0 else s.pair.ho)) ∧
  -- PARTNER_LOSS_H0
  (∀ (s : State), s.pair.lossStage = 1 ∧ s.modeNow = 5 → 
    ∃ t, exec (.partnerLossH0) s = .next t ∧
      t.pair.lossStage = 2 ∧ t.pair.renewed = [] ∧ t.now = (s.reachTs mdId s.pair.h0).now) ∧
  -- PARTNER_LOSS_UNMIRROR
  (∀ (s : State), s.pair.lossStage = 3 ∧ s.modeNow = 5 → 
    ∃ t, exec (.partnerLossUnmirror) s = .next t ∧
      t.r mdId (.pair .STATUS_mirror) = 2 ∧ t.pair.lossStage = 0) ∧
  -- TAKEOVER_MAJORITY_TIMEOUT
  (∀ (s : State), s.modeNow = 7 → 
    ∃ t, exec (.takeoverMajorityTimeout) s = .next t ∧
      t.now = max s.now (s.mode.entered + s.leaseNs) ∧
      (s.rb mdId (.pair .STATUS_claim_granted) = false → (⟨0xB, 0⟩ : Trig) ∈ t.mode.trigs)) ∧
  -- HANDOVER_REQUEST_RECEIVED
  (∀ (s : State), s.modeNow = 6 ∧ s.authenticated = true ∧ s.rb mdId (.pair .STATUS_stale) = false ∧ s.rb mdId (.pair .STATUS_seeding) = false →
    
    ∃ t, exec (.handoverRequestReceived) s = .next t ∧
      t.pair.txSeq = s.pair.txSeq + 1 ∧ OutMsg.partner 8 255 (s.pair.txSeq + 1) [7] [] ∈ t.out) ∧
  -- HANDOVER_ACCEPT_RECEIVED
  (∀ (s : State), s.modeNow = 5 ∧ s.pair.ho = 1 → 
    ∃ t, exec (.handoverAcceptReceived) s = .next t ∧
      t.pair.ho = 2 ∧ t.pair.hoAt = s.now ∧ t.rdx.conns.all (fun e => e.2.state ≠ 2 || e.2.credits = 0) = true) ∧
  -- HANDOVER_ANSWER_TIMEOUT
  (∀ (s : State), s.pair.ho = 1 ∧ s.pair.hoMaint = false → 
    ∃ t, exec (.handoverAnswerTimeout) s = .next t ∧
      t.pair.ho = 0 ∧ t.r mdId (.pair .EVENTS_handover_refused) = 1 ∧ t.now = max s.now (s.pair.hoAt + 10000000)) ∧
  -- HANDOVER_QUIESCED
  (∀ (s : State), s.modeNow = 5 ∧ s.pair.ho = 2 ∧ (s.cds.map cdId).filter s.cdUp = [] →
    
    ∃ t, exec (.handoverQuiesced) s = .next t ∧
      t.pair.ho = 3 ∧ t.mode.withdrawn = true ∧ t.dataPresence = false) ∧
  -- HANDOVER_GO_RECEIVED
  (∀ (s : State), s.modeNow = 6 ∧ s.authenticated = true → 
    ∃ t, exec (.handoverGoReceived) s = .next t ∧
      t.pair.ho = 4 ∧ (⟨0xC, 0⟩ : Trig) ∈ t.mode.trigs) ∧
  -- HANDOVER_DONE_RECEIVED
  (∀ (s : State), s.modeNow = 5 ∧ s.pair.ho = 3 → 
    ∃ t, exec (.handoverDoneReceived) s = .next t ∧
      t.pair.ho = 0 ∧ (⟨0xD, 0⟩ : Trig) ∈ t.mode.trigs) ∧
  -- PAIR_SNAPSHOT
  (∀ (q : Req) (d : DieId) (s : State), s.hasDie d.val = true → 
    ∃ t, exec (.pairSnapshot q d) s = .next t ∧
      (⟨d.val, 0x30, q.secure, s.counters d.val 0x30 (if d.val = 7 then 10 else if d.val = 0 then 8 else 5), 0⟩ : Snapshot) ∈ t.snaps)

/-- Gates pass between the packages: offers are armed, holds released, levels taken, and a gate that is held no more is
taken. -/
def Obligations.GateTransfers : Prop :=
  -- GATE_OFFER_RECEIVED
  (∀ (mask : BitVec 48) (s : State), s.authenticated = true ∧ s.bayRuns = true → 
    ∃ t, exec (.gateOfferReceived mask) s = .next t ∧
      t.pair.gateOffers = s.bays.filter (fun n => mask.toNat.testBit n && !s.bayDriven n) ∧ t.pair.txSeq = s.pair.txSeq + 1) ∧
  -- GATE_RELEASE_HOLD_EXPIRY
  (∀ (n t0 : Nat) (rest : List (Nat × Nat)) (s : State), s.pair.gateHeld = (n, t0) :: rest ∧ s.modeNow ≠ 0xB →
    
    ∃ t, exec (.gateReleaseHoldExpiry) s = .next t ∧
      t.bayDriven n = false ∧ OutMsg.gate n 2 (s.r mdId (.bay .B_GATE_vgate_mv) n) ∈ t.out ∧
      t.pair.gateHeld = rest.map (fun e => (e.1, max s.now t0 + 10000)) ∧ t.pair.txSeq = s.pair.txSeq + 1) ∧
  -- GATE_RELEASED_RECEIVED
  (∀ (bay : Fin 48) (l v : BitVec 16) (c : BitVec 4) (x : BitVec 16) (s : State), s.bayRuns = true ∧ bay.val < 8 * s.channels ∧ s.bay.offering = false →
    s.pair.gateOffers.contains bay.val = true ∧ s.bayDriven bay.val = false →
    
    ∃ t, exec (.gateReleasedReceived bay l v c x) s = .next t ∧
      t.bayDriven bay.val = true ∧ t.r mdId (.bay .B_STATE_owned) bay.val = 1 ∧
      t.pair.gateOffers = s.pair.gateOffers.filter (· ≠ bay.val) ∧ OutMsg.gate bay.val 3 l.toNat ∈ t.out) ∧
  -- GATE_TAKEN_RECEIVED
  (∀ (mask : BitVec 48) (bay : Fin 48) (s : State), s.bayRuns = true ∧ bay.val < 8 * s.channels ∧ s.bay.offering = false →
    mask.toNat.testBit bay.val = true ∧ s.bayDriven bay.val = false ∧ s.r mdId (.bay .B_STATE_owned) bay.val = 1 ∧ s.r mdId (.bay .B_STATE_seated) bay.val = 1 →
    
    ∃ t, exec (.gateTakenReceived mask) s = .next t ∧
      (t.baySt bay.val) = 0xA ∧ t.r mdId (.bay .B_STATE_owned) bay.val = 0 ∧ t.r mdId (.bay .B_STATE_epw) bay.val = 0) ∧
  -- GATE_WATCH_SAMPLE
  (∀ (held : BitVec 48) (bay : Fin 48) (s : State), s.bayRuns = true ∧ bay.val < 8 * s.channels ∧ s.bay.offering = false →
    s.modeNow ≠ 0xB ∧ s.bayDriven bay.val = false ∧ s.r mdId (.bay .B_STATE_held_sense) bay.val = 1 →
    
    ∃ t, exec (.gateWatchSample held) s = .next t ∧
      (held.toNat.testBit bay.val = false → t.bayDriven bay.val = true ∧ t.r mdId (.bay .B_STATE_owned) bay.val = 1) ∧
      (held.toNat.testBit bay.val = true → t.bayDriven bay.val = false ∧ t.r mdId (.bay .B_STATE_held_sense) bay.val = 1)) ∧
  -- GATE_GUARD_DISCHARGE
  (∀ (bay : Fin 48) (v o : BitVec 16) (l : Nat) (s : State), (s.bayR bay.val).guard_ = some l → 
    ∃ t, exec (.gateGuardDischarge bay v o) s = .next t ∧
      (v.toNat < o.toNat + 2000 → (t.bayR bay.val).guard_ = none ∧ t.out = s.out) ∧
      (o.toNat + 2000 ≤ v.toNat → v.toNat + 300 < l → (t.bayR bay.val).guard_ = none ∧ OutMsg.gate bay.val 1 v.toNat ∈ t.out) ∧
      (o.toNat + 2000 ≤ v.toNat → l ≤ v.toNat + 300 → t = s))

/-- A bay is seated, ramps, is power-good, and is commanded on and off. -/
def Obligations.BayPowerStates : Prop :=
  -- SIDEBAND_SCAN
  (∀ (m : Bool) (a b p : BitVec 48) (bay : Fin 48) (s : State), s.bayRuns = true ∧ bay.val < 8 * s.channels → 
    ∃ t, exec (.sidebandScan m a b p) s = .next t ∧
      (m = false → t.bay.chainBad = s.bay.chainBad + 1 ∧ t.bay.chainGood = 0) ∧
      (m = false → s.bay.chainBad = 2 → t.r mdId (.bay .STATUS_chain_ok) = 0 ∧ t.r mdId (.bay .EVENTS_chain_fault) = 1) ∧
      (m = true → t.bay.chainBad = 0 ∧ t.bay.chainGood = s.bay.chainGood + 1 ∧ t.rb mdId (.bay .B_STATE_present) bay.val = p.toNat.testBit bay.val)) ∧
  -- SEAT_DEBOUNCE_EXPIRY
  (∀ (bay : Fin 48) (s : State), s.bayRuns = true ∧ bay.val < 8 * s.channels ∧ s.bay.offering = false →
    s.modeNow ≠ 0xB ∧ (s.bayR bay.val).contact = true ∧ (s.bayR bay.val).latched = false ∧ (s.bayR bay.val).timer = none ∧ s.r mdId (.bay .B_STATE_seated) bay.val = 0 ∧ s.r mdId (.bay .B_STATE_held_sense) bay.val = 0 →
    
    ∃ t, exec (.seatDebounceExpiry bay) s = .next t ∧
      t.r mdId (.bay .B_STATE_seated) bay.val = 1 ∧ (t.baySt bay.val) = 3 ∧ t.r mdId (.bay .EVENTS_seat_change) = 1 ∧
      t.now = max s.now ((s.bayR bay.val).contactAt + 1000000 * s.r mdId (.bay .CFG_SEAT_seat_deb_ms))) ∧
  -- BAY_RAMP_START
  (∀ (bay : Fin 48) (s : State), s.bayRuns = true ∧ bay.val < 8 * s.channels ∧ s.bay.offering = false →
    s.bayHeld = false ∧ s.bayCount (fun n => s.baySt n = 4) < s.r mdId (.bay .CFG_SENSE_stagger_max) ∧ s.bays.find? s.bayMay = some bay.val →
    (2000 ≤ s.r mdId (.bay .B_MEAS_vout_mv) bay.val && (s.bayR bay.val).pre.isNone) = false →
    
    ∃ t, exec (.bayRampStart bay) s = .next t ∧
      (t.baySt bay.val) = 4 ∧ t.r mdId (.bay .B_STATE_epw) bay.val = 0 ∧ (t.bayR bay.val).rampAt = s.now ∧ OutMsg.gate bay.val 4 0 ∈ t.out) ∧
  -- BAY_LOOP_STEP
  (∀ (bay : Fin 48) (i o v r : BitVec 16) (s : State), s.bayRuns = true ∧ bay.val < 8 * s.channels ∧ s.bay.offering = false →
    s.bayDriven bay.val = true ∧ ((s.baySt bay.val) = 4 ∨ (s.baySt bay.val) = 5 ∨ (s.baySt bay.val) = 6) →
    
    ∃ t, exec (.bayLoopStep bay i o v r) s = .next t ∧
      t.r mdId (.bay .B_MEAS_i_ma) bay.val = i.toNat ∧ t.r mdId (.bay .B_MEAS_vout_mv) bay.val = o.toNat ∧ t.r mdId (.bay .B_GATE_vgate_mv) bay.val = v.toNat ∧
      (t.bayR bay.val).iAllow = s.iAllow r.toNat o.toNat ∧ (s.iAllow r.toNat o.toNat < i.toNat → (t.bayR bay.val).drive = 1)) ∧
  -- BAY_POWER_GOOD
  (∀ (bay : Fin 48) (s : State), s.bayRuns = true ∧ bay.val < 8 * s.channels ∧ s.bay.offering = false →
    s.r mdId (.bay .B_STATE_seated) bay.val = 1 ∧ s.r mdId (.bay .B_STATE_pg) bay.val = 0 →
    
    ∃ t, exec (.bayPowerGood bay) s = .next t ∧
      t.r mdId (.bay .B_STATE_pg) bay.val = 1 ∧ (t.baySt bay.val) = (if (s.baySt bay.val) = 4 then 5 else (s.baySt bay.val))) ∧
  -- BAY_POWER_GOOD_LOSS
  (∀ (bay : Fin 48) (s : State), s.bayRuns = true ∧ bay.val < 8 * s.channels ∧ s.bay.offering = false →
    s.r mdId (.bay .B_STATE_pg) bay.val = 1 → 
    ∃ t, exec (.bayPowerGoodLoss bay) s = .next t ∧
      t.r mdId (.bay .B_STATE_pg) bay.val = 0 ∧ (t.baySt bay.val) = (s.baySt bay.val)) ∧
  -- BAY_CMD_ON
  (∀ (q : Req) (bay : BitVec 6) (s : State), s.bayRuns = true ∧ bay.toNat < 8 * s.channels ∧ s.bay.offering = false →
    s.bayMine bay.toNat = true ∧ (s.baySt bay.toNat = 2 ∨ s.baySt bay.toNat = 8) →
    
    ∃ t, exec (.bayCmdOn q bay) s = .next t ∧
      (q.secure = true → t.baySt bay.toNat = 3 ∧ (t.bayR bay.toNat).timer = none ∧ (t.bayR bay.toNat).n = (s.bayR bay.toNat).n ∧ t.r mdId (.bay .B_STATE_cmd_off) bay.toNat = 0) ∧
      (q.secure = false → t.baySt bay.toNat = s.baySt bay.toNat ∧ t.r mdId (.sec .EVENTS_world_violation) = 1)) ∧
  -- BAY_CMD_OFF
  (∀ (q : Req) (bay : BitVec 6) (s : State), s.bayRuns = true ∧ bay.toNat < 8 * s.channels ∧ s.bay.offering = false →
    q.secure = true ∧ (s.baySt bay.toNat = 5 ∨ s.baySt bay.toNat = 6) →
    
    ∃ t, exec (.bayCmdOff q bay) s = .next t ∧
      (s.bayMine bay.toNat = true → t.baySt bay.toNat = 7 ∧ t.r mdId (.bay .B_STATE_epw) bay.toNat = 1 ∧ t.r mdId (.bay .B_STATE_cmd_off) bay.toNat = 1) ∧
      (s.bayMine bay.toNat = false → t.baySt bay.toNat = s.baySt bay.toNat)) ∧
  -- BAY_EPW_LEAD_EXPIRY
  (∀ (bay : Fin 48) (s : State), s.bayRuns = true ∧ bay.val < 8 * s.channels ∧ s.bay.offering = false →
    (s.baySt bay.val) = 7 → 
    ∃ t, exec (.bayEpwLeadExpiry bay) s = .next t ∧
      (t.baySt bay.val) = 2 ∧ OutMsg.gate bay.val 1 0 ∈ t.out ∧ t.r mdId (.bay .B_STATE_epw) bay.val = s.r mdId (.bay .B_STATE_epw) bay.val) ∧
  -- VGD_LOW
  (∀ (s : State), s.bayRuns = true ∧ s.r mdId (.bay .STATUS_vgd_ok) = 1 →
    
    ∃ t, exec (.vgdLow) s = .next t ∧
      t.r mdId (.bay .STATUS_vgd_ok) = 0 ∧ t.r mdId (.bay .EVENTS_vgd_low) = 1) ∧
  -- VGD_OK_RESTORED
  (∀ (s : State), s.bayRuns = true → 
    ∃ t, exec (.vgdOkRestored) s = .next t ∧
      t.r mdId (.bay .STATUS_vgd_ok) = 1) ∧
  -- BAY_SNAPSHOT
  (∀ (q : Req) (s : State), 
    ∃ t, exec (.baySnapshot q) s = .next t ∧
      (⟨mdId, 0x32, q.secure, s.counters mdId 0x32 9 (s.r mdId (.bay .SNAP_CTRL_bay)), s.r mdId (.bay .SNAP_CTRL_bay)⟩ : Snapshot) ∈ t.snaps)

/-- Bay faults: their causes, the count, Backoff or Latched, and how a bay leaves them. -/
def Obligations.BayFaults : Prop :=
  -- BAY_FAST_TRIP
  (∀ (bay : Fin 48) (s : State), s.bayRuns = true ∧ bay.val < 8 * s.channels ∧ s.bay.offering = false →
    s.bayLive bay.val = true → 
    ∃ t, exec (.bayFastTrip bay) s = .next t ∧
      t.r mdId (.bay .B_FAULT_cause) bay.val = (if (s.baySt bay.val) = 4 then 3 else 2) ∧ OutMsg.gate bay.val 0 0 ∈ t.out ∧
      (t.bayR bay.val).n = (s.bayR bay.val).n + 1 ∧ (t.baySt bay.val) = (if s.r mdId (.bay .CFG_RETRY_retries_max) < (s.bayR bay.val).n + 1 then 9 else 8)) ∧
  -- BAY_SHORT_AT_START
  (∀ (bay : Fin 48) (s : State), s.bayRuns = true ∧ bay.val < 8 * s.channels ∧ s.bay.offering = false →
    (s.baySt bay.val) = 4 → 
    ∃ t, exec (.bayShortAtStart bay) s = .next t ∧
      t.r mdId (.bay .B_FAULT_cause) bay.val = 3 ∧ OutMsg.gate bay.val 0 0 ∈ t.out ∧
      (t.baySt bay.val) = (if s.r mdId (.bay .CFG_RETRY_retries_max) < (s.bayR bay.val).n + 1 then 9 else 8)) ∧
  -- BAY_GATE_NOT_RISING
  (∀ (bay : Fin 48) (s : State), s.bayRuns = true ∧ bay.val < 8 * s.channels ∧ s.bay.offering = false →
    
    ∃ t, exec (.bayGateNotRising bay) s = .next t ∧
      (((s.baySt bay.val) = 4 ∨ (s.baySt bay.val) = 5 ∨ (s.baySt bay.val) = 6) → t.r mdId (.bay .B_FAULT_cause) bay.val = 6 ∧ OutMsg.gate bay.val 1 0 ∈ t.out) ∧
      (¬ ((s.baySt bay.val) = 4 ∨ (s.baySt bay.val) = 5 ∨ (s.baySt bay.val) = 6) → t = s)) ∧
  -- BAY_RAMP_TIMEOUT
  (∀ (bay : Fin 48) (s : State), s.bayRuns = true ∧ bay.val < 8 * s.channels ∧ s.bay.offering = false →
    (s.baySt bay.val) = 4 → 
    ∃ t, exec (.bayRampTimeout bay) s = .next t ∧
      t.r mdId (.bay .B_FAULT_cause) bay.val = 7 ∧ t.now = max s.now ((s.bayR bay.val).rampAt + 1000000 * s.r mdId (.bay .CFG_RAMP_ramp_limit_ms)) ∧
      (t.baySt bay.val) = (if s.r mdId (.bay .CFG_RETRY_retries_max) < (s.bayR bay.val).n + 1 then 9 else 8)) ∧
  -- FET_THERMAL_UPDATE
  (∀ (bay : Fin 48) (s : State), s.bayRuns = true ∧ bay.val < 8 * s.channels ∧ s.bay.offering = false →
    s.bayLive bay.val = true ∧ s.r mdId (.bay .CFG_THERM_mode) = 0 ∧ s.r mdId (.bay .B_MEAS_i_ma) bay.val = 0 ∧ (s.bayR bay.val).d = 0 →
    
    ∃ t, exec (.fetThermalUpdate bay) s = .next t ∧
      t.r mdId (.bay .B_THERM_t_est_c) bay.val = min 255 (s.r mdId (.bay .CFG_THERM2_ambient_c)) ∧ (t.bayR bay.val).d = 0 ∧
      (s.r mdId (.bay .CFG_THERM_fet_max_c) ≤ s.r mdId (.bay .CFG_THERM2_ambient_c) → t.r mdId (.bay .B_FAULT_cause) bay.val = 4) ∧
      (s.r mdId (.bay .CFG_THERM2_ambient_c) < s.r mdId (.bay .CFG_THERM_fet_max_c) → (t.baySt bay.val) = (s.baySt bay.val))) ∧
  -- THERMISTOR_SAMPLE
  (∀ (bay : Fin 48) (h : Int) (s : State), s.bayRuns = true ∧ bay.val < 8 * s.channels ∧ s.bay.offering = false →
    s.bayLive bay.val = true ∧ s.r mdId (.bay .CFG_THERM_mode) = 1 ∧ s.r mdId (.bay .B_THERM_therm_fault) bay.val = 0 →
    
    ∃ t, exec (.thermistorSample bay h) s = .next t ∧
      (h < -80 → (s.bayR bay.val).thermBad = 9 → t.r mdId (.bay .B_THERM_therm_fault) bay.val = 1 ∧ t.r mdId (.bay .EVENTS_therm_fault) = 1) ∧
      (-80 ≤ h → h ≤ 300 → t.r mdId (.bay .B_THERM_therm_c) bay.val = (h / 2 + 64).toNat) ∧
      (-80 ≤ h → h ≤ 300 → 2 * (s.r mdId (.bay .CFG_THERM2_therm_max_c) : Int) ≤ h → t.r mdId (.bay .B_FAULT_cause) bay.val = 5)) ∧
  -- BAY_BACKOFF_EXPIRY
  (∀ (bay : Fin 48) (t0 : Nat) (s : State), s.bayRuns = true ∧ bay.val < 8 * s.channels ∧ s.bay.offering = false →
    (s.baySt bay.val) = 8 ∧ s.modeNow ≠ 0xB ∧ (s.bayR bay.val).timer = some t0 ∧ s.bayWaitOver bay.val = true →
    
    ∃ t, exec (.bayBackoffExpiry bay) s = .next t ∧
      (t.baySt bay.val) = 3 ∧ t.now = max s.now t0 ∧ (t.bayR bay.val).timer = none) ∧
  -- BAY_RETRY_COUNT_CLEAR
  (∀ (bay : Fin 48) (s : State), s.bayRuns = true ∧ bay.val < 8 * s.channels ∧ s.bay.offering = false →
    (s.baySt bay.val) = 5 ∨ (s.baySt bay.val) = 6 → 
    ∃ t, exec (.bayRetryCountClear bay) s = .next t ∧
      (t.bayR bay.val).n = 0 ∧ t.r mdId (.bay .B_FAULT_count) bay.val = 0 ∧ (t.baySt bay.val) = (s.baySt bay.val)) ∧
  -- BAY_PRECHARGE_TIMEOUT
  (∀ (bay : Fin 48) (t0 : Nat) (s : State), s.bayRuns = true ∧ bay.val < 8 * s.channels ∧ s.bay.offering = false →
    (s.baySt bay.val) = 3 ∧ (s.bayR bay.val).pre = some t0 →
    
    ∃ t, exec (.bayPrechargeTimeout bay) s = .next t ∧
      t.r mdId (.bay .B_FAULT_cause) bay.val = 8 ∧ t.r mdId (.bay .EVENTS_fault) = 1 ∧ (t.baySt bay.val) = 3 ∧ (t.bayR bay.val).n = (s.bayR bay.val).n ∧
      t.now = max s.now (t0 + 10000000000)) ∧
  -- BAY_CMD_CLEAR_RETRIES
  (∀ (q : Req) (bay : BitVec 6) (s : State), s.bayRuns = true ∧ bay.toNat < 8 * s.channels ∧ s.bay.offering = false →
    q.secure = true ∧ s.modeNow ≠ 0xB → 
    ∃ t, exec (.bayCmdClearRetries q bay) s = .next t ∧
      (t.bayR bay.toNat).n = 0 ∧ (t.bayR bay.toNat).latched = false ∧
      t.baySt bay.toNat = (if s.baySt bay.toNat = 9 then 3 else s.baySt bay.toNat))

/-- The endpoint's functions are enabled, disabled and shut down, and their queues made, deleted and rung. -/
def Obligations.EndpointQueues : Prop :=
  -- EP_CC_ENABLE
  (∀ (fn : Fin 64) (i c m a : Nat) (sq cq : BitVec 10) (b : Bool) (s : State), 3 ≤ s.modeNow ∧ s.fnExists fn.val = true → s.r 0 (.epf .F_STATE_cc_en) fn.val = 0 ∧ s.r 0 (.epf .F_STATE_stopping) fn.val = 0 ∧ s.r 0 (.epf .F_STATE_dstate) fn.val = 0 →
    
    ∃ t, exec (.epCcEnable fn i c m a sq cq b) s = .next t ∧
      t.r 0 (.epf .F_STATE_cc_en) fn.val = 1 ∧ t.r 0 (.epf .F_STATE_bme) fn.val = b.toNat ∧
      (i = 6 → c = 4 → m = 0 → a = 0 → s.fnConfigured fn.val = true → s.r 0 (.epf .STATUS_data_presence) = 1 → t.r 0 (.epf .F_STATE_rdy) fn.val = 1 ∧ (t.epSq fn.val 0).map (fun q => q.size) = some (sq.toNat + 1) ∧ (t.epCq fn.val 0).map (fun q => q.size) = some (cq.toNat + 1)) ∧
      ((i ≠ 6 ∨ c ≠ 4 ∨ m ≠ 0 ∨ a ≠ 0) → t.r 0 (.epf .F_STATE_cfs) fn.val = 1 ∧ t.r 0 (.epf .F_STATE_rdy) fn.val = s.r 0 (.epf .F_STATE_rdy) fn.val ∧ t.r 0 (.epf .EVENTS_cfs) = 1)) ∧
  -- EP_CC_DISABLE
  (∀ (fn : Fin 64) (s : State), 3 ≤ s.modeNow ∧ s.fnExists fn.val = true → s.r 0 (.epf .F_STATE_cc_en) fn.val = 1 → 
    ∃ t, exec (.epCcDisable fn) s = .next t ∧
      t.r 0 (.epf .F_STATE_cc_en) fn.val = 0 ∧ t.r 0 (.epf .F_STATE_rdy) fn.val = 0 ∧ t.r 0 (.epf .F_STATE_shst) fn.val = 0 ∧ t.epSq fn.val 0 = none ∧ t.epCq fn.val 0 = none) ∧
  -- EP_SHUTDOWN
  (∀ (fn : Fin 64) (n : BitVec 2) (s : State), 3 ≤ s.modeNow ∧ s.fnExists fn.val = true → s.r 0 (.epf .F_STATE_cc_en) fn.val = 1 ∧ s.r 0 (.epf .F_STATE_stopping) fn.val = 0 ∧ s.r 0 (.epf .F_STATE_shst) fn.val = 0 ∧ (n = 1 ∨ n = 2) →
    
    ∃ t, exec (.epShutdown fn n) s = .next t ∧
      t.r 0 (.epf .F_STATE_shst) fn.val = 1) ∧
  -- EP_SHUTDOWN_COMPLETE
  (∀ (fn : Fin 64) (s : State), 3 ≤ s.modeNow ∧ s.r 0 (.epf .F_STATE_shst) fn.val = 1 ∧ s.ep.stopped.contains fn.val = false ∧ s.r 0 (.epf .F_STATE_in_flight) fn.val = 0 →
    
    ∃ t, exec (.epShutdownComplete fn) s = .next t ∧
      t.r 0 (.epf .F_STATE_shst) fn.val = 2) ∧
  -- EP_SQ_DOORBELL
  (∀ (fn y : Fin 64) (tail : BitVec 16) (q : EpQueue) (s : State), 3 ≤ s.modeNow ∧ s.fnRuns fn.val = true ∧ s.r 0 (.epf .F_STATE_dstate) fn.val = 0 ∧ s.epSq fn.val y.val = some q →
    
    ∃ t, exec (.epSqDoorbell fn y tail) s = .next t ∧
      (tail.toNat < q.size → t.epSq fn.val y.val = some { q with tail := tail.toNat }) ∧
      (q.size ≤ tail.toNat → t.epSq fn.val y.val = some q)) ∧
  -- EP_CQ_DOORBELL
  (∀ (fn y : Fin 64) (hd : BitVec 16) (c : EpCmd) (q x : EpQueue) (s : State), 3 ≤ s.modeNow ∧ s.fnRuns fn.val = true ∧ s.r 0 (.epf .F_STATE_dstate) fn.val = 0 ∧ s.epCq fn.val y.val = some x →
    s.ep.cmds = [c] ∧ c.st = 4 ∧ c.fn = fn.val ∧ c.chain = none ∧ s.epSq fn.val c.sq = some q ∧ q.cq = y.val →
    hd.toNat < x.size ∧ (x.tail + 1) % x.size ≠ hd.toNat →
    
    ∃ t, exec (.epCqDoorbell fn y hd) s = .next t ∧
      t.ep.cmds = [] ∧ (t.epCq fn.val y.val).map (fun z => z.head) = some hd.toNat ∧
      OutMsg.epCompletion fn.val x.qid c.cap.cid c.status c.dw0 c.dw1 q.head x.phase ∈ t.out) ∧
  -- EP_CREATE_IO_SQ
  (∀ (fn : Fin 64) (cid : BitVec 16) (c : EpCmd) (y z cq : Nat) (s : State), 3 ≤ s.modeNow ∧ s.ep.cmds.find? (fun c => c.fn = fn.val && c.sq = 0 && c.st = 5 && c.cap.cid = cid.toNat && c.cap.opcode =  1) = some c →
    y = c.cap.cdw10 % 65536 ∧ z = c.cap.cdw10 / 65536 + 1 ∧ cq = c.cap.cdw11 / 65536 ∧ c.cap.cdw11 % 2 = 1 →
    0 < y ∧ y ≤ 63 ∧ s.epSq fn.val y = none ∧ 0 < cq ∧ cq ≤ 63 ∧ (s.epCq fn.val cq).isSome = true ∧ 2 ≤ z ∧ z ≤ 1024 →
    
    ∃ t, exec (.epCreateIoSq fn cid) s = .next t ∧
      t.epSq fn.val y = some { fn := fn.val, qid := y, size := z, cq := cq }) ∧
  -- EP_CREATE_IO_CQ
  (∀ (fn : Fin 64) (cid : BitVec 16) (c : EpCmd) (y z v : Nat) (s : State), 3 ≤ s.modeNow ∧ s.ep.cmds.find? (fun c => c.fn = fn.val && c.sq = 0 && c.st = 5 && c.cap.cid = cid.toNat && c.cap.opcode =  5) = some c →
    y = c.cap.cdw10 % 65536 ∧ z = c.cap.cdw10 / 65536 + 1 ∧ v = c.cap.cdw11 / 65536 ∧ c.cap.cdw11 % 2 = 1 →
    0 < y ∧ y ≤ 63 ∧ s.epCq fn.val y = none ∧ v ≤ 63 ∧ 2 ≤ z ∧ z ≤ 1024 →
    
    ∃ t, exec (.epCreateIoCq fn cid) s = .next t ∧
      (t.epCq fn.val y).map (fun q => (q.size, q.cq, q.ien)) = some (z, v, c.cap.cdw11.testBit 1)) ∧
  -- EP_DELETE_IO_SQ
  (∀ (fn : Fin 64) (cid : BitVec 16) (c : EpCmd) (y : Nat) (s : State), 3 ≤ s.modeNow ∧ s.ep.cmds.find? (fun c => c.fn = fn.val && c.sq = 0 && c.st = 5 && c.cap.cid = cid.toNat && c.cap.opcode =  0) = some c ∧ y = c.cap.cdw10 % 65536 ∧ y ≠ 0 ∧ (s.epSq fn.val y).isSome = true →
    
    ∃ t, exec (.epDeleteIoSq fn cid) s = .next t ∧
      t.epSq fn.val y = none) ∧
  -- EP_DELETE_IO_CQ
  (∀ (fn : Fin 64) (cid : BitVec 16) (c : EpCmd) (y : Nat) (s : State), 3 ≤ s.modeNow ∧ s.ep.cmds.find? (fun c => c.fn = fn.val && c.sq = 0 && c.st = 5 && c.cap.cid = cid.toNat && c.cap.opcode =  4) = some c ∧ y = c.cap.cdw10 % 65536 ∧ y ≠ 0 ∧ (s.epCq fn.val y).isSome = true →
    
    ∃ t, exec (.epDeleteIoCq fn cid) s = .next t ∧
      (s.ep.sqs.any (fun q => q.fn = fn.val && q.qid ≠ 0 && q.cq = y) = false → t.epCq fn.val y = none) ∧
      (s.ep.sqs.any (fun q => q.fn = fn.val && q.qid ≠ 0 && q.cq = y) = true → (t.epCq fn.val y).isSome = true))

/-- The endpoint fetches entries and data, forwards commands, writes completions, sends messages and times its requests
out. -/
def Obligations.EndpointCommands : Prop :=
  -- EP_FETCH_TURN
  (∀ (q : EpQueue) (g : Nat) (s : State), 3 ≤ s.modeNow ∧ s.fnRuns q.fn = true ∧ s.fnConfigured q.fn = true ∧ s.r 0 (.epf .F_STATE_dstate) q.fn = 0 ∧ s.r 0 (.epf .F_STATE_bme) q.fn = 1 →
    s.ep.sqs = [q] ∧ q.fn < 64 ∧ q.qid < 64 ∧ q.head < q.tail ∧ q.tail < q.size ∧ s.epTag = some g ∧ (∀ f : Fin 64, s.r 0 (.epf .F_STATE_in_flight) f.val = 0) →
    
    ∃ t, exec (.epFetchTurn) s = .next t ∧
      t.ep.reqs = s.ep.reqs ++ [{ tag := g, fn := q.fn, fetch := true, sq := q.qid, n := min 8 (q.tail - q.head), issued := s.now }] ∧
      OutMsg.epRead g q.fn true (min 8 (q.tail - q.head)) ∈ t.out ∧ (t.epSq q.fn q.qid).map (fun x => x.head) = some (q.head + min 8 (q.tail - q.head))) ∧
  -- EP_SQ_FETCH_COMPLETE
  (∀ (g : BitVec 14) (l : List Capsule) (r : EpReq) (s : State), 3 ≤ s.modeNow ∧ s.epReq g.toNat = some r ∧ r.fetch = true ∧ r.stale = false ∧ l.length = r.n →
    
    ∃ t, exec (.epSqFetchComplete g l) s = .next t ∧
      t.ep.nextTok = s.ep.nextTok + r.n) ∧
  -- EP_SQ_FETCH_COMPLETE
  (∀ (g : BitVec 14) (c : Capsule) (r : EpReq) (q x : EpQueue) (s : State), 3 ≤ s.modeNow ∧ s.epReq g.toNat = some r ∧ r.fetch = true ∧ r.stale = false ∧ r.n = 1 ∧ r.sq ≠ 0 ∧ ioOpcodes.contains c.opcode = false →
    s.epSq r.fn r.sq = some q ∧ s.epCq r.fn q.cq = some x ∧ (x.tail + 1) % x.size ≠ x.head →
    
    ∃ t, exec (.epSqFetchComplete g [c]) s = .next t ∧
      OutMsg.epCompletion r.fn x.qid c.cid 1 0 0 q.head x.phase ∈ t.out) ∧
  -- EP_DATA_FETCH_COMPLETE
  (∀ (g : BitVec 14) (b : List Block) (i : List Nat) (r : EpReq) (c : EpCmd) (s : State), 3 ≤ s.modeNow ∧ s.epReq g.toNat = some r ∧ r.fetch = false ∧ r.stale = false ∧ s.ep.cmds = [c] ∧ c.tok = r.tok ∧ c.st = 0 →
    
    ∃ t, exec (.epDataFetchComplete g b i) s = .next t ∧
      t.ep.cmds = [{ c with st := 2, cap := { c.cap with data := b, info := i } }] ∧ t.ep.reqs = s.ep.reqs.filter (fun x => x.tag ≠ g.toNat) ∧
      alGet t.ep.msns (epConn c.die c.fn c.sq) = some (((alGet s.ep.msns (epConn c.die c.fn c.sq)).getD 0 + 1) % 2 ^ 24)) ∧
  -- EP_CHAIN_WORK_REQUEST
  (∀ (o l : Bool) (d n : Nat) (rest : List (Nat × Nat × Bool)) (c : EpCmd) (q x : EpQueue) (s : State), 3 ≤ s.modeNow ∧ s.ep.port11 = (d, n, l) :: rest ∧ s.ep.cmds = [c] ∧ c.die = d ∧ c.st = 2 →
    epConn d c.fn c.sq = (s.slot d n).conn ∧ c.cap.cid = (s.slot d n).cap.cid →
    s.epSq c.fn c.sq = some q ∧ s.epCq c.fn q.cq = some x ∧ (x.tail + 1) % x.size ≠ x.head →
    
    ∃ t, exec (.epChainWorkRequest o) s = .next t ∧
      (l = false → OutMsg.epData c.fn c.cap.cid n o ∈ t.out ∧ t.ep.port11 = rest) ∧
      (l = true → OutMsg.epCompletion c.fn x.qid c.cap.cid ((s.slot d n).status.getD 0) (s.slot d n).dw0 (s.slot d n).dw1 q.head x.phase ∈ t.out ∧ t.ep.cmds = [])) ∧
  -- EP_MSIX_SEND
  (∀ (fn v : Fin 64) (m : Bool) (s : State), 3 ≤ s.modeNow ∧ s.fnRuns fn.val = true ∧ s.r 0 (.epf .F_STATE_dstate) fn.val = 0 ∧ s.ep.msiDue.contains (fn.val, v.val) = true →
    
    ∃ t, exec (.epMsixSend fn v true m) s = .next t ∧
      (m = true → t.ep.pba.contains (fn.val, v.val) = true ∧ t.ep.msiDue.contains (fn.val, v.val) = false) ∧
      (m = false → (s.tsSet 0 = true ∧ alGet s.ep.msiAt (fn.val, v.val) = some (s.ts64 0 / 1000)) → t = s) ∧
      (m = false → alGet s.ep.msiAt (fn.val, v.val) = none → OutMsg.epMsix fn.val v.val ∈ t.out ∧ t.ep.msiDue.contains (fn.val, v.val) = false)) ∧
  -- EP_COMPLETION_TIMEOUT
  (∀ (g : BitVec 14) (e : BitVec 4) (w : Nat) (r : EpReq) (s : State), 3 ≤ s.modeNow ∧ s.epReq g.toNat = some r ∧ ctoNs e.toNat = some w ∧ r.resetAt = none ∧ r.stale = false →
    
    ∃ t, exec (.epCompletionTimeout g e false) s = .next t ∧
      t.now = max s.now (r.issued + w) ∧ t.ep.heldTags.contains (g.toNat, t.now + 1000000000) = true ∧ t.r 0 (.epf .EVENTS_completion_timeout) = 1 ∧
      (r.fetch = true → t.r 0 (.epf .F_STATE_cfs) r.fn = 1 ∧ t.ep.stopped.contains r.fn = true)) ∧
  -- EP_COMPLETION_RECEIVED
  (∀ (g : BitVec 14) (b : Bool) (s : State), 3 ≤ s.modeNow ∧ s.epReq g.toNat = none → 
    ∃ t, exec (.epCompletionReceived g b) s = .next t ∧
      t.ep = s.ep ∧
      (s.ep.heldTags.any (fun h => h.1 = g.toNat && decide (s.now < h.2)) = true → t.r 0 (.epf .EVENTS_late_completion) = 1) ∧
      (s.ep.heldTags.any (fun h => h.1 = g.toNat && decide (s.now < h.2)) = false → t.r 0 (.epf .EVENTS_unexpected_completion) = 1)) ∧
  -- EP_COMPLETION_RECEIVED
  (∀ (g : BitVec 14) (b : Bool) (r : EpReq) (s : State), 3 ≤ s.modeNow ∧ s.epReq g.toNat = some r ∧ r.fetch = true ∧ (b = true ∨ r.stale = true) →
    
    ∃ t, exec (.epCompletionReceived g b) s = .next t ∧
      (r.stale = true → t.ep.reqs = s.ep.reqs.filter (fun x => x.tag ≠ g.toNat)) ∧
      (r.stale = false → t.r 0 (.epf .F_STATE_cfs) r.fn = 1 ∧ t.ep.stopped.contains r.fn = true)) ∧
  -- EPF_SNAPSHOT
  (∀ (q : Req) (s : State), 3 ≤ s.modeNow → 
    ∃ t, exec (.epfSnapshot q) s = .next t ∧
      (⟨0, 0x15, q.secure, s.counters 0 0x15 14, 0⟩ : Snapshot) ∈ t.snaps)

/-- The endpoint's stop causes, power states, resets, virtual functions and link. -/
def Obligations.EndpointResets : Prop :=
  -- EP_BME_CLEAR
  (∀ (fn : Fin 64) (s : State), 3 ≤ s.modeNow ∧ s.fnExists fn.val = true → 
    ∃ t, exec (.epBmeClear fn) s = .next t ∧
      t.r 0 (.epf .F_STATE_bme) fn.val = 0 ∧
      (s.r 0 (.epf .F_STATE_cc_en) fn.val = 1 → s.ep.stopped.contains fn.val = false → t.r 0 (.epf .F_STATE_cfs) fn.val = 1 ∧ t.ep.stopped.contains fn.val = true)) ∧
  -- EP_D3HOT_ENTRY
  (∀ (fn : Fin 64) (p : Bool) (s : State), 3 ≤ s.modeNow ∧ s.fnExists fn.val = true → s.r 0 (.epf .F_STATE_dstate) fn.val ≠ 3 ∧ s.ep.stopped.contains fn.val = false →
    
    ∃ t, exec (.epD3hotEntry fn p) s = .next t ∧
      t.r 0 (.epf .F_STATE_dstate) fn.val = 3 ∧ t.ep.sqs = s.ep.sqs ∧ t.ep.cqs = s.ep.cqs ∧
      (0 < s.r 0 (.epf .F_STATE_in_flight) fn.val → t.r 0 (.epf .F_STATE_cfs) fn.val = 1 ∧ t.ep.stopped.contains fn.val = true)) ∧
  -- EP_D0_ENTRY
  (∀ (fn : Fin 64) (c : Bool) (s : State), 3 ≤ s.modeNow ∧ s.fnExists fn.val = true → s.r 0 (.epf .F_STATE_dstate) fn.val = 3 → 
    ∃ t, exec (.epD0Entry fn c) s = .next t ∧
      t.r 0 (.epf .F_STATE_dstate) fn.val = 0 ∧ t.ep.sqs = s.ep.sqs ∧ t.ep.pba = s.ep.pba.filter (fun m => m.1 ≠ fn.val)) ∧
  -- EP_FLR
  (∀ (fn : Fin 64) (s : State), 3 ≤ s.modeNow ∧ s.fnExists fn.val = true → 
    ∃ t, exec (.epFlr fn) s = .next t ∧
      (fn.val ≠ 0 → t.r 0 (.epf .F_STATE_cc_en) fn.val = 0 ∧ t.r 0 (.epf .F_STATE_rdy) fn.val = 0 ∧ t.r 0 (.epf .F_STATE_dstate) fn.val = 0 ∧ t.r 0 (.epf .F_STATE_bme) fn.val = 0 ∧ t.r 0 (.epf .F_STATE_stopping) fn.val = 1 ∧ t.epSq fn.val 0 = none) ∧
      (fn.val = 0 → t.r 0 (.epf .STATUS_num_vfs) = 0 ∧ t.r 0 (.epf .F_STATE_cc_en) 0 = 0)) ∧
  -- EP_VF_ENABLE
  (∀ (n : Fin 64) (s : State), 3 ≤ s.modeNow ∧ s.r 0 (.epf .STATUS_num_vfs) < n.val →
    
    ∃ t, exec (.epVfEnable n) s = .next t ∧
      t.r 0 (.epf .STATUS_num_vfs) = n.val) ∧
  -- EP_VF_DISABLE
  (∀ (n f : Fin 64) (s : State), 3 ≤ s.modeNow ∧ n.val < f.val ∧ f.val ≤ s.r 0 (.epf .STATUS_num_vfs) →
    
    ∃ t, exec (.epVfDisable n) s = .next t ∧
      t.r 0 (.epf .STATUS_num_vfs) = n.val ∧ t.r 0 (.epf .F_STATE_cc_en) f.val = 0 ∧ t.epSq f.val 0 = none) ∧
  -- EP_CONVENTIONAL_RESET
  (∀ (p h : Bool) (s : State), 3 ≤ s.modeNow → 
    ∃ t, exec (.epConventionalReset p h) s = .next t ∧
      t.r 0 (.epf .STATUS_num_vfs) = 0 ∧ t.r 0 (.epf .F_STATE_cc_en) 0 = 0 ∧
      (p = true → t.r 0 (.epf .STATUS_perst) = 1 ∧ t.r 0 (.epf .STATUS_link_state) = 0) ∧
      (p = false → h = true → t.r 0 (.epf .STATUS_link_state) = s.r 0 (.epf .STATUS_link_state))) ∧
  -- EP_RESET_COMPLETE
  (∀ (fn : Fin 64) (s : State), 3 ≤ s.modeNow ∧ s.ep.reqs.any (fun r => r.fn = fn.val) = false →
    
    ∃ t, exec (.epResetComplete fn) s = .next t ∧
      t.r 0 (.epf .F_STATE_stopping) fn.val = 0) ∧
  -- EP_PERST_DEASSERT
  (∀ (s : State), 3 ≤ s.modeNow → 
    ∃ t, exec (.epPerstDeassert) s = .next t ∧
      t.r 0 (.epf .STATUS_perst) = 0 ∧ t.r 0 (.epf .STATUS_wake) = 0 ∧
      (((List.range 64).any s.fnConfigured = true ∧ s.ep.refclk = true ∧ s.r 0 (.epf .STATUS_link_state) = 0) → t.r 0 (.epf .STATUS_link_state) = 1)) ∧
  -- EP_LINK_UP
  (∀ (v : BitVec 4) (w : BitVec 5) (s : State), 3 ≤ s.modeNow ∧ s.r 0 (.epf .STATUS_link_state) = 1 ∧ 1 ≤ v.toNat ∧ v.toNat ≤ 6 ∧ [1, 2, 4, 8, 16].contains w.toNat = true →
    
    ∃ t, exec (.epLinkUp v w) s = .next t ∧
      t.r 0 (.epf .STATUS_link_state) = 2 ∧ t.r 0 (.epf .STATUS_speed) = v.toNat ∧ t.r 0 (.epf .STATUS_width) = w.toNat ∧ t.r 0 (.epf .STATUS_l0p_width) = w.toNat) ∧
  -- EP_L0P_WIDTH_CHANGE
  (∀ (w : BitVec 5) (s : State), 3 ≤ s.modeNow ∧ 2 ≤ s.r 0 (.epf .STATUS_link_state) ∧ [1, 2, 4, 8, 16].contains w.toNat = true ∧ w.toNat ≤ s.r 0 (.epf .STATUS_width) →
    
    ∃ t, exec (.epL0pWidthChange 3 w) s = .next t ∧
      t.r 0 (.epf .STATUS_l0p_width) = w.toNat ∧ t.r 0 (.epf .STATUS_link_state) = (if w.toNat = s.r 0 (.epf .STATUS_width) then 2 else 3))

/-- Management watchdogs and lockstep, firmware and configuration updates, and the registers with effects of their own. -/
def Obligations.ManagementUpdates : Prop :=
  -- LOCKSTEP_MISMATCH
  (∀ (s : State), modeHasRow s.modeNow 5 = true → 
    ∃ t, exec (.lockstepMismatch) s = .next t ∧
      (⟨5, 9⟩ : Trig) ∈ t.mode.trigs) ∧
  -- SECURE_WATCHDOG_EXPIRY
  (∀ (x : Nat) (s : State), s.mgt.sWdt = some x ∧ modeHasRow s.modeNow 5 = true →
    
    ∃ t, exec (.secureWatchdogExpiry) s = .next t ∧
      (⟨5, 9⟩ : Trig) ∈ t.mode.trigs ∧ t.mgt.sWdt = none ∧ t.now = max s.now x) ∧
  -- NS_WATCHDOG_EXPIRY
  (∀ (x : Nat) (s : State), s.mgt.nsWdt = some x → 
    ∃ t, exec (.nsWatchdogExpiry) s = .next t ∧
      t.now = max s.now x ∧ t.mgt.nsWdt = some (t.now + 1000000 * s.r mdId (.mgt .WDT_CFG_ns_timeout_ms)) ∧ t.mgt.eids = [] ∧ t.mgt.console = [] ∧
      t.r mdId (.mgt .EVENTS_ns_watchdog) = 1 ∧ (s.r mdId (.mgt .FW_STATUS_update_state) = 1 → t.mgt.update = none)) ∧
  -- SECURE_WATCHDOG_KICK
  (∀ (q : Req) (s : State), 
    ∃ t, exec (.secureWatchdogKick q) s = .next t ∧
      (q.secure = true → t.mgt.sWdt = some (s.now + 1000000 * s.r mdId (.mgt .WDT_CFG_s_timeout_ms))) ∧
      (q.secure = false → t.mgt.sWdt = s.mgt.sWdt ∧ t.r mdId (.sec .EVENTS_world_violation) = 1)) ∧
  -- NS_WATCHDOG_KICK
  (∀ (s : State), 
    ∃ t, exec (.nsWatchdogKick) s = .next t ∧
      t.mgt.nsWdt = some (s.now + 1000000 * s.r mdId (.mgt .WDT_CFG_ns_timeout_ms))) ∧
  -- PLDM_REQUEST_UPDATE
  (∀ (b : Fin 3) (s : State), 
    ∃ t, exec (.pldmRequestUpdate b 1) s = .next t ∧
      (s.mgt.update.isSome = true → t.mgt = s.mgt ∧ OutMsg.mgmt 0 b.val [1] ∈ t.out) ∧
      ((s.mgt.update = none ∧ fwUpdateMode s.modeNow = true ∧ s.fwSel.trial = false ∧ s.stagePending = false) → t.mgt.update = some { comp := 1, binding := b.val, deadline := s.now + 60000000000 } ∧ t.fwSlot (1 - s.fwSel.current) = none) ∧
      ((s.mgt.update = none ∧ fwUpdateMode s.modeNow = true ∧ s.fwSel.trial = false ∧ s.stagePending = false) → t.r mdId (.mgt .FW_STATUS_update_state) = 1 ∧ OutMsg.mgmt 0 b.val [0] ∈ t.out)) ∧
  -- PLDM_FIRMWARE_DATA
  (∀ (n : Nat) (f : Option FwImage) (m : Option Image) (u : FwUpdate) (s : State), s.mgt.update = some u ∧ s.r mdId (.mgt .FW_STATUS_update_state) = 1 ∧ 1 ≤ n ∧ n ≤ 4096 →
    
    ∃ t, exec (.pldmFirmwareData n f m false) s = .next t ∧
      t.mgt.update.map (fun x => (x.bytes, x.deadline)) = some (u.bytes + n, s.now + 60000000000)) ∧
  -- FIRMWARE_UPDATE_VERIFIED
  (∀ (u : FwUpdate) (f : FwImage) (s : State), s.mgt.update = some u ∧ s.r mdId (.mgt .FW_STATUS_update_state) = 1 ∧ u.comp = 1 ∧ u.fw = some f →
    
    ∃ t, exec (.firmwareUpdateVerified) s = .next t ∧
      (s.fwUpdateCheck f = 0 → t.fwSlot (1 - s.fwSel.current) = some f ∧ t.r mdId (.mgt .FW_STATUS_update_state) = 3 ∧ t.r mdId (.mgt .EVENTS_update_done) = 1) ∧
      (s.fwUpdateCheck f ≠ 0 → t.mgt.update = none ∧ t.fwSlot (1 - s.fwSel.current) = none ∧ t.r mdId (.mgt .FW_STATUS_fail_code) = s.fwUpdateCheck f)) ∧
  -- PLDM_ACTIVATE_FIRMWARE
  (∀ (u : FwUpdate) (s : State), s.mgt.update = some u ∧ s.r mdId (.mgt .FW_STATUS_update_state) = 3 ∧ u.comp = 1 →
    
    ∃ t, exec (.pldmActivateFirmware) s = .next t ∧
      t.fwSel.trial = true ∧ t.fwSel.attempts = 0 ∧ t.fwSel.current = s.fwSel.current ∧ t.mgt.update = none ∧ t.r mdId (.mgt .FW_STATUS_update_state) = 4) ∧
  -- PLDM_CANCEL_UPDATE
  (∀ (b : Fin 3) (u : FwUpdate) (s : State), s.mgt.update = some u → 
    ∃ t, exec (.pldmCancelUpdate b) s = .next t ∧
      (u.binding = b.val → t.mgt.update = none ∧ t.r mdId (.mgt .FW_STATUS_update_state) = 6 ∧ t.r mdId (.mgt .FW_STATUS_fail_code) = 0xE ∧ (u.comp = 1 → t.fwSlot (1 - s.fwSel.current) = none)) ∧
      (u.binding ≠ b.val → t = s)) ∧
  -- PLDM_TRANSFER_TIMEOUT
  (∀ (u : FwUpdate) (s : State), s.mgt.update = some u ∧ s.r mdId (.mgt .FW_STATUS_update_state) = 1 →
    
    ∃ t, exec (.pldmTransferTimeout) s = .next t ∧
      t.mgt.update = none ∧ t.r mdId (.mgt .FW_STATUS_fail_code) = 0xE ∧ t.now = max s.now u.deadline) ∧
  -- QCAUSE_READ
  (∀ (s : State), 
    ∃ t, exec (.qcauseRead) s = .next t ∧
      t.r mdId (.mgt .QCAUSE_code) = 0 ∧ OutMsg.readData (fldAddr mdId (.mgt .QCAUSE_code)) (s.r mdId (.mgt .QCAUSE_code)) ∈ t.out) ∧
  -- MGT_SNAPSHOT
  (∀ (q : Req) (s : State), 
    ∃ t, exec (.mgtSnapshot q) s = .next t ∧
      (⟨mdId, 0x03, q.secure, s.counters mdId 0x03 9, 0⟩ : Snapshot) ∈ t.snaps)

/-- Messages of the management transports are answered from the package's state, within the limits of their bindings. -/
def Obligations.ManagementTransports : Prop :=
  -- MCTP_CONTROL_MESSAGE
  (∀ (b : Fin 3) (e : BitVec 8) (s : State), 
    ∃ t, exec (.mctpControlMessage b 1 e) s = .next t ∧
      (b.val ≠ 2 → alGet t.mgt.eids b.val = some e.toNat ∧ OutMsg.mgmt 1 b.val [1, e.toNat] ∈ t.out) ∧
      (b.val = 2 → t.mgt.eids = s.mgt.eids ∧ OutMsg.mgmt 1 2 [1, if s.role = 2 then 0x11 else 0x10] ∈ t.out)) ∧
  -- NVME_MI_COMMAND
  (∀ (b : Fin 3) (o : BitVec 8) (s : State), 
    ∃ t, exec (.nvmeMiCommand b o) s = .next t ∧
      (o = 4 → OutMsg.mgmt 2 b.val [0, 4, 64] ∈ t.out) ∧
      ((o ≠ 0 ∧ o ≠ 1 ∧ o ≠ 2 ∧ o ≠ 4 ∧ o ≠ 5) → OutMsg.mgmt 2 b.val [3] ∈ t.out)) ∧
  -- MI_ADMIN_COMMAND
  (∀ (b : Fin 3) (c : BitVec 16) (n : BitVec 32) (s : State), c.toNat < 0x7000 → 
    ∃ t, exec (.miAdminCommand b c 0x0A n 0x83) s = .next t ∧
      (s.cdUp (c.toNat / 0x1000) = true → OutMsg.mgmt 2 b.val [0, 1] ∈ t.out) ∧
      (s.cdUp (c.toNat / 0x1000) = false → OutMsg.mgmt 2 b.val [0x7C0] ∈ t.out)) ∧
  -- SPDM_REQUEST
  (∀ (b : Fin 3) (i : BitVec 8) (s : State), 
    ∃ t, exec (.spdmRequest b 0xE0 i) s = .next t ∧
      (i = 0 → OutMsg.mgmt 3 b.val [14] ∈ t.out) ∧
      ((1 ≤ i.toNat ∧ i.toNat ≤ 12) → OutMsg.mgmt 3 b.val [(alGet s.sec.measured i.toNat).getD 0] ∈ t.out) ∧
      (i = 14 → OutMsg.mgmt 3 b.val [s.sec.headHash] ∈ t.out)) ∧
  -- FOLRIC_READ_EVENT_LOG
  (∀ (b : Fin 3) (a : Nat) (n : Fin 16) (s : State), 
    ∃ t, exec (.folricReadEventLog b a n) s = .next t ∧
      (s.exports b.val = false → OutMsg.mgmt 4 b.val [1] ∈ t.out) ∧
      ((s.exports b.val = true ∧ s.mgt.evlog = [] ∧ s.mgt.nvmLog = []) → OutMsg.mgmt 4 b.val [0] ∈ t.out)) ∧
  -- FOLRIC_READ_EVENT_LOG
  (∀ (b : Fin 3) (a : Nat) (n : Fin 16) (e : EvRec) (s : State), s.exports b.val = true ∧ s.mgt.evlog = [e] ∧ s.mgt.nvmLog = [] ∧ a ≤ e.seq ∧ 0 < n.val →
    
    ∃ t, exec (.folricReadEventLog b a n) s = .next t ∧
      OutMsg.mgmt 4 b.val ([1, e.seq, e.r.ts64, e.r.uptime, e.boot, e.r.die, e.r.blk, e.severity, e.r.code.number e.r.blk] ++ e.r.args) ∈ t.out) ∧
  -- FOLRIC_READ_LEDGER
  (∀ (b : Fin 3) (q o : Nat) (n : BitVec 16) (l : LedgerRec) (s : State), s.exports b.val = true ∧ s.sec.ledger = [l] → 
    ∃ t, exec (.folricReadLedger b q o n) s = .next t ∧
      (l.seq ≠ q → OutMsg.mgmt 4 b.val [1, 0, l.seq, l.seq] ∈ t.out) ∧
      (l.seq = q → recordLen l.kind ≤ o → OutMsg.mgmt 4 b.val [2, recordLen l.kind, q, q] ∈ t.out) ∧
      (l.seq = q → o < recordLen l.kind → OutMsg.mgmt 4 b.val ([0, recordLen l.kind, q, q, o, min (min n.toNat 1008) (recordLen l.kind - o), l.kind, if l.brk then 1 else 0, l.bootCount, q, l.prev, l.ts, l.uptime, l.quality] ++ l.body) ∈ t.out)) ∧
  -- FOLRIC_READ_SENSORS
  (∀ (b : Fin 3) (i : Fin 64) (s : State), 
    ∃ t, exec (.folricReadSensors b i 1) s = .next t ∧
      OutMsg.mgmt 4 b.val [s.r mdId (.mgt .SENSOR_value) i.val * 65536 + s.r mdId (.mgt .SENSOR_crit) i.val * 4 + s.r mdId (.mgt .SENSOR_warn) i.val * 2 + s.r mdId (.mgt .SENSOR_valid) i.val] ∈ t.out) ∧
  -- SGMII_DATAGRAM
  (∀ (k : Fin 4) (s : State), k.val < 2 ∧ s.mgt.second = s.now / 1000000000 → 
    ∃ t, exec (.sgmiiDatagram k) s = .next t ∧
      (s.mgt.answered < 4000 → OutMsg.mgmt 5 2 [k.val] ∈ t.out ∧ t.mgt.answered = s.mgt.answered + 1) ∧
      (4000 ≤ s.mgt.answered → t.mgt.answered = s.mgt.answered ∧ t.out = s.out)) ∧
  -- UART_INPUT
  (∀ (c : BitVec 8) (s : State), 
    ∃ t, exec (.uartInput c) s = .next t ∧
      ((s.modeNow = 0xA ∧ s.mode.fromTest = true ∧ s.r mdId (.rst .STRAP_mfg_test) = 1) → t.mgt.console = s.mgt.console ++ [c.toNat]) ∧
      (¬ (s.modeNow = 0xA ∧ s.mode.fromTest = true ∧ s.r mdId (.rst .STRAP_mfg_test) = 1) → t = s))

/-- The event log takes records in order, copies them to NVM and sums up what it suppressed; sensors warn and trip. -/
def Obligations.EventLogAndSensors : Prop :=
  -- EVENT_LOG_APPEND
  (∀ (r : LogRec) (l : List LogRec) (s : State), s.logq = r :: l ∧ s.mgt.period = s.now / 10000000 ∧ (alGet s.mgt.counts (r.die, r.blk, r.code)).getD 0 < 64 ∧ s.mgt.evlog.length < 4096 →
    
    ∃ t, exec (.eventLogAppend) s = .next t ∧
      t.logq = l ∧ t.mgt.evlog.map (fun e => (e.seq, e.r)) = s.mgt.evlog.map (fun e => (e.seq, e.r)) ++ [(s.r mdId (.mgt .EVLOG_NEXT), r)] ∧
      t.r mdId (.mgt .EVLOG_STATUS_ram_records) = s.mgt.evlog.length + 1) ∧
  -- EVENT_LOG_APPEND
  (∀ (r : LogRec) (l : List LogRec) (s : State), s.logq = r :: l ∧ s.mgt.period = s.now / 10000000 ∧ 64 ≤ (alGet s.mgt.counts (r.die, r.blk, r.code)).getD 0 →
    
    ∃ t, exec (.eventLogAppend) s = .next t ∧
      t.logq = l ∧ t.mgt.evlog = s.mgt.evlog ∧ alGet t.mgt.suppressed (r.die, r.blk, r.code) = some ((alGet s.mgt.suppressed (r.die, r.blk, r.code)).getD 0 + 1)) ∧
  -- EVENT_LOG_NVM_COPY
  (∀ (ok : Bool) (s : State), s.mgt.nvmStopped = false ∧ s.r mdId (.fls .STATUS_warning) = 0 ∧ s.mgt.nvmDue ≠ [] ∧ s.mgt.nvmLog.length ≤ 262140 →
    
    ∃ t, exec (.eventLogNvmCopy ok) s = .next t ∧
      (ok = true → t.mgt.nvmLog = s.mgt.nvmLog ++ (s.mgt.evlog.filter (fun e => s.mgt.nvmDue.contains e.seq)).take 4) ∧
      (ok = true → t.mgt.nvmDue = ((s.mgt.evlog.filter (fun e => s.mgt.nvmDue.contains e.seq)).drop 4).map (fun e => e.seq)) ∧
      (ok = false → t.mgt.nvmStopped = true ∧ t.mgt.nvmLog = s.mgt.nvmLog ∧ t.r mdId (.mgt .EVLOG_STATUS_nvm_ok) = 0 ∧ t.r mdId (.mgt .EVENTS_nvm_log_error) = 1)) ∧
  -- SUPPRESSION_PERIOD_END
  (∀ (s : State), s.mgt.period ≤ s.now / 10000000 ∧ s.mgt.evlog.length + s.mgt.suppressed.length ≤ 4096 →
    
    ∃ t, exec (.suppressionPeriodEnd) s = .next t ∧
      t.now = (s.now / 10000000 + 1) * 10000000 ∧ t.mgt.counts = [] ∧ t.mgt.suppressed = [] ∧
      t.mgt.evlog.length = s.mgt.evlog.length + s.mgt.suppressed.length) ∧
  -- SENSOR_SAMPLE
  (∀ (i : Fin 51) (v : Int) (s : State), s.hasDie (sensorDie i.val) = true ∧ i.val < 40 ∧ s.r mdId (.mgt .SENSOR_warn) i.val = 0 →
    
    ∃ t, exec (.sensorSample i v) s = .next t ∧
      t.r mdId (.mgt .SENSOR_value) i.val = toSigned 16 v ∧ t.r mdId (.mgt .SENSOR_valid) i.val = 1 ∧
      (8 * (s.r mdId (.mgt .THERM_CFG_warn_c) : Int) ≤ v → t.r mdId (.mgt .SENSOR_warn) i.val = 1 ∧ t.r mdId (.mgt .EVENTS_sensor_warn) = 1) ∧
      (v < 8 * (s.r mdId (.mgt .THERM_CFG_warn_c) : Int) → t.r mdId (.mgt .SENSOR_warn) i.val = 0)) ∧
  -- THERMAL_TRIP
  (∀ (i : Fin 51) (x : Nat) (s : State), alGet s.mgt.hot i.val = some x ∧ s.r mdId (.mgt .SENSOR_crit) i.val = 0 ∧ modeHasRow s.modeNow 5 = true →
    
    ∃ t, exec (.thermalTrip i) s = .next t ∧
      t.r mdId (.mgt .SENSOR_crit) i.val = 1 ∧ t.r mdId (.mgt .EVENTS_thermal_trip) = 1 ∧ (⟨5, 9⟩ : Trig) ∈ t.mode.trigs ∧ t.now = max s.now (x + 1000000))

/-- Proofing counts the boot, checks each die and locks them; the ledger appends its records in order. -/
def Obligations.ProofingAndLedger : Prop :=
  -- PROOFING_START
  (∀ (ok : Bool) (f : FwImage) (s : State), s.modeNow = 2 ∧ s.fwSel.trial = false ∧ s.fwSlot s.fwSel.current = some f ∧ s.fwCheck f = 0 →
    
    ∃ t, exec (.proofingStart ok) s = .next t ∧
      (ok = true → t.mgt.bootCount = s.mgt.bootCount + 1 ∧ t.mgt.running = some f ∧ t.mgt.runSlot = s.fwSel.current ∧ t.sec.stopped = false) ∧
      (ok = false → (⟨8, 3⟩ : Trig) ∈ t.mode.trigs ∧ t.mgt.running = s.mgt.running)) ∧
  -- PROOFING_DIGEST_RECEIVED
  (∀ (die : DieId) (f c : Bool) (x : Nat) (s : State), s.modeNow = 2 ∧ s.hasDie die.val = true ∧ die.val ≠ mdId ∧ s.rst.lat.contains die.val = true ∧ s.r mdId (.sec .STATUS_locked) = 0 →
    
    ∃ t, exec (.proofingDigestReceived die f c x) s = .next t ∧
      ((f && c) = true → t.proof die.val = 7 ∧ alGet t.sec.measured (die.val + 4) = some x) ∧
      ((f && c) = false → t.r mdId (.sec .EVENTS_proof_mismatch) = 1 ∧ t.proof die.val = (if die.val = 0 then 3 else 11)) ∧
      ((f && c) = false → die.val = 0 → (⟨8, 3⟩ : Trig) ∈ t.mode.trigs)) ∧
  -- PROOFING_END
  (∀ (h : Bool) (a : Option Nat) (die : DieId) (s : State), s.modeNow = 2 ∧ s.r mdId (.sec .STATUS_locked) = 0 ∧ s.img.active.isSome = true ∧ s.mgt.running.isSome = true ∧ s.proof 0 = 7 →
    (0 :: s.cds.map cdId).all (fun d => (s.proof d).testBit 1) = true ∧ (s.cds.map cdId).any (fun d => s.proof d = 7) = true →
    (0 :: s.cds.map cdId).contains die.val = true ∧ s.proof die.val = 7 ∧ s.sec.stopped = false →
    
    ∃ t, exec (.proofingEnd h a) s = .next t ∧
      t.r die.val (.sec .STATUS_locked) = 1 ∧ t.r mdId (.sec .STATUS_locked) = 1 ∧ (⟨8, 0⟩ : Trig) ∈ t.mode.trigs ∧
      t.sec.ledgerQ.map (fun r => r.kind) = s.sec.ledgerQ.map (fun r => r.kind) ++ [1]) ∧
  -- LEDGER_WRITE_COMPLETE
  (∀ (ok : Bool) (r : LedgerRec) (rest : List LedgerRec) (s : State), s.sec.ledgerQ = r :: rest ∧ s.sec.appending = true → 
    ∃ t, exec (.ledgerWriteComplete ok) s = .next t ∧
      (ok = true → t.sec.ledgerQ.map (fun x => x.kind) = rest.map (fun x => x.kind) ∧ t.sec.headSeq = r.seq ∧ (t.sec.ledger.getLast?).map (fun x => (x.kind, x.seq, x.prev)) = some (r.kind, r.seq, r.prev)) ∧
      (ok = false → t.sec.ledgerQ = s.sec.ledgerQ ∧ t.sec.headSeq = s.sec.headSeq ∧ t.sec.retryAt = some (s.now + 1000000000) ∧ t.r mdId (.sec .LEDGER_STATUS_nvm_ok) = 0)) ∧
  -- LEDGER_WRITE_RETRY
  (∀ (x : Nat) (s : State), s.sec.retryAt = some x → 
    ∃ t, exec (.ledgerWriteRetry) s = .next t ∧
      t.sec.retryAt = none ∧ t.now = max s.now x) ∧
  -- SEC_SNAPSHOT
  (∀ (q : Req) (die : DieId) (s : State), s.hasDie die.val = true → 
    ∃ t, exec (.secSnapshot q die) s = .next t ∧
      (⟨die.val, 0x04, q.secure, s.counters die.val 0x04 (if die.val = mdId then 8 else 3), 0⟩ : Snapshot) ∈ t.snaps)

/-- Owner enrolment and transfer, media root import, debug tokens, and tamper. -/
def Obligations.OwnershipDebugTamper : Prop :=
  -- OWNER_ENROLMENT
  (∀ (x : Bool) (o : Nat) (s : State), s.mfgMaintenance = true ∧ s.sec.owner = none → 
    ∃ t, exec (.ownerEnrolment x o) s = .next t ∧
      (x = true → t.sec.owner = some o) ∧ (x = false → t = s)) ∧
  -- OWNER_TRANSFER
  (∀ (x : Bool) (o : Nat) (s : State), s.sec.owner.isSome = true → 
    ∃ t, exec (.ownerTransfer true x o) s = .next t ∧
      (x = true → t.sec.owner = some o ∧ t.cip.mediaRoot = none ∧ t.cip.gens = []) ∧
      (x = false → t = s)) ∧
  -- MEDIA_ROOT_IMPORT
  (∀ (u v : Nat) (s : State), s.cip.mediaRoot = none → 
    ∃ t, exec (.mediaRootImport true true u v) s = .next t ∧
      (s.drv.shelf = some u → t.cip.mediaRoot = some v) ∧ (s.drv.shelf ≠ some u → t = s)) ∧
  -- DEBUG_TOKEN_WRITE
  (∀ (x : Bool) (e : Nat) (s : State), s.r mdId (.sec .DEBUG_policy) = 1 ∧ s.tsSet mdId = true ∧ s.ts64 mdId < e ∧ s.sec.ledgerQ.length ≤ 8 →
    
    ∃ t, exec (.debugTokenWrite 1 x Config.packageId (s.r mdId (.mgt .BOOT_COUNT_count)) e) s = .next t ∧
      (x = true → t.r mdId (.sec .DEBUG_scope) = 1 ∧ t.r mdId (.sec .EVENTS_debug_unlock) = 1) ∧
      (x = false → t.r mdId (.sec .DEBUG_scope) = s.r mdId (.sec .DEBUG_scope) ∧ t.r mdId (.sec .DEBUG_refusals) = min 255 (s.r mdId (.sec .DEBUG_refusals) + 1))) ∧
  -- TAMPER
  (∀ (i : Fin 4) (s : State), s.modeNow ≠ 0 → 
    ∃ t, exec (.tamper i) s = .next t ∧
      t.sec.tamper = s.sec.tamper ||| 2 ^ i.val ∧ t.sec.stopped = true ∧ t.sec.ledgerQ = [] ∧ t.r mdId (.sec .EVENTS_tamper) = 1 ∧
      t.cip.mediaRoot = none ∧ t.cip.gens = [] ∧ t.sec.alias_ = none ∧ t.pair.secret = 0 ∧ t.mode.tampered = true ∧
      (s.modeNow ≠ 0xB → (⟨2, 8⟩ : Trig) ∈ t.mode.trigs))

/-- The background tick picks the profile and the grants, patrol visits stripes, and the counter page is answered. -/
def Obligations.BackgroundWork : Prop :=
  -- BACKGROUND_TICK
  (∀ (die : DieId) (w : BitVec 8) (s : State), s.dieUp die.val = true ∧ s.tsSet die.val = true ∧ s.tim.windows = [] →
    
    ∃ t, exec (.backgroundTick die w) s = .next t ∧
      t.r die.val (.bgw .STATUS_profile) = 0 ∧ t.r die.val (.bgw .STATUS_base) = 1 ∧ t.r die.val (.bgw .STATUS_window) = 0 ∧
      ((1 ≤ die.val ∧ die.val ≤ 6) → (t.bg die.val).used = [0, 0, 0, 0, 0, 0] ∧ (t.bg die.val).fgWait = w.toNat) ∧
      ((1 ≤ die.val ∧ die.val ≤ 6) → s.r die.val (.bgw .THERM_CFG_start_c) ≤ s.junctionMax die.val → t.r die.val (.bgw .STATUS_therm_stage) = 2)) ∧
  -- PATROL_STRIPE
  (∀ (d : Cd) (g : Fin 4) (s : State), s.cdUp (cdId d) = true ∧ s.modeNow ≠ 0xB ∧ s.workRuns = true →
    (s.bg (cdId d)).patrol = none ∧ ((List.range 4).map (fun i => ((s.bg (cdId d)).lastGroup + 1 + i) % 4)).find? (fun g => s.patrols (cdId d) g) = some g.val →
    s.r (cdId d) (.bgw .PATROL_CFG_enable) = 1 ∧ s.bgMay (cdId d) 0 = true ∧ (s.grp_ (cdId d) g.val).locks.contains (s.r (cdId d) (.bgw .G_PATROL) g.val) = false →
    
    ∃ t, exec (.patrolStripe d) s = .next t ∧
      (t.bg (cdId d)).patrol = some (g.val, s.r (cdId d) (.bgw .G_PATROL) g.val, 1) ∧ (t.bg (cdId d)).lastGroup = g.val ∧ t.now = max s.now (s.bg (cdId d)).patrolAt ∧
      (t.grp_ (cdId d) g.val).locks = (s.grp_ (cdId d) g.val).locks ++ [s.r (cdId d) (.bgw .G_PATROL) g.val]) ∧
  -- PATROL_STRIPE
  (∀ (d : Cd) (g : Fin 4) (x : Nat) (s : State), s.cdUp (cdId d) = true ∧ s.modeNow ≠ 0xB ∧ s.workRuns = true →
    (s.bg (cdId d)).patrol = some (g.val, x, 2) ∧ s.drvQuiet (cdId d) (patrolOwner g.val x) = true ∧ s.patrols (cdId d) g.val = true ∧ x + 1 < 2 ^ 64 →
    
    ∃ t, exec (.patrolStripe d) s = .next t ∧
      (t.bg (cdId d)).patrol = none ∧ (t.grp_ (cdId d) g.val).locks = (s.grp_ (cdId d) g.val).locks.filter (fun y => y ≠ x) ∧
      t.r (cdId d) (.bgw .G_PATROL) g.val = (if x + 1 < (s.grp_ (cdId d) g.val).stripes then x + 1 else 0)) ∧
  -- BGW_SNAPSHOT
  (∀ (q : Req) (die : DieId) (s : State), s.hasDie die.val = true → 
    ∃ t, exec (.bgwSnapshot q die) s = .next t ∧
      (⟨die.val, 0x05, q.secure, s.counters die.val 0x05 (if 1 ≤ die.val ∧ die.val ≤ 6 then 8 else 2), 0⟩ : Snapshot) ∈ t.snaps) ∧
  -- PERF_COUNTER_LOG_PAGE
  (∀ (d : Cd) (k : Fin 32768) (s : State), s.cdUp (cdId d) = true ∧ ((s.slot (cdId d) k.val).state = 1 || (s.slot (cdId d) k.val).state = 2) = true ∧ (s.slot (cdId d) k.val).waiters = [] ∧ (s.slot (cdId d) k.val).cap.opcode = 2 ∧ (s.slot (cdId d) k.val).admin = true ∧ (s.slot (cdId d) k.val).cap.cdw10 % 256 = 0xD1 →
    
    ∃ t, exec (.perfCounterLogPage d k) s = .next t ∧
      (((((s.img.active.getD {}).hosts.find? (fun (h : HostEntry) => h.id = (s.slot (cdId d) k.val).host)).map (fun (h : HostEntry) => h.flags)).getD 0).testBit 2 = false → (t.slot (cdId d) k.val).status = some stAccessDenied) ∧
      (((((s.img.active.getD {}).hosts.find? (fun (h : HostEntry) => h.id = (s.slot (cdId d) k.val).host)).map (fun (h : HostEntry) => h.flags)).getD 0).testBit 2 = true → s.r (cdId d) (.pmc .ACCESS_host_enable) = 1 → (t.slot (cdId d) k.val).status = some 0 ∧ OutMsg.hostData (cdId d) (s.slot (cdId d) k.val).conn 2 (0xD1 :: ([s.ts64 (cdId d), s.ts64 0, cdId d - 1] ++ s.perfEntries (cdId d) ++ s.perfEntries 0)) ∈ t.out))

/-- The release order from power-on to the last channel die: crystal, fuses, straps, rails, clocks, dies, stacks. -/
def Obligations.ReleaseOrder : Prop :=
  -- POWER_ON_RELEASE
  (∀ (s : State), s.rst.phase = 0 ∧ s.rst.held = false → 
    ∃ t, exec (.powerOnRelease) s = .next t ∧
      t.rst.phase = 1 ∧ t.now = 0) ∧
  -- CRYSTAL_VALID
  (∀ (v : Option (BitVec 16)) (s : State), s.rst.phase = 1 → 
    ∃ t, exec (.crystalValid v) s = .next t ∧
      (v.any ppmOk = true → t.rst.phase = 2 ∧ t.r mdId (.clk .STATUS_xtal_ok) = 1) ∧
      (v = none → t.modeNow = 1 ∧ t.rst.xtalOut = true ∧ (⟨8, 2⟩ : Trig) ∈ t.mode.trigs ∧ t.now = max s.now (s.rst.at_ + 20000000))) ∧
  -- FUSE_LOAD_COMPLETE
  (∀ (s : State), s.rst.phase = 2 ∧ s.rst.held = false ∧ s.rst.cold = true →
    
    ∃ t, exec (.fuseLoadComplete) s = .next t ∧
      t.rst.phase = 3 ∧ t.modeNow = 1 ∧ t.now = max s.now (s.rst.at_ + 174080) ∧ t.mgt.sWdt.isSome = true ∧ t.mgt.nsWdt.isSome = true) ∧
  -- STRAP_READ
  (∀ (l : List (BitVec 12)) (n : Fin 16) (s : State), s.rst.phase = 3 ∧ l.length = 16 ∧ modeHasRow s.modeNow 8 = true →
    
    ∃ t, exec (.strapRead l) s = .next t ∧
      (l.map strapCode = List.replicate 16 (some n.val) → 1 ≤ n.val → n.val ≤ 13 → t.r mdId (.rst .STRAP_valid) = 1 ∧ t.r mdId (.rst .STRAP_code) = n.val ∧ t.rst.phase = 4 ∧ t.r mdId (.pwr .STATUS_seq_step) = 1) ∧
      (l.any (fun x => strapCode x = none) = true → t.r mdId (.rst .STRAP_valid) = 0 ∧ (⟨8, 1⟩ : Trig) ∈ t.mode.trigs)) ∧
  -- RAIL_STEP_COMPLETE
  (∀ (k : Fin 5) (s : State), s.rst.phase = 4 ∧ s.r mdId (.pwr .STATUS_seq_step) = k.val + 1 →
    
    ∃ t, exec (.railStepComplete) s = .next t ∧
      t.rbit mdId (.pwr .STATUS_pgood) k.val = true ∧ t.r mdId (.pwr .STATUS_seq_step) = k.val + 2 ∧ t.now = s.now + 100000 ∧
      t.rst.phase = (if k.val = 4 then 5 else 4)) ∧
  -- RAIL_STEP_TIMEOUT
  (∀ (s : State), (s.rst.phase = 4 ∨ s.rst.phase = 5) ∧ 1 ≤ s.r mdId (.pwr .STATUS_seq_step) ∧ s.r mdId (.pwr .STATUS_seq_step) ≤ 6 ∧ modeHasRow s.modeNow 8 = true →
    
    ∃ t, exec (.railStepTimeout) s = .next t ∧
      t.r mdId (.pwr .STATUS_enabled) = 0 ∧ t.r mdId (.pwr .STATUS_pgood) = 0 ∧ t.r mdId (.pwr .STATUS_seq_step) = 8 ∧ (⟨8, 2⟩ : Trig) ∈ t.mode.trigs) ∧
  -- CLOCK_CHECK_COMPLETE
  (∀ (r : BitVec 16) (l : List (BitVec 16)) (e : Option (BitVec 16)) (s : State), s.rst.phase = 5 ∧ s.r mdId (.pwr .STATUS_seq_step) = 6 ∧ ppmOk r = true ∧ l.length = s.channels ∧ l.all ppmOk = true ∧ modeHasRow s.modeNow 8 = true →
    
    ∃ t, exec (.clockCheckComplete r l e) s = .next t ∧
      t.r mdId (.pwr .STATUS_seq_step) = 7 ∧ (⟨8, 0⟩ : Trig) ∈ t.mode.trigs ∧ t.ep.refclk = e.any ppmOk ∧ t.r 0 (.clk .STATUS_ref156_ok) = 1) ∧
  -- DIE_RELEASE_STEP
  (∀ (k : Bool) (d : Nat) (s : State), s.rst.phase = 6 ∧ (0 :: s.cds.map cdId).find? (fun d => !s.rst.lat.contains d) = some d →
    
    ∃ t, exec (.dieReleaseStep k) s = .next t ∧
      t.rst.lat = s.rst.lat ++ [d] ∧ t.now = max s.now (s.rst.at_ + 2560)) ∧
  -- DIE_RELEASE_STEP
  (∀ (k : Bool) (d : Nat) (s : State), s.rst.phase = 7 ∧ (s.rst.freed.contains 0 = true → s.rst.cold = true ∧ (s.cds.map cdId).find? (fun d => !s.rst.freed.contains d && !(s.dieBits d).testBit 1) = some d) →
    
    ∃ t, exec (.dieReleaseStep k) s = .next t ∧
      (s.rst.freed.contains 0 = false → t.rst.freed = [0] ∧ t.r 0 (.cip .STATUS_kat_pass) = k.toNat) ∧
      (s.rst.freed.contains 0 = true → t.rst.freed = s.rst.freed ++ [d] ∧ t.rst.stackInit = s.rst.stackInit ++ [d])) ∧
  -- STACK_INIT_COMPLETE
  (∀ (c : Cd) (k : Bool) (s : State), s.rst.stackInit.contains (cdId c) = true → 
    ∃ t, exec (.stackInitComplete c k) s = .next t ∧
      (k = true → t.dieBits (cdId c) % 8 = 0 ∧ alGet t.rst.wdt (cdId c) = some (s.now + 1000000 * s.r (cdId c) (.rst .WDT_CFG_timeout_ms))) ∧
      (k = false → t.dieBits (cdId c) % 8 = 7 ∧ t.r (cdId c) (.cip .STATUS_kat_pass) = 0))

/-- Reset sources act at their levels, are recorded, and end as they say. -/
def Obligations.ResetSources : Prop :=
  -- RESET_N_ASSERT
  (∀ (s : State), s.rst.phase ≠ 0 ∧ s.modeNow ≠ 8 ∧ s.mode.trigs.any (fun t => t.code = 1 || t.code = 2 || t.code = 3) = false →
    
    ∃ t, exec (.resetNAssert) s = .next t ∧
      t.rst.held = true ∧ t.modeNow = 0 ∧
      (s.level 2 = 0 → t.rst.phase = 0 ∧ t.rst.cold = true ∧ t.r mdId (.rst .CAUSE_sources) = 4) ∧
      (s.level 2 ≠ 0 → t.rst.phase = 2 ∧ t.rst.prev = s.modeNow ∧ t.rbit mdId (.rst .CAUSE_sources) 2 = true)) ∧
  -- RESET_N_RELEASE
  (∀ (s : State), s.rst.held = true → 
    ∃ t, exec (.resetNRelease) s = .next t ∧
      t.rst.held = false ∧ (s.rst.phase = 0 → t.rst.phase = 1 ∧ t.now = 0) ∧ (s.rst.phase ≠ 0 → t.modeNow = 1 ∧ t.now = s.now + 10240)) ∧
  -- DEVICE_RAIL_UNDERVOLTAGE
  (∀ (s : State), s.r mdId (.pwr .STATUS_enabled) ≠ 0 → 
    ∃ t, exec (.deviceRailUndervoltage) s = .next t ∧
      t.rst.phase = 0 ∧ t.rst.cold = true ∧ t.modeNow = 0 ∧ t.r mdId (.rst .CAUSE_sources) = 2 ∧ t.sec.ledger = s.sec.ledger ∧ t.pending = s.pending) ∧
  -- STANDBY_SUPPLY_LOSS
  (∀ (s : State), 
    ∃ t, exec (.standbySupplyLoss) s = .next t ∧
      t.rst.phase = 0 ∧ t.rst.cold = true ∧ t.r mdId (.rst .CAUSE_sources) = 1 ∧ t.sec.ledger = s.sec.ledger ∧ t.mgt.fwA = s.mgt.fwA) ∧
  -- RST_CMD_PACKAGE
  (∀ (q : Req) (s : State), s.r mdId (.fls .STATUS_warning) = 0 ∧ s.modeNow ≠ 8 ∧ s.modeNow < 16 ∧ s.mode.trigs.any (fun t => t.code = 1 || t.code = 2 || t.code = 3) = false →
    
    ∃ t, exec (.rstCmdPackage q) s = .next t ∧
      (q.secure = true → t.modeNow = 1 ∧ t.r mdId (.mgt .MODE_previous) = s.modeNow ∧ t.rbit mdId (.rst .CAUSE_sources) 4 = true ∧ t.sec.ledger = s.sec.ledger) ∧
      (q.secure = false → t.modeNow = s.modeNow ∧ t.r mdId (.sec .EVENTS_world_violation) = 1)) ∧
  -- RST_CMD_DIE
  (∀ (q : Req) (c : Fin 8) (s : State), q.secure = true ∧ s.r mdId (.fls .STATUS_warning) = 0 ∧ s.modeNow ≠ 8 ∧ c.val < s.channels ∧ s.channels ≤ 6 ∧ s.r mdId (.sec .STATUS_locked) = 1 →
    (s.dieBits (cdId c.val)).testBit 1 = false ∧ s.rst.freed.contains (cdId c.val) = true ∧ s.rst.stackInit.contains (cdId c.val) = false ∧ s.rst.active.find? (fun e => e.1 = cdId c.val) = none →
    
    ∃ t, exec (.rstCmdDie q c) s = .next t ∧
      t.dieBits (cdId c.val) = 5 ∧ t.proof (cdId c.val) = 0 ∧ t.rst.active.contains (cdId c.val, 2, s.now) = true ∧ t.r mdId (.rst .EVENTS_die_reset) = 1) ∧
  -- RST_CMD_CHANNEL
  (∀ (q : Req) (c : Fin 8) (s : State), q.secure = true ∧ s.r mdId (.fls .STATUS_warning) = 0 ∧ c.val < s.channels ∧ s.channels ≤ 6 →
    (s.dieBits (cdId c.val)).testBit 1 = false ∧ s.rst.freed.contains (cdId c.val) = true ∧ s.rst.stackInit.contains (cdId c.val) = false ∧ s.rst.active.find? (fun e => e.1 = cdId c.val) = none →
    
    ∃ t, exec (.rstCmdChannel q c) s = .next t ∧
      (s.modeNow ≠ 8 → t.dieBits (cdId c.val) % 8 = 1 ∧ t.proof (cdId c.val) = s.proof (cdId c.val) ∧ t.rst.active.contains (cdId c.val, 3, s.now) = true ∧ t.r mdId (.rst .EVENTS_channel_reset) = 1) ∧
      (s.modeNow = 8 → t.dieBits (cdId c.val) = s.dieBits (cdId c.val) ∧ t.rst.active = s.rst.active ∧ t.r mdId (.rst .EVENTS_cmd_refused) = 1)) ∧
  -- CD_WATCHDOG_KICK
  (∀ (c : Cd) (x : Nat) (s : State), s.cdUp (cdId c) = true ∧ alGet s.rst.wdt (cdId c) = some x →
    
    ∃ t, exec (.cdWatchdogKick c) s = .next t ∧
      alGet t.rst.wdt (cdId c) = some (s.now + 1000000 * s.r (cdId c) (.rst .WDT_CFG_timeout_ms))) ∧
  -- CD_WATCHDOG_EXPIRY
  (∀ (c : Cd) (x : Nat) (s : State), s.cdUp (cdId c) = true ∧ alGet s.rst.wdt (cdId c) = some x ∧ s.rst.resets = [] →
    s.rst.freed.contains (cdId c) = true ∧ s.rst.stackInit.contains (cdId c) = false ∧ s.rst.active.find? (fun e => e.1 = cdId c) = none →
    
    ∃ t, exec (.cdWatchdogExpiry c) s = .next t ∧
      t.rbit mdId (.rst .CAUSE_sources) 7 = true ∧ t.now = max s.now x ∧ t.rst.resets = [(cdId c, t.now)] ∧ t.rst.active.any (fun e => e.1 = cdId c && e.2.2 = t.now) = true) ∧
  -- CD_FATAL_ERROR
  (∀ (c : Cd) (s : State), s.cdUp (cdId c) = true ∧ s.rst.freed.contains (cdId c) = true ∧ s.rst.stackInit.contains (cdId c) = false ∧ s.rst.active.find? (fun e => e.1 = cdId c) = none →
    
    ∃ t, exec (.cdFatalError c) s = .next t ∧
      t.rbit mdId (.rst .CAUSE_sources) 8 = true ∧
      (s.rst.resets = [] → t.rst.active.any (fun e => e.1 = cdId c && e.2.2 = s.now) = true) ∧
      (s.rst.resets = [(cdId c, s.now), (cdId c, s.now)] → t.dieBits (cdId c) % 8 = 7 ∧ t.chanFailed (cdId c) = true)) ∧
  -- PD_WATCHDOG_EXPIRY
  (∀ (s : State), s.rst.freed.contains 0 = true ∧ modeHasRow s.modeNow 5 = true →
    
    ∃ t, exec (.pdWatchdogExpiry) s = .next t ∧
      (⟨5, 9⟩ : Trig) ∈ t.mode.trigs) ∧
  -- JTAG_RESET_REQUEST
  (∀ (s : State), s.modeNow ≠ 8 ∧ s.mode.trigs.any (fun t => t.code = 1 || t.code = 2 || t.code = 3) = false →
    
    ∃ t, exec (.jtagResetRequest) s = .next t ∧
      (s.r mdId (.sec .DEBUG_scope) ≠ 0 → t.modeNow = 1 ∧ t.rbit mdId (.rst .CAUSE_sources) 9 = true) ∧
      (s.r mdId (.sec .DEBUG_scope) = 0 → t = s)) ∧
  -- DIE_RESET_RELEASE
  (∀ (c : Cd) (m : Bool) (x y : Nat) (s : State), s.rst.active.find? (fun e => e.1 = cdId c && e.2.1 = 2) = some (cdId c, 2, x) ∧ s.chanFailed (cdId c) = false →
    
    ∃ t, exec (.dieResetRelease c m true y true) s = .next t ∧
      t.now = max s.now (x + 10240) ∧ alGet t.sec.measured (cdId c + 4) = some y ∧
      (m = true → t.proof (cdId c) = 7 ∧ t.r (cdId c) (.sec .STATUS_locked) = 1 ∧ t.dieBits (cdId c) = 8 ∧ t.r (cdId c) (.cmd .GATE_refuse) = 2) ∧
      (m = false → t.dieBits (cdId c) % 8 = 7 ∧ t.chanFailed (cdId c) = true ∧ t.r mdId (.sec .EVENTS_proof_mismatch) = 1)) ∧
  -- CHANNEL_RESET_RELEASE
  (∀ (c : Cd) (x : Nat) (s : State), s.rst.active.find? (fun e => e.1 = cdId c && e.2.1 = 3) = some (cdId c, 3, x) ∧ s.chanFailed (cdId c) = false →
    
    ∃ t, exec (.channelResetRelease c true) s = .next t ∧
      t.now = max s.now (x + 2560) ∧ t.dieBits (cdId c) % 8 = 0 ∧ t.r (cdId c) (.grp .STATUS_recovering) = 1 ∧ t.r (cdId c) (.cmd .GATE_refuse) = 2)

/-- Lost clocks fail a die or the package, and the voltage loop moves a die's set point inside its limits. -/
def Obligations.ClocksAndVoltage : Prop :=
  -- REFCLK_OR_PLL_LOSS
  (∀ (w : Fin 3) (s : State), 4 ≤ s.rst.phase ∧ s.modeNow ≠ 1 ∧ modeHasRow s.modeNow 5 = true →
    
    ∃ t, exec (.refclkOrPllLoss w) s = .next t ∧
      (⟨5, 9⟩ : Trig) ∈ t.mode.trigs ∧
      (w = 0 → t.r 0 (.clk .EVENTS_ref156_lost) = 1 ∧ t.r 0 (.clk .STATUS_ref156_ok) = 0) ∧
      (w = 1 → t.r 0 (.clk .STATUS_pll_lock) = 0 ∧ t.r 0 (.clk .EVENTS_pll_unlock) = 1)) ∧
  -- CD_CLOCK_LOSS
  (∀ (c : Cd) (p : Bool) (s : State), s.cdUp (cdId c) = true → 
    ∃ t, exec (.cdClockLoss c p) s = .next t ∧
      t.dieBits (cdId c) % 8 = 7 ∧ t.chanFailed (cdId c) = true ∧ t.r mdId (.rst .EVENTS_cd_held_out) = 1 ∧
      (p = true → t.r (cdId c) (.clk .EVENTS_pll_unlock) = 1) ∧ (p = false → t.r (cdId c) (.clk .EVENTS_drv_ref_lost) = 1)) ∧
  -- EP_REFCLK_INVALID
  (∀ (s : State), 4 ≤ s.rst.phase ∧ s.ep.refclk = true ∧ s.rst.freed.contains 0 = true →
    
    ∃ t, exec (.epRefclkInvalid false) s = .next t ∧
      t.ep.refclk = false ∧ t.r 0 (.clk .EVENTS_ep_ref_lost) = 1 ∧ t.r 0 (.epf .STATUS_link_state) = 0 ∧ t.r 0 (.epf .STATUS_num_vfs) = 0) ∧
  -- CRYSTAL_OUT_OF_RANGE
  (∀ (v : BitVec 16) (s : State), 3 ≤ s.rst.phase ∧ ppmOk v = false → 
    ∃ t, exec (.crystalOutOfRange v) s = .next t ∧
      t.rst.xtalOut = true ∧ t.r mdId (.clk .STATUS_xtal_ok) = 0 ∧ t.r mdId (.clk .EVENTS_xtal_out_of_range) = 1) ∧
  -- CRYSTAL_BACK_IN_RANGE
  (∀ (v : BitVec 16) (s : State), s.rst.xtalOut = true ∧ ppmOk v = true → 
    ∃ t, exec (.crystalBackInRange v) s = .next t ∧
      t.rst.xtalOut = false ∧ t.r mdId (.clk .STATUS_xtal_ok) = 1) ∧
  -- AVS_LOOP_INTERVAL
  (∀ (d : Fin 7) (x : BitVec 8) (v : BitVec 16) (f : Bool) (s : State), s.loopRuns d.val = true ∧ s.r mdId (.pwr .D_SLACK_avs_fault) d.val = 0 ∧ s.r mdId (.pwr .LOOP_CFG2_hold) = 0 ∧ s.r mdId (.pwr .D_LIMITS_vmax_mv) d.val < 2 ^ 16 ∧ s.r mdId (.pwr .D_LIMITS_vmin_mv) d.val < 2 ^ 16 ∧ s.r mdId (.pwr .D_VOLT_read_mv) d.val < 2 ^ 16 →
    
    ∃ t, exec (.avsLoopInterval d x (some v) f) s = .next t ∧
      (f = false → t.r mdId (.pwr .D_VOLT_read_mv) d.val = v.toNat ∧ t.r mdId (.pwr .D_SLACK_min_pct) d.val = x.toNat) ∧
      (f = false → x.toNat < s.r mdId (.pwr .LOOP_CFG_target_lo_pct) → t.r mdId (.pwr .D_VOLT_set_mv) d.val = max (s.r mdId (.pwr .D_LIMITS_vmin_mv) d.val) (min (s.r mdId (.pwr .D_VOLT_set_mv) d.val + s.r mdId (.pwr .LOOP_CFG_step_mv)) (s.r mdId (.pwr .D_LIMITS_vmax_mv) d.val))) ∧
      (f = true → t.r mdId (.pwr .D_SLACK_avs_fault) d.val = 1 ∧ t.r mdId (.pwr .EVENTS_avs_fault) = 1 ∧ t.r mdId (.pwr .D_VOLT_set_mv) d.val = s.r mdId (.pwr .D_VOLT_read_mv) d.val)) ∧
  -- SLACK_EMERGENCY
  (∀ (d : Fin 7) (x : BitVec 8) (s : State), s.loopRuns d.val = true ∧ x.toNat < s.r mdId (.pwr .LOOP_CFG_emerg_pct) ∧ alGet s.rst.stretched d.val = none →
    s.r mdId (.pwr .D_SLACK_avs_fault) d.val = 0 ∧ s.r mdId (.pwr .D_LIMITS_vmax_mv) d.val < 2 ^ 16 ∧ s.r mdId (.pwr .D_LIMITS_vmin_mv) d.val < 2 ^ 16 →
    
    ∃ t, exec (.slackEmergency d x) s = .next t ∧
      alGet t.rst.stretched d.val = some s.now ∧ t.r mdId (.pwr .EVENTS_emergency) = 1 ∧
      t.r mdId (.pwr .D_VOLT_set_mv) d.val = max (s.r mdId (.pwr .D_LIMITS_vmin_mv) d.val) (min (s.r mdId (.pwr .D_VOLT_set_mv) d.val + 4 * s.r mdId (.pwr .LOOP_CFG_step_mv)) (s.r mdId (.pwr .D_LIMITS_vmax_mv) d.val))) ∧
  -- SLACK_EMERGENCY_TIMEOUT
  (∀ (d : Fin 7) (x : Nat) (s : State), alGet s.rst.stretched d.val = some x ∧ s.loopRuns d.val = true ∧ s.r mdId (.pwr .D_VOLT_set_mv) d.val = s.r mdId (.pwr .D_LIMITS_vmax_mv) d.val ∧ modeHasRow s.modeNow 5 = true →
    
    ∃ t, exec (.slackEmergencyTimeout d) s = .next t ∧
      t.now = max s.now (x + 100000) ∧
      (d.val ≠ 0 → t.dieBits d.val % 8 = 7 ∧ t.chanFailed d.val = true) ∧ (d.val = 0 → (⟨5, 9⟩ : Trig) ∈ t.mode.trigs)) ∧
  -- VOLTAGE_RECAL_MONITOR
  (∀ (d : Fin 7) (s : State), s.loopRuns d.val = true ∧ s.tim.windows.any (fun w => w.die = d.val && w.entry.kind = 5 && decide (s.ts64 d.val + 100000 ≤ w.closes)) = true ∧ (s.profile d.val).recal ≠ 0 ∧ 3 ≤ s.modeNow ∧ s.modeNow ≤ 0xA →
    
    ∃ t, exec (.voltageRecalMonitor d) s = .next t ∧
      t.r mdId (.pwr .D_CAL_next) d.val = (s.r mdId (.pwr .D_CAL_next) d.val + 1) % (if d.val = 0 then 32 else 16) ∧ t.now = s.now + 100000)

/-- Push Region Info reports the Valid region with the lowest index that names its connection, or completes as refused. -/
def Obligations.PushRegionInfoRule : Prop :=
  -- PUSH_REGION_INFO
  (∀ (d : Cd) (k : Fin 32768) (i : Nat) (s : State), s.cdUp (cdId d) = true ∧ ((s.slot (cdId d) k.val).state = 1 || (s.slot (cdId d) k.val).state = 2) = true ∧ (s.slot (cdId d) k.val).waiters = [] ∧ (s.slot (cdId d) k.val).cap.opcode = 0x7F ∧ (s.slot (cdId d) k.val).cap.nsid % 256 = 0xC2 →
    
    ∃ t, exec (.pushRegionInfo d k) s = .next t ∧
      (s.rdx.regions.any (fun e => e.1 = (cdId d, i) && e.2.state = 1 && e.2.f.conn = (s.slot (cdId d) k.val).conn) = true →
      s.rdx.regions.all (fun e => !(e.1.1 = cdId d && e.2.state = 1 && e.2.f.conn = (s.slot (cdId d) k.val).conn) || decide (i ≤ e.1.2)) = true →
      (t.slot (cdId d) k.val).status = some 0 ∧ (t.slot (cdId d) k.val).dw0 = i * 65536 + (s.region (cdId d) i).tag ∧ (t.slot (cdId d) k.val).dw1 = (s.region (cdId d) i).f.length / 4096) ∧
      (s.rdx.regions.any (fun e => e.1.1 = cdId d && e.2.state = 1 && e.2.f.conn = (s.slot (cdId d) k.val).conn) = false → (t.slot (cdId d) k.val).status = some stPushRefused))

/-- A bay enters Limit from On and returns to On; a stay in Limit of limit_ms is fault 0x1, which counts. -/
def Obligations.LimitRule : Prop :=
  -- BAY_LIMIT_ENTRY
  (∀ (bay : Fin 48) (s : State), s.bayRuns = true ∧ bay.val < 8 * s.channels ∧ s.bay.offering = false →
    (s.baySt bay.val) = 5 → 
    ∃ t, exec (.bayLimitEntry bay) s = .next t ∧
      (t.baySt bay.val) = 6 ∧ (t.bayR bay.val).limitAt = s.now) ∧
  -- BAY_LIMIT_EXIT
  (∀ (bay : Fin 48) (s : State), s.bayRuns = true ∧ bay.val < 8 * s.channels ∧ s.bay.offering = false →
    (s.baySt bay.val) = 6 → 
    ∃ t, exec (.bayLimitExit bay) s = .next t ∧
      (t.baySt bay.val) = 5) ∧
  -- BAY_LIMIT_TIMEOUT
  (∀ (bay : Fin 48) (s : State), s.bayRuns = true ∧ bay.val < 8 * s.channels ∧ s.bay.offering = false →
    (s.baySt bay.val) = 6 → 
    ∃ t, exec (.bayLimitTimeout bay) s = .next t ∧
      t.r mdId (.bay .B_FAULT_cause) bay.val = 1 ∧ t.r mdId (.bay .EVENTS_fault) = 1 ∧ t.now = max s.now ((s.bayR bay.val).limitAt + 1000000 * s.r mdId (.bay .CFG_LIMIT_limit_ms)) ∧
      (t.bayR bay.val).n = (s.bayR bay.val).n + 1 ∧ (t.baySt bay.val) = (if s.r mdId (.bay .CFG_RETRY_retries_max) < (s.bayR bay.val).n + 1 then 9 else 8) ∧
      ((Fld.bay .CFG_LIMIT_limit_ms).spec.rmin, (Fld.bay .CFG_LIMIT_limit_ms).spec.rmax, (Fld.bay .CFG_LIMIT_limit_ms).spec.reset) = (1, 100, 10))

/-- A Standby that cannot locate a mirrored write's data within the match limit raises its event and treats the mirror as
lost. -/
def Obligations.MirrorMatchRule : Prop :=
  -- MIRROR_MATCH_TIMEOUT
  (∀ (d : Cd) (m : MirrorIn) (s : State), s.cdUp (cdId d) = true ∧ s.modeNow ≠ 0xB ∧ s.modeNow = 6 →
    (s.sp (cdId d)).incoming.find? (fun m => !m.located) = some m →
    
    ∃ t, exec (.mirrorMatchTimeout d) s = .next t ∧
      t.spg.mirrorLost = true ∧ t.now = max s.now (m.arrived + 1000 * s.r (cdId d) (.spg .MIRROR_CFG_match_limit_us)) ∧
      t.r (cdId d) (.spg .EVENTS_mirror_match_timeout) = 1 ∧
      ((Fld.spg .MIRROR_CFG_match_limit_us).spec.rmin, (Fld.spg .MIRROR_CFG_match_limit_us).spec.rmax, (Fld.spg .MIRROR_CFG_match_limit_us).spec.reset) = (10, 10000, 1000))
end

