-- ==== Sys2Proof/Laws/Keep.lean ====
section
/-! SUPPORT. What every operation keeps, said once for each.  `Good M s0 q s` says that `s` differs from `s0` at most in the
parts whose bits are set in `M`, and that it is tidy if `q` holds; `Cover m M` says that `M` has the bits of `m`.  This file has
the notions, the rules by which they pass through a state's making, and the operations that touch what Tidy speaks of. -/

set_option Elab.async false

set_option linter.all false

namespace Sys2Proof.Machine

/-- A part's bit. -/
def Part.idx : Part → Nat
  | .now => 0
  | .fresh => 1
  | .channels => 2
  | .snaps => 3
  | .latches => 4
  | .logq => 5
  | .out => 6
  | .lat => 7
  | .mode => 8
  | .tim => 9
  | .pmc => 10
  | .sec => 11
  | .img => 12
  | .eth => 13
  | .swx => 14
  | .sch => 15
  | .rdx => 16
  | .cmd => 17
  | .spg => 18
  | .grp => 19
  | .rsh => 20
  | .drv => 21
  | .cip => 22
  | .pair => 23
  | .fls => 24
  | .bay => 25
  | .ep => 26
  | .mgt => 27
  | .bgw => 28
  | .rst => 29
  | .pending => 30
  | .regs b => 32 + 2 * b
  | .ctrs b => 33 + 2 * b

theorem Part.idx_inj {a b : Part} (h : a.idx = b.idx) : a = b := by
  cases a <;> cases b <;> first | rfl | (simp only [Part.idx] at h; omega) | (simp only [Part.idx] at h; congr 1; omega)

/-- The bits of a list of parts. -/
def maskOf : List Part → Nat
  | [] => 0
  | p :: l => 2 ^ p.idx ||| maskOf l

theorem mem_of_maskOf {p : Part} {l : List Part} (h : (maskOf l).testBit p.idx = true) : p ∈ l := by
  induction l with
  | nil => simp [maskOf] at h
  | cons a l ih =>
    rw [maskOf, Nat.testBit_lor, Bool.or_eq_true, Nat.testBit_two_pow] at h
    rcases h with h | h
    · exact List.mem_cons.2 (.inl (Part.idx_inj (by simpa using h)).symm)
    · exact List.mem_cons_of_mem _ (ih h)

theorem maskOf_of_mem {p : Part} {l : List Part} (h : p ∈ l) : (maskOf l).testBit p.idx = true := by
  induction l with
  | nil => cases h
  | cons a l ih =>
    rw [maskOf, Nat.testBit_lor, Bool.or_eq_true, Nat.testBit_two_pow]
    rcases List.mem_cons.1 h with rfl | h
    · exact .inl (by simp)
    · exact .inr (ih h)

/-- M has the bits of m. -/
def Cover (m M : Nat) : Prop := m &&& M = m

theorem Cover.sub {m k M : Nat} (h : Cover m M) (e : k &&& m = k) : Cover k M := by
  unfold Cover at *
  rw [← e, Nat.land_assoc, h]

theorem Cover.bit {m M : Nat} (h : Cover m M) {k : Nat} (e : m.testBit k = true) : M.testBit k = true := by
  have := congrArg (fun x => x.testBit k) h
  simp only [Nat.testBit_land, e, Bool.true_and] at this
  exact this

theorem Cover.zero (M : Nat) : Cover 0 M := Nat.zero_and M

theorem Cover.or {a b M : Nat} (ha : Cover a M) (hb : Cover b M) : Cover (a ||| b) M := by
  unfold Cover at *
  rw [Nat.and_or_distrib_right, ha, hb]

theorem Cover.pow {k M : Nat} (h : M.testBit k = true) : Cover (2 ^ k) M := by
  unfold Cover
  apply Nat.eq_of_testBit_eq
  intro i
  rw [Nat.testBit_and, Nat.testBit_two_pow]
  by_cases e : k = i
  · subst e
    simp [h]
  · simp [e]

/-- A list of parts covers a shorter one. -/
theorem Cover.ofList {l' l : List Part} (h : ∀ p ∈ l', p ∈ l) : Cover (maskOf l') (maskOf l) := by
  induction l' with
  | nil => exact .zero _
  | cons a l' ih =>
    exact .or (.pow (maskOf_of_mem (h a (by simp)))) (ih fun p hp => h p (List.mem_cons_of_mem _ hp))

/-- The state differs from s0 at most in the parts of M, and is tidy if q holds. -/
structure Good (M : Nat) (s0 : State) (q : Prop) (s : State) : Prop where
  kept : ∀ p : Part, M.testBit p.idx = false → p.same s0 s
  tidy : q → Tidy s

/-- A command answers a next state that is good. -/
def OutGood (M : Nat) (s0 : State) (q : Prop) (o : Out) : Prop := ∃ t, o = .next t ∧ Good M s0 q t

variable {M : Nat} {s0 : State} {q : Prop} {s : State}

theorem Good.refl (s0 : State) (h : q → Tidy s0) : Good M s0 q s0 :=
  ⟨fun p _ => by cases p <;> simp [Part.same], h⟩

/-- What a footprint of parts leaves is the same. -/
theorem Good.frame {l : List Part} (h : Good (maskOf l) s0 q s) (p : Part) (hp : p ∉ l) : p.same s0 s :=
  h.kept p (by
    cases e : (maskOf l).testBit p.idx
    · rfl
    · exact absurd (mem_of_maskOf e) hp)

theorem OutGood.of {t : State} (h : Good M s0 q t) : OutGood M s0 q (.next t) := ⟨t, rfl, h⟩

/-- A state given by its parts is good. -/
structure GoodParts (M : Nat) (s0 : State) (q : Prop) (now : Nat) (fresh : Nat) (channels : Nat) (regs : List (RegKey × Nat)) (ctrs : List (CtrKey × Nat)) (snaps : List Snapshot) (latches : List Latch) (logq : List LogRec) (out : List OutMsg) (lat : LatState) (mode : ModeState) (tim : TimState) (pmc : PmcState) (sec : SecState) (img : ImgState) (eth : EthState) (swx : SwxState) (sch : SchState) (rdx : RdxState) (cmd : CmdState) (spg : SpgState) (grp : GrpState) (rsh : RshState) (drv : DrvState) (cip : CipState) (pair : PairState) (fls : FlsState) (bay : BayState) (ep : EpState) (mgt : MgtState) (bgw : List (Nat × BgwDie)) (rst : RstState) (pending : List Instr) : Prop where
  good : Good M s0 q (State.mk now fresh channels regs ctrs snaps latches logq out lat mode tim pmc sec img eth swx sch rdx cmd spg grp rsh drv cip pair fls bay ep mgt bgw rst pending)

theorem good_mk_iff {now : Nat} {fresh : Nat} {channels : Nat} {regs : List (RegKey × Nat)} {ctrs : List (CtrKey × Nat)} {snaps : List Snapshot} {latches : List Latch} {logq : List LogRec} {out : List OutMsg} {lat : LatState} {mode : ModeState} {tim : TimState} {pmc : PmcState} {sec : SecState} {img : ImgState} {eth : EthState} {swx : SwxState} {sch : SchState} {rdx : RdxState} {cmd : CmdState} {spg : SpgState} {grp : GrpState} {rsh : RshState} {drv : DrvState} {cip : CipState} {pair : PairState} {fls : FlsState} {bay : BayState} {ep : EpState} {mgt : MgtState} {bgw : List (Nat × BgwDie)} {rst : RstState} {pending : List Instr} :
    Good M s0 q (State.mk now fresh channels regs ctrs snaps latches logq out lat mode tim pmc sec img eth swx sch rdx cmd spg grp rsh drv cip pair fls bay ep mgt bgw rst pending) ↔ GoodParts M s0 q now fresh channels regs ctrs snaps latches logq out lat mode tim pmc sec img eth swx sch rdx cmd spg grp rsh drv cip pair fls bay ep mgt bgw rst pending :=
  ⟨fun h => ⟨h⟩, fun h => h.good⟩

theorem good_foldS {α : Type} {f : State → α → State} {l : List α} (hf : ∀ x a, Good M s0 q x → Good M s0 q (f x a))
    (h : Good M s0 q s) : Good M s0 q (foldS f s l) := by
  induction l generalizing s with
  | nil => exact h
  | cons a l ih => exact ih (hf s a h)

theorem good_ite {c : Prop} [Decidable c] {a b : State} (ha : Good M s0 q a) (hb : Good M s0 q b) :
    Good M s0 q (if c then a else b) := by
  split
  · exact ha
  · exact hb

theorem OutGood.ite {c : Prop} [Decidable c] {a b : Out} (ha : OutGood M s0 q a) (hb : OutGood M s0 q b) :
    OutGood M s0 q (if c then a else b) := by
  split
  · exact ha
  · exact hb

/-! ### Association lists -/

theorem mem_alPut {κ α : Type} [DecidableEq κ] {l : List (κ × α)} {k : κ} {v : α} {e : κ × α} (h : e ∈ alPut l k v) :
    e = (k, v) ∨ e ∈ l := by
  induction l with
  | nil => exact .inl (by simpa [alPut] using h)
  | cons a l ih =>
    obtain ⟨k', v'⟩ := a
    simp only [alPut] at h
    split at h
    · rcases List.mem_cons.1 h with h | h
      · exact .inl h
      · exact .inr (List.mem_cons_of_mem _ h)
    · rcases List.mem_cons.1 h with h | h
      · exact .inr (by simp [h])
      · exact (ih h).imp id (List.mem_cons_of_mem _)

theorem mem_keys_alPut {κ α : Type} [DecidableEq κ] {l : List (κ × α)} {k x : κ} {v : α} (h : x ∈ (alPut l k v).map Prod.fst) :
    x = k ∨ x ∈ l.map Prod.fst := by
  obtain ⟨e, he, rfl⟩ := List.mem_map.1 h
  rcases mem_alPut he with rfl | he
  · exact .inl rfl
  · exact .inr (List.mem_map_of_mem he)

theorem nodup_alPut {κ α : Type} [DecidableEq κ] {l : List (κ × α)} {k : κ} {v : α} (h : (l.map Prod.fst).Nodup) :
    ((alPut l k v).map Prod.fst).Nodup := by
  induction l with
  | nil => simp [alPut]
  | cons a l ih =>
    obtain ⟨k', v'⟩ := a
    obtain ⟨h1, h2⟩ := List.nodup_cons.1 h
    simp only [alPut]
    split
    · next e => subst e; exact List.nodup_cons.2 ⟨h1, h2⟩
    · next e =>
      refine List.nodup_cons.2 ⟨fun hm => ?_, ih h2⟩
      rcases mem_keys_alPut hm with e' | hm
      · exact e e'
      · exact h1 hm


theorem alGet_filter {κ α : Type} [DecidableEq κ] {l : List (κ × α)} {k : κ} {f : κ × α → Bool}
    (hf : ∀ v, f (k, v) = true) : alGet (l.filter f) k = alGet l k := by
  induction l with
  | nil => rfl
  | cons a l ih =>
    obtain ⟨k', v⟩ := a
    by_cases e : k' = k
    · subst e
      simp [List.filter, hf, alGet]
    · by_cases g : f (k', v) = true
      · simp [List.filter, g, alGet, e, ih]
      · simp [List.filter, g, alGet, e, ih]

theorem alGet_alPut {κ α : Type} [DecidableEq κ] (l : List (κ × α)) (k k' : κ) (v : α) :
    alGet (alPut l k v) k' = if k = k' then some v else alGet l k' := by
  induction l with
  | nil => simp [alPut, alGet]
  | cons a l ih =>
    obtain ⟨a, x⟩ := a
    simp only [alPut]
    by_cases h : a = k
    · subst h
      by_cases h' : a = k' <;> simp [alGet, h']
    · by_cases h' : a = k'
      · subst h'
        simp [alGet, h, Ne.symm h]
      · simp [alGet, h, h', ih]

/-- The bits of every block's registers, and of every block's counters. -/
def allRegs : Nat := 0x1500015555000005550015555400000000
def allCtrs : Nat := 0xaaaaaaaaaaaaaaaaaaaaaaaaaaaaaaaa00000000

theorem allRegs_bit (f : Fld) : allRegs.testBit (32 + 2 * f.block) = true := by
  cases f <;> (dsimp only [Fld.block]; rfl)

theorem allCtrs_bit {b : Nat} (h : b < 64) : allCtrs.testBit (33 + 2 * b) = true := by
  revert b
  decide

/-! ### A state from its parts -/

/-- A state that differs from a good one in parts of M only, and whose fields, counters, latches and buffers are the same or
fewer, is good. -/
theorem GoodParts.less (h : Good M s0 q s) {now : Nat} {fresh : Nat} {channels : Nat} {regs : List (RegKey × Nat)} {ctrs : List (CtrKey × Nat)} {snaps : List Snapshot} {latches : List Latch} {logq : List LogRec} {out : List OutMsg} {lat : LatState} {mode : ModeState} {tim : TimState} {pmc : PmcState} {sec : SecState} {img : ImgState} {eth : EthState} {swx : SwxState} {sch : SchState} {rdx : RdxState} {cmd : CmdState} {spg : SpgState} {grp : GrpState} {rsh : RshState} {drv : DrvState} {cip : CipState} {pair : PairState} {fls : FlsState} {bay : BayState} {ep : EpState} {mgt : MgtState} {bgw : List (Nat × BgwDie)} {rst : RstState} {pending : List Instr}
    (hr : regs = s.regs ∨ (regs.Sublist s.regs ∧
      ∀ k : RegKey, M.testBit (32 + 2 * k.fld.block) = false → alGet regs k = alGet s.regs k))
    (hc : ctrs = s.ctrs ∨ (ctrs.Sublist s.ctrs ∧
      ∀ k : CtrKey, M.testBit (33 + 2 * k.blk) = false → k.blk < 64 → alGet ctrs k = alGet s.ctrs k))
    (hs : snaps = s.snaps ∨ (M.testBit 3 = true ∧ snaps.Sublist s.snaps))
    (hl : latches = s.latches ∨ (M.testBit 4 = true ∧ latches.Sublist s.latches))
    (h_now : M.testBit 0 = true ∨ now = s.now := by
      first | exact .inr rfl | exact .inl (Cover.bit (by assumption) rfl))
    (h_fresh : M.testBit 1 = true ∨ fresh = s.fresh := by
      first | exact .inr rfl | exact .inl (Cover.bit (by assumption) rfl))
    (h_channels : M.testBit 2 = true ∨ channels = s.channels := by
      first | exact .inr rfl | exact .inl (Cover.bit (by assumption) rfl))
    (h_logq : M.testBit 5 = true ∨ logq = s.logq := by
      first | exact .inr rfl | exact .inl (Cover.bit (by assumption) rfl))
    (h_out : M.testBit 6 = true ∨ out = s.out := by
      first | exact .inr rfl | exact .inl (Cover.bit (by assumption) rfl))
    (h_lat : M.testBit 7 = true ∨ lat = s.lat := by
      first | exact .inr rfl | exact .inl (Cover.bit (by assumption) rfl))
    (h_mode : M.testBit 8 = true ∨ mode = s.mode := by
      first | exact .inr rfl | exact .inl (Cover.bit (by assumption) rfl))
    (h_tim : M.testBit 9 = true ∨ tim = s.tim := by
      first | exact .inr rfl | exact .inl (Cover.bit (by assumption) rfl))
    (h_pmc : M.testBit 10 = true ∨ pmc = s.pmc := by
      first | exact .inr rfl | exact .inl (Cover.bit (by assumption) rfl))
    (h_sec : M.testBit 11 = true ∨ sec = s.sec := by
      first | exact .inr rfl | exact .inl (Cover.bit (by assumption) rfl))
    (h_img : M.testBit 12 = true ∨ img = s.img := by
      first | exact .inr rfl | exact .inl (Cover.bit (by assumption) rfl))
    (h_eth : M.testBit 13 = true ∨ eth = s.eth := by
      first | exact .inr rfl | exact .inl (Cover.bit (by assumption) rfl))
    (h_swx : M.testBit 14 = true ∨ swx = s.swx := by
      first | exact .inr rfl | exact .inl (Cover.bit (by assumption) rfl))
    (h_sch : M.testBit 15 = true ∨ sch = s.sch := by
      first | exact .inr rfl | exact .inl (Cover.bit (by assumption) rfl))
    (h_rdx : M.testBit 16 = true ∨ rdx = s.rdx := by
      first | exact .inr rfl | exact .inl (Cover.bit (by assumption) rfl))
    (h_cmd : M.testBit 17 = true ∨ cmd = s.cmd := by
      first | exact .inr rfl | exact .inl (Cover.bit (by assumption) rfl))
    (h_spg : M.testBit 18 = true ∨ spg = s.spg := by
      first | exact .inr rfl | exact .inl (Cover.bit (by assumption) rfl))
    (h_grp : M.testBit 19 = true ∨ grp = s.grp := by
      first | exact .inr rfl | exact .inl (Cover.bit (by assumption) rfl))
    (h_rsh : M.testBit 20 = true ∨ rsh = s.rsh := by
      first | exact .inr rfl | exact .inl (Cover.bit (by assumption) rfl))
    (h_drv : M.testBit 21 = true ∨ drv = s.drv := by
      first | exact .inr rfl | exact .inl (Cover.bit (by assumption) rfl))
    (h_cip : M.testBit 22 = true ∨ cip = s.cip := by
      first | exact .inr rfl | exact .inl (Cover.bit (by assumption) rfl))
    (h_pair : M.testBit 23 = true ∨ pair = s.pair := by
      first | exact .inr rfl | exact .inl (Cover.bit (by assumption) rfl))
    (h_fls : M.testBit 24 = true ∨ fls = s.fls := by
      first | exact .inr rfl | exact .inl (Cover.bit (by assumption) rfl))
    (h_bay : M.testBit 25 = true ∨ bay = s.bay := by
      first | exact .inr rfl | exact .inl (Cover.bit (by assumption) rfl))
    (h_ep : M.testBit 26 = true ∨ ep = s.ep := by
      first | exact .inr rfl | exact .inl (Cover.bit (by assumption) rfl))
    (h_mgt : M.testBit 27 = true ∨ mgt = s.mgt := by
      first | exact .inr rfl | exact .inl (Cover.bit (by assumption) rfl))
    (h_bgw : M.testBit 28 = true ∨ bgw = s.bgw := by
      first | exact .inr rfl | exact .inl (Cover.bit (by assumption) rfl))
    (h_rst : M.testBit 29 = true ∨ rst = s.rst := by
      first | exact .inr rfl | exact .inl (Cover.bit (by assumption) rfl))
    (h_pending : M.testBit 30 = true ∨ pending = s.pending := by
      first | exact .inr rfl | exact .inl (Cover.bit (by assumption) rfl)) :
    GoodParts M s0 q now fresh channels regs ctrs snaps latches logq out lat mode tim pmc sec img eth swx sch rdx cmd spg grp rsh drv cip pair fls bay ep mgt bgw rst pending := by
  refine ⟨⟨fun p hp => ?_, fun hq => ?_⟩⟩
  · have hk := h.kept p hp
    cases p
    case regs b =>
      rcases hr with rfl | ⟨_, hr⟩
      · exact hk
      · intro d f i hb
        subst hb
        rw [← hk d f i rfl]
        exact congrArg (fun o => Option.getD o f.spec.reset) (hr ⟨d, f, i⟩ hp)
    case ctrs b =>
      rcases hc with rfl | ⟨_, hc⟩
      · exact hk
      · intro hb d n i
        rw [← hk hb d n i]
        exact congrArg (fun o => Option.getD o 0) (hc ⟨d, b, n, i⟩ hp hb)
    case snaps =>
      rcases hs with rfl | ⟨hm, _⟩
      · exact hk
      · exact absurd hm (by simpa [Part.idx] using hp)
    case latches =>
      rcases hl with rfl | ⟨hm, _⟩
      · exact hk
      · exact absurd hm (by simpa [Part.idx] using hp)
    case now => exact (h_now.resolve_left (by simpa [Part.idx] using hp)).trans hk
    case fresh => exact (h_fresh.resolve_left (by simpa [Part.idx] using hp)).trans hk
    case channels => exact (h_channels.resolve_left (by simpa [Part.idx] using hp)).trans hk
    case logq => exact (h_logq.resolve_left (by simpa [Part.idx] using hp)).trans hk
    case out => exact (h_out.resolve_left (by simpa [Part.idx] using hp)).trans hk
    case lat => exact (h_lat.resolve_left (by simpa [Part.idx] using hp)).trans hk
    case mode => exact (h_mode.resolve_left (by simpa [Part.idx] using hp)).trans hk
    case tim => exact (h_tim.resolve_left (by simpa [Part.idx] using hp)).trans hk
    case pmc => exact (h_pmc.resolve_left (by simpa [Part.idx] using hp)).trans hk
    case sec => exact (h_sec.resolve_left (by simpa [Part.idx] using hp)).trans hk
    case img => exact (h_img.resolve_left (by simpa [Part.idx] using hp)).trans hk
    case eth => exact (h_eth.resolve_left (by simpa [Part.idx] using hp)).trans hk
    case swx => exact (h_swx.resolve_left (by simpa [Part.idx] using hp)).trans hk
    case sch => exact (h_sch.resolve_left (by simpa [Part.idx] using hp)).trans hk
    case rdx => exact (h_rdx.resolve_left (by simpa [Part.idx] using hp)).trans hk
    case cmd => exact (h_cmd.resolve_left (by simpa [Part.idx] using hp)).trans hk
    case spg => exact (h_spg.resolve_left (by simpa [Part.idx] using hp)).trans hk
    case grp => exact (h_grp.resolve_left (by simpa [Part.idx] using hp)).trans hk
    case rsh => exact (h_rsh.resolve_left (by simpa [Part.idx] using hp)).trans hk
    case drv => exact (h_drv.resolve_left (by simpa [Part.idx] using hp)).trans hk
    case cip => exact (h_cip.resolve_left (by simpa [Part.idx] using hp)).trans hk
    case pair => exact (h_pair.resolve_left (by simpa [Part.idx] using hp)).trans hk
    case fls => exact (h_fls.resolve_left (by simpa [Part.idx] using hp)).trans hk
    case bay => exact (h_bay.resolve_left (by simpa [Part.idx] using hp)).trans hk
    case ep => exact (h_ep.resolve_left (by simpa [Part.idx] using hp)).trans hk
    case mgt => exact (h_mgt.resolve_left (by simpa [Part.idx] using hp)).trans hk
    case bgw => exact (h_bgw.resolve_left (by simpa [Part.idx] using hp)).trans hk
    case rst => exact (h_rst.resolve_left (by simpa [Part.idx] using hp)).trans hk
    case pending => exact (h_pending.resolve_left (by simpa [Part.idx] using hp)).trans hk
  · have ht := h.tidy hq
    have hr' : regs.Sublist s.regs := hr.elim (fun e => e ▸ List.Sublist.refl _) (·.1)
    have hc' : ctrs.Sublist s.ctrs := hc.elim (fun e => e ▸ List.Sublist.refl _) (·.1)
    have hs' : snaps.Sublist s.snaps := hs.elim (fun e => e ▸ List.Sublist.refl _) (·.2)
    have hl' : latches.Sublist s.latches := hl.elim (fun e => e ▸ List.Sublist.refl _) (·.2)
    exact ⟨fun e he => ht.widths e (hr'.subset he), ht.fieldsOnce.sublist (hr'.map _), fun e he => ht.counts e (hc'.subset he),
      ht.countersOnce.sublist (hc'.map _), ht.latchesOnce.sublist (hl'.map _), ht.buffersOnce.sublist (hs'.map _)⟩

/-- The rule for a state that changes none of these. -/
theorem GoodParts.of (h : Good M s0 q s) {now : Nat} {fresh : Nat} {channels : Nat} {regs : List (RegKey × Nat)} {ctrs : List (CtrKey × Nat)} {snaps : List Snapshot} {latches : List Latch} {logq : List LogRec} {out : List OutMsg} {lat : LatState} {mode : ModeState} {tim : TimState} {pmc : PmcState} {sec : SecState} {img : ImgState} {eth : EthState} {swx : SwxState} {sch : SchState} {rdx : RdxState} {cmd : CmdState} {spg : SpgState} {grp : GrpState} {rsh : RshState} {drv : DrvState} {cip : CipState} {pair : PairState} {fls : FlsState} {bay : BayState} {ep : EpState} {mgt : MgtState} {bgw : List (Nat × BgwDie)} {rst : RstState} {pending : List Instr}
    (hr : regs = s.regs) (hc : ctrs = s.ctrs) (hs : snaps = s.snaps) (hl : latches = s.latches)
    (h_now : M.testBit 0 = true ∨ now = s.now := by
      first | exact .inr rfl | exact .inl (Cover.bit (by assumption) rfl))
    (h_fresh : M.testBit 1 = true ∨ fresh = s.fresh := by
      first | exact .inr rfl | exact .inl (Cover.bit (by assumption) rfl))
    (h_channels : M.testBit 2 = true ∨ channels = s.channels := by
      first | exact .inr rfl | exact .inl (Cover.bit (by assumption) rfl))
    (h_logq : M.testBit 5 = true ∨ logq = s.logq := by
      first | exact .inr rfl | exact .inl (Cover.bit (by assumption) rfl))
    (h_out : M.testBit 6 = true ∨ out = s.out := by
      first | exact .inr rfl | exact .inl (Cover.bit (by assumption) rfl))
    (h_lat : M.testBit 7 = true ∨ lat = s.lat := by
      first | exact .inr rfl | exact .inl (Cover.bit (by assumption) rfl))
    (h_mode : M.testBit 8 = true ∨ mode = s.mode := by
      first | exact .inr rfl | exact .inl (Cover.bit (by assumption) rfl))
    (h_tim : M.testBit 9 = true ∨ tim = s.tim := by
      first | exact .inr rfl | exact .inl (Cover.bit (by assumption) rfl))
    (h_pmc : M.testBit 10 = true ∨ pmc = s.pmc := by
      first | exact .inr rfl | exact .inl (Cover.bit (by assumption) rfl))
    (h_sec : M.testBit 11 = true ∨ sec = s.sec := by
      first | exact .inr rfl | exact .inl (Cover.bit (by assumption) rfl))
    (h_img : M.testBit 12 = true ∨ img = s.img := by
      first | exact .inr rfl | exact .inl (Cover.bit (by assumption) rfl))
    (h_eth : M.testBit 13 = true ∨ eth = s.eth := by
      first | exact .inr rfl | exact .inl (Cover.bit (by assumption) rfl))
    (h_swx : M.testBit 14 = true ∨ swx = s.swx := by
      first | exact .inr rfl | exact .inl (Cover.bit (by assumption) rfl))
    (h_sch : M.testBit 15 = true ∨ sch = s.sch := by
      first | exact .inr rfl | exact .inl (Cover.bit (by assumption) rfl))
    (h_rdx : M.testBit 16 = true ∨ rdx = s.rdx := by
      first | exact .inr rfl | exact .inl (Cover.bit (by assumption) rfl))
    (h_cmd : M.testBit 17 = true ∨ cmd = s.cmd := by
      first | exact .inr rfl | exact .inl (Cover.bit (by assumption) rfl))
    (h_spg : M.testBit 18 = true ∨ spg = s.spg := by
      first | exact .inr rfl | exact .inl (Cover.bit (by assumption) rfl))
    (h_grp : M.testBit 19 = true ∨ grp = s.grp := by
      first | exact .inr rfl | exact .inl (Cover.bit (by assumption) rfl))
    (h_rsh : M.testBit 20 = true ∨ rsh = s.rsh := by
      first | exact .inr rfl | exact .inl (Cover.bit (by assumption) rfl))
    (h_drv : M.testBit 21 = true ∨ drv = s.drv := by
      first | exact .inr rfl | exact .inl (Cover.bit (by assumption) rfl))
    (h_cip : M.testBit 22 = true ∨ cip = s.cip := by
      first | exact .inr rfl | exact .inl (Cover.bit (by assumption) rfl))
    (h_pair : M.testBit 23 = true ∨ pair = s.pair := by
      first | exact .inr rfl | exact .inl (Cover.bit (by assumption) rfl))
    (h_fls : M.testBit 24 = true ∨ fls = s.fls := by
      first | exact .inr rfl | exact .inl (Cover.bit (by assumption) rfl))
    (h_bay : M.testBit 25 = true ∨ bay = s.bay := by
      first | exact .inr rfl | exact .inl (Cover.bit (by assumption) rfl))
    (h_ep : M.testBit 26 = true ∨ ep = s.ep := by
      first | exact .inr rfl | exact .inl (Cover.bit (by assumption) rfl))
    (h_mgt : M.testBit 27 = true ∨ mgt = s.mgt := by
      first | exact .inr rfl | exact .inl (Cover.bit (by assumption) rfl))
    (h_bgw : M.testBit 28 = true ∨ bgw = s.bgw := by
      first | exact .inr rfl | exact .inl (Cover.bit (by assumption) rfl))
    (h_rst : M.testBit 29 = true ∨ rst = s.rst := by
      first | exact .inr rfl | exact .inl (Cover.bit (by assumption) rfl))
    (h_pending : M.testBit 30 = true ∨ pending = s.pending := by
      first | exact .inr rfl | exact .inl (Cover.bit (by assumption) rfl)) :
    GoodParts M s0 q now fresh channels regs ctrs snaps latches logq out lat mode tim pmc sec img eth swx sch rdx cmd spg grp rsh drv cip pair fls bay ep mgt bgw rst pending :=
  GoodParts.less h (.inl hr) (.inl hc) (.inl hs) (.inl hl) h_now h_fresh h_channels h_logq h_out h_lat h_mode h_tim h_pmc h_sec h_img h_eth h_swx h_sch h_rdx h_cmd h_spg h_grp h_rsh h_drv h_cip h_pair h_fls h_bay h_ep h_mgt h_bgw h_rst h_pending

/-! ### The operations that touch registers, counters and buffers -/

theorem good_w (h : Good M s0 q s) (d) (f : Fld) (v) (i) (hf : M.testBit (32 + 2 * f.block) = true := by
      first | assumption | exact Cover.bit (by assumption) rfl | exact Cover.bit (by assumption) (by dsimp only [Fld.block]; rfl)) :
    Good M s0 q (State.w s d f v i) :=
  ⟨fun p hp => by
    have hk := h.kept p hp
    cases p
    case regs b =>
      intro d' f' i' hb
      subst hb
      rw [← hk d' f' i' rfl]
      refine congrArg (fun o => Option.getD o f'.spec.reset) ?_
      show alGet (alPut s.regs _ _) _ = _
      rw [alGet_alPut, if_neg]
      intro e
      have : f = f' := (RegKey.mk.inj e).2.1
      subst this
      exact absurd hf (by simpa [Part.idx] using hp)
    all_goals exact hk,
  fun hq =>
    { h.tidy hq with
      widths := fun e he => by
        rcases mem_alPut he with rfl | he
        · exact Nat.mod_lt _ (by positivity)
        · exact (h.tidy hq).widths e he
      fieldsOnce := nodup_alPut (h.tidy hq).fieldsOnce }⟩

/-- A counter set to a value of 64 bits. -/
theorem good_setCtr (h : Good M s0 q s) (k : CtrKey) (v : Nat) (hk : M.testBit (33 + 2 * k.blk) = true) :
    Good M s0 q { s with ctrs := alPut s.ctrs k (v % 2 ^ 64) } :=
  ⟨fun p hp => by
    have hs := h.kept p hp
    cases p
    case ctrs b =>
      intro hb d n i
      rw [← hs hb d n i]
      refine congrArg (fun o => Option.getD o 0) ?_
      show alGet (alPut s.ctrs _ _) _ = _
      rw [alGet_alPut, if_neg]
      rintro rfl
      exact absurd hk (by simpa [Part.idx] using hp)
    all_goals exact hs,
  fun hq =>
    { h.tidy hq with
      counts := fun e he => by
        rcases mem_alPut he with rfl | he
        · exact Nat.mod_lt _ (by positivity)
        · exact (h.tidy hq).counts e he
      countersOnce := nodup_alPut (h.tidy hq).countersOnce }⟩

/-- A buffer replaces those of its own die, block and world. -/
theorem good_setSnap (h : Good M s0 q s) (b : Snapshot) (hm : M.testBit 3 = true) :
    Good M s0 q { s with snaps :=
      (s.snaps.filter (fun (x : Snapshot) => !(x.die = b.die && x.blk = b.blk && x.secure = b.secure))) ++ [b] } :=
  ⟨fun p hp => by
    have hk := h.kept p hp
    cases p
    case snaps => exact absurd hm (by simpa [Part.idx] using hp)
    all_goals exact hk,
  fun hq =>
    { h.tidy hq with
      buffersOnce := by
        show ((s.snaps.filter _ ++ [b]).map snapKey).Nodup
        rw [List.map_append]
        refine List.nodup_append.2 ⟨(h.tidy hq).buffersOnce.sublist (List.filter_sublist.map _), by simp, ?_⟩
        intro a ha c hc
        obtain ⟨x, hx, rfl⟩ := List.mem_map.1 ha
        rw [List.mem_filter] at hx
        simp only [List.map_cons, List.map_nil, List.mem_singleton] at hc
        subst hc
        intro e
        have := hx.2
        simp only [snapKey, Prod.mk.injEq] at e
        simp [e.1, e.2.1, e.2.2] at this }⟩

/-- Latches that go, and one that replaces those of its own requester and pair. -/
theorem good_dropLatches (h : Good M s0 q s) (f : Latch → Bool) (hm : M.testBit 4 = true) :
    Good M s0 q { s with latches := s.latches.filter f } :=
  ⟨fun p hp => by
    have hk := h.kept p hp
    cases p
    case latches => exact absurd hm (by simpa [Part.idx] using hp)
    all_goals exact hk,
  fun hq => { h.tidy hq with latchesOnce := (h.tidy hq).latchesOnce.sublist (List.filter_sublist.map _) }⟩

theorem good_setLatch (h : Good M s0 q s) (b : Latch) (f : Latch → Bool) (hf : ∀ x, f x = true → latchKey x ≠ latchKey b)
    (hm : M.testBit 4 = true) : Good M s0 q { s with latches := s.latches.filter f ++ [b] } :=
  ⟨fun p hp => by
    have hk := h.kept p hp
    cases p
    case latches => exact absurd hm (by simpa [Part.idx] using hp)
    all_goals exact hk,
  fun hq =>
    { h.tidy hq with
      latchesOnce := by
        show ((s.latches.filter f ++ [b]).map latchKey).Nodup
        rw [List.map_append]
        refine List.nodup_append.2 ⟨(h.tidy hq).latchesOnce.sublist (List.filter_sublist.map _), by simp, ?_⟩
        intro a ha c hc
        obtain ⟨x, hx, rfl⟩ := List.mem_map.1 ha
        rw [List.mem_filter] at hx
        simp only [List.map_cons, List.map_nil, List.mem_singleton] at hc
        subst hc
        exact hf x hx.2 }⟩

end Sys2Proof.Machine
end

