-- ==== Sys2Proof/Laws/Ops.lean ====
section
/-! SUPPORT. What the operations of Machine/Ops.lean keep (see Laws/Keep.lean), one lemma for each. -/

set_option Elab.async false

set_option linter.all false

namespace Sys2Proof.Machine

variable {M : Nat} {s0 : State} {q : Prop}


theorem good_wb {s1 : State} (h1 : Good M s0 q s1) (a2) (a3) (a4) (a5) (hf40 : M.testBit (32 + 2 * a3.block) = true := by first | assumption | exact Cover.bit (by assumption) rfl | exact Cover.bit (by assumption) (by dsimp only [Fld.block]; rfl)) : Good M s0 q (State.wb s1 a2 a3 a4 a5) := by
  unfold State.wb
  repeat' (first
    | with_reducible assumption
    | exact Cover.sub hm rfl
    | exact Cover.bit hm rfl
    | exact Cover.bit hm (by dsimp only [Fld.block]; rfl)
    | intro x
    | with_reducible apply good_w)

theorem good_wbit {s1 : State} (h1 : Good M s0 q s1) (a2) (a3) (a4) (a5) (a6) (hf40 : M.testBit (32 + 2 * a3.block) = true := by first | assumption | exact Cover.bit (by assumption) rfl | exact Cover.bit (by assumption) (by dsimp only [Fld.block]; rfl)) : Good M s0 q (State.wbit s1 a2 a3 a4 a5 a6) := by
  unfold State.wbit
  repeat' (first
    | with_reducible assumption
    | exact Cover.sub hm rfl
    | exact Cover.bit hm rfl
    | exact Cover.bit hm (by dsimp only [Fld.block]; rfl)
    | intro x
    | with_reducible apply good_w)

theorem good_emit {s1 : State} (h1 : Good M s0 q s1) (a2) (hm : Cover 0x40 M := by first | assumption | exact Cover.sub (by assumption) rfl) : Good M s0 q (State.emit s1 a2) := by
  unfold State.emit
  repeat' (first
    | with_reducible assumption
    | exact Cover.sub hm rfl
    | exact Cover.bit hm rfl
    | exact Cover.bit hm (by dsimp only [Fld.block]; rfl)
    | intro x
    | (simp only [good_mk_iff]; refine GoodParts.of (?_ : Good M s0 q _) rfl rfl rfl rfl))

theorem good_tick {s1 : State} (h1 : Good M s0 q s1) (hm : Cover 0x2 M) : Good M s0 q (State.tick s1) := by
  unfold State.tick
  repeat' (first
    | with_reducible assumption
    | exact Cover.sub hm rfl
    | exact Cover.bit hm rfl
    | exact Cover.bit hm (by dsimp only [Fld.block]; rfl)
    | intro x
    | (simp only [good_mk_iff]; refine GoodParts.of (?_ : Good M s0 q _) rfl rfl rfl rfl))

theorem good_irqFor {s1 : State} (h1 : Good M s0 q s1) (a2) (a3) (a4) (a5) (hm : Cover 0x40 M) : Good M s0 q (State.irqFor s1 a2 a3 a4 a5) := by
  unfold State.irqFor
  repeat' (first
    | with_reducible assumption
    | exact Cover.sub hm rfl
    | exact Cover.bit hm rfl
    | exact Cover.bit hm (by dsimp only [Fld.block]; rfl)
    | (extract_lets -underBinder +onlyGivenNames x; try clear_value x)
    | intro x
    | with_reducible apply good_emit
    | with_reducible apply good_ite
    | split)

theorem good_ev {s1 : State} (h1 : Good M s0 q s1) (a2) (a3) (hm : Cover 0x40 M := by first | assumption | exact Cover.sub (by assumption) rfl) (hf483 : M.testBit (32 + 2 * a3.block) = true := by first | assumption | exact Cover.bit (by assumption) rfl | exact Cover.bit (by assumption) (by dsimp only [Fld.block]; rfl)) : Good M s0 q (State.ev s1 a2 a3) := by
  unfold State.ev
  repeat' (first
    | with_reducible assumption
    | exact Cover.sub hm rfl
    | exact Cover.bit hm rfl
    | exact Cover.bit hm (by dsimp only [Fld.block]; rfl)
    | (extract_lets -underBinder +onlyGivenNames x; try clear_value x)
    | intro x
    | with_reducible apply good_irqFor
    | with_reducible apply good_w)

theorem good_pmcAdd {s1 : State} (h1 : Good M s0 q s1) (a2) (a3) (a4) (hm : Cover 0x100000000040 M) : Good M s0 q (State.pmcAdd s1 a2 a3 a4) := by
  unfold State.pmcAdd
  repeat' (first
    | with_reducible assumption
    | exact Cover.sub hm rfl
    | exact Cover.bit hm rfl
    | exact Cover.bit hm (by dsimp only [Fld.block]; rfl)
    | (extract_lets -underBinder +onlyGivenNames x; refine (fun (hx : Good M s0 q x) => ?_) ?_; (on_goal 1 => try clear_value x); (on_goal 2 => subst x))
    | (extract_lets -underBinder +onlyGivenNames x; try clear_value x)
    | intro x
    | with_reducible apply good_w
    | with_reducible apply good_wbit
    | with_reducible apply good_irqFor
    | with_reducible apply good_ite)

theorem good_pmcFeed {s1 : State} (h1 : Good M s0 q s1) (a2) (a3) (a4) (hm : Cover 0x100000000040 M := by first | assumption | exact Cover.sub (by assumption) rfl) : Good M s0 q (State.pmcFeed s1 a2 a3 a4) := by
  unfold State.pmcFeed
  repeat' (first
    | with_reducible assumption
    | exact Cover.sub hm rfl
    | exact Cover.bit hm rfl
    | exact Cover.bit hm (by dsimp only [Fld.block]; rfl)
    | (extract_lets -underBinder +onlyGivenNames x; try clear_value x)
    | intro x
    | with_reducible apply good_pmcAdd
    | with_reducible apply good_foldS
    | with_reducible apply good_ite)

theorem ovfOf_block {b : Nat} {o e : Fld} {v : Option Fld} (h : ovfOf b = some (o, e, v)) :
    o.block = b ∧ ∀ f, v = some f → f.block = b := by
  unfold ovfOf at h
  split at h <;> simp only [Option.some.injEq, Prod.mk.injEq, reduceCtorEq] at h
  all_goals
    obtain ⟨rfl, rfl, rfl⟩ := h
    exact ⟨rfl, fun f hf => by cases hf; try rfl⟩

theorem good_wrapped {s1 : State} (h1 : Good M s0 q s1) (a2) (a3) (a4) (a5) (hm : Cover 0x40 M := by first | assumption | exact Cover.sub (by assumption) rfl) (hf483 : M.testBit (32 + 2 * a3) = true := by first | assumption | exact Cover.bit (by assumption) rfl | exact Cover.bit (by assumption) (by dsimp only [Fld.block]; rfl)) :
    Good M s0 q (State.wrapped s1 a2 a3 a4 a5) := by
  unfold State.wrapped
  split
  · exact h1
  · next o e v ho =>
    have hb := ovfOf_block ho
    have hy : Good M s0 q (s1.wbit a2 o a4 true a5) := good_wbit h1 _ _ _ _ _ (by rw [hb.1]; assumption)
    refine good_ite ?_ hy
    cases v with
    | none => exact good_emit hy _
    | some f => exact good_ev hy _ _ hm (by rw [hb.2 f rfl]; assumption)

theorem good_bump {s1 : State} (h1 : Good M s0 q s1) (a2) (a3) (a4) (a5) (a6) (hm : Cover 0x100000000040 M := by first | assumption | exact Cover.sub (by assumption) rfl) (hf493 : M.testBit (32 + 2 * a3) = true := by first | assumption | exact Cover.bit (by assumption) rfl | exact Cover.bit (by assumption) (by dsimp only [Fld.block]; rfl)) (hf4264 : M.testBit (33 + 2 * a3) = true := by first | assumption | exact Cover.bit (by assumption) rfl | exact Cover.bit (by assumption) (by dsimp only [Fld.block]; rfl)) :
    Good M s0 q (State.bump s1 a2 a3 a4 a5 a6) := by
  unfold State.bump
  lift_lets
  intro v x y
  have hx : Good M s0 q x := good_setCtr h1 _ _ (by assumption)
  clear_value x
  have hy : Good M s0 q y := by
    subst y
    split
    · exact hx
    · exact good_wrapped hx _ _ _ _
  exact good_pmcFeed hy _ _ _

theorem good_shelfNs {s1 : State} (h1 : Good M s0 q s1) (a2) (a3) (hm : Cover 0x100000000040 M) : Good M s0 q (State.shelfNs s1 a2 a3) := by
  unfold State.shelfNs
  repeat' (first
    | with_reducible assumption
    | exact Cover.sub hm rfl
    | exact Cover.bit hm rfl
    | exact Cover.bit hm (by dsimp only [Fld.block]; rfl)
    | (extract_lets -underBinder +onlyGivenNames x; try clear_value x)
    | intro x
    | with_reducible apply good_pmcFeed
    | with_reducible apply good_ite)

theorem good_advance {s1 : State} (h1 : Good M s0 q s1) (a2) (hm : Cover 0x100000000041 M) : Good M s0 q (State.advance s1 a2) := by
  unfold State.advance
  repeat' (first
    | with_reducible assumption
    | exact Cover.sub hm rfl
    | exact Cover.bit hm rfl
    | exact Cover.bit hm (by dsimp only [Fld.block]; rfl)
    | (extract_lets -underBinder +onlyGivenNames x; try clear_value x)
    | intro x
    | (simp only [good_mk_iff]; refine GoodParts.of (?_ : Good M s0 q _) rfl rfl rfl rfl)
    | with_reducible apply good_shelfNs
    | with_reducible apply good_foldS
    | with_reducible apply good_ite)

theorem good_setDieTime {s1 : State} (h1 : Good M s0 q s1) (a2) (a3) (hm : Cover 0x100000000240 M) : Good M s0 q (State.setDieTime s1 a2 a3) := by
  unfold State.setDieTime
  repeat' (first
    | with_reducible assumption
    | exact Cover.sub hm rfl
    | exact Cover.bit hm rfl
    | exact Cover.bit hm (by dsimp only [Fld.block]; rfl)
    | (extract_lets -underBinder +onlyGivenNames x; refine (fun (hx : Good M s0 q x) => ?_) ?_; (on_goal 1 => try clear_value x); (on_goal 2 => subst x))
    | (extract_lets -underBinder +onlyGivenNames x; try clear_value x)
    | intro x
    | (simp only [good_mk_iff]; refine GoodParts.of (?_ : Good M s0 q _) rfl rfl rfl rfl)
    | with_reducible apply good_shelfNs)

theorem good_log {s1 : State} (h1 : Good M s0 q s1) (a2) (a3) (a4) (a5) (a6) (hm : Cover 0x20 M) : Good M s0 q (State.log s1 a2 a3 a4 a5 a6) := by
  unfold State.log
  repeat' (first
    | with_reducible assumption
    | exact Cover.sub hm rfl
    | exact Cover.bit hm rfl
    | exact Cover.bit hm (by dsimp only [Fld.block]; rfl)
    | (extract_lets -underBinder +onlyGivenNames x; try clear_value x)
    | intro x
    | (simp only [good_mk_iff]; refine GoodParts.of (?_ : Good M s0 q _) rfl rfl rfl rfl))

theorem good_logMgt {s1 : State} (h1 : Good M s0 q s1) (a2) (a3) (hm : Cover 0x20 M := by first | assumption | exact Cover.sub (by assumption) rfl) : Good M s0 q (State.logMgt s1 a2 a3) := by
  unfold State.logMgt
  repeat' (first
    | with_reducible assumption
    | exact Cover.sub hm rfl
    | exact Cover.bit hm rfl
    | exact Cover.bit hm (by dsimp only [Fld.block]; rfl)
    | intro x
    | with_reducible apply good_log)

theorem good_logEv {s1 : State} (h1 : Good M s0 q s1) (a2) (a3) (a4) (a5) (hm : Cover 0x20 M) : Good M s0 q (State.logEv s1 a2 a3 a4 a5) := by
  unfold State.logEv
  repeat' (first
    | with_reducible assumption
    | exact Cover.sub hm rfl
    | exact Cover.bit hm rfl
    | exact Cover.bit hm (by dsimp only [Fld.block]; rfl)
    | intro x
    | with_reducible apply good_log)

theorem good_discardRange {s1 : State} (h1 : Good M s0 q s1) (a2) (a3) (a4) (a5) (hm : Cover 0x20 M) : Good M s0 q (State.discardRange s1 a2 a3 a4 a5) := by
  unfold State.discardRange
  repeat' (first
    | with_reducible assumption
    | exact Cover.sub hm rfl
    | exact Cover.bit hm rfl
    | exact Cover.bit hm (by dsimp only [Fld.block]; rfl)
    | intro x
    | with_reducible apply good_log)

theorem good_discardState {s1 : State} (h1 : Good M s0 q s1) (a2) (a3) (a4) (a5) (hm : Cover 0x20 M) : Good M s0 q (State.discardState s1 a2 a3 a4 a5) := by
  unfold State.discardState
  repeat' (first
    | with_reducible assumption
    | exact Cover.sub hm rfl
    | exact Cover.bit hm rfl
    | exact Cover.bit hm (by dsimp only [Fld.block]; rfl)
    | intro x
    | with_reducible apply good_log)

theorem good_worldViolation {s1 : State} (h1 : Good M s0 q s1) (a2) (a3) (a4) (a5) (a6) (hm : Cover 0x130000000060 M := by first | assumption | exact Cover.sub (by assumption) rfl) : Good M s0 q (State.worldViolation s1 a2 a3 a4 a5 a6) := by
  unfold State.worldViolation
  repeat' (first
    | with_reducible assumption
    | exact Cover.sub hm rfl
    | exact Cover.bit hm rfl
    | exact Cover.bit hm (by dsimp only [Fld.block]; rfl)
    | (extract_lets -underBinder +onlyGivenNames x; refine (fun (hx : Good M s0 q x) => ?_) ?_; (on_goal 1 => try clear_value x); (on_goal 2 => subst x))
    | (extract_lets -underBinder +onlyGivenNames x; try clear_value x)
    | intro x
    | with_reducible apply good_bump
    | with_reducible apply good_ev
    | with_reducible apply good_w
    | with_reducible apply good_wb
    | with_reducible apply good_log)

theorem good_secureOnly {s1 : State} (h1 : Good M s0 q s1) (a2) (a3) (a4) {s5 : State} (h5 : Good M s0 q s5) (hm : Cover 0x130000000060 M) : Good M s0 q (State.secureOnly s1 a2 a3 a4 s5) := by
  unfold State.secureOnly
  repeat' (first
    | with_reducible assumption
    | exact Cover.sub hm rfl
    | exact Cover.bit hm rfl
    | exact Cover.bit hm (by dsimp only [Fld.block]; rfl)
    | (extract_lets -underBinder +onlyGivenNames x; try clear_value x)
    | intro x
    | with_reducible apply good_worldViolation
    | with_reducible apply good_ite)

theorem good_discardTrig {s1 : State} (h1 : Good M s0 q s1) (a2) (hm : Cover 0x20 M) : Good M s0 q (State.discardTrig s1 a2) := by
  unfold State.discardTrig
  repeat' (first
    | with_reducible assumption
    | exact Cover.sub hm rfl
    | exact Cover.bit hm rfl
    | exact Cover.bit hm (by dsimp only [Fld.block]; rfl)
    | intro x
    | with_reducible apply good_logMgt)

theorem good_trig {s1 : State} (h1 : Good M s0 q s1) (a2) (a3) (hm : Cover 0x120 M) : Good M s0 q (State.trig s1 a2 a3) := by
  unfold State.trig
  repeat' (first
    | with_reducible assumption
    | exact Cover.sub hm rfl
    | exact Cover.bit hm rfl
    | exact Cover.bit hm (by dsimp only [Fld.block]; rfl)
    | (extract_lets -underBinder +onlyGivenNames x; try clear_value x)
    | intro x
    | (simp only [good_mk_iff]; refine GoodParts.of (?_ : Good M s0 q _) rfl rfl rfl rfl)
    | with_reducible apply good_discardTrig
    | with_reducible apply good_ite)

theorem good_fatal {s1 : State} (h1 : Good M s0 q s1) (hm : Cover 0x120 M) : Good M s0 q (State.fatal s1) := by
  unfold State.fatal
  repeat' (first
    | with_reducible assumption
    | exact Cover.sub hm rfl
    | exact Cover.bit hm rfl
    | exact Cover.bit hm (by dsimp only [Fld.block]; rfl)
    | intro x
    | with_reducible apply good_trig)

theorem good_pairBump {s1 : State} (h1 : Good M s0 q s1) (a2) (a3) (a4) (hm : Cover 0x300000000000000000000100000000040 M) : Good M s0 q (State.pairBump s1 a2 a3 a4) := by
  unfold State.pairBump
  repeat' (first
    | with_reducible assumption
    | exact Cover.sub hm rfl
    | exact Cover.bit hm rfl
    | exact Cover.bit hm (by dsimp only [Fld.block]; rfl)
    | intro x
    | with_reducible apply good_bump)

theorem good_sealTake {s1 : State} (h1 : Good M s0 q s1) (a2) (hm : Cover 0x10000000000000000000000000040 M) : Good M s0 q (State.sealTake s1 a2) := by
  unfold State.sealTake
  repeat' (first
    | with_reducible assumption
    | exact Cover.sub hm rfl
    | exact Cover.bit hm rfl
    | exact Cover.bit hm (by dsimp only [Fld.block]; rfl)
    | (extract_lets -underBinder +onlyGivenNames x; refine (fun (hx : Good M s0 q x) => ?_) ?_; (on_goal 1 => try clear_value x); (on_goal 2 => subst x))
    | (extract_lets -underBinder +onlyGivenNames x; try clear_value x)
    | intro x
    | with_reducible apply good_w
    | with_reducible apply good_ev
    | with_reducible apply good_ite)

theorem good_sealRefuse {s1 : State} (h1 : Good M s0 q s1) (a2) (hm : Cover 0x10000000000000000000000000040 M) : Good M s0 q (State.sealRefuse s1 a2) := by
  unfold State.sealRefuse
  repeat' (first
    | with_reducible assumption
    | exact Cover.sub hm rfl
    | exact Cover.bit hm rfl
    | exact Cover.bit hm (by dsimp only [Fld.block]; rfl)
    | (extract_lets -underBinder +onlyGivenNames x; try clear_value x)
    | intro x
    | with_reducible apply good_ev)

theorem good_sendPartner {s1 : State} (h1 : Good M s0 q s1) (a2) (a3) (a4) (a5) (hm : Cover 0x300030000000000000000100000800040 M) : Good M s0 q (State.sendPartner s1 a2 a3 a4 a5) := by
  unfold State.sendPartner
  repeat' (first
    | with_reducible assumption
    | exact Cover.sub hm rfl
    | exact Cover.bit hm rfl
    | exact Cover.bit hm (by dsimp only [Fld.block]; rfl)
    | (extract_lets -underBinder +onlyGivenNames x; refine (fun (hx : Good M s0 q x) => ?_) ?_; (on_goal 1 => try clear_value x); (on_goal 2 => subst x))
    | (extract_lets -underBinder +onlyGivenNames x; try clear_value x)
    | intro x
    | (simp only [good_mk_iff]; refine GoodParts.of (?_ : Good M s0 q _) rfl rfl rfl rfl)
    | with_reducible apply good_sealRefuse
    | with_reducible apply good_bump
    | with_reducible apply good_sealTake
    | with_reducible apply good_emit
    | with_reducible apply good_pairBump
    | with_reducible apply good_ite)

theorem good_sendControl {s1 : State} (h1 : Good M s0 q s1) (a2) (a3) (hm : Cover 0x300030000000000000000100000800040 M) : Good M s0 q (State.sendControl s1 a2 a3) := by
  unfold State.sendControl
  repeat' (first
    | with_reducible assumption
    | exact Cover.sub hm rfl
    | exact Cover.bit hm rfl
    | exact Cover.bit hm (by dsimp only [Fld.block]; rfl)
    | intro x
    | with_reducible apply good_sendPartner)

theorem good_snapshot {s1 : State} (h1 : Good M s0 q s1) (a2) (a3) (a4) (a5) (a6) (a7) (hm : Cover 0x8 M := by first | assumption | exact Cover.sub (by assumption) rfl) (hf482 : M.testBit (32 + 2 * a6.block) = true := by first | assumption | exact Cover.bit (by assumption) rfl | exact Cover.bit (by assumption) (by dsimp only [Fld.block]; rfl)) :
    Good M s0 q (State.snapshot s1 a2 a3 a4 a5 a6 a7) := by
  unfold State.snapshot
  exact good_w (good_setSnap h1 ⟨a2, a3, a4, a5, a7⟩ (Cover.bit hm rfl)) _ _ _ _

end Sys2Proof.Machine
end

