-- ==== Sys2Proof/Laws/Ledger.lean ====
section
/-! SUPPORT. What the operations of Machine/Ledger.lean keep (see Laws/Keep.lean), one lemma for each. -/

set_option Elab.async false

set_option linter.all false

namespace Sys2Proof.Machine

variable {M : Nat} {s0 : State} {q : Prop}

theorem good_ledgerStart {s1 : State} (h1 : Good M s0 q s1) (hm : Cover 0x800 M) : Good M s0 q (State.ledgerStart s1) := by
  unfold State.ledgerStart
  repeat' (first
    | with_reducible assumption
    | exact Cover.sub hm rfl
    | exact Cover.bit hm rfl
    | exact Cover.bit hm (by dsimp only [Fld.block]; rfl)
    | (extract_lets -underBinder +onlyGivenNames x; try clear_value x)
    | intro x
    | (simp only [good_mk_iff]; refine GoodParts.of (?_ : Good M s0 q _) rfl rfl rfl rfl)
    | with_reducible apply good_ite
    | split)

theorem good_ledgerAdd {s1 : State} (h1 : Good M s0 q s1) (a2) (a3) (a4) (hm : Cover 0x130000000840 M) : Good M s0 q (State.ledgerAdd s1 a2 a3 a4) := by
  unfold State.ledgerAdd
  repeat' (first
    | with_reducible assumption
    | exact Cover.sub hm rfl
    | exact Cover.bit hm rfl
    | exact Cover.bit hm (by dsimp only [Fld.block]; rfl)
    | (extract_lets -underBinder +onlyGivenNames x; try clear_value x)
    | intro x
    | (simp only [good_mk_iff]; refine GoodParts.of (?_ : Good M s0 q _) rfl rfl rfl rfl)
    | with_reducible apply good_bump
    | with_reducible apply good_ledgerStart
    | with_reducible apply good_w
    | with_reducible apply good_ite)

end Sys2Proof.Machine
end

