-- ==== Sys2Proof/Laws/Time.lean ====
section
/-! SUPPORT. What the operations of Machine/Time.lean keep (see Laws/Keep.lean), one lemma for each. -/

set_option Elab.async false

set_option linter.all false

namespace Sys2Proof.Machine

variable {M : Nat} {s0 : State} {q : Prop}

theorem good_reanchor {s1 : State} (h1 : Good M s0 q s1) (hm : Cover 0x200 M) : Good M s0 q (State.reanchor s1) := by
  unfold State.reanchor
  repeat' (first
    | with_reducible assumption
    | exact Cover.sub hm rfl
    | exact Cover.bit hm rfl
    | exact Cover.bit hm (by dsimp only [Fld.block]; rfl)
    | (extract_lets -underBinder +onlyGivenNames x; refine (fun (hx : Good M s0 q x) => ?_) ?_; (on_goal 1 => try clear_value x); (on_goal 2 => subst x))
    | (extract_lets -underBinder +onlyGivenNames x; try clear_value x)
    | intro x
    | (simp only [good_mk_iff]; refine GoodParts.of (?_ : Good M s0 q _) rfl rfl rfl rfl))

theorem good_utcShow {s1 : State} (h1 : Good M s0 q s1) (hm : Cover 0x400000200 M) : Good M s0 q (State.utcShow s1) := by
  unfold State.utcShow
  repeat' (first
    | with_reducible assumption
    | exact Cover.sub hm rfl
    | exact Cover.bit hm rfl
    | exact Cover.bit hm (by dsimp only [Fld.block]; rfl)
    | (extract_lets -underBinder +onlyGivenNames x; refine (fun (hx : Good M s0 q x) => ?_) ?_; (on_goal 1 => try clear_value x); (on_goal 2 => subst x))
    | (extract_lets -underBinder +onlyGivenNames x; try clear_value x)
    | intro x
    | (simp only [good_mk_iff]; refine GoodParts.of (?_ : Good M s0 q _) rfl rfl rfl rfl)
    | with_reducible apply good_w
    | with_reducible apply good_wb)

theorem good_select {s1 : State} (h1 : Good M s0 q s1) (a2) (hm : Cover 0x400000200 M) : Good M s0 q (State.select s1 a2) := by
  unfold State.select
  repeat' (first
    | with_reducible assumption
    | exact Cover.sub hm rfl
    | exact Cover.bit hm rfl
    | exact Cover.bit hm (by dsimp only [Fld.block]; rfl)
    | (extract_lets -underBinder +onlyGivenNames x; try clear_value x)
    | intro x
    | with_reducible apply good_utcShow
    | with_reducible apply good_w
    | with_reducible apply good_ite
    | split)

theorem good_servoEvents {s1 : State} (h1 : Good M s0 q s1) (a2) (a3) (a4) (hm : Cover 0x130400000840 M) : Good M s0 q (State.servoEvents s1 a2 a3 a4) := by
  unfold State.servoEvents
  repeat' (first
    | with_reducible assumption
    | exact Cover.sub hm rfl
    | exact Cover.bit hm rfl
    | exact Cover.bit hm (by dsimp only [Fld.block]; rfl)
    | (extract_lets -underBinder +onlyGivenNames x; refine (fun (hx : Good M s0 q x) => ?_) ?_; (on_goal 1 => try clear_value x); (on_goal 2 => subst x))
    | (extract_lets -underBinder +onlyGivenNames x; try clear_value x)
    | intro x
    | with_reducible apply good_ev
    | with_reducible apply good_w
    | with_reducible apply good_ledgerAdd
    | with_reducible apply good_ite)

theorem good_ppsCheck {s1 : State} (h1 : Good M s0 q s1) (hm : Cover 0x240 M) : Good M s0 q (State.ppsCheck s1) := by
  unfold State.ppsCheck
  repeat' (first
    | with_reducible assumption
    | exact Cover.sub hm rfl
    | exact Cover.bit hm rfl
    | exact Cover.bit hm (by dsimp only [Fld.block]; rfl)
    | (extract_lets -underBinder +onlyGivenNames x; try clear_value x)
    | intro x
    | (simp only [good_mk_iff]; refine GoodParts.of (?_ : Good M s0 q _) rfl rfl rfl rfl)
    | with_reducible apply good_emit
    | with_reducible apply good_ite)

theorem good_servoTo {s1 : State} (h1 : Good M s0 q s1) (a2) (hm : Cover 0x130400000A40 M) : Good M s0 q (State.servoTo s1 a2) := by
  unfold State.servoTo
  repeat' (first
    | with_reducible assumption
    | exact Cover.sub hm rfl
    | exact Cover.bit hm rfl
    | exact Cover.bit hm (by dsimp only [Fld.block]; rfl)
    | (extract_lets -underBinder +onlyGivenNames x; refine (fun (hx : Good M s0 q x) => ?_) ?_; (on_goal 1 => try clear_value x); (on_goal 2 => subst x))
    | (extract_lets -underBinder +onlyGivenNames x; try clear_value x)
    | intro x
    | (simp only [good_mk_iff]; refine GoodParts.of (?_ : Good M s0 q _) rfl rfl rfl rfl)
    | with_reducible apply good_servoEvents
    | with_reducible apply good_ppsCheck
    | with_reducible apply good_w)

theorem good_toHoldover {s1 : State} (h1 : Good M s0 q s1) (hm : Cover 0x130400000A40 M) : Good M s0 q (State.toHoldover s1) := by
  unfold State.toHoldover
  repeat' (first
    | with_reducible assumption
    | exact Cover.sub hm rfl
    | exact Cover.bit hm rfl
    | exact Cover.bit hm (by dsimp only [Fld.block]; rfl)
    | (extract_lets -underBinder +onlyGivenNames x; refine (fun (hx : Good M s0 q x) => ?_) ?_; (on_goal 1 => try clear_value x); (on_goal 2 => subst x))
    | (extract_lets -underBinder +onlyGivenNames x; try clear_value x)
    | intro x
    | (simp only [good_mk_iff]; refine GoodParts.of (?_ : Good M s0 q _) rfl rfl rfl rfl)
    | with_reducible apply good_servoTo
    | with_reducible apply good_select)

theorem good_toAcquiring {s1 : State} (h1 : Good M s0 q s1) (a2) (hm : Cover 0x130400000A40 M) : Good M s0 q (State.toAcquiring s1 a2) := by
  unfold State.toAcquiring
  repeat' (first
    | with_reducible assumption
    | exact Cover.sub hm rfl
    | exact Cover.bit hm rfl
    | exact Cover.bit hm (by dsimp only [Fld.block]; rfl)
    | (extract_lets -underBinder +onlyGivenNames x; refine (fun (hx : Good M s0 q x) => ?_) ?_; (on_goal 1 => try clear_value x); (on_goal 2 => subst x))
    | (extract_lets -underBinder +onlyGivenNames x; try clear_value x)
    | intro x
    | (simp only [good_mk_iff]; refine GoodParts.of (?_ : Good M s0 q _) rfl rfl rfl rfl)
    | with_reducible apply good_servoTo
    | with_reducible apply good_select
    | with_reducible apply good_ite)

theorem good_servoEvaluate {s1 : State} (h1 : Good M s0 q s1) (hm : Cover 0x130400000A40 M) : Good M s0 q (State.servoEvaluate s1) := by
  unfold State.servoEvaluate
  repeat' (first
    | with_reducible assumption
    | exact Cover.sub hm rfl
    | exact Cover.bit hm rfl
    | exact Cover.bit hm (by dsimp only [Fld.block]; rfl)
    | (extract_lets -underBinder +onlyGivenNames x; try clear_value x)
    | intro x
    | (simp only [good_mk_iff]; refine GoodParts.of (?_ : Good M s0 q _) rfl rfl rfl rfl)
    | with_reducible apply good_toHoldover
    | with_reducible apply good_toAcquiring
    | with_reducible apply good_servoTo
    | with_reducible apply good_ite
    | split)

theorem good_skip {s1 : State} (h1 : Good M s0 q s1) (a2) (a3) (hm : Cover 0x400000040 M) : Good M s0 q (State.skip s1 a2 a3) := by
  unfold State.skip
  repeat' (first
    | with_reducible assumption
    | exact Cover.sub hm rfl
    | exact Cover.bit hm rfl
    | exact Cover.bit hm (by dsimp only [Fld.block]; rfl)
    | (extract_lets -underBinder +onlyGivenNames x; refine (fun (hx : Good M s0 q x) => ?_) ?_; (on_goal 1 => try clear_value x); (on_goal 2 => subst x))
    | (extract_lets -underBinder +onlyGivenNames x; try clear_value x)
    | intro x
    | with_reducible apply good_w
    | with_reducible apply good_ev
    | with_reducible apply good_ite)

theorem good_carryPast {s1 : State} (h1 : Good M s0 q s1) (a2) (a3) (hm : Cover 0x400000240 M) : Good M s0 q (State.carryPast s1 a2 a3) := by
  unfold State.carryPast
  repeat' (first
    | with_reducible assumption
    | exact Cover.sub hm rfl
    | exact Cover.bit hm rfl
    | exact Cover.bit hm (by dsimp only [Fld.block]; rfl)
    | (extract_lets -underBinder +onlyGivenNames x; refine (fun (hx : Good M s0 q x) => ?_) ?_; (on_goal 1 => try clear_value x); (on_goal 2 => subst x))
    | (extract_lets -underBinder +onlyGivenNames x; try clear_value x)
    | intro x
    | (simp only [good_mk_iff]; refine GoodParts.of (?_ : Good M s0 q _) rfl rfl rfl rfl)
    | with_reducible apply good_skip
    | with_reducible apply good_ite
    | split)

theorem good_carryAll {s1 : State} (h1 : Good M s0 q s1) (a2) (hm : Cover 0x400000240 M) : Good M s0 q (State.carryAll s1 a2) := by
  unfold State.carryAll
  repeat' (first
    | with_reducible assumption
    | exact Cover.sub hm rfl
    | exact Cover.bit hm rfl
    | exact Cover.bit hm (by dsimp only [Fld.block]; rfl)
    | (extract_lets -underBinder +onlyGivenNames x; try clear_value x)
    | intro x
    | with_reducible apply good_carryPast
    | with_reducible apply good_foldS
    | with_reducible apply good_ite)

theorem good_stepTo {s1 : State} (h1 : Good M s0 q s1) (a2) (a3) (hm : Cover 0x100400000240 M) : Good M s0 q (State.stepTo s1 a2 a3) := by
  unfold State.stepTo
  repeat' (first
    | with_reducible assumption
    | exact Cover.sub hm rfl
    | exact Cover.bit hm rfl
    | exact Cover.bit hm (by dsimp only [Fld.block]; rfl)
    | (extract_lets -underBinder +onlyGivenNames x; try clear_value x)
    | intro x
    | with_reducible apply good_carryAll
    | with_reducible apply good_setDieTime)

theorem good_reachTs {s1 : State} (h1 : Good M s0 q s1) (a2) (a3) (hm : Cover 0x100000000041 M) : Good M s0 q (State.reachTs s1 a2 a3) := by
  unfold State.reachTs
  repeat' (first
    | with_reducible assumption
    | exact Cover.sub hm rfl
    | exact Cover.bit hm rfl
    | exact Cover.bit hm (by dsimp only [Fld.block]; rfl)
    | (extract_lets -underBinder +onlyGivenNames x; try clear_value x)
    | intro x
    | with_reducible apply good_advance
    | with_reducible apply good_ite)

theorem good_commitEntries {s1 : State} (h1 : Good M s0 q s1) (a2) (a3) (hm : Cover 0x400000240 M) : Good M s0 q (State.commitEntries s1 a2 a3) := by
  unfold State.commitEntries
  repeat' (first
    | with_reducible assumption
    | exact Cover.sub hm rfl
    | exact Cover.bit hm rfl
    | exact Cover.bit hm (by dsimp only [Fld.block]; rfl)
    | (extract_lets -underBinder +onlyGivenNames x; refine (fun (hx : Good M s0 q x) => ?_) ?_; (on_goal 1 => try clear_value x); (on_goal 2 => subst x))
    | (extract_lets -underBinder +onlyGivenNames x; try clear_value x)
    | intro x
    | (simp only [good_mk_iff]; refine GoodParts.of (?_ : Good M s0 q _) rfl rfl rfl rfl)
    | with_reducible apply good_carryPast
    | with_reducible apply good_foldS)

theorem good_measure {s1 : State} (h1 : Good M s0 q s1) (a2) (a3) (hm : Cover 0x130400000A60 M) : Good M s0 q (State.measure s1 a2 a3) := by
  unfold State.measure
  repeat' (first
    | with_reducible assumption
    | exact Cover.sub hm rfl
    | exact Cover.bit hm rfl
    | exact Cover.bit hm (by dsimp only [Fld.block]; rfl)
    | (extract_lets -underBinder +onlyGivenNames x; refine (fun (hx : Good M s0 q x) => ?_) ?_; (on_goal 1 => try clear_value x); (on_goal 2 => subst x))
    | (extract_lets -underBinder +onlyGivenNames x; try clear_value x)
    | intro x
    | (simp only [good_mk_iff]; refine GoodParts.of (?_ : Good M s0 q _) rfl rfl rfl rfl)
    | with_reducible apply good_select
    | with_reducible apply good_stepTo
    | with_reducible apply good_servoTo
    | with_reducible apply good_ev
    | with_reducible apply good_logEv
    | with_reducible apply good_setDieTime
    | with_reducible apply good_w
    | with_reducible apply good_ite)

theorem good_measureFrom {s1 : State} (h1 : Good M s0 q s1) (a2) (a3) (hm : Cover 0x130400000A60 M) : Good M s0 q (State.measureFrom s1 a2 a3) := by
  unfold State.measureFrom
  repeat' (first
    | with_reducible assumption
    | exact Cover.sub hm rfl
    | exact Cover.bit hm rfl
    | exact Cover.bit hm (by dsimp only [Fld.block]; rfl)
    | (extract_lets -underBinder +onlyGivenNames x; refine (fun (hx : Good M s0 q x) => ?_) ?_; (on_goal 1 => try clear_value x); (on_goal 2 => subst x))
    | (extract_lets -underBinder +onlyGivenNames x; try clear_value x)
    | intro x
    | with_reducible apply good_servoEvaluate
    | with_reducible apply good_measure
    | with_reducible apply good_ite
    | split)

theorem good_reportBounds {s1 : State} (h1 : Good M s0 q s1) (hm : Cover 0x400000260 M) : Good M s0 q (State.reportBounds s1) := by
  unfold State.reportBounds
  repeat' (first
    | with_reducible assumption
    | exact Cover.sub hm rfl
    | exact Cover.bit hm rfl
    | exact Cover.bit hm (by dsimp only [Fld.block]; rfl)
    | (extract_lets -underBinder +onlyGivenNames x; refine (fun (hx : Good M s0 q x) => ?_) ?_; (on_goal 1 => try clear_value x); (on_goal 2 => subst x))
    | (extract_lets -underBinder +onlyGivenNames x; try clear_value x)
    | intro x
    | (simp only [good_mk_iff]; refine GoodParts.of (?_ : Good M s0 q _) rfl rfl rfl rfl)
    | with_reducible apply good_w
    | with_reducible apply good_logEv
    | with_reducible apply good_ev
    | with_reducible apply good_foldS
    | with_reducible apply good_ite)

theorem good_execErrorBoundUpdate {s1 : State} (h1 : Good M s0 q s1) (hm : Cover 0x130400000A60 M) : OutGood M s0 q (execErrorBoundUpdate s1) := by
  unfold execErrorBoundUpdate
  repeat' (first
    | with_reducible assumption
    | exact Cover.sub hm rfl
    | exact Cover.bit hm rfl
    | exact Cover.bit hm (by dsimp only [Fld.block]; rfl)
    | (extract_lets -underBinder +onlyGivenNames x; refine (fun (hx : Good M s0 q x) => ?_) ?_; (on_goal 1 => try clear_value x); (on_goal 2 => subst x))
    | (extract_lets -underBinder +onlyGivenNames x; try clear_value x)
    | intro x
    | with_reducible apply OutGood.of
    | with_reducible apply good_reanchor
    | with_reducible apply good_reportBounds
    | with_reducible apply good_servoEvaluate
    | with_reducible apply good_ite)

theorem good_execPtpMessageReceived (a1) (a2) {s3 : State} (h3 : Good M s0 q s3) (hm : Cover 0x30000130400000A60 M) : OutGood M s0 q (execPtpMessageReceived a1 a2 s3) := by
  unfold execPtpMessageReceived
  repeat' (first
    | with_reducible assumption
    | exact Cover.sub hm rfl
    | exact Cover.bit hm rfl
    | exact Cover.bit hm (by dsimp only [Fld.block]; rfl)
    | (extract_lets -underBinder +onlyGivenNames x; refine (fun (hx : Good M s0 q x) => ?_) ?_; (on_goal 1 => try clear_value x); (on_goal 2 => subst x))
    | (extract_lets -underBinder +onlyGivenNames x; try clear_value x)
    | intro x
    | (simp only [good_mk_iff]; refine GoodParts.of (?_ : Good M s0 q _) rfl rfl rfl rfl)
    | with_reducible apply OutGood.of
    | with_reducible apply good_bump
    | with_reducible apply good_servoEvaluate
    | with_reducible apply good_utcShow
    | with_reducible apply good_measureFrom
    | with_reducible apply good_ite
    | with_reducible apply OutGood.ite
    | split)

theorem good_execSourceValidityTimeout (a1) (a2) (a3) (a4) {s5 : State} (h5 : Good M s0 q s5) (hm : Cover 0x130400000A40 M) : OutGood M s0 q (execSourceValidityTimeout a1 a2 a3 a4 s5) := by
  unfold execSourceValidityTimeout
  repeat' (first
    | with_reducible assumption
    | exact Cover.sub hm rfl
    | exact Cover.bit hm rfl
    | exact Cover.bit hm (by dsimp only [Fld.block]; rfl)
    | (extract_lets -underBinder +onlyGivenNames x; try clear_value x)
    | intro x
    | (simp only [good_mk_iff]; refine GoodParts.of (?_ : Good M s0 q _) rfl rfl rfl rfl)
    | with_reducible apply OutGood.of
    | with_reducible apply good_servoEvaluate)

theorem good_execPpsInputEdge (a1) (a2) {s3 : State} (h3 : Good M s0 q s3) (hm : Cover 0x130400000A61 M) : OutGood M s0 q (execPpsInputEdge a1 a2 s3) := by
  unfold execPpsInputEdge
  repeat' (first
    | with_reducible assumption
    | exact Cover.sub hm rfl
    | exact Cover.bit hm rfl
    | exact Cover.bit hm (by dsimp only [Fld.block]; rfl)
    | (extract_lets -underBinder +onlyGivenNames x; refine (fun (hx : Good M s0 q x) => ?_) ?_; (on_goal 1 => try clear_value x); (on_goal 2 => subst x))
    | (extract_lets -underBinder +onlyGivenNames x; try clear_value x)
    | intro x
    | (simp only [good_mk_iff]; refine GoodParts.of (?_ : Good M s0 q _) rfl rfl rfl rfl)
    | with_reducible apply OutGood.of
    | with_reducible apply good_advance
    | with_reducible apply good_measureFrom
    | with_reducible apply good_servoEvaluate
    | with_reducible apply good_ite
    | with_reducible apply OutGood.ite)

theorem good_execRef10mCheck (a1) (a2) {s3 : State} (h3 : Good M s0 q s3) (hm : Cover 0x1000400000200 M) : OutGood M s0 q (execRef10mCheck a1 a2 s3) := by
  unfold execRef10mCheck
  repeat' (first
    | with_reducible assumption
    | exact Cover.sub hm rfl
    | exact Cover.bit hm rfl
    | exact Cover.bit hm (by dsimp only [Fld.block]; rfl)
    | (extract_lets -underBinder +onlyGivenNames x; refine (fun (hx : Good M s0 q x) => ?_) ?_; (on_goal 1 => try clear_value x); (on_goal 2 => subst x))
    | (extract_lets -underBinder +onlyGivenNames x; try clear_value x)
    | intro x
    | (simp only [good_mk_iff]; refine GoodParts.of (?_ : Good M s0 q _) rfl rfl rfl rfl)
    | with_reducible apply OutGood.of
    | with_reducible apply good_wb
    | with_reducible apply good_reanchor
    | with_reducible apply good_ite)

theorem good_execFirstLockWaitExpiry {s1 : State} (h1 : Good M s0 q s1) (hm : Cover 0x100000000241 M) : OutGood M s0 q (execFirstLockWaitExpiry s1) := by
  unfold execFirstLockWaitExpiry
  repeat' (first
    | with_reducible assumption
    | exact Cover.sub hm rfl
    | exact Cover.bit hm rfl
    | exact Cover.bit hm (by dsimp only [Fld.block]; rfl)
    | (extract_lets -underBinder +onlyGivenNames x; refine (fun (hx : Good M s0 q x) => ?_) ?_; (on_goal 1 => try clear_value x); (on_goal 2 => subst x))
    | (extract_lets -underBinder +onlyGivenNames x; try clear_value x)
    | intro x
    | (simp only [good_mk_iff]; refine GoodParts.of (?_ : Good M s0 q _) rfl rfl rfl rfl)
    | with_reducible apply OutGood.of
    | with_reducible apply good_advance)

theorem good_execTs64Seed (a1) {s2 : State} (h2 : Good M s0 q s2) (hm : Cover 0x130400000A40 M) : OutGood M s0 q (execTs64Seed a1 s2) := by
  unfold execTs64Seed
  repeat' (first
    | with_reducible assumption
    | exact Cover.sub hm rfl
    | exact Cover.bit hm rfl
    | exact Cover.bit hm (by dsimp only [Fld.block]; rfl)
    | (extract_lets -underBinder +onlyGivenNames x; refine (fun (hx : Good M s0 q x) => ?_) ?_; (on_goal 1 => try clear_value x); (on_goal 2 => subst x))
    | (extract_lets -underBinder +onlyGivenNames x; try clear_value x)
    | intro x
    | (simp only [good_mk_iff]; refine GoodParts.of (?_ : Good M s0 q _) rfl rfl rfl rfl)
    | with_reducible apply OutGood.of
    | with_reducible apply good_stepTo
    | with_reducible apply good_servoTo
    | with_reducible apply good_ite
    | with_reducible apply OutGood.ite)

theorem good_latSend {s1 : State} (h1 : Good M s0 q s1) (a2) (a3) (hm : Cover 0x80 M) : Good M s0 q (State.latSend s1 a2 a3) := by
  unfold State.latSend
  repeat' (first
    | with_reducible assumption
    | exact Cover.sub hm rfl
    | exact Cover.bit hm rfl
    | exact Cover.bit hm (by dsimp only [Fld.block]; rfl)
    | (extract_lets -underBinder +onlyGivenNames x; try clear_value x)
    | intro x
    | (simp only [good_mk_iff]; refine GoodParts.of (?_ : Good M s0 q _) rfl rfl rfl rfl))

theorem good_execTimeDistributionSend {s1 : State} (h1 : Good M s0 q s1) (hm : Cover 0x280 M) : OutGood M s0 q (execTimeDistributionSend s1) := by
  unfold execTimeDistributionSend
  repeat' (first
    | with_reducible assumption
    | exact Cover.sub hm rfl
    | exact Cover.bit hm rfl
    | exact Cover.bit hm (by dsimp only [Fld.block]; rfl)
    | (extract_lets -underBinder +onlyGivenNames x; refine (fun (hx : Good M s0 q x) => ?_) ?_; (on_goal 1 => try clear_value x); (on_goal 2 => subst x))
    | (extract_lets -underBinder +onlyGivenNames x; try clear_value x)
    | intro x
    | (simp only [good_mk_iff]; refine GoodParts.of (?_ : Good M s0 q _) rfl rfl rfl rfl)
    | with_reducible apply OutGood.of
    | with_reducible apply good_latSend)

theorem good_execTimeDisagreeEpisodeEnd {s1 : State} (h1 : Good M s0 q s1) (hm : Cover 0x100000000241 M) : OutGood M s0 q (execTimeDisagreeEpisodeEnd s1) := by
  unfold execTimeDisagreeEpisodeEnd
  repeat' (first
    | with_reducible assumption
    | exact Cover.sub hm rfl
    | exact Cover.bit hm rfl
    | exact Cover.bit hm (by dsimp only [Fld.block]; rfl)
    | (extract_lets -underBinder +onlyGivenNames x; refine (fun (hx : Good M s0 q x) => ?_) ?_; (on_goal 1 => try clear_value x); (on_goal 2 => subst x))
    | (extract_lets -underBinder +onlyGivenNames x; try clear_value x)
    | intro x
    | (simp only [good_mk_iff]; refine GoodParts.of (?_ : Good M s0 q _) rfl rfl rfl rfl)
    | with_reducible apply OutGood.of
    | with_reducible apply good_advance
    | with_reducible apply good_ite
    | with_reducible apply OutGood.ite
    | split)

theorem good_execScheduleWindowClose (a1) (a2) {s3 : State} (h3 : Good M s0 q s3) (hm : Cover 0x100000000241 M) : OutGood M s0 q (execScheduleWindowClose a1 a2 s3) := by
  unfold execScheduleWindowClose
  repeat' (first
    | with_reducible assumption
    | exact Cover.sub hm rfl
    | exact Cover.bit hm rfl
    | exact Cover.bit hm (by dsimp only [Fld.block]; rfl)
    | (extract_lets -underBinder +onlyGivenNames x; refine (fun (hx : Good M s0 q x) => ?_) ?_; (on_goal 1 => try clear_value x); (on_goal 2 => subst x))
    | (extract_lets -underBinder +onlyGivenNames x; try clear_value x)
    | intro x
    | (simp only [good_mk_iff]; refine GoodParts.of (?_ : Good M s0 q _) rfl rfl rfl rfl)
    | with_reducible apply OutGood.of
    | with_reducible apply good_reachTs
    | with_reducible apply good_ite
    | with_reducible apply OutGood.ite
    | split)

theorem good_execTimSchedCommit (a1) (a2) {s3 : State} (h3 : Good M s0 q s3) (hm : Cover 0x130400000260 M) : OutGood M s0 q (execTimSchedCommit a1 a2 s3) := by
  unfold execTimSchedCommit
  repeat' (first
    | with_reducible assumption
    | exact Cover.sub hm rfl
    | exact Cover.bit hm rfl
    | exact Cover.bit hm (by dsimp only [Fld.block]; rfl)
    | (extract_lets -underBinder +onlyGivenNames x; try clear_value x)
    | intro x
    | with_reducible apply OutGood.of
    | with_reducible apply good_secureOnly
    | with_reducible apply good_commitEntries)

theorem good_timerWrite {s1 : State} (h1 : Good M s0 q s1) (a2) (a3) (a4) (a5) (a6) (hm : Cover 0x130400000260 M) : Good M s0 q (State.timerWrite s1 a2 a3 a4 a5 a6) := by
  unfold State.timerWrite
  repeat' (first
    | with_reducible assumption
    | exact Cover.sub hm rfl
    | exact Cover.bit hm rfl
    | exact Cover.bit hm (by dsimp only [Fld.block]; rfl)
    | (extract_lets -underBinder +onlyGivenNames x; refine (fun (hx : Good M s0 q x) => ?_) ?_; (on_goal 1 => try clear_value x); (on_goal 2 => subst x))
    | (extract_lets -underBinder +onlyGivenNames x; try clear_value x)
    | intro x
    | (simp only [good_mk_iff]; refine GoodParts.of (?_ : Good M s0 q _) rfl rfl rfl rfl)
    | with_reducible apply good_worldViolation
    | with_reducible apply good_log
    | with_reducible apply good_carryPast
    | with_reducible apply good_ite)

theorem good_execTimSchedWrite (a1) (a2) (a3) (a4) (a5) {s6 : State} (h6 : Good M s0 q s6) (hm : Cover 0x130400000260 M) : OutGood M s0 q (execTimSchedWrite a1 a2 a3 a4 a5 s6) := by
  unfold execTimSchedWrite
  repeat' (first
    | with_reducible assumption
    | exact Cover.sub hm rfl
    | exact Cover.bit hm rfl
    | exact Cover.bit hm (by dsimp only [Fld.block]; rfl)
    | (extract_lets -underBinder +onlyGivenNames x; try clear_value x)
    | intro x
    | (simp only [good_mk_iff]; refine GoodParts.of (?_ : Good M s0 q _) rfl rfl rfl rfl)
    | with_reducible apply OutGood.of
    | with_reducible apply good_worldViolation
    | with_reducible apply good_timerWrite
    | with_reducible apply good_ite
    | with_reducible apply OutGood.ite)

theorem good_execPpsOutputPulse {s1 : State} (h1 : Good M s0 q s1) (hm : Cover 0x100000000241 M) : OutGood M s0 q (execPpsOutputPulse s1) := by
  unfold execPpsOutputPulse
  repeat' (first
    | with_reducible assumption
    | exact Cover.sub hm rfl
    | exact Cover.bit hm rfl
    | exact Cover.bit hm (by dsimp only [Fld.block]; rfl)
    | (extract_lets -underBinder +onlyGivenNames x; refine (fun (hx : Good M s0 q x) => ?_) ?_; (on_goal 1 => try clear_value x); (on_goal 2 => subst x))
    | (extract_lets -underBinder +onlyGivenNames x; try clear_value x)
    | intro x
    | (simp only [good_mk_iff]; refine GoodParts.of (?_ : Good M s0 q _) rfl rfl rfl rfl)
    | with_reducible apply OutGood.of
    | with_reducible apply good_reachTs
    | with_reducible apply good_emit
    | with_reducible apply good_ite
    | with_reducible apply OutGood.ite)

theorem good_execPpsOutputWidthEnd {s1 : State} (h1 : Good M s0 q s1) (hm : Cover 0x100000000241 M) : OutGood M s0 q (execPpsOutputWidthEnd s1) := by
  unfold execPpsOutputWidthEnd
  repeat' (first
    | with_reducible assumption
    | exact Cover.sub hm rfl
    | exact Cover.bit hm rfl
    | exact Cover.bit hm (by dsimp only [Fld.block]; rfl)
    | (extract_lets -underBinder +onlyGivenNames x; refine (fun (hx : Good M s0 q x) => ?_) ?_; (on_goal 1 => try clear_value x); (on_goal 2 => subst x))
    | (extract_lets -underBinder +onlyGivenNames x; try clear_value x)
    | intro x
    | (simp only [good_mk_iff]; refine GoodParts.of (?_ : Good M s0 q _) rfl rfl rfl rfl)
    | with_reducible apply OutGood.of
    | with_reducible apply good_reachTs
    | with_reducible apply good_emit
    | with_reducible apply good_ite
    | with_reducible apply OutGood.ite)

theorem good_execUtcLeapOffsetChange {s1 : State} (h1 : Good M s0 q s1) (hm : Cover 0x100400000241 M) : OutGood M s0 q (execUtcLeapOffsetChange s1) := by
  unfold execUtcLeapOffsetChange
  repeat' (first
    | with_reducible assumption
    | exact Cover.sub hm rfl
    | exact Cover.bit hm rfl
    | exact Cover.bit hm (by dsimp only [Fld.block]; rfl)
    | (extract_lets -underBinder +onlyGivenNames x; refine (fun (hx : Good M s0 q x) => ?_) ?_; (on_goal 1 => try clear_value x); (on_goal 2 => subst x))
    | (extract_lets -underBinder +onlyGivenNames x; try clear_value x)
    | intro x
    | (simp only [good_mk_iff]; refine GoodParts.of (?_ : Good M s0 q _) rfl rfl rfl rfl)
    | with_reducible apply OutGood.of
    | with_reducible apply good_reachTs
    | with_reducible apply good_w
    | with_reducible apply good_ite
    | with_reducible apply OutGood.ite
    | split)

theorem good_execPtpMessageSend (a1) (a2) {s3 : State} (h3 : Good M s0 q s3) (hm : Cover 0x40 M) : OutGood M s0 q (execPtpMessageSend a1 a2 s3) := by
  unfold execPtpMessageSend
  repeat' (first
    | with_reducible assumption
    | exact Cover.sub hm rfl
    | exact Cover.bit hm rfl
    | exact Cover.bit hm (by dsimp only [Fld.block]; rfl)
    | (extract_lets -underBinder +onlyGivenNames x; try clear_value x)
    | intro x
    | with_reducible apply OutGood.of
    | with_reducible apply good_emit
    | with_reducible apply good_ite
    | with_reducible apply OutGood.ite)

end Sys2Proof.Machine
end

