-- ==== Sys2Proof/Laws/ImageLoad.lean ====
section
/-! SUPPORT. What the operations of Machine/ImageLoad.lean keep (see Laws/Keep.lean), one lemma for each. -/

set_option Elab.async false

set_option linter.all false

namespace Sys2Proof.Machine

variable {M : Nat} {s0 : State} {q : Prop}

theorem good_writeSelector {s1 : State} (h1 : Good M s0 q s1) (a2) (hm : Cover 0x1000 M) : Good M s0 q (State.writeSelector s1 a2) := by
  unfold State.writeSelector
  repeat' (first
    | with_reducible assumption
    | exact Cover.sub hm rfl
    | exact Cover.bit hm rfl
    | exact Cover.bit hm (by dsimp only [Fld.block]; rfl)
    | (extract_lets -underBinder +onlyGivenNames x; try clear_value x)
    | intro x
    | (simp only [good_mk_iff]; refine GoodParts.of (?_ : Good M s0 q _) rfl rfl rfl rfl)
    | with_reducible apply good_ite)

theorem good_imgFail {s1 : State} (h1 : Good M s0 q s1) (a2) (hm : Cover 0x1000000000 M) : Good M s0 q (State.imgFail s1 a2) := by
  unfold State.imgFail
  repeat' (first
    | with_reducible assumption
    | exact Cover.sub hm rfl
    | exact Cover.bit hm rfl
    | exact Cover.bit hm (by dsimp only [Fld.block]; rfl)
    | (extract_lets -underBinder +onlyGivenNames x; try clear_value x)
    | intro x
    | with_reducible apply good_w)

theorem good_imgInForce {s1 : State} (h1 : Good M s0 q s1) (a2) (hm : Cover 0x1000001000 M) : Good M s0 q (State.imgInForce s1 a2) := by
  unfold State.imgInForce
  repeat' (first
    | with_reducible assumption
    | exact Cover.sub hm rfl
    | exact Cover.bit hm rfl
    | exact Cover.bit hm (by dsimp only [Fld.block]; rfl)
    | (extract_lets -underBinder +onlyGivenNames x; try clear_value x)
    | intro x
    | (simp only [good_mk_iff]; refine GoodParts.of (?_ : Good M s0 q _) rfl rfl rfl rfl)
    | with_reducible apply good_w)

theorem good_stageRegs {s1 : State} (h1 : Good M s0 q s1) (a2) (a3) (a4) (hm : Cover 0x1000000000 M) : Good M s0 q (State.stageRegs s1 a2 a3 a4) := by
  unfold State.stageRegs
  repeat' (first
    | with_reducible assumption
    | exact Cover.sub hm rfl
    | exact Cover.bit hm rfl
    | exact Cover.bit hm (by dsimp only [Fld.block]; rfl)
    | (extract_lets -underBinder +onlyGivenNames x; try clear_value x)
    | intro x
    | with_reducible apply good_w)

theorem good_stageKept {s1 : State} (h1 : Good M s0 q s1) (a2) (a3) (hm : Cover 0x1000001000 M) : Good M s0 q (State.stageKept s1 a2 a3) := by
  unfold State.stageKept
  repeat' (first
    | with_reducible assumption
    | exact Cover.sub hm rfl
    | exact Cover.bit hm rfl
    | exact Cover.bit hm (by dsimp only [Fld.block]; rfl)
    | (extract_lets -underBinder +onlyGivenNames x; try clear_value x)
    | intro x
    | (simp only [good_mk_iff]; refine GoodParts.of (?_ : Good M s0 q _) rfl rfl rfl rfl)
    | with_reducible apply good_w
    | with_reducible apply good_stageRegs
    | with_reducible apply good_ite
    | split)

theorem good_execConfigImageLoad (a1) (a2) (a3) (a4) {s5 : State} (h5 : Good M s0 q s5) (hm : Cover 0x1000001120 M) : OutGood M s0 q (execConfigImageLoad a1 a2 a3 a4 s5) := by
  unfold execConfigImageLoad
  repeat' (first
    | with_reducible assumption
    | exact Cover.sub hm rfl
    | exact Cover.bit hm rfl
    | exact Cover.bit hm (by dsimp only [Fld.block]; rfl)
    | (extract_lets -underBinder +onlyGivenNames x; refine (fun (hx : Good M s0 q x) => ?_) ?_; (on_goal 1 => try clear_value x); (on_goal 2 => subst x))
    | (extract_lets -underBinder +onlyGivenNames x; try clear_value x)
    | intro x
    | (simp only [good_mk_iff]; refine GoodParts.of (?_ : Good M s0 q _) rfl rfl rfl rfl)
    | with_reducible apply OutGood.of
    | with_reducible apply good_w
    | with_reducible apply good_stageKept
    | with_reducible apply good_imgInForce
    | with_reducible apply good_imgFail
    | with_reducible apply good_logEv
    | with_reducible apply good_trig
    | with_reducible apply good_ite
    | with_reducible apply OutGood.ite
    | split)

theorem good_execImgStageStart (a1) (a2) {s3 : State} (h3 : Good M s0 q s3) (hm : Cover 0x131000001060 M) : OutGood M s0 q (execImgStageStart a1 a2 s3) := by
  unfold execImgStageStart
  repeat' (first
    | with_reducible assumption
    | exact Cover.sub hm rfl
    | exact Cover.bit hm rfl
    | exact Cover.bit hm (by dsimp only [Fld.block]; rfl)
    | (extract_lets -underBinder +onlyGivenNames x; refine (fun (hx : Good M s0 q x) => ?_) ?_; (on_goal 1 => try clear_value x); (on_goal 2 => subst x))
    | (extract_lets -underBinder +onlyGivenNames x; try clear_value x)
    | intro x
    | (simp only [good_mk_iff]; refine GoodParts.of (?_ : Good M s0 q _) rfl rfl rfl rfl)
    | with_reducible apply OutGood.of
    | with_reducible apply good_secureOnly
    | with_reducible apply good_discardState
    | with_reducible apply good_imgFail
    | with_reducible apply good_w
    | with_reducible apply good_ite
    | with_reducible apply OutGood.ite
    | split
    | apply good_ite)

theorem good_stageCancelled {s1 : State} (h1 : Good M s0 q s1) (a2) (hm : Cover 0x1000001000 M) : Good M s0 q (State.stageCancelled s1 a2) := by
  unfold State.stageCancelled
  repeat' (first
    | with_reducible assumption
    | exact Cover.sub hm rfl
    | exact Cover.bit hm rfl
    | exact Cover.bit hm (by dsimp only [Fld.block]; rfl)
    | (extract_lets -underBinder +onlyGivenNames x; refine (fun (hx : Good M s0 q x) => ?_) ?_; (on_goal 1 => try clear_value x); (on_goal 2 => subst x))
    | (extract_lets -underBinder +onlyGivenNames x; try clear_value x)
    | intro x
    | (simp only [good_mk_iff]; refine GoodParts.of (?_ : Good M s0 q _) rfl rfl rfl rfl)
    | with_reducible apply good_stageRegs
    | with_reducible apply good_writeSelector
    | with_reducible apply good_w)

theorem good_execImgStageCancel (a1) {s2 : State} (h2 : Good M s0 q s2) (hm : Cover 0x300030000000000000000131000801060 M) : OutGood M s0 q (execImgStageCancel a1 s2) := by
  unfold execImgStageCancel
  repeat' (first
    | with_reducible assumption
    | exact Cover.sub hm rfl
    | exact Cover.bit hm rfl
    | exact Cover.bit hm (by dsimp only [Fld.block]; rfl)
    | (extract_lets -underBinder +onlyGivenNames x; refine (fun (hx : Good M s0 q x) => ?_) ?_; (on_goal 1 => try clear_value x); (on_goal 2 => subst x))
    | (extract_lets -underBinder +onlyGivenNames x; try clear_value x)
    | intro x
    | with_reducible apply OutGood.of
    | with_reducible apply good_secureOnly
    | with_reducible apply good_stageCancelled
    | with_reducible apply good_sendControl
    | with_reducible apply good_discardState
    | with_reducible apply good_ite)

theorem good_stageAgree {s1 : State} (h1 : Good M s0 q s1) (hm : Cover 0x1000000000 M) : Good M s0 q (State.stageAgree s1) := by
  unfold State.stageAgree
  repeat' (first
    | with_reducible assumption
    | exact Cover.sub hm rfl
    | exact Cover.bit hm rfl
    | exact Cover.bit hm (by dsimp only [Fld.block]; rfl)
    | (extract_lets -underBinder +onlyGivenNames x; try clear_value x)
    | intro x
    | with_reducible apply good_w
    | with_reducible apply good_ite
    | split)

theorem good_execStagingComplete (a1) {s2 : State} (h2 : Good M s0 q s2) (hm : Cover 0x300030000000000000000101000801040 M) : OutGood M s0 q (execStagingComplete a1 s2) := by
  unfold execStagingComplete
  repeat' (first
    | with_reducible assumption
    | exact Cover.sub hm rfl
    | (extract_lets -underBinder +onlyGivenNames x; refine (fun (hf : ∀ k : State → State, (∀ y, Good M s0 q y → Good M s0 q (k y)) → Good M s0 q (x k)) => ?_) ?_; (on_goal 1 => try clear_value x); (on_goal 2 => subst x))
    | (extract_lets -underBinder +onlyGivenNames x; refine (fun (hf : ∀ a, Good M s0 q (x a)) => ?_) ?_; (on_goal 1 => try clear_value x); (on_goal 2 => subst x))
    | exact Cover.bit hm rfl
    | exact Cover.bit hm (by dsimp only [Fld.block]; rfl)
    | (extract_lets -underBinder +onlyGivenNames x; refine (fun (hx : Good M s0 q x) => ?_) ?_; (on_goal 1 => try clear_value x); (on_goal 2 => subst x))
    | (extract_lets -underBinder +onlyGivenNames x; try clear_value x)
    | intro x
    | (simp only [good_mk_iff]; refine GoodParts.of (?_ : Good M s0 q _) rfl rfl rfl rfl)
    | with_reducible apply OutGood.of
    | with_reducible apply good_w
    | with_reducible apply good_imgFail
    | with_reducible apply good_stageRegs
    | with_reducible apply good_writeSelector
    | with_reducible apply good_stageAgree
    | with_reducible apply good_sendControl
    | apply_assumption -exfalso -symm
    | with_reducible apply good_ite
    | with_reducible apply OutGood.ite
    | split)

theorem good_execStageReportReceived (a1) (a2) (a3) {s4 : State} (h4 : Good M s0 q s4) (hm : Cover 0x1000001000 M) : OutGood M s0 q (execStageReportReceived a1 a2 a3 s4) := by
  unfold execStageReportReceived
  repeat' (first
    | with_reducible assumption
    | exact Cover.sub hm rfl
    | exact Cover.bit hm rfl
    | exact Cover.bit hm (by dsimp only [Fld.block]; rfl)
    | (extract_lets -underBinder +onlyGivenNames x; try clear_value x)
    | intro x
    | (simp only [good_mk_iff]; refine GoodParts.of (?_ : Good M s0 q _) rfl rfl rfl rfl)
    | with_reducible apply OutGood.of
    | with_reducible apply good_stageCancelled
    | with_reducible apply good_stageAgree
    | with_reducible apply good_ite
    | with_reducible apply OutGood.ite
    | split)

theorem good_execStageAgreementDeadline {s1 : State} (h1 : Good M s0 q s1) (hm : Cover 0x300030000000000000000101000801041 M) : OutGood M s0 q (execStageAgreementDeadline s1) := by
  unfold execStageAgreementDeadline
  repeat' (first
    | with_reducible assumption
    | exact Cover.sub hm rfl
    | exact Cover.bit hm rfl
    | exact Cover.bit hm (by dsimp only [Fld.block]; rfl)
    | (extract_lets -underBinder +onlyGivenNames x; refine (fun (hx : Good M s0 q x) => ?_) ?_; (on_goal 1 => try clear_value x); (on_goal 2 => subst x))
    | (extract_lets -underBinder +onlyGivenNames x; try clear_value x)
    | intro x
    | (simp only [good_mk_iff]; refine GoodParts.of (?_ : Good M s0 q _) rfl rfl rfl rfl)
    | with_reducible apply OutGood.of
    | with_reducible apply good_reachTs
    | with_reducible apply good_sendControl
    | with_reducible apply good_stageCancelled
    | with_reducible apply good_ite
    | with_reducible apply OutGood.ite
    | split)

end Sys2Proof.Machine
end

