-- ==== Sys2Proof/Laws/Switch.lean ====
section
/-! SUPPORT. What the operations of Machine/Switch.lean keep (see Laws/Keep.lean), one lemma for each. -/

set_option Elab.async false

set_option linter.all false

namespace Sys2Proof.Machine

variable {M : Nat} {s0 : State} {q : Prop}

theorem good_swPush {s1 : State} (h1 : Good M s0 q s1) (a2) (hm : Cover 0x4000 M) : Good M s0 q (State.swPush s1 a2) := by
  unfold State.swPush
  repeat' (first
    | with_reducible assumption
    | exact Cover.sub hm rfl
    | exact Cover.bit hm rfl
    | exact Cover.bit hm (by dsimp only [Fld.block]; rfl)
    | (extract_lets -underBinder +onlyGivenNames x; try clear_value x)
    | intro x
    | (simp only [good_mk_iff]; refine GoodParts.of (?_ : Good M s0 q _) rfl rfl rfl rfl))

theorem good_swInject {s1 : State} (h1 : Good M s0 q s1) (a2) (a3) (a4) (a5) (a6) (a7) (a8) (hm : Cover 0x300000100000004040 M) : Good M s0 q (State.swInject s1 a2 a3 a4 a5 a6 a7 a8) := by
  unfold State.swInject
  repeat' (first
    | with_reducible assumption
    | exact Cover.sub hm rfl
    | exact Cover.bit hm rfl
    | exact Cover.bit hm (by dsimp only [Fld.block]; rfl)
    | (extract_lets -underBinder +onlyGivenNames x; try clear_value x)
    | intro x
    | with_reducible apply good_swPush
    | with_reducible apply good_bump
    | with_reducible apply good_ite)

theorem good_swAdmit {s1 : State} (h1 : Good M s0 q s1) (a2) (a3) (hm : Cover 0x300000100000004040 M) : Good M s0 q (State.swAdmit s1 a2 a3).1 := by
  unfold State.swAdmit
  repeat' (first
    | with_reducible assumption
    | exact Cover.sub hm rfl
    | exact Cover.bit hm rfl
    | exact Cover.bit hm (by dsimp only [Fld.block]; rfl)
    | (extract_lets -underBinder +onlyGivenNames x; try clear_value x)
    | intro x
    | (simp only [good_mk_iff]; refine GoodParts.of (?_ : Good M s0 q _) rfl rfl rfl rfl)
    | with_reducible apply good_bump
    | with_reducible apply good_swPush
    | split)

theorem good_swAdmit_eq {s1 : State} {a2} {a3} {t} {b} (e : State.swAdmit s1 a2 a3 = (t, b)) (h1 : Good M s0 q s1) (hm : Cover 0x300000100000004040 M) : Good M s0 q t := by
  have h := good_swAdmit h1 a2 a3 hm
  rw [e] at h
  exact h

theorem good_polBump {s1 : State} (h1 : Good M s0 q s1) (a2) (a3) (a4) (hm : Cover 0xC00000100000004040 M) : Good M s0 q (State.polBump s1 a2 a3 a4) := by
  unfold State.polBump
  repeat' (first
    | with_reducible assumption
    | exact Cover.sub hm rfl
    | exact Cover.bit hm rfl
    | exact Cover.bit hm (by dsimp only [Fld.block]; rfl)
    | (extract_lets -underBinder +onlyGivenNames x; refine (fun (hx : Good M s0 q x) => ?_) ?_; (on_goal 1 => try clear_value x); (on_goal 2 => subst x))
    | (extract_lets -underBinder +onlyGivenNames x; try clear_value x)
    | intro x
    | (simp only [good_mk_iff]; refine GoodParts.of (?_ : Good M s0 q _) rfl rfl rfl rfl)
    | with_reducible apply good_bump
    | with_reducible apply good_w
    | with_reducible apply good_ite)

theorem good_policeFrame {s1 : State} (h1 : Good M s0 q s1) (a2) (a3) (a4) (hm : Cover 0xC00000100000004040 M) : Good M s0 q (State.policeFrame s1 a2 a3 a4).1 := by
  unfold State.policeFrame
  repeat' (first
    | with_reducible assumption
    | exact Cover.sub hm rfl
    | exact Cover.bit hm rfl
    | exact Cover.bit hm (by dsimp only [Fld.block]; rfl)
    | (extract_lets -underBinder +onlyGivenNames x; refine (fun (hx : Good M s0 q x) => ?_) ?_; (on_goal 1 => try clear_value x); (on_goal 2 => subst x))
    | (extract_lets -underBinder +onlyGivenNames x; try clear_value x)
    | intro x
    | (simp only [good_mk_iff]; refine GoodParts.of (?_ : Good M s0 q _) rfl rfl rfl rfl)
    | with_reducible apply good_polBump
    | split)

theorem good_policeFrame_eq {s1 : State} {a2} {a3} {a4} {t} {b} (e : State.policeFrame s1 a2 a3 a4 = (t, b)) (h1 : Good M s0 q s1) (hm : Cover 0xC00000100000004040 M) : Good M s0 q t := by
  have h := good_policeFrame h1 a2 a3 a4 hm
  rw [e] at h
  exact h

theorem good_policeMay {s1 : State} (h1 : Good M s0 q s1) (a2) (a3) (a4) (hm : Cover 0xC00000100000004040 M) : Good M s0 q (State.policeMay s1 a2 a3 a4).1 := by
  unfold State.policeMay
  repeat' (first
    | with_reducible assumption
    | exact Cover.sub hm rfl
    | exact Cover.bit hm rfl
    | exact Cover.bit hm (by dsimp only [Fld.block]; rfl)
    | intro x
    | refine good_policeFrame_eq (by assumption) ?_ ?_
    | with_reducible apply good_policeFrame
    | split)

theorem good_policeMay_eq {s1 : State} {a2} {a3} {a4} {t} {b} (e : State.policeMay s1 a2 a3 a4 = (t, b)) (h1 : Good M s0 q s1) (hm : Cover 0xC00000100000004040 M) : Good M s0 q t := by
  have h := good_policeMay h1 a2 a3 a4 hm
  rw [e] at h
  exact h

theorem good_stage1 {s1 : State} (h1 : Good M s0 q s1) (a2) (a3) (hm : Cover 0x300000100000006040 M) : Good M s0 q (State.stage1 s1 a2 a3) := by
  unfold State.stage1
  repeat' (first
    | with_reducible assumption
    | exact Cover.sub hm rfl
    | exact Cover.bit hm rfl
    | exact Cover.bit hm (by dsimp only [Fld.block]; rfl)
    | (extract_lets -underBinder +onlyGivenNames x; refine (fun (hx : Good M s0 q x) => ?_) ?_; (on_goal 1 => try clear_value x); (on_goal 2 => subst x))
    | (extract_lets -underBinder +onlyGivenNames x; try clear_value x)
    | intro x
    | (simp only [good_mk_iff]; refine GoodParts.of (?_ : Good M s0 q _) rfl rfl rfl rfl)
    | with_reducible apply good_bump
    | with_reducible apply good_foldS
    | with_reducible apply good_ite
    | split)

theorem good_swHand {s1 : State} (h1 : Good M s0 q s1) (a2) (a3) (hm : Cover 0xC000 M) : Good M s0 q (State.swHand s1 a2 a3) := by
  unfold State.swHand
  repeat' (first
    | with_reducible assumption
    | exact Cover.sub hm rfl
    | exact Cover.bit hm rfl
    | exact Cover.bit hm (by dsimp only [Fld.block]; rfl)
    | (extract_lets -underBinder +onlyGivenNames x; try clear_value x)
    | intro x
    | (simp only [good_mk_iff]; refine GoodParts.of (?_ : Good M s0 q _) rfl rfl rfl rfl)
    | with_reducible apply good_ite)

theorem good_swDeliver {s1 : State} (h1 : Good M s0 q s1) (a2) (a3) (hm : Cover 0x30000010000000C040 M) : Good M s0 q (State.swDeliver s1 a2 a3) := by
  unfold State.swDeliver
  repeat' (first
    | with_reducible assumption
    | exact Cover.sub hm rfl
    | exact Cover.bit hm rfl
    | exact Cover.bit hm (by dsimp only [Fld.block]; rfl)
    | (extract_lets -underBinder +onlyGivenNames x; refine (fun (hx : Good M s0 q x) => ?_) ?_; (on_goal 1 => try clear_value x); (on_goal 2 => subst x))
    | (extract_lets -underBinder +onlyGivenNames x; try clear_value x)
    | intro x
    | with_reducible apply good_bump
    | with_reducible apply good_swHand
    | with_reducible apply good_ite)

theorem good_swArrive {s1 : State} (h1 : Good M s0 q s1) (a2) (a3) (hm : Cover 0x30000010000000C040 M) : Good M s0 q (State.swArrive s1 a2 a3) := by
  unfold State.swArrive
  repeat' (first
    | with_reducible assumption
    | exact Cover.sub hm rfl
    | (extract_lets -underBinder +onlyGivenNames x; refine (fun (hf : ∀ k : State → State, (∀ y, Good M s0 q y → Good M s0 q (k y)) → Good M s0 q (x k)) => ?_) ?_; (on_goal 1 => try clear_value x); (on_goal 2 => subst x))
    | (extract_lets -underBinder +onlyGivenNames x; refine (fun (hf : ∀ a, Good M s0 q (x a)) => ?_) ?_; (on_goal 1 => try clear_value x); (on_goal 2 => subst x))
    | exact Cover.bit hm rfl
    | exact Cover.bit hm (by dsimp only [Fld.block]; rfl)
    | (extract_lets -underBinder +onlyGivenNames x; refine (fun (hx : Good M s0 q x) => ?_) ?_; (on_goal 1 => try clear_value x); (on_goal 2 => subst x))
    | (extract_lets -underBinder +onlyGivenNames x; try clear_value x)
    | intro x
    | (simp only [good_mk_iff]; refine GoodParts.of (?_ : Good M s0 q _) rfl rfl rfl rfl)
    | with_reducible apply good_bump
    | with_reducible apply good_swDeliver
    | apply_assumption -exfalso -symm
    | with_reducible apply good_ite)

theorem good_swRelease {s1 : State} (h1 : Good M s0 q s1) (a2) (a3) (hm : Cover 0x30000010000000C040 M) : Good M s0 q (State.swRelease s1 a2 a3) := by
  induction a3 generalizing s1 with
  | zero => exact h1
  | succ k ih =>
    unfold State.swRelease
    repeat' (first
      | with_reducible assumption
      | exact Cover.sub hm rfl
      | exact Cover.bit hm rfl
      | with_reducible apply ih
      | exact Cover.bit hm (by dsimp only [Fld.block]; rfl)
      | (extract_lets -underBinder +onlyGivenNames x; try clear_value x)
      | intro x
      | (simp only [good_mk_iff]; refine GoodParts.of (?_ : Good M s0 q _) rfl rfl rfl rfl)
      | with_reducible apply good_swArrive
      | with_reducible apply good_ite
      | split)

theorem good_stage2 {s1 : State} (h1 : Good M s0 q s1) (a2) (a3) (hm : Cover 0x30000010000000C040 M) : Good M s0 q (State.stage2 s1 a2 a3) := by
  unfold State.stage2
  repeat' (first
    | with_reducible assumption
    | exact Cover.sub hm rfl
    | exact Cover.bit hm rfl
    | exact Cover.bit hm (by dsimp only [Fld.block]; rfl)
    | (extract_lets -underBinder +onlyGivenNames x; try clear_value x)
    | intro x
    | (simp only [good_mk_iff]; refine GoodParts.of (?_ : Good M s0 q _) rfl rfl rfl rfl)
    | with_reducible apply good_swRelease
    | with_reducible apply good_ite
    | split)

theorem good_ctUnderrun {s1 : State} (h1 : Good M s0 q s1) (a2) (hm : Cover 0x30000010000000C040 M) : Good M s0 q (State.ctUnderrun s1 a2) := by
  unfold State.ctUnderrun
  repeat' (first
    | with_reducible assumption
    | exact Cover.sub hm rfl
    | exact Cover.bit hm rfl
    | exact Cover.bit hm (by dsimp only [Fld.block]; rfl)
    | (extract_lets -underBinder +onlyGivenNames x; try clear_value x)
    | intro x
    | (simp only [good_mk_iff]; refine GoodParts.of (?_ : Good M s0 q _) rfl rfl rfl rfl)
    | with_reducible apply good_swHand
    | with_reducible apply good_bump
    | with_reducible apply good_ite
    | split)

theorem good_execCellForward (a1) {s2 : State} (h2 : Good M s0 q s2) (hm : Cover 0x30000010000000E040 M) : OutGood M s0 q (execCellForward a1 s2) := by
  unfold execCellForward
  repeat' (first
    | with_reducible assumption
    | exact Cover.sub hm rfl
    | exact Cover.bit hm rfl
    | exact Cover.bit hm (by dsimp only [Fld.block]; rfl)
    | (extract_lets -underBinder +onlyGivenNames x; refine (fun (hx : Good M s0 q x) => ?_) ?_; (on_goal 1 => try clear_value x); (on_goal 2 => subst x))
    | (extract_lets -underBinder +onlyGivenNames x; try clear_value x)
    | intro x
    | (simp only [good_mk_iff]; refine GoodParts.of (?_ : Good M s0 q _) rfl rfl rfl rfl)
    | with_reducible apply OutGood.of
    | with_reducible apply good_stage2
    | with_reducible apply good_stage1
    | with_reducible apply good_ctUnderrun
    | with_reducible apply good_w
    | with_reducible apply good_foldS)

theorem good_execReplicationPass {s1 : State} (h1 : Good M s0 q s1) (hm : Cover 0x300000100000004040 M) : OutGood M s0 q (execReplicationPass s1) := by
  unfold execReplicationPass
  repeat' (first
    | with_reducible assumption
    | exact Cover.sub hm rfl
    | exact Cover.bit hm rfl
    | exact Cover.bit hm (by dsimp only [Fld.block]; rfl)
    | (extract_lets -underBinder +onlyGivenNames x; refine (fun (hx : Good M s0 q x) => ?_) ?_; (on_goal 1 => try clear_value x); (on_goal 2 => subst x))
    | (extract_lets -underBinder +onlyGivenNames x; try clear_value x)
    | intro x
    | (simp only [good_mk_iff]; refine GoodParts.of (?_ : Good M s0 q _) rfl rfl rfl rfl)
    | with_reducible apply OutGood.of
    | with_reducible apply good_bump
    | with_reducible apply good_swPush
    | with_reducible apply good_ite
    | with_reducible apply OutGood.ite
    | split)

theorem good_execRecirculatedFrame (a1) (a2) {s3 : State} (h3 : Good M s0 q s3) (hm : Cover 0x300000100000004040 M) : OutGood M s0 q (execRecirculatedFrame a1 a2 s3) := by
  unfold execRecirculatedFrame
  repeat' (first
    | with_reducible assumption
    | exact Cover.sub hm rfl
    | exact Cover.bit hm rfl
    | exact Cover.bit hm (by dsimp only [Fld.block]; rfl)
    | (extract_lets -underBinder +onlyGivenNames x; refine (fun (hx : Good M s0 q x) => ?_) ?_; (on_goal 1 => try clear_value x); (on_goal 2 => subst x))
    | (extract_lets -underBinder +onlyGivenNames x; try clear_value x)
    | intro x
    | (simp only [good_mk_iff]; refine GoodParts.of (?_ : Good M s0 q _) rfl rfl rfl rfl)
    | with_reducible apply OutGood.of
    | with_reducible apply good_bump
    | with_reducible apply good_swPush
    | with_reducible apply good_ite
    | with_reducible apply OutGood.ite
    | split)

theorem good_setMembers {s1 : State} (h1 : Good M s0 q s1) (a2) (a3) (hm : Cover 0x100000000000004000 M) : Good M s0 q (State.setMembers s1 a2 a3) := by
  unfold State.setMembers
  repeat' (first
    | with_reducible assumption
    | exact Cover.sub hm rfl
    | exact Cover.bit hm rfl
    | exact Cover.bit hm (by dsimp only [Fld.block]; rfl)
    | (extract_lets -underBinder +onlyGivenNames x; refine (fun (hx : Good M s0 q x) => ?_) ?_; (on_goal 1 => try clear_value x); (on_goal 2 => subst x))
    | (extract_lets -underBinder +onlyGivenNames x; try clear_value x)
    | intro x
    | (simp only [good_mk_iff]; refine GoodParts.of (?_ : Good M s0 q _) rfl rfl rfl rfl)
    | with_reducible apply good_w
    | with_reducible apply good_ite)

theorem good_mirrorGroups {s1 : State} (h1 : Good M s0 q s1) (hm : Cover 0x100000000000004000 M) : Good M s0 q (State.mirrorGroups s1) := by
  unfold State.mirrorGroups
  repeat' (first
    | with_reducible assumption
    | exact Cover.sub hm rfl
    | exact Cover.bit hm rfl
    | exact Cover.bit hm (by dsimp only [Fld.block]; rfl)
    | (extract_lets -underBinder +onlyGivenNames x; try clear_value x)
    | intro x
    | (simp only [good_mk_iff]; refine GoodParts.of (?_ : Good M s0 q _) rfl rfl rfl rfl)
    | with_reducible apply good_setMembers
    | with_reducible apply good_foldS)

theorem good_execMcastGroupWrite (a1) (a2) (a3) (a4) {s5 : State} (h5 : Good M s0 q s5) (hm : Cover 0x100000130000004060 M) : OutGood M s0 q (execMcastGroupWrite a1 a2 a3 a4 s5) := by
  unfold execMcastGroupWrite
  repeat' (first
    | with_reducible assumption
    | exact Cover.sub hm rfl
    | exact Cover.bit hm rfl
    | exact Cover.bit hm (by dsimp only [Fld.block]; rfl)
    | (extract_lets -underBinder +onlyGivenNames x; try clear_value x)
    | intro x
    | with_reducible apply OutGood.of
    | with_reducible apply good_wb
    | with_reducible apply good_setMembers
    | with_reducible apply good_worldViolation
    | with_reducible apply good_ite
    | with_reducible apply OutGood.ite)

theorem good_execMcastHoldRelease (a1) {s2 : State} (h2 : Good M s0 q s2) (hm : Cover 0x4000 M) : OutGood M s0 q (execMcastHoldRelease a1 s2) := by
  unfold execMcastHoldRelease
  repeat' (first
    | with_reducible assumption
    | exact Cover.sub hm rfl
    | exact Cover.bit hm rfl
    | exact Cover.bit hm (by dsimp only [Fld.block]; rfl)
    | (extract_lets -underBinder +onlyGivenNames x; try clear_value x)
    | intro x
    | (simp only [good_mk_iff]; refine GoodParts.of (?_ : Good M s0 q _) rfl rfl rfl rfl)
    | with_reducible apply OutGood.of
    | with_reducible apply good_foldS
    | with_reducible apply good_ite
    | with_reducible apply OutGood.ite
    | split)

theorem good_execSwxLoopbackWrite (a1) (a2) {s3 : State} (h3 : Good M s0 q s3) (hm : Cover 0x100000130000000060 M) : OutGood M s0 q (execSwxLoopbackWrite a1 a2 s3) := by
  unfold execSwxLoopbackWrite
  repeat' (first
    | with_reducible assumption
    | exact Cover.sub hm rfl
    | exact Cover.bit hm rfl
    | exact Cover.bit hm (by dsimp only [Fld.block]; rfl)
    | (extract_lets -underBinder +onlyGivenNames x; try clear_value x)
    | intro x
    | with_reducible apply OutGood.of
    | with_reducible apply good_secureOnly
    | with_reducible apply good_wb
    | with_reducible apply good_ite)

theorem good_execOutLimitWrite (a1) (a2) (a3) (a4) (a5) {s6 : State} (h6 : Good M s0 q s6) (hm : Cover 0x100000130000000060 M) : OutGood M s0 q (execOutLimitWrite a1 a2 a3 a4 a5 s6) := by
  unfold execOutLimitWrite
  repeat' (first
    | with_reducible assumption
    | exact Cover.sub hm rfl
    | exact Cover.bit hm rfl
    | exact Cover.bit hm (by dsimp only [Fld.block]; rfl)
    | (extract_lets -underBinder +onlyGivenNames x; try clear_value x)
    | intro x
    | with_reducible apply OutGood.of
    | with_reducible apply good_worldViolation
    | with_reducible apply good_w
    | with_reducible apply good_ite)

theorem good_execSwxSnapshot (a1) (a2) {s3 : State} (h3 : Good M s0 q s3) (hm : Cover 0x100000000000000008 M) : OutGood M s0 q (execSwxSnapshot a1 a2 s3) := by
  unfold execSwxSnapshot
  repeat' (first
    | with_reducible assumption
    | exact Cover.sub hm rfl
    | exact Cover.bit hm rfl
    | exact Cover.bit hm (by dsimp only [Fld.block]; rfl)
    | (extract_lets -underBinder +onlyGivenNames x; try clear_value x)
    | intro x
    | with_reducible apply OutGood.of
    | with_reducible apply good_snapshot
    | with_reducible apply good_w)

theorem good_execPolSnapshot (a1) (a2) (a3) {s4 : State} (h4 : Good M s0 q s4) (hm : Cover 0x400000000000004008 M) : OutGood M s0 q (execPolSnapshot a1 a2 a3 s4) := by
  unfold execPolSnapshot
  repeat' (first
    | with_reducible assumption
    | exact Cover.sub hm rfl
    | exact Cover.bit hm rfl
    | exact Cover.bit hm (by dsimp only [Fld.block]; rfl)
    | (extract_lets -underBinder +onlyGivenNames x; try clear_value x)
    | intro x
    | (simp only [good_mk_iff]; refine GoodParts.of (?_ : Good M s0 q _) rfl rfl rfl rfl)
    | with_reducible apply OutGood.of
    | with_reducible apply good_snapshot
    | with_reducible apply good_w
    | with_reducible apply good_wb
    | with_reducible apply good_ite
    | with_reducible apply OutGood.ite)

end Sys2Proof.Machine
end

