-- ==== Sys2Proof/Laws/Egress.lean ====
section
/-! SUPPORT. What the operations of Machine/Egress.lean keep (see Laws/Keep.lean), one lemma for each. -/

set_option Elab.async false

set_option linter.all false

namespace Sys2Proof.Machine

variable {M : Nat} {s0 : State} {q : Prop}

theorem good_txWhole {s1 : State} (h1 : Good M s0 q s1) (a2) (a3) (a4) (a5) (a6) (hm : Cover 0x30000100000000040 M := by first | assumption | exact Cover.sub (by assumption) rfl) : Good M s0 q (State.txWhole s1 a2 a3 a4 a5 a6) := by
  unfold State.txWhole
  repeat' (first
    | with_reducible assumption
    | exact Cover.sub hm rfl
    | exact Cover.bit hm rfl
    | exact Cover.bit hm (by dsimp only [Fld.block]; rfl)
    | (extract_lets -underBinder +onlyGivenNames x; refine (fun (hx : Good M s0 q x) => ?_) ?_; (on_goal 1 => try clear_value x); (on_goal 2 => subst x))
    | (extract_lets -underBinder +onlyGivenNames x; try clear_value x)
    | intro x
    | with_reducible apply good_bump
    | with_reducible apply good_emit
    | with_reducible apply good_ite)

theorem good_preemptAll {s1 : State} (h1 : Good M s0 q s1) (a2) (a3) (a4) (a5) (a6) (hm : Cover 0x30000100000000040 M := by first | assumption | exact Cover.sub (by assumption) rfl) :
    Good M s0 q (State.preemptAll s1 a2 a3 a4 a5 a6) := by
  induction a6 generalizing s1 a4 a5 with
  | nil => exact good_ite h1 (good_bump h1 _ _ _ _ _)
  | cons e l ih =>
    unfold State.preemptAll
    split
    · exact ih (good_txWhole (good_bump (good_bump h1 _ _ _ _ _) _ _ _ _ _) _ _ _ _ _) _ _
    · exact ih (good_txWhole h1 _ _ _ _ _) _ _

theorem good_execFrameTransmit (a1) (a2) (a3) (a4) {s5 : State} (h5 : Good M s0 q s5) (hm : Cover 0x30000100000000040 M) : OutGood M s0 q (execFrameTransmit a1 a2 a3 a4 s5) := by
  unfold execFrameTransmit
  repeat' (first
    | with_reducible assumption
    | exact Cover.sub hm rfl
    | exact Cover.bit hm rfl
    | exact Cover.bit hm (by dsimp only [Fld.block]; rfl)
    | (extract_lets -underBinder +onlyGivenNames x; try clear_value x)
    | intro x
    | (simp only [good_mk_iff]; refine GoodParts.of (?_ : Good M s0 q _) rfl rfl rfl rfl)
    | with_reducible apply OutGood.of
    | with_reducible apply good_txWhole
    | with_reducible apply good_preemptAll
    | with_reducible apply good_foldS
    | with_reducible apply good_ite
    | with_reducible apply OutGood.ite)

theorem good_gateEntry {s1 : State} (h1 : Good M s0 q s1) (a2) (a3) (a4) (a5) (hm : Cover 0x1000000000000008000 M) : Good M s0 q (State.gateEntry s1 a2 a3 a4 a5) := by
  unfold State.gateEntry
  repeat' (first
    | with_reducible assumption
    | exact Cover.sub hm rfl
    | exact Cover.bit hm rfl
    | exact Cover.bit hm (by dsimp only [Fld.block]; rfl)
    | (extract_lets -underBinder +onlyGivenNames x; refine (fun (hx : Good M s0 q x) => ?_) ?_; (on_goal 1 => try clear_value x); (on_goal 2 => subst x))
    | (extract_lets -underBinder +onlyGivenNames x; try clear_value x)
    | intro x
    | (simp only [good_mk_iff]; refine GoodParts.of (?_ : Good M s0 q _) rfl rfl rfl rfl)
    | with_reducible apply good_wb
    | with_reducible apply good_w)

theorem good_gateStart {s1 : State} (h1 : Good M s0 q s1) (a2) (a3) (a4) (hm : Cover 0x1000000000000008000 M) : Good M s0 q (State.gateStart s1 a2 a3 a4) := by
  unfold State.gateStart
  repeat' (first
    | with_reducible assumption
    | exact Cover.sub hm rfl
    | exact Cover.bit hm rfl
    | exact Cover.bit hm (by dsimp only [Fld.block]; rfl)
    | (extract_lets -underBinder +onlyGivenNames x; try clear_value x)
    | intro x
    | with_reducible apply good_gateEntry
    | with_reducible apply good_w
    | with_reducible apply good_ite
    | split)

theorem good_execGateEntryAdvance (a1) {s2 : State} (h2 : Good M s0 q s2) (hm : Cover 0x1000000100000008041 M) : OutGood M s0 q (execGateEntryAdvance a1 s2) := by
  unfold execGateEntryAdvance
  repeat' (first
    | with_reducible assumption
    | exact Cover.sub hm rfl
    | exact Cover.bit hm rfl
    | exact Cover.bit hm (by dsimp only [Fld.block]; rfl)
    | (extract_lets -underBinder +onlyGivenNames x; refine (fun (hx : Good M s0 q x) => ?_) ?_; (on_goal 1 => try clear_value x); (on_goal 2 => subst x))
    | (extract_lets -underBinder +onlyGivenNames x; try clear_value x)
    | intro x
    | (simp only [good_mk_iff]; refine GoodParts.of (?_ : Good M s0 q _) rfl rfl rfl rfl)
    | with_reducible apply OutGood.of
    | with_reducible apply good_reachTs
    | with_reducible apply good_gateEntry
    | with_reducible apply good_ite
    | with_reducible apply OutGood.ite
    | split)

theorem good_putDeficits {s1 : State} (h1 : Good M s0 q s1) (a2) (a3) (a4) (hm : Cover 0x8000 M) : Good M s0 q (State.putDeficits s1 a2 a3 a4) := by
  unfold State.putDeficits
  repeat' (first
    | with_reducible assumption
    | exact Cover.sub hm rfl
    | exact Cover.bit hm rfl
    | exact Cover.bit hm (by dsimp only [Fld.block]; rfl)
    | (extract_lets -underBinder +onlyGivenNames x; try clear_value x)
    | intro x
    | (simp only [good_mk_iff]; refine GoodParts.of (?_ : Good M s0 q _) rfl rfl rfl rfl))

theorem good_gateDrops {s1 : State} (h1 : Good M s0 q s1) (a2) (hm : Cover 0x3000000100000008040 M) : Good M s0 q (State.gateDrops s1 a2) := by
  unfold State.gateDrops
  repeat' (first
    | with_reducible assumption
    | exact Cover.sub hm rfl
    | exact Cover.bit hm rfl
    | exact Cover.bit hm (by dsimp only [Fld.block]; rfl)
    | (extract_lets -underBinder +onlyGivenNames x; refine (fun (hx : Good M s0 q x) => ?_) ?_; (on_goal 1 => try clear_value x); (on_goal 2 => subst x))
    | (extract_lets -underBinder +onlyGivenNames x; try clear_value x)
    | intro x
    | (simp only [good_mk_iff]; refine GoodParts.of (?_ : Good M s0 q _) rfl rfl rfl rfl)
    | with_reducible apply good_bump
    | with_reducible apply good_w
    | with_reducible apply good_wbit
    | with_reducible apply good_foldS
    | with_reducible apply good_ite
    | split
    | apply good_ite)

theorem good_fragSend {s1 : State} (h1 : Good M s0 q s1) (a2) (a3) (a4) (a5) (hm : Cover 0x30000100000008040 M) : Good M s0 q (State.fragSend s1 a2 a3 a4 a5) := by
  unfold State.fragSend
  repeat' (first
    | with_reducible assumption
    | exact Cover.sub hm rfl
    | exact Cover.bit hm rfl
    | exact Cover.bit hm (by dsimp only [Fld.block]; rfl)
    | (extract_lets -underBinder +onlyGivenNames x; try clear_value x)
    | intro x
    | (simp only [good_mk_iff]; refine GoodParts.of (?_ : Good M s0 q _) rfl rfl rfl rfl)
    | with_reducible apply good_bump
    | with_reducible apply good_txWhole
    | with_reducible apply good_ite
    | split)

theorem good_schSend {s1 : State} (h1 : Good M s0 q s1) (a2) (a3) (a4) (hm : Cover 0x30000100000008040 M) : Good M s0 q (State.schSend s1 a2 a3 a4) := by
  unfold State.schSend
  repeat' (first
    | with_reducible assumption
    | exact Cover.sub hm rfl
    | exact Cover.bit hm rfl
    | exact Cover.bit hm (by dsimp only [Fld.block]; rfl)
    | (extract_lets -underBinder +onlyGivenNames x; refine (fun (hx : Good M s0 q x) => ?_) ?_; (on_goal 1 => try clear_value x); (on_goal 2 => subst x))
    | (extract_lets -underBinder +onlyGivenNames x; try clear_value x)
    | intro x
    | (simp only [good_mk_iff]; refine GoodParts.of (?_ : Good M s0 q _) rfl rfl rfl rfl)
    | with_reducible apply good_fragSend
    | with_reducible apply good_foldS)

theorem good_schSelect {s1 : State} (h1 : Good M s0 q s1) (a2) (a3) (hm : Cover 0x30000100000008040 M) : Good M s0 q (State.schSelect s1 a2 a3) := by
  unfold State.schSelect
  repeat' (first
    | with_reducible assumption
    | exact Cover.sub hm rfl
    | exact Cover.bit hm rfl
    | exact Cover.bit hm (by dsimp only [Fld.block]; rfl)
    | (extract_lets -underBinder +onlyGivenNames x; try clear_value x)
    | intro x
    | (simp only [good_mk_iff]; refine GoodParts.of (?_ : Good M s0 q _) rfl rfl rfl rfl)
    | with_reducible apply good_schSend
    | with_reducible apply good_putDeficits
    | with_reducible apply good_ite
    | split)

theorem good_execTransmitOpportunity (a1) {s2 : State} (h2 : Good M s0 q s2) (hm : Cover 0x3030000100000008040 M) : OutGood M s0 q (execTransmitOpportunity a1 s2) := by
  unfold execTransmitOpportunity
  repeat' (first
    | with_reducible assumption
    | exact Cover.sub hm rfl
    | exact Cover.bit hm rfl
    | exact Cover.bit hm (by dsimp only [Fld.block]; rfl)
    | (extract_lets -underBinder +onlyGivenNames x; refine (fun (hx : Good M s0 q x) => ?_) ?_; (on_goal 1 => try clear_value x); (on_goal 2 => subst x))
    | (extract_lets -underBinder +onlyGivenNames x; try clear_value x)
    | intro x
    | (simp only [good_mk_iff]; refine GoodParts.of (?_ : Good M s0 q _) rfl rfl rfl rfl)
    | with_reducible apply OutGood.of
    | with_reducible apply good_gateDrops
    | with_reducible apply good_schSelect
    | with_reducible apply good_fragSend
    | with_reducible apply good_ite
    | with_reducible apply OutGood.ite
    | split)

theorem good_execSchedulerStaleDrop (a1) {s2 : State} (h2 : Good M s0 q s2) (hm : Cover 0x3000000100000008040 M) : OutGood M s0 q (execSchedulerStaleDrop a1 s2) := by
  unfold execSchedulerStaleDrop
  repeat' (first
    | with_reducible assumption
    | exact Cover.sub hm rfl
    | exact Cover.bit hm rfl
    | exact Cover.bit hm (by dsimp only [Fld.block]; rfl)
    | (extract_lets -underBinder +onlyGivenNames x; refine (fun (hx : Good M s0 q x) => ?_) ?_; (on_goal 1 => try clear_value x); (on_goal 2 => subst x))
    | (extract_lets -underBinder +onlyGivenNames x; try clear_value x)
    | intro x
    | (simp only [good_mk_iff]; refine GoodParts.of (?_ : Good M s0 q _) rfl rfl rfl rfl)
    | with_reducible apply OutGood.of
    | with_reducible apply good_bump
    | with_reducible apply good_w
    | with_reducible apply good_wbit
    | with_reducible apply good_ite
    | with_reducible apply OutGood.ite
    | split
    | apply good_ite)

end Sys2Proof.Machine
end

