-- ==== Sys2Proof/Laws/BgwBase.lean ====
section
/-! SUPPORT. What the operations of Machine/BgwBase.lean keep (see Laws/Keep.lean), one lemma for each. -/

set_option Elab.async false

set_option linter.all false

namespace Sys2Proof.Machine

variable {M : Nat} {s0 : State} {q : Prop}

theorem good_setBg {s1 : State} (h1 : Good M s0 q s1) (a2) (a3) (hm : Cover 0x10000000 M) : Good M s0 q (State.setBg s1 a2 a3) := by
  unfold State.setBg
  repeat' (first
    | with_reducible assumption
    | exact Cover.sub hm rfl
    | exact Cover.bit hm rfl
    | exact Cover.bit hm (by dsimp only [Fld.block]; rfl)
    | intro x
    | (simp only [good_mk_iff]; refine GoodParts.of (?_ : Good M s0 q _) rfl rfl rfl rfl))

theorem good_bgBump {s1 : State} (h1 : Good M s0 q s1) (a2) (a3) (a4) (hm : Cover 0x1C0000000040 M) : Good M s0 q (State.bgBump s1 a2 a3 a4) := by
  unfold State.bgBump
  repeat' (first
    | with_reducible assumption
    | exact Cover.sub hm rfl
    | exact Cover.bit hm rfl
    | exact Cover.bit hm (by dsimp only [Fld.block]; rfl)
    | intro x
    | with_reducible apply good_bump)

theorem good_bgAdd {s1 : State} (h1 : Good M s0 q s1) (a2) (a3) (a4) (a5) (hm : Cover 0x10000000 M) : Good M s0 q (State.bgAdd s1 a2 a3 a4 a5) := by
  unfold State.bgAdd
  repeat' (first
    | with_reducible assumption
    | exact Cover.sub hm rfl
    | exact Cover.bit hm rfl
    | exact Cover.bit hm (by dsimp only [Fld.block]; rfl)
    | (extract_lets -underBinder +onlyGivenNames x; try clear_value x)
    | intro x
    | with_reducible apply good_setBg)

theorem good_bgCharge {s1 : State} (h1 : Good M s0 q s1) (a2) (a3) (a4) (hm : Cover 0x10000000 M) : Good M s0 q (State.bgCharge s1 a2 a3 a4) := by
  unfold State.bgCharge
  repeat' (first
    | with_reducible assumption
    | exact Cover.sub hm rfl
    | exact Cover.bit hm rfl
    | exact Cover.bit hm (by dsimp only [Fld.block]; rfl)
    | (extract_lets -underBinder +onlyGivenNames x; try clear_value x)
    | intro x
    | with_reducible apply good_bgAdd
    | with_reducible apply good_foldS)

theorem good_bgWrote {s1 : State} (h1 : Good M s0 q s1) (a2) (a3) (a4) (hm : Cover 0x10000000 M) : Good M s0 q (State.bgWrote s1 a2 a3 a4) := by
  unfold State.bgWrote
  repeat' (first
    | with_reducible assumption
    | exact Cover.sub hm rfl
    | exact Cover.bit hm rfl
    | exact Cover.bit hm (by dsimp only [Fld.block]; rfl)
    | (extract_lets -underBinder +onlyGivenNames x; try clear_value x)
    | intro x
    | with_reducible apply good_setBg)

theorem good_setDrive {s1 : State} (h1 : Good M s0 q s1) (a2) (a3) (a4) (hm : Cover 0x200000 M) : Good M s0 q (State.setDrive s1 a2 a3 a4) := by
  unfold State.setDrive
  repeat' (first
    | with_reducible assumption
    | exact Cover.sub hm rfl
    | exact Cover.bit hm rfl
    | exact Cover.bit hm (by dsimp only [Fld.block]; rfl)
    | (extract_lets -underBinder +onlyGivenNames x; try clear_value x)
    | intro x
    | (simp only [good_mk_iff]; refine GoodParts.of (?_ : Good M s0 q _) rfl rfl rfl rfl))

theorem good_drvBump {s1 : State} (h1 : Good M s0 q s1) (a2) (a3) (a4) (a5) (hm : Cover 0xC000000000000000100000000040 M) : Good M s0 q (State.drvBump s1 a2 a3 a4 a5) := by
  unfold State.drvBump
  repeat' (first
    | with_reducible assumption
    | exact Cover.sub hm rfl
    | exact Cover.bit hm rfl
    | exact Cover.bit hm (by dsimp only [Fld.block]; rfl)
    | intro x
    | with_reducible apply good_bump)

theorem good_drvSend {s1 : State} (h1 : Good M s0 q s1) (a2) (hm : Cover 0xC0000000000000001C0000000040 M) : Good M s0 q (State.drvSend s1 a2) := by
  unfold State.drvSend
  repeat' (first
    | with_reducible assumption
    | exact Cover.sub hm rfl
    | exact Cover.bit hm rfl
    | exact Cover.bit hm (by dsimp only [Fld.block]; rfl)
    | (extract_lets -underBinder +onlyGivenNames x; refine (fun (hx : Good M s0 q x) => ?_) ?_; (on_goal 1 => try clear_value x); (on_goal 2 => subst x))
    | (extract_lets -underBinder +onlyGivenNames x; try clear_value x)
    | intro x
    | with_reducible apply good_drvBump
    | with_reducible apply good_bgBump
    | with_reducible apply good_emit
    | with_reducible apply good_ite)

theorem good_drvIssue {s1 : State} (h1 : Good M s0 q s1) (a2) (a3) (a4) (a5) (a6) (a7) (a8) (a9) (hm : Cover 0xC0000000000000001C0010200040 M) : Good M s0 q (State.drvIssue s1 a2 a3 a4 a5 a6 a7 a8 a9) := by
  unfold State.drvIssue
  repeat' (first
    | with_reducible assumption
    | exact Cover.sub hm rfl
    | exact Cover.bit hm rfl
    | exact Cover.bit hm (by dsimp only [Fld.block]; rfl)
    | (extract_lets -underBinder +onlyGivenNames x; refine (fun (hx : Good M s0 q x) => ?_) ?_; (on_goal 1 => try clear_value x); (on_goal 2 => subst x))
    | (extract_lets -underBinder +onlyGivenNames x; try clear_value x)
    | intro x
    | (simp only [good_mk_iff]; refine GoodParts.of (?_ : Good M s0 q _) rfl rfl rfl rfl)
    | with_reducible apply good_ev
    | with_reducible apply good_drvBump
    | with_reducible apply good_bgCharge
    | with_reducible apply good_setBg
    | with_reducible apply good_drvSend
    | with_reducible apply good_ite)

theorem good_bgRelease {s1 : State} (h1 : Good M s0 q s1) (a2) (a3) (hm : Cover 0xC0000000000000001C0000200040 M) : Good M s0 q (State.bgRelease s1 a2 a3) := by
  unfold State.bgRelease
  repeat' (first
    | with_reducible assumption
    | exact Cover.sub hm rfl
    | exact Cover.bit hm rfl
    | exact Cover.bit hm (by dsimp only [Fld.block]; rfl)
    | (extract_lets -underBinder +onlyGivenNames x; refine (fun (hx : Good M s0 q x) => ?_) ?_; (on_goal 1 => try clear_value x); (on_goal 2 => subst x))
    | (extract_lets -underBinder +onlyGivenNames x; try clear_value x)
    | intro x
    | (simp only [good_mk_iff]; refine GoodParts.of (?_ : Good M s0 q _) rfl rfl rfl rfl)
    | with_reducible apply good_ev
    | with_reducible apply good_drvBump
    | with_reducible apply good_drvSend
    | with_reducible apply good_foldS
    | with_reducible apply good_ite)

theorem good_drvTake {s1 : State} (h1 : Good M s0 q s1) (a2) (a3) (hm : Cover 0x200000 M) : Good M s0 q (State.drvTake s1 a2 a3) := by
  unfold State.drvTake
  repeat' (first
    | with_reducible assumption
    | exact Cover.sub hm rfl
    | exact Cover.bit hm rfl
    | exact Cover.bit hm (by dsimp only [Fld.block]; rfl)
    | (extract_lets -underBinder +onlyGivenNames x; try clear_value x)
    | intro x
    | (simp only [good_mk_iff]; refine GoodParts.of (?_ : Good M s0 q _) rfl rfl rfl rfl))

theorem good_disown {s1 : State} (h1 : Good M s0 q s1) (a2) (a3) (hm : Cover 0x200000 M) : Good M s0 q (State.disown s1 a2 a3) := by
  unfold State.disown
  repeat' (first
    | with_reducible assumption
    | exact Cover.sub hm rfl
    | exact Cover.bit hm rfl
    | exact Cover.bit hm (by dsimp only [Fld.block]; rfl)
    | (extract_lets -underBinder +onlyGivenNames x; try clear_value x)
    | intro x
    | (simp only [good_mk_iff]; refine GoodParts.of (?_ : Good M s0 q _) rfl rfl rfl rfl))

end Sys2Proof.Machine
end

