-- ==== Sys2Proof/Laws/Ports.lean ====
section
/-! SUPPORT. What the operations of Machine/Ports.lean keep (see Laws/Keep.lean), one lemma for each. -/

set_option Elab.async false

set_option linter.all false

namespace Sys2Proof.Machine

variable {M : Nat} {s0 : State} {q : Prop}

theorem good_linkTo {s1 : State} (h1 : Good M s0 q s1) (a2) (a3) (hm : Cover 0x10000000000000000 M) : Good M s0 q (State.linkTo s1 a2 a3) := by
  unfold State.linkTo
  repeat' (first
    | with_reducible assumption
    | exact Cover.sub hm rfl
    | exact Cover.bit hm rfl
    | exact Cover.bit hm (by dsimp only [Fld.block]; rfl)
    | (extract_lets -underBinder +onlyGivenNames x; try clear_value x)
    | intro x
    | with_reducible apply good_wbit
    | with_reducible apply good_w)

theorem good_fifoFree {s1 : State} (h1 : Good M s0 q s1) (a2) (hm : Cover 0x2000 M := by first | assumption | exact Cover.sub (by assumption) rfl) : Good M s0 q (State.fifoFree s1 a2) := by
  unfold State.fifoFree
  repeat' (first
    | with_reducible assumption
    | exact Cover.sub hm rfl
    | exact Cover.bit hm rfl
    | exact Cover.bit hm (by dsimp only [Fld.block]; rfl)
    | (extract_lets -underBinder +onlyGivenNames x; try clear_value x)
    | intro x
    | (simp only [good_mk_iff]; refine GoodParts.of (?_ : Good M s0 q _) rfl rfl rfl rfl))

theorem good_leaveUp {s1 : State} (h1 : Good M s0 q s1) (a2) (a3) (a4) (hm : Cover 0x3000010000000A060 M) : Good M s0 q (State.leaveUp s1 a2 a3 a4) := by
  unfold State.leaveUp
  repeat' (first
    | with_reducible assumption
    | exact Cover.sub hm rfl
    | exact Cover.bit hm rfl
    | exact Cover.bit hm (by dsimp only [Fld.block]; rfl)
    | (extract_lets -underBinder +onlyGivenNames x; refine (fun (hx : Good M s0 q x) => ?_) ?_; (on_goal 1 => try clear_value x); (on_goal 2 => subst x))
    | (extract_lets -underBinder +onlyGivenNames x; try clear_value x)
    | intro x
    | (simp only [good_mk_iff]; refine GoodParts.of (?_ : Good M s0 q _) rfl rfl rfl rfl)
    | with_reducible apply good_linkTo
    | with_reducible apply good_bump
    | with_reducible apply good_logEv
    | with_reducible apply good_fifoFree
    | with_reducible apply good_w
    | with_reducible apply good_ite
    | split)

theorem good_portLocked {s1 : State} (h1 : Good M s0 q s1) (a2) (hm : Cover 0x3000010000000A060 M) : Good M s0 q (State.portLocked s1 a2) := by
  unfold State.portLocked
  repeat' (first
    | with_reducible assumption
    | exact Cover.sub hm rfl
    | exact Cover.bit hm rfl
    | exact Cover.bit hm (by dsimp only [Fld.block]; rfl)
    | (extract_lets -underBinder +onlyGivenNames x; refine (fun (hx : Good M s0 q x) => ?_) ?_; (on_goal 1 => try clear_value x); (on_goal 2 => subst x))
    | (extract_lets -underBinder +onlyGivenNames x; try clear_value x)
    | intro x
    | with_reducible apply good_w
    | with_reducible apply good_leaveUp
    | with_reducible apply good_linkTo
    | with_reducible apply good_ite)

theorem good_laneTo {s1 : State} (h1 : Good M s0 q s1) (a2) (a3) (hm : Cover 0x7000010000000A060 M := by first | assumption | exact Cover.sub (by assumption) rfl) : Good M s0 q (State.laneTo s1 a2 a3) := by
  unfold State.laneTo
  repeat' (first
    | with_reducible assumption
    | exact Cover.sub hm rfl
    | exact Cover.bit hm rfl
    | exact Cover.bit hm (by dsimp only [Fld.block]; rfl)
    | (extract_lets -underBinder +onlyGivenNames x; refine (fun (hx : Good M s0 q x) => ?_) ?_; (on_goal 1 => try clear_value x); (on_goal 2 => subst x))
    | (extract_lets -underBinder +onlyGivenNames x; try clear_value x)
    | intro x
    | (simp only [good_mk_iff]; refine GoodParts.of (?_ : Good M s0 q _) rfl rfl rfl rfl)
    | with_reducible apply good_w
    | with_reducible apply good_portLocked
    | with_reducible apply good_ite
    | split)

theorem good_lanesFollow {s1 : State} (h1 : Good M s0 q s1) (hm : Cover 0x7000010000000A060 M) : Good M s0 q (State.lanesFollow s1) := by
  unfold State.lanesFollow
  repeat' (first
    | with_reducible assumption
    | exact Cover.sub hm rfl
    | exact Cover.bit hm rfl
    | exact Cover.bit hm (by dsimp only [Fld.block]; rfl)
    | (extract_lets -underBinder +onlyGivenNames x; try clear_value x)
    | intro x
    | (simp only [good_mk_iff]; refine GoodParts.of (?_ : Good M s0 q _) rfl rfl rfl rfl)
    | with_reducible apply good_laneTo
    | with_reducible apply good_w
    | with_reducible apply good_leaveUp
    | with_reducible apply good_foldS
    | with_reducible apply good_ite)

theorem good_execLaneAcquireComplete (a1) (a2) {s3 : State} (h3 : Good M s0 q s3) (hm : Cover 0x7000010000000A060 M) : OutGood M s0 q (execLaneAcquireComplete a1 a2 s3) := by
  unfold execLaneAcquireComplete
  repeat' (first
    | with_reducible assumption
    | exact Cover.sub hm rfl
    | exact Cover.bit hm rfl
    | exact Cover.bit hm (by dsimp only [Fld.block]; rfl)
    | (extract_lets -underBinder +onlyGivenNames x; refine (fun (hx : Good M s0 q x) => ?_) ?_; (on_goal 1 => try clear_value x); (on_goal 2 => subst x))
    | (extract_lets -underBinder +onlyGivenNames x; try clear_value x)
    | intro x
    | with_reducible apply OutGood.of
    | with_reducible apply good_w
    | with_reducible apply good_laneTo
    | with_reducible apply good_ite
    | with_reducible apply OutGood.ite)

theorem good_execLaneTrainingComplete (a1) (a2) {s3 : State} (h3 : Good M s0 q s3) (hm : Cover 0x7000010000000A060 M) : OutGood M s0 q (execLaneTrainingComplete a1 a2 s3) := by
  unfold execLaneTrainingComplete
  repeat' (first
    | with_reducible assumption
    | exact Cover.sub hm rfl
    | exact Cover.bit hm rfl
    | exact Cover.bit hm (by dsimp only [Fld.block]; rfl)
    | (extract_lets -underBinder +onlyGivenNames x; try clear_value x)
    | intro x
    | with_reducible apply OutGood.of
    | with_reducible apply good_laneTo
    | with_reducible apply good_w
    | with_reducible apply good_ite
    | with_reducible apply OutGood.ite)

theorem good_execLaneTrainingTimeout (a1) {s2 : State} (h2 : Good M s0 q s2) (hm : Cover 0x7000010000000A060 M) : OutGood M s0 q (execLaneTrainingTimeout a1 s2) := by
  unfold execLaneTrainingTimeout
  repeat' (first
    | with_reducible assumption
    | exact Cover.sub hm rfl
    | exact Cover.bit hm rfl
    | exact Cover.bit hm (by dsimp only [Fld.block]; rfl)
    | (extract_lets -underBinder +onlyGivenNames x; try clear_value x)
    | intro x
    | with_reducible apply OutGood.of
    | with_reducible apply good_logEv
    | with_reducible apply good_laneTo
    | with_reducible apply good_ite
    | with_reducible apply OutGood.ite)

theorem good_execLaneSignalLoss (a1) {s2 : State} (h2 : Good M s0 q s2) (hm : Cover 0x7000010000000A060 M) : OutGood M s0 q (execLaneSignalLoss a1 s2) := by
  unfold execLaneSignalLoss
  repeat' (first
    | with_reducible assumption
    | exact Cover.sub hm rfl
    | exact Cover.bit hm rfl
    | exact Cover.bit hm (by dsimp only [Fld.block]; rfl)
    | (extract_lets -underBinder +onlyGivenNames x; refine (fun (hx : Good M s0 q x) => ?_) ?_; (on_goal 1 => try clear_value x); (on_goal 2 => subst x))
    | (extract_lets -underBinder +onlyGivenNames x; try clear_value x)
    | intro x
    | with_reducible apply OutGood.of
    | with_reducible apply good_w
    | with_reducible apply good_laneTo
    | with_reducible apply good_ite
    | with_reducible apply OutGood.ite)

theorem good_execLaneFaultRecovery (a1) {s2 : State} (h2 : Good M s0 q s2) (hm : Cover 0x7000010000000A060 M) : OutGood M s0 q (execLaneFaultRecovery a1 s2) := by
  unfold execLaneFaultRecovery
  repeat' (first
    | with_reducible assumption
    | exact Cover.sub hm rfl
    | exact Cover.bit hm rfl
    | exact Cover.bit hm (by dsimp only [Fld.block]; rfl)
    | (extract_lets -underBinder +onlyGivenNames x; try clear_value x)
    | intro x
    | with_reducible apply OutGood.of
    | with_reducible apply good_laneTo
    | with_reducible apply good_ite
    | with_reducible apply OutGood.ite)

theorem good_showCoef {s1 : State} (h1 : Good M s0 q s1) (a2) (a3) (hm : Cover 0x40000000000000000 M := by first | assumption | exact Cover.sub (by assumption) rfl) : Good M s0 q (State.showCoef s1 a2 a3) := by
  unfold State.showCoef
  repeat' (first
    | with_reducible assumption
    | exact Cover.sub hm rfl
    | exact Cover.bit hm rfl
    | exact Cover.bit hm (by dsimp only [Fld.block]; rfl)
    | (extract_lets -underBinder +onlyGivenNames x; refine (fun (hx : Good M s0 q x) => ?_) ?_; (on_goal 1 => try clear_value x); (on_goal 2 => subst x))
    | (extract_lets -underBinder +onlyGivenNames x; try clear_value x)
    | intro x
    | with_reducible apply good_w
    | with_reducible apply good_foldS)

theorem good_execLaneUpdateBoundary (a1) (a2) {s3 : State} (h3 : Good M s0 q s3) (hm : Cover 0x7000010000000A060 M := by first | assumption | exact Cover.sub (by assumption) rfl) :
    OutGood M s0 q (execLaneUpdateBoundary a1 a2 s3) := by
  unfold execLaneUpdateBoundary
  extract_lets -underBinder l old hold held c src x y src2 z w
  have hx : Good M s0 q x := good_mk_iff.2 (GoodParts.of h3 rfl rfl rfl rfl)
  have hy : Good M s0 q y := by
    subst y
    split
    · exact good_w (good_mk_iff.2 (GoodParts.of hx rfl rfl rfl rfl)) _ _ _ _
    · exact hx
  have hz : Good M s0 q z := good_ite (good_showCoef (good_mk_iff.2 (GoodParts.of hy rfl rfl rfl rfl)) _ _) hy
  exact .of (good_ite (good_showCoef (good_laneTo hz _ _) _ _)
    (good_ite (good_laneTo hz _ _) (good_ite (good_showCoef hz _ _) hz)))

theorem good_execLaneFreezeWrite (a1) (a2) (a3) (a4) (a5) {s6 : State} (h6 : Good M s0 q s6) (hm : Cover 0x40000130000000060 M) : OutGood M s0 q (execLaneFreezeWrite a1 a2 a3 a4 a5 s6) := by
  unfold execLaneFreezeWrite
  repeat' (first
    | with_reducible assumption
    | exact Cover.sub hm rfl
    | exact Cover.bit hm rfl
    | exact Cover.bit hm (by dsimp only [Fld.block]; rfl)
    | (extract_lets -underBinder +onlyGivenNames x; try clear_value x)
    | intro x
    | with_reducible apply OutGood.of
    | with_reducible apply good_worldViolation
    | with_reducible apply good_wb
    | with_reducible apply good_ite)

theorem good_execLaneSnap (a1) (a2) {s3 : State} (h3 : Good M s0 q s3) (hm : Cover 0x130000002060 M) : OutGood M s0 q (execLaneSnap a1 a2 s3) := by
  unfold execLaneSnap
  repeat' (first
    | with_reducible assumption
    | exact Cover.sub hm rfl
    | exact Cover.bit hm rfl
    | exact Cover.bit hm (by dsimp only [Fld.block]; rfl)
    | (extract_lets -underBinder +onlyGivenNames x; try clear_value x)
    | intro x
    | (simp only [good_mk_iff]; refine GoodParts.of (?_ : Good M s0 q _) rfl rfl rfl rfl)
    | with_reducible apply OutGood.of
    | with_reducible apply good_worldViolation
    | with_reducible apply good_ite)

theorem good_execLaneRxeqWrite (a1) (a2) (a3) (a4) {s5 : State} (h5 : Good M s0 q s5) (hm : Cover 0x130000002060 M) : OutGood M s0 q (execLaneRxeqWrite a1 a2 a3 a4 s5) := by
  unfold execLaneRxeqWrite
  repeat' (first
    | with_reducible assumption
    | exact Cover.sub hm rfl
    | exact Cover.bit hm rfl
    | exact Cover.bit hm (by dsimp only [Fld.block]; rfl)
    | (extract_lets -underBinder +onlyGivenNames x; try clear_value x)
    | intro x
    | (simp only [good_mk_iff]; refine GoodParts.of (?_ : Good M s0 q _) rfl rfl rfl rfl)
    | with_reducible apply OutGood.of
    | with_reducible apply good_worldViolation
    | with_reducible apply good_discardState
    | with_reducible apply good_ite)

theorem good_execLaneTxeqWrite (a1) (a2) (a3) {s4 : State} (h4 : Good M s0 q s4) (hm : Cover 0x130000002060 M) : OutGood M s0 q (execLaneTxeqWrite a1 a2 a3 s4) := by
  unfold execLaneTxeqWrite
  repeat' (first
    | with_reducible assumption
    | exact Cover.sub hm rfl
    | exact Cover.bit hm rfl
    | exact Cover.bit hm (by dsimp only [Fld.block]; rfl)
    | (extract_lets -underBinder +onlyGivenNames x; try clear_value x)
    | intro x
    | (simp only [good_mk_iff]; refine GoodParts.of (?_ : Good M s0 q _) rfl rfl rfl rfl)
    | with_reducible apply OutGood.of
    | with_reducible apply good_worldViolation
    | with_reducible apply good_discardState
    | with_reducible apply good_ite)

theorem good_execSerdesRecalLane (a1) {s2 : State} (h2 : Good M s0 q s2) (hm : Cover 0x40000100000000041 M) : OutGood M s0 q (execSerdesRecalLane a1 s2) := by
  unfold execSerdesRecalLane
  repeat' (first
    | with_reducible assumption
    | exact Cover.sub hm rfl
    | exact Cover.bit hm rfl
    | exact Cover.bit hm (by dsimp only [Fld.block]; rfl)
    | (extract_lets -underBinder +onlyGivenNames x; try clear_value x)
    | intro x
    | (simp only [good_mk_iff]; refine GoodParts.of (?_ : Good M s0 q _) rfl rfl rfl rfl)
    | with_reducible apply OutGood.of
    | with_reducible apply good_w
    | with_reducible apply good_advance
    | with_reducible apply good_ite
    | with_reducible apply OutGood.ite
    | split)

theorem good_execPortLinkUp (a1) {s2 : State} (h2 : Good M s0 q s2) (hm : Cover 0x10000000000002040 M) : OutGood M s0 q (execPortLinkUp a1 s2) := by
  unfold execPortLinkUp
  repeat' (first
    | with_reducible assumption
    | exact Cover.sub hm rfl
    | exact Cover.bit hm rfl
    | exact Cover.bit hm (by dsimp only [Fld.block]; rfl)
    | (extract_lets -underBinder +onlyGivenNames x; refine (fun (hx : Good M s0 q x) => ?_) ?_; (on_goal 1 => try clear_value x); (on_goal 2 => subst x))
    | (extract_lets -underBinder +onlyGivenNames x; try clear_value x)
    | intro x
    | (simp only [good_mk_iff]; refine GoodParts.of (?_ : Good M s0 q _) rfl rfl rfl rfl)
    | with_reducible apply OutGood.of
    | with_reducible apply good_linkTo
    | with_reducible apply good_w
    | with_reducible apply good_emit
    | with_reducible apply good_ite
    | with_reducible apply OutGood.ite)

theorem good_execPortLinkFault (a1) (a2) {s3 : State} (h3 : Good M s0 q s3) (hm : Cover 0x3000010000000A060 M) : OutGood M s0 q (execPortLinkFault a1 a2 s3) := by
  unfold execPortLinkFault
  repeat' (first
    | with_reducible assumption
    | exact Cover.sub hm rfl
    | exact Cover.bit hm rfl
    | exact Cover.bit hm (by dsimp only [Fld.block]; rfl)
    | (extract_lets -underBinder +onlyGivenNames x; try clear_value x)
    | intro x
    | with_reducible apply OutGood.of
    | with_reducible apply good_leaveUp
    | with_reducible apply good_ite
    | with_reducible apply OutGood.ite)

theorem good_execRemoteFaultReceived (a1) (a2) (a3) {s4 : State} (h4 : Good M s0 q s4) (hm : Cover 0x3000010000000A060 M) : OutGood M s0 q (execRemoteFaultReceived a1 a2 a3 s4) := by
  unfold execRemoteFaultReceived
  repeat' (first
    | with_reducible assumption
    | exact Cover.sub hm rfl
    | exact Cover.bit hm rfl
    | exact Cover.bit hm (by dsimp only [Fld.block]; rfl)
    | (extract_lets -underBinder +onlyGivenNames x; try clear_value x)
    | intro x
    | with_reducible apply OutGood.of
    | with_reducible apply good_linkTo
    | with_reducible apply good_leaveUp
    | with_reducible apply good_ite
    | with_reducible apply OutGood.ite)

theorem good_execFecDegradeWindowEnd (a1) (a2) (a3) (a4) {s5 : State} (h5 : Good M s0 q s5) (hm : Cover 0xF0000100000000060 M) : OutGood M s0 q (execFecDegradeWindowEnd a1 a2 a3 a4 s5) := by
  unfold execFecDegradeWindowEnd
  repeat' (first
    | with_reducible assumption
    | exact Cover.sub hm rfl
    | exact Cover.bit hm rfl
    | exact Cover.bit hm (by dsimp only [Fld.block]; rfl)
    | (extract_lets -underBinder +onlyGivenNames x; refine (fun (hx : Good M s0 q x) => ?_) ?_; (on_goal 1 => try clear_value x); (on_goal 2 => subst x))
    | (extract_lets -underBinder +onlyGivenNames x; try clear_value x)
    | intro x
    | (simp only [good_mk_iff]; refine GoodParts.of (?_ : Good M s0 q _) rfl rfl rfl rfl)
    | with_reducible apply OutGood.of
    | with_reducible apply good_bump
    | with_reducible apply good_w
    | with_reducible apply good_wb
    | with_reducible apply good_logEv
    | with_reducible apply good_foldS
    | with_reducible apply good_ite)

theorem good_execPreemptVerifyTimeout (a1) {s2 : State} (h2 : Good M s0 q s2) (hm : Cover 0x30000100000002060 M) : OutGood M s0 q (execPreemptVerifyTimeout a1 s2) := by
  unfold execPreemptVerifyTimeout
  repeat' (first
    | with_reducible assumption
    | exact Cover.sub hm rfl
    | exact Cover.bit hm rfl
    | exact Cover.bit hm (by dsimp only [Fld.block]; rfl)
    | (extract_lets -underBinder +onlyGivenNames x; try clear_value x)
    | intro x
    | (simp only [good_mk_iff]; refine GoodParts.of (?_ : Good M s0 q _) rfl rfl rfl rfl)
    | with_reducible apply OutGood.of
    | with_reducible apply good_emit
    | with_reducible apply good_logEv
    | with_reducible apply good_bump
    | with_reducible apply good_w
    | with_reducible apply good_ite
    | with_reducible apply OutGood.ite)

theorem good_execPreemptRespondReceived (a1) {s2 : State} (h2 : Good M s0 q s2) (hm : Cover 0x10000000000000000 M) : OutGood M s0 q (execPreemptRespondReceived a1 s2) := by
  unfold execPreemptRespondReceived
  repeat' (first
    | with_reducible assumption
    | exact Cover.sub hm rfl
    | exact Cover.bit hm rfl
    | exact Cover.bit hm (by dsimp only [Fld.block]; rfl)
    | (extract_lets -underBinder +onlyGivenNames x; try clear_value x)
    | intro x
    | with_reducible apply OutGood.of
    | with_reducible apply good_w
    | with_reducible apply good_ite
    | with_reducible apply OutGood.ite)

theorem good_roceIn {s1 : State} (h1 : Good M s0 q s1) (a2) (a3) (a4) (a5) (a6) (hm : Cover 0xF00000100000006040 M := by first | assumption | exact Cover.sub (by assumption) rfl) : Good M s0 q (State.roceIn s1 a2 a3 a4 a5 a6) := by
  unfold State.roceIn
  repeat' (first
    | with_reducible assumption
    | exact Cover.sub hm rfl
    | exact Cover.bit hm rfl
    | exact Cover.bit hm (by dsimp only [Fld.block]; rfl)
    | (extract_lets -underBinder +onlyGivenNames x; try clear_value x)
    | intro x
    | (simp only [good_mk_iff]; refine GoodParts.of (?_ : Good M s0 q _) rfl rfl rfl rfl)
    | with_reducible apply good_fifoFree
    | refine good_policeMay_eq (by assumption) ?_ ?_
    | with_reducible apply good_policeMay
    | with_reducible apply good_bump
    | refine good_swAdmit_eq (by assumption) ?_ ?_
    | with_reducible apply good_swAdmit
    | with_reducible apply good_ite)

theorem good_rxWhole {s1 : State} (h1 : Good M s0 q s1) (a2) (a3) (hm : Cover 0xF30000100000006040 M := by first | assumption | exact Cover.sub (by assumption) rfl) :
    Good M s0 q (State.rxWhole s1 a2 a3) := by
  unfold State.rxWhole
  extract_lets mx present count bad marked okay
  have hc : ∀ i, Good M s0 q (count i) := fun i => good_bump h1 _ _ _ _ _
  have hd : ∀ i, Good M s0 q (marked i) := by
    intro i
    subst marked
    split
    · exact good_ite (good_roceIn (hc i) _ _ _ _ _) (good_fifoFree (hc i) _)
    · exact good_fifoFree (hc i) _
  have ho : ∀ k : State → State, (∀ y, Good M s0 q y → Good M s0 q (k y)) → Good M s0 q (okay k) :=
    fun k hk => hk _ (good_bump (hc 0) _ _ _ _ _)
  clear_value okay marked count
  repeat' (first
    | with_reducible assumption
    | intro x
    | with_reducible apply hc
    | with_reducible apply hd
    | exact Cover.sub hm rfl
    | exact Cover.bit hm rfl
    | exact ho id (fun _ h => h)
    | with_reducible apply ho
    | with_reducible apply good_fifoFree
    | with_reducible apply good_emit
    | with_reducible apply good_bump
    | with_reducible apply good_roceIn
    | with_reducible apply good_ite
    | split)

theorem good_fifoReserve {s1 : State} (h1 : Good M s0 q s1) (a2) (hm : Cover 0x2000 M := by first | assumption | exact Cover.sub (by assumption) rfl) :
    ∀ t, State.fifoReserve s1 a2 = some t → Good M s0 q t := by
  intro t h
  simp only [State.fifoReserve] at h
  split at h <;> cases h
  exact good_mk_iff.2 (GoodParts.of h1 rfl rfl rfl rfl)

theorem good_execFrameReceived (a1) (a2) {s3 : State} (h3 : Good M s0 q s3) (hm : Cover 0xF30000100000006040 M) : OutGood M s0 q (execFrameReceived a1 a2 s3) := by
  unfold execFrameReceived
  repeat' (first
    | with_reducible assumption
    | exact Cover.sub hm rfl
    | exact Cover.bit hm rfl
    | exact Cover.bit hm (by dsimp only [Fld.block]; rfl)
    | (extract_lets -underBinder +onlyGivenNames x; try clear_value x)
    | intro x
    | with_reducible apply OutGood.of
    | with_reducible apply good_emit
    | with_reducible apply good_bump
    | refine good_fifoReserve ?_ _ ?_ _ (by assumption)
    | with_reducible apply good_rxWhole
    | with_reducible apply good_ite
    | with_reducible apply OutGood.ite
    | split)

theorem good_execFragmentReceived (a1) (a2) (a3) (a4) (a5) (a6) (a7) {s8 : State} (h8 : Good M s0 q s8) (hm : Cover 0xF30000100000006040 M) : OutGood M s0 q (execFragmentReceived a1 a2 a3 a4 a5 a6 a7 s8) := by
  unfold execFragmentReceived
  repeat' (first
    | with_reducible assumption
    | exact Cover.sub hm rfl
    | (extract_lets -underBinder +onlyGivenNames x; refine (fun (hf : ∀ k : State → State, (∀ y, Good M s0 q y → Good M s0 q (k y)) → Good M s0 q (x k)) => ?_) ?_; (on_goal 1 => try clear_value x); (on_goal 2 => subst x))
    | (extract_lets -underBinder +onlyGivenNames x; refine (fun (hf : ∀ y, Good M s0 q y → Good M s0 q (x y)) => ?_) ?_; (on_goal 1 => try clear_value x); (on_goal 2 => subst x))
    | (extract_lets -underBinder +onlyGivenNames x; refine (fun (hf : ∀ y, Good M s0 q y → ∀ a b, Good M s0 q (x y a b)) => ?_) ?_; (on_goal 1 => try clear_value x); (on_goal 2 => subst x))
    | (extract_lets -underBinder +onlyGivenNames x; refine (fun (hf : ∀ a, Good M s0 q (x a)) => ?_) ?_; (on_goal 1 => try clear_value x); (on_goal 2 => subst x))
    | (extract_lets -underBinder +onlyGivenNames x; refine (fun (hf : ∀ a b c, Good M s0 q (x a b c)) => ?_) ?_; (on_goal 1 => try clear_value x); (on_goal 2 => subst x))
    | exact Cover.bit hm rfl
    | exact Cover.bit hm (by dsimp only [Fld.block]; rfl)
    | (extract_lets -underBinder +onlyGivenNames x; refine (fun (hx : Good M s0 q x) => ?_) ?_; (on_goal 1 => try clear_value x); (on_goal 2 => subst x))
    | (extract_lets -underBinder +onlyGivenNames x; try clear_value x)
    | intro x
    | (simp only [good_mk_iff]; refine GoodParts.of (?_ : Good M s0 q _) rfl rfl rfl rfl)
    | with_reducible apply OutGood.of
    | with_reducible apply good_bump
    | with_reducible apply good_fifoFree
    | with_reducible apply good_rxWhole
    | refine good_fifoReserve ?_ _ ?_ _ (by assumption)
    | apply_assumption -exfalso -symm
    | with_reducible apply good_ite
    | with_reducible apply OutGood.ite
    | split)

theorem good_announce {s1 : State} (h1 : Good M s0 q s1) (hm : Cover 0x40 M) : Good M s0 q (State.announce s1) := by
  unfold State.announce
  repeat' (first
    | with_reducible assumption
    | exact Cover.sub hm rfl
    | exact Cover.bit hm rfl
    | exact Cover.bit hm (by dsimp only [Fld.block]; rfl)
    | (extract_lets -underBinder +onlyGivenNames x; try clear_value x)
    | intro x
    | with_reducible apply good_emit
    | with_reducible apply good_foldS
    | with_reducible apply good_ite)

theorem good_gainPresence {s1 : State} (h1 : Good M s0 q s1) (hm : Cover 0x2040 M) : Good M s0 q (State.gainPresence s1) := by
  unfold State.gainPresence
  repeat' (first
    | with_reducible assumption
    | exact Cover.sub hm rfl
    | exact Cover.bit hm rfl
    | exact Cover.bit hm (by dsimp only [Fld.block]; rfl)
    | (extract_lets -underBinder +onlyGivenNames x; refine (fun (hx : Good M s0 q x) => ?_) ?_; (on_goal 1 => try clear_value x); (on_goal 2 => subst x))
    | (extract_lets -underBinder +onlyGivenNames x; try clear_value x)
    | intro x
    | (simp only [good_mk_iff]; refine GoodParts.of (?_ : Good M s0 q _) rfl rfl rfl rfl)
    | with_reducible apply good_announce)

theorem good_execGratuitousRepeat {s1 : State} (h1 : Good M s0 q s1) (hm : Cover 0x100000002041 M) : OutGood M s0 q (execGratuitousRepeat s1) := by
  unfold execGratuitousRepeat
  repeat' (first
    | with_reducible assumption
    | exact Cover.sub hm rfl
    | exact Cover.bit hm rfl
    | exact Cover.bit hm (by dsimp only [Fld.block]; rfl)
    | (extract_lets -underBinder +onlyGivenNames x; refine (fun (hx : Good M s0 q x) => ?_) ?_; (on_goal 1 => try clear_value x); (on_goal 2 => subst x))
    | (extract_lets -underBinder +onlyGivenNames x; try clear_value x)
    | intro x
    | (simp only [good_mk_iff]; refine GoodParts.of (?_ : Good M s0 q _) rfl rfl rfl rfl)
    | with_reducible apply OutGood.of
    | with_reducible apply good_announce
    | with_reducible apply good_advance
    | with_reducible apply good_ite
    | with_reducible apply OutGood.ite)

theorem good_execEthSnapshot (a1) (a2) {s3 : State} (h3 : Good M s0 q s3) (hm : Cover 0x10000000000000008 M) : OutGood M s0 q (execEthSnapshot a1 a2 s3) := by
  unfold execEthSnapshot
  repeat' (first
    | with_reducible assumption
    | exact Cover.sub hm rfl
    | exact Cover.bit hm rfl
    | exact Cover.bit hm (by dsimp only [Fld.block]; rfl)
    | (extract_lets -underBinder +onlyGivenNames x; try clear_value x)
    | intro x
    | with_reducible apply OutGood.of
    | with_reducible apply good_snapshot
    | with_reducible apply good_w)

end Sys2Proof.Machine
end

