-- ==== Sys2Proof/Laws/EpBase.lean ====
section
/-! SUPPORT. What the operations of Machine/EpBase.lean keep (see Laws/Keep.lean), one lemma for each. -/

set_option Elab.async false

set_option linter.all false

namespace Sys2Proof.Machine

variable {M : Nat} {s0 : State} {q : Prop}

theorem good_setEp {s1 : State} (h1 : Good M s0 q s1) (a2) (hm : Cover 0x4000000 M) : Good M s0 q (State.setEp s1 a2) := by
  unfold State.setEp
  repeat' (first
    | with_reducible assumption
    | exact Cover.sub hm rfl
    | exact Cover.bit hm rfl
    | exact Cover.bit hm (by dsimp only [Fld.block]; rfl)
    | intro x
    | (simp only [good_mk_iff]; refine GoodParts.of (?_ : Good M s0 q _) rfl rfl rfl rfl))

theorem good_epfBump {s1 : State} (h1 : Good M s0 q s1) (a2) (a3) (hm : Cover 0xC000000100000000040 M) : Good M s0 q (State.epfBump s1 a2 a3) := by
  unfold State.epfBump
  repeat' (first
    | with_reducible assumption
    | exact Cover.sub hm rfl
    | exact Cover.bit hm rfl
    | exact Cover.bit hm (by dsimp only [Fld.block]; rfl)
    | intro x
    | with_reducible apply good_bump)

theorem good_epWake {s1 : State} (h1 : Good M s0 q s1) (a2) (hm : Cover 0xC000000100004000040 M) : Good M s0 q (State.epWake s1 a2) := by
  unfold State.epWake
  repeat' (first
    | with_reducible assumption
    | exact Cover.sub hm rfl
    | exact Cover.bit hm rfl
    | exact Cover.bit hm (by dsimp only [Fld.block]; rfl)
    | (extract_lets -underBinder +onlyGivenNames x; refine (fun (hx : Good M s0 q x) => ?_) ?_; (on_goal 1 => try clear_value x); (on_goal 2 => subst x))
    | (extract_lets -underBinder +onlyGivenNames x; try clear_value x)
    | intro x
    | with_reducible apply good_setEp
    | with_reducible apply good_ev
    | with_reducible apply good_epfBump
    | with_reducible apply good_emit
    | with_reducible apply good_w
    | with_reducible apply good_ite)

end Sys2Proof.Machine
end

