-- ==== Sys2Proof/Laws/CmdBase.lean ====
section
/-! SUPPORT. What the operations of Machine/CmdBase.lean keep (see Laws/Keep.lean), one lemma for each. -/

set_option Elab.async false

set_option linter.all false

namespace Sys2Proof.Machine

variable {M : Nat} {s0 : State} {q : Prop}

theorem good_setCd {s1 : State} (h1 : Good M s0 q s1) (a2) (a3) (hm : Cover 0x20000 M := by first | assumption | exact Cover.sub (by assumption) rfl) : Good M s0 q (State.setCd s1 a2 a3) := by
  unfold State.setCd
  repeat' (first
    | with_reducible assumption
    | exact Cover.sub hm rfl
    | exact Cover.bit hm rfl
    | exact Cover.bit hm (by dsimp only [Fld.block]; rfl)
    | (extract_lets -underBinder +onlyGivenNames x; try clear_value x)
    | intro x
    | (simp only [good_mk_iff]; refine GoodParts.of (?_ : Good M s0 q _) rfl rfl rfl rfl))

theorem good_cmdBump {s1 : State} (h1 : Good M s0 q s1) (a2) (a3) (a4) (hm : Cover 0xC000000000000100000000040 M := by first | assumption | exact Cover.sub (by assumption) rfl) : Good M s0 q (State.cmdBump s1 a2 a3 a4) := by
  unfold State.cmdBump
  repeat' (first
    | with_reducible assumption
    | exact Cover.sub hm rfl
    | exact Cover.bit hm rfl
    | exact Cover.bit hm (by dsimp only [Fld.block]; rfl)
    | intro x
    | with_reducible apply good_bump)

theorem good_cmdShow {s1 : State} (h1 : Good M s0 q s1) (a2) (hm : Cover 0x4000000000000000000000000 M) : Good M s0 q (State.cmdShow s1 a2) := by
  unfold State.cmdShow
  repeat' (first
    | with_reducible assumption
    | exact Cover.sub hm rfl
    | exact Cover.bit hm rfl
    | exact Cover.bit hm (by dsimp only [Fld.block]; rfl)
    | (extract_lets -underBinder +onlyGivenNames x; try clear_value x)
    | intro x
    | with_reducible apply good_w)

theorem good_setSlot {s1 : State} (h1 : Good M s0 q s1) (a2) (a3) (a4) (hm : Cover 0x4000000000000000000020000 M := by first | assumption | exact Cover.sub (by assumption) rfl) : Good M s0 q (State.setSlot s1 a2 a3 a4) := by
  unfold State.setSlot
  repeat' (first
    | with_reducible assumption
    | exact Cover.sub hm rfl
    | exact Cover.bit hm rfl
    | exact Cover.bit hm (by dsimp only [Fld.block]; rfl)
    | (extract_lets -underBinder +onlyGivenNames x; try clear_value x)
    | intro x
    | with_reducible apply good_cmdShow
    | with_reducible apply good_setCd)

theorem good_freeSlot {s1 : State} (h1 : Good M s0 q s1) (a2) (a3) (hm : Cover 0x4000000000000000000020000 M) : Good M s0 q (State.freeSlot s1 a2 a3) := by
  unfold State.freeSlot
  repeat' (first
    | with_reducible assumption
    | exact Cover.sub hm rfl
    | exact Cover.bit hm rfl
    | exact Cover.bit hm (by dsimp only [Fld.block]; rfl)
    | (extract_lets -underBinder +onlyGivenNames x; try clear_value x)
    | intro x
    | with_reducible apply good_cmdShow
    | with_reducible apply good_setCd)

theorem good_setCtrl {s1 : State} (h1 : Good M s0 q s1) (a2) (a3) (a4) (hm : Cover 0x20000 M) : Good M s0 q (State.setCtrl s1 a2 a3 a4) := by
  unfold State.setCtrl
  repeat' (first
    | with_reducible assumption
    | exact Cover.sub hm rfl
    | exact Cover.bit hm rfl
    | exact Cover.bit hm (by dsimp only [Fld.block]; rfl)
    | (extract_lets -underBinder +onlyGivenNames x; try clear_value x)
    | intro x
    | with_reducible apply good_setCd)

theorem good_onCd (a1) {s2 : State} (h2 : Good M s0 q s2) (f3) (h3 : ∀ x0, Good M s0 q x0 → Good M s0 q (f3 x0)) : OutGood M s0 q (onCd a1 s2 f3) := by
  unfold onCd
  repeat' (first
    | with_reducible assumption
    | exact Cover.sub hm rfl
    | exact Cover.bit hm rfl
    | exact Cover.bit hm (by dsimp only [Fld.block]; rfl)
    | (extract_lets -underBinder +onlyGivenNames x; try clear_value x)
    | intro x
    | with_reducible apply OutGood.of
    | apply_assumption -exfalso -symm
    | with_reducible apply good_ite)

theorem good_onRoot (a1) {s2 : State} (h2 : Good M s0 q s2) (f3) (h3 : ∀ x0, Good M s0 q x0 → Good M s0 q (f3 x0)) : OutGood M s0 q (onRoot a1 s2 f3) := by
  unfold onRoot
  repeat' (first
    | with_reducible assumption
    | exact Cover.sub hm rfl
    | exact Cover.bit hm rfl
    | exact Cover.bit hm (by dsimp only [Fld.block]; rfl)
    | (extract_lets -underBinder +onlyGivenNames x; try clear_value x)
    | intro x
    | with_reducible apply OutGood.of
    | apply_assumption -exfalso -symm
    | with_reducible apply good_ite)

theorem good_onDie (a1) {s2 : State} (h2 : Good M s0 q s2) (f3) (h3 : ∀ x0, Good M s0 q x0 → Good M s0 q (f3 x0)) : OutGood M s0 q (onDie a1 s2 f3) := by
  unfold onDie
  repeat' (first
    | with_reducible assumption
    | exact Cover.sub hm rfl
    | exact Cover.bit hm rfl
    | exact Cover.bit hm (by dsimp only [Fld.block]; rfl)
    | (extract_lets -underBinder +onlyGivenNames x; try clear_value x)
    | intro x
    | with_reducible apply OutGood.of
    | apply_assumption -exfalso -symm
    | with_reducible apply good_ite)

theorem good_tableEvent {s1 : State} (h1 : Good M s0 q s1) (a2) (a3) (a4) (hm : Cover 0x300030000000000000000100000810040 M) : Good M s0 q (State.tableEvent s1 a2 a3 a4) := by
  unfold State.tableEvent
  repeat' (first
    | with_reducible assumption
    | exact Cover.sub hm rfl
    | exact Cover.bit hm rfl
    | exact Cover.bit hm (by dsimp only [Fld.block]; rfl)
    | (extract_lets -underBinder +onlyGivenNames x; refine (fun (hx : Good M s0 q x) => ?_) ?_; (on_goal 1 => try clear_value x); (on_goal 2 => subst x))
    | (extract_lets -underBinder +onlyGivenNames x; try clear_value x)
    | intro x
    | (simp only [good_mk_iff]; refine GoodParts.of (?_ : Good M s0 q _) rfl rfl rfl rfl)
    | with_reducible apply good_sendPartner
    | with_reducible apply good_pairBump
    | with_reducible apply good_ite)

theorem good_setSp {s1 : State} (h1 : Good M s0 q s1) (a2) (a3) (hm : Cover 0x140000000000000000000040000 M := by first | assumption | exact Cover.sub (by assumption) rfl) : Good M s0 q (State.setSp s1 a2 a3) := by
  unfold State.setSp
  repeat' (first
    | with_reducible assumption
    | exact Cover.sub hm rfl
    | exact Cover.bit hm rfl
    | exact Cover.bit hm (by dsimp only [Fld.block]; rfl)
    | (extract_lets -underBinder +onlyGivenNames x; refine (fun (hx : Good M s0 q x) => ?_) ?_; (on_goal 1 => try clear_value x); (on_goal 2 => subst x))
    | (extract_lets -underBinder +onlyGivenNames x; try clear_value x)
    | intro x
    | (simp only [good_mk_iff]; refine GoodParts.of (?_ : Good M s0 q _) rfl rfl rfl rfl)
    | with_reducible apply good_wb
    | with_reducible apply good_w)

theorem good_crumbShow {s1 : State} (h1 : Good M s0 q s1) (a2) (hm : Cover 0x140000000000000000000040040 M) : Good M s0 q (State.crumbShow s1 a2) := by
  unfold State.crumbShow
  repeat' (first
    | with_reducible assumption
    | exact Cover.sub hm rfl
    | exact Cover.bit hm rfl
    | exact Cover.bit hm (by dsimp only [Fld.block]; rfl)
    | (extract_lets -underBinder +onlyGivenNames x; refine (fun (hx : Good M s0 q x) => ?_) ?_; (on_goal 1 => try clear_value x); (on_goal 2 => subst x))
    | (extract_lets -underBinder +onlyGivenNames x; try clear_value x)
    | intro x
    | with_reducible apply good_setSp
    | with_reducible apply good_w
    | with_reducible apply good_ev
    | with_reducible apply good_ite)

theorem good_mapRing {s1 : State} (h1 : Good M s0 q s1) (a2) (a3) (hm : Cover 0x140000000000000000000040000 M) : Good M s0 q (State.mapRing s1 a2 a3) := by
  unfold State.mapRing
  repeat' (first
    | with_reducible assumption
    | exact Cover.sub hm rfl
    | exact Cover.bit hm rfl
    | exact Cover.bit hm (by dsimp only [Fld.block]; rfl)
    | (extract_lets -underBinder +onlyGivenNames x; try clear_value x)
    | intro x
    | with_reducible apply good_setSp)

theorem good_retireCrumb {s1 : State} (h1 : Good M s0 q s1) (a2) (a3) (hm : Cover 0x140000000000000000000040040 M) : Good M s0 q (State.retireCrumb s1 a2 a3) := by
  unfold State.retireCrumb
  repeat' (first
    | with_reducible assumption
    | exact Cover.sub hm rfl
    | exact Cover.bit hm rfl
    | exact Cover.bit hm (by dsimp only [Fld.block]; rfl)
    | (extract_lets -underBinder +onlyGivenNames x; try clear_value x)
    | intro x
    | with_reducible apply good_crumbShow
    | with_reducible apply good_mapRing)

theorem good_holdOver {s1 : State} (h1 : Good M s0 q s1) (a2) (a3) (hm : Cover 0x140000000000000000000040040 M) : Good M s0 q (State.holdOver s1 a2 a3) := by
  unfold State.holdOver
  repeat' (first
    | with_reducible assumption
    | exact Cover.sub hm rfl
    | exact Cover.bit hm rfl
    | exact Cover.bit hm (by dsimp only [Fld.block]; rfl)
    | (extract_lets -underBinder +onlyGivenNames x; try clear_value x)
    | intro x
    | with_reducible apply good_crumbShow
    | with_reducible apply good_mapRing)

theorem good_orphan {s1 : State} (h1 : Good M s0 q s1) (a2) (a3) (hm : Cover 0x14C000000000000100000060040 M := by first | assumption | exact Cover.sub (by assumption) rfl) : Good M s0 q (State.orphan s1 a2 a3) := by
  unfold State.orphan
  repeat' (first
    | with_reducible assumption
    | exact Cover.sub hm rfl
    | exact Cover.bit hm rfl
    | exact Cover.bit hm (by dsimp only [Fld.block]; rfl)
    | (extract_lets -underBinder +onlyGivenNames x; refine (fun (hx : Good M s0 q x) => ?_) ?_; (on_goal 1 => try clear_value x); (on_goal 2 => subst x))
    | (extract_lets -underBinder +onlyGivenNames x; try clear_value x)
    | intro x
    | (simp only [good_mk_iff]; refine GoodParts.of (?_ : Good M s0 q _) rfl rfl rfl rfl)
    | with_reducible apply good_setCd
    | with_reducible apply good_ev
    | with_reducible apply good_cmdBump
    | with_reducible apply good_freeSlot
    | with_reducible apply good_holdOver
    | with_reducible apply good_setSlot
    | with_reducible apply good_ite
    | split)

theorem good_slotFires {s1 : State} (h1 : Good M s0 q s1) (a2) (a3) (hm : Cover 0x4000000000000000000020000 M := by first | assumption | exact Cover.sub (by assumption) rfl) : Good M s0 q (State.slotFires s1 a2 a3) := by
  unfold State.slotFires
  repeat' (first
    | with_reducible assumption
    | exact Cover.sub hm rfl
    | exact Cover.bit hm rfl
    | exact Cover.bit hm (by dsimp only [Fld.block]; rfl)
    | (extract_lets -underBinder +onlyGivenNames x; try clear_value x)
    | intro x
    | with_reducible apply good_setSlot
    | with_reducible apply good_ite)

theorem good_slotChainFailed {s1 : State} (h1 : Good M s0 q s1) (a2) (a3) (hm : Cover 0x14C000000000000100000060040 M) : Good M s0 q (State.slotChainFailed s1 a2 a3) := by
  unfold State.slotChainFailed
  repeat' (first
    | with_reducible assumption
    | exact Cover.sub hm rfl
    | exact Cover.bit hm rfl
    | exact Cover.bit hm (by dsimp only [Fld.block]; rfl)
    | (extract_lets -underBinder +onlyGivenNames x; try clear_value x)
    | intro x
    | with_reducible apply good_orphan
    | with_reducible apply good_ite)

theorem good_asyncEvent {s1 : State} (h1 : Good M s0 q s1) (a2) (a3) (a4) (hm : Cover 0x400000C000000100004020040 M) : Good M s0 q (State.asyncEvent s1 a2 a3 a4) := by
  unfold State.asyncEvent
  repeat' (first
    | with_reducible assumption
    | exact Cover.sub hm rfl
    | exact Cover.bit hm rfl
    | exact Cover.bit hm (by dsimp only [Fld.block]; rfl)
    | (extract_lets -underBinder +onlyGivenNames x; refine (fun (hx : Good M s0 q x) => ?_) ?_; (on_goal 1 => try clear_value x); (on_goal 2 => subst x))
    | (extract_lets -underBinder +onlyGivenNames x; try clear_value x)
    | intro x
    | (simp only [good_mk_iff]; refine GoodParts.of (?_ : Good M s0 q _) rfl rfl rfl rfl)
    | with_reducible apply good_setCtrl
    | with_reducible apply good_epWake
    | with_reducible apply good_emit
    | with_reducible apply good_freeSlot
    | with_reducible apply good_ite
    | split)

theorem good_deferShow {s1 : State} (h1 : Good M s0 q s1) (a2) (hm : Cover 0x4000000000000000000000000 M) : Good M s0 q (State.deferShow s1 a2) := by
  unfold State.deferShow
  repeat' (first
    | with_reducible assumption
    | exact Cover.sub hm rfl
    | exact Cover.bit hm rfl
    | exact Cover.bit hm (by dsimp only [Fld.block]; rfl)
    | intro x
    | with_reducible apply good_w)

theorem good_deferLogged {s1 : State} (h1 : Good M s0 q s1) (a2) (a3) (hm : Cover 0x400000C000000100004020060 M) : Good M s0 q (State.deferLogged s1 a2 a3) := by
  unfold State.deferLogged
  repeat' (first
    | with_reducible assumption
    | exact Cover.sub hm rfl
    | exact Cover.bit hm rfl
    | exact Cover.bit hm (by dsimp only [Fld.block]; rfl)
    | (extract_lets -underBinder +onlyGivenNames x; refine (fun (hx : Good M s0 q x) => ?_) ?_; (on_goal 1 => try clear_value x); (on_goal 2 => subst x))
    | (extract_lets -underBinder +onlyGivenNames x; try clear_value x)
    | intro x
    | (simp only [good_mk_iff]; refine GoodParts.of (?_ : Good M s0 q _) rfl rfl rfl rfl)
    | with_reducible apply good_logEv
    | with_reducible apply good_asyncEvent
    | with_reducible apply good_foldS
    | with_reducible apply good_ite
    | split)

theorem good_deferWrite {s1 : State} (h1 : Good M s0 q s1) (a2) (a3) (hm : Cover 0xC0000000000000001C0010200040 M) : Good M s0 q (State.deferWrite s1 a2 a3) := by
  unfold State.deferWrite
  repeat' (first
    | with_reducible assumption
    | exact Cover.sub hm rfl
    | exact Cover.bit hm rfl
    | exact Cover.bit hm (by dsimp only [Fld.block]; rfl)
    | (extract_lets -underBinder +onlyGivenNames x; try clear_value x)
    | intro x
    | with_reducible apply good_drvIssue
    | with_reducible apply good_foldS
    | with_reducible apply good_ite
    | split)

theorem good_deferRange {s1 : State} (h1 : Good M s0 q s1) (a2) (a3) (a4) (a5) (a6) (a7) (a8) (a9) (hm : Cover 0xC00C00000C0000001C0014220060 M) : Good M s0 q (State.deferRange s1 a2 a3 a4 a5 a6 a7 a8 a9) := by
  unfold State.deferRange
  repeat' (first
    | with_reducible assumption
    | exact Cover.sub hm rfl
    | exact Cover.bit hm rfl
    | exact Cover.bit hm (by dsimp only [Fld.block]; rfl)
    | (extract_lets -underBinder +onlyGivenNames x; refine (fun (hx : Good M s0 q x) => ?_) ?_; (on_goal 1 => try clear_value x); (on_goal 2 => subst x))
    | (extract_lets -underBinder +onlyGivenNames x; try clear_value x)
    | intro x
    | with_reducible apply good_setCd
    | with_reducible apply good_ev
    | with_reducible apply good_cmdBump
    | with_reducible apply good_w
    | with_reducible apply good_deferLogged
    | with_reducible apply good_deferWrite
    | with_reducible apply good_deferShow
    | with_reducible apply good_ite)

theorem good_deferClear {s1 : State} (h1 : Good M s0 q s1) (a2) (a3) (a4) (a5) (a6) (hm : Cover 0xC0040000000000001C0010220040 M) : Good M s0 q (State.deferClear s1 a2 a3 a4 a5 a6) := by
  unfold State.deferClear
  repeat' (first
    | with_reducible assumption
    | exact Cover.sub hm rfl
    | exact Cover.bit hm rfl
    | exact Cover.bit hm (by dsimp only [Fld.block]; rfl)
    | (extract_lets -underBinder +onlyGivenNames x; refine (fun (hx : Good M s0 q x) => ?_) ?_; (on_goal 1 => try clear_value x); (on_goal 2 => subst x))
    | (extract_lets -underBinder +onlyGivenNames x; try clear_value x)
    | intro x
    | (simp only [good_mk_iff]; refine GoodParts.of (?_ : Good M s0 q _) rfl rfl rfl rfl)
    | with_reducible apply good_setCd
    | with_reducible apply good_deferWrite
    | with_reducible apply good_deferShow)

end Sys2Proof.Machine
end

