-- ==== Sys2Proof/Laws/Rdma.lean ====
section
/-! SUPPORT. What the operations of Machine/Rdma.lean keep (see Laws/Keep.lean), one lemma for each. -/

set_option Elab.async false

set_option linter.all false

namespace Sys2Proof.Machine

variable {M : Nat} {s0 : State} {q : Prop}

theorem good_setConn {s1 : State} (h1 : Good M s0 q s1) (a2) (a3) (a4) (hm : Cover 0x10000 M) : Good M s0 q (State.setConn s1 a2 a3 a4) := by
  unfold State.setConn
  repeat' (first
    | with_reducible assumption
    | exact Cover.sub hm rfl
    | exact Cover.bit hm rfl
    | exact Cover.bit hm (by dsimp only [Fld.block]; rfl)
    | (extract_lets -underBinder +onlyGivenNames x; try clear_value x)
    | intro x
    | (simp only [good_mk_iff]; refine GoodParts.of (?_ : Good M s0 q _) rfl rfl rfl rfl))

theorem good_setRegion {s1 : State} (h1 : Good M s0 q s1) (a2) (a3) (a4) (hm : Cover 0x10000 M) : Good M s0 q (State.setRegion s1 a2 a3 a4) := by
  unfold State.setRegion
  repeat' (first
    | with_reducible assumption
    | exact Cover.sub hm rfl
    | exact Cover.bit hm rfl
    | exact Cover.bit hm (by dsimp only [Fld.block]; rfl)
    | (extract_lets -underBinder +onlyGivenNames x; try clear_value x)
    | intro x
    | (simp only [good_mk_iff]; refine GoodParts.of (?_ : Good M s0 q _) rfl rfl rfl rfl))

theorem good_setChain {s1 : State} (h1 : Good M s0 q s1) (a2) (a3) (a4) (hm : Cover 0x10000 M := by first | assumption | exact Cover.sub (by assumption) rfl) : Good M s0 q (State.setChain s1 a2 a3 a4) := by
  unfold State.setChain
  repeat' (first
    | with_reducible assumption
    | exact Cover.sub hm rfl
    | exact Cover.bit hm rfl
    | exact Cover.bit hm (by dsimp only [Fld.block]; rfl)
    | (extract_lets -underBinder +onlyGivenNames x; try clear_value x)
    | intro x
    | (simp only [good_mk_iff]; refine GoodParts.of (?_ : Good M s0 q _) rfl rfl rfl rfl))

theorem good_rdxBump {s1 : State} (h1 : Good M s0 q s1) (a2) (a3) (a4) (hm : Cover 0x3000000000000100000000040 M := by first | assumption | exact Cover.sub (by assumption) rfl) : Good M s0 q (State.rdxBump s1 a2 a3 a4) := by
  unfold State.rdxBump
  repeat' (first
    | with_reducible assumption
    | exact Cover.sub hm rfl
    | exact Cover.bit hm rfl
    | exact Cover.bit hm (by dsimp only [Fld.block]; rfl)
    | intro x
    | with_reducible apply good_bump)

theorem good_rdxStatus {s1 : State} (h1 : Good M s0 q s1) (a2) (hm : Cover 0x1000000000000000000000000 M) : Good M s0 q (State.rdxStatus s1 a2) := by
  unfold State.rdxStatus
  repeat' (first
    | with_reducible assumption
    | exact Cover.sub hm rfl
    | exact Cover.bit hm rfl
    | exact Cover.bit hm (by dsimp only [Fld.block]; rfl)
    | (extract_lets -underBinder +onlyGivenNames x; try clear_value x)
    | intro x
    | with_reducible apply good_w)

theorem good_rdmaOut {s1 : State} (h1 : Good M s0 q s1) (a2) (a3) (a4) (hm : Cover 0x300000100000004040 M) : Good M s0 q (State.rdmaOut s1 a2 a3 a4) := by
  unfold State.rdmaOut
  repeat' (first
    | with_reducible assumption
    | exact Cover.sub hm rfl
    | exact Cover.bit hm rfl
    | exact Cover.bit hm (by dsimp only [Fld.block]; rfl)
    | intro x
    | with_reducible apply good_swInject)

theorem good_sendAck {s1 : State} (h1 : Good M s0 q s1) (a2) (a3) (hm : Cover 0x3000000300000100000014040 M) : Good M s0 q (State.sendAck s1 a2 a3) := by
  unfold State.sendAck
  repeat' (first
    | with_reducible assumption
    | exact Cover.sub hm rfl
    | exact Cover.bit hm rfl
    | exact Cover.bit hm (by dsimp only [Fld.block]; rfl)
    | (extract_lets -underBinder +onlyGivenNames x; refine (fun (hx : Good M s0 q x) => ?_) ?_; (on_goal 1 => try clear_value x); (on_goal 2 => subst x))
    | (extract_lets -underBinder +onlyGivenNames x; try clear_value x)
    | intro x
    | with_reducible apply good_setConn
    | with_reducible apply good_emit
    | with_reducible apply good_rdxBump
    | with_reducible apply good_rdmaOut)

theorem good_sendNak {s1 : State} (h1 : Good M s0 q s1) (a2) (a3) (a4) (a5) (hm : Cover 0x3000000300000100000004040 M) : Good M s0 q (State.sendNak s1 a2 a3 a4 a5) := by
  unfold State.sendNak
  repeat' (first
    | with_reducible assumption
    | exact Cover.sub hm rfl
    | exact Cover.bit hm rfl
    | exact Cover.bit hm (by dsimp only [Fld.block]; rfl)
    | (extract_lets -underBinder +onlyGivenNames x; try clear_value x)
    | intro x
    | with_reducible apply good_rdmaOut
    | with_reducible apply good_emit
    | with_reducible apply good_rdxBump)

theorem good_dupAck {s1 : State} (h1 : Good M s0 q s1) (a2) (a3) (hm : Cover 0x3000000300000100000014040 M) : Good M s0 q (State.dupAck s1 a2 a3) := by
  unfold State.dupAck
  repeat' (first
    | with_reducible assumption
    | exact Cover.sub hm rfl
    | exact Cover.bit hm rfl
    | exact Cover.bit hm (by dsimp only [Fld.block]; rfl)
    | (extract_lets -underBinder +onlyGivenNames x; try clear_value x)
    | intro x
    | with_reducible apply good_sendAck
    | with_reducible apply good_setConn
    | with_reducible apply good_ite)

theorem good_ceMark {s1 : State} (h1 : Good M s0 q s1) (a2) (a3) (hm : Cover 0x3000000300000100000014040 M) : Good M s0 q (State.ceMark s1 a2 a3) := by
  unfold State.ceMark
  repeat' (first
    | with_reducible assumption
    | exact Cover.sub hm rfl
    | exact Cover.bit hm rfl
    | exact Cover.bit hm (by dsimp only [Fld.block]; rfl)
    | (extract_lets -underBinder +onlyGivenNames x; try clear_value x)
    | intro x
    | with_reducible apply good_rdmaOut
    | with_reducible apply good_emit
    | with_reducible apply good_rdxBump
    | with_reducible apply good_setConn
    | with_reducible apply good_ite)

theorem good_chainFailed {s1 : State} (h1 : Good M s0 q s1) (a2) (a3) (hm : Cover 0x14F000000000000100000070040 M := by first | assumption | exact Cover.sub (by assumption) rfl) : Good M s0 q (State.chainFailed s1 a2 a3) := by
  unfold State.chainFailed
  repeat' (first
    | with_reducible assumption
    | exact Cover.sub hm rfl
    | exact Cover.bit hm rfl
    | exact Cover.bit hm (by dsimp only [Fld.block]; rfl)
    | (extract_lets -underBinder +onlyGivenNames x; refine (fun (hx : Good M s0 q x) => ?_) ?_; (on_goal 1 => try clear_value x); (on_goal 2 => subst x))
    | (extract_lets -underBinder +onlyGivenNames x; try clear_value x)
    | intro x
    | (simp only [good_mk_iff]; refine GoodParts.of (?_ : Good M s0 q _) rfl rfl rfl rfl)
    | with_reducible apply good_ev
    | with_reducible apply good_rdxBump
    | with_reducible apply good_setChain
    | with_reducible apply good_slotChainFailed
    | with_reducible apply good_w
    | with_reducible apply good_ite)

theorem good_chainTrigger {s1 : State} (h1 : Good M s0 q s1) (a2) (a3) (a4) (a5) (hm : Cover 0x14F000000000000100000070040 M := by first | assumption | exact Cover.sub (by assumption) rfl) :
    Good M s0 q (State.chainTrigger s1 a2 a3 a4 a5) := by
  unfold State.chainTrigger
  extract_lets -underBinder c bell is0 is1 c1 full x st y
  have hx : Good M s0 q x := good_rdxBump (good_setChain h1 _ _ _) _ _ _
  have hy : Good M s0 q y := good_ite (good_slotFires hx _ _) hx
  split
  · split
    · split
      · exact hy
      · exact good_chainFailed hy _ _
    · exact good_setChain h1 _ _ _
  · exact good_ev (good_rdxBump h1 _ _ _) _ _

theorem good_releaseChains {s1 : State} (h1 : Good M s0 q s1) (a2) (hm : Cover 0x14F000000000000100000070040 M) : Good M s0 q (State.releaseChains s1 a2) := by
  unfold State.releaseChains
  repeat' (first
    | with_reducible assumption
    | exact Cover.sub hm rfl
    | exact Cover.bit hm rfl
    | exact Cover.bit hm (by dsimp only [Fld.block]; rfl)
    | (extract_lets -underBinder +onlyGivenNames x; try clear_value x)
    | intro x
    | with_reducible apply good_chainTrigger
    | with_reducible apply good_foldS
    | with_reducible apply good_ite)

theorem good_releaseMirror {s1 : State} (h1 : Good M s0 q s1) (hm : Cover 0x14F000000000000100000070040 M) : Good M s0 q (State.releaseMirror s1) := by
  unfold State.releaseMirror
  repeat' (first
    | with_reducible assumption
    | exact Cover.sub hm rfl
    | exact Cover.bit hm rfl
    | exact Cover.bit hm (by dsimp only [Fld.block]; rfl)
    | intro x
    | with_reducible apply good_releaseChains)

theorem good_connError {s1 : State} (h1 : Good M s0 q s1) (a2) (a3) (a4) (hm : Cover 0x30003014F000000000000100000870040 M) : Good M s0 q (State.connError s1 a2 a3 a4) := by
  unfold State.connError
  repeat' (first
    | with_reducible assumption
    | exact Cover.sub hm rfl
    | exact Cover.bit hm rfl
    | exact Cover.bit hm (by dsimp only [Fld.block]; rfl)
    | (extract_lets -underBinder +onlyGivenNames x; refine (fun (hx : Good M s0 q x) => ?_) ?_; (on_goal 1 => try clear_value x); (on_goal 2 => subst x))
    | (extract_lets -underBinder +onlyGivenNames x; try clear_value x)
    | intro x
    | with_reducible apply good_setConn
    | with_reducible apply good_ev
    | with_reducible apply good_rdxBump
    | with_reducible apply good_setCd
    | with_reducible apply good_tableEvent
    | with_reducible apply good_rdxStatus
    | with_reducible apply good_chainFailed
    | with_reducible apply good_foldS
    | with_reducible apply good_ite)

theorem good_regionRefused {s1 : State} (h1 : Good M s0 q s1) (a2) (a3) (a4) (hm : Cover 0x30003014F000000300000100000874040 M) : Good M s0 q (State.regionRefused s1 a2 a3 a4) := by
  unfold State.regionRefused
  repeat' (first
    | with_reducible assumption
    | exact Cover.sub hm rfl
    | exact Cover.bit hm rfl
    | exact Cover.bit hm (by dsimp only [Fld.block]; rfl)
    | (extract_lets -underBinder +onlyGivenNames x; try clear_value x)
    | intro x
    | with_reducible apply good_connError
    | with_reducible apply good_sendNak
    | with_reducible apply good_rdxBump)

theorem good_startPlacing {s1 : State} (h1 : Good M s0 q s1) (a2) (a3) (a4) (a5) (hm : Cover 0x10000 M) : Good M s0 q (State.startPlacing s1 a2 a3 a4 a5) := by
  unfold State.startPlacing
  repeat' (first
    | with_reducible assumption
    | exact Cover.sub hm rfl
    | exact Cover.bit hm rfl
    | exact Cover.bit hm (by dsimp only [Fld.block]; rfl)
    | (extract_lets -underBinder +onlyGivenNames x; refine (fun (hx : Good M s0 q x) => ?_) ?_; (on_goal 1 => try clear_value x); (on_goal 2 => subst x))
    | (extract_lets -underBinder +onlyGivenNames x; try clear_value x)
    | intro x
    | (simp only [good_mk_iff]; refine GoodParts.of (?_ : Good M s0 q _) rfl rfl rfl rfl)
    | with_reducible apply good_setConn
    | with_reducible apply good_setRegion
    | with_reducible apply good_ite
    | split)

theorem good_revokeIfDone {s1 : State} (h1 : Good M s0 q s1) (a2) (a3) (hm : Cover 0x1000000000000000000010040 M) : Good M s0 q (State.revokeIfDone s1 a2 a3) := by
  unfold State.revokeIfDone
  repeat' (first
    | with_reducible assumption
    | exact Cover.sub hm rfl
    | exact Cover.bit hm rfl
    | exact Cover.bit hm (by dsimp only [Fld.block]; rfl)
    | (extract_lets -underBinder +onlyGivenNames x; refine (fun (hx : Good M s0 q x) => ?_) ?_; (on_goal 1 => try clear_value x); (on_goal 2 => subst x))
    | (extract_lets -underBinder +onlyGivenNames x; try clear_value x)
    | intro x
    | (simp only [good_mk_iff]; refine GoodParts.of (?_ : Good M s0 q _) rfl rfl rfl rfl)
    | with_reducible apply good_ev
    | with_reducible apply good_setRegion
    | with_reducible apply good_w
    | with_reducible apply good_ite)

theorem good_retired {s1 : State} (h1 : Good M s0 q s1) (a2) (a3) (a4) (a5) (hm : Cover 0x3000000300000100000014040 M) : Good M s0 q (State.retired s1 a2 a3 a4 a5) := by
  unfold State.retired
  repeat' (first
    | with_reducible assumption
    | exact Cover.sub hm rfl
    | exact Cover.bit hm rfl
    | exact Cover.bit hm (by dsimp only [Fld.block]; rfl)
    | (extract_lets -underBinder +onlyGivenNames x; refine (fun (hx : Good M s0 q x) => ?_) ?_; (on_goal 1 => try clear_value x); (on_goal 2 => subst x))
    | (extract_lets -underBinder +onlyGivenNames x; try clear_value x)
    | intro x
    | with_reducible apply good_setConn
    | with_reducible apply good_sendAck
    | with_reducible apply good_ite)

theorem good_queueDelivery {s1 : State} (h1 : Good M s0 q s1) (a2) (a3) (a4) (a5) (a6) (hm : Cover 0x10000 M) : Good M s0 q (State.queueDelivery s1 a2 a3 a4 a5 a6) := by
  unfold State.queueDelivery
  repeat' (first
    | with_reducible assumption
    | exact Cover.sub hm rfl
    | exact Cover.bit hm rfl
    | exact Cover.bit hm (by dsimp only [Fld.block]; rfl)
    | (extract_lets -underBinder +onlyGivenNames x; try clear_value x)
    | intro x
    | with_reducible apply good_setConn)

theorem good_mpRetire {s1 : State} (h1 : Good M s0 q s1) (a2) (a3) (a4) (hm : Cover 0x3000000300000100000014040 M) : Good M s0 q (State.mpRetire s1 a2 a3 a4) := by
  induction a4 generalizing s1 with
  | zero => exact h1
  | succ k ih =>
    unfold State.mpRetire
    repeat' (first
      | with_reducible assumption
      | exact Cover.sub hm rfl
      | exact Cover.bit hm rfl
      | with_reducible apply ih
      | exact Cover.bit hm (by dsimp only [Fld.block]; rfl)
      | (extract_lets -underBinder +onlyGivenNames x; refine (fun (hx : Good M s0 q x) => ?_) ?_; (on_goal 1 => try clear_value x); (on_goal 2 => subst x))
      | (extract_lets -underBinder +onlyGivenNames x; try clear_value x)
      | intro x
      | (simp only [good_mk_iff]; refine GoodParts.of (?_ : Good M s0 q _) rfl rfl rfl rfl)
      | with_reducible apply good_setConn
      | with_reducible apply good_queueDelivery
      | with_reducible apply good_retired
      | with_reducible apply good_ite
      | split)

theorem good_offer {s1 : State} (h1 : Good M s0 q s1) (a2) (hm : Cover 0xC000000000000100000030040 M) : Good M s0 q (State.offer s1 a2) := by
  unfold State.offer
  repeat' (first
    | with_reducible assumption
    | exact Cover.sub hm rfl
    | exact Cover.bit hm rfl
    | exact Cover.bit hm (by dsimp only [Fld.block]; rfl)
    | (extract_lets -underBinder +onlyGivenNames x; try clear_value x)
    | intro x
    | (simp only [good_mk_iff]; refine GoodParts.of (?_ : Good M s0 q _) rfl rfl rfl rfl)
    | with_reducible apply good_setCd
    | with_reducible apply good_cmdBump
    | with_reducible apply good_setConn
    | with_reducible apply good_foldS
    | with_reducible apply good_ite)

end Sys2Proof.Machine
end

