-- ==== Sys2Proof/Laws/SpongeOps.lean ====
section
/-! SUPPORT. What the operations of Machine/SpongeOps.lean keep (see Laws/Keep.lean), one lemma for each. -/

set_option Elab.async false

set_option linter.all false

namespace Sys2Proof.Machine

variable {M : Nat} {s0 : State} {q : Prop}

theorem good_spgBump {s1 : State} (h1 : Good M s0 q s1) (a2) (a3) (a4) (hm : Cover 0xC0000000000000100000000040 M := by first | assumption | exact Cover.sub (by assumption) rfl) : Good M s0 q (State.spgBump s1 a2 a3 a4) := by
  unfold State.spgBump
  repeat' (first
    | with_reducible assumption
    | exact Cover.sub hm rfl
    | exact Cover.bit hm rfl
    | exact Cover.bit hm (by dsimp only [Fld.block]; rfl)
    | intro x
    | with_reducible apply good_bump)

theorem good_mapIndex {s1 : State} (h1 : Good M s0 q s1) (a2) (a3) (hm : Cover 0x140000000000000000000040000 M) : Good M s0 q (State.mapIndex s1 a2 a3) := by
  unfold State.mapIndex
  repeat' (first
    | with_reducible assumption
    | exact Cover.sub hm rfl
    | exact Cover.bit hm rfl
    | exact Cover.bit hm (by dsimp only [Fld.block]; rfl)
    | (extract_lets -underBinder +onlyGivenNames x; try clear_value x)
    | intro x
    | with_reducible apply good_setSp)

theorem good_dropEntry {s1 : State} (h1 : Good M s0 q s1) (a2) (a3) (hm : Cover 0x140000000000000000000040000 M) : Good M s0 q (State.dropEntry s1 a2 a3) := by
  unfold State.dropEntry
  repeat' (first
    | with_reducible assumption
    | exact Cover.sub hm rfl
    | exact Cover.bit hm rfl
    | exact Cover.bit hm (by dsimp only [Fld.block]; rfl)
    | (extract_lets -underBinder +onlyGivenNames x; try clear_value x)
    | intro x
    | with_reducible apply good_setSp)

theorem good_writeCrumb {s1 : State} (h1 : Good M s0 q s1) (a2) (a3) (hm : Cover 0x3000301C0000000000000100000840040 M := by first | assumption | exact Cover.sub (by assumption) rfl) : Good M s0 q (State.writeCrumb s1 a2 a3) := by
  unfold State.writeCrumb
  repeat' (first
    | with_reducible assumption
    | exact Cover.sub hm rfl
    | exact Cover.bit hm rfl
    | exact Cover.bit hm (by dsimp only [Fld.block]; rfl)
    | (extract_lets -underBinder +onlyGivenNames x; refine (fun (hx : Good M s0 q x) => ?_) ?_; (on_goal 1 => try clear_value x); (on_goal 2 => subst x))
    | (extract_lets -underBinder +onlyGivenNames x; try clear_value x)
    | intro x
    | with_reducible apply good_setSp
    | with_reducible apply good_w
    | with_reducible apply good_spgBump
    | with_reducible apply good_sendPartner
    | with_reducible apply good_crumbShow
    | with_reducible apply good_ite)

theorem good_crumbChainDone {s1 : State} (h1 : Good M s0 q s1) (a2) (a3) (a4) (hm : Cover 0x3000301C0000000000000100000840040 M) : Good M s0 q (State.crumbChainDone s1 a2 a3 a4) := by
  unfold State.crumbChainDone
  repeat' (first
    | with_reducible assumption
    | exact Cover.sub hm rfl
    | exact Cover.bit hm rfl
    | exact Cover.bit hm (by dsimp only [Fld.block]; rfl)
    | (extract_lets -underBinder +onlyGivenNames x; refine (fun (hx : Good M s0 q x) => ?_) ?_; (on_goal 1 => try clear_value x); (on_goal 2 => subst x))
    | (extract_lets -underBinder +onlyGivenNames x; try clear_value x)
    | intro x
    | (simp only [good_mk_iff]; refine GoodParts.of (?_ : Good M s0 q _) rfl rfl rfl rfl)
    | with_reducible apply good_writeCrumb
    | with_reducible apply good_mapRing
    | with_reducible apply good_retireCrumb
    | with_reducible apply good_ite
    | split)

theorem good_commitBlock {s1 : State} (h1 : Good M s0 q s1) (a2) (a3) (a4) (a5) (a6) (hm : Cover 0x1CC000000000000100000040040 M) : Good M s0 q (State.commitBlock s1 a2 a3 a4 a5 a6) := by
  unfold State.commitBlock
  repeat' (first
    | with_reducible assumption
    | exact Cover.sub hm rfl
    | exact Cover.bit hm rfl
    | exact Cover.bit hm (by dsimp only [Fld.block]; rfl)
    | (extract_lets -underBinder +onlyGivenNames x; refine (fun (hx : Good M s0 q x) => ?_) ?_; (on_goal 1 => try clear_value x); (on_goal 2 => subst x))
    | (extract_lets -underBinder +onlyGivenNames x; try clear_value x)
    | intro x
    | (simp only [good_mk_iff]; refine GoodParts.of (?_ : Good M s0 q _) rfl rfl rfl rfl)
    | with_reducible apply good_cmdBump
    | with_reducible apply good_setSp
    | with_reducible apply good_spgBump
    | with_reducible apply good_ite
    | split)

theorem good_commitBlocks {s1 : State} (h1 : Good M s0 q s1) (a2) (a3) (a4) (a5) (hm : Cover 0x1CC000000000000100000040040 M := by first | assumption | exact Cover.sub (by assumption) rfl) : Good M s0 q (State.commitBlocks s1 a2 a3 a4 a5) := by
  unfold State.commitBlocks
  repeat' (first
    | with_reducible assumption
    | exact Cover.sub hm rfl
    | exact Cover.bit hm rfl
    | exact Cover.bit hm (by dsimp only [Fld.block]; rfl)
    | (extract_lets -underBinder +onlyGivenNames x; try clear_value x)
    | intro x
    | with_reducible apply good_commitBlock
    | with_reducible apply good_foldS)

theorem good_commitRange {s1 : State} (h1 : Good M s0 q s1) (a2) (a3) (hm : Cover 0x140000000000000000000040000 M := by first | assumption | exact Cover.sub (by assumption) rfl) : Good M s0 q (State.commitRange s1 a2 a3) := by
  unfold State.commitRange
  repeat' (first
    | with_reducible assumption
    | exact Cover.sub hm rfl
    | exact Cover.bit hm rfl
    | exact Cover.bit hm (by dsimp only [Fld.block]; rfl)
    | (extract_lets -underBinder +onlyGivenNames x; try clear_value x)
    | intro x
    | with_reducible apply good_setSp)

theorem good_purgeRanges {s1 : State} (h1 : Good M s0 q s1) (a2) (hm : Cover 0x140000000000000000000040000 M := by first | assumption | exact Cover.sub (by assumption) rfl) : Good M s0 q (State.purgeRanges s1 a2) := by
  unfold State.purgeRanges
  repeat' (first
    | with_reducible assumption
    | exact Cover.sub hm rfl
    | exact Cover.bit hm rfl
    | exact Cover.bit hm (by dsimp only [Fld.block]; rfl)
    | (extract_lets -underBinder +onlyGivenNames x; try clear_value x)
    | intro x
    | with_reducible apply good_setSp)

theorem good_dropBlocks {s1 : State} (h1 : Good M s0 q s1) (a2) (a3) (hm : Cover 0x140000000000000000000040040 M) : Good M s0 q (State.dropBlocks s1 a2 a3) := by
  unfold State.dropBlocks
  repeat' (first
    | with_reducible assumption
    | exact Cover.sub hm rfl
    | exact Cover.bit hm rfl
    | exact Cover.bit hm (by dsimp only [Fld.block]; rfl)
    | (extract_lets -underBinder +onlyGivenNames x; refine (fun (hx : Good M s0 q x) => ?_) ?_; (on_goal 1 => try clear_value x); (on_goal 2 => subst x))
    | (extract_lets -underBinder +onlyGivenNames x; try clear_value x)
    | intro x
    | with_reducible apply good_setSp
    | with_reducible apply good_retireCrumb
    | with_reducible apply good_foldS
    | with_reducible apply good_ite)

theorem good_poison {s1 : State} (h1 : Good M s0 q s1) (a2) (a3) (hm : Cover 0xC14C00000C0000001C0014260060 M) : Good M s0 q (State.poison s1 a2 a3) := by
  unfold State.poison
  repeat' (first
    | with_reducible assumption
    | exact Cover.sub hm rfl
    | exact Cover.bit hm rfl
    | exact Cover.bit hm (by dsimp only [Fld.block]; rfl)
    | (extract_lets -underBinder +onlyGivenNames x; try clear_value x)
    | intro x
    | with_reducible apply good_deferRange
    | with_reducible apply good_mapIndex)

theorem good_crumbLost {s1 : State} (h1 : Good M s0 q s1) (a2) (a3) (hm : Cover 0x140000000000000000000040060 M) : Good M s0 q (State.crumbLost s1 a2 a3) := by
  unfold State.crumbLost
  repeat' (first
    | with_reducible assumption
    | exact Cover.sub hm rfl
    | exact Cover.bit hm rfl
    | exact Cover.bit hm (by dsimp only [Fld.block]; rfl)
    | (extract_lets -underBinder +onlyGivenNames x; try clear_value x)
    | intro x
    | with_reducible apply good_logEv
    | with_reducible apply good_ev
    | with_reducible apply good_retireCrumb
    | with_reducible apply good_mapRing)

theorem good_eccShow {s1 : State} (h1 : Good M s0 q s1) (a2) (a3) (a4) (hm : Cover 0xC0000000000000100000000040 M) : Good M s0 q (State.eccShow s1 a2 a3 a4) := by
  unfold State.eccShow
  repeat' (first
    | with_reducible assumption
    | exact Cover.sub hm rfl
    | exact Cover.bit hm rfl
    | exact Cover.bit hm (by dsimp only [Fld.block]; rfl)
    | (extract_lets -underBinder +onlyGivenNames x; refine (fun (hx : Good M s0 q x) => ?_) ?_; (on_goal 1 => try clear_value x); (on_goal 2 => subst x))
    | (extract_lets -underBinder +onlyGivenNames x; try clear_value x)
    | intro x
    | with_reducible apply good_w
    | with_reducible apply good_wb
    | with_reducible apply good_ev
    | with_reducible apply good_spgBump
    | with_reducible apply good_ite)

theorem good_askRepair {s1 : State} (h1 : Good M s0 q s1) (a2) (a3) (a4) (a5) (hm : Cover 0x300030000000000000000100000800040 M) : Good M s0 q (State.askRepair s1 a2 a3 a4 a5) := by
  unfold State.askRepair
  repeat' (first
    | with_reducible assumption
    | exact Cover.sub hm rfl
    | exact Cover.bit hm rfl
    | exact Cover.bit hm (by dsimp only [Fld.block]; rfl)
    | (extract_lets -underBinder +onlyGivenNames x; try clear_value x)
    | intro x
    | with_reducible apply good_sendPartner
    | with_reducible apply good_pairBump)

theorem good_blockBroken {s1 : State} (h1 : Good M s0 q s1) (a2) (a3) (hm : Cover 0x30003C14C00000C0000001C0014A60060 M) : Good M s0 q (State.blockBroken s1 a2 a3) := by
  unfold State.blockBroken
  repeat' (first
    | with_reducible assumption
    | exact Cover.sub hm rfl
    | exact Cover.bit hm rfl
    | exact Cover.bit hm (by dsimp only [Fld.block]; rfl)
    | (extract_lets -underBinder +onlyGivenNames x; try clear_value x)
    | intro x
    | with_reducible apply good_dropEntry
    | with_reducible apply good_askRepair
    | with_reducible apply good_mapIndex
    | with_reducible apply good_poison
    | with_reducible apply good_ite)

theorem good_repairsLost {s1 : State} (h1 : Good M s0 q s1) (a2) (hm : Cover 0xC14C00000C0000001C0014260060 M) : Good M s0 q (State.repairsLost s1 a2) := by
  unfold State.repairsLost
  repeat' (first
    | with_reducible assumption
    | exact Cover.sub hm rfl
    | exact Cover.bit hm rfl
    | exact Cover.bit hm (by dsimp only [Fld.block]; rfl)
    | (extract_lets -underBinder +onlyGivenNames x; refine (fun (hx : Good M s0 q x) => ?_) ?_; (on_goal 1 => try clear_value x); (on_goal 2 => subst x))
    | (extract_lets -underBinder +onlyGivenNames x; try clear_value x)
    | intro x
    | with_reducible apply good_poison
    | with_reducible apply good_crumbLost
    | with_reducible apply good_foldS
    | with_reducible apply good_ite)

end Sys2Proof.Machine
end

