-- ==== Sys2Proof/Laws/GroupOps.lean ====
section
/-! SUPPORT. What the operations of Machine/GroupOps.lean keep (see Laws/Keep.lean), one lemma for each. -/

set_option Elab.async false

set_option linter.all false

namespace Sys2Proof.Machine

variable {M : Nat} {s0 : State} {q : Prop}

theorem good_setGrp {s1 : State} (h1 : Good M s0 q s1) (a2) (a3) (a4) (hm : Cover 0x400000000000000000000080000 M := by first | assumption | exact Cover.sub (by assumption) rfl) : Good M s0 q (State.setGrp s1 a2 a3 a4) := by
  unfold State.setGrp
  repeat' (first
    | with_reducible assumption
    | exact Cover.sub hm rfl
    | exact Cover.bit hm rfl
    | exact Cover.bit hm (by dsimp only [Fld.block]; rfl)
    | (extract_lets -underBinder +onlyGivenNames x; refine (fun (hx : Good M s0 q x) => ?_) ?_; (on_goal 1 => try clear_value x); (on_goal 2 => subst x))
    | (extract_lets -underBinder +onlyGivenNames x; try clear_value x)
    | intro x
    | (simp only [good_mk_iff]; refine GoodParts.of (?_ : Good M s0 q _) rfl rfl rfl rfl)
    | with_reducible apply good_wb
    | with_reducible apply good_w)

theorem good_grpBump {s1 : State} (h1 : Good M s0 q s1) (a2) (a3) (a4) (hm : Cover 0xC00000000000000100000000040 M := by first | assumption | exact Cover.sub (by assumption) rfl) : Good M s0 q (State.grpBump s1 a2 a3 a4) := by
  unfold State.grpBump
  repeat' (first
    | with_reducible assumption
    | exact Cover.sub hm rfl
    | exact Cover.bit hm rfl
    | exact Cover.bit hm (by dsimp only [Fld.block]; rfl)
    | intro x
    | with_reducible apply good_bump)

theorem good_chanShow {s1 : State} (h1 : Good M s0 q s1) (a2) (hm : Cover 0x400000000000000000000000000 M := by first | assumption | exact Cover.sub (by assumption) rfl) : Good M s0 q (State.chanShow s1 a2) := by
  unfold State.chanShow
  repeat' (first
    | with_reducible assumption
    | exact Cover.sub hm rfl
    | exact Cover.bit hm rfl
    | exact Cover.bit hm (by dsimp only [Fld.block]; rfl)
    | (extract_lets -underBinder +onlyGivenNames x; try clear_value x)
    | intro x
    | with_reducible apply good_w
    | with_reducible apply good_ite)

theorem good_anaRise {s1 : State} (h1 : Good M s0 q s1) (a2) (hm : Cover 0x1400000C000000100004020040 M) : Good M s0 q (State.anaRise s1 a2) := by
  unfold State.anaRise
  repeat' (first
    | with_reducible assumption
    | exact Cover.sub hm rfl
    | exact Cover.bit hm rfl
    | exact Cover.bit hm (by dsimp only [Fld.block]; rfl)
    | (extract_lets -underBinder +onlyGivenNames x; refine (fun (hx : Good M s0 q x) => ?_) ?_; (on_goal 1 => try clear_value x); (on_goal 2 => subst x))
    | (extract_lets -underBinder +onlyGivenNames x; try clear_value x)
    | intro x
    | (simp only [good_mk_iff]; refine GoodParts.of (?_ : Good M s0 q _) rfl rfl rfl rfl)
    | with_reducible apply good_ev
    | with_reducible apply good_w
    | with_reducible apply good_asyncEvent
    | with_reducible apply good_foldS
    | with_reducible apply good_ite)

theorem good_nsmShow {s1 : State} (h1 : Good M s0 q s1) (a2) (hm : Cover 0x1400000C000000100004020040 M) : Good M s0 q (State.nsmShow s1 a2) := by
  unfold State.nsmShow
  repeat' (first
    | with_reducible assumption
    | exact Cover.sub hm rfl
    | exact Cover.bit hm rfl
    | exact Cover.bit hm (by dsimp only [Fld.block]; rfl)
    | (extract_lets -underBinder +onlyGivenNames x; refine (fun (hx : Good M s0 q x) => ?_) ?_; (on_goal 1 => try clear_value x); (on_goal 2 => subst x))
    | (extract_lets -underBinder +onlyGivenNames x; try clear_value x)
    | intro x
    | (simp only [good_mk_iff]; refine GoodParts.of (?_ : Good M s0 q _) rfl rfl rfl rfl)
    | with_reducible apply good_ev
    | with_reducible apply good_wb
    | with_reducible apply good_w
    | with_reducible apply good_setCd
    | with_reducible apply good_anaRise
    | with_reducible apply good_foldS
    | with_reducible apply good_ite
    | split)

theorem good_recordWrite {s1 : State} (h1 : Good M s0 q s1) (a2) (a3) (hm : Cover 0xCC000000000000001C0010280040 M := by first | assumption | exact Cover.sub (by assumption) rfl) : Good M s0 q (State.recordWrite s1 a2 a3) := by
  unfold State.recordWrite
  repeat' (first
    | with_reducible assumption
    | exact Cover.sub hm rfl
    | exact Cover.bit hm rfl
    | exact Cover.bit hm (by dsimp only [Fld.block]; rfl)
    | (extract_lets -underBinder +onlyGivenNames x; refine (fun (hx : Good M s0 q x) => ?_) ?_; (on_goal 1 => try clear_value x); (on_goal 2 => subst x))
    | (extract_lets -underBinder +onlyGivenNames x; try clear_value x)
    | intro x
    | with_reducible apply good_setGrp
    | with_reducible apply good_grpBump
    | with_reducible apply good_drvIssue
    | with_reducible apply good_ite
    | split)

theorem good_startRepairs {s1 : State} (h1 : Good M s0 q s1) (a2) (a3) (hm : Cover 0xCC000000000000001C0010280040 M) : Good M s0 q (State.startRepairs s1 a2 a3) := by
  unfold State.startRepairs
  repeat' (first
    | with_reducible assumption
    | exact Cover.sub hm rfl
    | exact Cover.bit hm rfl
    | exact Cover.bit hm (by dsimp only [Fld.block]; rfl)
    | (extract_lets -underBinder +onlyGivenNames x; refine (fun (hx : Good M s0 q x) => ?_) ?_; (on_goal 1 => try clear_value x); (on_goal 2 => subst x))
    | (extract_lets -underBinder +onlyGivenNames x; try clear_value x)
    | intro x
    | (simp only [good_mk_iff]; refine GoodParts.of (?_ : Good M s0 q _) rfl rfl rfl rfl)
    | with_reducible apply good_setGrp
    | with_reducible apply good_grpBump
    | with_reducible apply good_drvIssue
    | with_reducible apply good_foldS
    | with_reducible apply good_ite)

theorem good_unlock {s1 : State} (h1 : Good M s0 q s1) (a2) (a3) (a4) (hm : Cover 0xCC000000000000001C0010280040 M) : Good M s0 q (State.unlock s1 a2 a3 a4) := by
  unfold State.unlock
  repeat' (first
    | with_reducible assumption
    | exact Cover.sub hm rfl
    | exact Cover.bit hm rfl
    | exact Cover.bit hm (by dsimp only [Fld.block]; rfl)
    | (extract_lets -underBinder +onlyGivenNames x; try clear_value x)
    | intro x
    | (simp only [good_mk_iff]; refine GoodParts.of (?_ : Good M s0 q _) rfl rfl rfl rfl)
    | with_reducible apply good_startRepairs
    | with_reducible apply good_setGrp)

theorem good_repair {s1 : State} (h1 : Good M s0 q s1) (a2) (a3) (a4) (a5) (a6) (a7) (hm : Cover 0xCC000000000000001C0010280040 M) : Good M s0 q (State.repair s1 a2 a3 a4 a5 a6 a7) := by
  unfold State.repair
  repeat' (first
    | with_reducible assumption
    | exact Cover.sub hm rfl
    | exact Cover.bit hm rfl
    | exact Cover.bit hm (by dsimp only [Fld.block]; rfl)
    | (extract_lets -underBinder +onlyGivenNames x; try clear_value x)
    | intro x
    | with_reducible apply good_startRepairs
    | with_reducible apply good_setGrp)

theorem good_groupFails {s1 : State} (h1 : Good M s0 q s1) (a2) (a3) (hm : Cover 0xCD5C00000C0000001C00142E0060 M) : Good M s0 q (State.groupFails s1 a2 a3) := by
  unfold State.groupFails
  repeat' (first
    | with_reducible assumption
    | exact Cover.sub hm rfl
    | exact Cover.bit hm rfl
    | exact Cover.bit hm (by dsimp only [Fld.block]; rfl)
    | (extract_lets -underBinder +onlyGivenNames x; refine (fun (hx : Good M s0 q x) => ?_) ?_; (on_goal 1 => try clear_value x); (on_goal 2 => subst x))
    | (extract_lets -underBinder +onlyGivenNames x; try clear_value x)
    | intro x
    | (simp only [good_mk_iff]; refine GoodParts.of (?_ : Good M s0 q _) rfl rfl rfl rfl)
    | with_reducible apply good_disown
    | with_reducible apply good_setGrp
    | with_reducible apply good_logEv
    | with_reducible apply good_ev
    | with_reducible apply good_setSp
    | with_reducible apply good_deferRange
    | with_reducible apply good_grpBump
    | with_reducible apply good_nsmShow
    | with_reducible apply good_recordWrite
    | with_reducible apply good_foldS)

theorem good_ledShow {s1 : State} (h1 : Good M s0 q s1) (a2) (a3) (hm : Cover 0x4000000000000000000000000000 M) : Good M s0 q (State.ledShow s1 a2 a3) := by
  unfold State.ledShow
  repeat' (first
    | with_reducible assumption
    | exact Cover.sub hm rfl
    | exact Cover.bit hm rfl
    | exact Cover.bit hm (by dsimp only [Fld.block]; rfl)
    | (extract_lets -underBinder +onlyGivenNames x; try clear_value x)
    | intro x
    | with_reducible apply good_w)

theorem good_ledsShow {s1 : State} (h1 : Good M s0 q s1) (a2) (hm : Cover 0x4000000000000000000000000000 M) : Good M s0 q (State.ledsShow s1 a2) := by
  unfold State.ledsShow
  repeat' (first
    | with_reducible assumption
    | exact Cover.sub hm rfl
    | exact Cover.bit hm rfl
    | exact Cover.bit hm (by dsimp only [Fld.block]; rfl)
    | (extract_lets -underBinder +onlyGivenNames x; try clear_value x)
    | intro x
    | with_reducible apply good_ledShow
    | with_reducible apply good_foldS)

theorem good_posOut {s1 : State} (h1 : Good M s0 q s1) (a2) (a3) (a4) (a5) (hm : Cover 0xCD5C00000C0000001C00142E0060 M) : Good M s0 q (State.posOut s1 a2 a3 a4 a5) := by
  unfold State.posOut
  repeat' (first
    | with_reducible assumption
    | exact Cover.sub hm rfl
    | exact Cover.bit hm rfl
    | exact Cover.bit hm (by dsimp only [Fld.block]; rfl)
    | (extract_lets -underBinder +onlyGivenNames x; refine (fun (hx : Good M s0 q x) => ?_) ?_; (on_goal 1 => try clear_value x); (on_goal 2 => subst x))
    | (extract_lets -underBinder +onlyGivenNames x; try clear_value x)
    | intro x
    | with_reducible apply good_setGrp
    | with_reducible apply good_disown
    | with_reducible apply good_unlock
    | with_reducible apply good_logEv
    | with_reducible apply good_ev
    | with_reducible apply good_groupFails
    | with_reducible apply good_recordWrite
    | with_reducible apply good_chanShow
    | with_reducible apply good_ledsShow
    | with_reducible apply good_ite)

theorem good_writeSb {s1 : State} (h1 : Good M s0 q s1) (a2) (a3) (a4) (a5) (a6) (a7) (hm : Cover 0xC0000000000000001C0010200042 M) : Good M s0 q (State.writeSb s1 a2 a3 a4 a5 a6 a7) := by
  unfold State.writeSb
  repeat' (first
    | with_reducible assumption
    | exact Cover.sub hm rfl
    | exact Cover.bit hm rfl
    | exact Cover.bit hm (by dsimp only [Fld.block]; rfl)
    | (extract_lets -underBinder +onlyGivenNames x; refine (fun (hx : Good M s0 q x) => ?_) ?_; (on_goal 1 => try clear_value x); (on_goal 2 => subst x))
    | (extract_lets -underBinder +onlyGivenNames x; try clear_value x)
    | intro x
    | (simp only [good_mk_iff]; refine GoodParts.of (?_ : Good M s0 q _) rfl rfl rfl rfl)
    | with_reducible apply good_drvIssue
    | with_reducible apply good_setDrive
    | with_reducible apply good_ite)

theorem good_showSb {s1 : State} (h1 : Good M s0 q s1) (a2) (a3) (a4) (hm : Cover 0x4000000000000000000000000000 M) : Good M s0 q (State.showSb s1 a2 a3 a4) := by
  unfold State.showSb
  repeat' (first
    | with_reducible assumption
    | exact Cover.sub hm rfl
    | exact Cover.bit hm rfl
    | exact Cover.bit hm (by dsimp only [Fld.block]; rfl)
    | (extract_lets -underBinder +onlyGivenNames x; refine (fun (hx : Good M s0 q x) => ?_) ?_; (on_goal 1 => try clear_value x); (on_goal 2 => subst x))
    | (extract_lets -underBinder +onlyGivenNames x; try clear_value x)
    | intro x
    | with_reducible apply good_w)

theorem good_sbDone {s1 : State} (h1 : Good M s0 q s1) (a2) (a3) (a4) (hm : Cover 0x4000000000000000000000200000 M) : Good M s0 q (State.sbDone s1 a2 a3 a4) := by
  unfold State.sbDone
  repeat' (first
    | with_reducible assumption
    | exact Cover.sub hm rfl
    | exact Cover.bit hm rfl
    | exact Cover.bit hm (by dsimp only [Fld.block]; rfl)
    | (extract_lets -underBinder +onlyGivenNames x; refine (fun (hx : Good M s0 q x) => ?_) ?_; (on_goal 1 => try clear_value x); (on_goal 2 => subst x))
    | (extract_lets -underBinder +onlyGivenNames x; try clear_value x)
    | intro x
    | (simp only [good_mk_iff]; refine GoodParts.of (?_ : Good M s0 q _) rfl rfl rfl rfl)
    | with_reducible apply good_setDrive
    | with_reducible apply good_showSb
    | with_reducible apply good_ite
    | split)

theorem good_takeTarget {s1 : State} (h1 : Good M s0 q s1) (a2) (a3) (a4) (a5) (a6) (hm : Cover 0xCC1400000C0000001C00142A0042 M) : Good M s0 q (State.takeTarget s1 a2 a3 a4 a5 a6) := by
  unfold State.takeTarget
  repeat' (first
    | with_reducible assumption
    | exact Cover.sub hm rfl
    | exact Cover.bit hm rfl
    | exact Cover.bit hm (by dsimp only [Fld.block]; rfl)
    | (extract_lets -underBinder +onlyGivenNames x; refine (fun (hx : Good M s0 q x) => ?_) ?_; (on_goal 1 => try clear_value x); (on_goal 2 => subst x))
    | (extract_lets -underBinder +onlyGivenNames x; try clear_value x)
    | intro x
    | with_reducible apply good_ev
    | with_reducible apply good_ledsShow
    | with_reducible apply good_setGrp
    | with_reducible apply good_writeSb
    | with_reducible apply good_nsmShow
    | with_reducible apply good_chanShow
    | with_reducible apply good_recordWrite
    | with_reducible apply good_w
    | with_reducible apply good_ite)

theorem good_takeSpare {s1 : State} (h1 : Good M s0 q s1) (a2) (a3) (a4) (hm : Cover 0xCC1400000C0000001C00142A0042 M) : Good M s0 q (State.takeSpare s1 a2 a3 a4) := by
  unfold State.takeSpare
  repeat' (first
    | with_reducible assumption
    | exact Cover.sub hm rfl
    | exact Cover.bit hm rfl
    | exact Cover.bit hm (by dsimp only [Fld.block]; rfl)
    | intro x
    | with_reducible apply good_takeTarget
    | with_reducible apply good_ite
    | split)

theorem good_markRegions {s1 : State} (h1 : Good M s0 q s1) (a2) (a3) (a4) (hm : Cover 0xCC000000000000001C0010280040 M) : Good M s0 q (State.markRegions s1 a2 a3 a4) := by
  unfold State.markRegions
  repeat' (first
    | with_reducible assumption
    | exact Cover.sub hm rfl
    | exact Cover.bit hm rfl
    | exact Cover.bit hm (by dsimp only [Fld.block]; rfl)
    | (extract_lets -underBinder +onlyGivenNames x; refine (fun (hx : Good M s0 q x) => ?_) ?_; (on_goal 1 => try clear_value x); (on_goal 2 => subst x))
    | (extract_lets -underBinder +onlyGivenNames x; try clear_value x)
    | intro x
    | with_reducible apply good_setGrp
    | with_reducible apply good_recordWrite
    | with_reducible apply good_ite)

theorem good_addBad {s1 : State} (h1 : Good M s0 q s1) (a2) (a3) (a4) (a5) (a6) (hm : Cover 0xCC000000000000001C0010280060 M) : Good M s0 q (State.addBad s1 a2 a3 a4 a5 a6) := by
  unfold State.addBad
  repeat' (first
    | with_reducible assumption
    | exact Cover.sub hm rfl
    | exact Cover.bit hm rfl
    | exact Cover.bit hm (by dsimp only [Fld.block]; rfl)
    | (extract_lets -underBinder +onlyGivenNames x; refine (fun (hx : Good M s0 q x) => ?_) ?_; (on_goal 1 => try clear_value x); (on_goal 2 => subst x))
    | (extract_lets -underBinder +onlyGivenNames x; try clear_value x)
    | intro x
    | (simp only [good_mk_iff]; refine GoodParts.of (?_ : Good M s0 q _) rfl rfl rfl rfl)
    | with_reducible apply good_setGrp
    | with_reducible apply good_ev
    | with_reducible apply good_recordWrite
    | with_reducible apply good_logEv
    | with_reducible apply good_grpBump
    | with_reducible apply good_ite
    | split)

theorem good_cipBump {s1 : State} (h1 : Good M s0 q s1) (a2) (a3) (a4) (hm : Cover 0x30000000000000000100000000040 M) : Good M s0 q (State.cipBump s1 a2 a3 a4) := by
  unfold State.cipBump
  repeat' (first
    | with_reducible assumption
    | exact Cover.sub hm rfl
    | exact Cover.bit hm rfl
    | exact Cover.bit hm (by dsimp only [Fld.block]; rfl)
    | intro x
    | with_reducible apply good_bump)

end Sys2Proof.Machine
end

