-- ==== Sys2Proof/Laws/CmdOps.lean ====
section
/-! SUPPORT. What the operations of Machine/CmdOps.lean keep (see Laws/Keep.lean), one lemma for each. -/

set_option Elab.async false

set_option linter.all false

namespace Sys2Proof.Machine

variable {M : Nat} {s0 : State} {q : Prop}

theorem good_dropRegion {s1 : State} (h1 : Good M s0 q s1) (a2) (a3) (hm : Cover 0x5000000000000000000030040 M := by first | assumption | exact Cover.sub (by assumption) rfl) : Good M s0 q (State.dropRegion s1 a2 a3) := by
  unfold State.dropRegion
  repeat' (first
    | with_reducible assumption
    | exact Cover.sub hm rfl
    | exact Cover.bit hm rfl
    | exact Cover.bit hm (by dsimp only [Fld.block]; rfl)
    | (extract_lets -underBinder +onlyGivenNames x; refine (fun (hx : Good M s0 q x) => ?_) ?_; (on_goal 1 => try clear_value x); (on_goal 2 => subst x))
    | (extract_lets -underBinder +onlyGivenNames x; try clear_value x)
    | intro x
    | (simp only [good_mk_iff]; refine GoodParts.of (?_ : Good M s0 q _) rfl rfl rfl rfl)
    | with_reducible apply good_setSlot
    | with_reducible apply good_revokeIfDone
    | with_reducible apply good_setRegion
    | with_reducible apply good_ite
    | split)

theorem good_unreserve {s1 : State} (h1 : Good M s0 q s1) (a2) (a3) (hm : Cover 0x144000000000000000000060000 M) : Good M s0 q (State.unreserve s1 a2 a3) := by
  unfold State.unreserve
  repeat' (first
    | with_reducible assumption
    | exact Cover.sub hm rfl
    | exact Cover.bit hm rfl
    | exact Cover.bit hm (by dsimp only [Fld.block]; rfl)
    | (extract_lets -underBinder +onlyGivenNames x; try clear_value x)
    | intro x
    | with_reducible apply good_setSlot
    | with_reducible apply good_setSp)

theorem good_errLogged {s1 : State} (h1 : Good M s0 q s1) (a2) (a3) (a4) (hm : Cover 0x20000 M) : Good M s0 q (State.errLogged s1 a2 a3 a4) := by
  unfold State.errLogged
  repeat' (first
    | with_reducible assumption
    | exact Cover.sub hm rfl
    | exact Cover.bit hm rfl
    | exact Cover.bit hm (by dsimp only [Fld.block]; rfl)
    | (extract_lets -underBinder +onlyGivenNames x; try clear_value x)
    | intro x
    | (simp only [good_mk_iff]; refine GoodParts.of (?_ : Good M s0 q _) rfl rfl rfl rfl)
    | with_reducible apply good_setCtrl
    | with_reducible apply good_ite
    | split)

theorem good_unitsMoved {s1 : State} (h1 : Good M s0 q s1) (a2) (a3) (a4) (a5) (hm : Cover 0x20000 M := by first | assumption | exact Cover.sub (by assumption) rfl) : Good M s0 q (State.unitsMoved s1 a2 a3 a4 a5) := by
  unfold State.unitsMoved
  repeat' (first
    | with_reducible assumption
    | exact Cover.sub hm rfl
    | exact Cover.bit hm rfl
    | exact Cover.bit hm (by dsimp only [Fld.block]; rfl)
    | (extract_lets -underBinder +onlyGivenNames x; try clear_value x)
    | intro x
    | with_reducible apply good_setCtrl
    | with_reducible apply good_ite
    | split)

theorem good_completeOnly {s1 : State} (h1 : Good M s0 q s1) (a2) (a3) (a4) (a5) (a6) (hm : Cover 0x14F000000000000100000070040 M) : Good M s0 q (State.completeOnly s1 a2 a3 a4 a5 a6) := by
  unfold State.completeOnly
  repeat' (first
    | with_reducible assumption
    | exact Cover.sub hm rfl
    | exact Cover.bit hm rfl
    | exact Cover.bit hm (by dsimp only [Fld.block]; rfl)
    | (extract_lets -underBinder +onlyGivenNames x; refine (fun (hx : Good M s0 q x) => ?_) ?_; (on_goal 1 => try clear_value x); (on_goal 2 => subst x))
    | (extract_lets -underBinder +onlyGivenNames x; try clear_value x)
    | intro x
    | with_reducible apply good_errLogged
    | with_reducible apply good_cmdBump
    | with_reducible apply good_unreserve
    | with_reducible apply good_dropRegion
    | with_reducible apply good_setSlot
    | with_reducible apply good_setChain
    | with_reducible apply good_chainTrigger
    | with_reducible apply good_ite)

theorem good_settle {s1 : State} (h1 : Good M s0 q s1) (a2) (a3) (hm : Cover 0x14F000000000000100000070040 M := by first | assumption | exact Cover.sub (by assumption) rfl) : Good M s0 q (State.settle s1 a2 a3) := by
  unfold State.settle
  repeat' (first
    | with_reducible assumption
    | exact Cover.sub hm rfl
    | exact Cover.bit hm rfl
    | exact Cover.bit hm (by dsimp only [Fld.block]; rfl)
    | (extract_lets -underBinder +onlyGivenNames x; refine (fun (hx : Good M s0 q x) => ?_) ?_; (on_goal 1 => try clear_value x); (on_goal 2 => subst x))
    | (extract_lets -underBinder +onlyGivenNames x; try clear_value x)
    | intro x
    | with_reducible apply good_setSlot
    | with_reducible apply good_completeOnly
    | with_reducible apply good_foldS
    | with_reducible apply good_ite)

theorem good_completeWith {s1 : State} (h1 : Good M s0 q s1) (a2) (a3) (a4) (a5) (a6) (hm : Cover 0x14F000000000000100000070040 M) : Good M s0 q (State.completeWith s1 a2 a3 a4 a5 a6) := by
  unfold State.completeWith
  repeat' (first
    | with_reducible assumption
    | exact Cover.sub hm rfl
    | exact Cover.bit hm rfl
    | exact Cover.bit hm (by dsimp only [Fld.block]; rfl)
    | (extract_lets -underBinder +onlyGivenNames x; try clear_value x)
    | intro x
    | with_reducible apply good_completeOnly
    | with_reducible apply good_foldS)

theorem good_raise {s1 : State} (h1 : Good M s0 q s1) (a2) (a3) (a4) (a5) (hm : Cover 0x14F000000000000100000070040 M := by first | assumption | exact Cover.sub (by assumption) rfl) : Good M s0 q (State.raise s1 a2 a3 a4 a5) := by
  unfold State.raise
  repeat' (first
    | with_reducible assumption
    | exact Cover.sub hm rfl
    | exact Cover.bit hm rfl
    | exact Cover.bit hm (by dsimp only [Fld.block]; rfl)
    | (extract_lets -underBinder +onlyGivenNames x; try clear_value x)
    | intro x
    | with_reducible apply good_settle
    | with_reducible apply good_chainTrigger)

theorem good_armFor {s1 : State} (h1 : Good M s0 q s1) (a2) (a3) (a4) (a5) (a6) (hm : Cover 0x10000 M) : Good M s0 q (State.armFor s1 a2 a3 a4 a5 a6) := by
  unfold State.armFor
  repeat' (first
    | with_reducible assumption
    | exact Cover.sub hm rfl
    | exact Cover.bit hm rfl
    | exact Cover.bit hm (by dsimp only [Fld.block]; rfl)
    | intro x
    | with_reducible apply good_setChain)

theorem good_keyChain {s1 : State} (h1 : Good M s0 q s1) (a2) (a3) (a4) (hm : Cover 0x10000 M := by first | assumption | exact Cover.sub (by assumption) rfl) : Good M s0 q (State.keyChain s1 a2 a3 a4) := by
  unfold State.keyChain
  repeat' (first
    | with_reducible assumption
    | exact Cover.sub hm rfl
    | exact Cover.bit hm rfl
    | exact Cover.bit hm (by dsimp only [Fld.block]; rfl)
    | (extract_lets -underBinder +onlyGivenNames x; try clear_value x)
    | intro x
    | with_reducible apply good_setChain)

theorem good_admitCommand {s1 : State} (h1 : Good M s0 q s1) (a2) (a3) (a4) (a5) (a6) (a7) (hm : Cover 0x14F000000000000100000070040 M) : Good M s0 q (State.admitCommand s1 a2 a3 a4 a5 a6 a7) := by
  unfold State.admitCommand
  repeat' (first
    | with_reducible assumption
    | exact Cover.sub hm rfl
    | exact Cover.bit hm rfl
    | exact Cover.bit hm (by dsimp only [Fld.block]; rfl)
    | (extract_lets -underBinder +onlyGivenNames x; refine (fun (hx : Good M s0 q x) => ?_) ?_; (on_goal 1 => try clear_value x); (on_goal 2 => subst x))
    | (extract_lets -underBinder +onlyGivenNames x; try clear_value x)
    | intro x
    | (simp only [good_mk_iff]; refine GoodParts.of (?_ : Good M s0 q _) rfl rfl rfl rfl)
    | with_reducible apply good_cmdBump
    | with_reducible apply good_setSlot
    | with_reducible apply good_setCd
    | with_reducible apply good_completeWith
    | with_reducible apply good_ev
    | with_reducible apply good_freeSlot
    | with_reducible apply good_holdOver
    | with_reducible apply good_setRegion
    | with_reducible apply good_armFor
    | with_reducible apply good_ite
    | split)

theorem good_reserveSpace {s1 : State} (h1 : Good M s0 q s1) (a2) (a3) (a4) (hm : Cover 0x1C4000000000000100000060040 M) : Good M s0 q (State.reserveSpace s1 a2 a3 a4) := by
  unfold State.reserveSpace
  repeat' (first
    | with_reducible assumption
    | exact Cover.sub hm rfl
    | exact Cover.bit hm rfl
    | exact Cover.bit hm (by dsimp only [Fld.block]; rfl)
    | (extract_lets -underBinder +onlyGivenNames x; refine (fun (hx : Good M s0 q x) => ?_) ?_; (on_goal 1 => try clear_value x); (on_goal 2 => subst x))
    | (extract_lets -underBinder +onlyGivenNames x; try clear_value x)
    | intro x
    | with_reducible apply good_spgBump
    | with_reducible apply good_ev
    | with_reducible apply good_setSp
    | with_reducible apply good_setSlot
    | with_reducible apply good_ite)

theorem good_committed {s1 : State} (h1 : Good M s0 q s1) (a2) (a3) (a4) (a5) (hm : Cover 0xC0140000000000001C0010220040 M := by first | assumption | exact Cover.sub (by assumption) rfl) : Good M s0 q (State.committed s1 a2 a3 a4 a5) := by
  unfold State.committed
  repeat' (first
    | with_reducible assumption
    | exact Cover.sub hm rfl
    | exact Cover.bit hm rfl
    | exact Cover.bit hm (by dsimp only [Fld.block]; rfl)
    | (extract_lets -underBinder +onlyGivenNames x; try clear_value x)
    | intro x
    | with_reducible apply good_w
    | with_reducible apply good_deferClear)

theorem good_carryData {s1 : State} (h1 : Good M s0 q s1) (a2) (a3) (a4) (hm : Cover 0x300030000000000000000100000800040 M := by first | assumption | exact Cover.sub (by assumption) rfl) : Good M s0 q (State.carryData s1 a2 a3 a4) := by
  unfold State.carryData
  repeat' (first
    | with_reducible assumption
    | exact Cover.sub hm rfl
    | exact Cover.bit hm rfl
    | exact Cover.bit hm (by dsimp only [Fld.block]; rfl)
    | (extract_lets -underBinder +onlyGivenNames x; try clear_value x)
    | intro x
    | with_reducible apply good_sendPartner
    | with_reducible apply good_pairBump
    | with_reducible apply good_foldS
    | with_reducible apply good_ite)

theorem good_tryCommit {s1 : State} (h1 : Good M s0 q s1) (a2) (a3) (hm : Cover 0x30003CDDF0000000000001C0010A70040 M := by first | assumption | exact Cover.sub (by assumption) rfl) :
    Good M s0 q (State.tryCommit s1 a2 a3) := by
  unfold State.tryCommit
  extract_lets -underBinder x slot rs g seq before y last slot2 z w failed v slot3
  have hx : Good M s0 q x := good_purgeRanges h1 _
  have hy : Good M s0 q y := by
    subst y
    split
    · exact good_unitsMoved (good_cmdBump (good_committed (good_commitBlocks (good_setSp (good_carryData (good_writeCrumb hx _ _) _ _ _)
        _ _) _ _ _ _) _ _ _ _) _ _ _) _ _ _ _
    · exact good_committed (good_commitRange (good_writeCrumb hx _ _) _ _) _ _ _ _
    · exact good_foldS (fun t e ht => good_committed (good_commitRange (good_writeCrumb ht _ _) _ _) _ _ _ _) hx
  have hw : Good M s0 q w := good_keyChain (good_dropRegion (good_setSlot hy _ _ _) _ _) _ _ _
  have hv : Good M s0 q v := good_raise hw _ _ _ _
  refine good_ite hx (good_ite hx (good_ite (good_grpBump hx _ _ _) (good_ite (good_spgBump hx _ _ _) ?_)))
  clear_value v
  exact good_ite (good_settle (good_orphan (good_setSlot hv _ _ _) _ _) _ _) hv

theorem good_memberReads {s1 : State} (h1 : Good M s0 q s1) (a2) (a3) (a4) (hm : Cover 0xC00000000000000100000080040 M) : Good M s0 q (State.memberReads s1 a2 a3 a4) := by
  unfold State.memberReads
  repeat' (first
    | with_reducible assumption
    | exact Cover.sub hm rfl
    | exact Cover.bit hm rfl
    | exact Cover.bit hm (by dsimp only [Fld.block]; rfl)
    | (extract_lets -underBinder +onlyGivenNames x; try clear_value x)
    | intro x
    | with_reducible apply good_grpBump
    | with_reducible apply good_setGrp)

theorem good_readSources {s1 : State} (h1 : Good M s0 q s1) (a2) (a3) (a4) (a5) (a6) (a7) (hm : Cover 0xCC000000000000001C0010280040 M) : Good M s0 q (State.readSources s1 a2 a3 a4 a5 a6 a7) := by
  unfold State.readSources
  repeat' (first
    | with_reducible assumption
    | exact Cover.sub hm rfl
    | exact Cover.bit hm rfl
    | exact Cover.bit hm (by dsimp only [Fld.block]; rfl)
    | (extract_lets -underBinder +onlyGivenNames x; try clear_value x)
    | intro x
    | with_reducible apply good_memberReads
    | with_reducible apply good_drvIssue
    | with_reducible apply good_foldS)

theorem good_dropReads {s1 : State} (h1 : Good M s0 q s1) (a2) (a3) (hm : Cover 0x300000 M) : Good M s0 q (State.dropReads s1 a2 a3) := by
  unfold State.dropReads
  repeat' (first
    | with_reducible assumption
    | exact Cover.sub hm rfl
    | exact Cover.bit hm rfl
    | exact Cover.bit hm (by dsimp only [Fld.block]; rfl)
    | (extract_lets -underBinder +onlyGivenNames x; refine (fun (hx : Good M s0 q x) => ?_) ?_; (on_goal 1 => try clear_value x); (on_goal 2 => subst x))
    | (extract_lets -underBinder +onlyGivenNames x; try clear_value x)
    | intro x
    | (simp only [good_mk_iff]; refine GoodParts.of (?_ : Good M s0 q _) rfl rfl rfl rfl)
    | with_reducible apply good_disown)

theorem good_readDone {s1 : State} (h1 : Good M s0 q s1) (a2) (a3) (a4) (a5) (hm : Cover 0x14F000000000000100000070040 M) : Good M s0 q (State.readDone s1 a2 a3 a4 a5) := by
  unfold State.readDone
  repeat' (first
    | with_reducible assumption
    | exact Cover.sub hm rfl
    | exact Cover.bit hm rfl
    | exact Cover.bit hm (by dsimp only [Fld.block]; rfl)
    | (extract_lets -underBinder +onlyGivenNames x; try clear_value x)
    | intro x
    | with_reducible apply good_settle
    | with_reducible apply good_orphan
    | with_reducible apply good_setSlot
    | with_reducible apply good_raise
    | with_reducible apply good_ite)

theorem good_readFails {s1 : State} (h1 : Good M s0 q s1) (a2) (a3) (hm : Cover 0x14F000000000000100000370040 M) : Good M s0 q (State.readFails s1 a2 a3) := by
  unfold State.readFails
  repeat' (first
    | with_reducible assumption
    | exact Cover.sub hm rfl
    | exact Cover.bit hm rfl
    | exact Cover.bit hm (by dsimp only [Fld.block]; rfl)
    | (extract_lets -underBinder +onlyGivenNames x; refine (fun (hx : Good M s0 q x) => ?_) ?_; (on_goal 1 => try clear_value x); (on_goal 2 => subst x))
    | (extract_lets -underBinder +onlyGivenNames x; try clear_value x)
    | intro x
    | with_reducible apply good_dropReads
    | with_reducible apply good_chainFailed
    | with_reducible apply good_completeWith
    | with_reducible apply good_ite)

theorem good_blockArrives {s1 : State} (h1 : Good M s0 q s1) (a2) (a3) (a4) (a5) (hm : Cover 0x4000000000000000000020000 M) : Good M s0 q (State.blockArrives s1 a2 a3 a4 a5) := by
  unfold State.blockArrives
  repeat' (first
    | with_reducible assumption
    | exact Cover.sub hm rfl
    | exact Cover.bit hm rfl
    | exact Cover.bit hm (by dsimp only [Fld.block]; rfl)
    | (extract_lets -underBinder +onlyGivenNames x; try clear_value x)
    | intro x
    | with_reducible apply good_setSlot)

theorem good_readUnit {s1 : State} (h1 : Good M s0 q s1) (a2) (a3) (a4) (a5) (a6) (hm : Cover 0xCD4F0000000000001C00103F0060 M) : Good M s0 q (State.readUnit s1 a2 a3 a4 a5 a6) := by
  unfold State.readUnit
  repeat' (first
    | with_reducible assumption
    | exact Cover.sub hm rfl
    | exact Cover.bit hm rfl
    | exact Cover.bit hm (by dsimp only [Fld.block]; rfl)
    | (extract_lets -underBinder +onlyGivenNames x; refine (fun (hx : Good M s0 q x) => ?_) ?_; (on_goal 1 => try clear_value x); (on_goal 2 => subst x))
    | (extract_lets -underBinder +onlyGivenNames x; try clear_value x)
    | intro x
    | (simp only [good_mk_iff]; refine GoodParts.of (?_ : Good M s0 q _) rfl rfl rfl rfl)
    | with_reducible apply good_readSources
    | with_reducible apply good_readFails
    | with_reducible apply good_addBad
    | with_reducible apply good_grpBump
    | with_reducible apply good_setGrp
    | with_reducible apply good_ite
    | split)

theorem good_readBlock {s1 : State} (h1 : Good M s0 q s1) (a2) (a3) (a4) (hm : Cover 0x3FD4F0000000000001C00103F0060 M) : Good M s0 q (State.readBlock s1 a2 a3 a4) := by
  unfold State.readBlock
  repeat' (first
    | with_reducible assumption
    | exact Cover.sub hm rfl
    | exact Cover.bit hm rfl
    | exact Cover.bit hm (by dsimp only [Fld.block]; rfl)
    | (extract_lets -underBinder +onlyGivenNames x; try clear_value x)
    | intro x
    | (simp only [good_mk_iff]; refine GoodParts.of (?_ : Good M s0 q _) rfl rfl rfl rfl)
    | with_reducible apply good_blockArrives
    | with_reducible apply good_cipBump
    | with_reducible apply good_bump
    | with_reducible apply good_readFails
    | with_reducible apply good_grpBump
    | with_reducible apply good_readUnit
    | with_reducible apply good_ite)

theorem good_startRead {s1 : State} (h1 : Good M s0 q s1) (a2) (a3) (hm : Cover 0x30003FDCF0000000000001C0010BF0060 M) : Good M s0 q (State.startRead s1 a2 a3) := by
  unfold State.startRead
  repeat' (first
    | with_reducible assumption
    | exact Cover.sub hm rfl
    | exact Cover.bit hm rfl
    | exact Cover.bit hm (by dsimp only [Fld.block]; rfl)
    | (extract_lets -underBinder +onlyGivenNames x; refine (fun (hx : Good M s0 q x) => ?_) ?_; (on_goal 1 => try clear_value x); (on_goal 2 => subst x))
    | (extract_lets -underBinder +onlyGivenNames x; try clear_value x)
    | intro x
    | (simp only [good_mk_iff]; refine GoodParts.of (?_ : Good M s0 q _) rfl rfl rfl rfl)
    | with_reducible apply good_spgBump
    | with_reducible apply good_setSlot
    | with_reducible apply good_completeWith
    | with_reducible apply good_cmdBump
    | with_reducible apply good_writeCrumb
    | with_reducible apply good_mapIndex
    | with_reducible apply good_unitsMoved
    | with_reducible apply good_keyChain
    | with_reducible apply good_readFails
    | with_reducible apply good_ev
    | with_reducible apply good_cipBump
    | with_reducible apply good_memberReads
    | with_reducible apply good_drvIssue
    | with_reducible apply good_setChain
    | with_reducible apply good_readBlock
    | with_reducible apply good_foldS
    | with_reducible apply good_ite
    | split)

theorem good_abortSlot {s1 : State} (h1 : Good M s0 q s1) (a2) (a3) (hm : Cover 0x3000301CF000000000000100000B70040 M) : Good M s0 q (State.abortSlot s1 a2 a3).1 := by
  unfold State.abortSlot
  repeat' (first
    | with_reducible assumption
    | exact Cover.sub hm rfl
    | exact Cover.bit hm rfl
    | exact Cover.bit hm (by dsimp only [Fld.block]; rfl)
    | (extract_lets -underBinder +onlyGivenNames x; refine (fun (hx : Good M s0 q x) => ?_) ?_; (on_goal 1 => try clear_value x); (on_goal 2 => subst x))
    | (extract_lets -underBinder +onlyGivenNames x; try clear_value x)
    | intro x
    | (simp only [good_mk_iff]; refine GoodParts.of (?_ : Good M s0 q _) rfl rfl rfl rfl)
    | with_reducible apply good_dropReads
    | with_reducible apply good_setSlot
    | with_reducible apply good_writeCrumb
    | with_reducible apply good_completeWith
    | split)

theorem good_abortSlot_eq {s1 : State} {a2} {a3} {t} {b} (e : State.abortSlot s1 a2 a3 = (t, b)) (h1 : Good M s0 q s1) (hm : Cover 0x3000301CF000000000000100000B70040 M) : Good M s0 q t := by
  have h := good_abortSlot h1 a2 a3 hm
  rw [e] at h
  exact h

end Sys2Proof.Machine
end

