-- ==== Sys2Proof/Laws/EpOps.lean ====
section
/-! SUPPORT. What the operations of Machine/EpOps.lean keep (see Laws/Keep.lean), one lemma for each. -/

set_option Elab.async false

set_option linter.all false

namespace Sys2Proof.Machine

variable {M : Nat} {s0 : State} {q : Prop}

theorem good_epShow {s1 : State} (h1 : Good M s0 q s1) (a2) (hm : Cover 0x4000000000000000000 M) : Good M s0 q (State.epShow s1 a2) := by
  unfold State.epShow
  repeat' (first
    | with_reducible assumption
    | exact Cover.sub hm rfl
    | exact Cover.bit hm rfl
    | exact Cover.bit hm (by dsimp only [Fld.block]; rfl)
    | (extract_lets -underBinder +onlyGivenNames x; try clear_value x)
    | intro x
    | with_reducible apply good_w)

theorem good_landShow {s1 : State} (h1 : Good M s0 q s1) (a2) (hm : Cover 0x4000000000000000000 M) : Good M s0 q (State.landShow s1 a2) := by
  unfold State.landShow
  repeat' (first
    | with_reducible assumption
    | exact Cover.sub hm rfl
    | exact Cover.bit hm rfl
    | exact Cover.bit hm (by dsimp only [Fld.block]; rfl)
    | intro x
    | with_reducible apply good_w)

theorem good_epCfs {s1 : State} (h1 : Good M s0 q s1) (a2) (hm : Cover 0x4000000000000000040 M) : Good M s0 q (State.epCfs s1 a2) := by
  unfold State.epCfs
  repeat' (first
    | with_reducible assumption
    | exact Cover.sub hm rfl
    | exact Cover.bit hm rfl
    | exact Cover.bit hm (by dsimp only [Fld.block]; rfl)
    | (extract_lets -underBinder +onlyGivenNames x; try clear_value x)
    | intro x
    | with_reducible apply good_ev
    | with_reducible apply good_w)

theorem good_landSweep {s1 : State} (h1 : Good M s0 q s1) (hm : Cover 0x4000000000004000000 M) : Good M s0 q (State.landSweep s1) := by
  unfold State.landSweep
  repeat' (first
    | with_reducible assumption
    | exact Cover.sub hm rfl
    | exact Cover.bit hm rfl
    | exact Cover.bit hm (by dsimp only [Fld.block]; rfl)
    | (extract_lets -underBinder +onlyGivenNames x; refine (fun (hx : Good M s0 q x) => ?_) ?_; (on_goal 1 => try clear_value x); (on_goal 2 => subst x))
    | (extract_lets -underBinder +onlyGivenNames x; try clear_value x)
    | intro x
    | with_reducible apply good_setEp
    | with_reducible apply good_landShow
    | with_reducible apply good_foldS)

theorem good_epPost {s1 : State} (h1 : Good M s0 q s1) (a2) (hm : Cover 0xC000000100004000040 M) : Good M s0 q (State.epPost s1 a2) := by
  unfold State.epPost
  repeat' (first
    | with_reducible assumption
    | exact Cover.sub hm rfl
    | exact Cover.bit hm rfl
    | exact Cover.bit hm (by dsimp only [Fld.block]; rfl)
    | (extract_lets -underBinder +onlyGivenNames x; refine (fun (hx : Good M s0 q x) => ?_) ?_; (on_goal 1 => try clear_value x); (on_goal 2 => subst x))
    | (extract_lets -underBinder +onlyGivenNames x; try clear_value x)
    | intro x
    | (simp only [good_mk_iff]; refine GoodParts.of (?_ : Good M s0 q _) rfl rfl rfl rfl)
    | with_reducible apply good_setEp
    | with_reducible apply good_epShow
    | with_reducible apply good_epfBump
    | with_reducible apply good_emit
    | with_reducible apply good_ite
    | split)

theorem good_epLocal {s1 : State} (h1 : Good M s0 q s1) (a2) (a3) (a4) (hm : Cover 0xC000000100004000040 M) : Good M s0 q (State.epLocal s1 a2 a3 a4) := by
  unfold State.epLocal
  repeat' (first
    | with_reducible assumption
    | exact Cover.sub hm rfl
    | exact Cover.bit hm rfl
    | exact Cover.bit hm (by dsimp only [Fld.block]; rfl)
    | (extract_lets -underBinder +onlyGivenNames x; try clear_value x)
    | intro x
    | with_reducible apply good_epPost
    | with_reducible apply good_epfBump)

theorem good_epForward {s1 : State} (h1 : Good M s0 q s1) (a2) (hm : Cover 0x14F00000C000000100004070040 M) : Good M s0 q (State.epForward s1 a2) := by
  unfold State.epForward
  repeat' (first
    | with_reducible assumption
    | exact Cover.sub hm rfl
    | exact Cover.bit hm rfl
    | exact Cover.bit hm (by dsimp only [Fld.block]; rfl)
    | (extract_lets -underBinder +onlyGivenNames x; refine (fun (hx : Good M s0 q x) => ?_) ?_; (on_goal 1 => try clear_value x); (on_goal 2 => subst x))
    | (extract_lets -underBinder +onlyGivenNames x; try clear_value x)
    | intro x
    | with_reducible apply good_setEp
    | with_reducible apply good_admitCommand
    | with_reducible apply good_epfBump)

theorem good_epAdvance {s1 : State} (h1 : Good M s0 q s1) (a2) (a3) (a4) (hm : Cover 0x14F00000C000000100004070040 M) : Good M s0 q (State.epAdvance s1 a2 a3 a4) := by
  unfold State.epAdvance
  repeat' (first
    | with_reducible assumption
    | exact Cover.sub hm rfl
    | exact Cover.bit hm rfl
    | exact Cover.bit hm (by dsimp only [Fld.block]; rfl)
    | (extract_lets -underBinder +onlyGivenNames x; try clear_value x)
    | intro x
    | with_reducible apply good_epForward
    | with_reducible apply good_foldS)

theorem good_epFetchData {s1 : State} (h1 : Good M s0 q s1) (a2) (hm : Cover 0xC000000100004000040 M) : Good M s0 q (State.epFetchData s1 a2) := by
  unfold State.epFetchData
  repeat' (first
    | with_reducible assumption
    | exact Cover.sub hm rfl
    | (extract_lets -underBinder +onlyGivenNames x; refine (fun (hf : ∀ k : State → State, (∀ y, Good M s0 q y → Good M s0 q (k y)) → Good M s0 q (x k)) => ?_) ?_; (on_goal 1 => try clear_value x); (on_goal 2 => subst x))
    | (extract_lets -underBinder +onlyGivenNames x; refine (fun (hf : ∀ y, Good M s0 q y → ∀ a, Good M s0 q (x y a)) => ?_) ?_; (on_goal 1 => try clear_value x); (on_goal 2 => subst x))
    | exact Cover.bit hm rfl
    | exact Cover.bit hm (by dsimp only [Fld.block]; rfl)
    | (extract_lets -underBinder +onlyGivenNames x; refine (fun (hx : Good M s0 q x) => ?_) ?_; (on_goal 1 => try clear_value x); (on_goal 2 => subst x))
    | (extract_lets -underBinder +onlyGivenNames x; try clear_value x)
    | intro x
    | (simp only [good_mk_iff]; refine GoodParts.of (?_ : Good M s0 q _) rfl rfl rfl rfl)
    | with_reducible apply good_setEp
    | with_reducible apply good_emit
    | with_reducible apply good_epfBump
    | with_reducible apply good_landShow
    | apply_assumption -exfalso -symm
    | with_reducible apply good_ite
    | split)

theorem good_epRetry {s1 : State} (h1 : Good M s0 q s1) (hm : Cover 0xC000000100004000040 M) : Good M s0 q (State.epRetry s1) := by
  unfold State.epRetry
  repeat' (first
    | with_reducible assumption
    | exact Cover.sub hm rfl
    | exact Cover.bit hm rfl
    | exact Cover.bit hm (by dsimp only [Fld.block]; rfl)
    | (extract_lets -underBinder +onlyGivenNames x; refine (fun (hx : Good M s0 q x) => ?_) ?_; (on_goal 1 => try clear_value x); (on_goal 2 => subst x))
    | (extract_lets -underBinder +onlyGivenNames x; try clear_value x)
    | intro x
    | with_reducible apply good_landSweep
    | with_reducible apply good_epFetchData
    | with_reducible apply good_foldS)

theorem good_epDieStop {s1 : State} (h1 : Good M s0 q s1) (a2) (a3) (hm : Cover 0x14F000000000000100000070040 M) : Good M s0 q (State.epDieStop s1 a2 a3) := by
  unfold State.epDieStop
  repeat' (first
    | with_reducible assumption
    | exact Cover.sub hm rfl
    | exact Cover.bit hm rfl
    | exact Cover.bit hm (by dsimp only [Fld.block]; rfl)
    | (extract_lets -underBinder +onlyGivenNames x; refine (fun (hx : Good M s0 q x) => ?_) ?_; (on_goal 1 => try clear_value x); (on_goal 2 => subst x))
    | (extract_lets -underBinder +onlyGivenNames x; try clear_value x)
    | intro x
    | with_reducible apply good_setCd
    | with_reducible apply good_freeSlot
    | with_reducible apply good_chainFailed
    | with_reducible apply good_foldS)

theorem good_epStop {s1 : State} (h1 : Good M s0 q s1) (a2) (a3) (hm : Cover 0x14F00000C000000100004070040 M) : Good M s0 q (State.epStop s1 a2 a3) := by
  unfold State.epStop
  repeat' (first
    | with_reducible assumption
    | exact Cover.sub hm rfl
    | exact Cover.bit hm rfl
    | exact Cover.bit hm (by dsimp only [Fld.block]; rfl)
    | (extract_lets -underBinder +onlyGivenNames x; refine (fun (hx : Good M s0 q x) => ?_) ?_; (on_goal 1 => try clear_value x); (on_goal 2 => subst x))
    | (extract_lets -underBinder +onlyGivenNames x; try clear_value x)
    | intro x
    | with_reducible apply good_setEp
    | with_reducible apply good_ev
    | with_reducible apply good_epfBump
    | with_reducible apply good_landShow
    | with_reducible apply good_epDieStop
    | with_reducible apply good_epShow
    | with_reducible apply good_foldS)

theorem good_epClear {s1 : State} (h1 : Good M s0 q s1) (a2) (hm : Cover 0x4000000000004000000 M) : Good M s0 q (State.epClear s1 a2) := by
  unfold State.epClear
  repeat' (first
    | with_reducible assumption
    | exact Cover.sub hm rfl
    | exact Cover.bit hm rfl
    | exact Cover.bit hm (by dsimp only [Fld.block]; rfl)
    | (extract_lets -underBinder +onlyGivenNames x; refine (fun (hx : Good M s0 q x) => ?_) ?_; (on_goal 1 => try clear_value x); (on_goal 2 => subst x))
    | (extract_lets -underBinder +onlyGivenNames x; try clear_value x)
    | intro x
    | with_reducible apply good_setEp
    | with_reducible apply good_w
    | with_reducible apply good_epShow)

theorem good_epReset {s1 : State} (h1 : Good M s0 q s1) (a2) (hm : Cover 0x14F00000C000000100004070040 M) : Good M s0 q (State.epReset s1 a2) := by
  unfold State.epReset
  repeat' (first
    | with_reducible assumption
    | exact Cover.sub hm rfl
    | exact Cover.bit hm rfl
    | exact Cover.bit hm (by dsimp only [Fld.block]; rfl)
    | (extract_lets -underBinder +onlyGivenNames x; refine (fun (hx : Good M s0 q x) => ?_) ?_; (on_goal 1 => try clear_value x); (on_goal 2 => subst x))
    | (extract_lets -underBinder +onlyGivenNames x; try clear_value x)
    | intro x
    | with_reducible apply good_epClear
    | with_reducible apply good_epStop
    | with_reducible apply good_w)

theorem good_epResetAll {s1 : State} (h1 : Good M s0 q s1) (hm : Cover 0x14F00000C000000100004070040 M) : Good M s0 q (State.epResetAll s1) := by
  unfold State.epResetAll
  repeat' (first
    | with_reducible assumption
    | exact Cover.sub hm rfl
    | exact Cover.bit hm rfl
    | exact Cover.bit hm (by dsimp only [Fld.block]; rfl)
    | (extract_lets -underBinder +onlyGivenNames x; try clear_value x)
    | intro x
    | with_reducible apply good_w
    | with_reducible apply good_epReset
    | with_reducible apply good_foldS)

theorem good_epReady {s1 : State} (h1 : Good M s0 q s1) (a2) (hm : Cover 0x4000000000004020000 M) : Good M s0 q (State.epReady s1 a2) := by
  unfold State.epReady
  repeat' (first
    | with_reducible assumption
    | exact Cover.sub hm rfl
    | exact Cover.bit hm rfl
    | exact Cover.bit hm (by dsimp only [Fld.block]; rfl)
    | (extract_lets -underBinder +onlyGivenNames x; refine (fun (hx : Good M s0 q x) => ?_) ?_; (on_goal 1 => try clear_value x); (on_goal 2 => subst x))
    | (extract_lets -underBinder +onlyGivenNames x; try clear_value x)
    | intro x
    | (simp only [good_mk_iff]; refine GoodParts.of (?_ : Good M s0 q _) rfl rfl rfl rfl)
    | with_reducible apply good_w
    | with_reducible apply good_setEp
    | with_reducible apply good_setCtrl
    | with_reducible apply good_setCd
    | with_reducible apply good_foldS
    | with_reducible apply good_ite
    | split)

theorem good_epAbsent {s1 : State} (h1 : Good M s0 q s1) (hm : Cover 0x14F00000C000000100004070040 M) : Good M s0 q (State.epAbsent s1) := by
  unfold State.epAbsent
  repeat' (first
    | with_reducible assumption
    | exact Cover.sub hm rfl
    | exact Cover.bit hm rfl
    | exact Cover.bit hm (by dsimp only [Fld.block]; rfl)
    | (extract_lets -underBinder +onlyGivenNames x; try clear_value x)
    | intro x
    | with_reducible apply good_epCfs
    | with_reducible apply good_epStop
    | with_reducible apply good_w
    | with_reducible apply good_foldS
    | with_reducible apply good_ite)

theorem good_epPresent {s1 : State} (h1 : Good M s0 q s1) (hm : Cover 0xC000000100004020040 M) : Good M s0 q (State.epPresent s1) := by
  unfold State.epPresent
  repeat' (first
    | with_reducible assumption
    | exact Cover.sub hm rfl
    | exact Cover.bit hm rfl
    | exact Cover.bit hm (by dsimp only [Fld.block]; rfl)
    | (extract_lets -underBinder +onlyGivenNames x; refine (fun (hx : Good M s0 q x) => ?_) ?_; (on_goal 1 => try clear_value x); (on_goal 2 => subst x))
    | (extract_lets -underBinder +onlyGivenNames x; try clear_value x)
    | intro x
    | (simp only [good_mk_iff]; refine GoodParts.of (?_ : Good M s0 q _) rfl rfl rfl rfl)
    | with_reducible apply good_epWake
    | with_reducible apply good_epReady
    | with_reducible apply good_w
    | with_reducible apply good_foldS
    | with_reducible apply good_ite)

end Sys2Proof.Machine
end

