-- ==== Sys2Proof/Laws/ReshapeOps.lean ====
section
/-! SUPPORT. What the operations of Machine/ReshapeOps.lean keep (see Laws/Keep.lean), one lemma for each. -/

set_option Elab.async false

set_option linter.all false

namespace Sys2Proof.Machine

variable {M : Nat} {s0 : State} {q : Prop}

theorem good_rshBump {s1 : State} (h1 : Good M s0 q s1) (a2) (a3) (a4) (hm : Cover 0x3000000000000000100000000040 M) : Good M s0 q (State.rshBump s1 a2 a3 a4) := by
  unfold State.rshBump
  repeat' (first
    | with_reducible assumption
    | exact Cover.sub hm rfl
    | exact Cover.bit hm rfl
    | exact Cover.bit hm (by dsimp only [Fld.block]; rfl)
    | intro x
    | with_reducible apply good_bump)

theorem good_setRsh {s1 : State} (h1 : Good M s0 q s1) (a2) (a3) (a4) (hm : Cover 0x1000000000000000000000100000 M) : Good M s0 q (State.setRsh s1 a2 a3 a4) := by
  unfold State.setRsh
  repeat' (first
    | with_reducible assumption
    | exact Cover.sub hm rfl
    | exact Cover.bit hm rfl
    | exact Cover.bit hm (by dsimp only [Fld.block]; rfl)
    | (extract_lets -underBinder +onlyGivenNames x; refine (fun (hx : Good M s0 q x) => ?_) ?_; (on_goal 1 => try clear_value x); (on_goal 2 => subst x))
    | (extract_lets -underBinder +onlyGivenNames x; try clear_value x)
    | intro x
    | (simp only [good_mk_iff]; refine GoodParts.of (?_ : Good M s0 q _) rfl rfl rfl rfl)
    | with_reducible apply good_wb
    | with_reducible apply good_w
    | with_reducible apply good_ite
    | split)

theorem good_rshRecord {s1 : State} (h1 : Good M s0 q s1) (a2) (a3) (hm : Cover 0xF0000000000000001C0010300040 M) : Good M s0 q (State.rshRecord s1 a2 a3) := by
  unfold State.rshRecord
  repeat' (first
    | with_reducible assumption
    | exact Cover.sub hm rfl
    | exact Cover.bit hm rfl
    | exact Cover.bit hm (by dsimp only [Fld.block]; rfl)
    | (extract_lets -underBinder +onlyGivenNames x; refine (fun (hx : Good M s0 q x) => ?_) ?_; (on_goal 1 => try clear_value x); (on_goal 2 => subst x))
    | (extract_lets -underBinder +onlyGivenNames x; try clear_value x)
    | intro x
    | (simp only [good_mk_iff]; refine GoodParts.of (?_ : Good M s0 q _) rfl rfl rfl rfl)
    | with_reducible apply good_rshBump
    | with_reducible apply good_setRsh
    | with_reducible apply good_drvIssue
    | with_reducible apply good_foldS
    | with_reducible apply good_ite
    | split)

theorem good_leaveSpares {s1 : State} (h1 : Good M s0 q s1) (a2) (a3) (hm : Cover 0x4400000000000000000000080000 M) : Good M s0 q (State.leaveSpares s1 a2 a3) := by
  unfold State.leaveSpares
  repeat' (first
    | with_reducible assumption
    | exact Cover.sub hm rfl
    | exact Cover.bit hm rfl
    | exact Cover.bit hm (by dsimp only [Fld.block]; rfl)
    | (extract_lets -underBinder +onlyGivenNames x; try clear_value x)
    | intro x
    | (simp only [good_mk_iff]; refine GoodParts.of (?_ : Good M s0 q _) rfl rfl rfl rfl)
    | with_reducible apply good_w
    | with_reducible apply good_setGrp
    | with_reducible apply good_foldS)

theorem good_reshapeTry {s1 : State} (h1 : Good M s0 q s1) (a2) (a3) (hm : Cover 0xFC1400000C0000001C00143A0060 M) : Good M s0 q (State.reshapeTry s1 a2 a3) := by
  unfold State.reshapeTry
  repeat' (first
    | with_reducible assumption
    | exact Cover.sub hm rfl
    | (extract_lets -underBinder +onlyGivenNames x; refine (fun (hf : ∀ k : State → State, (∀ y, Good M s0 q y → Good M s0 q (k y)) → Good M s0 q (x k)) => ?_) ?_; (on_goal 1 => try clear_value x); (on_goal 2 => subst x))
    | (extract_lets -underBinder +onlyGivenNames x; refine (fun (hf : ∀ y, Good M s0 q y → ∀ a, Good M s0 q (x y a)) => ?_) ?_; (on_goal 1 => try clear_value x); (on_goal 2 => subst x))
    | exact Cover.bit hm rfl
    | exact Cover.bit hm (by dsimp only [Fld.block]; rfl)
    | (extract_lets -underBinder +onlyGivenNames x; refine (fun (hx : Good M s0 q x) => ?_) ?_; (on_goal 1 => try clear_value x); (on_goal 2 => subst x))
    | (extract_lets -underBinder +onlyGivenNames x; try clear_value x)
    | intro x
    | (simp only [good_mk_iff]; refine GoodParts.of (?_ : Good M s0 q _) rfl rfl rfl rfl)
    | with_reducible apply good_logEv
    | with_reducible apply good_ev
    | with_reducible apply good_rshRecord
    | with_reducible apply good_setRsh
    | with_reducible apply good_leaveSpares
    | with_reducible apply good_setGrp
    | with_reducible apply good_chanShow
    | with_reducible apply good_recordWrite
    | with_reducible apply good_w
    | with_reducible apply good_nsmShow
    | with_reducible apply good_foldS
    | apply_assumption -exfalso -symm
    | with_reducible apply good_ite
    | split)

theorem good_reshapeRecheck {s1 : State} (h1 : Good M s0 q s1) (a2) (hm : Cover 0xFC1400000C0000001C00143A0060 M) : Good M s0 q (State.reshapeRecheck s1 a2) := by
  unfold State.reshapeRecheck
  repeat' (first
    | with_reducible assumption
    | exact Cover.sub hm rfl
    | exact Cover.bit hm rfl
    | exact Cover.bit hm (by dsimp only [Fld.block]; rfl)
    | (extract_lets -underBinder +onlyGivenNames x; try clear_value x)
    | intro x
    | with_reducible apply good_reshapeTry
    | with_reducible apply good_foldS)

theorem good_reshapeBegin {s1 : State} (h1 : Good M s0 q s1) (a2) (hm : Cover 0x1000000000000000000000100000 M) : Good M s0 q (State.reshapeBegin s1 a2) := by
  unfold State.reshapeBegin
  repeat' (first
    | with_reducible assumption
    | exact Cover.sub hm rfl
    | exact Cover.bit hm rfl
    | exact Cover.bit hm (by dsimp only [Fld.block]; rfl)
    | (extract_lets -underBinder +onlyGivenNames x; refine (fun (hx : Good M s0 q x) => ?_) ?_; (on_goal 1 => try clear_value x); (on_goal 2 => subst x))
    | (extract_lets -underBinder +onlyGivenNames x; try clear_value x)
    | intro x
    | with_reducible apply good_setRsh)

theorem good_stepUnlock {s1 : State} (h1 : Good M s0 q s1) (a2) (a3) (a4) (hm : Cover 0xCC000000000000001C0010280040 M) : Good M s0 q (State.stepUnlock s1 a2 a3 a4) := by
  unfold State.stepUnlock
  repeat' (first
    | with_reducible assumption
    | exact Cover.sub hm rfl
    | exact Cover.bit hm rfl
    | exact Cover.bit hm (by dsimp only [Fld.block]; rfl)
    | (extract_lets -underBinder +onlyGivenNames x; try clear_value x)
    | intro x
    | with_reducible apply good_unlock)

theorem good_reshapeOver {s1 : State} (h1 : Good M s0 q s1) (a2) (hm : Cover 0xFC1400000C0000001C00143A0060 M) : Good M s0 q (State.reshapeOver s1 a2) := by
  unfold State.reshapeOver
  repeat' (first
    | with_reducible assumption
    | exact Cover.sub hm rfl
    | exact Cover.bit hm rfl
    | exact Cover.bit hm (by dsimp only [Fld.block]; rfl)
    | (extract_lets -underBinder +onlyGivenNames x; try clear_value x)
    | intro x
    | with_reducible apply good_nsmShow
    | with_reducible apply good_chanShow
    | with_reducible apply good_reshapeRecheck)

theorem good_stepDrop {s1 : State} (h1 : Good M s0 q s1) (a2) (a3) (hm : Cover 0x3FD4F0000000000001C00103F0060 M) : Good M s0 q (State.stepDrop s1 a2 a3) := by
  unfold State.stepDrop
  repeat' (first
    | with_reducible assumption
    | exact Cover.sub hm rfl
    | exact Cover.bit hm rfl
    | exact Cover.bit hm (by dsimp only [Fld.block]; rfl)
    | (extract_lets -underBinder +onlyGivenNames x; refine (fun (hx : Good M s0 q x) => ?_) ?_; (on_goal 1 => try clear_value x); (on_goal 2 => subst x))
    | (extract_lets -underBinder +onlyGivenNames x; try clear_value x)
    | intro x
    | (simp only [good_mk_iff]; refine GoodParts.of (?_ : Good M s0 q _) rfl rfl rfl rfl)
    | with_reducible apply good_disown
    | with_reducible apply good_setRsh
    | with_reducible apply good_stepUnlock
    | with_reducible apply good_unlock
    | with_reducible apply good_readBlock
    | with_reducible apply good_foldS
    | with_reducible apply good_ite
    | split)

theorem good_reshapeCancelled {s1 : State} (h1 : Good M s0 q s1) (a2) (a3) (hm : Cover 0x3FD5F00000C0000001C00143F0062 M) : Good M s0 q (State.reshapeCancelled s1 a2 a3) := by
  unfold State.reshapeCancelled
  repeat' (first
    | with_reducible assumption
    | exact Cover.sub hm rfl
    | exact Cover.bit hm rfl
    | exact Cover.bit hm (by dsimp only [Fld.block]; rfl)
    | (extract_lets -underBinder +onlyGivenNames x; refine (fun (hx : Good M s0 q x) => ?_) ?_; (on_goal 1 => try clear_value x); (on_goal 2 => subst x))
    | (extract_lets -underBinder +onlyGivenNames x; try clear_value x)
    | intro x
    | (simp only [good_mk_iff]; refine GoodParts.of (?_ : Good M s0 q _) rfl rfl rfl rfl)
    | with_reducible apply good_stepDrop
    | with_reducible apply good_unlock
    | with_reducible apply good_disown
    | with_reducible apply good_setGrp
    | with_reducible apply good_writeSb
    | with_reducible apply good_reshapeOver
    | with_reducible apply good_rshRecord
    | with_reducible apply good_setRsh
    | with_reducible apply good_foldS
    | with_reducible apply good_ite
    | split)

theorem good_serveWaiting {s1 : State} (h1 : Good M s0 q s1) (a2) (a3) (hm : Cover 0x31D4F000000000000100000370040 M) : Good M s0 q (State.serveWaiting s1 a2 a3) := by
  unfold State.serveWaiting
  repeat' (first
    | with_reducible assumption
    | exact Cover.sub hm rfl
    | exact Cover.bit hm rfl
    | exact Cover.bit hm (by dsimp only [Fld.block]; rfl)
    | (extract_lets -underBinder +onlyGivenNames x; refine (fun (hx : Good M s0 q x) => ?_) ?_; (on_goal 1 => try clear_value x); (on_goal 2 => subst x))
    | (extract_lets -underBinder +onlyGivenNames x; try clear_value x)
    | intro x
    | (simp only [good_mk_iff]; refine GoodParts.of (?_ : Good M s0 q _) rfl rfl rfl rfl)
    | with_reducible apply good_setRsh
    | with_reducible apply good_readFails
    | with_reducible apply good_grpBump
    | with_reducible apply good_blockArrives
    | with_reducible apply good_cipBump
    | with_reducible apply good_foldS
    | with_reducible apply good_ite
    | split)

theorem good_stepDestination {s1 : State} (h1 : Good M s0 q s1) (a2) (a3) (hm : Cover 0xFC000000000000001C0010380040 M) : Good M s0 q (State.stepDestination s1 a2 a3) := by
  unfold State.stepDestination
  repeat' (first
    | with_reducible assumption
    | exact Cover.sub hm rfl
    | exact Cover.bit hm rfl
    | exact Cover.bit hm (by dsimp only [Fld.block]; rfl)
    | (extract_lets -underBinder +onlyGivenNames x; refine (fun (hx : Good M s0 q x) => ?_) ?_; (on_goal 1 => try clear_value x); (on_goal 2 => subst x))
    | (extract_lets -underBinder +onlyGivenNames x; try clear_value x)
    | intro x
    | (simp only [good_mk_iff]; refine GoodParts.of (?_ : Good M s0 q _) rfl rfl rfl rfl)
    | with_reducible apply good_markRegions
    | with_reducible apply good_setRsh
    | with_reducible apply good_rshBump
    | with_reducible apply good_drvIssue
    | with_reducible apply good_foldS
    | with_reducible apply good_ite
    | split)

theorem good_reshapeBay {s1 : State} (h1 : Good M s0 q s1) (a2) (a3) (a4) (hm : Cover 0xDD5C00000C0000001C00143E0060 M) : Good M s0 q (State.reshapeBay s1 a2 a3 a4) := by
  unfold State.reshapeBay
  repeat' (first
    | with_reducible assumption
    | exact Cover.sub hm rfl
    | exact Cover.bit hm rfl
    | exact Cover.bit hm (by dsimp only [Fld.block]; rfl)
    | (extract_lets -underBinder +onlyGivenNames x; refine (fun (hx : Good M s0 q x) => ?_) ?_; (on_goal 1 => try clear_value x); (on_goal 2 => subst x))
    | (extract_lets -underBinder +onlyGivenNames x; try clear_value x)
    | intro x
    | (simp only [good_mk_iff]; refine GoodParts.of (?_ : Good M s0 q _) rfl rfl rfl rfl)
    | with_reducible apply good_setRsh
    | with_reducible apply good_setGrp
    | with_reducible apply good_groupFails
    | with_reducible apply good_logEv
    | with_reducible apply good_ev
    | with_reducible apply good_foldS
    | with_reducible apply good_ite
    | split)

theorem good_reshapeResume {s1 : State} (h1 : Good M s0 q s1) (a2) (a3) (hm : Cover 0x1000000000000000000000100000 M) : Good M s0 q (State.reshapeResume s1 a2 a3) := by
  unfold State.reshapeResume
  repeat' (first
    | with_reducible assumption
    | exact Cover.sub hm rfl
    | exact Cover.bit hm rfl
    | exact Cover.bit hm (by dsimp only [Fld.block]; rfl)
    | (extract_lets -underBinder +onlyGivenNames x; try clear_value x)
    | intro x
    | with_reducible apply good_setRsh
    | with_reducible apply good_ite
    | split)

theorem good_reshapeAtOnce {s1 : State} (h1 : Good M s0 q s1) (a2) (hm : Cover 0x3FD5F00000C0000001C00143F0062 M) : Good M s0 q (State.reshapeAtOnce s1 a2) := by
  unfold State.reshapeAtOnce
  repeat' (first
    | with_reducible assumption
    | exact Cover.sub hm rfl
    | exact Cover.bit hm rfl
    | exact Cover.bit hm (by dsimp only [Fld.block]; rfl)
    | (extract_lets -underBinder +onlyGivenNames x; refine (fun (hx : Good M s0 q x) => ?_) ?_; (on_goal 1 => try clear_value x); (on_goal 2 => subst x))
    | (extract_lets -underBinder +onlyGivenNames x; try clear_value x)
    | intro x
    | (simp only [good_mk_iff]; refine GoodParts.of (?_ : Good M s0 q _) rfl rfl rfl rfl)
    | with_reducible apply good_reshapeCancelled
    | with_reducible apply good_stepDrop
    | with_reducible apply good_setGrp
    | with_reducible apply good_setRsh
    | with_reducible apply good_foldS
    | with_reducible apply good_ite
    | split)

theorem good_takeLayout {s1 : State} (h1 : Good M s0 q s1) (a2) (a3) (a4) (hm : Cover 0x400000000000000000000080000 M) : Good M s0 q (State.takeLayout s1 a2 a3 a4) := by
  unfold State.takeLayout
  repeat' (first
    | with_reducible assumption
    | exact Cover.sub hm rfl
    | exact Cover.bit hm rfl
    | exact Cover.bit hm (by dsimp only [Fld.block]; rfl)
    | (extract_lets -underBinder +onlyGivenNames x; try clear_value x)
    | intro x
    | with_reducible apply good_setGrp
    | with_reducible apply good_ite)

end Sys2Proof.Machine
end

