-- ==== Sys2Proof/Laws/Transport.lean ====
section
/-! SUPPORT. What the operations of Machine/Transport.lean keep (see Laws/Keep.lean), one lemma for each. -/

set_option Elab.async false

set_option linter.all false

namespace Sys2Proof.Machine

variable {M : Nat} {s0 : State} {q : Prop}

theorem good_execCmRequest (a1) (a2) (a3) (a4) (a5) (a6) (a7) {s8 : State} (h8 : Good M s0 q s8) (hm : Cover 0x300000100000000040 M) : OutGood M s0 q (execCmRequest a1 a2 a3 a4 a5 a6 a7 s8) := by
  unfold execCmRequest
  repeat' (first
    | with_reducible assumption
    | exact Cover.sub hm rfl
    | exact Cover.bit hm rfl
    | exact Cover.bit hm (by dsimp only [Fld.block]; rfl)
    | (extract_lets -underBinder +onlyGivenNames x; refine (fun (hx : Good M s0 q x) => ?_) ?_; (on_goal 1 => try clear_value x); (on_goal 2 => subst x))
    | (extract_lets -underBinder +onlyGivenNames x; try clear_value x)
    | intro x
    | (simp only [good_mk_iff]; refine GoodParts.of (?_ : Good M s0 q _) rfl rfl rfl rfl)
    | with_reducible apply OutGood.of
    | with_reducible apply good_bump
    | with_reducible apply good_w
    | with_reducible apply good_emit
    | with_reducible apply good_ite
    | with_reducible apply OutGood.ite
    | split)

theorem good_connResult {s1 : State} (h1 : Good M s0 q s1) (a2) (a3) (a4) (a5) (hm : Cover 0x1000000000000000000000000 M) : Good M s0 q (State.connResult s1 a2 a3 a4 a5) := by
  unfold State.connResult
  repeat' (first
    | with_reducible assumption
    | exact Cover.sub hm rfl
    | exact Cover.bit hm rfl
    | exact Cover.bit hm (by dsimp only [Fld.block]; rfl)
    | (extract_lets -underBinder +onlyGivenNames x; try clear_value x)
    | intro x
    | with_reducible apply good_wb
    | with_reducible apply good_w)

theorem good_execConnOpen (a1) (a2) {s3 : State} (h3 : Good M s0 q s3) (hm : Cover 0x100000001000000000000000000010000 M) : OutGood M s0 q (execConnOpen a1 a2 s3) := by
  unfold execConnOpen
  repeat' (first
    | with_reducible assumption
    | exact Cover.sub hm rfl
    | exact Cover.bit hm rfl
    | exact Cover.bit hm (by dsimp only [Fld.block]; rfl)
    | (extract_lets -underBinder +onlyGivenNames x; refine (fun (hx : Good M s0 q x) => ?_) ?_; (on_goal 1 => try clear_value x); (on_goal 2 => subst x))
    | (extract_lets -underBinder +onlyGivenNames x; try clear_value x)
    | intro x
    | (simp only [good_mk_iff]; refine GoodParts.of (?_ : Good M s0 q _) rfl rfl rfl rfl)
    | with_reducible apply OutGood.of
    | with_reducible apply good_onCd
    | with_reducible apply good_connResult
    | with_reducible apply good_setConn
    | with_reducible apply good_wbit
    | with_reducible apply good_rdxStatus
    | with_reducible apply good_ite)

theorem good_execConnReady (a1) (a2) {s3 : State} (h3 : Good M s0 q s3) (hm : Cover 0x300030001000000000000100000814040 M) : OutGood M s0 q (execConnReady a1 a2 s3) := by
  unfold execConnReady
  repeat' (first
    | with_reducible assumption
    | exact Cover.sub hm rfl
    | exact Cover.bit hm rfl
    | exact Cover.bit hm (by dsimp only [Fld.block]; rfl)
    | (extract_lets -underBinder +onlyGivenNames x; refine (fun (hx : Good M s0 q x) => ?_) ?_; (on_goal 1 => try clear_value x); (on_goal 2 => subst x))
    | (extract_lets -underBinder +onlyGivenNames x; try clear_value x)
    | intro x
    | (simp only [good_mk_iff]; refine GoodParts.of (?_ : Good M s0 q _) rfl rfl rfl rfl)
    | with_reducible apply OutGood.of
    | with_reducible apply good_onCd
    | with_reducible apply good_connResult
    | with_reducible apply good_setConn
    | with_reducible apply good_rdxStatus
    | with_reducible apply good_tableEvent
    | with_reducible apply good_ite
    | with_reducible apply OutGood.ite
    | split)

theorem good_execConnDrain (a1) (a2) {s3 : State} (h3 : Good M s0 q s3) (hm : Cover 0x1000000000000000000010000 M) : OutGood M s0 q (execConnDrain a1 a2 s3) := by
  unfold execConnDrain
  repeat' (first
    | with_reducible assumption
    | exact Cover.sub hm rfl
    | exact Cover.bit hm rfl
    | exact Cover.bit hm (by dsimp only [Fld.block]; rfl)
    | (extract_lets -underBinder +onlyGivenNames x; try clear_value x)
    | intro x
    | (simp only [good_mk_iff]; refine GoodParts.of (?_ : Good M s0 q _) rfl rfl rfl rfl)
    | with_reducible apply OutGood.of
    | with_reducible apply good_onCd
    | with_reducible apply good_connResult
    | with_reducible apply good_setConn
    | with_reducible apply good_ite)

theorem good_execConnErrorCmd (a1) (a2) {s3 : State} (h3 : Good M s0 q s3) (hm : Cover 0x30003014F000000000000100000870040 M) : OutGood M s0 q (execConnErrorCmd a1 a2 s3) := by
  unfold execConnErrorCmd
  repeat' (first
    | with_reducible assumption
    | exact Cover.sub hm rfl
    | exact Cover.bit hm rfl
    | exact Cover.bit hm (by dsimp only [Fld.block]; rfl)
    | (extract_lets -underBinder +onlyGivenNames x; try clear_value x)
    | intro x
    | (simp only [good_mk_iff]; refine GoodParts.of (?_ : Good M s0 q _) rfl rfl rfl rfl)
    | with_reducible apply OutGood.of
    | with_reducible apply good_onCd
    | with_reducible apply good_connResult
    | with_reducible apply good_connError
    | with_reducible apply good_ite)

theorem good_queueGone {s1 : State} (h1 : Good M s0 q s1) (a2) (a3) (hm : Cover 0x20000 M) : Good M s0 q (State.queueGone s1 a2 a3) := by
  unfold State.queueGone
  repeat' (first
    | with_reducible assumption
    | exact Cover.sub hm rfl
    | exact Cover.bit hm rfl
    | exact Cover.bit hm (by dsimp only [Fld.block]; rfl)
    | (extract_lets -underBinder +onlyGivenNames x; try clear_value x)
    | intro x
    | with_reducible apply good_setCd
    | with_reducible apply good_ite
    | split)

theorem good_execConnFree (a1) (a2) {s3 : State} (h3 : Good M s0 q s3) (hm : Cover 0x300030001000000000000100000834040 M) : OutGood M s0 q (execConnFree a1 a2 s3) := by
  unfold execConnFree
  repeat' (first
    | with_reducible assumption
    | exact Cover.sub hm rfl
    | exact Cover.bit hm rfl
    | exact Cover.bit hm (by dsimp only [Fld.block]; rfl)
    | (extract_lets -underBinder +onlyGivenNames x; refine (fun (hx : Good M s0 q x) => ?_) ?_; (on_goal 1 => try clear_value x); (on_goal 2 => subst x))
    | (extract_lets -underBinder +onlyGivenNames x; try clear_value x)
    | intro x
    | (simp only [good_mk_iff]; refine GoodParts.of (?_ : Good M s0 q _) rfl rfl rfl rfl)
    | with_reducible apply OutGood.of
    | with_reducible apply good_onCd
    | with_reducible apply good_queueGone
    | with_reducible apply good_setConn
    | with_reducible apply good_connResult
    | with_reducible apply good_rdxStatus
    | with_reducible apply good_tableEvent
    | with_reducible apply good_ite)

theorem good_execConnShadow (a1) (a2) {s3 : State} (h3 : Good M s0 q s3) (hm : Cover 0x1000000000000000000010000 M) : OutGood M s0 q (execConnShadow a1 a2 s3) := by
  unfold execConnShadow
  repeat' (first
    | with_reducible assumption
    | exact Cover.sub hm rfl
    | exact Cover.bit hm rfl
    | exact Cover.bit hm (by dsimp only [Fld.block]; rfl)
    | (extract_lets -underBinder +onlyGivenNames x; try clear_value x)
    | intro x
    | (simp only [good_mk_iff]; refine GoodParts.of (?_ : Good M s0 q _) rfl rfl rfl rfl)
    | with_reducible apply OutGood.of
    | with_reducible apply good_onCd
    | with_reducible apply good_connResult
    | with_reducible apply good_setConn
    | with_reducible apply good_ite)

theorem good_invalidRequest {s1 : State} (h1 : Good M s0 q s1) (a2) (a3) (a4) (hm : Cover 0x30003014F000000300000100000874040 M) : Good M s0 q (State.invalidRequest s1 a2 a3 a4) := by
  unfold State.invalidRequest
  repeat' (first
    | with_reducible assumption
    | exact Cover.sub hm rfl
    | exact Cover.bit hm rfl
    | exact Cover.bit hm (by dsimp only [Fld.block]; rfl)
    | (extract_lets -underBinder +onlyGivenNames x; try clear_value x)
    | intro x
    | with_reducible apply good_connError
    | with_reducible apply good_sendNak)

theorem good_rxHead {s1 : State} (h1 : Good M s0 q s1) (a2) (a3) (hm : Cover 0x30003014F000000300000100000874040 M) : Good M s0 q (State.rxHead s1 a2 a3).1 := by
  unfold State.rxHead
  repeat' (first
    | with_reducible assumption
    | exact Cover.sub hm rfl
    | exact Cover.bit hm rfl
    | exact Cover.bit hm (by dsimp only [Fld.block]; rfl)
    | (extract_lets -underBinder +onlyGivenNames x; refine (fun (hx : Good M s0 q x) => ?_) ?_; (on_goal 1 => try clear_value x); (on_goal 2 => subst x))
    | (extract_lets -underBinder +onlyGivenNames x; try clear_value x)
    | intro x
    | (simp only [good_mk_iff]; refine GoodParts.of (?_ : Good M s0 q _) rfl rfl rfl rfl)
    | with_reducible apply good_rdxBump
    | with_reducible apply good_ceMark
    | with_reducible apply good_invalidRequest
    | split)

theorem good_rxHead_eq {s1 : State} {a2} {a3} {t} {b} (e : State.rxHead s1 a2 a3 = (t, b)) (h1 : Good M s0 q s1) (hm : Cover 0x30003014F000000300000100000874040 M) : Good M s0 q t := by
  have h := good_rxHead h1 a2 a3 hm
  rw [e] at h
  exact h

theorem good_rxNext {s1 : State} (h1 : Good M s0 q s1) (a2) (a3) (a4) (hm : Cover 0x30003014F000000300000100000874040 M) : Good M s0 q (State.rxNext s1 a2 a3 a4) := by
  unfold State.rxNext
  repeat' (first
    | with_reducible assumption
    | exact Cover.sub hm rfl
    | exact Cover.bit hm rfl
    | exact Cover.bit hm (by dsimp only [Fld.block]; rfl)
    | (extract_lets -underBinder +onlyGivenNames x; refine (fun (hx : Good M s0 q x) => ?_) ?_; (on_goal 1 => try clear_value x); (on_goal 2 => subst x))
    | (extract_lets -underBinder +onlyGivenNames x; try clear_value x)
    | intro x
    | with_reducible apply good_rdxBump
    | with_reducible apply good_invalidRequest
    | with_reducible apply good_sendNak
    | with_reducible apply good_regionRefused
    | with_reducible apply good_startPlacing
    | with_reducible apply good_setConn
    | with_reducible apply good_queueDelivery
    | with_reducible apply good_retired
    | with_reducible apply good_ite)

theorem good_execRdmaPacketReceived (a1) (a2) {s3 : State} (h3 : Good M s0 q s3) (hm : Cover 0x30003014F000000300000100000874040 M) : OutGood M s0 q (execRdmaPacketReceived a1 a2 s3) := by
  unfold execRdmaPacketReceived
  repeat' (first
    | with_reducible assumption
    | exact Cover.sub hm rfl
    | exact Cover.bit hm rfl
    | exact Cover.bit hm (by dsimp only [Fld.block]; rfl)
    | (extract_lets -underBinder +onlyGivenNames x; refine (fun (hx : Good M s0 q x) => ?_) ?_; (on_goal 1 => try clear_value x); (on_goal 2 => subst x))
    | (extract_lets -underBinder +onlyGivenNames x; try clear_value x)
    | intro x
    | (simp only [good_mk_iff]; refine GoodParts.of (?_ : Good M s0 q _) rfl rfl rfl rfl)
    | with_reducible apply OutGood.of
    | with_reducible apply good_onCd
    | refine good_rxHead_eq (by assumption) ?_ ?_
    | with_reducible apply good_rxHead
    | with_reducible apply good_rxNext
    | with_reducible apply good_rdxBump
    | with_reducible apply good_sendNak
    | with_reducible apply good_setConn
    | with_reducible apply good_dupAck
    | with_reducible apply good_ite
    | with_reducible apply OutGood.ite
    | split)

theorem good_joinSlot {s1 : State} (h1 : Good M s0 q s1) (a2) (a3) (a4) (a5) (hm : Cover 0x30003014F000000300000100000874040 M) : Good M s0 q (State.joinSlot s1 a2 a3 a4 a5) := by
  unfold State.joinSlot
  repeat' (first
    | with_reducible assumption
    | exact Cover.sub hm rfl
    | exact Cover.bit hm rfl
    | exact Cover.bit hm (by dsimp only [Fld.block]; rfl)
    | (extract_lets -underBinder +onlyGivenNames x; try clear_value x)
    | intro x
    | with_reducible apply good_regionRefused
    | with_reducible apply good_rdxStatus
    | with_reducible apply good_startPlacing
    | with_reducible apply good_setConn
    | with_reducible apply good_ite)

theorem good_execMultipathPacketReceived (a1) (a2) {s3 : State} (h3 : Good M s0 q s3) (hm : Cover 0x30003014F000000300000100000874040 M) : OutGood M s0 q (execMultipathPacketReceived a1 a2 s3) := by
  unfold execMultipathPacketReceived
  repeat' (first
    | with_reducible assumption
    | exact Cover.sub hm rfl
    | exact Cover.bit hm rfl
    | exact Cover.bit hm (by dsimp only [Fld.block]; rfl)
    | (extract_lets -underBinder +onlyGivenNames x; refine (fun (hx : Good M s0 q x) => ?_) ?_; (on_goal 1 => try clear_value x); (on_goal 2 => subst x))
    | (extract_lets -underBinder +onlyGivenNames x; try clear_value x)
    | intro x
    | (simp only [good_mk_iff]; refine GoodParts.of (?_ : Good M s0 q _) rfl rfl rfl rfl)
    | with_reducible apply OutGood.of
    | with_reducible apply good_onCd
    | refine good_rxHead_eq (by assumption) ?_ ?_
    | with_reducible apply good_rxHead
    | with_reducible apply good_dupAck
    | with_reducible apply good_rdxBump
    | with_reducible apply good_invalidRequest
    | with_reducible apply good_joinSlot
    | with_reducible apply good_sendNak
    | with_reducible apply good_setConn
    | with_reducible apply good_ite
    | with_reducible apply OutGood.ite
    | split)

theorem good_execAckDelayExpiry (a1) (a2) {s3 : State} (h3 : Good M s0 q s3) (hm : Cover 0x3000000300000100000014041 M) : OutGood M s0 q (execAckDelayExpiry a1 a2 s3) := by
  unfold execAckDelayExpiry
  repeat' (first
    | with_reducible assumption
    | exact Cover.sub hm rfl
    | exact Cover.bit hm rfl
    | exact Cover.bit hm (by dsimp only [Fld.block]; rfl)
    | (extract_lets -underBinder +onlyGivenNames x; try clear_value x)
    | intro x
    | (simp only [good_mk_iff]; refine GoodParts.of (?_ : Good M s0 q _) rfl rfl rfl rfl)
    | with_reducible apply OutGood.of
    | with_reducible apply good_onCd
    | with_reducible apply good_sendAck
    | with_reducible apply good_advance
    | with_reducible apply good_ite
    | with_reducible apply OutGood.ite
    | split)

theorem good_execPlacementConfirm (a1) (a2) (a3) {s4 : State} (h4 : Good M s0 q s4) (hm : Cover 0x3000000300000100000014040 M) : OutGood M s0 q (execPlacementConfirm a1 a2 a3 s4) := by
  unfold execPlacementConfirm
  repeat' (first
    | with_reducible assumption
    | exact Cover.sub hm rfl
    | exact Cover.bit hm rfl
    | exact Cover.bit hm (by dsimp only [Fld.block]; rfl)
    | (extract_lets -underBinder +onlyGivenNames x; refine (fun (hx : Good M s0 q x) => ?_) ?_; (on_goal 1 => try clear_value x); (on_goal 2 => subst x))
    | (extract_lets -underBinder +onlyGivenNames x; try clear_value x)
    | intro x
    | (simp only [good_mk_iff]; refine GoodParts.of (?_ : Good M s0 q _) rfl rfl rfl rfl)
    | with_reducible apply OutGood.of
    | with_reducible apply good_onCd
    | with_reducible apply good_setConn
    | with_reducible apply good_revokeIfDone
    | with_reducible apply good_setRegion
    | with_reducible apply good_rdxStatus
    | with_reducible apply good_mpRetire
    | with_reducible apply good_ite
    | with_reducible apply OutGood.ite
    | split)

theorem good_execSendDelivery (a1) (a2) {s3 : State} (h3 : Good M s0 q s3) (hm : Cover 0x14F000000000000100000070040 M) : OutGood M s0 q (execSendDelivery a1 a2 s3) := by
  unfold execSendDelivery
  repeat' (first
    | with_reducible assumption
    | exact Cover.sub hm rfl
    | exact Cover.bit hm rfl
    | exact Cover.bit hm (by dsimp only [Fld.block]; rfl)
    | (extract_lets -underBinder +onlyGivenNames x; refine (fun (hx : Good M s0 q x) => ?_) ?_; (on_goal 1 => try clear_value x); (on_goal 2 => subst x))
    | (extract_lets -underBinder +onlyGivenNames x; try clear_value x)
    | intro x
    | (simp only [good_mk_iff]; refine GoodParts.of (?_ : Good M s0 q _) rfl rfl rfl rfl)
    | with_reducible apply OutGood.of
    | with_reducible apply good_onCd
    | with_reducible apply good_setConn
    | with_reducible apply good_chainTrigger
    | with_reducible apply good_ev
    | with_reducible apply good_rdxBump
    | with_reducible apply good_offer
    | with_reducible apply good_admitCommand
    | with_reducible apply good_ite
    | with_reducible apply OutGood.ite
    | split)

theorem good_resend {s1 : State} (h1 : Good M s0 q s1) (a2) (a3) (a4) (hm : Cover 0x3000000300000100000004040 M) : Good M s0 q (State.resend s1 a2 a3 a4) := by
  unfold State.resend
  repeat' (first
    | with_reducible assumption
    | exact Cover.sub hm rfl
    | exact Cover.bit hm rfl
    | exact Cover.bit hm (by dsimp only [Fld.block]; rfl)
    | (extract_lets -underBinder +onlyGivenNames x; refine (fun (hx : Good M s0 q x) => ?_) ?_; (on_goal 1 => try clear_value x); (on_goal 2 => subst x))
    | (extract_lets -underBinder +onlyGivenNames x; try clear_value x)
    | intro x
    | with_reducible apply good_rdxBump
    | with_reducible apply good_rdmaOut
    | with_reducible apply good_emit
    | with_reducible apply good_foldS
    | with_reducible apply good_ite)

theorem good_retry {s1 : State} (h1 : Good M s0 q s1) (a2) (a3) (a4) (hm : Cover 0x30003014F000000300000100000874040 M) : Good M s0 q (State.retry s1 a2 a3 a4) := by
  unfold State.retry
  repeat' (first
    | with_reducible assumption
    | exact Cover.sub hm rfl
    | exact Cover.bit hm rfl
    | exact Cover.bit hm (by dsimp only [Fld.block]; rfl)
    | (extract_lets -underBinder +onlyGivenNames x; try clear_value x)
    | intro x
    | with_reducible apply good_connError
    | with_reducible apply good_rdxBump
    | with_reducible apply good_resend
    | with_reducible apply good_setConn
    | with_reducible apply good_ite)

theorem good_execRetransmitTimeout (a1) (a2) {s3 : State} (h3 : Good M s0 q s3) (hm : Cover 0x30003014F000000300000100000874041 M) : OutGood M s0 q (execRetransmitTimeout a1 a2 s3) := by
  unfold execRetransmitTimeout
  repeat' (first
    | with_reducible assumption
    | exact Cover.sub hm rfl
    | exact Cover.bit hm rfl
    | exact Cover.bit hm (by dsimp only [Fld.block]; rfl)
    | (extract_lets -underBinder +onlyGivenNames x; try clear_value x)
    | intro x
    | (simp only [good_mk_iff]; refine GoodParts.of (?_ : Good M s0 q _) rfl rfl rfl rfl)
    | with_reducible apply OutGood.of
    | with_reducible apply good_onCd
    | with_reducible apply good_retry
    | with_reducible apply good_advance
    | with_reducible apply good_ite)

theorem good_chainDone {s1 : State} (h1 : Good M s0 q s1) (a2) (a3) (hm : Cover 0x3000301CC000000000000100000870040 M) : Good M s0 q (State.chainDone s1 a2 a3) := by
  unfold State.chainDone
  repeat' (first
    | with_reducible assumption
    | exact Cover.sub hm rfl
    | exact Cover.bit hm rfl
    | exact Cover.bit hm (by dsimp only [Fld.block]; rfl)
    | (extract_lets -underBinder +onlyGivenNames x; refine (fun (hx : Good M s0 q x) => ?_) ?_; (on_goal 1 => try clear_value x); (on_goal 2 => subst x))
    | (extract_lets -underBinder +onlyGivenNames x; try clear_value x)
    | intro x
    | with_reducible apply good_setChain
    | with_reducible apply good_crumbChainDone
    | with_reducible apply good_offer
    | with_reducible apply good_freeSlot
    | with_reducible apply good_foldS
    | with_reducible apply good_ite)

theorem good_execAckReceived (a1) (a2) (a3) (a4) {s5 : State} (h5 : Good M s0 q s5) (hm : Cover 0x3000301CF000000000000100000870040 M) : OutGood M s0 q (execAckReceived a1 a2 a3 a4 s5) := by
  unfold execAckReceived
  repeat' (first
    | with_reducible assumption
    | exact Cover.sub hm rfl
    | exact Cover.bit hm rfl
    | exact Cover.bit hm (by dsimp only [Fld.block]; rfl)
    | (extract_lets -underBinder +onlyGivenNames x; refine (fun (hx : Good M s0 q x) => ?_) ?_; (on_goal 1 => try clear_value x); (on_goal 2 => subst x))
    | (extract_lets -underBinder +onlyGivenNames x; try clear_value x)
    | intro x
    | (simp only [good_mk_iff]; refine GoodParts.of (?_ : Good M s0 q _) rfl rfl rfl rfl)
    | with_reducible apply OutGood.of
    | with_reducible apply good_onCd
    | with_reducible apply good_rdxBump
    | with_reducible apply good_setConn
    | with_reducible apply good_chainDone
    | with_reducible apply good_foldS
    | with_reducible apply good_ite
    | with_reducible apply OutGood.ite
    | split)

theorem good_execNakReceived (a1) (a2) (a3) (a4) {s5 : State} (h5 : Good M s0 q s5) (hm : Cover 0x30003014F000000300000100000874040 M) : OutGood M s0 q (execNakReceived a1 a2 a3 a4 s5) := by
  unfold execNakReceived
  repeat' (first
    | with_reducible assumption
    | exact Cover.sub hm rfl
    | exact Cover.bit hm rfl
    | exact Cover.bit hm (by dsimp only [Fld.block]; rfl)
    | (extract_lets -underBinder +onlyGivenNames x; refine (fun (hx : Good M s0 q x) => ?_) ?_; (on_goal 1 => try clear_value x); (on_goal 2 => subst x))
    | (extract_lets -underBinder +onlyGivenNames x; try clear_value x)
    | intro x
    | (simp only [good_mk_iff]; refine GoodParts.of (?_ : Good M s0 q _) rfl rfl rfl rfl)
    | with_reducible apply OutGood.of
    | with_reducible apply good_onCd
    | with_reducible apply good_rdxBump
    | with_reducible apply good_retry
    | with_reducible apply good_connError
    | with_reducible apply good_ite)

theorem good_execRnrNakReceived (a1) (a2) (a3) (a4) {s5 : State} (h5 : Good M s0 q s5) (hm : Cover 0x30003014F000000000000100000870040 M) : OutGood M s0 q (execRnrNakReceived a1 a2 a3 a4 s5) := by
  unfold execRnrNakReceived
  repeat' (first
    | with_reducible assumption
    | exact Cover.sub hm rfl
    | exact Cover.bit hm rfl
    | exact Cover.bit hm (by dsimp only [Fld.block]; rfl)
    | (extract_lets -underBinder +onlyGivenNames x; refine (fun (hx : Good M s0 q x) => ?_) ?_; (on_goal 1 => try clear_value x); (on_goal 2 => subst x))
    | (extract_lets -underBinder +onlyGivenNames x; try clear_value x)
    | intro x
    | (simp only [good_mk_iff]; refine GoodParts.of (?_ : Good M s0 q _) rfl rfl rfl rfl)
    | with_reducible apply OutGood.of
    | with_reducible apply good_onCd
    | with_reducible apply good_rdxBump
    | with_reducible apply good_connError
    | with_reducible apply good_setConn
    | with_reducible apply good_ite)

theorem good_execRnrHoldExpiry (a1) (a2) {s3 : State} (h3 : Good M s0 q s3) (hm : Cover 0x3000000300000100000014041 M) : OutGood M s0 q (execRnrHoldExpiry a1 a2 s3) := by
  unfold execRnrHoldExpiry
  repeat' (first
    | with_reducible assumption
    | exact Cover.sub hm rfl
    | exact Cover.bit hm rfl
    | exact Cover.bit hm (by dsimp only [Fld.block]; rfl)
    | (extract_lets -underBinder +onlyGivenNames x; refine (fun (hx : Good M s0 q x) => ?_) ?_; (on_goal 1 => try clear_value x); (on_goal 2 => subst x))
    | (extract_lets -underBinder +onlyGivenNames x; try clear_value x)
    | intro x
    | (simp only [good_mk_iff]; refine GoodParts.of (?_ : Good M s0 q _) rfl rfl rfl rfl)
    | with_reducible apply OutGood.of
    | with_reducible apply good_onCd
    | with_reducible apply good_setConn
    | with_reducible apply good_advance
    | with_reducible apply good_resend
    | with_reducible apply good_ite
    | with_reducible apply OutGood.ite
    | split)

theorem good_execCnpReceived (a1) (a2) {s3 : State} (h3 : Good M s0 q s3) (hm : Cover 0x3000000000000100000010040 M) : OutGood M s0 q (execCnpReceived a1 a2 s3) := by
  unfold execCnpReceived
  repeat' (first
    | with_reducible assumption
    | exact Cover.sub hm rfl
    | exact Cover.bit hm rfl
    | exact Cover.bit hm (by dsimp only [Fld.block]; rfl)
    | (extract_lets -underBinder +onlyGivenNames x; try clear_value x)
    | intro x
    | (simp only [good_mk_iff]; refine GoodParts.of (?_ : Good M s0 q _) rfl rfl rfl rfl)
    | with_reducible apply OutGood.of
    | with_reducible apply good_onCd
    | with_reducible apply good_rdxBump
    | with_reducible apply good_setConn
    | with_reducible apply good_ite)

theorem good_execRateRecoverStep (a1) (a2) {s3 : State} (h3 : Good M s0 q s3) (hm : Cover 0x100000010041 M) : OutGood M s0 q (execRateRecoverStep a1 a2 s3) := by
  unfold execRateRecoverStep
  repeat' (first
    | with_reducible assumption
    | exact Cover.sub hm rfl
    | exact Cover.bit hm rfl
    | exact Cover.bit hm (by dsimp only [Fld.block]; rfl)
    | (extract_lets -underBinder +onlyGivenNames x; refine (fun (hx : Good M s0 q x) => ?_) ?_; (on_goal 1 => try clear_value x); (on_goal 2 => subst x))
    | (extract_lets -underBinder +onlyGivenNames x; try clear_value x)
    | intro x
    | (simp only [good_mk_iff]; refine GoodParts.of (?_ : Good M s0 q _) rfl rfl rfl rfl)
    | with_reducible apply OutGood.of
    | with_reducible apply good_onCd
    | with_reducible apply good_advance
    | with_reducible apply good_setConn
    | with_reducible apply good_ite)

theorem good_sendPackets {s1 : State} (h1 : Good M s0 q s1) (a2) (a3) (a4) (a5) (a6) (a7) (hm : Cover 0x3000000300000100000014040 M) : Good M s0 q (State.sendPackets s1 a2 a3 a4 a5 a6 a7) := by
  induction a7 generalizing s1 a6 with
  | zero => exact h1
  | succ k ih =>
    unfold State.sendPackets
    repeat' (first
      | with_reducible assumption
      | exact Cover.sub hm rfl
      | exact Cover.bit hm rfl
      | with_reducible apply ih
      | exact Cover.bit hm (by dsimp only [Fld.block]; rfl)
      | (extract_lets -underBinder +onlyGivenNames x; try clear_value x)
      | intro x
      | with_reducible apply good_setConn
      | with_reducible apply good_rdxBump
      | with_reducible apply good_rdmaOut
      | with_reducible apply good_emit)

theorem good_execWorkRequestSend (a1) (a2) (a3) {s4 : State} (h4 : Good M s0 q s4) (hm : Cover 0x14F000000300000100004074040 M) : OutGood M s0 q (execWorkRequestSend a1 a2 a3 s4) := by
  unfold execWorkRequestSend
  repeat' (first
    | with_reducible assumption
    | exact Cover.sub hm rfl
    | exact Cover.bit hm rfl
    | exact Cover.bit hm (by dsimp only [Fld.block]; rfl)
    | (extract_lets -underBinder +onlyGivenNames x; refine (fun (hx : Good M s0 q x) => ?_) ?_; (on_goal 1 => try clear_value x); (on_goal 2 => subst x))
    | (extract_lets -underBinder +onlyGivenNames x; try clear_value x)
    | intro x
    | (simp only [good_mk_iff]; refine GoodParts.of (?_ : Good M s0 q _) rfl rfl rfl rfl)
    | with_reducible apply OutGood.of
    | with_reducible apply good_onCd
    | with_reducible apply good_setChain
    | with_reducible apply good_chainFailed
    | with_reducible apply good_sendPackets
    | with_reducible apply good_emit
    | with_reducible apply good_ite)

theorem good_execRegionRegister (a1) (a2) {s3 : State} (h3 : Good M s0 q s3) (hm : Cover 0x300030003000000000000100000810040 M) : OutGood M s0 q (execRegionRegister a1 a2 s3) := by
  unfold execRegionRegister
  repeat' (first
    | with_reducible assumption
    | exact Cover.sub hm rfl
    | exact Cover.bit hm rfl
    | exact Cover.bit hm (by dsimp only [Fld.block]; rfl)
    | (extract_lets -underBinder +onlyGivenNames x; refine (fun (hx : Good M s0 q x) => ?_) ?_; (on_goal 1 => try clear_value x); (on_goal 2 => subst x))
    | (extract_lets -underBinder +onlyGivenNames x; try clear_value x)
    | intro x
    | (simp only [good_mk_iff]; refine GoodParts.of (?_ : Good M s0 q _) rfl rfl rfl rfl)
    | with_reducible apply OutGood.of
    | with_reducible apply good_onCd
    | with_reducible apply good_w
    | with_reducible apply good_tableEvent
    | with_reducible apply good_setRegion
    | with_reducible apply good_rdxBump
    | with_reducible apply good_ite)

theorem good_execRegionRevoke (a1) (a2) {s3 : State} (h3 : Good M s0 q s3) (hm : Cover 0x300030003000000000000100000810040 M) : OutGood M s0 q (execRegionRevoke a1 a2 s3) := by
  unfold execRegionRevoke
  repeat' (first
    | with_reducible assumption
    | exact Cover.sub hm rfl
    | exact Cover.bit hm rfl
    | exact Cover.bit hm (by dsimp only [Fld.block]; rfl)
    | (extract_lets -underBinder +onlyGivenNames x; try clear_value x)
    | intro x
    | (simp only [good_mk_iff]; refine GoodParts.of (?_ : Good M s0 q _) rfl rfl rfl rfl)
    | with_reducible apply OutGood.of
    | with_reducible apply good_onCd
    | with_reducible apply good_rdxBump
    | with_reducible apply good_w
    | with_reducible apply good_tableEvent
    | with_reducible apply good_setRegion
    | with_reducible apply good_ite)

theorem good_execRevocationComplete (a1) (a2) {s3 : State} (h3 : Good M s0 q s3) (hm : Cover 0x1000000000000000000010040 M) : OutGood M s0 q (execRevocationComplete a1 a2 s3) := by
  unfold execRevocationComplete
  repeat' (first
    | with_reducible assumption
    | exact Cover.sub hm rfl
    | exact Cover.bit hm rfl
    | exact Cover.bit hm (by dsimp only [Fld.block]; rfl)
    | (extract_lets -underBinder +onlyGivenNames x; try clear_value x)
    | intro x
    | with_reducible apply OutGood.of
    | with_reducible apply good_onCd
    | with_reducible apply good_revokeIfDone)

theorem good_execRevokeDonePop (a1) {s2 : State} (h2 : Good M s0 q s2) (hm : Cover 0x1000000000000000000010040 M) : OutGood M s0 q (execRevokeDonePop a1 s2) := by
  unfold execRevokeDonePop
  repeat' (first
    | with_reducible assumption
    | exact Cover.sub hm rfl
    | exact Cover.bit hm rfl
    | exact Cover.bit hm (by dsimp only [Fld.block]; rfl)
    | (extract_lets -underBinder +onlyGivenNames x; refine (fun (hx : Good M s0 q x) => ?_) ?_; (on_goal 1 => try clear_value x); (on_goal 2 => subst x))
    | (extract_lets -underBinder +onlyGivenNames x; try clear_value x)
    | intro x
    | (simp only [good_mk_iff]; refine GoodParts.of (?_ : Good M s0 q _) rfl rfl rfl rfl)
    | with_reducible apply OutGood.of
    | with_reducible apply good_onCd
    | with_reducible apply good_emit
    | with_reducible apply good_w
    | with_reducible apply good_wb)

theorem good_execChainArm (a1) (a2) (a3) (a4) (a5) {s6 : State} (h6 : Good M s0 q s6) (hm : Cover 0x1000000000000000000010000 M) : OutGood M s0 q (execChainArm a1 a2 a3 a4 a5 s6) := by
  unfold execChainArm
  repeat' (first
    | with_reducible assumption
    | exact Cover.sub hm rfl
    | exact Cover.bit hm rfl
    | exact Cover.bit hm (by dsimp only [Fld.block]; rfl)
    | (extract_lets -underBinder +onlyGivenNames x; try clear_value x)
    | intro x
    | (simp only [good_mk_iff]; refine GoodParts.of (?_ : Good M s0 q _) rfl rfl rfl rfl)
    | with_reducible apply OutGood.of
    | with_reducible apply good_onCd
    | with_reducible apply good_w
    | with_reducible apply good_setChain
    | with_reducible apply good_ite)

theorem good_execChainCancel (a1) (a2) {s3 : State} (h3 : Good M s0 q s3) (hm : Cover 0x1000000000000000000010000 M) : OutGood M s0 q (execChainCancel a1 a2 s3) := by
  unfold execChainCancel
  repeat' (first
    | with_reducible assumption
    | exact Cover.sub hm rfl
    | exact Cover.bit hm rfl
    | exact Cover.bit hm (by dsimp only [Fld.block]; rfl)
    | (extract_lets -underBinder +onlyGivenNames x; try clear_value x)
    | intro x
    | (simp only [good_mk_iff]; refine GoodParts.of (?_ : Good M s0 q _) rfl rfl rfl rfl)
    | with_reducible apply OutGood.of
    | with_reducible apply good_onCd
    | with_reducible apply good_w
    | with_reducible apply good_setChain
    | with_reducible apply good_ite)

theorem good_execChainFirmwareTrigger (a1) (a2) {s3 : State} (h3 : Good M s0 q s3) (hm : Cover 0x14F000000000000100000070040 M) : OutGood M s0 q (execChainFirmwareTrigger a1 a2 s3) := by
  unfold execChainFirmwareTrigger
  repeat' (first
    | with_reducible assumption
    | exact Cover.sub hm rfl
    | exact Cover.bit hm rfl
    | exact Cover.bit hm (by dsimp only [Fld.block]; rfl)
    | (extract_lets -underBinder +onlyGivenNames x; refine (fun (hx : Good M s0 q x) => ?_) ?_; (on_goal 1 => try clear_value x); (on_goal 2 => subst x))
    | (extract_lets -underBinder +onlyGivenNames x; try clear_value x)
    | intro x
    | (simp only [good_mk_iff]; refine GoodParts.of (?_ : Good M s0 q _) rfl rfl rfl rfl)
    | with_reducible apply OutGood.of
    | with_reducible apply good_onCd
    | with_reducible apply good_w
    | with_reducible apply good_raise)

theorem good_execChainTrigger (a1) (a2) (a3) (a4) (a5) {s6 : State} (h6 : Good M s0 q s6) (hm : Cover 0x14F000000000000100000070040 M) : OutGood M s0 q (execChainTrigger a1 a2 a3 a4 a5 s6) := by
  unfold execChainTrigger
  repeat' (first
    | with_reducible assumption
    | exact Cover.sub hm rfl
    | exact Cover.bit hm rfl
    | exact Cover.bit hm (by dsimp only [Fld.block]; rfl)
    | (extract_lets -underBinder +onlyGivenNames x; try clear_value x)
    | intro x
    | (simp only [good_mk_iff]; refine GoodParts.of (?_ : Good M s0 q _) rfl rfl rfl rfl)
    | with_reducible apply OutGood.of
    | with_reducible apply good_onCd
    | with_reducible apply good_chainFailed
    | with_reducible apply good_raise
    | with_reducible apply good_ite)

theorem good_execChainFailPop (a1) {s2 : State} (h2 : Good M s0 q s2) (hm : Cover 0x1000000000000000000010040 M) : OutGood M s0 q (execChainFailPop a1 s2) := by
  unfold execChainFailPop
  repeat' (first
    | with_reducible assumption
    | exact Cover.sub hm rfl
    | exact Cover.bit hm rfl
    | exact Cover.bit hm (by dsimp only [Fld.block]; rfl)
    | (extract_lets -underBinder +onlyGivenNames x; refine (fun (hx : Good M s0 q x) => ?_) ?_; (on_goal 1 => try clear_value x); (on_goal 2 => subst x))
    | (extract_lets -underBinder +onlyGivenNames x; try clear_value x)
    | intro x
    | (simp only [good_mk_iff]; refine GoodParts.of (?_ : Good M s0 q _) rfl rfl rfl rfl)
    | with_reducible apply OutGood.of
    | with_reducible apply good_onCd
    | with_reducible apply good_emit
    | with_reducible apply good_w
    | with_reducible apply good_wb)

theorem good_execRdxSnapshot (a1) (a2) {s3 : State} (h3 : Good M s0 q s3) (hm : Cover 0x1000000000000000000000008 M) : OutGood M s0 q (execRdxSnapshot a1 a2 s3) := by
  unfold execRdxSnapshot
  repeat' (first
    | with_reducible assumption
    | exact Cover.sub hm rfl
    | exact Cover.bit hm rfl
    | exact Cover.bit hm (by dsimp only [Fld.block]; rfl)
    | (extract_lets -underBinder +onlyGivenNames x; try clear_value x)
    | intro x
    | (simp only [good_mk_iff]; refine GoodParts.of (?_ : Good M s0 q _) rfl rfl rfl rfl)
    | with_reducible apply OutGood.of
    | with_reducible apply good_onDie
    | with_reducible apply good_snapshot)

end Sys2Proof.Machine
end

