-- ==== Sys2Proof/Laws/Commands.lean ====
section
/-! SUPPORT. What the operations of Machine/Commands.lean keep (see Laws/Keep.lean), one lemma for each. -/

set_option Elab.async false

set_option linter.all false

namespace Sys2Proof.Machine

variable {M : Nat} {s0 : State} {q : Prop}

theorem good_onSlot (a1) (a2) (a3) {s4 : State} (h4 : Good M s0 q s4) (f5) (h5 : ∀ x0 x1 x2, Good M s0 q (f5 x0 x1 x2)) : OutGood M s0 q (onSlot a1 a2 a3 s4 f5) := by
  unfold onSlot
  repeat' (first
    | with_reducible assumption
    | exact Cover.sub hm rfl
    | exact Cover.bit hm rfl
    | exact Cover.bit hm (by dsimp only [Fld.block]; rfl)
    | (extract_lets -underBinder +onlyGivenNames x; try clear_value x)
    | intro x
    | with_reducible apply OutGood.of
    | apply_assumption -exfalso -symm
    | with_reducible apply good_ite)

theorem good_onIo (a1) (a2) (a3) {s4 : State} (h4 : Good M s0 q s4) (f5) (h5 : ∀ x0 x1 x2, Good M s0 q (f5 x0 x1 x2)) : OutGood M s0 q (onIo a1 a2 a3 s4 f5) := by
  unfold onIo
  repeat' (first
    | with_reducible assumption
    | exact Cover.sub hm rfl
    | exact Cover.bit hm rfl
    | exact Cover.bit hm (by dsimp only [Fld.block]; rfl)
    | (extract_lets -underBinder +onlyGivenNames x; try clear_value x)
    | intro x
    | with_reducible apply OutGood.of
    | with_reducible apply good_onSlot
    | apply_assumption -exfalso -symm
    | with_reducible apply good_ite)

theorem good_onAdmin (a1) (a2) (a3) {s4 : State} (h4 : Good M s0 q s4) (f5) (h5 : ∀ x0 x1 x2, Good M s0 q (f5 x0 x1 x2)) : OutGood M s0 q (onAdmin a1 a2 a3 s4 f5) := by
  unfold onAdmin
  repeat' (first
    | with_reducible assumption
    | exact Cover.sub hm rfl
    | exact Cover.bit hm rfl
    | exact Cover.bit hm (by dsimp only [Fld.block]; rfl)
    | (extract_lets -underBinder +onlyGivenNames x; try clear_value x)
    | intro x
    | with_reducible apply OutGood.of
    | with_reducible apply good_onSlot
    | apply_assumption -exfalso -symm
    | with_reducible apply good_ite)

theorem good_onFabrics (a1) (a2) (a3) {s4 : State} (h4 : Good M s0 q s4) (f5) (h5 : ∀ x0 x1 x2, Good M s0 q (f5 x0 x1 x2)) : OutGood M s0 q (onFabrics a1 a2 a3 s4 f5) := by
  unfold onFabrics
  repeat' (first
    | with_reducible assumption
    | exact Cover.sub hm rfl
    | exact Cover.bit hm rfl
    | exact Cover.bit hm (by dsimp only [Fld.block]; rfl)
    | (extract_lets -underBinder +onlyGivenNames x; try clear_value x)
    | intro x
    | with_reducible apply OutGood.of
    | with_reducible apply good_onSlot
    | apply_assumption -exfalso -symm
    | with_reducible apply good_ite)

theorem good_refuseConnect {s1 : State} (h1 : Good M s0 q s1) (a2) (a3) (a4) (hm : Cover 0x14F000000000000100000070060 M) : Good M s0 q (State.refuseConnect s1 a2 a3 a4) := by
  unfold State.refuseConnect
  repeat' (first
    | with_reducible assumption
    | exact Cover.sub hm rfl
    | exact Cover.bit hm rfl
    | exact Cover.bit hm (by dsimp only [Fld.block]; rfl)
    | (extract_lets -underBinder +onlyGivenNames x; refine (fun (hx : Good M s0 q x) => ?_) ?_; (on_goal 1 => try clear_value x); (on_goal 2 => subst x))
    | (extract_lets -underBinder +onlyGivenNames x; try clear_value x)
    | intro x
    | with_reducible apply good_logEv
    | with_reducible apply good_completeWith
    | with_reducible apply good_setConn
    | with_reducible apply good_ite)

theorem good_execFabricsConnect (a1) (a2) (a3) (a4) (a5) (a6) (a7) (a8) (a9) {s10 : State} (h10 : Good M s0 q s10) (hm : Cover 0x14F000000000000100000070060 M) : OutGood M s0 q (execFabricsConnect a1 a2 a3 a4 a5 a6 a7 a8 a9 s10) := by
  unfold execFabricsConnect
  repeat' (first
    | with_reducible assumption
    | exact Cover.sub hm rfl
    | exact Cover.bit hm rfl
    | exact Cover.bit hm (by dsimp only [Fld.block]; rfl)
    | (extract_lets -underBinder +onlyGivenNames x; refine (fun (hx : Good M s0 q x) => ?_) ?_; (on_goal 1 => try clear_value x); (on_goal 2 => subst x))
    | (extract_lets -underBinder +onlyGivenNames x; try clear_value x)
    | intro x
    | (simp only [good_mk_iff]; refine GoodParts.of (?_ : Good M s0 q _) rfl rfl rfl rfl)
    | with_reducible apply OutGood.of
    | with_reducible apply good_onFabrics
    | with_reducible apply good_completeWith
    | with_reducible apply good_refuseConnect
    | with_reducible apply good_setCd
    | with_reducible apply good_setCtrl
    | with_reducible apply good_setSlot
    | with_reducible apply good_offer
    | with_reducible apply good_ite
    | with_reducible apply OutGood.ite
    | split)

theorem good_execFabricsDisconnect (a1) (a2) {s3 : State} (h3 : Good M s0 q s3) (hm : Cover 0x14F000000000000100000070040 M) : OutGood M s0 q (execFabricsDisconnect a1 a2 s3) := by
  unfold execFabricsDisconnect
  repeat' (first
    | with_reducible assumption
    | exact Cover.sub hm rfl
    | exact Cover.bit hm rfl
    | exact Cover.bit hm (by dsimp only [Fld.block]; rfl)
    | (extract_lets -underBinder +onlyGivenNames x; refine (fun (hx : Good M s0 q x) => ?_) ?_; (on_goal 1 => try clear_value x); (on_goal 2 => subst x))
    | (extract_lets -underBinder +onlyGivenNames x; try clear_value x)
    | intro x
    | (simp only [good_mk_iff]; refine GoodParts.of (?_ : Good M s0 q _) rfl rfl rfl rfl)
    | with_reducible apply OutGood.of
    | with_reducible apply good_onFabrics
    | with_reducible apply good_completeWith
    | with_reducible apply good_setConn
    | with_reducible apply good_ite)

theorem good_execPropertyGet (a1) (a2) {s3 : State} (h3 : Good M s0 q s3) (hm : Cover 0x14F000000000000100000070040 M) : OutGood M s0 q (execPropertyGet a1 a2 s3) := by
  unfold execPropertyGet
  repeat' (first
    | with_reducible assumption
    | exact Cover.sub hm rfl
    | exact Cover.bit hm rfl
    | exact Cover.bit hm (by dsimp only [Fld.block]; rfl)
    | (extract_lets -underBinder +onlyGivenNames x; try clear_value x)
    | intro x
    | with_reducible apply OutGood.of
    | with_reducible apply good_onFabrics
    | with_reducible apply good_completeWith
    | with_reducible apply good_ite
    | with_reducible apply OutGood.ite
    | split)

theorem good_execPropertySet (a1) (a2) {s3 : State} (h3 : Good M s0 q s3) (hm : Cover 0x14F000000000000100000070040 M) : OutGood M s0 q (execPropertySet a1 a2 s3) := by
  unfold execPropertySet
  repeat' (first
    | with_reducible assumption
    | exact Cover.sub hm rfl
    | exact Cover.bit hm rfl
    | exact Cover.bit hm (by dsimp only [Fld.block]; rfl)
    | (extract_lets -underBinder +onlyGivenNames x; try clear_value x)
    | intro x
    | (simp only [good_mk_iff]; refine GoodParts.of (?_ : Good M s0 q _) rfl rfl rfl rfl)
    | with_reducible apply OutGood.of
    | with_reducible apply good_onFabrics
    | with_reducible apply good_completeWith
    | with_reducible apply good_setCtrl
    | with_reducible apply good_ite
    | with_reducible apply OutGood.ite
    | split)

theorem good_execControllerShutdownComplete (a1) (a2) {s3 : State} (h3 : Good M s0 q s3) (hm : Cover 0x20000 M) : OutGood M s0 q (execControllerShutdownComplete a1 a2 s3) := by
  unfold execControllerShutdownComplete
  repeat' (first
    | with_reducible assumption
    | exact Cover.sub hm rfl
    | exact Cover.bit hm rfl
    | exact Cover.bit hm (by dsimp only [Fld.block]; rfl)
    | (extract_lets -underBinder +onlyGivenNames x; try clear_value x)
    | intro x
    | (simp only [good_mk_iff]; refine GoodParts.of (?_ : Good M s0 q _) rfl rfl rfl rfl)
    | with_reducible apply OutGood.of
    | with_reducible apply good_onCd
    | with_reducible apply good_setCtrl
    | with_reducible apply good_ite
    | with_reducible apply OutGood.ite
    | split)

theorem good_execIoFlush (a1) (a2) {s3 : State} (h3 : Good M s0 q s3) (hm : Cover 0x14F000000000000100000070040 M) : OutGood M s0 q (execIoFlush a1 a2 s3) := by
  unfold execIoFlush
  repeat' (first
    | with_reducible assumption
    | exact Cover.sub hm rfl
    | exact Cover.bit hm rfl
    | exact Cover.bit hm (by dsimp only [Fld.block]; rfl)
    | (extract_lets -underBinder +onlyGivenNames x; try clear_value x)
    | intro x
    | with_reducible apply OutGood.of
    | with_reducible apply good_onIo
    | with_reducible apply good_setSlot
    | with_reducible apply good_completeWith
    | with_reducible apply good_ite)

theorem good_execFlushConditionMet (a1) (a2) {s3 : State} (h3 : Good M s0 q s3) (hm : Cover 0x14F000000000000100000070040 M) : OutGood M s0 q (execFlushConditionMet a1 a2 s3) := by
  unfold execFlushConditionMet
  repeat' (first
    | with_reducible assumption
    | exact Cover.sub hm rfl
    | exact Cover.bit hm rfl
    | exact Cover.bit hm (by dsimp only [Fld.block]; rfl)
    | (extract_lets -underBinder +onlyGivenNames x; try clear_value x)
    | intro x
    | (simp only [good_mk_iff]; refine GoodParts.of (?_ : Good M s0 q _) rfl rfl rfl rfl)
    | with_reducible apply OutGood.of
    | with_reducible apply good_onCd
    | with_reducible apply good_completeWith
    | with_reducible apply good_ite)

theorem good_startWrite {s1 : State} (h1 : Good M s0 q s1) (a2) (a3) (hm : Cover 0xCC0C0000000000001C00102A0040 M) : Good M s0 q (State.startWrite s1 a2 a3) := by
  unfold State.startWrite
  repeat' (first
    | with_reducible assumption
    | exact Cover.sub hm rfl
    | exact Cover.bit hm rfl
    | exact Cover.bit hm (by dsimp only [Fld.block]; rfl)
    | (extract_lets -underBinder +onlyGivenNames x; try clear_value x)
    | intro x
    | with_reducible apply good_markRegions
    | with_reducible apply good_cmdBump
    | with_reducible apply good_setSlot)

theorem good_execIoWrite (a1) (a2) (a3) {s4 : State} (h4 : Good M s0 q s4) (hm : Cover 0x30003CDDF00000C0000001C0014AF0040 M) : OutGood M s0 q (execIoWrite a1 a2 a3 s4) := by
  unfold execIoWrite
  repeat' (first
    | with_reducible assumption
    | exact Cover.sub hm rfl
    | exact Cover.bit hm rfl
    | exact Cover.bit hm (by dsimp only [Fld.block]; rfl)
    | (extract_lets -underBinder +onlyGivenNames x; refine (fun (hx : Good M s0 q x) => ?_) ?_; (on_goal 1 => try clear_value x); (on_goal 2 => subst x))
    | (extract_lets -underBinder +onlyGivenNames x; try clear_value x)
    | intro x
    | (simp only [good_mk_iff]; refine GoodParts.of (?_ : Good M s0 q _) rfl rfl rfl rfl)
    | with_reducible apply OutGood.of
    | with_reducible apply good_onIo
    | with_reducible apply good_startWrite
    | with_reducible apply good_completeWith
    | with_reducible apply good_epRetry
    | with_reducible apply good_tryCommit
    | with_reducible apply good_reserveSpace
    | with_reducible apply good_ite
    | with_reducible apply OutGood.ite
    | split)

theorem good_execSpongeSpaceReserved (a1) (a2) (a3) {s4 : State} (h4 : Good M s0 q s4) (hm : Cover 0x30003CDDF00000C0000001C0014A70040 M) : OutGood M s0 q (execSpongeSpaceReserved a1 a2 a3 s4) := by
  unfold execSpongeSpaceReserved
  repeat' (first
    | with_reducible assumption
    | exact Cover.sub hm rfl
    | exact Cover.bit hm rfl
    | exact Cover.bit hm (by dsimp only [Fld.block]; rfl)
    | (extract_lets -underBinder +onlyGivenNames x; try clear_value x)
    | intro x
    | (simp only [good_mk_iff]; refine GoodParts.of (?_ : Good M s0 q _) rfl rfl rfl rfl)
    | with_reducible apply OutGood.of
    | with_reducible apply good_onCd
    | with_reducible apply good_epRetry
    | with_reducible apply good_tryCommit
    | with_reducible apply good_reserveSpace
    | with_reducible apply good_ite)

theorem good_execWriteCommit (a1) (a2) {s3 : State} (h3 : Good M s0 q s3) (hm : Cover 0x30003CDDF00000C0000001C0014A70040 M) : OutGood M s0 q (execWriteCommit a1 a2 s3) := by
  unfold execWriteCommit
  repeat' (first
    | with_reducible assumption
    | exact Cover.sub hm rfl
    | exact Cover.bit hm rfl
    | exact Cover.bit hm (by dsimp only [Fld.block]; rfl)
    | (extract_lets -underBinder +onlyGivenNames x; try clear_value x)
    | intro x
    | (simp only [good_mk_iff]; refine GoodParts.of (?_ : Good M s0 q _) rfl rfl rfl rfl)
    | with_reducible apply OutGood.of
    | with_reducible apply good_onCd
    | with_reducible apply good_epRetry
    | with_reducible apply good_tryCommit
    | with_reducible apply good_ite)

theorem good_execIoWriteZeroes (a1) (a2) {s3 : State} (h3 : Good M s0 q s3) (hm : Cover 0x30003CDDF0000000000001C0010AF0040 M) : OutGood M s0 q (execIoWriteZeroes a1 a2 s3) := by
  unfold execIoWriteZeroes
  repeat' (first
    | with_reducible assumption
    | exact Cover.sub hm rfl
    | exact Cover.bit hm rfl
    | exact Cover.bit hm (by dsimp only [Fld.block]; rfl)
    | (extract_lets -underBinder +onlyGivenNames x; try clear_value x)
    | intro x
    | with_reducible apply OutGood.of
    | with_reducible apply good_onIo
    | with_reducible apply good_tryCommit
    | with_reducible apply good_startWrite)

theorem good_execIoDatasetManagement (a1) (a2) {s3 : State} (h3 : Good M s0 q s3) (hm : Cover 0x30003CDDF0000000000001C0010AF0040 M) : OutGood M s0 q (execIoDatasetManagement a1 a2 s3) := by
  unfold execIoDatasetManagement
  repeat' (first
    | with_reducible assumption
    | exact Cover.sub hm rfl
    | exact Cover.bit hm rfl
    | exact Cover.bit hm (by dsimp only [Fld.block]; rfl)
    | (extract_lets -underBinder +onlyGivenNames x; try clear_value x)
    | intro x
    | with_reducible apply OutGood.of
    | with_reducible apply good_onIo
    | with_reducible apply good_tryCommit
    | with_reducible apply good_startWrite
    | with_reducible apply good_completeWith
    | with_reducible apply good_ite)

theorem good_readOrWait {s1 : State} (h1 : Good M s0 q s1) (a2) (a3) (a4) (hm : Cover 0x30003FDCF0000000000001C0010BF0060 M) : Good M s0 q (State.readOrWait s1 a2 a3 a4) := by
  unfold State.readOrWait
  repeat' (first
    | with_reducible assumption
    | exact Cover.sub hm rfl
    | exact Cover.bit hm rfl
    | exact Cover.bit hm (by dsimp only [Fld.block]; rfl)
    | (extract_lets -underBinder +onlyGivenNames x; refine (fun (hx : Good M s0 q x) => ?_) ?_; (on_goal 1 => try clear_value x); (on_goal 2 => subst x))
    | (extract_lets -underBinder +onlyGivenNames x; try clear_value x)
    | intro x
    | with_reducible apply good_cmdBump
    | with_reducible apply good_setSlot
    | with_reducible apply good_startRead
    | with_reducible apply good_ite)

theorem good_execIoRead (a1) (a2) (a3) {s4 : State} (h4 : Good M s0 q s4) (hm : Cover 0x30003FDCF00000C0000001C0014BF0060 M) : OutGood M s0 q (execIoRead a1 a2 a3 s4) := by
  unfold execIoRead
  repeat' (first
    | with_reducible assumption
    | exact Cover.sub hm rfl
    | exact Cover.bit hm rfl
    | exact Cover.bit hm (by dsimp only [Fld.block]; rfl)
    | (extract_lets -underBinder +onlyGivenNames x; refine (fun (hx : Good M s0 q x) => ?_) ?_; (on_goal 1 => try clear_value x); (on_goal 2 => subst x))
    | (extract_lets -underBinder +onlyGivenNames x; try clear_value x)
    | intro x
    | (simp only [good_mk_iff]; refine GoodParts.of (?_ : Good M s0 q _) rfl rfl rfl rfl)
    | with_reducible apply OutGood.of
    | with_reducible apply good_onIo
    | with_reducible apply good_readOrWait
    | with_reducible apply good_blockBroken
    | with_reducible apply good_eccShow
    | with_reducible apply good_foldS
    | with_reducible apply good_ite
    | with_reducible apply OutGood.ite
    | split)

theorem good_execReadWaitEnd (a1) (a2) {s3 : State} (h3 : Good M s0 q s3) (hm : Cover 0x30003FDCF0000000000001C0010BF0060 M) : OutGood M s0 q (execReadWaitEnd a1 a2 s3) := by
  unfold execReadWaitEnd
  repeat' (first
    | with_reducible assumption
    | exact Cover.sub hm rfl
    | exact Cover.bit hm rfl
    | exact Cover.bit hm (by dsimp only [Fld.block]; rfl)
    | (extract_lets -underBinder +onlyGivenNames x; try clear_value x)
    | intro x
    | (simp only [good_mk_iff]; refine GoodParts.of (?_ : Good M s0 q _) rfl rfl rfl rfl)
    | with_reducible apply OutGood.of
    | with_reducible apply good_onCd
    | with_reducible apply good_readOrWait
    | with_reducible apply good_ite)

theorem good_execReadAssembled (a1) (a2) {s3 : State} (h3 : Good M s0 q s3) (hm : Cover 0x14F000000000000100000070040 M) : OutGood M s0 q (execReadAssembled a1 a2 s3) := by
  unfold execReadAssembled
  repeat' (first
    | with_reducible assumption
    | exact Cover.sub hm rfl
    | exact Cover.bit hm rfl
    | exact Cover.bit hm (by dsimp only [Fld.block]; rfl)
    | (extract_lets -underBinder +onlyGivenNames x; try clear_value x)
    | intro x
    | (simp only [good_mk_iff]; refine GoodParts.of (?_ : Good M s0 q _) rfl rfl rfl rfl)
    | with_reducible apply OutGood.of
    | with_reducible apply good_onCd
    | with_reducible apply good_readDone
    | with_reducible apply good_ite)

theorem good_execResumeOpen (a1) (a2) {s3 : State} (h3 : Good M s0 q s3) (hm : Cover 0x14F000000000000100000070040 M) : OutGood M s0 q (execResumeOpen a1 a2 s3) := by
  unfold execResumeOpen
  repeat' (first
    | with_reducible assumption
    | exact Cover.sub hm rfl
    | exact Cover.bit hm rfl
    | exact Cover.bit hm (by dsimp only [Fld.block]; rfl)
    | (extract_lets -underBinder +onlyGivenNames x; refine (fun (hx : Good M s0 q x) => ?_) ?_; (on_goal 1 => try clear_value x); (on_goal 2 => subst x))
    | (extract_lets -underBinder +onlyGivenNames x; try clear_value x)
    | intro x
    | (simp only [good_mk_iff]; refine GoodParts.of (?_ : Good M s0 q _) rfl rfl rfl rfl)
    | with_reducible apply OutGood.of
    | with_reducible apply good_onFabrics
    | with_reducible apply good_completeWith
    | with_reducible apply good_setCd
    | with_reducible apply good_ite)

theorem good_sendOutcome {s1 : State} (h1 : Good M s0 q s1) (a2) (a3) (a4) (a5) (a6) (a7) (a8) (hm : Cover 0xC000000000000100000000040 M) : Good M s0 q (State.sendOutcome s1 a2 a3 a4 a5 a6 a7 a8) := by
  unfold State.sendOutcome
  repeat' (first
    | with_reducible assumption
    | exact Cover.sub hm rfl
    | exact Cover.bit hm rfl
    | exact Cover.bit hm (by dsimp only [Fld.block]; rfl)
    | (extract_lets -underBinder +onlyGivenNames x; try clear_value x)
    | intro x
    | with_reducible apply good_emit
    | with_reducible apply good_cmdBump)

theorem good_execResume (a1) (a2) {s3 : State} (h3 : Good M s0 q s3) (hm : Cover 0x14F000000000000100000070040 M) : OutGood M s0 q (execResume a1 a2 s3) := by
  unfold execResume
  repeat' (first
    | with_reducible assumption
    | exact Cover.sub hm rfl
    | (extract_lets -underBinder +onlyGivenNames x; refine (fun (hf : ∀ k : State → State, (∀ y, Good M s0 q y → Good M s0 q (k y)) → Good M s0 q (x k)) => ?_) ?_; (on_goal 1 => try clear_value x); (on_goal 2 => subst x))
    | (extract_lets -underBinder +onlyGivenNames x; refine (fun (hf : ∀ y, Good M s0 q y → ∀ a b, Good M s0 q (x y a b)) => ?_) ?_; (on_goal 1 => try clear_value x); (on_goal 2 => subst x))
    | exact Cover.bit hm rfl
    | exact Cover.bit hm (by dsimp only [Fld.block]; rfl)
    | (extract_lets -underBinder +onlyGivenNames x; refine (fun (hx : Good M s0 q x) => ?_) ?_; (on_goal 1 => try clear_value x); (on_goal 2 => subst x))
    | (extract_lets -underBinder +onlyGivenNames x; try clear_value x)
    | intro x
    | (simp only [good_mk_iff]; refine GoodParts.of (?_ : Good M s0 q _) rfl rfl rfl rfl)
    | with_reducible apply OutGood.of
    | with_reducible apply good_onFabrics
    | with_reducible apply good_completeWith
    | with_reducible apply good_setCd
    | with_reducible apply good_sendOutcome
    | with_reducible apply good_freeSlot
    | with_reducible apply good_holdOver
    | with_reducible apply good_foldS
    | apply_assumption -exfalso -symm
    | with_reducible apply good_ite
    | with_reducible apply OutGood.ite
    | split)

theorem good_execPushRegionInfo (a1) (a2) {s3 : State} (h3 : Good M s0 q s3) (hm : Cover 0x14F000000000000100000070040 M) : OutGood M s0 q (execPushRegionInfo a1 a2 s3) := by
  unfold execPushRegionInfo
  repeat' (first
    | with_reducible assumption
    | exact Cover.sub hm rfl
    | exact Cover.bit hm rfl
    | exact Cover.bit hm (by dsimp only [Fld.block]; rfl)
    | (extract_lets -underBinder +onlyGivenNames x; try clear_value x)
    | intro x
    | (simp only [good_mk_iff]; refine GoodParts.of (?_ : Good M s0 q _) rfl rfl rfl rfl)
    | with_reducible apply OutGood.of
    | with_reducible apply good_onFabrics
    | with_reducible apply good_completeWith
    | with_reducible apply good_ite
    | with_reducible apply OutGood.ite
    | split)

theorem good_decideAbort {s1 : State} (h1 : Good M s0 q s1) (a2) (a3) (a4) (hm : Cover 0x3000301CF000000000000100000B70040 M) : Good M s0 q (State.decideAbort s1 a2 a3 a4).1 := by
  unfold State.decideAbort
  repeat' (first
    | with_reducible assumption
    | exact Cover.sub hm rfl
    | exact Cover.bit hm rfl
    | exact Cover.bit hm (by dsimp only [Fld.block]; rfl)
    | (extract_lets -underBinder +onlyGivenNames x; try clear_value x)
    | intro x
    | (simp only [good_mk_iff]; refine GoodParts.of (?_ : Good M s0 q _) rfl rfl rfl rfl)
    | with_reducible apply good_cmdBump
    | refine good_abortSlot_eq (by assumption) ?_ ?_
    | with_reducible apply good_abortSlot
    | split)

theorem good_decideAbort_eq {s1 : State} {a2} {a3} {a4} {t} {b} (e : State.decideAbort s1 a2 a3 a4 = (t, b)) (h1 : Good M s0 q s1) (hm : Cover 0x3000301CF000000000000100000B70040 M) : Good M s0 q t := by
  have h := good_decideAbort h1 a2 a3 a4 hm
  rw [e] at h
  exact h

theorem good_execAbortCidWrite (a1) (a2) {s3 : State} (h3 : Good M s0 q s3) (hm : Cover 0x3000301CF000000000000100000B70040 M) : OutGood M s0 q (execAbortCidWrite a1 a2 s3) := by
  unfold execAbortCidWrite
  repeat' (first
    | with_reducible assumption
    | exact Cover.sub hm rfl
    | exact Cover.bit hm rfl
    | exact Cover.bit hm (by dsimp only [Fld.block]; rfl)
    | (extract_lets -underBinder +onlyGivenNames x; try clear_value x)
    | intro x
    | (simp only [good_mk_iff]; refine GoodParts.of (?_ : Good M s0 q _) rfl rfl rfl rfl)
    | with_reducible apply OutGood.of
    | with_reducible apply good_onCd
    | refine good_decideAbort_eq (by assumption) ?_ ?_
    | with_reducible apply good_decideAbort
    | with_reducible apply good_w)

theorem good_execAdminAbort (a1) (a2) {s3 : State} (h3 : Good M s0 q s3) (hm : Cover 0x3000301CF000000000000100000B70040 M) : OutGood M s0 q (execAdminAbort a1 a2 s3) := by
  unfold execAdminAbort
  repeat' (first
    | with_reducible assumption
    | exact Cover.sub hm rfl
    | exact Cover.bit hm rfl
    | exact Cover.bit hm (by dsimp only [Fld.block]; rfl)
    | (extract_lets -underBinder +onlyGivenNames x; refine (fun (hx : Good M s0 q x) => ?_) ?_; (on_goal 1 => try clear_value x); (on_goal 2 => subst x))
    | (extract_lets -underBinder +onlyGivenNames x; try clear_value x)
    | intro x
    | (simp only [good_mk_iff]; refine GoodParts.of (?_ : Good M s0 q _) rfl rfl rfl rfl)
    | with_reducible apply OutGood.of
    | with_reducible apply good_onAdmin
    | with_reducible apply good_completeWith
    | with_reducible apply good_w
    | refine good_decideAbort_eq (by assumption) ?_ ?_
    | with_reducible apply good_decideAbort
    | with_reducible apply good_setSlot
    | with_reducible apply good_setCd
    | with_reducible apply good_ite
    | with_reducible apply OutGood.ite
    | split)

theorem good_execAbortCancelAcknowledged (a1) (a2) {s3 : State} (h3 : Good M s0 q s3) (hm : Cover 0x14F000000000000100000070040 M) : OutGood M s0 q (execAbortCancelAcknowledged a1 a2 s3) := by
  unfold execAbortCancelAcknowledged
  repeat' (first
    | with_reducible assumption
    | exact Cover.sub hm rfl
    | exact Cover.bit hm rfl
    | exact Cover.bit hm (by dsimp only [Fld.block]; rfl)
    | (extract_lets -underBinder +onlyGivenNames x; try clear_value x)
    | intro x
    | (simp only [good_mk_iff]; refine GoodParts.of (?_ : Good M s0 q _) rfl rfl rfl rfl)
    | with_reducible apply OutGood.of
    | with_reducible apply good_onCd
    | with_reducible apply good_completeWith
    | with_reducible apply good_setCd
    | with_reducible apply good_ite
    | with_reducible apply OutGood.ite
    | split)

theorem good_execCmdGateWrite (a1) (a2) {s3 : State} (h3 : Good M s0 q s3) (hm : Cover 0x41400000C000000100004020040 M) : OutGood M s0 q (execCmdGateWrite a1 a2 s3) := by
  unfold execCmdGateWrite
  repeat' (first
    | with_reducible assumption
    | exact Cover.sub hm rfl
    | exact Cover.bit hm rfl
    | exact Cover.bit hm (by dsimp only [Fld.block]; rfl)
    | (extract_lets -underBinder +onlyGivenNames x; refine (fun (hx : Good M s0 q x) => ?_) ?_; (on_goal 1 => try clear_value x); (on_goal 2 => subst x))
    | (extract_lets -underBinder +onlyGivenNames x; try clear_value x)
    | intro x
    | (simp only [good_mk_iff]; refine GoodParts.of (?_ : Good M s0 q _) rfl rfl rfl rfl)
    | with_reducible apply OutGood.of
    | with_reducible apply good_onCd
    | with_reducible apply good_w
    | with_reducible apply good_nsmShow
    | with_reducible apply good_ite)

theorem good_execReplayFloorWrite (a1) (a2) {s3 : State} (h3 : Good M s0 q s3) (hm : Cover 0x4000000000000000000000000 M) : OutGood M s0 q (execReplayFloorWrite a1 a2 s3) := by
  unfold execReplayFloorWrite
  repeat' (first
    | with_reducible assumption
    | exact Cover.sub hm rfl
    | exact Cover.bit hm rfl
    | exact Cover.bit hm (by dsimp only [Fld.block]; rfl)
    | (extract_lets -underBinder +onlyGivenNames x; try clear_value x)
    | intro x
    | (simp only [good_mk_iff]; refine GoodParts.of (?_ : Good M s0 q _) rfl rfl rfl rfl)
    | with_reducible apply OutGood.of
    | with_reducible apply good_onCd
    | with_reducible apply good_w)

theorem good_endHold {s1 : State} (h1 : Good M s0 q s1) (a2) (a3) (hm : Cover 0x144000000000000000000060040 M) : Good M s0 q (State.endHold s1 a2 a3) := by
  unfold State.endHold
  repeat' (first
    | with_reducible assumption
    | exact Cover.sub hm rfl
    | exact Cover.bit hm rfl
    | exact Cover.bit hm (by dsimp only [Fld.block]; rfl)
    | (extract_lets -underBinder +onlyGivenNames x; try clear_value x)
    | intro x
    | with_reducible apply good_freeSlot
    | with_reducible apply good_holdOver)

theorem good_execOrphanHoldExpiry (a1) (a2) {s3 : State} (h3 : Good M s0 q s3) (hm : Cover 0x14C000000000000100000070041 M) : OutGood M s0 q (execOrphanHoldExpiry a1 a2 s3) := by
  unfold execOrphanHoldExpiry
  repeat' (first
    | with_reducible assumption
    | exact Cover.sub hm rfl
    | exact Cover.bit hm rfl
    | exact Cover.bit hm (by dsimp only [Fld.block]; rfl)
    | (extract_lets -underBinder +onlyGivenNames x; try clear_value x)
    | intro x
    | (simp only [good_mk_iff]; refine GoodParts.of (?_ : Good M s0 q _) rfl rfl rfl rfl)
    | with_reducible apply OutGood.of
    | with_reducible apply good_onCd
    | with_reducible apply good_offer
    | with_reducible apply good_endHold
    | with_reducible apply good_advance
    | with_reducible apply good_ite)

theorem good_execResumeHoldExpiry (a1) (a2) {s3 : State} (h3 : Good M s0 q s3) (hm : Cover 0x100000020041 M) : OutGood M s0 q (execResumeHoldExpiry a1 a2 s3) := by
  unfold execResumeHoldExpiry
  repeat' (first
    | with_reducible assumption
    | exact Cover.sub hm rfl
    | exact Cover.bit hm rfl
    | exact Cover.bit hm (by dsimp only [Fld.block]; rfl)
    | (extract_lets -underBinder +onlyGivenNames x; try clear_value x)
    | intro x
    | (simp only [good_mk_iff]; refine GoodParts.of (?_ : Good M s0 q _) rfl rfl rfl rfl)
    | with_reducible apply OutGood.of
    | with_reducible apply good_onCd
    | with_reducible apply good_setCd
    | with_reducible apply good_advance
    | with_reducible apply good_ite
    | with_reducible apply OutGood.ite
    | split)

theorem good_execTakeoverFilterExpiry (a1) {s2 : State} (h2 : Good M s0 q s2) (hm : Cover 0x100000020041 M) : OutGood M s0 q (execTakeoverFilterExpiry a1 s2) := by
  unfold execTakeoverFilterExpiry
  repeat' (first
    | with_reducible assumption
    | exact Cover.sub hm rfl
    | exact Cover.bit hm rfl
    | exact Cover.bit hm (by dsimp only [Fld.block]; rfl)
    | (extract_lets -underBinder +onlyGivenNames x; refine (fun (hx : Good M s0 q x) => ?_) ?_; (on_goal 1 => try clear_value x); (on_goal 2 => subst x))
    | (extract_lets -underBinder +onlyGivenNames x; try clear_value x)
    | intro x
    | (simp only [good_mk_iff]; refine GoodParts.of (?_ : Good M s0 q _) rfl rfl rfl rfl)
    | with_reducible apply OutGood.of
    | with_reducible apply good_onCd
    | with_reducible apply good_advance
    | with_reducible apply good_setCd
    | with_reducible apply good_ite
    | with_reducible apply OutGood.ite
    | split)

theorem good_execCmdSnapshot (a1) (a2) {s3 : State} (h3 : Good M s0 q s3) (hm : Cover 0x4000000000000000000000008 M) : OutGood M s0 q (execCmdSnapshot a1 a2 s3) := by
  unfold execCmdSnapshot
  repeat' (first
    | with_reducible assumption
    | exact Cover.sub hm rfl
    | exact Cover.bit hm rfl
    | exact Cover.bit hm (by dsimp only [Fld.block]; rfl)
    | (extract_lets -underBinder +onlyGivenNames x; try clear_value x)
    | intro x
    | with_reducible apply OutGood.of
    | with_reducible apply good_onDie
    | with_reducible apply good_snapshot)

end Sys2Proof.Machine
end

