-- ==== Sys2Proof/Laws/Admin.lean ====
section
/-! SUPPORT. What the operations of Machine/Admin.lean keep (see Laws/Keep.lean), one lemma for each. -/

set_option Elab.async false

set_option linter.all false

namespace Sys2Proof.Machine

variable {M : Nat} {s0 : State} {q : Prop}

theorem good_execKeepAlive (a1) (a2) {s3 : State} (h3 : Good M s0 q s3) (hm : Cover 0x14F000000000000100000070040 M) : OutGood M s0 q (execKeepAlive a1 a2 s3) := by
  unfold execKeepAlive
  repeat' (first
    | with_reducible assumption
    | exact Cover.sub hm rfl
    | exact Cover.bit hm rfl
    | exact Cover.bit hm (by dsimp only [Fld.block]; rfl)
    | (extract_lets -underBinder +onlyGivenNames x; try clear_value x)
    | intro x
    | with_reducible apply OutGood.of
    | with_reducible apply good_onAdmin
    | with_reducible apply good_completeWith
    | with_reducible apply good_setCtrl
    | with_reducible apply good_ite
    | with_reducible apply OutGood.ite
    | split)

theorem good_execKeepAliveTimeout (a1) (a2) {s3 : State} (h3 : Good M s0 q s3) (hm : Cover 0x30003014F000000000000100000870041 M) : OutGood M s0 q (execKeepAliveTimeout a1 a2 s3) := by
  unfold execKeepAliveTimeout
  repeat' (first
    | with_reducible assumption
    | exact Cover.sub hm rfl
    | exact Cover.bit hm rfl
    | exact Cover.bit hm (by dsimp only [Fld.block]; rfl)
    | (extract_lets -underBinder +onlyGivenNames x; refine (fun (hx : Good M s0 q x) => ?_) ?_; (on_goal 1 => try clear_value x); (on_goal 2 => subst x))
    | (extract_lets -underBinder +onlyGivenNames x; try clear_value x)
    | intro x
    | (simp only [good_mk_iff]; refine GoodParts.of (?_ : Good M s0 q _) rfl rfl rfl rfl)
    | with_reducible apply OutGood.of
    | with_reducible apply good_onCd
    | with_reducible apply good_advance
    | with_reducible apply good_connError
    | with_reducible apply good_setCd
    | with_reducible apply good_foldS
    | with_reducible apply good_ite
    | with_reducible apply OutGood.ite
    | split)

theorem good_execIdentify (a1) (a2) {s3 : State} (h3 : Good M s0 q s3) (hm : Cover 0x14F000000000000100000070040 M) : OutGood M s0 q (execIdentify a1 a2 s3) := by
  unfold execIdentify
  repeat' (first
    | with_reducible assumption
    | exact Cover.sub hm rfl
    | exact Cover.bit hm rfl
    | exact Cover.bit hm (by dsimp only [Fld.block]; rfl)
    | (extract_lets -underBinder +onlyGivenNames x; try clear_value x)
    | intro x
    | (simp only [good_mk_iff]; refine GoodParts.of (?_ : Good M s0 q _) rfl rfl rfl rfl)
    | with_reducible apply OutGood.of
    | with_reducible apply good_onAdmin
    | with_reducible apply good_completeWith
    | with_reducible apply good_emit
    | with_reducible apply good_ite
    | with_reducible apply OutGood.ite
    | split)

theorem good_execGetLogPage (a1) (a2) {s3 : State} (h3 : Good M s0 q s3) (hm : Cover 0x14F000000000000100000070040 M) : OutGood M s0 q (execGetLogPage a1 a2 s3) := by
  unfold execGetLogPage
  repeat' (first
    | with_reducible assumption
    | exact Cover.sub hm rfl
    | (extract_lets -underBinder +onlyGivenNames x; refine (fun (hf : ∀ k : State → State, (∀ y, Good M s0 q y → Good M s0 q (k y)) → Good M s0 q (x k)) => ?_) ?_; (on_goal 1 => try clear_value x); (on_goal 2 => subst x))
    | (extract_lets -underBinder +onlyGivenNames x; refine (fun (hf : ∀ y, Good M s0 q y → ∀ a, Good M s0 q (x y a)) => ?_) ?_; (on_goal 1 => try clear_value x); (on_goal 2 => subst x))
    | exact Cover.bit hm rfl
    | exact Cover.bit hm (by dsimp only [Fld.block]; rfl)
    | (extract_lets -underBinder +onlyGivenNames x; try clear_value x)
    | intro x
    | (simp only [good_mk_iff]; refine GoodParts.of (?_ : Good M s0 q _) rfl rfl rfl rfl)
    | with_reducible apply OutGood.of
    | with_reducible apply good_onAdmin
    | with_reducible apply good_completeWith
    | with_reducible apply good_emit
    | with_reducible apply good_setCtrl
    | apply_assumption -exfalso -symm
    | with_reducible apply good_ite
    | with_reducible apply OutGood.ite
    | split)

theorem good_execSetFeatures (a1) (a2) {s3 : State} (h3 : Good M s0 q s3) (hm : Cover 0x14F000000000000100000070040 M) : OutGood M s0 q (execSetFeatures a1 a2 s3) := by
  unfold execSetFeatures
  repeat' (first
    | with_reducible assumption
    | exact Cover.sub hm rfl
    | exact Cover.bit hm rfl
    | exact Cover.bit hm (by dsimp only [Fld.block]; rfl)
    | (extract_lets -underBinder +onlyGivenNames x; try clear_value x)
    | intro x
    | (simp only [good_mk_iff]; refine GoodParts.of (?_ : Good M s0 q _) rfl rfl rfl rfl)
    | with_reducible apply OutGood.of
    | with_reducible apply good_onAdmin
    | with_reducible apply good_completeWith
    | with_reducible apply good_setCtrl
    | with_reducible apply good_ite
    | with_reducible apply OutGood.ite
    | split)

theorem good_execGetFeatures (a1) (a2) {s3 : State} (h3 : Good M s0 q s3) (hm : Cover 0x14F000000000000100000070040 M) : OutGood M s0 q (execGetFeatures a1 a2 s3) := by
  unfold execGetFeatures
  repeat' (first
    | with_reducible assumption
    | exact Cover.sub hm rfl
    | exact Cover.bit hm rfl
    | exact Cover.bit hm (by dsimp only [Fld.block]; rfl)
    | (extract_lets -underBinder +onlyGivenNames x; try clear_value x)
    | intro x
    | with_reducible apply OutGood.of
    | with_reducible apply good_onAdmin
    | with_reducible apply good_completeWith
    | with_reducible apply good_emit
    | with_reducible apply good_ite
    | with_reducible apply OutGood.ite
    | split)

theorem good_execAsyncEventRequest (a1) (a2) {s3 : State} (h3 : Good M s0 q s3) (hm : Cover 0x14F000000000000100000070040 M) : OutGood M s0 q (execAsyncEventRequest a1 a2 s3) := by
  unfold execAsyncEventRequest
  repeat' (first
    | with_reducible assumption
    | exact Cover.sub hm rfl
    | exact Cover.bit hm rfl
    | exact Cover.bit hm (by dsimp only [Fld.block]; rfl)
    | (extract_lets -underBinder +onlyGivenNames x; try clear_value x)
    | intro x
    | (simp only [good_mk_iff]; refine GoodParts.of (?_ : Good M s0 q _) rfl rfl rfl rfl)
    | with_reducible apply OutGood.of
    | with_reducible apply good_onAdmin
    | with_reducible apply good_completeWith
    | with_reducible apply good_setCtrl
    | with_reducible apply good_ite
    | with_reducible apply OutGood.ite
    | split)

theorem good_resvDo {s1 : State} (h1 : Good M s0 q s1) (a2) (a3) (a4) (a5) (a6) (a7) (hm : Cover 0xC14F0000000000001C0010270040 M) : Good M s0 q (State.resvDo s1 a2 a3 a4 a5 a6 a7) := by
  unfold State.resvDo
  repeat' (first
    | with_reducible assumption
    | exact Cover.sub hm rfl
    | exact Cover.bit hm rfl
    | exact Cover.bit hm (by dsimp only [Fld.block]; rfl)
    | (extract_lets -underBinder +onlyGivenNames x; refine (fun (hx : Good M s0 q x) => ?_) ?_; (on_goal 1 => try clear_value x); (on_goal 2 => subst x))
    | (extract_lets -underBinder +onlyGivenNames x; try clear_value x)
    | intro x
    | (simp only [good_mk_iff]; refine GoodParts.of (?_ : Good M s0 q _) rfl rfl rfl rfl)
    | with_reducible apply good_completeWith
    | with_reducible apply good_setSlot
    | with_reducible apply good_setCd
    | with_reducible apply good_drvIssue
    | with_reducible apply good_ite
    | split)

theorem good_resvStart {s1 : State} (h1 : Good M s0 q s1) (a2) (a3) (f4) (h4 : ∀ x0, Good M s0 q (f4 x0)) (hm : Cover 0x4000000000000000000020000 M) : Good M s0 q (State.resvStart s1 a2 a3 f4) := by
  unfold State.resvStart
  repeat' (first
    | with_reducible assumption
    | exact Cover.sub hm rfl
    | exact Cover.bit hm rfl
    | exact Cover.bit hm (by dsimp only [Fld.block]; rfl)
    | (extract_lets -underBinder +onlyGivenNames x; try clear_value x)
    | intro x
    | with_reducible apply good_setSlot
    | apply_assumption -exfalso -symm
    | with_reducible apply good_ite)

theorem good_execReservationRegister (a1) (a2) {s3 : State} (h3 : Good M s0 q s3) (hm : Cover 0xC14F0000000000001C0010270040 M) : OutGood M s0 q (execReservationRegister a1 a2 s3) := by
  unfold execReservationRegister
  repeat' (first
    | with_reducible assumption
    | exact Cover.sub hm rfl
    | exact Cover.bit hm rfl
    | exact Cover.bit hm (by dsimp only [Fld.block]; rfl)
    | (extract_lets -underBinder +onlyGivenNames x; try clear_value x)
    | intro x
    | (simp only [good_mk_iff]; refine GoodParts.of (?_ : Good M s0 q _) rfl rfl rfl rfl)
    | with_reducible apply OutGood.of
    | with_reducible apply good_onIo
    | with_reducible apply good_resvStart
    | with_reducible apply good_resvDo
    | with_reducible apply good_ite
    | with_reducible apply OutGood.ite
    | split)

theorem good_execReservationReport (a1) (a2) {s3 : State} (h3 : Good M s0 q s3) (hm : Cover 0x14F000000000000100000070040 M) : OutGood M s0 q (execReservationReport a1 a2 s3) := by
  unfold execReservationReport
  repeat' (first
    | with_reducible assumption
    | exact Cover.sub hm rfl
    | exact Cover.bit hm rfl
    | exact Cover.bit hm (by dsimp only [Fld.block]; rfl)
    | (extract_lets -underBinder +onlyGivenNames x; try clear_value x)
    | intro x
    | (simp only [good_mk_iff]; refine GoodParts.of (?_ : Good M s0 q _) rfl rfl rfl rfl)
    | with_reducible apply OutGood.of
    | with_reducible apply good_onIo
    | with_reducible apply good_resvStart
    | with_reducible apply good_completeWith
    | with_reducible apply good_emit
    | with_reducible apply good_ite)

theorem good_execReservationAcquire (a1) (a2) {s3 : State} (h3 : Good M s0 q s3) (hm : Cover 0xC14F0000000000001C0010270040 M) : OutGood M s0 q (execReservationAcquire a1 a2 s3) := by
  unfold execReservationAcquire
  repeat' (first
    | with_reducible assumption
    | exact Cover.sub hm rfl
    | exact Cover.bit hm rfl
    | exact Cover.bit hm (by dsimp only [Fld.block]; rfl)
    | (extract_lets -underBinder +onlyGivenNames x; try clear_value x)
    | intro x
    | (simp only [good_mk_iff]; refine GoodParts.of (?_ : Good M s0 q _) rfl rfl rfl rfl)
    | with_reducible apply OutGood.of
    | with_reducible apply good_onIo
    | with_reducible apply good_resvStart
    | with_reducible apply good_resvDo
    | with_reducible apply good_ite)

theorem good_execReservationRelease (a1) (a2) {s3 : State} (h3 : Good M s0 q s3) (hm : Cover 0xC14F0000000000001C0010270040 M) : OutGood M s0 q (execReservationRelease a1 a2 s3) := by
  unfold execReservationRelease
  repeat' (first
    | with_reducible assumption
    | exact Cover.sub hm rfl
    | exact Cover.bit hm rfl
    | exact Cover.bit hm (by dsimp only [Fld.block]; rfl)
    | (extract_lets -underBinder +onlyGivenNames x; try clear_value x)
    | intro x
    | (simp only [good_mk_iff]; refine GoodParts.of (?_ : Good M s0 q _) rfl rfl rfl rfl)
    | with_reducible apply OutGood.of
    | with_reducible apply good_onIo
    | with_reducible apply good_resvStart
    | with_reducible apply good_resvDo
    | with_reducible apply good_ite
    | with_reducible apply OutGood.ite
    | split)

theorem good_resvNotify {s1 : State} (h1 : Good M s0 q s1) (a2) (a3) (a4) (a5) (hm : Cover 0x400000C000000100004020040 M) : Good M s0 q (State.resvNotify s1 a2 a3 a4 a5) := by
  unfold State.resvNotify
  repeat' (first
    | with_reducible assumption
    | exact Cover.sub hm rfl
    | exact Cover.bit hm rfl
    | exact Cover.bit hm (by dsimp only [Fld.block]; rfl)
    | (extract_lets -underBinder +onlyGivenNames x; try clear_value x)
    | intro x
    | with_reducible apply good_asyncEvent
    | with_reducible apply good_setCtrl
    | with_reducible apply good_ite
    | split)

theorem good_execReservationRecordWritten (a1) (a2) {s3 : State} (h3 : Good M s0 q s3) (hm : Cover 0x30003C1DF00000C0000001C0014B70040 M) : OutGood M s0 q (execReservationRecordWritten a1 a2 s3) := by
  unfold execReservationRecordWritten
  repeat' (first
    | with_reducible assumption
    | exact Cover.sub hm rfl
    | exact Cover.bit hm rfl
    | exact Cover.bit hm (by dsimp only [Fld.block]; rfl)
    | (extract_lets -underBinder +onlyGivenNames x; refine (fun (hx : Good M s0 q x) => ?_) ?_; (on_goal 1 => try clear_value x); (on_goal 2 => subst x))
    | (extract_lets -underBinder +onlyGivenNames x; try clear_value x)
    | intro x
    | (simp only [good_mk_iff]; refine GoodParts.of (?_ : Good M s0 q _) rfl rfl rfl rfl)
    | with_reducible apply OutGood.of
    | with_reducible apply good_onCd
    | with_reducible apply good_drvIssue
    | with_reducible apply good_drvTake
    | with_reducible apply good_spgBump
    | with_reducible apply good_setCd
    | with_reducible apply good_writeCrumb
    | with_reducible apply good_keyChain
    | with_reducible apply good_setSlot
    | refine good_abortSlot_eq (by assumption) ?_ ?_
    | with_reducible apply good_abortSlot
    | with_reducible apply good_resvNotify
    | with_reducible apply good_raise
    | with_reducible apply good_nsmShow
    | with_reducible apply good_ev
    | with_reducible apply good_foldS
    | with_reducible apply good_ite
    | with_reducible apply OutGood.ite
    | split)

theorem good_progressWrite {s1 : State} (h1 : Good M s0 q s1) (a2) (a3) (a4) (hm : Cover 0xC0000000000000001C0010200040 M) : Good M s0 q (State.progressWrite s1 a2 a3 a4) := by
  unfold State.progressWrite
  repeat' (first
    | with_reducible assumption
    | exact Cover.sub hm rfl
    | exact Cover.bit hm rfl
    | exact Cover.bit hm (by dsimp only [Fld.block]; rfl)
    | (extract_lets -underBinder +onlyGivenNames x; try clear_value x)
    | intro x
    | (simp only [good_mk_iff]; refine GoodParts.of (?_ : Good M s0 q _) rfl rfl rfl rfl)
    | with_reducible apply good_drvIssue
    | with_reducible apply good_foldS)

theorem good_setFormat {s1 : State} (h1 : Good M s0 q s1) (a2) (a3) (a4) (hm : Cover 0xC01400000C0000001C0014220040 M) : Good M s0 q (State.setFormat s1 a2 a3 a4) := by
  unfold State.setFormat
  repeat' (first
    | with_reducible assumption
    | exact Cover.sub hm rfl
    | exact Cover.bit hm rfl
    | exact Cover.bit hm (by dsimp only [Fld.block]; rfl)
    | (extract_lets -underBinder +onlyGivenNames x; refine (fun (hx : Good M s0 q x) => ?_) ?_; (on_goal 1 => try clear_value x); (on_goal 2 => subst x))
    | (extract_lets -underBinder +onlyGivenNames x; try clear_value x)
    | intro x
    | with_reducible apply good_setCd
    | with_reducible apply good_nsmShow
    | with_reducible apply good_progressWrite)

theorem good_setSanitize {s1 : State} (h1 : Good M s0 q s1) (a2) (a3) (hm : Cover 0xC4100000000000001C0010220040 M) : Good M s0 q (State.setSanitize s1 a2 a3) := by
  unfold State.setSanitize
  repeat' (first
    | with_reducible assumption
    | exact Cover.sub hm rfl
    | exact Cover.bit hm rfl
    | exact Cover.bit hm (by dsimp only [Fld.block]; rfl)
    | (extract_lets -underBinder +onlyGivenNames x; refine (fun (hx : Good M s0 q x) => ?_) ?_; (on_goal 1 => try clear_value x); (on_goal 2 => subst x))
    | (extract_lets -underBinder +onlyGivenNames x; try clear_value x)
    | intro x
    | with_reducible apply good_setCd
    | with_reducible apply good_progressWrite
    | with_reducible apply good_w
    | with_reducible apply good_chanShow)

theorem good_execFormatNvm (a1) (a2) {s3 : State} (h3 : Good M s0 q s3) (hm : Cover 0x30003C1DF00000C0000001C0014A70040 M) : OutGood M s0 q (execFormatNvm a1 a2 s3) := by
  unfold execFormatNvm
  repeat' (first
    | with_reducible assumption
    | exact Cover.sub hm rfl
    | exact Cover.bit hm rfl
    | exact Cover.bit hm (by dsimp only [Fld.block]; rfl)
    | (extract_lets -underBinder +onlyGivenNames x; refine (fun (hx : Good M s0 q x) => ?_) ?_; (on_goal 1 => try clear_value x); (on_goal 2 => subst x))
    | (extract_lets -underBinder +onlyGivenNames x; try clear_value x)
    | intro x
    | (simp only [good_mk_iff]; refine GoodParts.of (?_ : Good M s0 q _) rfl rfl rfl rfl)
    | with_reducible apply OutGood.of
    | with_reducible apply good_onAdmin
    | with_reducible apply good_completeWith
    | with_reducible apply good_spgBump
    | with_reducible apply good_writeCrumb
    | with_reducible apply good_setFormat
    | with_reducible apply good_setSlot
    | with_reducible apply good_ite
    | with_reducible apply OutGood.ite
    | split)

theorem good_retireStart {s1 : State} (h1 : Good M s0 q s1) (a2) (a3) (a4) (hm : Cover 0x140000000000000000000040040 M) : Good M s0 q (State.retireStart s1 a2 a3 a4) := by
  unfold State.retireStart
  repeat' (first
    | with_reducible assumption
    | exact Cover.sub hm rfl
    | exact Cover.bit hm rfl
    | exact Cover.bit hm (by dsimp only [Fld.block]; rfl)
    | intro x
    | with_reducible apply good_retireCrumb
    | with_reducible apply good_ite
    | split)

theorem good_execFormatDrainComplete (a1) (a2) {s3 : State} (h3 : Good M s0 q s3) (hm : Cover 0xCD5400000C0000001C00142E0040 M) : OutGood M s0 q (execFormatDrainComplete a1 a2 s3) := by
  unfold execFormatDrainComplete
  repeat' (first
    | with_reducible assumption
    | exact Cover.sub hm rfl
    | exact Cover.bit hm rfl
    | exact Cover.bit hm (by dsimp only [Fld.block]; rfl)
    | (extract_lets -underBinder +onlyGivenNames x; refine (fun (hx : Good M s0 q x) => ?_) ?_; (on_goal 1 => try clear_value x); (on_goal 2 => subst x))
    | (extract_lets -underBinder +onlyGivenNames x; try clear_value x)
    | intro x
    | (simp only [good_mk_iff]; refine GoodParts.of (?_ : Good M s0 q _) rfl rfl rfl rfl)
    | with_reducible apply OutGood.of
    | with_reducible apply good_onCd
    | with_reducible apply good_setFormat
    | with_reducible apply good_dropBlocks
    | with_reducible apply good_retireStart
    | with_reducible apply good_markRegions
    | with_reducible apply good_ite
    | with_reducible apply OutGood.ite
    | split)

theorem good_execSanitize (a1) (a2) {s3 : State} (h3 : Good M s0 q s3) (hm : Cover 0x30003FDDF00000C0000001C0014BF0062 M) : OutGood M s0 q (execSanitize a1 a2 s3) := by
  unfold execSanitize
  repeat' (first
    | with_reducible assumption
    | exact Cover.sub hm rfl
    | exact Cover.bit hm rfl
    | exact Cover.bit hm (by dsimp only [Fld.block]; rfl)
    | (extract_lets -underBinder +onlyGivenNames x; refine (fun (hx : Good M s0 q x) => ?_) ?_; (on_goal 1 => try clear_value x); (on_goal 2 => subst x))
    | (extract_lets -underBinder +onlyGivenNames x; try clear_value x)
    | intro x
    | (simp only [good_mk_iff]; refine GoodParts.of (?_ : Good M s0 q _) rfl rfl rfl rfl)
    | with_reducible apply OutGood.of
    | with_reducible apply good_onAdmin
    | with_reducible apply good_completeWith
    | with_reducible apply good_w
    | with_reducible apply good_spgBump
    | with_reducible apply good_writeCrumb
    | with_reducible apply good_setSanitize
    | with_reducible apply good_dropBlocks
    | with_reducible apply good_reshapeAtOnce
    | with_reducible apply good_retireStart
    | with_reducible apply good_ite)

theorem good_execZeroFillCheckpoint (a1) (a2) (a3) {s4 : State} (h4 : Good M s0 q s4) (hm : Cover 0xC41400000C0000001C0014220040 M) : OutGood M s0 q (execZeroFillCheckpoint a1 a2 a3 s4) := by
  unfold execZeroFillCheckpoint
  repeat' (first
    | with_reducible assumption
    | exact Cover.sub hm rfl
    | exact Cover.bit hm rfl
    | exact Cover.bit hm (by dsimp only [Fld.block]; rfl)
    | (extract_lets -underBinder +onlyGivenNames x; refine (fun (hx : Good M s0 q x) => ?_) ?_; (on_goal 1 => try clear_value x); (on_goal 2 => subst x))
    | (extract_lets -underBinder +onlyGivenNames x; try clear_value x)
    | intro x
    | (simp only [good_mk_iff]; refine GoodParts.of (?_ : Good M s0 q _) rfl rfl rfl rfl)
    | with_reducible apply OutGood.of
    | with_reducible apply good_onCd
    | with_reducible apply good_bgWrote
    | with_reducible apply good_bgCharge
    | with_reducible apply good_setFormat
    | with_reducible apply good_setSanitize
    | with_reducible apply good_ite
    | with_reducible apply OutGood.ite
    | split)

theorem good_outcomeKept {s1 : State} (h1 : Good M s0 q s1) (a2) (a3) (a4) (hm : Cover 0x14C000000000000100000060040 M) : Good M s0 q (State.outcomeKept s1 a2 a3 a4) := by
  unfold State.outcomeKept
  repeat' (first
    | with_reducible assumption
    | exact Cover.sub hm rfl
    | exact Cover.bit hm rfl
    | exact Cover.bit hm (by dsimp only [Fld.block]; rfl)
    | (extract_lets -underBinder +onlyGivenNames x; try clear_value x)
    | intro x
    | with_reducible apply good_orphan
    | with_reducible apply good_setSlot
    | with_reducible apply good_ite
    | split)

theorem good_execFormatFillComplete (a1) (a2) {s3 : State} (h3 : Good M s0 q s3) (hm : Cover 0xC55F00000C0000001C00142F0040 M) : OutGood M s0 q (execFormatFillComplete a1 a2 s3) := by
  unfold execFormatFillComplete
  repeat' (first
    | with_reducible assumption
    | exact Cover.sub hm rfl
    | exact Cover.bit hm rfl
    | exact Cover.bit hm (by dsimp only [Fld.block]; rfl)
    | (extract_lets -underBinder +onlyGivenNames x; refine (fun (hx : Good M s0 q x) => ?_) ?_; (on_goal 1 => try clear_value x); (on_goal 2 => subst x))
    | (extract_lets -underBinder +onlyGivenNames x; try clear_value x)
    | intro x
    | (simp only [good_mk_iff]; refine GoodParts.of (?_ : Good M s0 q _) rfl rfl rfl rfl)
    | with_reducible apply OutGood.of
    | with_reducible apply good_onCd
    | with_reducible apply good_deferClear
    | with_reducible apply good_setFormat
    | with_reducible apply good_setGrp
    | with_reducible apply good_ev
    | with_reducible apply good_completeWith
    | with_reducible apply good_outcomeKept
    | with_reducible apply good_ite
    | with_reducible apply OutGood.ite
    | split)

theorem good_execSanitizeFillComplete (a1) (a2) {s3 : State} (h3 : Good M s0 q s3) (hm : Cover 0xC4140000000000001C0010220040 M) : OutGood M s0 q (execSanitizeFillComplete a1 a2 s3) := by
  unfold execSanitizeFillComplete
  repeat' (first
    | with_reducible assumption
    | exact Cover.sub hm rfl
    | exact Cover.bit hm rfl
    | exact Cover.bit hm (by dsimp only [Fld.block]; rfl)
    | (extract_lets -underBinder +onlyGivenNames x; refine (fun (hx : Good M s0 q x) => ?_) ?_; (on_goal 1 => try clear_value x); (on_goal 2 => subst x))
    | (extract_lets -underBinder +onlyGivenNames x; try clear_value x)
    | intro x
    | (simp only [good_mk_iff]; refine GoodParts.of (?_ : Good M s0 q _) rfl rfl rfl rfl)
    | with_reducible apply OutGood.of
    | with_reducible apply good_onCd
    | with_reducible apply good_setSanitize
    | with_reducible apply good_deferClear
    | with_reducible apply good_w
    | with_reducible apply good_chanShow
    | with_reducible apply good_ev
    | with_reducible apply good_foldS
    | with_reducible apply good_ite
    | with_reducible apply OutGood.ite
    | split)

theorem good_execClearDeferredRange (a1) (a2) (a3) (a4) {s5 : State} (h5 : Good M s0 q s5) (hm : Cover 0xC0040000000000001C0010220040 M) : OutGood M s0 q (execClearDeferredRange a1 a2 a3 a4 s5) := by
  unfold execClearDeferredRange
  repeat' (first
    | with_reducible assumption
    | exact Cover.sub hm rfl
    | exact Cover.bit hm rfl
    | exact Cover.bit hm (by dsimp only [Fld.block]; rfl)
    | (extract_lets -underBinder +onlyGivenNames x; try clear_value x)
    | intro x
    | with_reducible apply OutGood.of
    | with_reducible apply good_emit
    | with_reducible apply good_deferClear
    | with_reducible apply good_ite
    | with_reducible apply OutGood.ite
    | split)

theorem good_execNamespaceDrainLimitExpiry (a1) (a2) {s3 : State} (h3 : Good M s0 q s3) (hm : Cover 0x3000301CF000000000000100000B70041 M) : OutGood M s0 q (execNamespaceDrainLimitExpiry a1 a2 s3) := by
  unfold execNamespaceDrainLimitExpiry
  repeat' (first
    | with_reducible assumption
    | exact Cover.sub hm rfl
    | exact Cover.bit hm rfl
    | exact Cover.bit hm (by dsimp only [Fld.block]; rfl)
    | (extract_lets -underBinder +onlyGivenNames x; refine (fun (hx : Good M s0 q x) => ?_) ?_; (on_goal 1 => try clear_value x); (on_goal 2 => subst x))
    | (extract_lets -underBinder +onlyGivenNames x; try clear_value x)
    | intro x
    | (simp only [good_mk_iff]; refine GoodParts.of (?_ : Good M s0 q _) rfl rfl rfl rfl)
    | with_reducible apply OutGood.of
    | with_reducible apply good_onCd
    | with_reducible apply good_reachTs
    | refine good_abortSlot_eq (by assumption) ?_ ?_
    | with_reducible apply good_abortSlot
    | with_reducible apply good_foldS
    | with_reducible apply good_ite
    | with_reducible apply OutGood.ite
    | split)

theorem good_execNamespaceDrainComplete (a1) (a2) {s3 : State} (h3 : Good M s0 q s3) (hm : Cover 0xC01400000C0000001C0014220040 M) : OutGood M s0 q (execNamespaceDrainComplete a1 a2 s3) := by
  unfold execNamespaceDrainComplete
  repeat' (first
    | with_reducible assumption
    | exact Cover.sub hm rfl
    | exact Cover.bit hm rfl
    | exact Cover.bit hm (by dsimp only [Fld.block]; rfl)
    | (extract_lets -underBinder +onlyGivenNames x; refine (fun (hx : Good M s0 q x) => ?_) ?_; (on_goal 1 => try clear_value x); (on_goal 2 => subst x))
    | (extract_lets -underBinder +onlyGivenNames x; try clear_value x)
    | intro x
    | (simp only [good_mk_iff]; refine GoodParts.of (?_ : Good M s0 q _) rfl rfl rfl rfl)
    | with_reducible apply OutGood.of
    | with_reducible apply good_onCd
    | with_reducible apply good_setCd
    | with_reducible apply good_deferClear
    | with_reducible apply good_nsmShow
    | with_reducible apply good_ev
    | with_reducible apply good_setCtrl
    | with_reducible apply good_asyncEvent
    | with_reducible apply good_foldS
    | with_reducible apply good_ite
    | with_reducible apply OutGood.ite
    | split)

end Sys2Proof.Machine
end

