-- ==== Sys2Proof/Laws/Sponge.lean ====
section
/-! SUPPORT. What the operations of Machine/Sponge.lean keep (see Laws/Keep.lean), one lemma for each. -/

set_option Elab.async false

set_option linter.all false

namespace Sys2Proof.Machine

variable {M : Nat} {s0 : State} {q : Prop}

theorem good_execEvictionStep (a1) {s2 : State} (h2 : Good M s0 q s2) (hm : Cover 0x1C0000000000000100000040040 M) : OutGood M s0 q (execEvictionStep a1 s2) := by
  unfold execEvictionStep
  repeat' (first
    | with_reducible assumption
    | exact Cover.sub hm rfl
    | exact Cover.bit hm rfl
    | exact Cover.bit hm (by dsimp only [Fld.block]; rfl)
    | (extract_lets -underBinder +onlyGivenNames x; try clear_value x)
    | intro x
    | (simp only [good_mk_iff]; refine GoodParts.of (?_ : Good M s0 q _) rfl rfl rfl rfl)
    | with_reducible apply OutGood.of
    | with_reducible apply good_onCd
    | with_reducible apply good_setSp
    | with_reducible apply good_spgBump
    | with_reducible apply good_ite
    | with_reducible apply OutGood.ite
    | split)

theorem good_execHoldTimeAdjust (a1) (a2) {s3 : State} (h3 : Good M s0 q s3) (hm : Cover 0x140000000000000100000040041 M) : OutGood M s0 q (execHoldTimeAdjust a1 a2 s3) := by
  unfold execHoldTimeAdjust
  repeat' (first
    | with_reducible assumption
    | exact Cover.sub hm rfl
    | exact Cover.bit hm rfl
    | exact Cover.bit hm (by dsimp only [Fld.block]; rfl)
    | (extract_lets -underBinder +onlyGivenNames x; refine (fun (hx : Good M s0 q x) => ?_) ?_; (on_goal 1 => try clear_value x); (on_goal 2 => subst x))
    | (extract_lets -underBinder +onlyGivenNames x; try clear_value x)
    | intro x
    | (simp only [good_mk_iff]; refine GoodParts.of (?_ : Good M s0 q _) rfl rfl rfl rfl)
    | with_reducible apply OutGood.of
    | with_reducible apply good_onCd
    | with_reducible apply good_reachTs
    | with_reducible apply good_setSp
    | with_reducible apply good_w
    | with_reducible apply good_ite)

theorem good_execRetireCrumbWrite (a1) (a2) {s3 : State} (h3 : Good M s0 q s3) (hm : Cover 0x3000301C0000000000000100000840040 M) : OutGood M s0 q (execRetireCrumbWrite a1 a2 s3) := by
  unfold execRetireCrumbWrite
  repeat' (first
    | with_reducible assumption
    | exact Cover.sub hm rfl
    | exact Cover.bit hm rfl
    | exact Cover.bit hm (by dsimp only [Fld.block]; rfl)
    | (extract_lets -underBinder +onlyGivenNames x; try clear_value x)
    | intro x
    | (simp only [good_mk_iff]; refine GoodParts.of (?_ : Good M s0 q _) rfl rfl rfl rfl)
    | with_reducible apply OutGood.of
    | with_reducible apply good_onCd
    | with_reducible apply good_retireCrumb
    | with_reducible apply good_writeCrumb
    | with_reducible apply good_ite
    | with_reducible apply OutGood.ite
    | split)

theorem good_execMirrorCrumbsReceived (a1) (a2) (a3) (a4) {s5 : State} (h5 : Good M s0 q s5) (hm : Cover 0x140000000000000000000040000 M) : OutGood M s0 q (execMirrorCrumbsReceived a1 a2 a3 a4 s5) := by
  unfold execMirrorCrumbsReceived
  repeat' (first
    | with_reducible assumption
    | exact Cover.sub hm rfl
    | exact Cover.bit hm rfl
    | exact Cover.bit hm (by dsimp only [Fld.block]; rfl)
    | (extract_lets -underBinder +onlyGivenNames x; try clear_value x)
    | intro x
    | (simp only [good_mk_iff]; refine GoodParts.of (?_ : Good M s0 q _) rfl rfl rfl rfl)
    | with_reducible apply OutGood.of
    | with_reducible apply good_onCd
    | with_reducible apply good_setSp
    | with_reducible apply good_ite)

theorem good_standbyRetire {s1 : State} (h1 : Good M s0 q s1) (a2) (a3) (hm : Cover 0x140000000000000000000040040 M) : Good M s0 q (State.standbyRetire s1 a2 a3) := by
  unfold State.standbyRetire
  repeat' (first
    | with_reducible assumption
    | exact Cover.sub hm rfl
    | exact Cover.bit hm rfl
    | exact Cover.bit hm (by dsimp only [Fld.block]; rfl)
    | (extract_lets -underBinder +onlyGivenNames x; refine (fun (hx : Good M s0 q x) => ?_) ?_; (on_goal 1 => try clear_value x); (on_goal 2 => subst x))
    | (extract_lets -underBinder +onlyGivenNames x; try clear_value x)
    | intro x
    | (simp only [good_mk_iff]; refine GoodParts.of (?_ : Good M s0 q _) rfl rfl rfl rfl)
    | with_reducible apply good_retireCrumb
    | with_reducible apply good_mapRing
    | with_reducible apply good_mapIndex
    | with_reducible apply good_setSp
    | with_reducible apply good_crumbShow
    | with_reducible apply good_ite
    | split)

theorem good_execMirrorCrumbPlaced (a1) {s2 : State} (h2 : Good M s0 q s2) (hm : Cover 0x1CC000000000000100000040040 M) : OutGood M s0 q (execMirrorCrumbPlaced a1 s2) := by
  unfold execMirrorCrumbPlaced
  repeat' (first
    | with_reducible assumption
    | exact Cover.sub hm rfl
    | exact Cover.bit hm rfl
    | exact Cover.bit hm (by dsimp only [Fld.block]; rfl)
    | (extract_lets -underBinder +onlyGivenNames x; refine (fun (hx : Good M s0 q x) => ?_) ?_; (on_goal 1 => try clear_value x); (on_goal 2 => subst x))
    | (extract_lets -underBinder +onlyGivenNames x; try clear_value x)
    | intro x
    | (simp only [good_mk_iff]; refine GoodParts.of (?_ : Good M s0 q _) rfl rfl rfl rfl)
    | with_reducible apply OutGood.of
    | with_reducible apply good_onCd
    | with_reducible apply good_commitBlocks
    | with_reducible apply good_commitRange
    | with_reducible apply good_setSp
    | with_reducible apply good_crumbShow
    | with_reducible apply good_standbyRetire
    | with_reducible apply good_w
    | with_reducible apply good_ite
    | with_reducible apply OutGood.ite
    | split)

theorem good_execMirrorAckSend (a1) {s2 : State} (h2 : Good M s0 q s2) (hm : Cover 0x300030140000000000000100000840040 M) : OutGood M s0 q (execMirrorAckSend a1 s2) := by
  unfold execMirrorAckSend
  repeat' (first
    | with_reducible assumption
    | exact Cover.sub hm rfl
    | exact Cover.bit hm rfl
    | exact Cover.bit hm (by dsimp only [Fld.block]; rfl)
    | (extract_lets -underBinder +onlyGivenNames x; try clear_value x)
    | intro x
    | (simp only [good_mk_iff]; refine GoodParts.of (?_ : Good M s0 q _) rfl rfl rfl rfl)
    | with_reducible apply OutGood.of
    | with_reducible apply good_onCd
    | with_reducible apply good_sendPartner
    | with_reducible apply good_pairBump
    | with_reducible apply good_w
    | with_reducible apply good_setSp
    | with_reducible apply good_ite)

theorem good_mirrorAcked {s1 : State} (h1 : Good M s0 q s1) (a2) (a3) (hm : Cover 0x14F000000000000100000070040 M) : Good M s0 q (State.mirrorAcked s1 a2 a3) := by
  unfold State.mirrorAcked
  repeat' (first
    | with_reducible assumption
    | exact Cover.sub hm rfl
    | exact Cover.bit hm rfl
    | exact Cover.bit hm (by dsimp only [Fld.block]; rfl)
    | (extract_lets -underBinder +onlyGivenNames x; refine (fun (hx : Good M s0 q x) => ?_) ?_; (on_goal 1 => try clear_value x); (on_goal 2 => subst x))
    | (extract_lets -underBinder +onlyGivenNames x; try clear_value x)
    | intro x
    | with_reducible apply good_w
    | with_reducible apply good_mapRing
    | with_reducible apply good_crumbShow
    | with_reducible apply good_raise
    | with_reducible apply good_foldS
    | with_reducible apply good_ite)

theorem good_tableAcked {s1 : State} (h1 : Good M s0 q s1) (a2) (a3) (hm : Cover 0x100000000000000000000000000000000 M) : Good M s0 q (State.tableAcked s1 a2 a3) := by
  unfold State.tableAcked
  repeat' (first
    | with_reducible assumption
    | exact Cover.sub hm rfl
    | exact Cover.bit hm rfl
    | exact Cover.bit hm (by dsimp only [Fld.block]; rfl)
    | (extract_lets -underBinder +onlyGivenNames x; refine (fun (hx : Good M s0 q x) => ?_) ?_; (on_goal 1 => try clear_value x); (on_goal 2 => subst x))
    | (extract_lets -underBinder +onlyGivenNames x; try clear_value x)
    | intro x
    | with_reducible apply good_w
    | with_reducible apply good_wbit
    | with_reducible apply good_foldS
    | with_reducible apply good_ite)

theorem good_execMirrorAckReceived (a1) (a2) (a3) {s4 : State} (h4 : Good M s0 q s4) (hm : Cover 0x1000001CF00000C000000100004070040 M) : OutGood M s0 q (execMirrorAckReceived a1 a2 a3 s4) := by
  unfold execMirrorAckReceived
  repeat' (first
    | with_reducible assumption
    | exact Cover.sub hm rfl
    | exact Cover.bit hm rfl
    | exact Cover.bit hm (by dsimp only [Fld.block]; rfl)
    | (extract_lets -underBinder +onlyGivenNames x; try clear_value x)
    | intro x
    | (simp only [good_mk_iff]; refine GoodParts.of (?_ : Good M s0 q _) rfl rfl rfl rfl)
    | with_reducible apply OutGood.of
    | with_reducible apply good_onCd
    | with_reducible apply good_epRetry
    | with_reducible apply good_mirrorAcked
    | with_reducible apply good_tableAcked
    | with_reducible apply good_spgBump
    | with_reducible apply good_ite)

theorem good_execMirrorMatchTimeout (a1) {s2 : State} (h2 : Good M s0 q s2) (hm : Cover 0x40000000000000100000040041 M) : OutGood M s0 q (execMirrorMatchTimeout a1 s2) := by
  unfold execMirrorMatchTimeout
  repeat' (first
    | with_reducible assumption
    | exact Cover.sub hm rfl
    | exact Cover.bit hm rfl
    | exact Cover.bit hm (by dsimp only [Fld.block]; rfl)
    | (extract_lets -underBinder +onlyGivenNames x; refine (fun (hx : Good M s0 q x) => ?_) ?_; (on_goal 1 => try clear_value x); (on_goal 2 => subst x))
    | (extract_lets -underBinder +onlyGivenNames x; try clear_value x)
    | intro x
    | (simp only [good_mk_iff]; refine GoodParts.of (?_ : Good M s0 q _) rfl rfl rfl rfl)
    | with_reducible apply OutGood.of
    | with_reducible apply good_onCd
    | with_reducible apply good_ev
    | with_reducible apply good_advance
    | with_reducible apply good_ite
    | with_reducible apply OutGood.ite
    | split)

theorem good_uncorrectable {s1 : State} (h1 : Good M s0 q s1) (a2) (a3) (a4) (hm : Cover 0x30003C14F00000C0000001C0014B70060 M) : Good M s0 q (State.uncorrectable s1 a2 a3 a4) := by
  unfold State.uncorrectable
  repeat' (first
    | with_reducible assumption
    | exact Cover.sub hm rfl
    | exact Cover.bit hm rfl
    | exact Cover.bit hm (by dsimp only [Fld.block]; rfl)
    | (extract_lets -underBinder +onlyGivenNames x; try clear_value x)
    | intro x
    | (simp only [good_mk_iff]; refine GoodParts.of (?_ : Good M s0 q _) rfl rfl rfl rfl)
    | with_reducible apply good_blockBroken
    | with_reducible apply good_askRepair
    | with_reducible apply good_mapRing
    | with_reducible apply good_crumbLost
    | with_reducible apply good_ev
    | with_reducible apply good_readFails
    | with_reducible apply good_completeWith
    | with_reducible apply good_chainFailed
    | with_reducible apply good_ite
    | split)

theorem good_execScrubLine (a1) (a2) (a3) (a4) {s5 : State} (h5 : Good M s0 q s5) (hm : Cover 0x30003C1CF00000C0000001C0014B70060 M) : OutGood M s0 q (execScrubLine a1 a2 a3 a4 s5) := by
  unfold execScrubLine
  repeat' (first
    | with_reducible assumption
    | exact Cover.sub hm rfl
    | exact Cover.bit hm rfl
    | exact Cover.bit hm (by dsimp only [Fld.block]; rfl)
    | (extract_lets -underBinder +onlyGivenNames x; refine (fun (hx : Good M s0 q x) => ?_) ?_; (on_goal 1 => try clear_value x); (on_goal 2 => subst x))
    | (extract_lets -underBinder +onlyGivenNames x; try clear_value x)
    | intro x
    | (simp only [good_mk_iff]; refine GoodParts.of (?_ : Good M s0 q _) rfl rfl rfl rfl)
    | with_reducible apply OutGood.of
    | with_reducible apply good_onCd
    | with_reducible apply good_w
    | with_reducible apply good_spgBump
    | with_reducible apply good_eccShow
    | with_reducible apply good_uncorrectable
    | with_reducible apply good_ite)

theorem good_execRepairFrameReceived (a1) (a2) (a3) (a4) (a5) {s6 : State} (h6 : Good M s0 q s6) (hm : Cover 0x30003C1CC00000C0000001C0014A60060 M) : OutGood M s0 q (execRepairFrameReceived a1 a2 a3 a4 a5 s6) := by
  unfold execRepairFrameReceived
  repeat' (first
    | with_reducible assumption
    | exact Cover.sub hm rfl
    | exact Cover.bit hm rfl
    | exact Cover.bit hm (by dsimp only [Fld.block]; rfl)
    | (extract_lets -underBinder +onlyGivenNames x; try clear_value x)
    | intro x
    | (simp only [good_mk_iff]; refine GoodParts.of (?_ : Good M s0 q _) rfl rfl rfl rfl)
    | with_reducible apply OutGood.of
    | with_reducible apply good_onCd
    | with_reducible apply good_sendPartner
    | with_reducible apply good_mapRing
    | with_reducible apply good_crumbLost
    | with_reducible apply good_spgBump
    | with_reducible apply good_mapIndex
    | with_reducible apply good_poison
    | with_reducible apply good_ite
    | with_reducible apply OutGood.ite
    | split)

theorem good_setArb {s1 : State} (h1 : Good M s0 q s1) (a2) (a3) (hm : Cover 0x40000 M) : Good M s0 q (State.setArb s1 a2 a3) := by
  unfold State.setArb
  repeat' (first
    | with_reducible assumption
    | exact Cover.sub hm rfl
    | exact Cover.bit hm rfl
    | exact Cover.bit hm (by dsimp only [Fld.block]; rfl)
    | (extract_lets -underBinder +onlyGivenNames x; try clear_value x)
    | intro x
    | (simp only [good_mk_iff]; refine GoodParts.of (?_ : Good M s0 q _) rfl rfl rfl rfl))

theorem good_execArbiterGrant (a1) (a2) {s3 : State} (h3 : Good M s0 q s3) (hm : Cover 0x300000000000000100000040040 M) : OutGood M s0 q (execArbiterGrant a1 a2 s3) := by
  unfold execArbiterGrant
  repeat' (first
    | with_reducible assumption
    | exact Cover.sub hm rfl
    | exact Cover.bit hm rfl
    | exact Cover.bit hm (by dsimp only [Fld.block]; rfl)
    | (extract_lets -underBinder +onlyGivenNames x; refine (fun (hx : Good M s0 q x) => ?_) ?_; (on_goal 1 => try clear_value x); (on_goal 2 => subst x))
    | (extract_lets -underBinder +onlyGivenNames x; try clear_value x)
    | intro x
    | (simp only [good_mk_iff]; refine GoodParts.of (?_ : Good M s0 q _) rfl rfl rfl rfl)
    | with_reducible apply OutGood.of
    | with_reducible apply good_onCd
    | with_reducible apply good_setArb
    | with_reducible apply good_emit
    | with_reducible apply good_bump
    | with_reducible apply good_ite
    | with_reducible apply OutGood.ite
    | split)

theorem good_execArbWindowEnd (a1) {s2 : State} (h2 : Good M s0 q s2) (hm : Cover 0x40000 M) : OutGood M s0 q (execArbWindowEnd a1 s2) := by
  unfold execArbWindowEnd
  repeat' (first
    | with_reducible assumption
    | exact Cover.sub hm rfl
    | exact Cover.bit hm rfl
    | exact Cover.bit hm (by dsimp only [Fld.block]; rfl)
    | (extract_lets -underBinder +onlyGivenNames x; try clear_value x)
    | intro x
    | (simp only [good_mk_iff]; refine GoodParts.of (?_ : Good M s0 q _) rfl rfl rfl rfl)
    | with_reducible apply OutGood.of
    | with_reducible apply good_onCd
    | with_reducible apply good_setArb
    | with_reducible apply good_ite)

theorem good_execArbCommit (a1) {s2 : State} (h2 : Good M s0 q s2) (hm : Cover 0x40000 M) : OutGood M s0 q (execArbCommit a1 s2) := by
  unfold execArbCommit
  repeat' (first
    | with_reducible assumption
    | exact Cover.sub hm rfl
    | exact Cover.bit hm rfl
    | exact Cover.bit hm (by dsimp only [Fld.block]; rfl)
    | (extract_lets -underBinder +onlyGivenNames x; try clear_value x)
    | intro x
    | (simp only [good_mk_iff]; refine GoodParts.of (?_ : Good M s0 q _) rfl rfl rfl rfl)
    | with_reducible apply OutGood.of
    | with_reducible apply good_onCd
    | with_reducible apply good_setArb)

theorem good_execArbFreezeWrite (a1) (a2) {s3 : State} (h3 : Good M s0 q s3) (hm : Cover 0x100000000000000000000000000 M) : OutGood M s0 q (execArbFreezeWrite a1 a2 s3) := by
  unfold execArbFreezeWrite
  repeat' (first
    | with_reducible assumption
    | exact Cover.sub hm rfl
    | exact Cover.bit hm rfl
    | exact Cover.bit hm (by dsimp only [Fld.block]; rfl)
    | (extract_lets -underBinder +onlyGivenNames x; try clear_value x)
    | intro x
    | (simp only [good_mk_iff]; refine GoodParts.of (?_ : Good M s0 q _) rfl rfl rfl rfl)
    | with_reducible apply OutGood.of
    | with_reducible apply good_onCd
    | with_reducible apply good_w)

theorem good_execDirtyCeilingWrite (a1) (a2) (a3) {s4 : State} (h4 : Good M s0 q s4) (hm : Cover 0x140000000000000130000040060 M) : OutGood M s0 q (execDirtyCeilingWrite a1 a2 a3 s4) := by
  unfold execDirtyCeilingWrite
  repeat' (first
    | with_reducible assumption
    | exact Cover.sub hm rfl
    | exact Cover.bit hm rfl
    | exact Cover.bit hm (by dsimp only [Fld.block]; rfl)
    | (extract_lets -underBinder +onlyGivenNames x; refine (fun (hx : Good M s0 q x) => ?_) ?_; (on_goal 1 => try clear_value x); (on_goal 2 => subst x))
    | (extract_lets -underBinder +onlyGivenNames x; try clear_value x)
    | intro x
    | (simp only [good_mk_iff]; refine GoodParts.of (?_ : Good M s0 q _) rfl rfl rfl rfl)
    | with_reducible apply OutGood.of
    | with_reducible apply good_onCd
    | with_reducible apply good_worldViolation
    | with_reducible apply good_discardRange
    | with_reducible apply good_w
    | with_reducible apply good_setSp
    | with_reducible apply good_ite)

theorem good_execSpgSnapshot (a1) (a2) {s3 : State} (h3 : Good M s0 q s3) (hm : Cover 0x40000000000000000000000008 M) : OutGood M s0 q (execSpgSnapshot a1 a2 s3) := by
  unfold execSpgSnapshot
  repeat' (first
    | with_reducible assumption
    | exact Cover.sub hm rfl
    | exact Cover.bit hm rfl
    | exact Cover.bit hm (by dsimp only [Fld.block]; rfl)
    | (extract_lets -underBinder +onlyGivenNames x; try clear_value x)
    | intro x
    | with_reducible apply OutGood.of
    | with_reducible apply good_onDie
    | with_reducible apply good_snapshot)

theorem good_execArbSnapshot (a1) (a2) {s3 : State} (h3 : Good M s0 q s3) (hm : Cover 0x100000000000000000000000008 M) : OutGood M s0 q (execArbSnapshot a1 a2 s3) := by
  unfold execArbSnapshot
  repeat' (first
    | with_reducible assumption
    | exact Cover.sub hm rfl
    | exact Cover.bit hm rfl
    | exact Cover.bit hm (by dsimp only [Fld.block]; rfl)
    | (extract_lets -underBinder +onlyGivenNames x; try clear_value x)
    | intro x
    | with_reducible apply OutGood.of
    | with_reducible apply good_onDie
    | with_reducible apply good_snapshot)

end Sys2Proof.Machine
end

