-- ==== Sys2Proof/Laws/Redundancy.lean ====
section
/-! SUPPORT. What the operations of Machine/Redundancy.lean keep (see Laws/Keep.lean), one lemma for each. -/

set_option Elab.async false

set_option linter.all false

namespace Sys2Proof.Machine

variable {M : Nat} {s0 : State} {q : Prop}

theorem good_planUpdate {s1 : State} (h1 : Good M s0 q s1) (a2) (a3) (a4) (a5) (hm : Cover 0xCD400000000000001C00102C0040 M) : Good M s0 q (State.planUpdate s1 a2 a3 a4 a5) := by
  unfold State.planUpdate
  repeat' (first
    | with_reducible assumption
    | exact Cover.sub hm rfl
    | exact Cover.bit hm rfl
    | exact Cover.bit hm (by dsimp only [Fld.block]; rfl)
    | (extract_lets -underBinder +onlyGivenNames x; refine (fun (hx : Good M s0 q x) => ?_) ?_; (on_goal 1 => try clear_value x); (on_goal 2 => subst x))
    | (extract_lets -underBinder +onlyGivenNames x; try clear_value x)
    | intro x
    | with_reducible apply good_mapIndex
    | with_reducible apply good_setGrp
    | with_reducible apply good_memberReads
    | with_reducible apply good_drvIssue
    | with_reducible apply good_foldS)

theorem good_execStripeUpdateStart (a1) (a2) (a3) {s4 : State} (h4 : Good M s0 q s4) (hm : Cover 0x3FDC00000000000001C00102C0040 M) : OutGood M s0 q (execStripeUpdateStart a1 a2 a3 s4) := by
  unfold execStripeUpdateStart
  repeat' (first
    | with_reducible assumption
    | exact Cover.sub hm rfl
    | exact Cover.bit hm rfl
    | exact Cover.bit hm (by dsimp only [Fld.block]; rfl)
    | (extract_lets -underBinder +onlyGivenNames x; refine (fun (hx : Good M s0 q x) => ?_) ?_; (on_goal 1 => try clear_value x); (on_goal 2 => subst x))
    | (extract_lets -underBinder +onlyGivenNames x; try clear_value x)
    | intro x
    | (simp only [good_mk_iff]; refine GoodParts.of (?_ : Good M s0 q _) rfl rfl rfl rfl)
    | with_reducible apply OutGood.of
    | with_reducible apply good_onCd
    | with_reducible apply good_grpBump
    | with_reducible apply good_bump
    | with_reducible apply good_cipBump
    | with_reducible apply good_ev
    | with_reducible apply good_spgBump
    | with_reducible apply good_planUpdate
    | with_reducible apply good_setGrp
    | with_reducible apply good_ite)

theorem good_execStripeReadsComplete (a1) (a2) (a3) {s4 : State} (h4 : Good M s0 q s4) (hm : Cover 0x30003CDC00000000000001C0010AC0060 M) : OutGood M s0 q (execStripeReadsComplete a1 a2 a3 s4) := by
  unfold execStripeReadsComplete
  repeat' (first
    | with_reducible assumption
    | exact Cover.sub hm rfl
    | exact Cover.bit hm rfl
    | exact Cover.bit hm (by dsimp only [Fld.block]; rfl)
    | (extract_lets -underBinder +onlyGivenNames x; refine (fun (hx : Good M s0 q x) => ?_) ?_; (on_goal 1 => try clear_value x); (on_goal 2 => subst x))
    | (extract_lets -underBinder +onlyGivenNames x; try clear_value x)
    | intro x
    | (simp only [good_mk_iff]; refine GoodParts.of (?_ : Good M s0 q _) rfl rfl rfl rfl)
    | with_reducible apply OutGood.of
    | with_reducible apply good_onCd
    | with_reducible apply good_planUpdate
    | with_reducible apply good_drvTake
    | with_reducible apply good_spgBump
    | with_reducible apply good_addBad
    | with_reducible apply good_writeCrumb
    | with_reducible apply good_grpBump
    | with_reducible apply good_cipBump
    | with_reducible apply good_setGrp
    | with_reducible apply good_drvIssue
    | with_reducible apply good_foldS
    | with_reducible apply good_ite
    | with_reducible apply OutGood.ite
    | split)

theorem good_execStripeWritesComplete (a1) (a2) (a3) {s4 : State} (h4 : Good M s0 q s4) (hm : Cover 0x30003CDC00000000000001C0010AC0040 M) : OutGood M s0 q (execStripeWritesComplete a1 a2 a3 s4) := by
  unfold execStripeWritesComplete
  repeat' (first
    | with_reducible assumption
    | exact Cover.sub hm rfl
    | exact Cover.bit hm rfl
    | exact Cover.bit hm (by dsimp only [Fld.block]; rfl)
    | (extract_lets -underBinder +onlyGivenNames x; refine (fun (hx : Good M s0 q x) => ?_) ?_; (on_goal 1 => try clear_value x); (on_goal 2 => subst x))
    | (extract_lets -underBinder +onlyGivenNames x; try clear_value x)
    | intro x
    | (simp only [good_mk_iff]; refine GoodParts.of (?_ : Good M s0 q _) rfl rfl rfl rfl)
    | with_reducible apply OutGood.of
    | with_reducible apply good_onCd
    | with_reducible apply good_drvTake
    | with_reducible apply good_retireCrumb
    | with_reducible apply good_writeCrumb
    | with_reducible apply good_mapIndex
    | with_reducible apply good_spgBump
    | with_reducible apply good_setSp
    | with_reducible apply good_unlock
    | with_reducible apply good_setGrp
    | with_reducible apply good_ite
    | with_reducible apply OutGood.ite
    | split)

theorem good_unitProgress {s1 : State} (h1 : Good M s0 q s1) (a2) (a3) (a4) (hm : Cover 0x3CD4F0000000000001C00103F0060 M) : Good M s0 q (State.unitProgress s1 a2 a3 a4) := by
  unfold State.unitProgress
  repeat' (first
    | with_reducible assumption
    | exact Cover.sub hm rfl
    | exact Cover.bit hm rfl
    | exact Cover.bit hm (by dsimp only [Fld.block]; rfl)
    | (extract_lets -underBinder +onlyGivenNames x; refine (fun (hx : Good M s0 q x) => ?_) ?_; (on_goal 1 => try clear_value x); (on_goal 2 => subst x))
    | (extract_lets -underBinder +onlyGivenNames x; try clear_value x)
    | intro x
    | (simp only [good_mk_iff]; refine GoodParts.of (?_ : Good M s0 q _) rfl rfl rfl rfl)
    | with_reducible apply good_readUnit
    | with_reducible apply good_readFails
    | with_reducible apply good_addBad
    | with_reducible apply good_repair
    | with_reducible apply good_blockArrives
    | with_reducible apply good_cipBump
    | with_reducible apply good_foldS
    | with_reducible apply good_ite
    | split)

theorem good_readProgress {s1 : State} (h1 : Good M s0 q s1) (a2) (a3) (hm : Cover 0x3FD4F0000000000001C00103F0060 M) : Good M s0 q (State.readProgress s1 a2 a3) := by
  unfold State.readProgress
  repeat' (first
    | with_reducible assumption
    | exact Cover.sub hm rfl
    | exact Cover.bit hm rfl
    | exact Cover.bit hm (by dsimp only [Fld.block]; rfl)
    | (extract_lets -underBinder +onlyGivenNames x; refine (fun (hx : Good M s0 q x) => ?_) ?_; (on_goal 1 => try clear_value x); (on_goal 2 => subst x))
    | (extract_lets -underBinder +onlyGivenNames x; try clear_value x)
    | intro x
    | (simp only [good_mk_iff]; refine GoodParts.of (?_ : Good M s0 q _) rfl rfl rfl rfl)
    | with_reducible apply good_drvTake
    | with_reducible apply good_cipBump
    | with_reducible apply good_setSlot
    | with_reducible apply good_readDone
    | with_reducible apply good_setChain
    | with_reducible apply good_readBlock
    | with_reducible apply good_unitProgress
    | with_reducible apply good_foldS
    | with_reducible apply good_ite
    | split)

theorem good_drvErr {s1 : State} (h1 : Good M s0 q s1) (a2) (a3) (a4) (a5) (a6) (hm : Cover 0x4000000000000000000000000000 M) : Good M s0 q (State.drvErr s1 a2 a3 a4 a5 a6) := by
  unfold State.drvErr
  repeat' (first
    | with_reducible assumption
    | exact Cover.sub hm rfl
    | exact Cover.bit hm rfl
    | exact Cover.bit hm (by dsimp only [Fld.block]; rfl)
    | (extract_lets -underBinder +onlyGivenNames x; try clear_value x)
    | intro x
    | with_reducible apply good_w)

theorem good_drvOver {s1 : State} (h1 : Good M s0 q s1) (a2) (a3) (a4) (a5) (hm : Cover 0x3FD4F0000000000001C00103F0060 M) : Good M s0 q (State.drvOver s1 a2 a3 a4 a5) := by
  unfold State.drvOver
  repeat' (first
    | with_reducible assumption
    | exact Cover.sub hm rfl
    | exact Cover.bit hm rfl
    | exact Cover.bit hm (by dsimp only [Fld.block]; rfl)
    | (extract_lets -underBinder +onlyGivenNames x; try clear_value x)
    | intro x
    | with_reducible apply good_sbDone
    | with_reducible apply good_drvIssue
    | with_reducible apply good_unlock
    | with_reducible apply good_readProgress
    | with_reducible apply good_foldS
    | with_reducible apply good_ite)

theorem good_failBay {s1 : State} (h1 : Good M s0 q s1) (a2) (a3) (hm : Cover 0x3FD4F0000000000001C00103F0060 M) : Good M s0 q (State.failBay s1 a2 a3) := by
  unfold State.failBay
  repeat' (first
    | with_reducible assumption
    | exact Cover.sub hm rfl
    | exact Cover.bit hm rfl
    | exact Cover.bit hm (by dsimp only [Fld.block]; rfl)
    | (extract_lets -underBinder +onlyGivenNames x; refine (fun (hx : Good M s0 q x) => ?_) ?_; (on_goal 1 => try clear_value x); (on_goal 2 => subst x))
    | (extract_lets -underBinder +onlyGivenNames x; try clear_value x)
    | intro x
    | (simp only [good_mk_iff]; refine GoodParts.of (?_ : Good M s0 q _) rfl rfl rfl rfl)
    | with_reducible apply good_drvOver
    | with_reducible apply good_foldS)

theorem good_bayOut {s1 : State} (h1 : Good M s0 q s1) (a2) (a3) (a4) (hm : Cover 0xDD5C00000C0000001C00143E0062 M) : Good M s0 q (State.bayOut s1 a2 a3 a4) := by
  unfold State.bayOut
  repeat' (first
    | with_reducible assumption
    | exact Cover.sub hm rfl
    | exact Cover.bit hm rfl
    | exact Cover.bit hm (by dsimp only [Fld.block]; rfl)
    | (extract_lets -underBinder +onlyGivenNames x; refine (fun (hx : Good M s0 q x) => ?_) ?_; (on_goal 1 => try clear_value x); (on_goal 2 => subst x))
    | (extract_lets -underBinder +onlyGivenNames x; try clear_value x)
    | intro x
    | (simp only [good_mk_iff]; refine GoodParts.of (?_ : Good M s0 q _) rfl rfl rfl rfl)
    | with_reducible apply good_posOut
    | with_reducible apply good_takeSpare
    | with_reducible apply good_reshapeBay
    | with_reducible apply good_ite
    | split)

theorem good_driveFault {s1 : State} (h1 : Good M s0 q s1) (a2) (a3) (a4) (a5) (hm : Cover 0x3FD5F00000C0000001C00143F0062 M) : Good M s0 q (State.driveFault s1 a2 a3 a4 a5) := by
  unfold State.driveFault
  repeat' (first
    | with_reducible assumption
    | exact Cover.sub hm rfl
    | exact Cover.bit hm rfl
    | exact Cover.bit hm (by dsimp only [Fld.block]; rfl)
    | (extract_lets -underBinder +onlyGivenNames x; refine (fun (hx : Good M s0 q x) => ?_) ?_; (on_goal 1 => try clear_value x); (on_goal 2 => subst x))
    | (extract_lets -underBinder +onlyGivenNames x; try clear_value x)
    | intro x
    | with_reducible apply good_logEv
    | with_reducible apply good_ev
    | with_reducible apply good_drvErr
    | with_reducible apply good_failBay
    | with_reducible apply good_bayOut)

theorem good_mediaError {s1 : State} (h1 : Good M s0 q s1) (a2) (a3) (a4) (a5) (hm : Cover 0x3FD5F00000C0000001C00143F0062 M) : Good M s0 q (State.mediaError s1 a2 a3 a4 a5) := by
  unfold State.mediaError
  repeat' (first
    | with_reducible assumption
    | exact Cover.sub hm rfl
    | exact Cover.bit hm rfl
    | exact Cover.bit hm (by dsimp only [Fld.block]; rfl)
    | (extract_lets -underBinder +onlyGivenNames x; refine (fun (hx : Good M s0 q x) => ?_) ?_; (on_goal 1 => try clear_value x); (on_goal 2 => subst x))
    | (extract_lets -underBinder +onlyGivenNames x; try clear_value x)
    | intro x
    | with_reducible apply good_setDrive
    | with_reducible apply good_w
    | with_reducible apply good_drvErr
    | with_reducible apply good_drvBump
    | with_reducible apply good_driveFault
    | with_reducible apply good_ite)

theorem good_drvFinish {s1 : State} (h1 : Good M s0 q s1) (a2) (a3) (a4) (a5) (a6) (hm : Cover 0x3FD4F0000000000001C00103F0060 M) : Good M s0 q (State.drvFinish s1 a2 a3 a4 a5 a6) := by
  unfold State.drvFinish
  repeat' (first
    | with_reducible assumption
    | exact Cover.sub hm rfl
    | exact Cover.bit hm rfl
    | exact Cover.bit hm (by dsimp only [Fld.block]; rfl)
    | (extract_lets -underBinder +onlyGivenNames x; refine (fun (hx : Good M s0 q x) => ?_) ?_; (on_goal 1 => try clear_value x); (on_goal 2 => subst x))
    | (extract_lets -underBinder +onlyGivenNames x; try clear_value x)
    | intro x
    | (simp only [good_mk_iff]; refine GoodParts.of (?_ : Good M s0 q _) rfl rfl rfl rfl)
    | with_reducible apply good_drvOver
    | with_reducible apply good_bgRelease
    | with_reducible apply good_ite
    | split)

theorem good_drvReissue {s1 : State} (h1 : Good M s0 q s1) (a2) (hm : Cover 0xC000000000000000100000210040 M) : Good M s0 q (State.drvReissue s1 a2) := by
  unfold State.drvReissue
  repeat' (first
    | with_reducible assumption
    | exact Cover.sub hm rfl
    | exact Cover.bit hm rfl
    | exact Cover.bit hm (by dsimp only [Fld.block]; rfl)
    | (extract_lets -underBinder +onlyGivenNames x; refine (fun (hx : Good M s0 q x) => ?_) ?_; (on_goal 1 => try clear_value x); (on_goal 2 => subst x))
    | (extract_lets -underBinder +onlyGivenNames x; try clear_value x)
    | intro x
    | (simp only [good_mk_iff]; refine GoodParts.of (?_ : Good M s0 q _) rfl rfl rfl rfl)
    | with_reducible apply good_emit
    | with_reducible apply good_drvBump
    | with_reducible apply good_setChain
    | with_reducible apply good_ite)

theorem good_writeFault {s1 : State} (h1 : Good M s0 q s1) (a2) (a3) (a4) (hm : Cover 0xDD5C00000C0000001C00143E0062 M) : Good M s0 q (State.writeFault s1 a2 a3 a4) := by
  unfold State.writeFault
  repeat' (first
    | with_reducible assumption
    | exact Cover.sub hm rfl
    | exact Cover.bit hm rfl
    | exact Cover.bit hm (by dsimp only [Fld.block]; rfl)
    | (extract_lets -underBinder +onlyGivenNames x; refine (fun (hx : Good M s0 q x) => ?_) ?_; (on_goal 1 => try clear_value x); (on_goal 2 => subst x))
    | (extract_lets -underBinder +onlyGivenNames x; try clear_value x)
    | intro x
    | with_reducible apply good_drvErr
    | with_reducible apply good_bayOut
    | with_reducible apply good_ite)

theorem good_transient {s1 : State} (h1 : Good M s0 q s1) (a2) (a3) (a4) (hm : Cover 0x3FD5F00000C0000001C00143F0062 M) : Good M s0 q (State.transient s1 a2 a3 a4) := by
  unfold State.transient
  repeat' (first
    | with_reducible assumption
    | exact Cover.sub hm rfl
    | exact Cover.bit hm rfl
    | exact Cover.bit hm (by dsimp only [Fld.block]; rfl)
    | (extract_lets -underBinder +onlyGivenNames x; refine (fun (hx : Good M s0 q x) => ?_) ?_; (on_goal 1 => try clear_value x); (on_goal 2 => subst x))
    | (extract_lets -underBinder +onlyGivenNames x; try clear_value x)
    | intro x
    | with_reducible apply good_drvErr
    | with_reducible apply good_drvReissue
    | with_reducible apply good_drvFinish
    | with_reducible apply good_mediaError
    | with_reducible apply good_writeFault
    | with_reducible apply good_ite)

theorem good_latency {s1 : State} (h1 : Good M s0 q s1) (a2) (hm : Cover 0x400000000000000000000080000 M) : Good M s0 q (State.latency s1 a2) := by
  unfold State.latency
  repeat' (first
    | with_reducible assumption
    | exact Cover.sub hm rfl
    | exact Cover.bit hm rfl
    | exact Cover.bit hm (by dsimp only [Fld.block]; rfl)
    | (extract_lets -underBinder +onlyGivenNames x; try clear_value x)
    | intro x
    | (simp only [good_mk_iff]; refine GoodParts.of (?_ : Good M s0 q _) rfl rfl rfl rfl)
    | with_reducible apply good_w
    | with_reducible apply good_setGrp
    | with_reducible apply good_ite
    | split)

theorem good_execDriveCommandCompletion (a1) (a2) (a3) (a4) (a5) (a6) {s7 : State} (h7 : Good M s0 q s7) (hm : Cover 0x3FD5F00000C0000001C00143F0162 M) : OutGood M s0 q (execDriveCommandCompletion a1 a2 a3 a4 a5 a6 s7) := by
  unfold execDriveCommandCompletion
  repeat' (first
    | with_reducible assumption
    | exact Cover.sub hm rfl
    | exact Cover.bit hm rfl
    | exact Cover.bit hm (by dsimp only [Fld.block]; rfl)
    | (extract_lets -underBinder +onlyGivenNames x; refine (fun (hx : Good M s0 q x) => ?_) ?_; (on_goal 1 => try clear_value x); (on_goal 2 => subst x))
    | (extract_lets -underBinder +onlyGivenNames x; try clear_value x)
    | intro x
    | (simp only [good_mk_iff]; refine GoodParts.of (?_ : Good M s0 q _) rfl rfl rfl rfl)
    | with_reducible apply OutGood.of
    | with_reducible apply good_onRoot
    | with_reducible apply good_ev
    | with_reducible apply good_drvBump
    | with_reducible apply good_latency
    | with_reducible apply good_drvFinish
    | with_reducible apply good_transient
    | with_reducible apply good_mediaError
    | with_reducible apply good_drvErr
    | with_reducible apply good_trig
    | with_reducible apply good_w
    | with_reducible apply good_writeFault
    | with_reducible apply good_ite
    | with_reducible apply OutGood.ite
    | split)

theorem good_execGroupRecordWriteComplete (a1) (a2) {s3 : State} (h3 : Good M s0 q s3) (hm : Cover 0xCC000000000000001C0010280040 M) : OutGood M s0 q (execGroupRecordWriteComplete a1 a2 s3) := by
  unfold execGroupRecordWriteComplete
  repeat' (first
    | with_reducible assumption
    | exact Cover.sub hm rfl
    | exact Cover.bit hm rfl
    | exact Cover.bit hm (by dsimp only [Fld.block]; rfl)
    | (extract_lets -underBinder +onlyGivenNames x; refine (fun (hx : Good M s0 q x) => ?_) ?_; (on_goal 1 => try clear_value x); (on_goal 2 => subst x))
    | (extract_lets -underBinder +onlyGivenNames x; try clear_value x)
    | intro x
    | (simp only [good_mk_iff]; refine GoodParts.of (?_ : Good M s0 q _) rfl rfl rfl rfl)
    | with_reducible apply OutGood.of
    | with_reducible apply good_onCd
    | with_reducible apply good_setGrp
    | with_reducible apply good_drvTake
    | with_reducible apply good_drvIssue
    | with_reducible apply good_recordWrite
    | with_reducible apply good_foldS
    | with_reducible apply good_ite)

theorem good_execBitmapBitClearDue (a1) (a2) (a3) {s4 : State} (h4 : Good M s0 q s4) (hm : Cover 0xCC000000000000001C0010280041 M) : OutGood M s0 q (execBitmapBitClearDue a1 a2 a3 s4) := by
  unfold execBitmapBitClearDue
  repeat' (first
    | with_reducible assumption
    | exact Cover.sub hm rfl
    | exact Cover.bit hm rfl
    | exact Cover.bit hm (by dsimp only [Fld.block]; rfl)
    | (extract_lets -underBinder +onlyGivenNames x; refine (fun (hx : Good M s0 q x) => ?_) ?_; (on_goal 1 => try clear_value x); (on_goal 2 => subst x))
    | (extract_lets -underBinder +onlyGivenNames x; try clear_value x)
    | intro x
    | (simp only [good_mk_iff]; refine GoodParts.of (?_ : Good M s0 q _) rfl rfl rfl rfl)
    | with_reducible apply OutGood.of
    | with_reducible apply good_onCd
    | with_reducible apply good_advance
    | with_reducible apply good_recordWrite
    | with_reducible apply good_setGrp
    | with_reducible apply good_ite)

theorem good_execSpareDelayExpiry (a1) (a2) (a3) {s4 : State} (h4 : Good M s0 q s4) (hm : Cover 0xCC1400000C0000001C00142A0043 M) : OutGood M s0 q (execSpareDelayExpiry a1 a2 a3 s4) := by
  unfold execSpareDelayExpiry
  repeat' (first
    | with_reducible assumption
    | exact Cover.sub hm rfl
    | exact Cover.bit hm rfl
    | exact Cover.bit hm (by dsimp only [Fld.block]; rfl)
    | (extract_lets -underBinder +onlyGivenNames x; try clear_value x)
    | intro x
    | (simp only [good_mk_iff]; refine GoodParts.of (?_ : Good M s0 q _) rfl rfl rfl rfl)
    | with_reducible apply OutGood.of
    | with_reducible apply good_onCd
    | with_reducible apply good_takeSpare
    | with_reducible apply good_advance
    | with_reducible apply good_ite)

theorem good_execGCmdTakeTarget (a1) (a2) {s3 : State} (h3 : Good M s0 q s3) (hm : Cover 0xCC1400000C0000001C00142A0062 M) : OutGood M s0 q (execGCmdTakeTarget a1 a2 s3) := by
  unfold execGCmdTakeTarget
  repeat' (first
    | with_reducible assumption
    | exact Cover.sub hm rfl
    | exact Cover.bit hm rfl
    | exact Cover.bit hm (by dsimp only [Fld.block]; rfl)
    | (extract_lets -underBinder +onlyGivenNames x; try clear_value x)
    | intro x
    | (simp only [good_mk_iff]; refine GoodParts.of (?_ : Good M s0 q _) rfl rfl rfl rfl)
    | with_reducible apply OutGood.of
    | with_reducible apply good_onCd
    | with_reducible apply good_takeSpare
    | with_reducible apply good_discardState
    | with_reducible apply good_ite
    | with_reducible apply OutGood.ite
    | split)

theorem good_execGCmdHoldPass (a1) (a2) {s3 : State} (h3 : Good M s0 q s3) (hm : Cover 0x400000000000000000000080020 M) : OutGood M s0 q (execGCmdHoldPass a1 a2 s3) := by
  unfold execGCmdHoldPass
  repeat' (first
    | with_reducible assumption
    | exact Cover.sub hm rfl
    | exact Cover.bit hm rfl
    | exact Cover.bit hm (by dsimp only [Fld.block]; rfl)
    | (extract_lets -underBinder +onlyGivenNames x; try clear_value x)
    | intro x
    | (simp only [good_mk_iff]; refine GoodParts.of (?_ : Good M s0 q _) rfl rfl rfl rfl)
    | with_reducible apply OutGood.of
    | with_reducible apply good_onCd
    | with_reducible apply good_setGrp
    | with_reducible apply good_discardState
    | with_reducible apply good_ite)

theorem good_execGCmdReleasePass (a1) (a2) {s3 : State} (h3 : Good M s0 q s3) (hm : Cover 0x400000000000000000000080020 M) : OutGood M s0 q (execGCmdReleasePass a1 a2 s3) := by
  unfold execGCmdReleasePass
  repeat' (first
    | with_reducible assumption
    | exact Cover.sub hm rfl
    | exact Cover.bit hm rfl
    | exact Cover.bit hm (by dsimp only [Fld.block]; rfl)
    | (extract_lets -underBinder +onlyGivenNames x; try clear_value x)
    | intro x
    | (simp only [good_mk_iff]; refine GoodParts.of (?_ : Good M s0 q _) rfl rfl rfl rfl)
    | with_reducible apply OutGood.of
    | with_reducible apply good_onCd
    | with_reducible apply good_setGrp
    | with_reducible apply good_discardState
    | with_reducible apply good_ite)

theorem good_fullResync {s1 : State} (h1 : Good M s0 q s1) (a2) (a3) (hm : Cover 0xCC000000000000001C0010280040 M) : Good M s0 q (State.fullResync s1 a2 a3) := by
  unfold State.fullResync
  repeat' (first
    | with_reducible assumption
    | exact Cover.sub hm rfl
    | exact Cover.bit hm rfl
    | exact Cover.bit hm (by dsimp only [Fld.block]; rfl)
    | (extract_lets -underBinder +onlyGivenNames x; try clear_value x)
    | intro x
    | with_reducible apply good_chanShow
    | with_reducible apply good_recordWrite
    | with_reducible apply good_setGrp)

theorem good_execGCmdFullResync (a1) (a2) {s3 : State} (h3 : Good M s0 q s3) (hm : Cover 0xCC000000000000001C0010280060 M) : OutGood M s0 q (execGCmdFullResync a1 a2 s3) := by
  unfold execGCmdFullResync
  repeat' (first
    | with_reducible assumption
    | exact Cover.sub hm rfl
    | exact Cover.bit hm rfl
    | exact Cover.bit hm (by dsimp only [Fld.block]; rfl)
    | (extract_lets -underBinder +onlyGivenNames x; try clear_value x)
    | intro x
    | (simp only [good_mk_iff]; refine GoodParts.of (?_ : Good M s0 q _) rfl rfl rfl rfl)
    | with_reducible apply OutGood.of
    | with_reducible apply good_onCd
    | with_reducible apply good_fullResync
    | with_reducible apply good_discardState
    | with_reducible apply good_ite)

theorem good_targetsDone {s1 : State} (h1 : Good M s0 q s1) (a2) (a3) (a4) (hm : Cover 0xC4000000000000001C0010280042 M) : Good M s0 q (State.targetsDone s1 a2 a3 a4) := by
  unfold State.targetsDone
  repeat' (first
    | with_reducible assumption
    | exact Cover.sub hm rfl
    | exact Cover.bit hm rfl
    | exact Cover.bit hm (by dsimp only [Fld.block]; rfl)
    | (extract_lets -underBinder +onlyGivenNames x; refine (fun (hx : Good M s0 q x) => ?_) ?_; (on_goal 1 => try clear_value x); (on_goal 2 => subst x))
    | (extract_lets -underBinder +onlyGivenNames x; try clear_value x)
    | intro x
    | with_reducible apply good_setGrp
    | with_reducible apply good_writeSb
    | with_reducible apply good_ledsShow
    | with_reducible apply good_foldS)

theorem good_passMoves {s1 : State} (h1 : Good M s0 q s1) (a2) (a3) (a4) (hm : Cover 0xDC1400000C0000001C00143A0042 M) : Good M s0 q (State.passMoves s1 a2 a3 a4) := by
  unfold State.passMoves
  repeat' (first
    | with_reducible assumption
    | exact Cover.sub hm rfl
    | (extract_lets -underBinder +onlyGivenNames x; refine (fun (hf : ∀ k : State → State, (∀ y, Good M s0 q y → Good M s0 q (k y)) → Good M s0 q (x k)) => ?_) ?_; (on_goal 1 => try clear_value x); (on_goal 2 => subst x))
    | (extract_lets -underBinder +onlyGivenNames x; refine (fun (hf : ∀ y, Good M s0 q y → Good M s0 q (x y)) => ?_) ?_; (on_goal 1 => try clear_value x); (on_goal 2 => subst x))
    | exact Cover.bit hm rfl
    | exact Cover.bit hm (by dsimp only [Fld.block]; rfl)
    | (extract_lets -underBinder +onlyGivenNames x; refine (fun (hx : Good M s0 q x) => ?_) ?_; (on_goal 1 => try clear_value x); (on_goal 2 => subst x))
    | (extract_lets -underBinder +onlyGivenNames x; try clear_value x)
    | intro x
    | (simp only [good_mk_iff]; refine GoodParts.of (?_ : Good M s0 q _) rfl rfl rfl rfl)
    | with_reducible apply good_unlock
    | with_reducible apply good_setGrp
    | with_reducible apply good_setRsh
    | with_reducible apply good_reshapeResume
    | with_reducible apply good_nsmShow
    | with_reducible apply good_chanShow
    | with_reducible apply good_recordWrite
    | with_reducible apply good_ev
    | with_reducible apply good_targetsDone
    | apply_assumption -exfalso -symm
    | with_reducible apply good_ite
    | split)

theorem good_issueReads {s1 : State} (h1 : Good M s0 q s1) (a2) (a3) (a4) (a5) (a6) (hm : Cover 0xCC000000000000001C0010280040 M) : Good M s0 q (State.issueReads s1 a2 a3 a4 a5 a6) := by
  unfold State.issueReads
  repeat' (first
    | with_reducible assumption
    | exact Cover.sub hm rfl
    | exact Cover.bit hm rfl
    | exact Cover.bit hm (by dsimp only [Fld.block]; rfl)
    | (extract_lets -underBinder +onlyGivenNames x; try clear_value x)
    | intro x
    | with_reducible apply good_memberReads
    | with_reducible apply good_drvIssue
    | with_reducible apply good_foldS)

theorem good_passBad {s1 : State} (h1 : Good M s0 q s1) (a2) (a3) (a4) (a5) (hm : Cover 0xCC000000000000001C0010280060 M) : Good M s0 q (State.passBad s1 a2 a3 a4 a5) := by
  unfold State.passBad
  repeat' (first
    | with_reducible assumption
    | exact Cover.sub hm rfl
    | exact Cover.bit hm rfl
    | exact Cover.bit hm (by dsimp only [Fld.block]; rfl)
    | (extract_lets -underBinder +onlyGivenNames x; try clear_value x)
    | intro x
    | (simp only [good_mk_iff]; refine GoodParts.of (?_ : Good M s0 q _) rfl rfl rfl rfl)
    | with_reducible apply good_addBad
    | with_reducible apply good_foldS)

theorem good_passExtra {s1 : State} (h1 : Good M s0 q s1) (a2) (a3) (a4) (a5) (a6) (a7) (hm : Cover 0xCC000000000000001C0010200040 M) : Good M s0 q (State.passExtra s1 a2 a3 a4 a5 a6 a7) := by
  unfold State.passExtra
  repeat' (first
    | with_reducible assumption
    | exact Cover.sub hm rfl
    | exact Cover.bit hm rfl
    | exact Cover.bit hm (by dsimp only [Fld.block]; rfl)
    | (extract_lets -underBinder +onlyGivenNames x; refine (fun (hx : Good M s0 q x) => ?_) ?_; (on_goal 1 => try clear_value x); (on_goal 2 => subst x))
    | (extract_lets -underBinder +onlyGivenNames x; try clear_value x)
    | intro x
    | with_reducible apply good_grpBump
    | with_reducible apply good_drvIssue
    | with_reducible apply good_foldS)

theorem good_inPlaceStep {s1 : State} (h1 : Good M s0 q s1) (a2) (a3) (a4) (hm : Cover 0xFC000000000000001C0010380060 M) : Good M s0 q (State.inPlaceStep s1 a2 a3 a4) := by
  unfold State.inPlaceStep
  repeat' (first
    | with_reducible assumption
    | exact Cover.sub hm rfl
    | exact Cover.bit hm rfl
    | exact Cover.bit hm (by dsimp only [Fld.block]; rfl)
    | (extract_lets -underBinder +onlyGivenNames x; refine (fun (hx : Good M s0 q x) => ?_) ?_; (on_goal 1 => try clear_value x); (on_goal 2 => subst x))
    | (extract_lets -underBinder +onlyGivenNames x; try clear_value x)
    | intro x
    | with_reducible apply good_grpBump
    | with_reducible apply good_bgWrote
    | with_reducible apply good_bgCharge
    | with_reducible apply good_issueReads
    | with_reducible apply good_setRsh
    | with_reducible apply good_setGrp
    | with_reducible apply good_passBad
    | with_reducible apply good_drvTake
    | with_reducible apply good_rshBump
    | with_reducible apply good_drvIssue
    | with_reducible apply good_passExtra
    | with_reducible apply good_unlock
    | with_reducible apply good_foldS
    | with_reducible apply good_ite)

theorem good_execRebuildStep (a1) (a2) {s3 : State} (h3 : Good M s0 q s3) (hm : Cover 0xFC1400000C0000001C00143A0062 M) : OutGood M s0 q (execRebuildStep a1 a2 s3) := by
  unfold execRebuildStep
  repeat' (first
    | with_reducible assumption
    | exact Cover.sub hm rfl
    | exact Cover.bit hm rfl
    | exact Cover.bit hm (by dsimp only [Fld.block]; rfl)
    | (extract_lets -underBinder +onlyGivenNames x; refine (fun (hx : Good M s0 q x) => ?_) ?_; (on_goal 1 => try clear_value x); (on_goal 2 => subst x))
    | (extract_lets -underBinder +onlyGivenNames x; try clear_value x)
    | intro x
    | (simp only [good_mk_iff]; refine GoodParts.of (?_ : Good M s0 q _) rfl rfl rfl rfl)
    | with_reducible apply OutGood.of
    | with_reducible apply good_onCd
    | with_reducible apply good_inPlaceStep
    | with_reducible apply good_passMoves
    | with_reducible apply good_grpBump
    | with_reducible apply good_bgWrote
    | with_reducible apply good_bgCharge
    | with_reducible apply good_issueReads
    | with_reducible apply good_setGrp
    | with_reducible apply good_passBad
    | with_reducible apply good_drvTake
    | with_reducible apply good_drvIssue
    | with_reducible apply good_passExtra
    | with_reducible apply good_foldS
    | with_reducible apply good_ite
    | with_reducible apply OutGood.ite
    | split)

theorem good_execRebuildCheckpoint (a1) (a2) {s3 : State} (h3 : Good M s0 q s3) (hm : Cover 0xCC000000000000001C0010280041 M) : OutGood M s0 q (execRebuildCheckpoint a1 a2 s3) := by
  unfold execRebuildCheckpoint
  repeat' (first
    | with_reducible assumption
    | exact Cover.sub hm rfl
    | exact Cover.bit hm rfl
    | exact Cover.bit hm (by dsimp only [Fld.block]; rfl)
    | (extract_lets -underBinder +onlyGivenNames x; refine (fun (hx : Good M s0 q x) => ?_) ?_; (on_goal 1 => try clear_value x); (on_goal 2 => subst x))
    | (extract_lets -underBinder +onlyGivenNames x; try clear_value x)
    | intro x
    | (simp only [good_mk_iff]; refine GoodParts.of (?_ : Good M s0 q _) rfl rfl rfl rfl)
    | with_reducible apply OutGood.of
    | with_reducible apply good_onCd
    | with_reducible apply good_reachTs
    | with_reducible apply good_recordWrite
    | with_reducible apply good_setGrp
    | with_reducible apply good_ite)

theorem good_expose {s1 : State} (h1 : Good M s0 q s1) (a2) (a3) (a4) (hm : Cover 0xCC0C00000C0000001C0014220060 M) : Good M s0 q (State.expose s1 a2 a3 a4) := by
  unfold State.expose
  repeat' (first
    | with_reducible assumption
    | exact Cover.sub hm rfl
    | exact Cover.bit hm rfl
    | exact Cover.bit hm (by dsimp only [Fld.block]; rfl)
    | (extract_lets -underBinder +onlyGivenNames x; refine (fun (hx : Good M s0 q x) => ?_) ?_; (on_goal 1 => try clear_value x); (on_goal 2 => subst x))
    | (extract_lets -underBinder +onlyGivenNames x; try clear_value x)
    | intro x
    | with_reducible apply good_ev
    | with_reducible apply good_grpBump
    | with_reducible apply good_deferRange
    | with_reducible apply good_foldS
    | with_reducible apply good_ite)

theorem good_resyncMoves {s1 : State} (h1 : Good M s0 q s1) (a2) (a3) (a4) (hm : Cover 0xCC000000000000001C0010280040 M := by first | assumption | exact Cover.sub (by assumption) rfl) :
    Good M s0 q (State.resyncMoves s1 a2 a3 a4) := by
  unfold State.resyncMoves
  extract_lets -underBinder s x0 x1 ov x2 t
  have ht : Good M s0 q t := good_unlock (good_setGrp (good_grpBump h1 _ _ _) _ _ _) _ _ _ (Cover.sub hm rfl)
  clear_value t
  split
  · exact ht
  · exact good_chanShow (good_recordWrite (good_ev ht _ _) _ _) _

theorem good_issueStrips {s1 : State} (h1 : Good M s0 q s1) (a2) (a3) (a4) (a5) (a6) (a7) (a8) (hm : Cover 0xCC000000000000001C0010200040 M) : Good M s0 q (State.issueStrips s1 a2 a3 a4 a5 a6 a7 a8) := by
  unfold State.issueStrips
  repeat' (first
    | with_reducible assumption
    | exact Cover.sub hm rfl
    | exact Cover.bit hm rfl
    | exact Cover.bit hm (by dsimp only [Fld.block]; rfl)
    | (extract_lets -underBinder +onlyGivenNames x; try clear_value x)
    | intro x
    | (simp only [good_mk_iff]; refine GoodParts.of (?_ : Good M s0 q _) rfl rfl rfl rfl)
    | with_reducible apply good_grpBump
    | with_reducible apply good_drvIssue
    | with_reducible apply good_foldS
    | with_reducible apply good_ite)

theorem good_execResyncStripe (a1) (a2) {s3 : State} (h3 : Good M s0 q s3) (hm : Cover 0xCC0C00000C0000001C00142A0060 M) : OutGood M s0 q (execResyncStripe a1 a2 s3) := by
  unfold execResyncStripe
  repeat' (first
    | with_reducible assumption
    | exact Cover.sub hm rfl
    | (extract_lets -underBinder +onlyGivenNames x; refine (fun (hf : ∀ k : State → State, (∀ y, Good M s0 q y → Good M s0 q (k y)) → Good M s0 q (x k)) => ?_) ?_; (on_goal 1 => try clear_value x); (on_goal 2 => subst x))
    | exact Cover.bit hm rfl
    | exact Cover.bit hm (by dsimp only [Fld.block]; rfl)
    | (extract_lets -underBinder +onlyGivenNames x; refine (fun (hx : Good M s0 q x) => ?_) ?_; (on_goal 1 => try clear_value x); (on_goal 2 => subst x))
    | (extract_lets -underBinder +onlyGivenNames x; try clear_value x)
    | intro x
    | (simp only [good_mk_iff]; refine GoodParts.of (?_ : Good M s0 q _) rfl rfl rfl rfl)
    | with_reducible apply OutGood.of
    | with_reducible apply good_onCd
    | with_reducible apply good_grpBump
    | with_reducible apply good_issueReads
    | with_reducible apply good_setGrp
    | with_reducible apply good_drvTake
    | with_reducible apply good_addBad
    | with_reducible apply good_bgWrote
    | with_reducible apply good_issueStrips
    | with_reducible apply good_expose
    | with_reducible apply good_resyncMoves
    | with_reducible apply good_foldS
    | apply_assumption -exfalso -symm
    | with_reducible apply good_ite
    | with_reducible apply OutGood.ite
    | split)

theorem good_execGrpSnapshot (a1) (a2) {s3 : State} (h3 : Good M s0 q s3) (hm : Cover 0x400000000000000000000000008 M) : OutGood M s0 q (execGrpSnapshot a1 a2 s3) := by
  unfold execGrpSnapshot
  repeat' (first
    | with_reducible assumption
    | exact Cover.sub hm rfl
    | exact Cover.bit hm rfl
    | exact Cover.bit hm (by dsimp only [Fld.block]; rfl)
    | (extract_lets -underBinder +onlyGivenNames x; try clear_value x)
    | intro x
    | with_reducible apply OutGood.of
    | with_reducible apply good_onDie
    | with_reducible apply good_snapshot)

end Sys2Proof.Machine
end

