-- ==== Sys2Proof/Laws/Reshape.lean ====
section
/-! SUPPORT. What the operations of Machine/Reshape.lean keep (see Laws/Keep.lean), one lemma for each. -/

set_option Elab.async false

set_option linter.all false

namespace Sys2Proof.Machine

variable {M : Nat} {s0 : State} {q : Prop}

theorem good_rshTake {s1 : State} (h1 : Good M s0 q s1) (a2) (a3) (a4) (hm : Cover 0x200000 M) : Good M s0 q (State.rshTake s1 a2 a3 a4) := by
  unfold State.rshTake
  repeat' (first
    | with_reducible assumption
    | exact Cover.sub hm rfl
    | exact Cover.bit hm rfl
    | exact Cover.bit hm (by dsimp only [Fld.block]; rfl)
    | (extract_lets -underBinder +onlyGivenNames x; try clear_value x)
    | intro x
    | (simp only [good_mk_iff]; refine GoodParts.of (?_ : Good M s0 q _) rfl rfl rfl rfl))

theorem good_stepRead {s1 : State} (h1 : Good M s0 q s1) (a2) (a3) (a4) (a5) (a6) (hm : Cover 0xCC000000000000001C0010280040 M) : Good M s0 q (State.stepRead s1 a2 a3 a4 a5 a6) := by
  unfold State.stepRead
  repeat' (first
    | with_reducible assumption
    | exact Cover.sub hm rfl
    | exact Cover.bit hm rfl
    | exact Cover.bit hm (by dsimp only [Fld.block]; rfl)
    | (extract_lets -underBinder +onlyGivenNames x; try clear_value x)
    | intro x
    | (simp only [good_mk_iff]; refine GoodParts.of (?_ : Good M s0 q _) rfl rfl rfl rfl)
    | with_reducible apply good_readSources)

theorem good_stepReads {s1 : State} (h1 : Good M s0 q s1) (a2) (a3) (a4) (hm : Cover 0xDC000000000000001C0010380040 M) : Good M s0 q (State.stepReads s1 a2 a3 a4) := by
  unfold State.stepReads
  repeat' (first
    | with_reducible assumption
    | exact Cover.sub hm rfl
    | exact Cover.bit hm rfl
    | exact Cover.bit hm (by dsimp only [Fld.block]; rfl)
    | (extract_lets -underBinder +onlyGivenNames x; refine (fun (hx : Good M s0 q x) => ?_) ?_; (on_goal 1 => try clear_value x); (on_goal 2 => subst x))
    | (extract_lets -underBinder +onlyGivenNames x; try clear_value x)
    | intro x
    | with_reducible apply good_setRsh
    | with_reducible apply good_stepRead
    | with_reducible apply good_foldS)

theorem good_stepCharge {s1 : State} (h1 : Good M s0 q s1) (a2) (a3) (a4) (hm : Cover 0x10000000 M) : Good M s0 q (State.stepCharge s1 a2 a3 a4) := by
  unfold State.stepCharge
  repeat' (first
    | with_reducible assumption
    | exact Cover.sub hm rfl
    | exact Cover.bit hm rfl
    | exact Cover.bit hm (by dsimp only [Fld.block]; rfl)
    | (extract_lets -underBinder +onlyGivenNames x; try clear_value x)
    | intro x
    | with_reducible apply good_bgWrote
    | with_reducible apply good_bgCharge)

theorem good_execReshapeStepStart (a1) (a2) {s3 : State} (h3 : Good M s0 q s3) (hm : Cover 0xDC000000000000001C0010380040 M) : OutGood M s0 q (execReshapeStepStart a1 a2 s3) := by
  unfold execReshapeStepStart
  repeat' (first
    | with_reducible assumption
    | exact Cover.sub hm rfl
    | exact Cover.bit hm rfl
    | exact Cover.bit hm (by dsimp only [Fld.block]; rfl)
    | (extract_lets -underBinder +onlyGivenNames x; refine (fun (hx : Good M s0 q x) => ?_) ?_; (on_goal 1 => try clear_value x); (on_goal 2 => subst x))
    | (extract_lets -underBinder +onlyGivenNames x; try clear_value x)
    | intro x
    | (simp only [good_mk_iff]; refine GoodParts.of (?_ : Good M s0 q _) rfl rfl rfl rfl)
    | with_reducible apply OutGood.of
    | with_reducible apply good_onCd
    | with_reducible apply good_setRsh
    | with_reducible apply good_grpBump
    | with_reducible apply good_stepCharge
    | with_reducible apply good_setGrp
    | with_reducible apply good_stepReads
    | with_reducible apply good_ite
    | with_reducible apply OutGood.ite
    | split)

theorem good_execReshapeStepReadsComplete (a1) (a2) {s3 : State} (h3 : Good M s0 q s3) (hm : Cover 0x3FD4F0000000000001C00103F0060 M) : OutGood M s0 q (execReshapeStepReadsComplete a1 a2 s3) := by
  unfold execReshapeStepReadsComplete
  repeat' (first
    | with_reducible assumption
    | exact Cover.sub hm rfl
    | exact Cover.bit hm rfl
    | exact Cover.bit hm (by dsimp only [Fld.block]; rfl)
    | (extract_lets -underBinder +onlyGivenNames x; refine (fun (hx : Good M s0 q x) => ?_) ?_; (on_goal 1 => try clear_value x); (on_goal 2 => subst x))
    | (extract_lets -underBinder +onlyGivenNames x; try clear_value x)
    | intro x
    | (simp only [good_mk_iff]; refine GoodParts.of (?_ : Good M s0 q _) rfl rfl rfl rfl)
    | with_reducible apply OutGood.of
    | with_reducible apply good_onCd
    | with_reducible apply good_stepDestination
    | with_reducible apply good_stepRead
    | with_reducible apply good_addBad
    | with_reducible apply good_rshTake
    | with_reducible apply good_serveWaiting
    | with_reducible apply good_setRsh
    | with_reducible apply good_drvIssue
    | with_reducible apply good_foldS
    | with_reducible apply good_ite
    | with_reducible apply OutGood.ite
    | split)

theorem good_execReshapeBackupWritten (a1) (a2) {s3 : State} (h3 : Good M s0 q s3) (hm : Cover 0xFC000000000000001C0010380040 M) : OutGood M s0 q (execReshapeBackupWritten a1 a2 s3) := by
  unfold execReshapeBackupWritten
  repeat' (first
    | with_reducible assumption
    | exact Cover.sub hm rfl
    | exact Cover.bit hm rfl
    | exact Cover.bit hm (by dsimp only [Fld.block]; rfl)
    | (extract_lets -underBinder +onlyGivenNames x; try clear_value x)
    | intro x
    | (simp only [good_mk_iff]; refine GoodParts.of (?_ : Good M s0 q _) rfl rfl rfl rfl)
    | with_reducible apply OutGood.of
    | with_reducible apply good_onCd
    | with_reducible apply good_rshRecord
    | with_reducible apply good_setRsh
    | with_reducible apply good_rshTake
    | with_reducible apply good_stepDestination
    | with_reducible apply good_ite
    | with_reducible apply OutGood.ite
    | split)

theorem good_reverse {s1 : State} (h1 : Good M s0 q s1) (a2) (a3) (a4) (hm : Cover 0xF0000000000000001C0010300040 M) : Good M s0 q (State.reverse s1 a2 a3 a4) := by
  unfold State.reverse
  repeat' (first
    | with_reducible assumption
    | exact Cover.sub hm rfl
    | exact Cover.bit hm rfl
    | exact Cover.bit hm (by dsimp only [Fld.block]; rfl)
    | (extract_lets -underBinder +onlyGivenNames x; try clear_value x)
    | intro x
    | with_reducible apply good_rshRecord
    | with_reducible apply good_setRsh)

theorem good_execReshapeStepCommit (a1) (a2) {s3 : State} (h3 : Good M s0 q s3) (hm : Cover 0x3FD5F00000C0000001C00143F0062 M) : OutGood M s0 q (execReshapeStepCommit a1 a2 s3) := by
  unfold execReshapeStepCommit
  repeat' (first
    | with_reducible assumption
    | exact Cover.sub hm rfl
    | exact Cover.bit hm rfl
    | exact Cover.bit hm (by dsimp only [Fld.block]; rfl)
    | (extract_lets -underBinder +onlyGivenNames x; refine (fun (hx : Good M s0 q x) => ?_) ?_; (on_goal 1 => try clear_value x); (on_goal 2 => subst x))
    | (extract_lets -underBinder +onlyGivenNames x; try clear_value x)
    | intro x
    | (simp only [good_mk_iff]; refine GoodParts.of (?_ : Good M s0 q _) rfl rfl rfl rfl)
    | with_reducible apply OutGood.of
    | with_reducible apply good_onCd
    | with_reducible apply good_rshRecord
    | with_reducible apply good_setRsh
    | with_reducible apply good_rshTake
    | with_reducible apply good_stepUnlock
    | with_reducible apply good_rshBump
    | with_reducible apply good_reshapeCancelled
    | with_reducible apply good_reverse
    | with_reducible apply good_ite
    | with_reducible apply OutGood.ite
    | split)

theorem good_execReshapeCancel (a1) (a2) (a3) {s4 : State} (h4 : Good M s0 q s4) (hm : Cover 0x3FD5F00000C0000001F00143F0062 M) : OutGood M s0 q (execReshapeCancel a1 a2 a3 s4) := by
  unfold execReshapeCancel
  repeat' (first
    | with_reducible assumption
    | exact Cover.sub hm rfl
    | exact Cover.bit hm rfl
    | exact Cover.bit hm (by dsimp only [Fld.block]; rfl)
    | (extract_lets -underBinder +onlyGivenNames x; try clear_value x)
    | intro x
    | (simp only [good_mk_iff]; refine GoodParts.of (?_ : Good M s0 q _) rfl rfl rfl rfl)
    | with_reducible apply OutGood.of
    | with_reducible apply good_onCd
    | with_reducible apply good_secureOnly
    | with_reducible apply good_discardState
    | with_reducible apply good_reshapeCancelled
    | with_reducible apply good_rshRecord
    | with_reducible apply good_setRsh
    | with_reducible apply good_reverse
    | with_reducible apply good_ite
    | with_reducible apply OutGood.ite
    | split)

theorem good_execReshapeHold (a1) (a2) (a3) {s4 : State} (h4 : Good M s0 q s4) (hm : Cover 0x1000000000000000130000100060 M) : OutGood M s0 q (execReshapeHold a1 a2 a3 s4) := by
  unfold execReshapeHold
  repeat' (first
    | with_reducible assumption
    | exact Cover.sub hm rfl
    | exact Cover.bit hm rfl
    | exact Cover.bit hm (by dsimp only [Fld.block]; rfl)
    | (extract_lets -underBinder +onlyGivenNames x; try clear_value x)
    | intro x
    | (simp only [good_mk_iff]; refine GoodParts.of (?_ : Good M s0 q _) rfl rfl rfl rfl)
    | with_reducible apply OutGood.of
    | with_reducible apply good_onCd
    | with_reducible apply good_secureOnly
    | with_reducible apply good_setRsh
    | with_reducible apply good_discardState
    | with_reducible apply good_ite
    | with_reducible apply OutGood.ite
    | split)

theorem good_execReshapeRelease (a1) (a2) (a3) {s4 : State} (h4 : Good M s0 q s4) (hm : Cover 0x1000000000000000130000100060 M) : OutGood M s0 q (execReshapeRelease a1 a2 a3 s4) := by
  unfold execReshapeRelease
  repeat' (first
    | with_reducible assumption
    | exact Cover.sub hm rfl
    | exact Cover.bit hm rfl
    | exact Cover.bit hm (by dsimp only [Fld.block]; rfl)
    | (extract_lets -underBinder +onlyGivenNames x; try clear_value x)
    | intro x
    | (simp only [good_mk_iff]; refine GoodParts.of (?_ : Good M s0 q _) rfl rfl rfl rfl)
    | with_reducible apply OutGood.of
    | with_reducible apply good_onCd
    | with_reducible apply good_secureOnly
    | with_reducible apply good_setRsh
    | with_reducible apply good_discardState
    | with_reducible apply good_ite
    | with_reducible apply OutGood.ite
    | split)

theorem good_switchRecord {s1 : State} (h1 : Good M s0 q s1) (a2) (a3) (a4) (hm : Cover 0xCC000000000000001C0010200040 M) : Good M s0 q (State.switchRecord s1 a2 a3 a4) := by
  unfold State.switchRecord
  repeat' (first
    | with_reducible assumption
    | exact Cover.sub hm rfl
    | exact Cover.bit hm rfl
    | exact Cover.bit hm (by dsimp only [Fld.block]; rfl)
    | (extract_lets -underBinder +onlyGivenNames x; try clear_value x)
    | intro x
    | with_reducible apply good_grpBump
    | with_reducible apply good_drvIssue
    | with_reducible apply good_ite
    | split)

theorem good_execReshapeSwitch (a1) (a2) {s3 : State} (h3 : Good M s0 q s3) (hm : Cover 0xF0000000000000001C0010300040 M) : OutGood M s0 q (execReshapeSwitch a1 a2 s3) := by
  unfold execReshapeSwitch
  repeat' (first
    | with_reducible assumption
    | exact Cover.sub hm rfl
    | exact Cover.bit hm rfl
    | exact Cover.bit hm (by dsimp only [Fld.block]; rfl)
    | (extract_lets -underBinder +onlyGivenNames x; try clear_value x)
    | intro x
    | (simp only [good_mk_iff]; refine GoodParts.of (?_ : Good M s0 q _) rfl rfl rfl rfl)
    | with_reducible apply OutGood.of
    | with_reducible apply good_onCd
    | with_reducible apply good_rshRecord
    | with_reducible apply good_setRsh
    | with_reducible apply good_rshTake
    | with_reducible apply good_ite
    | with_reducible apply OutGood.ite
    | split)

theorem good_execReshapeSwitchComplete (a1) (a2) {s3 : State} (h3 : Good M s0 q s3) (hm : Cover 0xFC1400000C0000001C00143A0062 M) : OutGood M s0 q (execReshapeSwitchComplete a1 a2 s3) := by
  unfold execReshapeSwitchComplete
  repeat' (first
    | with_reducible assumption
    | exact Cover.sub hm rfl
    | exact Cover.bit hm rfl
    | exact Cover.bit hm (by dsimp only [Fld.block]; rfl)
    | (extract_lets -underBinder +onlyGivenNames x; refine (fun (hx : Good M s0 q x) => ?_) ?_; (on_goal 1 => try clear_value x); (on_goal 2 => subst x))
    | (extract_lets -underBinder +onlyGivenNames x; try clear_value x)
    | intro x
    | (simp only [good_mk_iff]; refine GoodParts.of (?_ : Good M s0 q _) rfl rfl rfl rfl)
    | with_reducible apply OutGood.of
    | with_reducible apply good_onCd
    | with_reducible apply good_switchRecord
    | with_reducible apply good_setRsh
    | with_reducible apply good_rshTake
    | with_reducible apply good_takeLayout
    | with_reducible apply good_drvIssue
    | with_reducible apply good_writeSb
    | with_reducible apply good_rshRecord
    | with_reducible apply good_nsmShow
    | with_reducible apply good_reshapeOver
    | with_reducible apply good_ev
    | with_reducible apply good_foldS
    | with_reducible apply good_ite
    | with_reducible apply OutGood.ite
    | split)

theorem good_execRshSnapshot (a1) (a2) {s3 : State} (h3 : Good M s0 q s3) (hm : Cover 0x1000000000000000000000000008 M) : OutGood M s0 q (execRshSnapshot a1 a2 s3) := by
  unfold execRshSnapshot
  repeat' (first
    | with_reducible assumption
    | exact Cover.sub hm rfl
    | exact Cover.bit hm rfl
    | exact Cover.bit hm (by dsimp only [Fld.block]; rfl)
    | (extract_lets -underBinder +onlyGivenNames x; try clear_value x)
    | intro x
    | with_reducible apply OutGood.of
    | with_reducible apply good_onDie
    | with_reducible apply good_snapshot)

theorem good_reshapeRecover {s1 : State} (h1 : Good M s0 q s1) (a2) (a3) (a4) (hm : Cover 0xFC0C00000C0000001C00143A0060 M) : Good M s0 q (State.reshapeRecover s1 a2 a3 a4) := by
  unfold State.reshapeRecover
  repeat' (first
    | with_reducible assumption
    | exact Cover.sub hm rfl
    | exact Cover.bit hm rfl
    | exact Cover.bit hm (by dsimp only [Fld.block]; rfl)
    | (extract_lets -underBinder +onlyGivenNames x; refine (fun (hx : Good M s0 q x) => ?_) ?_; (on_goal 1 => try clear_value x); (on_goal 2 => subst x))
    | (extract_lets -underBinder +onlyGivenNames x; try clear_value x)
    | intro x
    | (simp only [good_mk_iff]; refine GoodParts.of (?_ : Good M s0 q _) rfl rfl rfl rfl)
    | with_reducible apply good_rshBump
    | with_reducible apply good_deferRange
    | with_reducible apply good_ev
    | with_reducible apply good_setGrp
    | with_reducible apply good_stepDestination
    | with_reducible apply good_setRsh
    | with_reducible apply good_stepReads
    | with_reducible apply good_rshRecord
    | with_reducible apply good_foldS
    | with_reducible apply good_ite
    | split)

end Sys2Proof.Machine
end

