-- ==== Sys2Proof/Laws/DrivePorts.lean ====
section
/-! SUPPORT. What the operations of Machine/DrivePorts.lean keep (see Laws/Keep.lean), one lemma for each. -/

set_option Elab.async false

set_option linter.all false

namespace Sys2Proof.Machine

variable {M : Nat} {s0 : State} {q : Prop}

theorem good_ceilingShow {s1 : State} (h1 : Good M s0 q s1) (a2) (hm : Cover 0x400000000000000000000000000000040 M) : Good M s0 q (State.ceilingShow s1 a2) := by
  unfold State.ceilingShow
  repeat' (first
    | with_reducible assumption
    | exact Cover.sub hm rfl
    | exact Cover.bit hm rfl
    | exact Cover.bit hm (by dsimp only [Fld.block]; rfl)
    | (extract_lets -underBinder +onlyGivenNames x; refine (fun (hx : Good M s0 q x) => ?_) ?_; (on_goal 1 => try clear_value x); (on_goal 2 => subst x))
    | (extract_lets -underBinder +onlyGivenNames x; try clear_value x)
    | intro x
    | with_reducible apply good_w
    | with_reducible apply good_ev
    | with_reducible apply good_ite)

theorem good_bayState {s1 : State} (h1 : Good M s0 q s1) (a2) (a3) (a4) (a5) (hm : Cover 0x4000000000000000000000000000 M) : Good M s0 q (State.bayState s1 a2 a3 a4 a5) := by
  unfold State.bayState
  repeat' (first
    | with_reducible assumption
    | exact Cover.sub hm rfl
    | exact Cover.bit hm rfl
    | exact Cover.bit hm (by dsimp only [Fld.block]; rfl)
    | (extract_lets -underBinder +onlyGivenNames x; refine (fun (hx : Good M s0 q x) => ?_) ?_; (on_goal 1 => try clear_value x); (on_goal 2 => subst x))
    | (extract_lets -underBinder +onlyGivenNames x; try clear_value x)
    | intro x
    | with_reducible apply good_w
    | with_reducible apply good_wbit
    | with_reducible apply good_ledShow)

theorem good_bayBad {s1 : State} (h1 : Good M s0 q s1) (a2) (a3) (a4) (a5) (hm : Cover 0xFC1400000C0000001C00143A0060 M) : Good M s0 q (State.bayBad s1 a2 a3 a4 a5) := by
  unfold State.bayBad
  repeat' (first
    | with_reducible assumption
    | exact Cover.sub hm rfl
    | exact Cover.bit hm rfl
    | exact Cover.bit hm (by dsimp only [Fld.block]; rfl)
    | (extract_lets -underBinder +onlyGivenNames x; try clear_value x)
    | intro x
    | with_reducible apply good_reshapeRecheck
    | with_reducible apply good_logEv
    | with_reducible apply good_ev
    | with_reducible apply good_bayState)

theorem good_bayTrain {s1 : State} (h1 : Good M s0 q s1) (a2) (a3) (hm : Cover 0x4000000000000000000000200000 M) : Good M s0 q (State.bayTrain s1 a2 a3) := by
  unfold State.bayTrain
  repeat' (first
    | with_reducible assumption
    | exact Cover.sub hm rfl
    | exact Cover.bit hm rfl
    | exact Cover.bit hm (by dsimp only [Fld.block]; rfl)
    | (extract_lets -underBinder +onlyGivenNames x; try clear_value x)
    | intro x
    | with_reducible apply good_bayState
    | with_reducible apply good_setDrive)

theorem good_linkGone {s1 : State} (h1 : Good M s0 q s1) (a2) (a3) (hm : Cover 0x4000000000000000000000000000 M) : Good M s0 q (State.linkGone s1 a2 a3) := by
  unfold State.linkGone
  repeat' (first
    | with_reducible assumption
    | exact Cover.sub hm rfl
    | exact Cover.bit hm rfl
    | exact Cover.bit hm (by dsimp only [Fld.block]; rfl)
    | (extract_lets -underBinder +onlyGivenNames x; try clear_value x)
    | intro x
    | with_reducible apply good_w
    | with_reducible apply good_wbit)

theorem good_driveLost {s1 : State} (h1 : Good M s0 q s1) (a2) (a3) (a4) (hm : Cover 0x40003FD5F00000C0000001C00143F0062 M) : Good M s0 q (State.driveLost s1 a2 a3 a4) := by
  unfold State.driveLost
  repeat' (first
    | with_reducible assumption
    | exact Cover.sub hm rfl
    | exact Cover.bit hm rfl
    | exact Cover.bit hm (by dsimp only [Fld.block]; rfl)
    | (extract_lets -underBinder +onlyGivenNames x; refine (fun (hx : Good M s0 q x) => ?_) ?_; (on_goal 1 => try clear_value x); (on_goal 2 => subst x))
    | (extract_lets -underBinder +onlyGivenNames x; try clear_value x)
    | intro x
    | with_reducible apply good_drvErr
    | with_reducible apply good_linkGone
    | with_reducible apply good_logEv
    | with_reducible apply good_ev
    | with_reducible apply good_bayState
    | with_reducible apply good_w
    | with_reducible apply good_reshapeRecheck
    | with_reducible apply good_ceilingShow
    | with_reducible apply good_failBay
    | with_reducible apply good_bayOut
    | with_reducible apply good_ite)

theorem good_execBayPerstRelease (a1) (a2) {s3 : State} (h3 : Good M s0 q s3) (hm : Cover 0x4000000000000000100000200041 M) : OutGood M s0 q (execBayPerstRelease a1 a2 s3) := by
  unfold execBayPerstRelease
  repeat' (first
    | with_reducible assumption
    | exact Cover.sub hm rfl
    | exact Cover.bit hm rfl
    | exact Cover.bit hm (by dsimp only [Fld.block]; rfl)
    | (extract_lets -underBinder +onlyGivenNames x; try clear_value x)
    | intro x
    | (simp only [good_mk_iff]; refine GoodParts.of (?_ : Good M s0 q _) rfl rfl rfl rfl)
    | with_reducible apply OutGood.of
    | with_reducible apply good_onRoot
    | with_reducible apply good_bayTrain
    | with_reducible apply good_emit
    | with_reducible apply good_advance
    | with_reducible apply good_ite)

theorem good_execDriveLinkUp (a1) (a2) (a3) (a4) (a5) {s6 : State} (h6 : Good M s0 q s6) (hm : Cover 0x4000000000000000000000000040 M) : OutGood M s0 q (execDriveLinkUp a1 a2 a3 a4 a5 s6) := by
  unfold execDriveLinkUp
  repeat' (first
    | with_reducible assumption
    | exact Cover.sub hm rfl
    | exact Cover.bit hm rfl
    | exact Cover.bit hm (by dsimp only [Fld.block]; rfl)
    | (extract_lets -underBinder +onlyGivenNames x; refine (fun (hx : Good M s0 q x) => ?_) ?_; (on_goal 1 => try clear_value x); (on_goal 2 => subst x))
    | (extract_lets -underBinder +onlyGivenNames x; try clear_value x)
    | intro x
    | (simp only [good_mk_iff]; refine GoodParts.of (?_ : Good M s0 q _) rfl rfl rfl rfl)
    | with_reducible apply OutGood.of
    | with_reducible apply good_onRoot
    | with_reducible apply good_w
    | with_reducible apply good_wbit
    | with_reducible apply good_bayState
    | with_reducible apply good_wb
    | with_reducible apply good_ev
    | with_reducible apply good_ite)

theorem good_execDriveLinkTrainingTimeout (a1) (a2) {s3 : State} (h3 : Good M s0 q s3) (hm : Cover 0xFC1400000C0000001C00143A0061 M) : OutGood M s0 q (execDriveLinkTrainingTimeout a1 a2 s3) := by
  unfold execDriveLinkTrainingTimeout
  repeat' (first
    | with_reducible assumption
    | exact Cover.sub hm rfl
    | exact Cover.bit hm rfl
    | exact Cover.bit hm (by dsimp only [Fld.block]; rfl)
    | (extract_lets -underBinder +onlyGivenNames x; try clear_value x)
    | intro x
    | (simp only [good_mk_iff]; refine GoodParts.of (?_ : Good M s0 q _) rfl rfl rfl rfl)
    | with_reducible apply OutGood.of
    | with_reducible apply good_onRoot
    | with_reducible apply good_bayBad
    | with_reducible apply good_advance
    | with_reducible apply good_ite)

theorem good_execDriveEnumerationComplete (a1) (a2) (a3) (a4) {s5 : State} (h5 : Good M s0 q s5) (hm : Cover 0xFC1400000C0000001C00143A0060 M) : OutGood M s0 q (execDriveEnumerationComplete a1 a2 a3 a4 s5) := by
  unfold execDriveEnumerationComplete
  repeat' (first
    | with_reducible assumption
    | exact Cover.sub hm rfl
    | exact Cover.bit hm rfl
    | exact Cover.bit hm (by dsimp only [Fld.block]; rfl)
    | (extract_lets -underBinder +onlyGivenNames x; try clear_value x)
    | intro x
    | (simp only [good_mk_iff]; refine GoodParts.of (?_ : Good M s0 q _) rfl rfl rfl rfl)
    | with_reducible apply OutGood.of
    | with_reducible apply good_onRoot
    | with_reducible apply good_bayState
    | with_reducible apply good_setDrive
    | with_reducible apply good_bayBad
    | with_reducible apply good_ite)

theorem good_execDriveControllerReady (a1) (a2) (a3) {s4 : State} (h4 : Good M s0 q s4) (hm : Cover 0xFC1400000C0000001C00143A0060 M) : OutGood M s0 q (execDriveControllerReady a1 a2 a3 s4) := by
  unfold execDriveControllerReady
  repeat' (first
    | with_reducible assumption
    | exact Cover.sub hm rfl
    | exact Cover.bit hm rfl
    | exact Cover.bit hm (by dsimp only [Fld.block]; rfl)
    | (extract_lets -underBinder +onlyGivenNames x; try clear_value x)
    | intro x
    | (simp only [good_mk_iff]; refine GoodParts.of (?_ : Good M s0 q _) rfl rfl rfl rfl)
    | with_reducible apply OutGood.of
    | with_reducible apply good_onRoot
    | with_reducible apply good_bayBad
    | with_reducible apply good_bayState
    | with_reducible apply good_ite)

theorem good_execDriveReadyTimeout (a1) (a2) {s3 : State} (h3 : Good M s0 q s3) (hm : Cover 0xFC1400000C0000001C00143A0061 M) : OutGood M s0 q (execDriveReadyTimeout a1 a2 s3) := by
  unfold execDriveReadyTimeout
  repeat' (first
    | with_reducible assumption
    | exact Cover.sub hm rfl
    | exact Cover.bit hm rfl
    | exact Cover.bit hm (by dsimp only [Fld.block]; rfl)
    | (extract_lets -underBinder +onlyGivenNames x; try clear_value x)
    | intro x
    | (simp only [good_mk_iff]; refine GoodParts.of (?_ : Good M s0 q _) rfl rfl rfl rfl)
    | with_reducible apply OutGood.of
    | with_reducible apply good_onRoot
    | with_reducible apply good_bayBad
    | with_reducible apply good_advance
    | with_reducible apply good_ite)

theorem good_classShow {s1 : State} (h1 : Good M s0 q s1) (a2) (a3) (hm : Cover 0x4000000000000000000000000040 M) : Good M s0 q (State.classShow s1 a2 a3) := by
  unfold State.classShow
  repeat' (first
    | with_reducible assumption
    | exact Cover.sub hm rfl
    | exact Cover.bit hm rfl
    | exact Cover.bit hm (by dsimp only [Fld.block]; rfl)
    | (extract_lets -underBinder +onlyGivenNames x; refine (fun (hx : Good M s0 q x) => ?_) ?_; (on_goal 1 => try clear_value x); (on_goal 2 => subst x))
    | (extract_lets -underBinder +onlyGivenNames x; try clear_value x)
    | intro x
    | with_reducible apply good_showSb
    | with_reducible apply good_ev
    | with_reducible apply good_ite)

theorem good_agreeShelf {s1 : State} (h1 : Good M s0 q s1) (hm : Cover 0x4000000000000000000000200040 M) : Good M s0 q (State.agreeShelf s1) := by
  unfold State.agreeShelf
  repeat' (first
    | with_reducible assumption
    | exact Cover.sub hm rfl
    | exact Cover.bit hm rfl
    | exact Cover.bit hm (by dsimp only [Fld.block]; rfl)
    | (extract_lets -underBinder +onlyGivenNames x; refine (fun (hx : Good M s0 q x) => ?_) ?_; (on_goal 1 => try clear_value x); (on_goal 2 => subst x))
    | (extract_lets -underBinder +onlyGivenNames x; try clear_value x)
    | intro x
    | (simp only [good_mk_iff]; refine GoodParts.of (?_ : Good M s0 q _) rfl rfl rfl rfl)
    | with_reducible apply good_classShow
    | with_reducible apply good_foldS
    | with_reducible apply good_ite
    | split)

theorem good_posBack {s1 : State} (h1 : Good M s0 q s1) (a2) (a3) (a4) (hm : Cover 0xCC1400000C0000001C00142A0040 M) : Good M s0 q (State.posBack s1 a2 a3 a4) := by
  unfold State.posBack
  repeat' (first
    | with_reducible assumption
    | exact Cover.sub hm rfl
    | exact Cover.bit hm rfl
    | exact Cover.bit hm (by dsimp only [Fld.block]; rfl)
    | (extract_lets -underBinder +onlyGivenNames x; try clear_value x)
    | intro x
    | with_reducible apply good_nsmShow
    | with_reducible apply good_chanShow
    | with_reducible apply good_recordWrite
    | with_reducible apply good_ledsShow
    | with_reducible apply good_setGrp)

theorem good_placeDrive {s1 : State} (h1 : Good M s0 q s1) (a2) (a3) (hm : Cover 0xCC1400000C0000001C00142A0042 M) : Good M s0 q (State.placeDrive s1 a2 a3) := by
  unfold State.placeDrive
  repeat' (first
    | with_reducible assumption
    | exact Cover.sub hm rfl
    | exact Cover.bit hm rfl
    | exact Cover.bit hm (by dsimp only [Fld.block]; rfl)
    | (extract_lets -underBinder +onlyGivenNames x; refine (fun (hx : Good M s0 q x) => ?_) ?_; (on_goal 1 => try clear_value x); (on_goal 2 => subst x))
    | (extract_lets -underBinder +onlyGivenNames x; try clear_value x)
    | intro x
    | with_reducible apply good_posBack
    | with_reducible apply good_takeTarget
    | with_reducible apply good_setGrp
    | with_reducible apply good_writeSb
    | with_reducible apply good_takeSpare
    | with_reducible apply good_foldS
    | with_reducible apply good_ite
    | split)

theorem good_reshapeBack {s1 : State} (h1 : Good M s0 q s1) (a2) (a3) (hm : Cover 0x1400000000000000000000180000 M) : Good M s0 q (State.reshapeBack s1 a2 a3) := by
  unfold State.reshapeBack
  repeat' (first
    | with_reducible assumption
    | exact Cover.sub hm rfl
    | exact Cover.bit hm rfl
    | exact Cover.bit hm (by dsimp only [Fld.block]; rfl)
    | (extract_lets -underBinder +onlyGivenNames x; refine (fun (hx : Good M s0 q x) => ?_) ?_; (on_goal 1 => try clear_value x); (on_goal 2 => subst x))
    | (extract_lets -underBinder +onlyGivenNames x; try clear_value x)
    | intro x
    | (simp only [good_mk_iff]; refine GoodParts.of (?_ : Good M s0 q _) rfl rfl rfl rfl)
    | with_reducible apply good_setRsh
    | with_reducible apply good_setGrp
    | with_reducible apply good_reshapeResume
    | with_reducible apply good_foldS
    | with_reducible apply good_ite
    | split)

theorem good_execDriveIdentifyComplete (a1) (a2) (a3) {s4 : State} (h4 : Good M s0 q s4) (hm : Cover 0x40000FC1400000C0000001C00143A0062 M) : OutGood M s0 q (execDriveIdentifyComplete a1 a2 a3 s4) := by
  unfold execDriveIdentifyComplete
  repeat' (first
    | with_reducible assumption
    | exact Cover.sub hm rfl
    | exact Cover.bit hm rfl
    | exact Cover.bit hm (by dsimp only [Fld.block]; rfl)
    | (extract_lets -underBinder +onlyGivenNames x; refine (fun (hx : Good M s0 q x) => ?_) ?_; (on_goal 1 => try clear_value x); (on_goal 2 => subst x))
    | (extract_lets -underBinder +onlyGivenNames x; try clear_value x)
    | intro x
    | (simp only [good_mk_iff]; refine GoodParts.of (?_ : Good M s0 q _) rfl rfl rfl rfl)
    | with_reducible apply OutGood.of
    | with_reducible apply good_onRoot
    | with_reducible apply good_bayBad
    | with_reducible apply good_w
    | with_reducible apply good_drvIssue
    | with_reducible apply good_setDrive
    | with_reducible apply good_ev
    | with_reducible apply good_bayState
    | with_reducible apply good_classShow
    | with_reducible apply good_agreeShelf
    | with_reducible apply good_ledShow
    | with_reducible apply good_ceilingShow
    | with_reducible apply good_reshapeRecheck
    | with_reducible apply good_reshapeBack
    | with_reducible apply good_placeDrive
    | with_reducible apply good_ite)

theorem good_linkLost {s1 : State} (h1 : Good M s0 q s1) (a2) (a3) (hm : Cover 0x40003FD5F00000C0000001C00143F0062 M) : Good M s0 q (State.linkLost s1 a2 a3) := by
  unfold State.linkLost
  repeat' (first
    | with_reducible assumption
    | exact Cover.sub hm rfl
    | exact Cover.bit hm rfl
    | exact Cover.bit hm (by dsimp only [Fld.block]; rfl)
    | (extract_lets -underBinder +onlyGivenNames x; refine (fun (hx : Good M s0 q x) => ?_) ?_; (on_goal 1 => try clear_value x); (on_goal 2 => subst x))
    | (extract_lets -underBinder +onlyGivenNames x; try clear_value x)
    | intro x
    | with_reducible apply good_drvBump
    | with_reducible apply good_driveLost
    | with_reducible apply good_bayTrain
    | with_reducible apply good_linkGone
    | with_reducible apply good_ite)

theorem good_execDriveLinkLoss (a1) (a2) {s3 : State} (h3 : Good M s0 q s3) (hm : Cover 0x40003FD5F00000C0000001C00143F0062 M) : OutGood M s0 q (execDriveLinkLoss a1 a2 s3) := by
  unfold execDriveLinkLoss
  repeat' (first
    | with_reducible assumption
    | exact Cover.sub hm rfl
    | exact Cover.bit hm rfl
    | exact Cover.bit hm (by dsimp only [Fld.block]; rfl)
    | (extract_lets -underBinder +onlyGivenNames x; try clear_value x)
    | intro x
    | with_reducible apply OutGood.of
    | with_reducible apply good_onRoot
    | with_reducible apply good_linkLost
    | with_reducible apply good_ite)

theorem good_execDownstreamPortContainment (a1) (a2) {s3 : State} (h3 : Good M s0 q s3) (hm : Cover 0x40003FD5F00000C0000001C00143F0062 M) : OutGood M s0 q (execDownstreamPortContainment a1 a2 s3) := by
  unfold execDownstreamPortContainment
  repeat' (first
    | with_reducible assumption
    | exact Cover.sub hm rfl
    | exact Cover.bit hm rfl
    | exact Cover.bit hm (by dsimp only [Fld.block]; rfl)
    | (extract_lets -underBinder +onlyGivenNames x; try clear_value x)
    | intro x
    | (simp only [good_mk_iff]; refine GoodParts.of (?_ : Good M s0 q _) rfl rfl rfl rfl)
    | with_reducible apply OutGood.of
    | with_reducible apply good_onRoot
    | with_reducible apply good_linkLost
    | with_reducible apply good_w
    | with_reducible apply good_drvBump
    | with_reducible apply good_ite)

theorem good_execDriveControllerFatal (a1) (a2) {s3 : State} (h3 : Good M s0 q s3) (hm : Cover 0x40003FD5F00000C0000001C00143F0062 M) : OutGood M s0 q (execDriveControllerFatal a1 a2 s3) := by
  unfold execDriveControllerFatal
  repeat' (first
    | with_reducible assumption
    | exact Cover.sub hm rfl
    | exact Cover.bit hm rfl
    | exact Cover.bit hm (by dsimp only [Fld.block]; rfl)
    | (extract_lets -underBinder +onlyGivenNames x; try clear_value x)
    | intro x
    | (simp only [good_mk_iff]; refine GoodParts.of (?_ : Good M s0 q _) rfl rfl rfl rfl)
    | with_reducible apply OutGood.of
    | with_reducible apply good_onRoot
    | with_reducible apply good_ceilingShow
    | with_reducible apply good_driveFault
    | with_reducible apply good_ite)

theorem good_execDriveCommandTimeout (a1) (a2) (a3) {s4 : State} (h4 : Good M s0 q s4) (hm : Cover 0xC000000000000000100000200041 M) : OutGood M s0 q (execDriveCommandTimeout a1 a2 a3 s4) := by
  unfold execDriveCommandTimeout
  repeat' (first
    | with_reducible assumption
    | exact Cover.sub hm rfl
    | exact Cover.bit hm rfl
    | exact Cover.bit hm (by dsimp only [Fld.block]; rfl)
    | (extract_lets -underBinder +onlyGivenNames x; refine (fun (hx : Good M s0 q x) => ?_) ?_; (on_goal 1 => try clear_value x); (on_goal 2 => subst x))
    | (extract_lets -underBinder +onlyGivenNames x; try clear_value x)
    | intro x
    | (simp only [good_mk_iff]; refine GoodParts.of (?_ : Good M s0 q _) rfl rfl rfl rfl)
    | with_reducible apply OutGood.of
    | with_reducible apply good_onRoot
    | with_reducible apply good_advance
    | with_reducible apply good_setDrive
    | with_reducible apply good_emit
    | with_reducible apply good_drvBump
    | with_reducible apply good_ite
    | with_reducible apply OutGood.ite
    | split)

theorem good_execDriveAbortComplete (a1) (a2) (a3) {s4 : State} (h4 : Good M s0 q s4) (hm : Cover 0x3FD5F00000C0000001C00143F0062 M) : OutGood M s0 q (execDriveAbortComplete a1 a2 a3 s4) := by
  unfold execDriveAbortComplete
  repeat' (first
    | with_reducible assumption
    | exact Cover.sub hm rfl
    | exact Cover.bit hm rfl
    | exact Cover.bit hm (by dsimp only [Fld.block]; rfl)
    | (extract_lets -underBinder +onlyGivenNames x; try clear_value x)
    | intro x
    | with_reducible apply OutGood.of
    | with_reducible apply good_onRoot
    | with_reducible apply good_transient
    | with_reducible apply good_ite
    | with_reducible apply OutGood.ite
    | split)

theorem good_execDriveAbortWaitExpiry (a1) (a2) (a3) {s4 : State} (h4 : Good M s0 q s4) (hm : Cover 0x3FD5F00000C0000001C00143F0063 M) : OutGood M s0 q (execDriveAbortWaitExpiry a1 a2 a3 s4) := by
  unfold execDriveAbortWaitExpiry
  repeat' (first
    | with_reducible assumption
    | exact Cover.sub hm rfl
    | exact Cover.bit hm rfl
    | exact Cover.bit hm (by dsimp only [Fld.block]; rfl)
    | (extract_lets -underBinder +onlyGivenNames x; try clear_value x)
    | intro x
    | with_reducible apply OutGood.of
    | with_reducible apply good_onRoot
    | with_reducible apply good_transient
    | with_reducible apply good_advance
    | with_reducible apply good_ite
    | with_reducible apply OutGood.ite
    | split)

theorem good_health {s1 : State} (h1 : Good M s0 q s1) (a2) (a3) (a4) (hm : Cover 0x40003FD5F00000C0000001C00143F0062 M) : Good M s0 q (State.health s1 a2 a3 a4) := by
  unfold State.health
  repeat' (first
    | with_reducible assumption
    | exact Cover.sub hm rfl
    | exact Cover.bit hm rfl
    | exact Cover.bit hm (by dsimp only [Fld.block]; rfl)
    | (extract_lets -underBinder +onlyGivenNames x; refine (fun (hx : Good M s0 q x) => ?_) ?_; (on_goal 1 => try clear_value x); (on_goal 2 => subst x))
    | (extract_lets -underBinder +onlyGivenNames x; try clear_value x)
    | intro x
    | with_reducible apply good_drvBump
    | with_reducible apply good_w
    | with_reducible apply good_setDrive
    | with_reducible apply good_logEv
    | with_reducible apply good_ev
    | with_reducible apply good_ceilingShow
    | with_reducible apply good_driveFault
    | with_reducible apply good_ite)

theorem good_execHealthPoll (a1) (a2) (a3) {s4 : State} (h4 : Good M s0 q s4) (hm : Cover 0x40003FD5F00000C0000001C00143F0063 M) : OutGood M s0 q (execHealthPoll a1 a2 a3 s4) := by
  unfold execHealthPoll
  repeat' (first
    | with_reducible assumption
    | exact Cover.sub hm rfl
    | exact Cover.bit hm rfl
    | exact Cover.bit hm (by dsimp only [Fld.block]; rfl)
    | (extract_lets -underBinder +onlyGivenNames x; refine (fun (hx : Good M s0 q x) => ?_) ?_; (on_goal 1 => try clear_value x); (on_goal 2 => subst x))
    | (extract_lets -underBinder +onlyGivenNames x; try clear_value x)
    | intro x
    | (simp only [good_mk_iff]; refine GoodParts.of (?_ : Good M s0 q _) rfl rfl rfl rfl)
    | with_reducible apply OutGood.of
    | with_reducible apply good_onRoot
    | with_reducible apply good_advance
    | with_reducible apply good_health
    | with_reducible apply good_bgBump
    | with_reducible apply good_bgCharge
    | with_reducible apply good_ite)

theorem good_execDriveAsyncEvent (a1) (a2) (a3) (a4) {s5 : State} (h5 : Good M s0 q s5) (hm : Cover 0x40003FD5F00000C0000001C00143F0062 M) : OutGood M s0 q (execDriveAsyncEvent a1 a2 a3 a4 s5) := by
  unfold execDriveAsyncEvent
  repeat' (first
    | with_reducible assumption
    | exact Cover.sub hm rfl
    | exact Cover.bit hm rfl
    | exact Cover.bit hm (by dsimp only [Fld.block]; rfl)
    | (extract_lets -underBinder +onlyGivenNames x; try clear_value x)
    | intro x
    | with_reducible apply OutGood.of
    | with_reducible apply good_onRoot
    | with_reducible apply good_health
    | with_reducible apply good_ite)

theorem good_execDrvLocateOn (a1) (a2) {s3 : State} (h3 : Good M s0 q s3) (hm : Cover 0x4000000000000000000000200000 M) : OutGood M s0 q (execDrvLocateOn a1 a2 s3) := by
  unfold execDrvLocateOn
  repeat' (first
    | with_reducible assumption
    | exact Cover.sub hm rfl
    | exact Cover.bit hm rfl
    | exact Cover.bit hm (by dsimp only [Fld.block]; rfl)
    | (extract_lets -underBinder +onlyGivenNames x; try clear_value x)
    | intro x
    | (simp only [good_mk_iff]; refine GoodParts.of (?_ : Good M s0 q _) rfl rfl rfl rfl)
    | with_reducible apply OutGood.of
    | with_reducible apply good_onDie
    | with_reducible apply good_ledShow
    | with_reducible apply good_setDrive)

theorem good_execDrvLocateOff (a1) (a2) {s3 : State} (h3 : Good M s0 q s3) (hm : Cover 0x4000000000000000000000200000 M) : OutGood M s0 q (execDrvLocateOff a1 a2 s3) := by
  unfold execDrvLocateOff
  repeat' (first
    | with_reducible assumption
    | exact Cover.sub hm rfl
    | exact Cover.bit hm rfl
    | exact Cover.bit hm (by dsimp only [Fld.block]; rfl)
    | (extract_lets -underBinder +onlyGivenNames x; try clear_value x)
    | intro x
    | (simp only [good_mk_iff]; refine GoodParts.of (?_ : Good M s0 q _) rfl rfl rfl rfl)
    | with_reducible apply OutGood.of
    | with_reducible apply good_onDie
    | with_reducible apply good_ledShow
    | with_reducible apply good_setDrive)

theorem good_execDrvClaim (a1) (a2) (a3) {s4 : State} (h4 : Good M s0 q s4) (hm : Cover 0xC0000000000000001F0010200062 M) : OutGood M s0 q (execDrvClaim a1 a2 a3 s4) := by
  unfold execDrvClaim
  repeat' (first
    | with_reducible assumption
    | exact Cover.sub hm rfl
    | exact Cover.bit hm rfl
    | exact Cover.bit hm (by dsimp only [Fld.block]; rfl)
    | (extract_lets -underBinder +onlyGivenNames x; refine (fun (hx : Good M s0 q x) => ?_) ?_; (on_goal 1 => try clear_value x); (on_goal 2 => subst x))
    | (extract_lets -underBinder +onlyGivenNames x; try clear_value x)
    | intro x
    | (simp only [good_mk_iff]; refine GoodParts.of (?_ : Good M s0 q _) rfl rfl rfl rfl)
    | with_reducible apply OutGood.of
    | with_reducible apply good_onDie
    | with_reducible apply good_secureOnly
    | with_reducible apply good_drvIssue
    | with_reducible apply good_setDrive
    | with_reducible apply good_discardState
    | with_reducible apply good_ite)

theorem good_execDrvRestartDiscovery (a1) (a2) (a3) {s4 : State} (h4 : Good M s0 q s4) (hm : Cover 0x4000000000000000130000200060 M) : OutGood M s0 q (execDrvRestartDiscovery a1 a2 a3 s4) := by
  unfold execDrvRestartDiscovery
  repeat' (first
    | with_reducible assumption
    | exact Cover.sub hm rfl
    | exact Cover.bit hm rfl
    | exact Cover.bit hm (by dsimp only [Fld.block]; rfl)
    | (extract_lets -underBinder +onlyGivenNames x; try clear_value x)
    | intro x
    | (simp only [good_mk_iff]; refine GoodParts.of (?_ : Good M s0 q _) rfl rfl rfl rfl)
    | with_reducible apply OutGood.of
    | with_reducible apply good_onDie
    | with_reducible apply good_secureOnly
    | with_reducible apply good_bayTrain
    | with_reducible apply good_emit
    | with_reducible apply good_discardState
    | with_reducible apply good_ite)

theorem good_execDrvSnapshot (a1) (a2) {s3 : State} (h3 : Good M s0 q s3) (hm : Cover 0x4000000000000000000000000008 M) : OutGood M s0 q (execDrvSnapshot a1 a2 s3) := by
  unfold execDrvSnapshot
  repeat' (first
    | with_reducible assumption
    | exact Cover.sub hm rfl
    | exact Cover.bit hm rfl
    | exact Cover.bit hm (by dsimp only [Fld.block]; rfl)
    | (extract_lets -underBinder +onlyGivenNames x; try clear_value x)
    | intro x
    | (simp only [good_mk_iff]; refine GoodParts.of (?_ : Good M s0 q _) rfl rfl rfl rfl)
    | with_reducible apply OutGood.of
    | with_reducible apply good_onDie
    | with_reducible apply good_snapshot)

end Sys2Proof.Machine
end

