-- ==== Sys2Proof/Laws/Cipher.lean ====
section
/-! SUPPORT. What the operations of Machine/Cipher.lean keep (see Laws/Keep.lean), one lemma for each. -/

set_option Elab.async false

set_option linter.all false

namespace Sys2Proof.Machine

variable {M : Nat} {s0 : State} {q : Prop}

theorem good_setKeySlot {s1 : State} (h1 : Good M s0 q s1) (a2) (a3) (a4) (hm : Cover 0x400000 M) : Good M s0 q (State.setKeySlot s1 a2 a3 a4) := by
  unfold State.setKeySlot
  repeat' (first
    | with_reducible assumption
    | exact Cover.sub hm rfl
    | exact Cover.bit hm rfl
    | exact Cover.bit hm (by dsimp only [Fld.block]; rfl)
    | (extract_lets -underBinder +onlyGivenNames x; try clear_value x)
    | intro x
    | (simp only [good_mk_iff]; refine GoodParts.of (?_ : Good M s0 q _) rfl rfl rfl rfl))

theorem good_setSlotState {s1 : State} (h1 : Good M s0 q s1) (a2) (a3) (a4) (a5) (hm : Cover 0x10000000000000000000000000000 M) : Good M s0 q (State.setSlotState s1 a2 a3 a4 a5) := by
  unfold State.setSlotState
  repeat' (first
    | with_reducible assumption
    | exact Cover.sub hm rfl
    | exact Cover.bit hm rfl
    | exact Cover.bit hm (by dsimp only [Fld.block]; rfl)
    | (extract_lets -underBinder +onlyGivenNames x; try clear_value x)
    | intro x
    | with_reducible apply good_w
    | with_reducible apply good_ite)

theorem good_slotsShow {s1 : State} (h1 : Good M s0 q s1) (a2) (hm : Cover 0x10000000000000000000000000000 M := by first | assumption | exact Cover.sub (by assumption) rfl) : Good M s0 q (State.slotsShow s1 a2) := by
  unfold State.slotsShow
  repeat' (first
    | with_reducible assumption
    | exact Cover.sub hm rfl
    | exact Cover.bit hm rfl
    | exact Cover.bit hm (by dsimp only [Fld.block]; rfl)
    | (extract_lets -underBinder +onlyGivenNames x; try clear_value x)
    | intro x
    | with_reducible apply good_wb
    | with_reducible apply good_w)

theorem good_loadRefused {s1 : State} (h1 : Good M s0 q s1) (a2) (a3) (hm : Cover 0x30000000000000000100000000040 M) : Good M s0 q (State.loadRefused s1 a2 a3) := by
  unfold State.loadRefused
  repeat' (first
    | with_reducible assumption
    | exact Cover.sub hm rfl
    | exact Cover.bit hm rfl
    | exact Cover.bit hm (by dsimp only [Fld.block]; rfl)
    | (extract_lets -underBinder +onlyGivenNames x; try clear_value x)
    | intro x
    | with_reducible apply good_ev
    | with_reducible apply good_cipBump
    | with_reducible apply good_w)

theorem good_keyReplaced {s1 : State} (h1 : Good M s0 q s1) (a2) (a3) (hm : Cover 0xC55400000C0000001C0014660040 M) : Good M s0 q (State.keyReplaced s1 a2 a3) := by
  unfold State.keyReplaced
  repeat' (first
    | with_reducible assumption
    | exact Cover.sub hm rfl
    | exact Cover.bit hm rfl
    | exact Cover.bit hm (by dsimp only [Fld.block]; rfl)
    | (extract_lets -underBinder +onlyGivenNames x; refine (fun (hx : Good M s0 q x) => ?_) ?_; (on_goal 1 => try clear_value x); (on_goal 2 => subst x))
    | (extract_lets -underBinder +onlyGivenNames x; try clear_value x)
    | intro x
    | (simp only [good_mk_iff]; refine GoodParts.of (?_ : Good M s0 q _) rfl rfl rfl rfl)
    | with_reducible apply good_retireStart
    | with_reducible apply good_setFormat
    | with_reducible apply good_setSanitize
    | with_reducible apply good_foldS
    | with_reducible apply good_ite
    | split)

theorem good_slotLoaded {s1 : State} (h1 : Good M s0 q s1) (a2) (a3) (a4) (a5) (a6) (a7) (a8) (hm : Cover 0x3C55400000C0000001C0014660040 M) : Good M s0 q (State.slotLoaded s1 a2 a3 a4 a5 a6 a7 a8) := by
  unfold State.slotLoaded
  repeat' (first
    | with_reducible assumption
    | exact Cover.sub hm rfl
    | exact Cover.bit hm rfl
    | exact Cover.bit hm (by dsimp only [Fld.block]; rfl)
    | (extract_lets -underBinder +onlyGivenNames x; refine (fun (hx : Good M s0 q x) => ?_) ?_; (on_goal 1 => try clear_value x); (on_goal 2 => subst x))
    | (extract_lets -underBinder +onlyGivenNames x; try clear_value x)
    | intro x
    | (simp only [good_mk_iff]; refine GoodParts.of (?_ : Good M s0 q _) rfl rfl rfl rfl)
    | with_reducible apply good_setSlotState
    | with_reducible apply good_setKeySlot
    | with_reducible apply good_cipBump
    | with_reducible apply good_wb
    | with_reducible apply good_w
    | with_reducible apply good_slotsShow
    | with_reducible apply good_keyReplaced
    | with_reducible apply good_nsmShow
    | with_reducible apply good_ite)

theorem good_slotEmptied {s1 : State} (h1 : Good M s0 q s1) (a2) (a3) (a4) (hm : Cover 0x1001400000C000000100004420040 M) : Good M s0 q (State.slotEmptied s1 a2 a3 a4) := by
  unfold State.slotEmptied
  repeat' (first
    | with_reducible assumption
    | exact Cover.sub hm rfl
    | exact Cover.bit hm rfl
    | exact Cover.bit hm (by dsimp only [Fld.block]; rfl)
    | (extract_lets -underBinder +onlyGivenNames x; refine (fun (hx : Good M s0 q x) => ?_) ?_; (on_goal 1 => try clear_value x); (on_goal 2 => subst x))
    | (extract_lets -underBinder +onlyGivenNames x; try clear_value x)
    | intro x
    | with_reducible apply good_setSlotState
    | with_reducible apply good_setKeySlot
    | with_reducible apply good_slotsShow
    | with_reducible apply good_w
    | with_reducible apply good_nsmShow
    | with_reducible apply good_ite)

theorem good_execKeySlotLoad (a1) (a2) (a3) (a4) (a5) (a6) {s7 : State} (h7 : Good M s0 q s7) (hm : Cover 0x3C55400000C0000001F0014660060 M) : OutGood M s0 q (execKeySlotLoad a1 a2 a3 a4 a5 a6 s7) := by
  unfold execKeySlotLoad
  repeat' (first
    | with_reducible assumption
    | exact Cover.sub hm rfl
    | exact Cover.bit hm rfl
    | exact Cover.bit hm (by dsimp only [Fld.block]; rfl)
    | (extract_lets -underBinder +onlyGivenNames x; refine (fun (hx : Good M s0 q x) => ?_) ?_; (on_goal 1 => try clear_value x); (on_goal 2 => subst x))
    | (extract_lets -underBinder +onlyGivenNames x; try clear_value x)
    | intro x
    | (simp only [good_mk_iff]; refine GoodParts.of (?_ : Good M s0 q _) rfl rfl rfl rfl)
    | with_reducible apply OutGood.of
    | with_reducible apply good_secureOnly
    | with_reducible apply good_loadRefused
    | with_reducible apply good_w
    | with_reducible apply good_slotLoaded
    | with_reducible apply good_slotsShow
    | with_reducible apply good_setSlotState
    | with_reducible apply good_setKeySlot
    | with_reducible apply good_ite
    | with_reducible apply OutGood.ite
    | split)

theorem good_execKeySlotClear (a1) (a2) (a3) (a4) {s5 : State} (h5 : Good M s0 q s5) (hm : Cover 0x30000000000000000130000400060 M) : OutGood M s0 q (execKeySlotClear a1 a2 a3 a4 s5) := by
  unfold execKeySlotClear
  repeat' (first
    | with_reducible assumption
    | exact Cover.sub hm rfl
    | exact Cover.bit hm rfl
    | exact Cover.bit hm (by dsimp only [Fld.block]; rfl)
    | (extract_lets -underBinder +onlyGivenNames x; refine (fun (hx : Good M s0 q x) => ?_) ?_; (on_goal 1 => try clear_value x); (on_goal 2 => subst x))
    | (extract_lets -underBinder +onlyGivenNames x; try clear_value x)
    | intro x
    | with_reducible apply OutGood.of
    | with_reducible apply good_secureOnly
    | with_reducible apply good_loadRefused
    | with_reducible apply good_w
    | with_reducible apply good_slotsShow
    | with_reducible apply good_setSlotState
    | with_reducible apply good_setKeySlot
    | with_reducible apply good_ite)

theorem good_execKeySlotFenceComplete (a1) (a2) (a3) {s4 : State} (h4 : Good M s0 q s4) (hm : Cover 0x3C55400000C0000001C0014660040 M) : OutGood M s0 q (execKeySlotFenceComplete a1 a2 a3 s4) := by
  unfold execKeySlotFenceComplete
  repeat' (first
    | with_reducible assumption
    | exact Cover.sub hm rfl
    | exact Cover.bit hm rfl
    | exact Cover.bit hm (by dsimp only [Fld.block]; rfl)
    | (extract_lets -underBinder +onlyGivenNames x; try clear_value x)
    | intro x
    | with_reducible apply OutGood.of
    | with_reducible apply good_slotEmptied
    | with_reducible apply good_slotLoaded
    | with_reducible apply good_ite
    | with_reducible apply OutGood.ite
    | split)

theorem good_keyRefused {s1 : State} (h1 : Good M s0 q s1) (a2) (a3) (hm : Cover 0xC55F00000C0000001C0014270060 M) : Good M s0 q (State.keyRefused s1 a2 a3) := by
  unfold State.keyRefused
  repeat' (first
    | with_reducible assumption
    | exact Cover.sub hm rfl
    | exact Cover.bit hm rfl
    | exact Cover.bit hm (by dsimp only [Fld.block]; rfl)
    | (extract_lets -underBinder +onlyGivenNames x; refine (fun (hx : Good M s0 q x) => ?_) ?_; (on_goal 1 => try clear_value x); (on_goal 2 => subst x))
    | (extract_lets -underBinder +onlyGivenNames x; try clear_value x)
    | intro x
    | (simp only [good_mk_iff]; refine GoodParts.of (?_ : Good M s0 q _) rfl rfl rfl rfl)
    | with_reducible apply good_logEv
    | with_reducible apply good_setFormat
    | with_reducible apply good_completeWith
    | with_reducible apply good_ev
    | with_reducible apply good_w
    | with_reducible apply good_setSanitize
    | with_reducible apply good_foldS
    | with_reducible apply good_ite
    | split)

theorem good_commitGeneration {s1 : State} (h1 : Good M s0 q s1) (a2) (a3) (hm : Cover 0x400000 M) : Good M s0 q (State.commitGeneration s1 a2 a3) := by
  unfold State.commitGeneration
  repeat' (first
    | with_reducible assumption
    | exact Cover.sub hm rfl
    | exact Cover.bit hm rfl
    | exact Cover.bit hm (by dsimp only [Fld.block]; rfl)
    | (extract_lets -underBinder +onlyGivenNames x; try clear_value x)
    | intro x
    | (simp only [good_mk_iff]; refine GoodParts.of (?_ : Good M s0 q _) rfl rfl rfl rfl))

theorem good_execKeyReplacement (a1) (a2) {s3 : State} (h3 : Good M s0 q s3) (hm : Cover 0xC55F00000C0000001C0014670060 M) : OutGood M s0 q (execKeyReplacement a1 a2 s3) := by
  unfold execKeyReplacement
  repeat' (first
    | with_reducible assumption
    | exact Cover.sub hm rfl
    | exact Cover.bit hm rfl
    | exact Cover.bit hm (by dsimp only [Fld.block]; rfl)
    | (extract_lets -underBinder +onlyGivenNames x; try clear_value x)
    | intro x
    | (simp only [good_mk_iff]; refine GoodParts.of (?_ : Good M s0 q _) rfl rfl rfl rfl)
    | with_reducible apply OutGood.of
    | with_reducible apply good_onCd
    | with_reducible apply good_keyRefused
    | with_reducible apply good_emit
    | with_reducible apply good_commitGeneration
    | with_reducible apply good_ite)

theorem good_execPartnerGenerationCommitted (a1) (a2) {s3 : State} (h3 : Good M s0 q s3) (hm : Cover 0x400000 M) : OutGood M s0 q (execPartnerGenerationCommitted a1 a2 s3) := by
  unfold execPartnerGenerationCommitted
  repeat' (first
    | with_reducible assumption
    | exact Cover.sub hm rfl
    | exact Cover.bit hm rfl
    | exact Cover.bit hm (by dsimp only [Fld.block]; rfl)
    | (extract_lets -underBinder +onlyGivenNames x; try clear_value x)
    | intro x
    | with_reducible apply OutGood.of
    | with_reducible apply good_onCd
    | with_reducible apply good_commitGeneration
    | with_reducible apply good_ite)

theorem good_gcmShow {s1 : State} (h1 : Good M s0 q s1) (a2) (hm : Cover 0x10000000000000000000000000000 M := by first | assumption | exact Cover.sub (by assumption) rfl) : Good M s0 q (State.gcmShow s1 a2) := by
  unfold State.gcmShow
  repeat' (first
    | with_reducible assumption
    | exact Cover.sub hm rfl
    | exact Cover.bit hm rfl
    | exact Cover.bit hm (by dsimp only [Fld.block]; rfl)
    | (extract_lets -underBinder +onlyGivenNames x; refine (fun (hx : Good M s0 q x) => ?_) ?_; (on_goal 1 => try clear_value x); (on_goal 2 => subst x))
    | (extract_lets -underBinder +onlyGivenNames x; try clear_value x)
    | intro x
    | with_reducible apply good_wb
    | with_reducible apply good_w
    | with_reducible apply good_ite
    | split)

theorem good_gcmPush {s1 : State} (h1 : Good M s0 q s1) (a2) (a3) (a4) (hm : Cover 0x10000000000000000000000400000 M) : Good M s0 q (State.gcmPush s1 a2 a3 a4) := by
  unfold State.gcmPush
  repeat' (first
    | with_reducible assumption
    | exact Cover.sub hm rfl
    | exact Cover.bit hm rfl
    | exact Cover.bit hm (by dsimp only [Fld.block]; rfl)
    | (extract_lets -underBinder +onlyGivenNames x; try clear_value x)
    | intro x
    | (simp only [good_mk_iff]; refine GoodParts.of (?_ : Good M s0 q _) rfl rfl rfl rfl)
    | with_reducible apply good_gcmShow
    | with_reducible apply good_ite)

theorem good_execGcmDonePop (a1) {s2 : State} (h2 : Good M s0 q s2) (hm : Cover 0x10000000000000000000000400040 M) : OutGood M s0 q (execGcmDonePop a1 s2) := by
  unfold execGcmDonePop
  repeat' (first
    | with_reducible assumption
    | exact Cover.sub hm rfl
    | exact Cover.bit hm rfl
    | exact Cover.bit hm (by dsimp only [Fld.block]; rfl)
    | (extract_lets -underBinder +onlyGivenNames x; refine (fun (hx : Good M s0 q x) => ?_) ?_; (on_goal 1 => try clear_value x); (on_goal 2 => subst x))
    | (extract_lets -underBinder +onlyGivenNames x; try clear_value x)
    | intro x
    | (simp only [good_mk_iff]; refine GoodParts.of (?_ : Good M s0 q _) rfl rfl rfl rfl)
    | with_reducible apply OutGood.of
    | with_reducible apply good_onCd
    | with_reducible apply good_emit
    | with_reducible apply good_gcmShow)

theorem good_execCipSnapshot (a1) (a2) {s3 : State} (h3 : Good M s0 q s3) (hm : Cover 0x10000000000000000000000000008 M) : OutGood M s0 q (execCipSnapshot a1 a2 s3) := by
  unfold execCipSnapshot
  repeat' (first
    | with_reducible assumption
    | exact Cover.sub hm rfl
    | exact Cover.bit hm rfl
    | exact Cover.bit hm (by dsimp only [Fld.block]; rfl)
    | (extract_lets -underBinder +onlyGivenNames x; try clear_value x)
    | intro x
    | with_reducible apply OutGood.of
    | with_reducible apply good_snapshot
    | with_reducible apply good_ite)

theorem good_clearSlots {s1 : State} (h1 : Good M s0 q s1) (a2) (hm : Cover 0x1500015555000005550015555400400000 M := by first | assumption | exact Cover.sub (by assumption) rfl) :
    Good M s0 q (State.clearSlots s1 a2) := by
  unfold State.clearSlots
  lift_lets
  intro x y clear z
  refine good_gcmShow (good_w (good_slotsShow (?_ : Good M s0 q z) _) _ _ _ _) _
  refine good_mk_iff.2 (GoodParts.less h1 (.inr ⟨List.filter_sublist, fun k hk => alGet_filter fun v => ?_⟩) (.inl rfl) (.inl rfl)
    (.inl rfl))
  obtain ⟨kd, kf, ki⟩ := k
  cases kf <;> first | (simp [clear]; done) | (dsimp only [Fld.block] at hk; exact absurd (Cover.bit (k := 112) hm rfl) (by rw [hk]; exact Bool.false_ne_true))

theorem good_zeroise {s1 : State} (h1 : Good M s0 q s1) (a2) (hm : Cover 0x150001555500000D550015555404420040 M) : Good M s0 q (State.zeroise s1 a2) := by
  unfold State.zeroise
  repeat' (first
    | with_reducible assumption
    | exact Cover.sub hm rfl
    | exact Cover.bit hm rfl
    | exact Cover.bit hm (by dsimp only [Fld.block]; rfl)
    | (extract_lets -underBinder +onlyGivenNames x; refine (fun (hx : Good M s0 q x) => ?_) ?_; (on_goal 1 => try clear_value x); (on_goal 2 => subst x))
    | (extract_lets -underBinder +onlyGivenNames x; try clear_value x)
    | intro x
    | with_reducible apply good_ev
    | with_reducible apply good_clearSlots
    | with_reducible apply good_nsmShow
    | with_reducible apply good_ite)

end Sys2Proof.Machine
end

