-- ==== Sys2Proof/Laws/ImageSwitch.lean ====
section
/-! SUPPORT. What the operations of Machine/ImageSwitch.lean keep (see Laws/Keep.lean), one lemma for each. -/

set_option Elab.async false

set_option linter.all false

namespace Sys2Proof.Machine

variable {M : Nat} {s0 : State} {q : Prop}

theorem good_loadTime {s1 : State} (h1 : Good M s0 q s1) (a2) (hm : Cover 0x400000240 M) : Good M s0 q (State.loadTime s1 a2) := by
  unfold State.loadTime
  repeat' (first
    | with_reducible assumption
    | exact Cover.sub hm rfl
    | exact Cover.bit hm rfl
    | exact Cover.bit hm (by dsimp only [Fld.block]; rfl)
    | (extract_lets -underBinder +onlyGivenNames x; refine (fun (hx : Good M s0 q x) => ?_) ?_; (on_goal 1 => try clear_value x); (on_goal 2 => subst x))
    | (extract_lets -underBinder +onlyGivenNames x; try clear_value x)
    | intro x
    | (simp only [good_mk_iff]; refine GoodParts.of (?_ : Good M s0 q _) rfl rfl rfl rfl)
    | with_reducible apply good_select
    | with_reducible apply good_wb
    | with_reducible apply good_w
    | with_reducible apply good_ppsCheck
    | with_reducible apply good_utcShow
    | with_reducible apply good_reanchor
    | with_reducible apply good_ite)

theorem good_loadPort {s1 : State} (h1 : Good M s0 q s1) (a2) (hm : Cover 0x10000000000000000 M) : Good M s0 q (State.loadPort s1 a2) := by
  unfold State.loadPort
  repeat' (first
    | with_reducible assumption
    | exact Cover.sub hm rfl
    | exact Cover.bit hm rfl
    | exact Cover.bit hm (by dsimp only [Fld.block]; rfl)
    | (extract_lets -underBinder +onlyGivenNames x; refine (fun (hx : Good M s0 q x) => ?_) ?_; (on_goal 1 => try clear_value x); (on_goal 2 => subst x))
    | (extract_lets -underBinder +onlyGivenNames x; try clear_value x)
    | intro x
    | with_reducible apply good_w)

theorem good_loadPorts {s1 : State} (h1 : Good M s0 q s1) (a2) (a3) (a4) (hm : Cover 0x7000010000000A060 M) : Good M s0 q (State.loadPorts s1 a2 a3 a4) := by
  unfold State.loadPorts
  repeat' (first
    | with_reducible assumption
    | exact Cover.sub hm rfl
    | exact Cover.bit hm rfl
    | exact Cover.bit hm (by dsimp only [Fld.block]; rfl)
    | (extract_lets -underBinder +onlyGivenNames x; refine (fun (hx : Good M s0 q x) => ?_) ?_; (on_goal 1 => try clear_value x); (on_goal 2 => subst x))
    | (extract_lets -underBinder +onlyGivenNames x; try clear_value x)
    | intro x
    | with_reducible apply good_leaveUp
    | with_reducible apply good_wbit
    | with_reducible apply good_loadPort
    | with_reducible apply good_lanesFollow
    | with_reducible apply good_laneTo
    | with_reducible apply good_foldS
    | with_reducible apply good_ite)

theorem good_loadLease {s1 : State} (h1 : Good M s0 q s1) (a2) (hm : Cover 0x100000000000000000000000000000000 M) : Good M s0 q (State.loadLease s1 a2) := by
  unfold State.loadLease
  repeat' (first
    | with_reducible assumption
    | exact Cover.sub hm rfl
    | exact Cover.bit hm rfl
    | exact Cover.bit hm (by dsimp only [Fld.block]; rfl)
    | (extract_lets -underBinder +onlyGivenNames x; refine (fun (hx : Good M s0 q x) => ?_) ?_; (on_goal 1 => try clear_value x); (on_goal 2 => subst x))
    | (extract_lets -underBinder +onlyGivenNames x; try clear_value x)
    | intro x
    | with_reducible apply good_w)

theorem good_shadowSchedule {s1 : State} (h1 : Good M s0 q s1) (a2) (hm : Cover 0x200 M) : Good M s0 q (State.shadowSchedule s1 a2) := by
  unfold State.shadowSchedule
  repeat' (first
    | with_reducible assumption
    | exact Cover.sub hm rfl
    | exact Cover.bit hm rfl
    | exact Cover.bit hm (by dsimp only [Fld.block]; rfl)
    | (extract_lets -underBinder +onlyGivenNames x; try clear_value x)
    | intro x
    | (simp only [good_mk_iff]; refine GoodParts.of (?_ : Good M s0 q _) rfl rfl rfl rfl))

theorem good_commitSchedule {s1 : State} (h1 : Good M s0 q s1) (hm : Cover 0x400000240 M) : Good M s0 q (State.commitSchedule s1) := by
  unfold State.commitSchedule
  repeat' (first
    | with_reducible assumption
    | exact Cover.sub hm rfl
    | exact Cover.bit hm rfl
    | exact Cover.bit hm (by dsimp only [Fld.block]; rfl)
    | (extract_lets -underBinder +onlyGivenNames x; try clear_value x)
    | intro x
    | with_reducible apply good_commitEntries
    | with_reducible apply good_foldS)

theorem good_spareShow {s1 : State} (h1 : Good M s0 q s1) (a2) (hm : Cover 0x4000000000000000000000000000 M) : Good M s0 q (State.spareShow s1 a2) := by
  unfold State.spareShow
  repeat' (first
    | with_reducible assumption
    | exact Cover.sub hm rfl
    | exact Cover.bit hm rfl
    | exact Cover.bit hm (by dsimp only [Fld.block]; rfl)
    | (extract_lets -underBinder +onlyGivenNames x; try clear_value x)
    | intro x
    | with_reducible apply good_wb
    | with_reducible apply good_foldS)

theorem good_loadGroup {s1 : State} (h1 : Good M s0 q s1) (a2) (a3) (hm : Cover 0x45400000000000000000000C0000 M) : Good M s0 q (State.loadGroup s1 a2 a3) := by
  unfold State.loadGroup
  repeat' (first
    | with_reducible assumption
    | exact Cover.sub hm rfl
    | exact Cover.bit hm rfl
    | exact Cover.bit hm (by dsimp only [Fld.block]; rfl)
    | (extract_lets -underBinder +onlyGivenNames x; refine (fun (hx : Good M s0 q x) => ?_) ?_; (on_goal 1 => try clear_value x); (on_goal 2 => subst x))
    | (extract_lets -underBinder +onlyGivenNames x; try clear_value x)
    | intro x
    | with_reducible apply good_setGrp
    | with_reducible apply good_w
    | with_reducible apply good_setSp
    | with_reducible apply good_spareShow
    | with_reducible apply good_ite)

theorem good_dropGroup {s1 : State} (h1 : Good M s0 q s1) (a2) (hm : Cover 0x45400000000000000000000C0000 M) : Good M s0 q (State.dropGroup s1 a2) := by
  unfold State.dropGroup
  repeat' (first
    | with_reducible assumption
    | exact Cover.sub hm rfl
    | exact Cover.bit hm rfl
    | exact Cover.bit hm (by dsimp only [Fld.block]; rfl)
    | (extract_lets -underBinder +onlyGivenNames x; refine (fun (hx : Good M s0 q x) => ?_) ?_; (on_goal 1 => try clear_value x); (on_goal 2 => subst x))
    | (extract_lets -underBinder +onlyGivenNames x; try clear_value x)
    | intro x
    | with_reducible apply good_setGrp
    | with_reducible apply good_chanShow
    | with_reducible apply good_spareShow
    | with_reducible apply good_w
    | with_reducible apply good_setSp)

theorem good_loadTables {s1 : State} (h1 : Good M s0 q s1) (a2) (a3) (a4) (hm : Cover 0x1000045400000000700001004000CA260 M) : Good M s0 q (State.loadTables s1 a2 a3 a4) := by
  unfold State.loadTables
  repeat' (first
    | with_reducible assumption
    | exact Cover.sub hm rfl
    | exact Cover.bit hm rfl
    | exact Cover.bit hm (by dsimp only [Fld.block]; rfl)
    | (extract_lets -underBinder +onlyGivenNames x; refine (fun (hx : Good M s0 q x) => ?_) ?_; (on_goal 1 => try clear_value x); (on_goal 2 => subst x))
    | (extract_lets -underBinder +onlyGivenNames x; try clear_value x)
    | intro x
    | with_reducible apply good_loadLease
    | with_reducible apply good_loadPorts
    | with_reducible apply good_loadTime
    | with_reducible apply good_loadGroup
    | with_reducible apply good_shadowSchedule
    | with_reducible apply good_foldS)

theorem good_loadEndpoint {s1 : State} (h1 : Good M s0 q s1) (a2) (hm : Cover 0x4000000000000000000 M) : Good M s0 q (State.loadEndpoint s1 a2) := by
  unfold State.loadEndpoint
  repeat' (first
    | with_reducible assumption
    | exact Cover.sub hm rfl
    | exact Cover.bit hm rfl
    | exact Cover.bit hm (by dsimp only [Fld.block]; rfl)
    | (extract_lets -underBinder +onlyGivenNames x; try clear_value x)
    | intro x
    | with_reducible apply good_w
    | with_reducible apply good_wb
    | with_reducible apply good_foldS)

theorem good_drainNamespaces {s1 : State} (h1 : Good M s0 q s1) (a2) (a3) (a4) (hm : Cover 0x1400000C000000100004020040 M) : Good M s0 q (State.drainNamespaces s1 a2 a3 a4) := by
  unfold State.drainNamespaces
  repeat' (first
    | with_reducible assumption
    | exact Cover.sub hm rfl
    | exact Cover.bit hm rfl
    | exact Cover.bit hm (by dsimp only [Fld.block]; rfl)
    | (extract_lets -underBinder +onlyGivenNames x; refine (fun (hx : Good M s0 q x) => ?_) ?_; (on_goal 1 => try clear_value x); (on_goal 2 => subst x))
    | (extract_lets -underBinder +onlyGivenNames x; try clear_value x)
    | intro x
    | (simp only [good_mk_iff]; refine GoodParts.of (?_ : Good M s0 q _) rfl rfl rfl rfl)
    | with_reducible apply good_setCd
    | with_reducible apply good_nsmShow
    | with_reducible apply good_foldS
    | with_reducible apply good_ite)

theorem good_disableChannel {s1 : State} (h1 : Good M s0 q s1) (a2) (hm : Cover 0x1400000C000000100004020140 M) : Good M s0 q (State.disableChannel s1 a2) := by
  unfold State.disableChannel
  repeat' (first
    | with_reducible assumption
    | exact Cover.sub hm rfl
    | exact Cover.bit hm rfl
    | exact Cover.bit hm (by dsimp only [Fld.block]; rfl)
    | (extract_lets -underBinder +onlyGivenNames x; refine (fun (hx : Good M s0 q x) => ?_) ?_; (on_goal 1 => try clear_value x); (on_goal 2 => subst x))
    | (extract_lets -underBinder +onlyGivenNames x; try clear_value x)
    | intro x
    | (simp only [good_mk_iff]; refine GoodParts.of (?_ : Good M s0 q _) rfl rfl rfl rfl)
    | with_reducible apply good_nsmShow
    | with_reducible apply good_w
    | with_reducible apply good_ite)

theorem good_dropHosts {s1 : State} (h1 : Good M s0 q s1) (hm : Cover 0x30003014F000000000000100000870040 M) : Good M s0 q (State.dropHosts s1) := by
  unfold State.dropHosts
  repeat' (first
    | with_reducible assumption
    | exact Cover.sub hm rfl
    | exact Cover.bit hm rfl
    | exact Cover.bit hm (by dsimp only [Fld.block]; rfl)
    | (extract_lets -underBinder +onlyGivenNames x; try clear_value x)
    | intro x
    | (simp only [good_mk_iff]; refine GoodParts.of (?_ : Good M s0 q _) rfl rfl rfl rfl)
    | with_reducible apply good_connError
    | with_reducible apply good_foldS
    | with_reducible apply good_ite
    | split)

theorem good_epochTraffic {s1 : State} (h1 : Good M s0 q s1) (a2) (a3) (a4) (hm : Cover 0x100000000000000C000 M) : Good M s0 q (State.epochTraffic s1 a2 a3 a4) := by
  unfold State.epochTraffic
  repeat' (first
    | with_reducible assumption
    | exact Cover.sub hm rfl
    | exact Cover.bit hm rfl
    | exact Cover.bit hm (by dsimp only [Fld.block]; rfl)
    | (extract_lets -underBinder +onlyGivenNames x; refine (fun (hx : Good M s0 q x) => ?_) ?_; (on_goal 1 => try clear_value x); (on_goal 2 => subst x))
    | (extract_lets -underBinder +onlyGivenNames x; try clear_value x)
    | intro x
    | (simp only [good_mk_iff]; refine GoodParts.of (?_ : Good M s0 q _) rfl rfl rfl rfl)
    | with_reducible apply good_gateStart
    | with_reducible apply good_foldS
    | with_reducible apply good_ite)

theorem good_epochSwitch {s1 : State} (h1 : Good M s0 q s1) (a2) (hm : Cover 0x30003FD5F00000D0700001F1414BFFB60 M) : Good M s0 q (State.epochSwitch s1 a2) := by
  unfold State.epochSwitch
  repeat' (first
    | with_reducible assumption
    | exact Cover.sub hm rfl
    | exact Cover.bit hm rfl
    | exact Cover.bit hm (by dsimp only [Fld.block]; rfl)
    | (extract_lets -underBinder +onlyGivenNames x; refine (fun (hx : Good M s0 q x) => ?_) ?_; (on_goal 1 => try clear_value x); (on_goal 2 => subst x))
    | (extract_lets -underBinder +onlyGivenNames x; try clear_value x)
    | intro x
    | (simp only [good_mk_iff]; refine GoodParts.of (?_ : Good M s0 q _) rfl rfl rfl rfl)
    | with_reducible apply good_w
    | with_reducible apply good_loadTables
    | with_reducible apply good_imgInForce
    | with_reducible apply good_commitSchedule
    | with_reducible apply good_epochTraffic
    | with_reducible apply good_writeSelector
    | with_reducible apply good_stageRegs
    | with_reducible apply good_ledgerAdd
    | with_reducible apply good_drainNamespaces
    | with_reducible apply good_disableChannel
    | with_reducible apply good_dropGroup
    | with_reducible apply good_reshapeBegin
    | with_reducible apply good_reshapeRecheck
    | with_reducible apply good_dropHosts
    | with_reducible apply good_foldS
    | with_reducible apply good_ite
    | split)

theorem good_execEpochSwitch {s1 : State} (h1 : Good M s0 q s1) (hm : Cover 0x30003FD5F00000D0700001F1414BFFB61 M) : OutGood M s0 q (execEpochSwitch s1) := by
  unfold execEpochSwitch
  repeat' (first
    | with_reducible assumption
    | exact Cover.sub hm rfl
    | exact Cover.bit hm rfl
    | exact Cover.bit hm (by dsimp only [Fld.block]; rfl)
    | (extract_lets -underBinder +onlyGivenNames x; refine (fun (hx : Good M s0 q x) => ?_) ?_; (on_goal 1 => try clear_value x); (on_goal 2 => subst x))
    | (extract_lets -underBinder +onlyGivenNames x; try clear_value x)
    | intro x
    | (simp only [good_mk_iff]; refine GoodParts.of (?_ : Good M s0 q _) rfl rfl rfl rfl)
    | with_reducible apply OutGood.of
    | with_reducible apply good_reachTs
    | with_reducible apply good_epochSwitch
    | with_reducible apply good_ite
    | with_reducible apply OutGood.ite
    | split)

theorem good_lateSwitch {s1 : State} (h1 : Good M s0 q s1) (hm : Cover 0x30003FD5F00000D0700001F1414BFFB60 M) : Good M s0 q (State.lateSwitch s1) := by
  unfold State.lateSwitch
  repeat' (first
    | with_reducible assumption
    | exact Cover.sub hm rfl
    | exact Cover.bit hm rfl
    | exact Cover.bit hm (by dsimp only [Fld.block]; rfl)
    | (extract_lets -underBinder +onlyGivenNames x; try clear_value x)
    | intro x
    | with_reducible apply good_logEv
    | with_reducible apply good_w
    | with_reducible apply good_epochSwitch
    | with_reducible apply good_ite
    | split)

theorem good_execOldBankRelease (a1) {s2 : State} (h2 : Good M s0 q s2) (hm : Cover 0x1000 M) : OutGood M s0 q (execOldBankRelease a1 s2) := by
  unfold execOldBankRelease
  repeat' (first
    | with_reducible assumption
    | exact Cover.sub hm rfl
    | exact Cover.bit hm rfl
    | exact Cover.bit hm (by dsimp only [Fld.block]; rfl)
    | (extract_lets -underBinder +onlyGivenNames x; try clear_value x)
    | intro x
    | (simp only [good_mk_iff]; refine GoodParts.of (?_ : Good M s0 q _) rfl rfl rfl rfl)
    | with_reducible apply OutGood.of
    | with_reducible apply good_ite
    | with_reducible apply OutGood.ite)

theorem good_pairingSwitch {s1 : State} (h1 : Good M s0 q s1) (a2) (hm : Cover 0x30003FD5F00000D0700001F1414BFFB60 M) : Good M s0 q (State.pairingSwitch s1 a2) := by
  unfold State.pairingSwitch
  repeat' (first
    | with_reducible assumption
    | exact Cover.sub hm rfl
    | exact Cover.bit hm rfl
    | exact Cover.bit hm (by dsimp only [Fld.block]; rfl)
    | (extract_lets -underBinder +onlyGivenNames x; try clear_value x)
    | intro x
    | with_reducible apply good_epochSwitch
    | with_reducible apply good_ite
    | split)

end Sys2Proof.Machine
end

