-- ==== Sys2Proof/Laws/MgtOps.lean ====
section
/-! SUPPORT. What the operations of Machine/MgtOps.lean keep (see Laws/Keep.lean), one lemma for each. -/

set_option Elab.async false

set_option linter.all false

namespace Sys2Proof.Machine

variable {M : Nat} {s0 : State} {q : Prop}

theorem good_setMgt {s1 : State} (h1 : Good M s0 q s1) (a2) (hm : Cover 0x8000000 M := by first | assumption | exact Cover.sub (by assumption) rfl) : Good M s0 q (State.setMgt s1 a2) := by
  unfold State.setMgt
  repeat' (first
    | with_reducible assumption
    | exact Cover.sub hm rfl
    | exact Cover.bit hm rfl
    | exact Cover.bit hm (by dsimp only [Fld.block]; rfl)
    | intro x
    | (simp only [good_mk_iff]; refine GoodParts.of (?_ : Good M s0 q _) rfl rfl rfl rfl))

theorem good_mgtBump {s1 : State} (h1 : Good M s0 q s1) (a2) (a3) (hm : Cover 0x10C000000040 M) : Good M s0 q (State.mgtBump s1 a2 a3) := by
  unfold State.mgtBump
  repeat' (first
    | with_reducible assumption
    | exact Cover.sub hm rfl
    | exact Cover.bit hm rfl
    | exact Cover.bit hm (by dsimp only [Fld.block]; rfl)
    | intro x
    | with_reducible apply good_bump)

theorem good_evAppend {s1 : State} (h1 : Good M s0 q s1) (a2) (hm : Cover 0x10C008000040 M) : Good M s0 q (State.evAppend s1 a2) := by
  unfold State.evAppend
  repeat' (first
    | with_reducible assumption
    | exact Cover.sub hm rfl
    | exact Cover.bit hm rfl
    | exact Cover.bit hm (by dsimp only [Fld.block]; rfl)
    | (extract_lets -underBinder +onlyGivenNames x; refine (fun (hx : Good M s0 q x) => ?_) ?_; (on_goal 1 => try clear_value x); (on_goal 2 => subst x))
    | (extract_lets -underBinder +onlyGivenNames x; try clear_value x)
    | intro x
    | with_reducible apply good_setMgt
    | with_reducible apply good_ev
    | with_reducible apply good_mgtBump
    | with_reducible apply good_emit
    | with_reducible apply good_w
    | with_reducible apply good_ite)

theorem good_evPeriod {s1 : State} (h1 : Good M s0 q s1) (hm : Cover 0x10C008000040 M) : Good M s0 q (State.evPeriod s1) := by
  unfold State.evPeriod
  repeat' (first
    | with_reducible assumption
    | exact Cover.sub hm rfl
    | exact Cover.bit hm rfl
    | exact Cover.bit hm (by dsimp only [Fld.block]; rfl)
    | (extract_lets -underBinder +onlyGivenNames x; refine (fun (hx : Good M s0 q x) => ?_) ?_; (on_goal 1 => try clear_value x); (on_goal 2 => subst x))
    | (extract_lets -underBinder +onlyGivenNames x; try clear_value x)
    | intro x
    | with_reducible apply good_setMgt
    | with_reducible apply good_evAppend
    | with_reducible apply good_foldS
    | with_reducible apply good_ite)

theorem good_evTake {s1 : State} (h1 : Good M s0 q s1) (a2) (hm : Cover 0x10C008000040 M) : Good M s0 q (State.evTake s1 a2) := by
  unfold State.evTake
  repeat' (first
    | with_reducible assumption
    | exact Cover.sub hm rfl
    | exact Cover.bit hm rfl
    | exact Cover.bit hm (by dsimp only [Fld.block]; rfl)
    | (extract_lets -underBinder +onlyGivenNames x; refine (fun (hx : Good M s0 q x) => ?_) ?_; (on_goal 1 => try clear_value x); (on_goal 2 => subst x))
    | (extract_lets -underBinder +onlyGivenNames x; try clear_value x)
    | intro x
    | with_reducible apply good_evPeriod
    | with_reducible apply good_mgtBump
    | with_reducible apply good_setMgt
    | with_reducible apply good_evAppend
    | with_reducible apply good_ite)

theorem good_fwShow {s1 : State} (h1 : Good M s0 q s1) (hm : Cover 0x4000000000 M := by first | assumption | exact Cover.sub (by assumption) rfl) : Good M s0 q (State.fwShow s1) := by
  unfold State.fwShow
  repeat' (first
    | with_reducible assumption
    | exact Cover.sub hm rfl
    | exact Cover.bit hm rfl
    | exact Cover.bit hm (by dsimp only [Fld.block]; rfl)
    | (extract_lets -underBinder +onlyGivenNames x; try clear_value x)
    | intro x
    | with_reducible apply good_w
    | with_reducible apply good_wb)

theorem good_writeFwSel {s1 : State} (h1 : Good M s0 q s1) (a2) (hm : Cover 0x4008000000 M := by first | assumption | exact Cover.sub (by assumption) rfl) : Good M s0 q (State.writeFwSel s1 a2) := by
  unfold State.writeFwSel
  repeat' (first
    | with_reducible assumption
    | exact Cover.sub hm rfl
    | exact Cover.bit hm rfl
    | exact Cover.bit hm (by dsimp only [Fld.block]; rfl)
    | (extract_lets -underBinder +onlyGivenNames x; try clear_value x)
    | intro x
    | with_reducible apply good_fwShow
    | with_reducible apply good_setMgt
    | with_reducible apply good_ite)

theorem good_setFwSlot {s1 : State} (h1 : Good M s0 q s1) (a2) (a3) (hm : Cover 0x8000000 M) : Good M s0 q (State.setFwSlot s1 a2 a3) := by
  unfold State.setFwSlot
  repeat' (first
    | with_reducible assumption
    | exact Cover.sub hm rfl
    | exact Cover.bit hm rfl
    | exact Cover.bit hm (by dsimp only [Fld.block]; rfl)
    | (extract_lets -underBinder +onlyGivenNames x; try clear_value x)
    | intro x
    | with_reducible apply good_setMgt)

theorem good_boardLoad {s1 : State} (h1 : Good M s0 q s1) (a2) (hm : Cover 0x1400000000000000000000004000000000 M) : Good M s0 q (State.boardLoad s1 a2) := by
  unfold State.boardLoad
  repeat' (first
    | with_reducible assumption
    | exact Cover.sub hm rfl
    | (extract_lets -underBinder +onlyGivenNames x; refine (fun (hf : ∀ k : State → State, (∀ y, Good M s0 q y → Good M s0 q (k y)) → Good M s0 q (x k)) => ?_) ?_; (on_goal 1 => try clear_value x); (on_goal 2 => subst x))
    | (extract_lets -underBinder +onlyGivenNames x; refine (fun (hf : ∀ y, Good M s0 q y → ∀ a b, Good M s0 q (x y a b)) => ?_) ?_; (on_goal 1 => try clear_value x); (on_goal 2 => subst x))
    | (extract_lets -underBinder +onlyGivenNames x; refine (fun (hf : ∀ a b c, Good M s0 q (x a b c)) => ?_) ?_; (on_goal 1 => try clear_value x); (on_goal 2 => subst x))
    | exact Cover.bit hm rfl
    | exact Cover.bit hm (by dsimp only [Fld.block]; rfl)
    | (extract_lets -underBinder +onlyGivenNames x; refine (fun (hx : Good M s0 q x) => ?_) ?_; (on_goal 1 => try clear_value x); (on_goal 2 => subst x))
    | (extract_lets -underBinder +onlyGivenNames x; try clear_value x)
    | intro x
    | (simp only [good_mk_iff]; refine GoodParts.of (?_ : Good M s0 q _) rfl rfl rfl rfl)
    | with_reducible apply good_w
    | with_reducible apply good_wb
    | apply_assumption -exfalso -symm)

theorem good_updateEnds {s1 : State} (h1 : Good M s0 q s1) (a2) (a3) (hm : Cover 0x4008000060 M) : Good M s0 q (State.updateEnds s1 a2 a3) := by
  unfold State.updateEnds
  repeat' (first
    | with_reducible assumption
    | exact Cover.sub hm rfl
    | exact Cover.bit hm rfl
    | exact Cover.bit hm (by dsimp only [Fld.block]; rfl)
    | (extract_lets -underBinder +onlyGivenNames x; refine (fun (hx : Good M s0 q x) => ?_) ?_; (on_goal 1 => try clear_value x); (on_goal 2 => subst x))
    | (extract_lets -underBinder +onlyGivenNames x; try clear_value x)
    | intro x
    | (simp only [good_mk_iff]; refine GoodParts.of (?_ : Good M s0 q _) rfl rfl rfl rfl)
    | with_reducible apply good_setMgt
    | with_reducible apply good_setFwSlot
    | with_reducible apply good_ev
    | with_reducible apply good_w
    | with_reducible apply good_logMgt
    | with_reducible apply good_ite
    | split)

theorem good_updateWarn {s1 : State} (h1 : Good M s0 q s1) (hm : Cover 0x4008000060 M) : Good M s0 q (State.updateWarn s1) := by
  unfold State.updateWarn
  repeat' (first
    | with_reducible assumption
    | exact Cover.sub hm rfl
    | exact Cover.bit hm rfl
    | exact Cover.bit hm (by dsimp only [Fld.block]; rfl)
    | (extract_lets -underBinder +onlyGivenNames x; try clear_value x)
    | intro x
    | with_reducible apply good_updateEnds
    | with_reducible apply good_ite)

theorem good_fwConfirm {s1 : State} (h1 : Good M s0 q s1) (hm : Cover 0x4008000020 M) : Good M s0 q (State.fwConfirm s1) := by
  unfold State.fwConfirm
  repeat' (first
    | with_reducible assumption
    | exact Cover.sub hm rfl
    | exact Cover.bit hm rfl
    | exact Cover.bit hm (by dsimp only [Fld.block]; rfl)
    | (extract_lets -underBinder +onlyGivenNames x; refine (fun (hx : Good M s0 q x) => ?_) ?_; (on_goal 1 => try clear_value x); (on_goal 2 => subst x))
    | (extract_lets -underBinder +onlyGivenNames x; try clear_value x)
    | intro x
    | with_reducible apply good_writeFwSel
    | with_reducible apply good_w
    | with_reducible apply good_setMgt
    | with_reducible apply good_logMgt
    | with_reducible apply good_ite)

end Sys2Proof.Machine
end

