-- ==== Sys2Proof/Laws/FlushOps.lean ====
section
/-! SUPPORT. What the operations of Machine/FlushOps.lean keep (see Laws/Keep.lean), one lemma for each. -/

set_option Elab.async false

set_option linter.all false

namespace Sys2Proof.Machine

variable {M : Nat} {s0 : State} {q : Prop}

theorem good_flsBump {s1 : State} (h1 : Good M s0 q s1) (a2) (a3) (a4) (hm : Cover 0xC00000000000000000000100000000040 M) : Good M s0 q (State.flsBump s1 a2 a3 a4) := by
  unfold State.flsBump
  repeat' (first
    | with_reducible assumption
    | exact Cover.sub hm rfl
    | exact Cover.bit hm rfl
    | exact Cover.bit hm (by dsimp only [Fld.block]; rfl)
    | intro x
    | with_reducible apply good_bump)

theorem good_setFl {s1 : State} (h1 : Good M s0 q s1) (a2) (a3) (hm : Cover 0x1000000 M) : Good M s0 q (State.setFl s1 a2 a3) := by
  unfold State.setFl
  repeat' (first
    | with_reducible assumption
    | exact Cover.sub hm rfl
    | exact Cover.bit hm rfl
    | exact Cover.bit hm (by dsimp only [Fld.block]; rfl)
    | (extract_lets -underBinder +onlyGivenNames x; try clear_value x)
    | intro x
    | (simp only [good_mk_iff]; refine GoodParts.of (?_ : Good M s0 q _) rfl rfl rfl rfl))

theorem good_earlyPower {s1 : State} (h1 : Good M s0 q s1) (hm : Cover 0x1000000000000000000000000000000040 M) : Good M s0 q (State.earlyPower s1) := by
  unfold State.earlyPower
  repeat' (first
    | with_reducible assumption
    | exact Cover.sub hm rfl
    | exact Cover.bit hm rfl
    | exact Cover.bit hm (by dsimp only [Fld.block]; rfl)
    | (extract_lets -underBinder +onlyGivenNames x; try clear_value x)
    | intro x
    | with_reducible apply good_emit
    | with_reducible apply good_w
    | with_reducible apply good_foldS
    | with_reducible apply good_ite)

theorem good_flushEnds {s1 : State} (h1 : Good M s0 q s1) (hm : Cover 0x1400000000000000000000000000000160 M) : Good M s0 q (State.flushEnds s1) := by
  unfold State.flushEnds
  repeat' (first
    | with_reducible assumption
    | exact Cover.sub hm rfl
    | exact Cover.bit hm rfl
    | exact Cover.bit hm (by dsimp only [Fld.block]; rfl)
    | (extract_lets -underBinder +onlyGivenNames x; refine (fun (hx : Good M s0 q x) => ?_) ?_; (on_goal 1 => try clear_value x); (on_goal 2 => subst x))
    | (extract_lets -underBinder +onlyGivenNames x; try clear_value x)
    | intro x
    | with_reducible apply good_earlyPower
    | with_reducible apply good_w
    | with_reducible apply good_trig
    | with_reducible apply good_ite)

theorem good_flushStop {s1 : State} (h1 : Good M s0 q s1) (a2) (hm : Cover 0x1C00000000000000000000100000000160 M) : Good M s0 q (State.flushStop s1 a2) := by
  unfold State.flushStop
  repeat' (first
    | with_reducible assumption
    | exact Cover.sub hm rfl
    | exact Cover.bit hm rfl
    | exact Cover.bit hm (by dsimp only [Fld.block]; rfl)
    | (extract_lets -underBinder +onlyGivenNames x; refine (fun (hx : Good M s0 q x) => ?_) ?_; (on_goal 1 => try clear_value x); (on_goal 2 => subst x))
    | (extract_lets -underBinder +onlyGivenNames x; try clear_value x)
    | intro x
    | with_reducible apply good_ev
    | with_reducible apply good_w
    | with_reducible apply good_flushEnds
    | with_reducible apply good_flsBump
    | with_reducible apply good_ite)

theorem good_putHeader {s1 : State} (h1 : Good M s0 q s1) (a2) (a3) (a4) (hm : Cover 0xC0000000000000001C0011200040 M) : Good M s0 q (State.putHeader s1 a2 a3 a4) := by
  unfold State.putHeader
  repeat' (first
    | with_reducible assumption
    | exact Cover.sub hm rfl
    | exact Cover.bit hm rfl
    | exact Cover.bit hm (by dsimp only [Fld.block]; rfl)
    | (extract_lets -underBinder +onlyGivenNames x; try clear_value x)
    | intro x
    | with_reducible apply good_drvIssue
    | with_reducible apply good_setFl)

theorem good_flushNext {s1 : State} (h1 : Good M s0 q s1) (a2) (a3) (hm : Cover 0x1C0003C0000000000000001C0011200160 M) : Good M s0 q (State.flushNext s1 a2 a3) := by
  unfold State.flushNext
  repeat' (first
    | with_reducible assumption
    | exact Cover.sub hm rfl
    | exact Cover.bit hm rfl
    | exact Cover.bit hm (by dsimp only [Fld.block]; rfl)
    | (extract_lets -underBinder +onlyGivenNames x; refine (fun (hx : Good M s0 q x) => ?_) ?_; (on_goal 1 => try clear_value x); (on_goal 2 => subst x))
    | (extract_lets -underBinder +onlyGivenNames x; try clear_value x)
    | intro x
    | (simp only [good_mk_iff]; refine GoodParts.of (?_ : Good M s0 q _) rfl rfl rfl rfl)
    | with_reducible apply good_sealRefuse
    | with_reducible apply good_setFl
    | with_reducible apply good_flushStop
    | with_reducible apply good_cipBump
    | with_reducible apply good_sealTake
    | with_reducible apply good_drvIssue
    | with_reducible apply good_ite
    | split)

theorem good_flushQuiesce {s1 : State} (h1 : Good M s0 q s1) (a2) (hm : Cover 0xDD440000000000001C00103F0040 M) : Good M s0 q (State.flushQuiesce s1 a2) := by
  unfold State.flushQuiesce
  repeat' (first
    | with_reducible assumption
    | exact Cover.sub hm rfl
    | exact Cover.bit hm rfl
    | exact Cover.bit hm (by dsimp only [Fld.block]; rfl)
    | (extract_lets -underBinder +onlyGivenNames x; refine (fun (hx : Good M s0 q x) => ?_) ?_; (on_goal 1 => try clear_value x); (on_goal 2 => subst x))
    | (extract_lets -underBinder +onlyGivenNames x; try clear_value x)
    | intro x
    | (simp only [good_mk_iff]; refine GoodParts.of (?_ : Good M s0 q _) rfl rfl rfl rfl)
    | with_reducible apply good_freeSlot
    | with_reducible apply good_setChain
    | with_reducible apply good_w
    | with_reducible apply good_setSp
    | with_reducible apply good_setRsh
    | with_reducible apply good_stepUnlock
    | with_reducible apply good_foldS
    | with_reducible apply good_ite
    | split)

theorem good_flushBegin {s1 : State} (h1 : Good M s0 q s1) (a2) (hm : Cover 0x1C0000C0000000000000001C0011200160 M) : Good M s0 q (State.flushBegin s1 a2) := by
  unfold State.flushBegin
  repeat' (first
    | with_reducible assumption
    | exact Cover.sub hm rfl
    | exact Cover.bit hm rfl
    | exact Cover.bit hm (by dsimp only [Fld.block]; rfl)
    | (extract_lets -underBinder +onlyGivenNames x; refine (fun (hx : Good M s0 q x) => ?_) ?_; (on_goal 1 => try clear_value x); (on_goal 2 => subst x))
    | (extract_lets -underBinder +onlyGivenNames x; try clear_value x)
    | intro x
    | (simp only [good_mk_iff]; refine GoodParts.of (?_ : Good M s0 q _) rfl rfl rfl rfl)
    | with_reducible apply good_setFl
    | with_reducible apply good_flushStop
    | with_reducible apply good_w
    | with_reducible apply good_putHeader
    | with_reducible apply good_foldS
    | with_reducible apply good_ite)

theorem good_flushEntry {s1 : State} (h1 : Good M s0 q s1) (hm : Cover 0x1C0000DD4F00000C0000001C00153F0160 M) : Good M s0 q (State.flushEntry s1) := by
  unfold State.flushEntry
  repeat' (first
    | with_reducible assumption
    | exact Cover.sub hm rfl
    | exact Cover.bit hm rfl
    | exact Cover.bit hm (by dsimp only [Fld.block]; rfl)
    | (extract_lets -underBinder +onlyGivenNames x; refine (fun (hx : Good M s0 q x) => ?_) ?_; (on_goal 1 => try clear_value x); (on_goal 2 => subst x))
    | (extract_lets -underBinder +onlyGivenNames x; try clear_value x)
    | intro x
    | (simp only [good_mk_iff]; refine GoodParts.of (?_ : Good M s0 q _) rfl rfl rfl rfl)
    | with_reducible apply good_epAbsent
    | with_reducible apply good_flsBump
    | with_reducible apply good_w
    | with_reducible apply good_flushQuiesce
    | with_reducible apply good_flushBegin
    | with_reducible apply good_flushEnds
    | with_reducible apply good_foldS
    | with_reducible apply good_ite)

theorem good_flushMemberLost {s1 : State} (h1 : Good M s0 q s1) (a2) (a3) (hm : Cover 0x1C0003C0000000000000001C0011200160 M) : Good M s0 q (State.flushMemberLost s1 a2 a3) := by
  unfold State.flushMemberLost
  repeat' (first
    | with_reducible assumption
    | exact Cover.sub hm rfl
    | exact Cover.bit hm rfl
    | exact Cover.bit hm (by dsimp only [Fld.block]; rfl)
    | (extract_lets -underBinder +onlyGivenNames x; refine (fun (hx : Good M s0 q x) => ?_) ?_; (on_goal 1 => try clear_value x); (on_goal 2 => subst x))
    | (extract_lets -underBinder +onlyGivenNames x; try clear_value x)
    | intro x
    | with_reducible apply good_ev
    | with_reducible apply good_setFl
    | with_reducible apply good_flsBump
    | with_reducible apply good_flushStop
    | with_reducible apply good_flushNext
    | with_reducible apply good_foldS
    | with_reducible apply good_ite)

theorem good_flushAdvance {s1 : State} (h1 : Good M s0 q s1) (a2) (hm : Cover 0x40000C0000000000000001C0010200040 M) : Good M s0 q (State.flushAdvance s1 a2) := by
  unfold State.flushAdvance
  repeat' (first
    | with_reducible assumption
    | exact Cover.sub hm rfl
    | exact Cover.bit hm rfl
    | exact Cover.bit hm (by dsimp only [Fld.block]; rfl)
    | (extract_lets -underBinder +onlyGivenNames x; refine (fun (hx : Good M s0 q x) => ?_) ?_; (on_goal 1 => try clear_value x); (on_goal 2 => subst x))
    | (extract_lets -underBinder +onlyGivenNames x; try clear_value x)
    | intro x
    | (simp only [good_mk_iff]; refine GoodParts.of (?_ : Good M s0 q _) rfl rfl rfl rfl)
    | with_reducible apply good_w
    | with_reducible apply good_drvIssue
    | with_reducible apply good_foldS
    | with_reducible apply good_ite)

end Sys2Proof.Machine
end

