-- ==== Sys2Proof/Laws/PairOps.lean ====
section
/-! SUPPORT. What the operations of Machine/PairOps.lean keep (see Laws/Keep.lean), one lemma for each. -/

set_option Elab.async false

set_option linter.all false

namespace Sys2Proof.Machine

variable {M : Nat} {s0 : State} {q : Prop}

theorem good_setPair {s1 : State} (h1 : Good M s0 q s1) (a2) (hm : Cover 0x800000 M) : Good M s0 q (State.setPair s1 a2) := by
  unfold State.setPair
  repeat' (first
    | with_reducible assumption
    | exact Cover.sub hm rfl
    | exact Cover.bit hm rfl
    | exact Cover.bit hm (by dsimp only [Fld.block]; rfl)
    | intro x
    | (simp only [good_mk_iff]; refine GoodParts.of (?_ : Good M s0 q _) rfl rfl rfl rfl))

theorem good_partnerNak {s1 : State} (h1 : Good M s0 q s1) (hm : Cover 0x300000000000000000000100000800040 M) : Good M s0 q (State.partnerNak s1) := by
  unfold State.partnerNak
  repeat' (first
    | with_reducible assumption
    | exact Cover.sub hm rfl
    | exact Cover.bit hm rfl
    | exact Cover.bit hm (by dsimp only [Fld.block]; rfl)
    | (extract_lets -underBinder +onlyGivenNames x; try clear_value x)
    | intro x
    | with_reducible apply good_emit
    | with_reducible apply good_pairBump
    | with_reducible apply good_setPair
    | with_reducible apply good_ite)

theorem good_promote {s1 : State} (h1 : Good M s0 q s1) (a2) (a3) (hm : Cover 0x30000000000000000100000400040 M) : Good M s0 q (State.promote s1 a2 a3) := by
  unfold State.promote
  repeat' (first
    | with_reducible assumption
    | exact Cover.sub hm rfl
    | exact Cover.bit hm rfl
    | exact Cover.bit hm (by dsimp only [Fld.block]; rfl)
    | (extract_lets -underBinder +onlyGivenNames x; refine (fun (hx : Good M s0 q x) => ?_) ?_; (on_goal 1 => try clear_value x); (on_goal 2 => subst x))
    | (extract_lets -underBinder +onlyGivenNames x; try clear_value x)
    | intro x
    | with_reducible apply good_setKeySlot
    | with_reducible apply good_w
    | with_reducible apply good_setSlotState
    | with_reducible apply good_cipBump)

theorem good_setLease {s1 : State} (h1 : Good M s0 q s1) (a2) (a3) (a4) (hm : Cover 0x800000 M) : Good M s0 q (State.setLease s1 a2 a3 a4) := by
  unfold State.setLease
  repeat' (first
    | with_reducible assumption
    | exact Cover.sub hm rfl
    | exact Cover.bit hm rfl
    | exact Cover.bit hm (by dsimp only [Fld.block]; rfl)
    | (extract_lets -underBinder +onlyGivenNames x; try clear_value x)
    | intro x
    | with_reducible apply good_setPair)

theorem good_leaseEval {s1 : State} (h1 : Good M s0 q s1) (hm : Cover 0x300030000000000000000100000800160 M) : Good M s0 q (State.leaseEval s1) := by
  unfold State.leaseEval
  repeat' (first
    | with_reducible assumption
    | exact Cover.sub hm rfl
    | exact Cover.bit hm rfl
    | exact Cover.bit hm (by dsimp only [Fld.block]; rfl)
    | (extract_lets -underBinder +onlyGivenNames x; refine (fun (hx : Good M s0 q x) => ?_) ?_; (on_goal 1 => try clear_value x); (on_goal 2 => subst x))
    | (extract_lets -underBinder +onlyGivenNames x; try clear_value x)
    | intro x
    | with_reducible apply good_w
    | with_reducible apply good_wb
    | with_reducible apply good_setPair
    | with_reducible apply good_sendControl
    | with_reducible apply good_trig
    | with_reducible apply good_ite)

theorem good_leaseWrite {s1 : State} (h1 : Good M s0 q s1) (a2) (a3) (a4) (hm : Cover 0xC0000000000000001C0010A00040 M) : Good M s0 q (State.leaseWrite s1 a2 a3 a4) := by
  unfold State.leaseWrite
  repeat' (first
    | with_reducible assumption
    | exact Cover.sub hm rfl
    | exact Cover.bit hm rfl
    | exact Cover.bit hm (by dsimp only [Fld.block]; rfl)
    | (extract_lets -underBinder +onlyGivenNames x; try clear_value x)
    | intro x
    | with_reducible apply good_drvIssue
    | with_reducible apply good_setLease)

theorem good_closeGates {s1 : State} (h1 : Good M s0 q s1) (hm : Cover 0x414F00000C000000100004070140 M) : Good M s0 q (State.closeGates s1) := by
  unfold State.closeGates
  repeat' (first
    | with_reducible assumption
    | exact Cover.sub hm rfl
    | exact Cover.bit hm rfl
    | exact Cover.bit hm (by dsimp only [Fld.block]; rfl)
    | (extract_lets -underBinder +onlyGivenNames x; refine (fun (hx : Good M s0 q x) => ?_) ?_; (on_goal 1 => try clear_value x); (on_goal 2 => subst x))
    | (extract_lets -underBinder +onlyGivenNames x; try clear_value x)
    | intro x
    | (simp only [good_mk_iff]; refine GoodParts.of (?_ : Good M s0 q _) rfl rfl rfl rfl)
    | with_reducible apply good_w
    | with_reducible apply good_epAbsent
    | with_reducible apply good_foldS)

theorem good_openGates {s1 : State} (h1 : Good M s0 q s1) (hm : Cover 0x4000000000000000000000000000 M) : Good M s0 q (State.openGates s1) := by
  unfold State.openGates
  repeat' (first
    | with_reducible assumption
    | exact Cover.sub hm rfl
    | exact Cover.bit hm rfl
    | exact Cover.bit hm (by dsimp only [Fld.block]; rfl)
    | (extract_lets -underBinder +onlyGivenNames x; try clear_value x)
    | intro x
    | with_reducible apply good_w
    | with_reducible apply good_foldS
    | with_reducible apply good_ite)

theorem good_dropClaim {s1 : State} (h1 : Good M s0 q s1) (hm : Cover 0x100000000000000000000000000800040 M) : Good M s0 q (State.dropClaim s1) := by
  unfold State.dropClaim
  repeat' (first
    | with_reducible assumption
    | exact Cover.sub hm rfl
    | exact Cover.bit hm rfl
    | exact Cover.bit hm (by dsimp only [Fld.block]; rfl)
    | (extract_lets -underBinder +onlyGivenNames x; refine (fun (hx : Good M s0 q x) => ?_) ?_; (on_goal 1 => try clear_value x); (on_goal 2 => subst x))
    | (extract_lets -underBinder +onlyGivenNames x; try clear_value x)
    | intro x
    | with_reducible apply good_setPair
    | with_reducible apply good_w
    | with_reducible apply good_emit
    | with_reducible apply good_ite)

theorem good_claimGone {s1 : State} (h1 : Good M s0 q s1) (hm : Cover 0x10000414F00000C000000100004870160 M) : Good M s0 q (State.claimGone s1) := by
  unfold State.claimGone
  repeat' (first
    | with_reducible assumption
    | exact Cover.sub hm rfl
    | exact Cover.bit hm rfl
    | exact Cover.bit hm (by dsimp only [Fld.block]; rfl)
    | (extract_lets -underBinder +onlyGivenNames x; try clear_value x)
    | intro x
    | with_reducible apply good_logEv
    | with_reducible apply good_ev
    | with_reducible apply good_closeGates
    | with_reducible apply good_dropClaim
    | with_reducible apply good_ite)

theorem good_leaseRelease {s1 : State} (h1 : Good M s0 q s1) (hm : Cover 0x10000C14F00000C0000001C0014A70160 M) : Good M s0 q (State.leaseRelease s1) := by
  unfold State.leaseRelease
  repeat' (first
    | with_reducible assumption
    | exact Cover.sub hm rfl
    | exact Cover.bit hm rfl
    | exact Cover.bit hm (by dsimp only [Fld.block]; rfl)
    | (extract_lets -underBinder +onlyGivenNames x; try clear_value x)
    | intro x
    | with_reducible apply good_leaseWrite
    | with_reducible apply good_claimGone
    | with_reducible apply good_foldS)

theorem good_contend {s1 : State} (h1 : Good M s0 q s1) (hm : Cover 0x300000000000000000000100000800060 M) : Good M s0 q (State.contend s1) := by
  unfold State.contend
  repeat' (first
    | with_reducible assumption
    | exact Cover.sub hm rfl
    | exact Cover.bit hm rfl
    | exact Cover.bit hm (by dsimp only [Fld.block]; rfl)
    | (extract_lets -underBinder +onlyGivenNames x; refine (fun (hx : Good M s0 q x) => ?_) ?_; (on_goal 1 => try clear_value x); (on_goal 2 => subst x))
    | (extract_lets -underBinder +onlyGivenNames x; try clear_value x)
    | intro x
    | with_reducible apply good_pairBump
    | with_reducible apply good_dropClaim
    | with_reducible apply good_setPair
    | with_reducible apply good_logEv
    | with_reducible apply good_ev
    | with_reducible apply good_ite)

theorem good_assertClaim {s1 : State} (h1 : Good M s0 q s1) (hm : Cover 0x300000000000000000000100000800060 M) : Good M s0 q (State.assertClaim s1) := by
  unfold State.assertClaim
  repeat' (first
    | with_reducible assumption
    | exact Cover.sub hm rfl
    | exact Cover.bit hm rfl
    | exact Cover.bit hm (by dsimp only [Fld.block]; rfl)
    | (extract_lets -underBinder +onlyGivenNames x; refine (fun (hx : Good M s0 q x) => ?_) ?_; (on_goal 1 => try clear_value x); (on_goal 2 => subst x))
    | (extract_lets -underBinder +onlyGivenNames x; try clear_value x)
    | intro x
    | with_reducible apply good_emit
    | with_reducible apply good_w
    | with_reducible apply good_setPair
    | with_reducible apply good_contend
    | with_reducible apply good_ite)

theorem good_claimRequest {s1 : State} (h1 : Good M s0 q s1) (hm : Cover 0x300000000000000000000100000800060 M) : Good M s0 q (State.claimRequest s1) := by
  unfold State.claimRequest
  repeat' (first
    | with_reducible assumption
    | exact Cover.sub hm rfl
    | exact Cover.bit hm rfl
    | exact Cover.bit hm (by dsimp only [Fld.block]; rfl)
    | (extract_lets -underBinder +onlyGivenNames x; try clear_value x)
    | intro x
    | with_reducible apply good_assertClaim
    | with_reducible apply good_ite)

theorem good_fenceStart {s1 : State} (h1 : Good M s0 q s1) (hm : Cover 0x30000C0000000000000001C0010A00040 M) : Good M s0 q (State.fenceStart s1) := by
  unfold State.fenceStart
  repeat' (first
    | with_reducible assumption
    | exact Cover.sub hm rfl
    | exact Cover.bit hm rfl
    | exact Cover.bit hm (by dsimp only [Fld.block]; rfl)
    | (extract_lets -underBinder +onlyGivenNames x; refine (fun (hx : Good M s0 q x) => ?_) ?_; (on_goal 1 => try clear_value x); (on_goal 2 => subst x))
    | (extract_lets -underBinder +onlyGivenNames x; try clear_value x)
    | intro x
    | with_reducible apply good_setPair
    | with_reducible apply good_pairBump
    | with_reducible apply good_drvIssue
    | with_reducible apply good_foldS)

theorem good_fenceDue {s1 : State} (h1 : Good M s0 q s1) (hm : Cover 0x30000C0000000000000001C0010A00040 M) : Good M s0 q (State.fenceDue s1) := by
  unfold State.fenceDue
  repeat' (first
    | with_reducible assumption
    | exact Cover.sub hm rfl
    | exact Cover.bit hm rfl
    | exact Cover.bit hm (by dsimp only [Fld.block]; rfl)
    | (extract_lets -underBinder +onlyGivenNames x; try clear_value x)
    | intro x
    | with_reducible apply good_fenceStart
    | with_reducible apply good_ite)

theorem good_fenceEnd {s1 : State} (h1 : Good M s0 q s1) (hm : Cover 0x4000000000000000000000800120 M) : Good M s0 q (State.fenceEnd s1) := by
  unfold State.fenceEnd
  repeat' (first
    | with_reducible assumption
    | exact Cover.sub hm rfl
    | exact Cover.bit hm rfl
    | exact Cover.bit hm (by dsimp only [Fld.block]; rfl)
    | (extract_lets -underBinder +onlyGivenNames x; try clear_value x)
    | intro x
    | with_reducible apply good_trig
    | with_reducible apply good_logEv
    | with_reducible apply good_openGates
    | with_reducible apply good_setPair
    | with_reducible apply good_ite)

theorem good_mirrorShow {s1 : State} (h1 : Good M s0 q s1) (hm : Cover 0x100000000000000100000000000004000 M) : Good M s0 q (State.mirrorShow s1) := by
  unfold State.mirrorShow
  repeat' (first
    | with_reducible assumption
    | exact Cover.sub hm rfl
    | exact Cover.bit hm rfl
    | exact Cover.bit hm (by dsimp only [Fld.block]; rfl)
    | (extract_lets -underBinder +onlyGivenNames x; refine (fun (hx : Good M s0 q x) => ?_) ?_; (on_goal 1 => try clear_value x); (on_goal 2 => subst x))
    | (extract_lets -underBinder +onlyGivenNames x; try clear_value x)
    | intro x
    | with_reducible apply good_wb
    | with_reducible apply good_mirrorGroups
    | with_reducible apply good_foldS)

theorem good_ringUnmirrored {s1 : State} (h1 : Good M s0 q s1) (a2) (hm : Cover 0xC14C00000C0000001C0014260060 M) : Good M s0 q (State.ringUnmirrored s1 a2) := by
  unfold State.ringUnmirrored
  repeat' (first
    | with_reducible assumption
    | exact Cover.sub hm rfl
    | exact Cover.bit hm rfl
    | exact Cover.bit hm (by dsimp only [Fld.block]; rfl)
    | (extract_lets -underBinder +onlyGivenNames x; try clear_value x)
    | intro x
    | with_reducible apply good_repairsLost
    | with_reducible apply good_crumbShow
    | with_reducible apply good_mapRing)

theorem good_channelUnmirrors {s1 : State} (h1 : Good M s0 q s1) (a2) (hm : Cover 0xC14F00000C0000001C0014270060 M) : Good M s0 q (State.channelUnmirrors s1 a2) := by
  unfold State.channelUnmirrors
  repeat' (first
    | with_reducible assumption
    | exact Cover.sub hm rfl
    | exact Cover.bit hm rfl
    | exact Cover.bit hm (by dsimp only [Fld.block]; rfl)
    | (extract_lets -underBinder +onlyGivenNames x; try clear_value x)
    | intro x
    | with_reducible apply good_releaseChains
    | with_reducible apply good_ringUnmirrored)

theorem good_unmirror {s1 : State} (h1 : Good M s0 q s1) (hm : Cover 0x10000C14F00000C1000001C0014A74060 M) : Good M s0 q (State.unmirror s1) := by
  unfold State.unmirror
  repeat' (first
    | with_reducible assumption
    | exact Cover.sub hm rfl
    | exact Cover.bit hm rfl
    | exact Cover.bit hm (by dsimp only [Fld.block]; rfl)
    | (extract_lets -underBinder +onlyGivenNames x; refine (fun (hx : Good M s0 q x) => ?_) ?_; (on_goal 1 => try clear_value x); (on_goal 2 => subst x))
    | (extract_lets -underBinder +onlyGivenNames x; try clear_value x)
    | intro x
    | (simp only [good_mk_iff]; refine GoodParts.of (?_ : Good M s0 q _) rfl rfl rfl rfl)
    | with_reducible apply good_w
    | with_reducible apply good_ringUnmirrored
    | with_reducible apply good_setPair
    | with_reducible apply good_releaseMirror
    | with_reducible apply good_mirrorShow
    | with_reducible apply good_foldS)

theorem good_staleSet {s1 : State} (h1 : Good M s0 q s1) (hm : Cover 0x100000000000000000000000000000060 M) : Good M s0 q (State.staleSet s1) := by
  unfold State.staleSet
  repeat' (first
    | with_reducible assumption
    | exact Cover.sub hm rfl
    | exact Cover.bit hm rfl
    | exact Cover.bit hm (by dsimp only [Fld.block]; rfl)
    | (extract_lets -underBinder +onlyGivenNames x; try clear_value x)
    | intro x
    | with_reducible apply good_logEv
    | with_reducible apply good_ev
    | with_reducible apply good_w
    | with_reducible apply good_ite)

theorem good_seedOff {s1 : State} (h1 : Good M s0 q s1) (hm : Cover 0x100000000000000000000000000800000 M) : Good M s0 q (State.seedOff s1) := by
  unfold State.seedOff
  repeat' (first
    | with_reducible assumption
    | exact Cover.sub hm rfl
    | exact Cover.bit hm rfl
    | exact Cover.bit hm (by dsimp only [Fld.block]; rfl)
    | (extract_lets -underBinder +onlyGivenNames x; refine (fun (hx : Good M s0 q x) => ?_) ?_; (on_goal 1 => try clear_value x); (on_goal 2 => subst x))
    | (extract_lets -underBinder +onlyGivenNames x; try clear_value x)
    | intro x
    | with_reducible apply good_w
    | with_reducible apply good_setPair
    | with_reducible apply good_foldS)

theorem good_ringShow {s1 : State} (h1 : Good M s0 q s1) (hm : Cover 0x10000000000000 M) : Good M s0 q (State.ringShow s1) := by
  unfold State.ringShow
  repeat' (first
    | with_reducible assumption
    | exact Cover.sub hm rfl
    | exact Cover.bit hm rfl
    | exact Cover.bit hm (by dsimp only [Fld.block]; rfl)
    | (extract_lets -underBinder +onlyGivenNames x; try clear_value x)
    | intro x
    | with_reducible apply good_w
    | with_reducible apply good_foldS)

theorem good_handoverAsk {s1 : State} (h1 : Good M s0 q s1) (a2) (hm : Cover 0x30003001400000C000000100004820040 M) : Good M s0 q (State.handoverAsk s1 a2) := by
  unfold State.handoverAsk
  repeat' (first
    | with_reducible assumption
    | exact Cover.sub hm rfl
    | exact Cover.bit hm rfl
    | exact Cover.bit hm (by dsimp only [Fld.block]; rfl)
    | (extract_lets -underBinder +onlyGivenNames x; refine (fun (hx : Good M s0 q x) => ?_) ?_; (on_goal 1 => try clear_value x); (on_goal 2 => subst x))
    | (extract_lets -underBinder +onlyGivenNames x; try clear_value x)
    | intro x
    | with_reducible apply good_sendControl
    | with_reducible apply good_setPair
    | with_reducible apply good_nsmShow
    | with_reducible apply good_foldS
    | with_reducible apply good_ite)

theorem good_drainStart {s1 : State} (h1 : Good M s0 q s1) (hm : Cover 0x1400000C000000100004020140 M) : Good M s0 q (State.drainStart s1) := by
  unfold State.drainStart
  repeat' (first
    | with_reducible assumption
    | exact Cover.sub hm rfl
    | exact Cover.bit hm rfl
    | exact Cover.bit hm (by dsimp only [Fld.block]; rfl)
    | (extract_lets -underBinder +onlyGivenNames x; refine (fun (hx : Good M s0 q x) => ?_) ?_; (on_goal 1 => try clear_value x); (on_goal 2 => subst x))
    | (extract_lets -underBinder +onlyGivenNames x; try clear_value x)
    | intro x
    | (simp only [good_mk_iff]; refine GoodParts.of (?_ : Good M s0 q _) rfl rfl rfl rfl)
    | with_reducible apply good_nsmShow
    | with_reducible apply good_w
    | with_reducible apply good_foldS
    | with_reducible apply good_ite)

theorem good_partnerLost {s1 : State} (h1 : Good M s0 q s1) (hm : Cover 0x30000001C00000C000010100004831360 M) : Good M s0 q (State.partnerLost s1) := by
  unfold State.partnerLost
  repeat' (first
    | with_reducible assumption
    | exact Cover.sub hm rfl
    | exact Cover.bit hm rfl
    | exact Cover.bit hm (by dsimp only [Fld.block]; rfl)
    | (extract_lets -underBinder +onlyGivenNames x; refine (fun (hx : Good M s0 q x) => ?_) ?_; (on_goal 1 => try clear_value x); (on_goal 2 => subst x))
    | (extract_lets -underBinder +onlyGivenNames x; try clear_value x)
    | intro x
    | (simp only [good_mk_iff]; refine GoodParts.of (?_ : Good M s0 q _) rfl rfl rfl rfl)
    | with_reducible apply good_ringShow
    | with_reducible apply good_w
    | with_reducible apply good_ev
    | with_reducible apply good_logEv
    | with_reducible apply good_pairBump
    | with_reducible apply good_setPair
    | with_reducible apply good_staleSet
    | with_reducible apply good_seedOff
    | with_reducible apply good_offer
    | with_reducible apply good_nsmShow
    | with_reducible apply good_drainStart
    | with_reducible apply good_foldS
    | with_reducible apply good_ite)

theorem good_reseedStart {s1 : State} (h1 : Good M s0 q s1) (hm : Cover 0x300030000000000000000100000800040 M) : Good M s0 q (State.reseedStart s1) := by
  unfold State.reseedStart
  repeat' (first
    | with_reducible assumption
    | exact Cover.sub hm rfl
    | exact Cover.bit hm rfl
    | exact Cover.bit hm (by dsimp only [Fld.block]; rfl)
    | (extract_lets -underBinder +onlyGivenNames x; refine (fun (hx : Good M s0 q x) => ?_) ?_; (on_goal 1 => try clear_value x); (on_goal 2 => subst x))
    | (extract_lets -underBinder +onlyGivenNames x; try clear_value x)
    | intro x
    | (simp only [good_mk_iff]; refine GoodParts.of (?_ : Good M s0 q _) rfl rfl rfl rfl)
    | with_reducible apply good_w
    | with_reducible apply good_sendPartner
    | with_reducible apply good_setPair
    | with_reducible apply good_pairBump
    | with_reducible apply good_foldS
    | with_reducible apply good_ite)

theorem good_keyReport {s1 : State} (h1 : Good M s0 q s1) (hm : Cover 0x300030000000000000000100000800040 M) : Good M s0 q (State.keyReport s1) := by
  unfold State.keyReport
  repeat' (first
    | with_reducible assumption
    | exact Cover.sub hm rfl
    | exact Cover.bit hm rfl
    | exact Cover.bit hm (by dsimp only [Fld.block]; rfl)
    | intro x
    | with_reducible apply good_sendControl)

theorem good_pairRefused {s1 : State} (h1 : Good M s0 q s1) (a2) (hm : Cover 0x100000000000000000000000000800060 M) : Good M s0 q (State.pairRefused s1 a2) := by
  unfold State.pairRefused
  repeat' (first
    | with_reducible assumption
    | exact Cover.sub hm rfl
    | exact Cover.bit hm rfl
    | exact Cover.bit hm (by dsimp only [Fld.block]; rfl)
    | (extract_lets -underBinder +onlyGivenNames x; refine (fun (hx : Good M s0 q x) => ?_) ?_; (on_goal 1 => try clear_value x); (on_goal 2 => subst x))
    | (extract_lets -underBinder +onlyGivenNames x; try clear_value x)
    | intro x
    | with_reducible apply good_setPair
    | with_reducible apply good_logEv
    | with_reducible apply good_ev
    | with_reducible apply good_ite)

theorem good_pairCompare {s1 : State} (h1 : Good M s0 q s1) (a2) (hm : Cover 0x30003FD5F00000D0700001F1414BFFB60 M) : Good M s0 q (State.pairCompare s1 a2) := by
  unfold State.pairCompare
  repeat' (first
    | with_reducible assumption
    | exact Cover.sub hm rfl
    | (extract_lets -underBinder +onlyGivenNames x; refine (fun (hf : ∀ k : State → State, (∀ y, Good M s0 q y → Good M s0 q (k y)) → Good M s0 q (x k)) => ?_) ?_; (on_goal 1 => try clear_value x); (on_goal 2 => subst x))
    | (extract_lets -underBinder +onlyGivenNames x; refine (fun (hf : ∀ y, Good M s0 q y → ∀ a, Good M s0 q (x y a)) => ?_) ?_; (on_goal 1 => try clear_value x); (on_goal 2 => subst x))
    | exact Cover.bit hm rfl
    | exact Cover.bit hm (by dsimp only [Fld.block]; rfl)
    | (extract_lets -underBinder +onlyGivenNames x; refine (fun (hx : Good M s0 q x) => ?_) ?_; (on_goal 1 => try clear_value x); (on_goal 2 => subst x))
    | (extract_lets -underBinder +onlyGivenNames x; try clear_value x)
    | intro x
    | (simp only [good_mk_iff]; refine GoodParts.of (?_ : Good M s0 q _) rfl rfl rfl rfl)
    | with_reducible apply good_pairingSwitch
    | with_reducible apply good_wb
    | with_reducible apply good_pairRefused
    | with_reducible apply good_trig
    | with_reducible apply good_setPair
    | apply_assumption -exfalso -symm
    | with_reducible apply good_ite
    | split)

theorem good_handoverRefused {s1 : State} (h1 : Good M s0 q s1) (hm : Cover 0x10000001C00000C000000100004830160 M) : Good M s0 q (State.handoverRefused s1) := by
  unfold State.handoverRefused
  repeat' (first
    | with_reducible assumption
    | exact Cover.sub hm rfl
    | exact Cover.bit hm rfl
    | exact Cover.bit hm (by dsimp only [Fld.block]; rfl)
    | (extract_lets -underBinder +onlyGivenNames x; refine (fun (hx : Good M s0 q x) => ?_) ?_; (on_goal 1 => try clear_value x); (on_goal 2 => subst x))
    | (extract_lets -underBinder +onlyGivenNames x; try clear_value x)
    | intro x
    | with_reducible apply good_logEv
    | with_reducible apply good_ev
    | with_reducible apply good_setPair
    | with_reducible apply good_offer
    | with_reducible apply good_nsmShow
    | with_reducible apply good_drainStart
    | with_reducible apply good_foldS
    | with_reducible apply good_ite)

theorem good_pairFresh {s1 : State} (h1 : Good M s0 q s1) (hm : Cover 0x800000 M) : Good M s0 q (State.pairFresh s1) := by
  unfold State.pairFresh
  repeat' (first
    | with_reducible assumption
    | exact Cover.sub hm rfl
    | exact Cover.bit hm rfl
    | exact Cover.bit hm (by dsimp only [Fld.block]; rfl)
    | (extract_lets -underBinder +onlyGivenNames x; try clear_value x)
    | intro x
    | (simp only [good_mk_iff]; refine GoodParts.of (?_ : Good M s0 q _) rfl rfl rfl rfl)
    | with_reducible apply good_setPair)

end Sys2Proof.Machine
end

