-- ==== Sys2Proof/Laws/BayOps.lean ====
section
/-! SUPPORT. What the operations of Machine/BayOps.lean keep (see Laws/Keep.lean), one lemma for each. -/

set_option Elab.async false

set_option linter.all false

namespace Sys2Proof.Machine

variable {M : Nat} {s0 : State} {q : Prop}

theorem good_setBayR {s1 : State} (h1 : Good M s0 q s1) (a2) (a3) (hm : Cover 0x2000000 M := by first | assumption | exact Cover.sub (by assumption) rfl) : Good M s0 q (State.setBayR s1 a2 a3) := by
  unfold State.setBayR
  repeat' (first
    | with_reducible assumption
    | exact Cover.sub hm rfl
    | exact Cover.bit hm rfl
    | exact Cover.bit hm (by dsimp only [Fld.block]; rfl)
    | (extract_lets -underBinder +onlyGivenNames x; try clear_value x)
    | intro x
    | (simp only [good_mk_iff]; refine GoodParts.of (?_ : Good M s0 q _) rfl rfl rfl rfl))

theorem good_bayBump {s1 : State} (h1 : Good M s0 q s1) (a2) (a3) (hm : Cover 0x3000000000000000000000100000000040 M) : Good M s0 q (State.bayBump s1 a2 a3) := by
  unfold State.bayBump
  repeat' (first
    | with_reducible assumption
    | exact Cover.sub hm rfl
    | exact Cover.bit hm rfl
    | exact Cover.bit hm (by dsimp only [Fld.block]; rfl)
    | intro x
    | with_reducible apply good_bump)

theorem good_bayShow {s1 : State} (h1 : Good M s0 q s1) (hm : Cover 0x1000000000000000000000000000000000 M) : Good M s0 q (State.bayShow s1) := by
  unfold State.bayShow
  repeat' (first
    | with_reducible assumption
    | exact Cover.sub hm rfl
    | exact Cover.bit hm rfl
    | exact Cover.bit hm (by dsimp only [Fld.block]; rfl)
    | (extract_lets -underBinder +onlyGivenNames x; try clear_value x)
    | intro x
    | with_reducible apply good_w)

theorem good_gateOffer {s1 : State} (h1 : Good M s0 q s1) (a2) (hm : Cover 0x300030000000000000000100000800040 M) : Good M s0 q (State.gateOffer s1 a2) := by
  unfold State.gateOffer
  repeat' (first
    | with_reducible assumption
    | exact Cover.sub hm rfl
    | exact Cover.bit hm rfl
    | exact Cover.bit hm (by dsimp only [Fld.block]; rfl)
    | (extract_lets -underBinder +onlyGivenNames x; refine (fun (hx : Good M s0 q x) => ?_) ?_; (on_goal 1 => try clear_value x); (on_goal 2 => subst x))
    | (extract_lets -underBinder +onlyGivenNames x; try clear_value x)
    | intro x
    | with_reducible apply good_setPair
    | with_reducible apply good_sendControl
    | with_reducible apply good_ite)

theorem good_gateOfferAll {s1 : State} (h1 : Good M s0 q s1) (hm : Cover 0x300030000000000000000100002800040 M) : Good M s0 q (State.gateOfferAll s1) := by
  unfold State.gateOfferAll
  repeat' (first
    | with_reducible assumption
    | exact Cover.sub hm rfl
    | exact Cover.bit hm rfl
    | exact Cover.bit hm (by dsimp only [Fld.block]; rfl)
    | (extract_lets -underBinder +onlyGivenNames x; try clear_value x)
    | intro x
    | (simp only [good_mk_iff]; refine GoodParts.of (?_ : Good M s0 q _) rfl rfl rfl rfl)
    | with_reducible apply good_gateOffer)

theorem good_bayEnter {s1 : State} (h1 : Good M s0 q s1) (a2) (a3) (hm : Cover 0x1300030000000000000000100000800040 M := by first | assumption | exact Cover.sub (by assumption) rfl) : Good M s0 q (State.bayEnter s1 a2 a3) := by
  unfold State.bayEnter
  repeat' (first
    | with_reducible assumption
    | exact Cover.sub hm rfl
    | exact Cover.bit hm rfl
    | exact Cover.bit hm (by dsimp only [Fld.block]; rfl)
    | (extract_lets -underBinder +onlyGivenNames x; refine (fun (hx : Good M s0 q x) => ?_) ?_; (on_goal 1 => try clear_value x); (on_goal 2 => subst x))
    | (extract_lets -underBinder +onlyGivenNames x; try clear_value x)
    | intro x
    | with_reducible apply good_bayShow
    | with_reducible apply good_w
    | with_reducible apply good_gateOffer
    | with_reducible apply good_ite)

theorem good_bayDark {s1 : State} (h1 : Good M s0 q s1) (a2) (hm : Cover 0x140003FD5F00000C0000001C00143F0062 M) : Good M s0 q (State.bayDark s1 a2) := by
  unfold State.bayDark
  repeat' (first
    | with_reducible assumption
    | exact Cover.sub hm rfl
    | exact Cover.bit hm rfl
    | exact Cover.bit hm (by dsimp only [Fld.block]; rfl)
    | (extract_lets -underBinder +onlyGivenNames x; refine (fun (hx : Good M s0 q x) => ?_) ?_; (on_goal 1 => try clear_value x); (on_goal 2 => subst x))
    | (extract_lets -underBinder +onlyGivenNames x; try clear_value x)
    | intro x
    | with_reducible apply good_emit
    | with_reducible apply good_w
    | with_reducible apply good_driveLost
    | with_reducible apply good_ite)

theorem good_bayEpw {s1 : State} (h1 : Good M s0 q s1) (a2) (a3) (hm : Cover 0x1000000000000000000000000000000040 M) : Good M s0 q (State.bayEpw s1 a2 a3) := by
  unfold State.bayEpw
  repeat' (first
    | with_reducible assumption
    | exact Cover.sub hm rfl
    | exact Cover.bit hm rfl
    | exact Cover.bit hm (by dsimp only [Fld.block]; rfl)
    | (extract_lets -underBinder +onlyGivenNames x; try clear_value x)
    | intro x
    | with_reducible apply good_emit
    | with_reducible apply good_wb)

theorem good_bayOff {s1 : State} (h1 : Good M s0 q s1) (a2) (a3) (hm : Cover 0x140003FD5F00000C0000001C00163F0062 M) : Good M s0 q (State.bayOff s1 a2 a3) := by
  unfold State.bayOff
  repeat' (first
    | with_reducible assumption
    | exact Cover.sub hm rfl
    | exact Cover.bit hm rfl
    | exact Cover.bit hm (by dsimp only [Fld.block]; rfl)
    | (extract_lets -underBinder +onlyGivenNames x; refine (fun (hx : Good M s0 q x) => ?_) ?_; (on_goal 1 => try clear_value x); (on_goal 2 => subst x))
    | (extract_lets -underBinder +onlyGivenNames x; try clear_value x)
    | intro x
    | with_reducible apply good_setBayR
    | with_reducible apply good_emit
    | with_reducible apply good_bayDark)

theorem good_bayN {s1 : State} (h1 : Good M s0 q s1) (a2) (a3) (hm : Cover 0x1000000000000000000000000002000000 M := by first | assumption | exact Cover.sub (by assumption) rfl) : Good M s0 q (State.bayN s1 a2 a3) := by
  unfold State.bayN
  repeat' (first
    | with_reducible assumption
    | exact Cover.sub hm rfl
    | exact Cover.bit hm rfl
    | exact Cover.bit hm (by dsimp only [Fld.block]; rfl)
    | (extract_lets -underBinder +onlyGivenNames x; try clear_value x)
    | intro x
    | with_reducible apply good_w
    | with_reducible apply good_setBayR)

theorem good_bayFaultLog {s1 : State} (h1 : Good M s0 q s1) (a2) (a3) (hm : Cover 0x1000000000000000000000000000000060 M) : Good M s0 q (State.bayFaultLog s1 a2 a3) := by
  unfold State.bayFaultLog
  repeat' (first
    | with_reducible assumption
    | exact Cover.sub hm rfl
    | exact Cover.bit hm rfl
    | exact Cover.bit hm (by dsimp only [Fld.block]; rfl)
    | (extract_lets -underBinder +onlyGivenNames x; refine (fun (hx : Good M s0 q x) => ?_) ?_; (on_goal 1 => try clear_value x); (on_goal 2 => subst x))
    | (extract_lets -underBinder +onlyGivenNames x; try clear_value x)
    | intro x
    | with_reducible apply good_ev
    | with_reducible apply good_w
    | with_reducible apply good_logEv)

theorem good_bayLatch {s1 : State} (h1 : Good M s0 q s1) (a2) (hm : Cover 0x1300030000000000000000100002800040 M) : Good M s0 q (State.bayLatch s1 a2) := by
  unfold State.bayLatch
  repeat' (first
    | with_reducible assumption
    | exact Cover.sub hm rfl
    | exact Cover.bit hm rfl
    | exact Cover.bit hm (by dsimp only [Fld.block]; rfl)
    | (extract_lets -underBinder +onlyGivenNames x; try clear_value x)
    | intro x
    | with_reducible apply good_bayEnter
    | with_reducible apply good_ev
    | with_reducible apply good_setBayR)

theorem good_bayFault {s1 : State} (h1 : Good M s0 q s1) (a2) (a3) (hm : Cover 0x170003FD5F00000C0000001C0016BF0062 M) : Good M s0 q (State.bayFault s1 a2 a3) := by
  unfold State.bayFault
  repeat' (first
    | with_reducible assumption
    | exact Cover.sub hm rfl
    | exact Cover.bit hm rfl
    | exact Cover.bit hm (by dsimp only [Fld.block]; rfl)
    | (extract_lets -underBinder +onlyGivenNames x; refine (fun (hx : Good M s0 q x) => ?_) ?_; (on_goal 1 => try clear_value x); (on_goal 2 => subst x))
    | (extract_lets -underBinder +onlyGivenNames x; try clear_value x)
    | intro x
    | with_reducible apply good_bayFaultLog
    | with_reducible apply good_bayOff
    | with_reducible apply good_bayN
    | with_reducible apply good_setBayR
    | with_reducible apply good_bayLatch
    | with_reducible apply good_bayEnter
    | with_reducible apply good_ite)

theorem good_bayRamp {s1 : State} (h1 : Good M s0 q s1) (a2) (hm : Cover 0x3300034000000000000000100002800040 M) : Good M s0 q (State.bayRamp s1 a2) := by
  unfold State.bayRamp
  repeat' (first
    | with_reducible assumption
    | exact Cover.sub hm rfl
    | exact Cover.bit hm rfl
    | exact Cover.bit hm (by dsimp only [Fld.block]; rfl)
    | (extract_lets -underBinder +onlyGivenNames x; refine (fun (hx : Good M s0 q x) => ?_) ?_; (on_goal 1 => try clear_value x); (on_goal 2 => subst x))
    | (extract_lets -underBinder +onlyGivenNames x; try clear_value x)
    | intro x
    | with_reducible apply good_bayEpw
    | with_reducible apply good_setBayR
    | with_reducible apply good_bayBump
    | with_reducible apply good_emit
    | with_reducible apply good_w
    | with_reducible apply good_bayState
    | with_reducible apply good_bayEnter
    | with_reducible apply good_ite)

theorem good_bayPg {s1 : State} (h1 : Good M s0 q s1) (a2) (hm : Cover 0x1000000000000000000000000000200000 M) : Good M s0 q (State.bayPg s1 a2) := by
  unfold State.bayPg
  repeat' (first
    | with_reducible assumption
    | exact Cover.sub hm rfl
    | exact Cover.bit hm rfl
    | exact Cover.bit hm (by dsimp only [Fld.block]; rfl)
    | (extract_lets -underBinder +onlyGivenNames x; refine (fun (hx : Good M s0 q x) => ?_) ?_; (on_goal 1 => try clear_value x); (on_goal 2 => subst x))
    | (extract_lets -underBinder +onlyGivenNames x; try clear_value x)
    | intro x
    | with_reducible apply good_w
    | with_reducible apply good_setDrive
    | with_reducible apply good_ite)

theorem good_bayOn {s1 : State} (h1 : Good M s0 q s1) (a2) (hm : Cover 0x1300030000000000000000100002800040 M) : Good M s0 q (State.bayOn s1 a2) := by
  unfold State.bayOn
  repeat' (first
    | with_reducible assumption
    | exact Cover.sub hm rfl
    | exact Cover.bit hm rfl
    | exact Cover.bit hm (by dsimp only [Fld.block]; rfl)
    | (extract_lets -underBinder +onlyGivenNames x; try clear_value x)
    | intro x
    | with_reducible apply good_bayEnter
    | with_reducible apply good_setBayR)

theorem good_gateTake {s1 : State} (h1 : Good M s0 q s1) (a2) (a3) (a4) (a5) (hm : Cover 0x3300034000000000000000100002800060 M) : Good M s0 q (State.gateTake s1 a2 a3 a4 a5) := by
  unfold State.gateTake
  repeat' (first
    | with_reducible assumption
    | exact Cover.sub hm rfl
    | exact Cover.bit hm rfl
    | exact Cover.bit hm (by dsimp only [Fld.block]; rfl)
    | (extract_lets -underBinder +onlyGivenNames x; refine (fun (hx : Good M s0 q x) => ?_) ?_; (on_goal 1 => try clear_value x); (on_goal 2 => subst x))
    | (extract_lets -underBinder +onlyGivenNames x; try clear_value x)
    | intro x
    | (simp only [good_mk_iff]; refine GoodParts.of (?_ : Good M s0 q _) rfl rfl rfl rfl)
    | with_reducible apply good_w
    | with_reducible apply good_emit
    | with_reducible apply good_ev
    | with_reducible apply good_bayBump
    | with_reducible apply good_bayShow
    | with_reducible apply good_bayOn
    | with_reducible apply good_setBayR
    | with_reducible apply good_bayLatch
    | with_reducible apply good_bayFaultLog
    | with_reducible apply good_bayN
    | with_reducible apply good_bayEnter
    | with_reducible apply good_bayRamp
    | with_reducible apply good_ite
    | split)

theorem good_gateWatch {s1 : State} (h1 : Good M s0 q s1) (a2) (hm : Cover 0x3300034000000000000000100002800060 M) : Good M s0 q (State.gateWatch s1 a2) := by
  unfold State.gateWatch
  repeat' (first
    | with_reducible assumption
    | exact Cover.sub hm rfl
    | exact Cover.bit hm rfl
    | exact Cover.bit hm (by dsimp only [Fld.block]; rfl)
    | (extract_lets -underBinder +onlyGivenNames x; refine (fun (hx : Good M s0 q x) => ?_) ?_; (on_goal 1 => try clear_value x); (on_goal 2 => subst x))
    | (extract_lets -underBinder +onlyGivenNames x; try clear_value x)
    | intro x
    | (simp only [good_mk_iff]; refine GoodParts.of (?_ : Good M s0 q _) rfl rfl rfl rfl)
    | with_reducible apply good_wb
    | with_reducible apply good_setBayR
    | with_reducible apply good_gateTake
    | with_reducible apply good_foldS
    | with_reducible apply good_ite)

theorem good_bayWarn {s1 : State} (h1 : Good M s0 q s1) (hm : Cover 0x170003FD5F00000C0000001C0016BF0062 M) : Good M s0 q (State.bayWarn s1) := by
  unfold State.bayWarn
  repeat' (first
    | with_reducible assumption
    | exact Cover.sub hm rfl
    | exact Cover.bit hm rfl
    | exact Cover.bit hm (by dsimp only [Fld.block]; rfl)
    | (extract_lets -underBinder +onlyGivenNames x; refine (fun (hx : Good M s0 q x) => ?_) ?_; (on_goal 1 => try clear_value x); (on_goal 2 => subst x))
    | (extract_lets -underBinder +onlyGivenNames x; try clear_value x)
    | intro x
    | with_reducible apply good_wb
    | with_reducible apply good_ev
    | with_reducible apply good_bayEnter
    | with_reducible apply good_bayOff
    | with_reducible apply good_foldS
    | with_reducible apply good_ite)

theorem good_bayWarnOver {s1 : State} (h1 : Good M s0 q s1) (hm : Cover 0x1000000000000000000000000000000000 M) : Good M s0 q (State.bayWarnOver s1) := by
  unfold State.bayWarnOver
  repeat' (first
    | with_reducible assumption
    | exact Cover.sub hm rfl
    | exact Cover.bit hm rfl
    | exact Cover.bit hm (by dsimp only [Fld.block]; rfl)
    | intro x
    | with_reducible apply good_w)

theorem good_bayQuarantine {s1 : State} (h1 : Good M s0 q s1) (hm : Cover 0x170003FD5F00000C0000001C0016BF0062 M) : Good M s0 q (State.bayQuarantine s1) := by
  unfold State.bayQuarantine
  repeat' (first
    | with_reducible assumption
    | exact Cover.sub hm rfl
    | exact Cover.bit hm rfl
    | exact Cover.bit hm (by dsimp only [Fld.block]; rfl)
    | (extract_lets -underBinder +onlyGivenNames x; try clear_value x)
    | intro x
    | with_reducible apply good_bayEnter
    | with_reducible apply good_bayOff
    | with_reducible apply good_foldS
    | with_reducible apply good_ite)

theorem good_bayStop {s1 : State} (h1 : Good M s0 q s1) (hm : Cover 0x1500015555000005550015555402800040 M := by first | assumption | exact Cover.sub (by assumption) rfl) :
    Good M s0 q (State.bayStop s1) := by
  unfold State.bayStop
  lift_lets
  intro recs x y
  have hx : Good M s0 q x := good_foldS (fun z a hz => good_ite (good_ite (good_emit hz _) (good_emit (good_emit hz _) _)) hz) h1
  refine good_mk_iff.2 (GoodParts.less hx (.inr ⟨List.filter_sublist, fun k hk => alGet_filter fun v => ?_⟩) (.inl rfl) (.inl rfl)
    (.inl rfl))
  obtain ⟨kd, kf, ki⟩ := k
  cases kf <;> first | (rfl; done) | (dsimp only [Fld.block] at hk; exact absurd (Cover.bit (k := 132) hm rfl) (by rw [hk]; exact Bool.false_ne_true))

theorem good_bayStart {s1 : State} (h1 : Good M s0 q s1) (a2) (hm : Cover 0x3300034000000000000000100002800060 M) : Good M s0 q (State.bayStart s1 a2) := by
  unfold State.bayStart
  repeat' (first
    | with_reducible assumption
    | exact Cover.sub hm rfl
    | exact Cover.bit hm rfl
    | exact Cover.bit hm (by dsimp only [Fld.block]; rfl)
    | (extract_lets -underBinder +onlyGivenNames x; refine (fun (hx : Good M s0 q x) => ?_) ?_; (on_goal 1 => try clear_value x); (on_goal 2 => subst x))
    | (extract_lets -underBinder +onlyGivenNames x; try clear_value x)
    | intro x
    | (simp only [good_mk_iff]; refine GoodParts.of (?_ : Good M s0 q _) rfl rfl rfl rfl)
    | with_reducible apply good_logEv
    | with_reducible apply good_gateWatch
    | with_reducible apply good_foldS
    | with_reducible apply good_ite)

end Sys2Proof.Machine
end

