-- ==== Sys2Proof/Laws/Bay.lean ====
section
/-! SUPPORT. What the operations of Machine/Bay.lean keep (see Laws/Keep.lean), one lemma for each. -/

set_option Elab.async false

set_option linter.all false

namespace Sys2Proof.Machine

variable {M : Nat} {s0 : State} {q : Prop}

theorem good_onBay (a1) {s2 : State} (h2 : Good M s0 q s2) (f3) (h3 : ∀ x0, Good M s0 q x0 → Good M s0 q (f3 x0)) : OutGood M s0 q (onBay a1 s2 f3) := by
  unfold onBay
  repeat' (first
    | with_reducible assumption
    | exact Cover.sub hm rfl
    | exact Cover.bit hm rfl
    | exact Cover.bit hm (by dsimp only [Fld.block]; rfl)
    | (extract_lets -underBinder +onlyGivenNames x; try clear_value x)
    | intro x
    | with_reducible apply OutGood.of
    | apply_assumption -exfalso -symm
    | with_reducible apply good_ite)

theorem good_execGateOfferReceived (a1) {s2 : State} (h2 : Good M s0 q s2) (hm : Cover 0x300030000000000000000100000800040 M) : OutGood M s0 q (execGateOfferReceived a1 s2) := by
  unfold execGateOfferReceived
  repeat' (first
    | with_reducible assumption
    | exact Cover.sub hm rfl
    | exact Cover.bit hm rfl
    | exact Cover.bit hm (by dsimp only [Fld.block]; rfl)
    | (extract_lets -underBinder +onlyGivenNames x; refine (fun (hx : Good M s0 q x) => ?_) ?_; (on_goal 1 => try clear_value x); (on_goal 2 => subst x))
    | (extract_lets -underBinder +onlyGivenNames x; try clear_value x)
    | intro x
    | with_reducible apply OutGood.of
    | with_reducible apply good_setPair
    | with_reducible apply good_sendControl
    | with_reducible apply good_ite
    | with_reducible apply OutGood.ite)

theorem good_execGateReleaseHoldExpiry {s1 : State} (h1 : Good M s0 q s1) (hm : Cover 0x1300030000000000000000100000800041 M) : OutGood M s0 q (execGateReleaseHoldExpiry s1) := by
  unfold execGateReleaseHoldExpiry
  repeat' (first
    | with_reducible assumption
    | exact Cover.sub hm rfl
    | exact Cover.bit hm rfl
    | exact Cover.bit hm (by dsimp only [Fld.block]; rfl)
    | (extract_lets -underBinder +onlyGivenNames x; refine (fun (hx : Good M s0 q x) => ?_) ?_; (on_goal 1 => try clear_value x); (on_goal 2 => subst x))
    | (extract_lets -underBinder +onlyGivenNames x; try clear_value x)
    | intro x
    | (simp only [good_mk_iff]; refine GoodParts.of (?_ : Good M s0 q _) rfl rfl rfl rfl)
    | with_reducible apply OutGood.of
    | with_reducible apply good_advance
    | with_reducible apply good_setPair
    | with_reducible apply good_bayEpw
    | with_reducible apply good_bayShow
    | with_reducible apply good_wb
    | with_reducible apply good_w
    | with_reducible apply good_sendControl
    | with_reducible apply good_emit
    | with_reducible apply good_ite
    | with_reducible apply OutGood.ite
    | split)

theorem good_execGateReleasedReceived (a1) (a2) (a3) (a4) (a5) {s6 : State} (h6 : Good M s0 q s6) (hm : Cover 0x3300034000000000000000100002800060 M) : OutGood M s0 q (execGateReleasedReceived a1 a2 a3 a4 a5 s6) := by
  unfold execGateReleasedReceived
  repeat' (first
    | with_reducible assumption
    | exact Cover.sub hm rfl
    | exact Cover.bit hm rfl
    | exact Cover.bit hm (by dsimp only [Fld.block]; rfl)
    | (extract_lets -underBinder +onlyGivenNames x; refine (fun (hx : Good M s0 q x) => ?_) ?_; (on_goal 1 => try clear_value x); (on_goal 2 => subst x))
    | (extract_lets -underBinder +onlyGivenNames x; try clear_value x)
    | intro x
    | (simp only [good_mk_iff]; refine GoodParts.of (?_ : Good M s0 q _) rfl rfl rfl rfl)
    | with_reducible apply OutGood.of
    | with_reducible apply good_onBay
    | with_reducible apply good_setPair
    | with_reducible apply good_w
    | with_reducible apply good_gateTake
    | with_reducible apply good_sendControl
    | with_reducible apply good_ite)

theorem good_execGateTakenReceived (a1) {s2 : State} (h2 : Good M s0 q s2) (hm : Cover 0x1300030000000000000000100000800040 M) : OutGood M s0 q (execGateTakenReceived a1 s2) := by
  unfold execGateTakenReceived
  repeat' (first
    | with_reducible assumption
    | exact Cover.sub hm rfl
    | exact Cover.bit hm rfl
    | exact Cover.bit hm (by dsimp only [Fld.block]; rfl)
    | (extract_lets -underBinder +onlyGivenNames x; refine (fun (hx : Good M s0 q x) => ?_) ?_; (on_goal 1 => try clear_value x); (on_goal 2 => subst x))
    | (extract_lets -underBinder +onlyGivenNames x; try clear_value x)
    | intro x
    | (simp only [good_mk_iff]; refine GoodParts.of (?_ : Good M s0 q _) rfl rfl rfl rfl)
    | with_reducible apply OutGood.of
    | with_reducible apply good_w
    | with_reducible apply good_bayEnter
    | with_reducible apply good_foldS
    | with_reducible apply good_ite
    | with_reducible apply OutGood.ite)

theorem good_execGateWatchSample (a1) {s2 : State} (h2 : Good M s0 q s2) (hm : Cover 0x3300034000000000000000100002800060 M) : OutGood M s0 q (execGateWatchSample a1 s2) := by
  unfold execGateWatchSample
  repeat' (first
    | with_reducible assumption
    | exact Cover.sub hm rfl
    | exact Cover.bit hm rfl
    | exact Cover.bit hm (by dsimp only [Fld.block]; rfl)
    | (extract_lets -underBinder +onlyGivenNames x; try clear_value x)
    | intro x
    | with_reducible apply OutGood.of
    | with_reducible apply good_gateWatch)

theorem good_seatLoss {s1 : State} (h1 : Good M s0 q s1) (a2) (hm : Cover 0x370003FD5F00000C0000001C0016BF0062 M) : Good M s0 q (State.seatLoss s1 a2) := by
  unfold State.seatLoss
  repeat' (first
    | with_reducible assumption
    | exact Cover.sub hm rfl
    | exact Cover.bit hm rfl
    | exact Cover.bit hm (by dsimp only [Fld.block]; rfl)
    | (extract_lets -underBinder +onlyGivenNames x; refine (fun (hx : Good M s0 q x) => ?_) ?_; (on_goal 1 => try clear_value x); (on_goal 2 => subst x))
    | (extract_lets -underBinder +onlyGivenNames x; try clear_value x)
    | intro x
    | with_reducible apply good_setBayR
    | with_reducible apply good_bayEnter
    | with_reducible apply good_emit
    | with_reducible apply good_w
    | with_reducible apply good_ev
    | with_reducible apply good_bayBump
    | with_reducible apply good_driveLost
    | with_reducible apply good_wbit
    | with_reducible apply good_ite)

theorem good_seatMade {s1 : State} (h1 : Good M s0 q s1) (a2) (hm : Cover 0x1300030000000000000000100002800040 M := by first | assumption | exact Cover.sub (by assumption) rfl) :
    Good M s0 q (State.seatMade s1 a2) := by
  unfold State.seatMade
  extract_lets -underBinder src x long y
  have hy : Good M s0 q y := good_ite (good_bayN (good_setBayR h1 _ _) _ _) (good_setBayR h1 _ _)
  exact good_ite (good_bayEnter hy _ _) hy

theorem good_execSidebandScan (a1) (a2) (a3) (a4) {s5 : State} (h5 : Good M s0 q s5) (hm : Cover 0x370003FD5F00000C0000001C0016BF0062 M) : OutGood M s0 q (execSidebandScan a1 a2 a3 a4 s5) := by
  unfold execSidebandScan
  repeat' (first
    | with_reducible assumption
    | exact Cover.sub hm rfl
    | exact Cover.bit hm rfl
    | exact Cover.bit hm (by dsimp only [Fld.block]; rfl)
    | (extract_lets -underBinder +onlyGivenNames x; refine (fun (hx : Good M s0 q x) => ?_) ?_; (on_goal 1 => try clear_value x); (on_goal 2 => subst x))
    | (extract_lets -underBinder +onlyGivenNames x; try clear_value x)
    | intro x
    | (simp only [good_mk_iff]; refine GoodParts.of (?_ : Good M s0 q _) rfl rfl rfl rfl)
    | with_reducible apply OutGood.of
    | with_reducible apply good_ev
    | with_reducible apply good_w
    | with_reducible apply good_wb
    | with_reducible apply good_seatMade
    | with_reducible apply good_seatLoss
    | with_reducible apply good_foldS
    | with_reducible apply good_ite
    | with_reducible apply OutGood.ite)

theorem good_execSeatDebounceExpiry (a1) {s2 : State} (h2 : Good M s0 q s2) (hm : Cover 0x1300034000000000000000100002A00041 M) : OutGood M s0 q (execSeatDebounceExpiry a1 s2) := by
  unfold execSeatDebounceExpiry
  repeat' (first
    | with_reducible assumption
    | exact Cover.sub hm rfl
    | exact Cover.bit hm rfl
    | exact Cover.bit hm (by dsimp only [Fld.block]; rfl)
    | (extract_lets -underBinder +onlyGivenNames x; refine (fun (hx : Good M s0 q x) => ?_) ?_; (on_goal 1 => try clear_value x); (on_goal 2 => subst x))
    | (extract_lets -underBinder +onlyGivenNames x; try clear_value x)
    | intro x
    | (simp only [good_mk_iff]; refine GoodParts.of (?_ : Good M s0 q _) rfl rfl rfl rfl)
    | with_reducible apply OutGood.of
    | with_reducible apply good_onBay
    | with_reducible apply good_advance
    | with_reducible apply good_ev
    | with_reducible apply good_w
    | with_reducible apply good_setBayR
    | with_reducible apply good_wbit
    | with_reducible apply good_bayState
    | with_reducible apply good_setDrive
    | with_reducible apply good_bayEnter
    | with_reducible apply good_ite
    | with_reducible apply OutGood.ite
    | split)

theorem good_execBayRampStart (a1) {s2 : State} (h2 : Good M s0 q s2) (hm : Cover 0x3300034000000000000000100002800040 M) : OutGood M s0 q (execBayRampStart a1 s2) := by
  unfold execBayRampStart
  repeat' (first
    | with_reducible assumption
    | exact Cover.sub hm rfl
    | exact Cover.bit hm rfl
    | exact Cover.bit hm (by dsimp only [Fld.block]; rfl)
    | (extract_lets -underBinder +onlyGivenNames x; try clear_value x)
    | intro x
    | (simp only [good_mk_iff]; refine GoodParts.of (?_ : Good M s0 q _) rfl rfl rfl rfl)
    | with_reducible apply OutGood.of
    | with_reducible apply good_onBay
    | with_reducible apply good_setBayR
    | with_reducible apply good_bayRamp
    | with_reducible apply good_ite)

theorem good_execBayLoopStep (a1) (a2) (a3) (a4) (a5) {s6 : State} (h6 : Good M s0 q s6) (hm : Cover 0x1400000000000000000000000002000000 M) : OutGood M s0 q (execBayLoopStep a1 a2 a3 a4 a5 s6) := by
  unfold execBayLoopStep
  repeat' (first
    | with_reducible assumption
    | exact Cover.sub hm rfl
    | exact Cover.bit hm rfl
    | exact Cover.bit hm (by dsimp only [Fld.block]; rfl)
    | (extract_lets -underBinder +onlyGivenNames x; refine (fun (hx : Good M s0 q x) => ?_) ?_; (on_goal 1 => try clear_value x); (on_goal 2 => subst x))
    | (extract_lets -underBinder +onlyGivenNames x; try clear_value x)
    | intro x
    | (simp only [good_mk_iff]; refine GoodParts.of (?_ : Good M s0 q _) rfl rfl rfl rfl)
    | with_reducible apply OutGood.of
    | with_reducible apply good_onBay
    | with_reducible apply good_setBayR
    | with_reducible apply good_w)

theorem good_execBayPowerGood (a1) {s2 : State} (h2 : Good M s0 q s2) (hm : Cover 0x3300030000000000000000100002A00040 M) : OutGood M s0 q (execBayPowerGood a1 s2) := by
  unfold execBayPowerGood
  repeat' (first
    | with_reducible assumption
    | exact Cover.sub hm rfl
    | exact Cover.bit hm rfl
    | exact Cover.bit hm (by dsimp only [Fld.block]; rfl)
    | (extract_lets -underBinder +onlyGivenNames x; refine (fun (hx : Good M s0 q x) => ?_) ?_; (on_goal 1 => try clear_value x); (on_goal 2 => subst x))
    | (extract_lets -underBinder +onlyGivenNames x; try clear_value x)
    | intro x
    | (simp only [good_mk_iff]; refine GoodParts.of (?_ : Good M s0 q _) rfl rfl rfl rfl)
    | with_reducible apply OutGood.of
    | with_reducible apply good_onBay
    | with_reducible apply good_bayPg
    | with_reducible apply good_bayOn
    | with_reducible apply good_bayBump
    | with_reducible apply good_ite)

theorem good_execBayPowerGoodLoss (a1) {s2 : State} (h2 : Good M s0 q s2) (hm : Cover 0x140003FD5F00000C0000001C00143F0062 M) : OutGood M s0 q (execBayPowerGoodLoss a1 s2) := by
  unfold execBayPowerGoodLoss
  repeat' (first
    | with_reducible assumption
    | exact Cover.sub hm rfl
    | exact Cover.bit hm rfl
    | exact Cover.bit hm (by dsimp only [Fld.block]; rfl)
    | (extract_lets -underBinder +onlyGivenNames x; refine (fun (hx : Good M s0 q x) => ?_) ?_; (on_goal 1 => try clear_value x); (on_goal 2 => subst x))
    | (extract_lets -underBinder +onlyGivenNames x; try clear_value x)
    | intro x
    | (simp only [good_mk_iff]; refine GoodParts.of (?_ : Good M s0 q _) rfl rfl rfl rfl)
    | with_reducible apply OutGood.of
    | with_reducible apply good_onBay
    | with_reducible apply good_emit
    | with_reducible apply good_w
    | with_reducible apply good_linkLost
    | with_reducible apply good_ite)

theorem good_execBayLimitEntry (a1) {s2 : State} (h2 : Good M s0 q s2) (hm : Cover 0x1300030000000000000000100002800040 M) : OutGood M s0 q (execBayLimitEntry a1 s2) := by
  unfold execBayLimitEntry
  repeat' (first
    | with_reducible assumption
    | exact Cover.sub hm rfl
    | exact Cover.bit hm rfl
    | exact Cover.bit hm (by dsimp only [Fld.block]; rfl)
    | (extract_lets -underBinder +onlyGivenNames x; try clear_value x)
    | intro x
    | (simp only [good_mk_iff]; refine GoodParts.of (?_ : Good M s0 q _) rfl rfl rfl rfl)
    | with_reducible apply OutGood.of
    | with_reducible apply good_onBay
    | with_reducible apply good_bayEnter
    | with_reducible apply good_setBayR
    | with_reducible apply good_ite)

theorem good_execBayLimitExit (a1) {s2 : State} (h2 : Good M s0 q s2) (hm : Cover 0x1300030000000000000000100000800040 M) : OutGood M s0 q (execBayLimitExit a1 s2) := by
  unfold execBayLimitExit
  repeat' (first
    | with_reducible assumption
    | exact Cover.sub hm rfl
    | exact Cover.bit hm rfl
    | exact Cover.bit hm (by dsimp only [Fld.block]; rfl)
    | (extract_lets -underBinder +onlyGivenNames x; try clear_value x)
    | intro x
    | with_reducible apply OutGood.of
    | with_reducible apply good_onBay
    | with_reducible apply good_bayEnter
    | with_reducible apply good_ite)

theorem good_execBayLimitTimeout (a1) {s2 : State} (h2 : Good M s0 q s2) (hm : Cover 0x370003FD5F00000C0000001C0016BF0063 M) : OutGood M s0 q (execBayLimitTimeout a1 s2) := by
  unfold execBayLimitTimeout
  repeat' (first
    | with_reducible assumption
    | exact Cover.sub hm rfl
    | exact Cover.bit hm rfl
    | exact Cover.bit hm (by dsimp only [Fld.block]; rfl)
    | (extract_lets -underBinder +onlyGivenNames x; try clear_value x)
    | intro x
    | (simp only [good_mk_iff]; refine GoodParts.of (?_ : Good M s0 q _) rfl rfl rfl rfl)
    | with_reducible apply OutGood.of
    | with_reducible apply good_onBay
    | with_reducible apply good_bayFault
    | with_reducible apply good_bayBump
    | with_reducible apply good_advance
    | with_reducible apply good_ite)

theorem good_execBayFastTrip (a1) {s2 : State} (h2 : Good M s0 q s2) (hm : Cover 0x370003FD5F00000C0000001C0016BF0062 M) : OutGood M s0 q (execBayFastTrip a1 s2) := by
  unfold execBayFastTrip
  repeat' (first
    | with_reducible assumption
    | exact Cover.sub hm rfl
    | exact Cover.bit hm rfl
    | exact Cover.bit hm (by dsimp only [Fld.block]; rfl)
    | (extract_lets -underBinder +onlyGivenNames x; try clear_value x)
    | intro x
    | (simp only [good_mk_iff]; refine GoodParts.of (?_ : Good M s0 q _) rfl rfl rfl rfl)
    | with_reducible apply OutGood.of
    | with_reducible apply good_onBay
    | with_reducible apply good_bayFault
    | with_reducible apply good_bayBump
    | with_reducible apply good_ite)

theorem good_execBayShortAtStart (a1) {s2 : State} (h2 : Good M s0 q s2) (hm : Cover 0x370003FD5F00000C0000001C0016BF0062 M) : OutGood M s0 q (execBayShortAtStart a1 s2) := by
  unfold execBayShortAtStart
  repeat' (first
    | with_reducible assumption
    | exact Cover.sub hm rfl
    | exact Cover.bit hm rfl
    | exact Cover.bit hm (by dsimp only [Fld.block]; rfl)
    | (extract_lets -underBinder +onlyGivenNames x; try clear_value x)
    | intro x
    | with_reducible apply OutGood.of
    | with_reducible apply good_onBay
    | with_reducible apply good_bayFault
    | with_reducible apply good_bayBump
    | with_reducible apply good_ite)

theorem good_execBayGateNotRising (a1) {s2 : State} (h2 : Good M s0 q s2) (hm : Cover 0x370003FD5F00000C0000001C0016BF0062 M) : OutGood M s0 q (execBayGateNotRising a1 s2) := by
  unfold execBayGateNotRising
  repeat' (first
    | with_reducible assumption
    | exact Cover.sub hm rfl
    | exact Cover.bit hm rfl
    | exact Cover.bit hm (by dsimp only [Fld.block]; rfl)
    | (extract_lets -underBinder +onlyGivenNames x; try clear_value x)
    | intro x
    | with_reducible apply OutGood.of
    | with_reducible apply good_onBay
    | with_reducible apply good_bayFault
    | with_reducible apply good_bayBump
    | with_reducible apply good_ite)

theorem good_execBayRampTimeout (a1) {s2 : State} (h2 : Good M s0 q s2) (hm : Cover 0x170003FD5F00000C0000001C0016BF0063 M) : OutGood M s0 q (execBayRampTimeout a1 s2) := by
  unfold execBayRampTimeout
  repeat' (first
    | with_reducible assumption
    | exact Cover.sub hm rfl
    | exact Cover.bit hm rfl
    | exact Cover.bit hm (by dsimp only [Fld.block]; rfl)
    | (extract_lets -underBinder +onlyGivenNames x; try clear_value x)
    | intro x
    | (simp only [good_mk_iff]; refine GoodParts.of (?_ : Good M s0 q _) rfl rfl rfl rfl)
    | with_reducible apply OutGood.of
    | with_reducible apply good_onBay
    | with_reducible apply good_bayFault
    | with_reducible apply good_advance
    | with_reducible apply good_ite)

theorem good_execFetThermalUpdate (a1) {s2 : State} (h2 : Good M s0 q s2) (hm : Cover 0x370003FD5F00000C0000001C0016BF0062 M) : OutGood M s0 q (execFetThermalUpdate a1 s2) := by
  unfold execFetThermalUpdate
  repeat' (first
    | with_reducible assumption
    | exact Cover.sub hm rfl
    | exact Cover.bit hm rfl
    | exact Cover.bit hm (by dsimp only [Fld.block]; rfl)
    | (extract_lets -underBinder +onlyGivenNames x; refine (fun (hx : Good M s0 q x) => ?_) ?_; (on_goal 1 => try clear_value x); (on_goal 2 => subst x))
    | (extract_lets -underBinder +onlyGivenNames x; try clear_value x)
    | intro x
    | (simp only [good_mk_iff]; refine GoodParts.of (?_ : Good M s0 q _) rfl rfl rfl rfl)
    | with_reducible apply OutGood.of
    | with_reducible apply good_onBay
    | with_reducible apply good_w
    | with_reducible apply good_setBayR
    | with_reducible apply good_bayFault
    | with_reducible apply good_bayBump
    | with_reducible apply good_ite)

theorem good_execThermistorSample (a1) (a2) {s3 : State} (h3 : Good M s0 q s3) (hm : Cover 0x370003FD5F00000C0000001C0016BF0062 M) : OutGood M s0 q (execThermistorSample a1 a2 s3) := by
  unfold execThermistorSample
  repeat' (first
    | with_reducible assumption
    | exact Cover.sub hm rfl
    | exact Cover.bit hm rfl
    | exact Cover.bit hm (by dsimp only [Fld.block]; rfl)
    | (extract_lets -underBinder +onlyGivenNames x; refine (fun (hx : Good M s0 q x) => ?_) ?_; (on_goal 1 => try clear_value x); (on_goal 2 => subst x))
    | (extract_lets -underBinder +onlyGivenNames x; try clear_value x)
    | intro x
    | (simp only [good_mk_iff]; refine GoodParts.of (?_ : Good M s0 q _) rfl rfl rfl rfl)
    | with_reducible apply OutGood.of
    | with_reducible apply good_onBay
    | with_reducible apply good_setBayR
    | with_reducible apply good_w
    | with_reducible apply good_ev
    | with_reducible apply good_bayFault
    | with_reducible apply good_bayBump
    | with_reducible apply good_ite)

theorem good_execBayBackoffExpiry (a1) {s2 : State} (h2 : Good M s0 q s2) (hm : Cover 0x1300030000000000000000100002800041 M) : OutGood M s0 q (execBayBackoffExpiry a1 s2) := by
  unfold execBayBackoffExpiry
  repeat' (first
    | with_reducible assumption
    | exact Cover.sub hm rfl
    | exact Cover.bit hm rfl
    | exact Cover.bit hm (by dsimp only [Fld.block]; rfl)
    | (extract_lets -underBinder +onlyGivenNames x; refine (fun (hx : Good M s0 q x) => ?_) ?_; (on_goal 1 => try clear_value x); (on_goal 2 => subst x))
    | (extract_lets -underBinder +onlyGivenNames x; try clear_value x)
    | intro x
    | (simp only [good_mk_iff]; refine GoodParts.of (?_ : Good M s0 q _) rfl rfl rfl rfl)
    | with_reducible apply OutGood.of
    | with_reducible apply good_onBay
    | with_reducible apply good_setBayR
    | with_reducible apply good_advance
    | with_reducible apply good_bayEnter
    | with_reducible apply good_ite
    | with_reducible apply OutGood.ite
    | split)

theorem good_execBayRetryCountClear (a1) {s2 : State} (h2 : Good M s0 q s2) (hm : Cover 0x1000000000000000000000100002000041 M) : OutGood M s0 q (execBayRetryCountClear a1 s2) := by
  unfold execBayRetryCountClear
  repeat' (first
    | with_reducible assumption
    | exact Cover.sub hm rfl
    | exact Cover.bit hm rfl
    | exact Cover.bit hm (by dsimp only [Fld.block]; rfl)
    | (extract_lets -underBinder +onlyGivenNames x; try clear_value x)
    | intro x
    | (simp only [good_mk_iff]; refine GoodParts.of (?_ : Good M s0 q _) rfl rfl rfl rfl)
    | with_reducible apply OutGood.of
    | with_reducible apply good_onBay
    | with_reducible apply good_bayN
    | with_reducible apply good_advance
    | with_reducible apply good_ite)

theorem good_execBayPrechargeTimeout (a1) {s2 : State} (h2 : Good M s0 q s2) (hm : Cover 0x1000000000000000000000100000000061 M) : OutGood M s0 q (execBayPrechargeTimeout a1 s2) := by
  unfold execBayPrechargeTimeout
  repeat' (first
    | with_reducible assumption
    | exact Cover.sub hm rfl
    | exact Cover.bit hm rfl
    | exact Cover.bit hm (by dsimp only [Fld.block]; rfl)
    | (extract_lets -underBinder +onlyGivenNames x; try clear_value x)
    | intro x
    | (simp only [good_mk_iff]; refine GoodParts.of (?_ : Good M s0 q _) rfl rfl rfl rfl)
    | with_reducible apply OutGood.of
    | with_reducible apply good_onBay
    | with_reducible apply good_bayFaultLog
    | with_reducible apply good_advance
    | with_reducible apply good_ite
    | with_reducible apply OutGood.ite
    | split)

theorem good_execVgdLow {s1 : State} (h1 : Good M s0 q s1) (hm : Cover 0x1000000000000000000000000000000040 M) : OutGood M s0 q (execVgdLow s1) := by
  unfold execVgdLow
  repeat' (first
    | with_reducible assumption
    | exact Cover.sub hm rfl
    | exact Cover.bit hm rfl
    | exact Cover.bit hm (by dsimp only [Fld.block]; rfl)
    | (extract_lets -underBinder +onlyGivenNames x; try clear_value x)
    | intro x
    | with_reducible apply OutGood.of
    | with_reducible apply good_ev
    | with_reducible apply good_w
    | with_reducible apply good_ite
    | with_reducible apply OutGood.ite)

theorem good_execVgdOkRestored {s1 : State} (h1 : Good M s0 q s1) (hm : Cover 0x1000000000000000000000000000000000 M) : OutGood M s0 q (execVgdOkRestored s1) := by
  unfold execVgdOkRestored
  repeat' (first
    | with_reducible assumption
    | exact Cover.sub hm rfl
    | exact Cover.bit hm rfl
    | exact Cover.bit hm (by dsimp only [Fld.block]; rfl)
    | (extract_lets -underBinder +onlyGivenNames x; try clear_value x)
    | intro x
    | with_reducible apply OutGood.of
    | with_reducible apply good_w
    | with_reducible apply good_ite
    | with_reducible apply OutGood.ite)

theorem good_bayCmd {s1 : State} (h1 : Good M s0 q s1) (a2) (a3) (a4) (a5) {s6 : State} (h6 : Good M s0 q s6) (hm : Cover 0x130000000060 M) : Good M s0 q (State.bayCmd s1 a2 a3 a4 a5 s6) := by
  unfold State.bayCmd
  repeat' (first
    | with_reducible assumption
    | exact Cover.sub hm rfl
    | exact Cover.bit hm rfl
    | exact Cover.bit hm (by dsimp only [Fld.block]; rfl)
    | (extract_lets -underBinder +onlyGivenNames x; try clear_value x)
    | intro x
    | with_reducible apply good_secureOnly
    | with_reducible apply good_discardState
    | with_reducible apply good_ite)

theorem good_execBayCmdOn (a1) (a2) {s3 : State} (h3 : Good M s0 q s3) (hm : Cover 0x1300030000000000000000130002800060 M) : OutGood M s0 q (execBayCmdOn a1 a2 s3) := by
  unfold execBayCmdOn
  repeat' (first
    | with_reducible assumption
    | exact Cover.sub hm rfl
    | exact Cover.bit hm rfl
    | exact Cover.bit hm (by dsimp only [Fld.block]; rfl)
    | (extract_lets -underBinder +onlyGivenNames x; refine (fun (hx : Good M s0 q x) => ?_) ?_; (on_goal 1 => try clear_value x); (on_goal 2 => subst x))
    | (extract_lets -underBinder +onlyGivenNames x; try clear_value x)
    | intro x
    | with_reducible apply OutGood.of
    | with_reducible apply good_bayCmd
    | with_reducible apply good_setBayR
    | with_reducible apply good_w
    | with_reducible apply good_bayEnter
    | with_reducible apply good_ite)

theorem good_execBayCmdOff (a1) (a2) {s3 : State} (h3 : Good M s0 q s3) (hm : Cover 0x1300030000000000000000130002800060 M) : OutGood M s0 q (execBayCmdOff a1 a2 s3) := by
  unfold execBayCmdOff
  repeat' (first
    | with_reducible assumption
    | exact Cover.sub hm rfl
    | exact Cover.bit hm rfl
    | exact Cover.bit hm (by dsimp only [Fld.block]; rfl)
    | (extract_lets -underBinder +onlyGivenNames x; refine (fun (hx : Good M s0 q x) => ?_) ?_; (on_goal 1 => try clear_value x); (on_goal 2 => subst x))
    | (extract_lets -underBinder +onlyGivenNames x; try clear_value x)
    | intro x
    | with_reducible apply OutGood.of
    | with_reducible apply good_bayCmd
    | with_reducible apply good_setBayR
    | with_reducible apply good_bayEpw
    | with_reducible apply good_w
    | with_reducible apply good_bayEnter)

theorem good_execBayCmdClearRetries (a1) (a2) {s3 : State} (h3 : Good M s0 q s3) (hm : Cover 0x1300030000000000000000130002800060 M) : OutGood M s0 q (execBayCmdClearRetries a1 a2 s3) := by
  unfold execBayCmdClearRetries
  repeat' (first
    | with_reducible assumption
    | exact Cover.sub hm rfl
    | exact Cover.bit hm rfl
    | exact Cover.bit hm (by dsimp only [Fld.block]; rfl)
    | (extract_lets -underBinder +onlyGivenNames x; refine (fun (hx : Good M s0 q x) => ?_) ?_; (on_goal 1 => try clear_value x); (on_goal 2 => subst x))
    | (extract_lets -underBinder +onlyGivenNames x; try clear_value x)
    | intro x
    | with_reducible apply OutGood.of
    | with_reducible apply good_bayCmd
    | with_reducible apply good_setBayR
    | with_reducible apply good_bayN
    | with_reducible apply good_bayEnter
    | with_reducible apply good_ite)

theorem good_execBayEpwLeadExpiry (a1) {s2 : State} (h2 : Good M s0 q s2) (hm : Cover 0x170003FD5F00000C0000001C0016BF0063 M) : OutGood M s0 q (execBayEpwLeadExpiry a1 s2) := by
  unfold execBayEpwLeadExpiry
  repeat' (first
    | with_reducible assumption
    | exact Cover.sub hm rfl
    | exact Cover.bit hm rfl
    | exact Cover.bit hm (by dsimp only [Fld.block]; rfl)
    | (extract_lets -underBinder +onlyGivenNames x; try clear_value x)
    | intro x
    | (simp only [good_mk_iff]; refine GoodParts.of (?_ : Good M s0 q _) rfl rfl rfl rfl)
    | with_reducible apply OutGood.of
    | with_reducible apply good_onBay
    | with_reducible apply good_bayEnter
    | with_reducible apply good_bayOff
    | with_reducible apply good_advance
    | with_reducible apply good_ite)

theorem good_execGateGuardDischarge (a1) (a2) (a3) {s4 : State} (h4 : Good M s0 q s4) (hm : Cover 0x2000040 M) : OutGood M s0 q (execGateGuardDischarge a1 a2 a3 s4) := by
  unfold execGateGuardDischarge
  repeat' (first
    | with_reducible assumption
    | exact Cover.sub hm rfl
    | exact Cover.bit hm rfl
    | exact Cover.bit hm (by dsimp only [Fld.block]; rfl)
    | (extract_lets -underBinder +onlyGivenNames x; try clear_value x)
    | intro x
    | with_reducible apply OutGood.of
    | with_reducible apply good_setBayR
    | with_reducible apply good_emit
    | with_reducible apply good_ite
    | with_reducible apply OutGood.ite
    | split)

theorem good_execBaySnapshot (a1) {s2 : State} (h2 : Good M s0 q s2) (hm : Cover 0x1000000000000000000000000000000008 M) : OutGood M s0 q (execBaySnapshot a1 s2) := by
  unfold execBaySnapshot
  repeat' (first
    | with_reducible assumption
    | exact Cover.sub hm rfl
    | exact Cover.bit hm rfl
    | exact Cover.bit hm (by dsimp only [Fld.block]; rfl)
    | (extract_lets -underBinder +onlyGivenNames x; try clear_value x)
    | intro x
    | with_reducible apply OutGood.of
    | with_reducible apply good_snapshot)

end Sys2Proof.Machine
end

