-- ==== Sys2Proof/Laws/Ep.lean ====
section
/-! SUPPORT. What the operations of Machine/Ep.lean keep (see Laws/Keep.lean), one lemma for each. -/

set_option Elab.async false

set_option linter.all false

namespace Sys2Proof.Machine

variable {M : Nat} {s0 : State} {q : Prop}

theorem good_onEp {s1 : State} (h1 : Good M s0 q s1) (f2) (h2 : ∀ x0, Good M s0 q x0 → Good M s0 q (f2 x0)) : OutGood M s0 q (onEp s1 f2) := by
  unfold onEp
  repeat' (first
    | with_reducible assumption
    | exact Cover.sub hm rfl
    | exact Cover.bit hm rfl
    | exact Cover.bit hm (by dsimp only [Fld.block]; rfl)
    | (extract_lets -underBinder +onlyGivenNames x; try clear_value x)
    | intro x
    | with_reducible apply OutGood.of
    | apply_assumption -exfalso -symm
    | with_reducible apply good_ite)

theorem good_execEpCcEnable (a1) (a2) (a3) (a4) (a5) (a6) (a7) (a8) {s9 : State} (h9 : Good M s0 q s9) (hm : Cover 0x4000000000004020040 M) : OutGood M s0 q (execEpCcEnable a1 a2 a3 a4 a5 a6 a7 a8 s9) := by
  unfold execEpCcEnable
  repeat' (first
    | with_reducible assumption
    | exact Cover.sub hm rfl
    | exact Cover.bit hm rfl
    | exact Cover.bit hm (by dsimp only [Fld.block]; rfl)
    | (extract_lets -underBinder +onlyGivenNames x; refine (fun (hx : Good M s0 q x) => ?_) ?_; (on_goal 1 => try clear_value x); (on_goal 2 => subst x))
    | (extract_lets -underBinder +onlyGivenNames x; try clear_value x)
    | intro x
    | (simp only [good_mk_iff]; refine GoodParts.of (?_ : Good M s0 q _) rfl rfl rfl rfl)
    | with_reducible apply OutGood.of
    | with_reducible apply good_onEp
    | with_reducible apply good_wb
    | with_reducible apply good_w
    | with_reducible apply good_epCfs
    | with_reducible apply good_setEp
    | with_reducible apply good_epReady
    | with_reducible apply good_ite)

theorem good_execEpCcDisable (a1) {s2 : State} (h2 : Good M s0 q s2) (hm : Cover 0x14F00000C000000100004070040 M) : OutGood M s0 q (execEpCcDisable a1 s2) := by
  unfold execEpCcDisable
  repeat' (first
    | with_reducible assumption
    | exact Cover.sub hm rfl
    | exact Cover.bit hm rfl
    | exact Cover.bit hm (by dsimp only [Fld.block]; rfl)
    | (extract_lets -underBinder +onlyGivenNames x; try clear_value x)
    | intro x
    | (simp only [good_mk_iff]; refine GoodParts.of (?_ : Good M s0 q _) rfl rfl rfl rfl)
    | with_reducible apply OutGood.of
    | with_reducible apply good_onEp
    | with_reducible apply good_epClear
    | with_reducible apply good_epStop
    | with_reducible apply good_ite)

theorem good_execEpShutdown (a1) (a2) {s3 : State} (h3 : Good M s0 q s3) (hm : Cover 0x4000000000000000000 M) : OutGood M s0 q (execEpShutdown a1 a2 s3) := by
  unfold execEpShutdown
  repeat' (first
    | with_reducible assumption
    | exact Cover.sub hm rfl
    | exact Cover.bit hm rfl
    | exact Cover.bit hm (by dsimp only [Fld.block]; rfl)
    | (extract_lets -underBinder +onlyGivenNames x; try clear_value x)
    | intro x
    | (simp only [good_mk_iff]; refine GoodParts.of (?_ : Good M s0 q _) rfl rfl rfl rfl)
    | with_reducible apply OutGood.of
    | with_reducible apply good_onEp
    | with_reducible apply good_w
    | with_reducible apply good_ite)

theorem good_execEpShutdownComplete (a1) {s2 : State} (h2 : Good M s0 q s2) (hm : Cover 0x4000000000000000000 M) : OutGood M s0 q (execEpShutdownComplete a1 s2) := by
  unfold execEpShutdownComplete
  repeat' (first
    | with_reducible assumption
    | exact Cover.sub hm rfl
    | exact Cover.bit hm rfl
    | exact Cover.bit hm (by dsimp only [Fld.block]; rfl)
    | (extract_lets -underBinder +onlyGivenNames x; try clear_value x)
    | intro x
    | (simp only [good_mk_iff]; refine GoodParts.of (?_ : Good M s0 q _) rfl rfl rfl rfl)
    | with_reducible apply OutGood.of
    | with_reducible apply good_onEp
    | with_reducible apply good_w
    | with_reducible apply good_ite)

theorem good_execEpSqDoorbell (a1) (a2) (a3) {s4 : State} (h4 : Good M s0 q s4) (hm : Cover 0xC000000100004000040 M) : OutGood M s0 q (execEpSqDoorbell a1 a2 a3 s4) := by
  unfold execEpSqDoorbell
  repeat' (first
    | with_reducible assumption
    | exact Cover.sub hm rfl
    | exact Cover.bit hm rfl
    | exact Cover.bit hm (by dsimp only [Fld.block]; rfl)
    | (extract_lets -underBinder +onlyGivenNames x; refine (fun (hx : Good M s0 q x) => ?_) ?_; (on_goal 1 => try clear_value x); (on_goal 2 => subst x))
    | (extract_lets -underBinder +onlyGivenNames x; try clear_value x)
    | intro x
    | (simp only [good_mk_iff]; refine GoodParts.of (?_ : Good M s0 q _) rfl rfl rfl rfl)
    | with_reducible apply OutGood.of
    | with_reducible apply good_onEp
    | with_reducible apply good_epfBump
    | with_reducible apply good_setEp
    | with_reducible apply good_ite)

theorem good_epFinish {s1 : State} (h1 : Good M s0 q s1) (a2) (hm : Cover 0x3000301CC00000C000000100004870040 M) : Good M s0 q (State.epFinish s1 a2) := by
  unfold State.epFinish
  repeat' (first
    | with_reducible assumption
    | exact Cover.sub hm rfl
    | exact Cover.bit hm rfl
    | exact Cover.bit hm (by dsimp only [Fld.block]; rfl)
    | (extract_lets -underBinder +onlyGivenNames x; refine (fun (hx : Good M s0 q x) => ?_) ?_; (on_goal 1 => try clear_value x); (on_goal 2 => subst x))
    | (extract_lets -underBinder +onlyGivenNames x; try clear_value x)
    | intro x
    | with_reducible apply good_epPost
    | with_reducible apply good_epRetry
    | with_reducible apply good_chainDone
    | with_reducible apply good_ite
    | split)

theorem good_execEpCqDoorbell (a1) (a2) (a3) {s4 : State} (h4 : Good M s0 q s4) (hm : Cover 0x3000301CC00000C000000100004870040 M) : OutGood M s0 q (execEpCqDoorbell a1 a2 a3 s4) := by
  unfold execEpCqDoorbell
  repeat' (first
    | with_reducible assumption
    | exact Cover.sub hm rfl
    | exact Cover.bit hm rfl
    | exact Cover.bit hm (by dsimp only [Fld.block]; rfl)
    | (extract_lets -underBinder +onlyGivenNames x; refine (fun (hx : Good M s0 q x) => ?_) ?_; (on_goal 1 => try clear_value x); (on_goal 2 => subst x))
    | (extract_lets -underBinder +onlyGivenNames x; try clear_value x)
    | intro x
    | (simp only [good_mk_iff]; refine GoodParts.of (?_ : Good M s0 q _) rfl rfl rfl rfl)
    | with_reducible apply OutGood.of
    | with_reducible apply good_onEp
    | with_reducible apply good_epfBump
    | with_reducible apply good_setEp
    | with_reducible apply good_epFinish
    | with_reducible apply good_foldS
    | with_reducible apply good_ite)

theorem good_execEpFetchTurn {s1 : State} (h1 : Good M s0 q s1) (hm : Cover 0xC000000100004000040 M) : OutGood M s0 q (execEpFetchTurn s1) := by
  unfold execEpFetchTurn
  repeat' (first
    | with_reducible assumption
    | exact Cover.sub hm rfl
    | exact Cover.bit hm rfl
    | exact Cover.bit hm (by dsimp only [Fld.block]; rfl)
    | (extract_lets -underBinder +onlyGivenNames x; refine (fun (hx : Good M s0 q x) => ?_) ?_; (on_goal 1 => try clear_value x); (on_goal 2 => subst x))
    | (extract_lets -underBinder +onlyGivenNames x; try clear_value x)
    | intro x
    | (simp only [good_mk_iff]; refine GoodParts.of (?_ : Good M s0 q _) rfl rfl rfl rfl)
    | with_reducible apply OutGood.of
    | with_reducible apply good_onEp
    | with_reducible apply good_setEp
    | with_reducible apply good_epShow
    | with_reducible apply good_emit
    | with_reducible apply good_epfBump
    | with_reducible apply good_ite
    | with_reducible apply OutGood.ite
    | split)

theorem good_epAdmin {s1 : State} (h1 : Good M s0 q s1) (a2) (hm : Cover 0x14F00000C000000100004070040 M) : Good M s0 q (State.epAdmin s1 a2) := by
  unfold State.epAdmin
  repeat' (first
    | with_reducible assumption
    | exact Cover.sub hm rfl
    | (extract_lets -underBinder +onlyGivenNames x; refine (fun (hf : ∀ k : State → State, (∀ y, Good M s0 q y → Good M s0 q (k y)) → Good M s0 q (x k)) => ?_) ?_; (on_goal 1 => try clear_value x); (on_goal 2 => subst x))
    | (extract_lets -underBinder +onlyGivenNames x; refine (fun (hf : ∀ y, Good M s0 q y → ∀ a, Good M s0 q (x y a)) => ?_) ?_; (on_goal 1 => try clear_value x); (on_goal 2 => subst x))
    | exact Cover.bit hm rfl
    | exact Cover.bit hm (by dsimp only [Fld.block]; rfl)
    | (extract_lets -underBinder +onlyGivenNames x; refine (fun (hx : Good M s0 q x) => ?_) ?_; (on_goal 1 => try clear_value x); (on_goal 2 => subst x))
    | (extract_lets -underBinder +onlyGivenNames x; try clear_value x)
    | intro x
    | (simp only [good_mk_iff]; refine GoodParts.of (?_ : Good M s0 q _) rfl rfl rfl rfl)
    | with_reducible apply good_setEp
    | with_reducible apply good_epLocal
    | with_reducible apply good_epAdvance
    | with_reducible apply good_landShow
    | with_reducible apply good_epForward
    | apply_assumption -exfalso -symm
    | with_reducible apply good_ite
    | split)

theorem good_epIo {s1 : State} (h1 : Good M s0 q s1) (a2) (hm : Cover 0x14F00000C000000100004070040 M) : Good M s0 q (State.epIo s1 a2) := by
  unfold State.epIo
  repeat' (first
    | with_reducible assumption
    | exact Cover.sub hm rfl
    | exact Cover.bit hm rfl
    | exact Cover.bit hm (by dsimp only [Fld.block]; rfl)
    | (extract_lets -underBinder +onlyGivenNames x; refine (fun (hx : Good M s0 q x) => ?_) ?_; (on_goal 1 => try clear_value x); (on_goal 2 => subst x))
    | (extract_lets -underBinder +onlyGivenNames x; try clear_value x)
    | intro x
    | (simp only [good_mk_iff]; refine GoodParts.of (?_ : Good M s0 q _) rfl rfl rfl rfl)
    | with_reducible apply good_epLocal
    | with_reducible apply good_setEp
    | with_reducible apply good_epAdvance
    | with_reducible apply good_epFetchData
    | with_reducible apply good_landSweep
    | with_reducible apply good_ite
    | split)

theorem good_dropReq {s1 : State} (h1 : Good M s0 q s1) (a2) (hm : Cover 0x4000000 M) : Good M s0 q (State.dropReq s1 a2) := by
  unfold State.dropReq
  repeat' (first
    | with_reducible assumption
    | exact Cover.sub hm rfl
    | exact Cover.bit hm rfl
    | exact Cover.bit hm (by dsimp only [Fld.block]; rfl)
    | (extract_lets -underBinder +onlyGivenNames x; try clear_value x)
    | intro x
    | with_reducible apply good_setEp)

theorem good_execEpSqFetchComplete (a1) (a2) {s3 : State} (h3 : Good M s0 q s3) (hm : Cover 0x14F00000C000000100004070040 M) : OutGood M s0 q (execEpSqFetchComplete a1 a2 s3) := by
  unfold execEpSqFetchComplete
  repeat' (first
    | with_reducible assumption
    | exact Cover.sub hm rfl
    | exact Cover.bit hm rfl
    | exact Cover.bit hm (by dsimp only [Fld.block]; rfl)
    | (extract_lets -underBinder +onlyGivenNames x; refine (fun (hx : Good M s0 q x) => ?_) ?_; (on_goal 1 => try clear_value x); (on_goal 2 => subst x))
    | (extract_lets -underBinder +onlyGivenNames x; try clear_value x)
    | intro x
    | (simp only [good_mk_iff]; refine GoodParts.of (?_ : Good M s0 q _) rfl rfl rfl rfl)
    | with_reducible apply OutGood.of
    | with_reducible apply good_onEp
    | with_reducible apply good_epfBump
    | with_reducible apply good_dropReq
    | with_reducible apply good_epShow
    | with_reducible apply good_setEp
    | with_reducible apply good_epAdmin
    | with_reducible apply good_epIo
    | with_reducible apply good_foldS
    | with_reducible apply good_ite
    | with_reducible apply OutGood.ite
    | split)

theorem good_onEpAdmin (a1) (a2) (a3) {s4 : State} (h4 : Good M s0 q s4) (f5) (h5 : ∀ x0 x1, Good M s0 q x1 → Good M s0 q (f5 x0 x1)) : OutGood M s0 q (onEpAdmin a1 a2 a3 s4 f5) := by
  unfold onEpAdmin
  repeat' (first
    | with_reducible assumption
    | exact Cover.sub hm rfl
    | exact Cover.bit hm rfl
    | exact Cover.bit hm (by dsimp only [Fld.block]; rfl)
    | (extract_lets -underBinder +onlyGivenNames x; try clear_value x)
    | intro x
    | with_reducible apply OutGood.of
    | with_reducible apply good_onEp
    | apply_assumption -exfalso -symm
    | with_reducible apply good_ite
    | with_reducible apply OutGood.ite
    | split)

theorem good_execEpCreateIoSq (a1) (a2) {s3 : State} (h3 : Good M s0 q s3) (hm : Cover 0xC000000100004020040 M) : OutGood M s0 q (execEpCreateIoSq a1 a2 s3) := by
  unfold execEpCreateIoSq
  repeat' (first
    | with_reducible assumption
    | exact Cover.sub hm rfl
    | exact Cover.bit hm rfl
    | exact Cover.bit hm (by dsimp only [Fld.block]; rfl)
    | (extract_lets -underBinder +onlyGivenNames x; refine (fun (hx : Good M s0 q x) => ?_) ?_; (on_goal 1 => try clear_value x); (on_goal 2 => subst x))
    | (extract_lets -underBinder +onlyGivenNames x; try clear_value x)
    | intro x
    | (simp only [good_mk_iff]; refine GoodParts.of (?_ : Good M s0 q _) rfl rfl rfl rfl)
    | with_reducible apply OutGood.of
    | with_reducible apply good_onEpAdmin
    | with_reducible apply good_epLocal
    | with_reducible apply good_setEp
    | with_reducible apply good_setCd
    | with_reducible apply good_epShow
    | with_reducible apply good_foldS
    | with_reducible apply good_ite)

theorem good_execEpCreateIoCq (a1) (a2) {s3 : State} (h3 : Good M s0 q s3) (hm : Cover 0xC000000100004000040 M) : OutGood M s0 q (execEpCreateIoCq a1 a2 s3) := by
  unfold execEpCreateIoCq
  repeat' (first
    | with_reducible assumption
    | exact Cover.sub hm rfl
    | exact Cover.bit hm rfl
    | exact Cover.bit hm (by dsimp only [Fld.block]; rfl)
    | (extract_lets -underBinder +onlyGivenNames x; refine (fun (hx : Good M s0 q x) => ?_) ?_; (on_goal 1 => try clear_value x); (on_goal 2 => subst x))
    | (extract_lets -underBinder +onlyGivenNames x; try clear_value x)
    | intro x
    | (simp only [good_mk_iff]; refine GoodParts.of (?_ : Good M s0 q _) rfl rfl rfl rfl)
    | with_reducible apply OutGood.of
    | with_reducible apply good_onEpAdmin
    | with_reducible apply good_epLocal
    | with_reducible apply good_setEp
    | with_reducible apply good_ite)

theorem good_execEpDeleteIoSq (a1) (a2) {s3 : State} (h3 : Good M s0 q s3) (hm : Cover 0x14F00000C000000100004070040 M) : OutGood M s0 q (execEpDeleteIoSq a1 a2 s3) := by
  unfold execEpDeleteIoSq
  repeat' (first
    | with_reducible assumption
    | exact Cover.sub hm rfl
    | exact Cover.bit hm rfl
    | exact Cover.bit hm (by dsimp only [Fld.block]; rfl)
    | (extract_lets -underBinder +onlyGivenNames x; refine (fun (hx : Good M s0 q x) => ?_) ?_; (on_goal 1 => try clear_value x); (on_goal 2 => subst x))
    | (extract_lets -underBinder +onlyGivenNames x; try clear_value x)
    | intro x
    | (simp only [good_mk_iff]; refine GoodParts.of (?_ : Good M s0 q _) rfl rfl rfl rfl)
    | with_reducible apply OutGood.of
    | with_reducible apply good_onEpAdmin
    | with_reducible apply good_epLocal
    | with_reducible apply good_setEp
    | with_reducible apply good_setCd
    | with_reducible apply good_landShow
    | with_reducible apply good_chainFailed
    | with_reducible apply good_epShow
    | with_reducible apply good_foldS
    | with_reducible apply good_ite)

theorem good_execEpDeleteIoCq (a1) (a2) {s3 : State} (h3 : Good M s0 q s3) (hm : Cover 0xC000000100004000040 M) : OutGood M s0 q (execEpDeleteIoCq a1 a2 s3) := by
  unfold execEpDeleteIoCq
  repeat' (first
    | with_reducible assumption
    | exact Cover.sub hm rfl
    | exact Cover.bit hm rfl
    | exact Cover.bit hm (by dsimp only [Fld.block]; rfl)
    | (extract_lets -underBinder +onlyGivenNames x; try clear_value x)
    | intro x
    | (simp only [good_mk_iff]; refine GoodParts.of (?_ : Good M s0 q _) rfl rfl rfl rfl)
    | with_reducible apply OutGood.of
    | with_reducible apply good_onEpAdmin
    | with_reducible apply good_epLocal
    | with_reducible apply good_setEp
    | with_reducible apply good_ite)

theorem good_epDataFailed {s1 : State} (h1 : Good M s0 q s1) (a2) (hm : Cover 0x14F00000C000000100004070040 M) : Good M s0 q (State.epDataFailed s1 a2) := by
  unfold State.epDataFailed
  repeat' (first
    | with_reducible assumption
    | exact Cover.sub hm rfl
    | exact Cover.bit hm rfl
    | exact Cover.bit hm (by dsimp only [Fld.block]; rfl)
    | (extract_lets -underBinder +onlyGivenNames x; refine (fun (hx : Good M s0 q x) => ?_) ?_; (on_goal 1 => try clear_value x); (on_goal 2 => subst x))
    | (extract_lets -underBinder +onlyGivenNames x; try clear_value x)
    | intro x
    | (simp only [good_mk_iff]; refine GoodParts.of (?_ : Good M s0 q _) rfl rfl rfl rfl)
    | with_reducible apply good_setEp
    | with_reducible apply good_epRetry
    | with_reducible apply good_epAdvance
    | with_reducible apply good_epLocal
    | with_reducible apply good_landShow
    | with_reducible apply good_ite
    | split)

theorem good_execEpDataFetchComplete (a1) (a2) (a3) {s4 : State} (h4 : Good M s0 q s4) (hm : Cover 0x14F00000C000000100004070040 M) : OutGood M s0 q (execEpDataFetchComplete a1 a2 a3 s4) := by
  unfold execEpDataFetchComplete
  repeat' (first
    | with_reducible assumption
    | exact Cover.sub hm rfl
    | exact Cover.bit hm rfl
    | exact Cover.bit hm (by dsimp only [Fld.block]; rfl)
    | (extract_lets -underBinder +onlyGivenNames x; refine (fun (hx : Good M s0 q x) => ?_) ?_; (on_goal 1 => try clear_value x); (on_goal 2 => subst x))
    | (extract_lets -underBinder +onlyGivenNames x; try clear_value x)
    | intro x
    | (simp only [good_mk_iff]; refine GoodParts.of (?_ : Good M s0 q _) rfl rfl rfl rfl)
    | with_reducible apply OutGood.of
    | with_reducible apply good_onEp
    | with_reducible apply good_epfBump
    | with_reducible apply good_dropReq
    | with_reducible apply good_setEp
    | with_reducible apply good_epRetry
    | with_reducible apply good_epAdvance
    | with_reducible apply good_ite
    | with_reducible apply OutGood.ite
    | split)

theorem good_execEpChainWorkRequest (a1) {s2 : State} (h2 : Good M s0 q s2) (hm : Cover 0x3000301CC00000C000000100004870040 M) : OutGood M s0 q (execEpChainWorkRequest a1 s2) := by
  unfold execEpChainWorkRequest
  repeat' (first
    | with_reducible assumption
    | exact Cover.sub hm rfl
    | exact Cover.bit hm rfl
    | exact Cover.bit hm (by dsimp only [Fld.block]; rfl)
    | (extract_lets -underBinder +onlyGivenNames x; refine (fun (hx : Good M s0 q x) => ?_) ?_; (on_goal 1 => try clear_value x); (on_goal 2 => subst x))
    | (extract_lets -underBinder +onlyGivenNames x; try clear_value x)
    | intro x
    | (simp only [good_mk_iff]; refine GoodParts.of (?_ : Good M s0 q _) rfl rfl rfl rfl)
    | with_reducible apply OutGood.of
    | with_reducible apply good_onEp
    | with_reducible apply good_setEp
    | with_reducible apply good_epfBump
    | with_reducible apply good_epFinish
    | with_reducible apply good_emit
    | with_reducible apply good_ite
    | with_reducible apply OutGood.ite
    | split)

theorem good_execEpMsixSend (a1) (a2) (a3) (a4) {s5 : State} (h5 : Good M s0 q s5) (hm : Cover 0xC000000100004000040 M) : OutGood M s0 q (execEpMsixSend a1 a2 a3 a4 s5) := by
  unfold execEpMsixSend
  repeat' (first
    | with_reducible assumption
    | exact Cover.sub hm rfl
    | exact Cover.bit hm rfl
    | exact Cover.bit hm (by dsimp only [Fld.block]; rfl)
    | (extract_lets -underBinder +onlyGivenNames x; refine (fun (hx : Good M s0 q x) => ?_) ?_; (on_goal 1 => try clear_value x); (on_goal 2 => subst x))
    | (extract_lets -underBinder +onlyGivenNames x; try clear_value x)
    | intro x
    | (simp only [good_mk_iff]; refine GoodParts.of (?_ : Good M s0 q _) rfl rfl rfl rfl)
    | with_reducible apply OutGood.of
    | with_reducible apply good_onEp
    | with_reducible apply good_setEp
    | with_reducible apply good_emit
    | with_reducible apply good_epfBump
    | with_reducible apply good_ite)

theorem good_execEpCompletionTimeout (a1) (a2) (a3) {s4 : State} (h4 : Good M s0 q s4) (hm : Cover 0x14F00000C000000100004070041 M) : OutGood M s0 q (execEpCompletionTimeout a1 a2 a3 s4) := by
  unfold execEpCompletionTimeout
  repeat' (first
    | with_reducible assumption
    | exact Cover.sub hm rfl
    | exact Cover.bit hm rfl
    | exact Cover.bit hm (by dsimp only [Fld.block]; rfl)
    | (extract_lets -underBinder +onlyGivenNames x; refine (fun (hx : Good M s0 q x) => ?_) ?_; (on_goal 1 => try clear_value x); (on_goal 2 => subst x))
    | (extract_lets -underBinder +onlyGivenNames x; try clear_value x)
    | intro x
    | (simp only [good_mk_iff]; refine GoodParts.of (?_ : Good M s0 q _) rfl rfl rfl rfl)
    | with_reducible apply OutGood.of
    | with_reducible apply good_onEp
    | with_reducible apply good_advance
    | with_reducible apply good_dropReq
    | with_reducible apply good_setEp
    | with_reducible apply good_emit
    | with_reducible apply good_ev
    | with_reducible apply good_epfBump
    | with_reducible apply good_epCfs
    | with_reducible apply good_epStop
    | with_reducible apply good_epDataFailed
    | with_reducible apply good_ite
    | with_reducible apply OutGood.ite
    | split)

theorem good_execEpCompletionReceived (a1) (a2) {s3 : State} (h3 : Good M s0 q s3) (hm : Cover 0x14F00000C000000100004070060 M) : OutGood M s0 q (execEpCompletionReceived a1 a2 s3) := by
  unfold execEpCompletionReceived
  repeat' (first
    | with_reducible assumption
    | exact Cover.sub hm rfl
    | exact Cover.bit hm rfl
    | exact Cover.bit hm (by dsimp only [Fld.block]; rfl)
    | (extract_lets -underBinder +onlyGivenNames x; refine (fun (hx : Good M s0 q x) => ?_) ?_; (on_goal 1 => try clear_value x); (on_goal 2 => subst x))
    | (extract_lets -underBinder +onlyGivenNames x; try clear_value x)
    | intro x
    | (simp only [good_mk_iff]; refine GoodParts.of (?_ : Good M s0 q _) rfl rfl rfl rfl)
    | with_reducible apply OutGood.of
    | with_reducible apply good_onEp
    | with_reducible apply good_epfBump
    | with_reducible apply good_dropReq
    | with_reducible apply good_epCfs
    | with_reducible apply good_epStop
    | with_reducible apply good_epDataFailed
    | with_reducible apply good_emit
    | with_reducible apply good_logEv
    | with_reducible apply good_ev
    | with_reducible apply good_ite
    | with_reducible apply OutGood.ite
    | split)

theorem good_execEpBmeClear (a1) {s2 : State} (h2 : Good M s0 q s2) (hm : Cover 0x14F00000C000000100004070040 M) : OutGood M s0 q (execEpBmeClear a1 s2) := by
  unfold execEpBmeClear
  repeat' (first
    | with_reducible assumption
    | exact Cover.sub hm rfl
    | exact Cover.bit hm rfl
    | exact Cover.bit hm (by dsimp only [Fld.block]; rfl)
    | (extract_lets -underBinder +onlyGivenNames x; refine (fun (hx : Good M s0 q x) => ?_) ?_; (on_goal 1 => try clear_value x); (on_goal 2 => subst x))
    | (extract_lets -underBinder +onlyGivenNames x; try clear_value x)
    | intro x
    | (simp only [good_mk_iff]; refine GoodParts.of (?_ : Good M s0 q _) rfl rfl rfl rfl)
    | with_reducible apply OutGood.of
    | with_reducible apply good_onEp
    | with_reducible apply good_w
    | with_reducible apply good_epCfs
    | with_reducible apply good_epStop
    | with_reducible apply good_ite)

theorem good_execEpD3hotEntry (a1) (a2) {s3 : State} (h3 : Good M s0 q s3) (hm : Cover 0x14F00000C000000100004070040 M) : OutGood M s0 q (execEpD3hotEntry a1 a2 s3) := by
  unfold execEpD3hotEntry
  repeat' (first
    | with_reducible assumption
    | exact Cover.sub hm rfl
    | exact Cover.bit hm rfl
    | exact Cover.bit hm (by dsimp only [Fld.block]; rfl)
    | (extract_lets -underBinder +onlyGivenNames x; refine (fun (hx : Good M s0 q x) => ?_) ?_; (on_goal 1 => try clear_value x); (on_goal 2 => subst x))
    | (extract_lets -underBinder +onlyGivenNames x; try clear_value x)
    | intro x
    | (simp only [good_mk_iff]; refine GoodParts.of (?_ : Good M s0 q _) rfl rfl rfl rfl)
    | with_reducible apply OutGood.of
    | with_reducible apply good_onEp
    | with_reducible apply good_w
    | with_reducible apply good_setEp
    | with_reducible apply good_epCfs
    | with_reducible apply good_epStop
    | with_reducible apply good_ite)

theorem good_execEpD0Entry (a1) (a2) {s3 : State} (h3 : Good M s0 q s3) (hm : Cover 0x4000000000004000000 M) : OutGood M s0 q (execEpD0Entry a1 a2 s3) := by
  unfold execEpD0Entry
  repeat' (first
    | with_reducible assumption
    | exact Cover.sub hm rfl
    | exact Cover.bit hm rfl
    | exact Cover.bit hm (by dsimp only [Fld.block]; rfl)
    | (extract_lets -underBinder +onlyGivenNames x; refine (fun (hx : Good M s0 q x) => ?_) ?_; (on_goal 1 => try clear_value x); (on_goal 2 => subst x))
    | (extract_lets -underBinder +onlyGivenNames x; try clear_value x)
    | intro x
    | (simp only [good_mk_iff]; refine GoodParts.of (?_ : Good M s0 q _) rfl rfl rfl rfl)
    | with_reducible apply OutGood.of
    | with_reducible apply good_onEp
    | with_reducible apply good_w
    | with_reducible apply good_setEp
    | with_reducible apply good_ite)

theorem good_execEpFlr (a1) {s2 : State} (h2 : Good M s0 q s2) (hm : Cover 0x14F00000C000000100004070040 M) : OutGood M s0 q (execEpFlr a1 s2) := by
  unfold execEpFlr
  repeat' (first
    | with_reducible assumption
    | exact Cover.sub hm rfl
    | exact Cover.bit hm rfl
    | exact Cover.bit hm (by dsimp only [Fld.block]; rfl)
    | (extract_lets -underBinder +onlyGivenNames x; try clear_value x)
    | intro x
    | with_reducible apply OutGood.of
    | with_reducible apply good_onEp
    | with_reducible apply good_epResetAll
    | with_reducible apply good_epReset
    | with_reducible apply good_ite)

theorem good_execEpVfEnable (a1) {s2 : State} (h2 : Good M s0 q s2) (hm : Cover 0x4000000000000000000 M) : OutGood M s0 q (execEpVfEnable a1 s2) := by
  unfold execEpVfEnable
  repeat' (first
    | with_reducible assumption
    | exact Cover.sub hm rfl
    | exact Cover.bit hm rfl
    | exact Cover.bit hm (by dsimp only [Fld.block]; rfl)
    | (extract_lets -underBinder +onlyGivenNames x; try clear_value x)
    | intro x
    | with_reducible apply OutGood.of
    | with_reducible apply good_onEp
    | with_reducible apply good_w
    | with_reducible apply good_ite)

theorem good_execEpVfDisable (a1) {s2 : State} (h2 : Good M s0 q s2) (hm : Cover 0x14F00000C000000100004070040 M) : OutGood M s0 q (execEpVfDisable a1 s2) := by
  unfold execEpVfDisable
  repeat' (first
    | with_reducible assumption
    | exact Cover.sub hm rfl
    | exact Cover.bit hm rfl
    | exact Cover.bit hm (by dsimp only [Fld.block]; rfl)
    | (extract_lets -underBinder +onlyGivenNames x; refine (fun (hx : Good M s0 q x) => ?_) ?_; (on_goal 1 => try clear_value x); (on_goal 2 => subst x))
    | (extract_lets -underBinder +onlyGivenNames x; try clear_value x)
    | intro x
    | (simp only [good_mk_iff]; refine GoodParts.of (?_ : Good M s0 q _) rfl rfl rfl rfl)
    | with_reducible apply OutGood.of
    | with_reducible apply good_onEp
    | with_reducible apply good_epReset
    | with_reducible apply good_w
    | with_reducible apply good_foldS
    | with_reducible apply good_ite)

theorem good_epLinkDown {s1 : State} (h1 : Good M s0 q s1) (hm : Cover 0x4000000000000000040 M) : Good M s0 q (State.epLinkDown s1) := by
  unfold State.epLinkDown
  repeat' (first
    | with_reducible assumption
    | exact Cover.sub hm rfl
    | exact Cover.bit hm rfl
    | exact Cover.bit hm (by dsimp only [Fld.block]; rfl)
    | (extract_lets -underBinder +onlyGivenNames x; refine (fun (hx : Good M s0 q x) => ?_) ?_; (on_goal 1 => try clear_value x); (on_goal 2 => subst x))
    | (extract_lets -underBinder +onlyGivenNames x; try clear_value x)
    | intro x
    | with_reducible apply good_ev
    | with_reducible apply good_w
    | with_reducible apply good_ite)

theorem good_epTrain {s1 : State} (h1 : Good M s0 q s1) (hm : Cover 0x4000000000000000000 M) : Good M s0 q (State.epTrain s1) := by
  unfold State.epTrain
  repeat' (first
    | with_reducible assumption
    | exact Cover.sub hm rfl
    | exact Cover.bit hm rfl
    | exact Cover.bit hm (by dsimp only [Fld.block]; rfl)
    | (extract_lets -underBinder +onlyGivenNames x; refine (fun (hx : Good M s0 q x) => ?_) ?_; (on_goal 1 => try clear_value x); (on_goal 2 => subst x))
    | (extract_lets -underBinder +onlyGivenNames x; try clear_value x)
    | intro x
    | with_reducible apply good_wb
    | with_reducible apply good_w
    | with_reducible apply good_ite)

theorem good_execEpConventionalReset (a1) (a2) {s3 : State} (h3 : Good M s0 q s3) (hm : Cover 0x14F00000C000000100004070040 M) : OutGood M s0 q (execEpConventionalReset a1 a2 s3) := by
  unfold execEpConventionalReset
  repeat' (first
    | with_reducible assumption
    | exact Cover.sub hm rfl
    | exact Cover.bit hm rfl
    | exact Cover.bit hm (by dsimp only [Fld.block]; rfl)
    | (extract_lets -underBinder +onlyGivenNames x; refine (fun (hx : Good M s0 q x) => ?_) ?_; (on_goal 1 => try clear_value x); (on_goal 2 => subst x))
    | (extract_lets -underBinder +onlyGivenNames x; try clear_value x)
    | intro x
    | (simp only [good_mk_iff]; refine GoodParts.of (?_ : Good M s0 q _) rfl rfl rfl rfl)
    | with_reducible apply OutGood.of
    | with_reducible apply good_onEp
    | with_reducible apply good_epResetAll
    | with_reducible apply good_w
    | with_reducible apply good_epTrain
    | with_reducible apply good_epLinkDown
    | with_reducible apply good_ite)

theorem good_execEpResetComplete (a1) {s2 : State} (h2 : Good M s0 q s2) (hm : Cover 0x4000000000000000000 M) : OutGood M s0 q (execEpResetComplete a1 s2) := by
  unfold execEpResetComplete
  repeat' (first
    | with_reducible assumption
    | exact Cover.sub hm rfl
    | exact Cover.bit hm rfl
    | exact Cover.bit hm (by dsimp only [Fld.block]; rfl)
    | (extract_lets -underBinder +onlyGivenNames x; try clear_value x)
    | intro x
    | with_reducible apply OutGood.of
    | with_reducible apply good_onEp
    | with_reducible apply good_w
    | with_reducible apply good_ite)

theorem good_execEpPerstDeassert {s1 : State} (h1 : Good M s0 q s1) (hm : Cover 0x4000000000000000040 M) : OutGood M s0 q (execEpPerstDeassert s1) := by
  unfold execEpPerstDeassert
  repeat' (first
    | with_reducible assumption
    | exact Cover.sub hm rfl
    | exact Cover.bit hm rfl
    | exact Cover.bit hm (by dsimp only [Fld.block]; rfl)
    | (extract_lets -underBinder +onlyGivenNames x; refine (fun (hx : Good M s0 q x) => ?_) ?_; (on_goal 1 => try clear_value x); (on_goal 2 => subst x))
    | (extract_lets -underBinder +onlyGivenNames x; try clear_value x)
    | intro x
    | (simp only [good_mk_iff]; refine GoodParts.of (?_ : Good M s0 q _) rfl rfl rfl rfl)
    | with_reducible apply OutGood.of
    | with_reducible apply good_onEp
    | with_reducible apply good_emit
    | with_reducible apply good_w
    | with_reducible apply good_epTrain
    | with_reducible apply good_ite)

theorem good_execEpLinkUp (a1) (a2) {s3 : State} (h3 : Good M s0 q s3) (hm : Cover 0x4000000000000000000 M) : OutGood M s0 q (execEpLinkUp a1 a2 s3) := by
  unfold execEpLinkUp
  repeat' (first
    | with_reducible assumption
    | exact Cover.sub hm rfl
    | exact Cover.bit hm rfl
    | exact Cover.bit hm (by dsimp only [Fld.block]; rfl)
    | (extract_lets -underBinder +onlyGivenNames x; try clear_value x)
    | intro x
    | (simp only [good_mk_iff]; refine GoodParts.of (?_ : Good M s0 q _) rfl rfl rfl rfl)
    | with_reducible apply OutGood.of
    | with_reducible apply good_onEp
    | with_reducible apply good_w
    | with_reducible apply good_ite)

theorem good_execEpL0pWidthChange (a1) (a2) {s3 : State} (h3 : Good M s0 q s3) (hm : Cover 0x4000000000000000000 M) : OutGood M s0 q (execEpL0pWidthChange a1 a2 s3) := by
  unfold execEpL0pWidthChange
  repeat' (first
    | with_reducible assumption
    | exact Cover.sub hm rfl
    | exact Cover.bit hm rfl
    | exact Cover.bit hm (by dsimp only [Fld.block]; rfl)
    | (extract_lets -underBinder +onlyGivenNames x; try clear_value x)
    | intro x
    | (simp only [good_mk_iff]; refine GoodParts.of (?_ : Good M s0 q _) rfl rfl rfl rfl)
    | with_reducible apply OutGood.of
    | with_reducible apply good_onEp
    | with_reducible apply good_w
    | with_reducible apply good_ite)

theorem good_execEpfSnapshot (a1) {s2 : State} (h2 : Good M s0 q s2) (hm : Cover 0x4000000000000000008 M) : OutGood M s0 q (execEpfSnapshot a1 s2) := by
  unfold execEpfSnapshot
  repeat' (first
    | with_reducible assumption
    | exact Cover.sub hm rfl
    | exact Cover.bit hm rfl
    | exact Cover.bit hm (by dsimp only [Fld.block]; rfl)
    | (extract_lets -underBinder +onlyGivenNames x; try clear_value x)
    | intro x
    | with_reducible apply OutGood.of
    | with_reducible apply good_onEp
    | with_reducible apply good_snapshot)

end Sys2Proof.Machine
end

