-- ==== Sys2Proof/Laws/Mgt.lean ====
section
/-! SUPPORT. What the operations of Machine/Mgt.lean keep (see Laws/Keep.lean), one lemma for each. -/

set_option Elab.async false

set_option linter.all false

namespace Sys2Proof.Machine

variable {M : Nat} {s0 : State} {q : Prop}

theorem good_execLockstepMismatch {s1 : State} (h1 : Good M s0 q s1) (hm : Cover 0x120 M) : OutGood M s0 q (execLockstepMismatch s1) := by
  unfold execLockstepMismatch
  repeat' (first
    | with_reducible assumption
    | exact Cover.sub hm rfl
    | exact Cover.bit hm rfl
    | exact Cover.bit hm (by dsimp only [Fld.block]; rfl)
    | (extract_lets -underBinder +onlyGivenNames x; try clear_value x)
    | intro x
    | with_reducible apply OutGood.of
    | with_reducible apply good_fatal)

theorem good_execSecureWatchdogExpiry {s1 : State} (h1 : Good M s0 q s1) (hm : Cover 0x100008000161 M) : OutGood M s0 q (execSecureWatchdogExpiry s1) := by
  unfold execSecureWatchdogExpiry
  repeat' (first
    | with_reducible assumption
    | exact Cover.sub hm rfl
    | exact Cover.bit hm rfl
    | exact Cover.bit hm (by dsimp only [Fld.block]; rfl)
    | (extract_lets -underBinder +onlyGivenNames x; try clear_value x)
    | intro x
    | (simp only [good_mk_iff]; refine GoodParts.of (?_ : Good M s0 q _) rfl rfl rfl rfl)
    | with_reducible apply OutGood.of
    | with_reducible apply good_fatal
    | with_reducible apply good_setMgt
    | with_reducible apply good_advance
    | with_reducible apply good_ite
    | with_reducible apply OutGood.ite
    | split)

theorem good_execNsWatchdogExpiry {s1 : State} (h1 : Good M s0 q s1) (hm : Cover 0x104008000061 M) : OutGood M s0 q (execNsWatchdogExpiry s1) := by
  unfold execNsWatchdogExpiry
  repeat' (first
    | with_reducible assumption
    | exact Cover.sub hm rfl
    | exact Cover.bit hm rfl
    | exact Cover.bit hm (by dsimp only [Fld.block]; rfl)
    | (extract_lets -underBinder +onlyGivenNames x; refine (fun (hx : Good M s0 q x) => ?_) ?_; (on_goal 1 => try clear_value x); (on_goal 2 => subst x))
    | (extract_lets -underBinder +onlyGivenNames x; try clear_value x)
    | intro x
    | (simp only [good_mk_iff]; refine GoodParts.of (?_ : Good M s0 q _) rfl rfl rfl rfl)
    | with_reducible apply OutGood.of
    | with_reducible apply good_advance
    | with_reducible apply good_setMgt
    | with_reducible apply good_logMgt
    | with_reducible apply good_ev
    | with_reducible apply good_updateEnds
    | with_reducible apply good_ite
    | with_reducible apply OutGood.ite
    | split)

theorem good_execSecureWatchdogKick (a1) {s2 : State} (h2 : Good M s0 q s2) (hm : Cover 0x130008000060 M) : OutGood M s0 q (execSecureWatchdogKick a1 s2) := by
  unfold execSecureWatchdogKick
  repeat' (first
    | with_reducible assumption
    | exact Cover.sub hm rfl
    | exact Cover.bit hm rfl
    | exact Cover.bit hm (by dsimp only [Fld.block]; rfl)
    | (extract_lets -underBinder +onlyGivenNames x; try clear_value x)
    | intro x
    | with_reducible apply OutGood.of
    | with_reducible apply good_secureOnly
    | with_reducible apply good_setMgt)

theorem good_execNsWatchdogKick {s1 : State} (h1 : Good M s0 q s1) (hm : Cover 0x8000000 M) : OutGood M s0 q (execNsWatchdogKick s1) := by
  unfold execNsWatchdogKick
  repeat' (first
    | with_reducible assumption
    | exact Cover.sub hm rfl
    | exact Cover.bit hm rfl
    | exact Cover.bit hm (by dsimp only [Fld.block]; rfl)
    | (extract_lets -underBinder +onlyGivenNames x; try clear_value x)
    | intro x
    | with_reducible apply OutGood.of
    | with_reducible apply good_setMgt)

theorem good_mctpAnswer {s1 : State} (h1 : Good M s0 q s1) (a2) (a3) (a4) (hm : Cover 0x10C000000040 M) : Good M s0 q (State.mctpAnswer s1 a2 a3 a4) := by
  unfold State.mctpAnswer
  repeat' (first
    | with_reducible assumption
    | exact Cover.sub hm rfl
    | exact Cover.bit hm rfl
    | exact Cover.bit hm (by dsimp only [Fld.block]; rfl)
    | (extract_lets -underBinder +onlyGivenNames x; try clear_value x)
    | intro x
    | with_reducible apply good_emit
    | with_reducible apply good_mgtBump)

theorem good_execPldmRequestUpdate (a1) (a2) {s3 : State} (h3 : Good M s0 q s3) (hm : Cover 0x10C008000060 M) : OutGood M s0 q (execPldmRequestUpdate a1 a2 s3) := by
  unfold execPldmRequestUpdate
  repeat' (first
    | with_reducible assumption
    | exact Cover.sub hm rfl
    | exact Cover.bit hm rfl
    | exact Cover.bit hm (by dsimp only [Fld.block]; rfl)
    | (extract_lets -underBinder +onlyGivenNames x; refine (fun (hx : Good M s0 q x) => ?_) ?_; (on_goal 1 => try clear_value x); (on_goal 2 => subst x))
    | (extract_lets -underBinder +onlyGivenNames x; try clear_value x)
    | intro x
    | with_reducible apply OutGood.of
    | with_reducible apply good_mctpAnswer
    | with_reducible apply good_ev
    | with_reducible apply good_w
    | with_reducible apply good_logMgt
    | with_reducible apply good_setMgt
    | with_reducible apply good_setFwSlot
    | with_reducible apply good_mgtBump
    | with_reducible apply good_ite
    | with_reducible apply OutGood.ite)

theorem good_execPldmFirmwareData (a1) (a2) (a3) (a4) {s5 : State} (h5 : Good M s0 q s5) (hm : Cover 0x10C008000060 M) : OutGood M s0 q (execPldmFirmwareData a1 a2 a3 a4 s5) := by
  unfold execPldmFirmwareData
  repeat' (first
    | with_reducible assumption
    | exact Cover.sub hm rfl
    | exact Cover.bit hm rfl
    | exact Cover.bit hm (by dsimp only [Fld.block]; rfl)
    | (extract_lets -underBinder +onlyGivenNames x; try clear_value x)
    | intro x
    | (simp only [good_mk_iff]; refine GoodParts.of (?_ : Good M s0 q _) rfl rfl rfl rfl)
    | with_reducible apply OutGood.of
    | with_reducible apply good_updateEnds
    | with_reducible apply good_mgtBump
    | with_reducible apply good_setMgt
    | with_reducible apply good_ite
    | with_reducible apply OutGood.ite
    | split)

theorem good_execFirmwareUpdateVerified {s1 : State} (h1 : Good M s0 q s1) (hm : Cover 0x13D008001060 M) : OutGood M s0 q (execFirmwareUpdateVerified s1) := by
  unfold execFirmwareUpdateVerified
  repeat' (first
    | with_reducible assumption
    | exact Cover.sub hm rfl
    | exact Cover.bit hm rfl
    | exact Cover.bit hm (by dsimp only [Fld.block]; rfl)
    | (extract_lets -underBinder +onlyGivenNames x; refine (fun (hx : Good M s0 q x) => ?_) ?_; (on_goal 1 => try clear_value x); (on_goal 2 => subst x))
    | (extract_lets -underBinder +onlyGivenNames x; try clear_value x)
    | intro x
    | (simp only [good_mk_iff]; refine GoodParts.of (?_ : Good M s0 q _) rfl rfl rfl rfl)
    | with_reducible apply OutGood.of
    | with_reducible apply good_mctpAnswer
    | with_reducible apply good_updateEnds
    | with_reducible apply good_w
    | with_reducible apply good_setFwSlot
    | with_reducible apply good_ev
    | with_reducible apply good_setMgt
    | with_reducible apply good_execImgStageStart
    | with_reducible apply good_ite
    | with_reducible apply OutGood.ite
    | split)

theorem good_execPldmActivateFirmware {s1 : State} (h1 : Good M s0 q s1) (hm : Cover 0x10C008000040 M) : OutGood M s0 q (execPldmActivateFirmware s1) := by
  unfold execPldmActivateFirmware
  repeat' (first
    | with_reducible assumption
    | exact Cover.sub hm rfl
    | exact Cover.bit hm rfl
    | exact Cover.bit hm (by dsimp only [Fld.block]; rfl)
    | (extract_lets -underBinder +onlyGivenNames x; refine (fun (hx : Good M s0 q x) => ?_) ?_; (on_goal 1 => try clear_value x); (on_goal 2 => subst x))
    | (extract_lets -underBinder +onlyGivenNames x; try clear_value x)
    | intro x
    | (simp only [good_mk_iff]; refine GoodParts.of (?_ : Good M s0 q _) rfl rfl rfl rfl)
    | with_reducible apply OutGood.of
    | with_reducible apply good_writeFwSel
    | with_reducible apply good_mctpAnswer
    | with_reducible apply good_w
    | with_reducible apply good_setMgt
    | with_reducible apply good_ite
    | with_reducible apply OutGood.ite
    | split)

theorem good_execPldmCancelUpdate (a1) {s2 : State} (h2 : Good M s0 q s2) (hm : Cover 0x10C008000060 M) : OutGood M s0 q (execPldmCancelUpdate a1 s2) := by
  unfold execPldmCancelUpdate
  repeat' (first
    | with_reducible assumption
    | exact Cover.sub hm rfl
    | exact Cover.bit hm rfl
    | exact Cover.bit hm (by dsimp only [Fld.block]; rfl)
    | (extract_lets -underBinder +onlyGivenNames x; try clear_value x)
    | intro x
    | with_reducible apply OutGood.of
    | with_reducible apply good_mctpAnswer
    | with_reducible apply good_updateEnds
    | with_reducible apply good_ite
    | with_reducible apply OutGood.ite)

theorem good_execPldmTransferTimeout {s1 : State} (h1 : Good M s0 q s1) (hm : Cover 0x104008000061 M) : OutGood M s0 q (execPldmTransferTimeout s1) := by
  unfold execPldmTransferTimeout
  repeat' (first
    | with_reducible assumption
    | exact Cover.sub hm rfl
    | exact Cover.bit hm rfl
    | exact Cover.bit hm (by dsimp only [Fld.block]; rfl)
    | (extract_lets -underBinder +onlyGivenNames x; try clear_value x)
    | intro x
    | with_reducible apply OutGood.of
    | with_reducible apply good_updateEnds
    | with_reducible apply good_advance
    | with_reducible apply good_ite
    | with_reducible apply OutGood.ite
    | split)

theorem good_execMctpControlMessage (a1) (a2) (a3) {s4 : State} (h4 : Good M s0 q s4) (hm : Cover 0x10C008000040 M) : OutGood M s0 q (execMctpControlMessage a1 a2 a3 s4) := by
  unfold execMctpControlMessage
  repeat' (first
    | with_reducible assumption
    | exact Cover.sub hm rfl
    | exact Cover.bit hm rfl
    | exact Cover.bit hm (by dsimp only [Fld.block]; rfl)
    | (extract_lets -underBinder +onlyGivenNames x; refine (fun (hx : Good M s0 q x) => ?_) ?_; (on_goal 1 => try clear_value x); (on_goal 2 => subst x))
    | (extract_lets -underBinder +onlyGivenNames x; try clear_value x)
    | intro x
    | with_reducible apply OutGood.of
    | with_reducible apply good_setMgt
    | with_reducible apply good_mctpAnswer
    | with_reducible apply good_ite)

theorem good_execNvmeMiCommand (a1) (a2) {s3 : State} (h3 : Good M s0 q s3) (hm : Cover 0x10C000000040 M) : OutGood M s0 q (execNvmeMiCommand a1 a2 s3) := by
  unfold execNvmeMiCommand
  repeat' (first
    | with_reducible assumption
    | exact Cover.sub hm rfl
    | exact Cover.bit hm rfl
    | exact Cover.bit hm (by dsimp only [Fld.block]; rfl)
    | (extract_lets -underBinder +onlyGivenNames x; refine (fun (hx : Good M s0 q x) => ?_) ?_; (on_goal 1 => try clear_value x); (on_goal 2 => subst x))
    | (extract_lets -underBinder +onlyGivenNames x; try clear_value x)
    | intro x
    | with_reducible apply OutGood.of
    | with_reducible apply good_mgtBump
    | with_reducible apply good_mctpAnswer
    | with_reducible apply good_ite
    | with_reducible apply OutGood.ite
    | split)

theorem good_execMiAdminCommand (a1) (a2) (a3) (a4) (a5) {s6 : State} (h6 : Good M s0 q s6) (hm : Cover 0x10C000000040 M) : OutGood M s0 q (execMiAdminCommand a1 a2 a3 a4 a5 s6) := by
  unfold execMiAdminCommand
  repeat' (first
    | with_reducible assumption
    | exact Cover.sub hm rfl
    | (extract_lets -underBinder +onlyGivenNames x; refine (fun (hf : ∀ k : State → State, (∀ y, Good M s0 q y → Good M s0 q (k y)) → Good M s0 q (x k)) => ?_) ?_; (on_goal 1 => try clear_value x); (on_goal 2 => subst x))
    | (extract_lets -underBinder +onlyGivenNames x; refine (fun (hf : ∀ a, Good M s0 q (x a)) => ?_) ?_; (on_goal 1 => try clear_value x); (on_goal 2 => subst x))
    | exact Cover.bit hm rfl
    | exact Cover.bit hm (by dsimp only [Fld.block]; rfl)
    | (extract_lets -underBinder +onlyGivenNames x; refine (fun (hx : Good M s0 q x) => ?_) ?_; (on_goal 1 => try clear_value x); (on_goal 2 => subst x))
    | (extract_lets -underBinder +onlyGivenNames x; try clear_value x)
    | intro x
    | (simp only [good_mk_iff]; refine GoodParts.of (?_ : Good M s0 q _) rfl rfl rfl rfl)
    | with_reducible apply OutGood.of
    | with_reducible apply good_mgtBump
    | with_reducible apply good_mctpAnswer
    | apply_assumption -exfalso -symm
    | with_reducible apply good_ite
    | with_reducible apply OutGood.ite
    | split)

theorem good_execFolricReadEventLog (a1) (a2) (a3) {s4 : State} (h4 : Good M s0 q s4) (hm : Cover 0x10C000000040 M) : OutGood M s0 q (execFolricReadEventLog a1 a2 a3 s4) := by
  unfold execFolricReadEventLog
  repeat' (first
    | with_reducible assumption
    | exact Cover.sub hm rfl
    | exact Cover.bit hm rfl
    | exact Cover.bit hm (by dsimp only [Fld.block]; rfl)
    | (extract_lets -underBinder +onlyGivenNames x; try clear_value x)
    | intro x
    | with_reducible apply OutGood.of
    | with_reducible apply good_mctpAnswer
    | with_reducible apply good_ite
    | with_reducible apply OutGood.ite)

theorem good_execFolricReadLedger (a1) (a2) (a3) (a4) {s5 : State} (h5 : Good M s0 q s5) (hm : Cover 0x10C000000040 M) : OutGood M s0 q (execFolricReadLedger a1 a2 a3 a4 s5) := by
  unfold execFolricReadLedger
  repeat' (first
    | with_reducible assumption
    | exact Cover.sub hm rfl
    | exact Cover.bit hm rfl
    | exact Cover.bit hm (by dsimp only [Fld.block]; rfl)
    | (extract_lets -underBinder +onlyGivenNames x; try clear_value x)
    | intro x
    | (simp only [good_mk_iff]; refine GoodParts.of (?_ : Good M s0 q _) rfl rfl rfl rfl)
    | with_reducible apply OutGood.of
    | with_reducible apply good_mctpAnswer
    | with_reducible apply good_ite
    | with_reducible apply OutGood.ite
    | split)

theorem good_execFolricReadSensors (a1) (a2) (a3) {s4 : State} (h4 : Good M s0 q s4) (hm : Cover 0x10C000000040 M) : OutGood M s0 q (execFolricReadSensors a1 a2 a3 s4) := by
  unfold execFolricReadSensors
  repeat' (first
    | with_reducible assumption
    | exact Cover.sub hm rfl
    | exact Cover.bit hm rfl
    | exact Cover.bit hm (by dsimp only [Fld.block]; rfl)
    | (extract_lets -underBinder +onlyGivenNames x; try clear_value x)
    | intro x
    | (simp only [good_mk_iff]; refine GoodParts.of (?_ : Good M s0 q _) rfl rfl rfl rfl)
    | with_reducible apply OutGood.of
    | with_reducible apply good_mctpAnswer)

theorem good_execSgmiiDatagram (a1) {s2 : State} (h2 : Good M s0 q s2) (hm : Cover 0x10C008000040 M) : OutGood M s0 q (execSgmiiDatagram a1 s2) := by
  unfold execSgmiiDatagram
  repeat' (first
    | with_reducible assumption
    | exact Cover.sub hm rfl
    | exact Cover.bit hm rfl
    | exact Cover.bit hm (by dsimp only [Fld.block]; rfl)
    | (extract_lets -underBinder +onlyGivenNames x; refine (fun (hx : Good M s0 q x) => ?_) ?_; (on_goal 1 => try clear_value x); (on_goal 2 => subst x))
    | (extract_lets -underBinder +onlyGivenNames x; try clear_value x)
    | intro x
    | with_reducible apply OutGood.of
    | with_reducible apply good_mgtBump
    | with_reducible apply good_setMgt
    | with_reducible apply good_emit
    | with_reducible apply good_ite
    | with_reducible apply OutGood.ite)

theorem good_execUartInput (a1) {s2 : State} (h2 : Good M s0 q s2) (hm : Cover 0x8000000 M) : OutGood M s0 q (execUartInput a1 s2) := by
  unfold execUartInput
  repeat' (first
    | with_reducible assumption
    | exact Cover.sub hm rfl
    | exact Cover.bit hm rfl
    | exact Cover.bit hm (by dsimp only [Fld.block]; rfl)
    | (extract_lets -underBinder +onlyGivenNames x; try clear_value x)
    | intro x
    | with_reducible apply OutGood.of
    | with_reducible apply good_setMgt
    | with_reducible apply good_ite
    | with_reducible apply OutGood.ite)

theorem good_execEventLogAppend {s1 : State} (h1 : Good M s0 q s1) (hm : Cover 0x10C008000060 M) : OutGood M s0 q (execEventLogAppend s1) := by
  unfold execEventLogAppend
  repeat' (first
    | with_reducible assumption
    | exact Cover.sub hm rfl
    | exact Cover.bit hm rfl
    | exact Cover.bit hm (by dsimp only [Fld.block]; rfl)
    | (extract_lets -underBinder +onlyGivenNames x; try clear_value x)
    | intro x
    | (simp only [good_mk_iff]; refine GoodParts.of (?_ : Good M s0 q _) rfl rfl rfl rfl)
    | with_reducible apply OutGood.of
    | with_reducible apply good_evTake
    | with_reducible apply good_ite
    | with_reducible apply OutGood.ite
    | split)

theorem good_execEventLogNvmCopy (a1) {s2 : State} (h2 : Good M s0 q s2) (hm : Cover 0x10C008000040 M) : OutGood M s0 q (execEventLogNvmCopy a1 s2) := by
  unfold execEventLogNvmCopy
  repeat' (first
    | with_reducible assumption
    | exact Cover.sub hm rfl
    | exact Cover.bit hm rfl
    | exact Cover.bit hm (by dsimp only [Fld.block]; rfl)
    | (extract_lets -underBinder +onlyGivenNames x; try clear_value x)
    | intro x
    | with_reducible apply OutGood.of
    | with_reducible apply good_ev
    | with_reducible apply good_w
    | with_reducible apply good_setMgt
    | with_reducible apply good_mgtBump
    | with_reducible apply good_ite
    | with_reducible apply OutGood.ite)

theorem good_execSuppressionPeriodEnd {s1 : State} (h1 : Good M s0 q s1) (hm : Cover 0x10C008000041 M) : OutGood M s0 q (execSuppressionPeriodEnd s1) := by
  unfold execSuppressionPeriodEnd
  repeat' (first
    | with_reducible assumption
    | exact Cover.sub hm rfl
    | exact Cover.bit hm rfl
    | exact Cover.bit hm (by dsimp only [Fld.block]; rfl)
    | (extract_lets -underBinder +onlyGivenNames x; try clear_value x)
    | intro x
    | with_reducible apply OutGood.of
    | with_reducible apply good_evPeriod
    | with_reducible apply good_advance)

theorem good_execSensorSample (a1) (a2) {s3 : State} (h3 : Good M s0 q s3) (hm : Cover 0x4008000060 M) : OutGood M s0 q (execSensorSample a1 a2 s3) := by
  unfold execSensorSample
  repeat' (first
    | with_reducible assumption
    | exact Cover.sub hm rfl
    | exact Cover.bit hm rfl
    | exact Cover.bit hm (by dsimp only [Fld.block]; rfl)
    | (extract_lets -underBinder +onlyGivenNames x; refine (fun (hx : Good M s0 q x) => ?_) ?_; (on_goal 1 => try clear_value x); (on_goal 2 => subst x))
    | (extract_lets -underBinder +onlyGivenNames x; try clear_value x)
    | intro x
    | with_reducible apply OutGood.of
    | with_reducible apply good_w
    | with_reducible apply good_logMgt
    | with_reducible apply good_ev
    | with_reducible apply good_setMgt
    | with_reducible apply good_ite
    | with_reducible apply OutGood.ite)

theorem good_execThermalTrip (a1) {s2 : State} (h2 : Good M s0 q s2) (hm : Cover 0x104000000161 M) : OutGood M s0 q (execThermalTrip a1 s2) := by
  unfold execThermalTrip
  repeat' (first
    | with_reducible assumption
    | exact Cover.sub hm rfl
    | exact Cover.bit hm rfl
    | exact Cover.bit hm (by dsimp only [Fld.block]; rfl)
    | (extract_lets -underBinder +onlyGivenNames x; refine (fun (hx : Good M s0 q x) => ?_) ?_; (on_goal 1 => try clear_value x); (on_goal 2 => subst x))
    | (extract_lets -underBinder +onlyGivenNames x; try clear_value x)
    | intro x
    | (simp only [good_mk_iff]; refine GoodParts.of (?_ : Good M s0 q _) rfl rfl rfl rfl)
    | with_reducible apply OutGood.of
    | with_reducible apply good_ev
    | with_reducible apply good_w
    | with_reducible apply good_advance
    | with_reducible apply good_fatal
    | with_reducible apply good_logMgt
    | with_reducible apply good_ite
    | with_reducible apply OutGood.ite
    | split)

theorem good_execQcauseRead {s1 : State} (h1 : Good M s0 q s1) (hm : Cover 0x4000000040 M) : OutGood M s0 q (execQcauseRead s1) := by
  unfold execQcauseRead
  repeat' (first
    | with_reducible assumption
    | exact Cover.sub hm rfl
    | exact Cover.bit hm rfl
    | exact Cover.bit hm (by dsimp only [Fld.block]; rfl)
    | (extract_lets -underBinder +onlyGivenNames x; try clear_value x)
    | intro x
    | with_reducible apply OutGood.of
    | with_reducible apply good_w
    | with_reducible apply good_emit)

theorem good_execMgtSnapshot (a1) {s2 : State} (h2 : Good M s0 q s2) (hm : Cover 0x4000000008 M) : OutGood M s0 q (execMgtSnapshot a1 s2) := by
  unfold execMgtSnapshot
  repeat' (first
    | with_reducible assumption
    | exact Cover.sub hm rfl
    | exact Cover.bit hm rfl
    | exact Cover.bit hm (by dsimp only [Fld.block]; rfl)
    | (extract_lets -underBinder +onlyGivenNames x; try clear_value x)
    | intro x
    | with_reducible apply OutGood.of
    | with_reducible apply good_snapshot)

end Sys2Proof.Machine
end

