-- ==== Sys2Proof/Laws/Security.lean ====
section
/-! SUPPORT. What the operations of Machine/Security.lean keep (see Laws/Keep.lean), one lemma for each. -/

set_option Elab.async false

set_option linter.all false

namespace Sys2Proof.Machine

variable {M : Nat} {s0 : State} {q : Prop}

theorem good_fwBoot {s1 : State} (h1 : Good M s0 q s1) (hm : Cover 0x4008000060 M := by first | assumption | exact Cover.sub (by assumption) rfl) :
    ∀ t, State.fwBoot s1 = some t → Good M s0 q t := by
  intro t ht
  unfold State.fwBoot at ht
  extract_lets x ok run cur y at ht
  have hr : ∀ z i b, Good M s0 q z → Good M s0 q (run z i b) := fun z i b hz =>
    good_fwShow (good_wb (good_w (good_w (good_setMgt hz _) _ _ _ _) _ _ _ _) _ _ _ _)
  have hc : ∀ z b, Good M s0 q z → ∀ t, cur z b = some t → Good M s0 q t := by
    intro z b hz t ht
    cases b <;> simp only [cur, Bool.false_eq_true, if_false, if_true] at ht <;> split at ht
    · cases ht
      exact hr _ _ _ hz
    · split at ht <;> cases ht
      exact hr _ _ _ hz
    · cases ht
      exact hr _ _ _ (good_ev (good_w hz _ _ _ _) _ _)
    · split at ht <;> cases ht
      exact hr _ _ _ (good_ev (good_w hz _ _ _ _) _ _)
  have hy : Good M s0 q y := good_writeFwSel h1 _
  clear_value run cur y
  split at ht
  · split at ht
    · cases ht
      exact good_logMgt (hr _ _ _ hy) _ _
    · exact hc _ _ (good_logMgt (good_writeFwSel hy _) _ _) _ ht
  · split at ht
    · exact hc _ _ (good_logMgt (good_writeFwSel h1 _) _ _) _ ht
    · exact hc _ _ h1 _ ht

theorem good_execProofingStart (a1) {s2 : State} (h2 : Good M s0 q s2) (hm : Cover 0x14008000962 M) : OutGood M s0 q (execProofingStart a1 s2) := by
  unfold execProofingStart
  repeat' (first
    | with_reducible assumption
    | exact Cover.sub hm rfl
    | exact Cover.bit hm rfl
    | exact Cover.bit hm (by dsimp only [Fld.block]; rfl)
    | (extract_lets -underBinder +onlyGivenNames x; refine (fun (hx : Good M s0 q x) => ?_) ?_; (on_goal 1 => try clear_value x); (on_goal 2 => subst x))
    | (extract_lets -underBinder +onlyGivenNames x; try clear_value x)
    | intro x
    | (simp only [good_mk_iff]; refine GoodParts.of (?_ : Good M s0 q _) rfl rfl rfl rfl)
    | with_reducible apply OutGood.of
    | with_reducible apply good_trig
    | with_reducible apply good_w
    | with_reducible apply good_setMgt
    | refine good_fwBoot ?_ ?_ _ (by assumption)
    | with_reducible apply good_ite
    | with_reducible apply OutGood.ite
    | split)

theorem good_setProof {s1 : State} (h1 : Good M s0 q s1) (a2) (a3) (hm : Cover 0x10000000000 M) : Good M s0 q (State.setProof s1 a2 a3) := by
  unfold State.setProof
  repeat' (first
    | with_reducible assumption
    | exact Cover.sub hm rfl
    | exact Cover.bit hm rfl
    | exact Cover.bit hm (by dsimp only [Fld.block]; rfl)
    | (extract_lets -underBinder +onlyGivenNames x; try clear_value x)
    | intro x
    | with_reducible apply good_w)

theorem good_setDie {s1 : State} (h1 : Good M s0 q s1) (a2) (a3) (hm : Cover 0x10400000000000 M) : Good M s0 q (State.setDie s1 a2 a3) := by
  unfold State.setDie
  repeat' (first
    | with_reducible assumption
    | exact Cover.sub hm rfl
    | exact Cover.bit hm rfl
    | exact Cover.bit hm (by dsimp only [Fld.block]; rfl)
    | (extract_lets -underBinder +onlyGivenNames x; try clear_value x)
    | intro x
    | with_reducible apply good_ringShow
    | with_reducible apply good_w)

theorem good_holdOut {s1 : State} (h1 : Good M s0 q s1) (a2) (hm : Cover 0x400000000000010400000000060 M) : Good M s0 q (State.holdOut s1 a2) := by
  unfold State.holdOut
  repeat' (first
    | with_reducible assumption
    | exact Cover.sub hm rfl
    | exact Cover.bit hm rfl
    | exact Cover.bit hm (by dsimp only [Fld.block]; rfl)
    | (extract_lets -underBinder +onlyGivenNames x; refine (fun (hx : Good M s0 q x) => ?_) ?_; (on_goal 1 => try clear_value x); (on_goal 2 => subst x))
    | (extract_lets -underBinder +onlyGivenNames x; try clear_value x)
    | intro x
    | with_reducible apply good_ev
    | with_reducible apply good_setDie
    | with_reducible apply good_logEv
    | with_reducible apply good_w)

theorem good_execProofingDigestReceived (a1) (a2) (a3) (a4) {s5 : State} (h5 : Good M s0 q s5) (hm : Cover 0x400000000000010410000000960 M) : OutGood M s0 q (execProofingDigestReceived a1 a2 a3 a4 s5) := by
  unfold execProofingDigestReceived
  repeat' (first
    | with_reducible assumption
    | exact Cover.sub hm rfl
    | exact Cover.bit hm rfl
    | exact Cover.bit hm (by dsimp only [Fld.block]; rfl)
    | (extract_lets -underBinder +onlyGivenNames x; refine (fun (hx : Good M s0 q x) => ?_) ?_; (on_goal 1 => try clear_value x); (on_goal 2 => subst x))
    | (extract_lets -underBinder +onlyGivenNames x; try clear_value x)
    | intro x
    | (simp only [good_mk_iff]; refine GoodParts.of (?_ : Good M s0 q _) rfl rfl rfl rfl)
    | with_reducible apply OutGood.of
    | with_reducible apply good_setProof
    | with_reducible apply good_ev
    | with_reducible apply good_trig
    | with_reducible apply good_holdOut
    | with_reducible apply good_ite
    | with_reducible apply OutGood.ite)

theorem good_loadWrt {s1 : State} (h1 : Good M s0 q s1) (a2) (hm : Cover 0x1500015555000005550015555400000000 M := by first | assumption | exact Cover.sub (by assumption) rfl) :
    Good M s0 q (State.loadWrt s1 a2) := by
  unfold State.loadWrt
  extract_lets m x put mine
  have hx : Good M s0 q x := by
    refine good_mk_iff.2 (GoodParts.less h1 (.inr ⟨List.filter_sublist, fun k hk => alGet_filter fun v => ?_⟩) (.inl rfl) (.inl rfl)
      (.inl rfl))
    obtain ⟨kd, kf, ki⟩ := k
    cases kf <;> first | (simp; done) | (dsimp only [Fld.block] at hk; exact absurd (Cover.bit (k := 40) hm rfl) (by rw [hk]; exact Bool.false_ne_true))
  have hp : ∀ y w, Good M s0 q y → Good M s0 q (put y w) := fun y w hy =>
    good_wb (good_wb (good_wb (good_w (good_w hy _ _ _ _) _ _ _ _) _ _ _ _) _ _ _ _) _ _ _ _
  exact good_ite (good_foldS hp hx) (good_ite (hp _ _ hx) (hp _ _ (hp _ _ hx)))

theorem good_dieLock {s1 : State} (h1 : Good M s0 q s1) (a2) (hm : Cover 0x10000000000000010410000000000 M) : Good M s0 q (State.dieLock s1 a2) := by
  unfold State.dieLock
  repeat' (first
    | with_reducible assumption
    | exact Cover.sub hm rfl
    | exact Cover.bit hm rfl
    | exact Cover.bit hm (by dsimp only [Fld.block]; rfl)
    | (extract_lets -underBinder +onlyGivenNames x; refine (fun (hx : Good M s0 q x) => ?_) ?_; (on_goal 1 => try clear_value x); (on_goal 2 => subst x))
    | (extract_lets -underBinder +onlyGivenNames x; try clear_value x)
    | intro x
    | with_reducible apply good_w
    | with_reducible apply good_setDie
    | with_reducible apply good_ite)

theorem good_execProofingEnd (a1) (a2) {s3 : State} (h3 : Good M s0 q s3) (hm : Cover 0x1500015555000005550015575400000960 M) : OutGood M s0 q (execProofingEnd a1 a2 s3) := by
  unfold execProofingEnd
  repeat' (first
    | with_reducible assumption
    | exact Cover.sub hm rfl
    | exact Cover.bit hm rfl
    | exact Cover.bit hm (by dsimp only [Fld.block]; rfl)
    | (extract_lets -underBinder +onlyGivenNames x; refine (fun (hx : Good M s0 q x) => ?_) ?_; (on_goal 1 => try clear_value x); (on_goal 2 => subst x))
    | (extract_lets -underBinder +onlyGivenNames x; try clear_value x)
    | intro x
    | (simp only [good_mk_iff]; refine GoodParts.of (?_ : Good M s0 q _) rfl rfl rfl rfl)
    | with_reducible apply OutGood.of
    | with_reducible apply good_w
    | with_reducible apply good_loadWrt
    | with_reducible apply good_dieLock
    | with_reducible apply good_wb
    | with_reducible apply good_ledgerAdd
    | with_reducible apply good_trig
    | with_reducible apply good_foldS
    | with_reducible apply good_ite
    | with_reducible apply OutGood.ite
    | split)

theorem good_execLedgerWriteComplete (a1) {s2 : State} (h2 : Good M s0 q s2) (hm : Cover 0x530000000840 M) : OutGood M s0 q (execLedgerWriteComplete a1 s2) := by
  unfold execLedgerWriteComplete
  repeat' (first
    | with_reducible assumption
    | exact Cover.sub hm rfl
    | exact Cover.bit hm rfl
    | exact Cover.bit hm (by dsimp only [Fld.block]; rfl)
    | (extract_lets -underBinder +onlyGivenNames x; refine (fun (hx : Good M s0 q x) => ?_) ?_; (on_goal 1 => try clear_value x); (on_goal 2 => subst x))
    | (extract_lets -underBinder +onlyGivenNames x; try clear_value x)
    | intro x
    | (simp only [good_mk_iff]; refine GoodParts.of (?_ : Good M s0 q _) rfl rfl rfl rfl)
    | with_reducible apply OutGood.of
    | with_reducible apply good_w
    | with_reducible apply good_ev
    | with_reducible apply good_bump
    | with_reducible apply good_ledgerStart
    | with_reducible apply good_ite
    | with_reducible apply OutGood.ite
    | split)

theorem good_execLedgerWriteRetry {s1 : State} (h1 : Good M s0 q s1) (hm : Cover 0x100000000841 M) : OutGood M s0 q (execLedgerWriteRetry s1) := by
  unfold execLedgerWriteRetry
  repeat' (first
    | with_reducible assumption
    | exact Cover.sub hm rfl
    | exact Cover.bit hm rfl
    | exact Cover.bit hm (by dsimp only [Fld.block]; rfl)
    | (extract_lets -underBinder +onlyGivenNames x; refine (fun (hx : Good M s0 q x) => ?_) ?_; (on_goal 1 => try clear_value x); (on_goal 2 => subst x))
    | (extract_lets -underBinder +onlyGivenNames x; try clear_value x)
    | intro x
    | (simp only [good_mk_iff]; refine GoodParts.of (?_ : Good M s0 q _) rfl rfl rfl rfl)
    | with_reducible apply OutGood.of
    | with_reducible apply good_advance
    | with_reducible apply good_ledgerStart
    | with_reducible apply good_ite
    | with_reducible apply OutGood.ite
    | split)

theorem good_execOwnerEnrolment (a1) (a2) {s3 : State} (h3 : Good M s0 q s3) (hm : Cover 0x130000000840 M) : OutGood M s0 q (execOwnerEnrolment a1 a2 s3) := by
  unfold execOwnerEnrolment
  repeat' (first
    | with_reducible assumption
    | exact Cover.sub hm rfl
    | exact Cover.bit hm rfl
    | exact Cover.bit hm (by dsimp only [Fld.block]; rfl)
    | (extract_lets -underBinder +onlyGivenNames x; try clear_value x)
    | intro x
    | (simp only [good_mk_iff]; refine GoodParts.of (?_ : Good M s0 q _) rfl rfl rfl rfl)
    | with_reducible apply OutGood.of
    | with_reducible apply good_ledgerAdd
    | with_reducible apply good_ite
    | with_reducible apply OutGood.ite)

theorem good_dropRoot {s1 : State} (h1 : Good M s0 q s1) (hm : Cover 0x1001400000C000000100004420040 M) : Good M s0 q (State.dropRoot s1) := by
  unfold State.dropRoot
  repeat' (first
    | with_reducible assumption
    | exact Cover.sub hm rfl
    | exact Cover.bit hm rfl
    | exact Cover.bit hm (by dsimp only [Fld.block]; rfl)
    | (extract_lets -underBinder +onlyGivenNames x; refine (fun (hx : Good M s0 q x) => ?_) ?_; (on_goal 1 => try clear_value x); (on_goal 2 => subst x))
    | (extract_lets -underBinder +onlyGivenNames x; try clear_value x)
    | intro x
    | (simp only [good_mk_iff]; refine GoodParts.of (?_ : Good M s0 q _) rfl rfl rfl rfl)
    | with_reducible apply good_nsmShow
    | with_reducible apply good_ev
    | with_reducible apply good_foldS
    | with_reducible apply good_ite)

theorem good_execOwnerTransfer (a1) (a2) (a3) {s4 : State} (h4 : Good M s0 q s4) (hm : Cover 0x1001400000C000000130004420840 M) : OutGood M s0 q (execOwnerTransfer a1 a2 a3 s4) := by
  unfold execOwnerTransfer
  repeat' (first
    | with_reducible assumption
    | exact Cover.sub hm rfl
    | exact Cover.bit hm rfl
    | exact Cover.bit hm (by dsimp only [Fld.block]; rfl)
    | (extract_lets -underBinder +onlyGivenNames x; try clear_value x)
    | intro x
    | (simp only [good_mk_iff]; refine GoodParts.of (?_ : Good M s0 q _) rfl rfl rfl rfl)
    | with_reducible apply OutGood.of
    | with_reducible apply good_ledgerAdd
    | with_reducible apply good_dropRoot
    | with_reducible apply good_ite
    | with_reducible apply OutGood.ite)

theorem good_execMediaRootImport (a1) (a2) (a3) (a4) {s5 : State} (h5 : Good M s0 q s5) (hm : Cover 0x1400000C000000130004420840 M) : OutGood M s0 q (execMediaRootImport a1 a2 a3 a4 s5) := by
  unfold execMediaRootImport
  repeat' (first
    | with_reducible assumption
    | exact Cover.sub hm rfl
    | exact Cover.bit hm rfl
    | exact Cover.bit hm (by dsimp only [Fld.block]; rfl)
    | (extract_lets -underBinder +onlyGivenNames x; refine (fun (hx : Good M s0 q x) => ?_) ?_; (on_goal 1 => try clear_value x); (on_goal 2 => subst x))
    | (extract_lets -underBinder +onlyGivenNames x; try clear_value x)
    | intro x
    | (simp only [good_mk_iff]; refine GoodParts.of (?_ : Good M s0 q _) rfl rfl rfl rfl)
    | with_reducible apply OutGood.of
    | with_reducible apply good_nsmShow
    | with_reducible apply good_ledgerAdd
    | with_reducible apply good_foldS
    | with_reducible apply good_ite
    | with_reducible apply OutGood.ite)

theorem good_zeroisePraline {s1 : State} (h1 : Good M s0 q s1) (hm : Cover 0x1001400000C000000100004C20840 M) : Good M s0 q (State.zeroisePraline s1) := by
  unfold State.zeroisePraline
  repeat' (first
    | with_reducible assumption
    | exact Cover.sub hm rfl
    | exact Cover.bit hm rfl
    | exact Cover.bit hm (by dsimp only [Fld.block]; rfl)
    | (extract_lets -underBinder +onlyGivenNames x; refine (fun (hx : Good M s0 q x) => ?_) ?_; (on_goal 1 => try clear_value x); (on_goal 2 => subst x))
    | (extract_lets -underBinder +onlyGivenNames x; try clear_value x)
    | intro x
    | (simp only [good_mk_iff]; refine GoodParts.of (?_ : Good M s0 q _) rfl rfl rfl rfl)
    | with_reducible apply good_dropRoot)

theorem good_execDebugTokenWrite (a1) (a2) (a3) (a4) (a5) {s6 : State} (h6 : Good M s0 q s6) (hm : Cover 0x1001400000C000000130004C20860 M) : OutGood M s0 q (execDebugTokenWrite a1 a2 a3 a4 a5 s6) := by
  unfold execDebugTokenWrite
  repeat' (first
    | with_reducible assumption
    | exact Cover.sub hm rfl
    | exact Cover.bit hm rfl
    | exact Cover.bit hm (by dsimp only [Fld.block]; rfl)
    | (extract_lets -underBinder +onlyGivenNames x; refine (fun (hx : Good M s0 q x) => ?_) ?_; (on_goal 1 => try clear_value x); (on_goal 2 => subst x))
    | (extract_lets -underBinder +onlyGivenNames x; try clear_value x)
    | intro x
    | with_reducible apply OutGood.of
    | with_reducible apply good_w
    | with_reducible apply good_bump
    | with_reducible apply good_zeroisePraline
    | with_reducible apply good_logEv
    | with_reducible apply good_ev
    | with_reducible apply good_ledgerAdd
    | with_reducible apply good_foldS
    | with_reducible apply good_ite
    | with_reducible apply OutGood.ite)

theorem good_stackZero {s1 : State} (h1 : Good M s0 q s1) (a2) (hm : Cover 0x1040000 M) : Good M s0 q (State.stackZero s1 a2) := by
  unfold State.stackZero
  repeat' (first
    | with_reducible assumption
    | exact Cover.sub hm rfl
    | exact Cover.bit hm rfl
    | exact Cover.bit hm (by dsimp only [Fld.block]; rfl)
    | (extract_lets -underBinder +onlyGivenNames x; try clear_value x)
    | intro x
    | (simp only [good_mk_iff]; refine GoodParts.of (?_ : Good M s0 q _) rfl rfl rfl rfl))

theorem good_execTamper (a1) {s2 : State} (h2 : Good M s0 q s2) (hm : Cover 0x150001D55F00000D5500155D5415E70960 M) : OutGood M s0 q (execTamper a1 s2) := by
  unfold execTamper
  repeat' (first
    | with_reducible assumption
    | exact Cover.sub hm rfl
    | exact Cover.bit hm rfl
    | exact Cover.bit hm (by dsimp only [Fld.block]; rfl)
    | (extract_lets -underBinder +onlyGivenNames x; refine (fun (hx : Good M s0 q x) => ?_) ?_; (on_goal 1 => try clear_value x); (on_goal 2 => subst x))
    | (extract_lets -underBinder +onlyGivenNames x; try clear_value x)
    | intro x
    | (simp only [good_mk_iff]; refine GoodParts.of (?_ : Good M s0 q _) rfl rfl rfl rfl)
    | with_reducible apply OutGood.of
    | with_reducible apply good_w
    | with_reducible apply good_logEv
    | with_reducible apply good_ev
    | with_reducible apply good_zeroisePraline
    | with_reducible apply good_zeroise
    | with_reducible apply good_stackZero
    | with_reducible apply good_leaseRelease
    | with_reducible apply good_trig
    | with_reducible apply good_foldS
    | with_reducible apply good_ite
    | with_reducible apply OutGood.ite)

theorem good_execSpdmRequest (a1) (a2) (a3) {s4 : State} (h4 : Good M s0 q s4) (hm : Cover 0x13C000000040 M) : OutGood M s0 q (execSpdmRequest a1 a2 a3 s4) := by
  unfold execSpdmRequest
  repeat' (first
    | with_reducible assumption
    | exact Cover.sub hm rfl
    | exact Cover.bit hm rfl
    | exact Cover.bit hm (by dsimp only [Fld.block]; rfl)
    | (extract_lets -underBinder +onlyGivenNames x; refine (fun (hx : Good M s0 q x) => ?_) ?_; (on_goal 1 => try clear_value x); (on_goal 2 => subst x))
    | (extract_lets -underBinder +onlyGivenNames x; try clear_value x)
    | intro x
    | with_reducible apply OutGood.of
    | with_reducible apply good_bump
    | with_reducible apply good_mctpAnswer
    | with_reducible apply good_ite
    | with_reducible apply OutGood.ite)

theorem good_execSecSnapshot (a1) (a2) {s3 : State} (h3 : Good M s0 q s3) (hm : Cover 0x10000000008 M) : OutGood M s0 q (execSecSnapshot a1 a2 s3) := by
  unfold execSecSnapshot
  repeat' (first
    | with_reducible assumption
    | exact Cover.sub hm rfl
    | exact Cover.bit hm rfl
    | exact Cover.bit hm (by dsimp only [Fld.block]; rfl)
    | (extract_lets -underBinder +onlyGivenNames x; try clear_value x)
    | intro x
    | with_reducible apply OutGood.of
    | with_reducible apply good_snapshot
    | with_reducible apply good_ite)

end Sys2Proof.Machine
end

