-- ==== Sys2Proof/Laws/Background.lean ====
section
/-! SUPPORT. What the operations of Machine/Background.lean keep (see Laws/Keep.lean), one lemma for each. -/

set_option Elab.async false

set_option linter.all false

namespace Sys2Proof.Machine

variable {M : Nat} {s0 : State} {q : Prop}

theorem good_windowEval {s1 : State} (h1 : Good M s0 q s1) (a2) (hm : Cover 0x40000000040 M) : Good M s0 q (State.windowEval s1 a2) := by
  unfold State.windowEval
  repeat' (first
    | with_reducible assumption
    | exact Cover.sub hm rfl
    | exact Cover.bit hm rfl
    | exact Cover.bit hm (by dsimp only [Fld.block]; rfl)
    | (extract_lets -underBinder +onlyGivenNames x; refine (fun (hx : Good M s0 q x) => ?_) ?_; (on_goal 1 => try clear_value x); (on_goal 2 => subst x))
    | (extract_lets -underBinder +onlyGivenNames x; try clear_value x)
    | intro x
    | with_reducible apply good_w
    | with_reducible apply good_wb
    | with_reducible apply good_ev
    | with_reducible apply good_ite)

theorem good_thermal {s1 : State} (h1 : Good M s0 q s1) (a2) (hm : Cover 0x1C0000000040 M) : Good M s0 q (State.thermal s1 a2) := by
  unfold State.thermal
  repeat' (first
    | with_reducible assumption
    | exact Cover.sub hm rfl
    | exact Cover.bit hm rfl
    | exact Cover.bit hm (by dsimp only [Fld.block]; rfl)
    | (extract_lets -underBinder +onlyGivenNames x; refine (fun (hx : Good M s0 q x) => ?_) ?_; (on_goal 1 => try clear_value x); (on_goal 2 => subst x))
    | (extract_lets -underBinder +onlyGivenNames x; try clear_value x)
    | intro x
    | with_reducible apply good_w
    | with_reducible apply good_ev
    | with_reducible apply good_bgBump
    | with_reducible apply good_ite)

theorem good_grants {s1 : State} (h1 : Good M s0 q s1) (a2) (a3) (hm : Cover 0xC0000000000000001C0010200040 M) : Good M s0 q (State.grants s1 a2 a3) := by
  unfold State.grants
  repeat' (first
    | with_reducible assumption
    | exact Cover.sub hm rfl
    | exact Cover.bit hm rfl
    | exact Cover.bit hm (by dsimp only [Fld.block]; rfl)
    | (extract_lets -underBinder +onlyGivenNames x; refine (fun (hx : Good M s0 q x) => ?_) ?_; (on_goal 1 => try clear_value x); (on_goal 2 => subst x))
    | (extract_lets -underBinder +onlyGivenNames x; try clear_value x)
    | intro x
    | with_reducible apply good_w
    | with_reducible apply good_bgBump
    | with_reducible apply good_setBg
    | with_reducible apply good_bgRelease
    | with_reducible apply good_foldS)

theorem good_execBackgroundTick (a1) (a2) {s3 : State} (h3 : Good M s0 q s3) (hm : Cover 0xC00C0000000000001C0010230041 M) : OutGood M s0 q (execBackgroundTick a1 a2 s3) := by
  unfold execBackgroundTick
  repeat' (first
    | with_reducible assumption
    | exact Cover.sub hm rfl
    | exact Cover.bit hm rfl
    | exact Cover.bit hm (by dsimp only [Fld.block]; rfl)
    | (extract_lets -underBinder +onlyGivenNames x; refine (fun (hx : Good M s0 q x) => ?_) ?_; (on_goal 1 => try clear_value x); (on_goal 2 => subst x))
    | (extract_lets -underBinder +onlyGivenNames x; try clear_value x)
    | intro x
    | with_reducible apply OutGood.of
    | with_reducible apply good_windowEval
    | with_reducible apply good_reachTs
    | with_reducible apply good_offer
    | with_reducible apply good_grants
    | with_reducible apply good_thermal
    | with_reducible apply good_ite
    | with_reducible apply OutGood.ite)

theorem good_patrolCheck {s1 : State} (h1 : Good M s0 q s1) (a2) (a3) (a4) (hm : Cover 0xCC000000000000001C0010280060 M) : Good M s0 q (State.patrolCheck s1 a2 a3 a4) := by
  unfold State.patrolCheck
  repeat' (first
    | with_reducible assumption
    | exact Cover.sub hm rfl
    | (extract_lets -underBinder +onlyGivenNames x; refine (fun (hf : ∀ k : State → State, (∀ y, Good M s0 q y → Good M s0 q (k y)) → Good M s0 q (x k)) => ?_) ?_; (on_goal 1 => try clear_value x); (on_goal 2 => subst x))
    | exact Cover.bit hm rfl
    | exact Cover.bit hm (by dsimp only [Fld.block]; rfl)
    | (extract_lets -underBinder +onlyGivenNames x; refine (fun (hx : Good M s0 q x) => ?_) ?_; (on_goal 1 => try clear_value x); (on_goal 2 => subst x))
    | (extract_lets -underBinder +onlyGivenNames x; try clear_value x)
    | intro x
    | with_reducible apply good_issueReads
    | with_reducible apply good_drvTake
    | with_reducible apply good_ev
    | with_reducible apply good_bgBump
    | with_reducible apply good_grpBump
    | with_reducible apply good_addBad
    | with_reducible apply good_logEv
    | with_reducible apply good_setGrp
    | with_reducible apply good_issueStrips
    | with_reducible apply good_setBg
    | with_reducible apply good_foldS
    | apply_assumption -exfalso -symm
    | with_reducible apply good_ite)

theorem good_patrolMoves {s1 : State} (h1 : Good M s0 q s1) (a2) (a3) (a4) (a5) (hm : Cover 0xCC000000000000001C0010280040 M) : Good M s0 q (State.patrolMoves s1 a2 a3 a4 a5) := by
  unfold State.patrolMoves
  repeat' (first
    | with_reducible assumption
    | exact Cover.sub hm rfl
    | exact Cover.bit hm rfl
    | exact Cover.bit hm (by dsimp only [Fld.block]; rfl)
    | (extract_lets -underBinder +onlyGivenNames x; refine (fun (hx : Good M s0 q x) => ?_) ?_; (on_goal 1 => try clear_value x); (on_goal 2 => subst x))
    | (extract_lets -underBinder +onlyGivenNames x; try clear_value x)
    | intro x
    | with_reducible apply good_unlock
    | with_reducible apply good_setBg
    | with_reducible apply good_bgBump
    | with_reducible apply good_w
    | with_reducible apply good_ev
    | with_reducible apply good_ite)

theorem good_execPatrolStripe (a1) {s2 : State} (h2 : Good M s0 q s2) (hm : Cover 0xCC000000000000001C0010280061 M) : OutGood M s0 q (execPatrolStripe a1 s2) := by
  unfold execPatrolStripe
  repeat' (first
    | with_reducible assumption
    | exact Cover.sub hm rfl
    | exact Cover.bit hm rfl
    | exact Cover.bit hm (by dsimp only [Fld.block]; rfl)
    | (extract_lets -underBinder +onlyGivenNames x; refine (fun (hx : Good M s0 q x) => ?_) ?_; (on_goal 1 => try clear_value x); (on_goal 2 => subst x))
    | (extract_lets -underBinder +onlyGivenNames x; try clear_value x)
    | intro x
    | (simp only [good_mk_iff]; refine GoodParts.of (?_ : Good M s0 q _) rfl rfl rfl rfl)
    | with_reducible apply OutGood.of
    | with_reducible apply good_onCd
    | with_reducible apply good_patrolMoves
    | with_reducible apply good_drvTake
    | with_reducible apply good_patrolCheck
    | with_reducible apply good_advance
    | with_reducible apply good_setBg
    | with_reducible apply good_setGrp
    | with_reducible apply good_issueReads
    | with_reducible apply good_ite
    | with_reducible apply OutGood.ite
    | split)

theorem good_execBgwSnapshot (a1) (a2) {s3 : State} (h3 : Good M s0 q s3) (hm : Cover 0x40000000008 M) : OutGood M s0 q (execBgwSnapshot a1 a2 s3) := by
  unfold execBgwSnapshot
  repeat' (first
    | with_reducible assumption
    | exact Cover.sub hm rfl
    | exact Cover.bit hm rfl
    | exact Cover.bit hm (by dsimp only [Fld.block]; rfl)
    | (extract_lets -underBinder +onlyGivenNames x; try clear_value x)
    | intro x
    | with_reducible apply OutGood.of
    | with_reducible apply good_snapshot
    | with_reducible apply good_ite)

theorem good_execPerfCounterLogPage (a1) (a2) {s3 : State} (h3 : Good M s0 q s3) (hm : Cover 0x14F000000000000100000070040 M) : OutGood M s0 q (execPerfCounterLogPage a1 a2 s3) := by
  unfold execPerfCounterLogPage
  repeat' (first
    | with_reducible assumption
    | exact Cover.sub hm rfl
    | exact Cover.bit hm rfl
    | exact Cover.bit hm (by dsimp only [Fld.block]; rfl)
    | (extract_lets -underBinder +onlyGivenNames x; try clear_value x)
    | intro x
    | (simp only [good_mk_iff]; refine GoodParts.of (?_ : Good M s0 q _) rfl rfl rfl rfl)
    | with_reducible apply OutGood.of
    | with_reducible apply good_onAdmin
    | with_reducible apply good_completeWith
    | with_reducible apply good_emit
    | with_reducible apply good_ite)

end Sys2Proof.Machine
end

