-- ==== Sys2Proof/Laws/Counters.lean ====
section
/-! SUPPORT. What the operations of Machine/Counters.lean keep (see Laws/Keep.lean), one lemma for each. -/

set_option Elab.async false

set_option linter.all false

namespace Sys2Proof.Machine

variable {M : Nat} {s0 : State} {q : Prop}

theorem good_pmcGuard {s1 : State} (h1 : Good M s0 q s1) (a2) (a3) (a4) (a5) (a6) {s7 : State} (h7 : Good M s0 q s7) (hm : Cover 0x130000000060 M) : Good M s0 q (State.pmcGuard s1 a2 a3 a4 a5 a6 s7) := by
  unfold State.pmcGuard
  repeat' (first
    | with_reducible assumption
    | exact Cover.sub hm rfl
    | exact Cover.bit hm rfl
    | exact Cover.bit hm (by dsimp only [Fld.block]; rfl)
    | (extract_lets -underBinder +onlyGivenNames x; try clear_value x)
    | intro x
    | with_reducible apply good_worldViolation
    | with_reducible apply good_ite)

theorem good_setRunning {s1 : State} (h1 : Good M s0 q s1) (a2) (a3) (hm : Cover 0x100000000000 M) : Good M s0 q (State.setRunning s1 a2 a3) := by
  unfold State.setRunning
  repeat' (first
    | with_reducible assumption
    | exact Cover.sub hm rfl
    | exact Cover.bit hm rfl
    | exact Cover.bit hm (by dsimp only [Fld.block]; rfl)
    | (extract_lets -underBinder +onlyGivenNames x; try clear_value x)
    | intro x
    | with_reducible apply good_wb
    | with_reducible apply good_w
    | with_reducible apply good_foldS)

theorem good_pmcStart {s1 : State} (h1 : Good M s0 q s1) (a2) (a3) (hm : Cover 0x100000000000 M) : Good M s0 q (State.pmcStart s1 a2 a3) := by
  unfold State.pmcStart
  repeat' (first
    | with_reducible assumption
    | exact Cover.sub hm rfl
    | exact Cover.bit hm rfl
    | exact Cover.bit hm (by dsimp only [Fld.block]; rfl)
    | intro x
    | with_reducible apply good_setRunning)

theorem good_pmcStop {s1 : State} (h1 : Good M s0 q s1) (a2) (a3) (hm : Cover 0x100000000000 M) : Good M s0 q (State.pmcStop s1 a2 a3) := by
  unfold State.pmcStop
  repeat' (first
    | with_reducible assumption
    | exact Cover.sub hm rfl
    | exact Cover.bit hm rfl
    | exact Cover.bit hm (by dsimp only [Fld.block]; rfl)
    | intro x
    | with_reducible apply good_setRunning)

theorem good_execPmcStart (a1) (a2) (a3) (a4) {s5 : State} (h5 : Good M s0 q s5) (hm : Cover 0x130000000060 M) : OutGood M s0 q (execPmcStart a1 a2 a3 a4 s5) := by
  unfold execPmcStart
  repeat' (first
    | with_reducible assumption
    | exact Cover.sub hm rfl
    | exact Cover.bit hm rfl
    | exact Cover.bit hm (by dsimp only [Fld.block]; rfl)
    | (extract_lets -underBinder +onlyGivenNames x; try clear_value x)
    | intro x
    | with_reducible apply OutGood.of
    | with_reducible apply good_pmcGuard
    | with_reducible apply good_discardState
    | with_reducible apply good_pmcStart
    | with_reducible apply good_pmcStop
    | with_reducible apply good_ite)

theorem good_execPmcStop (a1) (a2) (a3) {s4 : State} (h4 : Good M s0 q s4) (hm : Cover 0x130000000060 M) : OutGood M s0 q (execPmcStop a1 a2 a3 s4) := by
  unfold execPmcStop
  repeat' (first
    | with_reducible assumption
    | exact Cover.sub hm rfl
    | exact Cover.bit hm rfl
    | exact Cover.bit hm (by dsimp only [Fld.block]; rfl)
    | (extract_lets -underBinder +onlyGivenNames x; try clear_value x)
    | intro x
    | with_reducible apply OutGood.of
    | with_reducible apply good_pmcGuard
    | with_reducible apply good_pmcStop)

theorem good_execPmcTimedArm (a1) (a2) (a3) (a4) (a5) {s6 : State} (h6 : Good M s0 q s6) (hm : Cover 0x130000000460 M) : OutGood M s0 q (execPmcTimedArm a1 a2 a3 a4 a5 s6) := by
  unfold execPmcTimedArm
  repeat' (first
    | with_reducible assumption
    | exact Cover.sub hm rfl
    | exact Cover.bit hm rfl
    | exact Cover.bit hm (by dsimp only [Fld.block]; rfl)
    | (extract_lets -underBinder +onlyGivenNames x; refine (fun (hx : Good M s0 q x) => ?_) ?_; (on_goal 1 => try clear_value x); (on_goal 2 => subst x))
    | (extract_lets -underBinder +onlyGivenNames x; try clear_value x)
    | intro x
    | (simp only [good_mk_iff]; refine GoodParts.of (?_ : Good M s0 q _) rfl rfl rfl rfl)
    | with_reducible apply OutGood.of
    | with_reducible apply good_wb
    | with_reducible apply good_w
    | with_reducible apply good_pmcGuard)

theorem good_execPmcTimedStart (a1) {s2 : State} (h2 : Good M s0 q s2) (hm : Cover 0x100000000441 M) : OutGood M s0 q (execPmcTimedStart a1 s2) := by
  unfold execPmcTimedStart
  repeat' (first
    | with_reducible assumption
    | exact Cover.sub hm rfl
    | exact Cover.bit hm rfl
    | exact Cover.bit hm (by dsimp only [Fld.block]; rfl)
    | (extract_lets -underBinder +onlyGivenNames x; refine (fun (hx : Good M s0 q x) => ?_) ?_; (on_goal 1 => try clear_value x); (on_goal 2 => subst x))
    | (extract_lets -underBinder +onlyGivenNames x; try clear_value x)
    | intro x
    | (simp only [good_mk_iff]; refine GoodParts.of (?_ : Good M s0 q _) rfl rfl rfl rfl)
    | with_reducible apply OutGood.of
    | with_reducible apply good_reachTs
    | with_reducible apply good_ev
    | with_reducible apply good_pmcStart
    | with_reducible apply good_w
    | with_reducible apply good_ite
    | with_reducible apply OutGood.ite
    | split)

theorem good_pmcCopy {s1 : State} (h1 : Good M s0 q s1) (a2) (a3) (hm : Cover 0x100000000008 M) : Good M s0 q (State.pmcCopy s1 a2 a3) := by
  unfold State.pmcCopy
  repeat' (first
    | with_reducible assumption
    | exact Cover.sub hm rfl
    | exact Cover.bit hm rfl
    | exact Cover.bit hm (by dsimp only [Fld.block]; rfl)
    | (extract_lets -underBinder +onlyGivenNames x; try clear_value x)
    | intro x
    | with_reducible apply good_snapshot)

theorem good_execPmcTimedSnapshot (a1) {s2 : State} (h2 : Good M s0 q s2) (hm : Cover 0x100000000449 M) : OutGood M s0 q (execPmcTimedSnapshot a1 s2) := by
  unfold execPmcTimedSnapshot
  repeat' (first
    | with_reducible assumption
    | exact Cover.sub hm rfl
    | exact Cover.bit hm rfl
    | exact Cover.bit hm (by dsimp only [Fld.block]; rfl)
    | (extract_lets -underBinder +onlyGivenNames x; refine (fun (hx : Good M s0 q x) => ?_) ?_; (on_goal 1 => try clear_value x); (on_goal 2 => subst x))
    | (extract_lets -underBinder +onlyGivenNames x; try clear_value x)
    | intro x
    | (simp only [good_mk_iff]; refine GoodParts.of (?_ : Good M s0 q _) rfl rfl rfl rfl)
    | with_reducible apply OutGood.of
    | with_reducible apply good_reachTs
    | with_reducible apply good_ev
    | with_reducible apply good_pmcCopy
    | with_reducible apply good_w
    | with_reducible apply good_ite
    | with_reducible apply OutGood.ite
    | split)

theorem good_execPmcSnapshot (a1) (a2) {s3 : State} (h3 : Good M s0 q s3) (hm : Cover 0x100000000008 M) : OutGood M s0 q (execPmcSnapshot a1 a2 s3) := by
  unfold execPmcSnapshot
  repeat' (first
    | with_reducible assumption
    | exact Cover.sub hm rfl
    | exact Cover.bit hm rfl
    | exact Cover.bit hm (by dsimp only [Fld.block]; rfl)
    | (extract_lets -underBinder +onlyGivenNames x; try clear_value x)
    | intro x
    | with_reducible apply OutGood.of
    | with_reducible apply good_pmcCopy)

theorem good_execPmcCounterPreset (a1) (a2) (a3) (a4) (a5) {s6 : State} (h6 : Good M s0 q s6) (hm : Cover 0x130000000460 M) : OutGood M s0 q (execPmcCounterPreset a1 a2 a3 a4 a5 s6) := by
  unfold execPmcCounterPreset
  repeat' (first
    | with_reducible assumption
    | exact Cover.sub hm rfl
    | exact Cover.bit hm rfl
    | exact Cover.bit hm (by dsimp only [Fld.block]; rfl)
    | (extract_lets -underBinder +onlyGivenNames x; try clear_value x)
    | intro x
    | (simp only [good_mk_iff]; refine GoodParts.of (?_ : Good M s0 q _) rfl rfl rfl rfl)
    | with_reducible apply OutGood.of
    | with_reducible apply good_pmcGuard
    | with_reducible apply good_discardState
    | with_reducible apply good_w
    | with_reducible apply good_ite)

theorem good_execPmcSelectorWrite (a1) (a2) (a3) (a4) {s5 : State} (h5 : Good M s0 q s5) (hm : Cover 0x130000000060 M) : OutGood M s0 q (execPmcSelectorWrite a1 a2 a3 a4 s5) := by
  unfold execPmcSelectorWrite
  repeat' (first
    | with_reducible assumption
    | exact Cover.sub hm rfl
    | exact Cover.bit hm rfl
    | exact Cover.bit hm (by dsimp only [Fld.block]; rfl)
    | (extract_lets -underBinder +onlyGivenNames x; try clear_value x)
    | intro x
    | with_reducible apply OutGood.of
    | with_reducible apply good_pmcGuard
    | with_reducible apply good_discardState
    | with_reducible apply good_w
    | with_reducible apply good_discardRange
    | with_reducible apply good_ev
    | with_reducible apply good_ite)

end Sys2Proof.Machine
end

