-- ==== Sys2Proof/Laws/Pair.lean ====
section
/-! SUPPORT. What the operations of Machine/Pair.lean keep (see Laws/Keep.lean), one lemma for each. -/

set_option Elab.async false

set_option linter.all false

namespace Sys2Proof.Machine

variable {M : Nat} {s0 : State} {q : Prop}

theorem good_execPartnerFrameReceived (a1) (a2) (a3) (a4) (a5) (a6) (a7) (a8) (a9) {s10 : State} (h10 : Good M s0 q s10) (hm : Cover 0x300030000000000000000100000C00040 M) : OutGood M s0 q (execPartnerFrameReceived a1 a2 a3 a4 a5 a6 a7 a8 a9 s10) := by
  unfold execPartnerFrameReceived
  repeat' (first
    | with_reducible assumption
    | exact Cover.sub hm rfl
    | exact Cover.bit hm rfl
    | exact Cover.bit hm (by dsimp only [Fld.block]; rfl)
    | (extract_lets -underBinder +onlyGivenNames x; refine (fun (hx : Good M s0 q x) => ?_) ?_; (on_goal 1 => try clear_value x); (on_goal 2 => subst x))
    | (extract_lets -underBinder +onlyGivenNames x; try clear_value x)
    | intro x
    | with_reducible apply OutGood.of
    | with_reducible apply good_partnerNak
    | with_reducible apply good_pairBump
    | with_reducible apply good_cipBump
    | with_reducible apply good_ev
    | with_reducible apply good_w
    | with_reducible apply good_setKeySlot
    | with_reducible apply good_setPair
    | with_reducible apply good_promote
    | with_reducible apply good_ite
    | with_reducible apply OutGood.ite)

theorem good_execPartnerNakReceived (a1) {s2 : State} (h2 : Good M s0 q s2) (hm : Cover 0x300030000000000000000100000800040 M) : OutGood M s0 q (execPartnerNakReceived a1 s2) := by
  unfold execPartnerNakReceived
  repeat' (first
    | with_reducible assumption
    | exact Cover.sub hm rfl
    | exact Cover.bit hm rfl
    | exact Cover.bit hm (by dsimp only [Fld.block]; rfl)
    | (extract_lets -underBinder +onlyGivenNames x; refine (fun (hx : Good M s0 q x) => ?_) ?_; (on_goal 1 => try clear_value x); (on_goal 2 => subst x))
    | (extract_lets -underBinder +onlyGivenNames x; try clear_value x)
    | intro x
    | (simp only [good_mk_iff]; refine GoodParts.of (?_ : Good M s0 q _) rfl rfl rfl rfl)
    | with_reducible apply OutGood.of
    | with_reducible apply good_setPair
    | with_reducible apply good_sealRefuse
    | with_reducible apply good_cipBump
    | with_reducible apply good_sealTake
    | with_reducible apply good_emit
    | with_reducible apply good_pairBump
    | with_reducible apply good_foldS
    | with_reducible apply good_ite)

theorem good_execPartnerLinkAckSend {s1 : State} (h1 : Good M s0 q s1) (hm : Cover 0x300000000000000000000100000800041 M) : OutGood M s0 q (execPartnerLinkAckSend s1) := by
  unfold execPartnerLinkAckSend
  repeat' (first
    | with_reducible assumption
    | exact Cover.sub hm rfl
    | exact Cover.bit hm rfl
    | exact Cover.bit hm (by dsimp only [Fld.block]; rfl)
    | (extract_lets -underBinder +onlyGivenNames x; refine (fun (hx : Good M s0 q x) => ?_) ?_; (on_goal 1 => try clear_value x); (on_goal 2 => subst x))
    | (extract_lets -underBinder +onlyGivenNames x; try clear_value x)
    | intro x
    | with_reducible apply OutGood.of
    | with_reducible apply good_advance
    | with_reducible apply good_emit
    | with_reducible apply good_pairBump
    | with_reducible apply good_setPair
    | with_reducible apply good_ite
    | with_reducible apply OutGood.ite)

theorem good_execHeartbeatSend {s1 : State} (h1 : Good M s0 q s1) (hm : Cover 0x300030000000000000000100000800041 M) : OutGood M s0 q (execHeartbeatSend s1) := by
  unfold execHeartbeatSend
  repeat' (first
    | with_reducible assumption
    | exact Cover.sub hm rfl
    | exact Cover.bit hm rfl
    | exact Cover.bit hm (by dsimp only [Fld.block]; rfl)
    | (extract_lets -underBinder +onlyGivenNames x; refine (fun (hx : Good M s0 q x) => ?_) ?_; (on_goal 1 => try clear_value x); (on_goal 2 => subst x))
    | (extract_lets -underBinder +onlyGivenNames x; try clear_value x)
    | intro x
    | with_reducible apply OutGood.of
    | with_reducible apply good_advance
    | with_reducible apply good_setPair
    | with_reducible apply good_sendPartner
    | with_reducible apply good_ite
    | with_reducible apply OutGood.ite)

theorem good_heartbeatNote {s1 : State} (h1 : Good M s0 q s1) (a2) (hm : Cover 0x300000000000000000000100400820240 M) : Good M s0 q (State.heartbeatNote s1 a2) := by
  unfold State.heartbeatNote
  repeat' (first
    | with_reducible assumption
    | exact Cover.sub hm rfl
    | exact Cover.bit hm rfl
    | exact Cover.bit hm (by dsimp only [Fld.block]; rfl)
    | (extract_lets -underBinder +onlyGivenNames x; refine (fun (hx : Good M s0 q x) => ?_) ?_; (on_goal 1 => try clear_value x); (on_goal 2 => subst x))
    | (extract_lets -underBinder +onlyGivenNames x; try clear_value x)
    | intro x
    | (simp only [good_mk_iff]; refine GoodParts.of (?_ : Good M s0 q _) rfl rfl rfl rfl)
    | with_reducible apply good_w
    | with_reducible apply good_pairBump
    | with_reducible apply good_setPair
    | with_reducible apply good_ite)

theorem good_heartbeatFailed {s1 : State} (h1 : Good M s0 q s1) (a2) (hm : Cover 0x10000C14F00000C0000001C0014270060 M) : Good M s0 q (State.heartbeatFailed s1 a2) := by
  unfold State.heartbeatFailed
  repeat' (first
    | with_reducible assumption
    | exact Cover.sub hm rfl
    | exact Cover.bit hm rfl
    | exact Cover.bit hm (by dsimp only [Fld.block]; rfl)
    | (extract_lets -underBinder +onlyGivenNames x; refine (fun (hx : Good M s0 q x) => ?_) ?_; (on_goal 1 => try clear_value x); (on_goal 2 => subst x))
    | (extract_lets -underBinder +onlyGivenNames x; try clear_value x)
    | intro x
    | with_reducible apply good_wb
    | with_reducible apply good_channelUnmirrors
    | with_reducible apply good_foldS
    | with_reducible apply good_ite)

theorem good_heartbeatActive {s1 : State} (h1 : Good M s0 q s1) (a2) (hm : Cover 0x30003C14F00000C1000001C0014A74060 M) : Good M s0 q (State.heartbeatActive s1 a2) := by
  unfold State.heartbeatActive
  repeat' (first
    | with_reducible assumption
    | exact Cover.sub hm rfl
    | exact Cover.bit hm rfl
    | exact Cover.bit hm (by dsimp only [Fld.block]; rfl)
    | (extract_lets -underBinder +onlyGivenNames x; refine (fun (hx : Good M s0 q x) => ?_) ?_; (on_goal 1 => try clear_value x); (on_goal 2 => subst x))
    | (extract_lets -underBinder +onlyGivenNames x; try clear_value x)
    | intro x
    | with_reducible apply good_mirrorShow
    | with_reducible apply good_unmirror
    | with_reducible apply good_reseedStart
    | with_reducible apply good_setPair
    | with_reducible apply good_w
    | with_reducible apply good_ite)

theorem good_heartbeatSeed {s1 : State} (h1 : Good M s0 q s1) (a2) (hm : Cover 0x100000140000000000000000000840040 M) : Good M s0 q (State.heartbeatSeed s1 a2) := by
  unfold State.heartbeatSeed
  repeat' (first
    | with_reducible assumption
    | exact Cover.sub hm rfl
    | exact Cover.bit hm rfl
    | exact Cover.bit hm (by dsimp only [Fld.block]; rfl)
    | (extract_lets -underBinder +onlyGivenNames x; refine (fun (hx : Good M s0 q x) => ?_) ?_; (on_goal 1 => try clear_value x); (on_goal 2 => subst x))
    | (extract_lets -underBinder +onlyGivenNames x; try clear_value x)
    | intro x
    | (simp only [good_mk_iff]; refine GoodParts.of (?_ : Good M s0 q _) rfl rfl rfl rfl)
    | with_reducible apply good_setSp
    | with_reducible apply good_crumbShow
    | with_reducible apply good_w
    | with_reducible apply good_setPair
    | with_reducible apply good_foldS
    | with_reducible apply good_ite)

theorem good_execHeartbeatReceived (a1) {s2 : State} (h2 : Good M s0 q s2) (hm : Cover 0x30003FD5F00000D1700001F1414BFFB60 M) : OutGood M s0 q (execHeartbeatReceived a1 s2) := by
  unfold execHeartbeatReceived
  repeat' (first
    | with_reducible assumption
    | exact Cover.sub hm rfl
    | exact Cover.bit hm rfl
    | exact Cover.bit hm (by dsimp only [Fld.block]; rfl)
    | (extract_lets -underBinder +onlyGivenNames x; refine (fun (hx : Good M s0 q x) => ?_) ?_; (on_goal 1 => try clear_value x); (on_goal 2 => subst x))
    | (extract_lets -underBinder +onlyGivenNames x; try clear_value x)
    | intro x
    | with_reducible apply OutGood.of
    | with_reducible apply good_reportBounds
    | with_reducible apply good_heartbeatFailed
    | with_reducible apply good_heartbeatNote
    | with_reducible apply good_pairCompare
    | with_reducible apply good_heartbeatSeed
    | with_reducible apply good_heartbeatActive
    | with_reducible apply good_ite
    | with_reducible apply OutGood.ite)

theorem good_execPartnerLost (a1) {s2 : State} (h2 : Good M s0 q s2) (hm : Cover 0x30000001C00000C000010100004831361 M) : OutGood M s0 q (execPartnerLost a1 s2) := by
  unfold execPartnerLost
  repeat' (first
    | with_reducible assumption
    | exact Cover.sub hm rfl
    | exact Cover.bit hm rfl
    | exact Cover.bit hm (by dsimp only [Fld.block]; rfl)
    | (extract_lets -underBinder +onlyGivenNames x; refine (fun (hx : Good M s0 q x) => ?_) ?_; (on_goal 1 => try clear_value x); (on_goal 2 => subst x))
    | (extract_lets -underBinder +onlyGivenNames x; try clear_value x)
    | intro x
    | (simp only [good_mk_iff]; refine GoodParts.of (?_ : Good M s0 q _) rfl rfl rfl rfl)
    | with_reducible apply OutGood.of
    | with_reducible apply good_advance
    | with_reducible apply good_w
    | with_reducible apply good_partnerLost
    | with_reducible apply good_ite
    | with_reducible apply OutGood.ite
    | split)

theorem good_execHelloSend {s1 : State} (h1 : Good M s0 q s1) (hm : Cover 0x300030000000000000000100000800041 M) : OutGood M s0 q (execHelloSend s1) := by
  unfold execHelloSend
  repeat' (first
    | with_reducible assumption
    | exact Cover.sub hm rfl
    | exact Cover.bit hm rfl
    | exact Cover.bit hm (by dsimp only [Fld.block]; rfl)
    | (extract_lets -underBinder +onlyGivenNames x; refine (fun (hx : Good M s0 q x) => ?_) ?_; (on_goal 1 => try clear_value x); (on_goal 2 => subst x))
    | (extract_lets -underBinder +onlyGivenNames x; try clear_value x)
    | intro x
    | with_reducible apply OutGood.of
    | with_reducible apply good_setPair
    | with_reducible apply good_advance
    | with_reducible apply good_w
    | with_reducible apply good_sendControl
    | with_reducible apply good_ite
    | with_reducible apply OutGood.ite)

theorem good_execHelloReceived (a1) {s2 : State} (h2 : Good M s0 q s2) (hm : Cover 0x300030000000000000000100000800042 M) : OutGood M s0 q (execHelloReceived a1 s2) := by
  unfold execHelloReceived
  repeat' (first
    | with_reducible assumption
    | exact Cover.sub hm rfl
    | exact Cover.bit hm rfl
    | exact Cover.bit hm (by dsimp only [Fld.block]; rfl)
    | (extract_lets -underBinder +onlyGivenNames x; refine (fun (hx : Good M s0 q x) => ?_) ?_; (on_goal 1 => try clear_value x); (on_goal 2 => subst x))
    | (extract_lets -underBinder +onlyGivenNames x; try clear_value x)
    | intro x
    | with_reducible apply OutGood.of
    | with_reducible apply good_w
    | with_reducible apply good_setPair
    | with_reducible apply good_tick
    | with_reducible apply good_sendControl
    | with_reducible apply good_ite
    | with_reducible apply OutGood.ite)

theorem good_execAuthenticationReceived (a1) (a2) (a3) (a4) (a5) {s6 : State} (h6 : Good M s0 q s6) (hm : Cover 0x30003FD5F00000D0700101F1414FFFB60 M) : OutGood M s0 q (execAuthenticationReceived a1 a2 a3 a4 a5 s6) := by
  unfold execAuthenticationReceived
  repeat' (first
    | with_reducible assumption
    | exact Cover.sub hm rfl
    | exact Cover.bit hm rfl
    | exact Cover.bit hm (by dsimp only [Fld.block]; rfl)
    | (extract_lets -underBinder +onlyGivenNames x; refine (fun (hx : Good M s0 q x) => ?_) ?_; (on_goal 1 => try clear_value x); (on_goal 2 => subst x))
    | (extract_lets -underBinder +onlyGivenNames x; try clear_value x)
    | intro x
    | (simp only [good_mk_iff]; refine GoodParts.of (?_ : Good M s0 q _) rfl rfl rfl rfl)
    | with_reducible apply OutGood.of
    | with_reducible apply good_w
    | with_reducible apply good_setPair
    | with_reducible apply good_pairRefused
    | with_reducible apply good_slotLoaded
    | with_reducible apply good_ringShow
    | with_reducible apply good_keyReport
    | with_reducible apply good_pairCompare
    | with_reducible apply good_trig
    | with_reducible apply good_ite
    | with_reducible apply OutGood.ite)

theorem good_execRekeyPhaseStart {s1 : State} (h1 : Good M s0 q s1) (hm : Cover 0x30003C55400000C0000001C0014E60041 M) : OutGood M s0 q (execRekeyPhaseStart s1) := by
  unfold execRekeyPhaseStart
  repeat' (first
    | with_reducible assumption
    | exact Cover.sub hm rfl
    | exact Cover.bit hm rfl
    | exact Cover.bit hm (by dsimp only [Fld.block]; rfl)
    | (extract_lets -underBinder +onlyGivenNames x; refine (fun (hx : Good M s0 q x) => ?_) ?_; (on_goal 1 => try clear_value x); (on_goal 2 => subst x))
    | (extract_lets -underBinder +onlyGivenNames x; try clear_value x)
    | intro x
    | with_reducible apply OutGood.of
    | with_reducible apply good_reachTs
    | with_reducible apply good_slotLoaded
    | with_reducible apply good_sendControl
    | with_reducible apply good_setPair
    | with_reducible apply good_ite
    | with_reducible apply OutGood.ite)

theorem good_execRekeyAnnounceReceived (a1) {s2 : State} (h2 : Good M s0 q s2) (hm : Cover 0x30003C55400000C0000001C0014E60040 M) : OutGood M s0 q (execRekeyAnnounceReceived a1 s2) := by
  unfold execRekeyAnnounceReceived
  repeat' (first
    | with_reducible assumption
    | exact Cover.sub hm rfl
    | exact Cover.bit hm rfl
    | exact Cover.bit hm (by dsimp only [Fld.block]; rfl)
    | (extract_lets -underBinder +onlyGivenNames x; try clear_value x)
    | intro x
    | with_reducible apply OutGood.of
    | with_reducible apply good_sendControl
    | with_reducible apply good_slotLoaded
    | with_reducible apply good_ite
    | with_reducible apply OutGood.ite)

theorem good_execRekeyAckReceived (a1) {s2 : State} (h2 : Good M s0 q s2) (hm : Cover 0x300030000000000000000100000C00040 M) : OutGood M s0 q (execRekeyAckReceived a1 s2) := by
  unfold execRekeyAckReceived
  repeat' (first
    | with_reducible assumption
    | exact Cover.sub hm rfl
    | exact Cover.bit hm rfl
    | exact Cover.bit hm (by dsimp only [Fld.block]; rfl)
    | (extract_lets -underBinder +onlyGivenNames x; refine (fun (hx : Good M s0 q x) => ?_) ?_; (on_goal 1 => try clear_value x); (on_goal 2 => subst x))
    | (extract_lets -underBinder +onlyGivenNames x; try clear_value x)
    | intro x
    | with_reducible apply OutGood.of
    | with_reducible apply good_promote
    | with_reducible apply good_setPair
    | with_reducible apply good_pairBump
    | with_reducible apply good_ev
    | with_reducible apply good_w
    | with_reducible apply good_ite
    | with_reducible apply OutGood.ite)

theorem good_execKeyReportReceived (a1) {s2 : State} (h2 : Good M s0 q s2) (hm : Cover 0x30000C0000000000000001C0010A00040 M) : OutGood M s0 q (execKeyReportReceived a1 s2) := by
  unfold execKeyReportReceived
  repeat' (first
    | with_reducible assumption
    | exact Cover.sub hm rfl
    | exact Cover.bit hm rfl
    | exact Cover.bit hm (by dsimp only [Fld.block]; rfl)
    | (extract_lets -underBinder +onlyGivenNames x; try clear_value x)
    | intro x
    | with_reducible apply OutGood.of
    | with_reducible apply good_fenceDue
    | with_reducible apply good_setPair
    | with_reducible apply good_ite
    | with_reducible apply OutGood.ite)

theorem good_execAcquisitionStateReceived (a1) {s2 : State} (h2 : Good M s0 q s2) (hm : Cover 0x800000 M) : OutGood M s0 q (execAcquisitionStateReceived a1 s2) := by
  unfold execAcquisitionStateReceived
  repeat' (first
    | with_reducible assumption
    | exact Cover.sub hm rfl
    | exact Cover.bit hm rfl
    | exact Cover.bit hm (by dsimp only [Fld.block]; rfl)
    | (extract_lets -underBinder +onlyGivenNames x; try clear_value x)
    | intro x
    | with_reducible apply OutGood.of
    | with_reducible apply good_setPair
    | with_reducible apply good_ite
    | with_reducible apply OutGood.ite)

theorem good_shadowPlace {s1 : State} (h1 : Good M s0 q s1) (a2) (a3) (a4) (hm : Cover 0x30003014F000000300000100000874040 M) : Good M s0 q (State.shadowPlace s1 a2 a3 a4) := by
  unfold State.shadowPlace
  repeat' (first
    | with_reducible assumption
    | exact Cover.sub hm rfl
    | exact Cover.bit hm rfl
    | exact Cover.bit hm (by dsimp only [Fld.block]; rfl)
    | (extract_lets -underBinder +onlyGivenNames x; refine (fun (hx : Good M s0 q x) => ?_) ?_; (on_goal 1 => try clear_value x); (on_goal 2 => subst x))
    | (extract_lets -underBinder +onlyGivenNames x; try clear_value x)
    | intro x
    | (simp only [good_mk_iff]; refine GoodParts.of (?_ : Good M s0 q _) rfl rfl rfl rfl)
    | with_reducible apply good_setConn
    | with_reducible apply good_joinSlot
    | with_reducible apply good_rxNext
    | with_reducible apply good_ite
    | split)

theorem good_execReplicatedFrameReceived (a1) (a2) {s3 : State} (h3 : Good M s0 q s3) (hm : Cover 0x30003014F000000300000100000874040 M) : OutGood M s0 q (execReplicatedFrameReceived a1 a2 s3) := by
  unfold execReplicatedFrameReceived
  repeat' (first
    | with_reducible assumption
    | exact Cover.sub hm rfl
    | exact Cover.bit hm rfl
    | exact Cover.bit hm (by dsimp only [Fld.block]; rfl)
    | (extract_lets -underBinder +onlyGivenNames x; try clear_value x)
    | intro x
    | (simp only [good_mk_iff]; refine GoodParts.of (?_ : Good M s0 q _) rfl rfl rfl rfl)
    | with_reducible apply OutGood.of
    | with_reducible apply good_onCd
    | with_reducible apply good_shadowPlace
    | with_reducible apply good_ite)

theorem good_execCarriedDataReceived (a1) (a2) (a3) (a4) {s5 : State} (h5 : Good M s0 q s5) (hm : Cover 0x140000000000000000000840000 M) : OutGood M s0 q (execCarriedDataReceived a1 a2 a3 a4 s5) := by
  unfold execCarriedDataReceived
  repeat' (first
    | with_reducible assumption
    | exact Cover.sub hm rfl
    | exact Cover.bit hm rfl
    | exact Cover.bit hm (by dsimp only [Fld.block]; rfl)
    | (extract_lets -underBinder +onlyGivenNames x; refine (fun (hx : Good M s0 q x) => ?_) ?_; (on_goal 1 => try clear_value x); (on_goal 2 => subst x))
    | (extract_lets -underBinder +onlyGivenNames x; try clear_value x)
    | intro x
    | (simp only [good_mk_iff]; refine GoodParts.of (?_ : Good M s0 q _) rfl rfl rfl rfl)
    | with_reducible apply OutGood.of
    | with_reducible apply good_onCd
    | with_reducible apply good_setPair
    | with_reducible apply good_setSp
    | with_reducible apply good_ite
    | with_reducible apply OutGood.ite
    | split)

theorem good_execTableEventReceived (a1) (a2) (a3) (a4) (a5) (a6) (a7) {s8 : State} (h8 : Good M s0 q s8) (hm : Cover 0x100000000000000000000000000810000 M) : OutGood M s0 q (execTableEventReceived a1 a2 a3 a4 a5 a6 a7 s8) := by
  unfold execTableEventReceived
  repeat' (first
    | with_reducible assumption
    | exact Cover.sub hm rfl
    | exact Cover.bit hm rfl
    | exact Cover.bit hm (by dsimp only [Fld.block]; rfl)
    | (extract_lets -underBinder +onlyGivenNames x; refine (fun (hx : Good M s0 q x) => ?_) ?_; (on_goal 1 => try clear_value x); (on_goal 2 => subst x))
    | (extract_lets -underBinder +onlyGivenNames x; try clear_value x)
    | intro x
    | (simp only [good_mk_iff]; refine GoodParts.of (?_ : Good M s0 q _) rfl rfl rfl rfl)
    | with_reducible apply OutGood.of
    | with_reducible apply good_onCd
    | with_reducible apply good_setPair
    | with_reducible apply good_setConn
    | with_reducible apply good_setRegion
    | with_reducible apply good_w
    | with_reducible apply good_ite
    | with_reducible apply OutGood.ite
    | split)

theorem good_execSeedFrameReceived (a1) (a2) (a3) {s4 : State} (h4 : Good M s0 q s4) (hm : Cover 0x3000001CC000000000000100000040040 M) : OutGood M s0 q (execSeedFrameReceived a1 a2 a3 s4) := by
  unfold execSeedFrameReceived
  repeat' (first
    | with_reducible assumption
    | exact Cover.sub hm rfl
    | exact Cover.bit hm rfl
    | exact Cover.bit hm (by dsimp only [Fld.block]; rfl)
    | (extract_lets -underBinder +onlyGivenNames x; refine (fun (hx : Good M s0 q x) => ?_) ?_; (on_goal 1 => try clear_value x); (on_goal 2 => subst x))
    | (extract_lets -underBinder +onlyGivenNames x; try clear_value x)
    | intro x
    | (simp only [good_mk_iff]; refine GoodParts.of (?_ : Good M s0 q _) rfl rfl rfl rfl)
    | with_reducible apply OutGood.of
    | with_reducible apply good_onCd
    | with_reducible apply good_pairBump
    | with_reducible apply good_commitBlock
    | with_reducible apply good_commitRange
    | with_reducible apply good_setSp
    | with_reducible apply good_w
    | with_reducible apply good_crumbShow
    | with_reducible apply good_foldS
    | with_reducible apply good_ite)

theorem good_execPralineTransferReceived (a1) (a2) (a3) {s4 : State} (h4 : Good M s0 q s4) (hm : Cover 0x400000 M) : OutGood M s0 q (execPralineTransferReceived a1 a2 a3 s4) := by
  unfold execPralineTransferReceived
  repeat' (first
    | with_reducible assumption
    | exact Cover.sub hm rfl
    | exact Cover.bit hm rfl
    | exact Cover.bit hm (by dsimp only [Fld.block]; rfl)
    | (extract_lets -underBinder +onlyGivenNames x; try clear_value x)
    | intro x
    | (simp only [good_mk_iff]; refine GoodParts.of (?_ : Good M s0 q _) rfl rfl rfl rfl)
    | with_reducible apply OutGood.of
    | with_reducible apply good_ite
    | with_reducible apply OutGood.ite)

theorem good_execReseedComplete {s1 : State} (h1 : Good M s0 q s1) (hm : Cover 0x100000000000000100000000000804120 M) : OutGood M s0 q (execReseedComplete s1) := by
  unfold execReseedComplete
  repeat' (first
    | with_reducible assumption
    | exact Cover.sub hm rfl
    | exact Cover.bit hm rfl
    | exact Cover.bit hm (by dsimp only [Fld.block]; rfl)
    | (extract_lets -underBinder +onlyGivenNames x; refine (fun (hx : Good M s0 q x) => ?_) ?_; (on_goal 1 => try clear_value x); (on_goal 2 => subst x))
    | (extract_lets -underBinder +onlyGivenNames x; try clear_value x)
    | intro x
    | with_reducible apply OutGood.of
    | with_reducible apply good_seedOff
    | with_reducible apply good_mirrorShow
    | with_reducible apply good_w
    | with_reducible apply good_trig
    | with_reducible apply good_ite
    | with_reducible apply OutGood.ite)

theorem good_execLeaseRenewalTick {s1 : State} (h1 : Good M s0 q s1) (hm : Cover 0x30000C0000000000000001C0010A00040 M) : OutGood M s0 q (execLeaseRenewalTick s1) := by
  unfold execLeaseRenewalTick
  repeat' (first
    | with_reducible assumption
    | exact Cover.sub hm rfl
    | exact Cover.bit hm rfl
    | exact Cover.bit hm (by dsimp only [Fld.block]; rfl)
    | (extract_lets -underBinder +onlyGivenNames x; refine (fun (hx : Good M s0 q x) => ?_) ?_; (on_goal 1 => try clear_value x); (on_goal 2 => subst x))
    | (extract_lets -underBinder +onlyGivenNames x; try clear_value x)
    | intro x
    | with_reducible apply OutGood.of
    | with_reducible apply good_setPair
    | with_reducible apply good_pairBump
    | with_reducible apply good_leaseWrite
    | with_reducible apply good_ev
    | with_reducible apply good_foldS
    | with_reducible apply good_ite
    | with_reducible apply OutGood.ite)

theorem good_execLeaseKick (a1) {s2 : State} (h2 : Good M s0 q s2) (hm : Cover 0x130000800060 M) : OutGood M s0 q (execLeaseKick a1 s2) := by
  unfold execLeaseKick
  repeat' (first
    | with_reducible assumption
    | exact Cover.sub hm rfl
    | exact Cover.bit hm rfl
    | exact Cover.bit hm (by dsimp only [Fld.block]; rfl)
    | (extract_lets -underBinder +onlyGivenNames x; try clear_value x)
    | intro x
    | with_reducible apply OutGood.of
    | with_reducible apply good_secureOnly
    | with_reducible apply good_setPair)

theorem good_execLeaseAcquisitionWrite (a1) (a2) {s3 : State} (h3 : Good M s0 q s3) (hm : Cover 0xC0000000000000001C0010A00040 M) : OutGood M s0 q (execLeaseAcquisitionWrite a1 a2 s3) := by
  unfold execLeaseAcquisitionWrite
  repeat' (first
    | with_reducible assumption
    | exact Cover.sub hm rfl
    | exact Cover.bit hm rfl
    | exact Cover.bit hm (by dsimp only [Fld.block]; rfl)
    | (extract_lets -underBinder +onlyGivenNames x; try clear_value x)
    | intro x
    | with_reducible apply OutGood.of
    | with_reducible apply good_leaseWrite
    | with_reducible apply good_ite
    | with_reducible apply OutGood.ite)

theorem good_execLeaseSlotWriteComplete (a1) (a2) {s3 : State} (h3 : Good M s0 q s3) (hm : Cover 0x30003414F00000C000000100004A70160 M) : OutGood M s0 q (execLeaseSlotWriteComplete a1 a2 s3) := by
  unfold execLeaseSlotWriteComplete
  repeat' (first
    | with_reducible assumption
    | exact Cover.sub hm rfl
    | exact Cover.bit hm rfl
    | exact Cover.bit hm (by dsimp only [Fld.block]; rfl)
    | (extract_lets -underBinder +onlyGivenNames x; refine (fun (hx : Good M s0 q x) => ?_) ?_; (on_goal 1 => try clear_value x); (on_goal 2 => subst x))
    | (extract_lets -underBinder +onlyGivenNames x; try clear_value x)
    | intro x
    | (simp only [good_mk_iff]; refine GoodParts.of (?_ : Good M s0 q _) rfl rfl rfl rfl)
    | with_reducible apply OutGood.of
    | with_reducible apply good_drvTake
    | with_reducible apply good_pairBump
    | with_reducible apply good_setLease
    | with_reducible apply good_leaseEval
    | with_reducible apply good_claimGone
    | with_reducible apply good_setPair
    | with_reducible apply good_claimRequest
    | with_reducible apply good_ite
    | with_reducible apply OutGood.ite
    | split)

theorem good_execLeaseEvaluate {s1 : State} (h1 : Good M s0 q s1) (hm : Cover 0x300030000000000000000100000800160 M) : OutGood M s0 q (execLeaseEvaluate s1) := by
  unfold execLeaseEvaluate
  repeat' (first
    | with_reducible assumption
    | exact Cover.sub hm rfl
    | exact Cover.bit hm rfl
    | exact Cover.bit hm (by dsimp only [Fld.block]; rfl)
    | (extract_lets -underBinder +onlyGivenNames x; try clear_value x)
    | intro x
    | with_reducible apply OutGood.of
    | with_reducible apply good_claimRequest
    | with_reducible apply good_leaseEval)

theorem good_execHardwareLeaseTimerFire {s1 : State} (h1 : Good M s0 q s1) (hm : Cover 0x1F0003414F00000C000000100004870161 M) : OutGood M s0 q (execHardwareLeaseTimerFire s1) := by
  unfold execHardwareLeaseTimerFire
  repeat' (first
    | with_reducible assumption
    | exact Cover.sub hm rfl
    | exact Cover.bit hm rfl
    | exact Cover.bit hm (by dsimp only [Fld.block]; rfl)
    | (extract_lets -underBinder +onlyGivenNames x; refine (fun (hx : Good M s0 q x) => ?_) ?_; (on_goal 1 => try clear_value x); (on_goal 2 => subst x))
    | (extract_lets -underBinder +onlyGivenNames x; try clear_value x)
    | intro x
    | with_reducible apply OutGood.of
    | with_reducible apply good_leaseEval
    | with_reducible apply good_reachTs
    | with_reducible apply good_claimGone
    | with_reducible apply good_trig
    | with_reducible apply good_flushStop
    | with_reducible apply good_foldS
    | with_reducible apply good_ite
    | with_reducible apply OutGood.ite)

theorem good_execPartnerSlotRead {s1 : State} (h1 : Good M s0 q s1) (hm : Cover 0xC0000000000000001C0010200040 M) : OutGood M s0 q (execPartnerSlotRead s1) := by
  unfold execPartnerSlotRead
  repeat' (first
    | with_reducible assumption
    | exact Cover.sub hm rfl
    | exact Cover.bit hm rfl
    | exact Cover.bit hm (by dsimp only [Fld.block]; rfl)
    | (extract_lets -underBinder +onlyGivenNames x; refine (fun (hx : Good M s0 q x) => ?_) ?_; (on_goal 1 => try clear_value x); (on_goal 2 => subst x))
    | (extract_lets -underBinder +onlyGivenNames x; try clear_value x)
    | intro x
    | (simp only [good_mk_iff]; refine GoodParts.of (?_ : Good M s0 q _) rfl rfl rfl rfl)
    | with_reducible apply OutGood.of
    | with_reducible apply good_drvIssue
    | with_reducible apply good_foldS
    | with_reducible apply good_ite
    | with_reducible apply OutGood.ite)

theorem good_execPartnerSlotReadComplete (a1) (a2) {s3 : State} (h3 : Good M s0 q s3) (hm : Cover 0x300030000000000000000100000A00160 M) : OutGood M s0 q (execPartnerSlotReadComplete a1 a2 s3) := by
  unfold execPartnerSlotReadComplete
  repeat' (first
    | with_reducible assumption
    | exact Cover.sub hm rfl
    | exact Cover.bit hm rfl
    | exact Cover.bit hm (by dsimp only [Fld.block]; rfl)
    | (extract_lets -underBinder +onlyGivenNames x; refine (fun (hx : Good M s0 q x) => ?_) ?_; (on_goal 1 => try clear_value x); (on_goal 2 => subst x))
    | (extract_lets -underBinder +onlyGivenNames x; try clear_value x)
    | intro x
    | (simp only [good_mk_iff]; refine GoodParts.of (?_ : Good M s0 q _) rfl rfl rfl rfl)
    | with_reducible apply OutGood.of
    | with_reducible apply good_drvTake
    | with_reducible apply good_setLease
    | with_reducible apply good_staleSet
    | with_reducible apply good_leaseEval
    | with_reducible apply good_ite
    | with_reducible apply OutGood.ite
    | split)

theorem good_execInterlockClaimWindowEnd {s1 : State} (h1 : Good M s0 q s1) (hm : Cover 0x30000C0000000000000001C0010A00161 M) : OutGood M s0 q (execInterlockClaimWindowEnd s1) := by
  unfold execInterlockClaimWindowEnd
  repeat' (first
    | with_reducible assumption
    | exact Cover.sub hm rfl
    | exact Cover.bit hm rfl
    | exact Cover.bit hm (by dsimp only [Fld.block]; rfl)
    | (extract_lets -underBinder +onlyGivenNames x; refine (fun (hx : Good M s0 q x) => ?_) ?_; (on_goal 1 => try clear_value x); (on_goal 2 => subst x))
    | (extract_lets -underBinder +onlyGivenNames x; try clear_value x)
    | intro x
    | (simp only [good_mk_iff]; refine GoodParts.of (?_ : Good M s0 q _) rfl rfl rfl rfl)
    | with_reducible apply OutGood.of
    | with_reducible apply good_advance
    | with_reducible apply good_pairBump
    | with_reducible apply good_w
    | with_reducible apply good_setPair
    | with_reducible apply good_trig
    | with_reducible apply good_fenceDue
    | with_reducible apply good_ite
    | with_reducible apply OutGood.ite
    | split)

theorem good_execInterlockInAssert (a1) {s2 : State} (h2 : Good M s0 q s2) (hm : Cover 0x300030000000000000000100002800060 M) : OutGood M s0 q (execInterlockInAssert a1 s2) := by
  unfold execInterlockInAssert
  repeat' (first
    | with_reducible assumption
    | exact Cover.sub hm rfl
    | exact Cover.bit hm rfl
    | exact Cover.bit hm (by dsimp only [Fld.block]; rfl)
    | (extract_lets -underBinder +onlyGivenNames x; refine (fun (hx : Good M s0 q x) => ?_) ?_; (on_goal 1 => try clear_value x); (on_goal 2 => subst x))
    | (extract_lets -underBinder +onlyGivenNames x; try clear_value x)
    | intro x
    | with_reducible apply OutGood.of
    | with_reducible apply good_wb
    | with_reducible apply good_gateOfferAll
    | with_reducible apply good_contend
    | with_reducible apply good_ite
    | with_reducible apply OutGood.ite)

theorem good_execInterlockClaimRetry {s1 : State} (h1 : Good M s0 q s1) (hm : Cover 0x300000000000000000000100000800061 M) : OutGood M s0 q (execInterlockClaimRetry s1) := by
  unfold execInterlockClaimRetry
  repeat' (first
    | with_reducible assumption
    | exact Cover.sub hm rfl
    | exact Cover.bit hm rfl
    | exact Cover.bit hm (by dsimp only [Fld.block]; rfl)
    | (extract_lets -underBinder +onlyGivenNames x; refine (fun (hx : Good M s0 q x) => ?_) ?_; (on_goal 1 => try clear_value x); (on_goal 2 => subst x))
    | (extract_lets -underBinder +onlyGivenNames x; try clear_value x)
    | intro x
    | (simp only [good_mk_iff]; refine GoodParts.of (?_ : Good M s0 q _) rfl rfl rfl rfl)
    | with_reducible apply OutGood.of
    | with_reducible apply good_setPair
    | with_reducible apply good_advance
    | with_reducible apply good_claimRequest
    | with_reducible apply good_ite
    | with_reducible apply OutGood.ite
    | split)

theorem good_execReservationFencingComplete (a1) (a2) (a3) (a4) {s5 : State} (h5 : Good M s0 q s5) (hm : Cover 0x30000DD5C00000C0000001C0014BE0162 M) : OutGood M s0 q (execReservationFencingComplete a1 a2 a3 a4 s5) := by
  unfold execReservationFencingComplete
  repeat' (first
    | with_reducible assumption
    | exact Cover.sub hm rfl
    | (extract_lets -underBinder +onlyGivenNames x; refine (fun (hf : ∀ k : State → State, (∀ y, Good M s0 q y → Good M s0 q (k y)) → Good M s0 q (x k)) => ?_) ?_; (on_goal 1 => try clear_value x); (on_goal 2 => subst x))
    | (extract_lets -underBinder +onlyGivenNames x; refine (fun (hf : ∀ y, Good M s0 q y → Good M s0 q (x y)) => ?_) ?_; (on_goal 1 => try clear_value x); (on_goal 2 => subst x))
    | (extract_lets -underBinder +onlyGivenNames x; refine (fun (hf : ∀ a, Good M s0 q (x a)) => ?_) ?_; (on_goal 1 => try clear_value x); (on_goal 2 => subst x))
    | exact Cover.bit hm rfl
    | exact Cover.bit hm (by dsimp only [Fld.block]; rfl)
    | (extract_lets -underBinder +onlyGivenNames x; refine (fun (hx : Good M s0 q x) => ?_) ?_; (on_goal 1 => try clear_value x); (on_goal 2 => subst x))
    | (extract_lets -underBinder +onlyGivenNames x; try clear_value x)
    | intro x
    | (simp only [good_mk_iff]; refine GoodParts.of (?_ : Good M s0 q _) rfl rfl rfl rfl)
    | with_reducible apply OutGood.of
    | with_reducible apply good_setPair
    | with_reducible apply good_bayOut
    | with_reducible apply good_fenceEnd
    | with_reducible apply good_drvTake
    | with_reducible apply good_drvIssue
    | with_reducible apply good_pairBump
    | with_reducible apply good_foldS
    | apply_assumption -exfalso -symm
    | with_reducible apply good_ite
    | with_reducible apply OutGood.ite
    | split)

theorem good_execPairCmdClearStale (a1) {s2 : State} (h2 : Good M s0 q s2) (hm : Cover 0x100000000000000000000130000000060 M) : OutGood M s0 q (execPairCmdClearStale a1 s2) := by
  unfold execPairCmdClearStale
  repeat' (first
    | with_reducible assumption
    | exact Cover.sub hm rfl
    | exact Cover.bit hm rfl
    | exact Cover.bit hm (by dsimp only [Fld.block]; rfl)
    | (extract_lets -underBinder +onlyGivenNames x; try clear_value x)
    | intro x
    | with_reducible apply OutGood.of
    | with_reducible apply good_secureOnly
    | with_reducible apply good_logEv
    | with_reducible apply good_w
    | with_reducible apply good_ite)

theorem good_execPairCmdHandover (a1) {s2 : State} (h2 : Good M s0 q s2) (hm : Cover 0x30003001400000C000000130004820060 M) : OutGood M s0 q (execPairCmdHandover a1 s2) := by
  unfold execPairCmdHandover
  repeat' (first
    | with_reducible assumption
    | exact Cover.sub hm rfl
    | exact Cover.bit hm rfl
    | exact Cover.bit hm (by dsimp only [Fld.block]; rfl)
    | (extract_lets -underBinder +onlyGivenNames x; try clear_value x)
    | intro x
    | with_reducible apply OutGood.of
    | with_reducible apply good_secureOnly
    | with_reducible apply good_handoverAsk
    | with_reducible apply good_discardState
    | with_reducible apply good_ite)

theorem good_execPairCmdCancelHandover (a1) {s2 : State} (h2 : Good M s0 q s2) (hm : Cover 0x1C00000C000000130004830060 M) : OutGood M s0 q (execPairCmdCancelHandover a1 s2) := by
  unfold execPairCmdCancelHandover
  repeat' (first
    | with_reducible assumption
    | exact Cover.sub hm rfl
    | exact Cover.bit hm rfl
    | exact Cover.bit hm (by dsimp only [Fld.block]; rfl)
    | (extract_lets -underBinder +onlyGivenNames x; try clear_value x)
    | intro x
    | with_reducible apply OutGood.of
    | with_reducible apply good_secureOnly
    | with_reducible apply good_offer
    | with_reducible apply good_nsmShow
    | with_reducible apply good_setPair
    | with_reducible apply good_discardState
    | with_reducible apply good_foldS
    | with_reducible apply good_ite)

theorem good_execPartnerLossH0 {s1 : State} (h1 : Good M s0 q s1) (hm : Cover 0x30000C0000000000000001C0010A00041 M) : OutGood M s0 q (execPartnerLossH0 s1) := by
  unfold execPartnerLossH0
  repeat' (first
    | with_reducible assumption
    | exact Cover.sub hm rfl
    | exact Cover.bit hm rfl
    | exact Cover.bit hm (by dsimp only [Fld.block]; rfl)
    | (extract_lets -underBinder +onlyGivenNames x; refine (fun (hx : Good M s0 q x) => ?_) ?_; (on_goal 1 => try clear_value x); (on_goal 2 => subst x))
    | (extract_lets -underBinder +onlyGivenNames x; try clear_value x)
    | intro x
    | with_reducible apply OutGood.of
    | with_reducible apply good_reachTs
    | with_reducible apply good_setPair
    | with_reducible apply good_pairBump
    | with_reducible apply good_leaseWrite
    | with_reducible apply good_foldS
    | with_reducible apply good_ite
    | with_reducible apply OutGood.ite)

theorem good_execPartnerLossUnmirror {s1 : State} (h1 : Good M s0 q s1) (hm : Cover 0x10000C14F00000C1000001C0014A74061 M) : OutGood M s0 q (execPartnerLossUnmirror s1) := by
  unfold execPartnerLossUnmirror
  repeat' (first
    | with_reducible assumption
    | exact Cover.sub hm rfl
    | exact Cover.bit hm rfl
    | exact Cover.bit hm (by dsimp only [Fld.block]; rfl)
    | (extract_lets -underBinder +onlyGivenNames x; refine (fun (hx : Good M s0 q x) => ?_) ?_; (on_goal 1 => try clear_value x); (on_goal 2 => subst x))
    | (extract_lets -underBinder +onlyGivenNames x; try clear_value x)
    | intro x
    | with_reducible apply OutGood.of
    | with_reducible apply good_advance
    | with_reducible apply good_unmirror
    | with_reducible apply good_ite
    | with_reducible apply OutGood.ite)

theorem good_execTakeoverMajorityTimeout {s1 : State} (h1 : Good M s0 q s1) (hm : Cover 0x100000000161 M) : OutGood M s0 q (execTakeoverMajorityTimeout s1) := by
  unfold execTakeoverMajorityTimeout
  repeat' (first
    | with_reducible assumption
    | exact Cover.sub hm rfl
    | exact Cover.bit hm rfl
    | exact Cover.bit hm (by dsimp only [Fld.block]; rfl)
    | (extract_lets -underBinder +onlyGivenNames x; refine (fun (hx : Good M s0 q x) => ?_) ?_; (on_goal 1 => try clear_value x); (on_goal 2 => subst x))
    | (extract_lets -underBinder +onlyGivenNames x; try clear_value x)
    | intro x
    | with_reducible apply OutGood.of
    | with_reducible apply good_advance
    | with_reducible apply good_trig
    | with_reducible apply good_ite
    | with_reducible apply OutGood.ite)

theorem good_execHandoverRequestReceived {s1 : State} (h1 : Good M s0 q s1) (hm : Cover 0x300030000000000000000100000800040 M) : OutGood M s0 q (execHandoverRequestReceived s1) := by
  unfold execHandoverRequestReceived
  repeat' (first
    | with_reducible assumption
    | exact Cover.sub hm rfl
    | exact Cover.bit hm rfl
    | exact Cover.bit hm (by dsimp only [Fld.block]; rfl)
    | (extract_lets -underBinder +onlyGivenNames x; try clear_value x)
    | intro x
    | with_reducible apply OutGood.of
    | with_reducible apply good_sendControl
    | with_reducible apply good_ite
    | with_reducible apply OutGood.ite)

theorem good_execHandoverAcceptReceived {s1 : State} (h1 : Good M s0 q s1) (hm : Cover 0x1400000C000000100004830140 M) : OutGood M s0 q (execHandoverAcceptReceived s1) := by
  unfold execHandoverAcceptReceived
  repeat' (first
    | with_reducible assumption
    | exact Cover.sub hm rfl
    | exact Cover.bit hm rfl
    | exact Cover.bit hm (by dsimp only [Fld.block]; rfl)
    | (extract_lets -underBinder +onlyGivenNames x; refine (fun (hx : Good M s0 q x) => ?_) ?_; (on_goal 1 => try clear_value x); (on_goal 2 => subst x))
    | (extract_lets -underBinder +onlyGivenNames x; try clear_value x)
    | intro x
    | (simp only [good_mk_iff]; refine GoodParts.of (?_ : Good M s0 q _) rfl rfl rfl rfl)
    | with_reducible apply OutGood.of
    | with_reducible apply good_setPair
    | with_reducible apply good_drainStart
    | with_reducible apply good_nsmShow
    | with_reducible apply good_foldS
    | with_reducible apply good_ite
    | with_reducible apply OutGood.ite)

theorem good_execHandoverAnswerTimeout {s1 : State} (h1 : Good M s0 q s1) (hm : Cover 0x10000001C00000C000000100004830161 M) : OutGood M s0 q (execHandoverAnswerTimeout s1) := by
  unfold execHandoverAnswerTimeout
  repeat' (first
    | with_reducible assumption
    | exact Cover.sub hm rfl
    | exact Cover.bit hm rfl
    | exact Cover.bit hm (by dsimp only [Fld.block]; rfl)
    | (extract_lets -underBinder +onlyGivenNames x; try clear_value x)
    | intro x
    | with_reducible apply OutGood.of
    | with_reducible apply good_handoverRefused
    | with_reducible apply good_advance
    | with_reducible apply good_ite
    | with_reducible apply OutGood.ite)

theorem good_execHandoverQuiesced {s1 : State} (h1 : Good M s0 q s1) (hm : Cover 0x30003C1CF00000C0000001C0014B70160 M) : OutGood M s0 q (execHandoverQuiesced s1) := by
  unfold execHandoverQuiesced
  repeat' (first
    | with_reducible assumption
    | exact Cover.sub hm rfl
    | exact Cover.bit hm rfl
    | exact Cover.bit hm (by dsimp only [Fld.block]; rfl)
    | (extract_lets -underBinder +onlyGivenNames x; refine (fun (hx : Good M s0 q x) => ?_) ?_; (on_goal 1 => try clear_value x); (on_goal 2 => subst x))
    | (extract_lets -underBinder +onlyGivenNames x; try clear_value x)
    | intro x
    | (simp only [good_mk_iff]; refine GoodParts.of (?_ : Good M s0 q _) rfl rfl rfl rfl)
    | with_reducible apply OutGood.of
    | refine good_abortSlot_eq (by assumption) ?_ ?_
    | with_reducible apply good_abortSlot
    | with_reducible apply good_epAbsent
    | with_reducible apply good_leaseRelease
    | with_reducible apply good_sendControl
    | with_reducible apply good_setPair
    | with_reducible apply good_foldS
    | with_reducible apply good_ite
    | with_reducible apply OutGood.ite)

theorem good_execHandoverGoReceived {s1 : State} (h1 : Good M s0 q s1) (hm : Cover 0x800120 M) : OutGood M s0 q (execHandoverGoReceived s1) := by
  unfold execHandoverGoReceived
  repeat' (first
    | with_reducible assumption
    | exact Cover.sub hm rfl
    | exact Cover.bit hm rfl
    | exact Cover.bit hm (by dsimp only [Fld.block]; rfl)
    | (extract_lets -underBinder +onlyGivenNames x; try clear_value x)
    | intro x
    | with_reducible apply OutGood.of
    | with_reducible apply good_trig
    | with_reducible apply good_setPair
    | with_reducible apply good_ite
    | with_reducible apply OutGood.ite)

theorem good_execHandoverDoneReceived {s1 : State} (h1 : Good M s0 q s1) (hm : Cover 0x300000000000000000000100000800160 M) : OutGood M s0 q (execHandoverDoneReceived s1) := by
  unfold execHandoverDoneReceived
  repeat' (first
    | with_reducible assumption
    | exact Cover.sub hm rfl
    | exact Cover.bit hm rfl
    | exact Cover.bit hm (by dsimp only [Fld.block]; rfl)
    | (extract_lets -underBinder +onlyGivenNames x; try clear_value x)
    | intro x
    | with_reducible apply OutGood.of
    | with_reducible apply good_trig
    | with_reducible apply good_pairBump
    | with_reducible apply good_setPair
    | with_reducible apply good_ite
    | with_reducible apply OutGood.ite)

theorem good_execPairSnapshot (a1) (a2) {s3 : State} (h3 : Good M s0 q s3) (hm : Cover 0x100000000000000000000000000000008 M) : OutGood M s0 q (execPairSnapshot a1 a2 s3) := by
  unfold execPairSnapshot
  repeat' (first
    | with_reducible assumption
    | exact Cover.sub hm rfl
    | exact Cover.bit hm rfl
    | exact Cover.bit hm (by dsimp only [Fld.block]; rfl)
    | (extract_lets -underBinder +onlyGivenNames x; try clear_value x)
    | intro x
    | with_reducible apply OutGood.of
    | with_reducible apply good_snapshot
    | with_reducible apply good_ite)

end Sys2Proof.Machine
end

