-- ==== Sys2Proof/Laws/Flush.lean ====
section
/-! SUPPORT. What the operations of Machine/Flush.lean keep (see Laws/Keep.lean), one lemma for each. -/

set_option Elab.async false

set_option linter.all false

namespace Sys2Proof.Machine

variable {M : Nat} {s0 : State} {q : Prop}

theorem good_execPowerWarningAssert (a1) (a2) {s3 : State} (h3 : Good M s0 q s3) (hm : Cover 0x1F0003FD5F00000C0000001C401FBF0162 M) : OutGood M s0 q (execPowerWarningAssert a1 a2 s3) := by
  unfold execPowerWarningAssert
  repeat' (first
    | with_reducible assumption
    | exact Cover.sub hm rfl
    | exact Cover.bit hm rfl
    | exact Cover.bit hm (by dsimp only [Fld.block]; rfl)
    | (extract_lets -underBinder +onlyGivenNames x; refine (fun (hx : Good M s0 q x) => ?_) ?_; (on_goal 1 => try clear_value x); (on_goal 2 => subst x))
    | (extract_lets -underBinder +onlyGivenNames x; try clear_value x)
    | intro x
    | (simp only [good_mk_iff]; refine GoodParts.of (?_ : Good M s0 q _) rfl rfl rfl rfl)
    | with_reducible apply OutGood.of
    | with_reducible apply good_w
    | with_reducible apply good_flsBump
    | with_reducible apply good_ev
    | with_reducible apply good_trig
    | with_reducible apply good_updateWarn
    | with_reducible apply good_bayWarn
    | with_reducible apply good_ite
    | with_reducible apply OutGood.ite)

theorem good_execPowerWarningDeassert (a1) {s2 : State} (h2 : Good M s0 q s2) (hm : Cover 0x1400000000000000000000000000000920 M) : OutGood M s0 q (execPowerWarningDeassert a1 s2) := by
  unfold execPowerWarningDeassert
  repeat' (first
    | with_reducible assumption
    | exact Cover.sub hm rfl
    | exact Cover.bit hm rfl
    | exact Cover.bit hm (by dsimp only [Fld.block]; rfl)
    | (extract_lets -underBinder +onlyGivenNames x; refine (fun (hx : Good M s0 q x) => ?_) ?_; (on_goal 1 => try clear_value x); (on_goal 2 => subst x))
    | (extract_lets -underBinder +onlyGivenNames x; try clear_value x)
    | intro x
    | with_reducible apply OutGood.of
    | with_reducible apply good_w
    | with_reducible apply good_wb
    | with_reducible apply good_ledgerStart
    | with_reducible apply good_bayWarnOver
    | with_reducible apply good_trig
    | with_reducible apply good_ite
    | with_reducible apply OutGood.ite)

theorem good_execHoldupDeadlineExpiry {s1 : State} (h1 : Good M s0 q s1) (hm : Cover 0x1400000000000000000000100000000041 M) : OutGood M s0 q (execHoldupDeadlineExpiry s1) := by
  unfold execHoldupDeadlineExpiry
  repeat' (first
    | with_reducible assumption
    | exact Cover.sub hm rfl
    | exact Cover.bit hm rfl
    | exact Cover.bit hm (by dsimp only [Fld.block]; rfl)
    | (extract_lets -underBinder +onlyGivenNames x; refine (fun (hx : Good M s0 q x) => ?_) ?_; (on_goal 1 => try clear_value x); (on_goal 2 => subst x))
    | (extract_lets -underBinder +onlyGivenNames x; try clear_value x)
    | intro x
    | with_reducible apply OutGood.of
    | with_reducible apply good_advance
    | with_reducible apply good_w
    | with_reducible apply good_ev
    | with_reducible apply good_earlyPower
    | with_reducible apply good_ite
    | with_reducible apply OutGood.ite)

theorem good_execFlsBudgetWrite (a1) (a2) (a3) {s4 : State} (h4 : Good M s0 q s4) (hm : Cover 0x400000000000000000000130000000060 M) : OutGood M s0 q (execFlsBudgetWrite a1 a2 a3 s4) := by
  unfold execFlsBudgetWrite
  repeat' (first
    | with_reducible assumption
    | exact Cover.sub hm rfl
    | exact Cover.bit hm rfl
    | exact Cover.bit hm (by dsimp only [Fld.block]; rfl)
    | (extract_lets -underBinder +onlyGivenNames x; refine (fun (hx : Good M s0 q x) => ?_) ?_; (on_goal 1 => try clear_value x); (on_goal 2 => subst x))
    | (extract_lets -underBinder +onlyGivenNames x; try clear_value x)
    | intro x
    | with_reducible apply OutGood.of
    | with_reducible apply good_secureOnly
    | with_reducible apply good_w
    | with_reducible apply good_ceilingShow
    | with_reducible apply good_discardRange
    | with_reducible apply good_foldS
    | with_reducible apply good_ite)

theorem good_execFlushRecordWriteComplete (a1) (a2) {s3 : State} (h3 : Good M s0 q s3) (hm : Cover 0x1C0003C0000000000000001C0011200160 M) : OutGood M s0 q (execFlushRecordWriteComplete a1 a2 s3) := by
  unfold execFlushRecordWriteComplete
  repeat' (first
    | with_reducible assumption
    | exact Cover.sub hm rfl
    | exact Cover.bit hm rfl
    | exact Cover.bit hm (by dsimp only [Fld.block]; rfl)
    | (extract_lets -underBinder +onlyGivenNames x; refine (fun (hx : Good M s0 q x) => ?_) ?_; (on_goal 1 => try clear_value x); (on_goal 2 => subst x))
    | (extract_lets -underBinder +onlyGivenNames x; try clear_value x)
    | intro x
    | (simp only [good_mk_iff]; refine GoodParts.of (?_ : Good M s0 q _) rfl rfl rfl rfl)
    | with_reducible apply OutGood.of
    | with_reducible apply good_onCd
    | with_reducible apply good_drvTake
    | with_reducible apply good_flushStop
    | with_reducible apply good_flushMemberLost
    | with_reducible apply good_flushNext
    | with_reducible apply good_setFl
    | with_reducible apply good_flsBump
    | with_reducible apply good_flushAdvance
    | with_reducible apply good_putHeader
    | with_reducible apply good_flushEnds
    | with_reducible apply good_w
    | with_reducible apply good_ite
    | with_reducible apply OutGood.ite
    | split)

theorem good_loadGroupRecord {s1 : State} (h1 : Good M s0 q s1) (a2) (a3) (a4) (a5) (hm : Cover 0xCC0C00000C0000001C00142A0060 M) : Good M s0 q (State.loadGroupRecord s1 a2 a3 a4 a5) := by
  unfold State.loadGroupRecord
  repeat' (first
    | with_reducible assumption
    | exact Cover.sub hm rfl
    | exact Cover.bit hm rfl
    | exact Cover.bit hm (by dsimp only [Fld.block]; rfl)
    | (extract_lets -underBinder +onlyGivenNames x; refine (fun (hx : Good M s0 q x) => ?_) ?_; (on_goal 1 => try clear_value x); (on_goal 2 => subst x))
    | (extract_lets -underBinder +onlyGivenNames x; try clear_value x)
    | intro x
    | (simp only [good_mk_iff]; refine GoodParts.of (?_ : Good M s0 q _) rfl rfl rfl rfl)
    | with_reducible apply good_setGrp
    | with_reducible apply good_ev
    | with_reducible apply good_deferRange
    | with_reducible apply good_recordWrite
    | with_reducible apply good_logEv
    | with_reducible apply good_foldS
    | with_reducible apply good_ite
    | split)

theorem good_intentsPending {s1 : State} (h1 : Good M s0 q s1) (a2) (hm : Cover 0x5400000000000000000000C0040 M) : Good M s0 q (State.intentsPending s1 a2) := by
  unfold State.intentsPending
  repeat' (first
    | with_reducible assumption
    | exact Cover.sub hm rfl
    | exact Cover.bit hm rfl
    | exact Cover.bit hm (by dsimp only [Fld.block]; rfl)
    | (extract_lets -underBinder +onlyGivenNames x; try clear_value x)
    | intro x
    | (simp only [good_mk_iff]; refine GoodParts.of (?_ : Good M s0 q _) rfl rfl rfl rfl)
    | with_reducible apply good_retireCrumb
    | with_reducible apply good_setGrp
    | with_reducible apply good_foldS
    | with_reducible apply good_ite
    | split)

theorem good_lostDefers {s1 : State} (h1 : Good M s0 q s1) (a2) (hm : Cover 0xC00C00000C0000001C0014220160 M) : Good M s0 q (State.lostDefers s1 a2) := by
  unfold State.lostDefers
  repeat' (first
    | with_reducible assumption
    | exact Cover.sub hm rfl
    | exact Cover.bit hm rfl
    | exact Cover.bit hm (by dsimp only [Fld.block]; rfl)
    | (extract_lets -underBinder +onlyGivenNames x; refine (fun (hx : Good M s0 q x) => ?_) ?_; (on_goal 1 => try clear_value x); (on_goal 2 => subst x))
    | (extract_lets -underBinder +onlyGivenNames x; try clear_value x)
    | intro x
    | (simp only [good_mk_iff]; refine GoodParts.of (?_ : Good M s0 q _) rfl rfl rfl rfl)
    | with_reducible apply good_deferRange
    | with_reducible apply good_foldS
    | with_reducible apply good_ite
    | split)

theorem good_channelRecords {s1 : State} (h1 : Good M s0 q s1) (a2) (a3) (hm : Cover 0x40000FD5C00000C0000001C00153E0160 M) : Good M s0 q (State.channelRecords s1 a2 a3) := by
  unfold State.channelRecords
  repeat' (first
    | with_reducible assumption
    | exact Cover.sub hm rfl
    | exact Cover.bit hm rfl
    | exact Cover.bit hm (by dsimp only [Fld.block]; rfl)
    | (extract_lets -underBinder +onlyGivenNames x; refine (fun (hx : Good M s0 q x) => ?_) ?_; (on_goal 1 => try clear_value x); (on_goal 2 => subst x))
    | (extract_lets -underBinder +onlyGivenNames x; try clear_value x)
    | intro x
    | (simp only [good_mk_iff]; refine GoodParts.of (?_ : Good M s0 q _) rfl rfl rfl rfl)
    | with_reducible apply good_loadGroupRecord
    | with_reducible apply good_setCd
    | with_reducible apply good_wb
    | with_reducible apply good_w
    | with_reducible apply good_ev
    | with_reducible apply good_deferShow
    | with_reducible apply good_deferRange
    | with_reducible apply good_setGrp
    | with_reducible apply good_setRsh
    | with_reducible apply good_reshapeRecover
    | with_reducible apply good_foldS
    | with_reducible apply good_ite
    | split)

theorem good_channelSource {s1 : State} (h1 : Good M s0 q s1) (a2) (a3) (a4) (a5) (hm : Cover 0x40000FD5C00000C0000001C00153E0160 M) : Good M s0 q (State.channelSource s1 a2 a3 a4 a5) := by
  unfold State.channelSource
  repeat' (first
    | with_reducible assumption
    | exact Cover.sub hm rfl
    | exact Cover.bit hm rfl
    | exact Cover.bit hm (by dsimp only [Fld.block]; rfl)
    | (extract_lets -underBinder +onlyGivenNames x; refine (fun (hx : Good M s0 q x) => ?_) ?_; (on_goal 1 => try clear_value x); (on_goal 2 => subst x))
    | (extract_lets -underBinder +onlyGivenNames x; try clear_value x)
    | intro x
    | (simp only [good_mk_iff]; refine GoodParts.of (?_ : Good M s0 q _) rfl rfl rfl rfl)
    | with_reducible apply good_wb
    | with_reducible apply good_w
    | with_reducible apply good_setGrp
    | with_reducible apply good_setFl
    | with_reducible apply good_intentsPending
    | with_reducible apply good_setBg
    | with_reducible apply good_nsmShow
    | with_reducible apply good_chanShow
    | with_reducible apply good_ceilingShow
    | with_reducible apply good_lostDefers
    | with_reducible apply good_foldS
    | with_reducible apply good_ite
    | split)

theorem good_execChannelStart (a1) (a2) {s3 : State} (h3 : Good M s0 q s3) (hm : Cover 0x40000FD5C00000C0000001C00153E0160 M) : OutGood M s0 q (execChannelStart a1 a2 s3) := by
  unfold execChannelStart
  repeat' (first
    | with_reducible assumption
    | exact Cover.sub hm rfl
    | exact Cover.bit hm rfl
    | exact Cover.bit hm (by dsimp only [Fld.block]; rfl)
    | (extract_lets -underBinder +onlyGivenNames x; refine (fun (hx : Good M s0 q x) => ?_) ?_; (on_goal 1 => try clear_value x); (on_goal 2 => subst x))
    | (extract_lets -underBinder +onlyGivenNames x; try clear_value x)
    | intro x
    | (simp only [good_mk_iff]; refine GoodParts.of (?_ : Good M s0 q _) rfl rfl rfl rfl)
    | with_reducible apply OutGood.of
    | with_reducible apply good_onCd
    | with_reducible apply good_channelSource
    | with_reducible apply good_channelRecords
    | with_reducible apply good_ite
    | with_reducible apply OutGood.ite
    | split)

theorem good_execGcmOpenResult (a1) (a2) (a3) {s4 : State} (h4 : Good M s0 q s4) (hm : Cover 0xC0003C1CC00000C0000001C0015660060 M) : OutGood M s0 q (execGcmOpenResult a1 a2 a3 s4) := by
  unfold execGcmOpenResult
  repeat' (first
    | with_reducible assumption
    | exact Cover.sub hm rfl
    | exact Cover.bit hm rfl
    | exact Cover.bit hm (by dsimp only [Fld.block]; rfl)
    | (extract_lets -underBinder +onlyGivenNames x; refine (fun (hx : Good M s0 q x) => ?_) ?_; (on_goal 1 => try clear_value x); (on_goal 2 => subst x))
    | (extract_lets -underBinder +onlyGivenNames x; try clear_value x)
    | intro x
    | (simp only [good_mk_iff]; refine GoodParts.of (?_ : Good M s0 q _) rfl rfl rfl rfl)
    | with_reducible apply OutGood.of
    | with_reducible apply good_onCd
    | with_reducible apply good_gcmPush
    | with_reducible apply good_setFl
    | with_reducible apply good_cipBump
    | with_reducible apply good_flsBump
    | with_reducible apply good_commitRange
    | with_reducible apply good_setSp
    | with_reducible apply good_commitBlock
    | with_reducible apply good_ev
    | with_reducible apply good_deferRange
    | with_reducible apply good_foldS
    | with_reducible apply good_ite
    | with_reducible apply OutGood.ite
    | split)

theorem good_setDefers {s1 : State} (h1 : Good M s0 q s1) (a2) (a3) (a4) (hm : Cover 0xC0000C00C00000C0000001C0014220060 M) : Good M s0 q (State.setDefers s1 a2 a3 a4) := by
  unfold State.setDefers
  repeat' (first
    | with_reducible assumption
    | exact Cover.sub hm rfl
    | exact Cover.bit hm rfl
    | exact Cover.bit hm (by dsimp only [Fld.block]; rfl)
    | (extract_lets -underBinder +onlyGivenNames x; refine (fun (hx : Good M s0 q x) => ?_) ?_; (on_goal 1 => try clear_value x); (on_goal 2 => subst x))
    | (extract_lets -underBinder +onlyGivenNames x; try clear_value x)
    | intro x
    | (simp only [good_mk_iff]; refine GoodParts.of (?_ : Good M s0 q _) rfl rfl rfl rfl)
    | with_reducible apply good_flsBump
    | with_reducible apply good_deferRange
    | with_reducible apply good_foldS
    | with_reducible apply good_ite
    | split)

theorem good_orphansFrom {s1 : State} (h1 : Good M s0 q s1) (a2) (hm : Cover 0x4000000000000000000020000 M) : Good M s0 q (State.orphansFrom s1 a2) := by
  unfold State.orphansFrom
  repeat' (first
    | with_reducible assumption
    | exact Cover.sub hm rfl
    | exact Cover.bit hm rfl
    | exact Cover.bit hm (by dsimp only [Fld.block]; rfl)
    | (extract_lets -underBinder +onlyGivenNames x; refine (fun (hx : Good M s0 q x) => ?_) ?_; (on_goal 1 => try clear_value x); (on_goal 2 => subst x))
    | (extract_lets -underBinder +onlyGivenNames x; try clear_value x)
    | intro x
    | (simp only [good_mk_iff]; refine GoodParts.of (?_ : Good M s0 q _) rfl rfl rfl rfl)
    | with_reducible apply good_setSlot
    | with_reducible apply good_setCd
    | with_reducible apply good_foldS
    | with_reducible apply good_ite
    | split)

theorem good_replayWrites {s1 : State} (h1 : Good M s0 q s1) (a2) (a3) (a4) (hm : Cover 0xC0000000000000001C0011200042 M) : Good M s0 q (State.replayWrites s1 a2 a3 a4) := by
  unfold State.replayWrites
  repeat' (first
    | with_reducible assumption
    | exact Cover.sub hm rfl
    | exact Cover.bit hm rfl
    | exact Cover.bit hm (by dsimp only [Fld.block]; rfl)
    | (extract_lets -underBinder +onlyGivenNames x; refine (fun (hx : Good M s0 q x) => ?_) ?_; (on_goal 1 => try clear_value x); (on_goal 2 => subst x))
    | (extract_lets -underBinder +onlyGivenNames x; try clear_value x)
    | intro x
    | (simp only [good_mk_iff]; refine GoodParts.of (?_ : Good M s0 q _) rfl rfl rfl rfl)
    | with_reducible apply good_writeSb
    | with_reducible apply good_putHeader
    | with_reducible apply good_foldS
    | with_reducible apply good_ite
    | split)

theorem good_replayOver {s1 : State} (h1 : Good M s0 q s1) (a2) (a3) (hm : Cover 0x40000055400000C000000100005060160 M) : Good M s0 q (State.replayOver s1 a2 a3) := by
  unfold State.replayOver
  repeat' (first
    | with_reducible assumption
    | exact Cover.sub hm rfl
    | exact Cover.bit hm rfl
    | exact Cover.bit hm (by dsimp only [Fld.block]; rfl)
    | (extract_lets -underBinder +onlyGivenNames x; refine (fun (hx : Good M s0 q x) => ?_) ?_; (on_goal 1 => try clear_value x); (on_goal 2 => subst x))
    | (extract_lets -underBinder +onlyGivenNames x; try clear_value x)
    | intro x
    | (simp only [good_mk_iff]; refine GoodParts.of (?_ : Good M s0 q _) rfl rfl rfl rfl)
    | with_reducible apply good_setFl
    | with_reducible apply good_w
    | with_reducible apply good_ev
    | with_reducible apply good_nsmShow
    | with_reducible apply good_chanShow
    | with_reducible apply good_crumbShow
    | with_reducible apply good_trig
    | with_reducible apply good_ite
    | split)

theorem good_replayCrumbs {s1 : State} (h1 : Good M s0 q s1) (a2) (a3) (a4) (hm : Cover 0xC0000C54C00000C0000001C00142E0060 M) : Good M s0 q (State.replayCrumbs s1 a2 a3 a4) := by
  unfold State.replayCrumbs
  repeat' (first
    | with_reducible assumption
    | exact Cover.sub hm rfl
    | exact Cover.bit hm rfl
    | exact Cover.bit hm (by dsimp only [Fld.block]; rfl)
    | (extract_lets -underBinder +onlyGivenNames x; refine (fun (hx : Good M s0 q x) => ?_) ?_; (on_goal 1 => try clear_value x); (on_goal 2 => subst x))
    | (extract_lets -underBinder +onlyGivenNames x; try clear_value x)
    | intro x
    | (simp only [good_mk_iff]; refine GoodParts.of (?_ : Good M s0 q _) rfl rfl rfl rfl)
    | with_reducible apply good_intentsPending
    | with_reducible apply good_standbyRetire
    | with_reducible apply good_setDefers
    | with_reducible apply good_orphansFrom
    | with_reducible apply good_w
    | with_reducible apply good_foldS
    | with_reducible apply good_ite
    | split)

theorem good_execReplayComplete (a1) {s2 : State} (h2 : Good M s0 q s2) (hm : Cover 0xC0000C55C00000C0000001C00152E0162 M) : OutGood M s0 q (execReplayComplete a1 s2) := by
  unfold execReplayComplete
  repeat' (first
    | with_reducible assumption
    | exact Cover.sub hm rfl
    | exact Cover.bit hm rfl
    | exact Cover.bit hm (by dsimp only [Fld.block]; rfl)
    | (extract_lets -underBinder +onlyGivenNames x; refine (fun (hx : Good M s0 q x) => ?_) ?_; (on_goal 1 => try clear_value x); (on_goal 2 => subst x))
    | (extract_lets -underBinder +onlyGivenNames x; try clear_value x)
    | intro x
    | (simp only [good_mk_iff]; refine GoodParts.of (?_ : Good M s0 q _) rfl rfl rfl rfl)
    | with_reducible apply OutGood.of
    | with_reducible apply good_onCd
    | with_reducible apply good_replayCrumbs
    | with_reducible apply good_replayOver
    | with_reducible apply good_replayWrites
    | with_reducible apply good_ite
    | with_reducible apply OutGood.ite
    | split)

theorem good_execFlsSnapshot (a1) (a2) {s3 : State} (h3 : Good M s0 q s3) (hm : Cover 0x400000000000000000000000000000008 M) : OutGood M s0 q (execFlsSnapshot a1 a2 s3) := by
  unfold execFlsSnapshot
  repeat' (first
    | with_reducible assumption
    | exact Cover.sub hm rfl
    | exact Cover.bit hm rfl
    | exact Cover.bit hm (by dsimp only [Fld.block]; rfl)
    | (extract_lets -underBinder +onlyGivenNames x; refine (fun (hx : Good M s0 q x) => ?_) ?_; (on_goal 1 => try clear_value x); (on_goal 2 => subst x))
    | (extract_lets -underBinder +onlyGivenNames x; try clear_value x)
    | intro x
    | (simp only [good_mk_iff]; refine GoodParts.of (?_ : Good M s0 q _) rfl rfl rfl rfl)
    | with_reducible apply OutGood.of
    | with_reducible apply good_snapshot
    | with_reducible apply good_ite
    | with_reducible apply OutGood.ite
    | split)

end Sys2Proof.Machine
end

