-- ==== Sys2Proof/Laws/ResetOps.lean ====
section
/-! SUPPORT. What the operations of Machine/ResetOps.lean keep (see Laws/Keep.lean), one lemma for each. -/

set_option Elab.async false

set_option linter.all false

namespace Sys2Proof.Machine

variable {M : Nat} {s0 : State} {q : Prop}

theorem good_reindex {s1 : State} (h1 : Good M s0 q s1) (a2) (hm : Cover 0x140000000000000000000040000 M := by first | assumption | exact Cover.sub (by assumption) rfl) : Good M s0 q (State.reindex s1 a2) := by
  unfold State.reindex
  repeat' (first
    | with_reducible assumption
    | exact Cover.sub hm rfl
    | exact Cover.bit hm rfl
    | exact Cover.bit hm (by dsimp only [Fld.block]; rfl)
    | (extract_lets -underBinder +onlyGivenNames x; refine (fun (hx : Good M s0 q x) => ?_) ?_; (on_goal 1 => try clear_value x); (on_goal 2 => subst x))
    | (extract_lets -underBinder +onlyGivenNames x; try clear_value x)
    | intro x
    | (simp only [good_mk_iff]; refine GoodParts.of (?_ : Good M s0 q _) rfl rfl rfl rfl)
    | with_reducible apply good_setSp
    | with_reducible apply good_foldS)

theorem good_engineClear {s1 : State} (h1 : Good M s0 q s1) (a2) (a3) (hm : Cover 0xAAAAAABFAAABFFFFAAAAAFFFAABFFFFE15FF4658 M := by first | assumption | exact Cover.sub (by assumption) rfl) :
    Good M s0 q (State.engineClear s1 a2 a3) := by
  unfold State.engineClear
  extract_lets -underBinder +onlyGivenNames hold x
  have hx : Good M s0 q x := good_mk_iff.2 (GoodParts.less h1
    (.inr ⟨List.filter_sublist, fun k hk => absurd (Cover.bit (Cover.sub hm rfl) (allRegs_bit k.fld)) (by simpa using hk)⟩)
    (.inr ⟨List.filter_sublist, fun k hk hb => absurd (Cover.bit (Cover.sub hm rfl) (allCtrs_bit hb)) (by simpa using hk)⟩)
    (.inr ⟨Cover.bit hm rfl, List.filter_sublist⟩) (.inr ⟨Cover.bit hm rfl, List.filter_sublist⟩))
  clear_value x
  repeat' (first
    | with_reducible assumption
    | (extract_lets -underBinder +onlyGivenNames x; refine (fun (hx : Good M s0 q x) => ?_) ?_; (on_goal 1 => try clear_value x); (on_goal 2 => subst x))
    | (extract_lets -underBinder +onlyGivenNames x; try clear_value x)
    | intro x
    | exact Cover.sub hm rfl
    | exact Cover.bit hm rfl
    | (simp only [good_mk_iff]; refine GoodParts.of (?_ : Good M s0 q _) rfl rfl rfl rfl)
    | with_reducible apply good_setCd
    | with_reducible apply good_setSp
    | with_reducible apply good_clearSlots
    | with_reducible apply good_wb
    | with_reducible apply good_emit
    | with_reducible apply good_foldS
    | with_reducible apply good_ite)

theorem good_wipe {s1 : State} (h1 : Good M s0 q s1) (a2) (hm : Cover 0xAAAAAABFAAABFFFFAAAAAFFFAABFFFFE3FFFFFFB M := by first | assumption | exact Cover.sub (by assumption) rfl) :
    Good M s0 q (State.wipe s1 a2) := by
  unfold State.wipe
  extract_lets r x y
  have hx : Good M s0 q x := good_mk_iff.2 (GoodParts.less h1
    (.inr ⟨List.filter_sublist, fun k hk => absurd (Cover.bit (Cover.sub hm rfl) (allRegs_bit k.fld)) (by simpa using hk)⟩)
    (.inr ⟨List.nil_sublist _, fun k hk hb => absurd (Cover.bit (Cover.sub hm rfl) (allCtrs_bit hb)) (by simpa using hk)⟩)
    (.inr ⟨Cover.bit hm rfl, List.nil_sublist _⟩) (.inr ⟨Cover.bit hm rfl, List.nil_sublist _⟩))
  have hy : Good M s0 q y := good_w hx _ _ _ _
  exact good_ite hy (good_foldS (fun z a hz => good_reindex hz _) hy)

theorem good_superviseStart {s1 : State} (h1 : Good M s0 q s1) (a2) (hm : Cover 0x404028000120 M) : Good M s0 q (State.superviseStart s1 a2) := by
  unfold State.superviseStart
  repeat' (first
    | with_reducible assumption
    | exact Cover.sub hm rfl
    | exact Cover.bit hm rfl
    | exact Cover.bit hm (by dsimp only [Fld.block]; rfl)
    | (extract_lets -underBinder +onlyGivenNames x; refine (fun (hx : Good M s0 q x) => ?_) ?_; (on_goal 1 => try clear_value x); (on_goal 2 => subst x))
    | (extract_lets -underBinder +onlyGivenNames x; try clear_value x)
    | intro x
    | (simp only [good_mk_iff]; refine GoodParts.of (?_ : Good M s0 q _) rfl rfl rfl rfl)
    | with_reducible apply good_w
    | with_reducible apply good_setMgt
    | with_reducible apply good_logMgt)

theorem good_cause {s1 : State} (h1 : Good M s0 q s1) (a2) (hm : Cover 0x400000000000 M) : Good M s0 q (State.cause s1 a2) := by
  unfold State.cause
  repeat' (first
    | with_reducible assumption
    | exact Cover.sub hm rfl
    | exact Cover.bit hm rfl
    | exact Cover.bit hm (by dsimp only [Fld.block]; rfl)
    | intro x
    | with_reducible apply good_wbit)

theorem good_railsOff {s1 : State} (h1 : Good M s0 q s1) (hm : Cover 0x4000000000040 M) : Good M s0 q (State.railsOff s1) := by
  unfold State.railsOff
  repeat' (first
    | with_reducible assumption
    | exact Cover.sub hm rfl
    | exact Cover.bit hm rfl
    | exact Cover.bit hm (by dsimp only [Fld.block]; rfl)
    | (extract_lets -underBinder +onlyGivenNames x; refine (fun (hx : Good M s0 q x) => ?_) ?_; (on_goal 1 => try clear_value x); (on_goal 2 => subst x))
    | (extract_lets -underBinder +onlyGivenNames x; try clear_value x)
    | intro x
    | with_reducible apply good_emit
    | with_reducible apply good_w
    | with_reducible apply good_foldS
    | with_reducible apply good_ite)

theorem good_packageReset {s1 : State} (h1 : Good M s0 q s1) (a2) (hm : Cover 0xAAAAAABFAAABFFFFAAAAAFFFAABFFFFE3FFFFFFB M) : Good M s0 q (State.packageReset s1 a2) := by
  unfold State.packageReset
  repeat' (first
    | with_reducible assumption
    | exact Cover.sub hm rfl
    | exact Cover.bit hm rfl
    | exact Cover.bit hm (by dsimp only [Fld.block]; rfl)
    | (extract_lets -underBinder +onlyGivenNames x; refine (fun (hx : Good M s0 q x) => ?_) ?_; (on_goal 1 => try clear_value x); (on_goal 2 => subst x))
    | (extract_lets -underBinder +onlyGivenNames x; try clear_value x)
    | intro x
    | (simp only [good_mk_iff]; refine GoodParts.of (?_ : Good M s0 q _) rfl rfl rfl rfl)
    | with_reducible apply good_wipe
    | with_reducible apply good_dropClaim
    | with_reducible apply good_bayStop
    | with_reducible apply good_railsOff
    | with_reducible apply good_superviseStart
    | with_reducible apply good_advance
    | with_reducible apply good_ite)

theorem good_coldReset {s1 : State} (h1 : Good M s0 q s1) (a2) (a3) (hm : Cover 0xAAAAAABFAAABFFFFAAAAAFFFAABFFFFE3FFFFFFB M) : Good M s0 q (State.coldReset s1 a2 a3) := by
  unfold State.coldReset
  repeat' (first
    | with_reducible assumption
    | exact Cover.sub hm rfl
    | exact Cover.bit hm rfl
    | exact Cover.bit hm (by dsimp only [Fld.block]; rfl)
    | (extract_lets -underBinder +onlyGivenNames x; refine (fun (hx : Good M s0 q x) => ?_) ?_; (on_goal 1 => try clear_value x); (on_goal 2 => subst x))
    | (extract_lets -underBinder +onlyGivenNames x; try clear_value x)
    | intro x
    | (simp only [good_mk_iff]; refine GoodParts.of (?_ : Good M s0 q _) rfl rfl rfl rfl)
    | with_reducible apply good_wipe
    | with_reducible apply good_railsOff
    | with_reducible apply good_dropClaim
    | with_reducible apply good_bayStop
    | with_reducible apply good_w)

theorem good_packageSource {s1 : State} (h1 : Good M s0 q s1) (a2) (a3) (hm : Cover 0xAAAAAABFAAABFFFFAAAAAFFFAABFFFFE3FFFFFFB M) : Good M s0 q (State.packageSource s1 a2 a3) := by
  unfold State.packageSource
  repeat' (first
    | with_reducible assumption
    | exact Cover.sub hm rfl
    | exact Cover.bit hm rfl
    | exact Cover.bit hm (by dsimp only [Fld.block]; rfl)
    | (extract_lets -underBinder +onlyGivenNames x; refine (fun (hx : Good M s0 q x) => ?_) ?_; (on_goal 1 => try clear_value x); (on_goal 2 => subst x))
    | (extract_lets -underBinder +onlyGivenNames x; try clear_value x)
    | intro x
    | (simp only [good_mk_iff]; refine GoodParts.of (?_ : Good M s0 q _) rfl rfl rfl rfl)
    | with_reducible apply good_cause
    | with_reducible apply good_trig
    | with_reducible apply good_packageReset
    | with_reducible apply good_ite)

theorem good_dropContexts {s1 : State} (h1 : Good M s0 q s1) (a2) (hm : Cover 0x1000000000000000000034000 M) : Good M s0 q (State.dropContexts s1 a2) := by
  unfold State.dropContexts
  repeat' (first
    | with_reducible assumption
    | exact Cover.sub hm rfl
    | exact Cover.bit hm rfl
    | exact Cover.bit hm (by dsimp only [Fld.block]; rfl)
    | (extract_lets -underBinder +onlyGivenNames x; refine (fun (hx : Good M s0 q x) => ?_) ?_; (on_goal 1 => try clear_value x); (on_goal 2 => subst x))
    | (extract_lets -underBinder +onlyGivenNames x; try clear_value x)
    | intro x
    | (simp only [good_mk_iff]; refine GoodParts.of (?_ : Good M s0 q _) rfl rfl rfl rfl)
    | with_reducible apply good_rdxStatus
    | with_reducible apply good_setCd)

theorem good_channelFails {s1 : State} (h1 : Good M s0 q s1) (a2) (hm : Cover 0x1F0003055F00000C100000100004874160 M) : Good M s0 q (State.channelFails s1 a2) := by
  unfold State.channelFails
  repeat' (first
    | with_reducible assumption
    | exact Cover.sub hm rfl
    | exact Cover.bit hm rfl
    | exact Cover.bit hm (by dsimp only [Fld.block]; rfl)
    | (extract_lets -underBinder +onlyGivenNames x; refine (fun (hx : Good M s0 q x) => ?_) ?_; (on_goal 1 => try clear_value x); (on_goal 2 => subst x))
    | (extract_lets -underBinder +onlyGivenNames x; try clear_value x)
    | intro x
    | (simp only [good_mk_iff]; refine GoodParts.of (?_ : Good M s0 q _) rfl rfl rfl rfl)
    | with_reducible apply good_completeWith
    | with_reducible apply good_dropContexts
    | with_reducible apply good_flushStop
    | with_reducible apply good_w
    | with_reducible apply good_logEv
    | with_reducible apply good_nsmShow
    | with_reducible apply good_handoverAsk
    | with_reducible apply good_mirrorShow
    | with_reducible apply good_trig
    | with_reducible apply good_flushEnds
    | with_reducible apply good_foldS
    | with_reducible apply good_ite)

theorem good_dieFails {s1 : State} (h1 : Good M s0 q s1) (a2) (hm : Cover 0x1F0003055F00000C100010500024874160 M) : Good M s0 q (State.dieFails s1 a2) := by
  unfold State.dieFails
  repeat' (first
    | with_reducible assumption
    | exact Cover.sub hm rfl
    | exact Cover.bit hm rfl
    | exact Cover.bit hm (by dsimp only [Fld.block]; rfl)
    | (extract_lets -underBinder +onlyGivenNames x; refine (fun (hx : Good M s0 q x) => ?_) ?_; (on_goal 1 => try clear_value x); (on_goal 2 => subst x))
    | (extract_lets -underBinder +onlyGivenNames x; try clear_value x)
    | intro x
    | (simp only [good_mk_iff]; refine GoodParts.of (?_ : Good M s0 q _) rfl rfl rfl rfl)
    | with_reducible apply good_channelFails
    | with_reducible apply good_ev
    | with_reducible apply good_setDie
    | with_reducible apply good_logEv)

theorem good_cipherKat {s1 : State} (h1 : Good M s0 q s1) (a2) (a3) (hm : Cover 0x1F0003055F00000C100010500024874160 M) : Good M s0 q (State.cipherKat s1 a2 a3) := by
  unfold State.cipherKat
  repeat' (first
    | with_reducible assumption
    | exact Cover.sub hm rfl
    | exact Cover.bit hm rfl
    | exact Cover.bit hm (by dsimp only [Fld.block]; rfl)
    | (extract_lets -underBinder +onlyGivenNames x; refine (fun (hx : Good M s0 q x) => ?_) ?_; (on_goal 1 => try clear_value x); (on_goal 2 => subst x))
    | (extract_lets -underBinder +onlyGivenNames x; try clear_value x)
    | intro x
    | with_reducible apply good_wb
    | with_reducible apply good_ev
    | with_reducible apply good_fatal
    | with_reducible apply good_dieFails
    | with_reducible apply good_ite)

theorem good_epJoin {s1 : State} (h1 : Good M s0 q s1) (a2) (hm : Cover 0x20000 M) : Good M s0 q (State.epJoin s1 a2) := by
  unfold State.epJoin
  repeat' (first
    | with_reducible assumption
    | exact Cover.sub hm rfl
    | exact Cover.bit hm rfl
    | exact Cover.bit hm (by dsimp only [Fld.block]; rfl)
    | (extract_lets -underBinder +onlyGivenNames x; refine (fun (hx : Good M s0 q x) => ?_) ?_; (on_goal 1 => try clear_value x); (on_goal 2 => subst x))
    | (extract_lets -underBinder +onlyGivenNames x; try clear_value x)
    | intro x
    | (simp only [good_mk_iff]; refine GoodParts.of (?_ : Good M s0 q _) rfl rfl rfl rfl)
    | with_reducible apply good_setCtrl
    | with_reducible apply good_setCd
    | with_reducible apply good_foldS
    | with_reducible apply good_ite)

theorem good_dieRuns {s1 : State} (h1 : Good M s0 q s1) (a2) (a3) (hm : Cover 0x1F0003455F00000C100015500024A74360 M) : Good M s0 q (State.dieRuns s1 a2 a3) := by
  unfold State.dieRuns
  repeat' (first
    | with_reducible assumption
    | exact Cover.sub hm rfl
    | exact Cover.bit hm rfl
    | exact Cover.bit hm (by dsimp only [Fld.block]; rfl)
    | (extract_lets -underBinder +onlyGivenNames x; refine (fun (hx : Good M s0 q x) => ?_) ?_; (on_goal 1 => try clear_value x); (on_goal 2 => subst x))
    | (extract_lets -underBinder +onlyGivenNames x; try clear_value x)
    | intro x
    | (simp only [good_mk_iff]; refine GoodParts.of (?_ : Good M s0 q _) rfl rfl rfl rfl)
    | with_reducible apply good_setDie
    | with_reducible apply good_setDieTime
    | with_reducible apply good_w
    | with_reducible apply good_bayState
    | with_reducible apply good_wbit
    | with_reducible apply good_setDrive
    | with_reducible apply good_cipherKat
    | with_reducible apply good_crumbShow
    | with_reducible apply good_ceilingShow
    | with_reducible apply good_epJoin
    | with_reducible apply good_foldS
    | with_reducible apply good_ite)

theorem good_dieBack {s1 : State} (h1 : Good M s0 q s1) (a2) (a3) (hm : Cover 0x1F0003455F00000C100015500024A74360 M) : Good M s0 q (State.dieBack s1 a2 a3) := by
  unfold State.dieBack
  repeat' (first
    | with_reducible assumption
    | exact Cover.sub hm rfl
    | exact Cover.bit hm rfl
    | exact Cover.bit hm (by dsimp only [Fld.block]; rfl)
    | (extract_lets -underBinder +onlyGivenNames x; refine (fun (hx : Good M s0 q x) => ?_) ?_; (on_goal 1 => try clear_value x); (on_goal 2 => subst x))
    | (extract_lets -underBinder +onlyGivenNames x; try clear_value x)
    | intro x
    | with_reducible apply good_w
    | with_reducible apply good_dieRuns
    | with_reducible apply good_wb
    | with_reducible apply good_nsmShow
    | with_reducible apply good_mirrorShow
    | with_reducible apply good_ite)

theorem good_resetBegins {s1 : State} (h1 : Good M s0 q s1) (a2) (a3) (a4) (hm : Cover 0xAAAAAABFAAABFFFFAAAAAFFFAABFFFFE35FF4778 M) : Good M s0 q (State.resetBegins s1 a2 a3 a4) := by
  unfold State.resetBegins
  repeat' (first
    | with_reducible assumption
    | exact Cover.sub hm rfl
    | exact Cover.bit hm rfl
    | exact Cover.bit hm (by dsimp only [Fld.block]; rfl)
    | (extract_lets -underBinder +onlyGivenNames x; refine (fun (hx : Good M s0 q x) => ?_) ?_; (on_goal 1 => try clear_value x); (on_goal 2 => subst x))
    | (extract_lets -underBinder +onlyGivenNames x; try clear_value x)
    | intro x
    | (simp only [good_mk_iff]; refine GoodParts.of (?_ : Good M s0 q _) rfl rfl rfl rfl)
    | with_reducible apply good_w
    | with_reducible apply good_dieFails
    | with_reducible apply good_flushStop
    | with_reducible apply good_engineClear
    | with_reducible apply good_setDie
    | with_reducible apply good_setProof
    | with_reducible apply good_ev
    | with_reducible apply good_flushEnds
    | with_reducible apply good_mirrorShow
    | with_reducible apply good_ite
    | split)

theorem good_dieSource {s1 : State} (h1 : Good M s0 q s1) (a2) (a3) (hm : Cover 0xAAAAAABFAAABFFFFAAAAAFFFAABFFFFE35FF4778 M) : Good M s0 q (State.dieSource s1 a2 a3) := by
  unfold State.dieSource
  repeat' (first
    | with_reducible assumption
    | exact Cover.sub hm rfl
    | exact Cover.bit hm rfl
    | exact Cover.bit hm (by dsimp only [Fld.block]; rfl)
    | (extract_lets -underBinder +onlyGivenNames x; refine (fun (hx : Good M s0 q x) => ?_) ?_; (on_goal 1 => try clear_value x); (on_goal 2 => subst x))
    | (extract_lets -underBinder +onlyGivenNames x; try clear_value x)
    | intro x
    | with_reducible apply good_cause
    | with_reducible apply good_resetBegins
    | with_reducible apply good_ite
    | split)

end Sys2Proof.Machine
end

