-- ==== Sys2Proof/Laws/Modes.lean ====
section
/-! SUPPORT. What the operations of Machine/Modes.lean keep (see Laws/Keep.lean), one lemma for each. -/

set_option Elab.async false

set_option linter.all false

namespace Sys2Proof.Machine

variable {M : Nat} {s0 : State} {q : Prop}

theorem good_gatesBack {s1 : State} (h1 : Good M s0 q s1) (hm : Cover 0x1400000C000000100004020040 M) : Good M s0 q (State.gatesBack s1) := by
  unfold State.gatesBack
  repeat' (first
    | with_reducible assumption
    | exact Cover.sub hm rfl
    | exact Cover.bit hm rfl
    | exact Cover.bit hm (by dsimp only [Fld.block]; rfl)
    | (extract_lets -underBinder +onlyGivenNames x; try clear_value x)
    | intro x
    | (simp only [good_mk_iff]; refine GoodParts.of (?_ : Good M s0 q _) rfl rfl rfl rfl)
    | with_reducible apply good_nsmShow
    | with_reducible apply good_w
    | with_reducible apply good_foldS
    | with_reducible apply good_ite)

theorem good_leaveMode {s1 : State} (h1 : Good M s0 q s1) (a2) (hm : Cover 0x10000055F00000C100004100004874140 M) : Good M s0 q (State.leaveMode s1 a2) := by
  unfold State.leaveMode
  repeat' (first
    | with_reducible assumption
    | exact Cover.sub hm rfl
    | exact Cover.bit hm rfl
    | exact Cover.bit hm (by dsimp only [Fld.block]; rfl)
    | (extract_lets -underBinder +onlyGivenNames x; refine (fun (hx : Good M s0 q x) => ?_) ?_; (on_goal 1 => try clear_value x); (on_goal 2 => subst x))
    | (extract_lets -underBinder +onlyGivenNames x; try clear_value x)
    | intro x
    | (simp only [good_mk_iff]; refine GoodParts.of (?_ : Good M s0 q _) rfl rfl rfl rfl)
    | with_reducible apply good_epAbsent
    | with_reducible apply good_gatesBack
    | with_reducible apply good_w
    | with_reducible apply good_setPair
    | with_reducible apply good_mirrorShow
    | with_reducible apply good_seedOff
    | with_reducible apply good_chanShow
    | with_reducible apply good_foldS
    | with_reducible apply good_ite
    | split)

theorem good_modeRegs {s1 : State} (h1 : Good M s0 q s1) (a2) (a3) (hm : Cover 0x1400000000000000004000180120 M) : Good M s0 q (State.modeRegs s1 a2 a3) := by
  unfold State.modeRegs
  repeat' (first
    | with_reducible assumption
    | exact Cover.sub hm rfl
    | exact Cover.bit hm rfl
    | exact Cover.bit hm (by dsimp only [Fld.block]; rfl)
    | (extract_lets -underBinder +onlyGivenNames x; refine (fun (hx : Good M s0 q x) => ?_) ?_; (on_goal 1 => try clear_value x); (on_goal 2 => subst x))
    | (extract_lets -underBinder +onlyGivenNames x; try clear_value x)
    | intro x
    | (simp only [good_mk_iff]; refine GoodParts.of (?_ : Good M s0 q _) rfl rfl rfl rfl)
    | with_reducible apply good_w
    | with_reducible apply good_logMgt
    | with_reducible apply good_setGrp
    | with_reducible apply good_setRsh
    | with_reducible apply good_foldS)

theorem good_serves {s1 : State} (h1 : Good M s0 q s1) (hm : Cover 0x30003FD5F00000D0700001F541CBFFB60 M) : Good M s0 q (State.serves s1) := by
  unfold State.serves
  repeat' (first
    | with_reducible assumption
    | exact Cover.sub hm rfl
    | exact Cover.bit hm rfl
    | exact Cover.bit hm (by dsimp only [Fld.block]; rfl)
    | (extract_lets -underBinder +onlyGivenNames x; refine (fun (hx : Good M s0 q x) => ?_) ?_; (on_goal 1 => try clear_value x); (on_goal 2 => subst x))
    | (extract_lets -underBinder +onlyGivenNames x; try clear_value x)
    | intro x
    | (simp only [good_mk_iff]; refine GoodParts.of (?_ : Good M s0 q _) rfl rfl rfl rfl)
    | with_reducible apply good_fwConfirm
    | with_reducible apply good_lateSwitch
    | with_reducible apply good_ite)

theorem good_enterBringup {s1 : State} (h1 : Good M s0 q s1) (a2) (hm : Cover 0x37000345400000040700001044228EA360 M) : Good M s0 q (State.enterBringup s1 a2) := by
  unfold State.enterBringup
  repeat' (first
    | with_reducible assumption
    | exact Cover.sub hm rfl
    | exact Cover.bit hm rfl
    | exact Cover.bit hm (by dsimp only [Fld.block]; rfl)
    | (extract_lets -underBinder +onlyGivenNames x; refine (fun (hx : Good M s0 q x) => ?_) ?_; (on_goal 1 => try clear_value x); (on_goal 2 => subst x))
    | (extract_lets -underBinder +onlyGivenNames x; try clear_value x)
    | intro x
    | (simp only [good_mk_iff]; refine GoodParts.of (?_ : Good M s0 q _) rfl rfl rfl rfl)
    | with_reducible apply good_boardLoad
    | with_reducible apply good_commitSchedule
    | with_reducible apply good_loadEndpoint
    | with_reducible apply good_loadTables
    | with_reducible apply good_w
    | with_reducible apply good_epTrain
    | with_reducible apply good_lanesFollow
    | with_reducible apply good_bayStart
    | with_reducible apply good_foldS
    | with_reducible apply good_ite
    | split)

theorem good_enterPairing {s1 : State} (h1 : Good M s0 q s1) (hm : Cover 0x30003FD5F00000D0700001F1414BFFB60 M) : Good M s0 q (State.enterPairing s1) := by
  unfold State.enterPairing
  repeat' (first
    | with_reducible assumption
    | exact Cover.sub hm rfl
    | exact Cover.bit hm rfl
    | exact Cover.bit hm (by dsimp only [Fld.block]; rfl)
    | (extract_lets -underBinder +onlyGivenNames x; refine (fun (hx : Good M s0 q x) => ?_) ?_; (on_goal 1 => try clear_value x); (on_goal 2 => subst x))
    | (extract_lets -underBinder +onlyGivenNames x; try clear_value x)
    | intro x
    | (simp only [good_mk_iff]; refine GoodParts.of (?_ : Good M s0 q _) rfl rfl rfl rfl)
    | with_reducible apply good_pairFresh
    | with_reducible apply good_claimGone
    | with_reducible apply good_setPair
    | with_reducible apply good_pairCompare
    | with_reducible apply good_w
    | with_reducible apply good_lateSwitch
    | with_reducible apply good_ite)

theorem good_enterActive {s1 : State} (h1 : Good M s0 q s1) (a2) (hm : Cover 0x30003FD5F00000D1700001F541DBFFB60 M) : Good M s0 q (State.enterActive s1 a2) := by
  unfold State.enterActive
  repeat' (first
    | with_reducible assumption
    | exact Cover.sub hm rfl
    | exact Cover.bit hm rfl
    | exact Cover.bit hm (by dsimp only [Fld.block]; rfl)
    | (extract_lets -underBinder +onlyGivenNames x; refine (fun (hx : Good M s0 q x) => ?_) ?_; (on_goal 1 => try clear_value x); (on_goal 2 => subst x))
    | (extract_lets -underBinder +onlyGivenNames x; try clear_value x)
    | intro x
    | (simp only [good_mk_iff]; refine GoodParts.of (?_ : Good M s0 q _) rfl rfl rfl rfl)
    | with_reducible apply good_openGates
    | with_reducible apply good_mirrorShow
    | with_reducible apply good_w
    | with_reducible apply good_pairBump
    | with_reducible apply good_ev
    | with_reducible apply good_setCd
    | with_reducible apply good_setFl
    | with_reducible apply good_sendControl
    | with_reducible apply good_setPair
    | with_reducible apply good_anaRise
    | with_reducible apply good_nsmShow
    | with_reducible apply good_serves
    | with_reducible apply good_epPresent
    | with_reducible apply good_gainPresence
    | with_reducible apply good_foldS
    | with_reducible apply good_ite)

theorem good_enterStandby {s1 : State} (h1 : Good M s0 q s1) (a2) (hm : Cover 0x30003FD5F00000D0700001F541EBFFB60 M) : Good M s0 q (State.enterStandby s1 a2) := by
  unfold State.enterStandby
  repeat' (first
    | with_reducible assumption
    | exact Cover.sub hm rfl
    | exact Cover.bit hm rfl
    | exact Cover.bit hm (by dsimp only [Fld.block]; rfl)
    | (extract_lets -underBinder +onlyGivenNames x; refine (fun (hx : Good M s0 q x) => ?_) ?_; (on_goal 1 => try clear_value x); (on_goal 2 => subst x))
    | (extract_lets -underBinder +onlyGivenNames x; try clear_value x)
    | intro x
    | (simp only [good_mk_iff]; refine GoodParts.of (?_ : Good M s0 q _) rfl rfl rfl rfl)
    | with_reducible apply good_closeGates
    | with_reducible apply good_dropClaim
    | with_reducible apply good_leaseRelease
    | with_reducible apply good_setPair
    | with_reducible apply good_w
    | with_reducible apply good_serves
    | with_reducible apply good_gateOfferAll
    | with_reducible apply good_trig
    | with_reducible apply good_foldS
    | with_reducible apply good_ite)

theorem good_enterTakeover {s1 : State} (h1 : Good M s0 q s1) (hm : Cover 0x1000000000000000001810000 M) : Good M s0 q (State.enterTakeover s1) := by
  unfold State.enterTakeover
  repeat' (first
    | with_reducible assumption
    | exact Cover.sub hm rfl
    | exact Cover.bit hm rfl
    | exact Cover.bit hm (by dsimp only [Fld.block]; rfl)
    | (extract_lets -underBinder +onlyGivenNames x; refine (fun (hx : Good M s0 q x) => ?_) ?_; (on_goal 1 => try clear_value x); (on_goal 2 => subst x))
    | (extract_lets -underBinder +onlyGivenNames x; try clear_value x)
    | intro x
    | (simp only [good_mk_iff]; refine GoodParts.of (?_ : Good M s0 q _) rfl rfl rfl rfl)
    | with_reducible apply good_rdxStatus
    | with_reducible apply good_setFl
    | with_reducible apply good_pairFresh
    | with_reducible apply good_foldS)

theorem good_enterReplay {s1 : State} (h1 : Good M s0 q s1) (hm : Cover 0x400004000000000000000000000000000 M) : Good M s0 q (State.enterReplay s1) := by
  unfold State.enterReplay
  repeat' (first
    | with_reducible assumption
    | exact Cover.sub hm rfl
    | exact Cover.bit hm rfl
    | exact Cover.bit hm (by dsimp only [Fld.block]; rfl)
    | (extract_lets -underBinder +onlyGivenNames x; try clear_value x)
    | intro x
    | (simp only [good_mk_iff]; refine GoodParts.of (?_ : Good M s0 q _) rfl rfl rfl rfl)
    | with_reducible apply good_w
    | with_reducible apply good_openGates
    | with_reducible apply good_foldS
    | with_reducible apply good_ite)

theorem good_enterMaintenance {s1 : State} (h1 : Good M s0 q s1) (a2) (hm : Cover 0x30003FD5F00000D0700001F541EBFFB60 M) : Good M s0 q (State.enterMaintenance s1 a2) := by
  unfold State.enterMaintenance
  repeat' (first
    | with_reducible assumption
    | exact Cover.sub hm rfl
    | exact Cover.bit hm rfl
    | exact Cover.bit hm (by dsimp only [Fld.block]; rfl)
    | (extract_lets -underBinder +onlyGivenNames x; refine (fun (hx : Good M s0 q x) => ?_) ?_; (on_goal 1 => try clear_value x); (on_goal 2 => subst x))
    | (extract_lets -underBinder +onlyGivenNames x; try clear_value x)
    | intro x
    | (simp only [good_mk_iff]; refine GoodParts.of (?_ : Good M s0 q _) rfl rfl rfl rfl)
    | with_reducible apply good_setPair
    | with_reducible apply good_gateOfferAll
    | with_reducible apply good_leaseRelease
    | with_reducible apply good_closeGates
    | with_reducible apply good_lateSwitch
    | with_reducible apply good_serves
    | with_reducible apply good_ite)

theorem good_enterQuarantine {s1 : State} (h1 : Good M s0 q s1) (a2) (hm : Cover 0x170003FD5F00000C0700001C4016BFA162 M) : Good M s0 q (State.enterQuarantine s1 a2) := by
  unfold State.enterQuarantine
  repeat' (first
    | with_reducible assumption
    | exact Cover.sub hm rfl
    | exact Cover.bit hm rfl
    | exact Cover.bit hm (by dsimp only [Fld.block]; rfl)
    | (extract_lets -underBinder +onlyGivenNames x; refine (fun (hx : Good M s0 q x) => ?_) ?_; (on_goal 1 => try clear_value x); (on_goal 2 => subst x))
    | (extract_lets -underBinder +onlyGivenNames x; try clear_value x)
    | intro x
    | (simp only [good_mk_iff]; refine GoodParts.of (?_ : Good M s0 q _) rfl rfl rfl rfl)
    | with_reducible apply good_logMgt
    | with_reducible apply good_w
    | with_reducible apply good_leaseRelease
    | with_reducible apply good_leaveUp
    | with_reducible apply good_bayQuarantine
    | with_reducible apply good_lanesFollow
    | with_reducible apply good_foldS
    | with_reducible apply good_ite)

theorem good_modeTo {s1 : State} (h1 : Good M s0 q s1) (a2) (a3) (a4) (hm : Cover 0x3F0003FD5F00000D1700041F543FBFFB62 M) : Good M s0 q (State.modeTo s1 a2 a3 a4) := by
  unfold State.modeTo
  repeat' (first
    | with_reducible assumption
    | exact Cover.sub hm rfl
    | exact Cover.bit hm rfl
    | exact Cover.bit hm (by dsimp only [Fld.block]; rfl)
    | (extract_lets -underBinder +onlyGivenNames x; refine (fun (hx : Good M s0 q x) => ?_) ?_; (on_goal 1 => try clear_value x); (on_goal 2 => subst x))
    | (extract_lets -underBinder +onlyGivenNames x; try clear_value x)
    | intro x
    | (simp only [good_mk_iff]; refine GoodParts.of (?_ : Good M s0 q _) rfl rfl rfl rfl)
    | with_reducible apply good_modeRegs
    | with_reducible apply good_leaveMode
    | with_reducible apply good_enterBringup
    | with_reducible apply good_enterPairing
    | with_reducible apply good_enterActive
    | with_reducible apply good_enterStandby
    | with_reducible apply good_enterTakeover
    | with_reducible apply good_flushEntry
    | with_reducible apply good_enterReplay
    | with_reducible apply good_enterMaintenance
    | with_reducible apply good_enterQuarantine
    | with_reducible apply good_ite
    | split)

theorem good_sweepTrigs {s1 : State} (h1 : Good M s0 q s1) (hm : Cover 0x120 M) : Good M s0 q (State.sweepTrigs s1) := by
  unfold State.sweepTrigs
  repeat' (first
    | with_reducible assumption
    | exact Cover.sub hm rfl
    | exact Cover.bit hm rfl
    | exact Cover.bit hm (by dsimp only [Fld.block]; rfl)
    | (extract_lets -underBinder +onlyGivenNames x; refine (fun (hx : Good M s0 q x) => ?_) ?_; (on_goal 1 => try clear_value x); (on_goal 2 => subst x))
    | (extract_lets -underBinder +onlyGivenNames x; try clear_value x)
    | intro x
    | (simp only [good_mk_iff]; refine GoodParts.of (?_ : Good M s0 q _) rfl rfl rfl rfl)
    | with_reducible apply good_discardTrig
    | with_reducible apply good_foldS)

theorem good_execModeTriggerEvaluate (a1) {s2 : State} (h2 : Good M s0 q s2) (hm : Cover 0xAAAAAABFAAABFFFFAAAAAFFFAABFFFFE3FFFFFFB M) : OutGood M s0 q (execModeTriggerEvaluate a1 s2) := by
  unfold execModeTriggerEvaluate
  repeat' (first
    | with_reducible assumption
    | exact Cover.sub hm rfl
    | exact Cover.bit hm rfl
    | exact Cover.bit hm (by dsimp only [Fld.block]; rfl)
    | (extract_lets -underBinder +onlyGivenNames x; refine (fun (hx : Good M s0 q x) => ?_) ?_; (on_goal 1 => try clear_value x); (on_goal 2 => subst x))
    | (extract_lets -underBinder +onlyGivenNames x; try clear_value x)
    | intro x
    | (simp only [good_mk_iff]; refine GoodParts.of (?_ : Good M s0 q _) rfl rfl rfl rfl)
    | with_reducible apply OutGood.of
    | with_reducible apply good_coldReset
    | with_reducible apply good_packageReset
    | with_reducible apply good_cause
    | with_reducible apply good_sweepTrigs
    | with_reducible apply good_modeTo
    | with_reducible apply good_ite
    | with_reducible apply OutGood.ite
    | split)

theorem good_execQuarantineRootPortHold {s1 : State} (h1 : Good M s0 q s1) (hm : Cover 0x100000000141 M) : OutGood M s0 q (execQuarantineRootPortHold s1) := by
  unfold execQuarantineRootPortHold
  repeat' (first
    | with_reducible assumption
    | exact Cover.sub hm rfl
    | exact Cover.bit hm rfl
    | exact Cover.bit hm (by dsimp only [Fld.block]; rfl)
    | (extract_lets -underBinder +onlyGivenNames x; refine (fun (hx : Good M s0 q x) => ?_) ?_; (on_goal 1 => try clear_value x); (on_goal 2 => subst x))
    | (extract_lets -underBinder +onlyGivenNames x; try clear_value x)
    | intro x
    | (simp only [good_mk_iff]; refine GoodParts.of (?_ : Good M s0 q _) rfl rfl rfl rfl)
    | with_reducible apply OutGood.of
    | with_reducible apply good_advance
    | with_reducible apply good_ite
    | with_reducible apply OutGood.ite)

theorem good_execModeTimeLimitExpiry {s1 : State} (h1 : Good M s0 q s1) (hm : Cover 0x100000000161 M) : OutGood M s0 q (execModeTimeLimitExpiry s1) := by
  unfold execModeTimeLimitExpiry
  repeat' (first
    | with_reducible assumption
    | exact Cover.sub hm rfl
    | exact Cover.bit hm rfl
    | exact Cover.bit hm (by dsimp only [Fld.block]; rfl)
    | (extract_lets -underBinder +onlyGivenNames x; try clear_value x)
    | intro x
    | with_reducible apply OutGood.of
    | with_reducible apply good_trig
    | with_reducible apply good_advance
    | with_reducible apply good_ite
    | with_reducible apply OutGood.ite
    | split)

theorem good_execBringupWorkComplete {s1 : State} (h1 : Good M s0 q s1) (hm : Cover 0x100000000000000000000000000000120 M) : OutGood M s0 q (execBringupWorkComplete s1) := by
  unfold execBringupWorkComplete
  repeat' (first
    | with_reducible assumption
    | exact Cover.sub hm rfl
    | exact Cover.bit hm rfl
    | exact Cover.bit hm (by dsimp only [Fld.block]; rfl)
    | (extract_lets -underBinder +onlyGivenNames x; refine (fun (hx : Good M s0 q x) => ?_) ?_; (on_goal 1 => try clear_value x); (on_goal 2 => subst x))
    | (extract_lets -underBinder +onlyGivenNames x; try clear_value x)
    | intro x
    | (simp only [good_mk_iff]; refine GoodParts.of (?_ : Good M s0 q _) rfl rfl rfl rfl)
    | with_reducible apply OutGood.of
    | with_reducible apply good_w
    | with_reducible apply good_trig
    | with_reducible apply good_ite
    | with_reducible apply OutGood.ite)

theorem good_abortAll {s1 : State} (h1 : Good M s0 q s1) (a2) (hm : Cover 0x3000301CF000000000000100000B70040 M) : Good M s0 q (State.abortAll s1 a2) := by
  unfold State.abortAll
  repeat' (first
    | with_reducible assumption
    | exact Cover.sub hm rfl
    | exact Cover.bit hm rfl
    | exact Cover.bit hm (by dsimp only [Fld.block]; rfl)
    | (extract_lets -underBinder +onlyGivenNames x; try clear_value x)
    | intro x
    | refine good_abortSlot_eq (by assumption) ?_ ?_
    | with_reducible apply good_abortSlot
    | with_reducible apply good_foldS
    | with_reducible apply good_ite)

theorem good_execMaintenanceDrainLimitExpiry {s1 : State} (h1 : Good M s0 q s1) (hm : Cover 0x3000301CF000000000000100000B70041 M) : OutGood M s0 q (execMaintenanceDrainLimitExpiry s1) := by
  unfold execMaintenanceDrainLimitExpiry
  repeat' (first
    | with_reducible assumption
    | exact Cover.sub hm rfl
    | exact Cover.bit hm rfl
    | exact Cover.bit hm (by dsimp only [Fld.block]; rfl)
    | (extract_lets -underBinder +onlyGivenNames x; try clear_value x)
    | intro x
    | with_reducible apply OutGood.of
    | with_reducible apply good_abortAll
    | with_reducible apply good_advance
    | with_reducible apply good_foldS
    | with_reducible apply good_ite
    | with_reducible apply OutGood.ite
    | split)

theorem good_execMaintenanceDrainComplete {s1 : State} (h1 : Good M s0 q s1) (hm : Cover 0x120 M) : OutGood M s0 q (execMaintenanceDrainComplete s1) := by
  unfold execMaintenanceDrainComplete
  repeat' (first
    | with_reducible assumption
    | exact Cover.sub hm rfl
    | exact Cover.bit hm rfl
    | exact Cover.bit hm (by dsimp only [Fld.block]; rfl)
    | (extract_lets -underBinder +onlyGivenNames x; try clear_value x)
    | intro x
    | with_reducible apply OutGood.of
    | with_reducible apply good_trig
    | with_reducible apply good_ite
    | with_reducible apply OutGood.ite)

theorem good_modeRefused {s1 : State} (h1 : Good M s0 q s1) (a2) (hm : Cover 0x4000000020 M) : Good M s0 q (State.modeRefused s1 a2) := by
  unfold State.modeRefused
  repeat' (first
    | with_reducible assumption
    | exact Cover.sub hm rfl
    | exact Cover.bit hm rfl
    | exact Cover.bit hm (by dsimp only [Fld.block]; rfl)
    | (extract_lets -underBinder +onlyGivenNames x; try clear_value x)
    | intro x
    | with_reducible apply good_logMgt
    | with_reducible apply good_w)

theorem good_execModeCmdEnterMaintenance (a1) {s2 : State} (h2 : Good M s0 q s2) (hm : Cover 0x30003001400000C000000134004820160 M) : OutGood M s0 q (execModeCmdEnterMaintenance a1 s2) := by
  unfold execModeCmdEnterMaintenance
  repeat' (first
    | with_reducible assumption
    | exact Cover.sub hm rfl
    | exact Cover.bit hm rfl
    | exact Cover.bit hm (by dsimp only [Fld.block]; rfl)
    | (extract_lets -underBinder +onlyGivenNames x; refine (fun (hx : Good M s0 q x) => ?_) ?_; (on_goal 1 => try clear_value x); (on_goal 2 => subst x))
    | (extract_lets -underBinder +onlyGivenNames x; try clear_value x)
    | intro x
    | (simp only [good_mk_iff]; refine GoodParts.of (?_ : Good M s0 q _) rfl rfl rfl rfl)
    | with_reducible apply OutGood.of
    | with_reducible apply good_secureOnly
    | with_reducible apply good_w
    | with_reducible apply good_handoverAsk
    | with_reducible apply good_drainStart
    | with_reducible apply good_trig
    | with_reducible apply good_modeRefused
    | with_reducible apply good_ite
    | with_reducible apply OutGood.ite
    | split)

theorem good_execModeCmdReleaseMaintenance (a1) {s2 : State} (h2 : Good M s0 q s2) (hm : Cover 0x134000000160 M) : OutGood M s0 q (execModeCmdReleaseMaintenance a1 s2) := by
  unfold execModeCmdReleaseMaintenance
  repeat' (first
    | with_reducible assumption
    | exact Cover.sub hm rfl
    | exact Cover.bit hm rfl
    | exact Cover.bit hm (by dsimp only [Fld.block]; rfl)
    | (extract_lets -underBinder +onlyGivenNames x; try clear_value x)
    | intro x
    | with_reducible apply OutGood.of
    | with_reducible apply good_secureOnly
    | with_reducible apply good_trig
    | with_reducible apply good_w
    | with_reducible apply good_modeRefused
    | with_reducible apply good_ite)

theorem good_execPairBGateWaitExpiry (a1) {s2 : State} (h2 : Good M s0 q s2) (hm : Cover 0x3300034000000000000000100002800161 M) : OutGood M s0 q (execPairBGateWaitExpiry a1 s2) := by
  unfold execPairBGateWaitExpiry
  repeat' (first
    | with_reducible assumption
    | exact Cover.sub hm rfl
    | exact Cover.bit hm rfl
    | exact Cover.bit hm (by dsimp only [Fld.block]; rfl)
    | (extract_lets -underBinder +onlyGivenNames x; refine (fun (hx : Good M s0 q x) => ?_) ?_; (on_goal 1 => try clear_value x); (on_goal 2 => subst x))
    | (extract_lets -underBinder +onlyGivenNames x; try clear_value x)
    | intro x
    | (simp only [good_mk_iff]; refine GoodParts.of (?_ : Good M s0 q _) rfl rfl rfl rfl)
    | with_reducible apply OutGood.of
    | with_reducible apply good_advance
    | with_reducible apply good_gateWatch
    | with_reducible apply good_ite
    | with_reducible apply OutGood.ite)

theorem good_execPairingWaitExpiry {s1 : State} (h1 : Good M s0 q s1) (hm : Cover 0x100000000141 M) : OutGood M s0 q (execPairingWaitExpiry s1) := by
  unfold execPairingWaitExpiry
  repeat' (first
    | with_reducible assumption
    | exact Cover.sub hm rfl
    | exact Cover.bit hm rfl
    | exact Cover.bit hm (by dsimp only [Fld.block]; rfl)
    | (extract_lets -underBinder +onlyGivenNames x; refine (fun (hx : Good M s0 q x) => ?_) ?_; (on_goal 1 => try clear_value x); (on_goal 2 => subst x))
    | (extract_lets -underBinder +onlyGivenNames x; try clear_value x)
    | intro x
    | (simp only [good_mk_iff]; refine GoodParts.of (?_ : Good M s0 q _) rfl rfl rfl rfl)
    | with_reducible apply OutGood.of
    | with_reducible apply good_advance
    | with_reducible apply good_ite
    | with_reducible apply OutGood.ite)

theorem good_execChannelRecoveryLimitExpiry (a1) {s2 : State} (h2 : Good M s0 q s2) (hm : Cover 0x1F0003055F00000C100000100004874161 M) : OutGood M s0 q (execChannelRecoveryLimitExpiry a1 s2) := by
  unfold execChannelRecoveryLimitExpiry
  repeat' (first
    | with_reducible assumption
    | exact Cover.sub hm rfl
    | exact Cover.bit hm rfl
    | exact Cover.bit hm (by dsimp only [Fld.block]; rfl)
    | (extract_lets -underBinder +onlyGivenNames x; refine (fun (hx : Good M s0 q x) => ?_) ?_; (on_goal 1 => try clear_value x); (on_goal 2 => subst x))
    | (extract_lets -underBinder +onlyGivenNames x; try clear_value x)
    | intro x
    | (simp only [good_mk_iff]; refine GoodParts.of (?_ : Good M s0 q _) rfl rfl rfl rfl)
    | with_reducible apply OutGood.of
    | with_reducible apply good_advance
    | with_reducible apply good_channelFails
    | with_reducible apply good_ite
    | with_reducible apply OutGood.ite
    | split)

theorem good_execChannelDisableCommand (a1) {s2 : State} (h2 : Good M s0 q s2) (hm : Cover 0x1400000C000000100004020140 M) : OutGood M s0 q (execChannelDisableCommand a1 s2) := by
  unfold execChannelDisableCommand
  repeat' (first
    | with_reducible assumption
    | exact Cover.sub hm rfl
    | exact Cover.bit hm rfl
    | exact Cover.bit hm (by dsimp only [Fld.block]; rfl)
    | (extract_lets -underBinder +onlyGivenNames x; try clear_value x)
    | intro x
    | with_reducible apply OutGood.of
    | with_reducible apply good_disableChannel
    | with_reducible apply good_ite)

theorem good_execChannelDisableDrainComplete (a1) {s2 : State} (h2 : Good M s0 q s2) (hm : Cover 0x1F0003C55F00000C1000001C0014A74162 M) : OutGood M s0 q (execChannelDisableDrainComplete a1 s2) := by
  unfold execChannelDisableDrainComplete
  repeat' (first
    | with_reducible assumption
    | exact Cover.sub hm rfl
    | exact Cover.bit hm rfl
    | exact Cover.bit hm (by dsimp only [Fld.block]; rfl)
    | (extract_lets -underBinder +onlyGivenNames x; refine (fun (hx : Good M s0 q x) => ?_) ?_; (on_goal 1 => try clear_value x); (on_goal 2 => subst x))
    | (extract_lets -underBinder +onlyGivenNames x; try clear_value x)
    | intro x
    | with_reducible apply OutGood.of
    | with_reducible apply good_writeSb
    | with_reducible apply good_channelFails
    | with_reducible apply good_foldS
    | with_reducible apply good_ite
    | with_reducible apply OutGood.ite
    | split)

theorem good_execChannelDisableDrainLimitExpiry (a1) {s2 : State} (h2 : Good M s0 q s2) (hm : Cover 0x3000301CF000000000000100000B70041 M) : OutGood M s0 q (execChannelDisableDrainLimitExpiry a1 s2) := by
  unfold execChannelDisableDrainLimitExpiry
  repeat' (first
    | with_reducible assumption
    | exact Cover.sub hm rfl
    | exact Cover.bit hm rfl
    | exact Cover.bit hm (by dsimp only [Fld.block]; rfl)
    | (extract_lets -underBinder +onlyGivenNames x; try clear_value x)
    | intro x
    | with_reducible apply OutGood.of
    | with_reducible apply good_abortAll
    | with_reducible apply good_advance
    | with_reducible apply good_ite
    | with_reducible apply OutGood.ite
    | split)

theorem good_execChannelFail (a1) {s2 : State} (h2 : Good M s0 q s2) (hm : Cover 0x1F0003055F00000C100010500024874160 M) : OutGood M s0 q (execChannelFail a1 s2) := by
  unfold execChannelFail
  repeat' (first
    | with_reducible assumption
    | exact Cover.sub hm rfl
    | exact Cover.bit hm rfl
    | exact Cover.bit hm (by dsimp only [Fld.block]; rfl)
    | (extract_lets -underBinder +onlyGivenNames x; refine (fun (hx : Good M s0 q x) => ?_) ?_; (on_goal 1 => try clear_value x); (on_goal 2 => subst x))
    | (extract_lets -underBinder +onlyGivenNames x; try clear_value x)
    | intro x
    | (simp only [good_mk_iff]; refine GoodParts.of (?_ : Good M s0 q _) rfl rfl rfl rfl)
    | with_reducible apply OutGood.of
    | with_reducible apply good_channelFails
    | with_reducible apply good_setDie
    | with_reducible apply good_ite
    | with_reducible apply OutGood.ite)

end Sys2Proof.Machine
end

