-- ==== Sys2Proof/Laws/Resets.lean ====
section
/-! SUPPORT. What the operations of Machine/Resets.lean keep (see Laws/Keep.lean), one lemma for each. -/

set_option Elab.async false

set_option linter.all false

namespace Sys2Proof.Machine

variable {M : Nat} {s0 : State} {q : Prop}

theorem good_execPowerOnRelease {s1 : State} (h1 : Good M s0 q s1) (hm : Cover 0x20000001 M) : OutGood M s0 q (execPowerOnRelease s1) := by
  unfold execPowerOnRelease
  repeat' (first
    | with_reducible assumption
    | exact Cover.sub hm rfl
    | exact Cover.bit hm rfl
    | exact Cover.bit hm (by dsimp only [Fld.block]; rfl)
    | (extract_lets -underBinder +onlyGivenNames x; try clear_value x)
    | intro x
    | (simp only [good_mk_iff]; refine GoodParts.of (?_ : Good M s0 q _) rfl rfl rfl rfl)
    | with_reducible apply OutGood.of
    | with_reducible apply good_ite
    | with_reducible apply OutGood.ite)

theorem good_ppm {s1 : State} (h1 : Good M s0 q s1) (a2) (a3) (a4) (hm : Cover 0x1000000000000 M) : Good M s0 q (State.ppm s1 a2 a3 a4) := by
  unfold State.ppm
  repeat' (first
    | with_reducible assumption
    | exact Cover.sub hm rfl
    | exact Cover.bit hm rfl
    | exact Cover.bit hm (by dsimp only [Fld.block]; rfl)
    | (extract_lets -underBinder +onlyGivenNames x; try clear_value x)
    | intro x
    | with_reducible apply good_w)

theorem good_execCrystalValid (a1) {s2 : State} (h2 : Good M s0 q s2) (hm : Cover 0x1504028000161 M) : OutGood M s0 q (execCrystalValid a1 s2) := by
  unfold execCrystalValid
  repeat' (first
    | with_reducible assumption
    | exact Cover.sub hm rfl
    | exact Cover.bit hm rfl
    | exact Cover.bit hm (by dsimp only [Fld.block]; rfl)
    | (extract_lets -underBinder +onlyGivenNames x; refine (fun (hx : Good M s0 q x) => ?_) ?_; (on_goal 1 => try clear_value x); (on_goal 2 => subst x))
    | (extract_lets -underBinder +onlyGivenNames x; try clear_value x)
    | intro x
    | (simp only [good_mk_iff]; refine GoodParts.of (?_ : Good M s0 q _) rfl rfl rfl rfl)
    | with_reducible apply OutGood.of
    | with_reducible apply good_w
    | with_reducible apply good_ppm
    | with_reducible apply good_superviseStart
    | with_reducible apply good_advance
    | with_reducible apply good_trig
    | with_reducible apply good_ite
    | with_reducible apply OutGood.ite
    | split)

theorem good_execFuseLoadComplete {s1 : State} (h1 : Good M s0 q s1) (hm : Cover 0x504028000161 M) : OutGood M s0 q (execFuseLoadComplete s1) := by
  unfold execFuseLoadComplete
  repeat' (first
    | with_reducible assumption
    | exact Cover.sub hm rfl
    | exact Cover.bit hm rfl
    | exact Cover.bit hm (by dsimp only [Fld.block]; rfl)
    | (extract_lets -underBinder +onlyGivenNames x; try clear_value x)
    | intro x
    | with_reducible apply OutGood.of
    | with_reducible apply good_fwShow
    | with_reducible apply good_superviseStart
    | with_reducible apply good_advance
    | with_reducible apply good_ite
    | with_reducible apply OutGood.ite)

theorem good_strapSet {s1 : State} (h1 : Good M s0 q s1) (a2) (hm : Cover 0x400000000000 M) : Good M s0 q (State.strapSet s1 a2) := by
  unfold State.strapSet
  repeat' (first
    | with_reducible assumption
    | exact Cover.sub hm rfl
    | exact Cover.bit hm rfl
    | exact Cover.bit hm (by dsimp only [Fld.block]; rfl)
    | (extract_lets -underBinder +onlyGivenNames x; refine (fun (hx : Good M s0 q x) => ?_) ?_; (on_goal 1 => try clear_value x); (on_goal 2 => subst x))
    | (extract_lets -underBinder +onlyGivenNames x; try clear_value x)
    | intro x
    | with_reducible apply good_w
    | with_reducible apply good_wb)

theorem good_railEnable {s1 : State} (h1 : Good M s0 q s1) (a2) (hm : Cover 0x4000000000040 M) : Good M s0 q (State.railEnable s1 a2) := by
  unfold State.railEnable
  repeat' (first
    | with_reducible assumption
    | exact Cover.sub hm rfl
    | exact Cover.bit hm rfl
    | exact Cover.bit hm (by dsimp only [Fld.block]; rfl)
    | (extract_lets -underBinder +onlyGivenNames x; refine (fun (hx : Good M s0 q x) => ?_) ?_; (on_goal 1 => try clear_value x); (on_goal 2 => subst x))
    | (extract_lets -underBinder +onlyGivenNames x; try clear_value x)
    | intro x
    | with_reducible apply good_w
    | with_reducible apply good_emit
    | with_reducible apply good_wbit
    | with_reducible apply good_foldS
    | with_reducible apply good_ite)

theorem good_execStrapRead (a1) {s2 : State} (h2 : Good M s0 q s2) (hm : Cover 0x4500020000161 M) : OutGood M s0 q (execStrapRead a1 s2) := by
  unfold execStrapRead
  repeat' (first
    | with_reducible assumption
    | exact Cover.sub hm rfl
    | exact Cover.bit hm rfl
    | exact Cover.bit hm (by dsimp only [Fld.block]; rfl)
    | (extract_lets -underBinder +onlyGivenNames x; refine (fun (hx : Good M s0 q x) => ?_) ?_; (on_goal 1 => try clear_value x); (on_goal 2 => subst x))
    | (extract_lets -underBinder +onlyGivenNames x; try clear_value x)
    | intro x
    | (simp only [good_mk_iff]; refine GoodParts.of (?_ : Good M s0 q _) rfl rfl rfl rfl)
    | with_reducible apply OutGood.of
    | with_reducible apply good_advance
    | with_reducible apply good_w
    | with_reducible apply good_trig
    | with_reducible apply good_strapSet
    | with_reducible apply good_railEnable
    | with_reducible apply good_ite
    | with_reducible apply OutGood.ite
    | split)

theorem good_execRailStepComplete {s1 : State} (h1 : Good M s0 q s1) (hm : Cover 0x4100020000041 M) : OutGood M s0 q (execRailStepComplete s1) := by
  unfold execRailStepComplete
  repeat' (first
    | with_reducible assumption
    | exact Cover.sub hm rfl
    | exact Cover.bit hm rfl
    | exact Cover.bit hm (by dsimp only [Fld.block]; rfl)
    | (extract_lets -underBinder +onlyGivenNames x; refine (fun (hx : Good M s0 q x) => ?_) ?_; (on_goal 1 => try clear_value x); (on_goal 2 => subst x))
    | (extract_lets -underBinder +onlyGivenNames x; try clear_value x)
    | intro x
    | (simp only [good_mk_iff]; refine GoodParts.of (?_ : Good M s0 q _) rfl rfl rfl rfl)
    | with_reducible apply OutGood.of
    | with_reducible apply good_wbit
    | with_reducible apply good_w
    | with_reducible apply good_advance
    | with_reducible apply good_railEnable
    | with_reducible apply good_foldS
    | with_reducible apply good_ite
    | with_reducible apply OutGood.ite)

theorem good_railFails {s1 : State} (h1 : Good M s0 q s1) (hm : Cover 0x4100000000161 M) : Good M s0 q (State.railFails s1) := by
  unfold State.railFails
  repeat' (first
    | with_reducible assumption
    | exact Cover.sub hm rfl
    | exact Cover.bit hm rfl
    | exact Cover.bit hm (by dsimp only [Fld.block]; rfl)
    | (extract_lets -underBinder +onlyGivenNames x; refine (fun (hx : Good M s0 q x) => ?_) ?_; (on_goal 1 => try clear_value x); (on_goal 2 => subst x))
    | (extract_lets -underBinder +onlyGivenNames x; try clear_value x)
    | intro x
    | with_reducible apply good_w
    | with_reducible apply good_advance
    | with_reducible apply good_railsOff
    | with_reducible apply good_trig)

theorem good_execRailStepTimeout {s1 : State} (h1 : Good M s0 q s1) (hm : Cover 0x4100000000161 M) : OutGood M s0 q (execRailStepTimeout s1) := by
  unfold execRailStepTimeout
  repeat' (first
    | with_reducible assumption
    | exact Cover.sub hm rfl
    | exact Cover.bit hm rfl
    | exact Cover.bit hm (by dsimp only [Fld.block]; rfl)
    | (extract_lets -underBinder +onlyGivenNames x; try clear_value x)
    | intro x
    | with_reducible apply OutGood.of
    | with_reducible apply good_railFails
    | with_reducible apply good_advance
    | with_reducible apply good_ite
    | with_reducible apply OutGood.ite)

theorem good_execClockCheckComplete (a1) (a2) (a3) {s4 : State} (h4 : Good M s0 q s4) (hm : Cover 0x5100004000161 M) : OutGood M s0 q (execClockCheckComplete a1 a2 a3 s4) := by
  unfold execClockCheckComplete
  repeat' (first
    | with_reducible assumption
    | exact Cover.sub hm rfl
    | exact Cover.bit hm rfl
    | exact Cover.bit hm (by dsimp only [Fld.block]; rfl)
    | (extract_lets -underBinder +onlyGivenNames x; refine (fun (hx : Good M s0 q x) => ?_) ?_; (on_goal 1 => try clear_value x); (on_goal 2 => subst x))
    | (extract_lets -underBinder +onlyGivenNames x; try clear_value x)
    | intro x
    | (simp only [good_mk_iff]; refine GoodParts.of (?_ : Good M s0 q _) rfl rfl rfl rfl)
    | with_reducible apply OutGood.of
    | with_reducible apply good_advance
    | with_reducible apply good_w
    | with_reducible apply good_ppm
    | with_reducible apply good_wb
    | with_reducible apply good_trig
    | with_reducible apply good_foldS
    | with_reducible apply good_ite
    | with_reducible apply OutGood.ite
    | split)

theorem good_execDieReleaseStep (a1) {s2 : State} (h2 : Good M s0 q s2) (hm : Cover 0x1F0003455F00000C100015500024A74361 M) : OutGood M s0 q (execDieReleaseStep a1 s2) := by
  unfold execDieReleaseStep
  repeat' (first
    | with_reducible assumption
    | exact Cover.sub hm rfl
    | exact Cover.bit hm rfl
    | exact Cover.bit hm (by dsimp only [Fld.block]; rfl)
    | (extract_lets -underBinder +onlyGivenNames x; refine (fun (hx : Good M s0 q x) => ?_) ?_; (on_goal 1 => try clear_value x); (on_goal 2 => subst x))
    | (extract_lets -underBinder +onlyGivenNames x; try clear_value x)
    | intro x
    | (simp only [good_mk_iff]; refine GoodParts.of (?_ : Good M s0 q _) rfl rfl rfl rfl)
    | with_reducible apply OutGood.of
    | with_reducible apply good_advance
    | with_reducible apply good_ringShow
    | with_reducible apply good_cipherKat
    | with_reducible apply good_setDie
    | with_reducible apply good_dieRuns
    | with_reducible apply good_ite
    | with_reducible apply OutGood.ite
    | split)

theorem good_execStackInitComplete (a1) (a2) {s3 : State} (h3 : Good M s0 q s3) (hm : Cover 0x1F0003455F00000C100015500024A74360 M) : OutGood M s0 q (execStackInitComplete a1 a2 s3) := by
  unfold execStackInitComplete
  repeat' (first
    | with_reducible assumption
    | exact Cover.sub hm rfl
    | exact Cover.bit hm rfl
    | exact Cover.bit hm (by dsimp only [Fld.block]; rfl)
    | (extract_lets -underBinder +onlyGivenNames x; try clear_value x)
    | intro x
    | with_reducible apply OutGood.of
    | with_reducible apply good_dieRuns
    | with_reducible apply good_ite)

theorem good_execResetNAssert {s1 : State} (h1 : Good M s0 q s1) (hm : Cover 0xAAAAAABFAAABFFFFAAAAAFFFAABFFFFE3FFFFFFB M) : OutGood M s0 q (execResetNAssert s1) := by
  unfold execResetNAssert
  repeat' (first
    | with_reducible assumption
    | exact Cover.sub hm rfl
    | exact Cover.bit hm rfl
    | exact Cover.bit hm (by dsimp only [Fld.block]; rfl)
    | (extract_lets -underBinder +onlyGivenNames x; try clear_value x)
    | intro x
    | with_reducible apply OutGood.of
    | with_reducible apply good_coldReset
    | with_reducible apply good_packageSource
    | with_reducible apply good_ite
    | with_reducible apply OutGood.ite)

theorem good_execResetNRelease {s1 : State} (h1 : Good M s0 q s1) (hm : Cover 0x504028000161 M) : OutGood M s0 q (execResetNRelease s1) := by
  unfold execResetNRelease
  repeat' (first
    | with_reducible assumption
    | exact Cover.sub hm rfl
    | exact Cover.bit hm rfl
    | exact Cover.bit hm (by dsimp only [Fld.block]; rfl)
    | (extract_lets -underBinder +onlyGivenNames x; try clear_value x)
    | intro x
    | (simp only [good_mk_iff]; refine GoodParts.of (?_ : Good M s0 q _) rfl rfl rfl rfl)
    | with_reducible apply OutGood.of
    | with_reducible apply good_superviseStart
    | with_reducible apply good_advance
    | with_reducible apply good_ite
    | with_reducible apply OutGood.ite)

theorem good_execDeviceRailUndervoltage {s1 : State} (h1 : Good M s0 q s1) (hm : Cover 0xAAAAAABFAAABFFFFAAAAAFFFAABFFFFE3FFFFFFB M) : OutGood M s0 q (execDeviceRailUndervoltage s1) := by
  unfold execDeviceRailUndervoltage
  repeat' (first
    | with_reducible assumption
    | exact Cover.sub hm rfl
    | exact Cover.bit hm rfl
    | exact Cover.bit hm (by dsimp only [Fld.block]; rfl)
    | (extract_lets -underBinder +onlyGivenNames x; try clear_value x)
    | intro x
    | with_reducible apply OutGood.of
    | with_reducible apply good_coldReset
    | with_reducible apply good_ite
    | with_reducible apply OutGood.ite)

theorem good_execStandbySupplyLoss {s1 : State} (h1 : Good M s0 q s1) (hm : Cover 0xAAAAAABFAAABFFFFAAAAAFFFAABFFFFE3FFFFFFB M) : OutGood M s0 q (execStandbySupplyLoss s1) := by
  unfold execStandbySupplyLoss
  repeat' (first
    | with_reducible assumption
    | exact Cover.sub hm rfl
    | exact Cover.bit hm rfl
    | exact Cover.bit hm (by dsimp only [Fld.block]; rfl)
    | (extract_lets -underBinder +onlyGivenNames x; try clear_value x)
    | intro x
    | with_reducible apply OutGood.of
    | with_reducible apply good_coldReset)

theorem good_rstCmd {s1 : State} (h1 : Good M s0 q s1) (a2) (a3) (a4) {s5 : State} (h5 : Good M s0 q s5) (hm : Cover 0x530000000060 M) : Good M s0 q (State.rstCmd s1 a2 a3 a4 s5) := by
  unfold State.rstCmd
  repeat' (first
    | with_reducible assumption
    | exact Cover.sub hm rfl
    | exact Cover.bit hm rfl
    | exact Cover.bit hm (by dsimp only [Fld.block]; rfl)
    | (extract_lets -underBinder +onlyGivenNames x; try clear_value x)
    | intro x
    | with_reducible apply good_secureOnly
    | with_reducible apply good_ev
    | with_reducible apply good_discardState
    | with_reducible apply good_ite)

theorem good_execRstCmdPackage (a1) {s2 : State} (h2 : Good M s0 q s2) (hm : Cover 0xAAAAAABFAAABFFFFAAAAAFFFAABFFFFE3FFFFFFB M) : OutGood M s0 q (execRstCmdPackage a1 s2) := by
  unfold execRstCmdPackage
  repeat' (first
    | with_reducible assumption
    | exact Cover.sub hm rfl
    | exact Cover.bit hm rfl
    | exact Cover.bit hm (by dsimp only [Fld.block]; rfl)
    | (extract_lets -underBinder +onlyGivenNames x; try clear_value x)
    | intro x
    | with_reducible apply OutGood.of
    | with_reducible apply good_rstCmd
    | with_reducible apply good_packageSource)

theorem good_execRstCmdDie (a1) (a2) {s3 : State} (h3 : Good M s0 q s3) (hm : Cover 0xAAAAAABFAAABFFFFAAAAAFFFAABFFFFE35FF4778 M) : OutGood M s0 q (execRstCmdDie a1 a2 s3) := by
  unfold execRstCmdDie
  repeat' (first
    | with_reducible assumption
    | exact Cover.sub hm rfl
    | exact Cover.bit hm rfl
    | exact Cover.bit hm (by dsimp only [Fld.block]; rfl)
    | (extract_lets -underBinder +onlyGivenNames x; try clear_value x)
    | intro x
    | with_reducible apply OutGood.of
    | with_reducible apply good_rstCmd
    | with_reducible apply good_dieSource)

theorem good_execRstCmdChannel (a1) (a2) {s3 : State} (h3 : Good M s0 q s3) (hm : Cover 0xAAAAAABFAAABFFFFAAAAAFFFAABFFFFE35FF4778 M) : OutGood M s0 q (execRstCmdChannel a1 a2 s3) := by
  unfold execRstCmdChannel
  repeat' (first
    | with_reducible assumption
    | exact Cover.sub hm rfl
    | exact Cover.bit hm rfl
    | exact Cover.bit hm (by dsimp only [Fld.block]; rfl)
    | (extract_lets -underBinder +onlyGivenNames x; try clear_value x)
    | intro x
    | with_reducible apply OutGood.of
    | with_reducible apply good_rstCmd
    | with_reducible apply good_dieSource)

theorem good_execCdWatchdogKick (a1) {s2 : State} (h2 : Good M s0 q s2) (hm : Cover 0x20000000 M) : OutGood M s0 q (execCdWatchdogKick a1 s2) := by
  unfold execCdWatchdogKick
  repeat' (first
    | with_reducible assumption
    | exact Cover.sub hm rfl
    | exact Cover.bit hm rfl
    | exact Cover.bit hm (by dsimp only [Fld.block]; rfl)
    | (extract_lets -underBinder +onlyGivenNames x; try clear_value x)
    | intro x
    | (simp only [good_mk_iff]; refine GoodParts.of (?_ : Good M s0 q _) rfl rfl rfl rfl)
    | with_reducible apply OutGood.of
    | with_reducible apply good_ite)

theorem good_execCdWatchdogExpiry (a1) {s2 : State} (h2 : Good M s0 q s2) (hm : Cover 0xAAAAAABFAAABFFFFAAAAAFFFAABFFFFE35FF4779 M) : OutGood M s0 q (execCdWatchdogExpiry a1 s2) := by
  unfold execCdWatchdogExpiry
  repeat' (first
    | with_reducible assumption
    | exact Cover.sub hm rfl
    | exact Cover.bit hm rfl
    | exact Cover.bit hm (by dsimp only [Fld.block]; rfl)
    | (extract_lets -underBinder +onlyGivenNames x; try clear_value x)
    | intro x
    | with_reducible apply OutGood.of
    | with_reducible apply good_dieSource
    | with_reducible apply good_advance
    | with_reducible apply good_ite
    | with_reducible apply OutGood.ite
    | split)

theorem good_execCdFatalError (a1) {s2 : State} (h2 : Good M s0 q s2) (hm : Cover 0xAAAAAABFAAABFFFFAAAAAFFFAABFFFFE35FF4778 M) : OutGood M s0 q (execCdFatalError a1 s2) := by
  unfold execCdFatalError
  repeat' (first
    | with_reducible assumption
    | exact Cover.sub hm rfl
    | exact Cover.bit hm rfl
    | exact Cover.bit hm (by dsimp only [Fld.block]; rfl)
    | (extract_lets -underBinder +onlyGivenNames x; try clear_value x)
    | intro x
    | with_reducible apply OutGood.of
    | with_reducible apply good_dieSource
    | with_reducible apply good_ite)

theorem good_execPdWatchdogExpiry {s1 : State} (h1 : Good M s0 q s1) (hm : Cover 0x120 M) : OutGood M s0 q (execPdWatchdogExpiry s1) := by
  unfold execPdWatchdogExpiry
  repeat' (first
    | with_reducible assumption
    | exact Cover.sub hm rfl
    | exact Cover.bit hm rfl
    | exact Cover.bit hm (by dsimp only [Fld.block]; rfl)
    | (extract_lets -underBinder +onlyGivenNames x; try clear_value x)
    | intro x
    | with_reducible apply OutGood.of
    | with_reducible apply good_fatal
    | with_reducible apply good_ite)

theorem good_execJtagResetRequest {s1 : State} (h1 : Good M s0 q s1) (hm : Cover 0xAAAAAABFAAABFFFFAAAAAFFFAABFFFFE3FFFFFFB M) : OutGood M s0 q (execJtagResetRequest s1) := by
  unfold execJtagResetRequest
  repeat' (first
    | with_reducible assumption
    | exact Cover.sub hm rfl
    | exact Cover.bit hm rfl
    | exact Cover.bit hm (by dsimp only [Fld.block]; rfl)
    | (extract_lets -underBinder +onlyGivenNames x; try clear_value x)
    | intro x
    | with_reducible apply OutGood.of
    | with_reducible apply good_packageSource
    | with_reducible apply good_ite)

theorem good_execDieResetRelease (a1) (a2) (a3) (a4) (a5) {s6 : State} (h6 : Good M s0 q s6) (hm : Cover 0x1F0003555F00000D550015555424A74B61 M) : OutGood M s0 q (execDieResetRelease a1 a2 a3 a4 a5 s6) := by
  unfold execDieResetRelease
  repeat' (first
    | with_reducible assumption
    | exact Cover.sub hm rfl
    | exact Cover.bit hm rfl
    | exact Cover.bit hm (by dsimp only [Fld.block]; rfl)
    | (extract_lets -underBinder +onlyGivenNames x; refine (fun (hx : Good M s0 q x) => ?_) ?_; (on_goal 1 => try clear_value x); (on_goal 2 => subst x))
    | (extract_lets -underBinder +onlyGivenNames x; try clear_value x)
    | intro x
    | (simp only [good_mk_iff]; refine GoodParts.of (?_ : Good M s0 q _) rfl rfl rfl rfl)
    | with_reducible apply OutGood.of
    | with_reducible apply good_advance
    | with_reducible apply good_dieFails
    | with_reducible apply good_ev
    | with_reducible apply good_setProof
    | with_reducible apply good_dieLock
    | with_reducible apply good_loadWrt
    | with_reducible apply good_commitEntries
    | with_reducible apply good_dieBack
    | with_reducible apply good_ite
    | with_reducible apply OutGood.ite
    | split)

theorem good_execChannelResetRelease (a1) (a2) {s3 : State} (h3 : Good M s0 q s3) (hm : Cover 0x1F0003455F00000C100015500024A74361 M) : OutGood M s0 q (execChannelResetRelease a1 a2 s3) := by
  unfold execChannelResetRelease
  repeat' (first
    | with_reducible assumption
    | exact Cover.sub hm rfl
    | exact Cover.bit hm rfl
    | exact Cover.bit hm (by dsimp only [Fld.block]; rfl)
    | (extract_lets -underBinder +onlyGivenNames x; try clear_value x)
    | intro x
    | with_reducible apply OutGood.of
    | with_reducible apply good_dieBack
    | with_reducible apply good_advance
    | with_reducible apply good_ite
    | with_reducible apply OutGood.ite
    | split)

theorem good_execRefclkOrPllLoss (a1) {s2 : State} (h2 : Good M s0 q s2) (hm : Cover 0x5100000000161 M) : OutGood M s0 q (execRefclkOrPllLoss a1 s2) := by
  unfold execRefclkOrPllLoss
  repeat' (first
    | with_reducible assumption
    | exact Cover.sub hm rfl
    | exact Cover.bit hm rfl
    | exact Cover.bit hm (by dsimp only [Fld.block]; rfl)
    | (extract_lets -underBinder +onlyGivenNames x; refine (fun (hx : Good M s0 q x) => ?_) ?_; (on_goal 1 => try clear_value x); (on_goal 2 => subst x))
    | (extract_lets -underBinder +onlyGivenNames x; try clear_value x)
    | intro x
    | with_reducible apply OutGood.of
    | with_reducible apply good_ev
    | with_reducible apply good_w
    | with_reducible apply good_railFails
    | with_reducible apply good_fatal
    | with_reducible apply good_foldS
    | with_reducible apply good_ite
    | with_reducible apply OutGood.ite)

theorem good_execCdClockLoss (a1) (a2) {s3 : State} (h3 : Good M s0 q s3) (hm : Cover 0x1F0003055F00000C100011500024874160 M) : OutGood M s0 q (execCdClockLoss a1 a2 s3) := by
  unfold execCdClockLoss
  repeat' (first
    | with_reducible assumption
    | exact Cover.sub hm rfl
    | exact Cover.bit hm rfl
    | exact Cover.bit hm (by dsimp only [Fld.block]; rfl)
    | (extract_lets -underBinder +onlyGivenNames x; refine (fun (hx : Good M s0 q x) => ?_) ?_; (on_goal 1 => try clear_value x); (on_goal 2 => subst x))
    | (extract_lets -underBinder +onlyGivenNames x; try clear_value x)
    | intro x
    | with_reducible apply OutGood.of
    | with_reducible apply good_ev
    | with_reducible apply good_w
    | with_reducible apply good_dieFails
    | with_reducible apply good_ite
    | with_reducible apply OutGood.ite)

theorem good_execEpRefclkInvalid (a1) {s2 : State} (h2 : Good M s0 q s2) (hm : Cover 0x14F00000C000001100004070040 M) : OutGood M s0 q (execEpRefclkInvalid a1 s2) := by
  unfold execEpRefclkInvalid
  repeat' (first
    | with_reducible assumption
    | exact Cover.sub hm rfl
    | exact Cover.bit hm rfl
    | exact Cover.bit hm (by dsimp only [Fld.block]; rfl)
    | (extract_lets -underBinder +onlyGivenNames x; refine (fun (hx : Good M s0 q x) => ?_) ?_; (on_goal 1 => try clear_value x); (on_goal 2 => subst x))
    | (extract_lets -underBinder +onlyGivenNames x; try clear_value x)
    | intro x
    | (simp only [good_mk_iff]; refine GoodParts.of (?_ : Good M s0 q _) rfl rfl rfl rfl)
    | with_reducible apply OutGood.of
    | with_reducible apply good_wb
    | with_reducible apply good_epTrain
    | with_reducible apply good_ev
    | with_reducible apply good_epLinkDown
    | with_reducible apply good_epResetAll
    | with_reducible apply good_ite
    | with_reducible apply OutGood.ite)

theorem good_execCrystalOutOfRange (a1) {s2 : State} (h2 : Good M s0 q s2) (hm : Cover 0x1000020000040 M) : OutGood M s0 q (execCrystalOutOfRange a1 s2) := by
  unfold execCrystalOutOfRange
  repeat' (first
    | with_reducible assumption
    | exact Cover.sub hm rfl
    | exact Cover.bit hm rfl
    | exact Cover.bit hm (by dsimp only [Fld.block]; rfl)
    | (extract_lets -underBinder +onlyGivenNames x; refine (fun (hx : Good M s0 q x) => ?_) ?_; (on_goal 1 => try clear_value x); (on_goal 2 => subst x))
    | (extract_lets -underBinder +onlyGivenNames x; try clear_value x)
    | intro x
    | (simp only [good_mk_iff]; refine GoodParts.of (?_ : Good M s0 q _) rfl rfl rfl rfl)
    | with_reducible apply OutGood.of
    | with_reducible apply good_ev
    | with_reducible apply good_w
    | with_reducible apply good_ppm
    | with_reducible apply good_ite
    | with_reducible apply OutGood.ite)

theorem good_execCrystalBackInRange (a1) {s2 : State} (h2 : Good M s0 q s2) (hm : Cover 0x1000020000000 M) : OutGood M s0 q (execCrystalBackInRange a1 s2) := by
  unfold execCrystalBackInRange
  repeat' (first
    | with_reducible assumption
    | exact Cover.sub hm rfl
    | exact Cover.bit hm rfl
    | exact Cover.bit hm (by dsimp only [Fld.block]; rfl)
    | (extract_lets -underBinder +onlyGivenNames x; refine (fun (hx : Good M s0 q x) => ?_) ?_; (on_goal 1 => try clear_value x); (on_goal 2 => subst x))
    | (extract_lets -underBinder +onlyGivenNames x; try clear_value x)
    | intro x
    | (simp only [good_mk_iff]; refine GoodParts.of (?_ : Good M s0 q _) rfl rfl rfl rfl)
    | with_reducible apply OutGood.of
    | with_reducible apply good_w
    | with_reducible apply good_ppm
    | with_reducible apply good_ite
    | with_reducible apply OutGood.ite)

theorem good_setVolt {s1 : State} (h1 : Good M s0 q s1) (a2) (a3) (hm : Cover 0x4000000000040 M) : Good M s0 q (State.setVolt s1 a2 a3) := by
  unfold State.setVolt
  repeat' (first
    | with_reducible assumption
    | exact Cover.sub hm rfl
    | exact Cover.bit hm rfl
    | exact Cover.bit hm (by dsimp only [Fld.block]; rfl)
    | (extract_lets -underBinder +onlyGivenNames x; refine (fun (hx : Good M s0 q x) => ?_) ?_; (on_goal 1 => try clear_value x); (on_goal 2 => subst x))
    | (extract_lets -underBinder +onlyGivenNames x; try clear_value x)
    | intro x
    | with_reducible apply good_w
    | with_reducible apply good_ev
    | with_reducible apply good_ite)

theorem good_avsReply {s1 : State} (h1 : Good M s0 q s1) (a2) (a3) (a4) (hm : Cover 0x4000020000040 M) : Good M s0 q (State.avsReply s1 a2 a3 a4) := by
  unfold State.avsReply
  repeat' (first
    | with_reducible assumption
    | exact Cover.sub hm rfl
    | exact Cover.bit hm rfl
    | exact Cover.bit hm (by dsimp only [Fld.block]; rfl)
    | (extract_lets -underBinder +onlyGivenNames x; refine (fun (hx : Good M s0 q x) => ?_) ?_; (on_goal 1 => try clear_value x); (on_goal 2 => subst x))
    | (extract_lets -underBinder +onlyGivenNames x; try clear_value x)
    | intro x
    | (simp only [good_mk_iff]; refine GoodParts.of (?_ : Good M s0 q _) rfl rfl rfl rfl)
    | with_reducible apply good_w
    | with_reducible apply good_ev
    | with_reducible apply good_ite
    | split)

theorem good_execAvsLoopInterval (a1) (a2) (a3) (a4) {s5 : State} (h5 : Good M s0 q s5) (hm : Cover 0x4000020000040 M) : OutGood M s0 q (execAvsLoopInterval a1 a2 a3 a4 s5) := by
  unfold execAvsLoopInterval
  repeat' (first
    | with_reducible assumption
    | exact Cover.sub hm rfl
    | exact Cover.bit hm rfl
    | exact Cover.bit hm (by dsimp only [Fld.block]; rfl)
    | (extract_lets -underBinder +onlyGivenNames x; refine (fun (hx : Good M s0 q x) => ?_) ?_; (on_goal 1 => try clear_value x); (on_goal 2 => subst x))
    | (extract_lets -underBinder +onlyGivenNames x; try clear_value x)
    | intro x
    | (simp only [good_mk_iff]; refine GoodParts.of (?_ : Good M s0 q _) rfl rfl rfl rfl)
    | with_reducible apply OutGood.of
    | with_reducible apply good_w
    | with_reducible apply good_avsReply
    | with_reducible apply good_setVolt
    | with_reducible apply good_ite
    | with_reducible apply OutGood.ite)

theorem good_execSlackEmergency (a1) (a2) {s3 : State} (h3 : Good M s0 q s3) (hm : Cover 0x4000020000040 M) : OutGood M s0 q (execSlackEmergency a1 a2 s3) := by
  unfold execSlackEmergency
  repeat' (first
    | with_reducible assumption
    | exact Cover.sub hm rfl
    | exact Cover.bit hm rfl
    | exact Cover.bit hm (by dsimp only [Fld.block]; rfl)
    | (extract_lets -underBinder +onlyGivenNames x; refine (fun (hx : Good M s0 q x) => ?_) ?_; (on_goal 1 => try clear_value x); (on_goal 2 => subst x))
    | (extract_lets -underBinder +onlyGivenNames x; try clear_value x)
    | intro x
    | (simp only [good_mk_iff]; refine GoodParts.of (?_ : Good M s0 q _) rfl rfl rfl rfl)
    | with_reducible apply OutGood.of
    | with_reducible apply good_ev
    | with_reducible apply good_w
    | with_reducible apply good_setVolt
    | with_reducible apply good_ite
    | with_reducible apply OutGood.ite)

theorem good_execSlackEmergencyTimeout (a1) {s2 : State} (h2 : Good M s0 q s2) (hm : Cover 0x1F0003055F00000C100010500024874161 M) : OutGood M s0 q (execSlackEmergencyTimeout a1 s2) := by
  unfold execSlackEmergencyTimeout
  repeat' (first
    | with_reducible assumption
    | exact Cover.sub hm rfl
    | exact Cover.bit hm rfl
    | exact Cover.bit hm (by dsimp only [Fld.block]; rfl)
    | (extract_lets -underBinder +onlyGivenNames x; refine (fun (hx : Good M s0 q x) => ?_) ?_; (on_goal 1 => try clear_value x); (on_goal 2 => subst x))
    | (extract_lets -underBinder +onlyGivenNames x; try clear_value x)
    | intro x
    | (simp only [good_mk_iff]; refine GoodParts.of (?_ : Good M s0 q _) rfl rfl rfl rfl)
    | with_reducible apply OutGood.of
    | with_reducible apply good_advance
    | with_reducible apply good_fatal
    | with_reducible apply good_dieFails
    | with_reducible apply good_ite
    | with_reducible apply OutGood.ite
    | split)

theorem good_execVoltageRecalMonitor (a1) {s2 : State} (h2 : Good M s0 q s2) (hm : Cover 0x4100000000041 M) : OutGood M s0 q (execVoltageRecalMonitor a1 s2) := by
  unfold execVoltageRecalMonitor
  repeat' (first
    | with_reducible assumption
    | exact Cover.sub hm rfl
    | exact Cover.bit hm rfl
    | exact Cover.bit hm (by dsimp only [Fld.block]; rfl)
    | (extract_lets -underBinder +onlyGivenNames x; refine (fun (hx : Good M s0 q x) => ?_) ?_; (on_goal 1 => try clear_value x); (on_goal 2 => subst x))
    | (extract_lets -underBinder +onlyGivenNames x; try clear_value x)
    | intro x
    | with_reducible apply OutGood.of
    | with_reducible apply good_advance
    | with_reducible apply good_w
    | with_reducible apply good_ev
    | with_reducible apply good_ite
    | with_reducible apply OutGood.ite)

end Sys2Proof.Machine
end

