-- ==== Sys2Proof/Laws/Late.lean ====
section
/-! SUPPORT. What the operations of Machine/Late.lean keep (see Laws/Keep.lean), one lemma for each. -/

set_option Elab.async false

set_option linter.all false

namespace Sys2Proof.Machine

variable {M : Nat} {s0 : State} {q : Prop}

theorem good_execLatticeMessageForward (a1) (a2) (a3) (a4) (a5) {s6 : State} (h6 : Good M s0 q s6) (hm : Cover 0x1000000000C0 M) : OutGood M s0 q (execLatticeMessageForward a1 a2 a3 a4 a5 s6) := by
  unfold execLatticeMessageForward
  repeat' (first
    | with_reducible assumption
    | exact Cover.sub hm rfl
    | exact Cover.bit hm rfl
    | exact Cover.bit hm (by dsimp only [Fld.block]; rfl)
    | (extract_lets -underBinder +onlyGivenNames x; refine (fun (hx : Good M s0 q x) => ?_) ?_; (on_goal 1 => try clear_value x); (on_goal 2 => subst x))
    | (extract_lets -underBinder +onlyGivenNames x; try clear_value x)
    | intro x
    | (simp only [good_mk_iff]; refine GoodParts.of (?_ : Good M s0 q _) rfl rfl rfl rfl)
    | with_reducible apply OutGood.of
    | with_reducible apply good_latSend
    | with_reducible apply good_pmcFeed
    | with_reducible apply good_ite
    | with_reducible apply OutGood.ite
    | split)

theorem good_ringOpens {s1 : State} (h1 : Good M s0 q s1) (hm : Cover 0x30000001C00000C000010100004831360 M) : Good M s0 q (State.ringOpens s1) := by
  unfold State.ringOpens
  repeat' (first
    | with_reducible assumption
    | exact Cover.sub hm rfl
    | exact Cover.bit hm rfl
    | exact Cover.bit hm (by dsimp only [Fld.block]; rfl)
    | (extract_lets -underBinder +onlyGivenNames x; try clear_value x)
    | intro x
    | with_reducible apply good_partnerLost
    | with_reducible apply good_ite)

theorem good_ringBreaks {s1 : State} (h1 : Good M s0 q s1) (hm : Cover 0x10000000000160 M) : Good M s0 q (State.ringBreaks s1) := by
  unfold State.ringBreaks
  repeat' (first
    | with_reducible assumption
    | exact Cover.sub hm rfl
    | exact Cover.bit hm rfl
    | exact Cover.bit hm (by dsimp only [Fld.block]; rfl)
    | (extract_lets -underBinder +onlyGivenNames x; try clear_value x)
    | intro x
    | with_reducible apply good_fatal
    | with_reducible apply good_ev)

theorem good_execRingMarker (a1) {s2 : State} (h2 : Good M s0 q s2) (hm : Cover 0x30000001C00000C000010100004831361 M) : OutGood M s0 q (execRingMarker a1 s2) := by
  unfold execRingMarker
  repeat' (first
    | with_reducible assumption
    | exact Cover.sub hm rfl
    | exact Cover.bit hm rfl
    | exact Cover.bit hm (by dsimp only [Fld.block]; rfl)
    | (extract_lets -underBinder +onlyGivenNames x; refine (fun (hx : Good M s0 q x) => ?_) ?_; (on_goal 1 => try clear_value x); (on_goal 2 => subst x))
    | (extract_lets -underBinder +onlyGivenNames x; try clear_value x)
    | intro x
    | (simp only [good_mk_iff]; refine GoodParts.of (?_ : Good M s0 q _) rfl rfl rfl rfl)
    | with_reducible apply OutGood.of
    | with_reducible apply good_advance
    | with_reducible apply good_w
    | with_reducible apply good_ringOpens
    | with_reducible apply good_ringBreaks
    | with_reducible apply good_ite
    | with_reducible apply OutGood.ite
    | split)

theorem good_dieTimeFault {s1 : State} (h1 : Good M s0 q s1) (a2) (hm : Cover 0x1F0003055F00000C100010500424874360 M) : Good M s0 q (State.dieTimeFault s1 a2) := by
  unfold State.dieTimeFault
  repeat' (first
    | with_reducible assumption
    | exact Cover.sub hm rfl
    | exact Cover.bit hm rfl
    | exact Cover.bit hm (by dsimp only [Fld.block]; rfl)
    | (extract_lets -underBinder +onlyGivenNames x; refine (fun (hx : Good M s0 q x) => ?_) ?_; (on_goal 1 => try clear_value x); (on_goal 2 => subst x))
    | (extract_lets -underBinder +onlyGivenNames x; try clear_value x)
    | intro x
    | (simp only [good_mk_iff]; refine GoodParts.of (?_ : Good M s0 q _) rfl rfl rfl rfl)
    | with_reducible apply good_logEv
    | with_reducible apply good_ev
    | with_reducible apply good_fatal
    | with_reducible apply good_dieFails
    | with_reducible apply good_ite)

theorem good_execTimeDistributionReceive (a1) (a2) {s3 : State} (h3 : Good M s0 q s3) (hm : Cover 0x1F0003055F00000C100010530424874B61 M) : OutGood M s0 q (execTimeDistributionReceive a1 a2 s3) := by
  unfold execTimeDistributionReceive
  repeat' (first
    | with_reducible assumption
    | exact Cover.sub hm rfl
    | exact Cover.bit hm rfl
    | exact Cover.bit hm (by dsimp only [Fld.block]; rfl)
    | (extract_lets -underBinder +onlyGivenNames x; refine (fun (hx : Good M s0 q x) => ?_) ?_; (on_goal 1 => try clear_value x); (on_goal 2 => subst x))
    | (extract_lets -underBinder +onlyGivenNames x; try clear_value x)
    | intro x
    | (simp only [good_mk_iff]; refine GoodParts.of (?_ : Good M s0 q _) rfl rfl rfl rfl)
    | with_reducible apply OutGood.of
    | with_reducible apply good_reachTs
    | with_reducible apply good_w
    | with_reducible apply good_servoEvents
    | with_reducible apply good_stepTo
    | with_reducible apply good_ev
    | with_reducible apply good_dieTimeFault
    | with_reducible apply good_setDieTime
    | with_reducible apply good_ite
    | with_reducible apply OutGood.ite
    | split)

theorem good_execTimeMessageLoss (a1) {s2 : State} (h2 : Good M s0 q s2) (hm : Cover 0x30000001C00000C000010100004831361 M) : OutGood M s0 q (execTimeMessageLoss a1 s2) := by
  unfold execTimeMessageLoss
  repeat' (first
    | with_reducible assumption
    | exact Cover.sub hm rfl
    | exact Cover.bit hm rfl
    | exact Cover.bit hm (by dsimp only [Fld.block]; rfl)
    | (extract_lets -underBinder +onlyGivenNames x; refine (fun (hx : Good M s0 q x) => ?_) ?_; (on_goal 1 => try clear_value x); (on_goal 2 => subst x))
    | (extract_lets -underBinder +onlyGivenNames x; try clear_value x)
    | intro x
    | with_reducible apply OutGood.of
    | with_reducible apply good_advance
    | with_reducible apply good_ringOpens
    | with_reducible apply good_ringBreaks
    | with_reducible apply good_ite
    | with_reducible apply OutGood.ite)

theorem good_entryActs {s1 : State} (h1 : Good M s0 q s1) (a2) (a3) (a4) (a5) (hm : Cover 0x10000001F0000808A40 M) : Good M s0 q (State.entryActs s1 a2 a3 a4 a5) := by
  unfold State.entryActs
  repeat' (first
    | with_reducible assumption
    | exact Cover.sub hm rfl
    | exact Cover.bit hm rfl
    | exact Cover.bit hm (by dsimp only [Fld.block]; rfl)
    | (extract_lets -underBinder +onlyGivenNames x; refine (fun (hx : Good M s0 q x) => ?_) ?_; (on_goal 1 => try clear_value x); (on_goal 2 => subst x))
    | (extract_lets -underBinder +onlyGivenNames x; try clear_value x)
    | intro x
    | (simp only [good_mk_iff]; refine GoodParts.of (?_ : Good M s0 q _) rfl rfl rfl rfl)
    | with_reducible apply good_gateStart
    | with_reducible apply good_setPair
    | with_reducible apply good_windowEval
    | with_reducible apply good_bgBump
    | with_reducible apply good_ledgerAdd
    | with_reducible apply good_bump
    | with_reducible apply good_ite
    | split)

theorem good_execScheduleEntryFire (a1) (a2) {s3 : State} (h3 : Good M s0 q s3) (hm : Cover 0x10000001F0000808A41 M) : OutGood M s0 q (execScheduleEntryFire a1 a2 s3) := by
  unfold execScheduleEntryFire
  repeat' (first
    | with_reducible assumption
    | exact Cover.sub hm rfl
    | exact Cover.bit hm rfl
    | exact Cover.bit hm (by dsimp only [Fld.block]; rfl)
    | (extract_lets -underBinder +onlyGivenNames x; refine (fun (hx : Good M s0 q x) => ?_) ?_; (on_goal 1 => try clear_value x); (on_goal 2 => subst x))
    | (extract_lets -underBinder +onlyGivenNames x; try clear_value x)
    | intro x
    | (simp only [good_mk_iff]; refine GoodParts.of (?_ : Good M s0 q _) rfl rfl rfl rfl)
    | with_reducible apply OutGood.of
    | with_reducible apply good_reachTs
    | with_reducible apply good_entryActs
    | with_reducible apply good_emit
    | with_reducible apply good_ite
    | with_reducible apply OutGood.ite
    | split)

theorem good_execZeroRangeEntryFree (a1) (a2) {s3 : State} (h3 : Good M s0 q s3) (hm : Cover 0x30003CDDF0000000000001C0010A70041 M) : OutGood M s0 q (execZeroRangeEntryFree a1 a2 s3) := by
  unfold execZeroRangeEntryFree
  repeat' (first
    | with_reducible assumption
    | exact Cover.sub hm rfl
    | exact Cover.bit hm rfl
    | exact Cover.bit hm (by dsimp only [Fld.block]; rfl)
    | (extract_lets -underBinder +onlyGivenNames x; refine (fun (hx : Good M s0 q x) => ?_) ?_; (on_goal 1 => try clear_value x); (on_goal 2 => subst x))
    | (extract_lets -underBinder +onlyGivenNames x; try clear_value x)
    | intro x
    | (simp only [good_mk_iff]; refine GoodParts.of (?_ : Good M s0 q _) rfl rfl rfl rfl)
    | with_reducible apply OutGood.of
    | with_reducible apply good_onCd
    | with_reducible apply good_purgeRanges
    | with_reducible apply good_reachTs
    | with_reducible apply good_tryCommit
    | with_reducible apply good_foldS
    | with_reducible apply good_ite
    | with_reducible apply OutGood.ite
    | split)

theorem good_execCancelCrumbRetirement (a1) (a2) {s3 : State} (h3 : Good M s0 q s3) (hm : Cover 0x140000000000000100000040041 M) : OutGood M s0 q (execCancelCrumbRetirement a1 a2 s3) := by
  unfold execCancelCrumbRetirement
  repeat' (first
    | with_reducible assumption
    | exact Cover.sub hm rfl
    | exact Cover.bit hm rfl
    | exact Cover.bit hm (by dsimp only [Fld.block]; rfl)
    | (extract_lets -underBinder +onlyGivenNames x; try clear_value x)
    | intro x
    | (simp only [good_mk_iff]; refine GoodParts.of (?_ : Good M s0 q _) rfl rfl rfl rfl)
    | with_reducible apply OutGood.of
    | with_reducible apply good_onCd
    | with_reducible apply good_retireCrumb
    | with_reducible apply good_advance
    | with_reducible apply good_ite
    | with_reducible apply OutGood.ite
    | split)

end Sys2Proof.Machine
end

