-- ==== Sys2Proof/Laws/RegAccess.lean ====
section
/-! SUPPORT. What the operations of Machine/RegAccess.lean keep (see Laws/Keep.lean), one lemma for each. -/

set_option Elab.async false

set_option linter.all false

namespace Sys2Proof.Machine

variable {M : Nat} {s0 : State} {q : Prop}

theorem good_latError {s1 : State} (h1 : Good M s0 q s1) (a2) (a3) (a4) (a5) (a6) (hm : Cover 0x10000000000060 M) : Good M s0 q (State.latError s1 a2 a3 a4 a5 a6) := by
  unfold State.latError
  repeat' (first
    | with_reducible assumption
    | exact Cover.sub hm rfl
    | exact Cover.bit hm rfl
    | exact Cover.bit hm (by dsimp only [Fld.block]; rfl)
    | (extract_lets -underBinder +onlyGivenNames x; refine (fun (hx : Good M s0 q x) => ?_) ?_; (on_goal 1 => try clear_value x); (on_goal 2 => subst x))
    | (extract_lets -underBinder +onlyGivenNames x; try clear_value x)
    | intro x
    | with_reducible apply good_ev
    | with_reducible apply good_w
    | with_reducible apply good_log)

theorem good_destError {s1 : State} (h1 : Good M s0 q s1) (a2) (a3) (a4) (a5) (hm : Cover 0x10000000000060 M) : Good M s0 q (State.destError s1 a2 a3 a4 a5) := by
  unfold State.destError
  repeat' (first
    | with_reducible assumption
    | exact Cover.sub hm rfl
    | exact Cover.bit hm rfl
    | exact Cover.bit hm (by dsimp only [Fld.block]; rfl)
    | intro x
    | with_reducible apply good_latError
    | with_reducible apply good_ite
    | split)

theorem good_toPartner {s1 : State} (h1 : Good M s0 q s1) (a2) (a3) (hm : Cover 0x40 M) : Good M s0 q (State.toPartner s1 a2 a3) := by
  unfold State.toPartner
  repeat' (first
    | with_reducible assumption
    | exact Cover.sub hm rfl
    | exact Cover.bit hm rfl
    | exact Cover.bit hm (by dsimp only [Fld.block]; rfl)
    | intro x
    | with_reducible apply good_emit)

theorem good_readReg {s1 : State} (h1 : Good M s0 q s1) (a2) (a3) (a4) (a5) (a6) (hm : Cover 0x130000000070 M := by first | assumption | exact Cover.sub (by assumption) rfl) :
    Good M s0 q (State.readReg s1 a2 a3 a4 a5 a6) := by
  unfold State.readReg
  extract_lets x mine
  have hx : Good M s0 q x := good_pmcFeed h1 _ _ _
  refine good_ite ?_ ?_
  · extract_lets hi
    refine good_ite (good_emit (good_worldViolation hx _ _ _ _ _) _) (good_emit ?_ _)
    refine good_setLatch hx _ _ (fun y hy he => ?_) (Cover.bit hm rfl)
    simp only [latchKey, Prod.mk.injEq] at he
    simp [mine, he.1, he.2.1, he.2.2.1, he.2.2.2] at hy
  · split
    · exact good_emit (good_dropLatches hx _ (Cover.bit hm rfl)) _
    · exact good_ite (good_emit (good_worldViolation hx _ _ _ _ _) _) (good_emit hx _)

theorem good_execLoRegisterRead (a1) (a2) (a3) {s4 : State} (h4 : Good M s0 q s4) (hm : Cover 0x10130000000070 M) : OutGood M s0 q (execLoRegisterRead a1 a2 a3 s4) := by
  unfold execLoRegisterRead
  repeat' (first
    | with_reducible assumption
    | exact Cover.sub hm rfl
    | exact Cover.bit hm rfl
    | exact Cover.bit hm (by dsimp only [Fld.block]; rfl)
    | (extract_lets -underBinder +onlyGivenNames x; try clear_value x)
    | intro x
    | with_reducible apply OutGood.of
    | with_reducible apply good_readReg
    | with_reducible apply good_toPartner
    | with_reducible apply good_emit
    | with_reducible apply good_destError
    | with_reducible apply good_ite
    | with_reducible apply OutGood.ite
    | split)

theorem good_afterWrite {s1 : State} (h1 : Good M s0 q s1) (a2) (a3) (a4) (hm : Cover 0x407000010040000A260 M) : Good M s0 q (State.afterWrite s1 a2 a3 a4) := by
  unfold State.afterWrite
  repeat' (first
    | with_reducible assumption
    | exact Cover.sub hm rfl
    | exact Cover.bit hm rfl
    | exact Cover.bit hm (by dsimp only [Fld.block]; rfl)
    | (extract_lets -underBinder +onlyGivenNames x; try clear_value x)
    | intro x
    | with_reducible apply good_wb
    | with_reducible apply good_utcShow
    | with_reducible apply good_ppsCheck
    | with_reducible apply good_lanesFollow
    | with_reducible apply good_ite)

theorem good_writeFields {s1 : State} (h1 : Good M s0 q s1) (a2) (a3) (a4) (a5) (a6) (a7) (hm : Cover 0x150001555500000557001557540000A260 M) : Good M s0 q (State.writeFields s1 a2 a3 a4 a5 a6 a7) := by
  unfold State.writeFields
  repeat' (first
    | with_reducible assumption
    | exact Cover.sub hm rfl
    | exact Cover.bit hm rfl
    | exact Cover.bit hm (by dsimp only [Fld.block]; rfl)
    | (extract_lets -underBinder +onlyGivenNames x; try clear_value x)
    | intro x
    | with_reducible apply good_log
    | with_reducible apply good_ev
    | with_reducible apply good_bump
    | with_reducible apply good_afterWrite
    | with_reducible apply good_w
    | with_reducible apply good_foldS
    | with_reducible apply good_ite
    | exact Cover.bit (Cover.sub hm rfl) (allRegs_bit _))

theorem good_connWrite {s1 : State} (h1 : Good M s0 q s1) (a2) (a3) (a4) (a5) (a6) (a7) (hm : Cover 0x130000010060 M) : Good M s0 q (State.connWrite s1 a2 a3 a4 a5 a6 a7) := by
  unfold State.connWrite
  repeat' (first
    | with_reducible assumption
    | exact Cover.sub hm rfl
    | exact Cover.bit hm rfl
    | exact Cover.bit hm (by dsimp only [Fld.block]; rfl)
    | (extract_lets -underBinder +onlyGivenNames x; try clear_value x)
    | intro x
    | with_reducible apply good_log
    | with_reducible apply good_ev
    | with_reducible apply good_bump
    | with_reducible apply good_setConn
    | with_reducible apply good_ite)

theorem good_regionWrite {s1 : State} (h1 : Good M s0 q s1) (a2) (a3) (a4) (a5) (hm : Cover 0x3000000000000100000010040 M) : Good M s0 q (State.regionWrite s1 a2 a3 a4 a5) := by
  unfold State.regionWrite
  repeat' (first
    | with_reducible assumption
    | exact Cover.sub hm rfl
    | exact Cover.bit hm rfl
    | exact Cover.bit hm (by dsimp only [Fld.block]; rfl)
    | (extract_lets -underBinder +onlyGivenNames x; try clear_value x)
    | intro x
    | with_reducible apply good_rdxBump
    | with_reducible apply good_setRegion
    | with_reducible apply good_ite)

theorem good_writeReg {s1 : State} (h1 : Good M s0 q s1) (a2) (a3) (a4) (a5) (a6) (hm : Cover 0x150001555700000557001557540001A260 M) : Good M s0 q (State.writeReg s1 a2 a3 a4 a5 a6) := by
  unfold State.writeReg
  repeat' (first
    | with_reducible assumption
    | exact Cover.sub hm rfl
    | exact Cover.bit hm rfl
    | exact Cover.bit hm (by dsimp only [Fld.block]; rfl)
    | (extract_lets -underBinder +onlyGivenNames x; refine (fun (hx : Good M s0 q x) => ?_) ?_; (on_goal 1 => try clear_value x); (on_goal 2 => subst x))
    | (extract_lets -underBinder +onlyGivenNames x; try clear_value x)
    | intro x
    | with_reducible apply good_pmcFeed
    | with_reducible apply good_connWrite
    | with_reducible apply good_regionWrite
    | with_reducible apply good_worldViolation
    | with_reducible apply good_writeFields
    | with_reducible apply good_ite)

theorem good_execRegisterWrite (a1) (a2) (a3) (a4) {s5 : State} (h5 : Good M s0 q s5) (hm : Cover 0x150001555700000557001557540001A260 M) : OutGood M s0 q (execRegisterWrite a1 a2 a3 a4 s5) := by
  unfold execRegisterWrite
  repeat' (first
    | with_reducible assumption
    | exact Cover.sub hm rfl
    | exact Cover.bit hm rfl
    | exact Cover.bit hm (by dsimp only [Fld.block]; rfl)
    | (extract_lets -underBinder +onlyGivenNames x; try clear_value x)
    | intro x
    | with_reducible apply OutGood.of
    | with_reducible apply good_writeReg
    | with_reducible apply good_toPartner
    | with_reducible apply good_destError
    | with_reducible apply good_ite
    | with_reducible apply OutGood.ite
    | split)

end Sys2Proof.Machine
end

