-- ==== Sys2Proof/Laws/State.lean ====
section
/-! SUPPORT. What the shared operations of Machine/Ops.lean leave and what they change, one lemma for each field. -/

set_option Elab.async false

namespace Sys2Proof.Machine

variable {s : State}

/-! ### The register file -/

/-- A field after a field has been set. -/
theorem r_w (d) (f) (v) (i) (d') (f') (i') : (s.w d f v i).r d' f' i' =
    if d = d' ∧ f = f' ∧ i = i' then v % 2 ^ f'.spec.width else s.r d' f' i' := by
  show (alGet (alPut s.regs _ _) _).getD _ = _
  rw [alGet_alPut]
  by_cases h : d = d' ∧ f = f' ∧ i = i'
  · obtain ⟨rfl, rfl, rfl⟩ := h
    simp
  · rw [if_neg h, if_neg fun e => h (by simpa using e)]
    rfl

@[simp] theorem r_w_same (d) (f) (v) (i) : (s.w d f v i).r d f i = v % 2 ^ f.spec.width := by simp [r_w]

theorem r_w_ne (d) (f) (v) (i) (d') (f') (i') (h : f ≠ f') : (s.w d f v i).r d' f' i' = s.r d' f' i' := by simp [r_w, h]

theorem r_wb (d) (f) (b) (i) (d') (f') (i') : (s.wb d f b i).r d' f' i' =
    if d = d' ∧ f = f' ∧ i = i' then (if b = true then 1 else 0) % 2 ^ f'.spec.width else s.r d' f' i' := r_w ..

@[simp] theorem r_irqFor (d) (b) (k) (t) (d') (f') (i') : (s.irqFor d b k t).r d' f' i' = s.r d' f' i' := by
  unfold State.irqFor
  split
  · split <;> rfl
  · rfl

/-- A field after an event. -/
theorem r_ev (d) (f) (d') (f') (i') : (s.ev d f).r d' f' i' =
    if d = d' ∧ f = f' ∧ i' = 0 then 1 % 2 ^ f'.spec.width else s.r d' f' i' := by
  unfold State.ev
  rw [r_irqFor, r_w]
  simp only [eq_comm (a := (0 : Nat))]

@[simp] theorem r_ev_same (d) (f) : (s.ev d f).r d f 0 = 1 % 2 ^ f.spec.width := by simp [r_ev]

/-- A counter after it has moved on. -/
theorem irqFor_ctrs (d) (b) (k) (t) : (s.irqFor d b k t).ctrs = s.ctrs := by
  unfold State.irqFor
  split
  · split <;> rfl
  · rfl

@[simp] theorem w_now (d) (f) (v) (i) : (s.w d f v i).now = s.now := rfl
@[simp] theorem w_fresh (d) (f) (v) (i) : (s.w d f v i).fresh = s.fresh := rfl
@[simp] theorem w_channels (d) (f) (v) (i) : (s.w d f v i).channels = s.channels := rfl
@[simp] theorem w_snaps (d) (f) (v) (i) : (s.w d f v i).snaps = s.snaps := rfl
@[simp] theorem w_latches (d) (f) (v) (i) : (s.w d f v i).latches = s.latches := rfl
@[simp] theorem w_logq (d) (f) (v) (i) : (s.w d f v i).logq = s.logq := rfl
@[simp] theorem w_out (d) (f) (v) (i) : (s.w d f v i).out = s.out := rfl
@[simp] theorem w_lat (d) (f) (v) (i) : (s.w d f v i).lat = s.lat := rfl
@[simp] theorem w_mode (d) (f) (v) (i) : (s.w d f v i).mode = s.mode := rfl
@[simp] theorem w_tim (d) (f) (v) (i) : (s.w d f v i).tim = s.tim := rfl
@[simp] theorem w_pmc (d) (f) (v) (i) : (s.w d f v i).pmc = s.pmc := rfl
@[simp] theorem w_sec (d) (f) (v) (i) : (s.w d f v i).sec = s.sec := rfl
@[simp] theorem w_img (d) (f) (v) (i) : (s.w d f v i).img = s.img := rfl
@[simp] theorem w_eth (d) (f) (v) (i) : (s.w d f v i).eth = s.eth := rfl
@[simp] theorem w_swx (d) (f) (v) (i) : (s.w d f v i).swx = s.swx := rfl
@[simp] theorem w_sch (d) (f) (v) (i) : (s.w d f v i).sch = s.sch := rfl
@[simp] theorem w_rdx (d) (f) (v) (i) : (s.w d f v i).rdx = s.rdx := rfl
@[simp] theorem w_cmd (d) (f) (v) (i) : (s.w d f v i).cmd = s.cmd := rfl
@[simp] theorem w_spg (d) (f) (v) (i) : (s.w d f v i).spg = s.spg := rfl
@[simp] theorem w_grp (d) (f) (v) (i) : (s.w d f v i).grp = s.grp := rfl
@[simp] theorem w_rsh (d) (f) (v) (i) : (s.w d f v i).rsh = s.rsh := rfl
@[simp] theorem w_drv (d) (f) (v) (i) : (s.w d f v i).drv = s.drv := rfl
@[simp] theorem w_cip (d) (f) (v) (i) : (s.w d f v i).cip = s.cip := rfl
@[simp] theorem w_pair (d) (f) (v) (i) : (s.w d f v i).pair = s.pair := rfl
@[simp] theorem w_fls (d) (f) (v) (i) : (s.w d f v i).fls = s.fls := rfl
@[simp] theorem w_bay (d) (f) (v) (i) : (s.w d f v i).bay = s.bay := rfl
@[simp] theorem w_ep (d) (f) (v) (i) : (s.w d f v i).ep = s.ep := rfl
@[simp] theorem w_mgt (d) (f) (v) (i) : (s.w d f v i).mgt = s.mgt := rfl
@[simp] theorem w_bgw (d) (f) (v) (i) : (s.w d f v i).bgw = s.bgw := rfl
@[simp] theorem w_rst (d) (f) (v) (i) : (s.w d f v i).rst = s.rst := rfl
@[simp] theorem w_pending (d) (f) (v) (i) : (s.w d f v i).pending = s.pending := rfl
@[simp] theorem w_ctrs (d) (f) (v) (i) : (s.w d f v i).ctrs = s.ctrs := rfl
@[simp] theorem ts64_w (d) (f) (v) (i) (e) : (s.w d f v i).ts64 e = s.ts64 e := rfl

@[simp] theorem wb_now (d) (f) (b) (i) : (s.wb d f b i).now = s.now := rfl
@[simp] theorem wb_fresh (d) (f) (b) (i) : (s.wb d f b i).fresh = s.fresh := rfl
@[simp] theorem wb_channels (d) (f) (b) (i) : (s.wb d f b i).channels = s.channels := rfl
@[simp] theorem wb_snaps (d) (f) (b) (i) : (s.wb d f b i).snaps = s.snaps := rfl
@[simp] theorem wb_latches (d) (f) (b) (i) : (s.wb d f b i).latches = s.latches := rfl
@[simp] theorem wb_logq (d) (f) (b) (i) : (s.wb d f b i).logq = s.logq := rfl
@[simp] theorem wb_out (d) (f) (b) (i) : (s.wb d f b i).out = s.out := rfl
@[simp] theorem wb_lat (d) (f) (b) (i) : (s.wb d f b i).lat = s.lat := rfl
@[simp] theorem wb_mode (d) (f) (b) (i) : (s.wb d f b i).mode = s.mode := rfl
@[simp] theorem wb_tim (d) (f) (b) (i) : (s.wb d f b i).tim = s.tim := rfl
@[simp] theorem wb_pmc (d) (f) (b) (i) : (s.wb d f b i).pmc = s.pmc := rfl
@[simp] theorem wb_sec (d) (f) (b) (i) : (s.wb d f b i).sec = s.sec := rfl
@[simp] theorem wb_img (d) (f) (b) (i) : (s.wb d f b i).img = s.img := rfl
@[simp] theorem wb_eth (d) (f) (b) (i) : (s.wb d f b i).eth = s.eth := rfl
@[simp] theorem wb_swx (d) (f) (b) (i) : (s.wb d f b i).swx = s.swx := rfl
@[simp] theorem wb_sch (d) (f) (b) (i) : (s.wb d f b i).sch = s.sch := rfl
@[simp] theorem wb_rdx (d) (f) (b) (i) : (s.wb d f b i).rdx = s.rdx := rfl
@[simp] theorem wb_cmd (d) (f) (b) (i) : (s.wb d f b i).cmd = s.cmd := rfl
@[simp] theorem wb_spg (d) (f) (b) (i) : (s.wb d f b i).spg = s.spg := rfl
@[simp] theorem wb_grp (d) (f) (b) (i) : (s.wb d f b i).grp = s.grp := rfl
@[simp] theorem wb_rsh (d) (f) (b) (i) : (s.wb d f b i).rsh = s.rsh := rfl
@[simp] theorem wb_drv (d) (f) (b) (i) : (s.wb d f b i).drv = s.drv := rfl
@[simp] theorem wb_cip (d) (f) (b) (i) : (s.wb d f b i).cip = s.cip := rfl
@[simp] theorem wb_pair (d) (f) (b) (i) : (s.wb d f b i).pair = s.pair := rfl
@[simp] theorem wb_fls (d) (f) (b) (i) : (s.wb d f b i).fls = s.fls := rfl
@[simp] theorem wb_bay (d) (f) (b) (i) : (s.wb d f b i).bay = s.bay := rfl
@[simp] theorem wb_ep (d) (f) (b) (i) : (s.wb d f b i).ep = s.ep := rfl
@[simp] theorem wb_mgt (d) (f) (b) (i) : (s.wb d f b i).mgt = s.mgt := rfl
@[simp] theorem wb_bgw (d) (f) (b) (i) : (s.wb d f b i).bgw = s.bgw := rfl
@[simp] theorem wb_rst (d) (f) (b) (i) : (s.wb d f b i).rst = s.rst := rfl
@[simp] theorem wb_pending (d) (f) (b) (i) : (s.wb d f b i).pending = s.pending := rfl
@[simp] theorem wb_ctrs (d) (f) (b) (i) : (s.wb d f b i).ctrs = s.ctrs := rfl
@[simp] theorem ts64_wb (d) (f) (b) (i) (e) : (s.wb d f b i).ts64 e = s.ts64 e := rfl

@[simp] theorem wbit_now (d) (f) (k) (b) (i) : (s.wbit d f k b i).now = s.now := rfl
@[simp] theorem wbit_fresh (d) (f) (k) (b) (i) : (s.wbit d f k b i).fresh = s.fresh := rfl
@[simp] theorem wbit_channels (d) (f) (k) (b) (i) : (s.wbit d f k b i).channels = s.channels := rfl
@[simp] theorem wbit_snaps (d) (f) (k) (b) (i) : (s.wbit d f k b i).snaps = s.snaps := rfl
@[simp] theorem wbit_latches (d) (f) (k) (b) (i) : (s.wbit d f k b i).latches = s.latches := rfl
@[simp] theorem wbit_logq (d) (f) (k) (b) (i) : (s.wbit d f k b i).logq = s.logq := rfl
@[simp] theorem wbit_out (d) (f) (k) (b) (i) : (s.wbit d f k b i).out = s.out := rfl
@[simp] theorem wbit_lat (d) (f) (k) (b) (i) : (s.wbit d f k b i).lat = s.lat := rfl
@[simp] theorem wbit_mode (d) (f) (k) (b) (i) : (s.wbit d f k b i).mode = s.mode := rfl
@[simp] theorem wbit_tim (d) (f) (k) (b) (i) : (s.wbit d f k b i).tim = s.tim := rfl
@[simp] theorem wbit_pmc (d) (f) (k) (b) (i) : (s.wbit d f k b i).pmc = s.pmc := rfl
@[simp] theorem wbit_sec (d) (f) (k) (b) (i) : (s.wbit d f k b i).sec = s.sec := rfl
@[simp] theorem wbit_img (d) (f) (k) (b) (i) : (s.wbit d f k b i).img = s.img := rfl
@[simp] theorem wbit_eth (d) (f) (k) (b) (i) : (s.wbit d f k b i).eth = s.eth := rfl
@[simp] theorem wbit_swx (d) (f) (k) (b) (i) : (s.wbit d f k b i).swx = s.swx := rfl
@[simp] theorem wbit_sch (d) (f) (k) (b) (i) : (s.wbit d f k b i).sch = s.sch := rfl
@[simp] theorem wbit_rdx (d) (f) (k) (b) (i) : (s.wbit d f k b i).rdx = s.rdx := rfl
@[simp] theorem wbit_cmd (d) (f) (k) (b) (i) : (s.wbit d f k b i).cmd = s.cmd := rfl
@[simp] theorem wbit_spg (d) (f) (k) (b) (i) : (s.wbit d f k b i).spg = s.spg := rfl
@[simp] theorem wbit_grp (d) (f) (k) (b) (i) : (s.wbit d f k b i).grp = s.grp := rfl
@[simp] theorem wbit_rsh (d) (f) (k) (b) (i) : (s.wbit d f k b i).rsh = s.rsh := rfl
@[simp] theorem wbit_drv (d) (f) (k) (b) (i) : (s.wbit d f k b i).drv = s.drv := rfl
@[simp] theorem wbit_cip (d) (f) (k) (b) (i) : (s.wbit d f k b i).cip = s.cip := rfl
@[simp] theorem wbit_pair (d) (f) (k) (b) (i) : (s.wbit d f k b i).pair = s.pair := rfl
@[simp] theorem wbit_fls (d) (f) (k) (b) (i) : (s.wbit d f k b i).fls = s.fls := rfl
@[simp] theorem wbit_bay (d) (f) (k) (b) (i) : (s.wbit d f k b i).bay = s.bay := rfl
@[simp] theorem wbit_ep (d) (f) (k) (b) (i) : (s.wbit d f k b i).ep = s.ep := rfl
@[simp] theorem wbit_mgt (d) (f) (k) (b) (i) : (s.wbit d f k b i).mgt = s.mgt := rfl
@[simp] theorem wbit_bgw (d) (f) (k) (b) (i) : (s.wbit d f k b i).bgw = s.bgw := rfl
@[simp] theorem wbit_rst (d) (f) (k) (b) (i) : (s.wbit d f k b i).rst = s.rst := rfl
@[simp] theorem wbit_pending (d) (f) (k) (b) (i) : (s.wbit d f k b i).pending = s.pending := rfl
@[simp] theorem wbit_ctrs (d) (f) (k) (b) (i) : (s.wbit d f k b i).ctrs = s.ctrs := rfl
@[simp] theorem ts64_wbit (d) (f) (k) (b) (i) (e) : (s.wbit d f k b i).ts64 e = s.ts64 e := rfl

@[simp] theorem emit_now (m) : (s.emit m).now = s.now := rfl
@[simp] theorem emit_fresh (m) : (s.emit m).fresh = s.fresh := rfl
@[simp] theorem emit_channels (m) : (s.emit m).channels = s.channels := rfl
@[simp] theorem emit_snaps (m) : (s.emit m).snaps = s.snaps := rfl
@[simp] theorem emit_latches (m) : (s.emit m).latches = s.latches := rfl
@[simp] theorem emit_logq (m) : (s.emit m).logq = s.logq := rfl
@[simp] theorem emit_lat (m) : (s.emit m).lat = s.lat := rfl
@[simp] theorem emit_mode (m) : (s.emit m).mode = s.mode := rfl
@[simp] theorem emit_tim (m) : (s.emit m).tim = s.tim := rfl
@[simp] theorem emit_pmc (m) : (s.emit m).pmc = s.pmc := rfl
@[simp] theorem emit_sec (m) : (s.emit m).sec = s.sec := rfl
@[simp] theorem emit_img (m) : (s.emit m).img = s.img := rfl
@[simp] theorem emit_eth (m) : (s.emit m).eth = s.eth := rfl
@[simp] theorem emit_swx (m) : (s.emit m).swx = s.swx := rfl
@[simp] theorem emit_sch (m) : (s.emit m).sch = s.sch := rfl
@[simp] theorem emit_rdx (m) : (s.emit m).rdx = s.rdx := rfl
@[simp] theorem emit_cmd (m) : (s.emit m).cmd = s.cmd := rfl
@[simp] theorem emit_spg (m) : (s.emit m).spg = s.spg := rfl
@[simp] theorem emit_grp (m) : (s.emit m).grp = s.grp := rfl
@[simp] theorem emit_rsh (m) : (s.emit m).rsh = s.rsh := rfl
@[simp] theorem emit_drv (m) : (s.emit m).drv = s.drv := rfl
@[simp] theorem emit_cip (m) : (s.emit m).cip = s.cip := rfl
@[simp] theorem emit_pair (m) : (s.emit m).pair = s.pair := rfl
@[simp] theorem emit_fls (m) : (s.emit m).fls = s.fls := rfl
@[simp] theorem emit_bay (m) : (s.emit m).bay = s.bay := rfl
@[simp] theorem emit_ep (m) : (s.emit m).ep = s.ep := rfl
@[simp] theorem emit_mgt (m) : (s.emit m).mgt = s.mgt := rfl
@[simp] theorem emit_bgw (m) : (s.emit m).bgw = s.bgw := rfl
@[simp] theorem emit_rst (m) : (s.emit m).rst = s.rst := rfl
@[simp] theorem emit_pending (m) : (s.emit m).pending = s.pending := rfl
@[simp] theorem emit_regs (m) : (s.emit m).regs = s.regs := rfl
@[simp] theorem emit_ctrs (m) : (s.emit m).ctrs = s.ctrs := rfl
@[simp] theorem r_emit (m) (d') (f') (i') : (s.emit m).r d' f' i' = s.r d' f' i' := rfl
@[simp] theorem modeNow_emit (m) : (s.emit m).modeNow = s.modeNow := rfl
@[simp] theorem ts64_emit (m) (e) : (s.emit m).ts64 e = s.ts64 e := rfl

@[simp] theorem tick_now : s.tick.now = s.now := rfl
@[simp] theorem tick_channels : s.tick.channels = s.channels := rfl
@[simp] theorem tick_snaps : s.tick.snaps = s.snaps := rfl
@[simp] theorem tick_latches : s.tick.latches = s.latches := rfl
@[simp] theorem tick_logq : s.tick.logq = s.logq := rfl
@[simp] theorem tick_out : s.tick.out = s.out := rfl
@[simp] theorem tick_lat : s.tick.lat = s.lat := rfl
@[simp] theorem tick_mode : s.tick.mode = s.mode := rfl
@[simp] theorem tick_tim : s.tick.tim = s.tim := rfl
@[simp] theorem tick_pmc : s.tick.pmc = s.pmc := rfl
@[simp] theorem tick_sec : s.tick.sec = s.sec := rfl
@[simp] theorem tick_img : s.tick.img = s.img := rfl
@[simp] theorem tick_eth : s.tick.eth = s.eth := rfl
@[simp] theorem tick_swx : s.tick.swx = s.swx := rfl
@[simp] theorem tick_sch : s.tick.sch = s.sch := rfl
@[simp] theorem tick_rdx : s.tick.rdx = s.rdx := rfl
@[simp] theorem tick_cmd : s.tick.cmd = s.cmd := rfl
@[simp] theorem tick_spg : s.tick.spg = s.spg := rfl
@[simp] theorem tick_grp : s.tick.grp = s.grp := rfl
@[simp] theorem tick_rsh : s.tick.rsh = s.rsh := rfl
@[simp] theorem tick_drv : s.tick.drv = s.drv := rfl
@[simp] theorem tick_cip : s.tick.cip = s.cip := rfl
@[simp] theorem tick_pair : s.tick.pair = s.pair := rfl
@[simp] theorem tick_fls : s.tick.fls = s.fls := rfl
@[simp] theorem tick_bay : s.tick.bay = s.bay := rfl
@[simp] theorem tick_ep : s.tick.ep = s.ep := rfl
@[simp] theorem tick_mgt : s.tick.mgt = s.mgt := rfl
@[simp] theorem tick_bgw : s.tick.bgw = s.bgw := rfl
@[simp] theorem tick_rst : s.tick.rst = s.rst := rfl
@[simp] theorem tick_pending : s.tick.pending = s.pending := rfl
@[simp] theorem tick_regs : s.tick.regs = s.regs := rfl
@[simp] theorem tick_ctrs : s.tick.ctrs = s.ctrs := rfl
@[simp] theorem r_tick (d') (f') (i') : s.tick.r d' f' i' = s.r d' f' i' := rfl
@[simp] theorem modeNow_tick : s.tick.modeNow = s.modeNow := rfl
@[simp] theorem ts64_tick (e) : s.tick.ts64 e = s.ts64 e := rfl

@[simp] theorem log_now (d) (b) (c) (l) (q) : (s.log d b c l q).now = s.now := rfl
@[simp] theorem log_fresh (d) (b) (c) (l) (q) : (s.log d b c l q).fresh = s.fresh := rfl
@[simp] theorem log_channels (d) (b) (c) (l) (q) : (s.log d b c l q).channels = s.channels := rfl
@[simp] theorem log_snaps (d) (b) (c) (l) (q) : (s.log d b c l q).snaps = s.snaps := rfl
@[simp] theorem log_latches (d) (b) (c) (l) (q) : (s.log d b c l q).latches = s.latches := rfl
@[simp] theorem log_out (d) (b) (c) (l) (q) : (s.log d b c l q).out = s.out := rfl
@[simp] theorem log_lat (d) (b) (c) (l) (q) : (s.log d b c l q).lat = s.lat := rfl
@[simp] theorem log_mode (d) (b) (c) (l) (q) : (s.log d b c l q).mode = s.mode := rfl
@[simp] theorem log_tim (d) (b) (c) (l) (q) : (s.log d b c l q).tim = s.tim := rfl
@[simp] theorem log_pmc (d) (b) (c) (l) (q) : (s.log d b c l q).pmc = s.pmc := rfl
@[simp] theorem log_sec (d) (b) (c) (l) (q) : (s.log d b c l q).sec = s.sec := rfl
@[simp] theorem log_img (d) (b) (c) (l) (q) : (s.log d b c l q).img = s.img := rfl
@[simp] theorem log_eth (d) (b) (c) (l) (q) : (s.log d b c l q).eth = s.eth := rfl
@[simp] theorem log_swx (d) (b) (c) (l) (q) : (s.log d b c l q).swx = s.swx := rfl
@[simp] theorem log_sch (d) (b) (c) (l) (q) : (s.log d b c l q).sch = s.sch := rfl
@[simp] theorem log_rdx (d) (b) (c) (l) (q) : (s.log d b c l q).rdx = s.rdx := rfl
@[simp] theorem log_cmd (d) (b) (c) (l) (q) : (s.log d b c l q).cmd = s.cmd := rfl
@[simp] theorem log_spg (d) (b) (c) (l) (q) : (s.log d b c l q).spg = s.spg := rfl
@[simp] theorem log_grp (d) (b) (c) (l) (q) : (s.log d b c l q).grp = s.grp := rfl
@[simp] theorem log_rsh (d) (b) (c) (l) (q) : (s.log d b c l q).rsh = s.rsh := rfl
@[simp] theorem log_drv (d) (b) (c) (l) (q) : (s.log d b c l q).drv = s.drv := rfl
@[simp] theorem log_cip (d) (b) (c) (l) (q) : (s.log d b c l q).cip = s.cip := rfl
@[simp] theorem log_pair (d) (b) (c) (l) (q) : (s.log d b c l q).pair = s.pair := rfl
@[simp] theorem log_fls (d) (b) (c) (l) (q) : (s.log d b c l q).fls = s.fls := rfl
@[simp] theorem log_bay (d) (b) (c) (l) (q) : (s.log d b c l q).bay = s.bay := rfl
@[simp] theorem log_ep (d) (b) (c) (l) (q) : (s.log d b c l q).ep = s.ep := rfl
@[simp] theorem log_mgt (d) (b) (c) (l) (q) : (s.log d b c l q).mgt = s.mgt := rfl
@[simp] theorem log_bgw (d) (b) (c) (l) (q) : (s.log d b c l q).bgw = s.bgw := rfl
@[simp] theorem log_rst (d) (b) (c) (l) (q) : (s.log d b c l q).rst = s.rst := rfl
@[simp] theorem log_pending (d) (b) (c) (l) (q) : (s.log d b c l q).pending = s.pending := rfl
@[simp] theorem log_regs (d) (b) (c) (l) (q) : (s.log d b c l q).regs = s.regs := rfl
@[simp] theorem log_ctrs (d) (b) (c) (l) (q) : (s.log d b c l q).ctrs = s.ctrs := rfl
@[simp] theorem r_log (d) (b) (c) (l) (q) (d') (f') (i') : (s.log d b c l q).r d' f' i' = s.r d' f' i' := rfl
@[simp] theorem modeNow_log (d) (b) (c) (l) (q) : (s.log d b c l q).modeNow = s.modeNow := rfl
@[simp] theorem ts64_log (d) (b) (c) (l) (q) (e) : (s.log d b c l q).ts64 e = s.ts64 e := rfl

@[simp] theorem logMgt_now (c) (l) : (s.logMgt c l).now = s.now := rfl
@[simp] theorem logMgt_fresh (c) (l) : (s.logMgt c l).fresh = s.fresh := rfl
@[simp] theorem logMgt_channels (c) (l) : (s.logMgt c l).channels = s.channels := rfl
@[simp] theorem logMgt_snaps (c) (l) : (s.logMgt c l).snaps = s.snaps := rfl
@[simp] theorem logMgt_latches (c) (l) : (s.logMgt c l).latches = s.latches := rfl
@[simp] theorem logMgt_out (c) (l) : (s.logMgt c l).out = s.out := rfl
@[simp] theorem logMgt_lat (c) (l) : (s.logMgt c l).lat = s.lat := rfl
@[simp] theorem logMgt_mode (c) (l) : (s.logMgt c l).mode = s.mode := rfl
@[simp] theorem logMgt_tim (c) (l) : (s.logMgt c l).tim = s.tim := rfl
@[simp] theorem logMgt_pmc (c) (l) : (s.logMgt c l).pmc = s.pmc := rfl
@[simp] theorem logMgt_sec (c) (l) : (s.logMgt c l).sec = s.sec := rfl
@[simp] theorem logMgt_img (c) (l) : (s.logMgt c l).img = s.img := rfl
@[simp] theorem logMgt_eth (c) (l) : (s.logMgt c l).eth = s.eth := rfl
@[simp] theorem logMgt_swx (c) (l) : (s.logMgt c l).swx = s.swx := rfl
@[simp] theorem logMgt_sch (c) (l) : (s.logMgt c l).sch = s.sch := rfl
@[simp] theorem logMgt_rdx (c) (l) : (s.logMgt c l).rdx = s.rdx := rfl
@[simp] theorem logMgt_cmd (c) (l) : (s.logMgt c l).cmd = s.cmd := rfl
@[simp] theorem logMgt_spg (c) (l) : (s.logMgt c l).spg = s.spg := rfl
@[simp] theorem logMgt_grp (c) (l) : (s.logMgt c l).grp = s.grp := rfl
@[simp] theorem logMgt_rsh (c) (l) : (s.logMgt c l).rsh = s.rsh := rfl
@[simp] theorem logMgt_drv (c) (l) : (s.logMgt c l).drv = s.drv := rfl
@[simp] theorem logMgt_cip (c) (l) : (s.logMgt c l).cip = s.cip := rfl
@[simp] theorem logMgt_pair (c) (l) : (s.logMgt c l).pair = s.pair := rfl
@[simp] theorem logMgt_fls (c) (l) : (s.logMgt c l).fls = s.fls := rfl
@[simp] theorem logMgt_bay (c) (l) : (s.logMgt c l).bay = s.bay := rfl
@[simp] theorem logMgt_ep (c) (l) : (s.logMgt c l).ep = s.ep := rfl
@[simp] theorem logMgt_mgt (c) (l) : (s.logMgt c l).mgt = s.mgt := rfl
@[simp] theorem logMgt_bgw (c) (l) : (s.logMgt c l).bgw = s.bgw := rfl
@[simp] theorem logMgt_rst (c) (l) : (s.logMgt c l).rst = s.rst := rfl
@[simp] theorem logMgt_pending (c) (l) : (s.logMgt c l).pending = s.pending := rfl
@[simp] theorem logMgt_regs (c) (l) : (s.logMgt c l).regs = s.regs := rfl
@[simp] theorem logMgt_ctrs (c) (l) : (s.logMgt c l).ctrs = s.ctrs := rfl
@[simp] theorem r_logMgt (c) (l) (d') (f') (i') : (s.logMgt c l).r d' f' i' = s.r d' f' i' := rfl
@[simp] theorem modeNow_logMgt (c) (l) : (s.logMgt c l).modeNow = s.modeNow := rfl
@[simp] theorem ts64_logMgt (c) (l) (e) : (s.logMgt c l).ts64 e = s.ts64 e := rfl

@[simp] theorem logEv_now (d) (b) (n) (l) : (s.logEv d b n l).now = s.now := rfl
@[simp] theorem logEv_fresh (d) (b) (n) (l) : (s.logEv d b n l).fresh = s.fresh := rfl
@[simp] theorem logEv_channels (d) (b) (n) (l) : (s.logEv d b n l).channels = s.channels := rfl
@[simp] theorem logEv_snaps (d) (b) (n) (l) : (s.logEv d b n l).snaps = s.snaps := rfl
@[simp] theorem logEv_latches (d) (b) (n) (l) : (s.logEv d b n l).latches = s.latches := rfl
@[simp] theorem logEv_out (d) (b) (n) (l) : (s.logEv d b n l).out = s.out := rfl
@[simp] theorem logEv_lat (d) (b) (n) (l) : (s.logEv d b n l).lat = s.lat := rfl
@[simp] theorem logEv_mode (d) (b) (n) (l) : (s.logEv d b n l).mode = s.mode := rfl
@[simp] theorem logEv_tim (d) (b) (n) (l) : (s.logEv d b n l).tim = s.tim := rfl
@[simp] theorem logEv_pmc (d) (b) (n) (l) : (s.logEv d b n l).pmc = s.pmc := rfl
@[simp] theorem logEv_sec (d) (b) (n) (l) : (s.logEv d b n l).sec = s.sec := rfl
@[simp] theorem logEv_img (d) (b) (n) (l) : (s.logEv d b n l).img = s.img := rfl
@[simp] theorem logEv_eth (d) (b) (n) (l) : (s.logEv d b n l).eth = s.eth := rfl
@[simp] theorem logEv_swx (d) (b) (n) (l) : (s.logEv d b n l).swx = s.swx := rfl
@[simp] theorem logEv_sch (d) (b) (n) (l) : (s.logEv d b n l).sch = s.sch := rfl
@[simp] theorem logEv_rdx (d) (b) (n) (l) : (s.logEv d b n l).rdx = s.rdx := rfl
@[simp] theorem logEv_cmd (d) (b) (n) (l) : (s.logEv d b n l).cmd = s.cmd := rfl
@[simp] theorem logEv_spg (d) (b) (n) (l) : (s.logEv d b n l).spg = s.spg := rfl
@[simp] theorem logEv_grp (d) (b) (n) (l) : (s.logEv d b n l).grp = s.grp := rfl
@[simp] theorem logEv_rsh (d) (b) (n) (l) : (s.logEv d b n l).rsh = s.rsh := rfl
@[simp] theorem logEv_drv (d) (b) (n) (l) : (s.logEv d b n l).drv = s.drv := rfl
@[simp] theorem logEv_cip (d) (b) (n) (l) : (s.logEv d b n l).cip = s.cip := rfl
@[simp] theorem logEv_pair (d) (b) (n) (l) : (s.logEv d b n l).pair = s.pair := rfl
@[simp] theorem logEv_fls (d) (b) (n) (l) : (s.logEv d b n l).fls = s.fls := rfl
@[simp] theorem logEv_bay (d) (b) (n) (l) : (s.logEv d b n l).bay = s.bay := rfl
@[simp] theorem logEv_ep (d) (b) (n) (l) : (s.logEv d b n l).ep = s.ep := rfl
@[simp] theorem logEv_mgt (d) (b) (n) (l) : (s.logEv d b n l).mgt = s.mgt := rfl
@[simp] theorem logEv_bgw (d) (b) (n) (l) : (s.logEv d b n l).bgw = s.bgw := rfl
@[simp] theorem logEv_rst (d) (b) (n) (l) : (s.logEv d b n l).rst = s.rst := rfl
@[simp] theorem logEv_pending (d) (b) (n) (l) : (s.logEv d b n l).pending = s.pending := rfl
@[simp] theorem logEv_regs (d) (b) (n) (l) : (s.logEv d b n l).regs = s.regs := rfl
@[simp] theorem logEv_ctrs (d) (b) (n) (l) : (s.logEv d b n l).ctrs = s.ctrs := rfl
@[simp] theorem r_logEv (d) (b) (n) (l) (d') (f') (i') : (s.logEv d b n l).r d' f' i' = s.r d' f' i' := rfl
@[simp] theorem modeNow_logEv (d) (b) (n) (l) : (s.logEv d b n l).modeNow = s.modeNow := rfl
@[simp] theorem ts64_logEv (d) (b) (n) (l) (e) : (s.logEv d b n l).ts64 e = s.ts64 e := rfl

@[simp] theorem discardRange_now (d) (f) (v) (i) : (s.discardRange d f v i).now = s.now := rfl
@[simp] theorem discardRange_fresh (d) (f) (v) (i) : (s.discardRange d f v i).fresh = s.fresh := rfl
@[simp] theorem discardRange_channels (d) (f) (v) (i) : (s.discardRange d f v i).channels = s.channels := rfl
@[simp] theorem discardRange_snaps (d) (f) (v) (i) : (s.discardRange d f v i).snaps = s.snaps := rfl
@[simp] theorem discardRange_latches (d) (f) (v) (i) : (s.discardRange d f v i).latches = s.latches := rfl
@[simp] theorem discardRange_out (d) (f) (v) (i) : (s.discardRange d f v i).out = s.out := rfl
@[simp] theorem discardRange_lat (d) (f) (v) (i) : (s.discardRange d f v i).lat = s.lat := rfl
@[simp] theorem discardRange_mode (d) (f) (v) (i) : (s.discardRange d f v i).mode = s.mode := rfl
@[simp] theorem discardRange_tim (d) (f) (v) (i) : (s.discardRange d f v i).tim = s.tim := rfl
@[simp] theorem discardRange_pmc (d) (f) (v) (i) : (s.discardRange d f v i).pmc = s.pmc := rfl
@[simp] theorem discardRange_sec (d) (f) (v) (i) : (s.discardRange d f v i).sec = s.sec := rfl
@[simp] theorem discardRange_img (d) (f) (v) (i) : (s.discardRange d f v i).img = s.img := rfl
@[simp] theorem discardRange_eth (d) (f) (v) (i) : (s.discardRange d f v i).eth = s.eth := rfl
@[simp] theorem discardRange_swx (d) (f) (v) (i) : (s.discardRange d f v i).swx = s.swx := rfl
@[simp] theorem discardRange_sch (d) (f) (v) (i) : (s.discardRange d f v i).sch = s.sch := rfl
@[simp] theorem discardRange_rdx (d) (f) (v) (i) : (s.discardRange d f v i).rdx = s.rdx := rfl
@[simp] theorem discardRange_cmd (d) (f) (v) (i) : (s.discardRange d f v i).cmd = s.cmd := rfl
@[simp] theorem discardRange_spg (d) (f) (v) (i) : (s.discardRange d f v i).spg = s.spg := rfl
@[simp] theorem discardRange_grp (d) (f) (v) (i) : (s.discardRange d f v i).grp = s.grp := rfl
@[simp] theorem discardRange_rsh (d) (f) (v) (i) : (s.discardRange d f v i).rsh = s.rsh := rfl
@[simp] theorem discardRange_drv (d) (f) (v) (i) : (s.discardRange d f v i).drv = s.drv := rfl
@[simp] theorem discardRange_cip (d) (f) (v) (i) : (s.discardRange d f v i).cip = s.cip := rfl
@[simp] theorem discardRange_pair (d) (f) (v) (i) : (s.discardRange d f v i).pair = s.pair := rfl
@[simp] theorem discardRange_fls (d) (f) (v) (i) : (s.discardRange d f v i).fls = s.fls := rfl
@[simp] theorem discardRange_bay (d) (f) (v) (i) : (s.discardRange d f v i).bay = s.bay := rfl
@[simp] theorem discardRange_ep (d) (f) (v) (i) : (s.discardRange d f v i).ep = s.ep := rfl
@[simp] theorem discardRange_mgt (d) (f) (v) (i) : (s.discardRange d f v i).mgt = s.mgt := rfl
@[simp] theorem discardRange_bgw (d) (f) (v) (i) : (s.discardRange d f v i).bgw = s.bgw := rfl
@[simp] theorem discardRange_rst (d) (f) (v) (i) : (s.discardRange d f v i).rst = s.rst := rfl
@[simp] theorem discardRange_pending (d) (f) (v) (i) : (s.discardRange d f v i).pending = s.pending := rfl
@[simp] theorem discardRange_regs (d) (f) (v) (i) : (s.discardRange d f v i).regs = s.regs := rfl
@[simp] theorem discardRange_ctrs (d) (f) (v) (i) : (s.discardRange d f v i).ctrs = s.ctrs := rfl
@[simp] theorem r_discardRange (d) (f) (v) (i) (d') (f') (i') : (s.discardRange d f v i).r d' f' i' = s.r d' f' i' := rfl
@[simp] theorem modeNow_discardRange (d) (f) (v) (i) : (s.discardRange d f v i).modeNow = s.modeNow := rfl
@[simp] theorem ts64_discardRange (d) (f) (v) (i) (e) : (s.discardRange d f v i).ts64 e = s.ts64 e := rfl

@[simp] theorem discardState_now (d) (f) (v) (i) : (s.discardState d f v i).now = s.now := rfl
@[simp] theorem discardState_fresh (d) (f) (v) (i) : (s.discardState d f v i).fresh = s.fresh := rfl
@[simp] theorem discardState_channels (d) (f) (v) (i) : (s.discardState d f v i).channels = s.channels := rfl
@[simp] theorem discardState_snaps (d) (f) (v) (i) : (s.discardState d f v i).snaps = s.snaps := rfl
@[simp] theorem discardState_latches (d) (f) (v) (i) : (s.discardState d f v i).latches = s.latches := rfl
@[simp] theorem discardState_out (d) (f) (v) (i) : (s.discardState d f v i).out = s.out := rfl
@[simp] theorem discardState_lat (d) (f) (v) (i) : (s.discardState d f v i).lat = s.lat := rfl
@[simp] theorem discardState_mode (d) (f) (v) (i) : (s.discardState d f v i).mode = s.mode := rfl
@[simp] theorem discardState_tim (d) (f) (v) (i) : (s.discardState d f v i).tim = s.tim := rfl
@[simp] theorem discardState_pmc (d) (f) (v) (i) : (s.discardState d f v i).pmc = s.pmc := rfl
@[simp] theorem discardState_sec (d) (f) (v) (i) : (s.discardState d f v i).sec = s.sec := rfl
@[simp] theorem discardState_img (d) (f) (v) (i) : (s.discardState d f v i).img = s.img := rfl
@[simp] theorem discardState_eth (d) (f) (v) (i) : (s.discardState d f v i).eth = s.eth := rfl
@[simp] theorem discardState_swx (d) (f) (v) (i) : (s.discardState d f v i).swx = s.swx := rfl
@[simp] theorem discardState_sch (d) (f) (v) (i) : (s.discardState d f v i).sch = s.sch := rfl
@[simp] theorem discardState_rdx (d) (f) (v) (i) : (s.discardState d f v i).rdx = s.rdx := rfl
@[simp] theorem discardState_cmd (d) (f) (v) (i) : (s.discardState d f v i).cmd = s.cmd := rfl
@[simp] theorem discardState_spg (d) (f) (v) (i) : (s.discardState d f v i).spg = s.spg := rfl
@[simp] theorem discardState_grp (d) (f) (v) (i) : (s.discardState d f v i).grp = s.grp := rfl
@[simp] theorem discardState_rsh (d) (f) (v) (i) : (s.discardState d f v i).rsh = s.rsh := rfl
@[simp] theorem discardState_drv (d) (f) (v) (i) : (s.discardState d f v i).drv = s.drv := rfl
@[simp] theorem discardState_cip (d) (f) (v) (i) : (s.discardState d f v i).cip = s.cip := rfl
@[simp] theorem discardState_pair (d) (f) (v) (i) : (s.discardState d f v i).pair = s.pair := rfl
@[simp] theorem discardState_fls (d) (f) (v) (i) : (s.discardState d f v i).fls = s.fls := rfl
@[simp] theorem discardState_bay (d) (f) (v) (i) : (s.discardState d f v i).bay = s.bay := rfl
@[simp] theorem discardState_ep (d) (f) (v) (i) : (s.discardState d f v i).ep = s.ep := rfl
@[simp] theorem discardState_mgt (d) (f) (v) (i) : (s.discardState d f v i).mgt = s.mgt := rfl
@[simp] theorem discardState_bgw (d) (f) (v) (i) : (s.discardState d f v i).bgw = s.bgw := rfl
@[simp] theorem discardState_rst (d) (f) (v) (i) : (s.discardState d f v i).rst = s.rst := rfl
@[simp] theorem discardState_pending (d) (f) (v) (i) : (s.discardState d f v i).pending = s.pending := rfl
@[simp] theorem discardState_regs (d) (f) (v) (i) : (s.discardState d f v i).regs = s.regs := rfl
@[simp] theorem discardState_ctrs (d) (f) (v) (i) : (s.discardState d f v i).ctrs = s.ctrs := rfl
@[simp] theorem r_discardState (d) (f) (v) (i) (d') (f') (i') : (s.discardState d f v i).r d' f' i' = s.r d' f' i' := rfl
@[simp] theorem modeNow_discardState (d) (f) (v) (i) : (s.discardState d f v i).modeNow = s.modeNow := rfl
@[simp] theorem ts64_discardState (d) (f) (v) (i) (e) : (s.discardState d f v i).ts64 e = s.ts64 e := rfl

@[simp] theorem emit_out (m) : (s.emit m).out = s.out ++ [m] := rfl
@[simp] theorem tick_fresh : s.tick.fresh = s.fresh + 1 := rfl
@[simp] theorem log_logq (d) (b) (c) (l) (q) : (s.log d b c l q).logq =
    s.logq ++ [⟨d, b, c, l, s.ts64 d, s.tsSet d, s.quality d, q, s.now⟩] := rfl

/-! ### Events and counters -/

@[simp] theorem ev_now (d) (f) : (s.ev d f).now = s.now := by
  unfold State.ev State.irqFor
  split
  · split <;> rfl
  · rfl
@[simp] theorem ev_fresh (d) (f) : (s.ev d f).fresh = s.fresh := by
  unfold State.ev State.irqFor
  split
  · split <;> rfl
  · rfl
@[simp] theorem ev_channels (d) (f) : (s.ev d f).channels = s.channels := by
  unfold State.ev State.irqFor
  split
  · split <;> rfl
  · rfl
@[simp] theorem ev_snaps (d) (f) : (s.ev d f).snaps = s.snaps := by
  unfold State.ev State.irqFor
  split
  · split <;> rfl
  · rfl
@[simp] theorem ev_latches (d) (f) : (s.ev d f).latches = s.latches := by
  unfold State.ev State.irqFor
  split
  · split <;> rfl
  · rfl
@[simp] theorem ev_logq (d) (f) : (s.ev d f).logq = s.logq := by
  unfold State.ev State.irqFor
  split
  · split <;> rfl
  · rfl
@[simp] theorem ev_lat (d) (f) : (s.ev d f).lat = s.lat := by
  unfold State.ev State.irqFor
  split
  · split <;> rfl
  · rfl
@[simp] theorem ev_mode (d) (f) : (s.ev d f).mode = s.mode := by
  unfold State.ev State.irqFor
  split
  · split <;> rfl
  · rfl
@[simp] theorem ev_tim (d) (f) : (s.ev d f).tim = s.tim := by
  unfold State.ev State.irqFor
  split
  · split <;> rfl
  · rfl
@[simp] theorem ev_pmc (d) (f) : (s.ev d f).pmc = s.pmc := by
  unfold State.ev State.irqFor
  split
  · split <;> rfl
  · rfl
@[simp] theorem ev_sec (d) (f) : (s.ev d f).sec = s.sec := by
  unfold State.ev State.irqFor
  split
  · split <;> rfl
  · rfl
@[simp] theorem ev_img (d) (f) : (s.ev d f).img = s.img := by
  unfold State.ev State.irqFor
  split
  · split <;> rfl
  · rfl
@[simp] theorem ev_eth (d) (f) : (s.ev d f).eth = s.eth := by
  unfold State.ev State.irqFor
  split
  · split <;> rfl
  · rfl
@[simp] theorem ev_swx (d) (f) : (s.ev d f).swx = s.swx := by
  unfold State.ev State.irqFor
  split
  · split <;> rfl
  · rfl
@[simp] theorem ev_sch (d) (f) : (s.ev d f).sch = s.sch := by
  unfold State.ev State.irqFor
  split
  · split <;> rfl
  · rfl
@[simp] theorem ev_rdx (d) (f) : (s.ev d f).rdx = s.rdx := by
  unfold State.ev State.irqFor
  split
  · split <;> rfl
  · rfl
@[simp] theorem ev_cmd (d) (f) : (s.ev d f).cmd = s.cmd := by
  unfold State.ev State.irqFor
  split
  · split <;> rfl
  · rfl
@[simp] theorem ev_spg (d) (f) : (s.ev d f).spg = s.spg := by
  unfold State.ev State.irqFor
  split
  · split <;> rfl
  · rfl
@[simp] theorem ev_grp (d) (f) : (s.ev d f).grp = s.grp := by
  unfold State.ev State.irqFor
  split
  · split <;> rfl
  · rfl
@[simp] theorem ev_rsh (d) (f) : (s.ev d f).rsh = s.rsh := by
  unfold State.ev State.irqFor
  split
  · split <;> rfl
  · rfl
@[simp] theorem ev_drv (d) (f) : (s.ev d f).drv = s.drv := by
  unfold State.ev State.irqFor
  split
  · split <;> rfl
  · rfl
@[simp] theorem ev_cip (d) (f) : (s.ev d f).cip = s.cip := by
  unfold State.ev State.irqFor
  split
  · split <;> rfl
  · rfl
@[simp] theorem ev_pair (d) (f) : (s.ev d f).pair = s.pair := by
  unfold State.ev State.irqFor
  split
  · split <;> rfl
  · rfl
@[simp] theorem ev_fls (d) (f) : (s.ev d f).fls = s.fls := by
  unfold State.ev State.irqFor
  split
  · split <;> rfl
  · rfl
@[simp] theorem ev_bay (d) (f) : (s.ev d f).bay = s.bay := by
  unfold State.ev State.irqFor
  split
  · split <;> rfl
  · rfl
@[simp] theorem ev_ep (d) (f) : (s.ev d f).ep = s.ep := by
  unfold State.ev State.irqFor
  split
  · split <;> rfl
  · rfl
@[simp] theorem ev_mgt (d) (f) : (s.ev d f).mgt = s.mgt := by
  unfold State.ev State.irqFor
  split
  · split <;> rfl
  · rfl
@[simp] theorem ev_bgw (d) (f) : (s.ev d f).bgw = s.bgw := by
  unfold State.ev State.irqFor
  split
  · split <;> rfl
  · rfl
@[simp] theorem ev_rst (d) (f) : (s.ev d f).rst = s.rst := by
  unfold State.ev State.irqFor
  split
  · split <;> rfl
  · rfl
@[simp] theorem ev_pending (d) (f) : (s.ev d f).pending = s.pending := by
  unfold State.ev State.irqFor
  split
  · split <;> rfl
  · rfl
@[simp] theorem ev_ctrs (d) (f) : (s.ev d f).ctrs = s.ctrs := by
  unfold State.ev State.irqFor
  split
  · split <;> rfl
  · rfl

/-- What a counter's step leaves. -/
theorem bump_kept (s : State) (d b k n i) (p : Part) (h : p ∉ [Part.out, .regs 6, .regs b, .ctrs b]) :
    p.same s (s.bump d b k n i) :=
  (good_bump (q := False) (.refl s nofun) d b k n i (Cover.ofList (l' := [.out, .regs 6]) (by simp))
    (maskOf_of_mem (p := .regs b) (by simp)) (maskOf_of_mem (p := .ctrs b) (by simp))).frame p h

theorem r_bump (d) (b) (k) (n) (i) (d') (f') (i') (h6 : f'.block ≠ 6) (hb : f'.block ≠ b) :
    (s.bump d b k n i).r d' f' i' = s.r d' f' i' :=
  bump_kept s d b k n i (.regs f'.block) (by simp [h6, hb]) d' f' i' rfl

theorem pmcFeed_ctrs (d) (e) (n) : (s.pmcFeed d e n).ctrs = s.ctrs := by
  unfold State.pmcFeed
  generalize List.range 8 = l
  induction l generalizing s with
  | nil => rfl
  | cons a l ih =>
    refine ih.trans ?_
    dsimp only
    split
    · unfold State.pmcAdd
      dsimp only
      split
      · rfl
      · split
        · exact irqFor_ctrs ..
        · rfl
    · rfl

theorem wrapped_ctrs (d) (b) (k) (i) : (s.wrapped d b k i).ctrs = s.ctrs := by
  unfold State.wrapped
  split
  · rfl
  · extract_lets ei x
    split
    · split
      · exact ev_ctrs ..
      · rfl
    · rfl

/-- A counter after a counter has moved on. -/
theorem ctr_bump (d) (b) (k) (n) (i) (d') (b') (k') (i') : (s.bump d b k n i).ctr d' b' k' i' =
    if d = d' ∧ b = b' ∧ k = k' ∧ i = i' then (s.ctr d b k i + n) % 2 ^ 64 else s.ctr d' b' k' i' := by
  have h : (s.bump d b k n i).ctrs = alPut s.ctrs ⟨d, b, k, i⟩ ((s.ctr d b k i + n) % 2 ^ 64) := by
    unfold State.bump
    extract_lets v x y
    rw [pmcFeed_ctrs]
    show (if v < 2 ^ 64 then x else x.wrapped d b k i).ctrs = _
    split
    · rfl
    · exact wrapped_ctrs ..
  show (alGet (s.bump d b k n i).ctrs _).getD 0 = _
  rw [h, alGet_alPut]
  by_cases e : d = d' ∧ b = b' ∧ k = k' ∧ i = i'
  · obtain ⟨rfl, rfl, rfl, rfl⟩ := e
    simp
  · rw [if_neg e, if_neg fun x => e (by simpa using x)]
    rfl

/-- Moments and the queue as uptime goes on. -/
theorem advance_kept (s : State) (t) (p : Part) (h : p ∉ [Part.now, .out, .regs 6]) : p.same s (s.advance t) :=
  (good_advance (q := False) (.refl s nofun) t (Cover.ofList (l' := [.now, .out, .regs 6]) (by simp))).frame p h

theorem r_advance (t) (d') (f') (i') (h6 : f'.block ≠ 6) : (s.advance t).r d' f' i' = s.r d' f' i' :=
  advance_kept s t (.regs f'.block) (by simp [h6]) d' f' i' rfl

/-- A trigger changes the mode's latches or the log only. -/
theorem trig_kept (s : State) (c k) (p : Part) (h : p ∉ [Part.mode, .logq]) : p.same s (s.trig c k) :=
  (good_trig (q := False) (.refl s nofun) c k (Cover.ofList (l' := [.mode, .logq]) (by simp))).frame p h

theorem r_trig (c) (k) (d') (f') (i') : (s.trig c k).r d' f' i' = s.r d' f' i' :=
  trig_kept s c k (.regs f'.block) (by simp) d' f' i' rfl

theorem worldViolation_kept (s : State) (q d b o w) (p : Part)
    (h : p ∉ [Part.logq, .out, .regs 4, .regs 6, .ctrs 4]) : p.same s (s.worldViolation q d b o w) :=
  (good_worldViolation (q := False) (.refl s nofun) q d b o w
    (Cover.ofList (l' := [.logq, .out, .regs 4, .regs 6, .ctrs 4]) (by simp))).frame p h

@[simp] theorem bump_now (d) (b) (k) (n) (i) : (s.bump d b k n i).now = s.now := bump_kept s d b k n i .now (by simp)
@[simp] theorem bump_fresh (d) (b) (k) (n) (i) : (s.bump d b k n i).fresh = s.fresh := bump_kept s d b k n i .fresh (by simp)
@[simp] theorem bump_channels (d) (b) (k) (n) (i) : (s.bump d b k n i).channels = s.channels := bump_kept s d b k n i .channels (by simp)
@[simp] theorem bump_snaps (d) (b) (k) (n) (i) : (s.bump d b k n i).snaps = s.snaps := bump_kept s d b k n i .snaps (by simp)
@[simp] theorem bump_latches (d) (b) (k) (n) (i) : (s.bump d b k n i).latches = s.latches := bump_kept s d b k n i .latches (by simp)
@[simp] theorem bump_logq (d) (b) (k) (n) (i) : (s.bump d b k n i).logq = s.logq := bump_kept s d b k n i .logq (by simp)
@[simp] theorem bump_lat (d) (b) (k) (n) (i) : (s.bump d b k n i).lat = s.lat := bump_kept s d b k n i .lat (by simp)
@[simp] theorem bump_mode (d) (b) (k) (n) (i) : (s.bump d b k n i).mode = s.mode := bump_kept s d b k n i .mode (by simp)
@[simp] theorem bump_tim (d) (b) (k) (n) (i) : (s.bump d b k n i).tim = s.tim := bump_kept s d b k n i .tim (by simp)
@[simp] theorem bump_pmc (d) (b) (k) (n) (i) : (s.bump d b k n i).pmc = s.pmc := bump_kept s d b k n i .pmc (by simp)
@[simp] theorem bump_sec (d) (b) (k) (n) (i) : (s.bump d b k n i).sec = s.sec := bump_kept s d b k n i .sec (by simp)
@[simp] theorem bump_img (d) (b) (k) (n) (i) : (s.bump d b k n i).img = s.img := bump_kept s d b k n i .img (by simp)
@[simp] theorem bump_eth (d) (b) (k) (n) (i) : (s.bump d b k n i).eth = s.eth := bump_kept s d b k n i .eth (by simp)
@[simp] theorem bump_swx (d) (b) (k) (n) (i) : (s.bump d b k n i).swx = s.swx := bump_kept s d b k n i .swx (by simp)
@[simp] theorem bump_sch (d) (b) (k) (n) (i) : (s.bump d b k n i).sch = s.sch := bump_kept s d b k n i .sch (by simp)
@[simp] theorem bump_rdx (d) (b) (k) (n) (i) : (s.bump d b k n i).rdx = s.rdx := bump_kept s d b k n i .rdx (by simp)
@[simp] theorem bump_cmd (d) (b) (k) (n) (i) : (s.bump d b k n i).cmd = s.cmd := bump_kept s d b k n i .cmd (by simp)
@[simp] theorem bump_spg (d) (b) (k) (n) (i) : (s.bump d b k n i).spg = s.spg := bump_kept s d b k n i .spg (by simp)
@[simp] theorem bump_grp (d) (b) (k) (n) (i) : (s.bump d b k n i).grp = s.grp := bump_kept s d b k n i .grp (by simp)
@[simp] theorem bump_rsh (d) (b) (k) (n) (i) : (s.bump d b k n i).rsh = s.rsh := bump_kept s d b k n i .rsh (by simp)
@[simp] theorem bump_drv (d) (b) (k) (n) (i) : (s.bump d b k n i).drv = s.drv := bump_kept s d b k n i .drv (by simp)
@[simp] theorem bump_cip (d) (b) (k) (n) (i) : (s.bump d b k n i).cip = s.cip := bump_kept s d b k n i .cip (by simp)
@[simp] theorem bump_pair (d) (b) (k) (n) (i) : (s.bump d b k n i).pair = s.pair := bump_kept s d b k n i .pair (by simp)
@[simp] theorem bump_fls (d) (b) (k) (n) (i) : (s.bump d b k n i).fls = s.fls := bump_kept s d b k n i .fls (by simp)
@[simp] theorem bump_bay (d) (b) (k) (n) (i) : (s.bump d b k n i).bay = s.bay := bump_kept s d b k n i .bay (by simp)
@[simp] theorem bump_ep (d) (b) (k) (n) (i) : (s.bump d b k n i).ep = s.ep := bump_kept s d b k n i .ep (by simp)
@[simp] theorem bump_mgt (d) (b) (k) (n) (i) : (s.bump d b k n i).mgt = s.mgt := bump_kept s d b k n i .mgt (by simp)
@[simp] theorem bump_bgw (d) (b) (k) (n) (i) : (s.bump d b k n i).bgw = s.bgw := bump_kept s d b k n i .bgw (by simp)
@[simp] theorem bump_rst (d) (b) (k) (n) (i) : (s.bump d b k n i).rst = s.rst := bump_kept s d b k n i .rst (by simp)
@[simp] theorem bump_pending (d) (b) (k) (n) (i) : (s.bump d b k n i).pending = s.pending := bump_kept s d b k n i .pending (by simp)
@[simp] theorem advance_fresh (t) : (s.advance t).fresh = s.fresh := advance_kept s t .fresh (by simp)
@[simp] theorem advance_channels (t) : (s.advance t).channels = s.channels := advance_kept s t .channels (by simp)
@[simp] theorem advance_snaps (t) : (s.advance t).snaps = s.snaps := advance_kept s t .snaps (by simp)
@[simp] theorem advance_latches (t) : (s.advance t).latches = s.latches := advance_kept s t .latches (by simp)
@[simp] theorem advance_logq (t) : (s.advance t).logq = s.logq := advance_kept s t .logq (by simp)
@[simp] theorem advance_lat (t) : (s.advance t).lat = s.lat := advance_kept s t .lat (by simp)
@[simp] theorem advance_mode (t) : (s.advance t).mode = s.mode := advance_kept s t .mode (by simp)
@[simp] theorem advance_tim (t) : (s.advance t).tim = s.tim := advance_kept s t .tim (by simp)
@[simp] theorem advance_pmc (t) : (s.advance t).pmc = s.pmc := advance_kept s t .pmc (by simp)
@[simp] theorem advance_sec (t) : (s.advance t).sec = s.sec := advance_kept s t .sec (by simp)
@[simp] theorem advance_img (t) : (s.advance t).img = s.img := advance_kept s t .img (by simp)
@[simp] theorem advance_eth (t) : (s.advance t).eth = s.eth := advance_kept s t .eth (by simp)
@[simp] theorem advance_swx (t) : (s.advance t).swx = s.swx := advance_kept s t .swx (by simp)
@[simp] theorem advance_sch (t) : (s.advance t).sch = s.sch := advance_kept s t .sch (by simp)
@[simp] theorem advance_rdx (t) : (s.advance t).rdx = s.rdx := advance_kept s t .rdx (by simp)
@[simp] theorem advance_cmd (t) : (s.advance t).cmd = s.cmd := advance_kept s t .cmd (by simp)
@[simp] theorem advance_spg (t) : (s.advance t).spg = s.spg := advance_kept s t .spg (by simp)
@[simp] theorem advance_grp (t) : (s.advance t).grp = s.grp := advance_kept s t .grp (by simp)
@[simp] theorem advance_rsh (t) : (s.advance t).rsh = s.rsh := advance_kept s t .rsh (by simp)
@[simp] theorem advance_drv (t) : (s.advance t).drv = s.drv := advance_kept s t .drv (by simp)
@[simp] theorem advance_cip (t) : (s.advance t).cip = s.cip := advance_kept s t .cip (by simp)
@[simp] theorem advance_pair (t) : (s.advance t).pair = s.pair := advance_kept s t .pair (by simp)
@[simp] theorem advance_fls (t) : (s.advance t).fls = s.fls := advance_kept s t .fls (by simp)
@[simp] theorem advance_bay (t) : (s.advance t).bay = s.bay := advance_kept s t .bay (by simp)
@[simp] theorem advance_ep (t) : (s.advance t).ep = s.ep := advance_kept s t .ep (by simp)
@[simp] theorem advance_mgt (t) : (s.advance t).mgt = s.mgt := advance_kept s t .mgt (by simp)
@[simp] theorem advance_bgw (t) : (s.advance t).bgw = s.bgw := advance_kept s t .bgw (by simp)
@[simp] theorem advance_rst (t) : (s.advance t).rst = s.rst := advance_kept s t .rst (by simp)
@[simp] theorem advance_pending (t) : (s.advance t).pending = s.pending := advance_kept s t .pending (by simp)
@[simp] theorem trig_now (c) (k) : (s.trig c k).now = s.now := trig_kept s c k .now (by simp)
@[simp] theorem trig_fresh (c) (k) : (s.trig c k).fresh = s.fresh := trig_kept s c k .fresh (by simp)
@[simp] theorem trig_channels (c) (k) : (s.trig c k).channels = s.channels := trig_kept s c k .channels (by simp)
@[simp] theorem trig_snaps (c) (k) : (s.trig c k).snaps = s.snaps := trig_kept s c k .snaps (by simp)
@[simp] theorem trig_latches (c) (k) : (s.trig c k).latches = s.latches := trig_kept s c k .latches (by simp)
@[simp] theorem trig_out (c) (k) : (s.trig c k).out = s.out := trig_kept s c k .out (by simp)
@[simp] theorem trig_lat (c) (k) : (s.trig c k).lat = s.lat := trig_kept s c k .lat (by simp)
@[simp] theorem trig_tim (c) (k) : (s.trig c k).tim = s.tim := trig_kept s c k .tim (by simp)
@[simp] theorem trig_pmc (c) (k) : (s.trig c k).pmc = s.pmc := trig_kept s c k .pmc (by simp)
@[simp] theorem trig_sec (c) (k) : (s.trig c k).sec = s.sec := trig_kept s c k .sec (by simp)
@[simp] theorem trig_img (c) (k) : (s.trig c k).img = s.img := trig_kept s c k .img (by simp)
@[simp] theorem trig_eth (c) (k) : (s.trig c k).eth = s.eth := trig_kept s c k .eth (by simp)
@[simp] theorem trig_swx (c) (k) : (s.trig c k).swx = s.swx := trig_kept s c k .swx (by simp)
@[simp] theorem trig_sch (c) (k) : (s.trig c k).sch = s.sch := trig_kept s c k .sch (by simp)
@[simp] theorem trig_rdx (c) (k) : (s.trig c k).rdx = s.rdx := trig_kept s c k .rdx (by simp)
@[simp] theorem trig_cmd (c) (k) : (s.trig c k).cmd = s.cmd := trig_kept s c k .cmd (by simp)
@[simp] theorem trig_spg (c) (k) : (s.trig c k).spg = s.spg := trig_kept s c k .spg (by simp)
@[simp] theorem trig_grp (c) (k) : (s.trig c k).grp = s.grp := trig_kept s c k .grp (by simp)
@[simp] theorem trig_rsh (c) (k) : (s.trig c k).rsh = s.rsh := trig_kept s c k .rsh (by simp)
@[simp] theorem trig_drv (c) (k) : (s.trig c k).drv = s.drv := trig_kept s c k .drv (by simp)
@[simp] theorem trig_cip (c) (k) : (s.trig c k).cip = s.cip := trig_kept s c k .cip (by simp)
@[simp] theorem trig_pair (c) (k) : (s.trig c k).pair = s.pair := trig_kept s c k .pair (by simp)
@[simp] theorem trig_fls (c) (k) : (s.trig c k).fls = s.fls := trig_kept s c k .fls (by simp)
@[simp] theorem trig_bay (c) (k) : (s.trig c k).bay = s.bay := trig_kept s c k .bay (by simp)
@[simp] theorem trig_ep (c) (k) : (s.trig c k).ep = s.ep := trig_kept s c k .ep (by simp)
@[simp] theorem trig_mgt (c) (k) : (s.trig c k).mgt = s.mgt := trig_kept s c k .mgt (by simp)
@[simp] theorem trig_bgw (c) (k) : (s.trig c k).bgw = s.bgw := trig_kept s c k .bgw (by simp)
@[simp] theorem trig_rst (c) (k) : (s.trig c k).rst = s.rst := trig_kept s c k .rst (by simp)
@[simp] theorem trig_pending (c) (k) : (s.trig c k).pending = s.pending := trig_kept s c k .pending (by simp)
@[simp] theorem worldViolation_now (q) (d) (b) (o) (v) : (s.worldViolation q d b o v).now = s.now := worldViolation_kept s q d b o v .now (by simp)
@[simp] theorem worldViolation_fresh (q) (d) (b) (o) (v) : (s.worldViolation q d b o v).fresh = s.fresh := worldViolation_kept s q d b o v .fresh (by simp)
@[simp] theorem worldViolation_channels (q) (d) (b) (o) (v) : (s.worldViolation q d b o v).channels = s.channels := worldViolation_kept s q d b o v .channels (by simp)
@[simp] theorem worldViolation_snaps (q) (d) (b) (o) (v) : (s.worldViolation q d b o v).snaps = s.snaps := worldViolation_kept s q d b o v .snaps (by simp)
@[simp] theorem worldViolation_latches (q) (d) (b) (o) (v) : (s.worldViolation q d b o v).latches = s.latches := worldViolation_kept s q d b o v .latches (by simp)
@[simp] theorem worldViolation_lat (q) (d) (b) (o) (v) : (s.worldViolation q d b o v).lat = s.lat := worldViolation_kept s q d b o v .lat (by simp)
@[simp] theorem worldViolation_mode (q) (d) (b) (o) (v) : (s.worldViolation q d b o v).mode = s.mode := worldViolation_kept s q d b o v .mode (by simp)
@[simp] theorem worldViolation_tim (q) (d) (b) (o) (v) : (s.worldViolation q d b o v).tim = s.tim := worldViolation_kept s q d b o v .tim (by simp)
@[simp] theorem worldViolation_pmc (q) (d) (b) (o) (v) : (s.worldViolation q d b o v).pmc = s.pmc := worldViolation_kept s q d b o v .pmc (by simp)
@[simp] theorem worldViolation_sec (q) (d) (b) (o) (v) : (s.worldViolation q d b o v).sec = s.sec := worldViolation_kept s q d b o v .sec (by simp)
@[simp] theorem worldViolation_img (q) (d) (b) (o) (v) : (s.worldViolation q d b o v).img = s.img := worldViolation_kept s q d b o v .img (by simp)
@[simp] theorem worldViolation_eth (q) (d) (b) (o) (v) : (s.worldViolation q d b o v).eth = s.eth := worldViolation_kept s q d b o v .eth (by simp)
@[simp] theorem worldViolation_swx (q) (d) (b) (o) (v) : (s.worldViolation q d b o v).swx = s.swx := worldViolation_kept s q d b o v .swx (by simp)
@[simp] theorem worldViolation_sch (q) (d) (b) (o) (v) : (s.worldViolation q d b o v).sch = s.sch := worldViolation_kept s q d b o v .sch (by simp)
@[simp] theorem worldViolation_rdx (q) (d) (b) (o) (v) : (s.worldViolation q d b o v).rdx = s.rdx := worldViolation_kept s q d b o v .rdx (by simp)
@[simp] theorem worldViolation_cmd (q) (d) (b) (o) (v) : (s.worldViolation q d b o v).cmd = s.cmd := worldViolation_kept s q d b o v .cmd (by simp)
@[simp] theorem worldViolation_spg (q) (d) (b) (o) (v) : (s.worldViolation q d b o v).spg = s.spg := worldViolation_kept s q d b o v .spg (by simp)
@[simp] theorem worldViolation_grp (q) (d) (b) (o) (v) : (s.worldViolation q d b o v).grp = s.grp := worldViolation_kept s q d b o v .grp (by simp)
@[simp] theorem worldViolation_rsh (q) (d) (b) (o) (v) : (s.worldViolation q d b o v).rsh = s.rsh := worldViolation_kept s q d b o v .rsh (by simp)
@[simp] theorem worldViolation_drv (q) (d) (b) (o) (v) : (s.worldViolation q d b o v).drv = s.drv := worldViolation_kept s q d b o v .drv (by simp)
@[simp] theorem worldViolation_cip (q) (d) (b) (o) (v) : (s.worldViolation q d b o v).cip = s.cip := worldViolation_kept s q d b o v .cip (by simp)
@[simp] theorem worldViolation_pair (q) (d) (b) (o) (v) : (s.worldViolation q d b o v).pair = s.pair := worldViolation_kept s q d b o v .pair (by simp)
@[simp] theorem worldViolation_fls (q) (d) (b) (o) (v) : (s.worldViolation q d b o v).fls = s.fls := worldViolation_kept s q d b o v .fls (by simp)
@[simp] theorem worldViolation_bay (q) (d) (b) (o) (v) : (s.worldViolation q d b o v).bay = s.bay := worldViolation_kept s q d b o v .bay (by simp)
@[simp] theorem worldViolation_ep (q) (d) (b) (o) (v) : (s.worldViolation q d b o v).ep = s.ep := worldViolation_kept s q d b o v .ep (by simp)
@[simp] theorem worldViolation_mgt (q) (d) (b) (o) (v) : (s.worldViolation q d b o v).mgt = s.mgt := worldViolation_kept s q d b o v .mgt (by simp)
@[simp] theorem worldViolation_bgw (q) (d) (b) (o) (v) : (s.worldViolation q d b o v).bgw = s.bgw := worldViolation_kept s q d b o v .bgw (by simp)
@[simp] theorem worldViolation_rst (q) (d) (b) (o) (v) : (s.worldViolation q d b o v).rst = s.rst := worldViolation_kept s q d b o v .rst (by simp)
@[simp] theorem worldViolation_pending (q) (d) (b) (o) (v) : (s.worldViolation q d b o v).pending = s.pending := worldViolation_kept s q d b o v .pending (by simp)

theorem shelfNs_now (d e) : (s.shelfNs d e).now = s.now := by
  unfold State.shelfNs
  split
  · exact (good_pmcFeed (q := False) (.refl s nofun) _ _ _ (Cover.ofList (l' := [.out, .regs 6]) (l := [.out, .regs 6])
      (by simp))).frame .now (by simp)
  · rfl

/-- Uptime after it has gone on to an instant. -/
@[simp] theorem advance_now (t) : (s.advance t).now = max s.now t := by
  unfold State.advance
  split
  · next h => exact (Nat.max_eq_left h).symm
  · next h =>
    have : ∀ (l : List Nat) (x : State), (foldS (fun (s' : State) d => s'.shelfNs d (s.ts64 d)) x l).now = x.now := by
      intro l
      induction l with
      | nil => exact fun _ => rfl
      | cons a l ih => exact fun x => (ih _).trans (shelfNs_now ..)
    rw [this]
    show t = max s.now t
    exact (Nat.max_eq_right (by omega)).symm

/-- A trigger that has a row for the mode is latched. -/
theorem trig_mem (c k) (h : modeHasRow s.modeNow c = true) : (⟨c, k⟩ : Trig) ∈ (s.trig c k).mode.trigs := by
  unfold State.trig
  rw [if_pos h]
  split
  · next h => exact List.contains_iff_mem.1 h
  · exact List.mem_append_right _ (List.mem_singleton.2 rfl)

/-- Every field has at least one bit. -/
@[simp] theorem one_mod_width (f : Fld) : 1 % 2 ^ f.spec.width = 1 := by
  refine Nat.mod_eq_of_lt (Nat.one_lt_two_pow ?_)
  cases f <;> rename_i x <;> cases x <;> decide

@[simp] theorem alGet_alPut_same {κ α : Type} [DecidableEq κ] (l : List (κ × α)) (k : κ) (v : α) :
    alGet (alPut l k v) k = some v := by simp [alGet_alPut]

@[simp] theorem alGet_alDel {κ α : Type} [DecidableEq κ] (l : List (κ × α)) (k : κ) : alGet (alDel l k) k = none := by
  unfold alDel
  induction l with
  | nil => rfl
  | cons a l ih =>
    obtain ⟨a, v⟩ := a
    by_cases h : a = k <;> simp_all [List.filter, alGet]

end Sys2Proof.Machine
end

