-- ==== Sys2Proof/WellFormed.lean ====
section
/-! DEFINITION. Which commands are well formed: the operands whose type admits more than what they stand for can carry. -/

set_option Elab.async false

namespace Sys2Proof

/-- Every entry fits in a number of bits. -/
def fits (bits : Nat) (l : List Nat) : Bool := l.all (fun v => decide (v < 2 ^ bits))

/-- The operands are such as the pins, frames, capsules and records can carry.  Commands without a row here are well formed
with any operands of their types. -/
def Instr.wellFormed : Instr → Bool
  -- Sixteen samples of twelve pins (spec/23 R621).
  | .strapRead samples => samples.length = 16
  -- Counts of the reference clocks of the channel dies, of which a part has at most six (spec/00 R2).
  | .clockCheckComplete _ drv _ => decide (drv.length ≤ 6)
  -- The connection request's fields (spec/07 R171).
  | .cmRequest _ _ version flags paths slots channel => fits 8 [version, flags, paths, slots, channel]
  -- A Connect capsule's fields (spec/08 R206).
  | .fabricsConnect _ _ _ _ hostId qid sqsize cntlid kato => fits 16 [qid, sqsize, cntlid] && fits 32 [kato] && fits 128 [hostId]
  -- CC's fields (spec/18 R512).
  | .epCcEnable _ iosqes iocqes mps ams _ _ _ => fits 4 [iosqes, iocqes, mps] && fits 3 [ams]
  -- Sequence numbers of Crumbs (spec/10 R293).
  | .mirrorAckReceived _ a t => fits 64 [a, t]
  | .retireCrumbWrite _ seq => fits 64 [seq]
  -- Phase numbers of the partner link, 8 bytes (spec/15 R422).
  | .rekeyAnnounceReceived phase => fits 64 [phase]
  | .rekeyAckReceived phase => fits 64 [phase]
  -- A link speed of 2.5 to 64 GT/s and a width of one or two lanes (spec/13 R366).
  | .driveLinkUp _ _ speed width _ => decide (1 ≤ speed) && decide (speed ≤ 6) && (width = 1 || width = 2)
  -- A thermistor's half degrees and a sensor's value, 16 bits signed (spec/17 R492, spec/19 R557).
  | .thermistorSample _ half => decide (-32768 ≤ half) && decide (half < 32768)
  | .sensorSample _ value => decide (-32768 ≤ value) && decide (value < 32768)
  | _ => true

end Sys2Proof
end

