-- ==== Sys2Proof/Tests/Slice0.lean ====
section
/-! SUPPORT. Tests: the checks of WellFormed, a few commands, and for each statement's hypotheses a state and operands that
meet them. -/

set_option Elab.async false

set_option maxRecDepth 20000

namespace Sys2Proof.Tests
open Sys2Proof Sys2Proof.Machine

/-- The package with its management cores running, every die out of reset, and fields set: die, field, value, index. -/
def with_ (l : List (Nat × Fld × Nat × Nat)) : State :=
  foldS (fun s e => s.w e.1 e.2.1 e.2.2.1 e.2.2.2) (State.w { State.reset with rst := { phase := 3 } } mdId (.rst .DIE_STATE_dies) 0) l

/-- The same in a mode. -/
def inMode (m : Nat) (l : List (Nat × Fld × Nat × Nat) := []) : State := with_ ((mdId, .mgt .MODE_current, m, 0) :: l)

/-- A secure requester and one that is not. -/
def sec : Req := ⟨7, true⟩
def nonsec : Req := ⟨7, false⟩

/-- The package with its management cores running, and nothing set. -/
def up : State := with_ []

/-- The same with the port die released. -/
def pd : State := { up with rst := { phase := 3, lat := [0], freed := [0] } }

/-- An image that passes validation: one schedule entry, port, host, namespace, access entry and mirrored group. -/
def imgOk : Image :=
  { schedule := [{ kind := 2, flags := 1, period := 250000000 }], ports := [{ flags := 3 }], hosts := [{}], namespaces := [{}]
    access := [{}], groups := [{ members := [0, 1] }], lease := { renewMs := 250 } }
/-- The owner's key digest is the image's. -/
def own (s : State) : State := { s with sec := { owner := some 0 } }

/-- Connection 0x1005 on channel die 0 with a context. -/
def cn (c : Conn) : State := up.setConn 1 5 { c with gen := 1 }

/-- A command in slot 3 of channel die 0. -/
def sl (x : CmdSlot) : State := up.setSlot 1 3 x

/-- The Sponge of channel die 0 as given, in Active. -/
def sg (x : SpgDie) (m : Nat := 5) : State := (inMode m).setSp 1 x

/-- Group 2 of channel die 0 as given, in Active. -/
def gp (x : Group) (m : Nat := 5) : State := (inMode m).setGrp 1 2 x
/-- The same with a reshape. -/
def rs (r : Reshape) (m : Nat := 5) (x : Group := { configured := true }) : State := (gp x m).setRsh 1 2 r
/-- A bay's discovery state. -/
def bay_ (st : Nat) (b : Nat := 3) : State := with_ [(1, .drv .B_STATE_state, st, b), (7, .mgt .MODE_current, 5, 0)]

/-- Bay 3 in a power state in Active, with its record. -/
def by_ (st : Nat) (l : List (Nat × Fld × Nat × Nat) := []) (x : BayRec := {}) : State :=
  (inMode 5 ((7, .bay .B_STATE_state, st, 3) :: (7, .bay .B_STATE_driven, 1, 3) :: (7, .bay .B_STATE_owned, 1, 3) ::
    (7, .bay .B_STATE_seated, 1, 3) :: l)).setBayR 3 x

/-- Function 2 of the endpoint enabled, ready and a bus master, with the endpoint's queues and commands. -/
def fn_ (x : EpState := {}) (l : List (Nat × Fld × Nat × Nat) := []) : State :=
  { inMode 5 ((0, .epf .F_CFG_enabled, 1, 2) :: (0, .epf .F_STATE_cc_en, 1, 2) :: (0, .epf .F_STATE_rdy, 1, 2) ::
      (0, .epf .F_STATE_bme, 1, 2) :: (0, .epf .STATUS_num_vfs, 3, 0) :: (0, .epf .STATUS_data_presence, 1, 0) :: l) with ep := x }
/-- Its admin queues. -/
def aq_ (x : EpState := {}) : EpState :=
  { x with sqs := { fn := 2, qid := 0, size := 4 } :: x.sqs, cqs := { fn := 2, qid := 0, size := 4 } :: x.cqs }
/-- A queue command that waits at the endpoint. -/
def qc (op cdw10 cdw11 : Nat) : EpCmd :=
  { tok := 9, fn := 2, sq := 0, st := 5, cap := { opcode := op, cid := 7, cdw10 := cdw10, cdw11 := cdw11 } }

/-- A phase of the release order. -/
def ph (n : Nat) (x : RstState := {}) (l : List (Nat × Fld × Nat × Nat) := []) : State :=
  let s := with_ l
  { s with rst := { x with phase := n } }
/-- Channel die 0 and the port die released, in a mode. -/
def dr (x : RstState := {}) (m : Nat := 5) (l : List (Nat × Fld × Nat × Nat) := []) : State :=
  let s := inMode m l
  { s with rst := { x with phase := 3, lat := [0, 1], freed := [0, 1] } }

/-- A paired package in a mode, its partner link up and authenticated. -/
def pr (m : Nat := 5) (l : List (Nat × Fld × Nat × Nat) := []) (p : PairState := {}) : State :=
  { inMode m ((7, .rst .STRAP_role, 1, 0) :: (0, .pair .LINK_STATUS_authenticated, 1, 0) ::
      (List.range 8).map (fun i => (0, .sds .LANE_STATUS_state, 3, 32 + i)) ++ l) with pair := p }

/-! ### The checks of WellFormed each refuse a term -/

theorem test_ill_strapRead : (Instr.strapRead [0x380]).wellFormed = false := by decide
theorem test_ill_clockCheckComplete : (Instr.clockCheckComplete 0 (List.replicate 7 0) none).wellFormed = false := by decide
theorem test_ill_cmRequest : (Instr.cmRequest 300 true 256 0 1 1 0).wellFormed = false := by decide
theorem test_ill_fabricsConnect : (Instr.fabricsConnect 0 0 none 0 0 0x10000 0 0 0).wellFormed = false := by decide
theorem test_ill_epCcEnable : (Instr.epCcEnable 0 16 4 0 0 31 31 true).wellFormed = false := by decide
theorem test_ill_mirrorAckReceived : (Instr.mirrorAckReceived 0 (2 ^ 64) 0).wellFormed = false := by decide
theorem test_ill_retireCrumbWrite : (Instr.retireCrumbWrite 0 (2 ^ 64)).wellFormed = false := by decide
theorem test_ill_rekeyAnnounceReceived : (Instr.rekeyAnnounceReceived (2 ^ 64)).wellFormed = false := by decide
theorem test_ill_rekeyAckReceived : (Instr.rekeyAckReceived (2 ^ 64)).wellFormed = false := by decide
theorem test_ill_driveLinkUp : (Instr.driveLinkUp 0 0 7 2 false).wellFormed = false := by decide
theorem test_ill_thermistorSample : (Instr.thermistorSample 0 32768).wellFormed = false := by decide
theorem test_ill_sensorSample : (Instr.sensorSample 0 32768).wellFormed = false := by decide
theorem test_well_formed : (Instr.strapRead (List.replicate 16 0x380)).wellFormed = true := by decide

/-! ### Commands: what the rules say of single steps -/

/-- The state a command leaves. -/
def after (o : Out) : State := match o with
  | .next t => t
  | _ => State.reset

/-- Reset leaves mode Off (spec/02 R28), and the power-on release starts the release order (spec/23 R617). -/
theorem test_reset_off : State.reset.modeNow = 0 := by decide
theorem test_powerOnRelease : (after (exec .powerOnRelease State.reset)).rst.phase = 1 := by decide
/-- The six-channel part of stepping B0 (spec/19 R560, spec/00 R6): part_code 0x4806, stepping 0x10. -/
theorem test_read_id : (after (exec (.loRegisterRead sec 0x7030000000#40 true) up)).out = [.readData 0x7030000000 0x48061000] := by decide
/-- A ratio on the centre of code 3 is code 3; one between codes is none (spec/23 R620). -/
theorem test_strap_code : strapCode 0x380 = some 3 ∧ strapCode 0x300 = none := by decide
/-- A first fault with the default backoff of 1,000 ms; the third doubles it twice; cause 0x3 doubles it again (spec/17 R494). -/
theorem test_backoff : (by_ 8).bayBackoff 1 1 = 1000 ∧ (by_ 8).bayBackoff 1 3 = 4000 ∧ (by_ 8).bayBackoff 3 1 = 2000 := by decide
/-- I_allow at 12.1 V in and 0 V out is p_fold over the FET voltage, 60 W over 12.1 V (spec/17 R486). -/
theorem test_fold : (by_ 5).iAllow 12100 0 = 4958 := by decide
/-- Admission of 100 percent below start_c and min_pct at full_c, half way between them in between (spec/21 R595). -/
theorem test_admit : admitPct 10 95 105 94 = 100 ∧ admitPct 10 95 105 100 = 50 ∧ admitPct 10 95 105 105 = 10 := by decide
/-- A command at the front of the queue runs; the rest of the queue stands. -/
theorem test_step : (after (step { up with pending := [.nsWatchdogKick, .vgdLow] })).pending = [.vgdLow] := by decide

/-! ### States and operands that meet the hypotheses of each statement -/

theorem test_meets_emptyQueueIdles : ∃ s : State, s.pending = [] := ⟨State.reset, by decide⟩
theorem test_meets_stepKeepsTidy : ∃ s t : State, Tidy s ∧ step s = .next t :=
  ⟨State.reset, _, ⟨by decide, by decide, by decide, by decide, by decide, by decide⟩, rfl⟩
theorem test_meets_commandsStayInFootprint : ∃ (i : Instr) (s t : State) (p : Part), exec i s = .next t ∧ p ∉ touches i :=
  ⟨.ringMarker none, State.reset, _, .pending, rfl, by decide⟩
theorem test_meets_loRegisterRead_0 : ∃ (q : Req) (addr : BitVec 40) (d : Nat) (blk : Nat) (off : Nat) (s : State), s.dest addr.toNat true = .reg d blk off ∧
    readsApart blk off = false ∧
    pairLo d blk off = true ∧
    ((s.pmcFeed d 0x06020000 1).wordAt d blk off q.secure).2 = false :=
  ⟨sec, 0x7030000028#40, 7, 3, 0x28, up, by decide⟩

theorem test_meets_loRegisterRead_1 : ∃ (q : Req) (addr : BitVec 40) (d : Nat) (blk : Nat) (off : Nat) (x : Latch) (s : State), s.dest addr.toNat true = .reg d blk (off + 4) ∧
    readsApart blk (off + 4) = false ∧
    pairLo d blk (off + 4) = false ∧
    x ∈ s.latches ∧ latchKey x = (q, d, blk, off) ∧
    (s.latches.map latchKey).Nodup :=
  ⟨sec, 0x703000002C#40, 7, 3, 0x28, ⟨sec, 7, 3, 0x28, 5⟩, { up with latches := [⟨sec, 7, 3, 0x28, 5⟩] }, by decide⟩

theorem test_meets_registerWrite_2 : ∃ (q : Req) (addr : BitVec 40) (v : Word) (d : Nat) (blk : Nat) (off : Nat) (s : State) (u : State), s.dest addr.toNat true = .reg d blk off ∧
    u = s.pmcFeed d 0x06020000 1 ∧
    blk ≠ 0x06 ∧ ¬(blk = 0x20 ∧ 0x10000 ≤ off) ∧
    (fieldsAt d blk off).Pairwise (fun a b => ¬(a.f = b.f ∧ a.i = b.i)) ∧
    (fieldsAt d blk off).all (fun h => h.mayWrite q.secure && h.plain && h.inRange v.toNat && h.f.spec.acc ≠ .rwl && h.f ≠ .epf .LAND_STATUS_valid) = true ∧
    u.jointRange d blk off v.toNat (fieldsAt d blk off) = true ∧
    u.writeAllowed d blk off v.toNat (fieldsAt d blk off) = true :=
  ⟨sec, 0x7070000018#40, 5#32, 7, 7, 0x18, up, up, by decide⟩

theorem test_meets_registerWrite_3 : ∃ (q : Req) (addr : BitVec 40) (v : Word) (d : Nat) (blk : Nat) (off : Nat) (h : FldHit) (s : State) (u : State), s.dest addr.toNat true = .reg d blk off ∧
    u = s.pmcFeed d 0x06020000 1 ∧
    blk ≠ 0x04 ∧ blk ≠ 0x06 ∧ ¬(blk = 0x20 ∧ 0x10000 ≤ off) ∧
    fieldsAt d blk off = [h] ∧
    q.secure = false ∧ h.mayWrite false = false ∧ h.apart = false ∧ u.wouldChange d v.toNat h = true :=
  ⟨nonsec, 0x001000002C#40, 5#32, 0, 1, 0x2C, ⟨.tim .HOLD_RATE_ps_per_s, 0, 0⟩, pd, pd, by decide⟩

theorem test_meets_loRegisterRead_4 : ∃ (addr : BitVec 40) (full : Bool) (s : State), s.dest addr.toNat full = .absent :=
  ⟨0x6030000004#40, true, { up with channels := 4 }, by decide⟩

theorem test_meets_latticeMessageForward : ∃ (hop : DieId) (s : State), s.ringDies.contains hop.val = true ∧
    (alGet s.lat.hops hop.val).isNone = true :=
  ⟨7, up, by decide⟩

theorem test_meets_ringMarker_1 : ∃ (s : State), s.rst.lat ≠ [] ∧ s.r mdId (.lat .STATUS_over_budget) < 7 :=
  ⟨{ up with rst := { phase := 3, lat := [7] } }, by decide⟩

theorem test_meets_ringMarker_2 : ∃ (s : State), s.rst.lat ≠ [] ∧ s.r mdId (.lat .STATUS_missed_markers) = 3 ∧ s.r mdId (.lat .STATUS_pair_ring) = 0 ∧
    modeHasRow s.modeNow 5 = true :=
  ⟨{ (with_ [(7, .mgt .MODE_current, 5, 0), (7, .lat .STATUS_missed_markers, 3, 0)]) with rst := { phase := 3, lat := [7] } }, by decide⟩

theorem test_meets_timeDistributionReceive : ∃ (die : DieId) (m : TimeMsg) (s : State), alGet s.tim.messages die.val = some m ∧
    die.val ≠ 0 ∧ s.dieUp die.val = true ∧ s.tsSet die.val = false ∧ 0 < m.servo ∧ m.servo < 4 :=
  ⟨7, ⟨0, 0, 1, false⟩, { up with tim := { messages := [(7, ⟨0, 0, 1, false⟩)] } }, by decide⟩

theorem test_meets_timeMessageLoss : ∃ (die : DieId) (s : State), die.val ≠ 0 ∧ s.dieUp die.val = true ∧ s.tsSet die.val = true ∧ s.r mdId (.lat .STATUS_pair_ring) = 0 ∧ modeHasRow s.modeNow 5 = true :=
  ⟨7, { (with_ [(7, .mgt .MODE_current, 5, 0)]) with tim := { counters := [(7, { set := true })] } }, by decide⟩

theorem test_meets_modeTriggerEvaluate : ∃ (x : Trig) (n : Nat) (s : State), s.firstTrig = some (x, n) ∧
    2 ≤ n ∧ n < 16 ∧ s.mode.trigs.all (fun y => y.code ≠ 3) = true ∧ s.modeNow < 16 :=
  ⟨⟨8, 0⟩, 2, { (inMode 1) with mode := { trigs := [⟨8, 0⟩] } }, by decide⟩

theorem test_meets_quarantineRootPortHold : ∃ (s : State), s.modeNow = 0xB ∧ s.mode.rootsHeld = false :=
  ⟨inMode 0xB, by decide⟩

theorem test_meets_quarantineRootPortHold_alt1 : ∃ (s : State), s.modeNow = 0xB ∧ s.mode.rootsHeld = false ∧
    (s.pair.leases.all (fun e => e.2.flights.isEmpty) = false) :=
  ⟨{ inMode 0xB with pair := { leases := [((1, 3), { flights := [(1, 9, false)] })] } }, by decide⟩

theorem test_meets_modeTimeLimitExpiry : ∃ (s : State) (ns : Nat), ((s.modeNow = 1 ∧ ns = 200000000) ∨ (s.modeNow = 2 ∧ ns = 5000000000) ∨ (s.modeNow = 3 ∧ s.mode.workDone = false ∧ ns = 1000000 * (s.img.active.getD {}).pkg.bringupMs)) :=
  ⟨inMode 1, 200000000, by decide⟩

theorem test_meets_bringupWorkComplete : ∃ (s : State), s.modeNow = 3 ∧ s.mode.workDone = false ∧ s.r mdId (.rst .DIE_STATE_dies) % 4 = 0 ∧
    s.cds.all (fun c => s.chanFailed (cdId c) || (s.cdUp (cdId c) && (s.fl (cdId c)).started)) = true :=
  ⟨{ (inMode 3) with channels := 0 }, by decide⟩

theorem test_meets_bringupWorkComplete_alt1 : ∃ (s : State), s.modeNow = 3 ∧ s.mode.workDone = false ∧ s.r mdId (.rst .DIE_STATE_dies) % 4 = 0 ∧
    s.cds.all (fun c => s.chanFailed (cdId c) || (s.cdUp (cdId c) && (s.fl (cdId c)).started)) = true ∧
    (s.paired = true) :=
  ⟨{ inMode 3 [(7, .rst .STRAP_role, 1, 0)] with channels := 0 }, by decide⟩

theorem test_meets_maintenanceDrainLimitExpiry : ∃ (s : State) (d : Nat), s.mode.drain = some d :=
  ⟨{ up with mode := { drain := some 5 } }, 5, by decide⟩

theorem test_meets_maintenanceDrainComplete : ∃ (s : State), s.modeNow = 5 ∧ s.mode.drain.isSome = true ∧ s.pair.ho = 0 ∧
    (s.cds.map cdId).any (fun d => s.cdUp d && !s.chanFailed d && s.undrained d) = false :=
  ⟨{ (inMode 5) with mode := { drain := some 5 } }, by decide⟩

theorem test_meets_modeCmdEnterMaintenance : ∃ (q : Req), q.secure = true :=
  ⟨sec, by decide⟩

theorem test_meets_modeCmdEnterMaintenance_alt1 : ∃ (q : Req) (s : State), q.secure = true ∧
    (s.modeNow = 6) :=
  ⟨sec, inMode 6, by decide⟩

theorem test_meets_modeCmdEnterMaintenance_alt2 : ∃ (q : Req) (s : State), q.secure = true ∧
    (s.modeNow = 5) ∧ (s.mode.drain = none) ∧ (s.pair.hoMaint = false) ∧ (s.handoverOk = false) :=
  ⟨sec, inMode 5, by decide⟩

theorem test_meets_modeCmdReleaseMaintenance : ∃ (q : Req), q.secure = true :=
  ⟨sec, by decide⟩

theorem test_meets_modeCmdReleaseMaintenance_alt1 : ∃ (q : Req) (s : State), q.secure = true ∧
    (s.modeNow = 0xA) ∧ ((s.target ⟨9, 0⟩).isSome = true) :=
  ⟨sec, pr 0xA, by decide⟩

theorem test_meets_pairBGateWaitExpiry : ∃ (s : State), ¬ s.modeNow < 3 ∧ s.role = 2 ∧ s.mode.gateWaitOver = false :=
  ⟨inMode 3 [(7, .rst .STRAP_role, 2, 0)], by decide⟩

theorem test_meets_pairingWaitExpiry : ∃ (s : State), s.modeNow = 4 ∧ s.pair.seen = false ∧ s.mode.pairWaitOver = false :=
  ⟨inMode 4, by decide⟩

theorem test_meets_channelRecoveryLimitExpiry : ∃ (c : Cd) (l : Nat) (s : State), alGet s.mode.chanRecover (cdId c) = some l ∧
    s.cdUp (cdId c) = false :=
  ⟨0, 5, { up with channels := 0, mode := { chanRecover := [(1, 5)] } }, by decide⟩

theorem test_meets_channelDisableCommand : ∃ (c : Cd) (s : State), 3 ≤ s.modeNow ∧ c.val < s.channels ∧ s.chanFailed (cdId c) = false ∧ s.mode.chanDrain.any (fun e => e.1 = cdId c) = false :=
  ⟨0, inMode 5, by decide⟩

theorem test_meets_channelDisableDrainComplete : ∃ (c : Cd) (s : State), s.mode.chanDrain.any (fun e => e.1 = cdId c) = true ∧
    (s.cdUp (cdId c) && s.undrained (cdId c)) = false :=
  ⟨0, { up with mode := { chanDrain := [(1, 5)] } }, by decide⟩

theorem test_meets_channelDisableDrainLimitExpiry : ∃ (c : Cd) (l : Nat) (s : State), alGet s.mode.chanDrain (cdId c) = some l :=
  ⟨0, 5, { up with mode := { chanDrain := [(1, 5)] } }, by decide⟩

theorem test_meets_channelFail : ∃ (c : Cd) (s : State), ¬ s.modeNow < 3 ∧ s.cdUp (cdId c) = true :=
  ⟨0, inMode 5, by decide⟩

theorem test_meets_errorBoundUpdate : ∃ (d : Nat) (s : State), s.servo = 0 ∧ s.tim.rate = s.growthRate ∧ s.dies.contains d = true ∧ s.r mdId (.lat .STATUS_pair_ring) = 0 :=
  ⟨7, { up with tim := { rate := up.growthRate } }, by decide⟩

theorem test_meets_ptpMessageReceived_1 : ∃ (port : Fin 32) (s : State), s.rbit 0 (.eth .PORT_FLAGS_flags) 0 port.val = true ∧ s.rbit 0 (.eth .PORT_FLAGS_flags) 1 port.val = true ∧
    s.servo = 0 ∧ s.bestSource = none ∧ s.tim.syncPorts.contains port.val = false :=
  ⟨0, with_ [(0, .eth .PORT_FLAGS_flags, 3, 0)], by decide⟩

theorem test_meets_ptpMessageReceived_2 : ∃ (port : Fin 32) (s : State), s.rbit 0 (.eth .PORT_FLAGS_flags) 0 port.val = true ∧ s.rbit 0 (.eth .PORT_FLAGS_flags) 1 port.val = true :=
  ⟨0, with_ [(0, .eth .PORT_FLAGS_flags, 3, 0)], by decide⟩

theorem test_meets_sourceValidityTimeout : ∃ (s : State), s.servo = 0 :=
  ⟨{ up with tim := { ppsGood := true } }, by decide⟩

theorem test_meets_ppsInputEdge : ∃ (s : State), s.r 0 (.tim .PPS_CFG_in_enable) ≠ 0 ∧ s.servo = 0 ∧ s.tim.ppsLast = none :=
  ⟨with_ [(0, .tim .PPS_CFG_in_enable, 1, 0)], by decide⟩

theorem test_meets_ref10mCheck : ∃ (s : State), s.r 0 (.tim .STATE_ref10m_valid) < 2 :=
  ⟨up, by decide⟩

theorem test_meets_ts64Seed : ∃ (s : State), s.servo = 0 ∧ s.tim.firstLockOver = true ∧ s.r 0 (.tim .SERVO_CFG_unref_start) ≠ 0 ∧ s.bestSource = none ∧ s.discoveryOver = true :=
  ⟨{ (with_ [(0, .tim .SERVO_CFG_unref_start, 1, 0)]) with tim := { firstLockOver := true } }, by decide⟩

theorem test_meets_timeDistributionSend : ∃ (d : Nat) (s : State), s.dies.contains d = true ∧ d ≠ 0 :=
  ⟨7, up, by decide⟩

theorem test_meets_timeDisagreeEpisodeEnd : ∃ (s : State), s.deltaAgrees = true :=
  ⟨up, by decide⟩

theorem test_meets_scheduleEntryFire : ∃ (die : DieId) (idx : Fin 256) (f : Nat) (s : State), (s.entry die.val idx.val).occ ((alGet s.tim.nextOcc (die.val, idx.val)).getD 0) = some f ∧
    (s.entry die.val idx.val).enabled = true ∧ s.tsSet die.val = true ∧ s.dieUp die.val = true ∧ (s.entry die.val idx.val).flags.testBit 2 = true :=
  ⟨7, 200, 0, { up with tim := { counters := [(7, { set := true })], sched := [((7, 200), ({ kind := 7, flags := 5 } : SchedEntry))] } }, by decide⟩

theorem test_meets_scheduleWindowClose : ∃ (die : DieId) (idx : Fin 256) (w : OpenWindow) (s : State), s.tim.windows.find? (fun w => w.die = die.val && w.idx = idx.val) = some w :=
  ⟨7, 3, ⟨7, 3, {}, 5⟩, { up with tim := { windows := [⟨7, 3, {}, 5⟩] } }, by decide⟩

theorem test_meets_timSchedCommit : ∃ (q : Req), q.secure = true :=
  ⟨sec, by decide⟩

theorem test_meets_timSchedWrite_3 : ∃ (q : Req) (idx : Fin 256), q.secure = true ∧ idx.val < 192 :=
  ⟨sec, 3, by decide⟩

theorem test_meets_timSchedWrite_4 : ∃ (die : DieId) (idx : Fin 256) (k : Fin 8) (v : Word) (e : SchedEntry) (s : State), 192 ≤ idx.val ∧ e = (s.entry die.val idx.val).setWord k.val v.toNat ∧
    (s.entry die.val idx.val).flags.testBit 1 = false ∧ e.flags.testBit 1 = false ∧ (s.entry die.val idx.val).enabled = false ∧ e.enabled = false :=
  ⟨7, 200, 0, 9, { base := 9 }, up, by decide⟩

theorem test_meets_ppsOutputPulse : ∃ (s : State), s.tsSet 0 = true ∧ s.ppsDriven = true :=
  ⟨{ (with_ [(0, .tim .STATE_state, 2, 0), (0, .tim .PPS_CFG_out_enable, 1, 0)]) with tim := { counters := [(0, { set := true, val := 5 })] } }, by decide⟩

theorem test_meets_ppsOutputWidthEnd : ∃ (s : State), s.tim.ppsHigh = true :=
  ⟨{ up with tim := { ppsHigh := true } }, by decide⟩

theorem test_meets_utcLeapOffsetChange : ∃ (x : Nat) (dv : Int) (s : State), s.tim.leapAt = some (x, dv) ∧ s.tsSet 0 = true ∧ x ≤ (s.reachTs 0 x).ts64 0 ∧
    (s.r 0 (.tim .UTC_offset_s) : Int) + dv < 2 ^ 8 :=
  ⟨9, 1, { up with tim := { counters := [(0, { set := true, val := 5 })], leapAt := some (9, 1) } }, by decide⟩

theorem test_meets_ptpMessageSend : ∃ (port : Fin 32) (sync : Bool) (s : State), (s.tim.cfg.clockType = 1 ∧ s.tim.cfg.masterPorts.testBit port.val = true ∧ (sync = true → s.servo ≠ 0)) :=
  ⟨0, false, { up with tim := { cfg := { sources := [], clockType := 1, masterPorts := 1 } } }, by decide⟩

theorem test_meets_configImageLoad_0 : ∃ (m : Image) (b : Option Image) (sel0 : Selector) (sel1 : Selector) (s : State) (u : State), s.modeNow = 2 ∧
    u = (({ s with img := { s.img with slotA := some m, slotB := b, sel0 := sel0, sel1 := sel1 } } : State).w mdId (.img .ROLLBACK_FLOOR_floor) s.img.floor).w mdId (.img .STATUS_boot_device) (s.r mdId (.rst .STRAP_boot_device)) ∧
    u.selector.current = 0 ∧ u.imageCheck m = none :=
  ⟨imgOk, none, {}, {}, own (inMode 2), ((({ own (inMode 2) with img := { (own (inMode 2)).img with slotA := some imgOk } } : State).w mdId (.img .ROLLBACK_FLOOR_floor) 0).w mdId (.img .STATUS_boot_device) ((inMode 2).r mdId (.rst .STRAP_boot_device))), by decide⟩

theorem test_meets_configImageLoad_1 : ∃ (s : State), s.modeNow = 2 :=
  ⟨inMode 2, by decide⟩

theorem test_meets_imgStageStart : ∃ (q : Req) (s : State), q.secure = true ∧ stageMode s.modeNow = true ∧ s.stagePending = false ∧ ¬ 8 < s.sec.ledgerQ.length :=
  ⟨sec, inMode 5, by decide⟩

theorem test_meets_imgStageCancel : ∃ (q : Req) (s : State), q.secure = true ∧ s.stagePending = true ∧ s.r mdId (.img .STATUS_stage_state) ≠ 5 ∧ s.ts64 mdId + 10 ^ 9 ≤ (s.img.staged.getD {}).epoch ∧ s.solo = true :=
  ⟨sec, { (with_ [(7, .img .STATUS_stage_state, 4, 0)]) with img := { staged := some { epoch := 10 ^ 9 } } }, by decide⟩

theorem test_meets_stagingComplete_4 : ∃ (m : Image) (s : State), between 1 (s.r mdId (.img .STATUS_stage_state)) 2 = true ∧ s.img.staged = some m ∧ s.stagedCheck m = none ∧ s.paired = false :=
  ⟨{ imgOk with seq := 5, epoch := 2000000000 }, { own (with_ [(7, .img .STATUS_stage_state, 1, 0)]) with img := { staged := some { imgOk with seq := 5, epoch := 2000000000 } }, tim := { counters := [(7, { set := true })] } }, by decide⟩

theorem test_meets_stagingComplete_5 : ∃ (m : Image) (s : State), between 1 (s.r mdId (.img .STATUS_stage_state)) 2 = true ∧ s.img.staged = some m :=
  ⟨{}, { (with_ [(7, .img .STATUS_stage_state, 1, 0)]) with img := { staged := some {} } }, by decide⟩

theorem test_meets_stageReportReceived : ∃ (m : Image) (s : State), s.paired = true ∧ s.ringClosed = true ∧ s.img.staged = some m ∧ s.r mdId (.img .STATUS_stage_state) = 3 :=
  ⟨{}, { (with_ [(7, .img .STATUS_stage_state, 3, 0), (7, .rst .STRAP_role, 1, 0), (7, .lat .STATUS_pair_ring, 1, 0)]) with img := { staged := some {} } }, by decide⟩

theorem test_meets_stageAgreementDeadline : ∃ (m : Image) (s : State), s.img.staged = some m ∧ s.r mdId (.img .STATUS_stage_state) = 3 ∧
    m.epoch ≤ (s.reachTs mdId (m.epoch - 10 ^ 9)).ts64 mdId + 10 ^ 9 :=
  ⟨{ epoch := 5 }, { (with_ [(7, .img .STATUS_stage_state, 3, 0)]) with img := { staged := some { epoch := 5 } } }, by decide⟩

theorem test_meets_stageAgreementDeadline_alt1 : ∃ (m : Image) (s : State), s.img.staged = some m ∧ s.r mdId (.img .STATUS_stage_state) = 3 ∧
    m.epoch ≤ (s.reachTs mdId (m.epoch - 10 ^ 9)).ts64 mdId + 10 ^ 9 ∧
    (s.authenticated = true) ∧ (s.sealReady 0 = true) :=
  ⟨{ epoch := 5 }, State.w { pr 5 with img := { staged := some { epoch := 5 } } } 7 (.img .STATUS_stage_state) 3, by decide⟩

theorem test_meets_epochSwitch : ∃ (m : Image) (s : State), s.img.staged = some m ∧ s.r mdId (.img .STATUS_stage_state) = 4 ∧ stageMode s.modeNow = true ∧ s.tsSet mdId = true ∧
    m.epoch ≤ (s.reachTs mdId m.epoch).ts64 mdId :=
  ⟨{}, { (inMode 5 [(7, .img .STATUS_stage_state, 4, 0)]) with img := { staged := some {} }, tim := { counters := [(7, { set := true })] } }, by decide⟩

theorem test_meets_oldBankRelease : ∃ (die : DieId) (s : State), s.img.oldBanks.contains die.val = true ∧
    (s.cd die.val).slots.any (fun z => z.2.state = 1 && decide (z.2.stamp < s.img.switchAt)) = false ∧
    s.rdx.conns.any (fun e => e.1.1 = die.val && e.2.deliveries.any (fun x => decide (x.stamp < s.img.switchAt))) = false :=
  ⟨7, { up with img := { oldBanks := [7, 1] } }, by decide⟩

theorem test_meets_laneAcquireComplete : ∃ (lane : Fin 40) (s : State), s.lane lane.val = 1 :=
  ⟨3, with_ [(0, .sds .LANE_STATUS_state, 1, 3)], by decide⟩

theorem test_meets_laneTrainingComplete : ∃ (lane : Fin 40) (s : State), s.lane lane.val = 2 :=
  ⟨3, with_ [(0, .sds .LANE_STATUS_state, 2, 3)], by decide⟩

theorem test_meets_laneTrainingTimeout : ∃ (lane : Fin 40) (s : State), s.lane lane.val = 2 :=
  ⟨3, with_ [(0, .sds .LANE_STATUS_state, 2, 3)], by decide⟩

theorem test_meets_laneSignalLoss : ∃ (lane : Fin 40) (s : State), s.laneTracks lane.val = true :=
  ⟨3, with_ [(0, .sds .LANE_STATUS_state, 3, 3)], by decide⟩

theorem test_meets_laneFaultRecovery : ∃ (lane : Fin 40) (s : State), s.lane lane.val = 5 :=
  ⟨3, with_ [(0, .sds .LANE_STATUS_state, 5, 3)], by decide⟩

theorem test_meets_laneUpdateBoundary : ∃ (lane : Fin 40) (s : State), s.lane lane.val = 3 :=
  ⟨3, with_ [(0, .sds .LANE_STATUS_state, 3, 3)], by decide⟩

theorem test_meets_laneFreezeWrite : ∃ (q : Req), q.secure = true :=
  ⟨sec, by decide⟩

theorem test_meets_laneSnap : ∃ (q : Req), q.secure = true :=
  ⟨sec, by decide⟩

theorem test_meets_laneRxeqWrite : ∃ (q : Req) (lane : Fin 40) (c : LaneCoef) (s : State), q.secure = true ∧ s.lane lane.val = 4 ∧ c = (alGet s.eth.rxDue lane.val).getD ((alGet s.eth.live lane.val).getD {}) :=
  ⟨sec, 3, {}, with_ [(0, .sds .LANE_STATUS_state, 4, 3)], by decide⟩

theorem test_meets_laneTxeqWrite : ∃ (q : Req) (lane : Fin 40) (v : BitVec 30) (s : State), q.secure = true ∧ s.eth.crkr.contains lane.val = false ∧ ¬ 63 < tapSum v.toNat :=
  ⟨sec, 3, 0, up, by decide⟩

theorem test_meets_serdesRecalLane : ∃ (group : Fin 10) (w : OpenWindow) (i : Nat) (s : State), s.tim.windows.find? (fun w => w.die = 0 && w.entry.kind = 4 && w.entry.target = group.val) = some w ∧
    ((s.profile 0).recal = 0 || !between 3 s.modeNow 0xA) = false ∧ s.ts64 0 + 200000 ≤ w.closes ∧
    (List.range 4).find? (fun i => s.lane (4 * group.val + (s.r 0 (.sds .RECAL_STATUS_next) / 2 ^ (2 * group.val) % 4 + i) % 4) = 3) = some i :=
  ⟨0, ⟨0, 3, { kind := 4 }, 200000⟩, 0, { (inMode 5 [(0, .sds .LANE_STATUS_state, 3, 0)]) with tim := { counters := [(0, { set := true })], windows := [⟨0, 3, { kind := 4 }, 200000⟩] } }, by decide⟩

theorem test_meets_portLinkUp : ∃ (port : Fin 32) (s : State), s.rbit 0 (.eth .PORT_FLAGS_flags) 0 port.val = true ∧ (s.portLanes port.val).all s.laneTracks = true ∧ s.link port.val ≠ 2 ∧ s.link port.val ≠ 4 :=
  ⟨0, with_ [(0, .eth .PORT_FLAGS_flags, 9, 0), (0, .sds .LANE_STATUS_state, 3, 0)], by decide⟩

theorem test_meets_portLinkFault : ∃ (port : Fin 32) (s : State), s.link port.val = 2 :=
  ⟨0, with_ [(0, .eth .PORT_STATUS_link_state, 2, 0)], by decide⟩

theorem test_meets_remoteFaultReceived : ∃ (port : Fin 32) (s : State), s.link port.val ≠ 0 :=
  ⟨0, with_ [(0, .eth .PORT_STATUS_link_state, 2, 0)], by decide⟩

theorem test_meets_fecDegradeWindowEnd : ∃ (port : Fin 32) (n : Nat) (s : State), 0 < s.r 0 (.eth .FEC_CFG_deg_thr) port.val ∧ s.r 0 (.eth .FEC_CFG_deg_thr) port.val < n :=
  ⟨0, 6, with_ [(0, .eth .FEC_CFG_deg_thr, 5, 0)], by decide⟩

theorem test_meets_preemptVerifyTimeout : ∃ (port : Fin 32) (s : State), s.r 0 (.eth .PREEMPT_STATUS_verify_state) port.val = 1 :=
  ⟨0, with_ [(0, .eth .PREEMPT_STATUS_verify_state, 1, 0)], by decide⟩

theorem test_meets_preemptVerifyTimeout_alt1 : ∃ (port : Fin 32) (s : State), s.r 0 (.eth .PREEMPT_STATUS_verify_state) port.val = 1 ∧
    (¬ (alGet s.eth.verifies port.val).getD 0 < 3) :=
  ⟨0, { with_ [(0, .eth .PREEMPT_STATUS_verify_state, 1, 0)] with eth := { verifies := [(0, 3)] } }, by decide⟩

theorem test_meets_preemptRespondReceived : ∃ (port : Fin 32) (s : State), s.r 0 (.eth .PREEMPT_STATUS_verify_state) port.val = 1 :=
  ⟨0, with_ [(0, .eth .PREEMPT_STATUS_verify_state, 1, 0)], by decide⟩

theorem test_meets_gratuitousRepeat : ∃ (s : State), s.eth.gratLeft ≠ 0 ∧ s.dataPresence = true :=
  ⟨{ (inMode 5) with eth := { gratLeft := 2 } }, by decide⟩

theorem test_meets_frameReceived_8 : ∃ (port : Fin 32) (f : RxFrame) (s : State), s.link port.val = 2 ∧ f.kind ≠ .verify ∧ (s.fifoReserve port.val).isNone = true :=
  ⟨0, { bytes := 64, kind := .other }, { (with_ [(0, .eth .PORT_STATUS_link_state, 2, 0)]) with eth := { fifo := [(0, 32768)] } }, by decide⟩

theorem test_meets_frameReceived_9 : ∃ (port : Fin 32) (f : RxFrame) (s : State), s.link port.val = 2 ∧ f.kind = .verify ∧ s.rbit 0 (.eth .PORT_FLAGS_flags) 3 port.val = true :=
  ⟨0, { bytes := 64, kind := .verify }, with_ [(0, .eth .PORT_STATUS_link_state, 2, 0), (0, .eth .PORT_FLAGS_flags, 8, 0)], by decide⟩

theorem test_meets_frameReceived_10 : ∃ (port : Fin 32) (f : RxFrame) (s : State) (u : State), s.link port.val = 2 ∧ f.kind ≠ .verify ∧ s.fifoReserve port.val = some u ∧
    ¬ u.r 0 (.eth .PORT_CFG_max_frame) port.val < f.bytes ∧ ¬ f.bytes < 64 ∧ (f.errBlock || !f.fcsOk) = false ∧ u.vlanOk port.val f = false :=
  ⟨0, { bytes := 64, kind := .other, vid := some 5 }, with_ [(0, .eth .PORT_STATUS_link_state, 2, 0)], { (with_ [(0, .eth .PORT_STATUS_link_state, 2, 0)]) with eth := { fifo := [(0, 1518)] } }, by decide⟩

theorem test_meets_fragmentReceived_11 : ∃ (port : Fin 32) (s : State), s.link port.val = 2 ∧ s.rbit 0 (.eth .PORT_FLAGS_flags) 3 port.val = true ∧ (alGet s.eth.reasm port.val).isNone = true ∧ (s.fifoReserve port.val).isSome = true :=
  ⟨0, with_ [(0, .eth .PORT_STATUS_link_state, 2, 0), (0, .eth .PORT_FLAGS_flags, 8, 0)], by decide⟩

theorem test_meets_fragmentReceived_12 : ∃ (port : Fin 32) (frag : Fin 4) (x : Reasm) (s : State), s.link port.val = 2 ∧ s.rbit 0 (.eth .PORT_FLAGS_flags) 3 port.val = true ∧ alGet s.eth.reasm port.val = some x ∧ frag.val = x.next ∧ x.dropped = false :=
  ⟨0, 0, ⟨0, 60, false⟩, { (with_ [(0, .eth .PORT_STATUS_link_state, 2, 0), (0, .eth .PORT_FLAGS_flags, 8, 0)]) with eth := { reasm := [(0, ⟨0, 60, false⟩)] } }, by decide⟩

theorem test_meets_replicationPass : ∃ (o : OutFrame) (l : List OutFrame) (s : State), alList s.swx.delivered 15 = o :: l :=
  ⟨⟨⟨1, 4, true, 6, 2, 0, 400, false, false, 0, 0, 0, 0, none, none, none⟩, 2, false, false, 96⟩, [], { up with swx := { delivered := [(15, [⟨⟨1, 4, true, 6, 2, 0, 400, false, false, 0, 0, 0, 0, none, none, none⟩, 2, false, false, 96⟩])] } }, by decide⟩

theorem test_meets_recirculatedFrame : ∃ (b : Bool) (o : OutFrame) (l : List OutFrame) (s : State), alList s.swx.delivered (if b then 14 else 13) = o :: l ∧
    (b && !s.rb 0 (.swx .LOOPBACK_enable)) = false :=
  ⟨false, ⟨⟨1, 4, false, 13, 2, 0, 400, false, false, 0, 0, 0, 0, none, none, none⟩, 2, false, false, 0⟩, [], { up with swx := { delivered := [(13, [⟨⟨1, 4, false, 13, 2, 0, 400, false, false, 0, 0, 0, 0, none, none, none⟩, 2, false, false, 0⟩])] } }, by decide⟩

theorem test_meets_mcastGroupWrite : ∃ (q : Req) (g : Fin 32), q.secure = true ∧ 6 ≤ g.val :=
  ⟨sec, 6, by decide⟩

theorem test_meets_mcastHoldRelease : ∃ (g : Fin 32) (m : Nat) (s : State), alGet s.swx.pendingMembers g.val = some m ∧
    (List.range 16).any (fun i => s.streamBusy i (16 + g.val)) = false :=
  ⟨6, 48, { up with swx := { pendingMembers := [(6, 48)] } }, by decide⟩

theorem test_meets_swxLoopbackWrite : ∃ (q : Req), q.secure = true :=
  ⟨sec, by decide⟩

theorem test_meets_outLimitWrite : ∃ (q : Req) (a : BitVec 10) (b : BitVec 10) (c : BitVec 10), q.secure = true ∧ 1 ≤ a.toNat ∧ a.toNat ≤ 768 ∧ b.toNat ≤ a.toNat ∧ c.toNat ≤ b.toNat :=
  ⟨sec, 768, 700, 700, by decide⟩

theorem test_meets_polSnapshot : ∃ (i : Fin 2048) (tc : Nat) (te : Nat) (at_ : Nat) (s : State), alGet s.swx.buckets i.val = some (tc, te, at_) :=
  ⟨7, 5, 6, 0, { up with swx := { buckets := [(7, 5, 6, 0)], polOvf := [(7, 3)] } }, by decide⟩

theorem test_meets_frameTransmit : ∃ (port : Fin 32) (s : State), s.r 0 (.eth .PORT_STATUS_link_state) port.val = 2 :=
  ⟨3, with_ [(0, .eth .PORT_STATUS_link_state, 2, 3)], by decide⟩

theorem test_meets_gateEntryAdvance : ∃ (port : Fin 32) (g : GateList) (s : State), s.gateList port.val = some g ∧ g.entries.length ≤ 256 ∧
    ¬ (s.reachTs 0 ((alGet s.sch.entryAt port.val).getD 0 + (g.entries.getD (s.r 0 (.sch .GATE_STATE_entry) port.val) {}).interval)).ts64 0 <
    (alGet s.sch.entryAt port.val).getD 0 + (g.entries.getD (s.r 0 (.sch .GATE_STATE_entry) port.val) {}).interval :=
  ⟨3, { port := 3, list := 1, entries := [{ mask := 1 }, { mask := 2 }] }, { with_ [(0, .sch .GATE_STATE_running, 1, 3), (0, .sch .GATE_STATE_list, 1, 3)] with img := { active := some { gates := [{ port := 3, list := 1, entries := [{ mask := 1 }, { mask := 2 }] }] } }, now := 1000, tim := { counters := [(0, { set := true })] } }, by decide⟩

theorem test_meets_transmitOpportunity : ∃ (port : Fin 32) (c : Fin 8) (f : SchFrame) (s : State), s.r 0 (.eth .PORT_STATUS_link_state) port.val = 2 ∧ s.sch.fifos = [((port.val, 0x10000 + c.val), [f])] ∧ f.cls = c.val ∧
    s.longestWindow port.val f.cls = none ∧ s.eligible port.val (0x10000 + c.val) f = true ∧
    alGet s.sch.part port.val = none ∧ s.windowLeft port.val f.cls = none ∧
    s.chargeOf port.val f ≤ (alGet (s.deficitsOf (port.val * 8 + f.cls)) (0x10000 + c.val)).getD 0 ∧
    s.chargeOf port.val f ≤ (alGet (s.deficitsOf (0x1000 + port.val * 0x20000 + (0x10000 + c.val))) (0x10000 + c.val)).getD 0 :=
  ⟨3, 2, ⟨1, 100, 2, 0, false⟩, { with_ [(0, .eth .PORT_STATUS_link_state, 2, 3), (0, .sch .GATE_STATE_open, 255, 3), (0, .eth .PORT_CFG_max_frame, 9216, 3)] with sch := { fifos := [((3, 0x10002), [⟨1, 100, 2, 0, false⟩])], deficits := [((26, 0x10002), 200), ((0x1000 + 3 * 0x20000 + 0x10002, 0x10002), 200)] } }, by decide⟩

theorem test_meets_pmcStart : ∃ (q : Req) (d : DieId) (a : BitVec 8) (b : BitVec 8) (s : State), s.pmcDenied q d.val (a.toNat ||| b.toNat) = false ∧ a.toNat &&& b.toNat = 0 :=
  ⟨sec, 2, 5, 2, up, by decide⟩

theorem test_meets_pmcStop : ∃ (q : Req) (d : DieId) (b : BitVec 8) (s : State), s.pmcDenied q d.val b.toNat = false :=
  ⟨sec, 2, 5, with_ [(2, .pmc .STATUS_running, 7, 0)], by decide⟩

theorem test_meets_pmcTimedArm : ∃ (q : Req) (d : DieId) (a : Bool) (m : BitVec 8) (s : State), s.pmcDenied q d.val (if a then m.toNat else 0) = false :=
  ⟨sec, 2, true, 5, with_ [(2, .pmc .SNAP_AT, 7, 0)], by decide⟩

theorem test_meets_pmcTimedStart : ∃ (d : DieId) (m : Nat) (at_ : Nat) (s : State), alGet s.pmc.starts d.val = some (m, at_) ∧
    (s.reachTs d.val at_).tsSet d.val = true ∧ at_ ≤ (s.reachTs d.val at_).ts64 d.val :=
  ⟨2, 5, 0, { up with pmc := { starts := [(2, 5, 0)] }, tim := { counters := [(2, { set := true })] } }, by decide⟩

theorem test_meets_pmcTimedSnapshot : ∃ (d : DieId) (at_ : Nat) (s : State), alGet s.pmc.shots d.val = some at_ ∧
    (s.reachTs d.val at_).tsSet d.val = true ∧ at_ ≤ (s.reachTs d.val at_).ts64 d.val :=
  ⟨2, 0, { up with pmc := { shots := [(2, 0)] }, tim := { counters := [(2, { set := true })] } }, by decide⟩

theorem test_meets_pmcCounterPreset : ∃ (q : Req) (d : DieId) (n : Fin 8) (s : State), s.pmcDenied q d.val (2 ^ n.val) = false ∧ s.rbit d.val (.pmc .STATUS_running) n.val = false :=
  ⟨sec, 2, 3, up, by decide⟩

theorem test_meets_pmcCounterPreset_alt1 : ∃ (q : Req) (d : DieId) (n : Fin 8) (hi : Bool) (s : State), s.pmcDenied q d.val (2 ^ n.val) = false ∧ s.rbit d.val (.pmc .STATUS_running) n.val = false ∧
    (hi = false) :=
  ⟨sec, 2, 3, false, up, by decide⟩

theorem test_meets_pmcSelectorWrite : ∃ (q : Req) (d : DieId) (n : Fin 8) (s : State), s.pmcDenied q d.val (2 ^ n.val) = false ∧ s.rbit d.val (.pmc .STATUS_running) n.val = false :=
  ⟨sec, 2, 3, up, by decide⟩

theorem test_meets_pmcSelectorWrite_alt1 : ∃ (q : Req) (d : DieId) (n : Fin 8) (v : Word) (s : State), s.pmcDenied q d.val (2 ^ n.val) = false ∧ s.rbit d.val (.pmc .STATUS_running) n.val = false ∧
    (validSelector d.val v.toNat = false) :=
  ⟨sec, 2, 3, 0xFFFFFFFF, up, by decide⟩

theorem test_meets_cmRequest : ∃ (c : Nat) (s : State), s.cmDie = some c :=
  ⟨0, up, by decide⟩

theorem test_meets_cmRequest_alt1 : ∃ (v : Nat) (b : Bool) (c : Nat) (s : State), s.cmDie = some c ∧
    (¬(b = true ∧ v = 1)) :=
  ⟨1, false, 0, up, by decide⟩

theorem test_meets_connOpen : ∃ (d : Cd) (conn : BitVec 24) (s : State), s.cdUp (cdId d) = true ∧ s.modeNow ≠ 0xB ∧
    (s.conn (cdId d) (conn.toNat % 4096)).state = 0 :=
  ⟨0, 5, up, by decide⟩

theorem test_meets_connReady : ∃ (d : Cd) (conn : BitVec 24) (e : PortEntry) (s : State), s.cdUp (cdId d) = true ∧ s.modeNow ≠ 0xB ∧
    (s.conn (cdId d) (connIdx conn.toNat)).state = 1 ∧ s.connNamed (cdId d) conn.toNat = true ∧ s.connPort (s.conn (cdId d) (connIdx conn.toNat)).f.port = some e ∧ connFOk (s.conn (cdId d) (connIdx conn.toNat)).f e.rdmaMtu = true :=
  ⟨0, 0x1005, { flags := 5, rdmaMtu := 4096 }, { cn { state := 1, f := { pmtu := 3, paths := 1, slotLimit := 1, ackTimeout := 14, udpSrc := [0xC000] } } with img := { active := some { ports := [{ flags := 5, rdmaMtu := 4096 }] } } }, by decide⟩

theorem test_meets_connDrain : ∃ (d : Cd) (conn : BitVec 24) (s : State), s.cdUp (cdId d) = true ∧ s.modeNow ≠ 0xB ∧
    (s.conn (cdId d) (connIdx conn.toNat)).state = 2 ∧ s.connNamed (cdId d) conn.toNat = true :=
  ⟨0, 0x1005, cn { state := 2 }, by decide⟩

theorem test_meets_connErrorCmd : ∃ (d : Cd) (conn : BitVec 24) (s : State), s.cdUp (cdId d) = true ∧ s.modeNow ≠ 0xB ∧
    (((s.conn (cdId d) (connIdx conn.toNat)).state = 1 ∨ (s.conn (cdId d) (connIdx conn.toNat)).state = 2 ∨ (s.conn (cdId d) (connIdx conn.toNat)).state = 3) ∧ s.connNamed (cdId d) conn.toNat = true) :=
  ⟨0, 0x1005, cn { state := 2 }, by decide⟩

theorem test_meets_connFree : ∃ (d : Cd) (conn : BitVec 24) (s : State), s.cdUp (cdId d) = true ∧ s.modeNow ≠ 0xB ∧
    (((s.conn (cdId d) (connIdx conn.toNat)).state = 4 ∨ s.connDrained (cdId d) (connIdx conn.toNat) = true) ∧ s.connNamed (cdId d) conn.toNat = true) :=
  ⟨0, 0x1005, cn { state := 4 }, by decide⟩

theorem test_meets_connShadow : ∃ (d : Cd) (conn : BitVec 24) (s : State), s.cdUp (cdId d) = true ∧ s.modeNow ≠ 0xB ∧
    (s.conn (cdId d) (connIdx conn.toNat)).state = 1 ∧ s.connNamed (cdId d) conn.toNat = true :=
  ⟨0, 0x1005, cn { state := 1 }, by decide⟩

theorem test_meets_rdmaPacketReceived : ∃ (d : Cd) (s : State), s.cdUp (cdId d) = true ∧ s.modeNow ≠ 0xB :=
  ⟨0, cn { state := 2, epsn := 7, credits := 1 }, by decide⟩

theorem test_meets_rdmaPacketReceived_alt1 : ∃ (d : Cd) (p : RdmaPkt) (s : State), s.cdUp (cdId d) = true ∧ s.modeNow ≠ 0xB ∧
    (p.icrcOk = false) :=
  ⟨0, { qp := 0x1005, opcode := 4, psn := 7, icrcOk := false }, cn { state := 2, epsn := 7, credits := 1 }, by decide⟩

theorem test_meets_multipathPacketReceived : ∃ (d : Cd) (p : RdmaPkt) (s : State), s.cdUp (cdId d) = true ∧ s.modeNow ≠ 0xB ∧
    p.icrcOk = true ∧ p.errMark = false ∧ p.tver = 0 ∧ p.pkey % 32768 = 0x7FFF ∧ p.ce = false ∧ p.opcode = 0xC0 ∧
    (s.conn (cdId d) (connIdx p.qp)).state = 2 ∧ (s.conn (cdId d) (connIdx p.qp)).gen = connGen p.qp ∧
    (s.conn (cdId d) (connIdx p.qp)).f.flags.testBit 0 = true ∧ (s.conn (cdId d) (connIdx p.qp)).slots = [] ∧ 0 < (s.conn (cdId d) (connIdx p.qp)).f.slotLimit ∧
    (s.conn (cdId d) (connIdx p.qp)).credits ≠ 0 ∧ s.r (cdId d) (.rdx .STATUS_slots_used) < 8192 ∧
    p.psn = (s.conn (cdId d) (connIdx p.qp)).epsn ∧ p.psn < 2 ^ 24 ∧ p.index = 0 ∧ p.lastIndex = 0 :=
  ⟨0, { qp := 0x1005, opcode := 0xC0, psn := 7 }, cn { state := 2, epsn := 7, credits := 1, f := { flags := 1, slotLimit := 1 } }, by decide⟩

theorem test_meets_ackDelayExpiry : ∃ (d : Cd) (conn : BitVec 24) (at_ : Nat) (s : State), s.cdUp (cdId d) = true ∧ s.modeNow ≠ 0xB ∧
    ((s.conn (cdId d) (connIdx conn.toNat)).ackDue = some at_ ∧ ((s.conn (cdId d) (connIdx conn.toNat)).state = 2 ∨ (s.conn (cdId d) (connIdx conn.toNat)).state = 3)) :=
  ⟨0, 0x1005, 9, cn { state := 2, ackDue := some 9, epsn := 4 }, by decide⟩

theorem test_meets_placementConfirm : ∃ (d : Cd) (conn : BitVec 24) (k : Nat) (p : Placing) (s : State), s.cdUp (cdId d) = true ∧ s.modeNow ≠ 0xB ∧
    (s.conn (cdId d) (connIdx conn.toNat)).placing.find? (fun y => y.ticket = k) = some p :=
  ⟨0, 0x1005, 3, ⟨3, none, none⟩, cn { state := 2, placing := [⟨3, none, none⟩] }, by decide⟩

theorem test_meets_sendDelivery : ∃ (d : Cd) (conn : BitVec 24) (m : Delivery) (l : List Delivery) (s : State), s.cdUp (cdId d) = true ∧ s.modeNow ≠ 0xB ∧
    (s.conn (cdId d) (connIdx conn.toNat)).deliveries = m :: l ∧ (s.conn (cdId d) (connIdx conn.toNat)).placing.any (fun p => decide (p.ticket < m.need)) = false :=
  ⟨0, 0x1005, ⟨0, false, some 5, {}, 0, 0⟩, [], cn { state := 2, deliveries := [⟨0, false, some 5, {}, 0, 0⟩] }, by decide⟩

theorem test_meets_ackReceived : ∃ (d : Cd) (conn : BitVec 24) (psn : BitVec 24) (s : State), s.cdUp (cdId d) = true ∧ s.modeNow ≠ 0xB ∧
    (s.sends (cdId d) (connIdx conn.toNat) && s.connNamed (cdId d) conn.toNat) = true ∧
    (psn.toNat + 2 ^ 24 - (s.conn (cdId d) (connIdx conn.toNat)).txUna) % 2 ^ 24 < ((s.conn (cdId d) (connIdx conn.toNat)).txNext + 2 ^ 24 - (s.conn (cdId d) (connIdx conn.toNat)).txUna) % 2 ^ 24 ∧
    (s.conn (cdId d) (connIdx conn.toNat)).sent.all (fun x => x.chain = none) = true :=
  ⟨0, 0x1005, 3, cn { state := 2, txUna := 3, txNext := 5 }, by decide⟩

theorem test_meets_nakReceived : ∃ (d : Cd) (conn : BitVec 24) (s : State), s.cdUp (cdId d) = true ∧ s.modeNow ≠ 0xB ∧
    (s.sends (cdId d) (connIdx conn.toNat) && s.connNamed (cdId d) conn.toNat) = true :=
  ⟨0, 0x1005, cn { state := 2, retriesLeft := 2 }, by decide⟩

theorem test_meets_nakReceived_alt1 : ∃ (d : Cd) (conn : BitVec 24) (b : Bool) (s : State), s.cdUp (cdId d) = true ∧ s.modeNow ≠ 0xB ∧
    (s.sends (cdId d) (connIdx conn.toNat) && s.connNamed (cdId d) conn.toNat) = true ∧
    (b = false) :=
  ⟨0, 0x1005, false, cn { state := 2, retriesLeft := 2 }, by decide⟩

theorem test_meets_rnrNakReceived : ∃ (d : Cd) (conn : BitVec 24) (s : State), s.cdUp (cdId d) = true ∧ s.modeNow ≠ 0xB ∧
    (s.sends (cdId d) (connIdx conn.toNat) && s.connNamed (cdId d) conn.toNat) = true ∧
    ¬((s.conn (cdId d) (connIdx conn.toNat)).rnrLeft = 0 ∧ (s.conn (cdId d) (connIdx conn.toNat)).f.rnrRetry ≠ 7) :=
  ⟨0, 0x1005, cn { state := 2, rnrLeft := 2 }, by decide⟩

theorem test_meets_retransmitTimeout : ∃ (d : Cd) (conn : BitVec 24) (s : State), s.cdUp (cdId d) = true ∧ s.modeNow ≠ 0xB ∧
    (s.sends (cdId d) (connIdx conn.toNat) && (s.conn (cdId d) (connIdx conn.toNat)).txUna ≠ (s.conn (cdId d) (connIdx conn.toNat)).txNext) = true ∧ (s.conn (cdId d) (connIdx conn.toNat)).retriesLeft ≠ 0 :=
  ⟨0, 0x1005, cn { state := 2, txNext := 2, retriesLeft := 3 }, by decide⟩

theorem test_meets_rnrHoldExpiry : ∃ (d : Cd) (conn : BitVec 24) (at_ : Nat) (s : State), s.cdUp (cdId d) = true ∧ s.modeNow ≠ 0xB ∧
    (s.conn (cdId d) (connIdx conn.toNat)).hold = some at_ :=
  ⟨0, 0x1005, 9, cn { state := 2, hold := some 9 }, by decide⟩

theorem test_meets_cnpReceived : ∃ (d : Cd) (conn : BitVec 24) (s : State), s.cdUp (cdId d) = true ∧ s.modeNow ≠ 0xB ∧
    (s.sends (cdId d) (connIdx conn.toNat) && s.connNamed (cdId d) conn.toNat) = true :=
  ⟨0, 0x1005, cn { state := 2, rate := 9 }, by decide⟩

theorem test_meets_rateRecoverStep : ∃ (d : Cd) (conn : BitVec 24) (s : State), s.cdUp (cdId d) = true ∧ s.modeNow ≠ 0xB ∧
    s.sends (cdId d) (connIdx conn.toNat) = true :=
  ⟨0, 0x1005, cn { state := 2, rate := 9 }, by decide⟩

theorem test_meets_workRequestSend : ∃ (d : Cd) (n : Fin 32768) (w : WorkReq) (s : State), s.cdUp (cdId d) = true ∧ s.modeNow ≠ 0xB ∧
    (s.chain (cdId d) n.val).state = 2 ∧ (s.chain (cdId d) n.val).sent + 1 < (s.chain (cdId d) n.val).wrs ∧ isEp (s.chain (cdId d) n.val).hdr.conn = false ∧
    s.sends (cdId d) (connIdx (s.chain (cdId d) n.val).hdr.conn) = true ∧ (s.conn (cdId d) (connIdx (s.chain (cdId d) n.val).hdr.conn)).hold = none ∧
    workReqOk w (s.conn (cdId d) (connIdx (s.chain (cdId d) n.val).hdr.conn)) = true ∧ s.localOk (cdId d) w.localAddr w.length = true ∧ w.flags.testBit 0 = false ∧
    w.length ≤ pmtuBytes (s.conn (cdId d) (connIdx (s.chain (cdId d) n.val).hdr.conn)).f.pmtu :=
  ⟨0, 3, { flags := 0 }, (cn { state := 2, f := { pmtu := 3 } }).setChain 1 3 { state := 2, wrs := 2, hdr := { conn := 0x1005 } }, by decide⟩

theorem test_meets_regionRegister : ∃ (d : Cd) (i : Fin 65536) (s : State), s.cdUp (cdId d) = true ∧ s.modeNow ≠ 0xB ∧
    s.r (cdId d) (.rdx .REGION_RANGE_first) ≤ i.val ∧ i.val ≤ s.r (cdId d) (.rdx .REGION_RANGE_last) ∧ (s.region (cdId d) i.val).state = 0 ∧
    (s.region (cdId d) i.val).f.flags < 4 ∧ (s.region (cdId d) i.val).f.pd < 4096 ∧ (s.region (cdId d) i.val).f.conn < 2 ^ 24 ∧
    (s.region (cdId d) i.val).f.base % 4096 = 0 ∧ (s.region (cdId d) i.val).f.length % 4096 = 0 ∧ 4096 ≤ (s.region (cdId d) i.val).f.length ∧ (s.region (cdId d) i.val).f.length ≤ 2 ^ 30 ∧
    s.wrtCovers (cdId d) (s.region (cdId d) i.val).f.base (s.region (cdId d) i.val).f.length true = true :=
  ⟨0, 3, (with_ [(1, .rdx .REGION_RANGE_first, 0, 0), (1, .rdx .REGION_RANGE_last, 65535, 0), (1, .sec .WRT_FLAGS_valid, 1, 0), (1, .sec .WRT_SIZE_size_4k, 16, 0)]).setRegion 1 3 { f := { length := 4096, conn := 0xFFFFFF } }, by decide⟩

theorem test_meets_regionRevoke : ∃ (d : Cd) (i : Fin 65536) (s : State), s.cdUp (cdId d) = true ∧ s.modeNow ≠ 0xB ∧
    (s.region (cdId d) i.val).state = 1 :=
  ⟨0, 3, up.setRegion 1 3 { state := 1 }, by decide⟩

theorem test_meets_revocationComplete : ∃ (d : Cd) (i : Fin 65536) (s : State), s.cdUp (cdId d) = true ∧ s.modeNow ≠ 0xB ∧
    (s.region (cdId d) i.val).state = 2 ∧ (s.region (cdId d) i.val).inFlight = 0 :=
  ⟨0, 3, up.setRegion 1 3 { state := 2 }, by decide⟩

theorem test_meets_revokeDonePop : ∃ (d : Cd) (s : State), s.cdUp (cdId d) = true ∧ s.modeNow ≠ 0xB :=
  ⟨0, up, by decide⟩

theorem test_meets_chainArm : ∃ (d : Cd) (n : Fin 32768) (h : ChainHdr) (ws : List WorkReq) (s : State), s.cdUp (cdId d) = true ∧ s.modeNow ≠ 0xB ∧
    (s.chain (cdId d) n.val).state ≠ 1 ∧ (s.chain (cdId d) n.val).state ≠ 2 ∧ (s.conn (cdId d) (connIdx h.conn)).state = 2 ∧ (s.conn (cdId d) (connIdx h.conn)).gen = connGen h.conn ∧
    chainHdrOk h = true ∧ ws.isEmpty = false ∧ ws.length ≤ 15 ∧ ws.any (fun w => !workReqOk w (s.conn (cdId d) (connIdx h.conn))) = false ∧
    (ws.map (fun w => w.flags.testBit 0)).getLast? = some true ∧ (ws.map (fun w => w.flags.testBit 0)).dropLast.any id = false :=
  ⟨0, 3, { armCount := 1, conn := 0x1005, kind0 := 5 }, [{ flags := 1 }], cn { state := 2 }, by decide⟩

theorem test_meets_chainCancel : ∃ (d : Cd) (s : State), s.cdUp (cdId d) = true ∧ s.modeNow ≠ 0xB :=
  ⟨0, up.setChain 1 3 { state := 1 }, by decide⟩

theorem test_meets_chainFirmwareTrigger : ∃ (d : Cd) (n : Fin 32768) (s : State), s.cdUp (cdId d) = true ∧ s.modeNow ≠ 0xB ∧
    (s.chain (cdId d) n.val).state = 1 ∧ (s.chain (cdId d) n.val).hdr.armCount = 2 ∧ (s.chain (cdId d) n.val).got1 = false ∧
    (s.chain (cdId d) n.val).hdr.kind0 = 5 ∧ (s.chain (cdId d) n.val).hdr.key0 = 0 ∧ (s.chain (cdId d) n.val).got0 = false ∧ (s.slot (cdId d) n.val).waiters = [] :=
  ⟨0, 3, up.setChain 1 3 { state := 1, hdr := { armCount := 2, kind0 := 5, kind1 := 1 } }, by decide⟩

theorem test_meets_chainTrigger : ∃ (d : Cd) (n : Fin 32768) (k : Fin 6) (ok : Bool) (s : State), s.cdUp (cdId d) = true ∧ s.modeNow ≠ 0xB ∧
    (k.val = 4 && !ok) = false ∧ (s.slot (cdId d) n.val).waiters = [] :=
  ⟨0, 3, 1, true, up.setChain 1 3 { state := 1, hdr := { armCount := 2, kind0 := 1, key0 := 7, kind1 := 5 } }, by decide⟩

theorem test_meets_chainTrigger_alt1 : ∃ (d : Cd) (n : Fin 32768) (k : Fin 6) (ok : Bool) (s : State), s.cdUp (cdId d) = true ∧ s.modeNow ≠ 0xB ∧
    (k.val = 4 && !ok) = false ∧ (s.slot (cdId d) n.val).waiters = [] ∧
    ((s.chain (cdId d) n.val).state ≠ 1) :=
  ⟨0, 3, 1, true, up.setChain 1 3 { state := 2 }, by decide⟩

theorem test_meets_chainFailPop : ∃ (d : Cd) (s : State), s.cdUp (cdId d) = true ∧ s.modeNow ≠ 0xB :=
  ⟨0, up, by decide⟩

theorem test_meets_rdxSnapshot : ∃ (d : Cd) (s : State), s.cdUp (cdId d) = true :=
  ⟨0, up, by decide⟩

theorem test_meets_fabricsConnect : ∃ (d : Cd) (k : Fin 32768) (nqn : Option Nat) (hn : Nat) (sq : Nat) (kato : Nat) (h : HostEntry) (s : State), s.cdUp (cdId d) = true ∧ ((s.slot (cdId d) k.val).state = 1 || (s.slot (cdId d) k.val).state = 2) = true ∧ (s.slot (cdId d) k.val).waiters = [] ∧ (s.slot (cdId d) k.val).cap.opcode = 0x7F ∧ (s.slot (cdId d) k.val).cap.nsid % 256 = 1 ∧
    (s.conn (cdId d) (connIdx (s.slot (cdId d) k.val).conn)).state = 2 ∧ s.queueOf (cdId d) (s.slot (cdId d) k.val).conn = none ∧ s.cmd.nqnMac.isNone = false ∧ nqn = s.cmd.nqnMac ∧
    (s.img.active.getD {}).hosts.find? (fun h => h.hostnqn = hn && h.flags.testBit 0 && !h.flags.testBit 3) = some h ∧ h.srcIpv6 = 0 ∧
    ¬ h.maxConn ≤ (s.cds.map (fun c => ((s.cd (cdId c)).queues.filter (fun q => q.host = h.id && !isEp q.conn)).length)).foldl (· + ·) 0 ∧
    s.ctrl (cdId d) (ctrlId (cdId d) h.id) = none ∧ (s.cd (cdId d)).queues.any (fun q => q.host = h.id && q.qid = 0) = false ∧
    1 ≤ sq ∧ sq ≤ 31 ∧ kato = 0 :=
  ⟨0, 3, some 9, 1, 31, 0, {flags := 1}, { (sl { state := 1, conn := 0x1005, cap := { opcode := 0x7F, nsid := 1 } }).setConn 1 5 { state := 2, gen := 1 } with img := { active := some { hosts := [{ flags := 1 }] } }, cmd := { (sl { state := 1, conn := 0x1005, cap := { opcode := 0x7F, nsid := 1 } }).cmd with nqnMac := some 9 } }, by decide⟩

theorem test_meets_fabricsDisconnect : ∃ (d : Cd) (k : Fin 32768) (s : State), s.cdUp (cdId d) = true ∧ ((s.slot (cdId d) k.val).state = 1 || (s.slot (cdId d) k.val).state = 2) = true ∧ (s.slot (cdId d) k.val).waiters = [] ∧ (s.slot (cdId d) k.val).cap.opcode = 0x7F ∧ (s.slot (cdId d) k.val).cap.nsid % 256 = 8 ∧ (s.conn (cdId d) (connIdx (s.slot (cdId d) k.val).conn)).state = 2 :=
  ⟨0, 3, (sl { state := 1, conn := 0x1005, cap := { opcode := 0x7F, nsid := 8 } }).setConn 1 5 { state := 2, gen := 1 }, by decide⟩

theorem test_meets_propertyGet : ∃ (d : Cd) (k : Fin 32768) (s : State), s.cdUp (cdId d) = true ∧ ((s.slot (cdId d) k.val).state = 1 || (s.slot (cdId d) k.val).state = 2) = true ∧ (s.slot (cdId d) k.val).waiters = [] ∧ (s.slot (cdId d) k.val).cap.opcode = 0x7F ∧ (s.slot (cdId d) k.val).cap.nsid % 256 = 4 :=
  ⟨0, 3, (sl { state := 1, conn := 0x1005, host := 2, cap := { opcode := 0x7F, nsid := 4, cdw11 := 8 } }).setCtrl 1 0x1002 { host := 2 }, by decide⟩

theorem test_meets_propertyGet_alt1 : ∃ (d : Cd) (k : Fin 32768) (s : State), s.cdUp (cdId d) = true ∧ ((s.slot (cdId d) k.val).state = 1 || (s.slot (cdId d) k.val).state = 2) = true ∧ (s.slot (cdId d) k.val).waiters = [] ∧ (s.slot (cdId d) k.val).cap.opcode = 0x7F ∧ (s.slot (cdId d) k.val).cap.nsid % 256 = 4 ∧
    ((s.ctrl (cdId d) ((s.slot (cdId d) k.val).ctrl (cdId d))).bind (fun c => c.property (s.slot (cdId d) k.val).cap.cdw11) = none) :=
  ⟨0, 3, (sl { state := 1, conn := 0x1005, host := 2, cap := { opcode := 0x7F, nsid := 4, cdw11 := 0x99 } }).setCtrl 1 0x1002 { host := 2 }, by decide⟩

theorem test_meets_propertySet : ∃ (d : Cd) (k : Fin 32768) (c : Ctrl) (s : State), s.cdUp (cdId d) = true ∧ ((s.slot (cdId d) k.val).state = 1 || (s.slot (cdId d) k.val).state = 2) = true ∧ (s.slot (cdId d) k.val).waiters = [] ∧ (s.slot (cdId d) k.val).cap.opcode = 0x7F ∧ (s.slot (cdId d) k.val).cap.nsid % 256 = 0 ∧ s.ctrl (cdId d) ((s.slot (cdId d) k.val).ctrl (cdId d)) = some c ∧ (s.slot (cdId d) k.val).cap.cdw11 = 0x14 :=
  ⟨0, 3, { host := 2 }, (sl { state := 1, conn := 0x1005, host := 2, cap := { opcode := 0x7F, nsid := 0, cdw11 := 0x14 } }).setCtrl 1 0x1002 { host := 2 }, by decide⟩

theorem test_meets_controllerShutdownComplete : ∃ (d : Cd) (h : Fin 1024) (c : Ctrl) (s : State), s.cdUp (cdId d) = true ∧ s.modeNow ≠ 0xB ∧
    s.ctrl (cdId d) (ctrlId (cdId d) h.val) = some c ∧ c.shst = 1 ∧
    (s.cd (cdId d)).slots.any (fun y => y.2.host = h.val && decide (1 ≤ y.2.state) && decide (y.2.state ≤ 4) && !c.aers.contains y.1) = false :=
  ⟨0, 2, { host := 2, shst := 1 }, up.setCtrl 1 0x1002 { host := 2, shst := 1 }, by decide⟩

theorem test_meets_resumeOpen : ∃ (d : Cd) (k : Fin 32768) (s : State), s.cdUp (cdId d) = true ∧ ((s.slot (cdId d) k.val).state = 1 || (s.slot (cdId d) k.val).state = 2) = true ∧ (s.slot (cdId d) k.val).waiters = [] ∧ (s.slot (cdId d) k.val).cap.opcode = 0x7F ∧ (s.slot (cdId d) k.val).cap.nsid % 256 = 0xC0 ∧
    (s.img.active.getD {}).hosts.any (fun h => h.id = (s.slot (cdId d) k.val).host && h.flags.testBit 1) = true ∧ (s.queueOf (cdId d) (s.slot (cdId d) k.val).conn).any (fun q => q.qid ≠ 0) = true :=
  ⟨0, 3, { (State.setCd (sl { state := 1, conn := 0x1005, cap := { opcode := 0x7F, nsid := 0xC0 } }) 1 { (sl { state := 1, conn := 0x1005, cap := { opcode := 0x7F, nsid := 0xC0 } }).cd 1 with queues := [⟨0x1005, 0, 1, 31, 0⟩] }) with img := { active := some { hosts := [{ flags := 2 }] } } }, by decide⟩

theorem test_meets_resume : ∃ (d : Cd) (k : Fin 32768) (s : State), s.cdUp (cdId d) = true ∧ ((s.slot (cdId d) k.val).state = 1 || (s.slot (cdId d) k.val).state = 2) = true ∧ (s.slot (cdId d) k.val).waiters = [] ∧ (s.slot (cdId d) k.val).cap.opcode = 0x7F ∧ (s.slot (cdId d) k.val).cap.nsid % 256 = 0xC1 :=
  ⟨0, 3, sl { state := 1, conn := 0x1005, host := 2, cap := { opcode := 0x7F, nsid := 0xC1 } }, by decide⟩

theorem test_meets_ioFlush : ∃ (d : Cd) (k : Fin 32768) (s : State), s.cdUp (cdId d) = true ∧ ((s.slot (cdId d) k.val).state = 1 || (s.slot (cdId d) k.val).state = 2) = true ∧ (s.slot (cdId d) k.val).waiters = [] ∧ (s.slot (cdId d) k.val).cap.opcode = 0 ∧ (s.slot (cdId d) k.val).admin = false :=
  ⟨0, 3, sl { state := 1, cap := { opcode := 0 } }, by decide⟩

theorem test_meets_ioFlush_alt1 : ∃ (d : Cd) (k : Fin 32768) (s : State), s.cdUp (cdId d) = true ∧ ((s.slot (cdId d) k.val).state = 1 || (s.slot (cdId d) k.val).state = 2) = true ∧ (s.slot (cdId d) k.val).waiters = [] ∧ (s.slot (cdId d) k.val).cap.opcode = 0 ∧ (s.slot (cdId d) k.val).admin = false ∧
    (s.flushBlocked (cdId d) k.val = true) :=
  ⟨0, 3, (sl { state := 1, conn := 0x1005, order := 9, cap := { opcode := 0 } }).setSlot 1 4 { state := 3, conn := 0x1005, order := 2, cap := { opcode := 1 } }, by decide⟩

theorem test_meets_flushConditionMet : ∃ (d : Cd) (k : Fin 32768) (s : State), s.cdUp (cdId d) = true ∧ s.modeNow ≠ 0xB ∧
    (s.slot (cdId d) k.val).state = 3 ∧ (s.slot (cdId d) k.val).cap.opcode = 0 ∧ (s.slot (cdId d) k.val).waiters = [] ∧ s.flushBlocked (cdId d) k.val = false :=
  ⟨0, 3, sl { state := 3, cap := { opcode := 0 } }, by decide⟩

theorem test_meets_ioWrite : ∃ (d : Cd) (k : Fin 32768) (s : State), s.cdUp (cdId d) = true ∧ ((s.slot (cdId d) k.val).state = 1 || (s.slot (cdId d) k.val).state = 2) = true ∧ (s.slot (cdId d) k.val).waiters = [] ∧ (s.slot (cdId d) k.val).cap.opcode = 1 ∧ (s.slot (cdId d) k.val).admin = false ∧ s.ep.cmds.any (fun c => c.st = 3) = false :=
  ⟨0, 3, sl { state := 1, cap := { opcode := 1 } }, by decide⟩

theorem test_meets_spongeSpaceReserved : ∃ (d : Cd) (k : Fin 32768) (s : State), s.cdUp (cdId d) = true ∧ s.modeNow ≠ 0xB ∧
    (s.slot (cdId d) k.val).state = 3 ∧ (s.slot (cdId d) k.val).cap.opcode = 1 ∧ (s.slot (cdId d) k.val).taken = false ∧ s.ep.cmds.any (fun c => c.st = 3) = false ∧ s.r (cdId d) (.arb .FREEZE_mask) % 4 = 2 ∧
    s.spaceQueueAhead (cdId d) k.val = false ∧ ¬ (s.sp (cdId d)).freeSlots < (s.slot (cdId d) k.val).nlb ∧ ¬ s.ceiling (cdId d) < (s.sp (cdId d)).dirtyCount + (s.slot (cdId d) k.val).nlb ∧
    (List.range (s.slot (cdId d) k.val).nlb).any (fun i => (s.lookup (cdId d) (s.slot (cdId d) k.val).cap.nsid ((s.slot (cdId d) k.val).slba + i)).isNone && (s.bucketFor (cdId d) (s.slot (cdId d) k.val).cap.nsid ((s.slot (cdId d) k.val).slba + i)).isNone) = false :=
  ⟨0, 3, (sl { state := 3, cap := { opcode := 1 } }).w 1 (.arb .FREEZE_mask) 2, by decide⟩

theorem test_meets_writeCommit : ∃ (d : Cd) (k : Fin 32768) (s : State), s.cdUp (cdId d) = true ∧ s.modeNow ≠ 0xB ∧
    (s.slot (cdId d) k.val).state = 3 ∧ (s.slot (cdId d) k.val).cap.opcode = 1 ∧ (s.slot (cdId d) k.val).taken = true ∧ (s.slot (cdId d) k.val).waiters = [] ∧ s.ep.cmds.any (fun c => c.st = 3) = false ∧ DataFrozen (s.purgeRanges (cdId d)) (cdId d) = false ∧
    (s.purgeRanges (cdId d)).regionsDurable (cdId d) ((s.purgeRanges (cdId d)).nsGroup (s.slot (cdId d) k.val).cap.nsid) ((s.purgeRanges (cdId d)).cmdRegions (cdId d) k.val) = true ∧
    (s.purgeRanges (cdId d)).crumbRoom (cdId d) 1 = true :=
  ⟨0, 3, (sl { state := 3, taken := true, cap := { opcode := 1 } }).setGrp 1 0 { durable := [0] }, by decide⟩

theorem test_meets_ioWriteZeroes : ∃ (d : Cd) (k : Fin 32768) (s : State), s.cdUp (cdId d) = true ∧ ((s.slot (cdId d) k.val).state = 1 || (s.slot (cdId d) k.val).state = 2) = true ∧ (s.slot (cdId d) k.val).waiters = [] ∧ (s.slot (cdId d) k.val).cap.opcode = 8 ∧ (s.slot (cdId d) k.val).admin = false ∧ s.r (cdId d) (.arb .FREEZE_mask) % 4 = 2 :=
  ⟨0, 3, (sl { state := 1, cap := { opcode := 8 } }).w 1 (.arb .FREEZE_mask) 2, by decide⟩

theorem test_meets_ioDatasetManagement : ∃ (d : Cd) (k : Fin 32768) (s : State), s.cdUp (cdId d) = true ∧ ((s.slot (cdId d) k.val).state = 1 || (s.slot (cdId d) k.val).state = 2) = true ∧ (s.slot (cdId d) k.val).waiters = [] ∧ (s.slot (cdId d) k.val).cap.opcode = 9 ∧ (s.slot (cdId d) k.val).admin = false ∧
    ((s.slot (cdId d) k.val).cap.cdw11.testBit 2 && (s.slot (cdId d) k.val).ranges.any (fun r => r.2 ≠ 0)) = false :=
  ⟨0, 3, sl { state := 1, cap := { opcode := 9 } }, by decide⟩

theorem test_meets_ioRead : ∃ (d : Cd) (k : Fin 32768) (s : State), s.cdUp (cdId d) = true ∧ ((s.slot (cdId d) k.val).state = 1 || (s.slot (cdId d) k.val).state = 2) = true ∧ (s.slot (cdId d) k.val).waiters = [] ∧ (s.slot (cdId d) k.val).cap.opcode = 2 ∧ (s.slot (cdId d) k.val).admin = false ∧ (s.slot (cdId d) k.val).state = 1 :=
  ⟨0, 3, sl { state := 1, cap := { opcode := 2 } }, by decide⟩

theorem test_meets_ioRead_alt1 : ∃ (d : Cd) (k : Fin 32768) (s : State), s.cdUp (cdId d) = true ∧ ((s.slot (cdId d) k.val).state = 1 || (s.slot (cdId d) k.val).state = 2) = true ∧ (s.slot (cdId d) k.val).waiters = [] ∧ (s.slot (cdId d) k.val).cap.opcode = 2 ∧ (s.slot (cdId d) k.val).admin = false ∧ (s.slot (cdId d) k.val).state = 1 ∧
    (s.readBlocked (cdId d) k.val = true) :=
  ⟨0, 3, (sl { state := 1, conn := 0x1005, e := 9, slba := 5, nlb := 1, cap := { opcode := 2, nsid := 1 } }).setSlot 1 4 { state := 2, conn := 0x1005, e := 2, slba := 5, nlb := 1, cap := { opcode := 1, nsid := 1 } }, by decide⟩

theorem test_meets_ioRead_alt2 : ∃ (d : Cd) (k : Fin 32768) (l : List Nat) (s : State), s.cdUp (cdId d) = true ∧ ((s.slot (cdId d) k.val).state = 1 || (s.slot (cdId d) k.val).state = 2) = true ∧ (s.slot (cdId d) k.val).waiters = [] ∧ (s.slot (cdId d) k.val).cap.opcode = 2 ∧ (s.slot (cdId d) k.val).admin = false ∧ (s.slot (cdId d) k.val).state = 1 ∧
    (l = []) ∧ (s.readBlocked (cdId d) k.val = false) ∧ ((s.unmirroredFor (cdId d) k.val).isEmpty = false) :=
  ⟨0, 3, [], State.setSlot { pr 5 [(7, .pair .STATUS_mirror, 1, 0)] with spg := { dies := [(1, { index := [{ nsid := 1, lba := 5, slot := 9, seq := 3 }], ring := [{ c := { kind := 1, seq := 3 }, placed := false }] })] } } 1 3 { state := 1, slba := 5, nlb := 1, cap := { opcode := 2, nsid := 1 } }, by decide⟩

theorem test_meets_ioRead_alt3 : ∃ (d : Cd) (k : Fin 32768) (l : List Nat) (s : State), s.cdUp (cdId d) = true ∧ ((s.slot (cdId d) k.val).state = 1 || (s.slot (cdId d) k.val).state = 2) = true ∧ (s.slot (cdId d) k.val).waiters = [] ∧ (s.slot (cdId d) k.val).cap.opcode = 2 ∧ (s.slot (cdId d) k.val).admin = false ∧ (s.slot (cdId d) k.val).state = 1 ∧
    ((l = []) ∧ (s.readBlocked (cdId d) k.val = false) ∧ (s.unmirroredFor (cdId d) k.val = []) ∧ (¬ 131072 < ((s.cd (cdId d)).slots.map (fun y => if y.2.cap.opcode = 2 && y.2.state = 3 then y.2.blocks.length else 0)).foldl (· + ·) 0 + (s.slot (cdId d) k.val).nlb) ∧ (s.crumbRoom (cdId d) 4 = true) ∧ (s.deferHit (cdId d) (s.slot (cdId d) k.val).cap.nsid (s.slot (cdId d) k.val).slba (s.slot (cdId d) k.val).nlb = none) ∧ (0 < (s.slot (cdId d) k.val).nlb) ∧ (∀ i, i < (s.slot (cdId d) k.val).nlb → (s.held (cdId d) (s.slot (cdId d) k.val).cap.nsid ((s.slot (cdId d) k.val).slba + i)).isSome = true ∧ (s.lookup (cdId d) (s.slot (cdId d) k.val).cap.nsid ((s.slot (cdId d) k.val).slba + i)).any (·.poisoned) = false)) :=
  ⟨0, 3, [], State.setSlot { inMode 5 with spg := { dies := [(1, { index := [{ nsid := 1, lba := 5, slot := 9, seq := 3 }] })] } } 1 3 { state := 1, slba := 5, nlb := 1, cap := { opcode := 2, nsid := 1 } }, by decide⟩

theorem test_meets_readWaitEnd : ∃ (d : Cd) (k : Fin 32768) (l : Nat) (s : State), s.cdUp (cdId d) = true ∧ s.modeNow ≠ 0xB ∧
    (s.slot (cdId d) k.val).cap.opcode = 2 ∧ (s.slot (cdId d) k.val).state = 2 ∧ (s.slot (cdId d) k.val).waiters = [] ∧ s.readBlocked (cdId d) k.val = false ∧ s.unmirroredFor (cdId d) k.val = [] ∧
    ¬ 131072 < ((s.cd (cdId d)).slots.map (fun y => if y.2.cap.opcode = 2 && y.2.state = 3 then y.2.blocks.length else 0)).foldl (· + ·) 0 + (s.slot (cdId d) k.val).nlb ∧
    s.crumbRoom (cdId d) 4 = true ∧ s.deferHit (cdId d) (s.slot (cdId d) k.val).cap.nsid (s.slot (cdId d) k.val).slba (s.slot (cdId d) k.val).nlb = some l :=
  ⟨0, 3, 6, State.setCd (sl { state := 2, slba := 6, nlb := 1, cap := { opcode := 2, nsid := 1, cdw10 := 6 } }) 1 { (sl { state := 2, slba := 6, nlb := 1, cap := { opcode := 2, nsid := 1, cdw10 := 6 } }).cd 1 with defer := [{ nsid := 1, cause := 1, slba := 6, nlb := 1 }] }, by decide⟩

theorem test_meets_readAssembled : ∃ (d : Cd) (k : Fin 32768) (s : State), s.cdUp (cdId d) = true ∧ s.modeNow ≠ 0xB ∧
    (s.slot (cdId d) k.val).assembled = true ∧ (s.slot (cdId d) k.val).waiters = [] ∧ (s.chain (cdId d) k.val).hdr.kind0 = 1 ∧ (s.chain (cdId d) k.val).state = 1 ∧ (s.chain (cdId d) k.val).got0 = false ∧
    (s.chain (cdId d) k.val).hdr.armCount = 2 ∧ (s.chain (cdId d) k.val).got1 = false ∧ (s.chain (cdId d) k.val).hdr.key0 = (s.slot (cdId d) k.val).seqs.headD 0 :=
  ⟨0, 3, (sl { state := 3, seqs := [7], blocks := [(0, some 5)], cap := { opcode := 2 } }).setChain 1 3 { state := 1, hdr := { armCount := 2, kind0 := 1, key0 := 7, kind1 := 2 } }, by decide⟩

theorem test_meets_abortCidWrite : ∃ (d : Cd) (s : State), s.cdUp (cdId d) = true ∧ s.modeNow ≠ 0xB :=
  ⟨0, up, by decide⟩

theorem test_meets_adminAbort : ∃ (d : Cd) (k : Fin 32768) (s : State), s.cdUp (cdId d) = true ∧ ((s.slot (cdId d) k.val).state = 1 || (s.slot (cdId d) k.val).state = 2) = true ∧ (s.slot (cdId d) k.val).waiters = [] ∧ (s.slot (cdId d) k.val).cap.opcode = 8 ∧ (s.slot (cdId d) k.val).admin = true ∧
    (s.cd (cdId d)).queues.find? (fun q => q.host = (s.slot (cdId d) k.val).host && q.qid = (s.slot (cdId d) k.val).cap.cdw10 % 65536 && isEp q.conn = isEp (s.slot (cdId d) k.val).conn && (!isEp (s.slot (cdId d) k.val).conn || epFn q.conn = epFn (s.slot (cdId d) k.val).conn)) = none :=
  ⟨0, 3, sl { state := 1, admin := true, cap := { opcode := 8 } }, by decide⟩

theorem test_meets_abortCancelAcknowledged : ∃ (d : Cd) (k : Fin 32768) (a : AbortWait) (s : State), s.cdUp (cdId d) = true ∧ s.modeNow ≠ 0xB ∧
    (s.cd (cdId d)).aborts.find? (fun a => a.adminSlot = k.val) = some a ∧ (s.ringCrumb (cdId d) a.seq).all (fun r => r.placed) = true ∧ (s.slot (cdId d) k.val).waiters = [] :=
  ⟨0, 3, ⟨3, 9⟩, State.setCd up 1 { aborts := [⟨3, 9⟩] }, by decide⟩

theorem test_meets_cmdGateWrite : ∃ (d : Cd) (s : State), s.cdUp (cdId d) = true ∧ s.modeNow ≠ 0xB :=
  ⟨0, up, by decide⟩

theorem test_meets_cmdGateWrite_alt1 : ∃ (d : Cd) (v : BitVec 2) (s : State), s.cdUp (cdId d) = true ∧ s.modeNow ≠ 0xB ∧
    (s.r (cdId d) (.cmd .GATE_refuse) = 2) ∧ (v.toNat ≠ 2) :=
  ⟨0, 1, with_ [(1, .cmd .GATE_refuse, 2, 0)], by decide⟩

theorem test_meets_replayFloorWrite : ∃ (d : Cd) (s : State), s.cdUp (cdId d) = true ∧ s.modeNow ≠ 0xB ∧
    s.r (cdId d) (.cmd .REPLAY_FLOOR) < 2 ^ 64 ∧ (s.cd (cdId d)).floorLo < 2 ^ 32 :=
  ⟨0, up, by decide⟩

theorem test_meets_orphanHoldExpiry : ∃ (d : Cd) (k : Fin 32768) (s : State), s.cdUp (cdId d) = true ∧ s.modeNow ≠ 0xB ∧
    (s.slot (cdId d) k.val).state = 6 ∧ (s.cd (cdId d)).tokens.any (fun x => x.conn = (s.slot (cdId d) k.val).conn && x.holdFrom.isSome && !x.used) = false :=
  ⟨0, 3, sl { state := 6, orphanAt := some 4, holdNs := 6 }, by decide⟩

theorem test_meets_resumeHoldExpiry : ∃ (d : Cd) (conn : BitVec 24) (x : Token) (s : State), s.cdUp (cdId d) = true ∧ s.modeNow ≠ 0xB ∧
    (s.cd (cdId d)).tokens.find? (fun x => x.conn = conn.toNat && x.holdFrom.isSome) = some x :=
  ⟨0, 0x1005, { conn := 0x1005, host := 0, check := 0, holdFrom := some 5 }, State.setCd up 1 { tokens := [{ conn := 0x1005, host := 0, check := 0, holdFrom := some 5 }] }, by decide⟩

theorem test_meets_takeoverFilterExpiry : ∃ (d : Cd) (at_ : Nat) (s : State), s.cdUp (cdId d) = true ∧ s.modeNow ≠ 0xB ∧
    (s.cd (cdId d)).filterUntil = some at_ :=
  ⟨0, 7, State.setCd up 1 { filterUntil := some 7 }, by decide⟩

theorem test_meets_cmdSnapshot : ∃ (d : Cd) (s : State), s.cdUp (cdId d) = true :=
  ⟨0, up, by decide⟩

theorem test_meets_keepAlive : ∃ (d : Cd) (k : Fin 32768) (c : Ctrl) (s : State), s.cdUp (cdId d) = true ∧ ((s.slot (cdId d) k.val).state = 1 || (s.slot (cdId d) k.val).state = 2) = true ∧ (s.slot (cdId d) k.val).waiters = [] ∧ (s.slot (cdId d) k.val).cap.opcode = 0x18 ∧ (s.slot (cdId d) k.val).admin = true ∧ s.ctrl (cdId d) ((s.slot (cdId d) k.val).ctrl (cdId d)) = some c :=
  ⟨0, 3, { host := 2 }, (sl { state := 1, conn := 0x1005, host := 2, admin := true, cap := { opcode := 0x18 } }).setCtrl 1 0x1002 { host := 2 }, by decide⟩

theorem test_meets_keepAliveTimeout : ∃ (d : Cd) (h : Fin 1024) (c : Ctrl) (s : State), s.cdUp (cdId d) = true ∧ s.modeNow ≠ 0xB ∧
    s.ctrl (cdId d) (ctrlId (cdId d) h.val) = some c ∧ c.kato ≠ 0 :=
  ⟨0, 2, { host := 2, kato := 1000 }, up.setCtrl 1 0x1002 { host := 2, kato := 1000 }, by decide⟩

theorem test_meets_identify : ∃ (d : Cd) (k : Fin 32768) (s : State), s.cdUp (cdId d) = true ∧ ((s.slot (cdId d) k.val).state = 1 || (s.slot (cdId d) k.val).state = 2) = true ∧ (s.slot (cdId d) k.val).waiters = [] ∧ (s.slot (cdId d) k.val).cap.opcode = 6 ∧ (s.slot (cdId d) k.val).admin = true :=
  ⟨0, 3, sl { state := 1, conn := 0x1005, host := 2, admin := true, cap := { opcode := 6, cdw10 := 1 } }, by decide⟩

theorem test_meets_identify_alt1 : ∃ (d : Cd) (k : Fin 32768) (s : State), s.cdUp (cdId d) = true ∧ ((s.slot (cdId d) k.val).state = 1 || (s.slot (cdId d) k.val).state = 2) = true ∧ (s.slot (cdId d) k.val).waiters = [] ∧ (s.slot (cdId d) k.val).cap.opcode = 6 ∧ (s.slot (cdId d) k.val).admin = true ∧
    ((s.slot (cdId d) k.val).cap.cdw10 % 256 = 0) :=
  ⟨0, 3, sl { state := 1, conn := 0x1005, host := 2, admin := true, cap := { opcode := 6, cdw10 := 0 } }, by decide⟩

theorem test_meets_identify_alt2 : ∃ (d : Cd) (k : Fin 32768) (s : State), s.cdUp (cdId d) = true ∧ ((s.slot (cdId d) k.val).state = 1 || (s.slot (cdId d) k.val).state = 2) = true ∧ (s.slot (cdId d) k.val).waiters = [] ∧ (s.slot (cdId d) k.val).cap.opcode = 6 ∧ (s.slot (cdId d) k.val).admin = true ∧
    ((s.slot (cdId d) k.val).cap.cdw10 % 256 = 4) :=
  ⟨0, 3, sl { state := 1, conn := 0x1005, host := 2, admin := true, cap := { opcode := 6, cdw10 := 4 } }, by decide⟩

theorem test_meets_getLogPage : ∃ (d : Cd) (k : Fin 32768) (c : Ctrl) (s : State), s.cdUp (cdId d) = true ∧ ((s.slot (cdId d) k.val).state = 1 || (s.slot (cdId d) k.val).state = 2) = true ∧ (s.slot (cdId d) k.val).waiters = [] ∧ (s.slot (cdId d) k.val).cap.opcode = 2 ∧ (s.slot (cdId d) k.val).admin = true ∧ s.ctrl (cdId d) ((s.slot (cdId d) k.val).ctrl (cdId d)) = some c :=
  ⟨0, 3, { host := 2, changedNs := [1] }, (sl { state := 1, conn := 0x1005, host := 2, admin := true, cap := { opcode := 2, cdw10 := 4 } }).setCtrl 1 0x1002 { host := 2, changedNs := [1] }, by decide⟩

theorem test_meets_getLogPage_alt1 : ∃ (d : Cd) (k : Fin 32768) (c : Ctrl) (s : State), s.cdUp (cdId d) = true ∧ ((s.slot (cdId d) k.val).state = 1 || (s.slot (cdId d) k.val).state = 2) = true ∧ (s.slot (cdId d) k.val).waiters = [] ∧ (s.slot (cdId d) k.val).cap.opcode = 2 ∧ (s.slot (cdId d) k.val).admin = true ∧ s.ctrl (cdId d) ((s.slot (cdId d) k.val).ctrl (cdId d)) = some c ∧
    ((s.slot (cdId d) k.val).cap.cdw10 % 256 = 0x0C) :=
  ⟨0, 3, { host := 2 }, (sl { state := 1, conn := 0x1005, host := 2, admin := true, cap := { opcode := 2, cdw10 := 0x0C } }).setCtrl 1 0x1002 { host := 2 }, by decide⟩

theorem test_meets_getLogPage_alt2 : ∃ (d : Cd) (k : Fin 32768) (c : Ctrl) (s : State), s.cdUp (cdId d) = true ∧ ((s.slot (cdId d) k.val).state = 1 || (s.slot (cdId d) k.val).state = 2) = true ∧ (s.slot (cdId d) k.val).waiters = [] ∧ (s.slot (cdId d) k.val).cap.opcode = 2 ∧ (s.slot (cdId d) k.val).admin = true ∧ s.ctrl (cdId d) ((s.slot (cdId d) k.val).ctrl (cdId d)) = some c ∧
    ((s.slot (cdId d) k.val).cap.cdw10 % 256 = 0x77) :=
  ⟨0, 3, { host := 2 }, (sl { state := 1, conn := 0x1005, host := 2, admin := true, cap := { opcode := 2, cdw10 := 0x77 } }).setCtrl 1 0x1002 { host := 2 }, by decide⟩

theorem test_meets_setFeatures : ∃ (d : Cd) (k : Fin 32768) (c : Ctrl) (s : State), s.cdUp (cdId d) = true ∧ ((s.slot (cdId d) k.val).state = 1 || (s.slot (cdId d) k.val).state = 2) = true ∧ (s.slot (cdId d) k.val).waiters = [] ∧ (s.slot (cdId d) k.val).cap.opcode = 9 ∧ (s.slot (cdId d) k.val).admin = true ∧ s.ctrl (cdId d) ((s.slot (cdId d) k.val).ctrl (cdId d)) = some c :=
  ⟨0, 3, { host := 2 }, (sl { state := 1, conn := 0x1005, host := 2, admin := true, cap := { opcode := 9, cdw10 := 0x0F, cdw11 := 1000 } }).setCtrl 1 0x1002 { host := 2 }, by decide⟩

theorem test_meets_setFeatures_alt1 : ∃ (d : Cd) (k : Fin 32768) (c : Ctrl) (s : State), s.cdUp (cdId d) = true ∧ ((s.slot (cdId d) k.val).state = 1 || (s.slot (cdId d) k.val).state = 2) = true ∧ (s.slot (cdId d) k.val).waiters = [] ∧ (s.slot (cdId d) k.val).cap.opcode = 9 ∧ (s.slot (cdId d) k.val).admin = true ∧ s.ctrl (cdId d) ((s.slot (cdId d) k.val).ctrl (cdId d)) = some c ∧
    ((s.slot (cdId d) k.val).cap.cdw10 % 256 = 0x0F) ∧ (0 < (s.slot (cdId d) k.val).cap.cdw11) ∧ ((s.slot (cdId d) k.val).cap.cdw11 < 1000) :=
  ⟨0, 3, { host := 2 }, (sl { state := 1, conn := 0x1005, host := 2, admin := true, cap := { opcode := 9, cdw10 := 0x0F, cdw11 := 999 } }).setCtrl 1 0x1002 { host := 2 }, by decide⟩

theorem test_meets_setFeatures_alt2 : ∃ (d : Cd) (k : Fin 32768) (c : Ctrl) (s : State), s.cdUp (cdId d) = true ∧ ((s.slot (cdId d) k.val).state = 1 || (s.slot (cdId d) k.val).state = 2) = true ∧ (s.slot (cdId d) k.val).waiters = [] ∧ (s.slot (cdId d) k.val).cap.opcode = 9 ∧ (s.slot (cdId d) k.val).admin = true ∧ s.ctrl (cdId d) ((s.slot (cdId d) k.val).ctrl (cdId d)) = some c ∧
    ((s.slot (cdId d) k.val).cap.cdw10 % 256 = 0x0B) :=
  ⟨0, 3, { host := 2 }, (sl { state := 1, conn := 0x1005, host := 2, admin := true, cap := { opcode := 9, cdw10 := 0x0B, cdw11 := 5 } }).setCtrl 1 0x1002 { host := 2 }, by decide⟩

theorem test_meets_getFeatures : ∃ (d : Cd) (k : Fin 32768) (c : Ctrl) (s : State), s.cdUp (cdId d) = true ∧ ((s.slot (cdId d) k.val).state = 1 || (s.slot (cdId d) k.val).state = 2) = true ∧ (s.slot (cdId d) k.val).waiters = [] ∧ (s.slot (cdId d) k.val).cap.opcode = 0x0A ∧ (s.slot (cdId d) k.val).admin = true ∧ s.ctrl (cdId d) ((s.slot (cdId d) k.val).ctrl (cdId d)) = some c :=
  ⟨0, 3, { host := 2 }, (sl { state := 1, conn := 0x1005, host := 2, admin := true, cap := { opcode := 0x0A, cdw10 := 7 } }).setCtrl 1 0x1002 { host := 2 }, by decide⟩

theorem test_meets_getFeatures_alt1 : ∃ (d : Cd) (k : Fin 32768) (c : Ctrl) (s : State), s.cdUp (cdId d) = true ∧ ((s.slot (cdId d) k.val).state = 1 || (s.slot (cdId d) k.val).state = 2) = true ∧ (s.slot (cdId d) k.val).waiters = [] ∧ (s.slot (cdId d) k.val).cap.opcode = 0x0A ∧ (s.slot (cdId d) k.val).admin = true ∧ s.ctrl (cdId d) ((s.slot (cdId d) k.val).ctrl (cdId d)) = some c ∧
    ((s.slot (cdId d) k.val).cap.cdw10 % 256 = 0x0F) :=
  ⟨0, 3, { host := 2 }, (sl { state := 1, conn := 0x1005, host := 2, admin := true, cap := { opcode := 0x0A, cdw10 := 0x0F } }).setCtrl 1 0x1002 { host := 2 }, by decide⟩

theorem test_meets_getFeatures_alt2 : ∃ (d : Cd) (k : Fin 32768) (c : Ctrl) (s : State), s.cdUp (cdId d) = true ∧ ((s.slot (cdId d) k.val).state = 1 || (s.slot (cdId d) k.val).state = 2) = true ∧ (s.slot (cdId d) k.val).waiters = [] ∧ (s.slot (cdId d) k.val).cap.opcode = 0x0A ∧ (s.slot (cdId d) k.val).admin = true ∧ s.ctrl (cdId d) ((s.slot (cdId d) k.val).ctrl (cdId d)) = some c ∧
    ((s.slot (cdId d) k.val).cap.cdw10 % 256 = 0x0B) :=
  ⟨0, 3, { host := 2 }, (sl { state := 1, conn := 0x1005, host := 2, admin := true, cap := { opcode := 0x0A, cdw10 := 0x0B } }).setCtrl 1 0x1002 { host := 2 }, by decide⟩

theorem test_meets_asyncEventRequest : ∃ (d : Cd) (k : Fin 32768) (c : Ctrl) (s : State), s.cdUp (cdId d) = true ∧ ((s.slot (cdId d) k.val).state = 1 || (s.slot (cdId d) k.val).state = 2) = true ∧ (s.slot (cdId d) k.val).waiters = [] ∧ (s.slot (cdId d) k.val).cap.opcode = 0x0C ∧ (s.slot (cdId d) k.val).admin = true ∧ s.ctrl (cdId d) ((s.slot (cdId d) k.val).ctrl (cdId d)) = some c ∧ c.aers.contains k.val = false :=
  ⟨0, 3, { host := 2 }, (sl { state := 1, conn := 0x1005, host := 2, admin := true, cap := { opcode := 0x0C } }).setCtrl 1 0x1002 { host := 2 }, by decide⟩

theorem test_meets_asyncEventRequest_alt1 : ∃ (d : Cd) (k : Fin 32768) (c : Ctrl) (s : State), s.cdUp (cdId d) = true ∧ ((s.slot (cdId d) k.val).state = 1 || (s.slot (cdId d) k.val).state = 2) = true ∧ (s.slot (cdId d) k.val).waiters = [] ∧ (s.slot (cdId d) k.val).cap.opcode = 0x0C ∧ (s.slot (cdId d) k.val).admin = true ∧ s.ctrl (cdId d) ((s.slot (cdId d) k.val).ctrl (cdId d)) = some c ∧ c.aers.contains k.val = false ∧
    (c.events = []) ∧ (16 ≤ c.aers.length) :=
  ⟨0, 3, { host := 2, aers := List.range' 8 16 }, (sl { state := 1, conn := 0x1005, host := 2, admin := true, cap := { opcode := 0x0C } }).setCtrl 1 0x1002 { host := 2, aers := List.range' 8 16 }, by decide⟩

theorem test_meets_asyncEventRequest_alt2 : ∃ (d : Cd) (k : Fin 32768) (c : Ctrl) (s : State), s.cdUp (cdId d) = true ∧ ((s.slot (cdId d) k.val).state = 1 || (s.slot (cdId d) k.val).state = 2) = true ∧ (s.slot (cdId d) k.val).waiters = [] ∧ (s.slot (cdId d) k.val).cap.opcode = 0x0C ∧ (s.slot (cdId d) k.val).admin = true ∧ s.ctrl (cdId d) ((s.slot (cdId d) k.val).ctrl (cdId d)) = some c ∧ c.aers.contains k.val = false ∧
    (c.events ≠ []) :=
  ⟨0, 3, { host := 2, events := [⟨2, 3, 4⟩] }, (sl { state := 1, conn := 0x1005, host := 2, admin := true, cap := { opcode := 0x0C } }).setCtrl 1 0x1002 { host := 2, events := [⟨2, 3, 4⟩] }, by decide⟩

theorem test_meets_clearDeferredRange : ∃ (n : Nat) (e : NsEntry) (s : State), s.nsEntry n = some e :=
  ⟨1, {}, { up with img := { active := some { namespaces := [{}] } } }, by decide⟩

theorem test_meets_reservationRegister : ∃ (d : Cd) (k : Fin 32768) (s : State), s.cdUp (cdId d) = true ∧ ((s.slot (cdId d) k.val).state = 1 || (s.slot (cdId d) k.val).state = 2) = true ∧ (s.slot (cdId d) k.val).waiters = [] ∧ (s.slot (cdId d) k.val).cap.opcode = 0x0D ∧ (s.slot (cdId d) k.val).admin = false ∧ (s.cd (cdId d)).resvChange = [] ∧
    (s.cd (cdId d)).slots.any (fun z => z.1 ≠ k.val && z.2.cap.nsid = (s.slot (cdId d) k.val).cap.nsid && isResv z.2.cap.opcode && z.2.state = 2 && keyLater (s.slot (cdId d) k.val).e (s.slot (cdId d) k.val).conn (s.slot (cdId d) k.val).msn z.2.e z.2.conn z.2.msn) = false ∧
    (s.slot (cdId d) k.val).cap.cdw10 = 0 :=
  ⟨0, 3, sl { state := 1, conn := 0x1005, host := 2, cap := { opcode := 0x0D, nsid := 1, info := [0, 9] } }, by decide⟩

theorem test_meets_reservationReport : ∃ (d : Cd) (k : Fin 32768) (s : State), s.cdUp (cdId d) = true ∧ ((s.slot (cdId d) k.val).state = 1 || (s.slot (cdId d) k.val).state = 2) = true ∧ (s.slot (cdId d) k.val).waiters = [] ∧ (s.slot (cdId d) k.val).cap.opcode = 0x0E ∧ (s.slot (cdId d) k.val).admin = false ∧ (s.cd (cdId d)).resvChange = [] ∧
    (s.cd (cdId d)).slots.any (fun z => z.1 ≠ k.val && z.2.cap.nsid = (s.slot (cdId d) k.val).cap.nsid && isResv z.2.cap.opcode && z.2.state = 2 && keyLater (s.slot (cdId d) k.val).e (s.slot (cdId d) k.val).conn (s.slot (cdId d) k.val).msn z.2.e z.2.conn z.2.msn) = false :=
  ⟨0, 3, sl { state := 1, conn := 0x1005, host := 2, cap := { opcode := 0x0E, nsid := 1, cdw11 := 1 } }, by decide⟩

theorem test_meets_reservationAcquire : ∃ (d : Cd) (k : Fin 32768) (s : State), s.cdUp (cdId d) = true ∧ ((s.slot (cdId d) k.val).state = 1 || (s.slot (cdId d) k.val).state = 2) = true ∧ (s.slot (cdId d) k.val).waiters = [] ∧ (s.slot (cdId d) k.val).cap.opcode = 0x11 ∧ (s.slot (cdId d) k.val).admin = false ∧ (s.cd (cdId d)).resvChange = [] ∧
    (s.cd (cdId d)).slots.any (fun z => z.1 ≠ k.val && z.2.cap.nsid = (s.slot (cdId d) k.val).cap.nsid && isResv z.2.cap.opcode && z.2.state = 2 && keyLater (s.slot (cdId d) k.val).e (s.slot (cdId d) k.val).conn (s.slot (cdId d) k.val).msn z.2.e z.2.conn z.2.msn) = false ∧
    (s.slot (cdId d) k.val).cap.cdw10 = 256 :=
  ⟨0, 3, sl { state := 1, conn := 0x1005, host := 2, cap := { opcode := 0x11, nsid := 1, cdw10 := 256 } }, by decide⟩

theorem test_meets_reservationAcquire_alt1 : ∃ (d : Cd) (k : Fin 32768) (s : State), s.cdUp (cdId d) = true ∧ ((s.slot (cdId d) k.val).state = 1 || (s.slot (cdId d) k.val).state = 2) = true ∧ (s.slot (cdId d) k.val).waiters = [] ∧ (s.slot (cdId d) k.val).cap.opcode = 0x11 ∧ (s.slot (cdId d) k.val).admin = false ∧ (s.cd (cdId d)).resvChange = [] ∧
    (s.cd (cdId d)).slots.any (fun z => z.1 ≠ k.val && z.2.cap.nsid = (s.slot (cdId d) k.val).cap.nsid && isResv z.2.cap.opcode && z.2.state = 2 && keyLater (s.slot (cdId d) k.val).e (s.slot (cdId d) k.val).conn (s.slot (cdId d) k.val).msn z.2.e z.2.conn z.2.msn) = false ∧
    (s.slot (cdId d) k.val).cap.cdw10 = 256 ∧
    (alGet ((alGet (s.cd (cdId d)).resv (s.slot (cdId d) k.val).cap.nsid).getD {}).regs (s.slot (cdId d) k.val).host = some ((s.slot (cdId d) k.val).cap.info.getD 0 0)) ∧ (((alGet (s.cd (cdId d)).resv (s.slot (cdId d) k.val).cap.nsid).getD {}).rtype = 0) :=
  ⟨0, 3, (sl { state := 1, conn := 0x1005, host := 2, cap := { opcode := 0x11, nsid := 1, cdw10 := 256, info := [7] } }).setCd 1 { (sl { state := 1, conn := 0x1005, host := 2, cap := { opcode := 0x11, nsid := 1, cdw10 := 256, info := [7] } }).cd 1 with resv := [(1, { regs := [(2, 7)] })] }, by decide⟩

theorem test_meets_reservationRelease : ∃ (d : Cd) (k : Fin 32768) (s : State), s.cdUp (cdId d) = true ∧ ((s.slot (cdId d) k.val).state = 1 || (s.slot (cdId d) k.val).state = 2) = true ∧ (s.slot (cdId d) k.val).waiters = [] ∧ (s.slot (cdId d) k.val).cap.opcode = 0x15 ∧ (s.slot (cdId d) k.val).admin = false ∧ (s.cd (cdId d)).resvChange = [] ∧
    (s.cd (cdId d)).slots.any (fun z => z.1 ≠ k.val && z.2.cap.nsid = (s.slot (cdId d) k.val).cap.nsid && isResv z.2.cap.opcode && z.2.state = 2 && keyLater (s.slot (cdId d) k.val).e (s.slot (cdId d) k.val).conn (s.slot (cdId d) k.val).msn z.2.e z.2.conn z.2.msn) = false ∧
    (s.slot (cdId d) k.val).cap.cdw10 = 256 ∧ alGet ((alGet (s.cd (cdId d)).resv (s.slot (cdId d) k.val).cap.nsid).getD {}).regs (s.slot (cdId d) k.val).host = some ((s.slot (cdId d) k.val).cap.info.getD 0 0) ∧
    ((alGet (s.cd (cdId d)).resv (s.slot (cdId d) k.val).cap.nsid).getD {}).rtype = 1 ∧ ((alGet (s.cd (cdId d)).resv (s.slot (cdId d) k.val).cap.nsid).getD {}).holder = some (s.slot (cdId d) k.val).host :=
  ⟨0, 3, State.setCd (sl { state := 1, conn := 0x1005, host := 2, cap := { opcode := 0x15, nsid := 1, cdw10 := 256, info := [7] } }) 1 { (sl { state := 1, conn := 0x1005, host := 2, cap := { opcode := 0x15, nsid := 1, cdw10 := 256, info := [7] } }).cd 1 with resv := [(1, { rtype := 1, holder := some 2, regs := [(2, 7)] })] }, by decide⟩

theorem test_meets_reservationRecordWritten : ∃ (d : Cd) (n : Nat) (c : ResvChange) (s : State), s.cdUp (cdId d) = true ∧ s.modeNow ≠ 0xB ∧
    (s.cd (cdId d)).resvChange = [c] ∧ c.nsid = n ∧ s.drvQuiet (cdId d) { kind := 7, a := n, b := 1 } = true ∧ s.drvQuiet (cdId d) { kind := 7, a := n, b := 2 } = true ∧
    (!(s.drvResults (cdId d) { kind := 7, a := n, b := 1 }).isEmpty && !((s.grp_ (cdId d) (s.nsGroup n)).holders.drop 1).isEmpty) = false ∧ s.crumbRoom (cdId d) 5 = true :=
  ⟨0, 1, ⟨3, 1, { rtype := 1, holder := some 2, regs := [(2, 7)] }, 0, [], []⟩, State.setCd up 1 { resvChange := [⟨3, 1, { rtype := 1, holder := some 2, regs := [(2, 7)] }, 0, [], []⟩] }, by decide⟩

theorem test_meets_formatNvm : ∃ (d : Cd) (k : Fin 32768) (n : NsEntry) (s : State), s.cdUp (cdId d) = true ∧ ((s.slot (cdId d) k.val).state = 1 || (s.slot (cdId d) k.val).state = 2) = true ∧ (s.slot (cdId d) k.val).waiters = [] ∧ (s.slot (cdId d) k.val).cap.opcode = 0x80 ∧ (s.slot (cdId d) k.val).admin = true ∧ (s.slot (cdId d) k.val).cap.nsid ≠ 0xFFFFFFFF ∧ s.nsEntry (s.slot (cdId d) k.val).cap.nsid = some n ∧
    cdId n.channel = cdId d ∧ n.flags.testBit 0 = true ∧ s.privileged (s.slot (cdId d) k.val).host (s.slot (cdId d) k.val).cap.nsid = true ∧ (s.slot (cdId d) k.val).cap.cdw10 % 512 = 0 ∧ (s.slot (cdId d) k.val).cap.cdw10 / 512 % 8 ≤ 2 ∧
    (s.cd (cdId d)).sanitize = none ∧ alGet (s.cd (cdId d)).formats (s.slot (cdId d) k.val).cap.nsid = none :=
  ⟨0, 3, { flags := 1 }, { sl { state := 1, conn := 0x1005, host := 2, admin := true, cap := { opcode := 0x80, nsid := 1, cdw10 := 512 } } with img := { active := some { namespaces := [{ flags := 1 }], hosts := [{ id := 2, flags := 4 }], access := [{ host := 2, rights := 8 }] } } }, by decide⟩

theorem test_meets_formatDrainComplete : ∃ (d : Cd) (n : Nat) (p : Progress) (s : State), s.cdUp (cdId d) = true ∧ s.modeNow ≠ 0xB ∧
    alGet (s.cd (cdId d)).formats n = some p ∧ p.phase = 0 ∧ s.nsBusy (cdId d) n = false :=
  ⟨0, 1, { nsid := 1, action := 1, total := 9 }, State.setCd up 1 { formats := [(1, { nsid := 1, action := 1, total := 9 })] }, by decide⟩

theorem test_meets_sanitize : ∃ (d : Cd) (k : Fin 32768) (s : State), s.cdUp (cdId d) = true ∧ ((s.slot (cdId d) k.val).state = 1 || (s.slot (cdId d) k.val).state = 2) = true ∧ (s.slot (cdId d) k.val).waiters = [] ∧ (s.slot (cdId d) k.val).cap.opcode = 0x84 ∧ (s.slot (cdId d) k.val).admin = true :=
  ⟨0, 3, sl { state := 1, conn := 0x1005, host := 2, admin := true, cap := { opcode := 0x84, cdw10 := 2 } }, by decide⟩

theorem test_meets_sanitize_alt1 : ∃ (d : Cd) (k : Fin 32768) (s : State), s.cdUp (cdId d) = true ∧ ((s.slot (cdId d) k.val).state = 1 || (s.slot (cdId d) k.val).state = 2) = true ∧ (s.slot (cdId d) k.val).waiters = [] ∧ (s.slot (cdId d) k.val).cap.opcode = 0x84 ∧ (s.slot (cdId d) k.val).admin = true ∧
    ((s.slot (cdId d) k.val).cap.cdw10 % 8 = 3) :=
  ⟨0, 3, sl { state := 1, conn := 0x1005, host := 2, admin := true, cap := { opcode := 0x84, cdw10 := 3 } }, by decide⟩

theorem test_meets_zeroFillCheckpoint : ∃ (d : Cd) (n : Nat) (p : Progress) (s : State), s.cdUp (cdId d) = true ∧ s.modeNow ≠ 0xB ∧
    s.workRuns = true ∧ s.bgMay (cdId d) 2 = true ∧ alGet (s.cd (cdId d)).formats n = some p ∧ p.phase = 2 ∧ (s.nsEntry n).any (fun e => e.flags.testBit 0) = true :=
  ⟨0, 1, { nsid := 1, action := 1, phase := 2, total := 9 }, { State.setCd (with_ [(7, .mgt .MODE_current, 5, 0)]) 1 { formats := [(1, { nsid := 1, action := 1, phase := 2, total := 9 })] } with img := { active := some { namespaces := [{ flags := 1 }] } }, bgw := [(1, { grant := [9, 9, 9, 9, 9, 9] })] }, by decide⟩

theorem test_meets_formatFillComplete : ∃ (d : Cd) (n : Nat) (p : Progress) (s : State), s.cdUp (cdId d) = true ∧ s.modeNow ≠ 0xB ∧
    alGet (s.cd (cdId d)).formats n = some p ∧ p.phase = 2 ∧ p.cursor = p.total :=
  ⟨0, 1, { nsid := 1, action := 1, phase := 2, total := 9, cursor := 9 }, State.setCd up 1 { formats := [(1, { nsid := 1, action := 1, phase := 2, total := 9, cursor := 9 })] }, by decide⟩

theorem test_meets_sanitizeFillComplete : ∃ (d : Cd) (p : Progress) (s : State), s.cdUp (cdId d) = true ∧ s.modeNow ≠ 0xB ∧
    (s.cd (cdId d)).sanitize = some p ∧ p.phase = 2 ∧ p.cursor = p.total :=
  ⟨0, { nsid := 1, action := 2, phase := 2, total := 9, cursor := 9 }, State.setCd up 1 { sanitize := some { nsid := 1, action := 2, phase := 2, total := 9, cursor := 9 } }, by decide⟩

theorem test_meets_namespaceDrainLimitExpiry : ∃ (d : Cd) (n : Nat) (e : Nat × Bool × Nat) (s : State), s.cdUp (cdId d) = true ∧ s.modeNow ≠ 0xB ∧
    (s.cd (cdId d)).draining.find? (fun e => e.1 = n) = some e ∧ (s.cd (cdId d)).slots.any (fun z => z.2.cap.nsid = n && !z.2.admin) = false :=
  ⟨0, 1, (1, false, 5), State.setCd up 1 { draining := [(1, false, 5)] }, by decide⟩

theorem test_meets_namespaceDrainComplete : ∃ (d : Cd) (n : Nat) (e : Nat × Bool × Nat) (s : State), s.cdUp (cdId d) = true ∧ s.modeNow ≠ 0xB ∧
    (s.cd (cdId d)).draining.find? (fun e => e.1 = n) = some e ∧ s.nsBusy (cdId d) n = false ∧ (s.sp (cdId d)).index.any (fun y => y.nsid = n && y.dirty) = false :=
  ⟨0, 1, (1, false, 5), State.setCd up 1 { draining := [(1, false, 5)] }, by decide⟩

theorem test_meets_keySlotLoad : ∃ (d : DieId) (s : State), 1 ≤ d.val ∧ s.cdUp d.val = true :=
  ⟨1, with_ [(1, .cip .STATUS_kat_pass, 1, 0), (1, .cip .STATUS_ktk_ready, 1, 0)], by decide⟩

theorem test_meets_keySlotLoad_alt1 : ∃ (q : Req) (d : DieId) (n : BitVec 12) (s : State), 1 ≤ d.val ∧ s.cdUp d.val = true ∧
    (q.secure = true) ∧ (s.rb d.val (.cip .STATUS_kat_pass) = true) ∧ (s.rb d.val (.cip .STATUS_ktk_ready) = true) ∧ (s.r d.val (.cip .SLOT_A_state) n.toNat = 2) :=
  ⟨sec, 1, 4, with_ [(1, .cip .STATUS_kat_pass, 1, 0), (1, .cip .STATUS_ktk_ready, 1, 0), (1, .cip .SLOT_A_state, 2, 4)], by decide⟩

theorem test_meets_keySlotLoad_alt2 : ∃ (q : Req) (d : DieId) (s : State), 1 ≤ d.val ∧ s.cdUp d.val = true ∧
    (q.secure = true) ∧ (s.rb d.val (.cip .STATUS_kat_pass) = false) :=
  ⟨sec, 1, up, by decide⟩

theorem test_meets_keySlotLoad_alt3 : ∃ (q : Req) (d : DieId) (s : State), 1 ≤ d.val ∧ s.cdUp d.val = true ∧
    (q.secure = false) :=
  ⟨nonsec, 1, with_ [(1, .cip .STATUS_kat_pass, 1, 0), (1, .cip .STATUS_ktk_ready, 1, 0)], by decide⟩

theorem test_meets_keySlotClear : ∃ (q : Req) (d : DieId) (s : State), 1 ≤ d.val ∧ s.cdUp d.val = true ∧ q.secure = true :=
  ⟨sec, 1, with_ [(1, .cip .SLOT_A_state, 2, 4)], by decide⟩

theorem test_meets_keySlotClear_alt1 : ∃ (q : Req) (d : DieId) (n : BitVec 12) (s : State), 1 ≤ d.val ∧ s.cdUp d.val = true ∧ q.secure = true ∧
    (s.r d.val (.cip .SLOT_A_state) n.toNat = 1) :=
  ⟨sec, 1, 4, with_ [(1, .cip .SLOT_A_state, 1, 4)], by decide⟩

theorem test_meets_keySlotFenceComplete : ∃ (d : DieId) (n : BitVec 12) (s : State), s.r d.val (.cip .SLOT_A_state) n.toNat = 1 :=
  ⟨1, 4, (with_ [(1, .cip .SLOT_A_state, 1, 4)]).setKeySlot 1 4 { next := some (9, 1, 1, 0) }, by decide⟩

theorem test_meets_keySlotFenceComplete_alt1 : ∃ (d : DieId) (n : BitVec 12) (s : State), s.r d.val (.cip .SLOT_A_state) n.toNat = 1 ∧
    ((s.keySlot d.val n.toNat).clearing = true) :=
  ⟨1, 4, (with_ [(1, .cip .SLOT_A_state, 1, 4)]).setKeySlot 1 4 { clearing := true }, by decide⟩

theorem test_meets_keyReplacement : ∃ (d : Cd) (n : BitVec 12) (s : State), s.cdUp (cdId d) = true ∧ s.modeNow ≠ 0xB ∧
    s.cip.replacing.contains (cdId d, n.toNat) = false ∧ s.cip.mediaRoot.isNone = false ∧ s.generation (cdId d) n.toNat ≠ 0xFFFFFFFF :=
  ⟨0, 4, { up with cip := { mediaRoot := some 5 } }, by decide⟩

theorem test_meets_keyReplacement_alt1 : ∃ (d : Cd) (n : BitVec 12) (s : State), s.cdUp (cdId d) = true ∧ s.modeNow ≠ 0xB ∧
    s.cip.replacing.contains (cdId d, n.toNat) = false ∧ s.cip.mediaRoot.isNone = false ∧ s.generation (cdId d) n.toNat ≠ 0xFFFFFFFF ∧
    ((s.modeNow = 5 && s.paired && s.r mdId (.pair .STATUS_mirror) = 1) = true) :=
  ⟨0, 4, { pr 5 [(7, .pair .STATUS_mirror, 1, 0)] with cip := { mediaRoot := some 5 } }, by decide⟩

theorem test_meets_partnerGenerationCommitted : ∃ (d : Cd) (n : BitVec 12) (s : State), s.cdUp (cdId d) = true ∧ s.modeNow ≠ 0xB ∧
    s.cip.replacing.contains (cdId d, n.toNat) = true :=
  ⟨0, 4, { up with cip := { replacing := [(1, 4)] } }, by decide⟩

theorem test_meets_gcmDonePop : ∃ (d : Cd) (s : State), s.cdUp (cdId d) = true ∧ s.modeNow ≠ 0xB :=
  ⟨0, { up with cip := { done := [(1, [(7, false), (8, true)])], lost := [1] } }, by decide⟩

theorem test_meets_cipSnapshot : ∃ (d : DieId) (s : State), s.cipDie d.val = true :=
  ⟨1, up, by decide⟩

theorem test_meets_zeroRangeEntryFree : ∃ (d : Cd) (seq : Nat) (r : ZeroRange) (s : State), s.cdUp (cdId d) = true ∧ s.modeNow ≠ 0xB ∧ s.tsSet (cdId d) = true ∧
    (s.sp (cdId d)).ranges.find? (fun r => r.seq = seq && r.applied) = some r :=
  ⟨0, 5, ⟨1, 0, 1, 0, 0, 0, 5, true, []⟩, { up with tim := { counters := [(1, { set := true })] }, spg := { dies := [(1, { ranges := [⟨1, 0, 1, 0, 0, 0, 5, true, []⟩] })] } }, by decide⟩

theorem test_meets_cancelCrumbRetirement : ∃ (d : Cd) (seq : Nat) (r : RingCrumb) (s : State), s.cdUp (cdId d) = true ∧ s.modeNow ≠ 0xB ∧
    s.ringCrumb (cdId d) seq = some r ∧ r.c.kind = 0x21 ∧ r.retired = false :=
  ⟨0, 5, { c := { kind := 0x21, seq := 5 } }, { up with spg := { dies := [(1, { ring := [{ c := { kind := 0x21, seq := 5 } }] })] } }, by decide⟩

theorem test_meets_evictionStep : ∃ (d : Cd) (e : IdxEntry) (s : State), s.cdUp (cdId d) = true ∧ s.modeNow ≠ 0xB ∧
    (s.sp (cdId d)).evicting = true ∧ 100 * (s.sp (cdId d)).freeSlots < s.r (cdId d) (.spg .EVICT_CFG_high_pct) * dataSlots ∧
    (s.sp (cdId d)).nextSlot = some e ∧ s.evictable (cdId d) e = true :=
  ⟨0, { nsid := 1, lba := 5, slot := 9, dirty := false }, { sg { evicting := true, index := [{ nsid := 1, lba := 5, slot := 9, dirty := false }], reserved := 1048575 } with now := 900000000, tim := { counters := [(1, { set := true })] } }, by decide +kernel⟩

theorem test_meets_holdTimeAdjust : ∃ (d : Cd) (g : Fin 4) (s : State), s.cdUp (cdId d) = true ∧ s.modeNow ≠ 0xB ∧
    (s.grp_ (cdId d) g.val).windowOn = true :=
  ⟨0, 2, up.setGrp 1 2 { configured := true, window := true, layout := 4, k := 2 }, by decide⟩

theorem test_meets_retireCrumbWrite : ∃ (d : Cd) (q : Nat) (r : RingCrumb) (s : State), s.cdUp (cdId d) = true ∧ s.modeNow ≠ 0xB ∧
    (s.ringCrumb (cdId d) q = some r ∧ (r.c.kind = 1 ∨ r.c.kind = 2 ∨ r.c.kind = 3) ∧ r.retired = false ∧ r.chainDone = true) ∧
    s.crumbSettled (cdId d) q = true ∧ s.crumbRoom (cdId d) 0x22 = true :=
  ⟨0, 7, { c := { kind := 1, seq := 7 }, chainDone := true }, sg { ring := [{ c := { kind := 1, seq := 7 }, chainDone := true }] }, by decide⟩

theorem test_meets_mirrorCrumbsReceived : ∃ (d : Cd) (s : State), s.cdUp (cdId d) = true ∧ s.modeNow ≠ 0xB ∧
    ¬ (s.modeNow ≠ 6 ∧ s.modeNow ≠ 4) :=
  ⟨0, inMode 6, by decide⟩

theorem test_meets_mirrorCrumbPlaced : ∃ (d : Cd) (m : MirrorIn) (l : List MirrorIn) (s : State), s.cdUp (cdId d) = true ∧ s.modeNow ≠ 0xB ∧
    (s.sp (cdId d)).incoming = m :: l ∧ m.located = true ∧ m.c.kind = 4 :=
  ⟨0, { c := { kind := 4, seq := 7 } }, [], sg { incoming := [{ c := { kind := 4, seq := 7 } }] } 6, by decide⟩

theorem test_meets_mirrorAckSend : ∃ (d : Cd) (s : State), s.cdUp (cdId d) = true ∧ s.modeNow ≠ 0xB ∧
    ((s.modeNow = 6 ∨ s.modeNow = 4) ∧ s.r (cdId d) (.spg .MIRROR_ACK) < (s.sp (cdId d)).ackSent) ∧
    s.authenticated = true ∧ s.sealReady 0 = true :=
  ⟨0, (sg { ackSent := 5 } 6).w 0 (.pair .LINK_STATUS_authenticated) 1, by decide⟩

theorem test_meets_mirrorAckReceived : ∃ (d : Cd) (a : Nat) (s : State), s.cdUp (cdId d) = true ∧ s.modeNow ≠ 0xB ∧
    s.modeNow = 5 ∧ s.rdx.chains = [] ∧ s.ep.cmds.any (fun c => c.st = 3) = false ∧ s.r (cdId d) (.spg .MIRROR_ACK) < 2 ^ 64 ∧ a < 2 ^ 64 :=
  ⟨0, 7, sg { ring := [{ c := { kind := 1, seq := 7 }, placed := false }] }, by decide⟩

theorem test_meets_scrubLine : ∃ (d : Cd) (s : State), s.cdUp (cdId d) = true ∧ s.modeNow ≠ 0xB ∧
    s.rb (cdId d) (.spg .SCRUB_CFG_enable) = true ∧ ¬ s.modeNow < 3 ∧ (s.profile (cdId d)).spongeScrub ≠ 0 :=
  ⟨0, with_ [(7, .mgt .MODE_current, 5, 0), (1, .spg .SCRUB_CFG_enable, 1, 0)], by decide⟩

theorem test_meets_repairFrameReceived : ∃ (d : Cd) (n : Nat) (l : Nat) (q : Nat) (e : IdxEntry) (s : State), s.cdUp (cdId d) = true ∧ s.modeNow ≠ 0xB ∧
    n ≠ 0 ∧ s.lookup (cdId d) n l = some e ∧ e.seq % 2 ^ 32 = q ∧
    s.authenticated = true ∧ s.sealReady 0 = true :=
  ⟨0, 1, 5, 3, { nsid := 1, lba := 5, slot := 9, seq := 3, data := 77 }, (sg { index := [{ nsid := 1, lba := 5, slot := 9, seq := 3, data := 77 }] }).w 0 (.pair .LINK_STATUS_authenticated) 1, by decide +kernel⟩

theorem test_meets_arbiterGrant : ∃ (d : Cd) (n : Fin 10) (s : State), s.cdUp (cdId d) = true ∧ s.modeNow ≠ 0xB ∧
    (s.arb (cdId d)).clock < (s.arb (cdId d)).window ∧ (s.r (cdId d) (.arb .FREEZE_mask)).testBit n.val = false ∧ (s.arb (cdId d)).last.length = 4 ∧ s.arbLevel (cdId d) n.val < 4 :=
  ⟨0, 3, up, by decide⟩

theorem test_meets_arbWindowEnd : ∃ (d : Cd) (s : State), s.cdUp (cdId d) = true ∧ s.modeNow ≠ 0xB ∧
    (s.arb (cdId d)).window ≤ (s.arb (cdId d)).clock :=
  ⟨0, { up with spg := { arbs := [(1, { clock := 256 })] } }, by decide⟩

theorem test_meets_arbCommit : ∃ (d : Cd) (s : State), s.cdUp (cdId d) = true ∧ s.modeNow ≠ 0xB :=
  ⟨0, up, by decide⟩

theorem test_meets_arbFreezeWrite : ∃ (d : Cd) (s : State), s.cdUp (cdId d) = true ∧ s.modeNow ≠ 0xB :=
  ⟨0, up, by decide⟩

theorem test_meets_dirtyCeilingWrite : ∃ (q : Req) (d : Cd) (s : State), s.cdUp (cdId d) = true ∧ s.modeNow ≠ 0xB ∧
    q.secure = true :=
  ⟨sec, 0, up, by decide⟩

theorem test_meets_spgSnapshot : ∃ (d : Cd) (s : State), s.cdUp (cdId d) = true :=
  ⟨0, up, by decide⟩

theorem test_meets_arbSnapshot : ∃ (d : Cd) (s : State), s.cdUp (cdId d) = true :=
  ⟨0, up, by decide⟩

theorem test_meets_stripeUpdateStart : ∃ (d : Cd) (g : Fin 4) (n : Nat) (s : State), s.cdUp (cdId d) = true ∧ s.modeNow ≠ 0xB ∧
    s.workRuns = true ∧ (s.grp_ (cdId d) g.val).configured = true ∧ (s.grp_ (cdId d) g.val).state ≠ 4 ∧ n % 2 ^ 63 < (s.viewT (cdId d) g.val n).stripes ∧ s.destageDue (cdId d) g.val n = true ∧ (s.grp_ (cdId d) g.val).locks.contains n = false ∧
    (s.updateSet (cdId d) g.val n).any (fun e => (s.nsEntry e.2.2.2.1).any (fun n => s.r (cdId d) (.cip .SLOT_A_state) n.keySlot ≠ 2)) = false ∧
    (s.updateSet (cdId d) g.val n).any (fun e => (s.nsEntry e.2.2.2.1).any (fun n => s.r (cdId d) (.cip .SLOT_A_nsid) n.keySlot ≠ n.nsid)) = false :=
  ⟨0, 2, 0, { State.setSp (with_ [(7, .mgt .MODE_current, 5, 0), (1, .cip .SLOT_A_state, 2, 0), (1, .cip .SLOT_A_nsid, 1, 0)]) 1 { index := [{ nsid := 1, lba := 0, slot := 0, group := 2 }] } with img := { active := some { namespaces := [{ group := 2, size := 16 }] } }, grp := { groups := [((1, 2), { configured := true, stripes := 4, states := [0, 0], serving := [some 0, some 1], members := [0, 1] })] } }, by decide⟩

theorem test_meets_stripeReadsComplete : ∃ (d : Cd) (g : Fin 4) (n : Nat) (u : StripeUpd) (s : State), s.cdUp (cdId d) = true ∧ s.modeNow ≠ 0xB ∧
    (s.viewT (cdId d) g.val n).updates.find? (fun u => u.stripe = n && !u.writing) = some u ∧ s.drvQuiet (cdId d) (stripeOwner g.val n) = true ∧ s.workRuns = true ∧
    (s.drvResults (cdId d) (stripeOwner g.val n)).all (fun r => r.ok) = true ∧ s.crumbRoom (cdId d) 0x10 = true ∧ u ∈ (s.grp_ (cdId d) g.val).updates :=
  ⟨0, 2, 0, { stripe := 0, method := 0 }, gp { configured := true, stripes := 4, states := [0, 0], serving := [some 0, some 1], updates := [{ stripe := 0, method := 0 }] }, by decide⟩

theorem test_meets_stripeWritesComplete : ∃ (d : Cd) (g : Fin 4) (n : Nat) (u : StripeUpd) (s : State), s.cdUp (cdId d) = true ∧ s.modeNow ≠ 0xB ∧
    (s.viewT (cdId d) g.val n).updates.find? (fun u => u.stripe = n && u.writing) = some u ∧ s.drvQuiet (cdId d) (stripeOwner g.val n) = true ∧ (s.viewT (cdId d) g.val n).state ≠ 4 :=
  ⟨0, 2, 0, { stripe := 0, method := 0, writing := true }, gp { configured := true, stripes := 4, states := [0, 0], serving := [some 0, some 1], locks := [0], updates := [{ stripe := 0, method := 0, writing := true }] }, by decide⟩

theorem test_meets_driveCommandCompletion : ∃ (d : Cd) (bay : Fin 8) (cid : BitVec 16) (c : DrvCmd) (s : State), s.cdUp (cdId d) = true ∧ (s.modeNow = 0xB && s.mode.rootsHeld) = false ∧
    s.drv.cmds.find? (fun c => c.die = cdId d && c.bay = bay.val && c.cid = cid.toNat && c.abortAt.isNone && !c.held) = some c ∧ c.owner.kind = 2 ∧ c.op = 1 :=
  ⟨0, 3, 7, { die := 1, bay := 3, cid := 7, op := 1, owner := { kind := 2 } }, { inMode 5 with drv := { cmds := [{ die := 1, bay := 3, cid := 7, op := 1, owner := { kind := 2 } }] } }, by decide⟩

theorem test_meets_driveCommandCompletion_alt1 : ∃ (d : Cd) (bay : Fin 8) (cid : BitVec 16) (sct : Fin 8) (sc : BitVec 8) (c : DrvCmd) (s : State), s.cdUp (cdId d) = true ∧ (s.modeNow = 0xB && s.mode.rootsHeld) = false ∧
    s.drv.cmds.find? (fun c => c.die = cdId d && c.bay = bay.val && c.cid = cid.toNat && c.abortAt.isNone && !c.held) = some c ∧ c.owner.kind = 2 ∧ c.op = 1 ∧
    (sct.val = 0) ∧ (sc.toNat = 0) :=
  ⟨0, 3, 7, 0, 0, { die := 1, bay := 3, cid := 7, op := 1, owner := { kind := 2 } }, { inMode 5 with drv := { cmds := [{ die := 1, bay := 3, cid := 7, op := 1, owner := { kind := 2 } }] } }, by decide⟩

theorem test_meets_groupRecordWriteComplete : ∃ (d : Cd) (g : Fin 4) (s : State), s.cdUp (cdId d) = true ∧ s.modeNow ≠ 0xB ∧
    (s.grp_ (cdId d) g.val).recPhase = 2 ∧ (s.grp_ (cdId d) g.val).recAgain = false ∧ s.drvQuiet (cdId d) { kind := 3, a := g.val, b := 1 } = true ∧ s.drvQuiet (cdId d) { kind := 3, a := g.val, b := 2 } = true :=
  ⟨0, 2, gp { configured := true, recPhase := 2, recMarks := [5] }, by decide⟩

theorem test_meets_bitmapBitClearDue : ∃ (d : Cd) (g : Fin 4) (n : Nat) (s : State), s.cdUp (cdId d) = true ∧ s.modeNow ≠ 0xB ∧
    (s.grp_ (cdId d) g.val).marked.contains n = true ∧ (s.sp (cdId d)).index = [] ∧ (s.sp (cdId d)).ranges = [] ∧ (s.cd (cdId d)).slots = [] ∧ (s.grp_ (cdId d) g.val).locks = [] ∧ (s.grp_ (cdId d) g.val).outCount = 0 ∧ (s.grp_ (cdId d) g.val).fullResync = false ∧ (s.grp_ (cdId d) g.val).resync = [] :=
  ⟨0, 2, 5, gp { configured := true, states := [0, 0], serving := [some 0, some 1], marked := [5] }, by decide⟩

theorem test_meets_grpSnapshot : ∃ (d : Cd) (s : State), s.cdUp (cdId d) = true :=
  ⟨0, up, by decide⟩

theorem test_meets_spareDelayExpiry : ∃ (d : Cd) (g : Fin 4) (p : Fin 8) (s : State), s.cdUp (cdId d) = true ∧ s.modeNow ≠ 0xB ∧
    (s.grp_ (cdId d) g.val).configured = true ∧ (s.grp_ (cdId d) g.val).states.getD p.val 5 = 1 :=
  ⟨0, 2, 1, gp { configured := true, states := [0, 1], serving := [some 0, some 1] }, by decide⟩

theorem test_meets_gCmdTakeTarget : ∃ (d : Cd) (g : Fin 4) (s : State), s.cdUp (cdId d) = true ∧ s.modeNow ≠ 0xB ∧
    ((List.range (s.grp_ (cdId d) g.val).n).find? (fun p => (s.grp_ (cdId d) g.val).states.getD p 5 = 1 || (s.grp_ (cdId d) g.val).states.getD p 5 = 2) = none ∨ s.spareFor (cdId d) g.val = none) :=
  ⟨0, 2, gp { configured := true, states := [0, 0], serving := [some 0, some 1] }, by decide⟩

theorem test_meets_gCmdHoldPass : ∃ (d : Cd) (g : Fin 4) (s : State), s.cdUp (cdId d) = true ∧ s.modeNow ≠ 0xB ∧
    (s.grp_ (cdId d) g.val).configured = true ∧ (s.grp_ (cdId d) g.val).pass = true ∧ (s.grp_ (cdId d) g.val).held = false :=
  ⟨0, 2, gp { configured := true, pass := true }, by decide⟩

theorem test_meets_gCmdReleasePass : ∃ (d : Cd) (g : Fin 4) (s : State), s.cdUp (cdId d) = true ∧ s.modeNow ≠ 0xB ∧
    (s.grp_ (cdId d) g.val).configured = true ∧ (s.grp_ (cdId d) g.val).held = true :=
  ⟨0, 2, gp { configured := true, pass := true, held := true }, by decide⟩

theorem test_meets_gCmdFullResync : ∃ (d : Cd) (g : Fin 4) (s : State), s.cdUp (cdId d) = true ∧ s.modeNow ≠ 0xB ∧
    (s.grp_ (cdId d) g.val).configured = true ∧ (s.grp_ (cdId d) g.val).state ≠ 4 :=
  ⟨0, 2, gp { configured := true, states := [0, 0], serving := [some 0, some 1] }, by decide⟩

theorem test_meets_rebuildStep : ∃ (d : Cd) (g : Fin 4) (s : State), s.cdUp (cdId d) = true ∧ s.modeNow ≠ 0xB ∧
    (s.grp_ (cdId d) g.val).configured = true ∧ (s.grp_ (cdId d) g.val).resyncing = false ∧ s.workRuns = true ∧ (s.grp_ (cdId d) g.val).state ≠ 4 ∧ (s.grp_ (cdId d) g.val).pass = true ∧ (s.grp_ (cdId d) g.val).held = false ∧ (s.grp_ (cdId d) g.val).rbPhase = 0 ∧
    (s.grp_ (cdId d) g.val).cursor + 1 < (s.grp_ (cdId d) g.val).stripes ∧ (s.grp_ (cdId d) g.val).targetsAt (s.grp_ (cdId d) g.val).passStripe = [] ∧ (s.grp_ (cdId d) g.val).lap2 = false ∧ s.rshOf (cdId d) g.val = none :=
  ⟨0, 2, gp { configured := true, stripes := 4, states := [0, 0], serving := [some 0, some 1], pass := true }, by decide⟩

theorem test_meets_rebuildCheckpoint : ∃ (d : Cd) (g : Fin 4) (s : State), s.cdUp (cdId d) = true ∧ s.modeNow ≠ 0xB ∧
    (s.grp_ (cdId d) g.val).pass = true :=
  ⟨0, 2, gp { configured := true, pass := true }, by decide⟩

theorem test_meets_resyncStripe : ∃ (d : Cd) (g : Fin 4) (n : Nat) (s : State), s.cdUp (cdId d) = true ∧ s.modeNow ≠ 0xB ∧
    (s.grp_ (cdId d) g.val).rsPhase = 0 ∧ (s.grp_ (cdId d) g.val).fullResync = true ∧ (s.grp_ (cdId d) g.val).fullCursor = n ∧ (s.grp_ (cdId d) g.val).configured = true ∧ s.workRuns = true ∧ (s.grp_ (cdId d) g.val).state ≠ 4 ∧ s.bgMay (cdId d) 2 = true ∧ (s.grp_ (cdId d) g.val).locks.contains n = false :=
  ⟨0, 2, 3, { gp { configured := true, stripes := 4, states := [0, 0], serving := [some 0, some 1], fullResync := true, fullCursor := 3 } with bgw := [(1, { grant := [9, 9, 9, 9, 9, 9] })] }, by decide⟩

theorem test_meets_reshapeStepStart : ∃ (d : Cd) (g : Fin 4) (r : Reshape) (s : State), s.cdUp (cdId d) = true ∧ s.modeNow ≠ 0xB ∧
    s.rshOf (cdId d) g.val = some r ∧ s.stepMay (cdId d) g.val r = true ∧ s.r (cdId d) (.rsh .BUF) = 0 :=
  ⟨0, 2, { phase := 2, end_ := 64 }, rs { phase := 2, end_ := 64 }, by decide⟩

theorem test_meets_reshapeStepReadsComplete : ∃ (d : Cd) (g : Fin 4) (r : Reshape) (s : State), s.cdUp (cdId d) = true ∧ s.modeNow ≠ 0xB ∧
    s.rshOf (cdId d) g.val = some r ∧ r.step = 2 ∧ s.rshQuiet (cdId d) g.val 6 = true ∧ r.backed = true ∧ r.waitReads = [] :=
  ⟨0, 2, { phase := 2, step := 2, end_ := 64, stepBlocks := 4, src := { stripLog2 := 12 }, dst := { stripLog2 := 12 } }, rs { phase := 2, step := 2, end_ := 64, stepBlocks := 4, src := { stripLog2 := 12 }, dst := { stripLog2 := 12 } }, by decide⟩

theorem test_meets_reshapeBackupWritten : ∃ (d : Cd) (g : Fin 4) (r : Reshape) (s : State), s.cdUp (cdId d) = true ∧ s.modeNow ≠ 0xB ∧
    s.rshOf (cdId d) g.val = some r ∧ r.step = 3 ∧ s.rshQuiet (cdId d) g.val 23 = true :=
  ⟨0, 2, { phase := 2, step := 3 }, rs { phase := 2, step := 3 }, by decide⟩

theorem test_meets_reshapeStepCommit : ∃ (d : Cd) (g : Fin 4) (r : Reshape) (s : State), s.cdUp (cdId d) = true ∧ s.modeNow ≠ 0xB ∧
    s.rshOf (cdId d) g.val = some r ∧ r.step = 6 ∧ s.rshQuiet (cdId d) g.val 24 = true ∧ r.phase = 2 ∧ r.cancel = false :=
  ⟨0, 2, { phase := 2, step := 6, stepBlocks := 4 }, rs { phase := 2, step := 6, stepBlocks := 4 }, by decide⟩

theorem test_meets_reshapeCancel : ∃ (q : Req) (d : Cd) (g : Fin 4) (r : Reshape) (s : State), s.cdUp (cdId d) = true ∧ s.modeNow ≠ 0xB ∧
    (q.secure = true ∧ s.rshOf (cdId d) g.val = some r ∧ r.kind = 2 ∧ r.phase = 2 ∧ (r.step = 5 ∨ r.step = 6)) :=
  ⟨sec, 0, 2, { phase := 2, step := 5 }, rs { phase := 2, step := 5 }, by decide⟩

theorem test_meets_reshapeCancel_alt1 : ∃ (q : Req) (d : Cd) (g : Fin 4) (r : Reshape) (s : State), s.cdUp (cdId d) = true ∧ s.modeNow ≠ 0xB ∧
    (q.secure = true ∧ s.rshOf (cdId d) g.val = some r ∧ r.kind = 2 ∧ r.phase = 2 ∧ (r.step = 5 ∨ r.step = 6)) ∧
    (s.modeNow ≠ 5) :=
  ⟨sec, 0, 2, { phase := 2, step := 5 }, rs { phase := 2, step := 5 } 6, by decide⟩

theorem test_meets_reshapeHold : ∃ (q : Req) (d : Cd) (g : Fin 4) (r : Reshape) (s : State), s.cdUp (cdId d) = true ∧ s.modeNow ≠ 0xB ∧
    (q.secure = true ∧ s.rshOf (cdId d) g.val = some r ∧ (r.phase = 1 ∨ r.running = true) ∧ r.heldBy = false) :=
  ⟨sec, 0, 2, { phase := 2, step := 2 }, rs { phase := 2, step := 2 }, by decide⟩

theorem test_meets_reshapeRelease : ∃ (q : Req) (d : Cd) (g : Fin 4) (r : Reshape) (s : State), s.cdUp (cdId d) = true ∧ s.modeNow ≠ 0xB ∧
    q.secure = true ∧ s.rshOf (cdId d) g.val = some r ∧ r.heldBy = true :=
  ⟨sec, 0, 2, { phase := 2, heldBy := true }, rs { phase := 2, heldBy := true }, by decide⟩

theorem test_meets_reshapeSwitch : ∃ (d : Cd) (g : Fin 4) (r : Reshape) (s : State), s.cdUp (cdId d) = true ∧ s.modeNow ≠ 0xB ∧
    s.rshOf (cdId d) g.val = some r ∧ s.switchDue (cdId d) g.val r = true ∧ s.workRuns = true ∧ r.pauseBay = false ∧ s.rshQuiet (cdId d) g.val 24 = true :=
  ⟨0, 2, { phase := 2 }, rs { phase := 2 }, by decide⟩

theorem test_meets_reshapeSwitchComplete : ∃ (d : Cd) (g : Fin 4) (r : Reshape) (s : State), s.cdUp (cdId d) = true ∧ s.modeNow ≠ 0xB ∧
    s.rshOf (cdId d) g.val = some r ∧ r.phase = 3 ∧ r.switched = true ∧ s.rshQuiet (cdId d) g.val 24 = true ∧ s.rshQuiet (cdId d) g.val 26 = true :=
  ⟨0, 2, { phase := 3, switched := true }, rs { phase := 3, switched := true }, by decide⟩

theorem test_meets_rshSnapshot : ∃ (d : Cd) (s : State), s.cdUp (cdId d) = true :=
  ⟨0, up, by decide⟩

theorem test_meets_bayPerstRelease : ∃ (d : Cd) (bay : Fin 8) (s : State), s.cdUp (cdId d) = true ∧ (s.modeNow = 0xB && s.mode.rootsHeld) = false ∧
    ((s.r (cdId d) (.drv .B_STATE_state) bay.val = 1 ∨ s.r (cdId d) (.drv .B_STATE_state) bay.val = 7) ∧ s.discovers = true ∧ s.rb mdId (.bay .B_STATE_pg) (shelfBay (cdId d) bay.val) = true) :=
  ⟨0, 3, State.w (bay_ 1) 7 (.bay .B_STATE_pg) 1 3, by decide⟩

theorem test_meets_driveLinkUp : ∃ (d : Cd) (bay : Fin 8) (v : Nat) (w : Nat) (s : State), s.cdUp (cdId d) = true ∧ (s.modeNow = 0xB && s.mode.rootsHeld) = false ∧
    s.r (cdId d) (.drv .B_STATE_state) bay.val = 2 ∧ s.discovers = true ∧ v < 8 ∧ w < 4 :=
  ⟨0, 3, 5, 2, bay_ 2, by decide⟩

theorem test_meets_driveLinkTrainingTimeout : ∃ (d : Cd) (bay : Fin 8) (s : State), s.cdUp (cdId d) = true ∧ (s.modeNow = 0xB && s.mode.rootsHeld) = false ∧
    s.r (cdId d) (.drv .B_STATE_state) bay.val = 2 :=
  ⟨0, 3, bay_ 2, by decide⟩

theorem test_meets_driveEnumerationComplete : ∃ (d : Cd) (bay : Fin 8) (s : State), s.cdUp (cdId d) = true ∧ (s.modeNow = 0xB && s.mode.rootsHeld) = false ∧
    s.r (cdId d) (.drv .B_STATE_state) bay.val = 3 ∧ s.discovers = true :=
  ⟨0, 3, bay_ 3, by decide⟩

theorem test_meets_driveControllerReady : ∃ (d : Cd) (bay : Fin 8) (s : State), s.cdUp (cdId d) = true ∧ (s.modeNow = 0xB && s.mode.rootsHeld) = false ∧
    s.r (cdId d) (.drv .B_STATE_state) bay.val = 4 ∧ s.discovers = true :=
  ⟨0, 3, bay_ 4, by decide⟩

theorem test_meets_driveReadyTimeout : ∃ (d : Cd) (bay : Fin 8) (s : State), s.cdUp (cdId d) = true ∧ (s.modeNow = 0xB && s.mode.rootsHeld) = false ∧
    s.r (cdId d) (.drv .B_STATE_state) bay.val = 4 :=
  ⟨0, 3, bay_ 4, by decide⟩

theorem test_meets_driveIdentifyComplete : ∃ (d : Cd) (bay : Fin 8) (s : State), s.cdUp (cdId d) = true ∧ (s.modeNow = 0xB && s.mode.rootsHeld) = false ∧
    s.r (cdId d) (.drv .B_STATE_state) bay.val = 5 ∧ s.discovers = true :=
  ⟨0, 3, bay_ 5, by decide⟩

theorem test_meets_driveIdentifyComplete_alt1 : ∃ (d : Cd) (bay : Fin 8) (x : DriveIdent) (s : State), s.cdUp (cdId d) = true ∧ (s.modeNow = 0xB && s.mode.rootsHeld) = false ∧
    s.r (cdId d) (.drv .B_STATE_state) bay.val = 5 ∧ s.discovers = true ∧
    (s.unsuitable x = 0) :=
  ⟨0, 3, { blocks := 900000000 }, bay_ 5, by decide⟩

theorem test_meets_driveLinkLoss : ∃ (d : Cd) (bay : Fin 8) (s : State), s.cdUp (cdId d) = true ∧ (s.modeNow = 0xB && s.mode.rootsHeld) = false ∧
    s.rbit (cdId d) (.drv .STATUS_link_up) bay.val = true ∧ s.r (cdId d) (.drv .B_STATE_state) bay.val = 6 ∧ s.rb mdId (.bay .B_STATE_pg) (shelfBay (cdId d) bay.val) = false :=
  ⟨0, 3, State.w (bay_ 6) 1 (.drv .STATUS_link_up) 8, by decide⟩

theorem test_meets_downstreamPortContainment : ∃ (d : Cd) (bay : Fin 8) (s : State), s.cdUp (cdId d) = true ∧ (s.modeNow = 0xB && s.mode.rootsHeld) = false ∧
    s.rbit (cdId d) (.drv .STATUS_link_up) bay.val = true ∧ s.r (cdId d) (.drv .B_STATE_state) bay.val = 6 ∧ s.rb mdId (.bay .B_STATE_pg) (shelfBay (cdId d) bay.val) = false :=
  ⟨0, 3, State.w (bay_ 6) 1 (.drv .STATUS_link_up) 8, by decide⟩

theorem test_meets_driveControllerFatal : ∃ (d : Cd) (bay : Fin 8) (s : State), s.cdUp (cdId d) = true ∧ (s.modeNow = 0xB && s.mode.rootsHeld) = false ∧
    s.r (cdId d) (.drv .B_STATE_state) bay.val = 6 ∧ (s.posOfBay (cdId d) bay.val).isSome = true :=
  ⟨0, 3, State.setGrp (bay_ 6) 1 2 { configured := true, stripes := 4, states := [0, 0], serving := [some 3, some 1], members := [3, 1] }, by decide⟩

theorem test_meets_driveCommandTimeout : ∃ (d : Cd) (bay : Fin 8) (cid : BitVec 16) (c : DrvCmd) (s : State), s.cdUp (cdId d) = true ∧ (s.modeNow = 0xB && s.mode.rootsHeld) = false ∧
    s.drvCmd (cdId d) bay.val cid.toNat = some c ∧ c.abortAt = none :=
  ⟨0, 3, 7, { die := 1, bay := 3, cid := 7, op := 1, owner := { kind := 2 } }, { inMode 5 with drv := { cmds := [{ die := 1, bay := 3, cid := 7, op := 1, owner := { kind := 2 } }] } }, by decide⟩

theorem test_meets_driveAbortComplete : ∃ (d : Cd) (bay : Fin 8) (cid : BitVec 16) (c : DrvCmd) (s : State), s.cdUp (cdId d) = true ∧ (s.modeNow = 0xB && s.mode.rootsHeld) = false ∧
    s.drvCmd (cdId d) bay.val cid.toNat = some c ∧ c.abortAt.isSome = true ∧ c.tries ≤ s.r c.die (.drv .CFG_retries) :=
  ⟨0, 3, 7, { die := 1, bay := 3, cid := 7, op := 1, owner := { kind := 2 }, abortAt := some 4 }, { inMode 5 with drv := { cmds := [{ die := 1, bay := 3, cid := 7, op := 1, owner := { kind := 2 }, abortAt := some 4 }] } }, by decide⟩

theorem test_meets_driveAbortWaitExpiry : ∃ (d : Cd) (bay : Fin 8) (cid : BitVec 16) (c : DrvCmd) (n : Nat) (s : State), s.cdUp (cdId d) = true ∧ (s.modeNow = 0xB && s.mode.rootsHeld) = false ∧
    s.drvCmd (cdId d) bay.val cid.toNat = some c ∧ c.abortAt = some n ∧ c.tries ≤ s.r c.die (.drv .CFG_retries) :=
  ⟨0, 3, 7, { die := 1, bay := 3, cid := 7, op := 1, owner := { kind := 2 }, abortAt := some 4 }, 4, { inMode 5 with drv := { cmds := [{ die := 1, bay := 3, cid := 7, op := 1, owner := { kind := 2 }, abortAt := some 4 }] } }, by decide⟩

theorem test_meets_healthPoll : ∃ (d : Cd) (bay : Fin 8) (s : State), s.cdUp (cdId d) = true ∧ (s.modeNow = 0xB && s.mode.rootsHeld) = false ∧
    s.r (cdId d) (.drv .B_STATE_state) bay.val = 6 ∧ s.discovers = true ∧ s.posOfBay (cdId d) bay.val = none ∧
    (s.advance ((s.drive (cdId d) bay.val).polledAt + 1000000000 * s.r (cdId d) (.drv .HEALTH_CFG_poll_s))).bgMay (cdId d) 4 = true :=
  ⟨0, 3, { bay_ 6 with bgw := [(1, { grant := [9, 9, 9, 9, 9, 9] })] }, by decide⟩

theorem test_meets_driveAsyncEvent : ∃ (d : Cd) (bay : Fin 8) (s : State), s.cdUp (cdId d) = true ∧ (s.modeNow = 0xB && s.mode.rootsHeld) = false ∧
    s.r (cdId d) (.drv .B_STATE_state) bay.val = 6 ∧ s.discovers = true ∧ s.posOfBay (cdId d) bay.val = none :=
  ⟨0, 3, bay_ 6, by decide⟩

theorem test_meets_drvLocateOn : ∃ (d : Cd) (s : State), s.cdUp (cdId d) = true :=
  ⟨0, up, by decide⟩

theorem test_meets_drvLocateOn_alt1 : ∃ (d : Cd) (bay : Fin 8) (s : State), s.cdUp (cdId d) = true ∧
    (s.rb mdId (.bay .B_STATE_driven) (shelfBay (cdId d) bay.val) = true) :=
  ⟨0, 3, with_ [(7, .bay .B_STATE_driven, 1, 3)], by decide⟩

theorem test_meets_drvLocateOff : ∃ (d : Cd) (s : State), s.cdUp (cdId d) = true :=
  ⟨0, up, by decide⟩

theorem test_meets_drvClaim : ∃ (q : Req) (d : Cd) (u : Nat) (s : State), s.cdUp (cdId d) = true ∧ q.secure = true ∧ s.drv.shelf = some u :=
  ⟨sec, 0, 9, { State.w (bay_ 6) 1 (.drv .B_STATE_class) 5 3 with drv := { shelf := some 9 } }, by decide⟩

theorem test_meets_drvClaim_alt1 : ∃ (q : Req) (d : Cd) (bay : Fin 8) (u : Nat) (s : State), s.cdUp (cdId d) = true ∧ q.secure = true ∧ s.drv.shelf = some u ∧
    (s.r (cdId d) (.drv .B_STATE_state) bay.val ≠ 6) :=
  ⟨sec, 0, 3, 9, { bay_ 5 with drv := { shelf := some 9 } }, by decide⟩

theorem test_meets_drvRestartDiscovery : ∃ (q : Req) (d : Cd) (s : State), s.cdUp (cdId d) = true ∧ q.secure = true :=
  ⟨sec, 0, bay_ 9, by decide⟩

theorem test_meets_drvSnapshot : ∃ (d : Cd) (s : State), s.cdUp (cdId d) = true :=
  ⟨0, up, by decide⟩

theorem test_meets_powerWarningAssert : ∃ (b : Bool) (s : State), s.rb mdId (.fls .STATUS_warning) = false ∧ b = true ∧ s.rb mdId (.fls .WARN_CFG_psu_enable) = true ∧ modeHasRow s.modeNow 3 = true :=
  ⟨true, inMode 5 [(7, .fls .WARN_CFG_psu_enable, 1, 0)], by decide⟩

theorem test_meets_powerWarningDeassert : ∃ (v : BitVec 16) (s : State), s.r mdId (.fls .WARN_CFG_v12_thr_mv) + 300 ≤ v.toNat :=
  ⟨12000, inMode 8 [(7, .fls .STATUS_warning, 1, 0), (7, .fls .STATUS_flush_done, 1, 0)], by decide⟩

theorem test_meets_holdupDeadlineExpiry : ∃ (s : State), s.modeNow = 8 ∧ s.r mdId (.fls .BUDGET_holdup_ms) ≠ 0 :=
  ⟨inMode 8 [(7, .fls .BUDGET_holdup_ms, 20, 0)], by decide⟩

theorem test_meets_flsBudgetWrite : ∃ (q : Req) (a : BitVec 12) (b : BitVec 16), (q.secure = true ∧ (a.toNat = 0 ∨ (5 ≤ a.toNat ∧ a.toNat ≤ 1000)) ∧ (b.toNat = 0 ∨ (500 ≤ b.toNat ∧ b.toNat ≤ 16000))) :=
  ⟨sec, 5, 16000, by decide⟩

theorem test_meets_flushRecordWriteComplete : ∃ (d : Cd) (bay : Fin 8) (r : DrvResult) (s : State), s.cdUp (cdId d) = true ∧ s.modeNow ≠ 0xB ∧
    between 1 (s.r (cdId d) (.fls .CH_STATUS_state)) 5 = true ∧ r.ok = false ∧
    s.drv.results.find? (fun r => r.die = cdId d && r.owner.kind = 12 && (if r.owner.a = 2 then (s.fl (cdId d)).queue.any (fun x => x.recSeq = r.owner.b && x.bay = bay.val) else r.owner.b = bay.val)) = some r :=
  ⟨0, 3, { die := 1, owner := { kind := 12, a := 1, b := 3 }, pos := 0, lba := 0, op := 1, ok := false }, { inMode 8 [(1, .fls .CH_STATUS_state, 2, 0)] with drv := { results := [{ die := 1, owner := { kind := 12, a := 1, b := 3 }, pos := 0, lba := 0, op := 1, ok := false }] }, fls := { dies := [(1, { members := [3, 4] })] } }, by decide⟩

theorem test_meets_channelStart : ∃ (d : Cd) (b : ChannelBand) (s : State), s.cdUp (cdId d) = true ∧ s.modeNow ≠ 0xB ∧
    s.modeNow = 3 ∧ s.chanFailed (cdId d) = false ∧ (s.sp (cdId d)).ring = [] ∧ (s.sp (cdId d)).index = [] ∧ b.sets = [] ∧ b.reshapes = [] ∧ s.img.active = none ∧ b.groups = [] :=
  ⟨0, {}, inMode 3, by decide⟩

theorem test_meets_gcmOpenResult : ∃ (d : Cd) (g : BitVec 16) (o : Nat × Nat × Nat) (s : State), s.cdUp (cdId d) = true ∧ s.modeNow ≠ 0xB ∧
    s.modeNow = 9 ∧ (s.fl (cdId d)).opens.find? (fun o => o.1 = g.toNat) = some o :=
  ⟨0, 7, (7, 1, 2), { inMode 9 with fls := { dies := [(1, { opens := [(7, 1, 2)] })] } }, by decide⟩

theorem test_meets_replayComplete : ∃ (d : Cd) (s : State), s.cdUp (cdId d) = true ∧ s.modeNow ≠ 0xB ∧
    s.modeNow = 9 ∧ (s.fl (cdId d)).started = true ∧ (s.fl (cdId d)).replayed = false ∧ (s.fl (cdId d)).opens = [] :=
  ⟨0, { inMode 9 with fls := { dies := [(1, { started := true })] } }, by decide⟩

theorem test_meets_flsSnapshot : ∃ (d : DieId) (s : State), s.hasDie d.val = true ∧ d.val ≠ 0 :=
  ⟨7, up, by decide⟩

theorem test_meets_partnerFrameReceived : ∃ (i : Nat) (s : State), s.partnerLink = true ∧ s.pair.openPhase = 0 ∧ s.r 0 (.cip .GSLOT_CTR) 2 < i :=
  ⟨1, pr, by decide⟩

theorem test_meets_partnerFrameReceived_alt1 : ∃ (i : Nat) (tag : Bool) (s : State), s.partnerLink = true ∧ s.pair.openPhase = 0 ∧ s.r 0 (.cip .GSLOT_CTR) 2 < i ∧
    (tag = false) :=
  ⟨1, false, pr, by decide⟩

theorem test_meets_partnerLinkAckSend : ∃ (s : State), s.authenticated = true :=
  ⟨pr, by decide⟩

theorem test_meets_heartbeatSend : ∃ (s : State), s.authenticated = true :=
  ⟨pr, by decide⟩

theorem test_meets_heartbeatReceived : ∃ (s : State), s.authenticated = true ∧ s.modeNow ≠ 4 ∧ s.modeNow ≠ 5 :=
  ⟨pr 6, by decide⟩

theorem test_meets_partnerLost : ∃ (c : Fin 6) (s : State), (s.pair.seen = true ∧ (c.val = 3 ∨ c.val = 4) ∧ s.modeNow ≠ 5) :=
  ⟨3, pr 6 [] { seen := true }, by decide⟩

theorem test_meets_helloSend : ∃ (s : State), (s.modeNow = 4 || s.modeNow = 5 || s.modeNow = 6) = true ∧ s.partnerLink = true ∧ s.authenticated = false :=
  ⟨State.w (pr 4) 0 (.pair .LINK_STATUS_authenticated) 0, by decide⟩

theorem test_meets_helloReceived : ∃ (s : State), s.partnerLink = true ∧ s.paired = true :=
  ⟨pr 4, by decide⟩

theorem test_meets_authenticationReceived : ∃ (s : State), s.pair.hello.isNone = false ∧ s.partnerLink = true ∧ s.paired = true ∧ s.modeNow = 4 :=
  ⟨pr 4 [] { hello := some {} }, by decide⟩

theorem test_meets_authenticationReceived_alt1 : ∃ (a : Bool) (b : Bool) (c : Bool) (s : State), s.pair.hello.isNone = false ∧ s.partnerLink = true ∧ s.paired = true ∧ s.modeNow = 4 ∧
    ((a && b && c) = false) :=
  ⟨true, false, true, pr 4 [] { hello := some {} }, by decide⟩

theorem test_meets_keyReportReceived : ∃ (s : State), s.authenticated = true :=
  ⟨pr 4, by decide⟩

theorem test_meets_acquisitionStateReceived : ∃ (s : State), s.authenticated = true :=
  ⟨pr 4, by decide⟩

theorem test_meets_rekeyPhaseStart : ∃ (s : State), s.authenticated = true ∧ s.pair.rekey = false :=
  ⟨pr, by decide⟩

theorem test_meets_rekeyAnnounceReceived : ∃ (p : Nat) (s : State), s.authenticated = true ∧ p = s.pair.openPhase + 1 :=
  ⟨1, pr, by decide⟩

theorem test_meets_rekeyAckReceived : ∃ (p : Nat) (s : State), s.authenticated = true ∧ s.pair.rekey = true ∧ p = s.pair.sealPhase + 1 :=
  ⟨1, pr 5 [] { rekey := true }, by decide⟩

theorem test_meets_replicatedFrameReceived : ∃ (d : Cd) (p : RdmaPkt) (s : State), s.cdUp (cdId d) = true ∧ s.modeNow ≠ 0xB ∧
    s.modeNow = 6 ∧ (s.conn (cdId d) (connIdx p.qp)).state = 5 ∧ (s.conn (cdId d) (connIdx p.qp)).gen = connGen p.qp ∧ p.icrcOk = true ∧ p.errMark = false ∧
    (s.conn (cdId d) (connIdx p.qp)).f.flags.testBit 0 = false ∧ (s.conn (cdId d) (connIdx p.qp)).msg = none ∧ (s.conn (cdId d) (connIdx p.qp)).credits ≠ 0 ∧
    p.opcode = 4 ∧ p.psn = (s.conn (cdId d) (connIdx p.qp)).epsn ∧ p.psn < 2 ^ 24 :=
  ⟨0, { qp := 0x1005, opcode := 4, psn := 7 }, { inMode 6 with rdx := (cn { state := 5, epsn := 7, credits := 1 }).rdx }, by decide⟩

theorem test_meets_carriedDataReceived : ∃ (d : Cd) (n : Nat) (s : State), s.cdUp (cdId d) = true ∧ s.modeNow ≠ 0xB ∧
    s.modeNow = 6 ∧ (s.sp (cdId d)).incoming.find? (fun m => m.c.seq = n && !m.located) = none :=
  ⟨0, 7, inMode 6, by decide⟩

theorem test_meets_tableEventReceived : ∃ (d : Cd) (n : Nat) (s : State), s.cdUp (cdId d) = true ∧ s.modeNow ≠ 0xB ∧
    s.modeNow = 6 ∧ n = ((alGet s.pair.tableSeq (cdId d)).getD 0) + 1 ∧ n < 2 ^ 32 :=
  ⟨0, 1, inMode 6, by decide⟩

theorem test_meets_seedFrameReceived : ∃ (d : Cd) (c : Crumb) (s : State), s.cdUp (cdId d) = true ∧ s.modeNow ≠ 0xB ∧
    s.modeNow = 4 ∧ s.pair.seeded = true ∧ c.kind = 4 :=
  ⟨0, { kind := 4, seq := 7 }, pr 4 [] { seeded := true }, by decide⟩

theorem test_meets_pralineTransferReceived : ∃ (s : State), s.modeNow = 4 ∧ s.pair.seeded = true :=
  ⟨{ pr 4 [] { seeded := true } with drv := { shelf := some 9 } }, by decide⟩

theorem test_meets_pralineTransferReceived_alt1 : ∃ (u : Nat) (s : State), s.modeNow = 4 ∧ s.pair.seeded = true ∧
    (s.drv.shelf ≠ some u) :=
  ⟨8, { pr 4 [] { seeded := true } with drv := { shelf := some 9 } }, by decide⟩

theorem test_meets_reseedComplete : ∃ (s : State), s.modeNow = 4 ∧ s.pair.seeded = true ∧ s.pair.paired = true ∧
    (s.cds.filter (fun c => s.cdUp (cdId c))).all (fun c => (s.sp (cdId c)).incoming.isEmpty && decide ((s.sp (cdId c)).ackSent ≤ s.r (cdId c) (.spg .MIRROR_ACK))) = true :=
  ⟨pr 4 [] { seeded := true, paired := true }, by decide⟩

theorem test_meets_leaseRenewalTick : ∃ (s : State), s.pair.tickDue = true ∧ s.renews = true :=
  ⟨pr 5 [] { tickDue := true }, by decide⟩

theorem test_meets_leaseKick : ∃ (q : Req), q.secure = true :=
  ⟨sec, by decide⟩

theorem test_meets_leaseAcquisitionWrite : ∃ (d : Cd) (bay : Fin 8) (s : State), (s.leaseDrives.contains (cdId d, bay.val) && s.mayAcquire && !(s.lease (cdId d) bay.val).acquired && (s.lease (cdId d) bay.val).flights.isEmpty && (s.lease (cdId d) bay.val).read && (s.lease (cdId d) bay.val).free) = true :=
  ⟨0, 3, { pr 7 [(1, .drv .B_STATE_state, 6, 3), (1, .drv .B_STATE_class, 1, 3), (7, .pair .LEASE_CFG_duration_ms, 1000, 0), (0, .tim .STATE_state, 2, 0)] { leases := [((1, 3), { read := true, free := true })] } with tim := { counters := [(7, { set := true })], eAnchor := 0 } }, by decide⟩

theorem test_meets_leaseSlotWriteComplete : ∃ (d : Cd) (bay : Fin 8) (n : Nat) (e : Nat) (f : Bool) (l : List (Nat × Nat × Bool)) (r : DrvResult) (s : State), (s.lease (cdId d) bay.val).flights = (n, e, f) :: l ∧ (s.drvResults (cdId d) { kind := 10, a := 0, b := n }).head? = some r ∧ r.gated = false :=
  ⟨0, 3, 1, 9, false, [], { die := 1, owner := { kind := 10, a := 0, b := 1 }, pos := 0, lba := 0, op := 1, ok := true }, { pr 5 [] { leases := [((1, 3), { flights := [(1, 9, false)] })] } with drv := { results := [{ die := 1, owner := { kind := 10, a := 0, b := 1 }, pos := 0, lba := 0, op := 1, ok := true }] } }, by decide⟩

theorem test_meets_leaseSlotWriteComplete_alt1 : ∃ (d : Cd) (bay : Fin 8) (n : Nat) (e : Nat) (f : Bool) (l : List (Nat × Nat × Bool)) (r : DrvResult) (s : State), (s.lease (cdId d) bay.val).flights = (n, e, f) :: l ∧ (s.drvResults (cdId d) { kind := 10, a := 0, b := n }).head? = some r ∧ r.gated = false ∧
    (r.ok = false) :=
  ⟨0, 3, 1, 9, false, [], { die := 1, owner := { kind := 10, a := 0, b := 1 }, pos := 0, lba := 0, op := 1, ok := false }, { pr 5 [] { leases := [((1, 3), { flights := [(1, 9, false)] })] } with drv := { results := [{ die := 1, owner := { kind := 10, a := 0, b := 1 }, pos := 0, lba := 0, op := 1, ok := false }] } }, by decide⟩

theorem test_meets_hardwareLeaseTimerFire : ∃ (s : State), s.rb mdId (.pair .STATUS_claim_granted) = true ∧ s.modeNow = 5 ∧
    (s.reachTs mdId (s.r mdId (.pair .DROP))).leaseEval.r mdId (.pair .DROP) ≤ (s.reachTs mdId (s.r mdId (.pair .DROP))).leaseEval.ts64 mdId :=
  ⟨pr 5 [(7, .pair .STATUS_claim_granted, 1, 0)], by decide⟩

theorem test_meets_partnerSlotRead : ∃ (d : Nat) (b : Nat) (s : State), (!(between 3 s.modeNow 0xA) || s.modeNow = 8) = false ∧ s.leaseDrives = [(d, b)] :=
  ⟨1, 3, pr 5 [(1, .drv .B_STATE_state, 6, 3), (1, .drv .B_STATE_class, 1, 3)], by decide⟩

theorem test_meets_partnerSlotReadComplete : ∃ (d : Cd) (bay : Fin 8) (r : DrvResult) (s : State), s.drvQuiet (cdId d) { kind := 10, a := 1, b := bay.val } = true ∧ s.drvQuiet (cdId d) { kind := 10, a := 2, b := bay.val } = true ∧
    (s.drvResults (cdId d) { kind := 10, a := 1, b := bay.val }).getLast? = some r ∧ r.ok = false :=
  ⟨0, 3, { die := 1, owner := { kind := 10, a := 1, b := 3 }, pos := 0, lba := 0, op := 0, ok := false }, { pr 5 with drv := { results := [{ die := 1, owner := { kind := 10, a := 1, b := 3 }, pos := 0, lba := 0, op := 0, ok := false }] } }, by decide⟩

theorem test_meets_interlockClaimWindowEnd : ∃ (n : Nat) (s : State), s.pair.claimAt = some n ∧ s.rb mdId (.pair .STATUS_claim_granted) = false ∧ s.modeNow = 5 :=
  ⟨4, pr 5 [] { claimAt := some 4 }, by decide⟩

theorem test_meets_interlockInAssert : ∃ (s : State), s.pair.claimAt.isSome = true ∧ s.rb mdId (.pair .STATUS_claim_granted) = false ∧ s.modeNow ≠ 0xB ∧ s.pair.retries < 8 :=
  ⟨pr 4 [] { claimAt := some 4 }, by decide⟩

theorem test_meets_interlockClaimRetry : ∃ (n : Nat) (s : State), s.pair.retryAt = some n ∧ s.rb mdId (.pair .STATUS_majority) = true ∧ s.modeNow = 4 ∧ s.pair.claimAt = none ∧ s.pair.exhausted = false :=
  ⟨9, pr 4 [(7, .pair .STATUS_majority, 1, 0)] { retryAt := some 9 }, by decide⟩

theorem test_meets_reservationFencingComplete : ∃ (d : Cd) (bay : Fin 8) (r : DrvResult) (s : State), s.pair.fencing.contains (cdId d, bay.val) = true ∧ s.drvQuiet (cdId d) { kind := 18, a := 0, b := bay.val } = true ∧ s.drvQuiet (cdId d) { kind := 18, a := 1, b := bay.val } = true ∧
    s.drvResults (cdId d) { kind := 18, a := 0, b := bay.val } = [] ∧ s.drvResults (cdId d) { kind := 18, a := 1, b := bay.val } = [r] :=
  ⟨0, 3, { die := 1, owner := { kind := 18, a := 1, b := 3 }, pos := 0, lba := 0, op := 3, ok := true }, { pr 4 [] { fencing := [(1, 3)] } with drv := { results := [{ die := 1, owner := { kind := 18, a := 1, b := 3 }, pos := 0, lba := 0, op := 3, ok := true }] } }, by decide⟩

theorem test_meets_reservationFencingComplete_alt1 : ∃ (d : Cd) (bay : Fin 8) (r : DrvResult) (s : State), s.pair.fencing.contains (cdId d, bay.val) = true ∧ s.drvQuiet (cdId d) { kind := 18, a := 0, b := bay.val } = true ∧ s.drvQuiet (cdId d) { kind := 18, a := 1, b := bay.val } = true ∧
    s.drvResults (cdId d) { kind := 18, a := 0, b := bay.val } = [] ∧ s.drvResults (cdId d) { kind := 18, a := 1, b := bay.val } = [r] ∧
    (r.ok = false) :=
  ⟨0, 3, { die := 1, owner := { kind := 18, a := 1, b := 3 }, pos := 0, lba := 0, op := 3, ok := false }, { pr 4 [] { fencing := [(1, 3)] } with drv := { results := [{ die := 1, owner := { kind := 18, a := 1, b := 3 }, pos := 0, lba := 0, op := 3, ok := false }] } }, by decide⟩

theorem test_meets_pairCmdClearStale : ∃ (q : Req), q.secure = true :=
  ⟨sec, by decide⟩

theorem test_meets_pairCmdHandover : ∃ (q : Req), q.secure = true :=
  ⟨sec, by decide⟩

theorem test_meets_pairCmdHandover_alt1 : ∃ (q : Req) (s : State), q.secure = true ∧
    (s.handoverOk = false) :=
  ⟨sec, pr 5, by decide⟩

theorem test_meets_pairCmdCancelHandover : ∃ (q : Req), q.secure = true :=
  ⟨sec, by decide⟩

theorem test_meets_partnerLossH0 : ∃ (s : State), s.pair.lossStage = 1 ∧ s.modeNow = 5 :=
  ⟨pr 5 [] { lossStage := 1 }, by decide⟩

theorem test_meets_partnerLossUnmirror : ∃ (s : State), s.pair.lossStage = 3 ∧ s.modeNow = 5 :=
  ⟨pr 5 [(7, .pair .STATUS_mirror, 1, 0)] { lossStage := 3 }, by decide⟩

theorem test_meets_takeoverMajorityTimeout : ∃ (s : State), s.modeNow = 7 :=
  ⟨pr 7, by decide⟩

theorem test_meets_handoverRequestReceived : ∃ (s : State), s.modeNow = 6 ∧ s.authenticated = true ∧ s.rb mdId (.pair .STATUS_stale) = false ∧ s.rb mdId (.pair .STATUS_seeding) = false :=
  ⟨pr 6, by decide⟩

theorem test_meets_handoverAcceptReceived : ∃ (s : State), s.modeNow = 5 ∧ s.pair.ho = 1 :=
  ⟨pr 5 [] { ho := 1 }, by decide⟩

theorem test_meets_handoverAnswerTimeout : ∃ (s : State), s.pair.ho = 1 ∧ s.pair.hoMaint = false :=
  ⟨pr 5 [] { ho := 1 }, by decide⟩

theorem test_meets_handoverQuiesced : ∃ (s : State), s.modeNow = 5 ∧ s.pair.ho = 2 ∧ (s.cds.map cdId).filter s.cdUp = [] :=
  ⟨{ pr 5 [] { ho := 2 } with channels := 0 }, by decide⟩

theorem test_meets_handoverGoReceived : ∃ (s : State), s.modeNow = 6 ∧ s.authenticated = true :=
  ⟨pr 6, by decide⟩

theorem test_meets_handoverDoneReceived : ∃ (s : State), s.modeNow = 5 ∧ s.pair.ho = 3 :=
  ⟨pr 5 [] { ho := 3 }, by decide⟩

theorem test_meets_pairSnapshot : ∃ (d : DieId) (s : State), s.hasDie d.val = true :=
  ⟨7, up, by decide⟩

theorem test_meets_gateOfferReceived : ∃ (s : State), s.authenticated = true ∧ s.bayRuns = true :=
  ⟨pr, by decide⟩

theorem test_meets_gateReleaseHoldExpiry : ∃ (n : Nat) (t0 : Nat) (rest : List (Nat × Nat)) (s : State), s.pair.gateHeld = (n, t0) :: rest ∧ s.modeNow ≠ 0xB :=
  ⟨3, 50, [(4, 60)], { pr with pair := { gateHeld := [(3, 50), (4, 60)] } }, by decide⟩

theorem test_meets_gateReleasedReceived : ∃ (bay : Fin 48) (s : State), s.bayRuns = true ∧ bay.val < 8 * s.channels ∧ s.bay.offering = false ∧
    s.pair.gateOffers.contains bay.val = true ∧ s.bayDriven bay.val = false :=
  ⟨3, pr 5 [] { gateOffers := [3, 4] }, by decide⟩

theorem test_meets_gateTakenReceived : ∃ (mask : BitVec 48) (bay : Fin 48) (s : State), s.bayRuns = true ∧ bay.val < 8 * s.channels ∧ s.bay.offering = false ∧
    mask.toNat.testBit bay.val = true ∧ s.bayDriven bay.val = false ∧ s.r mdId (.bay .B_STATE_owned) bay.val = 1 ∧ s.r mdId (.bay .B_STATE_seated) bay.val = 1 :=
  ⟨8, 3, State.w (by_ 5) 7 (.bay .B_STATE_driven) 0 3, by decide⟩

theorem test_meets_gateWatchSample : ∃ (bay : Fin 48) (s : State), s.bayRuns = true ∧ bay.val < 8 * s.channels ∧ s.bay.offering = false ∧
    s.modeNow ≠ 0xB ∧ s.bayDriven bay.val = false ∧ s.r mdId (.bay .B_STATE_held_sense) bay.val = 1 :=
  ⟨3, pr 5 [(7, .bay .B_STATE_held_sense, 1, 3)], by decide⟩

theorem test_meets_gateWatchSample_alt1 : ∃ (held : BitVec 48) (bay : Fin 48) (s : State), s.bayRuns = true ∧ bay.val < 8 * s.channels ∧ s.bay.offering = false ∧
    s.modeNow ≠ 0xB ∧ s.bayDriven bay.val = false ∧ s.r mdId (.bay .B_STATE_held_sense) bay.val = 1 ∧
    (held.toNat.testBit bay.val = true) :=
  ⟨8, 3, pr 5 [(7, .bay .B_STATE_held_sense, 1, 3)], by decide⟩

theorem test_meets_gateGuardDischarge : ∃ (bay : Fin 48) (l : Nat) (s : State), (s.bayR bay.val).guard_ = some l :=
  ⟨3, 9000, by_ 5 [] { guard_ := some 9000 }, by decide⟩

theorem test_meets_gateGuardDischarge_alt1 : ∃ (bay : Fin 48) (v : BitVec 16) (o : BitVec 16) (l : Nat) (s : State), (s.bayR bay.val).guard_ = some l ∧
    (v.toNat < o.toNat + 2000) :=
  ⟨3, 1999, 0, 9000, by_ 5 [] { guard_ := some 9000 }, by decide⟩

theorem test_meets_gateGuardDischarge_alt2 : ∃ (bay : Fin 48) (v : BitVec 16) (o : BitVec 16) (l : Nat) (s : State), (s.bayR bay.val).guard_ = some l ∧
    (o.toNat + 2000 ≤ v.toNat) ∧ (l ≤ v.toNat + 300) :=
  ⟨3, 8700, 0, 9000, by_ 5 [] { guard_ := some 9000 }, by decide⟩

theorem test_meets_sidebandScan : ∃ (bay : Fin 48) (s : State), s.bayRuns = true ∧ bay.val < 8 * s.channels :=
  ⟨3, inMode 5, by decide⟩

theorem test_meets_sidebandScan_alt1 : ∃ (m : Bool) (bay : Fin 48) (s : State), s.bayRuns = true ∧ bay.val < 8 * s.channels ∧
    (m = false) ∧
    (m = false) ∧ (s.bay.chainBad = 2) :=
  ⟨false, 3, { inMode 5 with bay := { chainBad := 2 } }, by decide⟩

theorem test_meets_seatDebounceExpiry : ∃ (bay : Fin 48) (s : State), s.bayRuns = true ∧ bay.val < 8 * s.channels ∧ s.bay.offering = false ∧
    s.modeNow ≠ 0xB ∧ (s.bayR bay.val).contact = true ∧ (s.bayR bay.val).latched = false ∧ (s.bayR bay.val).timer = none ∧ s.r mdId (.bay .B_STATE_seated) bay.val = 0 ∧ s.r mdId (.bay .B_STATE_held_sense) bay.val = 0 :=
  ⟨3, State.w (by_ 1 [] { contact := true }) 7 (.bay .B_STATE_seated) 0 3, by decide⟩

theorem test_meets_bayRampStart : ∃ (bay : Fin 48) (s : State), s.bayRuns = true ∧ bay.val < 8 * s.channels ∧ s.bay.offering = false ∧
    s.bayHeld = false ∧ s.bayCount (fun n => s.baySt n = 4) < s.r mdId (.bay .CFG_SENSE_stagger_max) ∧ s.bays.find? s.bayMay = some bay.val ∧
    (2000 ≤ s.r mdId (.bay .B_MEAS_vout_mv) bay.val && (s.bayR bay.val).pre.isNone) = false :=
  ⟨3, by_ 3 [(7, .bay .STATUS_chain_ok, 1, 0), (7, .bay .STATUS_vgd_ok, 1, 0)], by decide⟩

theorem test_meets_bayLoopStep : ∃ (bay : Fin 48) (s : State), s.bayRuns = true ∧ bay.val < 8 * s.channels ∧ s.bay.offering = false ∧
    (s.bayDriven bay.val = true ∧ ((s.baySt bay.val) = 4 ∨ (s.baySt bay.val) = 5 ∨ (s.baySt bay.val) = 6)) :=
  ⟨3, by_ 5, by decide⟩

theorem test_meets_bayPowerGood : ∃ (bay : Fin 48) (s : State), s.bayRuns = true ∧ bay.val < 8 * s.channels ∧ s.bay.offering = false ∧
    s.r mdId (.bay .B_STATE_seated) bay.val = 1 ∧ s.r mdId (.bay .B_STATE_pg) bay.val = 0 :=
  ⟨3, by_ 4, by decide⟩

theorem test_meets_bayPowerGoodLoss : ∃ (bay : Fin 48) (s : State), s.bayRuns = true ∧ bay.val < 8 * s.channels ∧ s.bay.offering = false ∧
    s.r mdId (.bay .B_STATE_pg) bay.val = 1 :=
  ⟨3, by_ 5 [(7, .bay .B_STATE_pg, 1, 3)], by decide⟩

theorem test_meets_bayCmdOn : ∃ (bay : BitVec 6) (s : State), s.bayRuns = true ∧ bay.toNat < 8 * s.channels ∧ s.bay.offering = false ∧
    (s.bayMine bay.toNat = true ∧ (s.baySt bay.toNat = 2 ∨ s.baySt bay.toNat = 8)) :=
  ⟨3, by_ 8, by decide⟩

theorem test_meets_bayCmdOn_alt1 : ∃ (q : Req) (bay : BitVec 6) (s : State), s.bayRuns = true ∧ bay.toNat < 8 * s.channels ∧ s.bay.offering = false ∧
    (s.bayMine bay.toNat = true ∧ (s.baySt bay.toNat = 2 ∨ s.baySt bay.toNat = 8)) ∧
    (q.secure = false) :=
  ⟨nonsec, 3, by_ 8, by decide⟩

theorem test_meets_bayCmdOff : ∃ (q : Req) (bay : BitVec 6) (s : State), s.bayRuns = true ∧ bay.toNat < 8 * s.channels ∧ s.bay.offering = false ∧
    (q.secure = true ∧ (s.baySt bay.toNat = 5 ∨ s.baySt bay.toNat = 6)) :=
  ⟨sec, 3, by_ 5, by decide⟩

theorem test_meets_bayCmdOff_alt1 : ∃ (q : Req) (bay : BitVec 6) (s : State), s.bayRuns = true ∧ bay.toNat < 8 * s.channels ∧ s.bay.offering = false ∧
    (q.secure = true ∧ (s.baySt bay.toNat = 5 ∨ s.baySt bay.toNat = 6)) ∧
    (s.bayMine bay.toNat = false) :=
  ⟨sec, 3, State.w (by_ 5) 7 (.bay .B_STATE_owned) 0 3, by decide⟩

theorem test_meets_bayEpwLeadExpiry : ∃ (bay : Fin 48) (s : State), s.bayRuns = true ∧ bay.val < 8 * s.channels ∧ s.bay.offering = false ∧
    (s.baySt bay.val) = 7 :=
  ⟨3, by_ 7 [(7, .bay .B_STATE_epw, 1, 3)], by decide⟩

theorem test_meets_vgdLow : ∃ (s : State), s.bayRuns = true ∧ s.r mdId (.bay .STATUS_vgd_ok) = 1 :=
  ⟨inMode 5 [(7, .bay .STATUS_vgd_ok, 1, 0)], by decide⟩

theorem test_meets_vgdOkRestored : ∃ (s : State), s.bayRuns = true :=
  ⟨inMode 5, by decide⟩

theorem test_meets_bayFastTrip : ∃ (bay : Fin 48) (s : State), s.bayRuns = true ∧ bay.val < 8 * s.channels ∧ s.bay.offering = false ∧
    s.bayLive bay.val = true :=
  ⟨3, by_ 4, by decide⟩

theorem test_meets_bayShortAtStart : ∃ (bay : Fin 48) (s : State), s.bayRuns = true ∧ bay.val < 8 * s.channels ∧ s.bay.offering = false ∧
    (s.baySt bay.val) = 4 :=
  ⟨3, by_ 4, by decide⟩

theorem test_meets_bayGateNotRising : ∃ (bay : Fin 48) (s : State), s.bayRuns = true ∧ bay.val < 8 * s.channels ∧ s.bay.offering = false :=
  ⟨3, by_ 5, by decide⟩

theorem test_meets_bayGateNotRising_alt1 : ∃ (bay : Fin 48) (s : State), s.bayRuns = true ∧ bay.val < 8 * s.channels ∧ s.bay.offering = false ∧
    ((¬ ((s.baySt bay.val) = 4 ∨ (s.baySt bay.val) = 5 ∨ (s.baySt bay.val) = 6))) :=
  ⟨3, by_ 7, by decide⟩

theorem test_meets_bayRampTimeout : ∃ (bay : Fin 48) (s : State), s.bayRuns = true ∧ bay.val < 8 * s.channels ∧ s.bay.offering = false ∧
    (s.baySt bay.val) = 4 :=
  ⟨3, by_ 4, by decide⟩

theorem test_meets_fetThermalUpdate : ∃ (bay : Fin 48) (s : State), s.bayRuns = true ∧ bay.val < 8 * s.channels ∧ s.bay.offering = false ∧
    s.bayLive bay.val = true ∧ s.r mdId (.bay .CFG_THERM_mode) = 0 ∧ s.r mdId (.bay .B_MEAS_i_ma) bay.val = 0 ∧ (s.bayR bay.val).d = 0 :=
  ⟨3, by_ 5, by decide⟩

theorem test_meets_fetThermalUpdate_alt1 : ∃ (bay : Fin 48) (s : State), s.bayRuns = true ∧ bay.val < 8 * s.channels ∧ s.bay.offering = false ∧
    s.bayLive bay.val = true ∧ s.r mdId (.bay .CFG_THERM_mode) = 0 ∧ s.r mdId (.bay .B_MEAS_i_ma) bay.val = 0 ∧ (s.bayR bay.val).d = 0 ∧
    (s.r mdId (.bay .CFG_THERM_fet_max_c) ≤ s.r mdId (.bay .CFG_THERM2_ambient_c)) :=
  ⟨3, by_ 5 [(7, .bay .CFG_THERM2_ambient_c, 100, 0), (7, .bay .CFG_THERM_fet_max_c, 100, 0)], by decide⟩

theorem test_meets_thermistorSample : ∃ (bay : Fin 48) (s : State), s.bayRuns = true ∧ bay.val < 8 * s.channels ∧ s.bay.offering = false ∧
    s.bayLive bay.val = true ∧ s.r mdId (.bay .CFG_THERM_mode) = 1 ∧ s.r mdId (.bay .B_THERM_therm_fault) bay.val = 0 :=
  ⟨3, by_ 5 [(7, .bay .CFG_THERM_mode, 1, 0)], by decide⟩

theorem test_meets_thermistorSample_alt1 : ∃ (bay : Fin 48) (h : Int) (s : State), s.bayRuns = true ∧ bay.val < 8 * s.channels ∧ s.bay.offering = false ∧
    s.bayLive bay.val = true ∧ s.r mdId (.bay .CFG_THERM_mode) = 1 ∧ s.r mdId (.bay .B_THERM_therm_fault) bay.val = 0 ∧
    (h < -80) ∧ ((s.bayR bay.val).thermBad = 9) :=
  ⟨3, -81, by_ 5 [(7, .bay .CFG_THERM_mode, 1, 0)] { thermBad := 9 }, by decide⟩

theorem test_meets_bayBackoffExpiry : ∃ (bay : Fin 48) (t0 : Nat) (s : State), s.bayRuns = true ∧ bay.val < 8 * s.channels ∧ s.bay.offering = false ∧
    (s.baySt bay.val) = 8 ∧ s.modeNow ≠ 0xB ∧ (s.bayR bay.val).timer = some t0 ∧ s.bayWaitOver bay.val = true :=
  ⟨3, 50, by_ 8 [] { timer := some 50 }, by decide⟩

theorem test_meets_bayRetryCountClear : ∃ (bay : Fin 48) (s : State), s.bayRuns = true ∧ bay.val < 8 * s.channels ∧ s.bay.offering = false ∧
    ((s.baySt bay.val) = 5 ∨ (s.baySt bay.val) = 6) :=
  ⟨3, by_ 5 [] { n := 2 }, by decide⟩

theorem test_meets_bayPrechargeTimeout : ∃ (bay : Fin 48) (t0 : Nat) (s : State), s.bayRuns = true ∧ bay.val < 8 * s.channels ∧ s.bay.offering = false ∧
    (s.baySt bay.val) = 3 ∧ (s.bayR bay.val).pre = some t0 :=
  ⟨3, 50, by_ 3 [] { pre := some 50 }, by decide⟩

theorem test_meets_bayCmdClearRetries : ∃ (q : Req) (bay : BitVec 6) (s : State), s.bayRuns = true ∧ bay.toNat < 8 * s.channels ∧ s.bay.offering = false ∧
    q.secure = true ∧ s.modeNow ≠ 0xB :=
  ⟨sec, 3, by_ 9 [] { n := 4, latched := true }, by decide⟩

theorem test_meets_epCcEnable : ∃ (fn : Fin 64) (s : State), 3 ≤ s.modeNow ∧ s.fnExists fn.val = true ∧
    s.r 0 (.epf .F_STATE_cc_en) fn.val = 0 ∧ s.r 0 (.epf .F_STATE_stopping) fn.val = 0 ∧ s.r 0 (.epf .F_STATE_dstate) fn.val = 0 :=
  ⟨2, State.w (State.w fn_ 0 (.epf .F_STATE_cc_en) 0 2) 0 (.epf .F_STATE_rdy) 0 2, by decide⟩

theorem test_meets_epCcEnable_alt1 : ∃ (fn : Fin 64) (i : Nat) (c : Nat) (m : Nat) (a : Nat) (s : State), 3 ≤ s.modeNow ∧ s.fnExists fn.val = true ∧
    s.r 0 (.epf .F_STATE_cc_en) fn.val = 0 ∧ s.r 0 (.epf .F_STATE_stopping) fn.val = 0 ∧ s.r 0 (.epf .F_STATE_dstate) fn.val = 0 ∧
    ((i ≠ 6 ∨ c ≠ 4 ∨ m ≠ 0 ∨ a ≠ 0)) :=
  ⟨2, 5, 4, 0, 0, State.w (State.w fn_ 0 (.epf .F_STATE_cc_en) 0 2) 0 (.epf .F_STATE_rdy) 0 2, by decide⟩

theorem test_meets_epCcDisable : ∃ (fn : Fin 64) (s : State), 3 ≤ s.modeNow ∧ s.fnExists fn.val = true ∧
    s.r 0 (.epf .F_STATE_cc_en) fn.val = 1 :=
  ⟨2, fn_ (aq_ {}), by decide⟩

theorem test_meets_epShutdown : ∃ (fn : Fin 64) (n : BitVec 2) (s : State), 3 ≤ s.modeNow ∧ s.fnExists fn.val = true ∧
    (s.r 0 (.epf .F_STATE_cc_en) fn.val = 1 ∧ s.r 0 (.epf .F_STATE_stopping) fn.val = 0 ∧ s.r 0 (.epf .F_STATE_shst) fn.val = 0 ∧ (n = 1 ∨ n = 2)) :=
  ⟨2, 1, fn_, by decide⟩

theorem test_meets_epShutdownComplete : ∃ (fn : Fin 64) (s : State), 3 ≤ s.modeNow ∧ s.r 0 (.epf .F_STATE_shst) fn.val = 1 ∧ s.ep.stopped.contains fn.val = false ∧ s.r 0 (.epf .F_STATE_in_flight) fn.val = 0 :=
  ⟨2, fn_ {} [(0, .epf .F_STATE_shst, 1, 2)], by decide⟩

theorem test_meets_epSqDoorbell : ∃ (fn : Fin 64) (y : Fin 64) (q : EpQueue) (s : State), 3 ≤ s.modeNow ∧ s.fnRuns fn.val = true ∧ s.r 0 (.epf .F_STATE_dstate) fn.val = 0 ∧ s.epSq fn.val y.val = some q :=
  ⟨2, 0, { fn := 2, qid := 0, size := 4 }, fn_ (aq_ {}), by decide⟩

theorem test_meets_epSqDoorbell_alt1 : ∃ (fn : Fin 64) (y : Fin 64) (tail : BitVec 16) (q : EpQueue) (s : State), 3 ≤ s.modeNow ∧ s.fnRuns fn.val = true ∧ s.r 0 (.epf .F_STATE_dstate) fn.val = 0 ∧ s.epSq fn.val y.val = some q ∧
    (q.size ≤ tail.toNat) :=
  ⟨2, 0, 4, { fn := 2, qid := 0, size := 4 }, fn_ (aq_ {}), by decide⟩

theorem test_meets_epCqDoorbell : ∃ (fn : Fin 64) (y : Fin 64) (hd : BitVec 16) (c : EpCmd) (q : EpQueue) (x : EpQueue) (s : State), 3 ≤ s.modeNow ∧ s.fnRuns fn.val = true ∧ s.r 0 (.epf .F_STATE_dstate) fn.val = 0 ∧ s.epCq fn.val y.val = some x ∧
    s.ep.cmds = [c] ∧ c.st = 4 ∧ c.fn = fn.val ∧ c.chain = none ∧ s.epSq fn.val c.sq = some q ∧ q.cq = y.val ∧
    hd.toNat < x.size ∧ (x.tail + 1) % x.size ≠ hd.toNat :=
  ⟨2, 0, 1, { tok := 9, fn := 2, sq := 0, st := 4 }, { fn := 2, qid := 0, size := 4 }, { fn := 2, qid := 0, size := 2, tail := 1 }, fn_ { sqs := [{ fn := 2, qid := 0, size := 4 }], cqs := [{ fn := 2, qid := 0, size := 2, tail := 1 }], cmds := [{ tok := 9, fn := 2, sq := 0, st := 4 }] }, by decide⟩

theorem test_meets_epCreateIoSq : ∃ (fn : Fin 64) (cid : BitVec 16) (c : EpCmd) (y : Nat) (z : Nat) (cq : Nat) (s : State), 3 ≤ s.modeNow ∧ s.ep.cmds.find? (fun c => c.fn = fn.val && c.sq = 0 && c.st = 5 && c.cap.cid = cid.toNat && c.cap.opcode =  1) = some c ∧
    y = c.cap.cdw10 % 65536 ∧ z = c.cap.cdw10 / 65536 + 1 ∧ cq = c.cap.cdw11 / 65536 ∧ c.cap.cdw11 % 2 = 1 ∧
    0 < y ∧ y ≤ 63 ∧ s.epSq fn.val y = none ∧ 0 < cq ∧ cq ≤ 63 ∧ (s.epCq fn.val cq).isSome = true ∧ 2 ≤ z ∧ z ≤ 1024 :=
  ⟨2, 7, qc 1 0x70003 0x20001, 3, 8, 2, fn_ (aq_ { cqs := [{ fn := 2, qid := 2, size := 8 }], cmds := [qc 1 0x70003 0x20001] }), by decide⟩

theorem test_meets_epCreateIoCq : ∃ (fn : Fin 64) (cid : BitVec 16) (c : EpCmd) (y : Nat) (z : Nat) (v : Nat) (s : State), 3 ≤ s.modeNow ∧ s.ep.cmds.find? (fun c => c.fn = fn.val && c.sq = 0 && c.st = 5 && c.cap.cid = cid.toNat && c.cap.opcode =  5) = some c ∧
    y = c.cap.cdw10 % 65536 ∧ z = c.cap.cdw10 / 65536 + 1 ∧ v = c.cap.cdw11 / 65536 ∧ c.cap.cdw11 % 2 = 1 ∧
    0 < y ∧ y ≤ 63 ∧ s.epCq fn.val y = none ∧ v ≤ 63 ∧ 2 ≤ z ∧ z ≤ 1024 :=
  ⟨2, 7, qc 5 0x70003 0x20003, 3, 8, 2, fn_ (aq_ { cmds := [qc 5 0x70003 0x20003] }), by decide⟩

theorem test_meets_epDeleteIoSq : ∃ (fn : Fin 64) (cid : BitVec 16) (c : EpCmd) (y : Nat) (s : State), 3 ≤ s.modeNow ∧ s.ep.cmds.find? (fun c => c.fn = fn.val && c.sq = 0 && c.st = 5 && c.cap.cid = cid.toNat && c.cap.opcode =  0) = some c ∧ y = c.cap.cdw10 % 65536 ∧ y ≠ 0 ∧ (s.epSq fn.val y).isSome = true :=
  ⟨2, 7, qc 0 3 0, 3, fn_ (aq_ { sqs := [{ fn := 2, qid := 3, size := 8 }], cmds := [qc 0 3 0] }), by decide⟩

theorem test_meets_epDeleteIoCq : ∃ (fn : Fin 64) (cid : BitVec 16) (c : EpCmd) (y : Nat) (s : State), 3 ≤ s.modeNow ∧ s.ep.cmds.find? (fun c => c.fn = fn.val && c.sq = 0 && c.st = 5 && c.cap.cid = cid.toNat && c.cap.opcode =  4) = some c ∧ y = c.cap.cdw10 % 65536 ∧ y ≠ 0 ∧ (s.epCq fn.val y).isSome = true :=
  ⟨2, 7, qc 4 3 0, 3, fn_ (aq_ { cqs := [{ fn := 2, qid := 3, size := 8 }], cmds := [qc 4 3 0] }), by decide⟩

theorem test_meets_epDeleteIoCq_alt1 : ∃ (fn : Fin 64) (cid : BitVec 16) (c : EpCmd) (y : Nat) (s : State), 3 ≤ s.modeNow ∧ s.ep.cmds.find? (fun c => c.fn = fn.val && c.sq = 0 && c.st = 5 && c.cap.cid = cid.toNat && c.cap.opcode =  4) = some c ∧ y = c.cap.cdw10 % 65536 ∧ y ≠ 0 ∧ (s.epCq fn.val y).isSome = true ∧
    (s.ep.sqs.any (fun q => q.fn = fn.val && q.qid ≠ 0 && q.cq = y) = true) :=
  ⟨2, 7, qc 4 3 0, 3, fn_ (aq_ { sqs := [{ fn := 2, qid := 1, size := 8, cq := 3 }], cqs := [{ fn := 2, qid := 3, size := 8 }], cmds := [qc 4 3 0] }), by decide⟩

theorem test_meets_epFetchTurn : ∃ (q : EpQueue) (g : Nat) (s : State), 3 ≤ s.modeNow ∧ s.fnRuns q.fn = true ∧ s.fnConfigured q.fn = true ∧ s.r 0 (.epf .F_STATE_dstate) q.fn = 0 ∧ s.r 0 (.epf .F_STATE_bme) q.fn = 1 ∧
    (s.ep.sqs = [q] ∧ q.fn < 64 ∧ q.qid < 64 ∧ q.head < q.tail ∧ q.tail < q.size ∧ s.epTag = some g ∧ (∀ f : Fin 64, s.r 0 (.epf .F_STATE_in_flight) f.val = 0)) :=
  ⟨{ fn := 2, qid := 3, size := 32, head := 4, tail := 20 }, 0, fn_ { sqs := [{ fn := 2, qid := 3, size := 32, head := 4, tail := 20 }] }, by decide⟩

theorem test_meets_epSqFetchComplete_1 : ∃ (g : BitVec 14) (l : List Capsule) (r : EpReq) (s : State), 3 ≤ s.modeNow ∧ s.epReq g.toNat = some r ∧ r.fetch = true ∧ r.stale = false ∧ l.length = r.n :=
  ⟨5, [{ opcode := 2, nsid := 1 }], { tag := 5, fn := 2, fetch := true, sq := 3, n := 1 }, fn_ { reqs := [{ tag := 5, fn := 2, fetch := true, sq := 3, n := 1 }] }, by decide⟩

theorem test_meets_epSqFetchComplete_2 : ∃ (g : BitVec 14) (c : Capsule) (r : EpReq) (q : EpQueue) (x : EpQueue) (s : State), 3 ≤ s.modeNow ∧ s.epReq g.toNat = some r ∧ r.fetch = true ∧ r.stale = false ∧ r.n = 1 ∧ r.sq ≠ 0 ∧ ioOpcodes.contains c.opcode = false ∧
    s.epSq r.fn r.sq = some q ∧ s.epCq r.fn q.cq = some x ∧ (x.tail + 1) % x.size ≠ x.head :=
  ⟨5, { opcode := 3, cid := 7 }, { tag := 5, fn := 2, fetch := true, sq := 3, n := 1 }, { fn := 2, qid := 3, size := 8, cq := 1 }, { fn := 2, qid := 1, size := 8 }, fn_ { reqs := [{ tag := 5, fn := 2, fetch := true, sq := 3, n := 1 }], sqs := [{ fn := 2, qid := 3, size := 8, cq := 1 }], cqs := [{ fn := 2, qid := 1, size := 8 }] }, by decide⟩

theorem test_meets_epDataFetchComplete : ∃ (g : BitVec 14) (r : EpReq) (c : EpCmd) (s : State), 3 ≤ s.modeNow ∧ s.epReq g.toNat = some r ∧ r.fetch = false ∧ r.stale = false ∧ s.ep.cmds = [c] ∧ c.tok = r.tok ∧ c.st = 0 :=
  ⟨5, { tag := 5, fn := 2, fetch := false, sq := 3, tok := 9 }, { tok := 9, fn := 2, sq := 3, die := 1 }, fn_ { reqs := [{ tag := 5, fn := 2, fetch := false, sq := 3, tok := 9 }], cmds := [{ tok := 9, fn := 2, sq := 3, die := 1 }] }, by decide⟩

theorem test_meets_epChainWorkRequest : ∃ (l : Bool) (d : Nat) (n : Nat) (rest : List (Nat × Nat × Bool)) (c : EpCmd) (q : EpQueue) (x : EpQueue) (s : State), 3 ≤ s.modeNow ∧ s.ep.port11 = (d, n, l) :: rest ∧ s.ep.cmds = [c] ∧ c.die = d ∧ c.st = 2 ∧
    epConn d c.fn c.sq = (s.slot d n).conn ∧ c.cap.cid = (s.slot d n).cap.cid ∧
    s.epSq c.fn c.sq = some q ∧ s.epCq c.fn q.cq = some x ∧ (x.tail + 1) % x.size ≠ x.head :=
  ⟨true, 1, 3, [], { tok := 9, fn := 2, sq := 3, die := 1, st := 2, cap := { cid := 7 } }, { fn := 2, qid := 3, size := 8, cq := 1 }, { fn := 2, qid := 1, size := 8 }, State.setSlot (fn_ { port11 := [(1, 3, true)], cmds := [{ tok := 9, fn := 2, sq := 3, die := 1, st := 2, cap := { cid := 7 } }], sqs := [{ fn := 2, qid := 3, size := 8, cq := 1 }], cqs := [{ fn := 2, qid := 1, size := 8 }] }) 1 3 { state := 5, conn := epConn 1 2 3, cap := { cid := 7 }, status := some 0 }, by decide⟩

theorem test_meets_epChainWorkRequest_alt1 : ∃ (l : Bool) (d : Nat) (n : Nat) (rest : List (Nat × Nat × Bool)) (c : EpCmd) (q : EpQueue) (x : EpQueue) (s : State), 3 ≤ s.modeNow ∧ s.ep.port11 = (d, n, l) :: rest ∧ s.ep.cmds = [c] ∧ c.die = d ∧ c.st = 2 ∧
    epConn d c.fn c.sq = (s.slot d n).conn ∧ c.cap.cid = (s.slot d n).cap.cid ∧
    s.epSq c.fn c.sq = some q ∧ s.epCq c.fn q.cq = some x ∧ (x.tail + 1) % x.size ≠ x.head ∧
    (l = false) :=
  ⟨false, 1, 3, [], { tok := 9, fn := 2, sq := 3, die := 1, st := 2, cap := { cid := 7 } }, { fn := 2, qid := 3, size := 8, cq := 1 }, { fn := 2, qid := 1, size := 8 }, State.setSlot (fn_ { port11 := [(1, 3, false)], cmds := [{ tok := 9, fn := 2, sq := 3, die := 1, st := 2, cap := { cid := 7 } }], sqs := [{ fn := 2, qid := 3, size := 8, cq := 1 }], cqs := [{ fn := 2, qid := 1, size := 8 }] }) 1 3 { state := 5, conn := epConn 1 2 3, cap := { cid := 7 }, status := some 0 }, by decide⟩

theorem test_meets_epMsixSend : ∃ (fn : Fin 64) (v : Fin 64) (s : State), 3 ≤ s.modeNow ∧ s.fnRuns fn.val = true ∧ s.r 0 (.epf .F_STATE_dstate) fn.val = 0 ∧ s.ep.msiDue.contains (fn.val, v.val) = true :=
  ⟨2, 5, fn_ { msiDue := [(2, 5)] }, by decide⟩

theorem test_meets_epMsixSend_alt1 : ∃ (fn : Fin 64) (v : Fin 64) (m : Bool) (s : State), 3 ≤ s.modeNow ∧ s.fnRuns fn.val = true ∧ s.r 0 (.epf .F_STATE_dstate) fn.val = 0 ∧ s.ep.msiDue.contains (fn.val, v.val) = true ∧
    (m = true) :=
  ⟨2, 5, true, fn_ { msiDue := [(2, 5)] }, by decide⟩

theorem test_meets_epMsixSend_alt2 : ∃ (fn : Fin 64) (v : Fin 64) (m : Bool) (s : State), 3 ≤ s.modeNow ∧ s.fnRuns fn.val = true ∧ s.r 0 (.epf .F_STATE_dstate) fn.val = 0 ∧ s.ep.msiDue.contains (fn.val, v.val) = true ∧
    (m = false) ∧ (s.tsSet 0 = true ∧ alGet s.ep.msiAt (fn.val, v.val) = some (s.ts64 0 / 1000)) :=
  ⟨2, 5, false, { fn_ { msiDue := [(2, 5)], msiAt := [((2, 5), 0)] } with tim := { counters := [(0, { set := true })] } }, by decide⟩

theorem test_meets_epCompletionTimeout : ∃ (g : BitVec 14) (e : BitVec 4) (w : Nat) (r : EpReq) (s : State), 3 ≤ s.modeNow ∧ s.epReq g.toNat = some r ∧ ctoNs e.toNat = some w ∧ r.resetAt = none ∧ r.stale = false :=
  ⟨5, 0, 40000000, { tag := 5, fn := 2, fetch := true, sq := 3, n := 1 }, fn_ { reqs := [{ tag := 5, fn := 2, fetch := true, sq := 3, n := 1 }] }, by decide⟩

theorem test_meets_epCompletionReceived_7 : ∃ (g : BitVec 14) (s : State), 3 ≤ s.modeNow ∧ s.epReq g.toNat = none :=
  ⟨5, fn_, by decide⟩

theorem test_meets_epCompletionReceived_7_alt1 : ∃ (g : BitVec 14) (s : State), 3 ≤ s.modeNow ∧ s.epReq g.toNat = none ∧
    (s.ep.heldTags.any (fun h => h.1 = g.toNat && decide (s.now < h.2)) = true) :=
  ⟨5, fn_ { heldTags := [(5, 99)] }, by decide⟩

theorem test_meets_epCompletionReceived_8 : ∃ (g : BitVec 14) (b : Bool) (r : EpReq) (s : State), (3 ≤ s.modeNow ∧ s.epReq g.toNat = some r ∧ r.fetch = true ∧ (b = true ∨ r.stale = true)) :=
  ⟨5, true, { tag := 5, fn := 2, fetch := true, sq := 3, n := 1 }, fn_ { reqs := [{ tag := 5, fn := 2, fetch := true, sq := 3, n := 1 }] }, by decide⟩

theorem test_meets_epCompletionReceived_8_alt1 : ∃ (g : BitVec 14) (b : Bool) (r : EpReq) (s : State), (3 ≤ s.modeNow ∧ s.epReq g.toNat = some r ∧ r.fetch = true ∧ (b = true ∨ r.stale = true)) ∧
    (r.stale = true) :=
  ⟨5, true, { tag := 5, fn := 2, fetch := true, sq := 3, n := 1, stale := true }, fn_ { reqs := [{ tag := 5, fn := 2, fetch := true, sq := 3, n := 1, stale := true }] }, by decide⟩

theorem test_meets_epfSnapshot : ∃ (s : State), 3 ≤ s.modeNow :=
  ⟨fn_, by decide⟩

theorem test_meets_epBmeClear : ∃ (fn : Fin 64) (s : State), 3 ≤ s.modeNow ∧ s.fnExists fn.val = true :=
  ⟨2, fn_, by decide⟩

theorem test_meets_epD3hotEntry : ∃ (fn : Fin 64) (s : State), 3 ≤ s.modeNow ∧ s.fnExists fn.val = true ∧
    s.r 0 (.epf .F_STATE_dstate) fn.val ≠ 3 ∧ s.ep.stopped.contains fn.val = false :=
  ⟨2, fn_ (aq_ {}) [(0, .epf .F_STATE_in_flight, 1, 2)], by decide⟩

theorem test_meets_epD0Entry : ∃ (fn : Fin 64) (s : State), 3 ≤ s.modeNow ∧ s.fnExists fn.val = true ∧
    s.r 0 (.epf .F_STATE_dstate) fn.val = 3 :=
  ⟨2, fn_ { pba := [(2, 5)] } [(0, .epf .F_STATE_dstate, 3, 2)], by decide⟩

theorem test_meets_epFlr : ∃ (fn : Fin 64) (s : State), 3 ≤ s.modeNow ∧ s.fnExists fn.val = true :=
  ⟨2, fn_ (aq_ {}), by decide⟩

theorem test_meets_epFlr_alt1 : ∃ (fn : Fin 64) (s : State), 3 ≤ s.modeNow ∧ s.fnExists fn.val = true ∧
    (fn.val = 0) :=
  ⟨0, fn_ (aq_ {}), by decide⟩

theorem test_meets_epVfEnable : ∃ (n : Fin 64) (s : State), 3 ≤ s.modeNow ∧ s.r 0 (.epf .STATUS_num_vfs) < n.val :=
  ⟨5, fn_, by decide⟩

theorem test_meets_epVfDisable : ∃ (n : Fin 64) (f : Fin 64) (s : State), 3 ≤ s.modeNow ∧ n.val < f.val ∧ f.val ≤ s.r 0 (.epf .STATUS_num_vfs) :=
  ⟨1, 2, fn_ (aq_ {}), by decide⟩

theorem test_meets_epConventionalReset : ∃ (s : State), 3 ≤ s.modeNow :=
  ⟨fn_, by decide⟩

theorem test_meets_epConventionalReset_alt1 : ∃ (p : Bool) (h : Bool) (s : State), 3 ≤ s.modeNow ∧
    (p = false) ∧ (h = true) :=
  ⟨false, true, fn_, by decide⟩

theorem test_meets_epResetComplete : ∃ (fn : Fin 64) (s : State), 3 ≤ s.modeNow ∧ s.ep.reqs.any (fun r => r.fn = fn.val) = false :=
  ⟨2, fn_ {} [(0, .epf .F_STATE_stopping, 1, 2)], by decide⟩

theorem test_meets_epPerstDeassert : ∃ (s : State), 3 ≤ s.modeNow :=
  ⟨fn_ {} [(0, .epf .STATUS_perst, 1, 0)], by decide⟩

theorem test_meets_epLinkUp : ∃ (v : BitVec 4) (w : BitVec 5) (s : State), 3 ≤ s.modeNow ∧ s.r 0 (.epf .STATUS_link_state) = 1 ∧ 1 ≤ v.toNat ∧ v.toNat ≤ 6 ∧ [1, 2, 4, 8, 16].contains w.toNat = true :=
  ⟨5, 16, fn_ {} [(0, .epf .STATUS_link_state, 1, 0)], by decide⟩

theorem test_meets_epL0pWidthChange : ∃ (w : BitVec 5) (s : State), 3 ≤ s.modeNow ∧ 2 ≤ s.r 0 (.epf .STATUS_link_state) ∧ [1, 2, 4, 8, 16].contains w.toNat = true ∧ w.toNat ≤ s.r 0 (.epf .STATUS_width) :=
  ⟨4, fn_ {} [(0, .epf .STATUS_link_state, 2, 0), (0, .epf .STATUS_width, 8, 0)], by decide⟩

theorem test_meets_lockstepMismatch : ∃ (s : State), modeHasRow s.modeNow 5 = true :=
  ⟨inMode 5, by decide⟩

theorem test_meets_secureWatchdogExpiry : ∃ (x : Nat) (s : State), s.mgt.sWdt = some x ∧ modeHasRow s.modeNow 5 = true :=
  ⟨50, { inMode 5 with mgt := { sWdt := some 50 } }, by decide⟩

theorem test_meets_nsWatchdogExpiry : ∃ (x : Nat) (s : State), s.mgt.nsWdt = some x :=
  ⟨50, { inMode 5 [(7, .mgt .FW_STATUS_update_state, 1, 0)] with mgt := { nsWdt := some 50, eids := [(0, 9)], update := some { comp := 2, binding := 0 } } }, by decide⟩

theorem test_meets_pldmFirmwareData : ∃ (n : Nat) (u : FwUpdate) (s : State), s.mgt.update = some u ∧ s.r mdId (.mgt .FW_STATUS_update_state) = 1 ∧ 1 ≤ n ∧ n ≤ 4096 :=
  ⟨64, { comp := 1, binding := 0 }, { inMode 5 [(7, .mgt .FW_STATUS_update_state, 1, 0)] with mgt := { update := some { comp := 1, binding := 0 } } }, by decide⟩

theorem test_meets_firmwareUpdateVerified : ∃ (u : FwUpdate) (f : FwImage) (s : State), s.mgt.update = some u ∧ s.r mdId (.mgt .FW_STATUS_update_state) = 1 ∧ u.comp = 1 ∧ u.fw = some f :=
  ⟨{ comp := 1, binding := 0, fw := some {} }, {}, own { inMode 5 [(7, .mgt .FW_STATUS_update_state, 1, 0)] with mgt := { update := some { comp := 1, binding := 0, fw := some {} } } }, by decide⟩

theorem test_meets_firmwareUpdateVerified_alt1 : ∃ (u : FwUpdate) (f : FwImage) (s : State), s.mgt.update = some u ∧ s.r mdId (.mgt .FW_STATUS_update_state) = 1 ∧ u.comp = 1 ∧ u.fw = some f ∧
    (s.fwUpdateCheck f ≠ 0) :=
  ⟨{ comp := 1, binding := 0, fw := some { headerOk := false } }, { headerOk := false }, own { inMode 5 [(7, .mgt .FW_STATUS_update_state, 1, 0)] with mgt := { update := some { comp := 1, binding := 0, fw := some { headerOk := false } } } }, by decide⟩

theorem test_meets_pldmActivateFirmware : ∃ (u : FwUpdate) (s : State), s.mgt.update = some u ∧ s.r mdId (.mgt .FW_STATUS_update_state) = 3 ∧ u.comp = 1 :=
  ⟨{ comp := 1, binding := 0 }, { inMode 5 [(7, .mgt .FW_STATUS_update_state, 3, 0)] with mgt := { update := some { comp := 1, binding := 0 } } }, by decide⟩

theorem test_meets_pldmCancelUpdate : ∃ (u : FwUpdate) (s : State), s.mgt.update = some u :=
  ⟨{ comp := 1, binding := 1 }, { inMode 5 with mgt := { update := some { comp := 1, binding := 1 } } }, by decide⟩

theorem test_meets_pldmCancelUpdate_alt1 : ∃ (b : Fin 3) (u : FwUpdate) (s : State), s.mgt.update = some u ∧
    (u.binding ≠ b.val) :=
  ⟨2, { comp := 1, binding := 1 }, { inMode 5 with mgt := { update := some { comp := 1, binding := 1 } } }, by decide⟩

theorem test_meets_pldmTransferTimeout : ∃ (u : FwUpdate) (s : State), s.mgt.update = some u ∧ s.r mdId (.mgt .FW_STATUS_update_state) = 1 :=
  ⟨{ comp := 1, binding := 1, deadline := 50 }, { inMode 5 [(7, .mgt .FW_STATUS_update_state, 1, 0)] with mgt := { update := some { comp := 1, binding := 1, deadline := 50 } } }, by decide⟩

theorem test_meets_miAdminCommand : ∃ (c : BitVec 16), c.toNat < 0x7000 :=
  ⟨0x1005, by decide⟩

theorem test_meets_miAdminCommand_alt1 : ∃ (c : BitVec 16) (s : State), c.toNat < 0x7000 ∧
    (s.cdUp (c.toNat / 0x1000) = false) :=
  ⟨0x6005, { up with channels := 4 }, by decide⟩

theorem test_meets_folricReadEventLog_5 : ∃ (b : Fin 3) (a : Nat) (n : Fin 16) (e : EvRec) (s : State), s.exports b.val = true ∧ s.mgt.evlog = [e] ∧ s.mgt.nvmLog = [] ∧ a ≤ e.seq ∧ 0 < n.val :=
  ⟨2, 5, 3, ⟨7, 1, 2, { die := 7, blk := 3, code := .mgt 0x310 }⟩, { up with img := { active := some { imgOk with security := { exportPaths := 1 } } }, mgt := { evlog := [⟨7, 1, 2, { die := 7, blk := 3, code := .mgt 0x310 }⟩] } }, by decide⟩

theorem test_meets_folricReadLedger : ∃ (b : Fin 3) (l : LedgerRec) (s : State), s.exports b.val = true ∧ s.sec.ledger = [l] :=
  ⟨2, { kind := 1, seq := 7 }, { up with img := { active := some { imgOk with security := { exportPaths := 1 } } }, sec := { ledger := [{ kind := 1, seq := 7 }] } }, by decide⟩

theorem test_meets_folricReadLedger_alt1 : ∃ (b : Fin 3) (q : Nat) (l : LedgerRec) (s : State), s.exports b.val = true ∧ s.sec.ledger = [l] ∧
    (l.seq ≠ q) :=
  ⟨2, 8, { kind := 1, seq := 7 }, { up with img := { active := some { imgOk with security := { exportPaths := 1 } } }, sec := { ledger := [{ kind := 1, seq := 7 }] } }, by decide⟩

theorem test_meets_folricReadLedger_alt2 : ∃ (b : Fin 3) (q : Nat) (o : Nat) (l : LedgerRec) (s : State), s.exports b.val = true ∧ s.sec.ledger = [l] ∧
    (l.seq = q) ∧ (recordLen l.kind ≤ o) :=
  ⟨2, 7, 9744, { kind := 1, seq := 7 }, { up with img := { active := some { imgOk with security := { exportPaths := 1 } } }, sec := { ledger := [{ kind := 1, seq := 7 }] } }, by decide⟩

theorem test_meets_sgmiiDatagram : ∃ (k : Fin 4) (s : State), k.val < 2 ∧ s.mgt.second = s.now / 1000000000 :=
  ⟨1, up, by decide⟩

theorem test_meets_sgmiiDatagram_alt1 : ∃ (k : Fin 4) (s : State), k.val < 2 ∧ s.mgt.second = s.now / 1000000000 ∧
    (4000 ≤ s.mgt.answered) :=
  ⟨1, { up with mgt := { answered := 4000 } }, by decide⟩

theorem test_meets_eventLogAppend_0 : ∃ (r : LogRec) (l : List LogRec) (s : State), s.logq = r :: l ∧ s.mgt.period = s.now / 10000000 ∧ (alGet s.mgt.counts (r.die, r.blk, r.code)).getD 0 < 64 ∧ s.mgt.evlog.length < 4096 :=
  ⟨{ die := 7, blk := 3, code := .mgt 0x310 }, [], { up with logq := [{ die := 7, blk := 3, code := .mgt 0x310 }] }, by decide⟩

theorem test_meets_eventLogAppend_1 : ∃ (r : LogRec) (l : List LogRec) (s : State), s.logq = r :: l ∧ s.mgt.period = s.now / 10000000 ∧ 64 ≤ (alGet s.mgt.counts (r.die, r.blk, r.code)).getD 0 :=
  ⟨{ die := 7, blk := 3, code := .mgt 0x310 }, [], { up with logq := [{ die := 7, blk := 3, code := .mgt 0x310 }], mgt := { counts := [((7, 3, .mgt 0x310), 64)] } }, by decide⟩

theorem test_meets_eventLogNvmCopy : ∃ (s : State), s.mgt.nvmStopped = false ∧ s.r mdId (.fls .STATUS_warning) = 0 ∧ s.mgt.nvmDue ≠ [] ∧ s.mgt.nvmLog.length ≤ 262140 :=
  ⟨{ up with mgt := { evlog := [⟨7, 1, 2, { die := 7, blk := 3, code := .mgt 0x310 }⟩], nvmDue := [7] } }, by decide⟩

theorem test_meets_eventLogNvmCopy_alt1 : ∃ (ok : Bool) (s : State), s.mgt.nvmStopped = false ∧ s.r mdId (.fls .STATUS_warning) = 0 ∧ s.mgt.nvmDue ≠ [] ∧ s.mgt.nvmLog.length ≤ 262140 ∧
    (ok = false) :=
  ⟨false, { up with mgt := { evlog := [⟨7, 1, 2, { die := 7, blk := 3, code := .mgt 0x310 }⟩], nvmDue := [7] } }, by decide⟩

theorem test_meets_suppressionPeriodEnd : ∃ (s : State), s.mgt.period ≤ s.now / 10000000 ∧ s.mgt.evlog.length + s.mgt.suppressed.length ≤ 4096 :=
  ⟨{ up with mgt := { suppressed := [((7, 3, .mgt 0x310), 2)] } }, by decide⟩

theorem test_meets_sensorSample : ∃ (i : Fin 51) (s : State), s.hasDie (sensorDie i.val) = true ∧ i.val < 40 ∧ s.r mdId (.mgt .SENSOR_warn) i.val = 0 :=
  ⟨3, up, by decide⟩

theorem test_meets_sensorSample_alt1 : ∃ (i : Fin 51) (v : Int) (s : State), s.hasDie (sensorDie i.val) = true ∧ i.val < 40 ∧ s.r mdId (.mgt .SENSOR_warn) i.val = 0 ∧
    (v < 8 * (s.r mdId (.mgt .THERM_CFG_warn_c) : Int)) :=
  ⟨3, 759, up, by decide⟩

theorem test_meets_thermalTrip : ∃ (i : Fin 51) (x : Nat) (s : State), alGet s.mgt.hot i.val = some x ∧ s.r mdId (.mgt .SENSOR_crit) i.val = 0 ∧ modeHasRow s.modeNow 5 = true :=
  ⟨3, 50, { inMode 5 with mgt := { hot := [(3, 50)] } }, by decide⟩

theorem test_meets_proofingStart : ∃ (f : FwImage) (s : State), s.modeNow = 2 ∧ s.fwSel.trial = false ∧ s.fwSlot s.fwSel.current = some f ∧ s.fwCheck f = 0 :=
  ⟨{}, own { inMode 2 with mgt := { fwA := some {} } }, by decide⟩

theorem test_meets_proofingStart_alt1 : ∃ (ok : Bool) (f : FwImage) (s : State), s.modeNow = 2 ∧ s.fwSel.trial = false ∧ s.fwSlot s.fwSel.current = some f ∧ s.fwCheck f = 0 ∧
    (ok = false) :=
  ⟨false, {}, own { inMode 2 with mgt := { fwA := some {} } }, by decide⟩

theorem test_meets_proofingDigestReceived : ∃ (die : DieId) (s : State), s.modeNow = 2 ∧ s.hasDie die.val = true ∧ die.val ≠ mdId ∧ s.rst.lat.contains die.val = true ∧ s.r mdId (.sec .STATUS_locked) = 0 :=
  ⟨1, { inMode 2 with rst := { phase := 3, lat := [1] } }, by decide⟩

theorem test_meets_proofingDigestReceived_alt1 : ∃ (die : DieId) (f : Bool) (c : Bool) (s : State), s.modeNow = 2 ∧ s.hasDie die.val = true ∧ die.val ≠ mdId ∧ s.rst.lat.contains die.val = true ∧ s.r mdId (.sec .STATUS_locked) = 0 ∧
    ((f && c) = false) :=
  ⟨1, true, false, { inMode 2 with rst := { phase := 3, lat := [1] } }, by decide⟩

theorem test_meets_proofingDigestReceived_alt2 : ∃ (die : DieId) (f : Bool) (c : Bool) (s : State), s.modeNow = 2 ∧ s.hasDie die.val = true ∧ die.val ≠ mdId ∧ s.rst.lat.contains die.val = true ∧ s.r mdId (.sec .STATUS_locked) = 0 ∧
    ((f && c) = false) ∧ (die.val = 0) :=
  ⟨0, false, true, { inMode 2 with rst := { phase := 3, lat := [0] } }, by decide⟩

theorem test_meets_proofingEnd : ∃ (die : DieId) (s : State), s.modeNow = 2 ∧ s.r mdId (.sec .STATUS_locked) = 0 ∧ s.img.active.isSome = true ∧ s.mgt.running.isSome = true ∧ s.proof 0 = 7 ∧
    (0 :: s.cds.map cdId).all (fun d => (s.proof d).testBit 1) = true ∧ (s.cds.map cdId).any (fun d => s.proof d = 7) = true ∧
    (0 :: s.cds.map cdId).contains die.val = true ∧ s.proof die.val = 7 ∧ s.sec.stopped = false :=
  ⟨1, { inMode 2 [(7, .sec .PROOF_dies, 0x77777777, 0)] with img := { active := some imgOk }, mgt := { running := some {} } }, by decide⟩

theorem test_meets_ledgerWriteComplete : ∃ (r : LedgerRec) (rest : List LedgerRec) (s : State), s.sec.ledgerQ = r :: rest ∧ s.sec.appending = true :=
  ⟨{ kind := 1, seq := 4 }, [], { inMode 5 with sec := { appending := true, ledgerQ := [{ kind := 1, seq := 4 }] } }, by decide⟩

theorem test_meets_ledgerWriteComplete_alt1 : ∃ (ok : Bool) (r : LedgerRec) (rest : List LedgerRec) (s : State), s.sec.ledgerQ = r :: rest ∧ s.sec.appending = true ∧
    (ok = false) :=
  ⟨false, { kind := 1, seq := 4 }, [], { inMode 5 with sec := { appending := true, ledgerQ := [{ kind := 1, seq := 4 }] } }, by decide⟩

theorem test_meets_ledgerWriteRetry : ∃ (x : Nat) (s : State), s.sec.retryAt = some x :=
  ⟨50, { inMode 5 with sec := { retryAt := some 50 } }, by decide⟩

theorem test_meets_secSnapshot : ∃ (die : DieId) (s : State), s.hasDie die.val = true :=
  ⟨2, up, by decide⟩

theorem test_meets_ownerEnrolment : ∃ (s : State), s.mfgMaintenance = true ∧ s.sec.owner = none :=
  ⟨{ inMode 0xA [(7, .rst .STRAP_mfg_test, 1, 0)] with mode := { fromTest := true } }, by decide⟩

theorem test_meets_ownerEnrolment_alt1 : ∃ (x : Bool) (s : State), s.mfgMaintenance = true ∧ s.sec.owner = none ∧
    (x = false) :=
  ⟨false, { inMode 0xA [(7, .rst .STRAP_mfg_test, 1, 0)] with mode := { fromTest := true } }, by decide⟩

theorem test_meets_ownerTransfer : ∃ (s : State), s.sec.owner.isSome = true :=
  ⟨{ own up with cip := { mediaRoot := some 5 } }, by decide⟩

theorem test_meets_ownerTransfer_alt1 : ∃ (x : Bool) (s : State), s.sec.owner.isSome = true ∧
    (x = false) :=
  ⟨false, { own up with cip := { mediaRoot := some 5 } }, by decide⟩

theorem test_meets_mediaRootImport : ∃ (s : State), s.cip.mediaRoot = none :=
  ⟨{ inMode 5 with drv := { shelf := some 9 } }, by decide⟩

theorem test_meets_mediaRootImport_alt1 : ∃ (u : Nat) (s : State), s.cip.mediaRoot = none ∧
    (s.drv.shelf ≠ some u) :=
  ⟨8, { inMode 5 with drv := { shelf := some 9 } }, by decide⟩

theorem test_meets_debugTokenWrite : ∃ (e : Nat) (s : State), s.r mdId (.sec .DEBUG_policy) = 1 ∧ s.tsSet mdId = true ∧ s.ts64 mdId < e ∧ s.sec.ledgerQ.length ≤ 8 :=
  ⟨99, { inMode 5 [(7, .sec .DEBUG_policy, 1, 0)] with tim := { counters := [(7, { set := true })] } }, by decide⟩

theorem test_meets_debugTokenWrite_alt1 : ∃ (x : Bool) (e : Nat) (s : State), s.r mdId (.sec .DEBUG_policy) = 1 ∧ s.tsSet mdId = true ∧ s.ts64 mdId < e ∧ s.sec.ledgerQ.length ≤ 8 ∧
    (x = false) :=
  ⟨false, 99, { inMode 5 [(7, .sec .DEBUG_policy, 1, 0)] with tim := { counters := [(7, { set := true })] } }, by decide⟩

theorem test_meets_tamper : ∃ (s : State), s.modeNow ≠ 0 :=
  ⟨{ inMode 5 with cip := { mediaRoot := some 5 }, sec := { ledgerQ := [{ kind := 1 }] } }, by decide⟩

theorem test_meets_backgroundTick : ∃ (die : DieId) (s : State), s.dieUp die.val = true ∧ s.tsSet die.val = true ∧ s.tim.windows = [] :=
  ⟨1, { inMode 5 [(7, .mgt .SENSOR_valid, 1, 8), (7, .mgt .SENSOR_value, 1000, 8)] with tim := { counters := [(1, { set := true })] } }, by decide⟩

theorem test_meets_patrolStripe_1 : ∃ (d : Cd) (g : Fin 4) (s : State), s.cdUp (cdId d) = true ∧ s.modeNow ≠ 0xB ∧ s.workRuns = true ∧
    (s.bg (cdId d)).patrol = none ∧ ((List.range 4).map (fun i => ((s.bg (cdId d)).lastGroup + 1 + i) % 4)).find? (fun g => s.patrols (cdId d) g) = some g.val ∧
    s.r (cdId d) (.bgw .PATROL_CFG_enable) = 1 ∧ s.bgMay (cdId d) 0 = true ∧ (s.grp_ (cdId d) g.val).locks.contains (s.r (cdId d) (.bgw .G_PATROL) g.val) = false :=
  ⟨0, 2, State.setBg (State.w (gp { configured := true, stripes := 4, members := [0, 1] }) 1 (.bgw .PATROL_CFG_enable) 1) 1 { grant := [1000000, 0, 0, 0, 0, 0] }, by decide⟩

theorem test_meets_patrolStripe_2 : ∃ (d : Cd) (g : Fin 4) (x : Nat) (s : State), s.cdUp (cdId d) = true ∧ s.modeNow ≠ 0xB ∧ s.workRuns = true ∧
    (s.bg (cdId d)).patrol = some (g.val, x, 2) ∧ s.drvQuiet (cdId d) (patrolOwner g.val x) = true ∧ s.patrols (cdId d) g.val = true ∧ x + 1 < 2 ^ 64 :=
  ⟨0, 2, 3, State.setBg (gp { configured := true, stripes := 4, locks := [3] }) 1 { patrol := some (2, 3, 2) }, by decide⟩

theorem test_meets_bgwSnapshot : ∃ (die : DieId) (s : State), s.hasDie die.val = true :=
  ⟨2, up, by decide⟩

theorem test_meets_perfCounterLogPage : ∃ (d : Cd) (k : Fin 32768) (s : State), s.cdUp (cdId d) = true ∧ ((s.slot (cdId d) k.val).state = 1 || (s.slot (cdId d) k.val).state = 2) = true ∧ (s.slot (cdId d) k.val).waiters = [] ∧ (s.slot (cdId d) k.val).cap.opcode = 2 ∧ (s.slot (cdId d) k.val).admin = true ∧ (s.slot (cdId d) k.val).cap.cdw10 % 256 = 0xD1 :=
  ⟨0, 3, State.w { sl { state := 1, conn := 0x1005, host := 2, admin := true, cap := { opcode := 2, cdw10 := 0xD1 } } with img := { active := some { imgOk with hosts := [{ id := 2, flags := 4 }] } } } 1 (.pmc .ACCESS_host_enable) 1, by decide⟩

theorem test_meets_perfCounterLogPage_alt1 : ∃ (d : Cd) (k : Fin 32768) (s : State), s.cdUp (cdId d) = true ∧ ((s.slot (cdId d) k.val).state = 1 || (s.slot (cdId d) k.val).state = 2) = true ∧ (s.slot (cdId d) k.val).waiters = [] ∧ (s.slot (cdId d) k.val).cap.opcode = 2 ∧ (s.slot (cdId d) k.val).admin = true ∧ (s.slot (cdId d) k.val).cap.cdw10 % 256 = 0xD1 ∧
    (((((s.img.active.getD {}).hosts.find? (fun (h : HostEntry) => h.id = (s.slot (cdId d) k.val).host)).map (fun (h : HostEntry) => h.flags)).getD 0).testBit 2 = false) :=
  ⟨0, 3, sl { state := 1, conn := 0x1005, host := 2, admin := true, cap := { opcode := 2, cdw10 := 0xD1 } }, by decide⟩

theorem test_meets_powerOnRelease : ∃ (s : State), s.rst.phase = 0 ∧ s.rst.held = false :=
  ⟨ph 0, by decide⟩

theorem test_meets_crystalValid : ∃ (s : State), s.rst.phase = 1 :=
  ⟨ph 1, by decide⟩

theorem test_meets_crystalValid_alt1 : ∃ (v : Option (BitVec 16)) (s : State), s.rst.phase = 1 ∧
    (v.any ppmOk = true) :=
  ⟨some 10000, ph 1, by decide⟩

theorem test_meets_fuseLoadComplete : ∃ (s : State), s.rst.phase = 2 ∧ s.rst.held = false ∧ s.rst.cold = true :=
  ⟨ph 2, by decide⟩

theorem test_meets_strapRead : ∃ (l : List (BitVec 12)) (s : State), s.rst.phase = 3 ∧ l.length = 16 ∧ modeHasRow s.modeNow 8 = true :=
  ⟨List.replicate 16 0x380, inMode 1, by decide⟩

theorem test_meets_strapRead_alt1 : ∃ (l : List (BitVec 12)) (s : State), s.rst.phase = 3 ∧ l.length = 16 ∧ modeHasRow s.modeNow 8 = true ∧
    (l.any (fun x => strapCode x = none) = true) :=
  ⟨List.replicate 15 0x380 ++ [0x300], inMode 1, by decide⟩

theorem test_meets_railStepComplete : ∃ (k : Fin 5) (s : State), s.rst.phase = 4 ∧ s.r mdId (.pwr .STATUS_seq_step) = k.val + 1 :=
  ⟨2, ph 4 {} [(7, .pwr .STATUS_seq_step, 3, 0)], by decide⟩

theorem test_meets_railStepTimeout : ∃ (s : State), ((s.rst.phase = 4 ∨ s.rst.phase = 5) ∧ 1 ≤ s.r mdId (.pwr .STATUS_seq_step) ∧ s.r mdId (.pwr .STATUS_seq_step) ≤ 6 ∧ modeHasRow s.modeNow 8 = true) :=
  ⟨ph 4 {} [(7, .pwr .STATUS_seq_step, 3, 0), (7, .mgt .MODE_current, 1, 0)], by decide⟩

theorem test_meets_clockCheckComplete : ∃ (r : BitVec 16) (l : List (BitVec 16)) (s : State), s.rst.phase = 5 ∧ s.r mdId (.pwr .STATUS_seq_step) = 6 ∧ ppmOk r = true ∧ l.length = s.channels ∧ l.all ppmOk = true ∧ modeHasRow s.modeNow 8 = true :=
  ⟨0, List.replicate 6 0, ph 5 {} [(7, .pwr .STATUS_seq_step, 6, 0), (7, .mgt .MODE_current, 1, 0)], by decide⟩

theorem test_meets_dieReleaseStep_7 : ∃ (d : Nat) (s : State), s.rst.phase = 6 ∧ (0 :: s.cds.map cdId).find? (fun d => !s.rst.lat.contains d) = some d :=
  ⟨1, ph 6 { lat := [0] }, by decide⟩

theorem test_meets_dieReleaseStep_8 : ∃ (d : Nat) (s : State), (s.rst.phase = 7 ∧ (s.rst.freed.contains 0 = true → s.rst.cold = true ∧ (s.cds.map cdId).find? (fun d => !s.rst.freed.contains d && !(s.dieBits d).testBit 1) = some d)) :=
  ⟨1, ph 7 { freed := [0] }, by decide⟩

theorem test_meets_dieReleaseStep_8_alt1 : ∃ (d : Nat) (s : State), (s.rst.phase = 7 ∧ (s.rst.freed.contains 0 = true → s.rst.cold = true ∧ (s.cds.map cdId).find? (fun d => !s.rst.freed.contains d && !(s.dieBits d).testBit 1) = some d)) ∧
    (s.rst.freed.contains 0 = false) :=
  ⟨1, ph 7, by decide⟩

theorem test_meets_stackInitComplete : ∃ (c : Cd) (s : State), s.rst.stackInit.contains (cdId c) = true :=
  ⟨0, ph 7 { stackInit := [1] }, by decide⟩

theorem test_meets_stackInitComplete_alt1 : ∃ (c : Cd) (k : Bool) (s : State), s.rst.stackInit.contains (cdId c) = true ∧
    (k = false) :=
  ⟨0, false, ph 7 { stackInit := [1] }, by decide⟩

theorem test_meets_resetNAssert : ∃ (s : State), s.rst.phase ≠ 0 ∧ s.modeNow ≠ 8 ∧ s.mode.trigs.any (fun t => t.code = 1 || t.code = 2 || t.code = 3) = false :=
  ⟨inMode 5, by decide⟩

theorem test_meets_resetNAssert_alt1 : ∃ (s : State), s.rst.phase ≠ 0 ∧ s.modeNow ≠ 8 ∧ s.mode.trigs.any (fun t => t.code = 1 || t.code = 2 || t.code = 3) = false ∧
    (s.level 2 = 0) :=
  ⟨with_ [(7, .mgt .MODE_current, 5, 0), (7, .rst .SRC_MAP_level, 0, 0)], by decide⟩

theorem test_meets_resetNRelease : ∃ (s : State), s.rst.held = true :=
  ⟨ph 2 { held := true }, by decide⟩

theorem test_meets_resetNRelease_alt1 : ∃ (s : State), s.rst.held = true ∧
    (s.rst.phase = 0) :=
  ⟨ph 0 { held := true }, by decide⟩

theorem test_meets_deviceRailUndervoltage : ∃ (s : State), s.r mdId (.pwr .STATUS_enabled) ≠ 0 :=
  ⟨inMode 5 [(7, .pwr .STATUS_enabled, 31, 0)], by decide⟩

theorem test_meets_rstCmdPackage : ∃ (s : State), s.r mdId (.fls .STATUS_warning) = 0 ∧ s.modeNow ≠ 8 ∧ s.modeNow < 16 ∧ s.mode.trigs.any (fun t => t.code = 1 || t.code = 2 || t.code = 3) = false :=
  ⟨inMode 5, by decide⟩

theorem test_meets_rstCmdPackage_alt1 : ∃ (q : Req) (s : State), s.r mdId (.fls .STATUS_warning) = 0 ∧ s.modeNow ≠ 8 ∧ s.modeNow < 16 ∧ s.mode.trigs.any (fun t => t.code = 1 || t.code = 2 || t.code = 3) = false ∧
    (q.secure = false) :=
  ⟨nonsec, inMode 5, by decide⟩

theorem test_meets_rstCmdDie : ∃ (q : Req) (c : Fin 8) (s : State), q.secure = true ∧ s.r mdId (.fls .STATUS_warning) = 0 ∧ s.modeNow ≠ 8 ∧ c.val < s.channels ∧ s.channels ≤ 6 ∧ s.r mdId (.sec .STATUS_locked) = 1 ∧
    (s.dieBits (cdId c.val)).testBit 1 = false ∧ s.rst.freed.contains (cdId c.val) = true ∧ s.rst.stackInit.contains (cdId c.val) = false ∧ s.rst.active.find? (fun e => e.1 = cdId c.val) = none :=
  ⟨sec, 0, dr {} 5 [(7, .sec .STATUS_locked, 1, 0)], by decide⟩

theorem test_meets_rstCmdChannel : ∃ (q : Req) (c : Fin 8) (s : State), q.secure = true ∧ s.r mdId (.fls .STATUS_warning) = 0 ∧ c.val < s.channels ∧ s.channels ≤ 6 ∧
    (s.dieBits (cdId c.val)).testBit 1 = false ∧ s.rst.freed.contains (cdId c.val) = true ∧ s.rst.stackInit.contains (cdId c.val) = false ∧ s.rst.active.find? (fun e => e.1 = cdId c.val) = none :=
  ⟨sec, 0, dr, by decide⟩

theorem test_meets_rstCmdChannel_alt1 : ∃ (q : Req) (c : Fin 8) (s : State), q.secure = true ∧ s.r mdId (.fls .STATUS_warning) = 0 ∧ c.val < s.channels ∧ s.channels ≤ 6 ∧
    (s.dieBits (cdId c.val)).testBit 1 = false ∧ s.rst.freed.contains (cdId c.val) = true ∧ s.rst.stackInit.contains (cdId c.val) = false ∧ s.rst.active.find? (fun e => e.1 = cdId c.val) = none ∧
    (s.modeNow = 8) :=
  ⟨sec, 0, dr {} 8, by decide⟩

theorem test_meets_cdWatchdogKick : ∃ (c : Cd) (x : Nat) (s : State), s.cdUp (cdId c) = true ∧ alGet s.rst.wdt (cdId c) = some x :=
  ⟨0, 9, dr { wdt := [(1, 9)] }, by decide⟩

theorem test_meets_cdWatchdogExpiry : ∃ (c : Cd) (x : Nat) (s : State), s.cdUp (cdId c) = true ∧ alGet s.rst.wdt (cdId c) = some x ∧ s.rst.resets = [] ∧
    s.rst.freed.contains (cdId c) = true ∧ s.rst.stackInit.contains (cdId c) = false ∧ s.rst.active.find? (fun e => e.1 = cdId c) = none :=
  ⟨0, 9, dr { wdt := [(1, 9)] }, by decide⟩

theorem test_meets_cdFatalError : ∃ (c : Cd) (s : State), s.cdUp (cdId c) = true ∧ s.rst.freed.contains (cdId c) = true ∧ s.rst.stackInit.contains (cdId c) = false ∧ s.rst.active.find? (fun e => e.1 = cdId c) = none :=
  ⟨0, dr { resets := [(1, 0), (1, 0)] }, by decide⟩

theorem test_meets_cdFatalError_alt1 : ∃ (c : Cd) (s : State), s.cdUp (cdId c) = true ∧ s.rst.freed.contains (cdId c) = true ∧ s.rst.stackInit.contains (cdId c) = false ∧ s.rst.active.find? (fun e => e.1 = cdId c) = none ∧
    (s.rst.resets = []) :=
  ⟨0, dr, by decide⟩

theorem test_meets_pdWatchdogExpiry : ∃ (s : State), s.rst.freed.contains 0 = true ∧ modeHasRow s.modeNow 5 = true :=
  ⟨dr, by decide⟩

theorem test_meets_jtagResetRequest : ∃ (s : State), s.modeNow ≠ 8 ∧ s.mode.trigs.any (fun t => t.code = 1 || t.code = 2 || t.code = 3) = false :=
  ⟨inMode 5 [(7, .sec .DEBUG_scope, 1, 0)], by decide⟩

theorem test_meets_jtagResetRequest_alt1 : ∃ (s : State), s.modeNow ≠ 8 ∧ s.mode.trigs.any (fun t => t.code = 1 || t.code = 2 || t.code = 3) = false ∧
    (s.r mdId (.sec .DEBUG_scope) = 0) :=
  ⟨inMode 5, by decide⟩

theorem test_meets_dieResetRelease : ∃ (c : Cd) (x : Nat) (s : State), s.rst.active.find? (fun e => e.1 = cdId c && e.2.1 = 2) = some (cdId c, 2, x) ∧ s.chanFailed (cdId c) = false :=
  ⟨0, 50, dr { active := [(1, 2, 50)] }, by decide⟩

theorem test_meets_dieResetRelease_alt1 : ∃ (c : Cd) (m : Bool) (x : Nat) (s : State), s.rst.active.find? (fun e => e.1 = cdId c && e.2.1 = 2) = some (cdId c, 2, x) ∧ s.chanFailed (cdId c) = false ∧
    (m = false) :=
  ⟨0, false, 50, dr { active := [(1, 2, 50)] }, by decide⟩

theorem test_meets_channelResetRelease : ∃ (c : Cd) (x : Nat) (s : State), s.rst.active.find? (fun e => e.1 = cdId c && e.2.1 = 3) = some (cdId c, 3, x) ∧ s.chanFailed (cdId c) = false :=
  ⟨0, 50, dr { active := [(1, 3, 50)] }, by decide⟩

theorem test_meets_refclkOrPllLoss : ∃ (s : State), 4 ≤ s.rst.phase ∧ s.modeNow ≠ 1 ∧ modeHasRow s.modeNow 5 = true :=
  ⟨ph 7 {} [(7, .mgt .MODE_current, 5, 0)], by decide⟩

theorem test_meets_refclkOrPllLoss_alt1 : ∃ (w : Fin 3) (s : State), 4 ≤ s.rst.phase ∧ s.modeNow ≠ 1 ∧ modeHasRow s.modeNow 5 = true ∧
    (w = 1) :=
  ⟨1, ph 7 {} [(7, .mgt .MODE_current, 5, 0)], by decide⟩

theorem test_meets_cdClockLoss : ∃ (c : Cd) (s : State), s.cdUp (cdId c) = true :=
  ⟨0, dr, by decide⟩

theorem test_meets_cdClockLoss_alt1 : ∃ (c : Cd) (p : Bool) (s : State), s.cdUp (cdId c) = true ∧
    (p = false) :=
  ⟨0, false, dr, by decide⟩

theorem test_meets_epRefclkInvalid : ∃ (s : State), 4 ≤ s.rst.phase ∧ s.ep.refclk = true ∧ s.rst.freed.contains 0 = true :=
  ⟨{ ph 7 { freed := [0] } with ep := { refclk := true } }, by decide⟩

theorem test_meets_crystalOutOfRange : ∃ (v : BitVec 16) (s : State), 3 ≤ s.rst.phase ∧ ppmOk v = false :=
  ⟨0x4000, up, by decide⟩

theorem test_meets_crystalBackInRange : ∃ (v : BitVec 16) (s : State), s.rst.xtalOut = true ∧ ppmOk v = true :=
  ⟨5, ph 3 { xtalOut := true }, by decide⟩

theorem test_meets_avsLoopInterval : ∃ (d : Fin 7) (s : State), s.loopRuns d.val = true ∧ s.r mdId (.pwr .D_SLACK_avs_fault) d.val = 0 ∧ s.r mdId (.pwr .LOOP_CFG2_hold) = 0 ∧ s.r mdId (.pwr .D_LIMITS_vmax_mv) d.val < 2 ^ 16 ∧ s.r mdId (.pwr .D_LIMITS_vmin_mv) d.val < 2 ^ 16 ∧ s.r mdId (.pwr .D_VOLT_read_mv) d.val < 2 ^ 16 :=
  ⟨1, dr, by decide⟩

theorem test_meets_avsLoopInterval_alt1 : ∃ (d : Fin 7) (f : Bool) (s : State), s.loopRuns d.val = true ∧ s.r mdId (.pwr .D_SLACK_avs_fault) d.val = 0 ∧ s.r mdId (.pwr .LOOP_CFG2_hold) = 0 ∧ s.r mdId (.pwr .D_LIMITS_vmax_mv) d.val < 2 ^ 16 ∧ s.r mdId (.pwr .D_LIMITS_vmin_mv) d.val < 2 ^ 16 ∧ s.r mdId (.pwr .D_VOLT_read_mv) d.val < 2 ^ 16 ∧
    (f = true) :=
  ⟨1, true, dr, by decide⟩

theorem test_meets_slackEmergency : ∃ (d : Fin 7) (x : BitVec 8) (s : State), s.loopRuns d.val = true ∧ x.toNat < s.r mdId (.pwr .LOOP_CFG_emerg_pct) ∧ alGet s.rst.stretched d.val = none ∧
    s.r mdId (.pwr .D_SLACK_avs_fault) d.val = 0 ∧ s.r mdId (.pwr .D_LIMITS_vmax_mv) d.val < 2 ^ 16 ∧ s.r mdId (.pwr .D_LIMITS_vmin_mv) d.val < 2 ^ 16 :=
  ⟨1, 0, dr, by decide⟩

theorem test_meets_slackEmergencyTimeout : ∃ (d : Fin 7) (x : Nat) (s : State), alGet s.rst.stretched d.val = some x ∧ s.loopRuns d.val = true ∧ s.r mdId (.pwr .D_VOLT_set_mv) d.val = s.r mdId (.pwr .D_LIMITS_vmax_mv) d.val ∧ modeHasRow s.modeNow 5 = true :=
  ⟨1, 50, dr { stretched := [(1, 50)] } 5 [(7, .pwr .D_VOLT_set_mv, 900, 1)], by decide⟩

theorem test_meets_slackEmergencyTimeout_alt1 : ∃ (d : Fin 7) (x : Nat) (s : State), alGet s.rst.stretched d.val = some x ∧ s.loopRuns d.val = true ∧ s.r mdId (.pwr .D_VOLT_set_mv) d.val = s.r mdId (.pwr .D_LIMITS_vmax_mv) d.val ∧ modeHasRow s.modeNow 5 = true ∧
    (d.val = 0) :=
  ⟨0, 50, dr { stretched := [(0, 50)] } 5 [(7, .pwr .D_VOLT_set_mv, 900, 0)], by decide⟩

theorem test_meets_voltageRecalMonitor : ∃ (d : Fin 7) (s : State), s.loopRuns d.val = true ∧ s.tim.windows.any (fun w => w.die = d.val && w.entry.kind = 5 && decide (s.ts64 d.val + 100000 ≤ w.closes)) = true ∧ (s.profile d.val).recal ≠ 0 ∧ 3 ≤ s.modeNow ∧ s.modeNow ≤ 0xA :=
  ⟨1, { dr with tim := { windows := [{ die := 1, idx := 0, entry := { kind := 5 }, closes := 999999 }] } }, by decide⟩

theorem test_meets_pushRegionInfo : ∃ (d : Cd) (k : Fin 32768) (s : State), s.cdUp (cdId d) = true ∧ ((s.slot (cdId d) k.val).state = 1 || (s.slot (cdId d) k.val).state = 2) = true ∧ (s.slot (cdId d) k.val).waiters = [] ∧ (s.slot (cdId d) k.val).cap.opcode = 0x7F ∧ (s.slot (cdId d) k.val).cap.nsid % 256 = 0xC2 :=
  ⟨0, 3, (sl { state := 1, conn := 0x1005, cap := { opcode := 0x7F, nsid := 0xC2 } }).setRegion 1 7 { state := 1, f := { conn := 0x1005, length := 4096 } }, by decide⟩

theorem test_meets_pushRegionInfo_alt1 : ∃ (d : Cd) (k : Fin 32768) (s : State), s.cdUp (cdId d) = true ∧ ((s.slot (cdId d) k.val).state = 1 || (s.slot (cdId d) k.val).state = 2) = true ∧ (s.slot (cdId d) k.val).waiters = [] ∧ (s.slot (cdId d) k.val).cap.opcode = 0x7F ∧ (s.slot (cdId d) k.val).cap.nsid % 256 = 0xC2 ∧
    (s.rdx.regions.any (fun e => e.1.1 = cdId d && e.2.state = 1 && e.2.f.conn = (s.slot (cdId d) k.val).conn) = false) :=
  ⟨0, 3, sl { state := 1, conn := 0x1005, cap := { opcode := 0x7F, nsid := 0xC2 } }, by decide⟩

theorem test_meets_bayLimitEntry : ∃ (bay : Fin 48) (s : State), s.bayRuns = true ∧ bay.val < 8 * s.channels ∧ s.bay.offering = false ∧
    (s.baySt bay.val) = 5 :=
  ⟨3, by_ 5, by decide⟩

theorem test_meets_bayLimitExit : ∃ (bay : Fin 48) (s : State), s.bayRuns = true ∧ bay.val < 8 * s.channels ∧ s.bay.offering = false ∧
    (s.baySt bay.val) = 6 :=
  ⟨3, by_ 6, by decide⟩

theorem test_meets_bayLimitTimeout : ∃ (bay : Fin 48) (s : State), s.bayRuns = true ∧ bay.val < 8 * s.channels ∧ s.bay.offering = false ∧
    (s.baySt bay.val) = 6 :=
  ⟨3, by_ 6, by decide⟩

theorem test_meets_mirrorMatchTimeout : ∃ (d : Cd) (m : MirrorIn) (s : State), s.cdUp (cdId d) = true ∧ s.modeNow ≠ 0xB ∧ s.modeNow = 6 ∧
    (s.sp (cdId d)).incoming.find? (fun m => !m.located) = some m :=
  ⟨0, { c := { kind := 1, seq := 7 }, located := false }, sg { incoming := [{ c := { kind := 1, seq := 7 }, located := false }] } 6, by decide⟩


end Sys2Proof.Tests
end

section
/-! PROOFS. The scope of the model (spec/00): what every command and every step keeps, and the state right after reset. -/

namespace Sys2Proof.Machine

/-! ### Every command is good -/

variable {M : Nat} {s0 s t : State} {q : Prop}

theorem Cover.refl (M : Nat) : Cover M M := Nat.and_self M

theorem maskOf_append (a b : List Part) : maskOf (a ++ b) = maskOf a ||| maskOf b := by
  induction a with
  | nil => simp [maskOf]
  | cons p a ih => rw [List.cons_append, maskOf, maskOf, ih, Nat.lor_assoc]

/-- The bits of two lists apart: the footprint of a package reset is too long to be evaluated in one piece. -/
theorem Cover.append {a b : List Part} (h : Cover (maskOf (a ++ b)) M) : Cover (maskOf a ||| maskOf b) M :=
  maskOf_append a b ▸ h

/-- A command answers a good state for every set of parts that covers its footprint: one law of Laws/ for each command. -/
theorem good_exec (i : Instr) (h : Good M s0 q s) (hm : Cover (maskOf (touches i)) M) : OutGood M s0 q (exec i s) := by
  cases i with dsimp only [touches] at hm
  | registerWrite => exact good_execRegisterWrite _ _ _ _ h (hm.sub rfl)
  | loRegisterRead => exact good_execLoRegisterRead _ _ _ h (hm.sub rfl)
  | latticeMessageForward => exact good_execLatticeMessageForward _ _ _ _ _ h (hm.sub rfl)
  | ringMarker => exact good_execRingMarker _ h (hm.sub rfl)
  | modeTriggerEvaluate => exact good_execModeTriggerEvaluate _ h (hm.append.sub rfl)
  | quarantineRootPortHold => exact good_execQuarantineRootPortHold h (hm.sub rfl)
  | modeTimeLimitExpiry => exact good_execModeTimeLimitExpiry h (hm.sub rfl)
  | bringupWorkComplete => exact good_execBringupWorkComplete h (hm.sub rfl)
  | maintenanceDrainLimitExpiry => exact good_execMaintenanceDrainLimitExpiry h (hm.sub rfl)
  | maintenanceDrainComplete => exact good_execMaintenanceDrainComplete h (hm.sub rfl)
  | modeCmdEnterMaintenance => exact good_execModeCmdEnterMaintenance _ h (hm.sub rfl)
  | modeCmdReleaseMaintenance => exact good_execModeCmdReleaseMaintenance _ h (hm.sub rfl)
  | pairBGateWaitExpiry => exact good_execPairBGateWaitExpiry _ h (hm.sub rfl)
  | pairingWaitExpiry => exact good_execPairingWaitExpiry h (hm.sub rfl)
  | channelRecoveryLimitExpiry => exact good_execChannelRecoveryLimitExpiry _ h (hm.sub rfl)
  | channelDisableCommand => exact good_execChannelDisableCommand _ h (hm.sub rfl)
  | channelDisableDrainComplete => exact good_execChannelDisableDrainComplete _ h (hm.sub rfl)
  | channelDisableDrainLimitExpiry => exact good_execChannelDisableDrainLimitExpiry _ h (hm.sub rfl)
  | channelFail => exact good_execChannelFail _ h (hm.sub rfl)
  | errorBoundUpdate => exact good_execErrorBoundUpdate h (hm.sub rfl)
  | ptpMessageReceived => exact good_execPtpMessageReceived _ _ h (hm.sub rfl)
  | sourceValidityTimeout => exact good_execSourceValidityTimeout _ _ _ _ h (hm.sub rfl)
  | ppsInputEdge => exact good_execPpsInputEdge _ _ h (hm.sub rfl)
  | ref10mCheck => exact good_execRef10mCheck _ _ h (hm.sub rfl)
  | firstLockWaitExpiry => exact good_execFirstLockWaitExpiry h (hm.sub rfl)
  | ts64Seed => exact good_execTs64Seed _ h (hm.sub rfl)
  | timeDistributionSend => exact good_execTimeDistributionSend h (hm.sub rfl)
  | timeDistributionReceive => exact good_execTimeDistributionReceive _ _ h (hm.sub rfl)
  | timeMessageLoss => exact good_execTimeMessageLoss _ h (hm.sub rfl)
  | timeDisagreeEpisodeEnd => exact good_execTimeDisagreeEpisodeEnd h (hm.sub rfl)
  | scheduleEntryFire => exact good_execScheduleEntryFire _ _ h (hm.sub rfl)
  | scheduleWindowClose => exact good_execScheduleWindowClose _ _ h (hm.sub rfl)
  | timSchedCommit => exact good_execTimSchedCommit _ _ h (hm.sub rfl)
  | timSchedWrite => exact good_execTimSchedWrite _ _ _ _ _ h (hm.sub rfl)
  | ppsOutputPulse => exact good_execPpsOutputPulse h (hm.sub rfl)
  | ppsOutputWidthEnd => exact good_execPpsOutputWidthEnd h (hm.sub rfl)
  | utcLeapOffsetChange => exact good_execUtcLeapOffsetChange h (hm.sub rfl)
  | configImageLoad => exact good_execConfigImageLoad _ _ _ _ h (hm.sub rfl)
  | imgStageStart => exact good_execImgStageStart _ _ h (hm.sub rfl)
  | imgStageCancel => exact good_execImgStageCancel _ h (hm.sub rfl)
  | stagingComplete => exact good_execStagingComplete _ h (hm.sub rfl)
  | stageReportReceived => exact good_execStageReportReceived _ _ _ h (hm.sub rfl)
  | stageAgreementDeadline => exact good_execStageAgreementDeadline h (hm.sub rfl)
  | epochSwitch => exact good_execEpochSwitch h (hm.sub rfl)
  | oldBankRelease => exact good_execOldBankRelease _ h (hm.sub rfl)
  | laneAcquireComplete => exact good_execLaneAcquireComplete _ _ h (hm.sub rfl)
  | laneTrainingComplete => exact good_execLaneTrainingComplete _ _ h (hm.sub rfl)
  | laneTrainingTimeout => exact good_execLaneTrainingTimeout _ h (hm.sub rfl)
  | laneSignalLoss => exact good_execLaneSignalLoss _ h (hm.sub rfl)
  | laneFaultRecovery => exact good_execLaneFaultRecovery _ h (hm.sub rfl)
  | laneUpdateBoundary => exact good_execLaneUpdateBoundary _ _ h (hm.sub rfl)
  | laneFreezeWrite => exact good_execLaneFreezeWrite _ _ _ _ _ h (hm.sub rfl)
  | laneSnap => exact good_execLaneSnap _ _ h (hm.sub rfl)
  | laneRxeqWrite => exact good_execLaneRxeqWrite _ _ _ _ h (hm.sub rfl)
  | laneTxeqWrite => exact good_execLaneTxeqWrite _ _ _ h (hm.sub rfl)
  | serdesRecalLane => exact good_execSerdesRecalLane _ h (hm.sub rfl)
  | portLinkUp => exact good_execPortLinkUp _ h (hm.sub rfl)
  | portLinkFault => exact good_execPortLinkFault _ _ h (hm.sub rfl)
  | remoteFaultReceived => exact good_execRemoteFaultReceived _ _ _ h (hm.sub rfl)
  | fecDegradeWindowEnd => exact good_execFecDegradeWindowEnd _ _ _ _ h (hm.sub rfl)
  | frameReceived => exact good_execFrameReceived _ _ h (hm.sub rfl)
  | gratuitousRepeat => exact good_execGratuitousRepeat h (hm.sub rfl)
  | frameTransmit => exact good_execFrameTransmit _ _ _ _ h (hm.sub rfl)
  | preemptVerifyTimeout => exact good_execPreemptVerifyTimeout _ h (hm.sub rfl)
  | preemptRespondReceived => exact good_execPreemptRespondReceived _ h (hm.sub rfl)
  | fragmentReceived => exact good_execFragmentReceived _ _ _ _ _ _ _ h (hm.sub rfl)
  | ethSnapshot => exact good_execEthSnapshot _ _ h (hm.sub rfl)
  | cellForward => exact good_execCellForward _ h (hm.sub rfl)
  | replicationPass => exact good_execReplicationPass h (hm.sub rfl)
  | recirculatedFrame => exact good_execRecirculatedFrame _ _ h (hm.sub rfl)
  | mcastGroupWrite => exact good_execMcastGroupWrite _ _ _ _ h (hm.sub rfl)
  | mcastHoldRelease => exact good_execMcastHoldRelease _ h (hm.sub rfl)
  | swxLoopbackWrite => exact good_execSwxLoopbackWrite _ _ h (hm.sub rfl)
  | outLimitWrite => exact good_execOutLimitWrite _ _ _ _ _ h (hm.sub rfl)
  | transmitOpportunity => exact good_execTransmitOpportunity _ h (hm.sub rfl)
  | schedulerStaleDrop => exact good_execSchedulerStaleDrop _ h (hm.sub rfl)
  | gateEntryAdvance => exact good_execGateEntryAdvance _ h (hm.sub rfl)
  | swxSnapshot => exact good_execSwxSnapshot _ _ h (hm.sub rfl)
  | polSnapshot => exact good_execPolSnapshot _ _ _ h (hm.sub rfl)
  | cmRequest => exact good_execCmRequest _ _ _ _ _ _ _ h (hm.sub rfl)
  | connOpen => exact good_execConnOpen _ _ h (hm.sub rfl)
  | connReady => exact good_execConnReady _ _ h (hm.sub rfl)
  | connDrain => exact good_execConnDrain _ _ h (hm.sub rfl)
  | connErrorCmd => exact good_execConnErrorCmd _ _ h (hm.sub rfl)
  | connFree => exact good_execConnFree _ _ h (hm.sub rfl)
  | connShadow => exact good_execConnShadow _ _ h (hm.sub rfl)
  | rdmaPacketReceived => exact good_execRdmaPacketReceived _ _ h (hm.sub rfl)
  | multipathPacketReceived => exact good_execMultipathPacketReceived _ _ h (hm.sub rfl)
  | ackDelayExpiry => exact good_execAckDelayExpiry _ _ h (hm.sub rfl)
  | placementConfirm => exact good_execPlacementConfirm _ _ _ h (hm.sub rfl)
  | sendDelivery => exact good_execSendDelivery _ _ h (hm.sub rfl)
  | retransmitTimeout => exact good_execRetransmitTimeout _ _ h (hm.sub rfl)
  | ackReceived => exact good_execAckReceived _ _ _ _ h (hm.sub rfl)
  | nakReceived => exact good_execNakReceived _ _ _ _ h (hm.sub rfl)
  | rnrNakReceived => exact good_execRnrNakReceived _ _ _ _ h (hm.sub rfl)
  | rnrHoldExpiry => exact good_execRnrHoldExpiry _ _ h (hm.sub rfl)
  | cnpReceived => exact good_execCnpReceived _ _ h (hm.sub rfl)
  | rateRecoverStep => exact good_execRateRecoverStep _ _ h (hm.sub rfl)
  | workRequestSend => exact good_execWorkRequestSend _ _ _ h (hm.sub rfl)
  | regionRegister => exact good_execRegionRegister _ _ h (hm.sub rfl)
  | regionRevoke => exact good_execRegionRevoke _ _ h (hm.sub rfl)
  | revocationComplete => exact good_execRevocationComplete _ _ h (hm.sub rfl)
  | revokeDonePop => exact good_execRevokeDonePop _ h (hm.sub rfl)
  | chainArm => exact good_execChainArm _ _ _ _ _ h (hm.sub rfl)
  | chainCancel => exact good_execChainCancel _ _ h (hm.sub rfl)
  | chainFirmwareTrigger => exact good_execChainFirmwareTrigger _ _ h (hm.sub rfl)
  | chainTrigger => exact good_execChainTrigger _ _ _ _ _ h (hm.sub rfl)
  | chainFailPop => exact good_execChainFailPop _ h (hm.sub rfl)
  | rdxSnapshot => exact good_execRdxSnapshot _ _ h (hm.sub rfl)
  | fabricsConnect => exact good_execFabricsConnect _ _ _ _ _ _ _ _ _ h (hm.sub rfl)
  | fabricsDisconnect => exact good_execFabricsDisconnect _ _ h (hm.sub rfl)
  | propertyGet => exact good_execPropertyGet _ _ h (hm.sub rfl)
  | propertySet => exact good_execPropertySet _ _ h (hm.sub rfl)
  | controllerShutdownComplete => exact good_execControllerShutdownComplete _ _ h (hm.sub rfl)
  | ioFlush => exact good_execIoFlush _ _ h (hm.sub rfl)
  | ioWrite => exact good_execIoWrite _ _ _ h (hm.sub rfl)
  | ioRead => exact good_execIoRead _ _ _ h (hm.sub rfl)
  | ioWriteZeroes => exact good_execIoWriteZeroes _ _ h (hm.sub rfl)
  | ioDatasetManagement => exact good_execIoDatasetManagement _ _ h (hm.sub rfl)
  | reservationRegister => exact good_execReservationRegister _ _ h (hm.sub rfl)
  | reservationReport => exact good_execReservationReport _ _ h (hm.sub rfl)
  | reservationAcquire => exact good_execReservationAcquire _ _ h (hm.sub rfl)
  | reservationRelease => exact good_execReservationRelease _ _ h (hm.sub rfl)
  | reservationRecordWritten => exact good_execReservationRecordWritten _ _ h (hm.sub rfl)
  | resumeOpen => exact good_execResumeOpen _ _ h (hm.sub rfl)
  | resume => exact good_execResume _ _ h (hm.sub rfl)
  | pushRegionInfo => exact good_execPushRegionInfo _ _ h (hm.sub rfl)
  | spongeSpaceReserved => exact good_execSpongeSpaceReserved _ _ _ h (hm.sub rfl)
  | writeCommit => exact good_execWriteCommit _ _ h (hm.sub rfl)
  | readWaitEnd => exact good_execReadWaitEnd _ _ h (hm.sub rfl)
  | readAssembled => exact good_execReadAssembled _ _ h (hm.sub rfl)
  | flushConditionMet => exact good_execFlushConditionMet _ _ h (hm.sub rfl)
  | adminAbort => exact good_execAdminAbort _ _ h (hm.sub rfl)
  | abortCidWrite => exact good_execAbortCidWrite _ _ h (hm.sub rfl)
  | abortCancelAcknowledged => exact good_execAbortCancelAcknowledged _ _ h (hm.sub rfl)
  | cmdGateWrite => exact good_execCmdGateWrite _ _ h (hm.sub rfl)
  | replayFloorWrite => exact good_execReplayFloorWrite _ _ h (hm.sub rfl)
  | orphanHoldExpiry => exact good_execOrphanHoldExpiry _ _ h (hm.sub rfl)
  | resumeHoldExpiry => exact good_execResumeHoldExpiry _ _ h (hm.sub rfl)
  | takeoverFilterExpiry => exact good_execTakeoverFilterExpiry _ h (hm.sub rfl)
  | cmdSnapshot => exact good_execCmdSnapshot _ _ h (hm.sub rfl)
  | keepAlive => exact good_execKeepAlive _ _ h (hm.sub rfl)
  | keepAliveTimeout => exact good_execKeepAliveTimeout _ _ h (hm.sub rfl)
  | getLogPage => exact good_execGetLogPage _ _ h (hm.sub rfl)
  | identify => exact good_execIdentify _ _ h (hm.sub rfl)
  | setFeatures => exact good_execSetFeatures _ _ h (hm.sub rfl)
  | getFeatures => exact good_execGetFeatures _ _ h (hm.sub rfl)
  | asyncEventRequest => exact good_execAsyncEventRequest _ _ h (hm.sub rfl)
  | formatNvm => exact good_execFormatNvm _ _ h (hm.sub rfl)
  | formatDrainComplete => exact good_execFormatDrainComplete _ _ h (hm.sub rfl)
  | sanitize => exact good_execSanitize _ _ h (hm.sub rfl)
  | keyReplacement => exact good_execKeyReplacement _ _ h (hm.sub rfl)
  | partnerGenerationCommitted => exact good_execPartnerGenerationCommitted _ _ h (hm.sub rfl)
  | zeroFillCheckpoint => exact good_execZeroFillCheckpoint _ _ _ h (hm.sub rfl)
  | formatFillComplete => exact good_execFormatFillComplete _ _ h (hm.sub rfl)
  | sanitizeFillComplete => exact good_execSanitizeFillComplete _ _ h (hm.sub rfl)
  | clearDeferredRange => exact good_execClearDeferredRange _ _ _ _ h (hm.sub rfl)
  | namespaceDrainLimitExpiry => exact good_execNamespaceDrainLimitExpiry _ _ h (hm.sub rfl)
  | namespaceDrainComplete => exact good_execNamespaceDrainComplete _ _ h (hm.sub rfl)
  | evictionStep => exact good_execEvictionStep _ h (hm.sub rfl)
  | holdTimeAdjust => exact good_execHoldTimeAdjust _ _ h (hm.sub rfl)
  | stripeUpdateStart => exact good_execStripeUpdateStart _ _ _ h (hm.sub rfl)
  | stripeReadsComplete => exact good_execStripeReadsComplete _ _ _ h (hm.sub rfl)
  | stripeWritesComplete => exact good_execStripeWritesComplete _ _ _ h (hm.sub rfl)
  | retireCrumbWrite => exact good_execRetireCrumbWrite _ _ h (hm.sub rfl)
  | mirrorCrumbsReceived => exact good_execMirrorCrumbsReceived _ _ _ _ h (hm.sub rfl)
  | mirrorCrumbPlaced => exact good_execMirrorCrumbPlaced _ h (hm.sub rfl)
  | mirrorAckSend => exact good_execMirrorAckSend _ h (hm.sub rfl)
  | mirrorAckReceived => exact good_execMirrorAckReceived _ _ _ h (hm.sub rfl)
  | mirrorMatchTimeout => exact good_execMirrorMatchTimeout _ h (hm.sub rfl)
  | scrubLine => exact good_execScrubLine _ _ _ _ h (hm.sub rfl)
  | repairFrameReceived => exact good_execRepairFrameReceived _ _ _ _ _ h (hm.sub rfl)
  | arbiterGrant => exact good_execArbiterGrant _ _ h (hm.sub rfl)
  | arbWindowEnd => exact good_execArbWindowEnd _ h (hm.sub rfl)
  | arbCommit => exact good_execArbCommit _ h (hm.sub rfl)
  | arbFreezeWrite => exact good_execArbFreezeWrite _ _ h (hm.sub rfl)
  | dirtyCeilingWrite => exact good_execDirtyCeilingWrite _ _ _ h (hm.sub rfl)
  | spgSnapshot => exact good_execSpgSnapshot _ _ h (hm.sub rfl)
  | arbSnapshot => exact good_execArbSnapshot _ _ h (hm.sub rfl)
  | driveCommandCompletion => exact good_execDriveCommandCompletion _ _ _ _ _ _ h (hm.sub rfl)
  | groupRecordWriteComplete => exact good_execGroupRecordWriteComplete _ _ h (hm.sub rfl)
  | bitmapBitClearDue => exact good_execBitmapBitClearDue _ _ _ h (hm.sub rfl)
  | spareDelayExpiry => exact good_execSpareDelayExpiry _ _ _ h (hm.sub rfl)
  | gCmdTakeTarget => exact good_execGCmdTakeTarget _ _ h (hm.sub rfl)
  | gCmdHoldPass => exact good_execGCmdHoldPass _ _ h (hm.sub rfl)
  | gCmdReleasePass => exact good_execGCmdReleasePass _ _ h (hm.sub rfl)
  | gCmdFullResync => exact good_execGCmdFullResync _ _ h (hm.sub rfl)
  | rebuildStep => exact good_execRebuildStep _ _ h (hm.sub rfl)
  | rebuildCheckpoint => exact good_execRebuildCheckpoint _ _ h (hm.sub rfl)
  | resyncStripe => exact good_execResyncStripe _ _ h (hm.sub rfl)
  | grpSnapshot => exact good_execGrpSnapshot _ _ h (hm.sub rfl)
  | reshapeStepStart => exact good_execReshapeStepStart _ _ h (hm.sub rfl)
  | reshapeStepReadsComplete => exact good_execReshapeStepReadsComplete _ _ h (hm.sub rfl)
  | reshapeBackupWritten => exact good_execReshapeBackupWritten _ _ h (hm.sub rfl)
  | reshapeStepCommit => exact good_execReshapeStepCommit _ _ h (hm.sub rfl)
  | reshapeCancel => exact good_execReshapeCancel _ _ _ h (hm.sub rfl)
  | reshapeHold => exact good_execReshapeHold _ _ _ h (hm.sub rfl)
  | reshapeRelease => exact good_execReshapeRelease _ _ _ h (hm.sub rfl)
  | reshapeSwitch => exact good_execReshapeSwitch _ _ h (hm.sub rfl)
  | reshapeSwitchComplete => exact good_execReshapeSwitchComplete _ _ h (hm.sub rfl)
  | rshSnapshot => exact good_execRshSnapshot _ _ h (hm.sub rfl)
  | bayPerstRelease => exact good_execBayPerstRelease _ _ h (hm.sub rfl)
  | driveLinkUp => exact good_execDriveLinkUp _ _ _ _ _ h (hm.sub rfl)
  | driveLinkTrainingTimeout => exact good_execDriveLinkTrainingTimeout _ _ h (hm.sub rfl)
  | driveEnumerationComplete => exact good_execDriveEnumerationComplete _ _ _ _ h (hm.sub rfl)
  | driveControllerReady => exact good_execDriveControllerReady _ _ _ h (hm.sub rfl)
  | driveReadyTimeout => exact good_execDriveReadyTimeout _ _ h (hm.sub rfl)
  | driveIdentifyComplete => exact good_execDriveIdentifyComplete _ _ _ h (hm.sub rfl)
  | driveLinkLoss => exact good_execDriveLinkLoss _ _ h (hm.sub rfl)
  | downstreamPortContainment => exact good_execDownstreamPortContainment _ _ h (hm.sub rfl)
  | driveCommandTimeout => exact good_execDriveCommandTimeout _ _ _ h (hm.sub rfl)
  | driveAbortComplete => exact good_execDriveAbortComplete _ _ _ h (hm.sub rfl)
  | driveAbortWaitExpiry => exact good_execDriveAbortWaitExpiry _ _ _ h (hm.sub rfl)
  | healthPoll => exact good_execHealthPoll _ _ _ h (hm.sub rfl)
  | driveAsyncEvent => exact good_execDriveAsyncEvent _ _ _ _ h (hm.sub rfl)
  | drvLocateOn => exact good_execDrvLocateOn _ _ h (hm.sub rfl)
  | drvLocateOff => exact good_execDrvLocateOff _ _ h (hm.sub rfl)
  | drvClaim => exact good_execDrvClaim _ _ _ h (hm.sub rfl)
  | drvRestartDiscovery => exact good_execDrvRestartDiscovery _ _ _ h (hm.sub rfl)
  | drvSnapshot => exact good_execDrvSnapshot _ _ h (hm.sub rfl)
  | keySlotLoad => exact good_execKeySlotLoad _ _ _ _ _ _ h (hm.sub rfl)
  | keySlotClear => exact good_execKeySlotClear _ _ _ _ h (hm.sub rfl)
  | keySlotFenceComplete => exact good_execKeySlotFenceComplete _ _ _ h (hm.sub rfl)
  | gcmOpenResult => exact good_execGcmOpenResult _ _ _ h (hm.sub rfl)
  | gcmDonePop => exact good_execGcmDonePop _ h (hm.sub rfl)
  | cipSnapshot => exact good_execCipSnapshot _ _ h (hm.sub rfl)
  | partnerFrameReceived => exact good_execPartnerFrameReceived _ _ _ _ _ _ _ _ _ h (hm.sub rfl)
  | partnerNakReceived => exact good_execPartnerNakReceived _ h (hm.sub rfl)
  | partnerLinkAckSend => exact good_execPartnerLinkAckSend h (hm.sub rfl)
  | heartbeatSend => exact good_execHeartbeatSend h (hm.sub rfl)
  | heartbeatReceived => exact good_execHeartbeatReceived _ h (hm.sub rfl)
  | partnerLost => exact good_execPartnerLost _ h (hm.sub rfl)
  | helloSend => exact good_execHelloSend h (hm.sub rfl)
  | helloReceived => exact good_execHelloReceived _ h (hm.sub rfl)
  | authenticationReceived => exact good_execAuthenticationReceived _ _ _ _ _ h (hm.sub rfl)
  | rekeyPhaseStart => exact good_execRekeyPhaseStart h (hm.sub rfl)
  | rekeyAnnounceReceived => exact good_execRekeyAnnounceReceived _ h (hm.sub rfl)
  | rekeyAckReceived => exact good_execRekeyAckReceived _ h (hm.sub rfl)
  | keyReportReceived => exact good_execKeyReportReceived _ h (hm.sub rfl)
  | acquisitionStateReceived => exact good_execAcquisitionStateReceived _ h (hm.sub rfl)
  | replicatedFrameReceived => exact good_execReplicatedFrameReceived _ _ h (hm.sub rfl)
  | carriedDataReceived => exact good_execCarriedDataReceived _ _ _ _ h (hm.sub rfl)
  | tableEventReceived => exact good_execTableEventReceived _ _ _ _ _ _ _ h (hm.sub rfl)
  | seedFrameReceived => exact good_execSeedFrameReceived _ _ _ h (hm.sub rfl)
  | pralineTransferReceived => exact good_execPralineTransferReceived _ _ _ h (hm.sub rfl)
  | reseedComplete => exact good_execReseedComplete h (hm.sub rfl)
  | leaseRenewalTick => exact good_execLeaseRenewalTick h (hm.sub rfl)
  | leaseKick => exact good_execLeaseKick _ h (hm.sub rfl)
  | leaseAcquisitionWrite => exact good_execLeaseAcquisitionWrite _ _ h (hm.sub rfl)
  | leaseSlotWriteComplete => exact good_execLeaseSlotWriteComplete _ _ h (hm.sub rfl)
  | leaseEvaluate => exact good_execLeaseEvaluate h (hm.sub rfl)
  | hardwareLeaseTimerFire => exact good_execHardwareLeaseTimerFire h (hm.sub rfl)
  | partnerSlotRead => exact good_execPartnerSlotRead h (hm.sub rfl)
  | partnerSlotReadComplete => exact good_execPartnerSlotReadComplete _ _ h (hm.sub rfl)
  | interlockClaimWindowEnd => exact good_execInterlockClaimWindowEnd h (hm.sub rfl)
  | interlockInAssert => exact good_execInterlockInAssert _ h (hm.sub rfl)
  | interlockClaimRetry => exact good_execInterlockClaimRetry h (hm.sub rfl)
  | reservationFencingComplete => exact good_execReservationFencingComplete _ _ _ _ h (hm.sub rfl)
  | pairCmdClearStale => exact good_execPairCmdClearStale _ h (hm.sub rfl)
  | pairCmdHandover => exact good_execPairCmdHandover _ h (hm.sub rfl)
  | pairCmdCancelHandover => exact good_execPairCmdCancelHandover _ h (hm.sub rfl)
  | partnerLossH0 => exact good_execPartnerLossH0 h (hm.sub rfl)
  | partnerLossUnmirror => exact good_execPartnerLossUnmirror h (hm.sub rfl)
  | takeoverMajorityTimeout => exact good_execTakeoverMajorityTimeout h (hm.sub rfl)
  | handoverRequestReceived => exact good_execHandoverRequestReceived h (hm.sub rfl)
  | handoverAcceptReceived => exact good_execHandoverAcceptReceived h (hm.sub rfl)
  | handoverAnswerTimeout => exact good_execHandoverAnswerTimeout h (hm.sub rfl)
  | handoverQuiesced => exact good_execHandoverQuiesced h (hm.sub rfl)
  | handoverGoReceived => exact good_execHandoverGoReceived h (hm.sub rfl)
  | handoverDoneReceived => exact good_execHandoverDoneReceived h (hm.sub rfl)
  | gateOfferReceived => exact good_execGateOfferReceived _ h (hm.sub rfl)
  | gateReleaseHoldExpiry => exact good_execGateReleaseHoldExpiry h (hm.sub rfl)
  | gateReleasedReceived => exact good_execGateReleasedReceived _ _ _ _ _ h (hm.sub rfl)
  | gateTakenReceived => exact good_execGateTakenReceived _ h (hm.sub rfl)
  | gateWatchSample => exact good_execGateWatchSample _ h (hm.sub rfl)
  | pairSnapshot => exact good_execPairSnapshot _ _ h (hm.sub rfl)
  | powerWarningAssert => exact good_execPowerWarningAssert _ _ h (hm.sub rfl)
  | powerWarningDeassert => exact good_execPowerWarningDeassert _ h (hm.sub rfl)
  | flushRecordWriteComplete => exact good_execFlushRecordWriteComplete _ _ h (hm.sub rfl)
  | holdupDeadlineExpiry => exact good_execHoldupDeadlineExpiry h (hm.sub rfl)
  | flsBudgetWrite => exact good_execFlsBudgetWrite _ _ _ h (hm.sub rfl)
  | channelStart => exact good_execChannelStart _ _ h (hm.sub rfl)
  | replayComplete => exact good_execReplayComplete _ h (hm.sub rfl)
  | flsSnapshot => exact good_execFlsSnapshot _ _ h (hm.sub rfl)
  | sidebandScan => exact good_execSidebandScan _ _ _ _ h (hm.sub rfl)
  | seatDebounceExpiry => exact good_execSeatDebounceExpiry _ h (hm.sub rfl)
  | bayRampStart => exact good_execBayRampStart _ h (hm.sub rfl)
  | bayLoopStep => exact good_execBayLoopStep _ _ _ _ _ h (hm.sub rfl)
  | bayPowerGood => exact good_execBayPowerGood _ h (hm.sub rfl)
  | bayPowerGoodLoss => exact good_execBayPowerGoodLoss _ h (hm.sub rfl)
  | bayLimitEntry => exact good_execBayLimitEntry _ h (hm.sub rfl)
  | bayLimitExit => exact good_execBayLimitExit _ h (hm.sub rfl)
  | bayLimitTimeout => exact good_execBayLimitTimeout _ h (hm.sub rfl)
  | bayFastTrip => exact good_execBayFastTrip _ h (hm.sub rfl)
  | bayShortAtStart => exact good_execBayShortAtStart _ h (hm.sub rfl)
  | bayGateNotRising => exact good_execBayGateNotRising _ h (hm.sub rfl)
  | bayRampTimeout => exact good_execBayRampTimeout _ h (hm.sub rfl)
  | fetThermalUpdate => exact good_execFetThermalUpdate _ h (hm.sub rfl)
  | thermistorSample => exact good_execThermistorSample _ _ h (hm.sub rfl)
  | bayBackoffExpiry => exact good_execBayBackoffExpiry _ h (hm.sub rfl)
  | bayRetryCountClear => exact good_execBayRetryCountClear _ h (hm.sub rfl)
  | bayPrechargeTimeout => exact good_execBayPrechargeTimeout _ h (hm.sub rfl)
  | vgdLow => exact good_execVgdLow h (hm.sub rfl)
  | vgdOkRestored => exact good_execVgdOkRestored h (hm.sub rfl)
  | bayCmdOn => exact good_execBayCmdOn _ _ h (hm.sub rfl)
  | bayCmdOff => exact good_execBayCmdOff _ _ h (hm.sub rfl)
  | bayCmdClearRetries => exact good_execBayCmdClearRetries _ _ h (hm.sub rfl)
  | bayEpwLeadExpiry => exact good_execBayEpwLeadExpiry _ h (hm.sub rfl)
  | gateGuardDischarge => exact good_execGateGuardDischarge _ _ _ h (hm.sub rfl)
  | baySnapshot => exact good_execBaySnapshot _ h (hm.sub rfl)
  | epCcEnable => exact good_execEpCcEnable _ _ _ _ _ _ _ _ h (hm.sub rfl)
  | epCcDisable => exact good_execEpCcDisable _ h (hm.sub rfl)
  | epShutdown => exact good_execEpShutdown _ _ h (hm.sub rfl)
  | epShutdownComplete => exact good_execEpShutdownComplete _ h (hm.sub rfl)
  | epSqDoorbell => exact good_execEpSqDoorbell _ _ _ h (hm.sub rfl)
  | epCqDoorbell => exact good_execEpCqDoorbell _ _ _ h (hm.sub rfl)
  | epFetchTurn => exact good_execEpFetchTurn h (hm.sub rfl)
  | epSqFetchComplete => exact good_execEpSqFetchComplete _ _ h (hm.sub rfl)
  | epCreateIoSq => exact good_execEpCreateIoSq _ _ h (hm.sub rfl)
  | epCreateIoCq => exact good_execEpCreateIoCq _ _ h (hm.sub rfl)
  | epDeleteIoSq => exact good_execEpDeleteIoSq _ _ h (hm.sub rfl)
  | epDeleteIoCq => exact good_execEpDeleteIoCq _ _ h (hm.sub rfl)
  | epDataFetchComplete => exact good_execEpDataFetchComplete _ _ _ h (hm.sub rfl)
  | epChainWorkRequest => exact good_execEpChainWorkRequest _ h (hm.sub rfl)
  | epMsixSend => exact good_execEpMsixSend _ _ _ _ h (hm.sub rfl)
  | epCompletionTimeout => exact good_execEpCompletionTimeout _ _ _ h (hm.sub rfl)
  | epCompletionReceived => exact good_execEpCompletionReceived _ _ h (hm.sub rfl)
  | epBmeClear => exact good_execEpBmeClear _ h (hm.sub rfl)
  | epD3hotEntry => exact good_execEpD3hotEntry _ _ h (hm.sub rfl)
  | epFlr => exact good_execEpFlr _ h (hm.sub rfl)
  | epVfDisable => exact good_execEpVfDisable _ h (hm.sub rfl)
  | epConventionalReset => exact good_execEpConventionalReset _ _ h (hm.sub rfl)
  | epResetComplete => exact good_execEpResetComplete _ h (hm.sub rfl)
  | epfSnapshot => exact good_execEpfSnapshot _ h (hm.sub rfl)
  | lockstepMismatch => exact good_execLockstepMismatch h (hm.sub rfl)
  | secureWatchdogExpiry => exact good_execSecureWatchdogExpiry h (hm.sub rfl)
  | nsWatchdogExpiry => exact good_execNsWatchdogExpiry h (hm.sub rfl)
  | secureWatchdogKick => exact good_execSecureWatchdogKick _ h (hm.sub rfl)
  | nsWatchdogKick => exact good_execNsWatchdogKick h (hm.sub rfl)
  | pldmRequestUpdate => exact good_execPldmRequestUpdate _ _ h (hm.sub rfl)
  | pldmFirmwareData => exact good_execPldmFirmwareData _ _ _ _ h (hm.sub rfl)
  | firmwareUpdateVerified => exact good_execFirmwareUpdateVerified h (hm.sub rfl)
  | pldmActivateFirmware => exact good_execPldmActivateFirmware h (hm.sub rfl)
  | pldmCancelUpdate => exact good_execPldmCancelUpdate _ h (hm.sub rfl)
  | pldmTransferTimeout => exact good_execPldmTransferTimeout h (hm.sub rfl)
  | mctpControlMessage => exact good_execMctpControlMessage _ _ _ h (hm.sub rfl)
  | nvmeMiCommand => exact good_execNvmeMiCommand _ _ h (hm.sub rfl)
  | miAdminCommand => exact good_execMiAdminCommand _ _ _ _ _ h (hm.sub rfl)
  | spdmRequest => exact good_execSpdmRequest _ _ _ h (hm.sub rfl)
  | folricReadEventLog => exact good_execFolricReadEventLog _ _ _ h (hm.sub rfl)
  | folricReadLedger => exact good_execFolricReadLedger _ _ _ _ h (hm.sub rfl)
  | folricReadSensors => exact good_execFolricReadSensors _ _ _ h (hm.sub rfl)
  | sgmiiDatagram => exact good_execSgmiiDatagram _ h (hm.sub rfl)
  | eventLogAppend => exact good_execEventLogAppend h (hm.sub rfl)
  | eventLogNvmCopy => exact good_execEventLogNvmCopy _ h (hm.sub rfl)
  | suppressionPeriodEnd => exact good_execSuppressionPeriodEnd h (hm.sub rfl)
  | sensorSample => exact good_execSensorSample _ _ h (hm.sub rfl)
  | thermalTrip => exact good_execThermalTrip _ h (hm.sub rfl)
  | qcauseRead => exact good_execQcauseRead h (hm.sub rfl)
  | mgtSnapshot => exact good_execMgtSnapshot _ h (hm.sub rfl)
  | proofingStart => exact good_execProofingStart _ h (hm.sub rfl)
  | proofingDigestReceived => exact good_execProofingDigestReceived _ _ _ _ h (hm.sub rfl)
  | proofingEnd => exact good_execProofingEnd _ _ h (hm.sub rfl)
  | ledgerWriteComplete => exact good_execLedgerWriteComplete _ h (hm.sub rfl)
  | ledgerWriteRetry => exact good_execLedgerWriteRetry h (hm.sub rfl)
  | ownerEnrolment => exact good_execOwnerEnrolment _ _ h (hm.sub rfl)
  | ownerTransfer => exact good_execOwnerTransfer _ _ _ h (hm.sub rfl)
  | mediaRootImport => exact good_execMediaRootImport _ _ _ _ h (hm.sub rfl)
  | debugTokenWrite => exact good_execDebugTokenWrite _ _ _ _ _ h (hm.sub rfl)
  | tamper => exact good_execTamper _ h (hm.sub rfl)
  | secSnapshot => exact good_execSecSnapshot _ _ h (hm.sub rfl)
  | backgroundTick => exact good_execBackgroundTick _ _ h (hm.sub rfl)
  | patrolStripe => exact good_execPatrolStripe _ h (hm.sub rfl)
  | bgwSnapshot => exact good_execBgwSnapshot _ _ h (hm.sub rfl)
  | pmcStart => exact good_execPmcStart _ _ _ _ h (hm.sub rfl)
  | pmcStop => exact good_execPmcStop _ _ _ h (hm.sub rfl)
  | pmcTimedArm => exact good_execPmcTimedArm _ _ _ _ _ h (hm.sub rfl)
  | pmcTimedStart => exact good_execPmcTimedStart _ h (hm.sub rfl)
  | pmcTimedSnapshot => exact good_execPmcTimedSnapshot _ h (hm.sub rfl)
  | pmcSnapshot => exact good_execPmcSnapshot _ _ h (hm.sub rfl)
  | pmcCounterPreset => exact good_execPmcCounterPreset _ _ _ _ _ h (hm.sub rfl)
  | pmcSelectorWrite => exact good_execPmcSelectorWrite _ _ _ _ h (hm.sub rfl)
  | perfCounterLogPage => exact good_execPerfCounterLogPage _ _ h (hm.sub rfl)
  | powerOnRelease => exact good_execPowerOnRelease h (hm.sub rfl)
  | crystalValid => exact good_execCrystalValid _ h (hm.sub rfl)
  | fuseLoadComplete => exact good_execFuseLoadComplete h (hm.sub rfl)
  | strapRead => exact good_execStrapRead _ h (hm.sub rfl)
  | railStepComplete => exact good_execRailStepComplete h (hm.sub rfl)
  | railStepTimeout => exact good_execRailStepTimeout h (hm.sub rfl)
  | clockCheckComplete => exact good_execClockCheckComplete _ _ _ h (hm.sub rfl)
  | dieReleaseStep => exact good_execDieReleaseStep _ h (hm.sub rfl)
  | stackInitComplete => exact good_execStackInitComplete _ _ h (hm.sub rfl)
  | resetNAssert => exact good_execResetNAssert h (hm.append.sub rfl)
  | deviceRailUndervoltage => exact good_execDeviceRailUndervoltage h (hm.append.sub rfl)
  | rstCmdPackage => exact good_execRstCmdPackage _ h (hm.append.sub rfl)
  | rstCmdDie => exact good_execRstCmdDie _ _ h (hm.sub rfl)
  | rstCmdChannel => exact good_execRstCmdChannel _ _ h (hm.sub rfl)
  | cdWatchdogKick => exact good_execCdWatchdogKick _ h (hm.sub rfl)
  | cdWatchdogExpiry => exact good_execCdWatchdogExpiry _ h (hm.sub rfl)
  | cdFatalError => exact good_execCdFatalError _ h (hm.sub rfl)
  | jtagResetRequest => exact good_execJtagResetRequest h (hm.append.sub rfl)
  | dieResetRelease => exact good_execDieResetRelease _ _ _ _ _ h (hm.sub rfl)
  | channelResetRelease => exact good_execChannelResetRelease _ _ h (hm.sub rfl)
  | refclkOrPllLoss => exact good_execRefclkOrPllLoss _ h (hm.sub rfl)
  | cdClockLoss => exact good_execCdClockLoss _ _ h (hm.sub rfl)
  | epRefclkInvalid => exact good_execEpRefclkInvalid _ h (hm.sub rfl)
  | crystalOutOfRange => exact good_execCrystalOutOfRange _ h (hm.sub rfl)
  | avsLoopInterval => exact good_execAvsLoopInterval _ _ _ _ h (hm.sub rfl)
  | slackEmergency => exact good_execSlackEmergency _ _ h (hm.sub rfl)
  | slackEmergencyTimeout => exact good_execSlackEmergencyTimeout _ h (hm.sub rfl)
  | voltageRecalMonitor => exact good_execVoltageRecalMonitor _ h (hm.sub rfl)
  | standbySupplyLoss => exact good_execStandbySupplyLoss h (hm.append.sub rfl)
  | resetNRelease => exact good_execResetNRelease h (hm.sub rfl)
  | ptpMessageSend => exact good_execPtpMessageSend _ _ h (hm.sub rfl)
  | pdWatchdogExpiry => exact good_execPdWatchdogExpiry h (hm.sub rfl)
  | crystalBackInRange => exact good_execCrystalBackInRange _ h (hm.sub rfl)
  | epPerstDeassert => exact good_execEpPerstDeassert h (hm.sub rfl)
  | epLinkUp => exact good_execEpLinkUp _ _ h (hm.sub rfl)
  | epL0pWidthChange => exact good_execEpL0pWidthChange _ _ h (hm.sub rfl)
  | epD0Entry => exact good_execEpD0Entry _ _ h (hm.sub rfl)
  | epVfEnable => exact good_execEpVfEnable _ h (hm.sub rfl)
  | zeroRangeEntryFree => exact good_execZeroRangeEntryFree _ _ h (hm.sub rfl)
  | cancelCrumbRetirement => exact good_execCancelCrumbRetirement _ _ h (hm.sub rfl)
  | driveControllerFatal => exact good_execDriveControllerFatal _ _ h (hm.sub rfl)
  | uartInput => exact good_execUartInput _ h (hm.sub rfl)


/-- No command has the queue of waiting commands or the part's channel dies in its footprint. -/
theorem queue_channels_untouched (i : Instr) : .pending ∉ touches i ∧ .channels ∉ touches i := by
  cases i <;> dsimp only [touches] <;> decide

/-- A command answers a next state: it stays in the command's footprint, and is tidy where the state before was. -/
theorem outGood_exec (i : Instr) (s : State) : OutGood (maskOf (touches i)) s (Tidy s) (exec i s) :=
  good_exec i (.refl s id) (.refl _)

theorem good_of_exec (h : exec i s = .next t) : Good (maskOf (touches i)) s (Tidy s) t := by
  obtain ⟨t', ht, hg⟩ := outGood_exec i s
  cases h.symm.trans ht
  exact hg

/-! ### Tidiness -/

/-- Tidiness does not speak of the queue of waiting commands. -/
theorem Tidy.withPending (h : Tidy s) (l : List Instr) : Tidy { s with pending := l } :=
  { h with }

theorem Tidy.advance (h : Tidy s) (n : Nat) : Tidy (s.advance n) :=
  (good_advance (M := 0x100000000041) (s0 := s) (q := True) (.refl s fun _ => h) n (.refl _)).tidy trivial

/-- A step that answers a next state either lets time pass or runs the command at the front of the queue. -/
theorem step_cases (h : step s = .next t) :
    s.pending = [] ∧ t = s.advance (s.now + 1) ∨
      ∃ c rest, s.pending = c :: rest ∧ exec c { s with pending := rest } = .next t := by
  unfold step at h
  split at h
  · next e => exact .inl ⟨e, by cases h; rfl⟩
  · next c rest e => exact .inr ⟨c, rest, e, h⟩

/-! ### The state right after reset -/

@[simp] theorem r_reset (d) (f) (i) : State.reset.r d f i = f.spec.reset := rfl
@[simp] theorem ctr_reset (d) (b) (n) (i) : State.reset.ctr d b n i = 0 := rfl

/-- The package's mode is Off until the management die's cores run. -/
theorem modeNow_of_phase (h : s.rst.phase < 3) : s.modeNow = 0 := if_pos h

/-- A state without entries in its lists is tidy. -/
theorem Tidy.of_empty (hr : s.regs = []) (hc : s.ctrs = []) (hl : s.latches = []) (hb : s.snaps = []) : Tidy s :=
  ⟨by simp [hr], by simp [hr], by simp [hc], by simp [hc], by simp [hl], by simp [hb]⟩

end Sys2Proof.Machine

open Sys2Proof Sys2Proof.Machine

/-- Settles O5: a step lets time pass, which leaves what Tidy speaks of, or runs a command, which is good. -/
theorem stepKeepsTidy : Obligations.StepKeepsTidy := by
  intro s t hs h
  rcases step_cases h with ⟨-, rfl⟩ | ⟨c, rest, -, h⟩
  · exact hs.advance _
  · exact (good_of_exec h).tidy (hs.withPending rest)

/-- Settles O6: a command is good, and neither the queue nor the part is in its footprint. -/
theorem everyCommandCompletes : Obligations.EveryCommandCompletes := by
  intro i s
  obtain ⟨t, ht, hg⟩ := outGood_exec i s
  obtain ⟨hq, hc⟩ := queue_channels_untouched i
  exact ⟨t, ht, hg.frame .pending hq, hg.frame .channels hc, hg.tidy⟩

/-- Settles O7: a command is good for its footprint. -/
theorem commandsStayInFootprint : Obligations.CommandsStayInFootprint := by
  intro i s t h
  exact (good_of_exec h).frame

/-- Settles O3: the reset state has no entries, so every read finds the table's value. -/
theorem resetValues : Obligations.ResetValues :=
  ⟨r_reset, ctr_reset, rfl, rfl, rfl, rfl, rfl, rfl, modeNow_of_phase (by decide)⟩

/-- Settles O4: the reset state has no entries. -/
theorem resetIsTidy : Obligations.ResetIsTidy :=
  .of_empty rfl rfl rfl rfl
end

section
/-! PROOFS. Register accesses (spec/00 R7 to R13, spec/03 R79): where a read or a write ends decides what it does; what a read
latches, what a write of plain fields leaves in them, and what a denied write leaves. -/

namespace Sys2Proof.Machine

variable {s : State} {q : Req} {d blk off : Nat}

/-! ### Reads -/

/-- The PMC counters that follow an access change nothing but PMC's registers and the interrupts that leave. -/
theorem pmcFeed_kept (s : State) (d e n : Nat) (p : Part) (h : p ∉ [Part.out, .regs 6]) : p.same s (s.pmcFeed d e n) :=
  (good_pmcFeed (q := False) (.refl s nofun) d e n (Cover.ofList (l' := [.out, .regs 6]) (by simp))).frame p h

theorem r_pmcFeed (d e n d') (f : Fld) (i) (h : f.block ≠ 6) : (s.pmcFeed d e n).r d' f i = s.r d' f i :=
  pmcFeed_kept s d e n (.regs f.block) (by simp [h]) d' f i rfl

theorem ctr_pmcFeed (d e n d' b k i) : (s.pmcFeed d e n).ctr d' b k i = s.ctr d' b k i := by
  unfold State.ctr
  rw [pmcFeed_ctrs]

theorem exec_read_of_reg {addr : BitVec 40} {full : Bool} (h : s.dest addr.toNat full = .reg d blk off)
    (ha : readsApart blk off = false) :
    exec (.loRegisterRead q addr full) s = .next (s.readReg q addr.toNat d blk off) := by
  show execLoRegisterRead q addr full s = _
  simp only [execLoRegisterRead, h, ha]
  rfl

theorem exec_read_of_absent {addr : BitVec 40} {full : Bool} (h : s.dest addr.toNat full = .absent) :
    exec (.loRegisterRead q addr full) s =
      .next ((s.latError q .EVENTS_absent addr.toNat 5 [addr.toNat]).emit (.readData addr.toNat 0)) := by
  show execLoRegisterRead q addr full s = _
  simp only [execLoRegisterRead, h]
  rfl

/-- A latch is its requester's for the pair. -/
theorem latchKey_eq_iff (x : Latch) :
    (x.req = q && x.die = d && x.blk = blk && x.off = off) = true ↔ latchKey x = (q, d, blk, off) := by
  simp [latchKey, and_assoc]

/-- A permitted read of a _LO register answers its word and replaces the requester's latch for the pair (R79). -/
theorem readReg_lo {addr : Nat} (hp : pairLo d blk off = true)
    (hw : ((s.pmcFeed d 0x06020000 1).wordAt d blk off q.secure).2 = false) :
    ∃ l, s.readReg q addr d blk off =
      ({ s.pmcFeed d 0x06020000 1 with
          latches := l ++ [⟨q, d, blk, off, ((s.pmcFeed d 0x06020000 1).wordAt d blk (off + 4) q.secure).1⟩] } : State).emit
        (.readData addr ((s.pmcFeed d 0x06020000 1).wordAt d blk off q.secure).1) := by
  unfold State.readReg
  simp only [hp, hw]
  exact ⟨_, rfl⟩

/-- A read of a _HI register with a pending latch answers the latched half and consumes the requester's latch (R79). -/
theorem readReg_hi {addr : Nat} {x : Latch} (hp : pairLo d blk (off + 4) = false) (hx : x ∈ s.latches)
    (hk : latchKey x = (q, d, blk, off)) (hn : (s.latches.map latchKey).Nodup) :
    s.readReg q addr d blk (off + 4) =
      ({ s.pmcFeed d 0x06020000 1 with
          latches := s.latches.filter (fun y => !(y.req = q && y.die = d && y.blk = blk && y.off = off)) } : State).emit
        (.readData addr x.upper) := by
  have hl : (s.pmcFeed d 0x06020000 1).latches = s.latches := pmcFeed_kept s _ _ _ .latches (by simp)
  have hf : s.latches.find? (fun y => y.req = q && y.die = d && y.blk = blk && y.off = off) = some x := by
    obtain ⟨y, hy⟩ : ∃ y, s.latches.find? (fun y => y.req = q && y.die = d && y.blk = blk && y.off = off) = some y :=
      Option.isSome_iff_exists.1 (List.find?_isSome.2 ⟨x, hx, (latchKey_eq_iff x).2 hk⟩)
    have hm := List.find?_some hy
    have hyk : latchKey y = (q, d, blk, off) := (latchKey_eq_iff y).1 hm
    rw [hy, List.inj_on_of_nodup_map hn (List.mem_of_find?_eq_some hy) hx (hyk.trans hk.symm)]
  unfold State.readReg
  simp only [hp, hl, Nat.le_add_left, if_true, Nat.add_sub_cancel, hf]
  rfl

/-! ### Fields of a register -/

theorem block_of_mem_fieldsOf {f : Fld} (h : f ∈ fieldsOf blk) : f.block = blk := by
  unfold fieldsOf at h
  split at h
  case h_29 => cases h
  all_goals
    obtain ⟨x, -, rfl⟩ := List.mem_map.1 h
    rfl

/-- A field that an access reaches is one of its block's, at an offset of the field. -/
theorem mem_fieldsAt {h : FldHit} (hh : h ∈ fieldsAt d blk off) :
    h.f ∈ fieldsOf blk ∧ fldAt h.f off = some (h.i, h.k) := by
  obtain ⟨f, hf, e⟩ := List.mem_filterMap.1 hh
  split at e
  · obtain ⟨p, hp, rfl⟩ := Option.map_eq_some_iff.1 e
    exact ⟨hf, hp⟩
  · cases e

theorem block_of_mem_fieldsAt {h : FldHit} (hh : h ∈ fieldsAt d blk off) : h.f.block = blk :=
  block_of_mem_fieldsOf (mem_fieldsAt hh).1

/-- An offset at which a field is found lies within the span of its registers. -/
theorem offset_of_fldAt {f : Fld} {p : Nat × Nat} (h : fldAt f off = some p) :
    f.spec.base ≤ off ∧ (off - f.spec.base) % f.spec.stride < 4 * ((f.spec.lo + f.spec.width + 31) / 32) := by
  unfold fldAt at h
  extract_lets x size at h
  split at h
  · cases h
  next hb =>
    refine ⟨Nat.le_of_not_lt hb, ?_⟩
    split at h
    · next hs =>
      split at h
      · next ho => rwa [hs, Nat.mod_zero]
      · cases h
    · split at h
      · next ho => exact ho.2
      · cases h

/-! ### Writes -/

theorem exec_write_of_reg {addr : BitVec 40} {full : Bool} {v : Word} (h : s.dest addr.toNat full = .reg d blk off) :
    exec (.registerWrite q addr full v) s = .next (s.writeReg q d blk off v.toNat) := by
  show execRegisterWrite q addr full v s = _
  simp only [execRegisterWrite, h]

/-- A write outside PMC and the tables of RDX: the fields closed to the writer's world decide on a violation, the open plain
ones are written. -/
theorem writeReg_eq {word : Nat} (hb : blk ≠ 0x06 ∧ ¬(blk = 0x20 ∧ 0x10000 ≤ off)) :
    s.writeReg q d blk off word =
      (if ((fieldsAt d blk off).filter (fun h => !h.mayWrite q.secure && !h.apart)).any
          ((s.pmcFeed d 0x06020000 1).wouldChange d word)
        then (s.pmcFeed d 0x06020000 1).worldViolation q d blk off true else s.pmcFeed d 0x06020000 1).writeFields q d blk off word
        ((fieldsAt d blk off).filter (fun h => h.mayWrite q.secure && h.plain)) := by
  obtain ⟨h6, h20⟩ := hb
  unfold State.writeReg
  extract_lets u hs no yes t
  have hc : ¬(blk = 0x20 ∧ 1 ≤ d ∧ d ≤ 6 ∧ 0x10000 ≤ off ∧ off < 0x110000) := fun h => h20 ⟨h.1, h.2.2.2.1⟩
  have hr : ¬(blk = 0x20 ∧ 1 ≤ d ∧ d ≤ 6 ∧ 0x200000 ≤ off ∧ off < 0x400000) := fun h => h20 ⟨h.1, by omega⟩
  have hl : u.pmcLimits q d blk off = false := by simp [State.pmcLimits, h6]
  rw [if_neg hc, if_neg hr, hl]
  rfl

theorem writeFields_nil {word : Nat} : s.writeFields q d blk off word [] = s := rfl

/-- Fields in range, none of them lockable, in a state that allows the write: each is written, and what follows is done. -/
theorem writeFields_eq {word : Nat} {hs : List FldHit} (hne : hs ≠ []) (hr : ∀ h ∈ hs, h.inRange word = true)
    (hl : ∀ h ∈ hs, h.f.spec.acc ≠ .rwl) (hj : s.jointRange d blk off word hs = true)
    (ha : s.writeAllowed d blk off word hs = true) :
    s.writeFields q d blk off word hs =
      (foldS (fun (s : State) h => s.w d h.f (s.written d word h) h.i) s hs).afterWrite d blk off := by
  have h0 : hs.isEmpty = false := by simpa using hne
  have h1 : hs.any (fun h => h.f.spec.acc = .rwl) = false := by simpa using hl
  have h2 : hs.all (fun h => h.inRange word) = true := List.all_eq_true.2 hr
  simp [State.writeFields, h0, h1, h2, hj, ha]

theorem written_congr {t : State} {word : Nat} {h : FldHit} (e : s.r d h.f h.i = t.r d h.f h.i) :
    s.written d word h = t.written d word h := by
  simp only [State.written, e]

/-- Fields other than those written keep their values. -/
theorem r_foldS_w_of_ne {word : Nat} {hs : List FldHit} {f : Fld} {i : Nat} (h : ∀ a ∈ hs, ¬(a.f = f ∧ a.i = i)) :
    (foldS (fun (s : State) h => s.w d h.f (s.written d word h) h.i) s hs).r d f i = s.r d f i := by
  induction hs generalizing s with
  | nil => rfl
  | cons a l ih =>
    refine (ih fun b hb => h b (List.mem_cons_of_mem _ hb)).trans ?_
    rw [r_w, if_neg fun e => h a (by simp) e.2]

/-- Each of distinct fields written holds its own new value. -/
theorem r_foldS_w {word : Nat} {hs : List FldHit} {h : FldHit} (hp : hs.Pairwise (fun a b => ¬(a.f = b.f ∧ a.i = b.i)))
    (hh : h ∈ hs) : (foldS (fun (s : State) h => s.w d h.f (s.written d word h) h.i) s hs).r d h.f h.i =
      s.written d word h % 2 ^ h.f.spec.width := by
  induction hs generalizing s with
  | nil => cases hh
  | cons a l ih =>
    obtain ⟨ha, hl⟩ := List.pairwise_cons.1 hp
    rcases List.mem_cons.1 hh with rfl | hm
    · refine (r_foldS_w_of_ne fun b hb e => ha b hb ⟨e.1.symm, e.2.symm⟩).trans (r_w_same ..)
    · refine (ih hl hm).trans ?_
      rw [written_congr (t := s) (by rw [r_w, if_neg fun e => ha h hm e.2])]

/-! ### What follows from a write leaves the fields written -/

/-- The flags of a port, which lanes and links follow (spec/05 R113, R122). -/
def State.portFlags (s : State) (d p : Nat) : Nat := s.r d (.eth .PORT_FLAGS_flags) p

theorem portFlags_w (d) (f : Fld) (v i d' p) (h : f ≠ .eth .PORT_FLAGS_flags := by decide) :
    (s.w d f v i).portFlags d' p = s.portFlags d' p := r_w_ne _ _ _ _ _ _ _ h

theorem portFlags_wrapped (d k i d' p) : (s.wrapped d 0x10 k i).portFlags d' p = s.portFlags d' p := by
  unfold State.wrapped
  split
  · rfl
  · next ho =>
    cases ho
    extract_lets ei y
    have hy : y.portFlags d' p = s.portFlags d' p := portFlags_w ..
    split
    · exact hy
    · exact hy

/-- The counters of ETH leave the flags. -/
theorem portFlags_bump (d k n i d' p) : (s.bump d 0x10 k n i).portFlags d' p = s.portFlags d' p := by
  unfold State.bump
  extract_lets v x y
  refine (r_pmcFeed _ _ _ _ _ _ (by decide)).trans ?_
  show (if v < 2 ^ 64 then x else x.wrapped d 0x10 k i).portFlags d' p = x.portFlags d' p
  split
  · rfl
  · exact portFlags_wrapped ..

theorem portFlags_linkTo (a st d p) : (s.linkTo a st).portFlags d p = s.portFlags d p :=
  (portFlags_w ..).trans (portFlags_w ..)

theorem portFlags_leaveUp (a st snd d p) : (s.leaveUp a st snd).portFlags d p = s.portFlags d p := by
  unfold State.leaveUp
  split
  · exact portFlags_linkTo ..
  extract_lets s1 s2 s3 sch s4 eth y s5
  have h1 : s2.portFlags d p = s.portFlags d p := (portFlags_bump ..).trans (portFlags_linkTo ..)
  have h3 : s3.portFlags d p = s2.portFlags d p := by
    subst s3
    split
    · exact portFlags_bump ..
    · rfl
  have h4 : s4.portFlags d p = s3.portFlags d p := by
    subst s4
    split
    · exact portFlags_bump ..
    · rfl
  have h5 : s5.portFlags d p = s4.portFlags d p := by
    subst s5
    split
    · rfl
    · split
      · rfl
      · exact portFlags_bump (s := y) ..
  calc _ = s5.portFlags d p := (portFlags_w ..).trans (portFlags_w ..)
    _ = s.portFlags d p := by rw [h5, h4, h3, h1]

theorem portFlags_portLocked (a d p) : (s.portLocked a).portFlags d p = s.portFlags d p := by
  unfold State.portLocked
  extract_lets ls mask t
  have ht : t.portFlags d p = s.portFlags d p := portFlags_w ..
  rw [← ht]
  split
  · split
    · rfl
    · exact portFlags_leaveUp ..
  · split
    · exact portFlags_linkTo ..
    · rfl

theorem portFlags_laneTo (l st d p) : (s.laneTo l st).portFlags d p = s.portFlags d p := by
  unfold State.laneTo
  extract_lets s1 eth s2 s3
  have h1 : s1.portFlags d p = s.portFlags d p := portFlags_w ..
  have h2 : s2.portFlags d p = s1.portFlags d p := by
    subst s2
    split
    · rfl
    · rfl
  have h3 : s3.portFlags d p = s2.portFlags d p := by
    subst s3
    split
    · exact (portFlags_w ..).trans (portFlags_w ..)
    · rfl
  rw [← h1, ← h2, ← h3]
  split
  · exact portFlags_portLocked ..
  · rfl

/-- A value that every step of a fold leaves is left by the fold. -/
theorem foldS_keeps {α β : Type} {g : State → α → State} {v : State → β} (h : ∀ x a, v (g x a) = v x) (l : List α) :
    v (foldS g s l) = v s := by
  induction l generalizing s with
  | nil => rfl
  | cons a l ih => exact ih.trans (h s a)

/-- Lanes that follow the flags leave them. -/
theorem portFlags_lanesFollow (d p) : s.lanesFollow.portFlags d p = s.portFlags d p := by
  unfold State.lanesFollow
  extract_lets run
  refine (foldS_keeps (v := (State.portFlags · d p)) (fun x l => ?_) _).trans
    (foldS_keeps (v := (State.portFlags · d p)) (fun x a => ?_) _)
  · extract_lets want
    split
    · exact portFlags_laneTo ..
    · split
      · exact portFlags_laneTo ..
      · rfl
  · split
    · exact (portFlags_w ..).trans (portFlags_leaveUp ..)
    · rfl

/-- The registers of ETH whose writes the lanes follow hold a port's flags alone. -/
theorem portFlags_of_mem_fieldsAt {h : FldHit} (hh : h ∈ fieldsAt d 0x10 off) (h1 : 0x1000 ≤ off) (h2 : off % 0x100 = 8) :
    h.f = .eth .PORT_FLAGS_flags := by
  obtain ⟨hf, hi⟩ := mem_fieldsAt hh
  obtain ⟨f, -, e⟩ := List.mem_map.1 hf
  rw [← e] at hi ⊢
  cases f
  case PORT_FLAGS_flags => rfl
  all_goals
    obtain ⟨hb, ho⟩ := offset_of_fldAt hi
    dsimp only [Fld.spec, EthF.spec] at hb ho
    omega

/-- The register of UTC holds fields that no write reaches. -/
theorem utc_not_plain : ∃ h ∈ fieldsAt 0 0x01 0x34, h.plain = false := by decide

theorem ppsCheck_regs : s.ppsCheck.regs = s.regs := by
  unfold State.ppsCheck
  split
  · rfl
  · rfl

/-- What follows from a write of plain fields leaves them, but for the landing area's check. -/
theorem r_afterWrite {h : FldHit} (hp : ∀ a ∈ fieldsAt d blk off, a.plain = true) (hh : h ∈ fieldsAt d blk off)
    (hne : h.f ≠ .epf .LAND_STATUS_valid) : (s.afterWrite d blk off).r d h.f h.i = s.r d h.f h.i := by
  unfold State.afterWrite
  split
  · exact r_w_ne _ _ _ _ _ _ _ (Ne.symm hne)
  split
  · next e =>
    obtain ⟨rfl, rfl, rfl⟩ := e
    obtain ⟨a, ha, hn⟩ := utc_not_plain
    exact absurd (hp a ha) (by simp [hn])
  split
  · exact congrArg (fun l => (alGet l (⟨d, h.f, h.i⟩ : RegKey)).getD h.f.spec.reset) ppsCheck_regs
  split
  · next e =>
    obtain ⟨rfl, -, h1, h2⟩ := e
    rw [portFlags_of_mem_fieldsAt hh h1 h2]
    exact portFlags_lanesFollow ..
  · rfl

/-- A write of a register whose fields are all open, plain, in range and not lockable, in a state that allows it, gives each
field what its access code says (R11). -/
theorem r_writeReg {word : Nat} {h : FldHit} (hb : blk ≠ 0x06 ∧ ¬(blk = 0x20 ∧ 0x10000 ≤ off))
    (hd : (fieldsAt d blk off).Pairwise (fun a b => ¬(a.f = b.f ∧ a.i = b.i)))
    (hw : ∀ a ∈ fieldsAt d blk off, a.mayWrite q.secure = true) (hp : ∀ a ∈ fieldsAt d blk off, a.plain = true)
    (hr : ∀ a ∈ fieldsAt d blk off, a.inRange word = true) (hl : ∀ a ∈ fieldsAt d blk off, a.f.spec.acc ≠ .rwl)
    (hj : (s.pmcFeed d 0x06020000 1).jointRange d blk off word (fieldsAt d blk off) = true)
    (ha : (s.pmcFeed d 0x06020000 1).writeAllowed d blk off word (fieldsAt d blk off) = true)
    (hh : h ∈ fieldsAt d blk off) (hn : h.f ≠ .epf .LAND_STATUS_valid) :
    (s.writeReg q d blk off word).r d h.f h.i = (s.pmcFeed d 0x06020000 1).written d word h % 2 ^ h.f.spec.width := by
  have hno : (fieldsAt d blk off).filter (fun a => !a.mayWrite q.secure && !a.apart) = [] :=
    List.filter_eq_nil_iff.2 fun a hm => by simp [hw a hm]
  have hyes : (fieldsAt d blk off).filter (fun a => a.mayWrite q.secure && a.plain) = fieldsAt d blk off :=
    List.filter_eq_self.2 fun a hm => by simp [hw a hm, hp a hm]
  rw [writeReg_eq hb, hno, hyes, List.any_nil, if_neg Bool.false_ne_true, writeFields_eq (List.ne_nil_of_mem hh) hr hl hj ha,
    r_afterWrite hp hh hn]
  exact r_foldS_w hd hh

/-! ### Denied accesses and accesses that end short of a register -/

theorem ctr_worldViolation (d b o w) : (s.worldViolation q d b o w).ctr d 0x04 0 = (s.ctr d 0x04 0 + 1) % 2 ^ 64 := by
  have h : (s.worldViolation q d b o w).ctrs = (s.bump d 0x04 0).ctrs := ev_ctrs ..
  calc _ = (s.bump d 0x04 0).ctr d 0x04 0 := by rw [State.ctr, State.ctr, h]
    _ = _ := by rw [ctr_bump, if_pos ⟨rfl, rfl, rfl, rfl⟩]

theorem violDie_worldViolation (d b o w) :
    (s.worldViolation q d b o w).r d (.sec .VIOL_LAST_HI_die) = q.die.val % 8 := by
  have hd := q.die.isLt
  have hw : (Fld.sec .VIOL_LAST_HI_die).spec.width = 4 := rfl
  unfold State.worldViolation
  rw [r_log, r_wb, if_neg (by simp), r_w_same, hw]
  omega

theorem violAddr_worldViolation (d b o w) :
    (s.worldViolation q d b o w).r d (.sec .VIOL_LAST_LO_addr) = pkgAddr d b o % 2 ^ 32 := by
  have hw : (Fld.sec .VIOL_LAST_LO_addr).spec.width = 32 := rfl
  unfold State.worldViolation
  rw [r_log, r_wb, if_neg (by simp), r_w_ne _ _ _ _ _ _ _ (by simp), r_w_ne _ _ _ _ _ _ _ (by simp), r_w_same, hw, Nat.mod_mod]

theorem eventsAbsent_latError (a c l) :
    (s.latError q .EVENTS_absent a c l).r q.die.val (.lat .EVENTS_absent) = 1 := by
  simp [State.latError, r_w_ne]

theorem errAddr_latError (f a c l) :
    (s.latError q f a c l).r q.die.val (.lat .ERR_ADDR_LO_addr) = a % 2 ^ 32 := by
  have hw : (Fld.lat .ERR_ADDR_LO_addr).spec.width = 32 := rfl
  simp [State.latError, r_w_ne, hw]

/-- A write that would change the register's only field, closed to the writer's world, is a violation and no more (R13). -/
theorem writeReg_denied {word : Nat} {h : FldHit} (hb : blk ≠ 0x06 ∧ ¬(blk = 0x20 ∧ 0x10000 ≤ off))
    (hf : fieldsAt d blk off = [h]) (hw : h.mayWrite q.secure = false) (ha : h.apart = false)
    (hc : (s.pmcFeed d 0x06020000 1).wouldChange d word h = true) :
    s.writeReg q d blk off word = (s.pmcFeed d 0x06020000 1).worldViolation q d blk off true := by
  rw [writeReg_eq hb, hf]
  simp [hw, ha, hc, writeFields_nil]

end Sys2Proof.Machine

open Sys2Proof Sys2Proof.Machine

/-- Settles O8: where an access ends, and then what a read or a write does there. -/
theorem registerAccesses : Obligations.RegisterAccesses := by
  refine ⟨?_, ?_, ?_, ?_, ?_⟩
  · intro q addr d blk off s hd ha hp hw
    obtain ⟨l, e⟩ := readReg_lo (addr := addr.toNat) hp hw
    exact ⟨_, exec_read_of_reg hd ha, by simp [e], by simp [e]⟩
  · intro q addr d blk off x s hd ha hp hx hn
    have e := readReg_hi (addr := addr.toNat) hp hx.1 hx.2 hn
    refine ⟨_, exec_read_of_reg hd ha, by simp [e], fun y hy hk => ?_⟩
    rw [e] at hy
    have hf := (List.mem_filter.1 hy).2
    simp [(latchKey_eq_iff y).2 hk] at hf
  · rintro q addr v d blk off s u hd rfl hb hpw hall hj ha
    simp only [List.all_eq_true, Bool.and_eq_true, decide_eq_true_eq, and_assoc, imp_and, forall_and] at hall
    obtain ⟨hw, hp, hr, hl, hn⟩ := hall
    exact ⟨_, exec_write_of_reg hd, fun h hh => r_writeReg hb hpw hw hp hr hl hj ha hh (hn h hh)⟩
  · rintro q addr v d blk off h s u hd rfl ⟨h4, h6, h20⟩ hf ⟨hq, hm, hap, hc⟩
    have hb : h.f.block = blk := block_of_mem_fieldsAt (d := d) (off := off) (by simp [hf])
    refine ⟨_, exec_write_of_reg hd, ?_⟩
    rw [writeReg_denied ⟨h6, h20⟩ hf (hq ▸ hm) hap hc, ctr_worldViolation, ctr_pmcFeed]
    refine ⟨?_, rfl, violDie_worldViolation .., violAddr_worldViolation ..⟩
    exact (worldViolation_kept _ q d blk off true (.regs h.f.block) (by simp [hb, h4, h6]) d h.f h.i rfl).trans
      (r_pmcFeed _ _ _ _ _ _ (hb ▸ h6))
  · intro q addr full s hd
    exact ⟨_, exec_read_of_absent hd, by simp, eventsAbsent_latError _ 5 [addr.toNat],
      errAddr_latError _ _ 5 [addr.toNat]⟩
end

section
/-! PROOFS. The mode controller (spec/02 R28 to R43): what a transition leaves in MGT.MODE, and the triggers that limits, ends of
work and commands latch. -/

namespace Sys2Proof.Machine

variable {M : Nat} {s t : State}

/-! ### Reading off a footprint what an operation keeps -/

theorem Good.self : Good M s False s := .refl s nofun

/-- A field of a block outside the footprint keeps its value. -/
theorem Good.r_eq (h : Good M s False t) (d) (f : Fld) (i) (hf : M.testBit (32 + 2 * f.block) = false) : t.r d f i = s.r d f i :=
  h.kept (.regs f.block) hf d f i rfl

theorem Good.now_eq (h : Good M s False t) (hm : M.testBit 0 = false) : t.now = s.now := h.kept .now hm

theorem Good.mode_eq (h : Good M s False t) (hm : M.testBit 8 = false) : t.mode = s.mode := h.kept .mode hm

theorem Good.modeNow_eq (h : Good M s False t) (hp : M.testBit 29 = false) (hf : M.testBit 38 = false) : t.modeNow = s.modeNow := by
  have hr : t.rst = s.rst := h.kept .rst hp
  rw [State.modeNow, State.modeNow, hr, h.r_eq 7 (.mgt .MODE_current) 0 hf]

/-- Setting a field other than MGT.MODE's leaves the mode. -/
theorem modeNow_w (d) (f : Fld) (v i) (h : f ≠ .mgt .MODE_current) : (s.w d f v i).modeNow = s.modeNow := by
  rw [State.modeNow, State.modeNow, r_w_ne _ _ _ _ _ _ _ h, w_rst]

/-- The role is read off the straps, which are fields of RST. -/
theorem paired_w (d) (f : Fld) (v i) (h : f.block ≠ 7) : (s.w d f v i).paired = s.paired := by
  have hr (g : RstF) : (s.w d f v i).r mdId (.rst g) = s.r mdId (.rst g) := r_w_ne _ _ _ _ _ _ _ fun e => h (e ▸ rfl)
  unfold State.paired State.role State.testStrap State.rb
  rw [hr, hr, hr]

@[simp] theorem modeNow_advance (n) : (s.advance n).modeNow = s.modeNow := by
  rw [State.modeNow, State.modeNow, r_advance _ _ _ _ (by decide), advance_rst]

/-! ### The mode shown, and the one before -/

/-- The two modes that MGT.MODE shows: the current one and the previous one. -/
def State.modesShown (s : State) : Nat × Nat := (s.r mdId (.mgt .MODE_current), s.r mdId (.mgt .MODE_previous))

theorem Good.modesShown_eq (h : Good M s False t) (hf : M.testBit 38 = false) : t.modesShown = s.modesShown :=
  Prod.ext (h.r_eq 7 (.mgt .MODE_current) 0 hf) (h.r_eq 7 (.mgt .MODE_previous) 0 hf)

theorem modesShown_w (d) (f : Fld) (v i) (hc : f ≠ .mgt .MODE_current) (hp : f ≠ .mgt .MODE_previous) :
    (s.w d f v i).modesShown = s.modesShown :=
  Prod.ext (r_w_ne _ _ _ _ _ _ _ hc) (r_w_ne _ _ _ _ _ _ _ hp)

theorem modesShown_wb (d) (f : Fld) (b i) (hc : f ≠ .mgt .MODE_current) (hp : f ≠ .mgt .MODE_previous) :
    (s.wb d f b i).modesShown = s.modesShown :=
  modesShown_w _ _ _ _ hc hp

theorem modesShown_ev (d) (f : Fld) (hc : f ≠ .mgt .MODE_current) (hp : f ≠ .mgt .MODE_previous) :
    (s.ev d f).modesShown = s.modesShown := by
  simp [State.modesShown, r_ev, hc, hp]

theorem modesShown_foldS {α : Type} {g : State → α → State} (h : ∀ x a, (g x a).modesShown = x.modesShown) (l : List α) :
    (foldS g s l).modesShown = s.modesShown :=
  foldS_keeps h l

theorem modesShown_ite {c : Prop} [Decidable c] {a b : State} (ha : a.modesShown = s.modesShown) (hb : b.modesShown = s.modesShown) :
    (if c then a else b).modesShown = s.modesShown := by
  split
  · exact ha
  · exact hb

/-- The registers of a transition show the new mode and the one that was left. -/
theorem modesShown_modeRegs {new code : Nat} (hn : new < 16) (hs : s.modeNow < 16) :
    (s.modeRegs new code).modesShown = (new, s.modeNow) := by
  unfold State.modeRegs
  extract_lets prev s1 s2 m s3 s4 s5
  have h1 : s1.modesShown = (new, prev) := by
    simp [State.modesShown, s1, prev, r_w_ne, show (Fld.mgt .MODE_current).spec.width = 4 from rfl,
      show (Fld.mgt .MODE_previous).spec.width = 4 from rfl, Nat.mod_eq_of_lt hn, Nat.mod_eq_of_lt hs]
  have h4 : s4.modesShown = s1.modesShown := modesShown_w (s := s1) _ _ _ _ (by decide) (by decide)
  have h5 : s5.modesShown = s4.modesShown :=
    modesShown_foldS (fun x e => (good_setGrp .self _ _ _ (Cover.refl _)).modesShown_eq rfl) _
  rw [modesShown_foldS (fun x e => (good_setRsh .self _ _ _ (Cover.refl _)).modesShown_eq rfl), h5, h4, h1]

/-! ### Entering a mode leaves MGT.MODE -/

theorem modesShown_fwShow : s.fwShow.modesShown = s.modesShown := by
  unfold State.fwShow
  exact (modesShown_w _ _ _ _ (by decide) (by decide)).trans <| (modesShown_w _ _ _ _ (by decide) (by decide)).trans <|
    modesShown_wb _ _ _ _ (by decide) (by decide)

theorem modesShown_writeFwSel (f) : (s.writeFwSel f).modesShown = s.modesShown := by
  unfold State.writeFwSel
  refine modesShown_fwShow.trans ?_
  split
  · rfl
  · rfl

theorem modesShown_fwConfirm : s.fwConfirm.modesShown = s.modesShown := by
  unfold State.fwConfirm
  split
  · rfl
  · extract_lets x old rel s1 floor mg s2
    have h1 : s1.modesShown = s.modesShown := modesShown_writeFwSel _
    have h2 : s2.modesShown = s1.modesShown :=
      (modesShown_w _ _ _ _ (by decide) (by decide)).trans (modesShown_w _ _ _ _ (by decide) (by decide))
    exact h2.trans h1

theorem modesShown_lateSwitch : s.lateSwitch.modesShown = s.modesShown :=
  (good_lateSwitch .self (Cover.refl _)).modesShown_eq rfl

theorem modesShown_serves : s.serves.modesShown = s.modesShown := by
  unfold State.serves
  refine modesShown_lateSwitch.trans ?_
  show (if s.mode.served then s else s.fwConfirm).modesShown = _
  split
  · rfl
  · exact modesShown_fwConfirm

theorem modesShown_boardLoad (b) : (s.boardLoad b).modesShown = s.modesShown := by
  simp [State.boardLoad, modesShown_w, modesShown_wb]

theorem modesShown_enterBringup (held) : (s.enterBringup held).modesShown = s.modesShown := by
  unfold State.enterBringup
  extract_lets mo rs s1 m s2 s3 cm s4 s5
  have h2 : s2.modesShown = s1.modesShown := by
    subst s2
    split
    · exact modesShown_boardLoad _
    · rfl
  have h3 : s3.modesShown = s2.modesShown :=
    ((good_commitSchedule .self (Cover.refl _)).modesShown_eq rfl).trans <|
      ((good_loadEndpoint .self _ (Cover.refl _)).modesShown_eq rfl).trans <|
        (good_loadTables .self _ _ _ (Cover.refl _)).modesShown_eq rfl
  clear_value s3
  have h5 : s5.modesShown = s4.modesShown := modesShown_foldS (fun x c => by
    dsimp only
    split
    · rfl
    · exact modesShown_w _ _ _ _ (by decide) (by decide)) _
  calc _ = (s5.bayStart held).lanesFollow.modesShown := (good_epTrain .self (Cover.refl _)).modesShown_eq rfl
    _ = (s5.bayStart held).modesShown := (good_lanesFollow .self (Cover.refl _)).modesShown_eq rfl
    _ = s5.modesShown := (good_bayStart .self _ (Cover.refl _)).modesShown_eq rfl
    _ = s2.modesShown := h5.trans h3
    _ = s.modesShown := h2

theorem modesShown_nsmShow (d) : (s.nsmShow d).modesShown = s.modesShown :=
  (good_nsmShow .self _ (Cover.refl _)).modesShown_eq rfl

theorem modesShown_enterActive (prev) : (s.enterActive prev).modesShown = s.modesShown := by
  unfold State.enterActive
  extract_lets s1 mo s2 s3 s4 s5 s6 s7 handed s8 p s9 s10 s11
  have h3 : s3.modesShown = s.modesShown :=
    ((good_mirrorShow .self (Cover.refl _)).modesShown_eq rfl).trans <|
      (modesShown_w (s := s2) _ _ _ _ (by decide) (by decide)).trans ((good_openGates .self (Cover.refl _)).modesShown_eq rfl)
  have h4 : s4.modesShown = s3.modesShown :=
    ((good_pairBump .self _ _ _ (Cover.refl _)).modesShown_eq rfl).trans
      (modesShown_ev _ _ (by decide) (by decide))
  have h5 : s5.modesShown = s3.modesShown := modesShown_ite ((modesShown_foldS (fun _ _ => by rfl) _).trans h4) rfl
  have h6 : s6.modesShown = s5.modesShown := modesShown_ite (modesShown_foldS (fun _ _ => by exact modesShown_ite rfl rfl) _) rfl
  have h7 : s7.modesShown = s6.modesShown := modesShown_foldS (fun _ _ => by rfl) _
  have h8 : s8.modesShown = s7.modesShown :=
    modesShown_ite ((good_sendControl .self _ _ (Cover.refl _)).modesShown_eq rfl) rfl
  clear_value s8
  have h10 : s10.modesShown = s8.modesShown := (good_anaRise (s1 := s9) .self _ (Cover.refl _)).modesShown_eq rfl
  have h11 : s11.modesShown = s10.modesShown := modesShown_foldS (fun x c => modesShown_ite (modesShown_nsmShow _) rfl) _
  calc _ = s11.gainPresence.epPresent.modesShown := modesShown_serves
    _ = s11.gainPresence.modesShown := (good_epPresent .self (Cover.refl _)).modesShown_eq rfl
    _ = s11.modesShown := (good_gainPresence .self (Cover.refl _)).modesShown_eq rfl
    _ = s.modesShown := by rw [h11, h10, h8, h7, h6, h5, h3]

theorem modesShown_leaseRelease : s.leaseRelease.modesShown = s.modesShown :=
  (good_leaseRelease .self (Cover.refl _)).modesShown_eq rfl

theorem modesShown_closeGates : s.closeGates.modesShown = s.modesShown :=
  (good_closeGates .self (Cover.refl _)).modesShown_eq rfl

theorem modesShown_gateOfferAll : s.gateOfferAll.modesShown = s.modesShown :=
  (good_gateOfferAll .self (Cover.refl _)).modesShown_eq rfl

theorem modesShown_enterStandby (prev) : (s.enterStandby prev).modesShown = s.modesShown := by
  unfold State.enterStandby
  extract_lets s1 maint p s3 sp s5 mo s7 s8 s9
  have h1 : s1.modesShown = s.modesShown :=
    modesShown_ite (modesShown_closeGates.trans ((good_dropClaim .self (Cover.refl _)).modesShown_eq rfl)) modesShown_leaseRelease
  clear_value s1
  have h7 : s7.modesShown = s1.modesShown := modesShown_ite rfl rfl
  have h8 : s8.modesShown = s7.modesShown :=
    (modesShown_foldS (fun x c => modesShown_w _ _ _ _ (by decide) (by decide)) _).trans
      (modesShown_w _ _ _ _ (by decide) (by decide))
  have h9 : s9.modesShown = s8.modesShown := modesShown_serves.trans modesShown_gateOfferAll
  have ht : (s9.trig 9).modesShown = s9.modesShown := (good_trig .self _ _ (Cover.refl _)).modesShown_eq rfl
  calc _ = s9.modesShown := modesShown_ite ht rfl
    _ = s.modesShown := by rw [h9, h8, h7, h1]

theorem modesShown_enterMaintenance (prev) : (s.enterMaintenance prev).modesShown = s.modesShown := by
  unfold State.enterMaintenance
  extract_lets mo s1 p s2 s3
  have h3 : s3.modesShown = s2.modesShown := modesShown_ite (modesShown_gateOfferAll.trans modesShown_leaseRelease) modesShown_closeGates
  have hs : s2.modesShown = s.modesShown := rfl
  exact modesShown_ite (modesShown_lateSwitch.trans (h3.trans hs)) (modesShown_serves.trans (h3.trans hs))

theorem modesShown_enterQuarantine (cause) : (s.enterQuarantine cause).modesShown = s.modesShown := by
  unfold State.enterQuarantine
  extract_lets s1 mo s2 s3 s4
  have h1 : s1.modesShown = s.modesShown := modesShown_w (s := s) _ _ _ _ (by decide) (by decide)
  have h3 : s3.modesShown = s1.modesShown := modesShown_leaseRelease (s := s2)
  have h4 : s4.modesShown = s3.modesShown :=
    modesShown_foldS (fun x p => modesShown_ite ((good_leaveUp .self _ _ _ (Cover.refl _)).modesShown_eq rfl) rfl) _
  calc _ = s4.lanesFollow.modesShown := (good_bayQuarantine .self (Cover.refl _)).modesShown_eq rfl
    _ = s4.modesShown := (good_lanesFollow .self (Cover.refl _)).modesShown_eq rfl
    _ = s.modesShown := by rw [h4, h3, h1]

/-- A transition shows its new mode and the one that was left, whatever leaving and entering them do. -/
theorem modesShown_modeTo {new : Nat} (x : Trig) (held) (hn : new < 16) (hs : s.modeNow < 16) :
    (s.modeTo new x held).modesShown = (new, s.modeNow) := by
  unfold State.modeTo
  extract_lets prev u
  have hl : (s.leaveMode new).modeNow = s.modeNow := (good_leaveMode .self _ (Cover.refl _)).modeNow_eq rfl rfl
  have hu : u.modesShown = (new, s.modeNow) := (modesShown_modeRegs hn (hl ▸ hs)).trans (by rw [hl])
  rw [← hu]
  split
  · rfl
  · exact modesShown_enterBringup _
  · exact (good_enterPairing .self (Cover.refl _)).modesShown_eq rfl
  · exact modesShown_enterActive _
  · exact modesShown_enterStandby _
  · exact (good_enterTakeover .self (Cover.refl _)).modesShown_eq rfl
  · exact (good_flushEntry .self (Cover.refl _)).modesShown_eq rfl
  · exact (good_enterReplay .self (Cover.refl _)).modesShown_eq rfl
  · exact modesShown_enterMaintenance _
  · exact modesShown_enterQuarantine _

/-! ### The commands of the mode controller -/

/-- A taken trigger whose target is neither Off nor Supervise makes the transition; with no power warning latched, none is
dropped first. -/
theorem exec_modeTriggerEvaluate {held : BitVec 48} {x : Trig} {n : Nat} (hf : s.firstTrig = some (x, n)) (h2 : 2 ≤ n)
    (hq : s.mode.trigs.all (fun y => y.code ≠ 3) = true) :
    exec (.modeTriggerEvaluate held) s = .next
      ((({ s with mode := { s.mode with trigs := s.mode.trigs.filter (fun y => y ≠ x) } } : State).modeTo n x held.toNat).sweepTrigs) := by
  have hall : s.mode.trigs.filter (fun y => y.code ≠ 3) = s.mode.trigs := List.filter_eq_self.2 (List.all_eq_true.1 hq)
  have hsame : ({ s with mode := { s.mode with trigs := s.mode.trigs.filter (fun y => y.code ≠ 3) } } : State) = s := by rw [hall]
  show execModeTriggerEvaluate held s = _
  unfold execModeTriggerEvaluate
  rw [hsame]
  simp only [ite_self, hf, if_neg (show n ≠ 0 by omega), if_neg (show n ≠ 1 by omega)]

theorem exec_quarantineRootPortHold (hm : s.modeNow = 0xB) (hr : s.mode.rootsHeld = false) :
    exec .quarantineRootPortHold s = .next
      (let u := if s.pair.leases.all (fun e => e.2.flights.isEmpty) then s else s.advance (s.mode.entered + 100000000)
       { u with mode := { u.mode with rootsHeld := true } }) := by
  show execQuarantineRootPortHold s = _
  simp [execQuarantineRootPortHold, hm, hr]

/-- The limits of R34: Supervise, Proofing, and Bring-up with its work open. -/
theorem exec_modeTimeLimitExpiry {n : Nat} (h : (s.modeNow = 1 ∧ n = 200000000) ∨ (s.modeNow = 2 ∧ n = 5000000000) ∨
      (s.modeNow = 3 ∧ s.mode.workDone = false ∧ n = 1000000 * (s.img.active.getD {}).pkg.bringupMs)) :
    exec .modeTimeLimitExpiry s = .next ((s.advance (s.mode.entered + n)).trig 6 0xA) ∧ modeHasRow s.modeNow 6 = true := by
  show execModeTimeLimitExpiry s = _ ∧ _
  rcases h with ⟨hm, rfl⟩ | ⟨hm, rfl⟩ | ⟨hm, hw, rfl⟩
  · simp [execModeTimeLimitExpiry, hm, modeHasRow]
  · simp [execModeTimeLimitExpiry, hm, modeHasRow]
  · simp [execModeTimeLimitExpiry, hm, hw, modeHasRow]

/-- A trigger changes nothing of the mode controller but the triggers it latches. -/
theorem trig_mode (c k) : (s.trig c k).mode = { s.mode with trigs := (s.trig c k).mode.trigs } := by
  unfold State.trig
  split
  · split
    · rfl
    · rfl
  · rfl

/-- Bring-up's work ends in a state that differs in the work's flag and PAIR.STATUS.reason; a paired role has the trigger. -/
theorem exec_bringupWorkComplete (hm : s.modeNow = 3) (hw : s.mode.workDone = false)
    (hd : s.r mdId (.rst .DIE_STATE_dies) % 4 = 0)
    (hc : s.cds.all (fun c => s.chanFailed (cdId c) || (s.cdUp (cdId c) && (s.fl (cdId c)).started)) = true) :
    ∃ u : State, u.mode.workDone = true ∧ u.modeNow = 3 ∧ u.paired = s.paired ∧
      exec .bringupWorkComplete s = .next (if u.testStrap || u.paired || u.mayServe then u.trig 8 else u) := by
  let v : State := { s with mode := { s.mode with workDone := true } }
  refine ⟨v.w mdId (.pair .STATUS_reason) v.pairReason, rfl, (modeNow_w _ _ _ _ (by decide)).trans hm, paired_w _ _ _ _ (by decide), ?_⟩
  · show execBringupWorkComplete s = _
    simp only [execBringupWorkComplete]
    rw [if_neg (by simp [hm, hw, hd, hc])]

/-- Aborting the commands of a die takes no time and leaves the mode controller. -/
theorem abortAll_now (d) : (s.abortAll d).now = s.now := (good_abortAll .self _ (Cover.refl _)).now_eq rfl

theorem abortAll_mode (d) : (s.abortAll d).mode = s.mode := (good_abortAll .self _ (Cover.refl _)).mode_eq rfl

/-- At the drain's limit the commands of every die are aborted. -/
theorem exec_maintenanceDrainLimitExpiry {d : Nat} (h : s.mode.drain = some d) :
    exec .maintenanceDrainLimitExpiry s = .next
      (foldS (fun (s : State) c => if s.cdUp (cdId c) then s.abortAll (cdId c) else s) (s.advance d) s.cds) := by
  show execMaintenanceDrainLimitExpiry s = _
  rw [execMaintenanceDrainLimitExpiry, h]

/-- What every abort leaves, the aborts of all dies leave. -/
theorem abortDies_keeps {β : Type} {v : State → β} (h : ∀ (x : State) d, v (x.abortAll d) = v x) (l : List Nat) :
    v (foldS (fun (s : State) c => if s.cdUp (cdId c) then s.abortAll (cdId c) else s) s l) = v s := by
  refine foldS_keeps (fun x c => ?_) l
  split
  · exact h ..
  · rfl

theorem exec_maintenanceDrainComplete (hm : s.modeNow = 5) (hd : s.mode.drain.isSome = true) (hh : s.pair.ho = 0)
    (hc : (s.cds.map cdId).any (fun d => s.cdUp d && !s.chanFailed d && s.undrained d) = false) :
    exec .maintenanceDrainComplete s = .next (s.trig 9) := by
  have hn : ¬(s.modeNow ≠ 5 ∨ s.mode.drain.isNone = true ∨ s.pair.ho ≠ 0) := by
    simp [hm, hh, Option.isSome_iff_ne_none.1 hd]
  show execMaintenanceDrainComplete s = _
  rw [execMaintenanceDrainComplete, if_neg hn, hc]
  rfl

/-! ### MGT.MODE_CMD -/

/-- A secure write is not denied. -/
theorem secureOnly_of_secure {q : Req} (hq : q.secure = true) (d f k) : s.secureOnly q d f k = k := if_pos hq

theorem r_modeRefused (n) : (s.modeRefused n).r mdId (.mgt .MODE_cmd_result) = 2 := by
  simp [State.modeRefused, show (Fld.mgt .MODE_cmd_result).spec.width = 2 from rfl]

/-- The drain's limit is that of the image; the gates that follow leave it. -/
theorem drainStart_drain : s.drainStart.mode.drain = some (s.now + 1000000 * (s.img.active.getD {}).pkg.drainMs) := by
  unfold State.drainStart
  extract_lets mo u
  have hu : (foldS (fun (s : State) c =>
      let d := cdId c
      if s.cdUp d && s.r d (.cmd .GATE_refuse) = 0 then (s.w d (.cmd .GATE_refuse) 3).nsmShow d else s) u u.cds).mode = u.mode := by
    refine foldS_keeps (v := State.mode) (fun x c => ?_) _
    dsimp only
    split
    · exact (good_nsmShow .self _ (Cover.refl _)).mode_eq rfl
    · rfl
  rw [hu]

theorem r_acceptedCmd : (s.w mdId (.mgt .MODE_cmd_result) 1).r mdId (.mgt .MODE_cmd_result) = 1 := by simp

/-- A secure write of op 1 is accepted in Active and in Standby (R36). -/
theorem exec_enterMaintenance {q : Req} (hq : q.secure = true) :
    exec (.modeCmdEnterMaintenance q) s = .next (
      let u := s.w mdId (.mgt .MODE_cmd_result) 1
      if s.modeNow = 5 then
        if s.mode.drain.isSome || s.pair.hoMaint then u else if u.handoverOk then u.handoverAsk true else u.drainStart
      else if s.modeNow = 6 then u.trig 9 else s.modeRefused 0xA) := by
  show execModeCmdEnterMaintenance q s = _
  rw [execModeCmdEnterMaintenance, secureOnly_of_secure hq]
  split
  · next h => rw [if_pos h]; rfl
  · next h => rw [if_neg (by omega), if_pos h]
  · next h5 h6 => rw [if_neg h5, if_neg h6]

/-- Whatever an accepted write of op 1 starts, the result it leaves is that of its acceptance. -/
theorem r_enterMaintenance :
    (let u := s.w mdId (.mgt .MODE_cmd_result) 1
     if s.modeNow = 5 then
       if s.mode.drain.isSome || s.pair.hoMaint then u else if u.handoverOk then u.handoverAsk true else u.drainStart
     else if s.modeNow = 6 then u.trig 9 else s.modeRefused 0xA).r mdId (.mgt .MODE_cmd_result) =
      if s.modeNow = 5 ∨ s.modeNow = 6 then 1 else 2 := by
  extract_lets u
  have hu : u.r mdId (.mgt .MODE_cmd_result) = 1 := r_acceptedCmd
  by_cases h5 : s.modeNow = 5
  · rw [if_pos h5, if_pos (show s.modeNow = 5 ∨ s.modeNow = 6 from .inl h5)]
    split
    · exact hu
    split
    · exact ((good_handoverAsk .self _ (Cover.refl _)).r_eq _ _ _ rfl).trans hu
    · exact ((good_drainStart .self (Cover.refl _)).r_eq _ _ _ rfl).trans hu
  by_cases h6 : s.modeNow = 6
  · rw [if_neg h5, if_pos h6, if_pos (show s.modeNow = 5 ∨ s.modeNow = 6 from .inr h6), r_trig, hu]
  · rw [if_neg h5, if_neg h6, if_neg (by omega), r_modeRefused]

theorem handoverOk_w (d) (f : Fld) (v i) (h7 : f.block ≠ 7) (h30 : f.block ≠ 0x30) (h : f ≠ .mgt .MODE_current) :
    (s.w d f v i).handoverOk = s.handoverOk := by
  have hm : (s.w d f v i).r mdId (.pair .STATUS_mirror) = s.r mdId (.pair .STATUS_mirror) :=
    r_w_ne _ _ _ _ _ _ _ fun e => h30 (e ▸ rfl)
  unfold State.handoverOk
  rw [modeNow_w _ _ _ _ h, paired_w _ _ _ _ h7, hm, w_pair]

/-- Op 2 is accepted in a Maintenance that may be left (R37). -/
theorem exec_releaseMaintenance {q : Req} (hq : q.secure = true) :
    exec (.modeCmdReleaseMaintenance q) s = .next (
      if s.modeNow = 0xA && (s.target ⟨9, 0⟩).isSome then (s.w mdId (.mgt .MODE_cmd_result) 1).trig 9
      else s.modeRefused (if s.paired then 4 else 5)) := by
  show execModeCmdReleaseMaintenance q s = _
  rw [execModeCmdReleaseMaintenance, secureOnly_of_secure hq]

end Sys2Proof.Machine

open Sys2Proof Sys2Proof.Machine

/-- Settles O10: each command of the mode controller, by what it does to MGT.MODE and to the latched triggers. -/
theorem modeController : Obligations.ModeController := by
  refine ⟨?_, ?_, ?_, ?_, ?_, ?_, ?_, ?_⟩
  · rintro held x n s hf ⟨h2, h16, hq, hs⟩
    have hm := ((good_sweepTrigs .self (Cover.refl _)).modesShown_eq rfl).trans
      (modesShown_modeTo (s := { s with mode := { s.mode with trigs := s.mode.trigs.filter (fun y => y ≠ x) } }) x held.toNat h16 hs)
    exact ⟨_, exec_modeTriggerEvaluate hf h2 hq, congrArg Prod.fst hm, congrArg Prod.snd hm⟩
  · rintro s ⟨hm, hr⟩
    refine ⟨_, exec_quarantineRootPortHold hm hr, rfl, fun hp => ?_⟩
    simp [hp]
  · intro s ns h
    obtain ⟨he, hrow⟩ := exec_modeTimeLimitExpiry h
    exact ⟨_, he, by simp, trig_mem _ _ (by simpa using hrow)⟩
  · rintro s ⟨hm, hw, hd⟩ hc
    obtain ⟨u, hu, hum, hup, he⟩ := exec_bringupWorkComplete hm hw hd hc
    refine ⟨_, he, ?_, fun hp => ?_⟩
    · split
      · rw [trig_mode]; exact hu
      · exact hu
    · rw [if_pos (by simp [hup, hp])]
      exact trig_mem _ _ (by rw [hum]; rfl)
  · intro s d hd
    refine ⟨_, exec_maintenanceDrainLimitExpiry hd, ?_, ?_⟩
    · exact (abortDies_keeps (v := State.now) (fun x d => abortAll_now d) _).trans (advance_now d)
    · rw [abortDies_keeps (v := State.mode) (fun x d => abortAll_mode d), advance_mode, hd]
  · rintro s ⟨hm, hd, hh⟩ hc
    exact ⟨_, exec_maintenanceDrainComplete hm hd hh hc, trig_mem _ _ (by rw [hm]; rfl)⟩
  · intro q s hq
    refine ⟨_, exec_enterMaintenance hq, r_enterMaintenance, fun h6 => ?_, fun h5 hd hh ho => ?_⟩
    · simp only [h6, Nat.reduceEqDiff, if_false, if_true]
      exact trig_mem _ _ (by rw [modeNow_w _ _ _ _ (by decide), h6]; rfl)
    · have hu : (s.w mdId (.mgt .MODE_cmd_result) 1).handoverOk = false :=
        (handoverOk_w _ _ _ _ (by decide) (by decide) (by decide)).trans ho
      simp only [h5, hd, hh, hu, Option.isSome_none, Bool.or_false, Bool.false_eq_true, if_false, if_true]
      exact drainStart_drain
  · intro q s hq
    refine ⟨_, exec_releaseMaintenance hq, fun ha ht => ?_, fun hn => ?_⟩
    · rw [if_pos (by simp [ha, ht]), r_trig]
      exact ⟨r_acceptedCmd, trig_mem _ _ (by rw [modeNow_w _ _ _ _ (by decide), ha]; rfl)⟩
    · rw [if_neg (by simp [hn])]
      exact ⟨r_modeRefused _, rfl⟩

end

section
/-! PROOFS. The waits of Bring-up and Pairing (spec/02 R35, R40), and how a channel is disabled, drains and fails (R49, R50). -/

namespace Sys2Proof.Machine

variable {M : Nat} {s t : State}

/-! ### The waits -/

theorem exec_pairBGateWaitExpiry {held : BitVec 48} (hm : ¬s.modeNow < 3) (hr : s.role = 2) (hw : s.mode.gateWaitOver = false) :
    exec (.pairBGateWaitExpiry held) s = .next (({ s.advance (s.mode.bringupAt + 2000000000) with
      mode := { (s.advance (s.mode.bringupAt + 2000000000)).mode with gateWaitOver := true } } : State).gateWatch held.toNat) := by
  have hn : ¬(s.modeNow < 3 ∨ s.role ≠ 2 ∨ s.mode.gateWaitOver = true) := by simp [hm, hr, hw]
  show execPairBGateWaitExpiry held s = _
  rw [execPairBGateWaitExpiry, if_neg hn]

/-- The gates that are watched take no time and leave the mode controller. -/
theorem gateWatch_now (n) : (s.gateWatch n).now = s.now := (good_gateWatch .self _ (Cover.refl _)).now_eq rfl

theorem gateWatch_mode (n) : (s.gateWatch n).mode = s.mode := (good_gateWatch .self _ (Cover.refl _)).mode_eq rfl

theorem exec_pairingWaitExpiry (hm : s.modeNow = 4) (hp : s.pair.seen = false) (hw : s.mode.pairWaitOver = false) :
    exec .pairingWaitExpiry s = .next { s.advance (s.mode.entered + 1000000 * (s.img.active.getD {}).pkg.pairingWaitMs) with
      mode := { (s.advance (s.mode.entered + 1000000 * (s.img.active.getD {}).pkg.pairingWaitMs)).mode with pairWaitOver := true } } := by
  have hn : ¬(s.modeNow ≠ 4 ∨ (s.pair.seen = true ∧ s.pair.refusal ≠ 2) ∨ s.mode.pairWaitOver = true) := by simp [hm, hp, hw]
  show execPairingWaitExpiry s = _
  rw [execPairingWaitExpiry, if_neg hn]

/-! ### A channel that fails -/

/-- GRP.STATUS.chan_state of a die, which says 5 where it is Failed. -/
def State.chanState (s : State) (d : Nat) : Nat := s.r d (.grp .STATUS_chan_state)

theorem chanFailed_iff (d) : s.chanFailed d = true ↔ s.chanState d = 5 := decide_eq_true_iff

theorem Good.chanState_eq (h : Good M s False t) (d) (hf : M.testBit 106 = false) : t.chanState d = s.chanState d :=
  h.r_eq d (.grp .STATUS_chan_state) 0 hf

theorem chanState_foldS {α : Type} {g : State → α → State} (d) (h : ∀ x a, (g x a).chanState d = x.chanState d) (l : List α) :
    (foldS g s l).chanState d = s.chanState d :=
  foldS_keeps (v := (State.chanState · d)) h l

theorem chanState_ite {c : Prop} [Decidable c] {a b : State} (d) (ha : a.chanState d = s.chanState d)
    (hb : b.chanState d = s.chanState d) : (if c then a else b).chanState d = s.chanState d := by
  split
  · exact ha
  · exact hb

/-- A channel that fails is Failed: what follows the write of its state leaves it. -/
theorem chanFailed_channelFails (d) : (s.channelFails d).chanFailed d = true := by
  unfold State.channelFails
  split
  · next h => exact h
  extract_lets dirty mirrored s1 s2 s3 s4 s5 mo s6 s7 ask s8 es mo' s9 s10 s11
  have h4 : s4.chanState d = 5 := by simp [State.chanState, s4, r_w_ne, show (Fld.grp .STATUS_chan_state).spec.width = 4 from rfl]
  clear_value s4
  have h7 : s7.chanState d = s4.chanState d := chanState_foldS d (fun x c => (good_nsmShow .self _ (Cover.refl _)).chanState_eq d rfl) _
  have h8 : s8.chanState d = s7.chanState d := chanState_ite d ((good_handoverAsk .self _ (Cover.refl _)).chanState_eq d rfl) rfl
  have h9 : s9.chanState d = s8.chanState d := chanState_ite d rfl rfl
  have h10 : s10.chanState d = s9.chanState d := chanState_ite d ((good_mirrorShow .self (Cover.refl _)).chanState_eq d rfl) rfl
  have h11 : s11.chanState d = s10.chanState d := chanState_ite d ((good_trig .self _ _ (Cover.refl _)).chanState_eq d rfl) rfl
  have hend : s11.flushEnds.chanState d = s11.chanState d := (good_flushEnds .self (Cover.refl _)).chanState_eq d rfl
  rw [chanFailed_iff, hend, h11, h10, h9, h8, h7, h4]

/-- A channel fails at once: no time passes, and its die stays as RST shows it. -/
theorem channelFails_now (d) : (s.channelFails d).now = s.now := (good_channelFails .self _ (Cover.refl _)).now_eq rfl

theorem exec_channelRecoveryLimitExpiry {c : Cd} {l : Nat} (hl : alGet s.mode.chanRecover (cdId c) = some l)
    (hu : s.cdUp (cdId c) = false) :
    exec (.channelRecoveryLimitExpiry c) s = .next ((s.advance l).channelFails (cdId c)) := by
  have hu' : (s.advance l).cdUp (cdId c) = false := by
    rw [State.cdUp, r_advance _ _ _ _ (by decide), advance_channels]
    exact hu
  show execChannelRecoveryLimitExpiry c s = _
  simp only [execChannelRecoveryLimitExpiry, hl, hu']
  rfl

/-! ### The four bits of a die in RST.DIE_STATE -/

/-- A digit of 4 bits that replaces another in a register of 32 bits is read back. -/
theorem nibble_put (r : Nat) {v d : Nat} (hv : v < 16) (hd : d < 8) :
    (r - r / 2 ^ (4 * d) % 16 * 2 ^ (4 * d) + v * 2 ^ (4 * d)) % 2 ^ 32 / 2 ^ (4 * d) % 16 = v := by
  interval_cases d <;> simp <;> omega

theorem dieBits_setDie {d v : Nat} (hd : d < 8) (hv : v < 16) : (s.setDie d v).dieBits d = v := by
  unfold State.dieBits State.setDie
  rw [(good_ringShow .self (Cover.refl _)).r_eq _ _ _ rfl, r_w_same]
  exact nibble_put _ hv hd

theorem chanFailed_setDie (d v) (e) : (s.setDie e v).chanFailed d = s.chanFailed d :=
  congrArg (fun n => decide (n = 5)) ((good_setDie .self _ _ (Cover.refl _)).chanState_eq d rfl)

/-- Setting the lowest three of four bits. -/
theorem nibble_lor_seven : ∀ v < 16, v ||| 7 < 16 ∧ (v ||| 7) % 8 = 7 := by decide

/-- A die that fails without draining is Failed, in reset, held out and bypassed, and its watchdog stops. -/
theorem exec_channelFail {c : Cd} (hm : ¬s.modeNow < 3) (hu : s.cdUp (cdId c) = true) :
    ∃ v : State, v.chanFailed (cdId c) = true ∧ v.dieBits (cdId c) % 8 = 7 ∧
      exec (.channelFail c) s = .next { v with rst := { v.rst with wdt := alDel v.rst.wdt (cdId c) } } := by
  have hn : ¬(s.modeNow < 3 ∨ (!s.cdUp (cdId c)) = true) := by simp [hm, hu]
  have hc : cdId c < 8 := by have := c.isLt; unfold cdId; omega
  obtain ⟨hlt, hmod⟩ := nibble_lor_seven ((s.channelFails (cdId c)).dieBits (cdId c)) (Nat.mod_lt _ (by decide))
  refine ⟨(s.channelFails (cdId c)).setDie (cdId c) ((s.channelFails (cdId c)).dieBits (cdId c) ||| 7), ?_, ?_, ?_⟩
  · rw [chanFailed_setDie, chanFailed_channelFails]
  · rw [dieBits_setDie hc hlt, hmod]
  · show execChannelFail c s = _
    rw [execChannelFail, if_neg hn]

/-! ### A channel that is disabled -/

/-- CMD.GATE.refuse of a die. -/
def State.gateCode (s : State) (d : Nat) : Nat := s.r d (.cmd .GATE_refuse)

theorem Good.gateCode_eq (h : Good M s False t) (d) (hf : M.testBit 98 = false) : t.gateCode d = s.gateCode d :=
  h.r_eq d (.cmd .GATE_refuse) 0 hf

theorem gateCode_w (d e) (f : Fld) (v i) (h : f ≠ .cmd .GATE_refuse) : (s.w e f v i).gateCode d = s.gateCode d :=
  r_w_ne _ _ _ _ _ _ _ h

theorem gateCode_wb (d e) (f : Fld) (b i) (h : f ≠ .cmd .GATE_refuse) : (s.wb e f b i).gateCode d = s.gateCode d :=
  r_w_ne _ _ _ _ _ _ _ h

theorem gateCode_ev (d e) (f : Fld) (h : f ≠ .cmd .GATE_refuse) : (s.ev e f).gateCode d = s.gateCode d := by
  simp [State.gateCode, r_ev, h]

theorem gateCode_foldS {α : Type} {g : State → α → State} (d) (h : ∀ x a, (g x a).gateCode d = x.gateCode d) (l : List α) :
    (foldS g s l).gateCode d = s.gateCode d :=
  foldS_keeps (v := (State.gateCode · d)) h l

theorem gateCode_ite {c : Prop} [Decidable c] {a b : State} (d) (ha : a.gateCode d = s.gateCode d)
    (hb : b.gateCode d = s.gateCode d) : (if c then a else b).gateCode d = s.gateCode d := by
  split
  · exact ha
  · exact hb

/-- A slot that becomes Free changes the counts of slots only. -/
theorem gateCode_freeSlot (d e k) : (s.freeSlot e k).gateCode d = s.gateCode d :=
  (gateCode_w (s := State.w _ _ _ _) _ _ _ _ _ (by decide)).trans (gateCode_w (s := s) _ _ _ _ _ (by decide))

theorem gateCode_asyncEvent (d e n x) : (s.asyncEvent e n x).gateCode d = s.gateCode d := by
  unfold State.asyncEvent
  split
  · rfl
  split
  · exact gateCode_ite d ((good_epWake (s1 := State.setCtrl s _ _ _) .self _ (Cover.refl _)).gateCode_eq d rfl) rfl
  · exact gateCode_freeSlot (s := State.setCtrl s _ _ _) ..

theorem gateCode_anaRise (d n) : (s.anaRise n).gateCode d = s.gateCode d := by
  unfold State.anaRise
  extract_lets cm s1 s2
  have h2 : s2.gateCode d = s1.gateCode d :=
    gateCode_foldS d (fun x k => (gateCode_ev _ _ _ (by decide)).trans (gateCode_w _ _ _ _ _ (by decide))) _
  exact (gateCode_foldS d (fun x k => gateCode_foldS d (fun y e => gateCode_ite d (gateCode_asyncEvent ..) rfl) _) _).trans h2

/-- The NSM registers that follow the tables leave the gates. -/
theorem gateCode_nsmShow (d e) : (s.nsmShow e).gateCode d = s.gateCode d := by
  unfold State.nsmShow
  extract_lets img s1 gone s2 mine s3 now c s4
  have h1 : s1.gateCode d = s.gateCode d := gateCode_foldS d (fun x n => by
    dsimp only
    split
    all_goals
      simp only [gateCode_w, gateCode_wb, ne_eq, reduceCtorEq, not_false_eq_true]
      exact gateCode_ite d (gateCode_ev _ _ _ (by decide)) rfl) _
  have h2 : s2.gateCode d = s1.gateCode d := gateCode_foldS d (fun x n =>
    (gateCode_wb _ _ _ _ _ (by decide)).trans <| (gateCode_w _ _ _ _ _ (by decide)).trans <|
      gateCode_foldS d (fun y f => gateCode_w _ _ _ _ _ (by simp)) _) _
  have h3 : s3.gateCode d = s2.gateCode d := (gateCode_w _ _ _ _ _ (by decide)).trans (gateCode_w _ _ _ _ _ (by decide))
  rw [← h1, ← h2, ← h3]
  exact gateCode_ite d rfl (gateCode_ite (s := s3) d rfl (gateCode_anaRise (s := s4) ..))

/-- The gate of a channel that is disabled takes no time and nothing from the mode controller or the image. -/
theorem nsmShow_kept (d) : (s.nsmShow d).now = s.now ∧ (s.nsmShow d).mode = s.mode ∧ (s.nsmShow d).img = s.img :=
  have h : Good 0x1400000C000000100004020040 s False (s.nsmShow d) := good_nsmShow .self _ (Cover.refl _)
  ⟨h.now_eq rfl, h.mode_eq rfl, h.kept .img rfl⟩

/-- The channel starts to drain once its gate, on a die that runs, refuses commands as unavailable. -/
theorem exec_channelDisableCommand {c : Cd} (hm : 3 ≤ s.modeNow) (hc : c.val < s.channels) (hf : s.chanFailed (cdId c) = false)
    (hd : s.mode.chanDrain.any (fun e => e.1 = cdId c) = false) :
    ∃ u : State, u.now = s.now ∧ u.mode = s.mode ∧ u.img = s.img ∧ (s.cdUp (cdId c) = true → u.gateCode (cdId c) = 1) ∧
      exec (.channelDisableCommand c) s = .next { u with mode := { u.mode with chanDrain := u.mode.chanDrain ++
          [(cdId c, u.now + 1000000 * (u.img.active.getD {}).pkg.drainMs)] } } := by
  have hn : ¬(s.chanFailed (cdId c) = true ∨ s.mode.chanDrain.any (fun e => e.1 = cdId c) = true) := by rw [hf, hd]; simp
  have he : exec (.channelDisableCommand c) s = execChannelDisableCommand c s := rfl
  rw [he, execChannelDisableCommand, if_pos ⟨hm, hc⟩, State.disableChannel, if_neg hn]
  generalize hg : (if s.cdUp (cdId c) = true then (s.w (cdId c) (.cmd .GATE_refuse) 1).nsmShow (cdId c) else s) = u
  have hk : u.now = s.now ∧ u.mode = s.mode ∧ u.img = s.img := by
    subst hg
    split
    · exact nsmShow_kept (s := s.w (cdId c) (.cmd .GATE_refuse) 1) (cdId c)
    · exact ⟨rfl, rfl, rfl⟩
  obtain ⟨hnow, hmode, himg⟩ := hk
  refine ⟨u, hnow, hmode, himg, fun hu => ?_, rfl⟩
  rw [← hg, if_pos hu, gateCode_nsmShow, State.gateCode, r_w_same]
  rfl

/-- A channel that has drained fails, after its superblocks have been written where its die runs. -/
theorem exec_channelDisableDrainComplete {c : Cd} (hd : s.mode.chanDrain.any (fun e => e.1 = cdId c) = true)
    (hu : (s.cdUp (cdId c) && s.undrained (cdId c)) = false) :
    ∃ u : State, exec (.channelDisableDrainComplete c) s = .next (u.channelFails (cdId c)) := by
  have hn : ¬((!s.mode.chanDrain.any (fun e => e.1 = cdId c)) = true ∨ (s.cdUp (cdId c) && s.undrained (cdId c)) = true) := by
    rw [hd, hu]; simp
  show ∃ u, execChannelDisableDrainComplete c s = .next (State.channelFails u (cdId c))
  rw [execChannelDisableDrainComplete, if_neg hn]
  exact ⟨_, rfl⟩

theorem exec_channelDisableDrainLimitExpiry {c : Cd} {l : Nat} (hl : alGet s.mode.chanDrain (cdId c) = some l) :
    exec (.channelDisableDrainLimitExpiry c) s = .next
      (if s.cdUp (cdId c) then (s.advance l).abortAll (cdId c) else s.advance l) := by
  show execChannelDisableDrainLimitExpiry c s = _
  simp only [execChannelDisableDrainLimitExpiry, hl]

end Sys2Proof.Machine

open Sys2Proof Sys2Proof.Machine

/-- Settles O11: each wait that runs out moves uptime to its deadline, and each way in which a channel ends leads to Failed. -/
theorem waitsAndChannels : Obligations.WaitsAndChannels := by
  refine ⟨?_, ?_, ?_, ?_, ?_, ?_, ?_⟩
  · rintro held s ⟨hm, hr, hw⟩
    refine ⟨_, exec_pairBGateWaitExpiry hm hr hw, ?_, ?_⟩
    · simp only [gateWatch_mode]
    · simp only [gateWatch_now, advance_now]
  · rintro s ⟨hm, hp, hw⟩
    exact ⟨_, exec_pairingWaitExpiry hm hp hw, rfl, by simp only [advance_now]⟩
  · intro c l s hl hu
    exact ⟨_, exec_channelRecoveryLimitExpiry hl hu, by rw [channelFails_now, advance_now], chanFailed_channelFails _⟩
  · rintro c s ⟨hm, hc, hf, hd⟩
    obtain ⟨u, hnow, hmode, himg, hg, he⟩ := exec_channelDisableCommand hm hc hf hd
    exact ⟨_, he, by simp only [hnow, hmode, himg], hg⟩
  · intro c s hd hu
    obtain ⟨u, he⟩ := exec_channelDisableDrainComplete hd hu
    exact ⟨_, he, chanFailed_channelFails _⟩
  · intro c l s hl
    refine ⟨_, exec_channelDisableDrainLimitExpiry hl, ?_⟩
    split
    · exact (abortAll_now _).trans (advance_now l)
    · exact advance_now l
  · rintro c s ⟨hm, hu⟩
    obtain ⟨v, hf, hb, he⟩ := exec_channelFail hm hu
    exact ⟨_, he, hf, hb, alGet_alDel _ _⟩

end

section
/-! PROOFS. Proofing counts the boot, checks each die and locks those that pass (spec/20 R566 to R568, spec/19 R548, spec/02 R42);
the ledger appends its records in order (R575 to R578); and the snapshot of SEC's counters (R588). -/

namespace Sys2Proof.Machine

variable {M : Nat} {s t : State}

/-! ### Proofing starts -/

/-- The release that the boot ROM takes where no trial is pending and the current slot verifies. -/
theorem fwBoot_of_current {f : FwImage} (ht : s.fwSel.trial = false) (hf : s.fwSlot s.fwSel.current = some f) (hc : s.fwCheck f = 0) :
    ∃ u, s.fwBoot = some u ∧ u.mgt = { s.mgt with running := some f, runSlot := s.fwSel.current } ∧ u.sec = s.sec := by
  unfold State.fwBoot
  simp only [ht, hf, hc, Option.getD_some, decide_true, Bool.false_and, Bool.false_eq_true, if_false, if_true]
  refine ⟨_, rfl, ?_, ?_⟩
  · simp only [State.fwShow, State.wb, w_mgt, State.setMgt]
  · simp only [State.fwShow, State.wb, w_sec, State.setMgt]

/-- The checks of a release read the part, the stepping, the owner and the firmware floor. -/
theorem fwCheck_congr (f) (hc : t.channels = s.channels) (hr : t.r mdId (.mgt .ID_stepping) = s.r mdId (.mgt .ID_stepping))
    (ho : t.sec.owner = s.sec.owner) (hm : t.mgt.fwFloor = s.mgt.fwFloor) : t.fwCheck f = s.fwCheck f := by
  unfold State.fwCheck
  rw [hc, hr, ho, hm]

theorem exec_proofingStart_failed (hm : s.modeNow = 2) : exec (.proofingStart false) s = .next (s.trig 8 3) := by
  show execProofingStart false s = _
  simp [execProofingStart, hm]

/-- The boot is counted, the ledger may append again, and the current release runs. -/
theorem exec_proofingStart_passed {f : FwImage} (hm : s.modeNow = 2) (ht : s.fwSel.trial = false)
    (hf : s.fwSlot s.fwSel.current = some f) (hc : s.fwCheck f = 0) :
    ∃ t, exec (.proofingStart true) s = .next t ∧
      t.mgt = { s.mgt with bootCount := s.mgt.bootCount + 1, running := some f, runSlot := s.fwSel.current } ∧ t.sec.stopped = false := by
  have he : exec (.proofingStart true) s = execProofingStart true s := rfl
  rw [he, execProofingStart, if_neg (not_not.2 hm), if_neg (by simp)]
  extract_lets n m s1 sc s2 s3
  have hr : s3.r mdId (.mgt .ID_stepping) = s.r mdId (.mgt .ID_stepping) :=
    (r_w_ne (s := s2) _ _ _ _ _ _ _ (by decide)).trans (r_w_ne (s := s.setMgt _) _ _ _ _ _ _ _ (by decide))
  have hc3 : s3.fwCheck f = 0 := (fwCheck_congr (s := s) (t := s3) f rfl hr rfl rfl).trans hc
  obtain ⟨u, hu, hmgt, hsec⟩ := fwBoot_of_current (s := s3) ht hf hc3
  rw [hu]
  exact ⟨_, rfl, hmgt, congrArg SecState.stopped hsec⟩

/-! ### A die answers -/

theorem Good.proof_eq (h : Good M s False t) (d) (hf : M.testBit 40 = false) : t.proof d = s.proof d := by
  rw [State.proof, State.proof, h.r_eq 7 (.sec .PROOF_dies) 0 hf]

theorem proof_setProof {d v : Nat} (hd : d < 8) (hv : v < 16) : (s.setProof d v).proof d = v := by
  unfold State.proof State.setProof
  rw [r_w_same]
  exact nibble_put _ hv hd

@[simp] theorem proof_trig (d c k) : (s.trig c k).proof d = s.proof d := by
  rw [State.proof, State.proof, r_trig]

theorem proof_ev (d e) (f : Fld) (h : f ≠ .sec .PROOF_dies) : (s.ev e f).proof d = s.proof d := by
  rw [State.proof, State.proof, r_ev, if_neg fun e => h e.2.1]

theorem modeNow_ev (d) (f : Fld) (h : f ≠ .mgt .MODE_current) : (s.ev d f).modeNow = s.modeNow := by
  have hr : (s.ev d f).r mdId (.mgt .MODE_current) = s.r mdId (.mgt .MODE_current) := by rw [r_ev, if_neg (h ·.2.1)]
  rw [State.modeNow, State.modeNow, hr, ev_rst]

/-- Proofing takes the digests of a die on Lattice other than the management die, until it is locked. -/
theorem exec_proofingDigestReceived {die : DieId} {f c : Bool} {x : Nat} (hm : s.modeNow = 2) (hd : s.hasDie die.val = true)
    (h7 : die.val ≠ mdId) (hl : s.rst.lat.contains die.val = true) (hk : s.r mdId (.sec .STATUS_locked) = 0) :
    exec (.proofingDigestReceived die f c x) s = .next
      (let s : State := { s with sec := { s.sec with measured := alPut s.sec.measured (die.val + 4) x } }
       if f && c then s.setProof die.val 7
       else
         let s := (s.setProof die.val (3 + if die.val = 0 then 0 else 8)).ev mdId (.sec .EVENTS_proof_mismatch)
         if die.val = 0 then s.trig 8 3
         else
           let s := s.holdOut die.val
           if (s.cds.map cdId).all (fun e => s.proof e = 11) then s.trig 8 4 else s) := by
  have hn : ¬(s.modeNow ≠ 2 ∨ (!s.hasDie die.val) = true ∨ die.val = mdId ∨ (!s.rst.lat.contains die.val) = true ∨
      s.rb mdId (.sec .STATUS_locked) = true) := by
    rw [hd, hl, State.rb, hk]
    simp [hm, h7]
  show execProofingDigestReceived die f c x s = _
  rw [execProofingDigestReceived, if_neg hn]
  dsimp only
  split
  · rfl
  · split
    · rfl
    · rfl

/-- A die is marked with its result and with the event. -/
def State.marked (s : State) (d v : Nat) : Prop := s.proof d = v ∧ s.r mdId (.sec .EVENTS_proof_mismatch) = 1

theorem marked_mismatch {d v : Nat} (hd : d < 8) (hv : v < 16) :
    ((s.setProof d v).ev mdId (.sec .EVENTS_proof_mismatch)).marked d v :=
  ⟨(proof_ev _ _ _ (by decide)).trans (proof_setProof hd hv), (r_ev_same _ _).trans (one_mod_width _)⟩

/-- Holding a die out leaves its mark, and so does a trigger. -/
theorem marked_holdOut {d v : Nat} (e) (h : s.marked d v) : (s.holdOut e).marked d v :=
  have hg : Good 0x400000000000010400000000060 s False (s.holdOut e) := good_holdOut .self _ (Cover.refl _)
  ⟨(hg.proof_eq d rfl).trans h.1, (hg.r_eq _ _ _ rfl).trans h.2⟩

theorem marked_trig {d v : Nat} (c k) (h : s.marked d v) : (s.trig c k).marked d v :=
  ⟨(proof_trig ..).trans h.1, (r_trig ..).trans h.2⟩

/-- A die that mismatches is marked, a channel die is held out as well, and the port die's mismatch ends Proofing. -/
theorem mismatch_ends {d : Nat} (hd : d < 8) (hm : s.modeNow = 2) :
    let u := (s.setProof d (3 + if d = 0 then 0 else 8)).ev mdId (.sec .EVENTS_proof_mismatch)
    let v := u.holdOut d
    let t := if d = 0 then u.trig 8 3 else if (v.cds.map cdId).all (fun e => v.proof e = 11) then v.trig 8 4 else v
    t.marked d (if d = 0 then 3 else 11) ∧ (d = 0 → (⟨8, 3⟩ : Trig) ∈ t.mode.trigs) := by
  intro u v t
  by_cases h0 : d = 0
  · subst h0
    have hu : u.marked 0 3 := marked_mismatch (by decide) (by decide)
    have hum : u.modeNow = 2 := (modeNow_ev _ _ (by decide)).trans ((modeNow_w _ _ _ _ (by decide)).trans hm)
    simp only [t, if_true]
    exact ⟨marked_trig _ _ hu, fun _ => trig_mem _ _ (by rw [hum]; rfl)⟩
  · have hu : u.marked d 11 := by simpa only [u, if_neg h0] using marked_mismatch (s := s) (v := 11) hd (by decide)
    have hv : v.marked d 11 := marked_holdOut _ hu
    simp only [t, if_neg h0]
    refine ⟨?_, fun h => absurd h h0⟩
    split
    · exact marked_trig _ _ hv
    · exact hv

/-! ### The end of Proofing -/

/-- SEC.STATUS.locked of a die. -/
def State.lockBit (s : State) (d : Nat) : Nat := s.r d (.sec .STATUS_locked)

theorem lockBit_dieLock (d) : (s.dieLock d).lockBit d = 1 := by
  unfold State.dieLock
  extract_lets s1 s2
  have h1 : s1.lockBit d = 1 := (r_w_same ..).trans (one_mod_width _)
  have h2 : s2.lockBit d = s1.lockBit d := (good_setDie .self _ _ (Cover.refl _)).r_eq _ _ _ rfl
  split
  · exact (r_w_ne _ _ _ _ _ _ _ (by decide)).trans (h2.trans h1)
  · exact h2.trans h1

/-- Locking a die leaves a locked die locked. -/
theorem lockBit_dieLock_of_locked {d} (e) (h : s.lockBit d = 1) : (s.dieLock e).lockBit d = 1 := by
  by_cases he : e = d
  · rw [he, lockBit_dieLock]
  unfold State.dieLock
  extract_lets s1 s2
  have h1 : s1.lockBit d = s.lockBit d := by simp [State.lockBit, s1, r_w, he]
  have h2 : s2.lockBit d = s1.lockBit d := (good_setDie .self _ _ (Cover.refl _)).r_eq _ _ _ rfl
  split
  · exact (r_w_ne _ _ _ _ _ _ _ (by decide)).trans (h2.trans (h1.trans h))
  · exact h2.trans (h1.trans h)

/-- Every die of a list that is locked one by one is locked. -/
theorem lockBit_foldS_dieLock {d} {l : List Nat} (h : d ∈ l ∨ s.lockBit d = 1) :
    (foldS (fun (s : State) d => s.dieLock d) s l).lockBit d = 1 := by
  induction l generalizing s with
  | nil => exact h.resolve_left (List.not_mem_nil)
  | cons e l ih =>
    refine ih (s := s.dieLock e) ?_
    rcases h with h | h
    · rcases List.mem_cons.1 h with rfl | h
      · exact .inr (lockBit_dieLock _)
      · exact .inl h
    · exact .inr (lockBit_dieLock_of_locked e h)

/-- The world regions of a die are fields of SEC, so the mode stays. -/
theorem modeNow_loadWrt (d) : (s.loadWrt d).modeNow = s.modeNow := by
  unfold State.loadWrt
  extract_lets m s1 put mine
  have hg : alGet s1.regs ⟨mdId, .mgt .MODE_current, 0⟩ = alGet s.regs ⟨mdId, .mgt .MODE_current, 0⟩ := alGet_filter fun v => by simp
  have hr : s1.r mdId (.mgt .MODE_current) = s.r mdId (.mgt .MODE_current) := congrArg (Option.getD · _) hg
  have h1 : s1.modeNow = s.modeNow := by rw [State.modeNow, State.modeNow, hr]
  have hp (x : State) (w) : (put x w).modeNow = x.modeNow := by
    simp only [put, State.wb]
    simp only [modeNow_w, ne_eq, reduceCtorEq, not_false_eq_true]
  rw [← h1]
  split
  · exact foldS_keeps (v := State.modeNow) hp _
  · split
    · exact hp ..
    · exact (hp ..).trans (hp ..)

/-- The world regions and the lock of a die are fields: what the security unit holds beside them stays. -/
theorem sec_loadWrt (d) : (s.loadWrt d).sec = s.sec := (good_loadWrt .self d (Cover.refl _)).kept .sec rfl

theorem sec_dieLock (d) : (s.dieLock d).sec = s.sec := (good_dieLock .self d (Cover.refl _)).kept .sec rfl

theorem modeNow_dieLock (d) : (s.dieLock d).modeNow = s.modeNow := (good_dieLock .self d (Cover.refl _)).modeNow_eq rfl rfl

/-! ### The ledger's queue -/

/-- The start of an append fills in its record's place in the chain; the kinds of the queue and the rest of the ledger stay. -/
theorem ledgerStart_eq : ∃ l b, s.ledgerStart = { s with sec := { s.sec with ledgerQ := l, appending := b } } ∧
    l.map (fun r => r.kind) = s.sec.ledgerQ.map (fun r => r.kind) := by
  unfold State.ledgerStart
  split
  · exact ⟨s.sec.ledgerQ, s.sec.appending, rfl, rfl⟩
  next r rest hq =>
    split
    · exact ⟨s.sec.ledgerQ, s.sec.appending, rfl, rfl⟩
    · exact ⟨_, _, rfl, by simp [hq]⟩

/-- A boot record joins the queue of a ledger that may append, behind the records that wait. -/
theorem ledgerAdd_boot (body brk) (h : s.sec.stopped = false) :
    (s.ledgerAdd 1 body brk).sec.ledgerQ.map (fun r => r.kind) = s.sec.ledgerQ.map (fun r => r.kind) ++ [1] ∧
      ∀ d, (s.ledgerAdd 1 body brk).lockBit d = s.lockBit d := by
  unfold State.ledgerAdd
  rw [if_neg (by simp [h]), if_neg (by simp)]
  extract_lets l u
  obtain ⟨q, b, he, hk⟩ := ledgerStart_eq (s := ({ s with sec := { s.sec with ledgerQ := l } } : State).w mdId (.sec .LEDGER_STATUS_queued) l.length)
  rw [he]
  exact ⟨by simp [hk, l], fun d => r_w_ne (s := { s with sec := _ }) _ _ _ _ _ _ _ (by decide)⟩

/-- With every die answered, the port die and a channel die proofed, the dies that passed are locked and the boot record joins
the queue. -/
theorem exec_proofingEnd {h : Bool} {a : Option Nat} (hm : s.modeNow = 2) (hk : s.r mdId (.sec .STATUS_locked) = 0)
    (hi : s.img.active.isSome = true) (hr : s.mgt.running.isSome = true) (h0 : s.proof 0 = 7)
    (hall : (0 :: s.cds.map cdId).all (fun d => (s.proof d).testBit 1) = true)
    (hany : (s.cds.map cdId).any (fun d => s.proof d = 7) = true) :
    ∃ u : State, u.modeNow = 2 ∧ (∀ d ∈ (0 :: s.cds.map cdId).filter (fun d => s.proof d = 7) ++ [mdId], u.lockBit d = 1) ∧
      u.sec.ledgerQ = s.sec.ledgerQ ∧ u.sec.stopped = s.sec.stopped ∧
      ∃ body brk, exec (.proofingEnd h a) s = .next (((u.ledgerAdd 1 body brk).w mdId (.sec .LEDGER_STATUS_nvm_ok) 1).trig 8) := by
  have hn : ¬(s.modeNow ≠ 2 ∨ s.rb mdId (.sec .STATUS_locked) = true ∨ s.img.active.isNone = true ∨ s.mgt.running.isNone = true ∨
      s.proof 0 ≠ 7 ∨ (!(0 :: s.cds.map cdId).all (fun d => (s.proof d).testBit 1)) = true ∨
      (!(s.cds.map cdId).any (fun d => s.proof d = 7)) = true) := by
    rw [State.rb, hk, hall, hany]
    simp [hm, h0, Option.isSome_iff_ne_none.1 hi, Option.isSome_iff_ne_none.1 hr]
  have he : exec (.proofingEnd h a) s = execProofingEnd h a s := rfl
  rw [he, execProofingEnd, if_neg hn]
  extract_lets m ok s1 s2 s3 s4 x s5 y s6 z s7 brk s8
  have hm4 : s4.modeNow = s.modeNow := (foldS_keeps (v := State.modeNow) (fun x d => modeNow_dieLock d) _).trans <|
    (foldS_keeps (v := State.modeNow) (fun x d => modeNow_loadWrt d) _).trans <|
      (modeNow_w (s := s1) _ _ _ _ (by decide)).trans (modeNow_w (s := s) _ _ _ _ (by decide))
  have hs4 : s4.sec = s.sec := (foldS_keeps (v := State.sec) (fun x d => sec_dieLock d) _).trans
    (foldS_keeps (v := State.sec) (fun x d => sec_loadWrt d) _)
  have hl4 : ∀ d ∈ ok ++ [mdId], s4.lockBit d = 1 := fun d hd => lockBit_foldS_dieLock (.inl hd)
  clear_value s4
  -- The measurements, the derived key and the head are the ledger's own; the dies and the queue are not touched.
  have h7 : s7.modeNow = s4.modeNow ∧ s7.lockBit = s4.lockBit ∧ s7.sec.ledgerQ = s4.sec.ledgerQ ∧ s7.sec.stopped = s4.sec.stopped := by
    subst s7
    split
    · exact ⟨rfl, rfl, rfl, rfl⟩
    · exact ⟨rfl, rfl, rfl, rfl⟩
  obtain ⟨hm7, hl7, hq7, hs7⟩ := h7
  clear_value s7
  have hm8 : s8.modeNow = s7.modeNow := (modeNow_w _ _ _ _ (by decide)).trans (modeNow_w (s := s7) _ _ _ _ (by decide))
  have hl8 (d) : s8.lockBit d = s7.lockBit d :=
    (r_w_ne _ _ _ _ _ _ _ (by decide)).trans (r_w_ne (s := s7) _ _ _ _ _ _ _ (by decide))
  refine ⟨s8, by rw [hm8, hm7, hm4, hm], fun d hd => ?_, ?_, ?_, s8.bootBody, brk, rfl⟩
  · rw [hl8, hl7, hl4 d hd]
  · exact hq7.trans (congrArg SecState.ledgerQ hs4)
  · exact hs7.trans (congrArg SecState.stopped hs4)

/-! ### The ledger's appends -/

/-- A write error: the append is tried again 1 s later (R578). -/
theorem exec_ledgerWriteComplete_error {r : LedgerRec} {rest : List LedgerRec} (hq : s.sec.ledgerQ = r :: rest)
    (ha : s.sec.appending = true) :
    exec (.ledgerWriteComplete false) s = .next
      ((({ s with sec := { s.sec with retryAt := some (s.now + 1000000000), appending := false } } : State).ev mdId
        (.sec .EVENTS_ledger_error)).w mdId (.sec .LEDGER_STATUS_nvm_ok) 0) := by
  show execLedgerWriteComplete false s = _
  simp [execLedgerWriteComplete, hq, ha]

/-- An append that ends: its record leaves the queue, follows the ledger's records and is the head. -/
theorem exec_ledgerWriteComplete_ok {r : LedgerRec} {rest : List LedgerRec} (hq : s.sec.ledgerQ = r :: rest)
    (ha : s.sec.appending = true) :
    ∃ (u : State) (kept : List LedgerRec) (seg : Nat), exec (.ledgerWriteComplete true) s = .next u.ledgerStart ∧
      u.sec.ledgerQ = rest ∧ u.sec.headSeq = r.seq ∧ u.sec.ledger = kept ++ [{ r with segment := seg }] := by
  have he : exec (.ledgerWriteComplete true) s = execLedgerWriteComplete true s := rfl
  rw [he, execLedgerWriteComplete, hq]
  dsimp -zeta only
  rw [if_neg (by simp [ha]), if_neg (by simp)]
  extract_lets x n next seg off r' hash kept s1 s2 s3 s4
  clear_value n next seg off hash kept
  have h4 : s4.sec = s1.sec := by
    have h3 : s3.sec = s1.sec := by simp only [s3, s2, bump_sec, w_sec]
    clear_value s3
    subst s4
    split
    · exact h3
    · exact h3
  clear_value s4
  exact ⟨s4, kept, seg, rfl, congrArg SecState.ledgerQ h4, congrArg SecState.headSeq h4, congrArg SecState.ledger h4⟩

theorem exec_ledgerWriteRetry {x : Nat} (h : s.sec.retryAt = some x) :
    exec .ledgerWriteRetry s = .next
      ({ s.advance x with sec := { (s.advance x).sec with retryAt := none } } : State).ledgerStart := by
  show execLedgerWriteRetry s = _
  simp only [execLedgerWriteRetry, h]

/-! ### The snapshot -/

theorem exec_secSnapshot {q : Req} {die : DieId} (h : s.hasDie die.val = true) :
    exec (.secSnapshot q die) s = .next (s.snapshot die.val 0x04 q.secure
      (s.counters die.val 0x04 (if die.val = mdId then 8 else 3)) (.sec .SNAP_CTRL_done)) := by
  show execSecSnapshot q die s = _
  rw [execSecSnapshot, if_pos h]

/-- The buffer of a snapshot is its world's. -/
theorem mem_snaps_snapshot (d blk w v f x) : (⟨d, blk, w, v, x⟩ : Snapshot) ∈ (s.snapshot d blk w v f x).snaps :=
  List.mem_append_right _ (List.mem_singleton.2 rfl)

end Sys2Proof.Machine

open Sys2Proof Sys2Proof.Machine

/-- Settles O52: Proofing from its start to its end, the ledger's appends, and the snapshot, each by what its command does. -/
theorem proofingAndLedger : Obligations.ProofingAndLedger := by
  refine ⟨?_, ?_, ?_, ?_, ?_, ?_⟩
  · rintro ok f s ⟨hm, ht, hf, hc⟩
    cases ok
    · exact ⟨_, exec_proofingStart_failed hm, nofun, fun _ => ⟨trig_mem _ _ (by rw [hm]; rfl), by rw [trig_mgt]⟩⟩
    · obtain ⟨t, he, hmgt, hs⟩ := exec_proofingStart_passed hm ht hf hc
      exact ⟨t, he, fun _ => ⟨by rw [hmgt], by rw [hmgt], by rw [hmgt], hs⟩, nofun⟩
  · rintro die f c x s ⟨hm, hd, h7, hl, hk⟩
    have he := exec_proofingDigestReceived (f := f) (c := c) (x := x) hm hd h7 hl hk
    cases hfc : f && c
    · rw [hfc] at he
      obtain ⟨⟨hp, hev⟩, ht⟩ := mismatch_ends
        (s := { s with sec := { s.sec with measured := alPut s.sec.measured (die.val + 4) x } }) die.isLt hm
      exact ⟨_, he, nofun, fun _ => ⟨hev, hp⟩, fun _ => ht⟩
    · rw [hfc] at he
      exact ⟨_, he, fun _ => ⟨proof_setProof die.isLt (by decide), alGet_alPut_same _ _ _⟩, nofun, nofun⟩
  · rintro h a die s ⟨hm, hk, hi, hr, h0⟩ ⟨hall, hany⟩ ⟨hin, h7, hs⟩
    obtain ⟨u, hum, hul, huq, hus, body, brk, he⟩ := exec_proofingEnd (h := h) (a := a) hm hk hi hr h0 hall hany
    obtain ⟨hq, hlock⟩ := ledgerAdd_boot (s := u) body brk (hus.trans hs)
    have hl (d) : (((u.ledgerAdd 1 body brk).w mdId (.sec .LEDGER_STATUS_nvm_ok) 1).trig 8).lockBit d = u.lockBit d :=
      (r_trig ..).trans ((r_w_ne _ _ _ _ _ _ _ (by decide)).trans (hlock d))
    have hma : ((u.ledgerAdd 1 body brk).w mdId (.sec .LEDGER_STATUS_nvm_ok) 1).modeNow = 2 :=
      (modeNow_w _ _ _ _ (by decide)).trans <| ((good_ledgerAdd .self _ _ _ (Cover.refl _)).modeNow_eq rfl rfl).trans hum
    refine ⟨_, he, ?_, ?_, trig_mem _ _ (by rw [hma]; rfl), ?_⟩
    · exact (hl _).trans (hul _ (by simp only [List.mem_append, List.mem_filter]; exact .inl ⟨List.contains_iff_mem.1 hin, by simp [h7]⟩))
    · exact (hl _).trans (hul _ (by simp))
    · rw [trig_sec, w_sec, hq, huq]
  · intro ok r rest s ⟨hq, ha⟩
    cases ok
    · refine ⟨_, exec_ledgerWriteComplete_error hq ha, nofun, fun _ => ⟨?_, ?_, ?_, r_w_same ..⟩⟩
      · simp
      · simp
      · simp
    · obtain ⟨u, kept, seg, he, hu, hh, hl⟩ := exec_ledgerWriteComplete_ok hq ha
      obtain ⟨l, b, hst, hk⟩ := ledgerStart_eq (s := u)
      refine ⟨_, he, fun _ => ?_, nofun⟩
      rw [hst]
      exact ⟨by rw [hk, hu], hh, by simp [hl]⟩
  · intro x s hx
    obtain ⟨l, b, hst, hk⟩ := ledgerStart_eq (s := { s.advance x with sec := { (s.advance x).sec with retryAt := none } })
    refine ⟨_, exec_ledgerWriteRetry hx, ?_⟩
    rw [hst]
    exact ⟨rfl, by simp only [advance_now]⟩
  · intro q die s hd
    exact ⟨_, exec_secSnapshot hd, mem_snaps_snapshot ..⟩

end

section
/-! PROOFS. The end of an episode of time disagreement (spec/03 R69): it is counted from the first report that finds Δ back within the
bounds. -/

namespace Sys2Proof.Machine

/-- While no report has found the two packages in agreement, no second of agreement runs that could end. -/
theorem exec_timeDisagreeEpisodeEnd_of_none {s : State} (h : s.tim.agreeFrom = none) :
    exec .timeDisagreeEpisodeEnd s = .next s := by
  show execTimeDisagreeEpisodeEnd s = _
  rw [execTimeDisagreeEpisodeEnd, h]

end Sys2Proof.Machine

open Sys2Proof Sys2Proof.Machine

/-- Refutes O12: its clause on TIME_DISAGREE_EPISODE_END asks only that Δ is within the bounds again. In an episode in which no report
has found it so yet, R69's second of agreement has not begun (log entry 77), and the episode goes on. -/
theorem not_servoAndSources : ¬ Obligations.ServoAndSources := by
  unfold Obligations.ServoAndSources
  rintro ⟨-, -, -, -, -, -, -, -, -, hEnd⟩
  let s : State := { State.reset with tim := { State.reset.tim with disagree := true, agreeFrom := none } }
  have hAgrees : s.deltaAgrees = true := by decide
  obtain ⟨t, ht, hOver⟩ := hEnd s hAgrees
  have hs : exec .timeDisagreeEpisodeEnd s = .next s := exec_timeDisagreeEpisodeEnd_of_none rfl
  cases hs.symm.trans ht
  exact absurd hOver (by decide)

end

section
/-! PROOFS. The transport as it sends (spec/07 R179, R180, R193, R196, R200): what a retry, a hold's end, a notification and a work
request leave in a context, and what the commands on regions leave in their entries. -/

namespace Sys2Proof.Machine

variable {s t : State} {d : Cd}

/-- The engines of a channel die that runs, outside Quarantine, take a command. -/
theorem onCd_of_up {f : State → State} (h : s.cdUp (cdId d) = true ∧ s.modeNow ≠ 0xB) : onCd d s f = .next (f s) := by
  simp [onCd, h]

/-! ### Contexts, regions and chains -/

@[simp] theorem conn_setConn_same (d i c) : (s.setConn d i c).conn d i = c := by
  simp [State.conn, State.setConn]

@[simp] theorem conn_setChain (d n c e i) : (s.setChain e n c).conn d i = s.conn d i := rfl

@[simp] theorem region_setRegion_same (d i r) : (s.setRegion d i r).region d i = r := by
  simp [State.region, State.setRegion]

@[simp] theorem chain_setChain_same (d n c) : (s.setChain d n c).chain d n = c := by
  simp [State.chain, State.setChain]

@[simp] theorem chain_setConn (d n e i c) : (s.setConn e i c).chain d n = s.chain d n := rfl

/-- Contexts, regions and chains are the transport's own. -/
theorem conn_congr (h : t.rdx = s.rdx) (d i) : t.conn d i = s.conn d i := by
  simp only [State.conn, State.coldGen, h]

theorem region_congr (h : t.rdx = s.rdx) (d i) : t.region d i = s.region d i := by
  simp only [State.region, State.coldTag, h]

theorem chain_congr (h : t.rdx = s.rdx) (d n) : t.chain d n = s.chain d n := by
  simp only [State.chain, h]

@[simp] theorem conn_advance (n d i) : (s.advance n).conn d i = s.conn d i := conn_congr (advance_rdx n) d i

@[simp] theorem rdxBump_rdx (d k n) : (s.rdxBump d k n).rdx = s.rdx := bump_rdx ..

@[simp] theorem rdmaOut_rdx (d c n) : (s.rdmaOut d c n).rdx = s.rdx := (good_rdmaOut .self _ _ _ (Cover.refl _)).kept .rdx rfl

/-! ### Retries, holds and the rate (R179, R180) -/

/-- Sending packets again leaves every context and takes no time. -/
@[simp] theorem resend_rdx (d i psn) : (s.resend d i psn).rdx = s.rdx := (good_resend .self _ _ _ (Cover.refl _)).kept .rdx rfl

@[simp] theorem resend_now (d i psn) : (s.resend d i psn).now = s.now := (good_resend .self _ _ _ (Cover.refl _)).now_eq rfl

/-- A retry that is left is spent, and the timer starts again. -/
theorem conn_retry (e i psn) (h : (s.conn e i).retriesLeft ≠ 0) :
    (s.retry e i psn).conn e i =
      { s.conn e i with retriesLeft := (s.conn e i).retriesLeft - 1, timer := s.now + ackTimer (s.conn e i) } := by
  unfold State.retry
  extract_lets c
  rw [if_neg h, conn_congr (resend_rdx ..), conn_setConn_same]

section
variable {conn : BitVec 24} {c : Conn} (hu : s.cdUp (cdId d) = true ∧ s.modeNow ≠ 0xB)
  (hc : s.conn (cdId d) (connIdx conn.toNat) = c)
include hu hc

theorem exec_retransmitTimeout (h : (s.sends (cdId d) (connIdx conn.toNat) && c.txUna ≠ c.txNext) = true) :
    exec (.retransmitTimeout d conn) s = .next ((s.advance c.timer).retry (cdId d) (connIdx conn.toNat) c.txUna) := by
  subst hc
  show execRetransmitTimeout d conn s = _
  rw [execRetransmitTimeout, onCd_of_up hu]
  exact congrArg _ (if_pos h)

theorem exec_rnrHoldExpiry {n : Nat} (h : c.hold = some n) :
    exec (.rnrHoldExpiry d conn) s = .next
      (let u := (s.advance n).setConn (cdId d) (connIdx conn.toNat) { c with hold := none }
       if u.sends (cdId d) (connIdx conn.toNat) then u.resend (cdId d) (connIdx conn.toNat) c.nakPsn else u) := by
  subst hc
  show execRnrHoldExpiry d conn s = _
  rw [execRnrHoldExpiry, onCd_of_up hu]
  simp only [h]

theorem exec_cnpReceived (h : (s.sends (cdId d) (connIdx conn.toNat) && s.connNamed (cdId d) conn.toNat) = true) :
    exec (.cnpReceived d conn) s = .next ((s.rdxBump (cdId d) 21).setConn (cdId d) (connIdx conn.toNat)
      { c with rate := max (c.rate / 2) (s.r (cdId d) (.rdx .CC_CFG_min_rate_mbps)), rateAt := s.now }) := by
  subst hc
  show execCnpReceived d conn s = _
  rw [execCnpReceived, onCd_of_up hu]
  exact congrArg _ (if_neg (by rw [h]; decide))

/-- A step of recovery is taken at the end of its time, which changes neither the increase nor the speed of the port. -/
theorem exec_rateRecoverStep (h : s.sends (cdId d) (connIdx conn.toNat) = true) :
    exec (.rateRecoverStep d conn) s = .next
      (let u := s.advance (c.rateAt + 1000 * s.r (cdId d) (.rdx .CC_CFG2_recover_us))
       u.setConn (cdId d) (connIdx conn.toNat) { c with
        rate := max c.rate (min (c.rate + s.r (cdId d) (.rdx .CC_CFG2_ai_mbps)) (s.portSpeed c.f.port)), rateAt := u.now }) := by
  subst hc
  show execRateRecoverStep d conn s = _
  rw [execRateRecoverStep, onCd_of_up hu]
  refine congrArg _ ((if_neg (by rw [h]; decide)).trans ?_)
  have hi (n) : (s.advance n).r (cdId d) (.rdx .CC_CFG2_ai_mbps) = s.r (cdId d) (.rdx .CC_CFG2_ai_mbps) :=
    r_advance _ _ _ _ (by decide)
  simp only [hi, State.portSpeed, State.connPort, advance_img]

end

/-! ### Work requests (R196, R200) -/

theorem pmtuBytes_pos (code : Nat) : 0 < pmtuBytes code := by
  unfold pmtuBytes
  split
  all_goals decide

/-- A work request that fits in the path's unit is one packet. -/
theorem packets_of_le {n mtu : Nat} (hm : 0 < mtu) (h : n ≤ mtu) : max 1 ((n + mtu - 1) / mtu) = 1 :=
  Nat.max_eq_left (Nat.le_of_lt_succ ((Nat.div_lt_iff_lt_mul hm).2 (by omega)))

/-- A packet moves its context's packet number by one, and changes nothing else of the transport. -/
theorem sendPackets_succ (e i n w left k) : ∃ (u : State) (c : Conn) (rest : Nat),
    s.sendPackets e i n w left (k + 1) = u.sendPackets e i n w rest k ∧ u.rdx = (s.setConn e i c).rdx ∧
      c.txNext = ((s.conn e i).txNext + 1) % 2 ^ 24 := by
  rw [State.sendPackets]
  refine ⟨_, _, _, rfl, (rdmaOut_rdx ..).trans (((emit_rdx _).trans (rdxBump_rdx ..)).trans (rdxBump_rdx ..)), rfl⟩

theorem txNext_sendPackets_one (e i n w left) :
    ((s.sendPackets e i n w left 1).conn e i).txNext = ((s.conn e i).txNext + 1) % 2 ^ 24 := by
  obtain ⟨u, c, rest, hp, hr, hn⟩ := sendPackets_succ (s := s) e i n w left 0
  rw [hp, State.sendPackets, conn_congr hr, conn_setConn_same, hn]

/-- Packets leave the chains. -/
theorem chain_sendPackets (e i n w left k m) : (s.sendPackets e i n w left k).chain e m = s.chain e m := by
  induction k generalizing s left with
  | zero => rfl
  | succ k ih =>
    obtain ⟨u, c, rest, hp, hr, -⟩ := sendPackets_succ (s := s) e i n w left k
    rw [hp, ih, chain_congr hr, chain_setConn]

/-- A Firing chain on a context that sends and holds nothing back sends its next work request, read in range and not final. -/
theorem exec_workRequestSend {n : Fin 32768} {w : WorkReq} {ch : Chain} {c : Conn} (hu : s.cdUp (cdId d) = true ∧ s.modeNow ≠ 0xB)
    (hch : s.chain (cdId d) n.val = ch) (hc : s.conn (cdId d) (connIdx ch.hdr.conn) = c)
    (h2 : ch.state = 2) (hn : ch.sent + 1 < ch.wrs) (he : isEp ch.hdr.conn = false)
    (hs : s.sends (cdId d) (connIdx ch.hdr.conn) = true) (hh : c.hold = none)
    (hw : workReqOk w c = true) (hl : s.localOk (cdId d) w.localAddr w.length = true) (hf : w.flags.testBit 0 = false) :
    exec (.workRequestSend d n w) s = .next
      ((s.setChain (cdId d) n.val { ch with sent := ch.sent + 1 }).sendPackets (cdId d) (connIdx ch.hdr.conn) n.val w w.length
        (max 1 ((w.length + pmtuBytes c.f.pmtu - 1) / pmtuBytes c.f.pmtu))) := by
  have hopen : ¬(ch.state ≠ 2 ∨ ch.wrs ≤ ch.sent) := by omega
  have hfin : decide (ch.sent + 1 = ch.wrs) = false := decide_eq_false (by omega)
  subst hch hc
  show execWorkRequestSend d n w s = _
  rw [execWorkRequestSend, onCd_of_up hu]
  refine congrArg _ ((if_neg hopen).trans ?_)
  rw [if_neg (by rw [he]; decide), if_neg (by rw [hs]; decide), if_neg (by rw [hh]; decide), hfin,
    if_neg (by rw [hw, hl, hf]; decide)]
  rfl

/-! ### Table events leave regions but for the event's number (R429) -/

theorem alGet_mapAt {κ α : Type} [DecidableEq κ] (l : List (κ × α)) (k k' : κ) (g : α → α) :
    alGet (l.map (fun e => if e.1 = k then (e.1, g e.2) else e)) k' = (alGet l k').map (fun v => if k' = k then g v else v) := by
  induction l with
  | nil => rfl
  | cons a l ih =>
    obtain ⟨a, v⟩ := a
    rw [List.map_cons]
    by_cases hk : a = k'
    · subst hk
      by_cases hg : a = k
      · simp [alGet, hg]
      · simp [alGet, hg]
    · by_cases hg : a = k
      · simp [alGet, hg, hg ▸ hk, ih]
      · simp [alGet, hg, hk, ih]

/-- The frame that tells the partner leaves the transport. -/
theorem sendPartner_rdx (ty c b x) : (s.sendPartner ty c b x).rdx = s.rdx := (good_sendPartner .self _ _ _ _ (Cover.refl _)).kept .rdx rfl

/-- An entry as stored, or as it stands after a COLD reset. -/
theorem region_eq_getD (e i) : s.region e i = (alGet s.rdx.regions (e, i)).getD { tag := s.coldTag e i } := by
  unfold State.region
  split
  · next h => rw [h]; rfl
  · next h => rw [h]; rfl

/-- A region that keeps the number of the event that told the partner of it. -/
def regionNumbered (n : Nat) (r : Region) : Region := { r with evSeq := n }

/-- A table event changes at most the number that a region keeps of it. -/
theorem region_tableEvent (e ev a i) : ∃ n, (s.tableEvent e ev a).region e i = regionNumbered n (s.region e i) := by
  rw [region_eq_getD (s := s)]
  unfold State.tableEvent
  split
  · extract_lets n x j u
    have hsent (b : List Nat) : ((u.pairBump e 0).sendPartner 6 (e - 1) b).region e i = u.region e i :=
      region_congr ((sendPartner_rdx ..).trans (bump_rdx ..)) e i
    have hu : u.rdx.regions = if ev = 3 then
        s.rdx.regions.map (fun x => if x.1 = (e, a) then (x.1, regionNumbered n x.2) else x) else s.rdx.regions := rfl
    have hc : u.coldTag e i = s.coldTag e i := rfl
    rw [hsent, region_eq_getD, hu, hc]
    split
    · rw [alGet_mapAt]
      cases alGet s.rdx.regions (e, i) with
      | none => exact ⟨_, rfl⟩
      | some r =>
        rw [Option.map_some, Option.getD_some, Option.getD_some]
        split
        · exact ⟨n, rfl⟩
        · exact ⟨_, rfl⟩
    · exact ⟨_, rfl⟩
  · exact ⟨_, region_eq_getD ..⟩

/-! ### Regions (R189, R193) -/

/-- The fields of the transport that a table event leaves. -/
theorem r_tableEvent (e ev a e' f i) : (s.tableEvent e ev a).r e' (.rdx f) i = s.r e' (.rdx f) i :=
  (good_tableEvent .self _ _ _ (Cover.refl _)).r_eq _ _ _ (by dsimp only [Fld.block]; rfl)

/-- A free entry in the range, its fields in range and its memory covered, is registered. -/
theorem exec_regionRegister {i : Fin 65536} {r : Region} (hu : s.cdUp (cdId d) = true ∧ s.modeNow ≠ 0xB)
    (hr : s.region (cdId d) i.val = r)
    (hi : s.r (cdId d) (.rdx .REGION_RANGE_first) ≤ i.val ∧ i.val ≤ s.r (cdId d) (.rdx .REGION_RANGE_last) ∧ r.state = 0)
    (hf : r.f.flags < 4 ∧ r.f.pd < 4096 ∧ r.f.conn < 2 ^ 24)
    (hb : r.f.base % 4096 = 0 ∧ r.f.length % 4096 = 0 ∧ 4096 ≤ r.f.length ∧ r.f.length ≤ 2 ^ 30)
    (hw : s.wrtCovers (cdId d) r.f.base r.f.length true = true) :
    exec (.regionRegister d i) s = .next
      (((s.w (cdId d) (.rdx .REG_STATUS_result) 0).setRegion (cdId d) i.val { r with state := 1 }).tableEvent (cdId d) 3 i.val) := by
  subst hr
  show execRegionRegister d i s = _
  rw [execRegionRegister, onCd_of_up hu]
  extract_lets e k r f code u
  have hcode : code = 0 := by
    simp only [code, f, r, k, e]
    rw [if_neg (by omega), if_neg (by omega), if_neg (by omega), if_neg (by rw [hw]; decide)]
  clear_value code
  subst hcode
  rfl

theorem exec_regionRevoke {i : Fin 65536} {r : Region} (hu : s.cdUp (cdId d) = true ∧ s.modeNow ≠ 0xB)
    (hr : s.region (cdId d) i.val = r) (h1 : r.state = 1) :
    exec (.regionRevoke d i) s = .next
      (((s.w (cdId d) (.rdx .REG_STATUS_result) 0).setRegion (cdId d) i.val { r with state := 2 }).tableEvent (cdId d) 4 i.val) := by
  subst hr
  show execRegionRevoke d i s = _
  rw [execRegionRevoke, onCd_of_up hu]
  exact congrArg _ (if_neg (not_not.2 h1))

theorem exec_revocationComplete {i : Fin 65536} (hu : s.cdUp (cdId d) = true ∧ s.modeNow ≠ 0xB) :
    exec (.revocationComplete d i) s = .next (s.revokeIfDone (cdId d) i.val) :=
  (show _ = execRevocationComplete d i s from rfl).trans (onCd_of_up hu)

/-- An entry that fences with nothing in flight is free again under its next tag, and the event is raised. -/
theorem revokeIfDone_frees {e i : Nat} (h : (s.region e i).state = 2 ∧ (s.region e i).inFlight = 0) :
    (s.revokeIfDone e i).region e i = { s.region e i with state := 0, tag := ((s.region e i).tag + 1) % 65536 } ∧
      (s.revokeIfDone e i).r e (.rdx .EVENTS_revoke_done) = 1 := by
  unfold State.revokeIfDone
  extract_lets r u q v
  have hr : u.region e i = { r with state := 0, tag := (r.tag + 1) % 65536 } :=
    (region_congr (ev_rdx ..) e i).trans (region_setRegion_same ..)
  have he : u.r e (.rdx .EVENTS_revoke_done) = 1 := (r_ev_same ..).trans (one_mod_width _)
  rw [if_pos h]
  split
  · exact ⟨hr, (r_w_ne _ _ _ _ _ _ _ (by decide)).trans ((r_w_ne (s := { u with rdx := _ }) _ _ _ _ _ _ _ (by decide)).trans he)⟩
  · exact ⟨hr, (r_w_ne _ _ _ _ _ _ _ (by decide)).trans he⟩

theorem exec_revokeDonePop (hu : s.cdUp (cdId d) = true ∧ s.modeNow ≠ 0xB) : ∃ u : State,
    u.rdx.revokeDone = alPut s.rdx.revokeDone (cdId d) ((alList s.rdx.revokeDone (cdId d)).drop 1) ∧
      exec (.revokeDonePop d) s = .next ((u.wb (cdId d) (.rdx .REVOKE_DONE_valid)
        (!((alList s.rdx.revokeDone (cdId d)).drop 1).isEmpty)).w (cdId d) (.rdx .REVOKE_DONE_index)
          (((alList s.rdx.revokeDone (cdId d)).drop 1).headD 0)) := by
  show ∃ u : State, _ ∧ execRevokeDonePop d s = _
  rw [execRevokeDonePop, onCd_of_up hu]
  exact ⟨State.w { State.emit s _ with rdx := _ } _ _ _, rfl, rfl⟩

theorem alList_alPut_same {κ α : Type} [DecidableEq κ] (l : List (κ × List α)) (k : κ) (v : List α) :
    alList (alPut l k v) k = v := by
  rw [alList, alGet_alPut_same, Option.getD_some]

theorem rb_w_ne (e) (f : Fld) (v i e' f' i') (h : f ≠ f') : (s.w e f v i).rb e' f' i' = s.rb e' f' i' := by
  rw [State.rb, State.rb, r_w_ne _ _ _ _ _ _ _ h]

/-- A field of one bit reads back the truth value it was set to. -/
theorem rb_wb_same (e f b i) : (s.wb e f b i).rb e f i = b := by
  unfold State.rb
  rw [r_wb, if_pos ⟨rfl, rfl, rfl⟩]
  cases b
  · simp
  · rw [if_pos rfl, one_mod_width]
    decide

end Sys2Proof.Machine

open Sys2Proof Sys2Proof.Machine

/-- Settles O22: each clause is read off what its command does to the context, the chain or the entry it names. -/
theorem transportSend : Obligations.TransportSend := by
  refine ⟨?_, ?_, ?_, ?_, ?_, ?_, ?_, ?_, ?_⟩
  · rintro d conn s hu ⟨hs, hr⟩
    refine ⟨_, exec_retransmitTimeout hu rfl hs, ?_⟩
    rw [conn_retry _ _ _ (by rwa [conn_advance])]
    simp only [conn_advance, advance_now, and_self]
  · intro d conn n s hu hh
    refine ⟨_, exec_rnrHoldExpiry hu rfl hh, ?_⟩
    extract_lets u
    have hc : (u.conn (cdId d) (connIdx conn.toNat)).hold = none := by simp [u]
    have hn : u.now = max s.now n := advance_now n
    split
    · rw [conn_congr (resend_rdx ..), resend_now]
      exact ⟨hc, hn⟩
    · exact ⟨hc, hn⟩
  · intro d conn s hu hs
    exact ⟨_, exec_cnpReceived hu rfl hs, by rw [conn_setConn_same]⟩
  · intro d conn s hu hs
    exact ⟨_, exec_rateRecoverStep hu rfl hs, by rw [conn_setConn_same]⟩
  · rintro d n w s hu ⟨h2, hn, he⟩ ⟨hs, hh⟩ ⟨hw, hl, hf⟩ hm
    refine ⟨_, exec_workRequestSend hu rfl rfl h2 hn he hs hh hw hl hf, ?_, ?_⟩
    · rw [chain_sendPackets, chain_setChain_same]
    · rw [packets_of_le (pmtuBytes_pos _) hm, txNext_sendPackets_one, conn_setChain]
  · intro d i s hu hi hf hb hw
    refine ⟨_, exec_regionRegister hu rfl hi hf hb hw, ?_⟩
    obtain ⟨k, hk⟩ := region_tableEvent (s := State.setRegion _ _ _ _) (cdId d) 3 i.val i.val
    rw [hk, region_setRegion_same, r_tableEvent]
    exact ⟨rfl, rfl, r_w_same ..⟩
  · intro d i s hu h1
    refine ⟨_, exec_regionRevoke hu rfl h1, ?_⟩
    obtain ⟨k, hk⟩ := region_tableEvent (s := State.setRegion _ _ _ _) (cdId d) 4 i.val i.val
    rw [hk, region_setRegion_same, r_tableEvent]
    exact ⟨rfl, r_w_same ..⟩
  · intro d i s hu h
    obtain ⟨hr, he⟩ := revokeIfDone_frees h
    exact ⟨_, exec_revocationComplete hu, by rw [hr], by rw [hr], he⟩
  · intro d s hu
    obtain ⟨u, hq, he⟩ := exec_revokeDonePop hu
    refine ⟨_, he, ?_, ?_⟩
    · exact (congrArg (alList · (cdId d)) hq).trans (alList_alPut_same ..)
    · exact (rb_w_ne _ _ _ _ _ _ _ (by decide)).trans (rb_wb_same ..)

end

section
/-! PROOFS. A chain's triggers (spec/07 R197): a host doorbell whose key is not the header's doorbell_key is stray, whatever the
header's keys. -/

namespace Sys2Proof.Machine

variable {M : Nat} {s t : State} {d : Cd}

theorem Good.cdUp_eq (h : Good M s False t) (d) (hc : M.testBit 2 = false) (hf : M.testBit 46 = false) : t.cdUp d = s.cdUp d := by
  have hn : t.channels = s.channels := h.kept .channels hc
  rw [State.cdUp, State.cdUp, hn, h.r_eq 7 (.rst .DIE_STATE_dies) 0 hf]

theorem Good.slot_eq (h : Good M s False t) (d k) (hm : M.testBit 17 = false) : t.slot d k = s.slot d k := by
  have hc : t.cmd = s.cmd := h.kept .cmd hm
  rw [State.slot, State.slot, State.cd, State.cd, hc]

theorem OutGood.of_next {o : Out} (h : OutGood M s False o) (ht : o = .next t) : Good M s False t := by
  obtain ⟨t', ht', hg⟩ := h
  cases ht.symm.trans ht'
  exact hg

/-- Without a duplicate that waits, nothing follows from a command's end. -/
theorem settle_of_no_waiters {e k : Nat} (h : (s.slot e k).waiters = []) : s.settle e k = s :=
  if_neg (by simp [h])

theorem chainTrigger_of_other_doorbell {e n key : Nat} (h : (s.chain e n).hdr.doorbellKey ≠ key) :
    s.chainTrigger e n 3 key = (s.rdxBump e 24).ev e (.rdx .EVENTS_stray) := by
  simp [State.chainTrigger, h]

/-- A doorbell with another key than the chain's is discarded, counted and noted. -/
theorem exec_chainTrigger_of_other_doorbell {n : Fin 32768} {key : BitVec 64} {ok : Bool}
    (hu : s.cdUp (cdId d) = true ∧ s.modeNow ≠ 0xB) (hw : (s.slot (cdId d) n.val).waiters = [])
    (h : (s.chain (cdId d) n.val).hdr.doorbellKey ≠ key.toNat) :
    exec (.chainTrigger d n 3 key ok) s = .next ((s.rdxBump (cdId d) 24).ev (cdId d) (.rdx .EVENTS_stray)) := by
  have hcmd : ((s.rdxBump (cdId d) 24).ev (cdId d) (.rdx .EVENTS_stray)).cmd = s.cmd := by rw [ev_cmd, State.rdxBump, bump_cmd]
  show execChainTrigger d n 3 key ok s = _
  rw [execChainTrigger, onCd_of_up hu]
  refine congrArg _ ((if_neg (by simp)).trans ?_)
  rw [State.raise]
  refine (congrArg (State.settle · _ _) (chainTrigger_of_other_doorbell h)).trans (settle_of_no_waiters ?_)
  rw [State.slot, State.cd, hcmd]
  exact hw

end Sys2Proof.Machine

open Sys2Proof Sys2Proof.Machine

/-- Refutes O23: its clause on CHAIN_TRIGGER asks of a host doorbell only that its key is the header's key0. The bits of the
immediate must also equal doorbell_key (R197), and an arm does not ask the two to be equal (R196): the chain below is armed with
doorbell_key 7 and key0 8 for kind 0x3, and a doorbell with key 8 is stray. -/
theorem not_chainCommands : ¬ Obligations.ChainCommands := by
  unfold Obligations.ChainCommands
  rintro ⟨hArm, -, -, hTrigger, -, -⟩
  let h : ChainHdr := { armCount := 2, conn := 0x1005, kind0 := 3, kind1 := 5, doorbellKey := 7, key0 := 8 }
  let s₀ : State := (State.w { State.reset with rst := { phase := 3 } } mdId (.rst .DIE_STATE_dies) 0).setConn 1 5
    { state := 2, gen := 1 }
  have hup : s₀.cdUp 1 = true ∧ s₀.modeNow ≠ 0xB := by decide
  obtain ⟨s, hs, hc, -⟩ := hArm 0 3 h [{ flags := 1 }] s₀ hup (by decide) (by decide) (by decide)
  have hg : Good 0x1000000000000000000010000 s₀ False s := (good_execChainArm _ _ _ _ _ .self (.refl _)).of_next hs
  have hu : s.cdUp 1 = true ∧ s.modeNow ≠ 0xB := by rwa [hg.cdUp_eq 1 rfl rfl, hg.modeNow_eq rfl rfl]
  have hw : (s.slot 1 3).waiters = [] := by
    rw [hg.slot_eq 1 3 rfl]
    rfl
  obtain ⟨t, ht, hCounts, -⟩ := hTrigger 0 3 3 8 true s hu ⟨rfl, hw⟩
  cases (exec_chainTrigger_of_other_doorbell hu hw (by rw [hc]; decide)).symm.trans ht
  rw [chain_congr ((ev_rdx ..).trans (rdxBump_rdx ..)), hc] at hCounts
  exact absurd (hCounts rfl rfl rfl rfl rfl rfl) (by decide)
end

section
/-! PROOFS. Aborts, the gate, the replay floor and the holds of the command engine (spec/08 R234 to R246, R255): what a command's
completion leaves in its slot, and what each of these commands leaves of its die. -/

namespace Sys2Proof.Machine

variable {s t : State} {d : Cd}

/-! ### The die's tables and its slots -/

@[simp] theorem cd_setCd_same (e c) : (s.setCd e c).cd e = c := by
  rw [State.cd, State.setCd, alGet_alPut_same, Option.getD_some]

theorem cd_congr (h : t.cmd = s.cmd) (e) : t.cd e = s.cd e := by
  rw [State.cd, State.cd, h]

theorem slot_congr (h : t.cmd = s.cmd) (e k) : t.slot e k = s.slot e k := by
  rw [State.slot, State.slot, cd_congr h]

theorem cd_setSlot_same (e k v) : (s.setSlot e k v).cd e = { s.cd e with slots := alPut (s.cd e).slots k v } :=
  cd_setCd_same (s := s) ..

theorem cd_freeSlot_same (e k) : (s.freeSlot e k).cd e = { s.cd e with slots := alDel (s.cd e).slots k } :=
  cd_setCd_same (s := s) ..

@[simp] theorem slot_setSlot_same (e k v) : (s.setSlot e k v).slot e k = v := by
  rw [State.slot, cd_setSlot_same, alGet_alPut_same, Option.getD_some]

@[simp] theorem slot_freeSlot_same (e k) : (s.freeSlot e k).slot e k = {} := by
  rw [State.slot, cd_freeSlot_same, alGet_alDel, Option.getD_none]

@[simp] theorem holdOver_cmd (e l) : (s.holdOver e l).cmd = s.cmd := (good_holdOver .self _ _ (Cover.refl _)).kept .cmd rfl

@[simp] theorem cmdBump_cmd (e k n) : (s.cmdBump e k n).cmd = s.cmd := bump_cmd ..

@[simp] theorem rdxBump_cmd (e k n) : (s.rdxBump e k n).cmd = s.cmd := bump_cmd ..

@[simp] theorem revokeIfDone_cmd (e i) : (s.revokeIfDone e i).cmd = s.cmd :=
  (good_revokeIfDone .self _ _ (Cover.refl _)).kept .cmd rfl

/-! ### What a completion leaves (R213, R220) -/

/-- A die's tables beside the slots, the resume tokens and the controllers, which a completion may change. -/
def State.tables (s : State) (e : Nat) : CmdDie := { s.cd e with slots := [], tokens := [], ctrls := [] }

/-- The answer that a slot holds for its command, status and dwords, with the die's tables. -/
def State.outcome (s : State) (e k : Nat) : Option Nat × Nat × Nat × CmdDie :=
  ((s.slot e k).status, (s.slot e k).dw0, (s.slot e k).dw1, s.tables e)

theorem tables_congr (h : t.cmd = s.cmd) (e) : t.tables e = s.tables e := by
  rw [State.tables, State.tables, cd_congr h]

theorem outcome_congr (h : t.cmd = s.cmd) (e k) : t.outcome e k = s.outcome e k := by
  rw [State.outcome, State.outcome, slot_congr h, tables_congr h]

@[simp] theorem tables_setSlot (e k v) : (s.setSlot e k v).tables e = s.tables e := by
  rw [State.tables, cd_setSlot_same, State.tables]

@[simp] theorem tables_freeSlot (e k) : (s.freeSlot e k).tables e = s.tables e := by
  rw [State.tables, cd_freeSlot_same, State.tables]

theorem outcome_setSlot (e k v) : (s.setSlot e k v).outcome e k = (v.status, v.dw0, v.dw1, s.tables e) := by
  rw [State.outcome, slot_setSlot_same, tables_setSlot]

/-- An outcome that is held is the same one; an older one may be dropped for it. -/
theorem outcome_orphan (e k) : (s.orphan e k).outcome e k = s.outcome e k := by
  unfold State.orphan
  extract_lets x orphans c u
  have hu : u.tables e = s.tables e := by
    subst u
    split
    · rfl
    split
    · rfl
    · next old _ =>
      extract_lets v
      have hv : v.tables e = s.tables e := by rw [State.tables, cd_setCd_same, State.tables]
      rw [tables_congr (ev_cmd ..), tables_congr (cmdBump_cmd ..), tables_freeSlot, tables_congr (holdOver_cmd ..), hv]
  rw [outcome_setSlot, hu, State.outcome]

/-- A chain that fires leaves a status that is there. -/
theorem outcome_slotFires (e k) (h : (s.slot e k).status.isSome = true) : (s.slotFires e k).outcome e k = s.outcome e k := by
  unfold State.slotFires
  extract_lets x
  split
  · obtain ⟨n, hn⟩ := Option.isSome_iff_exists.1 h
    refine (outcome_setSlot ..).trans ?_
    simp only [State.outcome, x, hn, Option.getD_some]
  · rfl

theorem outcome_slotChainFailed (e k) : (s.slotChainFailed e k).outcome e k = s.outcome e k := by
  unfold State.slotChainFailed
  extract_lets x
  split
  · exact outcome_orphan ..
  · rfl

theorem outcome_chainFailed (e k) : (s.chainFailed e k).outcome e k = s.outcome e k := by
  unfold State.chainFailed
  extract_lets c u v q
  have hu : u.outcome e k = s.outcome e k := outcome_congr ((ev_cmd ..).trans (rdxBump_cmd ..)) ..
  have hv : v.outcome e k = s.outcome e k := (outcome_slotChainFailed ..).trans hu
  split
  · exact hu
  split
  · exact hv
  · exact hv

/-- A trigger leaves the outcome of a command that has its status. -/
theorem outcome_chainTrigger (e k kind key) (h : (s.slot e k).status.isSome = true) :
    (s.chainTrigger e k kind key).outcome e k = s.outcome e k := by
  unfold State.chainTrigger
  extract_lets c bell is0 is1 c' full u st v
  have hu : u.cmd = s.cmd := rdxBump_cmd ..
  have hv : v.outcome e k = s.outcome e k := by
    rw [← outcome_congr hu]
    subst v
    split
    · exact outcome_slotFires _ _ (by rw [slot_congr hu]; exact h)
    · rfl
  split
  · split
    · split
      · exact hv
      · exact (outcome_chainFailed ..).trans hv
    · rfl
  · exact outcome_congr ((ev_cmd ..).trans (rdxBump_cmd ..)) ..

theorem tables_setCtrl (e i c) : (s.setCtrl e i c).tables e = s.tables e := by
  unfold State.setCtrl
  rw [State.tables, cd_setCd_same, State.tables]

theorem tables_errLogged (e k status) : (s.errLogged e k status).tables e = s.tables e := by
  unfold State.errLogged
  extract_lets x id
  split
  · exact tables_setCtrl ..
  · rfl

theorem tables_dropRegion (e k) : (s.dropRegion e k).tables e = s.tables e := by
  unfold State.dropRegion
  extract_lets x u
  have hu : u.tables e = s.tables e := tables_setSlot ..
  split
  · rfl
  · exact (tables_congr (revokeIfDone_cmd ..) e).trans hu

theorem tables_unreserve (e k) : (s.unreserve e k).tables e = s.tables e := by
  unfold State.unreserve
  exact tables_setSlot ..

/-- A command that completes holds its answer, and the die's tables stay. -/
theorem outcome_completeOnly (e k status dw0 dw1) :
    (s.completeOnly e k status dw0 dw1).outcome e k = (some status, dw0, dw1, s.tables e) := by
  unfold State.completeOnly
  extract_lets u v _ w w'
  have hu : u.tables e = s.tables e := by
    subst u
    split
    · exact (tables_errLogged ..).trans (tables_congr (cmdBump_cmd ..) e)
    · rfl
  have hv : v.tables e = s.tables e := by
    simp only [v, tables_unreserve, tables_dropRegion, hu]
  clear_value v
  have hw : w'.outcome e k = (some status, dw0, dw1, s.tables e) := by
    rw [outcome_congr (t := w') (s := w) rfl, ← hv]
    exact outcome_setSlot ..
  rw [outcome_chainTrigger _ _ _ _ (congrArg (fun o => o.1.isSome) hw), hw]

/-- Without a duplicate that waits, only the command itself completes. -/
theorem outcome_completeWith {e k : Nat} (h : (s.slot e k).waiters = []) (status dw0 dw1) :
    (s.completeWith e k status dw0 dw1).outcome e k = (some status, dw0, dw1, s.tables e) := by
  unfold State.completeWith
  rw [h]
  exact outcome_completeOnly ..

theorem completeWith_answers {e k : Nat} (h : (s.slot e k).waiters = []) (status dw0 dw1) :
    let t := s.completeWith e k status dw0 dw1
    (t.slot e k).status = some status ∧ (t.slot e k).dw0 = dw0 ∧ (t.slot e k).dw1 = dw1 ∧ t.tables e = s.tables e := by
  have ho := outcome_completeWith h status dw0 dw1
  simpa only [State.outcome, Prod.mk.injEq] using ho

/-! ### Aborts (R236, R238) -/

/-- The Cancel record of an admin command's abort is no longer waited for. -/
def State.abortDone (s : State) (e k : Nat) : State :=
  s.setCd e { s.cd e with aborts := (s.cd e).aborts.filter (fun z => z.adminSlot ≠ k) }

theorem cd_abortDone (e k) :
    (s.abortDone e k).cd e = { s.cd e with aborts := (s.cd e).aborts.filter (fun z => z.adminSlot ≠ k) } :=
  cd_setCd_same ..

theorem find_aborts_abortDone (e k) : ((s.abortDone e k).cd e).aborts.find? (fun a => a.adminSlot = k) = none := by
  rw [cd_abortDone]
  simp

theorem slot_abortDone (e k i) : (s.abortDone e k).slot e i = s.slot e i := by
  rw [State.slot, cd_abortDone, State.slot]

/-- An abort that finds no command in flight is counted as too late. -/
theorem decideAbort_of_none {e conn cid : Nat}
    (h : (s.cd e).slots.any (fun y => y.2.conn = conn && y.2.cap.cid = cid && decide (1 ≤ y.2.state)) = false) :
    s.decideAbort e conn cid = (s.cmdBump e 8, 2) := by
  have hf : (s.cd e).slots.find? (fun y => y.2.conn = conn && y.2.cap.cid = cid && decide (1 ≤ y.2.state)) = none :=
    List.find?_eq_none.2 fun y hy hc => Bool.false_ne_true (h.symm.trans (List.any_eq_true.2 ⟨y, hy, hc⟩))
  rw [State.decideAbort, hf]

theorem exec_abortCidWrite {cid : BitVec 16} (hu : s.cdUp (cdId d) = true ∧ s.modeNow ≠ 0xB) :
    exec (.abortCidWrite d cid) s = .next
      (let r := s.decideAbort (cdId d) (s.r (cdId d) (.cmd .ABORT_CONN_conn)) cid.toNat
       (r.1.w (cdId d) (.cmd .ABORT_STATUS_busy) 0).w (cdId d) (.cmd .ABORT_STATUS_result) r.2) :=
  (show _ = execAbortCidWrite d cid s from rfl).trans (onCd_of_up hu)

/-- An admin command that waits or runs in its slot on a die that runs. -/
theorem onAdmin_of_slot {k : Fin 32768} {op : Nat} {f : Nat → Nat → CmdSlot → State} (hu : s.cdUp (cdId d) = true)
    (hs : ((s.slot (cdId d) k.val).state = 1 || (s.slot (cdId d) k.val).state = 2) = true)
    (ho : (s.slot (cdId d) k.val).cap.opcode = op) (ha : (s.slot (cdId d) k.val).admin = true) :
    onAdmin d k op s f = .next (f (cdId d) k.val (s.slot (cdId d) k.val)) := by
  simp [onAdmin, onSlot, hu, hs, ho, ha]

theorem exec_adminAbort_of_no_queue {k : Fin 32768} {x : CmdSlot} (hx : s.slot (cdId d) k.val = x) (hu : s.cdUp (cdId d) = true)
    (hs : (x.state = 1 || x.state = 2) = true) (ho : x.cap.opcode = 8) (ha : x.admin = true)
    (hq : (s.cd (cdId d)).queues.find? (fun q => q.host = x.host && q.qid = x.cap.cdw10 % 65536 && isEp q.conn = isEp x.conn &&
      (!isEp x.conn || epFn q.conn = epFn x.conn)) = none) :
    exec (.adminAbort d k) s = .next (s.completeWith (cdId d) k.val stOk 1) := by
  subst hx
  show execAdminAbort d k s = _
  rw [execAdminAbort, onAdmin_of_slot hu hs ho ha]
  simp only [hq]

theorem exec_abortCancelAcknowledged {k : Fin 32768} {a : AbortWait} (hu : s.cdUp (cdId d) = true ∧ s.modeNow ≠ 0xB)
    (ha : (s.cd (cdId d)).aborts.find? (fun a => a.adminSlot = k.val) = some a)
    (hp : (s.ringCrumb (cdId d) a.seq).all (fun r => r.placed) = true) :
    exec (.abortCancelAcknowledged d k) s = .next ((s.abortDone (cdId d) k.val).completeWith (cdId d) k.val stOk 0) := by
  show execAbortCancelAcknowledged d k s = _
  rw [execAbortCancelAcknowledged, onCd_of_up hu]
  simp only [ha, hp, if_true, State.abortDone]

/-! ### The gate and the floor (R234, R241) -/

/-- The value that GATE takes: no gate opens from 2 in Maintenance or its drain (R241). -/
def State.gateTaken (s : State) (e v : Nat) : Nat :=
  if v = 0 ∧ s.gateCode e = 2 ∧ (s.modeNow = 0xA ∨ s.mode.drain.isSome = true) then 3 else v

theorem gateTaken_lt {e v : Nat} (h : v < 4) : s.gateTaken e v < 4 := by
  unfold State.gateTaken
  split
  · decide
  · exact h

/-- A write of another value than 2 leaves 2. -/
theorem gateTaken_ne_two {e v : Nat} (h : v ≠ 2) : s.gateTaken e v ≠ 2 := by
  unfold State.gateTaken
  split
  · decide
  · exact h

theorem exec_cmdGateWrite {v : BitVec 2} (hu : s.cdUp (cdId d) = true ∧ s.modeNow ≠ 0xB) :
    exec (.cmdGateWrite d v) s = .next
      (let u := s.w (cdId d) (.cmd .GATE_refuse) (s.gateTaken (cdId d) v.toNat)
       (if s.gateCode (cdId d) = 2 ∧ s.gateTaken (cdId d) v.toNat ≠ 2 then u.w (cdId d) (.grp .STATUS_recovering) 0
        else u).nsmShow (cdId d)) := by
  show execCmdGateWrite d v s = _
  rw [execCmdGateWrite, onCd_of_up hu]
  simp only [State.gateTaken, State.gateCode, Bool.or_eq_true, decide_eq_true_eq]
  rfl

/-- The gate holds what was written, whether or not the die was recovering. -/
theorem gateCode_written {e v : Nat} {c : Prop} [Decidable c] (hv : v < 4) :
    (let u := s.w e (.cmd .GATE_refuse) v
     (if c then u.w e (.grp .STATUS_recovering) 0 else u).nsmShow e).gateCode e = v := by
  extract_lets u
  have hu : u.gateCode e = v := (r_w_same ..).trans (Nat.mod_eq_of_lt hv)
  rw [gateCode_nsmShow]
  exact (gateCode_ite e (gateCode_w _ _ _ _ _ (by decide)) rfl).trans hu

theorem recovering_cleared (e) :
    ((s.w e (.grp .STATUS_recovering) 0).nsmShow e).r e (.grp .STATUS_recovering) = 0 :=
  ((good_nsmShow .self _ (Cover.refl _)).r_eq _ _ _ rfl).trans (r_w_same ..)

theorem exec_replayFloorWrite {v : BitVec 32} (hu : s.cdUp (cdId d) = true ∧ s.modeNow ≠ 0xB) :
    exec (.replayFloorWrite d v) s = .next (s.w (cdId d) (.cmd .REPLAY_FLOOR)
      (max (s.r (cdId d) (.cmd .REPLAY_FLOOR)) (v.toNat * 2 ^ 32 + (s.cd (cdId d)).floorLo))) :=
  (show _ = execReplayFloorWrite d v s from rfl).trans (onCd_of_up hu)

/-! ### The holds (R243, R244, R246) -/

/-- Receive buffers that are offered leave the slots and take no time. -/
theorem slot_offer (e k) : (s.offer e).slot e k = s.slot e k := by
  unfold State.offer
  extract_lets x mine want held flight room sum order
  split
  · rfl
  split
  next got last _ =>
    extract_lets u
    have hu : u.slot e k = s.slot e k := by
      subst u
      split
      · rfl
      · rw [State.slot, cd_setCd_same, State.slot]
    refine (foldS_keeps (v := (State.slot · e k)) (fun _ _ => ?_) got).trans hu
    rfl

theorem offer_now (e) : (s.offer e).now = s.now := (good_offer .self _ (Cover.refl _)).now_eq rfl

theorem slot_endHold (e k) : (s.endHold e k).slot e k = {} := slot_freeSlot_same ..

theorem endHold_now (e k) : (s.endHold e k).now = s.now :=
  ((good_freeSlot .self _ _ (Cover.refl _)).now_eq rfl).trans ((good_holdOver .self _ _ (Cover.refl _)).now_eq rfl)

/-- Without a token held for its connection, an Orphaned command's hold ends at its own time. -/
theorem exec_orphanHoldExpiry {k : Fin 32768} {x : CmdSlot} (hu : s.cdUp (cdId d) = true ∧ s.modeNow ≠ 0xB)
    (hx : s.slot (cdId d) k.val = x) (h6 : x.state = 6)
    (ht : (s.cd (cdId d)).tokens.any (fun t => t.conn = x.conn && t.holdFrom.isSome && !t.used) = false) :
    exec (.orphanHoldExpiry d k) s = .next
      (((s.advance (x.orphanAt.getD 0 + x.holdNs)).endHold (cdId d) k.val).offer (cdId d)) := by
  subst hx
  have hf : (s.cd (cdId d)).tokens.filter (fun t => t.conn = (s.slot (cdId d) k.val).conn && t.holdFrom.isSome && !t.used) = [] :=
    List.filter_eq_nil_iff.2 fun y hy hc => Bool.false_ne_true (ht.symm.trans (List.any_eq_true.2 ⟨y, hy, hc⟩))
  show execOrphanHoldExpiry d k s = _
  rw [execOrphanHoldExpiry, onCd_of_up hu]
  refine congrArg _ ((if_neg (not_not.2 h6)).trans ?_)
  rw [hf, List.foldl_nil]
  dsimp only
  rw [Nat.max_zero]

theorem exec_resumeHoldExpiry {conn : BitVec 24} {x : Token} (hu : s.cdUp (cdId d) = true ∧ s.modeNow ≠ 0xB)
    (hx : (s.cd (cdId d)).tokens.find? (fun x => x.conn = conn.toNat && x.holdFrom.isSome) = some x) :
    exec (.resumeHoldExpiry d conn) s = .next ((s.advance x.ends).setCd (cdId d)
      { s.cd (cdId d) with tokens := (s.cd (cdId d)).tokens.filter (fun z => z.conn ≠ conn.toNat) }) := by
  show execResumeHoldExpiry d conn s = _
  rw [execResumeHoldExpiry, onCd_of_up hu]
  simp only [hx]

theorem exec_takeoverFilterExpiry {n : Nat} (hu : s.cdUp (cdId d) = true ∧ s.modeNow ≠ 0xB)
    (hn : (s.cd (cdId d)).filterUntil = some n) :
    exec (.takeoverFilterExpiry d) s = .next ((s.advance n).setCd (cdId d)
      { (s.advance n).cd (cdId d) with filter := [], filterUntil := none }) := by
  show execTakeoverFilterExpiry d s = _
  rw [execTakeoverFilterExpiry, onCd_of_up hu]
  simp only [hn]

theorem exec_cmdSnapshot {q : Req} (hu : s.cdUp (cdId d) = true) :
    exec (.cmdSnapshot q d) s = .next
      (s.snapshot (cdId d) 0x21 q.secure (s.counters (cdId d) 0x21 24) (.cmd .SNAP_CTRL_done)) := by
  show execCmdSnapshot q d s = _
  rw [execCmdSnapshot, onDie, if_pos hu]

end Sys2Proof.Machine

open Sys2Proof Sys2Proof.Machine

/-- Settles O26: each clause is read off what its command leaves in the slot, the registers or the tables of the die. -/
theorem abortsAndHolds : Obligations.AbortsAndHolds := by
  refine ⟨?_, ?_, ?_, ?_, ?_, ?_, ?_, ?_, ?_⟩
  · intro d cid s hu
    refine ⟨_, exec_abortCidWrite hu, ?_, fun h => ?_⟩
    · exact (r_w_ne _ _ _ _ _ _ _ (by decide)).trans (r_w_same ..)
    · rw [decideAbort_of_none h]
      exact ⟨r_w_same .., congrArg CmdState.dies (cmdBump_cmd ..)⟩
  · rintro d k s ⟨hu, hs, hw, ho, ha⟩ hq
    obtain ⟨hst, hd0, -, -⟩ := completeWith_answers hw stOk 1 0
    exact ⟨_, exec_adminAbort_of_no_queue rfl hu hs ho ha hq, hst, hd0⟩
  · rintro d k a s hu ⟨ha, hp, hw⟩
    obtain ⟨hst, hd0, -, ht⟩ := completeWith_answers (s := s.abortDone (cdId d) k.val) (by rwa [slot_abortDone]) stOk 0 0
    refine ⟨_, exec_abortCancelAcknowledged hu ha hp, hst, hd0, ?_⟩
    exact (congrArg (fun c => c.aborts.find? (fun a => a.adminSlot = k.val)) ht :).trans (find_aborts_abortDone ..)
  · intro d v s hu
    refine ⟨_, exec_cmdGateWrite hu, gateCode_written (gateTaken_lt v.isLt), fun h2 hv => ?_⟩
    dsimp only
    rw [if_pos ⟨h2, gateTaken_ne_two hv⟩]
    exact recovering_cleared _
  · rintro d v s hu ⟨hr, hl⟩
    have hv := v.isLt
    refine ⟨_, exec_replayFloorWrite hu, (r_w_same ..).trans (Nat.mod_eq_of_lt ?_)⟩
    exact Nat.max_lt.2 ⟨hr, show _ < 2 ^ 64 by omega⟩
  · rintro d k s hu ⟨h6, ht⟩
    refine ⟨_, exec_orphanHoldExpiry hu rfl h6 ht, ?_, ?_⟩
    · rw [offer_now, endHold_now, advance_now]
    · rw [slot_offer, slot_endHold]
  · intro d conn x s hu hx
    exact ⟨_, exec_resumeHoldExpiry hu hx, advance_now _, by simp⟩
  · intro d n s hu hn
    exact ⟨_, exec_takeoverFilterExpiry hu hn, advance_now _, by rw [cd_setCd_same], by rw [cd_setCd_same]⟩
  · intro q d s hu
    exact ⟨_, exec_cmdSnapshot hu, mem_snaps_snapshot ..⟩

end

section
/-! PROOFS. The memory arbiter and the dirty ceiling (spec/10 R287, R304 to R307, R310): who is granted where one requester is
pending, what a window's end and a commit leave, and what the ceiling takes; and the Standby's match limit (R300). -/

namespace Sys2Proof.Machine

variable {s t : State} {d : Cd}

/-! ### What has left the package stays -/

theorem out_prefix_emit (m) : s.out <+: (s.emit m).out := List.prefix_append ..

theorem out_prefix_irqFor (e b k x) : s.out <+: (s.irqFor e b k x).out := by
  unfold State.irqFor
  split
  · split
    · exact out_prefix_emit _
    · exact List.prefix_rfl
  · exact List.prefix_rfl

theorem out_prefix_foldS {α : Type} {g : State → α → State} (h : ∀ x a, x.out <+: (g x a).out) (l : List α) :
    s.out <+: (foldS g s l).out := by
  induction l generalizing s with
  | nil => exact List.prefix_rfl
  | cons a l ih => exact (h s a).trans ih

theorem out_prefix_pmcAdd (e n k) : s.out <+: (s.pmcAdd e n k).out := by
  unfold State.pmcAdd
  extract_lets v u w
  split
  · exact List.prefix_rfl
  split
  · exact out_prefix_irqFor (s := w.w e (.pmc .EVENTS_overflow) 1) ..
  · exact List.prefix_rfl

theorem out_prefix_pmcFeed (e x n) : s.out <+: (s.pmcFeed e x n).out := by
  refine out_prefix_foldS (fun u k => ?_) _
  split
  · exact out_prefix_pmcAdd ..
  · exact List.prefix_rfl

theorem out_prefix_wrapped (e b k i) : s.out <+: (s.wrapped e b k i).out := by
  unfold State.wrapped
  split
  · exact List.prefix_rfl
  next o en ev _ =>
    extract_lets ei u
    split
    · split
      next f _ => exact out_prefix_irqFor (s := u.w e f 1) ..
      · exact out_prefix_emit (s := u) _
    · exact List.prefix_rfl

theorem out_prefix_bump (e b k n i) : s.out <+: (s.bump e b k n i).out := by
  unfold State.bump
  extract_lets v u w
  refine List.IsPrefix.trans ?_ (out_prefix_pmcFeed ..)
  show u.out <+: (if v < 2 ^ 64 then u else u.wrapped e b k i).out
  split
  · exact List.prefix_rfl
  · exact out_prefix_wrapped ..

/-! ### The arbiter of a die -/

@[simp] theorem arb_setArb_same (e a) : (s.setArb e a).arb e = a := by
  simp [State.arb, State.setArb]

theorem arb_congr (h : t.spg = s.spg) (e) : t.arb e = s.arb e := by
  rw [State.arb, State.arb, h]

/-- The effective level reads the arbiter's own state and the destage boost. -/
theorem arbLevel_congr {e n : Nat} (ha : t.arb e = s.arb e)
    (hb : t.r e (.arb .STATUS_boost) = s.r e (.arb .STATUS_boost)) : t.arbLevel e n = s.arbLevel e n := by
  unfold State.arbLevel State.rb
  rw [ha, hb]

theorem arbLevel_setArb_self (e n) : (s.setArb e (s.arb e)).arbLevel e n = s.arbLevel e n :=
  arbLevel_congr (arb_setArb_same ..) rfl

/-! ### A grant where one requester is pending (R304) -/

/-- The vector with bit n alone says that n is pending and no other. -/
theorem pending_singleton : ∀ n : Fin 10, (List.range 10).filter (fun k => (BitVec.ofNat 10 (2 ^ n.val)).getLsbD k) = [n.val] := by
  decide

theorem candidates_singleton {n : Fin 10} {frozen : Nat} (h : frozen.testBit n.val = false) :
    (List.range 10).filter (fun k => (BitVec.ofNat 10 (2 ^ n.val)).getLsbD k && !frozen.testBit k) = [n.val] := by
  simp only [Bool.and_comm (x := BitVec.getLsbD _ _)]
  rw [← List.filter_filter, pending_singleton]
  simp [h]

/-- The search that starts at any requester goes once round all ten of them, and so finds the only candidate. -/
theorem find_round_singleton {n : Nat} (hn : n < 10) (start : Nat) :
    ((List.range 10).map (fun i => (start + i) % 10)).find? (fun k => [n].contains k) = some n := by
  obtain ⟨k, hk⟩ : ∃ k, ((List.range 10).map (fun i => (start + i) % 10)).find? (fun k => [n].contains k) = some k := by
    refine Option.isSome_iff_exists.1 (List.find?_isSome.2 ⟨n, List.mem_map.2 ⟨(n + 10 - start % 10) % 10, ?_, ?_⟩, by simp⟩)
    · exact List.mem_range.2 (Nat.mod_lt _ (by decide))
    · omega
  have hkn : k = n := by simpa using List.find?_some hk
  rw [hk, hkn]

/-- The requester that is pending alone is granted: the clock moves on, and the pointer of its level names it. What it has used of
its quota, and whether it drops for it, is left open. -/
theorem exec_arbiterGrant_single {n : Fin 10} (hu : s.cdUp (cdId d) = true ∧ s.modeNow ≠ 0xB)
    (hc : (s.arb (cdId d)).clock < (s.arb (cdId d)).window)
    (hf : (s.r (cdId d) (.arb .FREEZE_mask)).testBit n.val = false) :
    ∃ (u : State) (used : List Nat) (drops : Bool),
      u.arb (cdId d) = { s.arb (cdId d) with
        clock := (s.arb (cdId d)).clock + 1
        used := used
        last := (s.arb (cdId d)).last.set (s.arbLevel (cdId d) n.val) (some n.val) } ∧
      exec (.arbiterGrant d (BitVec.ofNat 10 (2 ^ n.val))) s = .next
        (let g := (u.bump (cdId d) 0x24 n.val).emit (.grant (cdId d) n.val)
         if drops then g.bump (cdId d) 0x24 (10 + n.val) else g) := by
  have he : exec (.arbiterGrant d (BitVec.ofNat 10 (2 ^ n.val))) s = execArbiterGrant d (BitVec.ofNat 10 (2 ^ n.val)) s := rfl
  have hfr : (s.setArb (cdId d) (s.arb (cdId d))).r (cdId d) (.arb .FREEZE_mask) = s.r (cdId d) (.arb .FREEZE_mask) := rfl
  have htop : ([n.val].map ((s.setArb (cdId d) (s.arb (cdId d))).arbLevel (cdId d))).foldl max 0 = s.arbLevel (cdId d) n.val := by
    simp [arbLevel_setArb_self]
  have htied : [n.val].filter (fun k => (s.setArb (cdId d) (s.arb (cdId d))).arbLevel (cdId d) k = s.arbLevel (cdId d) n.val)
      = [n.val] := by
    simp [arbLevel_setArb_self]
  rw [he, execArbiterGrant, onCd_of_up hu]
  simp only [if_neg (Nat.not_le.2 hc), hfr, candidates_singleton hf, htop, htied, find_round_singleton n.isLt]
  exact ⟨_, _, _, arb_setArb_same .., rfl⟩

theorem arbiterGrant_single_grants {n : Fin 10} (hu : s.cdUp (cdId d) = true ∧ s.modeNow ≠ 0xB)
    (hc : (s.arb (cdId d)).clock < (s.arb (cdId d)).window)
    (hf : (s.r (cdId d) (.arb .FREEZE_mask)).testBit n.val = false) :
    ∃ t used, exec (.arbiterGrant d (BitVec.ofNat 10 (2 ^ n.val))) s = .next t ∧ OutMsg.grant (cdId d) n.val ∈ t.out ∧
      t.arb (cdId d) = { s.arb (cdId d) with
        clock := (s.arb (cdId d)).clock + 1
        used := used
        last := (s.arb (cdId d)).last.set (s.arbLevel (cdId d) n.val) (some n.val) } := by
  obtain ⟨u, used, drops, ha, he⟩ := exec_arbiterGrant_single hu hc hf
  let g := (u.bump (cdId d) 0x24 n.val).emit (.grant (cdId d) n.val)
  have hg : OutMsg.grant (cdId d) n.val ∈ g.out := by simp [g]
  have hga : g.arb (cdId d) = u.arb (cdId d) := arb_congr (bump_spg ..) _
  refine ⟨_, used, he, ?_, ?_⟩
  · split
    · exact (out_prefix_bump ..).subset hg
    · exact hg
  · rw [← ha, ← hga]
    split
    · exact arb_congr (bump_spg ..) _
    · rfl

/-! ### Windows, commits and frozen requesters (R305 to R307) -/

theorem exec_arbWindowEnd (hu : s.cdUp (cdId d) = true ∧ s.modeNow ≠ 0xB)
    (hw : (s.arb (cdId d)).window ≤ (s.arb (cdId d)).clock) :
    exec (.arbWindowEnd d) s = .next (s.setArb (cdId d) (s.arb (cdId d)).newWindow) := by
  show execArbWindowEnd d s = _
  rw [execArbWindowEnd, onCd_of_up hu]
  exact congrArg _ (if_pos hw)

theorem exec_arbCommit (hu : s.cdUp (cdId d) = true ∧ s.modeNow ≠ 0xB) :
    exec (.arbCommit d) s = .next (s.setArb (cdId d) { (s.arb (cdId d)).newWindow with
      prio := s.r (cdId d) (.arb .PRIO_level)
      window := s.r (cdId d) (.arb .WINDOW_clocks)
      quotas := (List.range 10).map (fun n => s.r (cdId d) (.arb .QUOTA_q) n) }) :=
  (show _ = execArbCommit d s from rfl).trans (onCd_of_up hu)

theorem exec_arbFreezeWrite {m : BitVec 10} (hu : s.cdUp (cdId d) = true ∧ s.modeNow ≠ 0xB) :
    exec (.arbFreezeWrite d m) s = .next
      (((s.w (cdId d) (.arb .FREEZE_mask) m.toNat).w (cdId d) (.arb .STATUS_idle) 0x3FF).w (cdId d) (.arb .STATUS_drained) 1) :=
  (show _ = execArbFreezeWrite d m s from rfl).trans (onCd_of_up hu)

/-- The mask holds what was written: what follows shows the requesters idle. -/
theorem freezeMask_written (e) (m : BitVec 10) :
    (((s.w e (.arb .FREEZE_mask) m.toNat).w e (.arb .STATUS_idle) 0x3FF).w e (.arb .STATUS_drained) 1).r e (.arb .FREEZE_mask) =
      m.toNat := by
  rw [r_w_ne _ _ _ _ _ _ _ (by decide), r_w_ne _ _ _ _ _ _ _ (by decide), r_w_same]
  exact Nat.mod_eq_of_lt m.isLt

/-! ### The dirty ceiling (R287) -/

@[simp] theorem sp_setSp_same (e x) : (s.setSp e x).sp e = x := by
  simp [State.sp, State.setSp]

theorem sp_congr (h : t.spg = s.spg) (e) : t.sp e = s.sp e := by
  rw [State.sp, State.sp, h]

/-- The counts that follow the Sponge's tables leave the ceiling. -/
theorem ceiling_setSp (e x) : (s.setSp e x).r e (.spg .DIRTY_CEILING_limit_mib) = s.r e (.spg .DIRTY_CEILING_limit_mib) := by
  unfold State.setSp
  extract_lets y u
  have hu : u.r e (.spg .DIRTY_CEILING_limit_mib) = s.r e (.spg .DIRTY_CEILING_limit_mib) := rfl
  rw [r_wb, if_neg (by simp), r_w_ne _ _ _ _ _ _ _ (by decide), r_w_ne _ _ _ _ _ _ _ (by decide),
    r_w_ne _ _ _ _ _ _ _ (by decide), hu]

/-- A secure write in range sets the ceiling and shows the Sponge's counts again; one out of range is discarded. -/
theorem exec_dirtyCeilingWrite {q : Req} {v : BitVec 12} (hu : s.cdUp (cdId d) = true ∧ s.modeNow ≠ 0xB) (hq : q.secure = true) :
    exec (.dirtyCeilingWrite q d v) s = .next
      (if 64 ≤ v.toNat ∧ v.toNat ≤ 3584
        then (s.w (cdId d) (.spg .DIRTY_CEILING_limit_mib) v.toNat).setSp (cdId d) (s.sp (cdId d))
        else s.discardRange (cdId d) (.spg .DIRTY_CEILING_limit_mib) v.toNat) := by
  show execDirtyCeilingWrite q d v s = _
  rw [execDirtyCeilingWrite, onCd_of_up hu]
  refine congrArg _ ((if_neg (by simp [hq])).trans ?_)
  by_cases hv : 64 ≤ v.toNat ∧ v.toNat ≤ 3584
  · rw [if_pos hv, if_neg (by omega)]
    rfl
  · rw [if_neg hv, if_pos (by omega)]

/-! ### The snapshots (R310) -/

theorem exec_spgSnapshot {q : Req} (hu : s.cdUp (cdId d) = true) :
    exec (.spgSnapshot q d) s = .next
      (s.snapshot (cdId d) 0x23 q.secure (s.counters (cdId d) 0x23 20) (.spg .SNAP_CTRL_done)) :=
  (show _ = execSpgSnapshot q d s from rfl).trans (congrArg _ (if_pos hu))

theorem exec_arbSnapshot {q : Req} (hu : s.cdUp (cdId d) = true) :
    exec (.arbSnapshot q d) s = .next
      (s.snapshot (cdId d) 0x24 q.secure (s.counters (cdId d) 0x24 20) (.arb .SNAP_CTRL_done)) :=
  (show _ = execArbSnapshot q d s from rfl).trans (congrArg _ (if_pos hu))

/-! ### The match limit (R300) -/

/-- The mirror stream counts as lost (R300). -/
def State.loseMirror (s : State) : State := { s with spg := { s.spg with mirrorLost := true } }

theorem exec_mirrorMatchTimeout {m : MirrorIn} (hu : s.cdUp (cdId d) = true ∧ s.modeNow ≠ 0xB)
    (hm : (s.sp (cdId d)).incoming.find? (fun m => !m.located) = some m) :
    exec (.mirrorMatchTimeout d) s = .next
      ((s.advance (m.arrived + 1000 * s.r (cdId d) (.spg .MIRROR_CFG_match_limit_us))).ev (cdId d)
        (.spg .EVENTS_mirror_match_timeout)).loseMirror := by
  show execMirrorMatchTimeout d s = _
  rw [execMirrorMatchTimeout, onCd_of_up hu]
  simp only [hm]
  rfl

end Sys2Proof.Machine

open Sys2Proof Sys2Proof.Machine

/-- Settles O32: the arbiter's state and the registers are read off what each command leaves; the one requester pending is
the only candidate, so the search of its level finds it. -/
theorem arbiterAndCeiling : Obligations.ArbiterAndCeiling := by
  refine ⟨?_, ?_, ?_, ?_, ?_, ?_, ?_⟩
  · rintro d n s hu ⟨hc, hf, hl, hlv⟩
    obtain ⟨t, used, he, hg, ha⟩ := arbiterGrant_single_grants hu hc hf
    refine ⟨t, he, hg, ?_, ?_⟩
    · rw [ha]
    · rw [ha, List.getD_eq_getElem?_getD, List.getElem?_set_self (by rwa [hl]), Option.getD_some]
  · intro d s hu hw
    refine ⟨_, exec_arbWindowEnd hu hw, ?_⟩
    rw [arb_setArb_same]
    exact ⟨rfl, rfl, rfl⟩
  · intro d s hu
    refine ⟨_, exec_arbCommit hu, ?_⟩
    rw [arb_setArb_same]
    exact ⟨rfl, rfl, rfl, rfl, rfl⟩
  · intro d m s hu
    exact ⟨_, exec_arbFreezeWrite hu, freezeMask_written .., (r_w_same ..).trans (one_mod_width _)⟩
  · intro q d v s hu hq
    refine ⟨_, exec_dirtyCeilingWrite hu hq, ?_⟩
    split
    · rw [ceiling_setSp, r_w_same, sp_setSp_same]
      exact ⟨Nat.mod_eq_of_lt v.isLt, rfl⟩
    · exact ⟨rfl, rfl⟩
  · intro q d s hu
    exact ⟨_, exec_spgSnapshot hu, mem_snaps_snapshot ..⟩
  · intro q d s hu
    exact ⟨_, exec_arbSnapshot hu, mem_snaps_snapshot ..⟩

/-- Settles O60: uptime goes on to the limit from the Crumb's arrival, the event sets, and the stream counts as lost. -/
theorem mirrorMatchRule : Obligations.MirrorMatchRule := by
  rintro d m s ⟨hup, hq, -⟩ hm
  refine ⟨_, exec_mirrorMatchTimeout ⟨hup, hq⟩ hm, rfl, ?_, (r_ev_same ..).trans (one_mod_width _), rfl⟩
  exact (ev_now ..).trans (advance_now _)

end

section
/-! PROOFS. The release of a held gate (spec/15 R452): its frame goes to a partner only while one is authenticated. -/

namespace Sys2Proof.Machine

variable {M : Nat} {s t : State}

theorem Good.authenticated_eq (h : Good M s False t) (hf : M.testBit 128 = false) : t.authenticated = s.authenticated := by
  unfold State.authenticated State.rb
  rw [h.r_eq 0 (.pair .LINK_STATUS_authenticated) 0 hf]

/-- Without an authenticated partner no control frame is numbered or sent but the hello and the authentication. -/
theorem sendControl_of_not_authenticated {sub : Nat} (h : s.authenticated = false) (hs : sub ≠ 1 ∧ sub ≠ 2) (body) :
    s.sendControl sub body = s := by
  simp [State.sendControl, State.sendPartner, h, hs]

/-- The hold of the first bay ends, and that of the others begins: after 10 µs, or 20 µs apart in Quarantine (R452). -/
def State.passHold (s : State) (t0 : Nat) (rest : List (Nat × Nat)) : State :=
  let s := s.advance t0
  s.setPair { s.pair with gateHeld := rest.map (fun e => (e.1, s.now + if s.modeNow = 0xB then 20000 else 10000)) }

theorem txSeq_passHold (t0 rest) : (s.passHold t0 rest).pair.txSeq = s.pair.txSeq := by
  show (s.advance t0).pair.txSeq = _
  rw [advance_pair]

theorem authenticated_passHold (t0 rest) : (s.passHold t0 rest).authenticated = s.authenticated :=
  (good_advance .self t0 (Cover.refl _)).authenticated_eq rfl

/-- The release ends with the frame that tells the partner; between the hold's end and that frame only the bay's registers
and what leaves the package change. -/
theorem exec_gateReleaseHoldExpiry {n t0 : Nat} {rest : List (Nat × Nat)} (h : s.pair.gateHeld = (n, t0) :: rest) :
    ∃ (u : State) (lvl : Nat), Good (maskOf [.out, .regs 0x32]) (s.passHold t0 rest) False u ∧
      exec .gateReleaseHoldExpiry s = .next (u.sendControl 0x0B [2 ^ n, lvl]) := by
  show ∃ (u : State) (lvl : Nat), _ ∧ execGateReleaseHoldExpiry s = _
  rw [execGateReleaseHoldExpiry, h]
  have hm : Cover 0x1000000000000000000000000000000040 (maskOf [.out, .regs 0x32]) := Cover.refl _
  refine ⟨_, _, ?_, rfl⟩
  exact good_emit (good_bayShow (good_wb (good_w (good_ite (good_bayEpw .self _ _ hm) .self) ..) ..) (hm.sub rfl)) _

/-- A release with no authenticated partner numbers no frame. -/
theorem txSeq_gateReleaseHoldExpiry_of_not_authenticated {n t0 : Nat} {rest : List (Nat × Nat)}
    (h : s.pair.gateHeld = (n, t0) :: rest) (ha : s.authenticated = false) (ht : exec .gateReleaseHoldExpiry s = .next t) :
    t.pair.txSeq = s.pair.txSeq := by
  obtain ⟨u, lvl, hu, he⟩ := exec_gateReleaseHoldExpiry h
  have hua : u.authenticated = false := by rw [hu.authenticated_eq rfl, authenticated_passHold, ha]
  have hup : u.pair = (s.passHold t0 rest).pair := hu.kept .pair rfl
  rw [sendControl_of_not_authenticated hua (by decide)] at he
  cases he.symm.trans ht
  rw [hup, txSeq_passHold]

/-- Pair-A in Maintenance: it drives the gate of bay 3, and no partner is authenticated. -/
def maintenanceAlone : State :=
  (((State.w { State.reset with rst := { phase := 3 } } mdId (.mgt .MODE_current) 0xA).w mdId (.rst .STRAP_role) 1).w
    mdId (.bay .B_STATE_state) 5 3).w mdId (.bay .B_STATE_driven) 1 3

end Sys2Proof.Machine

open Sys2Proof Sys2Proof.Machine

/-- Refutes O43: its clause on GATE_RELEASE_HOLD_EXPIRY has no authenticated partner among its premises and asks that a frame be
numbered all the same. Entry to Maintenance offers every gate of a paired package (R452), be its partner lost or not: the package
below holds the gate of bay 3 for its release, and with no partner (R423, R425) there is none to send gate released to. -/
theorem not_gateTransfers : ¬ Obligations.GateTransfers := by
  unfold Obligations.GateTransfers
  rintro ⟨-, hRelease, -⟩
  let s : State := maintenanceAlone.gateOfferAll
  have hHeld : s.pair.gateHeld = [(3, 10000)] := by decide
  have hMode : s.modeNow ≠ 0xB := by decide
  have hAlone : s.authenticated = false := by decide
  obtain ⟨t, ht, -, -, -, hSent⟩ := hRelease 3 10000 [] s ⟨hHeld, hMode⟩
  exact absurd (hSent.symm.trans (txSeq_gateReleaseHoldExpiry_of_not_authenticated hHeld hAlone ht)) (Nat.succ_ne_self _)

end

section
/-! PROOFS. A bay's power states, and Limit (spec/17 R488, R493, R494): what entering a state leaves of the bay, what a fault of a
bay that is powered up leaves of its registers and its retry count, and a stay in Limit from its start to the fault that ends it. -/

namespace Sys2Proof.Machine

variable {s t : State} {n : Nat}

/-! ### The bay's record and its registers -/

theorem Good.bayField_eq {M : Nat} (h : Good M s False t) (f : BayF) (i) (hf : M.testBit 132 = false) :
    t.r mdId (.bay f) i = s.r mdId (.bay f) i := h.r_eq _ _ _ hf

@[simp] theorem bayR_setBayR_same (n x) : (s.setBayR n x).bayR n = x := by
  simp [State.bayR, State.setBayR]

theorem n_setBayR_same (n x) : ((s.setBayR n x).bayR n).n = x.n := congrArg BayRec.n (bayR_setBayR_same n x)

theorem bayR_congr (h : t.bay = s.bay) (n) : t.bayR n = s.bayR n := by
  rw [State.bayR, State.bayR, h]

@[simp] theorem setBayR_offering (n x) : (s.setBayR n x).bay.offering = s.bay.offering := rfl

@[simp] theorem r_setBayR (n x d f i) : (s.setBayR n x).r d f i = s.r d f i := rfl

/-! ### Entering a power state (R502) -/

/-- STATUS shows the bays' counts; no other field follows them. -/
theorem r_bayShow (f : BayF) (i) (h : f ≠ .STATUS_ramping ∧ f ≠ .STATUS_on_count ∧ f ≠ .STATUS_driven) :
    s.bayShow.r mdId (.bay f) i = s.r mdId (.bay f) i := by
  obtain ⟨hr, ho, hd⟩ := h
  unfold State.bayShow
  rw [r_w_ne _ _ _ _ _ _ _ (by simp [hd.symm]), r_w_ne _ _ _ _ _ _ _ (by simp [ho.symm]),
    r_w_ne _ _ _ _ _ _ _ (by simp [hr.symm])]

/-- While no gates are offered, a bay that enters a state only shows it. -/
theorem bayEnter_of_not_offering (h : s.bay.offering = false) (n st) :
    s.bayEnter n st = (s.w mdId (.bay .B_STATE_state) st n).bayShow := by
  have h' : (s.w mdId (.bay .B_STATE_state) st n).bayShow.bay.offering = false := h
  simp [State.bayEnter, h']

theorem baySt_bayEnter (h : s.bay.offering = false) {st : Nat} (hst : st < 16) (n) : (s.bayEnter n st).baySt n = st := by
  rw [bayEnter_of_not_offering h, State.baySt, r_bayShow _ _ (by decide), r_w_same]
  exact Nat.mod_eq_of_lt hst

theorem bayR_bayEnter (h : s.bay.offering = false) (n st k) : (s.bayEnter n st).bayR k = s.bayR k := by
  rw [bayEnter_of_not_offering h]
  rfl

theorem r_bayEnter (h : s.bay.offering = false) (n st) (f : BayF) (i)
    (hf : (f ≠ .STATUS_ramping ∧ f ≠ .STATUS_on_count ∧ f ≠ .STATUS_driven) ∧ f ≠ .B_STATE_state) :
    (s.bayEnter n st).r mdId (.bay f) i = s.r mdId (.bay f) i := by
  obtain ⟨hs, hst⟩ := hf
  rw [bayEnter_of_not_offering h, r_bayShow _ _ hs, r_w_ne _ _ _ _ _ _ _ (by simp [hst.symm])]

/-! ### The bay's counters -/

/-- A counter that wraps sets its overflow bit and, where enabled, the event of a wrap. -/
theorem r_bayWrapped (k j) (f : BayF) (i) (h : f ≠ .B_OVF_ovf ∧ f ≠ .EVENTS_counter_wrap) :
    (s.wrapped mdId 0x32 k j).r mdId (.bay f) i = s.r mdId (.bay f) i := by
  obtain ⟨ho, he⟩ := h
  unfold State.wrapped
  split
  · rfl
  · next hb =>
    cases hb
    extract_lets ei u
    have hu : u.r mdId (.bay f) i = s.r mdId (.bay f) i := r_w_ne _ _ _ _ _ _ _ (by simp [ho.symm])
    split
    · rw [r_ev, if_neg (by simp [he.symm]), hu]
    · exact hu

theorem r_bayBump (n k) (f : BayF) (i) (h : f ≠ .B_OVF_ovf ∧ f ≠ .EVENTS_counter_wrap) :
    (s.bayBump n k).r mdId (.bay f) i = s.r mdId (.bay f) i := by
  unfold State.bayBump State.bump
  extract_lets v u w
  refine (r_pmcFeed _ _ _ _ _ _ (by simp [Fld.block])).trans ?_
  show (if v < 2 ^ 64 then u else u.wrapped mdId 0x32 k n).r mdId (.bay f) i = u.r mdId (.bay f) i
  split
  · rfl
  · exact r_bayWrapped _ _ _ _ h

/-! ### A fault of a bay that is powered up (R493, R494) -/

@[simp] theorem bayFaultLog_bay (n cause) : (s.bayFaultLog n cause).bay = s.bay := by
  unfold State.bayFaultLog
  simp

theorem r_bayFaultLog (n cause) (f : BayF) (i) (h : f ≠ .B_FAULT_cause ∧ f ≠ .EVENTS_fault) :
    (s.bayFaultLog n cause).r mdId (.bay f) i = s.r mdId (.bay f) i := by
  obtain ⟨hc, he⟩ := h
  unfold State.bayFaultLog
  rw [r_logEv, r_ev, if_neg (by simp [he.symm]), r_w_ne _ _ _ _ _ _ _ (by simp [hc.symm])]

theorem cause_bayFaultLog {cause : Nat} (h : cause < 16) (n) : (s.bayFaultLog n cause).r mdId (.bay .B_FAULT_cause) n = cause := by
  unfold State.bayFaultLog
  rw [r_logEv, r_ev, if_neg (by simp), r_w_same]
  exact Nat.mod_eq_of_lt h

theorem event_bayFaultLog (n cause) : (s.bayFaultLog n cause).r mdId (.bay .EVENTS_fault) = 1 := by
  unfold State.bayFaultLog
  rw [r_logEv, r_ev_same]
  exact one_mod_width _

/-- A drive that is lost with its bay's power changes the channel die; of the BAY registers only power-good clears. -/
theorem r_bayDark (n) (f : BayF) (i) (h : f ≠ .B_STATE_pg) : (s.bayDark n).r mdId (.bay f) i = s.r mdId (.bay f) i := by
  unfold State.bayDark
  extract_lets d b u
  have hu : u.r mdId (.bay f) i = s.r mdId (.bay f) i := r_w_ne _ _ _ _ _ _ _ (by simp [h.symm])
  rw [← hu]
  split
  · exact (good_driveLost .self _ _ _ (Cover.refl _)).bayField_eq _ _ rfl
  · rfl

theorem bayDark_bay (n) : (s.bayDark n).bay = s.bay := (good_bayDark .self _ (Cover.refl _)).kept .bay rfl

theorem r_bayOff (n hard) (f : BayF) (i) (h : f ≠ .B_STATE_pg) : (s.bayOff n hard).r mdId (.bay f) i = s.r mdId (.bay f) i := by
  unfold State.bayOff
  rw [r_bayDark _ _ _ h, r_setBayR, r_emit]

theorem bayR_bayOff (n hard) : (s.bayOff n hard).bayR n = { s.bayR n with drive := 0, pre := none } := by
  unfold State.bayOff
  rw [bayR_congr (bayDark_bay n), bayR_setBayR_same]

theorem bayOff_offering (n hard) : (s.bayOff n hard).bay.offering = s.bay.offering := by
  unfold State.bayOff
  rw [bayDark_bay, setBayR_offering, emit_bay]

/-- The fault is recorded, the gate is off, and n has risen. -/
def State.bayCounted (s : State) (n cause : Nat) : State :=
  let s := (s.bayFaultLog n cause).bayOff n (cause = 2 || cause = 3)
  let s := s.bayN n ((s.bayR n).n + 1)
  s.setBayR n { s.bayR n with waits := cause }

theorem n_bayCounted (n cause) : ((s.bayCounted n cause).bayR n).n = (s.bayR n).n + 1 := by
  unfold State.bayCounted
  extract_lets u v
  have hu : (u.bayR n).n = (s.bayR n).n := by rw [bayR_bayOff, bayR_congr (bayFaultLog_bay ..)]
  have hv : (v.bayR n).n = (u.bayR n).n + 1 := n_setBayR_same ..
  rw [n_setBayR_same, ← hu, ← hv]

theorem bayCounted_offering (n cause) : (s.bayCounted n cause).bay.offering = s.bay.offering := by
  unfold State.bayCounted
  extract_lets u v
  show u.bay.offering = _
  rw [bayOff_offering, bayFaultLog_bay]

/-- Once the fault is recorded, power-good and the count are what changes of the bay's registers. -/
theorem r_bayCounted (n cause) (f : BayF) (i) (h : f ≠ .B_STATE_pg ∧ f ≠ .B_FAULT_count) :
    (s.bayCounted n cause).r mdId (.bay f) i = (s.bayFaultLog n cause).r mdId (.bay f) i := by
  obtain ⟨hp, hc⟩ := h
  unfold State.bayCounted
  extract_lets u v
  have hv : v.r mdId (.bay f) i = u.r mdId (.bay f) i := r_w_ne _ _ _ _ _ _ _ (by simp [hc.symm])
  rw [r_setBayR, hv, r_bayOff _ _ _ _ hp]

/-- R494: past its retries the bay is Latched; otherwise it waits in Backoff. -/
theorem bayFault_of_live (h : s.bayLive n = true) (cause) :
    s.bayFault n cause =
      (let u := s.bayCounted n cause
       if s.r mdId (.bay .CFG_RETRY_retries_max) < (s.bayR n).n + 1 then u.bayLatch n
       else (u.setBayR n { u.bayR n with timer := some (u.now + 1000000 * u.bayBackoff cause ((s.bayR n).n + 1)) }).bayEnter n 8) := by
  have hl : (s.bayFaultLog n cause).bayLive n = true := by
    unfold State.bayLive State.baySt
    rwa [r_bayFaultLog _ _ _ _ (by decide)]
  have hn : (((s.bayFaultLog n cause).bayOff n (cause = 2 || cause = 3)).bayR n).n = (s.bayR n).n := by
    rw [bayR_bayOff, bayR_congr (bayFaultLog_bay ..)]
  have hr : (s.bayCounted n cause).r mdId (.bay .CFG_RETRY_retries_max) = s.r mdId (.bay .CFG_RETRY_retries_max) := by
    rw [r_bayCounted _ _ _ _ (by decide), r_bayFaultLog _ _ _ _ (by decide)]
  rw [← hr, ← hn]
  unfold State.bayFault
  simp only [hl, Bool.not_true, Bool.false_eq_true, if_false]
  rfl

/-- What a fault has left of the bay and its registers, once n has risen to v. -/
structure State.Faulted (s : State) (n cause v : Nat) : Prop where
  cause_eq : s.r mdId (.bay .B_FAULT_cause) n = cause
  event : s.r mdId (.bay .EVENTS_fault) = 1
  count : (s.bayR n).n = v

theorem faulted_bayCounted {cause : Nat} (hc : cause < 16) (n) : (s.bayCounted n cause).Faulted n cause ((s.bayR n).n + 1) where
  cause_eq := by rw [r_bayCounted _ _ _ _ (by decide), cause_bayFaultLog hc]
  event := by rw [r_bayCounted _ _ _ _ (by decide), event_bayFaultLog]
  count := n_bayCounted ..

theorem State.Faulted.setBayR {cause v : Nat} (h : s.Faulted n cause v) {x : BayRec} (hx : x.n = v) :
    (s.setBayR n x).Faulted n cause v :=
  ⟨h.cause_eq, h.event, (n_setBayR_same n x).trans hx⟩

theorem State.Faulted.bayEnter {cause v : Nat} (h : s.Faulted n cause v) (ho : s.bay.offering = false) (st) :
    (s.bayEnter n st).Faulted n cause v where
  cause_eq := (r_bayEnter ho _ _ _ _ (by decide)).trans h.cause_eq
  event := (r_bayEnter ho _ _ _ _ (by decide)).trans h.event
  count := (congrArg BayRec.n (bayR_bayEnter ho ..)).trans h.count

theorem State.Faulted.latchedEvent {cause v : Nat} (h : s.Faulted n cause v) :
    (s.ev mdId (.bay .EVENTS_latched)).Faulted n cause v where
  cause_eq := by rw [r_ev, if_neg (by simp), h.cause_eq]
  event := by rw [r_ev, if_neg (by simp), h.event]
  count := (congrArg BayRec.n (bayR_congr (ev_bay ..) n)).trans h.count

theorem latchedEvent_offering (x : BayRec) :
    ((s.setBayR n x).ev mdId (.bay .EVENTS_latched)).bay.offering = s.bay.offering :=
  (congrArg BayState.offering (ev_bay ..)).trans (setBayR_offering ..)

theorem State.Faulted.bayLatch {cause v : Nat} (h : s.Faulted n cause v) (ho : s.bay.offering = false) :
    (s.bayLatch n).Faulted n cause v :=
  (h.setBayR (x := { s.bayR n with latched := true, timer := none }) h.count).latchedEvent.bayEnter
    ((latchedEvent_offering _).trans ho) 9

theorem baySt_bayLatch (ho : s.bay.offering = false) (n) : (s.bayLatch n).baySt n = 9 :=
  baySt_bayEnter ((latchedEvent_offering _).trans ho) (by decide) n

theorem State.Faulted.backoff {cause v : Nat} (h : s.Faulted n cause v) (ho : s.bay.offering = false) (timer : Option Nat) :
    ((s.setBayR n { s.bayR n with timer }).bayEnter n 8).Faulted n cause v :=
  (h.setBayR (x := { s.bayR n with timer }) h.count).bayEnter ho 8

/-- A counted fault of a bay that is powered up, while no gates are offered. -/
theorem bayFault_counts {cause : Nat} (hl : s.bayLive n = true) (ho : s.bay.offering = false) (hc : cause < 16) :
    (s.bayFault n cause).Faulted n cause ((s.bayR n).n + 1) ∧ (s.bayFault n cause).baySt n =
      if s.r mdId (.bay .CFG_RETRY_retries_max) < (s.bayR n).n + 1 then 9 else 8 := by
  rw [bayFault_of_live hl]
  extract_lets u
  have hu : u.Faulted n cause ((s.bayR n).n + 1) := faulted_bayCounted hc n
  have huo : u.bay.offering = false := (bayCounted_offering n cause).trans ho
  clear_value u
  split
  · exact ⟨hu.bayLatch huo, baySt_bayLatch huo n⟩
  · generalize some _ = timer
    exact ⟨hu.backoff huo timer, baySt_bayEnter (s := u.setBayR n { u.bayR n with timer }) huo (by decide) n⟩

theorem bayFault_now (n cause) : (s.bayFault n cause).now = s.now := (good_bayFault .self _ _ (Cover.refl _)).now_eq rfl

/-! ### Limit (R488) -/

/-- A bay that the part has, while its channels run. -/
theorem onBay_of_runs {f : State → State} (hr : s.bayRuns = true) (hn : n < 8 * s.channels) : onBay n s f = .next (f s) := by
  simp [onBay, hr, hn]

theorem exec_bayLimitEntry {bay : Fin 48} (hr : s.bayRuns = true) (hn : bay.val < 8 * s.channels) (h : s.baySt bay.val = 5) :
    exec (.bayLimitEntry bay) s =
      .next ((s.setBayR bay.val { s.bayR bay.val with limitAt := s.now }).bayEnter bay.val 6) := by
  show execBayLimitEntry bay s = _
  rw [execBayLimitEntry, onBay_of_runs hr hn]
  exact congrArg _ (if_pos h)

theorem exec_bayLimitExit {bay : Fin 48} (hr : s.bayRuns = true) (hn : bay.val < 8 * s.channels) (h : s.baySt bay.val = 6) :
    exec (.bayLimitExit bay) s = .next (s.bayEnter bay.val 5) := by
  show execBayLimitExit bay s = _
  rw [execBayLimitExit, onBay_of_runs hr hn]
  exact congrArg _ (if_pos h)

/-- The stay in Limit has lasted limit_ms, and is counted as a timeout. -/
def State.limitOver (s : State) (n : Nat) : State :=
  (s.advance ((s.bayR n).limitAt + 1000000 * s.r mdId (.bay .CFG_LIMIT_limit_ms))).bayBump n 4

theorem exec_bayLimitTimeout {bay : Fin 48} (hr : s.bayRuns = true) (hn : bay.val < 8 * s.channels) (h : s.baySt bay.val = 6) :
    exec (.bayLimitTimeout bay) s = .next ((s.limitOver bay.val).bayFault bay.val 1) := by
  show execBayLimitTimeout bay s = _
  rw [execBayLimitTimeout, onBay_of_runs hr hn]
  exact congrArg _ (if_pos h)

theorem limitOver_now (n) :
    (s.limitOver n).now = max s.now ((s.bayR n).limitAt + 1000000 * s.r mdId (.bay .CFG_LIMIT_limit_ms)) := by
  unfold State.limitOver State.bayBump
  rw [bump_now, advance_now]

@[simp] theorem limitOver_bay (n) : (s.limitOver n).bay = s.bay := by
  unfold State.limitOver State.bayBump
  rw [bump_bay, advance_bay]

theorem r_limitOver (n) (f : BayF) (i) (h : f ≠ .B_OVF_ovf ∧ f ≠ .EVENTS_counter_wrap) :
    (s.limitOver n).r mdId (.bay f) i = s.r mdId (.bay f) i := by
  unfold State.limitOver
  rw [r_bayBump _ _ _ _ h, r_advance _ _ _ _ (by simp [Fld.block])]

theorem bayLive_limitOver (h : s.baySt n = 6) : (s.limitOver n).bayLive n = true := by
  unfold State.bayLive State.baySt
  rw [r_limitOver _ _ _ (by decide)]
  unfold State.baySt at h
  rw [h]
  rfl

end Sys2Proof.Machine

open Sys2Proof Sys2Proof.Machine

/-- Settles O59: the entry notes the instant and the exit leaves On; when the stay has lasted limit_ms the bay is still in Limit,
which is powered up, so its fault counts and the retries decide between Backoff and Latched. -/
theorem limitRule : Obligations.LimitRule := by
  refine ⟨?_, ?_, ?_⟩
  · rintro bay s ⟨hr, hn, ho⟩ h
    refine ⟨_, exec_bayLimitEntry hr hn h, baySt_bayEnter ((setBayR_offering ..).trans ho) (by decide) _, ?_⟩
    rw [bayR_bayEnter ((setBayR_offering ..).trans ho), bayR_setBayR_same]
  · rintro bay s ⟨hr, hn, ho⟩ h
    exact ⟨_, exec_bayLimitExit hr hn h, baySt_bayEnter ho (by decide) _⟩
  · rintro bay s ⟨hr, hn, ho⟩ h
    have hb : (s.limitOver bay.val).bay = s.bay := limitOver_bay _
    obtain ⟨hf, hst⟩ := bayFault_counts (cause := 1) (bayLive_limitOver h) ((congrArg BayState.offering hb).trans ho) (by decide)
    rw [bayR_congr hb] at hf hst
    rw [r_limitOver _ _ _ (by decide)] at hst
    exact ⟨_, exec_bayLimitTimeout hr hn h, hf.cause_eq, hf.event, (bayFault_now ..).trans (limitOver_now _), hf.count, hst, rfl⟩

end

section
/-! PROOFS. The endpoint's commands and queues (spec/18 R513 to R519): what each of its operations leaves of the registers, of the
queues and of what has left the package. -/

namespace Sys2Proof.Machine

variable {M : Nat} {s t : State}

/-- The endpoint takes a command from Bring-up on. -/
theorem onEp_of_mode {k : State → State} (h : 3 ≤ s.modeNow) : onEp s k = .next (k s) := congrArg _ (if_pos h)

theorem rb_eq_false {d : Nat} {f : Fld} {i : Nat} (h : s.r d f i = 0) : s.rb d f i = false := by simp [State.rb, h]

theorem rb_eq_true {d : Nat} {f : Fld} {i : Nat} (h : s.r d f i = 1) : s.rb d f i = true := by simp [State.rb, h]

/-! ### The endpoint's registers -/

theorem Good.epField_eq (h : Good M s False t) (f : EpfF) (i) (hf : M.testBit 74 = false) :
    t.r 0 (.epf f) i = s.r 0 (.epf f) i := h.r_eq _ _ _ hf

@[simp] theorem r_setEp (e d f i) : (s.setEp e).r d f i = s.r d f i := rfl

@[simp] theorem setEp_ep (e) : (s.setEp e).ep = e := rfl

@[simp] theorem setEp_out (e) : (s.setEp e).out = s.out := rfl

@[simp] theorem epShow_ep (f) : (s.epShow f).ep = s.ep := rfl

@[simp] theorem epShow_out (f) : (s.epShow f).out = s.out := rfl

theorem r_epShow (f) (g : EpfF) (i) (h : g ≠ .F_STATE_in_flight ∧ g ≠ .F_STATE_io_queues) :
    (s.epShow f).r 0 (.epf g) i = s.r 0 (.epf g) i := by
  unfold State.epShow
  rw [r_w_ne _ _ _ _ _ _ _ (by simp [h.2.symm]), r_w_ne _ _ _ _ _ _ _ (by simp [h.1.symm])]

@[simp] theorem epfBump_ep (k n) : (s.epfBump k n).ep = s.ep := bump_ep ..

@[simp] theorem epfBump_now (k n) : (s.epfBump k n).now = s.now := bump_now ..

theorem r_epfWrapped (k j) (f : EpfF) (i) (h : f ≠ .CNT_OVF_ovf ∧ f ≠ .EVENTS_counter_wrap) :
    (s.wrapped 0 0x15 k j).r 0 (.epf f) i = s.r 0 (.epf f) i := by
  obtain ⟨ho, he⟩ := h
  unfold State.wrapped
  split
  · rfl
  · next hb =>
    cases hb
    extract_lets ei u
    have hu : u.r 0 (.epf f) i = s.r 0 (.epf f) i := r_w_ne _ _ _ _ _ _ _ (by simp [ho.symm])
    split
    · rw [r_ev, if_neg (by simp [he.symm]), hu]
    · exact hu

/-- A counter of the endpoint shows itself in no field but the sticky bits and the wrap event. -/
theorem r_epfBump (k n) (f : EpfF) (i) (h : f ≠ .CNT_OVF_ovf ∧ f ≠ .EVENTS_counter_wrap) :
    (s.epfBump k n).r 0 (.epf f) i = s.r 0 (.epf f) i := by
  unfold State.epfBump State.bump
  extract_lets v u w
  refine (r_pmcFeed _ _ _ _ _ _ (by simp [Fld.block])).trans ?_
  show (if v < 2 ^ 64 then u else u.wrapped 0 0x15 k 0).r 0 (.epf f) i = u.r 0 (.epf f) i
  split
  · rfl
  · exact r_epfWrapped _ _ _ _ h

theorem out_prefix_epfBump (k n) : s.out <+: (s.epfBump k n).out := out_prefix_bump ..

theorem fnRuns_epfBump (k n f) : (s.epfBump k n).fnRuns f = s.fnRuns f := by
  unfold State.fnRuns State.fnExists State.rb
  rw [epfBump_ep, r_epfBump _ _ _ _ (by decide), r_epfBump _ _ _ _ (by decide), r_epfBump _ _ _ _ (by decide),
    r_epfBump _ _ _ _ (by decide)]

/-! ### Queues -/

theorem epSq_congr (h : t.ep.sqs = s.ep.sqs) (f y) : t.epSq f y = s.epSq f y := by rw [State.epSq, State.epSq, h]

theorem epCq_congr (h : t.ep.cqs = s.ep.cqs) (f y) : t.epCq f y = s.epCq f y := by rw [State.epCq, State.epCq, h]

/-- A change of entries that a test does not see leaves which entry the test finds. -/
theorem find?_map_of_pred {α : Type} {l : List α} {p : α → Bool} {g : α → α} (h : ∀ x, p (g x) = p x) :
    (l.map g).find? p = (l.find? p).map g := by
  rw [List.find?_map, show p ∘ g = p from funext h]

/-- What an entry that is written leaves of its completion queue: all but the tail and the phase. -/
def EpQueue.shape (q : EpQueue) : EpQueue := { q with tail := 0, phase := true }

theorem shape_epCq (f y) :
    (s.epCq f y).map EpQueue.shape = (s.ep.cqs.map EpQueue.shape).find? (fun q => q.fn = f && q.qid = y) := by
  rw [State.epCq, find?_map_of_pred (g := EpQueue.shape) fun _ => rfl]

/-- A completion queue after an entry has been written to it. -/
def EpQueue.posted (q : EpQueue) : EpQueue :=
  let wrap := decide (q.tail + 1 = q.size)
  { q with tail := if wrap then 0 else q.tail + 1, phase := if wrap then !q.phase else q.phase }

theorem map_shape_posted (l : List EpQueue) (q : EpQueue) :
    (l.map (fun x => if x = q then q.posted else x)).map EpQueue.shape = l.map EpQueue.shape := by
  rw [List.map_map]
  refine List.map_congr_left fun x _ => ?_
  by_cases h : x = q
  · rw [Function.comp, if_pos h, h]; rfl
  · rw [Function.comp, if_neg h]

/-! ### What the endpoint keeps while it completes, forwards and fetches for commands -/

/-- The submission queues, the completion queues but for their tails, the tags held back, the next token, and the event of a
timeout. -/
structure EpSteady where
  sqs : List EpQueue
  cqs : List EpQueue
  heldTags : List (Nat × Nat)
  nextTok : Nat
  timedOut : Nat

def State.epSteady (s : State) : EpSteady :=
  ⟨s.ep.sqs, s.ep.cqs.map EpQueue.shape, s.ep.heldTags, s.ep.nextTok, s.r 0 (.epf .EVENTS_completion_timeout)⟩

theorem epSteady_congr (he : t.ep = s.ep)
    (hr : t.r 0 (.epf .EVENTS_completion_timeout) = s.r 0 (.epf .EVENTS_completion_timeout)) : t.epSteady = s.epSteady := by
  rw [State.epSteady, State.epSteady, he, hr]

theorem Good.epSteady_eq (h : Good M s False t) (he : M.testBit 26 = false) (hf : M.testBit 74 = false) :
    t.epSteady = s.epSteady :=
  epSteady_congr (h.kept .ep he) (h.epField_eq _ _ hf)

theorem epSteady_foldS {α : Type} {g : State → α → State} (h : ∀ x a, (g x a).epSteady = x.epSteady) (l : List α) :
    (foldS g s l).epSteady = s.epSteady :=
  foldS_keeps (v := State.epSteady) h l

theorem epSteady_ite {c : Prop} [Decidable c] {a b : State} (ha : a.epSteady = s.epSteady) (hb : b.epSteady = s.epSteady) :
    (if c then a else b).epSteady = s.epSteady := by
  split
  · exact ha
  · exact hb

@[simp] theorem epSteady_epfBump (k n) : (s.epfBump k n).epSteady = s.epSteady :=
  epSteady_congr (epfBump_ep ..) (r_epfBump _ _ _ _ (by decide))

@[simp] theorem epSteady_epShow (f) : (s.epShow f).epSteady = s.epSteady :=
  epSteady_congr rfl (r_epShow _ _ _ (by decide))

@[simp] theorem epSteady_landShow (d) : (s.landShow d).epSteady = s.epSteady :=
  epSteady_congr rfl (r_w_ne _ _ _ _ _ _ _ (by decide))

@[simp] theorem epSteady_emit (m) : (s.emit m).epSteady = s.epSteady := rfl

/-! ### A completion entry (R519) -/

/-- The state after an entry has been written to the completion queue q of a command, with the interrupts then due. -/
def State.epWritten (s : State) (c : EpCmd) (q : EpQueue) (sqHead : Nat) (due : List (Nat × Nat)) : State :=
  ((((s.setEp { s.ep with cqs := s.ep.cqs.map (fun x => if x = q then q.posted else x)
                          cmds := s.ep.cmds.filter (fun x => x.tok ≠ c.tok), msiDue := due }).emit
    (.epCompletion c.fn q.qid c.cap.cid c.status c.dw0 c.dw1 sqHead q.phase)).epfBump 6).epfBump 1).epShow c.fn

/-- A command is completed in one of three ways: without a completion queue not at all, with room by an entry, and else it
waits for room. -/
theorem epPost_cases (c : EpCmd) :
    s.epPost c = s ∨ (∃ q n due, s.epPost c = s.epWritten c q n due) ∨
      s.epPost c = s.setEp { s.ep with
        cmds := s.ep.cmds.map (fun (x : EpCmd) => if x.tok = c.tok then { c with st := 4 } else x) } := by
  unfold State.epPost
  extract_lets sq
  split
  · exact .inl rfl
  split
  · exact .inr (.inr rfl)
  · exact .inr (.inl ⟨_, _, _, rfl⟩)

theorem epPost_of_room {c : EpCmd} {sq q : EpQueue} (hs : s.epSq c.fn c.sq = some sq) (hq : s.epCq c.fn sq.cq = some q)
    (hr : (q.tail + 1) % q.size ≠ q.head) : ∃ due, s.epPost c = s.epWritten c q sq.head due := by
  unfold State.epPost
  simp only [hs, Option.getD_some, hq, if_neg hr]
  exact ⟨_, rfl⟩

theorem mem_out_epWritten (c : EpCmd) (q : EpQueue) (n due) :
    OutMsg.epCompletion c.fn q.qid c.cap.cid c.status c.dw0 c.dw1 n q.phase ∈ (s.epWritten c q n due).out :=
  ((out_prefix_epfBump 6 1).trans (out_prefix_epfBump 1 1)).subset
    (List.mem_append_right _ (List.mem_singleton.2 rfl))

@[simp] theorem cmds_epWritten (c : EpCmd) (q : EpQueue) (n due) :
    (s.epWritten c q n due).ep.cmds = s.ep.cmds.filter (fun x => x.tok ≠ c.tok) := by
  simp [State.epWritten]

theorem epSteady_epWritten (c : EpCmd) (q : EpQueue) (n due) : (s.epWritten c q n due).epSteady = s.epSteady := by
  unfold State.epWritten
  rw [epSteady_epShow, epSteady_epfBump, epSteady_epfBump, epSteady_emit]
  exact congrArg (EpSteady.mk _ · _ _ _) (map_shape_posted ..)

@[simp] theorem epSteady_epPost (c) : (s.epPost c).epSteady = s.epSteady := by
  rcases epPost_cases (s := s) c with h | ⟨q, n, due, h⟩ | h
  · rw [h]
  · rw [h, epSteady_epWritten]
  · rw [h]; rfl

@[simp] theorem epSteady_epLocal (c status dw0) : (s.epLocal c status dw0).epSteady = s.epSteady := by simp [State.epLocal]

/-- The endpoint's own completion of a command whose queue has room. -/
theorem mem_out_epLocal {c : EpCmd} {sq q : EpQueue} (hs : s.epSq c.fn c.sq = some sq) (hq : s.epCq c.fn sq.cq = some q)
    (hr : (q.tail + 1) % q.size ≠ q.head) (status dw0) :
    OutMsg.epCompletion c.fn q.qid c.cap.cid status dw0 c.dw1 sq.head q.phase ∈ (s.epLocal c status dw0).out := by
  obtain ⟨due, h⟩ := epPost_of_room (s := s.epfBump 4) (c := { c with status := status, dw0 := dw0 })
    ((epSq_congr (by simp) _ _).trans hs) ((epCq_congr (by simp) _ _).trans hq) hr
  rw [State.epLocal, h]
  exact mem_out_epWritten ..

/-- What is found of a completion queue is settled by what the endpoint keeps. -/
theorem shape_epCq_congr (h : t.epSteady = s.epSteady) (f y) :
    (t.epCq f y).map EpQueue.shape = (s.epCq f y).map EpQueue.shape := by
  rw [shape_epCq, shape_epCq, show t.ep.cqs.map EpQueue.shape = s.ep.cqs.map EpQueue.shape from congrArg EpSteady.cqs h]

theorem epCq_none_congr (h : t.epSteady = s.epSteady) {f y} (hn : s.epCq f y = none) : t.epCq f y = none := by
  have := shape_epCq_congr h f y
  rwa [hn, Option.map_none, Option.map_eq_none_iff] at this

/-- A part of a completion queue that an entry leaves. -/
theorem epCq_map_congr (h : t.epSteady = s.epSteady) {α : Type} {p : EpQueue → α} (hp : ∀ q, p q.shape = p q) (f y) :
    (t.epCq f y).map p = (s.epCq f y).map p := by
  have := congrArg (Option.map p) (shape_epCq_congr h f y)
  simpa [Option.map_map, Function.comp_def, hp] using this

theorem epSq_steady (h : t.epSteady = s.epSteady) (f y) : t.epSq f y = s.epSq f y :=
  epSq_congr (congrArg EpSteady.sqs h) f y

/-- The only command of the endpoint is completed: it is gone, and its chain, where it has one, is Done. -/
theorem epFinish_of_only {c : EpCmd} {sq q : EpQueue} (hc : s.ep.cmds = [c]) (hs : s.epSq c.fn c.sq = some sq)
    (hq : s.epCq c.fn sq.cq = some q) (hr : (q.tail + 1) % q.size ≠ q.head) :
    ∃ due, (s.epWritten c q sq.head due).ep.cmds = [] ∧ (c.chain = none → s.epFinish c = s.epWritten c q sq.head due) ∧
      ∀ n, c.chain = some n → s.epFinish c = ((s.epWritten c q sq.head due).chainDone c.die n).epRetry := by
  obtain ⟨due, h⟩ := epPost_of_room hs hq hr
  have he : (s.epWritten c q sq.head due).ep.cmds = [] := by simp [hc]
  refine ⟨due, he, fun hn => ?_, fun n hn => ?_⟩ <;>
    simp only [State.epFinish, h, he, hn, List.any_nil, Bool.false_eq_true, if_false]

/-! ### A function stops (R527, R528) -/

/-- What channel dies hold of a function is not the endpoint's own. -/
theorem epDieStop_good (d f) : Good 0x14F000000000000100000070040 s False (s.epDieStop d f) :=
  good_epDieStop .self _ _ (Cover.refl _)

theorem ep_foldS_epDieStop (f) (l : List Nat) :
    (foldS (fun (s : State) c => (s.epDieStop (cdId c) f).landShow (cdId c)) s l).ep = s.ep := by
  refine foldS_keeps (v := State.ep) (fun x c => ?_) _
  exact (epDieStop_good (s := x) (cdId c) f).kept .ep rfl

/-- A function that stops is kept in the list of those stopped. -/
theorem stopped_epStop (f reset) : (s.epStop f reset).ep.stopped.contains f = true := by
  unfold State.epStop
  extract_lets e mine gone u v
  rw [epShow_ep, ep_foldS_epDieStop]
  show (v.ep.stopped).contains f = true
  simp only [v, ev_ep, epfBump_ep, u, setEp_ep]
  split
  · assumption
  · simp

@[simp] theorem epSteady_epStop (f reset) : (s.epStop f reset).epSteady = s.epSteady := by
  unfold State.epStop
  extract_lets e mine gone u v
  have hv : v.epSteady = u.epSteady := (epSteady_congr (ev_ep ..) (by rw [r_ev, if_neg (by simp)])).trans (epSteady_epfBump ..)
  rw [epSteady_epShow, epSteady_foldS fun x c => (epSteady_landShow _).trans ((epDieStop_good ..).epSteady_eq rfl rfl), hv]
  rfl

@[simp] theorem epCfs_ep (f) : (s.epCfs f).ep = s.ep := by simp [State.epCfs]

theorem r_epCfs (f) (g : EpfF) (i) (h : g ≠ .F_STATE_cfs ∧ g ≠ .EVENTS_cfs) :
    (s.epCfs f).r 0 (.epf g) i = s.r 0 (.epf g) i := by
  unfold State.epCfs
  rw [r_ev, if_neg (by simp [h.2.symm]), r_w_ne _ _ _ _ _ _ _ (by simp [h.1.symm])]

@[simp] theorem epSteady_epCfs (f) : (s.epCfs f).epSteady = s.epSteady :=
  epSteady_congr (epCfs_ep _) (r_epCfs _ _ _ (by decide))

theorem cfs_epCfs (f) : (s.epCfs f).r 0 (.epf .F_STATE_cfs) f = 1 ∧ (s.epCfs f).r 0 (.epf .EVENTS_cfs) = 1 := by
  unfold State.epCfs
  exact ⟨by rw [r_ev, if_neg (by simp), r_w_same]; exact one_mod_width _, (r_ev_same ..).trans (one_mod_width _)⟩

/-- A function's registers and queues after its reset. -/
theorem epClear_clears (f) :
    (s.epClear f).r 0 (.epf .F_STATE_cc_en) f = 0 ∧ (s.epClear f).r 0 (.epf .F_STATE_rdy) f = 0 ∧
      (s.epClear f).r 0 (.epf .F_STATE_shst) f = 0 ∧ ∀ y, (s.epClear f).epSq f y = none ∧ (s.epClear f).epCq f y = none := by
  unfold State.epClear
  refine ⟨?_, ?_, ?_, fun y => ⟨?_, ?_⟩⟩
  · simp [r_epShow, r_w_ne]
  · simp [r_epShow, r_w_ne]
  · simp [r_epShow]
  · simp +contextual [State.epSq]
  · simp +contextual [State.epCq]

end Sys2Proof.Machine
end

section
/-! PROOFS. The endpoint's functions and queues (spec/18 R512, R513, R516, R519, R527, R531): what each command on them leaves. -/

namespace Sys2Proof.Machine

variable {s : State} {fn : Fin 64}

/-! ### A function becomes ready (R512) -/

/-- The channel dies that learn of a ready function change nothing of the endpoint. -/
theorem epReady_tells {f a b : Nat} (h : alGet s.ep.aq f = some (a, b)) :
    (s.epReady f).ep = { s.ep with
      sqs := s.ep.sqs.filter (fun q => !(q.fn = f && q.qid = 0)) ++ [{ fn := f, qid := 0, size := a }]
      cqs := s.ep.cqs.filter (fun q => !(q.fn = f && q.qid = 0)) ++ [{ fn := f, qid := 0, size := b }] } ∧
    (s.epReady f).regs = (s.w 0 (.epf .F_STATE_rdy) 1 f).regs := by
  unfold State.epReady
  simp only [h]
  constructor
  · refine foldS_keeps (v := State.ep) (fun x c => ?_) _
    split <;> rfl
  · refine foldS_keeps (v := State.regs) (fun x c => ?_) _
    split <;> rfl

theorem r_epReady {f a b : Nat} (h : alGet s.ep.aq f = some (a, b)) (d g i) :
    (s.epReady f).r d g i = (s.w 0 (.epf .F_STATE_rdy) 1 f).r d g i := by
  rw [State.r, State.r, (epReady_tells h).2]

theorem find?_filter_not {α : Type} (l : List α) (p : α → Bool) : (l.filter (fun x => !p x)).find? p = none :=
  List.find?_eq_none.2 fun _ hx => by simpa using (List.mem_filter.1 hx).2

/-- The queue put in the place of those of its function and number is the one found. -/
theorem find?_replaced {l : List EpQueue} {q : EpQueue} {f y : Nat} (hf : q.fn = f) (hy : q.qid = y) :
    (l.filter (fun q => !(q.fn = f && q.qid = y)) ++ [q]).find? (fun q => q.fn = f && q.qid = y) = some q := by
  rw [List.find?_append, find?_filter_not _ (fun q : EpQueue => q.fn = f && q.qid = y)]
  simp [hf, hy]

theorem admin_queues_epReady {f a b : Nat} (h : alGet s.ep.aq f = some (a, b)) :
    ((s.epReady f).epSq f 0).map (fun q => q.size) = some a ∧ ((s.epReady f).epCq f 0).map (fun q => q.size) = some b := by
  rw [State.epSq, State.epCq, (epReady_tells h).1]
  exact ⟨congrArg (Option.map _) (find?_replaced (f := f) (y := 0) rfl rfl),
    congrArg (Option.map _) (find?_replaced (f := f) (y := 0) rfl rfl)⟩

/-- CC.EN, Memory Space Enable and Bus Master Enable as the host sets them. -/
def State.ccEnabled (s : State) (f : Nat) (b : Bool) : State :=
  ((s.w 0 (.epf .F_STATE_cc_en) 1 f).w 0 (.epf .F_STATE_mse) 1 f).wb 0 (.epf .F_STATE_bme) b f

theorem r_ccEnabled (f b) (g : EpfF) (i) (h : g ≠ .F_STATE_cc_en ∧ g ≠ .F_STATE_mse ∧ g ≠ .F_STATE_bme) :
    (s.ccEnabled f b).r 0 (.epf g) i = s.r 0 (.epf g) i := by
  obtain ⟨hc, hm, hb⟩ := h
  unfold State.ccEnabled State.wb
  rw [r_w_ne _ _ _ _ _ _ _ (by simp [hb.symm]), r_w_ne _ _ _ _ _ _ _ (by simp [hm.symm]), r_w_ne _ _ _ _ _ _ _ (by simp [hc.symm])]

theorem fnConfigured_ccEnabled (f b) : (s.ccEnabled f b).fnConfigured f = s.fnConfigured f := by
  rw [State.fnConfigured, State.fnConfigured, State.rb, State.rb, r_ccEnabled _ _ _ _ (by decide)]

theorem ccEnabled_sets (f b) : (s.ccEnabled f b).r 0 (.epf .F_STATE_cc_en) f = 1 ∧
    (s.ccEnabled f b).r 0 (.epf .F_STATE_bme) f = b.toNat := by
  unfold State.ccEnabled State.wb
  constructor
  · rw [r_w_ne _ _ _ _ _ _ _ (by decide), r_w_ne _ _ _ _ _ _ _ (by decide), r_w_same]
    exact one_mod_width _
  · rw [r_w_same]
    cases b
    · rfl
    · rfl

/-- The sizes of a function's admin queues are kept. -/
def State.keepAq (s : State) (f a b : Nat) : State := s.setEp { s.ep with aq := alPut s.ep.aq f (a, b) }

theorem aq_keepAq (f a b) : alGet (s.keepAq f a b).ep.aq f = some (a, b) := alGet_alPut_same ..

/-- What follows CC.EN: CFS where the fields of CC are not those of R512, else RDY once data is present. -/
def State.ccOutcome (s : State) (f : Nat) (bad : Prop) [Decidable bad] (a b : Nat) : State :=
  if bad then s.epCfs f
  else if (s.keepAq f a b).rb 0 (.epf .STATUS_data_presence) then (s.keepAq f a b).epReady f else s.keepAq f a b

section
variable {f a b : Nat} {bad : Prop} [Decidable bad]

theorem r_ccOutcome (g : EpfF) (i) (h : g ≠ .F_STATE_cfs ∧ g ≠ .EVENTS_cfs ∧ g ≠ .F_STATE_rdy) :
    (s.ccOutcome f bad a b).r 0 (.epf g) i = s.r 0 (.epf g) i := by
  obtain ⟨hc, he, hr⟩ := h
  unfold State.ccOutcome
  split
  · exact r_epCfs _ _ _ ⟨hc, he⟩
  split
  · exact (r_epReady (aq_keepAq ..) _ _ _).trans (r_w_ne (s := s.keepAq f a b) _ _ _ _ _ _ _ (by simp [hr.symm]))
  · rfl

theorem ccOutcome_of_bad (h : bad) :
    (s.ccOutcome f bad a b).r 0 (.epf .F_STATE_cfs) f = 1 ∧
      (s.ccOutcome f bad a b).r 0 (.epf .F_STATE_rdy) f = s.r 0 (.epf .F_STATE_rdy) f ∧
      (s.ccOutcome f bad a b).r 0 (.epf .EVENTS_cfs) = 1 := by
  rw [State.ccOutcome, if_pos h]
  exact ⟨(cfs_epCfs f).1, r_epCfs _ _ _ (by decide), (cfs_epCfs f).2⟩

theorem ccOutcome_of_presence (h : ¬bad) (hp : s.r 0 (.epf .STATUS_data_presence) = 1) :
    (s.ccOutcome f bad a b).r 0 (.epf .F_STATE_rdy) f = 1 ∧
      ((s.ccOutcome f bad a b).epSq f 0).map (fun q => q.size) = some a ∧
      ((s.ccOutcome f bad a b).epCq f 0).map (fun q => q.size) = some b := by
  have hv : (s.keepAq f a b).rb 0 (.epf .STATUS_data_presence) = true := rb_eq_true hp
  rw [State.ccOutcome, if_neg h, if_pos hv]
  exact ⟨(r_epReady (aq_keepAq ..) _ _ _).trans ((r_w_same ..).trans (one_mod_width _)), admin_queues_epReady (aq_keepAq ..)⟩

end

theorem exec_epCcEnable {i c m a : Nat} {sq cq : BitVec 10} {b : Bool} (hm : 3 ≤ s.modeNow) (hf : s.fnExists fn.val = true)
    (hc : s.r 0 (.epf .F_STATE_cc_en) fn.val = 0) (hs : s.r 0 (.epf .F_STATE_stopping) fn.val = 0)
    (hd : s.r 0 (.epf .F_STATE_dstate) fn.val = 0) :
    exec (.epCcEnable fn i c m a sq cq b) s = .next ((s.ccEnabled fn.val b).ccOutcome fn.val
      (i ≠ 6 ∨ c ≠ 4 ∨ m ≠ 0 ∨ a ≠ 0 ∨ !(s.ccEnabled fn.val b).fnConfigured fn.val)
      (sq.toNat + 1) (cq.toNat + 1)) := by
  show execEpCcEnable fn i c m a sq cq b s = _
  rw [execEpCcEnable, onEp_of_mode hm]
  exact congrArg _ (if_neg (by simp [hf, rb_eq_false hc, rb_eq_false hs, hd]))

/-! ### A function is disabled or shuts down (R527, R531) -/

theorem exec_epCcDisable (hm : 3 ≤ s.modeNow) (hf : s.fnExists fn.val = true) (hc : s.r 0 (.epf .F_STATE_cc_en) fn.val = 1) :
    exec (.epCcDisable fn) s = .next ((if s.ep.stopped.contains fn.val then s else s.epStop fn.val false).epClear fn.val) := by
  show execEpCcDisable fn s = _
  rw [execEpCcDisable, onEp_of_mode hm]
  exact congrArg _ (if_pos (by rw [hf, rb_eq_true hc]; rfl))

theorem exec_epShutdown {n : BitVec 2} (hm : 3 ≤ s.modeNow) (hf : s.fnExists fn.val = true)
    (hc : s.r 0 (.epf .F_STATE_cc_en) fn.val = 1) (hp : s.r 0 (.epf .F_STATE_stopping) fn.val = 0)
    (hs : s.r 0 (.epf .F_STATE_shst) fn.val = 0) (hn : n = 1 ∨ n = 2) :
    exec (.epShutdown fn n) s = .next (s.w 0 (.epf .F_STATE_shst) 1 fn.val) := by
  show execEpShutdown fn n s = _
  rw [execEpShutdown, onEp_of_mode hm]
  exact congrArg _ (if_pos (by simpa [hf, rb_eq_true hc, rb_eq_false hp, hs] using hn))

theorem exec_epShutdownComplete (hm : 3 ≤ s.modeNow) (hs : s.r 0 (.epf .F_STATE_shst) fn.val = 1)
    (hp : s.ep.stopped.contains fn.val = false) (hn : s.r 0 (.epf .F_STATE_in_flight) fn.val = 0) :
    exec (.epShutdownComplete fn) s = .next (s.w 0 (.epf .F_STATE_shst) 2 fn.val) := by
  show execEpShutdownComplete fn s = _
  rw [execEpShutdownComplete, onEp_of_mode hm]
  exact congrArg _ (if_pos ⟨hs, by rw [hp]; rfl, hn⟩)

/-! ### Doorbells (R516, R519) -/

/-- A doorbell's value is taken by the queue it names, if it lies inside. -/
def EpQueue.rung (f y n : Nat) (take : EpQueue → EpQueue) (x : EpQueue) : EpQueue :=
  if x.fn = f && x.qid = y && decide (n < x.size) then take x else x

/-- The queue found after a doorbell, where taking the value leaves whose queue it is. -/
theorem find?_rung {l : List EpQueue} {f y n : Nat} {take : EpQueue → EpQueue} {q : EpQueue}
    (ht : ∀ x, (take x).fn = x.fn ∧ (take x).qid = x.qid) (h : l.find? (fun q => q.fn = f && q.qid = y) = some q) :
    (l.map (EpQueue.rung f y n take)).find? (fun q => q.fn = f && q.qid = y) = some (if n < q.size then take q else q) := by
  have hq : q.fn = f ∧ q.qid = y := by simpa using List.find?_some h
  have hp (x : EpQueue) : (fun q : EpQueue => decide (q.fn = f) && decide (q.qid = y)) (x.rung f y n take) =
      (x.fn = f && x.qid = y) := by
    unfold EpQueue.rung
    split
    · simp [ht]
    · rfl
  rw [find?_map_of_pred hp, h, Option.map_some, EpQueue.rung]
  simp [hq]

/-- The state after a submission doorbell. -/
def State.sqRung (s : State) (f y n : Nat) : State :=
  (s.epfBump 0).setEp { (s.epfBump 0).ep with
    sqs := (s.epfBump 0).ep.sqs.map (EpQueue.rung f y n fun x => { x with tail := n }) }

/-- The state after a completion doorbell, before the entries that waited are written. -/
def State.cqRung (s : State) (f y n : Nat) : State :=
  (s.epfBump 0).setEp { (s.epfBump 0).ep with
    cqs := (s.epfBump 0).ep.cqs.map (EpQueue.rung f y n fun x => { x with head := n }) }

theorem epSq_sqRung {f y : Nat} {q : EpQueue} (h : s.epSq f y = some q) (n) :
    (s.sqRung f y n).epSq f y = some (if n < q.size then { q with tail := n } else q) := by
  rw [State.epSq, State.sqRung, setEp_ep, epfBump_ep]
  exact find?_rung (fun _ => ⟨rfl, rfl⟩) h

theorem epCq_cqRung {f y : Nat} {q : EpQueue} (h : s.epCq f y = some q) (n) :
    (s.cqRung f y n).epCq f y = some (if n < q.size then { q with head := n } else q) := by
  rw [State.epCq, State.cqRung, setEp_ep, epfBump_ep]
  exact find?_rung (fun _ => ⟨rfl, rfl⟩) h

theorem epSq_cqRung (f y n f' y') : (s.cqRung f y n).epSq f' y' = s.epSq f' y' :=
  epSq_congr (by rw [State.cqRung, setEp_ep, epfBump_ep]) _ _

theorem cqRung_cmds (f y n) : (s.cqRung f y n).ep.cmds = s.ep.cmds := by rw [State.cqRung, setEp_ep, epfBump_ep]

theorem exec_epSqDoorbell {y : Fin 64} {n : BitVec 16} (hm : 3 ≤ s.modeNow) (hr : s.fnRuns fn.val = true)
    (hd : s.r 0 (.epf .F_STATE_dstate) fn.val = 0) :
    exec (.epSqDoorbell fn y n) s = .next (s.sqRung fn.val y.val n.toNat) := by
  show execEpSqDoorbell fn y n s = _
  rw [execEpSqDoorbell, onEp_of_mode hm]
  exact congrArg _ (if_pos (by simp [fnRuns_epfBump, r_epfBump, hr, hd]))

/-- The commands whose entries wait for room in a completion queue. -/
def State.waitingOn (s : State) (f y : Nat) : List EpCmd :=
  s.ep.cmds.filter (fun c => c.fn = f && c.st = 4 && (s.epSq f c.sq).any (fun x => x.cq = y))

theorem waitingOn_of_only {f y : Nat} {c : EpCmd} {q : EpQueue} (hc : s.ep.cmds = [c]) (h4 : c.st = 4) (hf : c.fn = f)
    (hs : s.epSq f c.sq = some q) (hq : q.cq = y) : s.waitingOn f y = [c] := by
  simp [State.waitingOn, hc, hf, h4, hs, hq]

/-- The only command waits for room in the queue that is rung: it is finished. -/
theorem exec_epCqDoorbell_of_only {y : Fin 64} {n : BitVec 16} {c : EpCmd} {q : EpQueue} (hm : 3 ≤ s.modeNow)
    (hr : s.fnRuns fn.val = true) (hd : s.r 0 (.epf .F_STATE_dstate) fn.val = 0) (hc : s.ep.cmds = [c]) (h4 : c.st = 4)
    (hf : c.fn = fn.val) (hs : s.epSq fn.val c.sq = some q) (hq : q.cq = y.val) :
    exec (.epCqDoorbell fn y n) s = .next ((s.cqRung fn.val y.val n.toNat).epFinish c) := by
  have he : exec (.epCqDoorbell fn y n) s = execEpCqDoorbell fn y n s := rfl
  rw [he, execEpCqDoorbell, onEp_of_mode hm]
  refine congrArg _ ((if_pos (by simp [fnRuns_epfBump, r_epfBump, hr, hd])).trans ?_)
  change foldS _ (s.cqRung fn.val y.val n.toNat) ((s.cqRung fn.val y.val n.toNat).waitingOn fn.val y.val) = _
  rw [waitingOn_of_only ((cqRung_cmds ..).trans hc) h4 hf ((epSq_cqRung ..).trans hs) hq]
  exact if_pos h4

/-! ### Queue commands (R513) -/

/-- The command that an endpoint's queue command is about. -/
abbrev State.queueCmd (s : State) (fn : Fin 64) (cid : BitVec 16) (op : Nat) : Option EpCmd :=
  s.ep.cmds.find? (fun c => c.fn = fn.val && c.sq = 0 && c.st = 5 && c.cap.cid = cid.toNat && c.cap.opcode = op)

section
variable {cid : BitVec 16} {c : EpCmd} (hm : 3 ≤ s.modeNow)
include hm

theorem onEpAdmin_of_cmd {op : Nat} {f : EpCmd → State → State} (hc : s.queueCmd fn cid op = some c) :
    onEpAdmin fn cid op s f = .next (f c s) := by
  rw [onEpAdmin, onEp_of_mode hm]
  simp only [hc]

/-- The submission queue of an accepted command is added, and what channel dies learn of it is not the endpoint's own. -/
theorem exec_epCreateIoSq (hc : s.queueCmd fn cid 1 = some c) (h2 : c.cap.cdw11 % 2 = 1)
    (hy : 0 < c.cap.cdw10 % 65536 ∧ c.cap.cdw10 % 65536 ≤ 63) (hn : s.epSq fn.val (c.cap.cdw10 % 65536) = none)
    (hq : 0 < c.cap.cdw11 / 65536 ∧ c.cap.cdw11 / 65536 ≤ 63) (he : (s.epCq fn.val (c.cap.cdw11 / 65536)).isSome = true)
    (hz : 2 ≤ c.cap.cdw10 / 65536 + 1 ∧ c.cap.cdw10 / 65536 + 1 ≤ 1024) :
    ∃ u : State, u.ep.sqs = s.ep.sqs ++ [{ fn := fn.val, qid := c.cap.cdw10 % 65536, size := c.cap.cdw10 / 65536 + 1
                                           cq := c.cap.cdw11 / 65536 }] ∧
      exec (.epCreateIoSq fn cid) s = .next ((u.epShow fn.val).epLocal c stOk) := by
  show ∃ u : State, _ ∧ execEpCreateIoSq fn cid s = _
  rw [execEpCreateIoSq, onEpAdmin_of_cmd hm hc]
  extract_lets f y size cq host e v w
  rw [if_neg (by omega), if_neg (by simp only [f, y, hn, Option.isSome_none, Bool.false_eq_true, or_false]; omega),
    if_neg (by omega), if_neg (by simpa using Option.isSome_iff_ne_none.1 he), if_neg (by omega)]
  refine ⟨w, ?_, rfl⟩
  have hw : w.ep = v.ep := foldS_keeps (v := State.ep) (fun x i => by dsimp only; split <;> rfl) _
  rw [hw]
  rfl

theorem exec_epCreateIoCq (hc : s.queueCmd fn cid 5 = some c) (h2 : c.cap.cdw11 % 2 = 1)
    (hy : 0 < c.cap.cdw10 % 65536 ∧ c.cap.cdw10 % 65536 ≤ 63) (hn : s.epCq fn.val (c.cap.cdw10 % 65536) = none)
    (hv : c.cap.cdw11 / 65536 ≤ 63) (hz : 2 ≤ c.cap.cdw10 / 65536 + 1 ∧ c.cap.cdw10 / 65536 + 1 ≤ 1024) :
    exec (.epCreateIoCq fn cid) s = .next ((s.setEp { s.ep with cqs := s.ep.cqs ++
      [{ fn := fn.val, qid := c.cap.cdw10 % 65536, size := c.cap.cdw10 / 65536 + 1, cq := c.cap.cdw11 / 65536
         ien := c.cap.cdw11.testBit 1 }] }).epLocal c stOk) := by
  show execEpCreateIoCq fn cid s = _
  rw [execEpCreateIoCq, onEpAdmin_of_cmd hm hc]
  extract_lets f y size vec v
  rw [if_neg (by omega), if_neg (by simp only [f, y, hn, Option.isSome_none, Bool.false_eq_true, or_false]; omega),
    if_neg (by omega), if_neg (by omega)]

/-- The submission queue is taken off the list; what follows tells the channel dies and completes the command. -/
theorem exec_epDeleteIoSq (hc : s.queueCmd fn cid 0 = some c) (hy : c.cap.cdw10 % 65536 ≠ 0)
    (he : (s.epSq fn.val (c.cap.cdw10 % 65536)).isSome = true) :
    ∃ u : State, u.ep.sqs = s.ep.sqs.filter (fun q => !(q.fn = fn.val && q.qid = c.cap.cdw10 % 65536)) ∧
      exec (.epDeleteIoSq fn cid) s = .next ((u.epShow fn.val).epLocal c stOk) := by
  show ∃ u : State, _ ∧ execEpDeleteIoSq fn cid s = _
  rw [execEpDeleteIoSq, onEpAdmin_of_cmd hm hc]
  extract_lets f y v e w u
  rw [if_neg (by simpa using ⟨hy, Option.isSome_iff_ne_none.1 he⟩)]
  refine ⟨u, ?_, rfl⟩
  have hv : v.epSteady = s.epSteady := epSteady_foldS (fun _ _ => epSteady_epLocal ..) _
  have hu : u.ep = w.ep := foldS_keeps (v := State.ep) (fun x i => by
    dsimp only
    exact foldS_keeps (s := State.setCd _ _ _) (v := State.ep)
      (fun x n => (good_chainFailed .self _ _ (Cover.refl _)).kept .ep rfl) _) _
  rw [hu]
  exact congrArg (List.filter _) (congrArg EpSteady.sqs hv)

theorem exec_epDeleteIoCq (hc : s.queueCmd fn cid 4 = some c) (hy : c.cap.cdw10 % 65536 ≠ 0)
    (he : (s.epCq fn.val (c.cap.cdw10 % 65536)).isSome = true) :
    exec (.epDeleteIoCq fn cid) s = .next
      (if s.ep.sqs.any (fun q => q.fn = fn.val && q.qid ≠ 0 && q.cq = c.cap.cdw10 % 65536) then s.epLocal c 0x10C
       else (s.setEp { s.ep with
         cqs := s.ep.cqs.filter (fun q => !(q.fn = fn.val && q.qid = c.cap.cdw10 % 65536)) }).epLocal c stOk) := by
  show execEpDeleteIoCq fn cid s = _
  rw [execEpDeleteIoCq, onEpAdmin_of_cmd hm hc]
  exact congrArg _ (if_neg (by simpa using ⟨hy, Option.isSome_iff_ne_none.1 he⟩))

end

end Sys2Proof.Machine

open Sys2Proof Sys2Proof.Machine

/-- Settles O46: each command is read off what it leaves of the function's registers and of its queues; the completion entry
with which a queue command ends changes no submission queue, and of a completion queue only the tail and the phase. -/
theorem endpointQueues : Obligations.EndpointQueues := by
  refine ⟨?_, ?_, ?_, ?_, ?_, ?_, ?_, ?_, ?_, ?_⟩
  · rintro fn i c m a sq cq b s ⟨hm, hf⟩ ⟨hc, hs, hd⟩
    obtain ⟨hen, hbme⟩ := ccEnabled_sets (s := s) fn.val b
    refine ⟨_, exec_epCcEnable hm hf hc hs hd, (r_ccOutcome _ _ (by decide)).trans hen, (r_ccOutcome _ _ (by decide)).trans hbme,
      fun h1 h2 h3 h4 h5 h6 => ?_, fun h => ?_⟩
    · refine ccOutcome_of_presence ?_ ((r_ccEnabled _ _ _ _ (by decide)).trans h6)
      rw [fnConfigured_ccEnabled]
      simp [h1, h2, h3, h4, h5]
    · rw [← r_ccEnabled (s := s) fn.val b .F_STATE_rdy _ (by decide)]
      exact ccOutcome_of_bad (by tauto)
  · rintro fn s ⟨hm, hf⟩ hc
    refine ⟨_, exec_epCcDisable hm hf hc, ?_⟩
    obtain ⟨hen, hrdy, hshst, hq⟩ := epClear_clears (s := if s.ep.stopped.contains fn.val then s else _) fn.val
    exact ⟨hen, hrdy, hshst, hq 0⟩
  · rintro fn n s ⟨hm, hf⟩ ⟨hc, hp, hs, hn⟩
    exact ⟨_, exec_epShutdown hm hf hc hp hs hn, r_w_same ..⟩
  · rintro fn s ⟨hm, hs, hp, hn⟩
    exact ⟨_, exec_epShutdownComplete hm hs hp hn, r_w_same ..⟩
  · rintro fn y tail q s ⟨hm, hr, hd, hq⟩
    refine ⟨_, exec_epSqDoorbell hm hr hd, fun h => ?_, fun h => ?_⟩
    · rw [epSq_sqRung hq, if_pos h]
    · rw [epSq_sqRung hq, if_neg (by omega)]
  · rintro fn y hd c q x s ⟨hm, hr, hd0, hx⟩ ⟨hc, h4, hf, hch, hs, hq⟩ ⟨hlt, hroom⟩
    have hqu : (s.cqRung fn.val y.val hd.toNat).epCq fn.val y.val = some { x with head := hd.toNat } := by
      rw [epCq_cqRung hx, if_pos hlt]
    obtain ⟨due, hcm, hfin, -⟩ := epFinish_of_only (s := s.cqRung fn.val y.val hd.toNat) ((cqRung_cmds ..).trans hc)
      (by rw [epSq_cqRung, hf, hs]) (by rw [hf, hq, hqu]) hroom
    refine ⟨_, (exec_epCqDoorbell_of_only hm hr hd0 hc h4 hf hs hq).trans (congrArg _ (hfin hch)), hcm, ?_, ?_⟩
    · rw [epCq_map_congr (epSteady_epWritten ..) (fun _ => rfl), hqu]; rfl
    · rw [← hf]; exact mem_out_epWritten ..
  · rintro fn cid c y z cq s ⟨hm, hc⟩ ⟨rfl, rfl, rfl, h2⟩ ⟨hy, hy', hn, hq, hq', he, hz, hz'⟩
    obtain ⟨u, hu, ht⟩ := exec_epCreateIoSq hm hc h2 ⟨hy, hy'⟩ hn ⟨hq, hq'⟩ he ⟨hz, hz'⟩
    refine ⟨_, ht, ?_⟩
    rw [epSq_steady (epSteady_epLocal ..), epSq_steady (epSteady_epShow ..), State.epSq, hu, List.find?_append]
    rw [State.epSq] at hn
    simp [hn]
  · rintro fn cid c y z v s ⟨hm, hc⟩ ⟨rfl, rfl, rfl, h2⟩ ⟨hy, hy', hn, hv, hz, hz'⟩
    refine ⟨_, exec_epCreateIoCq hm hc h2 ⟨hy, hy'⟩ hn hv ⟨hz, hz'⟩, ?_⟩
    rw [epCq_map_congr (epSteady_epLocal ..) (fun _ => rfl), State.epCq, setEp_ep, List.find?_append]
    rw [State.epCq] at hn
    simp [hn]
  · rintro fn cid c y s ⟨hm, hc, rfl, hy, he⟩
    obtain ⟨u, hu, ht⟩ := exec_epDeleteIoSq hm hc hy he
    refine ⟨_, ht, ?_⟩
    rw [epSq_steady (epSteady_epLocal ..), epSq_steady (epSteady_epShow ..), State.epSq, hu]
    exact find?_filter_not _ _
  · rintro fn cid c y s ⟨hm, hc, rfl, hy, he⟩
    refine ⟨_, exec_epDeleteIoCq hm hc hy he, fun h => ?_, fun h => ?_⟩
    · rw [h, if_neg Bool.false_ne_true]
      exact epCq_none_congr (epSteady_epLocal ..) (find?_filter_not _ _)
    · rw [h, if_pos rfl, ← Option.isSome_map, shape_epCq_congr (epSteady_epLocal ..), Option.isSome_map]
      exact he

end

section
/-! PROOFS. What becomes of the endpoint's commands (spec/18 R516 to R519, R522): what taking an entry, forwarding, finishing and
failing a command leave. -/

namespace Sys2Proof.Machine

variable {s : State}

/-! ### Forwarding (R517, R518) -/

/-- A channel die's command engine admits a command without a change to the endpoint. -/
theorem admitCommand_good (d conn c stamp quality msn) :
    Good 0x14F000000000000100000070040 s False (s.admitCommand d conn c stamp quality msn) :=
  good_admitCommand .self _ _ _ _ _ _ (Cover.refl _)

/-- The message number that follows the last one of a connection. -/
def State.nextMsn (s : State) (conn : Nat) : Nat := ((alGet s.ep.msns conn).getD 0 + 1) % 2 ^ 24

theorem ep_epForward (c : EpCmd) : (s.epForward c).ep = { s.ep with
    msns := alPut s.ep.msns (epConn c.die c.fn c.sq) (s.nextMsn (epConn c.die c.fn c.sq))
    cmds := s.ep.cmds.map (fun (x : EpCmd) => if x.tok = c.tok then { x with st := 2 } else x)
    land := s.ep.land.map (fun (l : EpLand) =>
      if l.die = c.die && l.conn = epConn c.die c.fn c.sq && l.cid = c.cap.cid then { l with fwd := true } else l) } :=
  ((admitCommand_good ..).kept .ep rfl).trans (epfBump_ep ..)

@[simp] theorem epSteady_epForward (c) : (s.epForward c).epSteady = s.epSteady :=
  ((admitCommand_good ..).epSteady_eq rfl rfl).trans ((epSteady_epfBump ..).trans rfl)

@[simp] theorem epSteady_epAdvance (f y d) : (s.epAdvance f y d).epSteady = s.epSteady :=
  epSteady_foldS (fun _ _ => epSteady_epForward _) _

/-- The only command, free to go, is forwarded. -/
theorem epAdvance_of_only {c : EpCmd} (hc : s.ep.cmds = [c]) (h1 : c.st = 1) : s.epAdvance c.fn c.sq c.die = s.epForward c := by
  simp [State.epAdvance, hc, h1, foldS]

/-- The endpoint with other commands. -/
def State.withCmds (s : State) (l : List EpCmd) : State := s.setEp { s.ep with cmds := l }

/-- The only command takes another form under its token. -/
theorem withCmds_replaced {c c' : EpCmd} (hc : s.ep.cmds = [c]) :
    s.withCmds (s.ep.cmds.map (fun (x : EpCmd) => if x.tok = c.tok then c' else x)) = s.withCmds [c'] := by
  simp [hc]

/-- The only command, its data in the landing area. -/
def EpCmd.landed (c : EpCmd) (b : List Block) (i : List Nat) : EpCmd :=
  { c with st := 1, cap := { c.cap with data := b, info := i } }

/-! ### Landing pages (R517) -/

theorem ep_landSweep : s.landSweep.ep = { s.ep with land := s.ep.land.filter (fun l => !s.landOver l) } :=
  foldS_keeps (v := State.ep) (g := fun (s : State) c => s.landShow (cdId c)) (fun _ _ => rfl) _

@[simp] theorem epSteady_landSweep : s.landSweep.epSteady = s.epSteady :=
  (epSteady_foldS (g := fun (s : State) c => s.landShow (cdId c)) (fun _ _ => epSteady_landShow _) _).trans rfl

@[simp] theorem epSteady_epFetchData (c) : (s.epFetchData c).epSteady = s.epSteady := by
  unfold State.epFetchData
  extract_lets set used
  split
  · rfl
  · refine epSteady_ite rfl ?_
    rw [epSteady_emit, epSteady_epfBump, epSteady_landShow]
    rfl

@[simp] theorem epSteady_epRetry : s.epRetry.epSteady = s.epSteady :=
  (epSteady_foldS (fun _ _ => epSteady_epFetchData _) _).trans epSteady_landSweep

/-- With no command that waits for pages, a retry only sweeps the pages. -/
theorem epRetry_of_none (h : s.ep.cmds.filter (fun c => c.st = 3) = []) : s.epRetry = s.landSweep := by
  show foldS _ s.landSweep (s.landSweep.ep.cmds.filter (fun c => c.st = 3)) = _
  rw [ep_landSweep, h]
  rfl

@[simp] theorem epSteady_epDataFailed (r) : (s.epDataFailed r).epSteady = s.epSteady := by
  unfold State.epDataFailed
  split
  · rfl
  · rw [epSteady_epRetry, epSteady_epAdvance, epSteady_epLocal, epSteady_landShow]
    rfl

/-- The state after the only command, its data landed, has been forwarded. -/
theorem forwarded_landed (c : EpCmd) (b i) :
    ((s.withCmds [c.landed b i]).epForward (c.landed b i)).epRetry.ep.cmds =
        [{ c with st := 2, cap := { c.cap with data := b, info := i } }] ∧
      ((s.withCmds [c.landed b i]).epForward (c.landed b i)).epRetry.ep.reqs = s.ep.reqs ∧
      alGet ((s.withCmds [c.landed b i]).epForward (c.landed b i)).epRetry.ep.msns (epConn c.die c.fn c.sq) =
        some (s.nextMsn (epConn c.die c.fn c.sq)) := by
  have hcm : ((s.withCmds [c.landed b i]).epForward (c.landed b i)).ep.cmds = [{ c.landed b i with st := 2 }] := by
    rw [ep_epForward]
    simp [State.withCmds]
  rw [epRetry_of_none (by rw [hcm]; rfl), ep_landSweep]
  refine ⟨hcm, by rw [ep_epForward]; rfl, ?_⟩
  rw [ep_epForward]
  exact alGet_alPut_same ..

/-! ### Entries (R513, R516, R520) -/

@[simp] theorem epSteady_epAdmin (c) : (s.epAdmin c).epSteady = s.epSteady := by
  unfold State.epAdmin
  extract_lets op put caught
  clear_value caught
  refine epSteady_ite (epSteady_epLocal ..) (epSteady_ite rfl ?_)
  cases caught with
  | some x =>
    dsimp only
    rw [epSteady_epLocal, epSteady_epAdvance, epSteady_epLocal, epSteady_landShow]
    rfl
  | none =>
    dsimp only
    split
    · exact epSteady_epLocal ..
    · rw [epSteady_epForward]
      rfl

@[simp] theorem epSteady_epIo (c) : (s.epIo c).epSteady = s.epSteady := by
  unfold State.epIo
  extract_lets op host
  refine epSteady_ite (epSteady_epLocal ..) (epSteady_ite (epSteady_epLocal ..) ?_)
  split
  · exact epSteady_epLocal ..
  · refine epSteady_ite (epSteady_epLocal ..) (epSteady_ite (epSteady_epLocal ..) (epSteady_ite (epSteady_epLocal ..)
      (epSteady_ite ?_ ?_)))
    · rw [epSteady_epAdvance]
      rfl
    · rw [epSteady_epFetchData, epSteady_landSweep]
      rfl

theorem epIo_of_bad_opcode {c : EpCmd} (h : ioOpcodes.contains c.cap.opcode = false) : s.epIo c = s.epLocal c stBadOpcode := by
  unfold State.epIo
  exact if_pos (by rw [h]; rfl)

/-- An entry becomes a command of the next token. -/
def newCmd (s : State) (r : EpReq) (cap : Capsule) : EpCmd := { tok := s.ep.nextTok, fn := r.fn, sq := r.sq, cap := cap, st := 0 }

/-- The command joins those of its function, which shows it. -/
def State.withCmd (s : State) (c : EpCmd) : State :=
  (s.setEp { s.ep with nextTok := c.tok + 1, cmds := s.ep.cmds ++ [c] }).epShow c.fn

/-- An entry that a fetch returns is taken. -/
def State.takeEntry (r : EpReq) (s : State) (cap : Capsule) : State :=
  if r.sq = 0 then (s.withCmd (newCmd s r cap)).epAdmin (newCmd s r cap) else (s.withCmd (newCmd s r cap)).epIo (newCmd s r cap)

theorem nextTok_takeEntry (r : EpReq) (cap) : (s.takeEntry r cap).ep.nextTok = s.ep.nextTok + 1 := by
  have h : (s.takeEntry r cap).epSteady = (s.withCmd (newCmd s r cap)).epSteady :=
    epSteady_ite (epSteady_epAdmin _) (epSteady_epIo _)
  exact congrArg EpSteady.nextTok h

theorem takeEntry_of_bad_opcode {r : EpReq} {cap : Capsule} (hsq : r.sq ≠ 0) (h : ioOpcodes.contains cap.opcode = false) :
    s.takeEntry r cap = (s.withCmd (newCmd s r cap)).epLocal (newCmd s r cap) stBadOpcode := by
  rw [State.takeEntry, if_neg hsq]
  exact epIo_of_bad_opcode (c := newCmd s r cap) h

theorem epSq_withCmd (c f y) : (s.withCmd c).epSq f y = s.epSq f y := rfl

theorem epCq_withCmd (c f y) : (s.withCmd c).epCq f y = s.epCq f y := rfl

/-- An I/O entry of an opcode that is none is completed at once, where its completion queue has room. -/
theorem mem_out_takeEntry_of_bad_opcode {r : EpReq} {cap : Capsule} {sq q : EpQueue} (hsq : r.sq ≠ 0)
    (h : ioOpcodes.contains cap.opcode = false) (hs : s.epSq r.fn r.sq = some sq) (hq : s.epCq r.fn sq.cq = some q)
    (hr : (q.tail + 1) % q.size ≠ q.head) :
    OutMsg.epCompletion r.fn q.qid cap.cid stBadOpcode 0 0 sq.head q.phase ∈ (s.takeEntry r cap).out := by
  rw [takeEntry_of_bad_opcode hsq h]
  exact mem_out_epLocal (c := newCmd s r cap) ((epSq_withCmd ..).trans hs) ((epCq_withCmd ..).trans hq) hr stBadOpcode 0

theorem nextTok_entries (r : EpReq) (l : List Capsule) : (foldS (State.takeEntry r) s l).ep.nextTok = s.ep.nextTok + l.length := by
  induction l generalizing s with
  | nil => rfl
  | cons a l ih => rw [foldS, ih, nextTok_takeEntry, List.length_cons]; omega

/-! ### Requests (R516, R522, R523) -/

theorem tag_of_epReq {g : Nat} {r : EpReq} (h : s.epReq g = some r) : r.tag = g := by simpa using List.find?_some h

/-- A request whose completion is taken. -/
def State.endReq (s : State) (tag : Nat) : State := (s.dropReq tag).epfBump 0

@[simp] theorem endReq_ep (g) : (s.endReq g).ep = { s.ep with reqs := s.ep.reqs.filter (fun r => r.tag ≠ g) } := epfBump_ep ..

theorem epSq_endReq (g f y) : (s.endReq g).epSq f y = s.epSq f y := epSq_congr (by rw [endReq_ep]) _ _

theorem epCq_endReq (g f y) : (s.endReq g).epCq f y = s.epCq f y := epCq_congr (by rw [endReq_ep]) _ _

/-- A request times out at its value, and its tag is held back for 1 s. -/
def State.timedOut (s : State) (r : EpReq) (w : Nat) : State :=
  let u := (s.dropReq r.tag).advance (r.issued + w)
  let v := u.setEp { u.ep with heldTags := u.ep.heldTags.filter (fun h => h.1 ≠ r.tag) ++ [(r.tag, u.now + 1000000000)] }
  ((v.epfBump 10).ev 0 (.epf .EVENTS_completion_timeout)).emit (.epAer r.fn 0)

theorem timedOut_marks (r : EpReq) (w : Nat) :
    (s.timedOut r w).now = max s.now (r.issued + w) ∧
      (r.tag, (s.timedOut r w).now + 1000000000) ∈ (s.timedOut r w).ep.heldTags ∧
      (s.timedOut r w).r 0 (.epf .EVENTS_completion_timeout) = 1 := by
  unfold State.timedOut
  extract_lets u e v
  have hn : v.now = max s.now (r.issued + w) := advance_now ..
  refine ⟨?_, ?_, ?_⟩
  · rw [emit_now, ev_now, epfBump_now, hn]
  · rw [emit_now, ev_now, epfBump_now, emit_ep, ev_ep, epfBump_ep]
    exact List.mem_append_right _ (List.mem_singleton.2 rfl)
  · rw [r_emit, r_ev_same, one_mod_width]

/-- What a request that fails brings: a fetch stops its function with CFS, and a command without its data is aborted. -/
def State.requestFails (s : State) (r : EpReq) : State :=
  if r.fetch then (s.epStop r.fn false).epCfs r.fn else s.epDataFailed r

theorem requestFails_of_fetch {r : EpReq} (h : r.fetch = true) :
    (s.requestFails r).r 0 (.epf .F_STATE_cfs) r.fn = 1 ∧ (s.requestFails r).ep.stopped.contains r.fn = true := by
  rw [State.requestFails, if_pos h, epCfs_ep]
  exact ⟨(cfs_epCfs _).1, stopped_epStop ..⟩

theorem epSteady_requestFails (r) : (s.requestFails r).epSteady = s.epSteady :=
  epSteady_ite ((epSteady_epCfs _).trans (epSteady_epStop ..)) (epSteady_epDataFailed _)

theorem requestFails_now (r) : (s.requestFails r).now = s.now := by
  unfold State.requestFails
  split
  · exact (good_epCfs (good_epStop .self _ _ (Cover.refl _)) _ rfl).now_eq rfl
  · exact (good_epDataFailed .self _ (Cover.refl _)).now_eq rfl

/-! ### What a chain that is Done and a retry send (R224, R418, R519) -/

theorem out_prefix_ev (d f) : s.out <+: (s.ev d f).out := out_prefix_irqFor (s := s.w d f 1) ..

theorem out_prefix_sealTake (d) : s.out <+: (s.sealTake d).out := by
  unfold State.sealTake
  extract_lets n u
  split
  · exact List.prefix_rfl
  · exact out_prefix_ev (s := u.w d (.cip .GSLOT_STATE_exhausted) 1) ..

theorem out_prefix_sealRefuse (d) : s.out <+: (s.sealRefuse d).out := (out_prefix_ev ..).trans (out_prefix_ev ..)

theorem out_prefix_sendPartner (ty c b x) : s.out <+: (s.sendPartner ty c b x).out := by
  unfold State.sendPartner
  extract_lets clear p n u v
  split
  · exact List.prefix_rfl
  split
  · exact out_prefix_sealRefuse ..
  · have hv : u.out <+: v.out := by
      subst v
      split
      · exact List.prefix_rfl
      · exact (out_prefix_sealTake ..).trans (out_prefix_bump ..)
    exact hv.trans ((out_prefix_bump ..).trans (out_prefix_emit _))

theorem out_prefix_crumbShow (d) : s.out <+: (s.crumbShow d).out := by
  unfold State.crumbShow
  extract_lets x u v
  split
  · exact out_prefix_ev (s := v) ..
  · exact List.prefix_rfl

theorem out_prefix_writeCrumb (d c) : s.out <+: (s.writeCrumb d c).out := by
  unfold State.writeCrumb
  extract_lets seq c' m seeding x own u v w y
  have hw : s.out <+: w.out := out_prefix_bump (s := v) ..
  have hy : w.out <+: y.out := by
    subst y
    split
    · exact (out_prefix_bump ..).trans (out_prefix_sendPartner ..)
    · exact List.prefix_rfl
  exact (hw.trans hy).trans (out_prefix_crumbShow ..)

theorem out_prefix_retireCrumb (d seq) : s.out <+: (s.retireCrumb d seq).out := out_prefix_crumbShow (s := s.mapRing d _) ..

theorem out_prefix_crumbChainDone (d done seq) : s.out <+: (s.crumbChainDone d done seq).out := by
  unfold State.crumbChainDone
  split
  · exact List.prefix_rfl
  next r _ =>
    extract_lets u v
    have hu : s.out <+: u.out := by
      subst u
      split
      · exact out_prefix_writeCrumb ..
      · exact List.prefix_rfl
    split
    · exact hu.trans (out_prefix_retireCrumb (s := v) ..)
    · exact hu

theorem out_prefix_offer (d) : s.out <+: (s.offer d).out := by
  unfold State.offer
  extract_lets x mine want held flight room sum order
  split
  · exact List.prefix_rfl
  split
  next got last _ =>
    extract_lets u
    have hu : s.out <+: u.out := by
      subst u
      split
      · exact List.prefix_rfl
      · exact out_prefix_bump ..
    refine hu.trans (out_prefix_foldS (fun _ _ => ?_) _)
    exact List.prefix_rfl

theorem out_prefix_chainDone (d n) : s.out <+: (s.chainDone d n).out := by
  unfold State.chainDone
  extract_lets c u x v
  have hv : s.out <+: v.out := out_prefix_foldS (s := u) (fun _ _ => out_prefix_crumbChainDone ..) _
  split
  · exact List.prefix_rfl
  split
  · exact hv.trans (out_prefix_offer (s := v.freeSlot d n) ..)
  · exact hv

theorem chainDone_ep (d n) : (s.chainDone d n).ep = s.ep := (good_chainDone .self _ _ (Cover.refl _)).kept .ep rfl

theorem landSweep_out : s.landSweep.out = s.out :=
  foldS_keeps (v := State.out) (g := fun (s : State) c => s.landShow (cdId c)) (fun _ _ => rfl) _

/-- The only command, answered by its chain and with room in its completion queue, is completed and gone. -/
theorem epFinish_answered {c : EpCmd} {sq q : EpQueue} {n : Nat} (hn : c.chain = some n) (hc : s.ep.cmds = [c])
    (hs : s.epSq c.fn c.sq = some sq) (hq : s.epCq c.fn sq.cq = some q) (hr : (q.tail + 1) % q.size ≠ q.head) :
    OutMsg.epCompletion c.fn q.qid c.cap.cid c.status c.dw0 c.dw1 sq.head q.phase ∈ (s.epFinish c).out ∧
      (s.epFinish c).ep.cmds = [] := by
  obtain ⟨due, hcm, -, hf⟩ := epFinish_of_only hc hs hq hr
  have hd : ((s.epWritten c q sq.head due).chainDone c.die n).ep.cmds = [] := by rw [chainDone_ep, hcm]
  rw [hf n hn, epRetry_of_none (by rw [hd]; rfl), landSweep_out, ep_landSweep]
  exact ⟨(out_prefix_chainDone ..).subset (mem_out_epWritten ..), hd⟩

end Sys2Proof.Machine
end

section
/-! PROOFS. The endpoint's entries, data and completions (spec/18 R514 to R523, R528, R534): what each command on them leaves. -/

namespace Sys2Proof.Machine

variable {s : State}

/-! ### Fetches, data and their completions (R516, R517, R522, R523) -/

section
variable {g : BitVec 14} {r : EpReq} (hm : 3 ≤ s.modeNow) (hr : s.epReq g.toNat = some r)
include hm hr

theorem exec_epSqFetchComplete {l : List Capsule} (hf : r.fetch = true) (hs : r.stale = false) (hl : l.length = r.n) :
    exec (.epSqFetchComplete g l) s = .next (foldS (State.takeEntry r) (s.endReq g.toNat) l) := by
  have he : exec (.epSqFetchComplete g l) s = execEpSqFetchComplete g l s := rfl
  rw [he, execEpSqFetchComplete, onEp_of_mode hm, ← tag_of_epReq hr]
  simp only [tag_of_epReq hr, hr]
  exact congrArg _ (if_neg (by simp [hf, hs, hl]))

/-- The data of the only command is in the landing area: it is forwarded. -/
theorem exec_epDataFetchComplete_of_only {b : List Block} {i : List Nat} {c : EpCmd} (hf : r.fetch = false) (hs : r.stale = false)
    (hc : s.ep.cmds = [c]) (ht : c.tok = r.tok) :
    exec (.epDataFetchComplete g b i) s = .next
      (((s.endReq g.toNat).withCmds [c.landed b i]).epForward (c.landed b i)).epRetry := by
  have he : exec (.epDataFetchComplete g b i) s = execEpDataFetchComplete g b i s := rfl
  rw [he, execEpDataFetchComplete, onEp_of_mode hm]
  simp -zeta only [hr]
  refine congrArg _ ((if_neg (by simp [hf, hs])).trans ?_)
  extract_lets u
  have hu : u = s.endReq g.toNat := by rw [← tag_of_epReq hr]; rfl
  clear_value u
  subst hu
  have hcu : (s.endReq g.toNat).ep.cmds = [c] := (congrArg EpState.cmds (endReq_ep _)).trans hc
  have hfind : (s.endReq g.toNat).ep.cmds.find? (fun c => c.tok = r.tok) = some c := by
    rw [hcu]
    simp [ht]
  simp -zeta only [hfind]
  refine congrArg State.epRetry (?_ : ((s.endReq g.toNat).withCmds _).epAdvance c.fn c.sq c.die = _)
  exact (congrArg (State.epAdvance · c.fn c.sq c.die) (withCmds_replaced hcu)).trans
    (epAdvance_of_only (c := c.landed b i) rfl rfl)

theorem exec_epCompletionTimeout {e : BitVec 4} {w : Nat} (hw : ctoNs e.toNat = some w) (hn : r.resetAt = none)
    (hs : r.stale = false) :
    exec (.epCompletionTimeout g e false) s = .next ((s.timedOut r w).requestFails r) := by
  have he : exec (.epCompletionTimeout g e false) s = execEpCompletionTimeout g e false s := rfl
  rw [he, execEpCompletionTimeout, onEp_of_mode hm]
  simp -zeta only [hr, hw, hn]
  exact congrArg _ (if_neg (by simp [hs]))

/-- The completion of a stale request, or a bad one. -/
theorem exec_epCompletionReceived_of_ended {b : Bool} (hb : b = true ∨ r.stale = true) :
    exec (.epCompletionReceived g b) s = .next
      (if r.stale then ((s.epfBump 0).dropReq r.tag).epfBump 9 else ((s.epfBump 0).dropReq r.tag).requestFails r) := by
  have he : exec (.epCompletionReceived g b) s = execEpCompletionReceived g b s := rfl
  rw [he, execEpCompletionReceived, onEp_of_mode hm]
  simp -zeta only [hr]
  refine congrArg _ ?_
  by_cases hs : r.stale = true
  · rw [if_pos hs, if_pos hs]
  · rw [if_neg hs, if_neg hs, if_neg (by simp [hb.resolve_right hs])]
    rfl

end

/-- A completion of a tag that no request has: it is logged and counted, and touches nothing of the endpoint. -/
theorem exec_epCompletionReceived_of_none {g : BitVec 14} {b : Bool} (hm : 3 ≤ s.modeNow) (hr : s.epReq g.toNat = none) :
    ∃ u : State, u.ep = s.ep ∧ exec (.epCompletionReceived g b) s = .next
      (if s.ep.heldTags.any (fun h => h.1 = g.toNat && decide (s.now < h.2)) then
        (u.epfBump 11).ev 0 (.epf .EVENTS_late_completion) else (u.epfBump 12).ev 0 (.epf .EVENTS_unexpected_completion)) := by
  have he : exec (.epCompletionReceived g b) s = execEpCompletionReceived g b s := rfl
  rw [he, execEpCompletionReceived, onEp_of_mode hm]
  simp -zeta only [hr]
  extract_lets u v
  have hv : v.ep = s.ep := epfBump_ep ..
  have hn : v.now = s.now := epfBump_now ..
  exact ⟨v, hv, by rw [hv, hn]⟩

/-! ### Finishing a command of a chain (R519) -/

/-- The oldest work request at port 11 is taken. -/
def State.takeWork (s : State) (rest : List (Nat × Nat × Bool)) : State := s.setEp { s.ep with port11 := rest }

/-- A command with what its slot answers, by the chain that brings it. -/
def EpCmd.answered (c : EpCmd) (z : CmdSlot) (n : Nat) : EpCmd :=
  { c with status := z.status.getD 0, dw0 := z.dw0, dw1 := z.dw1, chain := some n }

theorem exec_epChainWorkRequest_of_only {o l : Bool} {d n : Nat} {rest : List (Nat × Nat × Bool)} {c : EpCmd}
    (hm : 3 ≤ s.modeNow) (hp : s.ep.port11 = (d, n, l) :: rest) (hc : s.ep.cmds = [c]) (hd : c.die = d) (h2 : c.st = 2)
    (hconn : epConn d c.fn c.sq = (s.slot d n).conn) (hcid : c.cap.cid = (s.slot d n).cap.cid) :
    exec (.epChainWorkRequest o) s = .next
      (if l then ((s.takeWork rest).withCmds [c.answered (s.slot d n) n]).epFinish (c.answered (s.slot d n) n)
       else ((s.takeWork rest).epfBump 1).emit (.epData c.fn c.cap.cid n o)) := by
  have he : exec (.epChainWorkRequest o) s = execEpChainWorkRequest o s := rfl
  rw [he, execEpChainWorkRequest, onEp_of_mode hm]
  simp -zeta only [hp]
  extract_lets e u z
  have hfind : u.ep.cmds.find? (fun c => c.die = d && c.st = 2 && epConn d c.fn c.sq = z.conn && c.cap.cid = z.cap.cid) =
      some c := by
    show s.ep.cmds.find? _ = _
    rw [hc]
    have hz : z = s.slot d n := rfl
    simp [hd, h2, hz, hconn, hcid]
  simp -zeta only [hfind]
  exact congrArg _ (if_congr Iff.rfl (congrArg (State.epFinish · (c.answered (s.slot d n) n))
    (withCmds_replaced (s := s.takeWork rest) (c := c) hc)) rfl)

/-! ### The fetch turn (R516) -/

theorem mem_rotateAfter {l : List Nat} {n a : Nat} : a ∈ rotateAfter l n ↔ a ∈ l := by
  simp only [rotateAfter, List.mem_append, List.mem_filter, decide_eq_true_eq]
  have := Nat.lt_or_ge n a
  tauto

/-- The only entry that a test accepts is the one found. -/
theorem find?_of_unique {α : Type} {l : List α} {p : α → Bool} {a : α} (ha : a ∈ l) (hp : p a = true)
    (hu : ∀ x, p x = true → x = a) : l.find? p = some a := by
  obtain ⟨x, hx⟩ := Option.isSome_iff_exists.1 (List.find?_isSome.2 ⟨a, ha, hp⟩)
  rw [hx, hu x (List.find?_some hx)]

/-- Among the numbers below a bound, a test that one alone passes leaves that one. -/
theorem filter_range_of_unique {n a : Nat} {p : Nat → Bool} (ha : a < n) (hp : ∀ x, p x = decide (x = a)) :
    (List.range n).filter p = [a] := by
  rw [funext hp, List.filter_eq, List.count_eq_one_of_mem List.nodup_range (List.mem_range.2 ha), List.replicate_one]

theorem head?_rotateAfter_singleton (a n : Nat) : (rotateAfter [a] n).head? = some a := by
  by_cases h : n < a
  · simp [rotateAfter, h]
  · simp [rotateAfter, h, Nat.le_of_not_lt h]

/-- The state after n entries of a queue have been fetched under a tag. -/
def State.fetches (s : State) (q : EpQueue) (g n : Nat) : State :=
  ((((s.setEp { s.ep with
    lastFn := q.fn, lastSq := alPut s.ep.lastSq q.fn q.qid
    sqs := s.ep.sqs.map (fun (x : EpQueue) => if x = q then { x with head := (x.head + n) % x.size } else x)
    reqs := s.ep.reqs ++ [{ tag := g, fn := q.fn, fetch := true, sq := q.qid, n := n, issued := s.now }] }).epfBump 2).epfBump
      1).emit (.epRead g q.fn true n)).epShow q.fn

/-- The only queue, its function free to fetch and nothing in flight, is the one whose turn it is. -/
theorem exec_epFetchTurn_of_only {q : EpQueue} {g : Nat} (hm : 3 ≤ s.modeNow) (hr : s.fnRuns q.fn = true)
    (hconf : s.fnConfigured q.fn = true) (hd : s.r 0 (.epf .F_STATE_dstate) q.fn = 0) (hb : s.r 0 (.epf .F_STATE_bme) q.fn = 1)
    (hq : s.ep.sqs = [q]) (hf : q.fn < 64) (hy : q.qid < 64) (ht : q.head < q.tail) (hg : s.epTag = some g)
    (hz : ∀ f : Fin 64, s.r 0 (.epf .F_STATE_in_flight) f.val = 0) :
    exec .epFetchTurn s = .next (s.fetches q g (min 8 (q.tail - q.head))) := by
  have he : exec .epFetchTurn s = execEpFetchTurn s := rfl
  have hsq : s.epSq q.fn q.qid = some q := by simp [State.epSq, hq]
  rw [he, execEpFetchTurn, onEp_of_mode hm]
  refine congrArg _ ?_
  extract_lets ready flight
  have hturn : (rotateAfter (List.range 64) s.ep.lastFn).find? ready = some q.fn := by
    refine find?_of_unique (mem_rotateAfter.2 (List.mem_range.2 hf)) ?_ fun x hx => ?_
    · simp [ready, hr, hconf, hd, rb_eq_true hb, hq, Nat.ne_of_lt ht]
    · simp only [ready, hq, List.any_cons, List.any_nil, Bool.or_false, Bool.and_eq_true, decide_eq_true_eq] at hx
      exact hx.2.1.symm
  have hflight : flight = 0 := by
    have h0 : (List.range 64).map (fun f => s.r 0 (.epf .F_STATE_in_flight) f) = (List.range 64).map (fun _ => 0) :=
      List.map_congr_left fun f h => hz ⟨f, List.mem_range.1 h⟩
    rw [show flight = List.foldl _ 0 _ from rfl, h0]
    rfl
  simp -zeta only [hturn, hg]
  extract_lets qs
  have hqs : qs = [q.qid] := filter_range_of_unique hy fun x => by
    simp [hq, Nat.ne_of_lt ht, eq_comm]
  rw [hqs, head?_rotateAfter_singleton]
  simp -zeta only [hsq]
  extract_lets n
  have hn : n = min 8 (q.tail - q.head) := by
    rw [show n = min (min 8 ((if q.head < q.tail then q.tail else q.size) - q.head)) (16384 - flight) from rfl, hflight, if_pos ht]
    omega
  clear_value n
  subst hn
  rw [if_neg (by omega)]
  rfl

/-- A fetch leaves a request for its entries, sends it, and moves the queue's head on. -/
theorem fetches_spec {q : EpQueue} (hq : s.ep.sqs = [q]) (g n) :
    (s.fetches q g n).ep.reqs = s.ep.reqs ++
        [{ tag := g, fn := q.fn, fetch := true, sq := q.qid, n := n, issued := s.now }] ∧
      OutMsg.epRead g q.fn true n ∈ (s.fetches q g n).out ∧
      (s.fetches q g n).epSq q.fn q.qid = some { q with head := (q.head + n) % q.size } := by
  refine ⟨?_, ?_, ?_⟩
  · rw [State.fetches, epShow_ep, emit_ep, epfBump_ep, epfBump_ep, setEp_ep]
  · rw [State.fetches, epShow_out, emit_out]
    exact List.mem_append_right _ (List.mem_singleton.2 rfl)
  · rw [State.fetches, State.epSq, epShow_ep, emit_ep, epfBump_ep, epfBump_ep, setEp_ep, hq]
    simp

/-! ### Messages (R514) -/

/-- A due message is held in the pending bit array. -/
def State.holdMsg (s : State) (k : Nat × Nat) : State :=
  s.setEp { s.ep with msiDue := s.ep.msiDue.filter (· ≠ k), pba := if s.ep.pba.contains k then s.ep.pba else s.ep.pba ++ [k] }

/-- A due message is posted in a microsecond of TS64. -/
def State.postMsg (s : State) (k : Nat × Nat) (us : Nat) : State :=
  (((s.setEp { s.ep with msiDue := s.ep.msiDue.filter (· ≠ k), pba := s.ep.pba.filter (· ≠ k)
                         msiAt := alPut s.ep.msiAt k us }).epfBump 7).epfBump 1).emit (.epMsix k.1 k.2)

theorem holdMsg_spec (k) : (s.holdMsg k).ep.pba.contains k = true ∧ (s.holdMsg k).ep.msiDue.contains k = false := by
  rw [State.holdMsg, setEp_ep]
  constructor
  · dsimp only
    split
    · assumption
    · simp
  · simp

theorem postMsg_spec (k us) : OutMsg.epMsix k.1 k.2 ∈ (s.postMsg k us).out ∧ (s.postMsg k us).ep.msiDue.contains k = false := by
  constructor
  · exact List.mem_append_right _ (List.mem_singleton.2 rfl)
  · rw [State.postMsg, emit_ep, epfBump_ep, epfBump_ep, setEp_ep]
    simp

theorem exec_epMsixSend {fn v : Fin 64} {m : Bool} (hm : 3 ≤ s.modeNow) (hr : s.fnRuns fn.val = true)
    (hd : s.r 0 (.epf .F_STATE_dstate) fn.val = 0) (hdue : s.ep.msiDue.contains (fn.val, v.val) = true) :
    exec (.epMsixSend fn v true m) s = .next
      (if m then s.holdMsg (fn.val, v.val)
       else if s.tsSet 0 && alGet s.ep.msiAt (fn.val, v.val) = some (s.ts64 0 / 1000) then s
       else s.postMsg (fn.val, v.val) (s.ts64 0 / 1000)) := by
  show execEpMsixSend fn v true m s = _
  rw [execEpMsixSend, onEp_of_mode hm]
  refine congrArg _ ?_
  extract_lets k us due e
  have hk : due = true := by rw [show due = (s.ep.msiDue.contains k || _) from rfl, hdue, Bool.true_or]
  rw [if_neg (by simp [hk, hr]), if_neg (by simp)]
  cases m
  · exact if_neg (by simp [hd])
  · exact if_pos (by simp)

theorem exec_epfSnapshot {q : Req} (hm : 3 ≤ s.modeNow) :
    exec (.epfSnapshot q) s = .next (s.snapshot 0 0x15 q.secure (s.counters 0 0x15 14) (.epf .SNAP_CTRL_done)) :=
  (show _ = execEpfSnapshot q s from rfl).trans (onEp_of_mode hm)

end Sys2Proof.Machine

open Sys2Proof Sys2Proof.Machine

/-- Settles O47: each command is read off the state it leaves. What channel dies do with a forwarded or finished command changes
neither the endpoint's own state nor what has left the package, and completing, forwarding and fetching keep the next token, the
tags held back and the timeout's event. -/
theorem endpointCommands : Obligations.EndpointCommands := by
  refine ⟨?_, ?_, ?_, ?_, ?_, ?_, ?_, ?_, ?_, ?_⟩
  · rintro q g s ⟨hm, hr, hconf, hd, hb⟩ ⟨hq, hf, hy, ht, hsz, hg, hz⟩
    obtain ⟨hreqs, hout, hhead⟩ := fetches_spec hq g (min 8 (q.tail - q.head))
    refine ⟨_, exec_epFetchTurn_of_only hm hr hconf hd hb hq hf hy ht hg hz, hreqs, hout, ?_⟩
    rw [hhead, Nat.mod_eq_of_lt (by omega)]
    rfl
  · rintro g l r s ⟨hm, hr, hf, hs, hl⟩
    refine ⟨_, exec_epSqFetchComplete hm hr hf hs hl, ?_⟩
    rw [nextTok_entries, endReq_ep, hl]
  · rintro g c r q x s ⟨hm, hr, hf, hs, hn, hsq, hop⟩ ⟨hq, hx, hroom⟩
    refine ⟨_, exec_epSqFetchComplete hm hr hf hs hn.symm, ?_⟩
    exact mem_out_takeEntry_of_bad_opcode (s := s.endReq g.toNat) hsq hop ((epSq_endReq ..).trans hq) ((epCq_endReq ..).trans hx)
      hroom
  · rintro g b i r c s ⟨hm, hr, hf, hs, hc, ht, h0⟩
    obtain ⟨hcmds, hreqs, hmsn⟩ := forwarded_landed (s := s.endReq g.toNat) c b i
    rw [State.nextMsn, endReq_ep] at hmsn
    exact ⟨_, exec_epDataFetchComplete_of_only hm hr hf hs hc ht, hcmds, hreqs.trans (congrArg EpState.reqs (endReq_ep _)),
      hmsn⟩
  · rintro o l d n rest c q x s ⟨hm, hp, hc, hd, h2⟩ ⟨hconn, hcid⟩ ⟨hq, hx, hroom⟩
    refine ⟨_, exec_epChainWorkRequest_of_only hm hp hc hd h2 hconn hcid, fun h => ?_, fun h => ?_⟩
    · simp [h, State.takeWork]
    · rw [if_pos h]
      exact epFinish_answered (s := (s.takeWork rest).withCmds [c.answered (s.slot d n) n]) rfl rfl hq hx hroom
  · rintro fn v m s ⟨hm, hr, hd, hdue⟩
    refine ⟨_, exec_epMsixSend hm hr hd hdue, ?_, ?_, ?_⟩
    · rintro rfl
      exact holdMsg_spec _
    · rintro rfl ⟨hts, hat⟩
      exact (if_neg Bool.false_ne_true).trans (if_pos (by rw [hts, hat]; simp))
    · rintro rfl hat
      rw [if_neg Bool.false_ne_true, if_neg (by simp [hat])]
      exact postMsg_spec ..
  · rintro g e w r s ⟨hm, hr, hw, hn, hs⟩
    obtain ⟨hnow, hheld, hev⟩ := timedOut_marks (s := s) r w
    rw [tag_of_epReq hr] at hheld
    have hst := epSteady_requestFails (s := s.timedOut r w) r
    refine ⟨_, exec_epCompletionTimeout hm hr hw hn hs, (requestFails_now _).trans hnow, ?_,
      (congrArg EpSteady.timedOut hst).trans hev, requestFails_of_fetch⟩
    rw [requestFails_now,
      show ((s.timedOut r w).requestFails r).ep.heldTags = _ from congrArg EpSteady.heldTags hst]
    exact List.contains_iff_mem.2 hheld
  · rintro g b s ⟨hm, hr⟩
    obtain ⟨u, hu, he⟩ := exec_epCompletionReceived_of_none hm hr
    refine ⟨_, he, ?_, fun h => ?_, fun h => ?_⟩
    · split
      · rw [ev_ep, epfBump_ep, hu]
      · rw [ev_ep, epfBump_ep, hu]
    · rw [if_pos h, r_ev_same, one_mod_width]
    · rw [if_neg (by rw [h]; decide), r_ev_same, one_mod_width]
  · rintro g b r s ⟨hm, hr, hf, hb⟩
    refine ⟨_, exec_epCompletionReceived_of_ended hm hr hb, fun h => ?_, fun h => ?_⟩
    · rw [if_pos h, epfBump_ep, tag_of_epReq hr]
      simp [State.dropReq]
    · rw [h, if_neg Bool.false_ne_true]
      exact requestFails_of_fetch hf
  · intro q s hm
    exact ⟨_, exec_epfSnapshot hm, mem_snaps_snapshot ..⟩

end

section
/-! PROOFS. The management subsystem (spec/19): the watchdogs (R535, R537), a firmware update from its request to its
activation or its end (R543 to R548), and the registers with effects of their own (R560, R561). -/

namespace Sys2Proof.Machine

variable {s t : State}

/-! ### What the operations of the management subsystem change -/

@[simp] theorem setMgt_mgt (m) : (s.setMgt m).mgt = m := rfl

@[simp] theorem setMgt_now (m) : (s.setMgt m).now = s.now := rfl

@[simp] theorem r_setMgt (m d f i) : (s.setMgt m).r d f i = s.r d f i := rfl

@[simp] theorem modeNow_setMgt (m) : (s.setMgt m).modeNow = s.modeNow := rfl

@[simp] theorem mgtBump_mgt (k n) : (s.mgtBump k n).mgt = s.mgt := bump_mgt ..

/-- A counter that wraps shows itself in no field but its block's sticky bits and wrap event. -/
theorem r_wrapped {b : Nat} {f : Fld} (h : ∀ o e v, ovfOf b = some (o, e, v) → o ≠ f ∧ v ≠ some f) (d k j d' i) :
    (s.wrapped d b k j).r d' f i = s.r d' f i := by
  unfold State.wrapped
  split
  · rfl
  · next o e v hb =>
    obtain ⟨ho, hv⟩ := h o e v hb
    extract_lets ei u
    have hu : u.r d' f i = s.r d' f i := r_w_ne _ _ _ _ _ _ _ ho
    split
    · split
      · rw [r_ev, if_neg fun x => hv (congrArg some x.2.1), hu]
      · exact hu
    · exact hu

theorem r_bump_of_not_shown {b : Nat} {f : Fld} (h6 : f.block ≠ 6)
    (h : ∀ o e v, ovfOf b = some (o, e, v) → o ≠ f ∧ v ≠ some f) (d k n j d' i) :
    (s.bump d b k n j).r d' f i = s.r d' f i := by
  unfold State.bump
  extract_lets v u w
  refine (r_pmcFeed _ _ _ _ _ _ h6).trans ?_
  show (if v < 2 ^ 64 then u else u.wrapped d b k j).r d' f i = u.r d' f i
  split
  · rfl
  · exact r_wrapped h ..

theorem r_mgtBump (k n d) (f : MgtF) (i) (h : f ≠ .CNT_OVF_ovf ∧ f ≠ .EVENTS_counter_wrap) :
    (s.mgtBump k n).r d (.mgt f) i = s.r d (.mgt f) i := by
  refine r_bump_of_not_shown (by simp [Fld.block]) ?_ ..
  obtain ⟨ho, he⟩ := h
  rintro o e v hb
  cases hb
  simp [ho.symm, he.symm]

@[simp] theorem mctpAnswer_mgt (w b l) : (s.mctpAnswer w b l).mgt = s.mgt := by simp [State.mctpAnswer]

theorem r_mctpAnswer (w b l d) (f : MgtF) (i) (h : f ≠ .CNT_OVF_ovf ∧ f ≠ .EVENTS_counter_wrap) :
    (s.mctpAnswer w b l).r d (.mgt f) i = s.r d (.mgt f) i := by
  rw [State.mctpAnswer, r_emit, r_mgtBump _ _ _ _ _ h, r_mgtBump _ _ _ _ _ h]

theorem mem_out_mctpAnswer (w b l) : OutMsg.mgmt w b l ∈ (s.mctpAnswer w b l).out :=
  List.mem_append_right _ (List.mem_singleton.2 rfl)

/-- A denied access raises the SEC event of its die. -/
theorem eventsWorld_worldViolation (q d b o w) : (s.worldViolation q d b o w).r d (.sec .EVENTS_world_violation) = 1 := by
  unfold State.worldViolation
  rw [r_log, r_wb, if_neg (by simp), r_w_ne _ _ _ _ _ _ _ (by decide), r_w_ne _ _ _ _ _ _ _ (by decide),
    r_w_ne _ _ _ _ _ _ _ (by decide), r_ev_same, one_mod_width]

/-! ### Firmware slots and selectors -/

theorem fwSlot_congr (h : t.mgt = s.mgt) (i) : t.fwSlot i = s.fwSlot i := by rw [State.fwSlot, State.fwSlot, h]

@[simp] theorem setFwSlot_mgt (i x) : (s.setFwSlot i x).mgt =
    { s.mgt with fwA := if i = 0 then x else s.mgt.fwA, fwB := if i = 0 then s.mgt.fwB else x } := by
  unfold State.setFwSlot
  split
  · rfl
  · rfl

@[simp] theorem r_setFwSlot (i x d f j) : (s.setFwSlot i x).r d f j = s.r d f j := rfl

@[simp] theorem fwSlot_setFwSlot_same (i x) : (s.setFwSlot i x).fwSlot i = x := by
  rw [State.fwSlot, setFwSlot_mgt]
  split
  · rfl
  · rfl

theorem fwSel_congr (h0 : t.mgt.fsel0 = s.mgt.fsel0) (h1 : t.mgt.fsel1 = s.mgt.fsel1) : t.fwSel = s.fwSel := by
  rw [State.fwSel, State.fwSel, h0, h1]

theorem fwSel_setUpdate (u) : (s.setMgt { s.mgt with update := u }).fwSel = s.fwSel := fwSel_congr rfl rfl

@[simp] theorem fwSel_fwShow : s.fwShow.fwSel = s.fwSel := rfl

/-- The selector copy that is rewritten is the one in force from then on (R83). -/
theorem fwSel_writeFwSel (f) : (s.writeFwSel f).fwSel = { f s.fwSel with valid := true, seq := s.fwSel.seq + 1 } := by
  unfold State.writeFwSel
  dsimp only
  split
  · next h =>
    have hs : s.fwSel = s.mgt.fsel0 := if_pos h
    rw [fwSel_fwShow, hs]
    simp [State.fwSel]
  · next h =>
    have hs : s.fwSel = if s.mgt.fsel1.valid then s.mgt.fsel1 else {} := if_neg h
    rw [fwSel_fwShow]
    refine if_pos ?_
    cases hv : s.mgt.fsel1.valid
    · simp [hv]
    · simp [hs, hv]

/-- The checks of a release answer a code up to 0x0B, and the step for an update only adds 0x0C (R543). -/
theorem fwCheck_le (f) : s.fwCheck f ≤ 0xB := by
  unfold State.fwCheck
  repeat' split
  all_goals decide

theorem fwUpdateCheck_le (f) : s.fwUpdateCheck f ≤ 0xC := by
  have h := fwCheck_le (s := s) f
  unfold State.fwUpdateCheck
  extract_lets c m pair
  split
  · omega
  · split
    · decide
    · decide

/-! ### The end of an update (R546, R547) -/

/-- The update is gone, and a firmware update's slot is erased. -/
def State.dropUpdate (s : State) (u : FwUpdate) : State :=
  if u.comp = 1 then (s.setMgt { s.mgt with update := none }).setFwSlot (1 - s.fwSel.current) none
  else s.setMgt { s.mgt with update := none }

theorem r_dropUpdate (u d f i) : (s.dropUpdate u).r d f i = s.r d f i := by
  unfold State.dropUpdate
  split
  · rfl
  · rfl

theorem dropUpdate_now (u) : (s.dropUpdate u).now = s.now := by
  unfold State.dropUpdate
  split
  · rfl
  · rfl

theorem dropUpdate_keeps (u) : ∃ a b, (s.dropUpdate u).mgt = { s.mgt with update := none, fwA := a, fwB := b } := by
  unfold State.dropUpdate
  split
  · exact ⟨_, _, setFwSlot_mgt ..⟩
  · exact ⟨_, _, rfl⟩

theorem updateEnds_of_none (h : s.mgt.update = none) (st code) : s.updateEnds st code = s := by
  simp only [State.updateEnds, h]

theorem updateEnds_eq {u : FwUpdate} (h : s.mgt.update = some u) (st code) : s.updateEnds st code =
    ((((s.dropUpdate u).w mdId (.mgt .FW_STATUS_update_state) st).w mdId (.mgt .FW_STATUS_fail_code) code).ev mdId
      (.mgt .EVENTS_update_failed)).logMgt 0x321 [u.comp, code] := by
  simp only [State.updateEnds, h]
  rfl

theorem updateEnds_mgt {u : FwUpdate} (h : s.mgt.update = some u) (st code) :
    (s.updateEnds st code).mgt = (s.dropUpdate u).mgt := by
  rw [updateEnds_eq h, logMgt_mgt, ev_mgt, w_mgt, w_mgt]

theorem updateEnds_keeps (st code) : ∃ a b, (s.updateEnds st code).mgt = { s.mgt with update := none, fwA := a, fwB := b } := by
  cases h : s.mgt.update with
  | none => exact ⟨s.mgt.fwA, s.mgt.fwB, by rw [updateEnds_of_none h, ← h]⟩
  | some u => rw [updateEnds_mgt h]; exact dropUpdate_keeps u

theorem updateEnds_now (st code) : (s.updateEnds st code).now = s.now := by
  cases h : s.mgt.update with
  | none => rw [updateEnds_of_none h]
  | some u => rw [updateEnds_eq h, logMgt_now, ev_now, w_now, w_now, dropUpdate_now]

theorem r_updateEnds (st code d) (f : MgtF) (i)
    (h : f ≠ .FW_STATUS_update_state ∧ f ≠ .FW_STATUS_fail_code ∧ f ≠ .EVENTS_update_failed) :
    (s.updateEnds st code).r d (.mgt f) i = s.r d (.mgt f) i := by
  obtain ⟨hs, hc, he⟩ := h
  cases hu : s.mgt.update with
  | none => rw [updateEnds_of_none hu]
  | some u =>
    rw [updateEnds_eq hu, r_logMgt, r_ev, if_neg (by simp [he.symm]), r_w_ne _ _ _ _ _ _ _ (by simp [hc.symm]),
      r_w_ne _ _ _ _ _ _ _ (by simp [hs.symm]), r_dropUpdate]

/-- An update that ends shows the state and the code it ended with. -/
theorem updateEnds_shows {u : FwUpdate} (h : s.mgt.update = some u) {st code : Nat} (hs : st < 16) (hc : code < 256) :
    (s.updateEnds st code).r mdId (.mgt .FW_STATUS_update_state) = st ∧
      (s.updateEnds st code).r mdId (.mgt .FW_STATUS_fail_code) = code := by
  rw [updateEnds_eq h]
  constructor
  · rw [r_logMgt, r_ev, if_neg (by simp), r_w_ne _ _ _ _ _ _ _ (by decide), r_w_same]
    exact Nat.mod_eq_of_lt hs
  · rw [r_logMgt, r_ev, if_neg (by simp), r_w_same]
    exact Nat.mod_eq_of_lt hc

theorem updateEnds_update (st code) : (s.updateEnds st code).mgt.update = none := by
  obtain ⟨a, b, h⟩ := updateEnds_keeps (s := s) st code
  rw [h]

/-- The slot of a firmware update that ends is erased. -/
theorem fwSlot_updateEnds {u : FwUpdate} (h : s.mgt.update = some u) (hu : u.comp = 1) (st code) :
    (s.updateEnds st code).fwSlot (1 - s.fwSel.current) = none := by
  rw [fwSlot_congr (updateEnds_mgt h ..), State.dropUpdate, if_pos hu, fwSlot_setFwSlot_same]

/-! ### The watchdogs (R537) -/

theorem exec_secureWatchdogExpiry {x : Nat} (h : s.mgt.sWdt = some x) :
    exec .secureWatchdogExpiry s = .next ((s.advance x).setMgt { (s.advance x).mgt with sWdt := none }).fatal := by
  show execSecureWatchdogExpiry s = _
  simp only [execSecureWatchdogExpiry, h]

/-- The non-secure cores restart at an instant: their watchdog runs again, endpoint IDs and console input are gone. -/
def State.nsRestart (s : State) (x : Nat) : State :=
  let s := s.advance x
  ((s.setMgt { s.mgt with
      nsWdt := some (s.now + 1000000 * s.r mdId (.mgt .WDT_CFG_ns_timeout_ms)), eids := [], console := [] }).ev mdId
    (.mgt .EVENTS_ns_watchdog)).logMgt 0x332 []

theorem nsRestart_mgt (x) : (s.nsRestart x).mgt = { s.mgt with
    nsWdt := some (max s.now x + 1000000 * s.r mdId (.mgt .WDT_CFG_ns_timeout_ms)), eids := [], console := [] } := by
  simp [State.nsRestart, r_advance _ _ _ _ (show (Fld.mgt .WDT_CFG_ns_timeout_ms).block ≠ 6 by decide)]

theorem nsRestart_now (x) : (s.nsRestart x).now = max s.now x := by simp [State.nsRestart]

theorem r_nsRestart_event (x) : (s.nsRestart x).r mdId (.mgt .EVENTS_ns_watchdog) = 1 := by simp [State.nsRestart]

theorem r_nsRestart (x d) (f : MgtF) (i) (h : f ≠ .EVENTS_ns_watchdog) :
    (s.nsRestart x).r d (.mgt f) i = s.r d (.mgt f) i := by
  rw [State.nsRestart, r_logMgt, r_ev, if_neg (by simp [h.symm]), r_setMgt, r_advance _ _ _ _ (by simp [Fld.block])]

theorem exec_nsWatchdogExpiry {x : Nat} (h : s.mgt.nsWdt = some x) :
    exec .nsWatchdogExpiry s = .next
      (if (s.nsRestart x).r mdId (.mgt .FW_STATUS_update_state) = 1 then (s.nsRestart x).updateEnds 6 0xE
       else s.nsRestart x) := by
  show execNsWatchdogExpiry s = _
  rw [execNsWatchdogExpiry, h]
  rfl

/-! ### The commands of an update -/

/-- A request is answered ALREADY_IN_UPDATE_MODE while an update is in progress. -/
theorem exec_pldmRequestUpdate_during (b : Fin 3) (h : s.mgt.update.isSome = true) :
    exec (.pldmRequestUpdate b 1) s = .next (s.mctpAnswer 0 b.val [1]) := by
  show execPldmRequestUpdate b 1 s = _
  simp [execPldmRequestUpdate, h]

/-- A firmware update in its first state, the slot that is not current erased. -/
def State.updateBegun (s : State) (b : Nat) : State :=
  (((s.setMgt { s.mgt with update := some { comp := 1, binding := b, deadline := s.now + 60000000000 } }).setFwSlot
    (1 - s.fwSel.current) none).w mdId (.mgt .FW_STATUS_update_state) 1).w mdId (.mgt .FW_STATUS_fail_code) 0

theorem updateBegun_spec (b) :
    (s.updateBegun b).mgt.update = some { comp := 1, binding := b, deadline := s.now + 60000000000 } ∧
      (s.updateBegun b).fwSlot (1 - s.fwSel.current) = none ∧
      (s.updateBegun b).r mdId (.mgt .FW_STATUS_update_state) = 1 := by
  unfold State.updateBegun
  refine ⟨?_, fwSlot_setFwSlot_same .., ?_⟩
  · rw [w_mgt, w_mgt, setFwSlot_mgt, setMgt_mgt]
  · rw [r_w_ne _ _ _ _ _ _ _ (by decide), r_w_same]
    rfl

theorem exec_pldmRequestUpdate_accepted (b : Fin 3) (hu : s.mgt.update = none) (hm : fwUpdateMode s.modeNow = true)
    (ht : s.fwSel.trial = false) (hs : s.stagePending = false) :
    exec (.pldmRequestUpdate b 1) s = .next ((((s.updateBegun b.val).mgtBump 8).logMgt 0x320 [1]).mctpAnswer 0 b.val [0]) := by
  have hst : between 1 (s.r mdId (.img .STATUS_stage_state)) 2 = false := by
    simp only [State.stagePending, between, Bool.and_eq_false_iff, decide_eq_false_iff_not] at hs ⊢
    omega
  show execPldmRequestUpdate b 1 s = _
  simp [execPldmRequestUpdate, hu, hm, ht, hst, State.updateBegun, fwSel_setUpdate]

theorem exec_pldmFirmwareData {n : Nat} {f : Option FwImage} {m : Option Image} {u : FwUpdate} (hu : s.mgt.update = some u)
    (hs : s.r mdId (.mgt .FW_STATUS_update_state) = 1) (h1 : 1 ≤ n) (h2 : n ≤ 4096) :
    exec (.pldmFirmwareData n f m false) s = .next (((s.setMgt { s.mgt with update := some { u with
      bytes := u.bytes + n, deadline := s.now + 60000000000,
      fw := if u.comp = 1 then f else none, cfg := if u.comp = 2 then m else none } }).mgtBump 4).mgtBump 5) := by
  show execPldmFirmwareData n f m false s = _
  simp [execPldmFirmwareData, hu, hs, between, h1, h2]

/-- The image of a firmware update is checked: one that fails ends the update, one that passes is in its slot. -/
theorem exec_firmwareUpdateVerified {u : FwUpdate} {f : FwImage} (hu : s.mgt.update = some u)
    (hs : s.r mdId (.mgt .FW_STATUS_update_state) = 1) (hc : u.comp = 1) (hf : u.fw = some f) :
    exec .firmwareUpdateVerified s = .next
      (if s.fwUpdateCheck f ≠ 0 then (s.updateEnds 5 (s.fwUpdateCheck f)).mctpAnswer 0 u.binding [s.fwUpdateCheck f]
       else (((s.setFwSlot (1 - s.fwSel.current) (some f)).w mdId (.mgt .FW_STATUS_update_state) 3).ev mdId
        (.mgt .EVENTS_update_done)).mctpAnswer 0 u.binding [0]) := by
  show execFirmwareUpdateVerified s = _
  simp only [execFirmwareUpdateVerified, hu, hs, hc, hf, ne_eq, not_true_eq_false, if_false]
  split
  · rfl
  · rfl

theorem exec_pldmActivateFirmware {u : FwUpdate} (hu : s.mgt.update = some u)
    (hs : s.r mdId (.mgt .FW_STATUS_update_state) = 3) (hc : u.comp = 1) :
    ∃ v : State, v.fwSel = { s.fwSel with
        valid := true, seq := s.fwSel.seq + 1, trial := true, attempts := 0
        trialRelease := (u.fw.map (fun x => x.release)).getD 0 } ∧
      exec .pldmActivateFirmware s = .next
        (((v.setMgt { v.mgt with update := none }).w mdId (.mgt .FW_STATUS_update_state) 4).mctpAnswer 0 u.binding [0]) := by
  refine ⟨_, fwSel_writeFwSel fun x =>
    { x with trial := true, attempts := 0, trialRelease := (u.fw.map (fun x => x.release)).getD 0 }, ?_⟩
  show execPldmActivateFirmware s = _
  simp [execPldmActivateFirmware, hu, hs, hc]

theorem exec_pldmCancelUpdate {b : Fin 3} {u : FwUpdate} (hu : s.mgt.update = some u) :
    exec (.pldmCancelUpdate b) s = .next
      (if u.binding = b.val then (s.updateEnds 6 0xE).mctpAnswer 0 b.val [0] else s) := by
  show execPldmCancelUpdate b s = _
  simp only [execPldmCancelUpdate, hu, Option.any_some, decide_eq_true_eq]
  split
  · rfl
  · rfl

theorem exec_pldmTransferTimeout {u : FwUpdate} (hu : s.mgt.update = some u)
    (hs : s.r mdId (.mgt .FW_STATUS_update_state) = 1) :
    exec .pldmTransferTimeout s = .next ((s.advance u.deadline).updateEnds 6 0xE) := by
  show execPldmTransferTimeout s = _
  simp only [execPldmTransferTimeout, hu, if_pos hs]

end Sys2Proof.Machine

open Sys2Proof Sys2Proof.Machine

/-- Settles O49: what each command leaves is read off its equation and the lemmas of the operations it is made of. -/
theorem managementUpdates : Obligations.ManagementUpdates := by
  refine ⟨?_, ?_, ?_, ?_, ?_, ?_, ?_, ?_, ?_, ?_, ?_, ?_, ?_⟩
  · intro s hm
    exact ⟨_, rfl, trig_mem _ _ hm⟩
  · rintro x s ⟨hx, hm⟩
    refine ⟨_, exec_secureWatchdogExpiry hx, trig_mem _ _ ?_, ?_, ?_⟩
    · rwa [modeNow_setMgt, modeNow_advance]
    · rw [State.fatal, trig_mgt, setMgt_mgt]
    · rw [State.fatal, trig_now, setMgt_now, advance_now]
  · intro x s hx
    refine ⟨_, exec_nsWatchdogExpiry hx, ?_⟩
    rw [r_nsRestart _ _ _ _ (by decide)]
    split
    · obtain ⟨a, b, hmgt⟩ := updateEnds_keeps (s := s.nsRestart x) 6 0xE
      rw [updateEnds_now, nsRestart_now, hmgt, nsRestart_mgt, r_updateEnds _ _ _ _ _ (by decide), r_nsRestart_event]
      exact ⟨rfl, rfl, rfl, rfl, rfl, fun _ => rfl⟩
    · next h =>
      rw [nsRestart_now, nsRestart_mgt, r_nsRestart_event]
      exact ⟨rfl, rfl, rfl, rfl, rfl, fun e => absurd e h⟩
  · intro q s
    refine ⟨_, rfl, fun h => ?_, fun h => ?_⟩
    · rw [secureOnly_of_secure h, setMgt_mgt]
    · rw [State.secureOnly, if_neg (by simp [h])]
      exact ⟨congrArg MgtState.sWdt (worldViolation_mgt ..), eventsWorld_worldViolation ..⟩
  · intro s
    exact ⟨_, rfl, rfl⟩
  · intro b s
    obtain ⟨t, ht, -⟩ := outGood_exec (.pldmRequestUpdate b 1) s
    obtain ⟨hbegun, hslot, hstate⟩ := updateBegun_spec (s := s) b.val
    refine ⟨t, ht, fun h => ?_, fun h => ?_, fun h => ?_⟩
    · cases ht.symm.trans (exec_pldmRequestUpdate_during b h)
      exact ⟨mctpAnswer_mgt .., mem_out_mctpAnswer ..⟩
    all_goals
      obtain ⟨hu, hm, htr, hs⟩ := h
      cases ht.symm.trans (exec_pldmRequestUpdate_accepted b hu hm htr hs)
    · rw [fwSlot_congr (s := s.updateBegun b.val) (by simp), mctpAnswer_mgt, logMgt_mgt, mgtBump_mgt]
      exact ⟨hbegun, hslot⟩
    · rw [r_mctpAnswer _ _ _ _ _ _ (by decide), r_logMgt, r_mgtBump _ _ _ _ _ (by decide)]
      exact ⟨hstate, mem_out_mctpAnswer ..⟩
  · rintro n f m u s ⟨hu, hs, h1, h2⟩
    refine ⟨_, exec_pldmFirmwareData hu hs h1 h2, ?_⟩
    rw [mgtBump_mgt, mgtBump_mgt]
    rfl
  · rintro u f s ⟨hu, hs, hc, hf⟩
    refine ⟨_, exec_firmwareUpdateVerified hu hs hc hf, fun h => ?_, fun h => ?_⟩
    · rw [if_neg (not_not.2 h), fwSlot_congr ((mctpAnswer_mgt ..).trans (ev_mgt ..)), r_mctpAnswer _ _ _ _ _ _ (by decide),
        r_mctpAnswer _ _ _ _ _ _ (by decide), r_ev, if_neg (by simp), r_w_same, r_ev_same, one_mod_width]
      exact ⟨fwSlot_setFwSlot_same .., rfl, rfl⟩
    · have hcode := fwUpdateCheck_le (s := s) f
      rw [if_pos h, fwSlot_congr (mctpAnswer_mgt ..), mctpAnswer_mgt, r_mctpAnswer _ _ _ _ _ _ (by decide)]
      exact ⟨updateEnds_update .., fwSlot_updateEnds hu hc .., (updateEnds_shows hu (by decide) (by omega)).2⟩
  · rintro u s ⟨hu, hs, hc⟩
    obtain ⟨v, hv, he⟩ := exec_pldmActivateFirmware hu hs hc
    refine ⟨_, he, ?_⟩
    rw [mctpAnswer_mgt, fwSel_congr (s := v) (by simp) (by simp), hv, r_mctpAnswer _ _ _ _ _ _ (by decide), r_w_same]
    exact ⟨rfl, rfl, rfl, rfl, rfl⟩
  · intro b u s hu
    refine ⟨_, exec_pldmCancelUpdate hu, fun h => ?_, fun h => if_neg h⟩
    rw [if_pos h, fwSlot_congr (mctpAnswer_mgt ..), mctpAnswer_mgt, r_mctpAnswer _ _ _ _ _ _ (by decide),
      r_mctpAnswer _ _ _ _ _ _ (by decide)]
    obtain ⟨hst, hcode⟩ := updateEnds_shows (st := 6) (code := 0xE) hu (by decide) (by decide)
    exact ⟨updateEnds_update .., hst, hcode, fun hc => fwSlot_updateEnds hu hc ..⟩
  · rintro u s ⟨hu, hs⟩
    have hadv : (s.advance u.deadline).mgt.update = some u := by rw [advance_mgt, hu]
    refine ⟨_, exec_pldmTransferTimeout hu hs, updateEnds_update .., (updateEnds_shows hadv (by decide) (by decide)).2, ?_⟩
    rw [updateEnds_now, advance_now]
  · intro s
    refine ⟨_, rfl, (r_w_same ..).trans (Nat.zero_mod _), ?_⟩
    exact List.mem_append_right _ (List.mem_singleton.2 rfl)
  · intro q s
    exact ⟨_, rfl, mem_snaps_snapshot ..⟩

end

section
/-! PROOFS. Ownership, the media root, debug tokens and tamper (spec/20 R571, R572, R583 to R585): what each command records, and
what a tamper source erases. -/

namespace Sys2Proof.Machine

variable {M : Nat} {s t : State}

/-! ### A record of kinds 1, 3 and 4 joins the ledger's queue (R578) -/

/-- A record that is never dropped changes the queue and the count of it that is shown; a ledger that has stopped takes none. -/
theorem ledgerAdd_eq {kind : Nat} (h : kind ≠ 2) (body brk) : s.ledgerAdd kind body brk = s ∨ ∃ q a n,
    s.ledgerAdd kind body brk = ({ s with sec := { s.sec with ledgerQ := q, appending := a } } : State).w mdId
      (.sec .LEDGER_STATUS_queued) n := by
  unfold State.ledgerAdd
  split
  · exact .inl rfl
  · rw [if_neg (h ·.1)]
    extract_lets q
    obtain ⟨l, a, he, -⟩ := ledgerStart_eq (s := ({ s with sec := { s.sec with ledgerQ := q } } : State).w mdId
      (.sec .LEDGER_STATUS_queued) q.length)
    exact .inr ⟨l, a, q.length, he⟩

theorem ledgerAdd_owner {kind : Nat} (h : kind ≠ 2) (body brk) : (s.ledgerAdd kind body brk).sec.owner = s.sec.owner := by
  obtain he | ⟨q, a, n, he⟩ := ledgerAdd_eq h body brk
  · rw [he]
  · rw [he, w_sec]

theorem ledgerAdd_cip (kind body brk) : (s.ledgerAdd kind body brk).cip = s.cip :=
  (good_ledgerAdd .self kind body brk (Cover.refl _)).kept .cip rfl

theorem r_ledgerAdd {kind : Nat} (h : kind ≠ 2) (body brk d) (f : Fld) (i) (hf : f ≠ .sec .LEDGER_STATUS_queued) :
    (s.ledgerAdd kind body brk).r d f i = s.r d f i := by
  obtain he | ⟨q, a, n, he⟩ := ledgerAdd_eq (s := s) h body brk
  · rw [he]
  · rw [he, r_w_ne _ _ _ _ _ _ _ hf.symm]
    rfl

/-! ### Owner and media root (R571, R572) -/

theorem exec_ownerEnrolment {o : Nat} (hm : s.mfgMaintenance = true) (ho : s.sec.owner = none) :
    exec (.ownerEnrolment true o) s = .next
      (({ s with sec := { s.sec with owner := some o } } : State).ledgerAdd 4 [2, 0, Config.digest [o]]) := by
  show execOwnerEnrolment true o s = _
  simp [execOwnerEnrolment, hm, ho]

theorem exec_ownerTransfer {o : Nat} (ho : s.sec.owner.isSome = true) :
    exec (.ownerTransfer true true o) s = .next
      ((({ s with sec := { s.sec with owner := some o } } : State).dropRoot).ledgerAdd 4 [3, 0, Config.digest [o]]) := by
  show execOwnerTransfer true true o s = _
  simp [execOwnerTransfer, ho]

/-- Showing the namespaces of the dies that run leaves the cipher engines' root and generations. -/
theorem cip_nsmShow (d) : (s.nsmShow d).cip = s.cip := (good_nsmShow .self d (Cover.refl _)).kept .cip rfl

theorem dropRoot_sec : s.dropRoot.sec = s.sec := (good_dropRoot .self (Cover.refl _)).kept .sec rfl

theorem dropRoot_cip : s.dropRoot.cip = { s.cip with mediaRoot := none, gens := [] } := by
  unfold State.dropRoot
  extract_lets c u
  refine foldS_keeps (s := u) (v := State.cip) (fun x e => ?_) _
  split
  · rw [cip_nsmShow, ev_cip]
  · rfl

/-- The root for the agreed shelf is taken where none is held. -/
theorem exec_mediaRootImport {v w : Nat} (hn : s.cip.mediaRoot = none) (hv : s.drv.shelf = some v) :
    ∃ u : State, exec (.mediaRootImport true true v w) s = .next (u.ledgerAdd 4 [4, 0, Config.digest [v, w]]) ∧
      u.cip.mediaRoot = some w := by
  have he : exec (.mediaRootImport true true v w) s = execMediaRootImport true true v w s := rfl
  rw [he, execMediaRootImport, if_pos (by simp [hn, hv])]
  extract_lets c s1 u
  refine ⟨u, rfl, congrArg CipState.mediaRoot (?_ : u.cip = s1.cip)⟩
  refine foldS_keeps (v := State.cip) (fun x e => ?_) _
  split
  · exact cip_nsmShow _
  · rfl

theorem exec_mediaRootImport_other {v w : Nat} (hv : s.drv.shelf ≠ some v) :
    exec (.mediaRootImport true true v w) s = .next s := by
  show execMediaRootImport true true v w s = _
  simp [execMediaRootImport, hv]

/-! ### Debug tokens (R583) -/

/-- SEC's counters show themselves in its sticky bits and its wrap event only. -/
theorem r_secBump (d k n j e) (f : SecF) (i) (h : f ≠ .CNT_OVF_ovf ∧ f ≠ .EVENTS_counter_wrap) :
    (s.bump d 0x04 k n j).r e (.sec f) i = s.r e (.sec f) i := by
  refine r_bump_of_not_shown (by simp [Fld.block]) ?_ ..
  obtain ⟨ho, he⟩ := h
  rintro o e v hb
  cases hb
  simp [ho.symm, he.symm]

theorem exec_debugTokenWrite_unsigned {e : Nat} (hp : s.r mdId (.sec .DEBUG_policy) = 1) (package boot) :
    exec (.debugTokenWrite 1 false package boot e) s = .next
      ((s.bump mdId 0x04 7).w mdId (.sec .DEBUG_refusals) (min 255 (s.r mdId (.sec .DEBUG_refusals) + 1))) := by
  show execDebugTokenWrite 1 false package boot e s = _
  simp [execDebugTokenWrite, hp]

/-- A token for this package and boot that has not expired opens its scope on every die, with its event and its record. -/
theorem exec_debugTokenWrite_accepted {e : Nat} (hp : s.r mdId (.sec .DEBUG_policy) = 1) (ht : s.tsSet mdId = true)
    (he : s.ts64 mdId < e) (hq : s.sec.ledgerQ.length ≤ 8) :
    ∃ (u : State) (body : List Nat), u.r mdId (.sec .DEBUG_scope) = 1 ∧
      exec (.debugTokenWrite 1 true Config.packageId (s.r mdId (.mgt .BOOT_COUNT_count)) e) s = .next
        (((u.ev mdId (.sec .EVENTS_debug_unlock)).logEv mdId 0x04 .debugUnlock [1]).ledgerAdd 4 body) := by
  have hx : exec (.debugTokenWrite 1 true Config.packageId (s.r mdId (.mgt .BOOT_COUNT_count)) e) s =
    execDebugTokenWrite 1 true Config.packageId (s.r mdId (.mgt .BOOT_COUNT_count)) e s := rfl
  rw [hx, execDebugTokenWrite, if_neg (not_not.2 hp)]
  extract_lets ok s1 s2 u
  have hok : ok = true := by simp [ok, ht, he, hq]
  have h2 : s2.r mdId (.sec .DEBUG_scope) = 1 := r_w_same ..
  have hu : u.r mdId (.sec .DEBUG_scope) = s2.r mdId (.sec .DEBUG_scope) :=
    foldS_keeps (v := fun (x : State) => x.r mdId (.sec .DEBUG_scope)) (fun x d => r_w_ne _ _ _ _ _ _ _ (by decide)) _
  rw [hok]
  exact ⟨u, _, hu.trans h2, rfl⟩

/-! ### Tamper (R584, R585) -/

/-- Clearing a die's key slots changes the cipher engines only. -/
theorem good_clearSlots_cip {q : Prop} (h : Good M s q t) (d) (hm : Cover 0x10000000000000000000000400000 M) :
    Good M s q (t.clearSlots d) := by
  unfold State.clearSlots
  lift_lets
  intro x y clear z
  refine good_gcmShow (good_w (good_slotsShow (?_ : Good M s q z) _) _ _ _ _) _
  refine good_mk_iff.2 (GoodParts.less h (.inr ⟨List.filter_sublist, fun k hk => alGet_filter fun v => ?_⟩) (.inl rfl) (.inl rfl)
    (.inl rfl))
  have hf : ∀ c, k.fld ≠ .cip c := by
    rintro c hc
    rw [hc] at hk
    exact absurd (hm.bit (k := 112) rfl) (by rw [show 112 = 32 + 2 * (Fld.cip c).block from rfl, hk]; decide)
  simp [clear, hf]

/-- Zeroising a die leaves the registers of the management die's own blocks. -/
theorem good_zeroise_cip {q : Prop} (h : Good M s q t) (d) (hm : Cover 0x1001400000C000000100004420040 M) :
    Good M s q (t.zeroise d) := by
  unfold State.zeroise
  extract_lets u
  have hu : Good M s q u := good_ev (good_clearSlots_cip h d (hm.sub rfl)) _ _ (hm.sub rfl) (hm.bit rfl)
  exact good_ite hu (good_nsmShow hu d (hm.sub rfl))

/-- What Praline holds of its roots and secrets is gone. -/
structure State.Erased (s : State) : Prop where
  root : s.cip.mediaRoot = none
  gens : s.cip.gens = []
  pair : s.pair.secret = 0

theorem State.Erased.congr (h : s.Erased) (hc : t.cip = s.cip) (hp : t.pair.secret = s.pair.secret) : t.Erased :=
  ⟨hc ▸ h.root, hc ▸ h.gens, hp ▸ h.pair⟩

theorem zeroisePraline_sec : s.zeroisePraline.sec = { s.sec with alias_ := none } := by
  rw [State.zeroisePraline, dropRoot_sec]

theorem erased_zeroisePraline : s.zeroisePraline.Erased := by
  have hc : s.zeroisePraline.cip = s.dropRoot.cip := rfl
  exact ⟨by rw [hc, dropRoot_cip], by rw [hc, dropRoot_cip], rfl⟩

theorem stackZero_sec (d) : (s.stackZero d).sec = s.sec := rfl

theorem stackZero_cip (d) : (s.stackZero d).cip = s.cip := rfl

theorem stackZero_pair (d) : (s.stackZero d).pair = s.pair := rfl

/-- Letting the claim and the leases go leaves the pair secret. -/
theorem leaseRelease_secret : s.leaseRelease.pair.secret = s.pair.secret := by
  have hclose (x : State) : x.closeGates.pair = x.pair := (good_closeGates .self (Cover.refl _)).kept .pair rfl
  have hdrop : s.dropClaim.pair.secret = s.pair.secret := by
    unfold State.dropClaim
    extract_lets was p u v
    split
    · rfl
    · rfl
  have hgone : s.claimGone.pair.secret = s.pair.secret := by
    unfold State.claimGone
    split
    · rw [logEv_pair, ev_pair, hclose, hdrop]
    · rw [hclose, hdrop]
  refine (foldS_keeps (v := fun (x : State) => x.pair.secret) (fun x e => ?_) _).trans hgone
  unfold State.leaseWrite
  extract_lets l seq ts expiry w
  exact (congrArg PairState.secret ((good_drvIssue .self _ _ _ _ _ _ _ _ (Cover.refl _)).kept .pair rfl)).trans rfl

theorem erased_leaseRelease (h : s.Erased) : s.leaseRelease.Erased :=
  h.congr ((good_leaseRelease .self (Cover.refl _)).kept .cip rfl) leaseRelease_secret

/-- A tamper source outside Off: what the ledger, the event, the mode and the secrets are before trigger 2 arrives. -/
theorem exec_tamper {i : Fin 4} (hm : s.modeNow ≠ 0) :
    ∃ u : State, exec (.tamper i) s = .next (u.trig 2 8) ∧
      u.sec = { s.sec with tamper := s.sec.tamper ||| 2 ^ i.val, stopped := true, ledgerQ := [], appending := false, retryAt := none,
                           alias_ := none } ∧
      u.r mdId (.sec .EVENTS_tamper) = 1 ∧ u.modeNow = s.modeNow ∧ u.Erased ∧ u.mode.tampered = true := by
  have he : exec (.tamper i) s = execTamper i s := rfl
  rw [he, execTamper, if_neg hm]
  extract_lets bit x c s1 s2 s3 s4 s5 s6
  have hev : s3.r mdId (.sec .EVENTS_tamper) = 1 := (r_ev_same ..).trans (one_mod_width _)
  have hmode : s3.modeNow = s.modeNow := (modeNow_ev _ _ (by decide)).trans <|
    (modeNow_w _ _ _ _ (by decide)).trans (modeNow_w (s := s1) _ _ _ _ (by decide))
  have hsec : s3.sec = s1.sec := (ev_sec ..).trans ((w_sec ..).trans (w_sec ..))
  clear_value s3
  have h4 : s4.sec = { s3.sec with alias_ := none } := by
    rw [zeroisePraline_sec, foldS_keeps (v := State.sec) (fun y d => (good_zeroise_cip .self d (Cover.refl _)).kept .sec rfl)]
  have h5 : s5.sec = s4.sec := foldS_keeps (v := State.sec) (fun y c => stackZero_sec (cdId c)) _
  have hc5 : s5.cip = s4.cip := foldS_keeps (v := State.cip) (fun y c => stackZero_cip (cdId c)) _
  have hp5 : s5.pair = s4.pair := foldS_keeps (v := State.pair) (fun y c => stackZero_pair (cdId c)) _
  have h6 : s6.sec = s5.sec := (good_leaseRelease .self (Cover.refl _)).kept .sec rfl
  have hx5 : s5.Erased := erased_zeroisePraline.congr hc5 (congrArg PairState.secret hp5)
  have hg4 : Good 0x10001c15f00000c0000001c0015e70960 s3 False s4 := good_zeroisePraline
    (good_foldS (fun y d hy => good_zeroise_cip hy d rfl) .self) rfl
  have hg6 : Good 0x10001c15f00000c0000001c0015e70960 s3 False s6 := good_leaseRelease
    (good_foldS (fun y d hy => good_stackZero hy _ rfl) hg4) rfl
  have hsec6 : s6.sec = { s1.sec with alias_ := none } := h6.trans (h5.trans (h4.trans (by rw [hsec])))
  have hx6 : s6.Erased := erased_leaseRelease hx5
  clear_value s6
  refine ⟨{ s6 with mode := { s6.mode with tampered := true } }, rfl, hsec6, (hg6.r_eq mdId (.sec .EVENTS_tamper) 0 rfl).trans hev,
    (hg6.modeNow_eq rfl rfl).trans hmode, hx6.congr rfl rfl, rfl⟩

end Sys2Proof.Machine

open Sys2Proof Sys2Proof.Machine

/-- Settles O53: each command that its conditions allow is read off the state it leaves, and each that they refuse off its answer. -/
theorem ownershipDebugTamper : Obligations.OwnershipDebugTamper := by
  refine ⟨?_, ?_, ?_, ?_, ?_⟩
  · rintro x o s ⟨hm, ho⟩
    cases x
    · exact ⟨s, rfl, nofun, fun _ => rfl⟩
    · exact ⟨_, exec_ownerEnrolment hm ho, fun _ => ledgerAdd_owner (by decide) _ _, nofun⟩
  · intro x o s ho
    cases x
    · exact ⟨s, rfl, nofun, fun _ => rfl⟩
    · refine ⟨_, exec_ownerTransfer ho, fun _ => ⟨?_, ?_, ?_⟩, nofun⟩
      · rw [ledgerAdd_owner (by decide), dropRoot_sec]
      · rw [ledgerAdd_cip, dropRoot_cip]
      · rw [ledgerAdd_cip, dropRoot_cip]
  · intro v w s hn
    by_cases hv : s.drv.shelf = some v
    · obtain ⟨u, he, hu⟩ := exec_mediaRootImport hn hv
      exact ⟨_, he, fun _ => by rw [ledgerAdd_cip, hu], fun h => absurd hv h⟩
    · exact ⟨s, exec_mediaRootImport_other hv, fun h => absurd h hv, fun _ => rfl⟩
  · rintro x e s ⟨hp, ht, he, hq⟩
    cases x
    · refine ⟨_, exec_debugTokenWrite_unsigned hp _ _, nofun, fun _ => ⟨?_, ?_⟩⟩
      · rw [r_w_ne _ _ _ _ _ _ _ (by decide), r_secBump _ _ _ _ _ _ _ (by decide)]
      · exact (r_w_same ..).trans (Nat.mod_eq_of_lt (b := 256) (by omega))
    · obtain ⟨u, body, hu, hx⟩ := exec_debugTokenWrite_accepted hp ht he hq
      refine ⟨_, hx, fun _ => ⟨?_, ?_⟩, nofun⟩
      · rw [r_ledgerAdd (by decide) _ _ _ _ _ (by decide), r_logEv, r_ev, if_neg (by decide), hu]
      · rw [r_ledgerAdd (by decide) _ _ _ _ _ (by decide), r_logEv, r_ev_same, one_mod_width]
  · intro i s hm
    obtain ⟨u, he, hsec, hev, hmode, ⟨hroot, hgens, hpair⟩, ht⟩ := exec_tamper (i := i) hm
    have hrow : u.modeNow ≠ 0xB → (⟨2, 8⟩ : Trig) ∈ (u.trig 2 8).mode.trigs := fun hb => trig_mem _ _ (by
      rw [hmode] at hb ⊢
      simp [modeHasRow, hm, hb])
    refine ⟨_, he, ?_⟩
    rw [r_trig, trig_sec, trig_cip, trig_pair, hsec, congrArg ModeState.tampered (trig_mode 2 8)]
    exact ⟨rfl, rfl, rfl, hev, hroot, hgens, rfl, hpair, ht, hmode ▸ hrow⟩

end

section
/-! PROOFS. The release order (spec/23 R617 to R625): what each of its steps leaves, from the release of COLD to the known-answer
test of the last die (spec/20 R568, spec/14 R405). -/

namespace Sys2Proof.Machine

variable {M : Nat} {s t : State}

/-! ### The start of the management die (R617 steps 1 to 3) -/

theorem exec_powerOnRelease (hp : s.rst.phase = 0) (hh : s.rst.held = false) :
    exec .powerOnRelease s = .next { s with now := 0, rst := { s.rst with phase := 1, at_ := 0 } } := by
  show execPowerOnRelease s = _
  simp [execPowerOnRelease, hp, hh]

/-- Supervise is entered: the mode shows it, and the watchdogs of both worlds run (spec/19 R537). -/
theorem superviseStart_spec (p) : (s.superviseStart p).modeNow = 1 ∧ (s.superviseStart p).rst.phase = 3 ∧
    (s.superviseStart p).now = s.now ∧ (s.superviseStart p).mgt.sWdt.isSome = true ∧ (s.superviseStart p).mgt.nsWdt.isSome = true := by
  unfold State.superviseStart
  extract_lets r s1 m s2 top s3 s4 s5 g s6 s7
  have hr : s7.r mdId (.mgt .MODE_current) = 1 := (r_w_same ..).trans (one_mod_width _)
  have hp : s7.rst.phase = 3 := rfl
  have hn : s7.now = s.now := by simp only [s7, s6, s5, s4, s3, s2, s1, w_now, setMgt_now]
  have hw : s7.mgt.sWdt.isSome = true ∧ s7.mgt.nsWdt.isSome = true := ⟨rfl, rfl⟩
  clear_value s7
  rw [modeNow_w _ _ _ _ (by decide), modeNow_logMgt, State.modeNow, hp, hr, w_rst, logMgt_rst, w_now, logMgt_now, w_mgt, logMgt_mgt]
  exact ⟨rfl, hp, hn, hw⟩

theorem exec_crystalValid_good {v : BitVec 16} (hp : s.rst.phase = 1) (hv : ppmOk v = true) :
    exec (.crystalValid (some v)) s = .next
      ((({ s with rst := { s.rst with phase := 2, at_ := s.now } } : State).ppm mdId 0 v).w mdId (.clk .STATUS_xtal_ok) 1) := by
  show execCrystalValid (some v) s = _
  simp [execCrystalValid, hp, hv]

theorem exec_crystalValid_bad {v : BitVec 16} (hp : s.rst.phase = 1) (hv : ppmOk v = false) :
    exec (.crystalValid (some v)) s = .next s := by
  show execCrystalValid (some v) s = _
  simp [execCrystalValid, hp, hv]

/-- Uptime stays on the internal oscillator (R617 step 2). -/
def State.onOscillator (s : State) : State := { s with rst := { s.rst with xtalOut := true } }

theorem onOscillator_now : s.onOscillator.now = s.now := rfl

theorem onOscillator_rst : s.onOscillator.rst = { s.rst with xtalOut := true } := rfl

theorem modeNow_onOscillator : s.onOscillator.modeNow = s.modeNow := rfl

theorem exec_crystalValid_none (hp : s.rst.phase = 1) :
    exec (.crystalValid none) s = .next (((s.advance (s.rst.at_ + 20000000)).superviseStart 0).onOscillator.trig 8 2) := by
  show execCrystalValid none s = _
  rw [execCrystalValid, if_neg (not_not.2 hp)]
  rfl

theorem modeNow_fwShow : s.fwShow.modeNow = s.modeNow := by
  simp only [State.fwShow, State.wb, modeNow_w, ne_eq, reduceCtorEq, Fld.mgt.injEq, not_false_eq_true]

theorem fwShow_kept : s.fwShow.rst = s.rst ∧ s.fwShow.now = s.now ∧ s.fwShow.mgt = s.mgt := ⟨rfl, rfl, rfl⟩

theorem modeNow_trig (c k) : (s.trig c k).modeNow = s.modeNow := (good_trig .self c k (Cover.refl _)).modeNow_eq rfl rfl

theorem exec_fuseLoadComplete (hp : s.rst.phase = 2) (hh : s.rst.held = false) (hc : s.rst.cold = true) :
    exec .fuseLoadComplete s = .next ((s.advance (s.rst.at_ + 174080)).superviseStart 0).fwShow := by
  show execFuseLoadComplete s = _
  simp [execFuseLoadComplete, hp, hh, hc]

/-! ### Straps and rails (R620, R621, R625) -/

theorem r_strapSet_valid (n) : (s.strapSet n).r mdId (.rst .STRAP_valid) = 1 := by
  simp [State.strapSet, r_wb, r_w_ne]

theorem r_strapSet_code {n : Nat} (hn : n < 16) : (s.strapSet n).r mdId (.rst .STRAP_code) = n := by
  simp [State.strapSet, r_wb, show (Fld.rst .STRAP_code).spec.width = 4 from rfl, Nat.mod_eq_of_lt hn]

/-- Beside the step, enabling a rail changes its enable and, at step 3, the set points of the core rails. -/
theorem r_railEnable {f : Fld} (he : f ≠ .pwr .STATUS_enabled) (hv : f ≠ .pwr .D_VOLT_set_mv) (k d i) :
    (s.railEnable k).r d f i = (s.w mdId (.pwr .STATUS_seq_step) (k + 1)).r d f i := by
  unfold State.railEnable
  extract_lets s1 s2
  have h2 : s2.r d f i = s1.r d f i := by
    subst s2
    split
    · exact foldS_keeps (v := fun (x : State) => x.r d f i) (fun x e => r_w_ne _ _ _ _ _ _ _ hv.symm) _
    · rfl
  exact (r_w_ne _ _ _ _ _ _ _ he.symm).trans h2

theorem r_railEnable_step {k : Nat} (hk : k < 15) : (s.railEnable k).r mdId (.pwr .STATUS_seq_step) = k + 1 := by
  rw [r_railEnable (by decide) (by decide)]
  exact (r_w_same ..).trans (Nat.mod_eq_of_lt (b := 16) (by omega))

theorem r_railEnable_pgood (k) : (s.railEnable k).r mdId (.pwr .STATUS_pgood) = s.r mdId (.pwr .STATUS_pgood) := by
  rw [r_railEnable (by decide) (by decide), r_w_ne _ _ _ _ _ _ _ (by decide)]

/-- Enabling a rail leaves what RST shows. -/
theorem r_railEnable_rst (k d) (f : RstF) (i) : (s.railEnable k).r d (.rst f) i = s.r d (.rst f) i := by
  rw [r_railEnable (by simp) (by simp), r_w_ne _ _ _ _ _ _ _ (by simp)]

theorem railEnable_now (k) : (s.railEnable k).now = s.now := (good_railEnable .self k (Cover.refl _)).kept .now rfl

theorem railEnable_rst (k) : (s.railEnable k).rst = s.rst := (good_railEnable .self k (Cover.refl _)).kept .rst rfl

theorem r_setRst (x : RstState) (d f i) : ({ s with rst := x } : State).r d f i = s.r d f i := rfl

theorem setRst_now (x : RstState) : ({ s with rst := x } : State).now = s.now := rfl

/-- Sixteen samples of one code that is not reserved set the strap and enable the first rail. -/
theorem exec_strapRead_code {l : List (BitVec 12)} {n : Nat} (hp : s.rst.phase = 3) (hl : l.length = 16)
    (hc : l.map strapCode = List.replicate 16 (some n)) (h1 : 1 ≤ n) (h13 : n ≤ 13) :
    ∃ u : State, exec (.strapRead l) s = .next
      (({ u.strapSet n with rst := { (u.strapSet n).rst with phase := 4, at_ := (u.strapSet n).now } } : State).railEnable 0) := by
  have he : exec (.strapRead l) s = execStrapRead l s := rfl
  rw [he, execStrapRead, if_neg (by simp [hp, hl])]
  simp only [hc]
  exact ⟨_, if_neg (by simp; omega)⟩

/-- A sample between codes leaves the strap not valid (R621). -/
theorem exec_strapRead_between {l : List (BitVec 12)} (hp : s.rst.phase = 3) (hl : l.length = 16)
    (hc : l.any (fun x => strapCode x = none) = true) :
    ∃ u : State, u.modeNow = s.modeNow ∧ exec (.strapRead l) s = .next ((u.w mdId (.rst .STRAP_valid) 0).trig 8 1) := by
  have he : exec (.strapRead l) s = execStrapRead l s := rfl
  rw [he, execStrapRead, if_neg (by simp [hp, hl])]
  extract_lets s1 s2 codes bad
  refine ⟨s2, (modeNow_w _ _ _ _ (by decide)).trans (modeNow_advance _), ?_⟩
  split
  · rfl
  · next n _ =>
    obtain ⟨x, hx, hn⟩ := List.any_eq_true.1 hc
    exact if_pos (.inl (List.any_eq_true.2 ⟨none, List.mem_map.2 ⟨x, hx, of_decide_eq_true hn⟩, by simp⟩))

/-- A bit that is set, in a register wide enough for it. -/
theorem testBit_setBit {v k w : Nat} (h : k < w) : (setBit v k true % 2 ^ w).testBit k = true := by
  simp [setBit, Nat.testBit_mod_two_pow, h]

/-- Rail k is good; at step 3 the core rails read back as they were set. -/
def State.railMarked (s : State) (k : Nat) : State :=
  let u := s.wbit mdId (.pwr .STATUS_pgood) k true
  if k = 2 then foldS (fun (s : State) d => s.w mdId (.pwr .D_VOLT_read_mv) 850 d) u (0 :: u.cds.map cdId) else u

theorem railMarked_spec {k : Nat} (hk : k < 5) : (s.railMarked k).rbit mdId (.pwr .STATUS_pgood) k = true ∧
    (s.railMarked k).now = s.now ∧ (s.railMarked k).rst = s.rst := by
  unfold State.railMarked
  extract_lets u
  have hu : u.rbit mdId (.pwr .STATUS_pgood) k = true := (congrArg (Nat.testBit · k) (r_w_same ..)).trans (testBit_setBit hk)
  have hn : u.now = s.now := wbit_now ..
  have hr : u.rst = s.rst := wbit_rst ..
  clear_value u
  split
  · refine ⟨?_, (foldS_keeps (v := State.now) (fun x d => w_now ..) _).trans hn,
      (foldS_keeps (v := State.rst) (fun x d => w_rst ..) _).trans hr⟩
    refine (foldS_keeps (v := fun (x : State) => x.rbit mdId (.pwr .STATUS_pgood) k) (fun x d => ?_) _).trans hu
    rw [State.rbit, State.rbit, r_w_ne _ _ _ _ _ _ _ (by decide)]
  · exact ⟨hu, hn, hr⟩

/-- The next wait of the sequence counts from here. -/
def State.waitsFrom (s : State) : State := { s with rst := { s.rst with at_ := s.now } }

theorem rbit_waitsFrom (d f n) : s.waitsFrom.rbit d f n = s.rbit d f n := rfl

theorem waitsFrom_now : s.waitsFrom.now = s.now := rfl

theorem waitsFrom_rst : s.waitsFrom.rst = { s.rst with at_ := s.now } := rfl

/-- After a rail step the gap of 100 µs passes (R625). -/
def State.railGood (s : State) (k : Nat) : State := ((s.railMarked k).advance ((s.railMarked k).now + 100000)).waitsFrom

theorem railGood_spec {k : Nat} (hk : k < 5) : (s.railGood k).rbit mdId (.pwr .STATUS_pgood) k = true ∧
    (s.railGood k).now = s.now + 100000 ∧ (s.railGood k).rst.phase = s.rst.phase := by
  obtain ⟨hg, hn, hr⟩ := railMarked_spec (s := s) hk
  rw [State.railGood, rbit_waitsFrom, waitsFrom_now, waitsFrom_rst, State.rbit, r_advance _ _ _ _ (by decide), advance_now, advance_rst,
    hr, hn]
  exact ⟨hg, by omega, rfl⟩

/-- A rail step that ends goes on with the next rail, and the last one with the clock check. -/
theorem exec_railStepComplete {k : Nat} (hk : k < 5) (hp : s.rst.phase = 4) (hq : s.r mdId (.pwr .STATUS_seq_step) = k + 1) :
    exec .railStepComplete s = .next (if k < 4 then (s.railGood k).railEnable (k + 1)
      else ({ s.railGood k with rst := { (s.railGood k).rst with phase := 5 } } : State).w mdId (.pwr .STATUS_seq_step) 6) := by
  have hb : between 1 (k + 1) 5 = true := by simp [between]; omega
  show execRailStepComplete s = _
  rw [execRailStepComplete, show s.r mdId (.pwr .STATUS_seq_step) - 1 = k by rw [hq, Nat.add_sub_cancel], if_neg (by simp [hp, hq, hb])]
  exact (apply_ite Host.Outcome.next _ _ _).symm

/-- A rail step that fails leaves every rail off, and the sequence failed (R625). -/
theorem railFails_spec (hm : modeHasRow s.modeNow 8 = true) :
    s.railFails.r mdId (.pwr .STATUS_enabled) = 0 ∧ s.railFails.r mdId (.pwr .STATUS_pgood) = 0 ∧
      s.railFails.r mdId (.pwr .STATUS_seq_step) = 8 ∧ (⟨8, 2⟩ : Trig) ∈ s.railFails.mode.trigs := by
  unfold State.railFails
  extract_lets n u
  have hr (f : PwrF) (hf : f ≠ .STATUS_seq_step) : u.r mdId (.pwr f) = s.railsOff.r mdId (.pwr f) :=
    (r_w_ne _ _ _ _ _ _ _ (by simpa using hf.symm)).trans (r_advance _ _ _ _ (by simp [Fld.block]))
  have hu : u.modeNow = s.modeNow := (modeNow_w _ _ _ _ (by decide)).trans <|
    (modeNow_advance _).trans ((good_railsOff .self (Cover.refl _)).modeNow_eq rfl rfl)
  simp only [r_trig]
  refine ⟨?_, ?_, r_w_same .., trig_mem _ _ (hu ▸ hm)⟩
  · rw [hr _ (by decide)]
    exact (r_w_ne _ _ _ _ _ _ _ (by decide)).trans ((r_w_same ..).trans (Nat.zero_mod _))
  · rw [hr _ (by decide)]
    exact (r_w_same ..).trans (Nat.zero_mod _)

theorem exec_railStepTimeout (hp : s.rst.phase = 4 ∨ s.rst.phase = 5) (h1 : 1 ≤ s.r mdId (.pwr .STATUS_seq_step))
    (h6 : s.r mdId (.pwr .STATUS_seq_step) ≤ 6) :
    ∃ u : State, u.modeNow = s.modeNow ∧ exec .railStepTimeout s = .next u.railFails := by
  have he : exec .railStepTimeout s = execRailStepTimeout s := rfl
  rw [he, execRailStepTimeout, if_pos ⟨hp, by simp [between, h1, h6]⟩]
  refine ⟨_, ?_, rfl⟩
  split
  · exact modeNow_advance _
  · rfl

/-! ### Clocks (R623, R625) -/

/-- CLK.STATUS.ref156_ok of a die. -/
def State.refOk (s : State) (d : Nat) : Nat := s.r d (.clk .STATUS_ref156_ok)

theorem refOk_w (d e) (f : Fld) (v i) (h : f ≠ .clk .STATUS_ref156_ok) : (s.w e f v i).refOk d = s.refOk d := r_w_ne _ _ _ _ _ _ _ h

theorem refOk_ppm (d e i v) : (s.ppm e i v).refOk d = s.refOk d :=
  (refOk_w _ _ _ _ _ (by decide)).trans (refOk_w _ _ _ _ _ (by decide))

theorem modeNow_ppm (e i v) : (s.ppm e i v).modeNow = s.modeNow :=
  (modeNow_w _ _ _ _ (by decide)).trans (modeNow_w _ _ _ _ (by decide))

/-- The clock check marks a die's reference valid and its PLL locked. -/
theorem refOk_clocked (d) : ((s.w d (.clk .STATUS_ref156_ok) 1).w d (.clk .STATUS_pll_lock) 1).refOk d = 1 :=
  (refOk_w _ _ _ _ _ (by decide)).trans (r_w_same ..)

/-- Every die of a list that is marked one by one shows its reference valid. -/
theorem refOk_foldS {d : Nat} {l : List Nat} (h : d ∈ l ∨ s.refOk d = 1) :
    (foldS (fun (s : State) d => (s.w d (.clk .STATUS_ref156_ok) 1).w d (.clk .STATUS_pll_lock) 1) s l).refOk d = 1 := by
  induction l generalizing s with
  | nil => exact h.resolve_left List.not_mem_nil
  | cons e l ih =>
    by_cases he : e = d
    · exact ih (.inr (he ▸ refOk_clocked e))
    · refine ih (h.imp (fun h => (List.mem_cons.1 h).resolve_left (Ne.symm he)) fun h => ?_)
      rw [refOk_w _ _ _ _ _ (by decide), State.refOk, r_w, if_neg fun x => he x.1]
      exact h

/-- With the references in range the sequence is complete, the clocks show it, and Proofing may begin. -/
theorem exec_clockCheckComplete {r : BitVec 16} {l : List (BitVec 16)} {e : Option (BitVec 16)} (hp : s.rst.phase = 5)
    (hq : s.r mdId (.pwr .STATUS_seq_step) = 6) (hr : ppmOk r = true) (hl : l.length = s.channels) (ha : l.all ppmOk = true) :
    ∃ u : State, u.modeNow = s.modeNow ∧ u.ep.refclk = e.any ppmOk ∧ u.refOk 0 = 1 ∧
      exec (.clockCheckComplete r l e) s = .next ((u.w mdId (.pwr .STATUS_seq_step) 7).trig 8) := by
  have he : exec (.clockCheckComplete r l e) s = execClockCheckComplete r l e s := rfl
  rw [he, execClockCheckComplete, if_neg (by simp only [hp, hq, hr, hl, ha]; simp)]
  extract_lets s1 s2 s3 s4 ok s5 x s6
  have hm1 : s1.modeNow = s.modeNow := modeNow_advance _
  have h2 : s2.refOk 0 = 1 := refOk_foldS (.inl (by simp [State.dies]))
  have hm2 : s2.modeNow = s1.modeNow := foldS_keeps (v := State.modeNow)
    (fun x d => (modeNow_w _ _ _ _ (by decide)).trans (modeNow_w _ _ _ _ (by decide))) _
  clear_value s2
  have h4 : s4.refOk 0 = s2.refOk 0 :=
    (foldS_keeps (v := (State.refOk · 0)) (fun x e => (refOk_w _ _ _ _ _ (by decide)).trans (refOk_ppm ..)) _).trans (refOk_ppm ..)
  have hm4 : s4.modeNow = s2.modeNow :=
    (foldS_keeps (v := State.modeNow) (fun x e => (modeNow_w _ _ _ _ (by decide)).trans (modeNow_ppm ..)) _).trans (modeNow_ppm ..)
  clear_value s4
  obtain ⟨h5, hm5⟩ : s5.refOk 0 = s4.refOk 0 ∧ s5.modeNow = s4.modeNow := by
    subst s5
    split
    · exact ⟨(refOk_w _ _ _ _ _ (by decide)).trans (refOk_ppm ..), (modeNow_w _ _ _ _ (by decide)).trans (modeNow_ppm ..)⟩
    · exact ⟨rfl, rfl⟩
  clear_value s5
  exact ⟨s6, hm5.trans (hm4.trans (hm2.trans hm1)), rfl, h5.trans (h4.trans h2), rfl⟩

/-! ### The release of the dies (R617 steps 6 to 8) -/

theorem ringShow_now : s.ringShow.now = s.now := (good_ringShow .self (Cover.refl _)).kept .now rfl

theorem ringShow_rst : s.ringShow.rst = s.rst := (good_ringShow .self (Cover.refl _)).kept .rst rfl

theorem exec_dieReleaseStep_lattice {k : Bool} {d : Nat} (hp : s.rst.phase = 6)
    (hf : (0 :: s.cds.map cdId).find? (fun d => !s.rst.lat.contains d) = some d) :
    exec (.dieReleaseStep k) s = .next ({ s.advance (s.rst.at_ + 2560) with
      rst := { (s.advance (s.rst.at_ + 2560)).rst with lat := (s.advance (s.rst.at_ + 2560)).rst.lat ++ [d]
                                                       at_ := (s.advance (s.rst.at_ + 2560)).now } } : State).ringShow := by
  show execDieReleaseStep k s = _
  rw [execDieReleaseStep, if_pos hp, hf]

/-- The next channel die of the order is freed; after COLD its stack is initialised first. -/
theorem exec_dieReleaseStep_channel {k : Bool} {d : Nat} (hp : s.rst.phase = 7) (h0 : s.rst.freed.contains 0 = true)
    (hc : s.rst.cold = true)
    (hf : (s.cds.map cdId).find? (fun d => !s.rst.freed.contains d && !(s.dieBits d).testBit 1) = some d) :
    ∃ u : State, u.rst = s.rst ∧ exec (.dieReleaseStep k) s = .next
      { u with rst := { u.rst with freed := u.rst.freed ++ [d], at_ := u.now, stackInit := u.rst.stackInit ++ [d] } } := by
  have he : exec (.dieReleaseStep k) s = execDieReleaseStep k s := rfl
  rw [he, execDieReleaseStep, if_neg (by simp [hp]), if_pos hp, if_neg (by simp only [h0]; decide), hf]
  extract_lets u r
  have hu : u.rst = s.rst := by
    subst u
    split
    · rfl
    · exact advance_rst _
  exact ⟨u, hu, if_pos (show u.rst.cold = true by rw [hu, hc])⟩

/-! ### The known-answer test of a die's cipher engine (spec/14 R405) -/

/-- CIP.STATUS.kat_pass of a die. -/
def State.katPass (s : State) (d : Nat) : Nat := s.r d (.cip .STATUS_kat_pass)

theorem Good.katPass_eq (h : Good M s False t) (d) (hf : M.testBit 112 = false) : t.katPass d = s.katPass d :=
  h.r_eq d (.cip .STATUS_kat_pass) 0 hf

theorem katPass_w (d e) (f : Fld) (v i) (h : f ≠ .cip .STATUS_kat_pass) : (s.w e f v i).katPass d = s.katPass d :=
  r_w_ne _ _ _ _ _ _ _ h

theorem katPass_ev (d e) (f : Fld) (h : f ≠ .cip .STATUS_kat_pass) : (s.ev e f).katPass d = s.katPass d := by
  rw [State.katPass, State.katPass, r_ev, if_neg fun x => h x.2.1]

theorem katPass_ite {c : Prop} [Decidable c] {a b : State} (d) (ha : a.katPass d = s.katPass d) (hb : b.katPass d = s.katPass d) :
    (if c then a else b).katPass d = s.katPass d := by
  split
  · exact ha
  · exact hb

theorem katPass_bump (d e k n i) : (s.bump e 0x28 k n i).katPass d = s.katPass d := by
  refine r_bump_of_not_shown (by simp [Fld.block]) ?_ ..
  rintro o e v hb
  cases hb
  simp

theorem katPass_sealTake (d e) : (s.sealTake e).katPass d = s.katPass d := by
  unfold State.sealTake
  extract_lets n u
  have hu : u.katPass d = s.katPass d := katPass_w _ _ _ _ _ (by decide)
  exact katPass_ite d hu ((katPass_ev _ _ _ (by decide)).trans ((katPass_w _ _ _ _ _ (by decide)).trans hu))

theorem katPass_sealRefuse (d e) : (s.sealRefuse e).katPass d = s.katPass d :=
  (katPass_ev _ _ _ (by decide)).trans (katPass_ev _ _ _ (by decide))

/-- A frame to the partner is sealed by the port die's engine, which stays as tested. -/
theorem katPass_sendPartner (d ty ch body data) : (s.sendPartner ty ch body data).katPass d = s.katPass d := by
  unfold State.sendPartner
  extract_lets clear p n s1 s2
  have h2 : s2.katPass d = s1.katPass d := katPass_ite d rfl ((katPass_bump ..).trans (katPass_sealTake ..))
  have h3 : (s2.pairBump 0 0).katPass d = s2.katPass d := r_bump _ _ _ _ _ _ _ _ (by decide) (by decide)
  exact katPass_ite d rfl (katPass_ite d (katPass_sealRefuse ..) (h3.trans h2))

theorem katPass_handoverAsk (d m) : (s.handoverAsk m).katPass d = s.katPass d := by
  unfold State.handoverAsk
  extract_lets p u
  have hu : u.katPass d = (s.setPair p).katPass d := katPass_sendPartner d 8 255 _ _
  have hp : (s.setPair p).katPass d = s.katPass d := rfl
  refine (foldS_keeps (v := (State.katPass · d)) (fun x c => ?_) _).trans (hu.trans hp)
  exact katPass_ite d ((good_nsmShow .self _ (Cover.refl _)).katPass_eq d rfl) rfl

/-- The failure of a channel uses a cipher engine to ask for a handover only. -/
theorem katPass_channelFails (d e) : (s.channelFails e).katPass d = s.katPass d := by
  unfold State.channelFails
  split
  · rfl
  extract_lets dirty mirrored s1 s2 s3 s4 s5 mo s6 s7 ask s8 es mo' s9 s10 s11
  have h1 : s1.katPass d = s.katPass d := foldS_keeps (v := (State.katPass · d))
    (fun x z => katPass_ite d ((good_completeWith .self _ _ _ _ _ (Cover.refl _)).katPass_eq d rfl) rfl) _
  have h2 : s2.katPass d = s1.katPass d := (good_dropContexts .self _ (Cover.refl _)).katPass_eq d rfl
  have h3 : s3.katPass d = s2.katPass d := katPass_ite d ((good_flushStop .self _ (Cover.refl _)).katPass_eq d rfl) rfl
  have h4 : s4.katPass d = s3.katPass d := (katPass_w _ _ _ _ _ (by decide)).trans (katPass_w _ _ _ _ _ (by decide))
  clear_value s4
  have h6 : s6.katPass d = s4.katPass d := rfl
  have h7 : s7.katPass d = s6.katPass d := foldS_keeps (v := (State.katPass · d))
    (fun x c => (good_nsmShow .self _ (Cover.refl _)).katPass_eq d rfl) _
  have h8 : s8.katPass d = s7.katPass d := katPass_ite d (katPass_handoverAsk ..) rfl
  have h9 : s9.katPass d = s8.katPass d := katPass_ite d rfl rfl
  have h10 : s10.katPass d = s9.katPass d := katPass_ite d ((good_mirrorShow .self (Cover.refl _)).katPass_eq d rfl) rfl
  have h11 : s11.katPass d = s10.katPass d := katPass_ite d ((good_trig .self _ _ (Cover.refl _)).katPass_eq d rfl) rfl
  calc _ = s11.katPass d := (good_flushEnds .self (Cover.refl _)).katPass_eq d rfl
    _ = s4.katPass d := by rw [h11, h10, h9, h8, h7, h6]
    _ = s.katPass d := by rw [h4, h3, h2, h1]

theorem katPass_dieFails (d e) : (s.dieFails e).katPass d = s.katPass d := by
  unfold State.dieFails
  extract_lets s1 s2 s3
  have h2 : s2.katPass d = s1.katPass d :=
    (katPass_ev _ _ _ (by decide)).trans ((good_setDie .self _ _ (Cover.refl _)).katPass_eq d rfl)
  exact h2.trans (katPass_channelFails ..)

theorem Good.dieBits_eq (h : Good M s False t) (d) (hf : M.testBit 46 = false) : t.dieBits d = s.dieBits d := by
  rw [State.dieBits, State.dieBits, h.r_eq mdId (.rst .DIE_STATE_dies) 0 hf]

theorem dieBits_w (d e) (f : Fld) (v i) (h : f ≠ .rst .DIE_STATE_dies) : (s.w e f v i).dieBits d = s.dieBits d := by
  rw [State.dieBits, State.dieBits, r_w_ne _ _ _ _ _ _ _ h]

theorem dieBits_ev (d e) (f : Fld) (h : f ≠ .rst .DIE_STATE_dies) : (s.ev e f).dieBits d = s.dieBits d := by
  rw [State.dieBits, State.dieBits, r_ev, if_neg fun x => h x.2.1]

theorem dieBits_lt (d) : s.dieBits d < 16 := Nat.mod_lt _ (by decide)

/-- A die that fails is in reset, held out and bypassed. -/
theorem dieBits_dieFails {d : Nat} (hd : d < 8) : (s.dieFails d).dieBits d % 8 = 7 := by
  unfold State.dieFails
  extract_lets s1 s2 s3
  have hlt := dieBits_lt (s := s1) d
  have h2 : s2.dieBits d = 7 + s1.dieBits d / 8 * 8 := (dieBits_ev _ _ _ (by decide)).trans (dieBits_setDie hd (by omega))
  have h3 : s3.dieBits d = 7 + s1.dieBits d / 8 * 8 := h2
  show s3.dieBits d % 8 = 7
  omega

/-- The test's result stands in STATUS, whatever its failure sets off. -/
theorem katPass_cipherKat (d ok) : (s.cipherKat d ok).katPass d = ok.toNat := by
  unfold State.cipherKat
  extract_lets s1 s2
  have h1 : s1.katPass d = ok.toNat := by
    cases ok
    · exact r_w_same ..
    · exact r_w_same ..
  have h2 : s2.katPass d = s1.katPass d := katPass_ev _ _ _ (by decide)
  split
  · exact h1
  · split
    · exact (r_trig ..).trans (h2.trans h1)
    · exact (katPass_dieFails ..).trans (h2.trans h1)

theorem cipherKat_port_rst (ok) : (s.cipherKat 0 ok).rst = s.rst := by
  unfold State.cipherKat
  extract_lets s1 s2
  split
  · rfl
  · rw [if_pos rfl, State.fatal, trig_rst, ev_rst]
    rfl

/-- A channel die that fails its test is held out. -/
theorem dieBits_cipherKat_failed {d : Nat} (h0 : d ≠ 0) (hd : d < 8) : (s.cipherKat d false).dieBits d % 8 = 7 := by
  unfold State.cipherKat
  rw [if_neg (by decide), if_neg h0]
  exact dieBits_dieFails hd

/-- The port die's remainder is released first, with its test. -/
theorem exec_dieReleaseStep_port {k : Bool} (hp : s.rst.phase = 7) (h0 : s.rst.freed.contains 0 = false) :
    ∃ u : State, u.rst.freed = [0] ∧ exec (.dieReleaseStep k) s = .next (u.cipherKat 0 k) := by
  have he : exec (.dieReleaseStep k) s = execDieReleaseStep k s := rfl
  rw [he, execDieReleaseStep, if_neg (by simp [hp]), if_pos hp, if_pos (by simp only [h0]; decide)]
  exact ⟨_, congrArg RstState.freed ((good_setDie .self _ _ (Cover.refl _)).kept .rst rfl), rfl⟩

/-! ### A channel die's engines are released (R617, R618) -/

/-- What the release of a die shows in RST: its four bits, and its watchdog's deadline. -/
def State.runShown (s : State) (d : Nat) : Nat × Option Nat := (s.dieBits d, alGet s.rst.wdt d)

theorem Good.runShown_eq (h : Good M s False t) (d) (hf : M.testBit 46 = false) (hr : M.testBit 29 = false) :
    t.runShown d = s.runShown d :=
  Prod.ext (h.dieBits_eq d hf) (congrArg (fun (r : RstState) => alGet r.wdt d) (h.kept .rst hr))

theorem runShown_w (d e) (f : Fld) (v i) (h : f ≠ .rst .DIE_STATE_dies) : (s.w e f v i).runShown d = s.runShown d :=
  Prod.ext (dieBits_w _ _ _ _ _ h) rfl

theorem runShown_ite {c : Prop} [Decidable c] {a b : State} (d) (ha : a.runShown d = s.runShown d)
    (hb : b.runShown d = s.runShown d) : (if c then a else b).runShown d = s.runShown d := by
  split
  · exact ha
  · exact hb

/-- A die is released up to its known-answer test: its reset ends, and its watchdog runs from now. -/
theorem dieRuns_eq_cipherKat {d : Nat} (hd : d < 8) : ∃ u : State, (∀ k, s.dieRuns d k = u.cipherKat d k) ∧
    u.runShown d = (s.dieBits d / 8 * 8, some (s.now + 1000000 * s.r d (.rst .WDT_CFG_timeout_ms))) := by
  unfold State.dieRuns
  extract_lets s1 v dt s2 r3 s3 s4 s5 s6 r7 s7 s8
  refine ⟨_, fun k => rfl, ?_⟩
  have hlt := dieBits_lt (s := s) d
  have hg1 : Good 0x10400000000000 s False s1 := good_setDie .self _ _ (Cover.refl _)
  have hb1 : s1.dieBits d = s.dieBits d / 8 * 8 := dieBits_setDie hd (by omega)
  have hw1 : s1.r d (.rst .WDT_CFG_timeout_ms) = s.r d (.rst .WDT_CFG_timeout_ms) :=
    ((good_ringShow .self (Cover.refl _)).r_eq _ _ _ rfl).trans (r_w_ne _ _ _ _ _ _ _ (by decide))
  have h2 : s2.dieBits d = s1.dieBits d ∧ s2.now = s1.now ∧ s2.r d (.rst .WDT_CFG_timeout_ms) = s1.r d (.rst .WDT_CFG_timeout_ms) := by
    subst s2
    split
    · have hg (y) : Good 0x100000000240 s1 False (s1.setDieTime d y) := good_setDieTime .self _ _ (Cover.refl _)
      exact ⟨(hg _).dieBits_eq d rfl, (hg _).now_eq rfl, (hg _).r_eq d (.rst .WDT_CFG_timeout_ms) 0 rfl⟩
    · exact ⟨rfl, rfl, rfl⟩
  obtain ⟨hb2, hn2, hw2⟩ := h2
  have h3 : s3.runShown d = (s.dieBits d / 8 * 8, some (s.now + 1000000 * s.r d (.rst .WDT_CFG_timeout_ms))) := by
    refine Prod.ext (hb2.trans hb1) ((alGet_alPut_same _ _ _).trans ?_)
    rw [hn2, hw2, hw1, hg1.now_eq rfl]
  clear_value s3
  have h4 : s4.runShown d = s3.runShown d := runShown_ite d rfl (runShown_w _ _ _ _ _ (by decide))
  have h6 : s6.runShown d = s4.runShown d := (runShown_w _ _ _ _ _ (by decide)).trans (runShown_w _ _ _ _ _ (by decide))
  have h7 : s7.runShown d = s6.runShown d := rfl
  have h8 : s8.runShown d = s7.runShown d := foldS_keeps (v := (State.runShown · d)) (fun x b => by
    dsimp only
    split
    · have hb : ((x.wbit d (.drv .STATUS_present) b true).bayState d b 1).runShown d = x.runShown d :=
        ((good_bayState .self _ _ _ _ (Cover.refl _)).runShown_eq d rfl rfl).trans (runShown_w _ _ _ _ _ (by decide))
      exact runShown_ite d hb hb
    · rfl) _
  calc _ = ((s8.epJoin d).ceilingShow d).runShown d := (good_crumbShow .self _ (Cover.refl _)).runShown_eq d rfl rfl
    _ = (s8.epJoin d).runShown d := (good_ceilingShow .self _ (Cover.refl _)).runShown_eq d rfl rfl
    _ = s8.runShown d := (good_epJoin .self _ (Cover.refl _)).runShown_eq d rfl rfl
    _ = _ := by rw [h8, h7, h6, h4, h3]

theorem exec_stackInitComplete {c : Cd} {k : Bool} (h : s.rst.stackInit.contains (cdId c) = true) :
    exec (.stackInitComplete c k) s = .next (s.dieRuns (cdId c) k) := by
  show execStackInitComplete c k s = _
  rw [execStackInitComplete, if_pos h]

end Sys2Proof.Machine

open Sys2Proof Sys2Proof.Machine

/-- Settles O55: each step of the release order is read off what its command leaves of the clocks, rails and dies. -/
theorem releaseOrder : Obligations.ReleaseOrder := by
  refine ⟨?_, ?_, ?_, ?_, ?_, ?_, ?_, ?_, ?_, ?_⟩
  · rintro s ⟨hp, hh⟩
    exact ⟨_, exec_powerOnRelease hp hh, rfl, rfl⟩
  · intro v s hp
    cases v with
    | none =>
      obtain ⟨hm, -, hn, -⟩ := superviseStart_spec (s := s.advance (s.rst.at_ + 20000000)) 0
      refine ⟨_, exec_crystalValid_none hp, nofun, fun _ => ⟨?_, ?_, trig_mem _ _ ?_, ?_⟩⟩
      · rw [modeNow_trig, modeNow_onOscillator, hm]
      · rw [trig_rst, onOscillator_rst]
      · rw [modeNow_onOscillator, hm]
        rfl
      · rw [trig_now, onOscillator_now, hn, advance_now]
    | some v =>
      by_cases hv : ppmOk v = true
      · exact ⟨_, exec_crystalValid_good hp hv, fun _ => ⟨rfl, (r_w_same ..).trans (one_mod_width _)⟩, nofun⟩
      · exact ⟨_, exec_crystalValid_bad hp (Bool.not_eq_true _ ▸ hv), fun h => absurd h hv, nofun⟩
  · rintro s ⟨hp, hh, hc⟩
    obtain ⟨hm, hph, hn, hw⟩ := superviseStart_spec (s := s.advance (s.rst.at_ + 174080)) 0
    obtain ⟨hr, hnow, hmgt⟩ := fwShow_kept (s := (s.advance (s.rst.at_ + 174080)).superviseStart 0)
    refine ⟨_, exec_fuseLoadComplete hp hh hc, ?_, modeNow_fwShow.trans hm, ?_, ?_⟩
    · rw [hr, hph]
    · rw [hnow, hn, advance_now]
    · rw [hmgt]
      exact hw
  · rintro l n s ⟨hp, hl, hm⟩
    by_cases hb : l.any (fun x => strapCode x = none) = true
    · obtain ⟨u, hu, he⟩ := exec_strapRead_between hp hl hb
      refine ⟨_, he, fun hc => ?_, fun _ => ⟨(r_trig ..).trans (r_w_same ..), trig_mem _ _ ?_⟩⟩
      · obtain ⟨x, hx, hn⟩ := List.any_eq_true.1 hb
        have : strapCode x = some n.val := List.eq_of_mem_replicate (hc ▸ List.mem_map_of_mem hx)
        simp [this] at hn
      · rw [modeNow_w _ _ _ _ (by decide), hu, hm]
    · by_cases hc : l.map strapCode = List.replicate 16 (some n.val) ∧ 1 ≤ n.val ∧ n.val ≤ 13
      · obtain ⟨hc, h1, h13⟩ := hc
        obtain ⟨u, he⟩ := exec_strapRead_code hp hl hc h1 h13
        refine ⟨_, he, fun _ _ _ => ⟨?_, ?_, ?_, r_railEnable_step (by decide)⟩, fun h => absurd h hb⟩
        · rw [r_railEnable_rst, r_setRst, r_strapSet_valid]
        · rw [r_railEnable_rst, r_setRst, r_strapSet_code n.isLt]
        · rw [railEnable_rst]
      · obtain ⟨t, ht, -⟩ := outGood_exec (.strapRead l) s
        exact ⟨t, ht, fun h h1 h13 => absurd ⟨h, h1, h13⟩ hc, fun h => absurd h hb⟩
  · rintro k s ⟨hp, hq⟩
    obtain ⟨hg, hn, hph⟩ := railGood_spec (s := s) k.isLt
    refine ⟨_, exec_railStepComplete k.isLt hp hq, ?_⟩
    by_cases h4 : k.val < 4
    · rw [if_pos h4, if_neg (by omega), r_railEnable_step (by omega), railEnable_now, railEnable_rst, State.rbit, r_railEnable_pgood]
      exact ⟨hg, rfl, hn, hph.trans hp⟩
    · have hk : k.val = 4 := by omega
      rw [if_neg h4, if_pos hk, r_w_same, w_now, w_rst, State.rbit, r_w_ne _ _ _ _ _ _ _ (by decide), r_setRst, setRst_now]
      exact ⟨hg, by rw [hk]; rfl, hn, rfl⟩
  · rintro s ⟨hp, h1, h6, hm⟩
    obtain ⟨u, hu, he⟩ := exec_railStepTimeout hp h1 h6
    exact ⟨_, he, railFails_spec (hu ▸ hm)⟩
  · rintro r l e s ⟨hp, hq, hr, hl, ha, hm⟩
    obtain ⟨u, hu, hep, href, he⟩ := exec_clockCheckComplete hp hq hr hl ha (e := e)
    refine ⟨_, he, ?_, trig_mem _ _ ?_, ?_, ?_⟩
    · exact (r_trig ..).trans (r_w_same ..)
    · rw [modeNow_w _ _ _ _ (by decide), hu, hm]
    · rw [trig_ep, w_ep, hep]
    · exact (r_trig ..).trans ((refOk_w _ _ _ _ _ (by decide)).trans href)
  · rintro k d s ⟨hp, hf⟩
    refine ⟨_, exec_dieReleaseStep_lattice hp hf, ?_, ?_⟩
    · rw [ringShow_rst]
      simp only [advance_rst]
    · rw [ringShow_now]
      exact advance_now _
  · rintro k d s ⟨hp, hf⟩
    by_cases h0 : s.rst.freed.contains 0 = true
    · obtain ⟨hc, hd⟩ := hf h0
      obtain ⟨u, hu, he⟩ := exec_dieReleaseStep_channel hp h0 hc hd
      exact ⟨_, he, fun h => absurd h0 (by rw [h]; decide), fun _ => ⟨by simp only [hu], by simp only [hu]⟩⟩
    · obtain ⟨u, hu, he⟩ := exec_dieReleaseStep_port (k := k) hp (Bool.not_eq_true _ ▸ h0)
      exact ⟨_, he, fun _ => ⟨by rw [cipherKat_port_rst, hu], katPass_cipherKat 0 k⟩, fun h => absurd h h0⟩
  · intro c k s hc
    have hd : cdId c < 8 := by have := c.isLt; unfold cdId; omega
    obtain ⟨u, hr, hu⟩ := dieRuns_eq_cipherKat (s := s) hd
    refine ⟨_, exec_stackInitComplete hc, ?_, ?_⟩
    · rintro rfl
      rw [hr]
      have hs : (u.cipherKat (cdId c) true).runShown (cdId c) = u.runShown (cdId c) := runShown_w _ _ _ _ _ (by decide)
      obtain ⟨hb, hw⟩ := Prod.mk.inj (hs.trans hu)
      exact ⟨by omega, hw⟩
    · rintro rfl
      rw [hr]
      exact ⟨dieBits_cipherKat_failed (by simp [cdId]) hd, katPass_cipherKat ..⟩

end

section
/-! PROOFS. One step (spec/00, Names and numbering): what it does with a command that waits, and what an idle nanosecond leaves. -/

open Sys2Proof Sys2Proof.Machine

/-- Settles O1: that is what a step does with a queue that has a front. -/
theorem stepRunsFront : Obligations.StepRunsFront := by
  intro c s rest
  rfl

/-- Settles O2: an idle step lets uptime go on by a nanosecond, which the performance counters follow and nothing else does. -/
theorem emptyQueueIdles : Obligations.EmptyQueueIdles := by
  intro s hq
  have hstep : step s = .next (s.advance (s.now + 1)) := by rw [step, hq]
  refine ⟨_, hstep, ?_, (advance_pending _).trans hq, advance_kept s _⟩
  rw [advance_now, Nat.max_eq_right (Nat.le_succ _)]

end

section
/-! PROOFS. The end of patrol's visit to a stripe (spec/21 R598): a repair write that waited for the stripe takes its lock (spec/11
R323, log entry 109). -/

namespace Sys2Proof.Machine

variable {s : State} {d g : Nat}

/-! ### Groups, and drive commands that are out -/

@[simp] theorem grp_setGrp_same (x : Group) : (s.setGrp d g x).grp_ d g = x := by
  have h : (s.setGrp d g x).grp = { s.grp with groups := alPut s.grp.groups (d, g) x } := rfl
  rw [State.grp_, h, alGet_alPut_same, Option.getD_some]

@[simp] theorem rshOf_setGrp (x : Group) (e k) : (s.setGrp d g x).rshOf e k = s.rshOf e k := by
  rw [State.rshOf, State.rshOf, (good_setGrp .self d g x (Cover.refl _)).kept .rsh rfl]

theorem grp_congr {t : State} (h : t.grp = s.grp) (d g) : t.grp_ d g = s.grp_ d g := by
  rw [State.grp_, State.grp_, h]

/-- A group in no reshape has one layout, in which every one of its stripes lies. -/
theorem stripeLive_of_no_reshape {t : Nat} (hr : s.rshOf d g = none) (ht : t < 2 ^ 63) (hf : (s.grp_ d g).flag = 0) :
    s.stripeLive d g t = true := by
  simpa [State.stripeLive, State.viewB, hr, hf] using ht

/-- The write gate is read off the mode, the die's registers and the tables of the pair. -/
theorem gatePasses_setGrp (x : Group) (b o) : (s.setGrp d g x).gatePasses d b o = s.gatePasses d b o := by
  have h : Good 0x400000000000000000000080000 s False (s.setGrp d g x) := good_setGrp .self _ _ _ (Cover.refl _)
  have hp : (s.setGrp d g x).pair = s.pair := h.kept .pair rfl
  unfold State.gatePasses State.rb
  rw [h.modeNow_eq rfl rfl, h.r_eq mdId (.pair .STATUS_claim_granted) 0 rfl, h.r_eq d (.drv .STATUS_write_gate) 0 rfl, hp]

theorem drvSend_drv (c) : (s.drvSend c).drv = s.drv := by
  unfold State.drvSend
  extract_lets u v w
  have hu : u.drv = s.drv := bump_drv ..
  have hv : v.drv = u.drv := by
    subst v
    split
    · exact bump_drv ..
    · split
      · exact bump_drv ..
      · rfl
  have hw : w.drv = v.drv := by
    subst w
    split
    · exact bump_drv ..
    · rfl
  rw [emit_drv, hw, hv, hu]

/-- A command that the write gate passes is out, be it sent or held back at its root port. -/
theorem drvQuiet_drvIssue_write {b lba n pos : Nat} {o : DrvOwner} {data : List Block} (hg : s.gatePasses d b o = true) :
    (s.drvIssue d b 1 lba n o pos data).drvQuiet d o = false := by
  unfold State.drvIssue
  rw [if_neg (by simp [hg])]
  extract_lets cid hold c u r v x
  have hc : c ∈ v.drv.cmds := List.mem_append_right _ (List.mem_singleton.2 rfl)
  have hq {t : State} (h : t.drv = v.drv) : t.drvQuiet d o = false := by
    rw [State.drvQuiet, h, Bool.not_eq_false', List.any_eq_true]
    exact ⟨c, hc, by simp [c]⟩
  split
  · exact hq rfl
  · exact hq (drvSend_drv _)

/-! ### A repair write that waits for a stripe -/

/-- One repair write waits in a group that is in no reshape: that of stripe t to position p, which has a drive. The write gate
passes it. -/
structure State.RepairWaits (s : State) (d g t p i : Nat) (b : Block) : Prop where
  waits : (s.grp_ d g).repairs = [(t, p, i, b)]
  present : (s.grp_ d g).present p = true
  flag : (s.grp_ d g).flag = 0
  stripe : t < 2 ^ 63
  reshape : s.rshOf d g = none
  gate : s.gatePasses d (((s.grp_ d g).serving.getD p none).getD 0) { kind := 14, a := g, b := t } = true

variable {t p i : Nat} {b : Block}

/-- A repair write that is issued is out, and leaves the group as it was put back. -/
theorem repair_issued {x : Group} {bay lba p : Nat} {o : DrvOwner} {l : List Block} (hg : s.gatePasses d bay o = true) :
    ((((s.setGrp d g x).drvIssue d bay 1 lba 1 o p l).grpBump d 7).grp_ d g = x) ∧
      (((s.setGrp d g x).drvIssue d bay 1 lba 1 o p l).grpBump d 7).drvQuiet d o = false := by
  have hgrp : (((s.setGrp d g x).drvIssue d bay 1 lba 1 o p l).grpBump d 7).grp = (s.setGrp d g x).grp :=
    (bump_grp ..).trans ((good_drvIssue .self _ _ _ _ _ _ _ _ (Cover.refl _)).kept .grp rfl)
  rw [grp_congr hgrp, grp_setGrp_same, State.drvQuiet, State.grpBump, bump_drv]
  exact ⟨rfl, drvQuiet_drvIssue_write ((gatePasses_setGrp ..).trans hg)⟩

/-- A repair write whose stripe is free takes the stripe's lock, and holds it while the write is out. -/
theorem State.RepairWaits.mem_locks_startRepairs (h : s.RepairWaits d g t p i b) (hl : t ∉ (s.grp_ d g).locks) :
    t ∈ ((s.startRepairs d g).grp_ d g).locks := by
  obtain ⟨hw, hp, hf, ht, hr, hg⟩ := h
  have hv : s.viewT d g t = s.grp_ d g := if_neg (Nat.not_le.2 ht)
  rw [State.startRepairs, hw]
  simp only [foldS, hv, List.contains_iff_mem, if_neg hl]
  generalize hx : ({ s.grp_ d g with repairs := _, locks := _ } : Group) = x
  have hlive : (s.setGrp d g x).stripeLive d g t = true :=
    stripeLive_of_no_reshape ((rshOf_setGrp ..).trans hr) ht (by rw [grp_setGrp_same, ← hx]; exact hf)
  rw [hlive, hp, Bool.and_self, if_pos rfl]
  obtain ⟨hk, hq⟩ := repair_issued (x := x) (lba := (s.grp_ d g).lbaOf t i) (p := p) (l := [b]) hg
  rw [hq, if_neg Bool.false_ne_true, hk, ← hx]
  exact List.mem_append_right _ (List.mem_singleton.2 rfl)

/-- Locks that change leave a repair write waiting. -/
theorem State.RepairWaits.setGrp {l : List Nat} {q : List (Nat × Nat)} (h : s.RepairWaits d g t p i b) :
    (s.setGrp d g { s.grp_ d g with locks := l, quietSince := q }).RepairWaits d g t p i b := by
  obtain ⟨hw, hp, hf, ht, hr, hg⟩ := h
  refine ⟨?_, ?_, ?_, ht, (rshOf_setGrp ..).trans hr, ?_⟩
  · rw [grp_setGrp_same]; exact hw
  · rw [grp_setGrp_same]; exact hp
  · rw [grp_setGrp_same]; exact hf
  · rw [grp_setGrp_same]; exact (gatePasses_setGrp ..).trans hg

/-- The lock of a stripe that is unlocked passes to the repair write that waits for it. -/
theorem State.RepairWaits.mem_locks_unlock (h : s.RepairWaits d g t p i b) : t ∈ ((s.unlock d g [t]).grp_ d g).locks := by
  unfold State.unlock
  refine h.setGrp.mem_locks_startRepairs ?_
  rw [grp_setGrp_same]
  simp

/-! ### Patrol's visit ends -/

/-- Patrol's visit to a stripe that has been checked ends with its release. -/
theorem exec_patrolStripe_checked {c : Cd} {t : Nat} (hu : s.cdUp (cdId c) = true ∧ s.modeNow ≠ 0xB) (hw : s.workRuns = true)
    (hv : (s.bg (cdId c)).patrol = some (g, t, 2)) (hq : s.drvQuiet (cdId c) (patrolOwner g t) = true)
    (hg : s.patrols (cdId c) g = true) :
    exec (.patrolStripe c) s = .next ((s.drvTake (cdId c) (patrolOwner g t)).patrolMoves (cdId c) g t true) := by
  show execPatrolStripe c s = _
  rw [execPatrolStripe, onCd_of_up hu]
  simp [hw, hv, hq, hg]

/-- Beside the lock, the end of a visit changes what patrol itself keeps. -/
theorem patrolMoves_grp (t w) : (s.patrolMoves d g t w).grp = (s.unlock d g [t]).grp := by
  unfold State.patrolMoves
  extract_lets x u y v v'
  have hv' : v'.grp = v.grp := bump_grp ..
  split
  · rfl
  · split
    · exact hv'
    · rw [ev_grp]
      exact (bump_grp ..).trans hv'

theorem State.RepairWaits.mem_locks_patrolMoves (h : s.RepairWaits d g t p i b) (w) :
    t ∈ ((s.patrolMoves d g t w).grp_ d g).locks := by
  rw [grp_congr (patrolMoves_grp t w)]
  exact h.mem_locks_unlock

/-- The results of patrol's own reads are not a repair's. -/
theorem State.RepairWaits.drvTake (h : s.RepairWaits d g t p i b) (o) : (s.drvTake d o).RepairWaits d g t p i b :=
  ⟨h.waits, h.present, h.flag, h.stripe, h.reshape, h.gate⟩

/-- Active, with a mirror of two drives on channel die 1: patrol has checked stripe 0, for whose lock a repair write to position 1
waits. -/
def patrolBeforeRepair : State :=
  let s := (((State.w { State.reset with rst := { phase := 7 } } mdId (.rst .DIE_STATE_dies) 0).w mdId (.mgt .MODE_current) 5).w 1
    (.drv .STATUS_write_gate) 1).setBg 1 { patrol := some (0, 0, 2) }
  s.setGrp 1 0 { configured := true, stripes := 4, members := [0, 1], states := [0, 0], serving := [some 0, some 1], locks := [0],
                 repairs := [(0, 1, 0, 0)] }

end Sys2Proof.Machine

open Sys2Proof Sys2Proof.Machine

/-- Refutes O54: its clause on the end of patrol's visit takes the stripe's lock away and gives it to nobody. A repair write that
waited for that lock (R323, log entry 109: a host read met an unreadable unit of the stripe meanwhile) takes it at once, so the
stripe below is locked still. -/
theorem not_backgroundWork : ¬ Obligations.BackgroundWork := by
  unfold Obligations.BackgroundWork
  rintro ⟨-, -, hVisitEnds, -⟩
  let s : State := patrolBeforeRepair
  have hRuns : s.cdUp (cdId 0) = true ∧ s.modeNow ≠ 0xB ∧ s.workRuns = true := by decide
  have hVisit : (s.bg (cdId 0)).patrol = some (0, 0, 2) := by decide
  have hQuiet : s.drvQuiet (cdId 0) (patrolOwner 0 0) = true := by decide
  have hPatrols : s.patrols (cdId 0) 0 = true := by decide
  obtain ⟨u, hu, -, hLocks, -⟩ := hVisitEnds 0 0 0 s hRuns ⟨hVisit, hQuiet, hPatrols, by decide⟩
  obtain ⟨hUp, hMode, hWork⟩ := hRuns
  cases (exec_patrolStripe_checked ⟨hUp, hMode⟩ hWork hVisit hQuiet hPatrols).symm.trans hu
  have hRepair : s.RepairWaits 1 0 0 1 0 0 := ⟨rfl, by decide, by decide, by decide, by decide, by decide⟩
  have hLocked := (hRepair.drvTake (patrolOwner 0 0)).mem_locks_patrolMoves true
  exact absurd (List.mem_filter.1 (hLocks ▸ hLocked)).2 (by decide)

end

section
/-! PROOFS. The voltage loop while it is held (spec/23 R628, R629; LOOP_CFG2.hold): an emergency then stretches the clock only. -/

namespace Sys2Proof.Machine

variable {s : State}

/-- A die's clock is stretched from now on, and the stretch is counted. -/
def State.stretchStarts (s : State) (d : Nat) : State :=
  (State.w { s with rst := { s.rst with stretched := alPut s.rst.stretched d s.now } } mdId (.pwr .D_SLACK_stretches)
    (min 65535 (s.r mdId (.pwr .D_SLACK_stretches) d + 1)) d).ev mdId (.pwr .EVENTS_emergency)

/-- A stretch shows itself in its count and its event only. -/
theorem r_stretchStarts {f : Fld} (hc : f ≠ .pwr .D_SLACK_stretches) (he : f ≠ .pwr .EVENTS_emergency) (d e i) :
    (s.stretchStarts d).r e f i = s.r e f i := by
  rw [State.stretchStarts, r_ev, if_neg fun x => he x.2.1.symm, r_w_ne _ _ _ _ _ _ _ hc.symm, r_setRst]

/-- While the loop is held, an emergency of a die stretches its clock and leaves its set point. -/
theorem exec_slackEmergency_of_held {die : Fin 7} {x : BitVec 8} (hr : s.loopRuns die.val = true)
    (hx : x.toNat < s.r mdId (.pwr .LOOP_CFG_emerg_pct)) (hs : alGet s.rst.stretched die.val = none)
    (hh : s.rb mdId (.pwr .LOOP_CFG2_hold) = true) :
    exec (.slackEmergency die x) s = .next (s.stretchStarts die.val) := by
  have hn : ¬((!s.loopRuns die.val) = true ∨ s.r mdId (.pwr .LOOP_CFG_emerg_pct) ≤ x.toNat ∨
      (alGet s.rst.stretched die.val).isSome = true) := by simp [hr, hs, hx]
  have hh' : (s.stretchStarts die.val).rb mdId (.pwr .LOOP_CFG2_hold) = true := by
    rw [State.rb, r_stretchStarts (by decide) (by decide)]
    exact hh
  show execSlackEmergency die x s = _
  rw [execSlackEmergency, if_neg hn]
  exact congrArg Host.Outcome.next (if_pos (Bool.or_eq_true_iff.2 (.inr hh')))

/-- Maintenance, in which the loops are held: the port die runs at 850 mV, below its vmax_mv. -/
def heldPortDie : State :=
  (((State.w { State.reset with rst := { phase := 7, freed := [0] } } mdId (.rst .DIE_STATE_dies) 0).w mdId
    (.mgt .MODE_current) 0xA).w mdId (.pwr .LOOP_CFG2_hold) 1).w mdId (.pwr .D_VOLT_set_mv) 850

end Sys2Proof.Machine

open Sys2Proof Sys2Proof.Machine

/-- Refutes O57: its clause on SLACK_EMERGENCY does not ask that the loop runs free. PWR.LOOP_CFG2.hold holds every set point, so an
emergency then only stretches the clock (log entry 147): the port die below stays at 850 mV, where the clause has 870. -/
theorem not_clocksAndVoltage : ¬ Obligations.ClocksAndVoltage := by
  unfold Obligations.ClocksAndVoltage
  rintro ⟨-, -, -, -, -, -, hEmergency, -⟩
  let s : State := heldPortDie
  have hRuns : s.loopRuns 0 = true := by decide
  have hSlack : (0 : BitVec 8).toNat < s.r mdId (.pwr .LOOP_CFG_emerg_pct) := by decide
  have hFirst : alGet s.rst.stretched 0 = none := rfl
  have hHeld : s.rb mdId (.pwr .LOOP_CFG2_hold) = true := by decide
  obtain ⟨t, ht, -, -, hRises⟩ := hEmergency 0 0 s ⟨hRuns, hSlack, hFirst⟩ (by decide)
  cases (exec_slackEmergency_of_held hRuns hSlack hFirst hHeld).symm.trans ht
  rw [r_stretchStarts (by decide) (by decide)] at hRises
  exact absurd hRises (by decide)

end
